-- ==== Sys2Proof/Word.lean ====
section
/-! DEFINITION. The word types of the model and their plainest arithmetic. -/

namespace Sys2Proof

/-- One byte of the vault, of a bus block or of host memory. -/
abbrev Byte := BitVec 8

/-- One 32-bit register word (R10). -/
abbrev Word := BitVec 32

/-- One 64-bit word of a chain payload, a FIFO or a tile record. -/
abbrev Word64 := BitVec 64

end Sys2Proof
end

