-- ==== Sys2Proof/Syntax.lean ====
section
/-! DEFINITION. The commands of the block: one constructor for each row of spec/opcode_table.json, with the operands
that the row's rule gives the event.  Where a row says that an analog condition or a time has come about, the command's
arrival asserts it (notes/assumptions/1.md). -/

namespace Sys2Proof

/-- A chain number, 0 to 7 (R42). -/
abbrev ChainIx := Fin 8
/-- A physical cell, chain × 288 + position (R9). -/
abbrev CellIx := Fin 2304
/-- A position on a chain (R98). -/
abbrev PosIx := Fin 288
/-- A domain index (R8). -/
abbrev DomIx := Fin 48
/-- A tile index (R15). -/
abbrev TileIx := Fin 1024
/-- A lane pair of the engine (R145). -/
abbrev LaneIx := Fin 8
/-- A housekeeping converter (R193). -/
abbrev HkcIx := Fin 8
/-- A global diode index (R342). -/
abbrev DiodeIx := Fin 1120
/-- A command ring (R466). -/
abbrev RingIx := Fin 4
/-- A producer ring: 0 completion, 1 telemetry, 2 event (R493). -/
abbrev ProdIx := Fin 3
/-- A ring object: 0 to 3 command rings, 4 completion, 5 telemetry, 6 event (R470). -/
abbrev RingObj := Fin 7
/-- A feed converter and its AVSBus link (R502). -/
abbrev ConvIx := Fin 4
/-- A fault source (R403). -/
abbrev SrcIx := Fin 45

/-- The header of a CMD frame: the generation the sender expects, the address and the sequence number (R111). -/
structure CmdHdr where
  gen  : BitVec 8
  addr : BitVec 12
  seq  : BitVec 4
  deriving DecidableEq, Repr, Inhabited

/-- What the modulators of a domain have sampled, oldest first (R199): the points by channel and the inputs 130 to 132 (`other`), in
1/76,800 of the reference, which is 1/64 mV with the bandgap, and the current that each cell mirrors, in mA of the same scale (R198).
The inputs stand after their clamp at 1.05 V (R197). A list shorter than a filter's window stands for an input that was steady before. -/
structure SenseSample where
  points : List (List Int)
  mirror : List (Nat × List Int)
  other  : List Int
  deriving DecidableEq, Repr, Inhabited

/-- The header flags of a command descriptor and the ring entry it came from (R475). -/
structure CmdCtx where
  ring  : RingIx
  index : BitVec 16
  tag   : BitVec 16
  fence : Bool
  link  : Bool
  intr  : Bool
  quiet : Bool
  deriving DecidableEq, Repr, Inhabited

/-- What a command's access of host memory meets: the words read, and whether every access completed (R477 HOST_MEM). -/
structure HostData where
  words : List Word
  ok    : Bool
  deriving DecidableEq, Repr, Inhabited

/-- The mailbox channel of a warden command: the register window's or PMBus's (R451). -/
inductive MboxChan where
  | window
  | pmbus
  deriving DecidableEq, Repr, Inhabited

/-- The three split pairs of R526. -/
inductive SplitPair where
  | epoch
  | saved
  | watch
  deriving DecidableEq, Repr, Inhabited

/-- An Ebsis request without its KIND (R445). -/
structure EbsisReq where
  seq    : BitVec 8
  target : BitVec 16
  value  : Word
  value2 : Word
  word3  : Word
  deriving DecidableEq, Repr, Inhabited

/-- The PEC byte of a PMBus transaction: none sent, correct, or wrong (R496). -/
inductive Pec where
  | absent
  | good
  | bad
  deriving DecidableEq, Repr, Inhabited

/-- One command of the block: one row of spec/opcode_table.json, in the table's order. -/
inductive Instr where
  -- power, start-up (R20 to R32, R370 to R384)
  | aonPowerUp (slot : BitVec 6)
  | aonPowerFall
  | pwrOkRise
  | pwrOkFall
  | staggerEnd
  | aonUpEnd
  | wardenBootEnd (romOk constOk sigOk : Bool) (avsOk : BitVec 4) (avsMv : List Nat)
  | reconcileEnd
  | cellRstEnd
  | bootFall
  | sd14Good
  | sd14Timeout
  | pllLock
  | pllLockTimeout
  | pllLoss
  | tokenCycle (c : ChainIx) (q : PosIx)
  | tokenTimeout (c : ChainIx)
  | rosterRepair (c : ChainIx)
  | referenceCheckEnd
  | refTimeout (row : HkcIx)
  | stageBegin
  | stageEnd
  | ready
  | startAbandon
  -- the register window (R10 to R13, R526, R532, R545)
  | registerWrite (off : BitVec 16) (v : Word)
  | rcFieldRead (off : BitVec 16) (size : Nat)
  | writeNotWhole (off : BitVec 16) (size : Nat)
  | unassignedAccess (off : BitVec 16) (write : Bool)
  | ftLockedAccess (off : BitVec 16) (write : Bool)
  | splitLoRead (p : SplitPair)
  -- a cell's own events (R45 to R92)
  | l0Cycle (i : CellIx) (out : Int) (lim : BitVec 4)
  | profileStep (i : CellIx)
  | coarseAdcUpdate (i : CellIx) (vout vin : BitVec 8)
  | droopCrossing (i : CellIx)
  | reserveEnd (i : CellIx)
  | reserveRearm (i : CellIx)
  | overshootTrip (i : CellIx)
  | bleedBudgetSpent (i : CellIx)
  | lightLoadWindow (i : CellIx) (amp : Int)
  | burstStart (i : CellIx)
  | burstStop (i : CellIx) (short : Bool)
  | ocLimitSet (i : CellIx) (phases : BitVec 4)
  | ocLimitClear (i : CellIx)
  | ovlSet (i : CellIx)
  | cellsyncLoss (i : CellIx)
  | cellsyncRegain (i : CellIx)
  | measureEnd (i : CellIx)
  | riseToRun (i : CellIx)
  | fallToRun (i : CellIx)
  | fallTimeout (i : CellIx)
  | contactLost (i : CellIx)
  | holdLimitReached (i : CellIx)
  | zeroReached (i : CellIx)
  | selftestComplete (i : CellIx) (bitmap : BitVec 8)
  | rampToZeroDone (i : CellIx)
  -- frames as the cells of a chain take them (R103 to R122)
  | mcastMark (c : ChainIx) (payload : BitVec 64)
  | mcast (c : ChainIx) (payload : BitVec 64)
  | cfgFrame (c : ChainIx) (payload : BitVec 64)
  | armFrame (c : ChainIx) (payload : BitVec 64)
  | trimFrame (c : ChainIx) (payload : BitVec 64)
  | tlmPoll (c : ChainIx) (addr : BitVec 12)
  | enumToken (c : ChainIx) (payload : BitVec 64)
  | enumAck (c : ChainIx) (payload : BitVec 64)
  | enumQuery (c : ChainIx) (payload : BitVec 64)
  | enumClear (c : ChainIx) (payload : BitVec 64)
  | enumMove (c : ChainIx) (payload : BitVec 64)
  | loopFrame (c : ChainIx) (payload : BitVec 64)
  | pathFrame (c : ChainIx) (payload : BitVec 64)
  | reservedFrame (c : ChainIx) (frame : BitVec 80)
  | start (c : ChainIx) (h : CmdHdr) (target : BitVec 16)
  | stop (c : ChainIx) (h : CmdHdr)
  | zero (c : ChainIx) (h : CmdHdr)
  | loanSw (c : ChainIx) (h : CmdHdr) (sel : BitVec 2) (newGen : BitVec 8)
  | adopt (c : ChainIx) (h : CmdHdr)
  | selftest (c : ChainIx) (h : CmdHdr)
  | readState (c : ChainIx) (h : CmdHdr) (page : BitVec 2)
  | setCoef (c : ChainIx) (h : CmdHdr) (idx : BitVec 2) (v : BitVec 16)
  | urgSend (i : CellIx)
  -- the chain masters (R105 to R138)
  | l2Period (c : ChainIx)
  | rspReceived (c : ChainIx) (payload : BitVec 64)
  | cmdResend (c : ChainIx) (bad : Bool)
  | tlmReceived (c : ChainIx) (pos : PosIx) (payload : BitVec 64)
  | urgReceived (c : ChainIx) (payload : BitVec 64)
  | chainBreak (c : ChainIx) (j1 j2 : Fin 289) (bad : Fin 5)
  | crcBurst (c : ChainIx) (n : BitVec 16)
  | loopbackAuditEnd (c : ChainIx) (pass : Bool)
  | loopReq (mask : BitVec 8)
  | queueAgeDrop (c : ChainIx)
  | cfgRefresh (c : ChainIx) (d : DomIx)
  | loanStart (c : ChainIx)
  | loanComplete (c : ChainIx)
  | recallStart (c : ChainIx)
  -- the regulation engine (R143 to R192)
  | laneSlot (d : DomIx) (smp : SenseSample)
  | engSat (d : DomIx)
  | fbLost (d : DomIx)
  | sharingStep (k : LaneIx)
  | sharingPayloadDrop (k : LaneIx)
  | laneSwap
  | laneMismatch (k : LaneIx) (slot : Fin 7)
  | laneAuditEnd (k : LaneIx) (pass : Bool)
  | lawStage (d : BitVec 6)
  | lawCopyActive (d : BitVec 6)
  | lawCopyStaged (d : BitVec 6)
  | lawOpRefused (d : BitVec 6)
  | lawOpDone
  -- the sense converters (R193 to R243, R344, R348)
  | snsTrigRegular (all : Bool) (conv : BitVec 6)
  | snsTrigInjected (all : Bool) (conv : BitVec 6)
  | senseTimerTick
  | csPhaseEvent
  | entryDone (d : DomIx) (smp : SenseSample)
  | seqGo (v : Word)
  | tallyCapture (v : Word)
  | tallyClear (v : Word)
  | refSelect (sel : BitVec 2)
  | hkcRoundStart
  | hkcConversion (k : HkcIx) (ch : Fin 152) (raw : Option Int)
  | hkcCheckSlot (own : BitVec 8)
  | diodeEval (n : DiodeIx)
  | thermSensor (n : DiodeIx)
  | guardReading (d : DomIx) (smp : SenseSample)
  | openWireTestEnd (d : DomIx) (ch : Fin 128) (up down : List Int)
  | spRestore (point : BitVec 13)
  | dscAuditStepEnd (d : DomIx) (zero mid : Int × Int) (inj : Int)
  -- the ledger (R244 to R295)
  | epochCommit
  | counterRecord (t : TileIx) (counters : BitVec 512)
  | lateRecordCutoff
  | hintWord (t : TileIx) (w : BitVec 64) (last : Bool)
  | hintPortRoom (t : TileIx)
  | hintExpired (t : TileIx)
  | hintEnd (t : TileIx)
  | vinBoostEnd
  | tileSilent (t : TileIx)
  | estResid (d : DomIx)
  | calBlockUpdate
  | freeze
  | unfreeze
  | freezeTimeout
  | tileCapture (v : Word)
  | kInUpdate
  -- the pace ring (R312 to R328)
  | survey (serial : BitVec 48)
  | count (next : BitVec 7)
  | size (n : BitVec 7)
  | live (origin : BitVec 6)
  | quota (origin : BitVec 6) (relay : Bool) (group : BitVec 8) (q : BitVec 6) (seq : BitVec 8)
  | release (origin : BitVec 6) (relay : Bool) (group : BitVec 8) (seq : BitVec 8)
  | leave (origin : BitVec 6) (group : BitVec 8)
  | paceCrcDrop (payload : BitVec 56) (crc : BitVec 16)
  | paceDiscovery
  | paceDiscoveryRetry
  | paceLiveSend
  | paceLockLoss
  | paceLockGain
  | paceSilence
  | paceSolo
  | paceEntryExpire (carried : Bool) (origin : BitVec 6) (relay : Bool)
  | paceRefresh
  -- heat, coolant, the stop sequence (R349 to R362)
  | compTrip (n : Fin 64)
  | compClear (n : Fin 64)
  | flowOkFall
  | flowOkRise
  | flowOkGlitch
  | stopSequence
  | stopStage
  | recordOpenWritten
  | sd14OffSeen
  | quietPeriodEnd
  -- fast-side reset and adoption (R387 to R397)
  | fastSideReset
  | fsrRelease
  | restoreDone
  | rosterRebuild (c : ChainIx)
  | adoptReadDone
  | adoptRestart
  | fsrRequest
  | commitStall
  | sd14RailFault
  -- faults (R399 to R424)
  | faultRaise (src : SrcIx) (obj : BitVec 16)
  | errnPulseEnd
  | incidentClose
  | incidentOverrun
  | faultQuietEnd
  | selftestTimeout (i : CellIx)
  | auditDeferLimit (i : CellIx)
  | fltCntClear
  | faultInject (src : SrcIx) (obj : BitVec 16)
  -- warden, mailbox, policy firmware, vault (R427 to R464)
  | wardenWatchdog (romOk constOk sigOk copiesOk : Bool)
  | getInfo (ch : MboxChan) (tag : BitVec 8)
  | patchBegin (ch : MboxChan) (tag : BitVec 8) (len : Word)
  | patchData (ch : MboxChan) (tag : BitVec 8) (off : Word) (data : List Word)
  | patchCommit (ch : MboxChan) (tag : BitVec 8) (sigOk : Bool)
  | vtRead (ch : MboxChan) (tag : BitVec 8) (which first : Word)
  | vtStage (ch : MboxChan) (tag : BitVec 8) (entry w : Word)
  | vtApply (ch : MboxChan) (tag : BitVec 8)
  | vtCommit (ch : MboxChan) (tag : BitVec 8)
  | polLoad (ch : MboxChan) (tag : BitVec 8) (addr : Word64) (len : Word) (digest : List Word)
  | polStart (ch : MboxChan) (tag : BitVec 8)
  | polStop (ch : MboxChan) (tag : BitVec 8)
  | polClear (ch : MboxChan) (tag : BitVec 8)
  | mboxUnknownOp (ch : MboxChan) (tag : BitVec 8) (op : BitVec 8)
  | setVset (r : EbsisReq)
  | setTreas (r : EbsisReq)
  | setClass (r : EbsisReq)
  | setCap (r : EbsisReq)
  | loan (r : EbsisReq)
  | recalling (r : EbsisReq)
  | setLimit (r : EbsisReq)
  | age (r : EbsisReq)
  | heartbeat (r : EbsisReq)
  | policyWatchdog
  | policyTrap
  | vaultWordWrite (ok : Bool)
  -- rings and host commands (R465 to R495)
  | crDoorbell (r : RingIx) (tail : BitVec 16)
  | prDoorbell (p : ProdIx) (head : BitVec 16)
  | descriptorFetched (r : RingIx) (words : List Word)
  | commandAccept (data : List HostData)
  | nop (x : CmdCtx)
  | setDomainVoltage (x : CmdCtx) (dom : BitVec 6) (code : BitVec 12)
  | domainOn (x : CmdCtx) (dom : BitVec 6)
  | domainOff (x : CmdCtx) (dom : BitVec 6)
  | stageLaw (x : CmdCtx) (dom : BitVec 6) (addr : Word64) (data : HostData)
  | readLaw (x : CmdCtx) (dom : BitVec 6) (staged : Bool) (addr : Word64) (ok : Bool)
  | setBudget (x : CmdCtx) (valid : Bool) (treasury : Word) (caps : List Word)
  | setClassWeights (x : CmdCtx) (first count : BitVec 4) (images : List Word)
  | setLimits (x : CmdCtx) (valid : BitVec 7) (images : List Word)
  | loanCell (x : CmdCtx) (addr : BitVec 12) (dom : BitVec 6)
  | recallCell (x : CmdCtx) (addr : BitVec 12)
  | readCell (x : CmdCtx) (addr : BitVec 12) (page : BitVec 2)
  | snapshot (x : CmdCtx) (addr : Word64)
  | readTally (x : CmdCtx) (conv : BitVec 6) (mask : BitVec 16) (clear : Bool) (addr : Word64) (ok : Bool)
  | setSequence (x : CmdCtx) (dsc : BitVec 6) (len : BitVec 7) (injLen : BitVec 4) (addr : Word64) (data : HostData)
  | setSense (x : CmdCtx) (dom : BitVec 6) (valid : BitVec 8) (images : List Word)
  | senseTrigger (x : CmdCtx) (v : Word)
  | setCellCfg (x : CmdCtx) (dom : BitVec 6) (image : Word)
  | faultAck (x : CmdCtx) (clr0 clr1 : Word) (hold : BitVec 2)
  | fixedFreq (x : CmdCtx) (enter : Bool)
  | paceGroup (x : CmdCtx) (group : BitVec 8) (apply send : Bool)
  | paceRelay (x : CmdCtx) (q : BitVec 6) (rel : Bool)
  | vaultRead (x : CmdCtx) (off len : Word) (addr : Word64) (ok : Bool)
  | dropPacket (x : CmdCtx) (tile : BitVec 10) (all : Bool)
  | setReaction (x : CmdCtx) (src : BitVec 6) (react : BitVec 5)
  | unknownOpcode (x : CmdCtx) (opcode : BitVec 8)
  | hostEntryWrite (p : ProdIx)
  | telemetryRecord
  | intHoldEnd
  | ringEnable (r : RingObj) (v : Word)
  | ringDisable (r : RingObj) (v : Word)
  | ringArm
  | hostMemError (r : RingObj) (write : Bool)
  -- SMBus and PMBus (R496 to R501)
  | prepareToArp
  | resetDevice
  | getUdid
  | assignAddress (udid : BitVec 128) (a : BitVec 7)
  | smbusTimeout
  | alertResponse
  | page (pec : Pec) (w : Option Byte)
  | clearFaults (pec : Pec)
  | capability
  | voutMode
  | statusByte
  | statusWord
  | statusTemperature
  | statusCml
  | statusMfrSpecific
  | readVin
  | readIin
  | readVout
  | readIout
  | readTemperature1
  | readPout
  | readPin
  | pmbusRevision
  | mfrId
  | mfrModel
  | mfrRevision
  | mfrSerial
  | mfrRestart (pec : Pec) (data : Byte)
  | mfrErrn (pec : Pec) (w : Option Byte)
  | mfrFault
  | mfrStart
  | mfrVaultAddr (pec : Pec) (off : Word)
  | mfrVaultData
  | mfrMboxCmd (pec : Pec) (op tag : BitVec 8) (args : List Word) (data : Option (List Word))
  | mfrMboxStat
  | mfrRegAddr (pec : Pec) (off : BitVec 16)
  | mfrRegData
  | pmbusInvalidCommand (code : Byte)
  -- AVSBus (R502 to R509)
  | avsTrimWrite
  | avsVoltageRead (k : ConvIx) (mv : BitVec 16) (alert : Bool)
  | avsCurrentRead (k : ConvIx) (code : BitVec 16) (alert : Bool)
  | avsTempRead (k : ConvIx) (code : BitVec 16) (alert : Bool)
  | avsStatusRead (k : ConvIx) (w : BitVec 16) (alert : Bool)
  | avsTransactionFail (k : ConvIx)
  | avsRetry (k : ConvIx)
  -- the warden clock (R514)
  | wardenWake
  | wardenSleep
  | wardenAlarm
  -- the test access port (R547 to R551)
  | tapReset
  | extest
  | idcode
  | samplePreload
  | clamp
  | highz
  | ftAccess
  | bypass
  | tapLeave
  -- rows added at the end of the table
  | ovlClear (i : CellIx)
  | paceReservedFrame (payload : BitVec 56)
  | unknownKind (kind : BitVec 8) (r : EbsisReq)
  | reservedOp (c : ChainIx) (h : CmdHdr) (op : BitVec 4)
  deriving DecidableEq, Repr

end Sys2Proof
end

