-- ==== Sys2Proof/Decode.lean ====
section
/-! DEFINITION. The decoder of the block.  No row of spec/opcode_table.json gives bits: the commands come to the block from
its pins, its register window and its buses, not as words, so no word spells a command. -/

namespace Sys2Proof

/-- The command that the table's bits spell: none, since no row of the table gives bits. -/
def decodeTableWord (_nbits _w : Nat) : Option Instr := none

end Sys2Proof
end

