-- ==== Sys2Proof/Machine/Tab.lean ====
section
/-! DEFINITION. A table of like things by number: a list of numbered entries, where an unlisted number reads as the
default its owner names.  Reading and writing are total. -/

namespace Sys2Proof

/-- Numbered entries, kept in rising order by every write. -/
abbrev Tab (α : Type) := List (Nat × α)

/-- The entry at number `i`, or `d` where none is listed. -/
def Tab.get {α : Type} (d : α) : Tab α → Nat → α
  | [], _ => d
  | (k, v) :: t, i => if k = i then v else Tab.get d t i

/-- Write `v` at number `i`. -/
def Tab.set {α : Type} : Tab α → Nat → α → Tab α
  | [], i, v => [(i, v)]
  | (k, w) :: t, i, v =>
    if i < k then (i, v) :: (k, w) :: t
    else if k = i then (i, v) :: t
    else (k, w) :: Tab.set t i v

/-- Change the entry at number `i` by `f`. -/
def Tab.modify {α : Type} (d : α) (t : Tab α) (i : Nat) (f : α → α) : Tab α :=
  t.set i (f (t.get d i))

/-- Change the entries at each of `ks` by `f`. -/
def Tab.modifyAll {α : Type} (d : α) (t : Tab α) (ks : List Nat) (f : Nat → α → α) : Tab α :=
  ks.foldl (fun t k => t.modify d k (f k)) t

/-- A table that lists `f k` at each of `ks`. -/
def Tab.ofFn {α : Type} (ks : List Nat) (f : Nat → α) : Tab α :=
  ks.map fun k => (k, f k)

end Sys2Proof
end

