-- ==== Sys2Proof/Machine/Operands.lean ====
section
/-! DEFINITION. The operand forms of the manual: bit fields, two's complement, the codes of R3 with the rounding and
saturation of R4, little-endian words, and the CRCs of R102 and R358. -/

namespace Sys2Proof.Machine

/-! ### Bit fields -/

/-- Bits hi:lo of a number, as "Bit fields are written msb:lsb" has it. -/
def bits (v hi lo : Nat) : Nat := v / 2 ^ lo % 2 ^ (hi + 1 - lo)

/-- Bit i of a number. -/
def bitAt (v i : Nat) : Bool := v / 2 ^ i % 2 == 1

/-- Bits hi:lo of a register word. -/
def fld (w : Word) (hi lo : Nat) : Nat := bits w.toNat hi lo

/-- Bit i of a register word. -/
def wbit (w : Word) (i : Nat) : Bool := bitAt w.toNat i

/-- 1 for true. -/
def b2n (b : Bool) : Nat := if b then 1 else 0

/-- The number built of fields (hi, lo, value), each value taken modulo its width; the fields do not overlap. -/
def packN (fs : List (Nat × Nat × Nat)) : Nat :=
  fs.foldl (fun acc f => acc + f.2.2 % 2 ^ (f.1 + 1 - f.2.1) * 2 ^ f.2.1) 0

/-- The register word built of fields. -/
def pack (fs : List (Nat × Nat × Nat)) : Word := BitVec.ofNat 32 (packN fs)

/-- A word with bits hi:lo replaced by a value. -/
def putFld (w : Word) (hi lo v : Nat) : Word :=
  BitVec.ofNat 32 (w.toNat - fld w hi lo * 2 ^ lo + v % 2 ^ (hi + 1 - lo) * 2 ^ lo)

/-- The set bits of a number among 0 to n − 1, in rising order. -/
def setBits (n v : Nat) : List Nat := (List.range n).filter (bitAt v ·)

/-- The number whose set bits are those listed. -/
def ofBits (l : List Nat) : Nat := l.foldl (fun acc i => if bitAt acc i then acc else acc + 2 ^ i) 0

/-- A number with bit i set. -/
def orBit (v i : Nat) : Nat := if bitAt v i then v else v + 2 ^ i

/-- A number with bit i cleared. -/
def clrBit (v i : Nat) : Nat := if bitAt v i then v - 2 ^ i else v

/-! ### Two's complement and ranges (R3, R4) -/

/-- The signed value of an n-bit code. -/
def sext (n v : Nat) : Int := if v % 2 ^ n < 2 ^ (n - 1) then (v % 2 ^ n : Nat) else (v % 2 ^ n : Nat) - (2 ^ n : Nat)

/-- The n-bit two's complement code of a value. -/
def toCode (n : Nat) (x : Int) : Nat := (x % (2 ^ n : Nat)).toNat

/-- A value held within lo to hi. -/
def clampI (lo hi x : Int) : Int := max lo (min hi x)

/-- A value as an n-bit unsigned code, an extreme code when out of range (R4). -/
def satU (n : Nat) (x : Int) : Nat := (clampI 0 ((2 ^ n : Nat) - 1) x).toNat

/-- A value held to the range of an n-bit signed code (R4). -/
def satS (n : Nat) (x : Int) : Int := clampI (-(2 ^ (n - 1) : Nat)) ((2 ^ (n - 1) : Nat) - 1) x

/-- One more, holding at a maximum: the saturating counters of R524. -/
def incSat (m n : Nat) : Nat := if n < m then n + 1 else m

/-! ### Rounding (R4) -/

/-- n / d to the nearest integer, ties to even; d > 0. -/
def divEven (n : Int) (d : Nat) : Int :=
  let q := n / (d : Int)
  let r := n % (d : Int)
  if 2 * r < d then q else if 2 * r > d then q + 1 else if q % 2 = 0 then q else q + 1

/-- A rational to the nearest integer, ties to even. -/
def roundEven (x : Rat) : Int := divEven x.num x.den

/-- The least integer not below n / d; d > 0. -/
def ceilDiv (n d : Nat) : Nat := (n + d - 1) / d

/-- Put x in front of the first entry that it may precede. -/
def insertBy {α : Type} (le : α → α → Bool) (x : α) : List α → List α
  | [] => [x]
  | y :: l => if le x y then x :: y :: l else y :: insertBy le x l

/-- A list in order; equals stay in the order they had. -/
def sortBy {α : Type} (le : α → α → Bool) : List α → List α
  | [] => []
  | x :: l => insertBy le x (sortBy le l)

/-- The median of a list of integers as the lower of the two middle values; 0 of none. -/
def medianLow (l : List Int) : Int :=
  let s := sortBy (fun a b => decide (a ≤ b)) l
  s.getD ((s.length - 1) / 2) 0

/-! ### The filters of the sense converters (R199, R200) -/

/-- m of a NOTCH code, in modulator clocks. -/
def notchClocks (n : Nat) : Nat := [0, 1, 2, 4].getD n 0

/-- The settling time of a filter in modulator clocks: order × D + m (R200). -/
def settleClocks (order dec notch : Nat) : Nat := (order + 1) * 2 ^ (dec + 3) + notchClocks notch

/-- The sum of a list of integers. -/
def sumInt (l : List Int) : Int := l.foldl (· + ·) 0

/-- Twice the comb (1 + z^−m) / 2 of samples, oldest first; with the notch off, the samples. -/
def combed (m : Nat) (xs : List Int) : List Int := if m = 0 then xs else (xs.zip (xs.drop m)).map fun p => p.1 + p.2

/-- The sums of each n samples in a row: one section of a sinc filter, times n. -/
def movingSums (n : Nat) (xs : List Int) : List Int := (List.range (xs.length + 1 - n)).map fun i => sumInt ((xs.drop i).take n)

/-- The latest output of a filter, by its ORDER, DEC and NOTCH codes: the comb, then a sinc filter of order + 1 sections of
D = 2^(dec + 3) (R199). -/
def filterOut (order dec notch : Nat) (xs : List Int) : Rat :=
  let d := 2 ^ (dec + 3)
  let m := notchClocks notch
  let full := List.replicate (settleClocks order dec notch - xs.length) (xs.headD 0) ++ xs
  let y := (List.range (order + 1)).foldl (fun l _ => movingSums d l) (combed m full)
  (y.getLastD 0 : Rat) / ((d ^ (order + 1) * (if m = 0 then 1 else 2) : Nat) : Rat)

/-! ### Bytes and words -/

/-- The four bytes of a word, least significant first. -/
def wordBytes (w : Word) : List Byte :=
  (List.range 4).map fun i => BitVec.ofNat 8 (w.toNat / 256 ^ i)

/-- The bytes of a list of words, little-endian (R409, R359). -/
def wordsBytes (l : List Word) : List Byte := l.flatMap wordBytes

/-- The number a list of bytes spells, least significant first. -/
def bytesNat : List Byte → Nat
  | [] => 0
  | b :: t => b.toNat + 256 * bytesNat t

/-- The n least significant bytes of a number, least significant first. -/
def natBytes (n v : Nat) : List Byte := (List.range n).map fun i => BitVec.ofNat 8 (v / 256 ^ i)

/-- The first n words a list of bytes spells. -/
def bytesWords : Nat → List Byte → List Word
  | 0, _ => []
  | n + 1, l => BitVec.ofNat 32 (bytesNat (l.take 4)) :: bytesWords n (l.drop 4)

/-- The words of a 64-bit number, low word first. -/
def lohi (v : Nat) : List Word := [BitVec.ofNat 32 v, BitVec.ofNat 32 (v / 2 ^ 32)]

/-! ### CRCs -/

/-- One bit of the reflected CRC-32 of R358. -/
def crc32Bit (c : Nat) : Nat := if c % 2 = 1 then c / 2 ^^^ 0xEDB88320 else c / 2

/-- One byte of the reflected CRC-32. -/
def crc32Byte (c : Nat) (b : Byte) : Nat :=
  (List.range 8).foldl (fun c _ => crc32Bit c) (c ^^^ b.toNat)

/-- The CRC-32 of R358 over bytes in ascending order. -/
def crc32 (l : List Byte) : Word := BitVec.ofNat 32 (l.foldl crc32Byte 0xFFFFFFFF ^^^ 0xFFFFFFFF)

/-- One byte of the CRC-16 of R312, most significant bit first: polynomial 0x1021. -/
def crc16Byte (c : Nat) (b : Byte) : Nat :=
  (List.range 8).foldl (fun c _ => if bitAt c 15 then (c * 2 % 2 ^ 16) ^^^ 0x1021 else c * 2 % 2 ^ 16) (c ^^^ b.toNat * 256)

/-- The CRC-16 of R312: initial value 0xFFFF, no final inversion. -/
def crc16 (l : List Byte) : Nat := l.foldl crc16Byte 0xFFFF

/-- The CRC-12 of R102 over the n low bits of a number, most significant first, from a register value. -/
def crc12Bits : Nat → Nat → Nat → Nat
  | 0, _, c => c
  | n + 1, v, c =>
    let x := (if bitAt v n then 1 else 0) + c / 2 ^ 11
    crc12Bits n v (if x % 2 = 1 then (c * 2 % 2 ^ 12) ^^^ 0x80F else c * 2 % 2 ^ 12)

/-- The CRC of a frame: over TYPE and PAYLOAD, frame bits 79:12 (R102). -/
def crc12 (type payload : Nat) : Nat := crc12Bits 68 (type * 2 ^ 64 + payload % 2 ^ 64) 0xFFF

/-- The 80 bits of a frame with its CRC (R102). -/
def frameBits (type payload : Nat) : Nat := packN [(79, 76, type), (75, 12, payload), (11, 0, crc12 type payload)]

/-! ### LINEAR11 (R498) -/

/-- The mantissa of a value at exponent N, rounded with ties to even. -/
def linMant (x : Rat) (n : Int) : Int := roundEven (if n < 0 then x * (2 : Rat) ^ n.natAbs else x / (2 : Rat) ^ n.natAbs)

/-- A value in LINEAR11 with the smallest exponent in −10 to +2 for which |Y| ≤ 1,023 (R498). Beyond the largest exponent the
mantissa is the extreme code (R4). -/
def linear11 (x : Rat) : BitVec 16 :=
  let fits := (List.range 13).filter fun (k : Nat) => decide ((linMant x (Int.ofNat k - 10)).natAbs ≤ 1023)
  let n : Int := match fits with
    | k :: _ => Int.ofNat k - 10
    | [] => 2
  BitVec.ofNat 16 (toCode 5 n * 2 ^ 11 + toCode 11 (clampI (-1023) 1023 (linMant x n)))

end Sys2Proof.Machine
end

