-- ==== Sys2Proof/Config.lean ====
section
/-! DEFINITION. What one part fixes and this manual leaves to it: the per-chip table and fuses (OTP), as plain data with an
opaque value at reset, and the free values of the model.  Nothing can be proved of an opaque constant. -/

namespace Sys2Proof

/-- The contents of OTP: the per-chip table of "The per-chip table" (R429 to R431) and the fused identities (R536, R537,
R497, R549).  Lists are indexed by the table's own index; an index past the end reads the default given at its use. -/
structure PerChip where
  /-- UL_LOT and UL_DIE (R537) -/
  lot       : BitVec 24
  die       : BitVec 24
  /-- silicon revision (R536) -/
  sirev     : BitVec 4
  /-- the lock fuse of the factory test range (R545) -/
  ftLocked  : Bool
  /-- SMBus vendor code (R497) and JEDEC manufacturer identity (R549) -/
  vendorId  : BitVec 16
  jedec     : BitVec 11
  /-- smallest patch SVN (R440) -/
  minSvn    : Nat
  /-- k0, k1, k2 of each cell (R51) -/
  coef      : List (Int × Int × Int)
  /-- law record of each domain, 16 words (R158) -/
  law       : List (List (BitVec 32))
  /-- greatest V_MAX, A_MAX, J_MAX and SS_RATE codes of each domain (R157) -/
  profMax   : List (Nat × Nat × Nat × Nat)
  /-- UL_DSC_FB_n (R235) and the four UL_SP_EN words of each domain (R240) -/
  dscFb     : List (BitVec 32)
  spEn      : List (List (BitVec 32))
  /-- the 32 weights of R255, in 1/16 pJ -/
  weight    : List Int
  /-- leakage of each tile and the fT and fV tables (R256) -/
  l0        : List Nat
  fT        : List Nat
  fV        : List Nat
  /-- P_TILE_MAX (R291) and P_BURN (R302), tile power codes -/
  pTileMax  : Nat
  pBurn     : Nat
  /-- test-time gain and offset of cell i in band b at index 4 i + b (R260) -/
  gain      : List Nat
  offs      : List Int
  /-- the 16 entries of η (R294) -/
  eta       : List Nat
  /-- copy A of the voltage table, 304 words (R431) -/
  vtA       : List (BitVec 32)
  deriving DecidableEq, Repr, Inhabited

/-- The OTP contents of the part at hand. Free: the manual gives none of them (notes/assumptions/3.md). -/
opaque Config.perChip : PerChip

/-- The n-th free value the model draws: no value of it can be proved (notes/assumptions/4.md). -/
opaque Config.freeValue : Nat → BitVec 64

/-- k0, k1, k2 that every cell holds in its boot role, hard-wired (R373); the manual gives no values (notes/assumptions/3.md). -/
opaque Config.bootCoef : Int × Int × Int

/-- The nominal duty of R51 when the coarse ADC reads an input of 0 V: a quotient the manual does not give, a function of p. -/
opaque Config.dutyWithoutInput : Int → Int

/-- The share trim, in 0.125 mV, that overrides a cell's own while it steers its current to zero, a function of the 1 µs current measure:
R87 gives its purpose and no law (notes/assumptions/41.md). -/
opaque Config.zeroTrim : Int → Int

/-- Bits of the k-th fixed pattern of a LOOP frame outside its turn address: R103 names the pattern and does not give it
(notes/assumptions/42.md). -/
opaque Config.loopPattern : Nat → BitVec 64

end Sys2Proof
end

