-- ==== Sys2Proof/Machine/State.lean ====
section
/-! DEFINITION. The state of the block as plain data: every register, FIFO, counter, mode and pin that the spec names,
grouped by the chapter that owns it, and the queue of waiting commands.  A number kept as a table (`Tab`) is listed by its
index of R8, R9 or R404; an unlisted index reads as the reset value of its kind. -/

namespace Sys2Proof.Machine

/-! ### Regulator cells (spec/02, spec/03) -/

/-- The cell states of R73, in MODE order. -/
inductive CellMode where
  | off | rise | fall | run | hold | zero | test | measure
  deriving DecidableEq, Repr, Inhabited

/-- The loan selector (R112). -/
inductive Sel where
  | isolate | home | neighbour
  deriving DecidableEq, Repr, Inhabited

/-- The light-load modes of R65, in the code of the PHASES field (R90). -/
inductive Phases where
  | burst | one | two | four
  deriving DecidableEq, Repr, Inhabited

/-- The arm states of R63, in the code of READ_STATE page 2 (R114). -/
inductive Arm where
  | disarmed | base | hint
  deriving DecidableEq, Repr, Inhabited

/-- The set-up a CFG frame carries for one domain (R108), in the fields of UL_CELLDOM_n (R94). -/
structure CellCfg where
  vMax      : Nat := 0
  aMax      : Nat := 0
  jMax      : Nat := 0
  rsvDroop  : Nat := 0x12
  rsvHint   : Nat := 0x0C
  bleedOver : Nat := 0x16
  burstEn   : Bool := true
  shedEn    : Bool := true
  bleedEn   : Bool := true
  rsvEn     : Bool := true
  deriving DecidableEq, Repr, Inhabited

/-- Measurements of the telemetry window in progress (R90, R91). -/
structure Window where
  voutSum  : Int := 0     -- sum of p + c × 0.5 mV in 1/64 mV
  voutN    : Nat := 0
  coarseSum : Nat := 0    -- sum of the coarse ADC, 5 mV steps
  coarseN  : Nat := 0
  ioutSum  : Int := 0     -- sum of the 1 µs current measures, mA
  ioutN    : Nat := 0
  rsvCount : Nat := 0
  droopMax : Nat := 0
  bleed    : Bool := false
  syncLost : Bool := false
  limConv  : Bool := false
  winClip  : Bool := false
  deriving DecidableEq, Repr, Inhabited

/-- One regulator cell. The reset values are those after its power-on reset (R74): OFF, no address, generation 0. -/
structure Cell where
  addr     : Option Nat := none          -- logical address, R119
  gen      : Nat := 0                    -- 8-bit role number, R123
  mode     : CellMode := .off
  ramp     : Bool := false               -- ramping to 0 under R74
  rampExp  : Bool := false               -- the ramp began at the HOLD limit (R85)
  zeroDone : Bool := false               -- in ZERO: every switch is open (R87)
  holdFrom : CellMode := .run            -- RISE, FALL or RUN, the state HOLD was entered from (R84)
  boot     : Bool := false               -- holds its boot role (R373)
  bootUsed : Bool := false               -- the boot role was taken since power-on reset (R74)
  p        : Int := 0                    -- 1/12,288,000 mV (R57)
  v        : Int := 0                    -- 1/204,800 mV/µs
  a        : Int := 0                    -- 1/5,120 mV/µs²
  tgt      : Nat := 0                    -- domain target applied, 1/64 mV (R54)
  tgtNext  : Option Nat := none          -- domain target received, applied at the next mark
  trim     : Int := 0                    -- share trim, 0.125 mV
  trimNext : Option Int := none          -- share trim received, applied at the next profile step
  cfg      : CellCfg := {}
  cfgNext  : Option CellCfg := none      -- CFG received, applied at the next profile step (R58, R93)
  holdLim  : Nat := 50                   -- ms (R85)
  ocPersist : Nat := 2                   -- µs (R72)
  glbNext  : Option (Nat × Nat) := none  -- HOLD_LIMIT and OC_PERSIST received
  k0       : Int := 0                    -- compensator coefficients, 12 fraction bits (R51)
  k1       : Int := 0
  k2       : Int := 0
  kNext    : List (Nat × Int) := []      -- SET_COEF stored in HOLD until ADOPT (R84, R374)
  u        : Int := 0                    -- 1/4096 duty codes
  e1       : Int := 0
  e2       : Int := 0
  duty     : Nat := 0                    -- the duty in force
  dutyNext : Nat := 0                    -- the duty that drives the next cycle (R51, 2 cycles after the sample)
  dither   : Nat := 0                    -- place in the 4 cycles of R48
  pulse    : Nat := 0                    -- pulse width of the present switching cycle, steps (R48)
  phases   : Phases := .four
  burstOn  : Bool := false               -- a burst conducts (R66)
  sampleCode : Int := 0                  -- latest window code
  lowUs    : Nat := 0                    -- full 1 µs windows below the shedding level
  freshWindow : Bool := false            -- the measure of R65 restarts (R70)
  vCoarse  : Nat := 0                    -- 5 mV steps (R50)
  vinCoarse : Nat := 0                   -- 10 mV steps
  foldLim  : Rat := 1 / 5                -- L of R71, in A
  iUs      : Int := 0                    -- latest 1 µs current measure, mA
  ocLimit  : Bool := false
  ocPhases : Nat := 0                    -- phases at the limit in the latest cycle
  ovl      : Bool := false
  rsvReady : Bool := true                -- reserve capacitor above 2.3 V (R60)
  rsvFire  : Bool := false               -- reserve switch closed
  rsvUv    : Nat := 2400000              -- voltage of the reserve capacitor, µV (R60)
  ovr      : Bool := false               -- the overshoot comparator is tripped (R59)
  bleedOn  : Bool := false
  bleedHist : BitVec 160 := 0            -- the CELLSYNC cycles of the last 1 µs in which the bleed conducted, latest in bit 0 (R62)
  bleedSpent : Bool := false             -- 200 ns of the last 1 µs are spent (R62)
  hintArm  : Bool := false               -- an ARM order stands (R63)
  armHeld  : Arm := .disarmed            -- arm state of the reserve as at entry to HOLD (R84)
  bleedHeld : Bool := false              -- the bleed was armed at entry to HOLD (R84)
  measCoarse : Option Nat := none        -- the coarse value read first in MEASURE, 5 mV steps (R75)
  measSum  : Int := 0                    -- window samples of MEASURE, 1/64 mV, and their number (R75)
  measN    : Nat := 0
  sync     : Bool := false               -- CELLSYNC lock (R79, R80)
  marks    : Nat := 0                    -- L2 marks since the last valid multicast (R83)
  holdCyc  : Nat := 0                    -- cell-clock cycles in the present HOLD (R85)
  holdExp  : Bool := false               -- page 2 reads 0x7F (R114)
  prebias  : Bool := false               -- PREBIAS_ERR to report
  expired  : Bool := false               -- HOLD_EXPIRED to report
  sel      : Sel := .home
  seq      : Option Nat := none          -- SEQ last executed (R115)
  status   : Nat := 0                    -- its STATUS and DATA
  data     : Nat := 0
  bitmap   : Nat := 0                    -- last self-test bitmap (R92)
  urg      : List (Nat × Nat) := []      -- urgent reports waiting: CODE and DETAIL (R116)
  win      : Window := {}
  partialTlm : Option Nat := none        -- a window cut under R89, as payload bits 63:0
  fullTlm  : Option Nat := none          -- the latest full window, ended at its commit and not yet polled (R90, R117)
  winTag   : Nat := 0                    -- epoch number mod 16 seen in the latest multicast (R107)
  pathLink : Option (Nat × Bool) := none -- break link and segment of the last PATH (R134)
  deriving DecidableEq, Repr, Inhabited

/-! ### Chain masters (spec/03) -/

/-- STATE of UL_CHAIN_STAT_c (R139). -/
inductive ChainSt where
  | down | enumerating | running | degraded
  deriving DecidableEq, Repr, Inhabited

/-- Who composed an order (R106, R126), and what waits for its reply. -/
inductive Origin where
  | warden
  | engine
  | loan
  | stage                       -- start sequencing (R378)
  | audit                       -- cell audit (R413)
  | adoption
  | ring (ring index : Nat)     -- READ_CELL
  deriving DecidableEq, Repr, Inhabited

/-- A CMD order in a master's queue or on the ring (R111, R126). -/
structure Order where
  addr    : Nat
  op      : Nat
  arg     : Nat := 0
  origin  : Origin
  role    : Option Nat          -- the domain role for which it was composed
  age     : Nat := 0            -- epochs in the queue
  seq     : Nat := 0
  resends : Nat := 0
  deriving DecidableEq, Repr, Inhabited

/-- A frame a master has put on its ring: TYPE, PAYLOAD and CRC (R102). -/
structure Frame where
  type    : Nat
  payload : Nat
  crc     : Nat                 -- CRC-12 of R102
  rescue  : Bool := false       -- sent out on the rescue lane (R101, R134, R137)
  deriving DecidableEq, Repr, Inhabited

/-- The steps of a loan or recall in progress (R128 to R130). -/
inductive LoanStep where
  | accepted | zeroSent | zeroRead | isolated | switched | moved | started | confirmed | joined | stopping | isolating | direct
  deriving DecidableEq, Repr, Inhabited

/-- A loan or recall in progress on a chain (R127, R128). -/
structure Loan where
  cell    : Nat
  recalling  : Bool
  home    : Nat                 -- home domain of the cell
  host    : Nat                 -- the domain it faces
  step    : LoanStep
  commits : Nat := 0            -- commits since commit E
  origin  : Origin
  cover   : Bool := false       -- ordered by the cell audit of R413
  deriving DecidableEq, Repr, Inhabited

/-- One chain master. -/
structure Chain where
  st       : ChainSt := .down
  gen      : Nat := 0
  cells    : Nat := 0                        -- cells in contact
  j1       : Nat := 288                      -- first position beyond segment 1 (R134)
  j2       : Nat := 288                      -- first position of segment 2
  enumPos  : Nat := 0                        -- next position offered the TOKEN (R118)
  enumRescue : Bool := false                 -- TOKENs go out on the rescue lane (R120)
  enumLow  : Nat := 0                        -- positions below this were offered on the main path
  taken    : List (Nat × Nat) := []          -- address taken and the position measured (R122)
  enumDone : Bool := false
  crcCnt   : Nat := 0
  retryCnt : Nat := 0
  tlmDrop  : Nat := 0
  crcEpoch : Nat := 0                        -- bad CRCs of the epoch (R133)
  audit    : Bool := false                   -- loopback audit in progress (R137)
  auditReq : Bool := false                   -- the audit was asked for by LOOP_REQ (R138)
  lasting  : Bool := false                   -- the break is recorded as lasting
  armQ     : List Nat := []                  -- payloads waiting, in the precedence of R106
  wardenQ  : List Order := []
  cmdQ     : List Order := []
  trimQ    : List Nat := []
  cfgQ     : List Nat := []                  -- domains (63 the global set-up) whose CFG waits
  loopQ    : List Frame := []                -- PATH frames waiting (R106, R134)
  loopMain : Nat := 0                        -- LOOP frames of the audit left to send on the main path and on the rescue lane (R137)
  loopResc : Nat := 0
  search   : List Frame := []                -- the LOOP frames of the latest search for a break (R134)
  onRing   : List Order := []                -- orders sent and not yet answered
  resendQ  : List Order := []                -- orders to send again, with the same SEQ, in the next slot (R115)
  seqs     : Tab Nat := []                   -- SEQ of each cell by position (R115)
  roles    : List (Nat × Nat × Nat) := []    -- generation, cell, and the domain it held up to that generation (R132)
  l2       : Nat := 0                        -- index in the epoch of the next L2 period to begin
  pollPos  : Nat := 0                        -- next position polled in degraded mode
  cfgAge   : Tab Nat := []                   -- epochs since each domain's CFG was sent (R106)
  trimHold : List Nat := []                  -- domains with a CFG after a record change still to send (R159)
  stopCfg  : List Nat := []                  -- stop-profile CFGs waiting ahead of all else (R354)
  loan     : Option Loan := none
  sent     : List Frame := []                -- frames of the latest L2 period, in slot order
  rsp      : Option Nat := none              -- latest reply a cell put on the ring, its 80 bits (R102, R111, R119)
  urg      : Option Nat := none              -- latest URG a cell put on the ring, its 80 bits
  tlm      : Option Nat := none              -- latest TLM a cell put on the ring, its 80 bits
  turned   : Option Nat := none              -- position that turned the latest LOOP frame
  passed   : Option Nat := none              -- latest frame the cells passed unchanged (R103)
  urgSlots : Nat := 0                        -- urgent slots free in the L2 period in progress; of segment 1 in degraded mode (R116)
  urgSlots2 : Nat := 0                       -- the urgent slot of segment 2 in degraded mode
  deriving DecidableEq, Repr, Inhabited

/-- A telemetry payload as it was credited (R132): the domain and the epochs, first and last, that it covers, and what calibration takes of it
(R261). -/
structure Credit where
  dom    : Nat
  first  : Nat
  last   : Nat
  part   : Bool                              -- a partial window
  raw    : Int                               -- cell current as delivered and corrected, mA
  corr   : Int
  usable : Bool                              -- a full window in RUN without WIN_CLIP
  deriving DecidableEq, Repr, Inhabited

/-- What the controller holds about one cell. -/
structure View where
  out      : Bool := false                   -- outside every role: shed, isolated or under test (R382, R414)
  lent     : Bool := false                   -- on loan, as UL_LOANMAP shows (R141)
  cover    : Bool := false                   -- that loan is a cover (R413, R426)
  moving   : Bool := false                   -- between steps 1 and 9 of R128
  trim     : Int := 0
  lastI    : Option (Int × Nat) := none      -- latest included current, mA, and its epoch (R167)
  tlm      : Option Nat := none              -- latest credited payload
  tlmOld   : Bool := false                   -- the cell was ordered or found elsewhere since that payload
  ovlRun   : Nat := 0
  syncRun  : Nat := 0
  clipRun  : Nat := 0
  runOk    : Bool := false                   -- confirmed in RUN by READ_STATE page 2
  offOk    : Bool := false                   -- confirmed in OFF
  startSent : Bool := false                  -- START sent for its group (R378)
  reads    : Nat := 0                        -- READ_STATE tries of R382
  page0    : Nat := 0                        -- READ_STATE pages as last read
  page1    : Nat := 0
  page2    : Nat := 0
  heard    : Bool := false                   -- answered QUERY and READ_STATE since the fast-side reset (R390)
  genFound : Nat := 0
  gain     : Tab Nat := []                   -- G of each band, 1.0 = 0x8000; unlisted: the test-time value (R260)
  cnt      : Tab Nat := []                   -- N of each band (R261)
  extrap   : Bool := false                   -- latest payload used a band without field data (R288)
  copyGain : Tab Nat := []                   -- the warden's copy of G and N, once per housekeeping round (R262)
  copyCnt  : Tab Nat := []
  copyLimit : List Nat := []
  atLimit  : List Nat := []                  -- bands held at the limit of R261
  drifted  : List Nat := []                  -- bands for which CAL_DRIFT was raised
  credit   : Option Credit := none           -- the latest payload credited (R132)
  block    : List Credit := []               -- payloads credited to calibration blocks (R261)
  deriving DecidableEq, Repr, Inhabited

/-! ### The regulation engine (spec/04) -/

/-- The engine states of R170, in code order. -/
inductive EngSt where
  | off | start | run | stop | hold | adopt | frozen | fbhold
  deriving DecidableEq, Repr, Inhabited

/-- The path by which a law record was staged (R158). -/
inductive LawPath where
  | command (x : CmdCtx)
  | register
  | warden
  deriving DecidableEq, Repr, Inhabited

/-- A staged law record (R158). -/
structure StagedLaw where
  image : List Word
  path : LawPath
  late : Bool                               -- accepted at or after ccyc 3,196
  deriving DecidableEq, Repr, Inhabited

/-- One domain of the engine. Values in Q1.30 are the integers of R150. -/
structure Dom where
  st       : EngSt := .off
  vset     : Nat := 0                        -- committed V_SET, voltage code
  vsetOwn  : Bool := false                   -- a V_SET was committed since the cold start (R174)
  vsetEff  : Int := 0                        -- V_SET_eff, Q1.30
  hOff     : Int := 0                        -- hint offset, 1/64 mV
  shiftHold : Bool := false
  law      : List Word := []                 -- active record
  staged   : Option StagedLaw := none
  lawStored : Option (List Word) := none     -- a record that became due in FROZEN, without effect until the domain is rebuilt (R179)
  lawNew   : Bool := false                   -- a record took effect at the commit that opened the epoch (R190)
  reinit   : Option Int := none              -- bumpless initialisation due in the next period, with U in Q1.30 (R177)
  ui       : Int := 0
  ud       : Int := 0
  u1       : Int := 0                        -- u of the last period, after the clamps
  u2       : Int := 0
  u3       : Int := 0
  e1       : Int := 0
  e2       : Int := 0
  e3       : Int := 0
  sat      : Bool := false
  satCnt   : Nat := 0
  satRaised : Bool := false                  -- ENG_SAT raised in the unbroken run (R164)
  iPrev    : Int := 0                        -- I_prev, Q1.30
  iValid   : Int := 0                        -- last valid I_DOM, Q1.30
  fbCnt    : Nat := 0                        -- consecutive periods in FBHOLD, or waiting in START (R166, R172)
  fbRaised : Bool := false
  tgt      : Nat := 0                        -- last target code, 1/64 mV
  tgtValid : Bool := false                   -- its target table entry is valid (R165)
  adoptT   : Option Nat := none              -- adopted target T (R175)
  vEffSet  : Bool := false                   -- V_SET_eff was set in this START (R172)
  groupNext : Nat := 0                       -- next group whose START orders are queued (R378)
  ramping  : Bool := false                   -- the first group has reported RUN (R172)
  stopSent : Bool := false                   -- STOP queued for every cell of the role (R174)
  stopRamp : Bool := false                   -- descends at the stop rate of R355
  soloStage : Option Nat := none             -- commits left of a one-domain stage (R392, R479)
  recorded : EngSt := .off                   -- state in the warden's copy at a fast-side reset (R391)
  restart  : Bool := false                   -- to be restarted under R392
  shed     : Nat := 0                        -- cells shed in this start (R382)
  rejoin   : Nat := 0                        -- adoption in progress: 1 its cells are read, 2 ADOPT is sent, 3 the same with a cell found in
                                             -- another state (R175, R376, R388, R389)
  lastFb   : Option Int × Option Int := (none, none)  -- V_FB and I_DOM as last latched, 1/64 mV and mA
  lastOvr  : Bool × Bool := (false, false)   -- their overrange marks
  holdFb   : Bool := false                   -- the next period latches the last values again (R204)
  latches  : List (Option Int × Option Int) := []     -- V_FB and I_DOM latches of the epoch, newest first
  lastAgreed : Int := 0                      -- u of the last period in which the lane pair agreed (R181)
  mismatch : Bool := false                   -- the pair disagreed in the latest slot
  leftRun  : Bool := false                   -- it was outside RUN in the epoch in progress (R261)
  vfbOk    : Nat := 0                        -- epochs in a row with V_FB valid at every latch, held at 16 (R403)
  deriving DecidableEq, Repr, Inhabited

/-- STATE of UL_LANESTAT_k (R192). -/
inductive LaneSt where
  | normal | audit | frozen
  deriving DecidableEq, Repr, Inhabited

/-- One lane pair (R145, R180 to R183). -/
structure Lane where
  st       : LaneSt := .normal
  barred   : Bool := false                   -- the audit of a frozen pair runs again after a fast-side reset (R183)
  lastSlot : Nat := 0
  passCnt  : Nat := 0
  mismCnt  : Nat := 0
  inAudit  : Nat := 0                        -- mismatches since the audit began
  wait     : List (Nat × Nat × Nat) := []    -- payloads waiting for sharing: cell, payload, epochs waited (R169)
  deriving DecidableEq, Repr, Inhabited

/-! ### Sense converters (spec/05) -/

/-- One copy of a tally (R212). -/
structure TallyCopy where
  sum     : Int := 0
  count   : Nat := 0
  min     : Int := 0
  max     : Int := 0
  full    : Bool := false
  ovr     : Bool := false
  reconf  : Bool := false
  restart : Bool := true
  epoch   : Nat := 0                         -- 24 bits
  deriving DecidableEq, Repr, Inhabited

/-- One tally: its working and committed copies, and a clear waiting for the next commit (R215). -/
structure Tally where
  work  : TallyCopy := {}
  done  : TallyCopy := {}
  clear : Bool := false
  deriving DecidableEq, Repr, Inhabited

/-- What M_A is converting (R210). -/
inductive AState where
  | idle
  | regular (pos : Nat)
  | injected (pos : Nat) (resume : Option Nat)
  | audit (resume : Option Nat)
  deriving DecidableEq, Repr, Inhabited

/-- The lists and lengths of one DSC's sequences (R208, R238). -/
structure SeqSet where
  len    : Nat := 0
  injLen : Nat := 0
  mask   : Nat := 0                          -- UL_SCANMASK
  reg    : List (BitVec 16) := []
  inj    : List (BitVec 16) := []
  deriving DecidableEq, Repr, Inhabited

/-- An entry of M_A, as it stood at its multiplexer switch: its channel, tally and open-wire pull (0 none, 1 up, 2 down), the
UL_DSC_AUX_n it runs under, and its length in modulator clocks (R200, R208, R210). -/
structure DscEntry where
  ch     : Nat
  tally  : Nat
  pull   : Nat
  aux    : Word
  clocks : Nat
  deriving DecidableEq, Repr, Inhabited

/-- One domain sense converter. -/
structure Dsc where
  fb       : Word := 0                       -- UL_DSC_FB_n in force
  aux      : Word := 0                       -- UL_DSC_AUX_n in force
  en       : List Word := []                 -- UL_SP_EN_0 to 3 in force
  staging  : SeqSet := {}                    -- staging copy (R209)
  active   : SeqSet := {}
  nextReg  : Option SeqSet := none           -- a checked copy waiting for the round's end
  nextInj  : Option SeqSet := none
  am       : AState := .idle
  entry    : Option DscEntry := none         -- the entry in progress
  auxEdge  : Bool := false                   -- MODE or TRIG_SRC changed: the round ends after the entry (R210)
  held     : Bool := false                   -- a held regular trigger
  heldInj  : Bool := false                   -- a held injected trigger
  reading  : Tab Int := []                   -- latest guard reading of each point, its channel code
  suspects : List Nat := []                  -- suspect channels, in the order found (R225)
  retest   : Option Nat := none              -- a suspect under test at 16 µA
  second   : Option Nat := none              -- a channel read a second time (R225)
  quietPts : Tab (Nat × Int) := []           -- points found intact: epochs left, the reading that started the test (R226)
  crossRun : Nat := 0                        -- failing guard cycles in a row (R228)
  crossBad : Bool := false                   -- a comparison of the guard cycle in progress has failed
  guardAt  : Nat := 0                        -- channel from which the guard goes on (R223)
  mv       : Tab Int := []                   -- latest M_V reading of each point of a MinSense domain
  mvOdd    : List Nat := []                  -- points whose latest M_V reading is implausible (R224)
  audit    : Option Nat := none              -- audit step in progress, 1 to 4 (R229)
  auditBad : List Nat := []                  -- steps failed in the audit in progress
  degraded : Bool := false
  vCov     : Bool := false
  iCov     : Bool := false
  iBad     : Bool := false                   -- M_I failed and is not covered
  vBad     : Bool := false                   -- M_V failed and is not covered
  gFail    : Bool := false
  aFail    : Bool := false
  trigMiss : Nat := 0
  passCnt  : Nat := 0
  mismCnt  : Nat := 0
  noLatch  : Bool := false                   -- between its block reset and its first valid latch (R401)
  deriving DecidableEq, Repr, Inhabited

/-- One housekeeping converter. -/
structure Hkc where
  inRound  : Bool := false                   -- takes part in the round in progress
  res      : Tab (Option Int) := []          -- results of the round in progress by channel, none invalid
  prev     : Tab (Option Int) := []          -- results of the previous round
  vref     : Int := 4800                     -- VREF as measured in the last completed round, 0.25 mV (R217)
  fail     : Bool := false
  picks    : List Word := []                 -- UL_HKC_PICK words in force, two
  deriving DecidableEq, Repr, Inhabited

/-- The sense registers and supervisor state that are not per converter. -/
structure Sense where
  ctrl     : Word := 0                       -- UL_SNS_CTRL in force
  plaus    : Word := 0x0108280C              -- UL_PLAUS in force
  cfgRej   : Bool := false
  restRej  : Bool := false
  refFail  : Bool := false
  refPend  : Option Nat := none              -- REF_SEL waiting for its test
  refSwitch : Option Nat := none             -- source that takes over at the next commit
  refAct   : Nat := 0
  refRdy   : Bool := false
  seqSel   : Word := 0
  spSel    : Word := 0
  tallySel : Word := 0
  cap      : TallyCopy := { restart := false }  -- the register capture
  timerOn  : Bool := false                   -- the common timer runs
  roundNum : Nat := 0                        -- rounds completed since the cold start
  roundOn  : Bool := false                   -- a round is in progress
  struck   : List Nat := []                  -- struck global point indexes, rising (R227)
  restoreReq : List Nat := []                -- struck points whose test UL_SP_RESTORE asked for
  restore  : List Nat := []                  -- points found intact by UL_SP_RESTORE, back at the next commit
  picks    : Tab Word := []                  -- UL_HKC_PICK_i as written
  deriving DecidableEq, Repr, Inhabited

/-! ### The ledger (spec/06) -/

/-- A hint held by a tile (R272). -/
inductive HintSt where
  | pending | pre | active | ended
  deriving DecidableEq, Repr, Inhabited

/-- A hint as the ledger holds it. -/
structure Hint where
  st     : HintSt
  flat   : Bool := false
  s      : Nat                               -- epoch in which the phase is expected
  begins : Nat                               -- commit at which its effects begin, e + 2
  dur    : Nat
  pExp   : Nat
  pBase  : Nat
  tag    : Nat
  arrive : Nat                               -- arrival epoch e
  ends   : Option Nat := none                -- commit at which it ends, once known
  expired : Bool := false                    -- it ended by expiry, not yet counted
  deriving DecidableEq, Repr, Inhabited

/-- One packet effect waiting for its commit (R271). -/
structure HintFx where
  commit : Nat
  cls    : Option Nat := none
  hint   : Option Hint := none
  endAll : Bool := false
  deriving DecidableEq, Repr, Inhabited

/-- One tile as the ledger and its hint port hold it. -/
structure Tile where
  fifo     : List (BitVec 64 × Bool) := []   -- hint FIFO, oldest first, with end marks
  held     : Option (BitVec 64 × Bool) := none  -- the word the port holds (R39)
  dropping : Bool := false                   -- words are discarded up to the next end mark (R491)
  arrived  : Option (BitVec 512) := none     -- record of the last epoch
  lastRec  : BitVec 512 := 0                 -- the record used before it
  lateRun  : Nat := 0
  silent   : Bool := false
  unpowered : Bool := true                   -- its domain was in OFF or START at the commit that ended the epoch
  diode    : Option Int := none              -- last valid reading of its diode (R256)
  diodeOld : Option Int := none              -- the same as it stood before the round's conversion
  pNew     : Nat := 0                        -- P_t of the estimate just formed, and its flags
  statNew  : Nat := 0
  satNew   : Bool := false
  lateNew  : Bool := false
  offNew   : Bool := true
  pRdy     : Nat := 0                        -- the same for the estimate the next commit accounts
  statRdy  : Nat := 0
  satRdy   : Bool := false
  lateRdy  : Bool := false
  offRdy   : Bool := true
  est      : Nat := 0                        -- P'_t of the last commit
  stat     : Nat := 0                        -- S_t
  demand   : Nat := 0
  unc      : Nat := 0                        -- U_t of R307
  hasEst   : Bool := false                   -- has an estimate since a cold start or fast-side reset
  allow    : Nat := 0
  cls      : Nat := 0
  fx       : List HintFx := []
  hint     : Option Hint := none
  armed    : Bool := false                   -- its cells were sent ARM (R274)
  cntSat   : Bool := false
  recLate  : Bool := false
  miss     : Bool := false
  quota    : Nat := 64                       -- code on the quota lane (R306)
  qHist    : List Nat := []                  -- quota parts of the last epochs, newest first
  burn     : Nat := 0                        -- g_t ordered at the last commit, tile codes of output power
  burnHist : List Nat := []
  deriving DecidableEq, Repr, Inhabited

/-- The latches of a domain in one calibration block (R261): valid I_DOM latches, and whether it was in RUN throughout. -/
structure CalBlock where
  number : Nat
  sum    : Int
  count  : Nat
  lo     : Int
  hi     : Int
  run    : Bool
  deriving DecidableEq, Repr, Inhabited

/-- One domain as the ledger accounts it. -/
structure DomAcct where
  vMeasE   : Option Int := none              -- mean V_FB of the last metered epoch, 1/64 mV
  iMeasE   : Option Int := none              -- mean I_DOM, mA
  pMeasE   : Option Int := none              -- mean V × I, 50 µW codes
  hist     : List (Option Int × Option Int × Option Int) := []  -- the same for earlier epochs, newest first
  vMeas    : Option Int := none              -- last valid V_MEAS since it left OFF (R256)
  vRep     : Int := 0                        -- V_MEAS, I_DOM, P_MEAS of the data epoch accounted
  iRep     : Int := 0
  pMeas    : Int := 0
  pOut     : Rat := 0                        -- its part of P_OUT and I_OUT (R293), mW and mA
  iOut     : Rat := 0
  pEst     : Nat := 0
  resid    : Int := 0                        -- R_d, 50 µW codes
  clampRun : Nat := 0
  resRaised : Bool := false                  -- EST_RESID raised in the run (R259)
  wasRun   : Bool := false                   -- in RUN at the last commit (R274)
  rearm    : Bool := false                   -- a loan into it has completed: ARM at the next commit (R274)
  resClamp : Bool := false
  energy   : Nat := 0                        -- 0.1 pJ
  purse    : Nat := 0                        -- 50 µW codes
  miss     : Bool := false
  extrapC  : Bool := false                   -- a payload of the epoch used a trim without field data
  extrap   : Bool := false
  tlmV     : Int × Nat := (0, 0)             -- telemetry interval: sum and count of V_MEAS, I_DOM, P_MEAS (R484)
  tlmI     : Int × Nat := (0, 0)
  tlmP     : Int × Nat := (0, 0)
  pubV     : Option Int := none              -- the same of the latest interval, as PMBus reads it (R498)
  pubI     : Option Int := none
  pubP     : Option Int := none
  blocks   : List CalBlock := []             -- calibration blocks under way or waiting for their evaluation
  deriving DecidableEq, Repr, Inhabited

/-- Who staged a value, for its completion (R245, R472). -/
inductive Stager where
  | window
  | command (x : CmdCtx)
  | ebsis
  | warden
  deriving DecidableEq, Repr, Inhabited

/-- What a staged value is written to. -/
inductive StageKey where
  | reg (off : Nat)
  | vset (d : Nat)
  | spEn (d i : Nat)
  | power (d : Nat)                          -- DOMAIN_ON (1) or DOMAIN_OFF (0)
  | fixed
  | polTreas
  deriving DecidableEq, Repr, Inhabited

/-- A value waiting for its commit (R245). -/
structure Staged where
  key  : StageKey
  val  : Word
  late : Bool                                -- accepted at or after ccyc 3,196
  by_  : Stager
  deriving DecidableEq, Repr, Inhabited

/-- The ledger's registers and chip-wide state. -/
structure Ledger where
  epoch    : Nat := 0
  running  : Bool := false                   -- a commit has happened since the lock
  first    : Bool := true                    -- the next commit is commit 0
  cutoff   : Bool := false                   -- ccyc 3,196 has passed (R245)
  recCut   : Bool := false                   -- ccyc 1,600 has passed (R40)
  sinceStart : Nat := 0                      -- commits since the cold start or restart of the ledger, held at 4
  ctrl     : Word := 0x1928E000
  treasury : Word := 0x0016E360
  cls      : Tab Word := []                  -- UL_CLASS_c, unlisted 0x0100_0000
  caps     : Tab Word := []                  -- UL_PURSE_CAP_d
  hintCfg  : Word := 0x790320A2
  staged   : List Staged := []
  recLate  : Nat := 0
  cntSat   : Nat := 0
  cfgRej   : Bool := false
  epochHi  : Nat := 0                        -- UL_EPOCH_HI as latched
  frozen   : Bool := false
  freezeTo : Bool := false
  freezeN  : Nat := 0                        -- commits since the freeze began
  fEpoch   : Nat := 0
  floorMiss : Word := 0
  expired  : Nat := 0
  replaced : Nat := 0
  badPkt   : Nat := 0
  tileSel  : Word := 0
  recLo    : Word := 0
  recHi    : Word := 0
  calSkip  : Nat := 0
  late     : Nat := 0                        -- late tiles of the data epoch accounted
  lateNew  : Nat := 0
  lateRdy  : Nat := 0
  slack    : Nat := 0
  tTd      : Nat := 0                        -- T_TD of the last commit
  vinBoost : Bool := false                   -- the boost of R275 is in force
  boostEnd : Option Nat := none              -- commits left after the last boosting hint
  views    : Tab Word := []                  -- commit-updated registers as held by a freeze (R249)
  viewRecs : Tab (BitVec 64) := []           -- tile records as held by a freeze
  chipPwr  : Nat := 0
  calExtN  : Nat := 0                        -- cells whose latest payload was extrapolated
  deriving DecidableEq, Repr, Inhabited

/-! ### Limits and the pace link (spec/07) -/

/-- The limit registers, meter and governor. -/
structure Limits where
  ctrl     : Word := 0x40400898
  win      : Tab Word := []                  -- UL_WIN_w
  ramp     : Word := 0xFA3E8064
  pinHist  : List (Option Rat) := []         -- P_IN of metered epochs, newest first; none counts under R298
  pOut     : Rat := 0                        -- P_OUT and I_OUT of the latest metered epoch, mW and mA
  iOut     : Int := 0
  vIn      : Rat := 1700                     -- V_IN of R293, mV
  kIn      : Rat := 1
  pinLast  : Rat := 0                        -- last metered P_IN
  metered  : Bool := false
  tEff     : Rat := 0                        -- effective treasury of the last commit, mW
  bind     : Nat := 0
  ceil     : Rat := 0
  overRun  : List Nat := []                  -- windows over their limit in an unbroken run
  overs     : Tab Nat := []                   -- OVER counts by window
  cutCnt   : Nat := 0
  qCut     : Nat := 0
  govOn    : Bool := false
  pG       : Rat := 0
  pGPrev   : Rat := 0                        -- level of the commit that opened the epoch being metered
  burnTiles : Nat := 0
  shortCnt : Nat := 0
  violCnt  : Nat := 0
  fixed    : Bool := false
  thrOn    : Bool := false                   -- a throttle event is open (R311)
  thrCause : Nat := 0
  repeatBrk : Nat := 0
  fixTe    : Nat := 0
  shiftAny : Bool := false
  meterBad : Nat := 0                        -- readings with |ρ − 1| > 0.10 in a row (R295)
  meterRaised : Bool := false
  pvSum    : Rat := 0                        -- Σ P_IN / V_IN over the 50 epochs
  pvN      : Nat := 0
  pvMean   : Option Rat := none              -- its mean over the last whole round of 50 epochs
  ioutRd   : Tab Nat := []                   -- converter currents read in this 50-epoch round, 10 mA
  kBad     : Bool := false                   -- a current read of the round failed (R505)
  deriving DecidableEq, Repr, Inhabited

/-- UL_PACE_STAT.STATE (R338). -/
inductive PaceSt where
  | off | discovering | up | solo | down
  deriving DecidableEq, Repr, Inhabited

/-- A pace entry held from a peer, a relayed entry of this chip, or the carried entry of R326. -/
structure PaceEntry where
  origin  : Nat
  relay   : Bool
  carried : Bool := false
  q       : Nat
  seq     : Nat
  age     : Nat := 0
  deriving DecidableEq, Repr, Inhabited

/-- A pace frame the chip has sent or forwarded (R314). -/
inductive PaceTx where
  | survey (serial : Nat)
  | count (next : Nat)
  | size (n : Nat)
  | live (origin : Nat)
  | quota (origin : Nat) (relay : Bool) (group q seq : Nat)
  | release (origin : Nat) (relay : Bool) (group seq : Nat)
  | leave (origin group : Nat)
  | raw (payload : Nat)
  deriving DecidableEq, Repr, Inhabited

/-- The pace logic. -/
structure Pace where
  ctrl     : Word := 0xE0001090
  st       : PaceSt := .off
  lock     : Bool := false
  leader   : Bool := false
  pos      : Nat := 0
  size     : Nat := 0
  sentSurvey : Bool := false
  liveAge  : Nat := 0
  bcast    : Option (Nat × Nat × Nat) := none   -- Q, SEQ and epochs since the last QUOTA of the own broadcast
  relay    : Option (Nat × Nat × Nat) := none   -- the relayed broadcast of R482
  resend   : Bool := false                      -- send QUOTA again at the first commit after SIZE (R326)
  aboveRun : Nat := 0
  belowRun : Nat := 0
  entries  : List PaceEntry := []
  latched  : List PaceEntry := []               -- entries held at ccyc 1,600 (R322)
  latchOk  : Bool := false
  qSymp    : Nat := 0                           -- q_symp of the last commit
  sympKey  : Nat × Nat × Bool × Bool := (0, 0, false, false)
  crcCnt   : Nat := 0
  downCnt  : Nat := 0
  expireCnt : Nat := 0
  sympEpochs : Nat := 0
  saved    : Rat := 0                           -- µJ
  savedHi  : Nat := 0
  tx       : List PaceTx := []                  -- frames sent, newest first
  deriving DecidableEq, Repr, Inhabited

/-! ### Heat, coolant, stop (spec/08) -/

/-- One diode as the thermal supervisor holds it (R343 to R348). -/
structure Diode where
  cur     : Option Int := none
  prev    : Option Int := none
  rate    : Option Int := none
  level   : Nat := 0
  latched : Nat := 0                         -- L_d at ccyc 1,600
  badRun  : Nat := 0
  badSet  : Bool := false                    -- under R348
  badOld  : Nat := 0                         -- the same two before the round's conversion
  setOld  : Bool := false
  copy    : Nat := 0                         -- the warden's copy of L_d (R348)
  round   : Option Int := none               -- reading of the last closed round (R498)
  warnRun : Bool := false
  fresh   : Bool := false                    -- the latest valid reading waits for its evaluation
  deriving DecidableEq, Repr, Inhabited

/-- The thermal supervisor. -/
structure Therm where
  rate     : Word := 0x00502010
  lim      : Word := 0x766E3010
  rateNext : Option (Word × Stager) := none  -- taken at the next round
  limNext  : Option (Word × Stager) := none
  hotCur   : Option (Int × Nat) := none      -- hottest valid reading of the round in progress
  riseCur  : Option (Int × Nat) := none
  hot      : Word := 0                       -- UL_THERM_HOT and UL_THERM_RISE
  rise     : Word := 0
  warnCur  : Bool := false
  warn     : Bool := false
  warnCnt  : Nat := 0
  throtCnt : Nat := 0
  deriving DecidableEq, Repr, Inhabited

/-- The stop sequence, its record and the tray pins it drives. -/
structure Stop where
  active   : Bool := false                   -- from the trigger to the seal
  abandon  : Bool := false                   -- it is an abandonment of start-up (R565)
  pending  : Bool := false                   -- the trigger waits for STOP_SEQUENCE's commit s
  commits  : Option Nat := none              -- commits since commit s
  seq      : Nat := 0
  slot     : Nat := 0                        -- slot of the vault that holds it (R454, R456)
  causeOpen : Nat := 0
  cause    : Nat := 0
  epoch    : Nat := 0
  ticks    : Nat := 0
  stage    : Nat := 0
  late     : Bool := false
  loanV    : Bool := false
  loanSel  : Nat := 0
  loanAddr : Nat := 0
  openDone : Bool := false
  openBody : List Word := []                 -- the open part as composed, without its CRC
  exists_  : Bool := false                   -- a latest record exists
  cleared  : Bool := true                    -- it carries CLEARED
  offMap   : Nat := 0                        -- domains confirmed OFF
  thermTrip : Bool := false                  -- THERMTRIP_N driven low
  fallCnt  : Nat := 0
  glitchCnt : Nat := 0
  tripped  : List Nat := []                  -- comparators tripped
  quiet    : Option Nat := none              -- watch tick at which the restart quiet period began
  quietOk  : Bool := false                   -- the period is complete
  nextSeq  : Nat := 1
  deriving DecidableEq, Repr, Inhabited

/-! ### Start-up and adoption (spec/09), clocks (spec/13) -/

/-- UL_START_STAT.STEP (R396). -/
inductive Step_ where
  | waitPwr | stagger | aonUp | wardenBoot | waitRestart | reconcile | bootstrap | pllLock | enumeration | reference
  | staging | ready | adoption | stopped
  deriving DecidableEq, Repr, Inhabited

/-- AON supply, pins, start-up and adoption. -/
structure Start where
  aon      : Bool := false                   -- the AON domain is powered (R20)
  slot     : Nat := 0
  pwrOk    : Bool := false                   -- filtered levels
  flowOk   : Bool := false
  step     : Step_ := .waitPwr
  stage    : Nat := 0
  ready    : Bool := false
  fail     : Nat := 0
  trigger  : Nat := 0                        -- watch tick of the trigger of R370
  readyUs  : Nat := 0
  adoptUs  : Nat := 0
  miss     : Word := 0
  failDom  : Nat := 0
  failReason : Nat := 0
  failAddr : Nat := 0
  shedCnt  : Nat := 0
  adoptCnt : Nat := 0
  adopted  : Nat := 0
  unreach  : Nat := 0
  adoptDom : Nat := 0                        -- STOPPED bits of both registers
  fsrReq   : Bool := false
  fsrRej   : Bool := false
  reconciled : Bool := false                 -- step 3 has ended and step 4 waits (R352, R551)
  cellRst  : Bool := false                   -- CELL_RST asserted (R372)
  boot     : Bool := false                   -- BOOT raised (R373)
  restartWait : Bool := false                -- the stagger wait of R386 runs before step 3
  stageCommits : Nat := 0                    -- commits since the stage began
  stageDue : Bool := false                   -- a stage may begin at this commit
  abandonDue : Bool := false                 -- START_ABANDON's first orders wait for a commit
  abandonStage : Nat := 0                    -- stage whose domains descend in an abandonment
  romFail  : Bool := false                   -- the ROM check failed (R383)
  patchEvent : Bool := false                 -- the patch-rejected event waits for READY
  staged12 : Bool := false                   -- stage 12 has ended
  adoptStep : Nat := 0                       -- step of R388 reached, 0 outside adoption
  fsrTick  : Nat := 0                        -- watch tick at which the reset was asserted
  countTick : Nat := 0                       -- watch tick from which the epochs of a fast-side reset are counted (R278)
  restarting : Option Nat := none            -- domain restarted under R392
  deriving DecidableEq, Repr, Inhabited

/-- Clocks and their registers (R510 to R514, R530, R531). -/
structure Clk where
  pllOn    : Bool := false
  pllTick  : Nat := 0                        -- watch tick of the PLL enable
  lock     : Bool := false
  everLock : Bool := false                   -- the PLL has locked in this start
  csync    : Bool := false
  fsReset  : Bool := false
  restoring : Bool := false                  -- reset released, restore not yet done
  lockLoss : Nat := 0
  lockUs   : Nat := 0
  watch    : Nat := 0                        -- UL_WATCH
  watchHi  : Nat := 0                        -- as latched
  warden   : Bool := false                   -- the warden clock runs
  commit16 : Nat := 0
  commitTick : Option Nat := none            -- watch tick of the latest commit (R531)
  deriving DecidableEq, Repr, Inhabited

/-! ### Faults (spec/10) -/

/-- A cell audit (R413 to R416). -/
inductive CAuditSt where
  | waiting
  | covering (cell : Nat)
  | testing
  | reported (bitmap : Nat)
  | returning                                -- transient, the cell starts again
  | recalling
  | stopping                                 -- no report came: isolated once it is in OFF (R414)
  deriving DecidableEq, Repr, Inhabited

/-- A cell audit in progress. -/
structure CAudit where
  cell     : Nat
  src      : Nat
  st       : CAuditSt := .waiting
  cover    : Option Nat := none
  deferred : Nat := 0                        -- epochs deferred
  counted  : Bool := false                   -- counted under R413: holds no incident open
  wasOut   : Bool := false                   -- outside every role when it began
  limit    : Bool := false                   -- counted in DEFER (R413)
  deriving DecidableEq, Repr, Inhabited

/-- The open or last incident (R405 to R409). -/
structure Incident where
  open_    : Bool := false
  seq      : Nat := 0
  epoch    : Nat := 0
  ticks    : Nat := 0
  first    : Nat := 0
  react    : Nat := 0                        -- reactions issued, in the order of UL_FLT_REACT_s
  overrun  : Bool := false
  abandon  : Bool := false
  inj      : Bool := false
  srcs     : Nat := 0                        -- bit s: source s raised
  merged   : Nat := 0
  obj      : Nat := 0
  trans    : Nat := 0
  lasting  : Nat := 0
  audits   : Nat := 0                        -- audits running that hold it open
  fsrBusy  : Bool := false                   -- a fast-side reset it issued has not completed
  blocks   : List (Nat × Nat) := []          -- block resets issued: block and object
  deriving DecidableEq, Repr, Inhabited

/-- UL_FLT_STAT.STATE (R417). -/
inductive FltSt where
  | normal | handling | recovering
  deriving DecidableEq, Repr, Inhabited

/-- The fault collector. -/
structure Faults where
  ctrl     : Word := 0x00040064
  st       : FltSt := .normal
  cfgRej   : Bool := false
  inc      : Incident := {}
  nextInc  : Nat := 1
  pend     : Nat := 0                        -- bit s: source s pending
  pendObj  : Tab Nat := []                   -- object of the raise that set the bit
  quiet    : Option Nat := none              -- watch tick at which the quiet period began
  react    : Tab Nat := []                   -- UL_FLT_REACT_s; unlisted: the default of R403
  raised   : Tab Nat := []
  trans    : Tab Nat := []
  lasting  : Tab Nat := []
  obj      : Tab Nat := []
  shed     : List Nat := []                  -- shed map, rising
  shedDefer : Nat := 0
  recovCnt : Nat := 0
  lastCnt  : Nat := 0
  errnPulse : Bool := false                  -- the pulse of R411 runs
  errnStop : Bool := false                   -- held low by a stop sequence with cause FAULT or a ROM check failure
  errn     : Bool := false                   -- ERR_N driven low
  audits   : List CAudit := []
  dscAud   : List (Nat × Nat) := []          -- DSC audits running: DSC and the source that asked
  chainAud : List (Nat × Nat) := []
  laneAud  : List (Nat × Nat) := []
  hkcAud   : List (Nat × Nat) := []
  refAud   : List (Nat × Nat) := []
  covers   : List Nat := []                  -- cover loans that hold the incident open (R405)
  overrun  : Bool := false                   -- the last incident closed under the limit of R405
  clrBusy  : Bool := false
  recoverAtReady : Bool := false             -- the quiet period starts again at READY (R394)
  eventLostRun : Bool := false
  blockDue : Bool := false                   -- the state block is to be written once 1 ms has passed (R455)
  restartAud : List (Nat × Nat) := []        -- fast-side audits to start again after adoption (R422): source and object
  deriving DecidableEq, Repr, Inhabited

/-! ### Warden, policy firmware, vault (spec/11) -/

/-- One mailbox channel (R451, R457, R458). -/
structure Mbox where
  busy   : Bool := false
  done   : Bool := false
  op     : Nat := 0
  cmdTag : Nat := 0
  tag    : Nat := 0
  status : Nat := 0
  args   : Tab Word := []
  res    : Tab Word := []
  data   : Tab Word := []
  wait   : Option Instr := none              -- the command that waits for the warden (R451)
  deriving DecidableEq, Repr, Inhabited

/-- UL_POL_STAT.STATE (R461). -/
inductive PolSt where
  | empty | loaded | running | stopped | failed
  deriving DecidableEq, Repr, Inhabited

/-- The policy core as the warden sees it (R444 to R450). -/
structure Policy where
  ctrl     : Word := 0x000A0044
  env      : Word := 0x14280000
  st       : PolSt := .empty
  faultCnt : Nat := 0
  clampCnt : Nat := 0
  refuseCnt : Nat := 0
  treas    : Nat := 0                        -- policy treasury in force, mW
  lowered  : List (Nat × Nat) := []          -- limits lowered by SET_LIMIT: target and value (R446)
  hostLim  : Tab Nat := []                   -- H of each limit: last host value; unlisted the reset value
  hostV    : Tab Nat := []                   -- H_d of each domain
  replies  : List (BitVec 128) := []         -- reply queue, oldest first (R445)
  held     : List (Nat × EbsisReq) := []     -- requests held through a fast-side reset (R449)
  faults   : List Nat := []                  -- watch ticks of the latest POLICY_FAULT raises
  mirror   : Tab Word := []                  -- the policy core's mirror of the register window (R444, R522)
  imageLen : Nat := 0
  deriving DecidableEq, Repr, Inhabited

/-- A vault record or block being written, word by word (R456). -/
structure VaultJob where
  prio   : Nat                               -- precedence, 1 to 6
  recNo  : Nat                               -- record number for VAULT_ERR (R453)
  addr   : Nat                               -- address of the first byte left
  words  : List (BitVec 64)                  -- words left
  tries  : Nat := 0                          -- failed tries of the word at the head
  deriving DecidableEq, Repr, Inhabited

/-- An apply or commit whose table is being written to the vault copies (R436, R437). -/
structure VtPend where
  table   : Tab Word
  seq     : Nat
  chan    : Option MboxChan                  -- the mailbox channel that waits for it
  clamped : Bool := false
  deriving DecidableEq, Repr, Inhabited

/-- The warden, its tables and the vault. -/
structure Warden where
  vault    : List Host.Cell := []            -- the 256 KB of MRAM; an unlisted byte reads 0
  jobs     : List VaultJob := []
  svn      : Nat := 0                        -- of the running patch
  version  : Word := 0
  patch    : Nat := 0                        -- PATCH of UL_WARDEN_STAT
  slot     : Nat := 0
  committed : Bool := false                  -- STAGED of UL_WARDEN_STAT
  fillLen  : Option Nat := none              -- length given by PATCH_BEGIN
  filled   : List Nat := []                  -- byte offsets of the 64 B pieces written
  warmCnt  : Nat := 0
  vtUse    : Tab Word := []                  -- table in use, 304 entries
  vtStaged : Tab Word := []
  vtSrc    : Nat := 0
  vtSeq    : Nat := 0
  bOk      : Bool := false
  cOk      : Bool := false
  updBusy  : Bool := false
  updRej   : Bool := false
  vtNew    : Option (Tab Word × Nat) := none -- table that comes into use at the next commit, with its SEQ
  vtTick   : Option Nat := none              -- watch tick of the last apply accepted
  vtPend   : Option VtPend := none           -- an apply or commit being written to B and C
  fcap     : Tab Nat := []
  blockTick : Option Nat := none             -- watch tick of the latest write of the state block (R455)
  mboxW    : Mbox := {}
  mboxP    : Mbox := {}
  deriving DecidableEq, Repr, Inhabited

/-! ### Rings and buses (spec/12) -/

/-- One host ring (R466, R493). -/
structure Ring where
  baseLo  : Word := 0
  baseHi  : Word := 0
  en      : Bool := false
  stopped : Bool := false
  size    : Nat := 0
  tail    : Nat := 0
  head    : Nat := 0
  fetchTo : Nat := 0                         -- fetches issued up to this index
  deriving DecidableEq, Repr, Inhabited

/-- A descriptor in an intake FIFO (R475). -/
structure Desc where
  index : Nat
  words : List Word
  deriving DecidableEq, Repr, Inhabited

/-- A completion (R476). -/
structure Compl where
  opcode : Nat
  ring   : Nat
  tag    : Nat
  index  : Nat
  status : Nat
  epoch  : Nat
  data   : Nat
  intr   : Bool
  deriving DecidableEq, Repr, Inhabited

/-- An event record (R485). -/
structure Event where
  kind   : Nat
  sub    : Nat := 0
  obj    : Nat := 0
  epoch  : Nat := 0
  eseq   : Nat := 0
  d0     : Nat := 0
  d1     : Nat := 0
  d2     : Nat := 0
  d3     : Nat := 0
  deriving DecidableEq, Repr, Inhabited

/-- What an accepted command waits for (R472, R478). -/
inductive WaitFor where
  | commit (late : Bool)
  | domRun (d : Nat)
  | domOff (d : Nat)
  | law (d : Nat)
  | loan (cell : Nat)
  | rsp (cell page : Nat)
  | snapshot (addr : Nat)
  | tallyClear (conv mask addr : Nat) (ok : Bool)
  | lists (dsc : Nat)
  | round
  | relay
  deriving DecidableEq, Repr, Inhabited

/-- A command accepted and not yet completed. -/
structure Flight where
  x      : CmdCtx
  opcode : Nat
  waits  : WaitFor
  data   : Nat := 0
  superseded : Bool := false
  deriving DecidableEq, Repr, Inhabited

/-- A block the controller has written to host memory: address and little-endian words. -/
structure HostWrite where
  addr  : Nat
  words : List Word
  deriving DecidableEq, Repr, Inhabited

/-- The part of a telemetry record that commit 500r fixes: the meter's sums of the interval, P_G and the effective treasury (R484). -/
structure TlmMeter where
  n       : Nat
  flags   : Nat
  restart : Bool
  pin     : Rat
  pout    : Rat
  iout    : Int
  pG      : Rat
  treas   : Rat
  deriving DecidableEq, Repr, Inhabited

/-- The host-facing ring logic. -/
structure Rings where
  ctrl     : Word := 0x00000A07              -- INT_HOLD and VEC_EN
  armed    : Bool := false
  cr       : Tab Ring := []
  pr       : Tab Ring := []
  err      : Nat := 0
  errCode  : Nat := 0
  tlmDrop  : Nat := 0
  underTrap : Bool := false
  underCmd : Bool := false
  intake   : Tab (List Desc) := []
  badChain : List Nat := []                  -- rings whose refused chain has members still to come (R473)
  waitLog  : List Instr := []                -- commands waiting through a fast-side reset, oldest first (R388)
  flights  : List Flight := []
  complOut : List Compl := []                -- completion out FIFO, 16
  complWait : List Compl := []               -- finished completions that wait for room
  eventOut : List Event := []                -- event out FIFO, 64
  tlmOut   : List (List Word) := []          -- telemetry out FIFO, 2
  trap     : List (BitVec 64) := []          -- warden trap FIFO, 32 words
  trapWait : List (BitVec 64) := []
  eseq     : Nat := 0
  tseq     : Nat := 0
  dropped  : Nat := 0                        -- records dropped since the last written
  tlmRestart : Bool := true
  tlmFlags : Nat := 0                        -- FIXED, THROT, SYMP of the interval
  tlmN     : Nat := 0                        -- metered epochs of the interval
  tlmPin   : Rat := 0
  tlmPout  : Rat := 0
  tlmIout  : Int := 0
  tlmLast  : Option TlmMeter := none         -- the interval that commit 500r closed, until its record enters the FIFO
  pubPin   : Rat := 0                        -- means of the latest interval (R498)
  pubPout  : Rat := 0
  pubIout  : Rat := 0
  pubHot   : Word := 0                       -- HOT_T of the latest interval (R498)
  pubVin   : Rat := 0
  holdOff  : List Nat := []                  -- vectors in hold-off (R487)
  vecPend  : List Nat := []                  -- vectors that wait for its end
  vectors  : List Nat := []                  -- vectors signalled, newest first
  hostOut  : List HostWrite := []            -- blocks written to host memory, newest first
  fetches  : List (Nat × Nat × Nat) := []    -- descriptor reads issued: ring, first index, count; newest first
  deriving DecidableEq, Repr, Inhabited

/-- The SMBus target and PMBus subset (R496 to R501). -/
structure Smb where
  resolved : Bool := false                   -- AR
  valid    : Bool := false                   -- AV
  addr     : Nat := 0
  pecErr   : Nat := 0
  timeouts : Nat := 0
  page     : Byte := 0xFF
  cml      : Nat := 0                        -- STATUS_CML
  restRej  : Bool := false
  noClk    : Bool := false
  alert    : Bool := false                   -- ALERT_N driven low
  seen     : Nat := 0                        -- status bits as last compared for R501
  vaultAddr : Nat := 0
  regAddr  : Nat := 0
  reply    : List Byte := []                 -- data of the latest read transaction
  deriving DecidableEq, Repr, Inhabited

/-- A transaction of an AVSBus link (R502). -/
inductive AvsOp where
  | writeRate | writeTrim (mv : Nat) | readVolt | readCur | readTemp | readStatus
  deriving DecidableEq, Repr, Inhabited

/-- One AVSBus link. -/
structure AvsLink where
  vi      : Word := 0                        -- UL_AVS_VI_k
  ts      : Word := 0                        -- UL_AVS_TS_k
  ops     : List AvsOp := []                 -- transactions issued and not ended, the one under way or to be retried first
  fails   : Nat := 0                         -- failures of the first so far
  err     : Bool := false
  alert   : Bool := false
  deriving DecidableEq, Repr, Inhabited

/-- The AVSBus masters. -/
structure Avs where
  ctrl    : Word := 0x07080800
  trim    : Nat := 0                         -- target in force, mV
  boost   : Bool := false                    -- B > 0
  links   : Tab AvsLink := []
  retry   : Nat := 0
  rate    : Nat := 0                         -- transition rate written at initialisation
  sent    : List (Nat × AvsOp) := []         -- transactions issued, newest first
  deriving DecidableEq, Repr, Inhabited

/-! ### Window, global registers, test port (spec/14) -/

/-- An access held by the window (R520, R521). -/
inductive Held where
  | write (off : Nat) (v : Word)
  | read (off size : Nat)
  | notWhole (off : Nat)
  deriving DecidableEq, Repr, Inhabited

/-- Identity and global registers and the window decoder. -/
structure Win where
  gctrl   : Word := 3
  scratch : Word := 0
  code    : Nat := 0
  wr      : Bool := false
  cnt     : Nat := 0
  addr    : Nat := 0
  ftInj   : Word := 0
  lastRead : Option Word := none             -- data returned by the latest read that was answered
  held    : List Held := []                  -- accesses held, oldest first
  deriving DecidableEq, Repr, Inhabited

/-- The instructions of the test access port (R548). -/
inductive TapIr where
  | extest | idcode | sample | clamp | highz | ftAccess | bypass
  deriving DecidableEq, Repr, Inhabited

/-- The test access port. -/
structure Tap where
  ir      : TapIr := .idcode
  bnd     : BitVec 31 := 0                   -- boundary register
  dr      : Nat := 0                         -- data register captured by the latest instruction
  deriving DecidableEq, Repr, Inhabited

/-- Engine registers that are not per domain (R184 to R189, R191). -/
structure Eng where
  ctrl    : Word := 7
  lawBuf  : Tab Word := []
  lawGo   : Bool := false
  lawOp   : Nat := 0
  lawDom  : Nat := 0
  lawTag  : Nat := 0
  reason  : Nat := 0
  super   : Bool := false
  empty   : Bool := false
  rej     : Bool := false
  done    : Bool := false
  satFlag : Nat := 0                         -- bit d
  cellDom : Tab Word := []                   -- UL_CELLDOM_n in force; unlisted 0x0F0C_1612
  cellGlb : Word := 0x232
  cellRej : Bool := false
  deriving DecidableEq, Repr, Inhabited

/-- Chain registers that are not per chain (R138, R142). -/
structure ChainReg where
  rescueEn : Bool := true
  loopReq  : Nat := 0
  abortCnt : Nat := 0
  staleCnt : Nat := 0
  moved    : List Loan := []                 -- loans and recalls that a fast-side reset met (R131)
  deriving DecidableEq, Repr, Inhabited

/-- The whole block. -/
structure State where
  otp     : PerChip
  start   : Start := {}
  clk     : Clk := {}
  win     : Win := {}
  cells   : Tab Cell := []
  views   : Tab View := []
  chains  : Tab Chain := []
  creg    : ChainReg := {}
  eng     : Eng := {}
  doms    : Tab Dom := []
  lanes   : Tab Lane := []
  sense   : Sense := {}
  dscs    : Tab Dsc := []
  hkcs    : Tab Hkc := []
  tallies : Tab Tally := []                  -- tally t of converter c at index 16 c + t
  ledger  : Ledger := {}
  tiles   : Tab Tile := []
  accts   : Tab DomAcct := []
  limits  : Limits := {}
  pace    : Pace := {}
  therm   : Therm := {}
  diodes  : Tab Diode := []
  stopq   : Stop := {}
  flt     : Faults := {}
  warden  : Warden := {}
  policy  : Policy := {}
  rings   : Rings := {}
  smb     : Smb := {}
  avs     : Avs := {}
  tap     : Tap := {}
  pub     : Tab Word := []                   -- commit-updated registers as last published, by offset (R244)
  freeCtr : Nat := 0                         -- the model's own: how many free values were drawn
  pending : List Instr := []                 -- commands waiting, first in first out
  deriving DecidableEq, Repr

/-- Why the machine would stop with a fault.  No command of this block ends in one; the constructor names the one access the
spec rules out, a vault address past its 256 KB (R453), which the checks of R478 and R498 never let through.  Safe. -/
inductive Fault where
  | vaultRange
  deriving DecidableEq, Repr

/-- Why a command has no meaning.  `notModelled` is raised by a dispatch arm whose meaning is not written yet; safe. -/
inductive Refusal where
  | notModelled (mnemonic : String)
  deriving DecidableEq, Repr

/-- The block with its supplies down: every register at its Reset column, RAM-like tables at their power-on values, the
vault erased, no command waiting. -/
def State.reset : State := { otp := Config.perChip }

end Sys2Proof.Machine
end

