-- ==== Sys2Proof/Machine/Ops.lean ====
section
/-! DEFINITION. The named operations over State: one reader and one writer for each kind of numbered thing, the geometry of
R8, R15 to R18 and R98 to R100, the present roles of the cells, the conditions that many rules share, and the free values. -/

namespace Sys2Proof.Machine

/-- The outcome of a command. -/
abbrev Out := Host.Outcome State Fault Refusal

/-! ### Numbered things -/

def State.cell (s : State) (i : Nat) : Cell := s.cells.get {} i
def State.setCell (s : State) (i : Nat) (c : Cell) : State := { s with cells := s.cells.set i c }
def State.updCell (s : State) (i : Nat) (f : Cell → Cell) : State := s.setCell i (f (s.cell i))
def State.view (s : State) (i : Nat) : View := s.views.get {} i
def State.updView (s : State) (i : Nat) (f : View → View) : State := { s with views := s.views.modify {} i f }
def State.chain (s : State) (c : Nat) : Chain := s.chains.get {} c
def State.updChain (s : State) (c : Nat) (f : Chain → Chain) : State := { s with chains := s.chains.modify {} c f }
def State.dom (s : State) (d : Nat) : Dom := s.doms.get {} d
def State.updDom (s : State) (d : Nat) (f : Dom → Dom) : State := { s with doms := s.doms.modify {} d f }
def State.lane (s : State) (k : Nat) : Lane := s.lanes.get {} k
def State.updLane (s : State) (k : Nat) (f : Lane → Lane) : State := { s with lanes := s.lanes.modify {} k f }
def State.dsc (s : State) (d : Nat) : Dsc := s.dscs.get {} d
def State.updDsc (s : State) (d : Nat) (f : Dsc → Dsc) : State := { s with dscs := s.dscs.modify {} d f }
def State.hkc (s : State) (k : Nat) : Hkc := s.hkcs.get {} k
def State.updHkc (s : State) (k : Nat) (f : Hkc → Hkc) : State := { s with hkcs := s.hkcs.modify {} k f }
def State.tally (s : State) (conv t : Nat) : Tally := s.tallies.get {} (16 * conv + t)
def State.updTally (s : State) (conv t : Nat) (f : Tally → Tally) : State :=
  { s with tallies := s.tallies.modify {} (16 * conv + t) f }
def State.tile (s : State) (t : Nat) : Tile := s.tiles.get {} t
def State.updTile (s : State) (t : Nat) (f : Tile → Tile) : State := { s with tiles := s.tiles.modify {} t f }
def State.acct (s : State) (d : Nat) : DomAcct := s.accts.get {} d
def State.updAcct (s : State) (d : Nat) (f : DomAcct → DomAcct) : State := { s with accts := s.accts.modify {} d f }
def State.diode (s : State) (n : Nat) : Diode := s.diodes.get {} n
def State.updDiode (s : State) (n : Nat) (f : Diode → Diode) : State := { s with diodes := s.diodes.modify {} n f }

/-- Apply an operation for each number of a list, in order. -/
def State.forEach (s : State) (l : List Nat) (f : State → Nat → State) : State := l.foldl f s

/-! ### Domains, tiles and their places (R8, R15, R17, R18) -/

def isTD (d : Nat) : Bool := decide (d < 32)
/-- The index of SDn. -/
def sd (n : Nat) : Nat := 32 + n
/-- The tile domains and all domains, by index. -/
def tds : List Nat := List.range 32
def allDoms : List Nat := List.range 48
def sds : List Nat := (List.range 16).map (32 + ·)

/-- The domain of a tile (R15). -/
def tileDom (t : Nat) : Nat := t / 32 / 4 * 4 + t % 32 / 8
/-- The local number of a tile in its domain (R99). -/
def tileLocal (t : Nat) : Nat := t / 32 % 4 * 8 + t % 8
/-- The tiles of TDn, in local order. -/
def domTiles (n : Nat) : List Nat :=
  (List.range 32).map fun j => (n / 4 * 4 + j / 8) * 32 + (n % 4 * 8 + j % 8)

/-- The tile domain that swing cell k of TDn faces (R17). -/
def swingFaces (n k : Nat) : Nat :=
  match k with
  | 0 => if n < 4 then n + 4 else n - 4
  | 1 => if n % 4 = 3 then n - 1 else n + 1
  | 2 => if n ≥ 28 then n - 4 else n + 4
  | _ => if n % 4 = 0 then n + 1 else n - 1

/-- The block offset of swing cell k (R99). -/
def swingOffset (k : Nat) : Nat := [7, 31, 57, 33].getD k 0

/-- Support cells by chain: domain, first position, number (R100). -/
def supportBlocks : List (Nat × Nat × Nat × Nat) :=
  [(0, sd 0, 256, 12), (0, sd 4, 268, 8), (0, sd 6, 276, 12),
   (1, sd 1, 256, 12), (1, sd 5, 268, 8), (1, sd 7, 276, 12),
   (2, sd 0, 256, 12), (2, sd 12, 268, 12), (2, sd 13, 280, 4), (2, sd 14, 284, 4),
   (3, sd 1, 256, 12), (3, sd 12, 268, 12), (3, sd 11, 280, 8),
   (4, sd 2, 256, 12), (4, sd 15, 268, 8), (4, sd 8, 276, 12),
   (5, sd 3, 256, 12), (5, sd 15, 268, 8), (5, sd 9, 276, 12),
   (6, sd 2, 256, 12), (6, sd 4, 268, 8), (6, sd 10, 276, 12),
   (7, sd 3, 256, 12), (7, sd 5, 268, 8), (7, sd 14, 276, 4), (7, sd 15, 280, 8)]

/-- Chain and position of a cell (R9, R98). -/
def chainOf (i : Nat) : Nat := i / 288
def posOf (i : Nat) : Nat := i % 288
/-- The cell at a position of a chain. -/
def cellAt (c p : Nat) : Nat := c * 288 + p

/-- The home domain of a cell (R98, R100). -/
def homeDom (i : Nat) : Nat :=
  if posOf i < 256 then 4 * chainOf i + (3 - posOf i / 64)
  else match supportBlocks.find? (fun b => b.1 == chainOf i && decide (b.2.2.1 ≤ posOf i) && decide (posOf i < b.2.2.1 + b.2.2.2)) with
    | some b => b.2.1
    | none => 0

/-- The swing number of a cell, if it is a swing cell (R99). -/
def swingNo (i : Nat) : Option Nat :=
  if posOf i < 256 then (List.range 4).find? (fun k => swingOffset k == posOf i % 64) else none

/-- The address of swing cell k of TDn. -/
def swingCell (n k : Nat) : Nat := cellAt (n / 4) ((3 - n % 4) * 64 + swingOffset k)

/-- The domain a swing cell faces; a cell that is none faces its own. -/
def facing (i : Nat) : Nat :=
  match swingNo i with
  | some k => swingFaces (homeDom i) k
  | none => homeDom i

/-- The home cells of a domain, swing cells included, in ascending address (R378). -/
def homeCells (d : Nat) : List Nat :=
  if d < 32 then (List.range 64).map fun k => cellAt (d / 4) ((3 - d % 4) * 64 + k)
  else (supportBlocks.filter (·.2.1 == d)).flatMap fun b => (List.range b.2.2.2).map fun k => cellAt b.1 (b.2.2.1 + k)

/-- The eight cells that the BOOT line reaches (R372). -/
def bootCells : List Nat := homeCells (sd 14)

/-- The swing cells that can face a domain, in the order of R413: north, east, south, west of it, ascending swing number. -/
def coverCandidates (d : Nat) : List Nat :=
  let nbr := (if d ≥ 4 then [d - 4] else []) ++ (if d % 4 < 3 then [d + 1] else [])
    ++ (if d < 28 then [d + 4] else []) ++ (if d % 4 > 0 then [d - 1] else [])
  if d < 32 then
    nbr.flatMap fun n => ((List.range 4).filter fun k => swingFaces n k == d).map (swingCell n)
  else []

/-- Number of cells a domain owns (R16, R18). -/
def domSize (d : Nat) : Nat := (homeCells d).length

/-- Set-point range of R18 as voltage codes. -/
def vRange (d : Nat) : Nat × Nat :=
  if d < 32 then (1800, 3800)
  else match d - 32 with
    | 0 | 1 | 2 | 3 => (2400, 3600)
    | 4 | 5 | 12 => (2400, 3400)
    | 6 | 7 | 8 | 9 | 10 | 11 => (3000, 3800)
    | 13 => (3000, 3000)
    | 14 => (3200, 3200)
    | _ => (1800, 2800)

/-- Lane pair and slot of a domain (R145). -/
def laneOf (d : Nat) : Nat := if d < 32 then d / 4 else (d - 32) / 2
def slotOf (d : Nat) : Nat := if d < 32 then d % 4 else 4 + (d - 32) % 2
/-- The six domains of a lane pair. -/
def laneDoms (k : Nat) : List Nat := [4 * k, 4 * k + 1, 4 * k + 2, 4 * k + 3, sd (2 * k), sd (2 * k + 1)]

/-- The domain row of a tile domain (R15). -/
def domRow (d : Nat) : Nat := d / 4

/-- The domains that have home cells on chain c: its four tile domains, then its support domains. -/
def chainDoms (c : Nat) : List Nat :=
  [4 * c, 4 * c + 1, 4 * c + 2, 4 * c + 3] ++ ((supportBlocks.filter (·.1 == c)).map (·.2.1))

/-- The stage of R377 in which a domain starts, 1 to 12; SD14 is adopted in stage 1. -/
def stageOf (d : Nat) : Nat :=
  if d < 32 then (if d % 8 < 4 then 5 + d % 8 else 9 + (d % 8 - 4))
  else match d - 32 with
    | 11 | 13 | 14 | 15 => 1
    | 0 | 1 | 2 | 3 => 2
    | 4 | 5 | 6 | 12 => 3
    | _ => 4

/-- The stage of R355 in which a domain stops, 1 to 4. -/
def stopStageOf (d : Nat) : Nat :=
  if d < 32 then 1
  else match d - 32 with
    | 6 | 7 | 8 | 9 | 10 => 1
    | 0 | 1 | 2 | 3 | 4 | 5 | 12 => 2
    | 11 | 13 | 15 => 3
    | _ => 4

/-! ### Present roles of the cells (R126, R141, R379) -/

/-- The domain in whose role the controller counts a cell: the domain it faces while on loan, else its own; none while it
is outside every role or between two. -/
def State.role (s : State) (i : Nat) : Option Nat :=
  let v := s.view i
  if v.out || v.moving then none else if v.lent then some (facing i) else some (homeDom i)

/-- The cells of a domain's role, in ascending address. -/
def State.roleCells (s : State) (d : Nat) : List Nat :=
  let own := (homeCells d).filter fun i => s.role i == some d
  let lent := (coverCandidates d).filter fun i => s.role i == some d
  sortBy (fun a b => decide (a ≤ b)) (own ++ lent)

/-- The domain a cell physically serves, by its selector: the number it matches against DOM of R107. An isolated cell, which has no
role, matches its home domain: R107 speaks only of the present role (DESIGN CHOICE, notes/assumptions/39.md). -/
def cellDom (i : Nat) (c : Cell) : Nat := if c.sel = .neighbour then facing i else homeDom i

/-- The swing cells on loan, as UL_LOANMAP_k numbers them: bit 4 n + k of a 128-bit map. -/
def State.lentCells (s : State) : List Nat :=
  tds.flatMap fun n => ((List.range 4).map (swingCell n)).filter fun i => (s.view i).lent

/-! ### Shared conditions -/

/-- The control clock runs and the fast side is neither in reset nor waiting for its restore (R520, R530). -/
def State.fastUp (s : State) : Bool := s.start.aon && s.clk.lock && !s.clk.fsReset

/-- The masters, the engine and the converters run: the clock is on and the reset is not asserted (R387, R388). -/
def State.fastRuns (s : State) : Bool := s.start.aon && s.clk.lock && (!s.clk.fsReset || s.clk.restoring)

/-- A domain's rail is on: its engine state is none of OFF (R171). -/
def State.domOn (s : State) (d : Nat) : Bool := !((s.dom d).st == .off)

/-- SD13 and SD11 are on: the ring logic is powered and the window is reachable (R19, R371, R465). -/
def State.ringsOn (s : State) : Bool := s.domOn (sd 13)

/-- The window is reachable: SD11 is in RUN, or holds its rail while the fast side is adopted (R371, R388). -/
def State.windowUp (s : State) : Bool :=
  s.start.aon &&
  (match (s.dom (sd 11)).st with
   | .run | .fbhold | .hold | .adopt | .frozen => true
   | _ => false)

/-- The controller is stopped: a stop sequence has been sealed (R360), or start-up never left the AON domain. -/
def State.stopped (s : State) : Bool := s.start.step == .stopped || s.start.step == .waitRestart

/-- A start-up is under way: from the AON-up step to the commit of READY (R370). -/
def State.starting (s : State) : Bool :=
  match s.start.step with
  | .aonUp | .wardenBoot | .reconcile | .bootstrap | .pllLock | .enumeration | .reference | .staging => true
  | _ => false

/-- A domain has been started: from the rise of BOOT to the fall of SD14 (R352, R357, R551). -/
def State.anyStarted (s : State) : Bool :=
  match s.start.step with
  | .bootstrap | .pllLock | .enumeration | .reference | .staging | .ready | .adoption => true
  | _ => false

/-- Adoption is under way (R388). -/
def State.adopting (s : State) : Bool := s.start.adoptStep != 0

/-- Microseconds of the watch clock. -/
def State.us (s : State) : Nat := s.clk.watch / 4

/-- Watch ticks in whole µs, the nearest, ties to even (R4, R7). -/
def ticksUs (t : Nat) : Nat := (divEven (t : Int) 4).toNat

/-- The present epoch number and the low 32 bits of it. -/
def State.epochLo (s : State) : Nat := s.ledger.epoch % 2 ^ 32
def State.epochHi (s : State) : Nat := s.ledger.epoch / 2 ^ 32 % 2 ^ 16

/-- A cell is in contact: its chain runs, or runs degraded with the cell on a segment the master reaches, and the cell took its
address (R134, R139). -/
def State.contact (s : State) (i : Nat) : Bool :=
  let c := s.chain (chainOf i)
  (match c.st with
   | .running => true
   | .degraded => decide (posOf i < c.j1) || decide (posOf i ≥ c.j2)
   | _ => false) && c.taken.any fun e => e.1 == posOf i

/-- The TAP holds the pins: EXTEST, CLAMP or HIGHZ is selected (R551). -/
def State.tapHeld (s : State) : Bool := match s.tap.ir with
  | .extest | .clamp | .highz => true
  | _ => false

/-- The tray buses take part in bus traffic: the AON domain is powered and the TAP does not hold their pins (R465, R551). -/
def State.traysUp (s : State) : Bool := s.start.aon && !s.tapHeld

/-- A wake event restarts the warden clock where it sleeps: with the AON domain up, once the warden has been started (R513, R514). -/
def State.wakeWarden (s : State) : State :=
  match s.start.step with
  | .waitPwr | .stagger => s
  | _ => if s.start.aon then { s with clk := { s.clk with warden := true } } else s

/-- A lane pair that serves none of its domains: frozen, or under the audit that must pass before it serves them again (R183). -/
def Lane.out (l : Lane) : Bool := l.st == .frozen || l.barred

/-! ### Free values -/

/-- The next free value of the model and the state that has drawn it (notes/assumptions/4.md). -/
def State.draw (s : State) : BitVec 64 × State :=
  (Config.freeValue s.freeCtr, { s with freeCtr := s.freeCtr + 1 })

/-! ### The voltage table in use (R431) -/

/-- V_MIN and V_START of a domain in the table in use, voltage codes. -/
def State.vMin (s : State) (d : Nat) : Nat := fld (s.warden.vtUse.get 0 d) 11 0
def State.vStart (s : State) (d : Nat) : Nat := fld (s.warden.vtUse.get 0 d) 27 16

/-! ### Registers of the ledger and limits that commits read -/

/-- UL_CLASS_c, UL_PURSE_CAP_d and UL_WIN_w in force. -/
def State.classReg (s : State) (c : Nat) : Word := s.ledger.cls.get 0x01000000 c
def State.capReg (s : State) (d : Nat) : Word := s.ledger.caps.get 0 d
def State.winReg (s : State) (w : Nat) : Word :=
  s.limits.win.get ([0x07080000, 0x0708044C, 0x05DC03E8].getD w 0) w
def State.cellDomReg (s : State) (d : Nat) : Word := s.eng.cellDom.get 0x0F0C1612 d

/-- The converter number of DSCd or HKCk (R212): DSC d is d, HKC k is 48 + k. -/
def hkcConv (k : Nat) : Nat := 48 + k

end Sys2Proof.Machine
end

