-- ==== Sys2Proof/Machine/Vault.lean ====
section
/-! DEFINITION. The vault's MRAM as byte memory in one canonical form, its layout (R453 to R455), and the queue of word
writes (R456).  A byte that nothing has written reads as Memory.erased (notes/assumptions/5.md). -/

namespace Sys2Proof.Machine

/-! ### Byte memory -/

/-- What an unlisted byte of the vault reads as: erased MRAM. DESIGN CHOICE, unsafe (notes/assumptions/5.md). -/
def Memory.erased : Byte := 0

/-- The vault's size in bytes (R453). -/
def Memory.size : Nat := 0x40000

/-- The byte at an address. -/
def Memory.read : List Host.Cell → Nat → Byte
  | [], _ => Memory.erased
  | (k, b) :: t, a => if k = a then b else Memory.read t a

/-- Write one byte: the list stays sorted, and a byte equal to the erased value is not listed. -/
def Memory.write : List Host.Cell → Nat → Byte → List Host.Cell
  | [], a, v => if v = Memory.erased then [] else [(a, v)]
  | (k, b) :: t, a, v =>
    if a < k then (if v = Memory.erased then (k, b) :: t else (a, v) :: (k, b) :: t)
    else if a = k then (if v = Memory.erased then t else (a, v) :: t)
    else (k, b) :: Memory.write t a v

/-- The canonical form: addresses strictly rising from a bound, none listed at the erased value. -/
def Memory.wfFrom : Nat → List Host.Cell → Bool
  | _, [] => true
  | lo, (k, b) :: t => decide (lo ≤ k) && !(b == Memory.erased) && Memory.wfFrom (k + 1) t

/-- The canonical form of a memory. -/
def Memory.wf (m : List Host.Cell) : Bool := Memory.wfFrom 0 m

/-- Write bytes at rising addresses. -/
def Memory.writeBytes : List Host.Cell → Nat → List Byte → List Host.Cell
  | m, _, [] => m
  | m, a, b :: t => Memory.writeBytes (Memory.write m a b) (a + 1) t

/-- n bytes from an address. -/
def Memory.readBytes (m : List Host.Cell) (a n : Nat) : List Byte := (List.range n).map fun i => Memory.read m (a + i)

/-! ### The vault in State -/

/-- n bytes of the vault. -/
def State.vaultBytes (s : State) (a n : Nat) : List Byte := Memory.readBytes s.warden.vault a n

/-- The little-endian word of the vault at an address. -/
def State.vaultWord (s : State) (a : Nat) : Word := BitVec.ofNat 32 (bytesNat (s.vaultBytes a 4))

/-- Write bytes into the vault at once. -/
def State.vaultPut (s : State) (a : Nat) (l : List Byte) : State :=
  { s with warden := { s.warden with vault := Memory.writeBytes s.warden.vault a l } }

/-- Write words into the vault at once. -/
def State.vaultPutWords (s : State) (a : Nat) (l : List Word) : State := s.vaultPut a (wordsBytes l)

/-- The words of a vault write, two register words to one 64-bit word of R456. -/
def wordPairs : List Word → List (BitVec 64)
  | a :: b :: t => BitVec.ofNat 64 (a.toNat + 2 ^ 32 * b.toNat) :: wordPairs t
  | [a] => [BitVec.ofNat 64 a.toNat]
  | [] => []

/-- Queue a record or block for writing, behind the writes of equal precedence and before those of lower (R456). -/
def vaultQueue (j : VaultJob) : List VaultJob → List VaultJob
  | [] => [j]
  | k :: t => if j.prio < k.prio then j :: k :: t else k :: vaultQueue j t

/-- Queue words for a record. -/
def State.vaultJob (s : State) (prio recNo addr : Nat) (l : List Word) : State :=
  { s with warden := { s.warden with jobs := vaultQueue { prio := prio, recNo := recNo, addr := addr, words := wordPairs l } s.warden.jobs } }

/-- Write out at once every queued write of a record. -/
def State.vaultFlush (s : State) (recNo : Nat) : State :=
  let mine := s.warden.jobs.filter (·.recNo == recNo)
  let s1 := { s with warden := { s.warden with jobs := s.warden.jobs.filter fun j => !(j.recNo == recNo) } }
  mine.foldl (fun s j => s.vaultPut j.addr (j.words.flatMap fun w => natBytes 8 w.toNat)) s1

/-! ### Layout (R453, R454) -/

def patchSelAddr : Nat := 0x00000
def patchSlotAddr (k : Nat) : Nat := 0x01000 + 0x8000 * k
def vtCopyAddr (copyC : Bool) : Nat := if copyC then 0x12000 else 0x11000
def stateBlockAddr (k : Nat) : Nat := 0x13000 + 0x1000 * k
def stopRecAddr (slot : Nat) : Nat := 0x15000 + 128 * slot
def incRecAddr (slot : Nat) : Nat := 0x17000 + 32 * slot
/-- Record numbers of R453. -/
def stopRecNo (slot : Nat) : Nat := 4096 + slot
def incRecNo (slot : Nat) : Nat := slot
def vtRecNo (copyC : Bool) : Nat := if copyC then 8193 else 8192
def stateBlockNo (k : Nat) : Nat := 8194 + k

/-! ### Stop records (R358, R359) -/

/-- The open part of slot n is valid: a nonzero SEQ and a correct CRC. -/
def State.stopOpenValid (s : State) (slot : Nat) : Bool :=
  let a := stopRecAddr slot
  s.vaultWord a != 0 && crc32 (s.vaultBytes a 0x28) == s.vaultWord (a + 0x28)

/-- The seal part of slot n is valid. -/
def State.stopSealValid (s : State) (slot : Nat) : Bool :=
  let a := stopRecAddr slot
  crc32 (s.vaultBytes (a + 0x2C) 0x14) == s.vaultWord (a + 0x40)

/-- The slot of the valid stop record with the highest SEQ. -/
def State.stopLatest (s : State) : Option Nat :=
  (List.range 64).foldl (fun best k =>
    if s.stopOpenValid k then
      match best with
      | none => some k
      | some b => if (s.vaultWord (stopRecAddr b)).toNat < (s.vaultWord (stopRecAddr k)).toNat then some k else some b
    else best) none

/-- The highest SEQ among the valid incident records, 0 of none (R455). -/
def State.incHighest (s : State) : Nat :=
  (List.range 2048).foldl (fun best k =>
    let a := incRecAddr k
    if s.vaultWord a != 0 && crc32 (s.vaultBytes a 0x1C) == s.vaultWord (a + 0x1C) then max best (s.vaultWord a).toNat
    else best) 0

/-! ### The state block (R455) -/

/-- A state block is valid: its CRC is correct and its SEQ is not 0. -/
def State.stateBlockValid (s : State) (k : Nat) : Bool :=
  let a := stateBlockAddr k
  s.vaultWord a != 0 && crc32 (s.vaultBytes a 0x440) == s.vaultWord (a + 0x440)

/-- The valid state block with the higher SEQ. -/
def State.stateBlockLatest (s : State) : Option Nat :=
  match s.stateBlockValid 0, s.stateBlockValid 1 with
  | true, true => if (s.vaultWord (stateBlockAddr 0)).toNat ≥ (s.vaultWord (stateBlockAddr 1)).toNat then some 0 else some 1
  | true, false => some 0
  | false, true => some 1
  | false, false => none

/-- The fault state in the code of UL_FLT_STAT.STATE (R425). -/
def fltCode : FltSt → Nat
  | .normal => 0
  | .handling => 1
  | .recovering => 2

/-- UL_FLT_CNT_s (R426). -/
def State.fltCnt (s : State) (src : Nat) : Word :=
  pack [(31, 24, s.flt.lasting.get 0 src), (23, 16, s.flt.trans.get 0 src), (15, 0, s.flt.raised.get 0 src)]

/-- The words of a bit map of n words whose set bits are listed. -/
def mapWords (n : Nat) (l : List Nat) : List Word :=
  (List.range n).map fun k => BitVec.ofNat 32 (ofBits ((l.filter fun i => decide (32 * k ≤ i) && decide (i < 32 * k + 32)).map (· - 32 * k)))

/-- The words of the state block with a SEQ, its CRC last (R455). -/
def State.stateBlockWords (s : State) (seq : Nat) : List Word :=
  let body : List Word :=
    [BitVec.ofNat 32 seq, BitVec.ofNat 32 (fltCode s.flt.st), BitVec.ofNat 32 s.flt.nextInc, BitVec.ofNat 32 s.stopq.nextSeq,
      pack [(31, 16, s.flt.recovCnt), (15, 0, s.flt.lastCnt)], 0, 0, 0]
    ++ (List.range 48).map s.fltCnt
    ++ [BitVec.ofNat 32 s.flt.pend, BitVec.ofNat 32 (s.flt.pend / 2 ^ 32)] ++ List.replicate 6 0
    ++ mapWords 72 s.flt.shed ++ mapWords 136 s.sense.struck
  body ++ [crc32 (wordsBytes body)]

/-- Queue the state block for writing: into the block with the lower SEQ, with one above the higher (R455). A block still
queued is replaced by the newer contents. -/
def State.writeStateBlock (s : State) : State :=
  let k := match s.stateBlockLatest with
    | some 0 => 1
    | _ => 0
  let seq := match s.stateBlockLatest with
    | some j => (s.vaultWord (stateBlockAddr j)).toNat + 1
    | none => 1
  let s1 := { s with warden := { s.warden with
    jobs := s.warden.jobs.filter (fun j => !(j.recNo == stateBlockNo k))
    blockTick := some s.clk.watch } }
  s1.vaultJob 4 (stateBlockNo k) (stateBlockAddr k) (s1.stateBlockWords seq)

/-- Watch-clock ticks of 1 ms. -/
def blockTicks : Nat := 4000

/-- What the collector keeps has changed since: the state block is written once 1 ms has passed since the latest write (R419, R455). -/
def State.stateBlockTurn (s : State) : State :=
  if s.flt.blockDue && (s.warden.blockTick.all fun t => decide (t + blockTicks ≤ s.clk.watch)) then
    { s.writeStateBlock with flt := { s.flt with blockDue := false } }
  else s

end Sys2Proof.Machine
end

