-- ==== Sys2Proof/Machine/Events.lean ====
section
/-! DEFINITION. Event records into the event out FIFO (R485, R486) and the kinds of R486. -/

namespace Sys2Proof.Machine

/-- Places of the event out FIFO (R488). -/
def eventFifoDepth : Nat := 64

/-- Generate an event: ESEQ advances for every one, and one that finds the FIFO full is dropped and starts or goes on with a run
of drops (R469, R485), which ends when a record is written to its ring. -/
def State.pushEvent (s : State) (e : Event) : State :=
  let e' := { e with epoch := s.ledger.epoch, eseq := s.rings.eseq }
  let r := { s.rings with eseq := (s.rings.eseq + 1) % 65536 }
  if s.rings.eventOut.length < eventFifoDepth then { s with rings := { r with eventOut := s.rings.eventOut ++ [e'] } }
  else
    { s with
      rings := r
      flt := { s.flt with eventLostRun := true } }

/-! The kinds of R486. -/
def evFault (src obj inc react srcs : Nat) : Event :=
  { kind := 1, sub := src, obj := obj, d0 := inc, d1 := react, d2 := srcs % 2 ^ 32, d3 := srcs / 2 ^ 32 }
def evRecover (cnt inc : Nat) : Event := { kind := 2, d0 := cnt, d1 := inc }
def evReady (us miss : Nat) : Event := { kind := 3, d0 := us, d1 := miss }
def evAdopt (us stat stopped : Nat) : Event :=
  { kind := 4, d0 := us, d1 := stat, d2 := stopped % 2 ^ 32, d3 := stopped / 2 ^ 32 }
/-- SUB 0 restarted, 1 given up, 2 raised to V_MIN. -/
def evDomain (sub d vset : Nat) : Event := { kind := 5, sub := sub, obj := d, d0 := vset }
def evHintExpired (tile tag sEpoch : Nat) : Event := { kind := 6, obj := tile, d0 := tag, d1 := sEpoch % 2 ^ 32 }
def evThermWarn (n : Nat) (temp rate : Int) : Event :=
  { kind := 7, obj := n, d0 := toCode 16 temp * 2 ^ 16 + toCode 16 rate }
def evStop (cause seq : Nat) : Event := { kind := 8, d0 := cause, d1 := seq }
/-- SUB 0 solo, 1 up, 2 down, 3 q_symp change, 4 entry expired, 5 peer left. -/
def evPace (sub origin q : Nat) (relay carried : Bool) (d1 : Nat := 0) : Event :=
  { kind := 9, sub := sub, obj := origin, d0 := q % 64 + b2n relay * 2 ^ 8 + b2n carried * 2 ^ 9, d1 := d1 }
def evRepeatBreak (cause cnt : Nat) : Event := { kind := 10, d0 := cause, d1 := cnt }
/-- SUB 0 patch rejected, 1 warm restart. -/
def evWarden (sub stat : Nat) : Event := { kind := 11, sub := sub, d0 := stat }

end Sys2Proof.Machine
end

