-- ==== Sys2Proof/Machine/Registers.lean ====
section
/-! DEFINITION. The register window as it reads: every register of the consolidated map (R535), the fields updated at each
epoch commit (R244) with the views a freeze holds (R249), and which offsets are assigned (R532). -/

namespace Sys2Proof.Machine

/-! ### Codes -/

/-- A Q1.30 voltage (1 mV = 2^20, R151) as a voltage code of 0.25 mV. -/
def vCodeQ (x : Int) : Nat := satU 12 (divEven x (2 ^ 18))

/-- A voltage in 1/64 mV as a voltage code. -/
def vCode64 (x : Int) : Nat := satU 12 (divEven x 16)

/-- The engine state in the code of R170. -/
def engCode : EngSt → Nat
  | .off => 0 | .start => 1 | .run => 2 | .stop => 3 | .hold => 4 | .adopt => 5 | .frozen => 6 | .fbhold => 7

/-- UL_CHAIN_STAT_c.STATE (R139). -/
def chainCode : ChainSt → Nat
  | .down => 0 | .enumerating => 1 | .running => 2 | .degraded => 3

/-- UL_LANESTAT_k.STATE (R192). -/
def laneCode : LaneSt → Nat
  | .normal => 0 | .audit => 1 | .frozen => 2

/-- UL_PACE_STAT.STATE (R338). -/
def paceCode : PaceSt → Nat
  | .off => 0 | .discovering => 1 | .up => 2 | .solo => 3 | .down => 4

/-- UL_POL_STAT.STATE (R461). -/
def polCode : PolSt → Nat
  | .empty => 0 | .loaded => 1 | .running => 2 | .stopped => 3 | .failed => 4

/-- UL_START_STAT.STEP (R396). -/
def stepCode : Step_ → Nat
  | .waitPwr => 0 | .stagger => 1 | .aonUp => 2 | .wardenBoot => 3 | .waitRestart => 4 | .reconcile => 5 | .bootstrap => 6
  | .pllLock => 7 | .enumeration => 8 | .reference => 9 | .staging => 10 | .ready => 11 | .adoption => 12 | .stopped => 13

/-- A 32-bit word of a number, an extreme code when beyond it (R4). -/
def word32 (x : Int) : Word := BitVec.ofNat 32 (satU 32 x)

/-- A signed 32-bit word of a number. -/
def sword32 (x : Int) : Word := BitVec.ofNat 32 (toCode 32 (satS 32 x))

/-! ### The default reactions and the reactions of a source (R403, R426) -/

/-- The Default column of R403. -/
def defaultReact (src : Nat) : Nat :=
  [1, 1, 1, 17, 1, 1, 1, 1, 1, 17, 1, 17, 17, 17, 1, 17, 1, 23, 22, 1, 1, 1, 17, 17, 1, 1, 1, 1, 1, 1, 17, 1, 1, 17, 17,
    22, 22, 17, 3, 17, 1, 7, 1, 3, 2].getD src 0

/-- UL_FLT_REACT_s.REACT in force. -/
def State.reactOf (s : State) (src : Nat) : Nat := s.flt.react.get (defaultReact src) src

/-! ### Struck points (R227, R240) -/

/-- The global point index of a point channel of a domain (R196). -/
def pointIndex (d ch : Nat) : Nat :=
  if d < 32 then ((domTiles d).getD (ch / 4) 0) * 4 + ch % 4 else 4096 + 16 * (d - 32) + ch

/-- The number of point channels of a domain. -/
def pointCount (d : Nat) : Nat := if d < 32 then 128 else 16

/-- The domain and channel of a global point. -/
def pointDom (p : Nat) : Nat := if p < 4096 then tileDom (p / 4) else 32 + (p - 4096) / 16
def pointChannel (p : Nat) : Nat := if p < 4096 then 4 * tileLocal (p / 4) + p % 4 else (p - 4096) % 16

/-- The struck channels of a domain. -/
def State.struckOf (s : State) (d : Nat) : List Nat := (s.sense.struck.filter (pointDom · == d)).map pointChannel

/-- UL_SP_STRUCK_i of a domain. -/
def State.struckWord (s : State) (d i : Nat) : Word :=
  BitVec.ofNat 32 (ofBits (((s.struckOf d).filter fun c => c / 32 == i).map (· % 32)))

/-! ### The tile record (R251) -/

/-- The tile record of the latest commit. -/
def State.tileRec (s : State) (t : Nat) : BitVec 64 :=
  let x := s.tile t
  let h := match x.hint with
    | none => 0
    | some h => match h.st with
      | .pending => 1
      | .pre => 2
      | .active => 3
      | .ended => 0
  BitVec.ofNat 64 (packN [(63, 48, x.allow), (47, 32, x.est), (31, 16, x.demand), (15, 12, x.cls), (11, 5, quotaPart x.quota),
    (4, 3, h), (2, 2, b2n x.cntSat), (1, 1, b2n x.recLate), (0, 0, b2n x.miss)])
where
  quotaPart (c : Nat) : Nat := if c > 64 then c - 65 else c

/-! ### The thermal quota (R342, R346, R347) -/

/-- The global index of the cache-die diode beneath a tile (R342). -/
def cacheDiode (t : Nat) : Nat := 1024 + 8 * (t / 32 / 4) + t % 32 / 4

/-- q_therm of a tile, from the levels held at ccyc 1,600 (R346, R347). -/
def State.qTherm (s : State) (t : Nat) : Nat :=
  if s.diodes.all (fun e => e.2.latched == 0) then 0
  else
    let sup := (List.range 32).foldl (fun m b => max m (s.diode (1088 + b)).latched) 0
    max (s.diode t).latched (max (s.diode (cacheDiode t)).latched sup)

/-! ### Fields updated at each epoch commit -/

/-- Fields of the latest telemetry payloads that UL_CELLSTAT gathers (R90, R96). -/
def State.tlmCells (s : State) (f : Nat → Bool) : Nat :=
  (s.views.filter fun e => match e.2.tlm with
    | some p => f p
    | none => false).length

/-- UL_DOMSTATE_n, of a domain as it stands in the last period of an epoch (R190). -/
def State.domState (s : State) (d : Nat) : Word :=
  let x := s.dom d
  pack [(31, 29, engCode x.st), (28, 28, b2n (x.sat && x.st == .run)),
    (27, 27, b2n (x.shiftHold && decide (x.vsetEff ≠ (x.vset : Int) * 2 ^ 18))), (26, 26, b2n x.lawNew),
    (25, 24, fld (x.law.getD 0 0) 31 30), (23, 12, vCode64 x.tgt), (11, 0, vCodeQ x.vsetEff)]

/-- The registers, or parts of registers, that the commit publishes (R244): each with RC, W1C and RW fields left 0. -/
def State.commitRegs (s : State) : Tab Word :=
  let held : Nat := (s.pace.entries).length
  let top := s.pace.entries.foldl (fun (b : Option PaceEntry) e => match b with
    | none => some e
    | some x => if x.q < e.q then some e else some x) none
  let thr := (s.diodes.filter fun e => decide (e.2.level > 0)).length
  let qs := (List.range 1024).map s.qTherm
  [(0x404, pack [(3, 3, b2n (s.tiles.any fun e => e.2.silent)), (2, 2, b2n (s.accts.any fun e => e.2.resClamp)),
      (1, 1, b2n (s.accts.any fun e => e.2.extrap)), (0, 0, b2n (s.tiles.any fun e => e.2.miss))]),
   (0x4E8, pack [(31, 20, (s.views.filter fun e => e.2.extrap).length), (19, 8, (s.views.filter fun e => !e.2.atLimit.isEmpty).length)]),
   (0x4FC, BitVec.ofNat 32 s.ledger.chipPwr),
   (0x554, pack [(31, 29, s.limits.bind), (28, 28, b2n (decide (s.limits.qCut > 0))), (27, 27, b2n s.limits.shiftAny),
      (26, 26, b2n s.limits.fixed), (15, 0, satU 16 (roundEven (s.limits.kIn * 32768)))]),
   (0x558, word32 (roundEven s.limits.ceil)),
   (0x55C, word32 (roundEven s.limits.pinLast)),
   (0x560, word32 (roundEven s.limits.pG)),
   (0x568, pack [(31, 21, s.limits.burnTiles)]),
   (0x804, pack [(7, 0, ofBits ((List.range 8).filter fun k => (s.lane k).st == .frozen))])]
  ++ [(0xBC4, pack [(27, 16, s.tlmCells fun p => bits p 27 25 == 4), (9, 9, b2n (decide (s.tlmCells (bitAt · 4) > 0))),
      (8, 8, b2n (decide (s.tlmCells (bitAt · 5) > 0)))])]
  ++ (allDoms.map fun d =>
      let x := s.dsc d
      (0xDC0 + 4 * d, pack [(31, 30, if x.audit.isSome then 1 else if x.degraded then 2 else 0), (29, 29, b2n x.vCov),
        (28, 28, b2n x.iCov), (27, 27, b2n x.gFail), (26, 26, b2n x.aFail), (23, 16, min 255 (s.struckOf d).length),
        (15, 8, x.trigMiss), (7, 4, x.passCnt), (3, 0, x.mismCnt)]))
  ++ ((List.range 8).map fun c =>
      let x := s.chain c
      (0x1410 + 4 * c, pack [(31, 30, chainCode x.st), (29, 21, x.j1), (20, 12, x.cells), (7, 0, x.gen)]))
  ++ ((List.range 4).map fun k =>
      (0x1450 + 4 * k, BitVec.ofNat 32 (ofBits (((List.range 32).filter fun b =>
        (s.view (swingCell (8 * k + b / 4) (b % 4))).lent)))))
  ++ [(0x1510, pack [(31, 21, (qs.filter fun q => decide (q > 0)).length), (20, 14, qs.foldl max 0), (2, 2, b2n (s.diodes.any fun e => e.2.badSet)), (1, 1, b2n (decide (thr > 0))), (0, 0, b2n s.therm.warn)]),
   (0x1604, pack [(31, 29, paceCode s.pace.st), (28, 28, b2n s.pace.leader), (27, 22, s.pace.pos), (21, 15, s.pace.size),
      (14, 14, b2n s.pace.bcast.isSome), (13, 8, match s.pace.bcast with
        | some b => b.1
        | none => 0), (6, 0, held)]),
   (0x1608, match top with
      | none => 0
      | some e => pack [(31, 26, e.q), (25, 20, if e.carried then 0 else e.origin), (19, 19, b2n e.relay), (18, 18, b2n e.carried)])]

/-- UL_DOMSTATE_n take the domains as the ending epoch leaves them, before the commit acts (R190). -/
def State.publishDoms (s : State) : State :=
  { s with pub := allDoms.foldl (fun t d => t.set (0x900 + 4 * d) (s.domState d)) s.pub }

/-- The reset value of a commit-updated register. -/
def pubReset (off : Nat) : Word := if off = 0x554 then 0x8000 else 0

/-- A commit-updated register: of the latest commit, or as held by a freeze (R249). -/
def State.readPub (s : State) (off : Nat) : Word :=
  if s.ledger.frozen then s.ledger.views.get (pubReset off) off else s.pub.get (pubReset off) off

/-! ### Time left of the quiet periods (R395, R426) -/

/-- Milliseconds left of a period of `len` ms begun at a watch tick. -/
def State.msLeft (s : State) (len : Nat) (since : Option Nat) : Nat :=
  match since with
  | none => 0
  | some t => (max 0 (roundEven (((len * 4000 : Nat) - ((s.clk.watch - t : Nat) : Int) : Int) / (4000 : Rat)))).toNat

/-! ### Register groups -/

def State.windowRegs (s : State) (off : Nat) : Word :=
  match off with
  | 0x00 => pack [(31, 16, 0x4E02), (15, 12, s.otp.sirev.toNat), (5, 0, s.start.slot)]
  | 0x04 => BitVec.ofNat 32 s.otp.lot.toNat
  | 0x08 => BitVec.ofNat 32 s.otp.die.toNat
  | 0x0C => 0x900C3C00
  | 0x10 => s.win.gctrl
  | 0x14 => s.win.scratch
  | 0x18 => pack [(31, 31, b2n s.start.ready), (30, 30, b2n s.clk.lock), (29, 29, b2n s.clk.fsReset), (28, 27, fltCode s.flt.st),
      (26, 26, b2n s.flt.errn), (25, 25, b2n s.stopq.thermTrip), (24, 24, b2n s.otp.ftLocked), (23, 20, stepCode s.start.step),
      (15, 0, s.clk.commit16)]
  | 0x1C => pack [(31, 30, s.win.code), (29, 29, b2n s.win.wr), (23, 16, s.win.cnt), (15, 0, s.win.addr)]
  | _ => 0

/-- UL_CR registers of ring i and UL_PR registers of producer ring p (R493). -/
def ringWord (r : Ring) (k : Nat) (producer : Bool) : Word :=
  match k with
  | 0 => r.baseLo
  | 1 => r.baseHi
  | 2 => pack [(31, 31, b2n r.en), (30, 30, b2n r.stopped), (3, 0, r.size)]
  | 3 => pack [(15, 0, if producer then r.head else r.tail)]
  | _ => pack [(15, 0, if producer then r.tail else r.head)]

def State.ringRegs (s : State) (off : Nat) : Word :=
  let o := off - 0x100
  if off < 0x180 then ringWord (s.rings.cr.get {} (o / 0x20)) (o % 0x20 / 4) false
  else if off < 0x1E0 then ringWord (s.rings.pr.get {} ((off - 0x180) / 0x20)) (o % 0x20 / 4) true
  else if off = 0x1E0 then s.rings.ctrl ||| pack [(31, 31, b2n s.rings.armed)]
  else if off = 0x1E4 then
    pack [(31, 31, b2n s.rings.armed), (23, 16, s.rings.tlmDrop), (11, 8, s.rings.errCode), (6, 0, s.rings.err)]
  else
    pack [(31, 31, b2n s.rings.underTrap), (30, 30, b2n s.rings.underCmd), (4, 4, b2n s.rings.trap.isEmpty),
      (3, 0, ofBits ((List.range 4).filter fun i => (s.rings.intake.get [] i).isEmpty))]

def State.startRegs (s : State) (off : Nat) : Word :=
  match off with
  | 0x200 => pack [(31, 31, b2n s.clk.lock), (30, 30, b2n s.clk.csync), (29, 29, b2n s.clk.fsReset), (23, 16, s.clk.lockLoss),
      (15, 0, s.clk.lockUs)]
  | 0x208 => BitVec.ofNat 32 s.clk.watch
  | 0x20C => BitVec.ofNat 32 s.clk.watchHi
  | 0x280 => pack [(31, 28, stepCode s.start.step), (27, 24, s.start.stage), (23, 23, b2n s.start.ready), (15, 12, s.start.fail),
      (11, 0, min 2000 (s.msLeft 2000 s.stopq.quiet))]
  | 0x284 => pack [(31, 16, s.start.readyUs), (15, 0, s.start.adoptUs)]
  | 0x288 => s.start.miss
  | 0x28C => pack [(31, 26, s.start.failDom), (25, 23, s.start.failReason), (19, 8, s.start.failAddr), (7, 0, s.start.shedCnt)]
  | 0x290 => pack [(31, 24, s.start.adoptCnt), (23, 12, s.start.adopted), (11, 0, s.start.unreach)]
  | 0x294 => BitVec.ofNat 32 s.start.adoptDom
  | 0x298 => BitVec.ofNat 32 (s.start.adoptDom / 2 ^ 32)
  | 0x29C => pack [(31, 31, b2n s.start.fsrReq), (30, 30, b2n s.start.fsrRej)]
  | _ => 0

def State.ledgerRegs (s : State) (off : Nat) : Word :=
  if 0x420 ≤ off ∧ off ≤ 0x45C then s.classReg ((off - 0x420) / 4)
  else if 0x460 ≤ off ∧ off ≤ 0x4DC then s.capReg ((off - 0x460) / 4)
  else match off with
  | 0x400 => s.ledger.ctrl
  | 0x404 => pack [(31, 16, s.ledger.recLate), (15, 8, s.ledger.cntSat), (4, 4, b2n s.ledger.cfgRej)] ||| s.readPub off
  | 0x408 => BitVec.ofNat 32 s.ledger.epoch
  | 0x40C => BitVec.ofNat 32 s.ledger.epochHi
  | 0x410 => pack [(31, 31, b2n s.ledger.frozen), (30, 30, b2n s.ledger.frozen), (29, 29, b2n s.ledger.freezeTo),
      (15, 0, s.ledger.fEpoch)]
  | 0x414 => s.ledger.treasury
  | 0x4E0 => s.ledger.hintCfg
  | 0x4E4 => pack [(31, 24, s.ledger.expired), (23, 16, s.ledger.replaced), (15, 8, s.ledger.badPkt)]
  | 0x4E8 => pack [(7, 0, s.ledger.calSkip)] ||| s.readPub off
  | 0x4EC => s.ledger.floorMiss
  | 0x4F0 => s.ledger.tileSel
  | 0x4F4 => s.ledger.recLo
  | 0x4F8 => s.ledger.recHi
  | 0x4FC => s.readPub off
  | 0x500 => pack [(15, 0, s.otp.pTileMax)]
  | 0x540 => s.limits.ctrl
  | 0x544 => s.winReg 0
  | 0x548 => s.winReg 1
  | 0x54C => s.winReg 2
  | 0x550 => s.limits.ramp
  | 0x554 => s.readPub off
  | 0x558 => s.readPub off
  | 0x55C => s.readPub off
  | 0x560 => s.readPub off
  | 0x564 => pack [(31, 24, s.limits.overs.get 0 0), (23, 16, s.limits.overs.get 0 1), (15, 8, s.limits.overs.get 0 2),
      (7, 0, s.limits.cutCnt)]
  | 0x568 => pack [(15, 8, s.limits.shortCnt), (7, 0, s.limits.violCnt)] ||| s.readPub off
  | 0x56C => pack [(31, 16, s.limits.repeatBrk)]
  | 0x570 => BitVec.ofNat 32 s.limits.fixTe
  | _ => 0

def State.engineRegs (s : State) (off : Nat) : Word :=
  if 0x840 ≤ off ∧ off ≤ 0x87C then s.eng.lawBuf.get 0 ((off - 0x840) / 4)
  else if 0x900 ≤ off ∧ off ≤ 0x9BC then s.readPub off
  else if 0x9D0 ≤ off ∧ off ≤ 0x9EC then
    let x := s.lane ((off - 0x9D0) / 4)
    pack [(31, 30, laneCode x.st), (29, 27, x.lastSlot), (15, 8, x.passCnt), (7, 0, x.mismCnt)]
  else if 0xB00 ≤ off ∧ off ≤ 0xBBC then s.cellDomReg ((off - 0xB00) / 4)
  else match off with
  | 0x800 => s.eng.ctrl
  | 0x804 => s.readPub off
  | 0x880 => pack [(31, 31, b2n s.eng.lawGo), (30, 29, s.eng.lawOp), (5, 0, s.eng.lawDom)]
  | 0x884 => pack [(31, 16, s.eng.lawTag), (11, 8, s.eng.reason), (3, 3, b2n s.eng.super), (2, 2, b2n s.eng.empty),
      (1, 1, b2n s.eng.rej), (0, 0, b2n s.eng.done)]
  | 0x9C0 => BitVec.ofNat 32 s.eng.satFlag
  | 0x9C4 => BitVec.ofNat 32 (s.eng.satFlag / 2 ^ 32)
  | 0xBC0 => s.eng.cellGlb
  | 0xBC4 => pack [(0, 0, b2n s.eng.cellRej)] ||| s.readPub off
  | _ => 0

/-- Entries 2i and 2i + 1 of a list of 16-bit entries. -/
def entryPair (l : List (BitVec 16)) (i : Nat) : Word :=
  pack [(31, 16, (l.getD (2 * i + 1) 0).toNat), (15, 0, (l.getD (2 * i) 0).toNat)]

/-- The TFLAGS layout of R241. -/
def tflags (x : TallyCopy) : Word :=
  pack [(31, 8, x.epoch), (3, 3, b2n x.restart), (2, 2, b2n x.reconf), (1, 1, b2n x.ovr), (0, 0, b2n x.full)]

/-- A GO of UL_SEQ_CTRL is not done: a list it checked waits for the end of what is in progress, and no SET_SEQUENCE waits for it
(R209, R238). -/
def State.goBusy (s : State) (d : Nat) : Bool :=
  ((s.dsc d).nextReg.isSome || (s.dsc d).nextInj.isSome) && !s.rings.flights.any fun f => decide (f.waits = .lists d)

def State.senseRegs (s : State) (off : Nat) : Word :=
  let sel := (s.dsc (fld s.sense.seqSel 5 0)).staging
  let sp := fld s.sense.spSel 5 0
  let cap := s.sense.cap
  if 0xC40 ≤ off ∧ off ≤ 0xCFC then (s.dsc ((off - 0xC40) / 4)).fb
  else if 0xD00 ≤ off ∧ off ≤ 0xDBC then (s.dsc ((off - 0xD00) / 4)).aux
  else if 0xDC0 ≤ off ∧ off ≤ 0xE7C then s.readPub off
  else if 0xE90 ≤ off ∧ off ≤ 0xE9C then entryPair sel.inj ((off - 0xE90) / 4)
  else if 0xEC0 ≤ off ∧ off ≤ 0xF3C then entryPair sel.reg ((off - 0xEC0) / 4)
  else if 0xF44 ≤ off ∧ off ≤ 0xF50 then (s.dsc sp).en.getD ((off - 0xF44) / 4) 0
  else if 0xF54 ≤ off ∧ off ≤ 0xF60 then s.struckWord sp ((off - 0xF54) / 4)
  else if 0xFB0 ≤ off ∧ off ≤ 0xFEC then s.sense.picks.get 0xFFFFFFFF ((off - 0xFB0) / 4)
  else match off with
  | 0xC00 => s.sense.ctrl
  | 0xC04 => pack [(7, 7, b2n s.sense.cfgRej), (6, 6, b2n s.sense.restRej), (5, 5, b2n s.sense.refFail),
      (4, 4, b2n s.sense.refPend.isSome), (3, 2, s.sense.refAct), (0, 0, b2n s.sense.refRdy)]
  | 0xC0C => s.sense.plaus
  | 0xE80 => s.sense.seqSel
  | 0xE84 => pack [(31, 31, b2n (s.goBusy (fld s.sense.seqSel 5 0))), (22, 16, sel.len), (11, 8, sel.injLen)]
  | 0xE88 => pack [(20, 0, sel.mask)]
  | 0xF40 => s.sense.spSel
  | 0xF80 => s.sense.tallySel
  | 0xF84 => BitVec.ofInt 32 cap.sum
  | 0xF88 => BitVec.ofInt 32 (cap.sum / 2 ^ 32)
  | 0xF8C => BitVec.ofNat 32 cap.count
  | 0xF90 => BitVec.ofInt 32 cap.min
  | 0xF94 => BitVec.ofInt 32 cap.max
  | 0xF98 => tflags cap
  | 0xFA0 => s.readPub off
  | _ => 0

def State.faultRegs (s : State) (off : Nat) : Word :=
  if 0x1040 ≤ off ∧ off ≤ 0x10FC then
    (if (off - 0x1040) / 4 < 45 then BitVec.ofNat 32 (s.reactOf ((off - 0x1040) / 4)) else 0)
  else if 0x1100 ≤ off ∧ off ≤ 0x11BC then s.fltCnt ((off - 0x1100) / 4)
  else if 0x1200 ≤ off ∧ off ≤ 0x12BC then BitVec.ofNat 32 (s.flt.obj.get 0 ((off - 0x1200) / 4))
  else match off with
  | 0x1000 => s.flt.ctrl ||| pack [(30, 30, b2n s.flt.clrBusy)]
  | 0x1004 => pack [(31, 30, fltCode s.flt.st), (29, 29, b2n s.flt.errn), (28, 28, b2n s.flt.overrun), (27, 27, b2n s.flt.cfgRej),
      (21, 16, s.flt.inc.first), (15, 8, min 255 s.flt.inc.merged), (7, 0, min 255 s.flt.inc.audits)]
  | 0x1008 => BitVec.ofNat 32 s.flt.inc.seq
  | 0x100C => BitVec.ofNat 32 s.flt.pend
  | 0x1010 => BitVec.ofNat 32 (s.flt.pend / 2 ^ 32)
  | 0x1014 => pack [(15, 0, min 65535 (s.msLeft (fld s.flt.ctrl 15 0) s.flt.quiet))]
  | 0x1018 => pack [(31, 24, s.flt.shedDefer), (23, 16, (s.lentCells.filter fun i => (s.view i).cover).length), (11, 0, s.flt.shed.length)]
  | 0x101C => pack [(31, 16, s.flt.recovCnt), (15, 0, s.flt.lastCnt)]
  | _ => 0

def State.chainRegs (s : State) (off : Nat) : Word :=
  if 0x1410 ≤ off ∧ off ≤ 0x142C then s.readPub off
  else if 0x1430 ≤ off ∧ off ≤ 0x144C then
    let x := s.chain ((off - 0x1430) / 4)
    pack [(31, 16, x.crcCnt), (15, 8, x.retryCnt), (7, 0, x.tlmDrop)]
  else if 0x1450 ≤ off ∧ off ≤ 0x145C then s.readPub off
  else match off with
  | 0x1400 => pack [(8, 8, b2n s.creg.rescueEn), (7, 0, s.creg.loopReq)]
  | 0x1460 => pack [(23, 16, s.lentCells.length), (15, 8, s.creg.abortCnt), (7, 0, s.creg.staleCnt)]
  | 0x1500 => s.therm.rate
  | 0x1504 => s.therm.lim
  | 0x1508 => s.therm.hot
  | 0x150C => s.therm.rise
  | 0x1510 => s.readPub off
  | 0x1514 => pack [(31, 16, s.therm.warnCnt), (15, 0, s.therm.throtCnt)]
  | 0x1520 => pack [(31, 31, b2n s.start.flowOk), (30, 30, b2n s.stopq.thermTrip), (29, 27, s.stopq.stage), (15, 0, s.stopq.cause)]
  | 0x1524 => BitVec.ofNat 32 s.stopq.seq
  | 0x1528 => pack [(31, 16, s.stopq.fallCnt), (15, 0, s.stopq.glitchCnt)]
  | 0x1600 => s.pace.ctrl
  | 0x1604 => s.readPub off
  | 0x1608 => s.readPub off
  | 0x160C => pack [(31, 16, s.pace.crcCnt), (15, 8, s.pace.downCnt), (7, 0, s.pace.expireCnt)]
  | 0x1610 => BitVec.ofNat 32 s.pace.sympEpochs
  | 0x1614 => BitVec.ofInt 32 (roundEven s.pace.saved)
  | 0x1618 => BitVec.ofNat 32 s.pace.savedHi
  | _ => 0

/-- UL_WMB_STAT of a channel (R457). -/
def mboxStat (m : Mbox) : Word :=
  pack [(31, 31, b2n m.busy), (30, 30, b2n m.done), (23, 16, m.tag), (7, 0, m.status)]

def State.wardenRegs (s : State) (off : Nat) : Word :=
  let m := s.warden.mboxW
  if 0x1808 ≤ off ∧ off ≤ 0x1814 then m.args.get 0 ((off - 0x1808) / 4)
  else if 0x1818 ≤ off ∧ off ≤ 0x1824 then m.res.get 0 ((off - 0x1818) / 4)
  else if 0x1840 ≤ off ∧ off ≤ 0x187C then m.data.get 0 ((off - 0x1840) / 4)
  else if 0x18C0 ≤ off ∧ off ≤ 0x18FC then
    let i := (off - 0x18C0) / 4
    pack [(31, 16, s.warden.fcap.get 0 (2 * i + 1)), (15, 0, s.warden.fcap.get 0 (2 * i))]
  else if 0x1720 ≤ off ∧ off ≤ 0x173C then
    let x := s.avs.links.get {} ((off - 0x1720) / 8)
    if off % 8 = 0 then x.vi else x.ts
  else match off with
  | 0x1700 => pack [(31, 31, b2n s.smb.resolved), (30, 30, b2n s.smb.valid), (29, 23, s.smb.addr), (15, 8, s.smb.pecErr),
      (7, 0, s.smb.timeouts)]
  | 0x1710 => s.avs.ctrl
  | 0x1714 =>
    let on (f : AvsLink → Bool) : Nat := ofBits ((List.range 4).filter fun k => f (s.avs.links.get {} k))
    pack [(31, 20, s.avs.trim), (19, 19, b2n s.avs.boost), (15, 12, on (·.err)), (11, 8, on (·.alert)), (7, 0, s.avs.retry)]
  | 0x1800 => pack [(23, 16, m.cmdTag), (7, 0, m.op)]
  | 0x1804 => mboxStat m
  | 0x1880 => s.policy.ctrl
  | 0x1884 => s.policy.env
  | 0x1888 => pack [(31, 29, polCode s.policy.st), (23, 16, s.policy.faultCnt), (15, 8, s.policy.clampCnt), (7, 0, s.policy.refuseCnt)]
  | 0x188C => BitVec.ofNat 32 s.policy.treas
  | 0x18A0 => pack [(31, 24, 1), (23, 16, s.warden.svn), (15, 14, s.warden.patch), (13, 13, s.warden.slot),
      (12, 12, b2n s.warden.committed), (7, 0, s.warden.warmCnt)]
  | 0x18A4 => pack [(31, 30, s.warden.vtSrc), (29, 29, b2n s.warden.bOk), (28, 28, b2n s.warden.cOk), (27, 27, b2n s.warden.updBusy),
      (26, 26, b2n s.warden.updRej), (8, 0, s.warden.vtStaged.length)]
  | 0x18A8 => BitVec.ofNat 32 s.warden.vtSeq
  | _ => 0

/-- A register as a read returns it, without the read's side effects; 0 where no register is assigned (R532). -/
def State.readReg (s : State) (off : Nat) : Word :=
  if off < 0x20 then s.windowRegs off
  else if off < 0x100 then 0
  else if off < 0x200 then s.ringRegs off
  else if off < 0x300 then s.startRegs off
  else if off < 0x400 then 0
  else if off < 0x800 then s.ledgerRegs off
  else if off < 0xC00 then s.engineRegs off
  else if off < 0x1000 then s.senseRegs off
  else if off < 0x1400 then s.faultRegs off
  else if off < 0x1700 then s.chainRegs off
  else if off < 0x1900 then s.wardenRegs off
  else if off = 0x8040 then s.win.ftInj
  else 0

/-- An offset that the consolidated map assigns (R535). -/
def assigned (off : Nat) : Bool :=
  off % 4 == 0 &&
  (decide (off < 0x20) ||
   ((decide (0x100 ≤ off) && decide (off < 0x1E0)) && decide (off % 0x20 ≤ 0x10)) ||
   [0x1E0, 0x1E4, 0x1E8, 0x200, 0x208, 0x20C].contains off ||
   (decide (0x280 ≤ off) && decide (off ≤ 0x29C)) ||
   (decide (0x400 ≤ off) && decide (off ≤ 0x414)) || (decide (0x420 ≤ off) && decide (off ≤ 0x500)) ||
   (decide (0x540 ≤ off) && decide (off ≤ 0x570)) ||
   [0x800, 0x804, 0x880, 0x884, 0x9C0, 0x9C4].contains off ||
   (decide (0x840 ≤ off) && decide (off ≤ 0x87C)) || (decide (0x900 ≤ off) && decide (off ≤ 0x9BC)) ||
   (decide (0x9D0 ≤ off) && decide (off ≤ 0x9EC)) || (decide (0xB00 ≤ off) && decide (off ≤ 0xBC4)) ||
   (decide (0xC00 ≤ off) && decide (off ≤ 0xC0C)) || (decide (0xC40 ≤ off) && decide (off ≤ 0xCFC)) ||
   (decide (0xD00 ≤ off) && decide (off ≤ 0xE88)) || (decide (0xE90 ≤ off) && decide (off ≤ 0xE9C)) ||
   (decide (0xEC0 ≤ off) && decide (off ≤ 0xF64)) || (decide (0xF80 ≤ off) && decide (off ≤ 0xFA0)) ||
   (decide (0xFB0 ≤ off) && decide (off ≤ 0xFEC)) ||
   (decide (0x1000 ≤ off) && decide (off ≤ 0x101C)) || (decide (0x1040 ≤ off) && decide (off ≤ 0x10FC)) ||
   (decide (0x1100 ≤ off) && decide (off ≤ 0x11BC)) || (decide (0x1200 ≤ off) && decide (off ≤ 0x12BC)) ||
   off == 0x1400 || (decide (0x1410 ≤ off) && decide (off ≤ 0x1460)) ||
   (decide (0x1500 ≤ off) && decide (off ≤ 0x1514)) || (decide (0x1520 ≤ off) && decide (off ≤ 0x1528)) ||
   (decide (0x1600 ≤ off) && decide (off ≤ 0x1618)) ||
   [0x1700, 0x1710, 0x1714].contains off || (decide (0x1720 ≤ off) && decide (off ≤ 0x173C)) ||
   (decide (0x1800 ≤ off) && decide (off ≤ 0x1824)) || (decide (0x1840 ≤ off) && decide (off ≤ 0x188C)) ||
   (decide (0x18A0 ≤ off) && decide (off ≤ 0x18A8)) || (decide (0x18C0 ≤ off) && decide (off ≤ 0x18FC)) ||
   off == 0x8040)

/-- The control-clock range, whose accesses wait while that clock is off or the fast side is in reset (R519). -/
def controlRange (off : Nat) : Bool := decide (0x400 ≤ off) && decide (off < 0x1700)

end Sys2Proof.Machine
end

