-- ==== Sys2Proof/Machine/Flags.lean ====
section
/-! DEFINITION. The status bits of the PMBus subset (R499), formed from the present state, and the drive of ALERT_N on a rise of
one of them (R501). -/

namespace Sys2Proof.Machine

/-- Source s is pending in UL_FLT_PEND. -/
def State.isPending (s : State) (src : Nat) : Bool := bitAt s.flt.pend src

/-- STATUS_TEMPERATURE (R499): bit 7 while the latest stop record has cause RATE, ABS or COMP and is open, bit 6 while
UL_THERM_STAT shows THROT or WARN. -/
def State.statusTemperature (s : State) : Nat :=
  let ot := s.stopq.exists_ && !s.stopq.cleared && (bitAt s.stopq.cause 2 || bitAt s.stopq.cause 3 || bitAt s.stopq.cause 4)
  let th := s.readPub 0x1510
  packN [(7, 7, b2n ot), (6, 6, b2n (wbit th 1 || wbit th 0))]

/-- STATUS_MFR_SPECIFIC (R499). -/
def State.statusMfr (s : State) : Nat :=
  packN [(7, 7, b2n (!(s.flt.st == .normal))), (6, 6, b2n s.stopped), (5, 5, b2n s.smb.restRej),
    (4, 4, b2n (s.stopq.quiet.isSome || s.flt.quiet.isSome)), (3, 3, b2n s.warden.mboxP.done), (1, 1, b2n s.smb.noClk),
    (0, 0, b2n s.stopq.thermTrip)]

/-- The bits of STATUS_WORD from 15 down to 11 (R499). -/
def State.statusHigh (s : State) : Nat :=
  packN [(15, 15, b2n (s.isPending 14 || s.isPending 15 || s.isPending 19)), (14, 14, b2n (s.isPending 30)),
    (13, 13, b2n (s.isPending 33 || s.isPending 34 || s.isPending 29)), (12, 12, b2n (decide (s.statusMfr ≠ 0))),
    (11, 11, b2n !s.start.ready)]

/-- STATUS_BYTE (R499). -/
def State.statusByte (s : State) : Nat :=
  packN [(7, 7, b2n (s.warden.mboxP.busy || s.warden.mboxW.busy)), (6, 6, b2n !s.start.ready), (4, 4, b2n (s.isPending 30)),
    (3, 3, b2n (s.isPending 33)), (2, 2, b2n (decide (s.statusTemperature ≠ 0))), (1, 1, b2n (decide (s.smb.cml ≠ 0))),
    (0, 0, b2n (decide (s.statusHigh / 2 ^ 12 ≠ 0)))]

/-- STATUS_WORD (R499): STATUS_BYTE in bits 7:0. -/
def State.statusWord (s : State) : Nat := s.statusHigh + s.statusByte

/-- The bits whose rise drives ALERT_N: STATUS_WORD 15 to 12 and STATUS_BYTE 2 and 1 (R501). -/
def State.alertBits (s : State) : Nat :=
  packN [(15, 12, s.statusHigh / 2 ^ 12), (2, 1, s.statusByte / 2)]

/-- Drive ALERT_N low when one of its bits has risen since they were last looked at; without an assigned address it is not
driven (R501). -/
def State.alertUpdate (s : State) : State :=
  let now := s.alertBits
  let rose := (List.range 16).any fun i => bitAt now i && !bitAt s.smb.seen i
  { s with smb := { s.smb with seen := now, alert := s.smb.alert || (rose && s.smb.valid) } }

end Sys2Proof.Machine
end

