-- ==== Sys2Proof/Machine/StopOps.lean ====
section
/-! DEFINITION. The stop record (R358, R359), the latching of a stop cause in each situation (R29, R352, R357, R383) and the seal
that leaves the controller stopped (R354, R360). -/

namespace Sys2Proof.Machine

/-- Cause bits of R353. -/
def causeFlow : Nat := 1
def causePwr : Nat := 2
def causeRate : Nat := 4
def causeAbs : Nat := 8
def causeComp : Nat := 16
def causeFault : Nat := 32
def causeStart : Nat := 64

/-- The union of two sets of cause bits. -/
def orCause (a b : Nat) : Nat := ofBits ((List.range 16).filter fun i => bitAt a i || bitAt b i)

/-- A cause drives THERMTRIP_N (R350). -/
def thermalCause (c : Nat) : Bool := bitAt c 2 || bitAt c 3 || bitAt c 4

/-- The highest SEQ among the stop records in the vault. -/
def State.stopHighest (s : State) : Nat :=
  match s.stopLatest with
  | some k => (s.vaultWord (stopRecAddr k)).toNat
  | none => 0

/-- The open part of a record, without its CRC (R359). -/
def State.stopOpenBody (s : State) (seq causes : Nat) : List Word :=
  [BitVec.ofNat 32 seq, pack [(15, 0, causes)], BitVec.ofNat 32 s.ledger.epoch, pack [(15, 0, s.epochHi)],
    BitVec.ofNat 32 s.clk.watch, BitVec.ofNat 32 (s.clk.watch / 2 ^ 32), s.therm.hot, s.therm.rise,
    word32 (roundEven s.limits.pinLast), pack [(23, 0, toCode 24 (satS 24 s.limits.iOut))]]

/-- A body and its CRC-32 (R358). -/
def withCrc (l : List Word) : List Word := l ++ [crc32 (wordsBytes l)]

/-- Begin a record for some causes: it becomes the latest record at the trigger (R354 step 1, R368), its open part is queued,
THERMTRIP_N is driven for a thermal cause, and ERR_N for FAULT (R350, R411). -/
def State.stopLatch (s : State) (causes : Nat) (abandon : Bool) : State :=
  let seq := max s.stopq.nextSeq (s.stopHighest + 1)
  let body := s.stopOpenBody seq causes
  let q : Stop := { s.stopq with
    active := true
    abandon := abandon
    pending := !abandon
    commits := none
    seq := seq
    slot := seq % 64
    causeOpen := causes
    cause := causes
    epoch := s.ledger.epoch
    ticks := s.clk.watch
    stage := 0
    late := s.clk.fsReset || s.adopting
    loanV := false
    loanSel := 0
    loanAddr := 0
    openDone := false
    openBody := body
    exists_ := true
    cleared := false
    offMap := 0
    thermTrip := s.stopq.thermTrip || thermalCause causes
    quiet := none
    quietOk := false
    nextSeq := seq + 1 }
  let s1 := { s with
    stopq := q
    start := { s.start with ready := false }
    flt := { s.flt with
      errnStop := s.flt.errnStop || bitAt causes 5
      errn := s.flt.errn || bitAt causes 5 } }
  s1.vaultJob 1 (stopRecNo (seq % 64)) (stopRecAddr (seq % 64)) (withCrc body)

/-- The second cause of R30 and R357: its bit is added to the final cause word, and for FLOW and PWR together to the open part
while that is not yet written. -/
def State.stopAddCause (s : State) (causes : Nat) : State :=
  let c := orCause s.stopq.cause causes
  let q := { s.stopq with
    cause := c
    thermTrip := s.stopq.thermTrip || thermalCause causes }
  let s := { s with flt := { s.flt with
      errnStop := s.flt.errnStop || bitAt causes 5
      errn := s.flt.errn || bitAt causes 5 } }
  let both := bitAt c 0 && bitAt c 1 && (causes == causeFlow || causes == causePwr) && !s.stopq.openDone
  if both then
    let open_ := orCause s.stopq.causeOpen causes
    let body := (s.stopq.openBody.take 1) ++ [pack [(15, 0, open_)]] ++ s.stopq.openBody.drop 2
    let recNo := stopRecNo s.stopq.slot
    let s1 := { s with
      stopq := { q with
        causeOpen := open_
        openBody := body }
      warden := { s.warden with jobs := s.warden.jobs.filter fun j => !(j.recNo == recNo) } }
    s1.vaultJob 1 recNo (stopRecAddr s.stopq.slot) (withCrc body)
  else { s with stopq := q }

/-- Cells that no order can reach, of domains the engine holds in HOLD (R356). -/
def State.stranded (s : State) : Nat :=
  (allDoms.filter fun d => (s.dom d).st == .hold).foldl
    (fun n d => n + ((s.roleCells d).filter fun i => !s.contact i).length) 0

/-- The domains confirmed OFF: those the engine holds in OFF once it runs (R359). -/
def State.offDomains (s : State) : Nat :=
  if s.clk.everLock then ofBits (allDoms.filter fun d => (s.dom d).st == .off) else 0

/-- The seal part of the record, without its CRC (R359). -/
def State.stopSealBody (s : State) (stage off : Nat) : List Word :=
  [pack [(15, 0, s.stopq.cause), (18, 16, stage), (19, 19, b2n s.stopq.late), (20, 20, b2n s.stopq.loanV),
      (22, 21, s.stopq.loanSel)],
    pack [(11, 0, s.stopq.loanAddr), (23, 12, s.stranded)], BitVec.ofNat 32 off, pack [(15, 0, off / 2 ^ 32)],
    word32 ((ticksUs (s.clk.watch - s.stopq.ticks) : Nat) : Int)]

/-- Write the rest of the open part and the seal of the record in progress, with CLEARED 0 (R357, R358). -/
def State.stopWriteSeal (s : State) (stage off : Nat) : State :=
  let slot := s.stopq.slot
  let s1 := s.vaultFlush (stopRecNo slot)
  let s2 := s1.vaultPutWords (stopRecAddr slot + 0x2C) (withCrc (s1.stopSealBody stage off) ++ [0])
  { s2 with stopq := { s2.stopq with
      active := false
      abandon := false
      pending := false
      commits := none
      stage := stage
      offMap := off
      openDone := true } }

/-- The quiet period of R361 starts now when filtered FLOW_OK is high and no comparator is tripped, and stands at 0 otherwise. -/
def State.quietRestart (s : State) : State :=
  { s with stopq := { s.stopq with
      quiet := if s.start.flowOk && s.stopq.tripped.isEmpty then some s.clk.watch else none
      quietOk := false } }

/-- The controller is stopped (R360): only the AON domain runs, at base trim; the rings, the window and the control clock are
down with their domains, and what the window held is lost (R520). What the event out FIFO holds is kept for the next arming (R490). -/
def State.enterStopped (s : State) : State :=
  let s1 := { s with
    start := { s.start with
      step := .stopped
      stage := 0
      ready := false
      boot := false
      adoptStep := 0
      abandonDue := false
      stageDue := false
      restarting := none
      fsrReq := false
      restartWait := false }
    clk := { s.clk with
      lock := false
      csync := false
      pllOn := false
      fsReset := false
      restoring := false
      everLock := false
      commitTick := none }
    doms := s.doms.map fun (e : Nat × Dom) => (e.1, { e.2 with st := .off })
    rings := { eventOut := s.rings.eventOut, eseq := s.rings.eseq, pubPin := s.rings.pubPin, pubPout := s.rings.pubPout,
               pubIout := s.rings.pubIout, pubHot := s.rings.pubHot, pubVin := s.rings.pubVin, trap := s.rings.trap, trapWait := s.rings.trapWait, vectors := s.rings.vectors,
               hostOut := s.rings.hostOut, fetches := s.rings.fetches }
    ledger := { s.ledger with running := false }
    win := { s.win with held := [] } }
  s1.quietRestart

/-- Seal the record in progress and stop (R354 steps 9 and 10). -/
def State.sealAndStop (s : State) (stage off : Nat) : State := (s.stopWriteSeal stage off).enterStopped

/-- A record with STAGE 0, written and sealed at once, for a cause with no domain on or while stopped (R357). -/
def State.stopRecordOnly (s : State) (causes : Nat) : State :=
  let s1 := s.stopLatch causes false
  s1.sealAndStop 0 s1.offDomains

/-- Begin the abandonment of start-up (R565, R383): the record is opened with START added, FAIL names the row, and the first off
orders wait for the next commit. -/
def State.abandonStart (s : State) (causes fail : Nat) : State :=
  let s1 := s.stopLatch (orCause causes causeStart) true
  { s1 with start := { s1.start with
      fail := fail
      abandonDue := true
      abandonStage := 0 } }

/-- The rows of R383 that lower BOOT and write the record: no domain but SD14 has begun to start, so only its cells are left to
stop. -/
def State.abandonBoot (s : State) (fail : Nat) : State :=
  let s1 := s.stopLatch (orCause causeFault causeStart) true
  { s1 with start := { s1.start with
      fail := fail
      boot := false
      abandonDue := false } }

/-- The FAIL code of a cause that meets start-up (R383). -/
def failOf (causes : Nat) : Nat :=
  if thermalCause causes then 10 else if bitAt causes 1 then 8 else if bitAt causes 0 then 9 else 7

/-- A stop cause is established (R353), in each situation of R29, R352 and R357. -/
def State.stopCause (s : State) (causes : Nat) : State :=
  if s.stopq.active then s.stopAddCause causes
  else if s.start.ready || s.start.step == .adoption then s.stopLatch causes false
  else if s.anyStarted then s.abandonStart causes (failOf causes)
  else
    let s1 := s.stopRecordOnly (if s.starting then orCause causes causeStart else causes)
    if s.starting then { s1 with start := { s1.start with fail := failOf causes } } else s1

end Sys2Proof.Machine
end

