-- ==== Sys2Proof/Machine/PaceOps.lean ====
section
/-! DEFINITION. The pace link's shared operations (R312 to R328): sending a frame, beginning a discovery, the held entries, and
what a stop sequence and a change of group do to them. -/

namespace Sys2Proof.Machine

/-- The chip serial: LOT × 2^24 + DIE (R537). -/
def State.serial (s : State) : Nat := s.otp.lot.toNat * 2 ^ 24 + s.otp.die.toNat

/-- Fields of UL_PACE_CTRL (R337). -/
def State.paceEn (s : State) : Bool := wbit s.pace.ctrl 31
def State.paceApply (s : State) : Bool := wbit s.pace.ctrl 30
def State.paceSendEn (s : State) : Bool := wbit s.pace.ctrl 29
def State.paceGroup (s : State) : Nat := fld s.pace.ctrl 23 16
def State.paceMin (s : State) : Nat := fld s.pace.ctrl 15 10
def State.pacePersist (s : State) : Nat := fld s.pace.ctrl 9 6
def State.paceRefreshEpochs (s : State) : Nat := fld s.pace.ctrl 5 0

/-- The pace logic is powered: SD13 holds its rail (R19, R327). -/
def State.paceOn (s : State) : Bool := s.start.aon && s.domOn (sd 13)

/-- A symbol of the 8b/10b line: a control or a data symbol with its byte (R312). -/
inductive PaceSym where
  | k (b : Byte)
  | d (b : Byte)
  deriving DecidableEq, Repr, Inhabited

/-- The 56 payload bits of a frame: TYPE in bits 55:52 and the layout of its type, reserved bits 0 (R314). -/
def PaceTx.payload : PaceTx → Nat
  | .survey serial => packN [(55, 52, 1), (47, 0, serial)]
  | .count next => packN [(55, 52, 2), (51, 45, next)]
  | .size n => packN [(55, 52, 3), (51, 45, n)]
  | .live origin => packN [(55, 52, 4), (51, 46, origin)]
  | .quota origin relay group q seq =>
    packN [(55, 52, 5), (51, 46, origin), (45, 45, b2n relay), (44, 37, group), (36, 31, q), (30, 23, seq)]
  | .release origin relay group seq => packN [(55, 52, 6), (51, 46, origin), (45, 45, b2n relay), (44, 37, group), (30, 23, seq)]
  | .leave origin group => packN [(55, 52, 7), (51, 46, origin), (44, 37, group)]
  | .raw payload => payload % 2 ^ 56

/-- The seven payload bytes in the order sent: bit 55 is the most significant bit of the first (R312). -/
def paceBytes (payload : Nat) : List Byte := (natBytes 7 payload).reverse

/-- The CRC that a payload carries (R312). -/
def paceCrc (payload : Nat) : Nat := crc16 (paceBytes payload)

/-- The ten symbols of a frame: K28.5, the payload, and the CRC most significant byte first (R312). -/
def PaceTx.symbols (f : PaceTx) : List PaceSym :=
  .k 0xBC :: (paceBytes f.payload ++ (natBytes 2 (paceCrc f.payload)).reverse).map .d

/-- The ordered set sent between frames: K28.5 D16.2 (R312). -/
def paceIdle : List PaceSym := [.k 0xBC, .d 0x50]

/-- What PACE_TX has carried: the frames in the order sent, the idle set before each and after the last (R312). -/
def State.paceLine (s : State) : List PaceSym := (s.pace.tx.reverse.flatMap fun f => paceIdle ++ f.symbols) ++ paceIdle

/-- Put a frame on PACE_TX. -/
def State.paceSend (s : State) (f : PaceTx) : State :=
  { s with pace := { s.pace with tx := f :: s.pace.tx } }

/-- A new SEQ of a broadcast: any value but the one in force; the manual gives no rule for it (notes/assumptions/4.md). -/
def State.newSeq (s : State) (old : Option Nat) : Nat × State :=
  let (r, s1) := s.draw
  let x := r.toNat % 256
  (match old with
    | some o => if x = o then (x + 1) % 256 else x
    | none => x, s1)

/-- An entry matches an (ORIGIN, RELAY) pair. -/
def PaceEntry.is (e : PaceEntry) (origin : Nat) (relay : Bool) : Bool := !e.carried && e.origin == origin && e.relay == relay

/-- A QUOTA frame against the held entries: it replaces the entry it matches on a new SEQ or a higher Q, refreshes it otherwise,
and adds one of up to 64 (R321). -/
def takeQuota (l : List PaceEntry) (origin : Nat) (relay : Bool) (q seq : Nat) : List PaceEntry :=
  if l.any (·.is origin relay) then
    l.map fun e => if e.is origin relay then
      (if e.seq ≠ seq ∨ e.q < q then { e with q := q, seq := seq, age := 0 } else { e with age := 0 }) else e
  else if (l.filter fun e => !e.carried).length < 64 then l ++ [{ origin := origin, relay := relay, q := q, seq := seq }]
  else l

/-- The held entry with the largest Q, the first of equals. -/
def largestEntry (l : List PaceEntry) : Option PaceEntry :=
  l.foldl (fun b e => match b with
    | none => some e
    | some x => if x.q < e.q then some e else some x) none

/-- The largest held entry becomes the carried entry when discovery begins again (R326). -/
def carryLargest (l : List PaceEntry) : List PaceEntry :=
  match largestEntry l with
  | none => []
  | some e => { e with carried := true, relay := false, origin := 0 } :: l.filter fun x => !x.carried

/-- Begin a discovery: the chip sends its own SURVEY (R316 step 1). -/
def State.paceDiscover (s : State) : State :=
  let p := { s.pace with
    st := .discovering
    leader := false
    sentSurvey := true
    pos := 0
    size := 0
    entries := carryLargest s.pace.entries }
  ({ s with pace := p }).paceSend (.survey s.serial)

/-- A SURVEY that reaches a chip which is up, solo or down takes it into the new discovery (R316 step 2, R317, R326). -/
def State.paceJoin (s : State) : State :=
  match s.pace.st with
  | .discovering => if s.pace.sentSurvey then s else s.paceDiscover
  | _ => if s.paceEn then s.paceDiscover else s

/-- The ring is declared down (R317): counted, own QUOTA traffic stops; the raise of PACE_DOWN is the caller's. -/
def State.paceDown (s : State) : State :=
  let p := { s.pace with
    st := .down
    leader := false
    sentSurvey := false
    downCnt := incSat 255 s.pace.downCnt }
  ({ s with pace := p }).pushEvent (evPace 2 0 0 false false)

/-- The block reset of the pace logic: held entries are kept under R326 and discovery runs again under R316 (R401). -/
def State.paceBlockReset (s : State) : State :=
  if s.paceOn && s.paceEn && s.start.ready && s.pace.lock then s.paceDiscover
  else { s with pace := { s.pace with
      st := if s.pace.lock then s.pace.st else .off
      leader := false
      sentSurvey := false
      entries := carryLargest s.pace.entries } }

/-- RELEASE of the broadcast in force, own or relayed. -/
def State.paceRelease (s : State) (relay : Bool) (group : Nat) : State :=
  let b := if relay then s.pace.relay else s.pace.bcast
  match b with
  | none => s
  | some (_, seq, _) =>
    let s1 := s.paceSend (.release s.pace.pos relay group seq)
    if relay then { s1 with pace := { s1.pace with
        relay := none
        entries := s1.pace.entries.filter fun e => !(e.relay && e.origin == s1.pace.pos && !e.carried) } }
    else { s1 with pace := { s1.pace with bcast := none } }

/-- Commit s of a stop sequence: RELEASE of what is in force, then LEAVE, and the entries go (R328). -/
def State.paceLeave (s : State) : State :=
  let g := s.paceGroup
  let s1 := (s.paceRelease false g).paceRelease true g
  let s2 := if s1.pace.st == .up then s1.paceSend (.leave s1.pace.pos g) else s1
  { s2 with pace := { s2.pace with
      entries := []
      latched := []
      bcast := none
      relay := none } }

end Sys2Proof.Machine
end

