-- ==== Sys2Proof/Machine/Reset.lean ====
section
/-! DEFINITION. What each kind of state keeps through a fast-side reset (R387, R230, R278, R309, R534, R535 column K), and what
a cold start or restart sets up again (R533 code C). -/

namespace Sys2Proof.Machine

/-- A domain's engine state at a fast-side reset: the warden keeps V_SET, the active and the staged record, and the state;
a domain recorded as powered stands in HOLD, the others in OFF (R158, R388, R391). -/
def Dom.fsr (again : Bool) (x : Dom) : Dom :=
  let rec_ := if again then x.recorded else x.st
  { st := if rec_ = .off then .off else .hold, vset := x.vset, vsetEff := x.vsetEff, vsetOwn := x.vsetOwn, law := x.lawStored.getD x.law, staged := x.staged,
    recorded := rec_, restart := x.restart, shed := x.shed, soloStage := x.soloStage }

/-- A master at a fast-side reset: it stops and forgets its roster and queues; the cells' SEQ counts go on, and a break of the ring stays
where it is (notes/assumptions/14.md). -/
def Chain.fsr (x : Chain) : Chain := { seqs := x.seqs, j1 := x.j1, j2 := x.j2, lasting := x.lasting }

/-- What the controller holds of a cell through a fast-side reset: its place in the roles, its trim, and the calibration as the warden
copied it in the last housekeeping round (R262, R278, R389). -/
def View.fsr (x : View) : View :=
  { out := x.out, lent := x.lent, cover := x.cover, trim := x.trim, gain := x.copyGain, cnt := x.copyCnt, atLimit := x.copyLimit,
    copyGain := x.copyGain, copyCnt := x.copyCnt, copyLimit := x.copyLimit, drifted := x.drifted }

/-- A lane pair: a frozen one stays frozen until its audit begins again with the restore (R183). -/
def Lane.fsr (x : Lane) : Lane := { st := if x.out then .frozen else .normal }

/-- A DSC: its registers and lists are restored, its sequences and guard start afresh (R230). Checked lists that wait stay where a
SET_SEQUENCE command waits for them (`cmd`), and are dropped with a GO of the register (R534). -/
def Dsc.fsr (cmd : Bool) (x : Dsc) : Dsc :=
  { fb := x.fb, aux := x.aux, en := x.en, staging := x.staging, active := x.active, nextReg := if cmd then x.nextReg else none,
    nextInj := if cmd then x.nextInj else none,
    degraded := x.degraded, vCov := x.vCov, iCov := x.iCov, iBad := x.iBad, vBad := x.vBad, gFail := x.gFail, aFail := x.aFail,
    trigMiss := x.trigMiss, passCnt := x.passCnt, mismCnt := x.mismCnt }

/-- An HKC: the round in progress is abandoned (R230). -/
def Hkc.fsr (x : Hkc) : Hkc := { vref := x.vref, fail := x.fail, picks := x.picks }

/-- The quota part of a code: burn removed (R306, R309). -/
def quotaPart (c : Nat) : Nat := if c > 64 then c - 65 else c

/-- A tile: the quota lane keeps the quota part; the hint FIFO and every hint are cleared, but for the word that the port holds; no
estimate stands (R39, R278, R309). -/
def Tile.fsr (x : Tile) : Tile := { held := x.held, quota := quotaPart x.quota, cls := x.cls }

/-- A domain's accounts: the energy tally and the means of the telemetry interval go on, the rest starts afresh with R_d := 0 (R278,
R484). -/
def DomAcct.fsr (x : DomAcct) : DomAcct :=
  { energy := x.energy, tlmV := x.tlmV, tlmI := x.tlmI, tlmP := x.tlmP, pubV := x.pubV, pubI := x.pubI, pubP := x.pubP }

/-- Limits and meter: registers, k_in, V_IN, the metered epochs, the governor, and fixed-frequency mode with its throttle event are kept;
statuses restart (R293, R295, R298, R301, R310, R311, R535). -/
def Limits.fsr (x : Limits) : Limits := 
  { ctrl := x.ctrl, win := x.win, ramp := x.ramp, kIn := x.kIn, vIn := x.vIn, pinHist := x.pinHist, pinLast := x.pinLast,
    govOn := x.govOn, pG := x.pG, pGPrev := x.pGPrev, fixed := x.fixed, thrOn := x.thrOn, thrCause := x.thrCause }

/-- The thermal registers, and of the throttle levels the warden's copy of the last round (R348). -/
def Therm.fsr (x : Therm) : Therm := { rate := x.rate, lim := x.lim, rateNext := x.rateNext, limNext := x.limNext }
def Diode.fsr (x : Diode) : Diode := { level := x.copy, latched := x.copy, copy := x.copy, round := x.round }

/-- The engine's own registers: W1S operations in progress are abandoned (R534). -/
def Eng.fsr (x : Eng) : Eng :=
  { ctrl := x.ctrl, lawBuf := x.lawBuf, lawOp := x.lawOp, lawDom := x.lawDom, lawTag := x.lawTag, reason := x.reason,
    super := x.super, empty := x.empty, rej := x.rej, done := x.done, cellDom := x.cellDom, cellGlb := x.cellGlb }

/-- The ledger: staged values wait for the first commit after the restart; epochs are counted on (R278, R534). -/
def Ledger.fsr (x : Ledger) : Ledger :=
  { x with running := false, cutoff := false, recCut := false, sinceStart := 0, vinBoost := false, boostEnd := none, late := 0, lateNew := 0,
           lateRdy := 0, staged := x.staged.map fun v => { v with late := false } }

/-- The sense registers (R230): a source that waits for its test still waits (R219, R534). -/
def Sense.fsr (x : Sense) : Sense :=
  { x with refSwitch := none, timerOn := false, roundOn := false, restore := [] }

/-- Registers of the map marked Z: they read their Reset column until the first commit after the restart (R533, R535). -/
def regZ (off : Nat) : Bool :=
  (0x554 ≤ off && off ≤ 0x570) || off == 0x804 || (0x900 ≤ off && off ≤ 0x9EC) || off == 0xBC4 ||
  (0x1410 ≤ off && off ≤ 0x1460) || (0x1508 ≤ off && off ≤ 0x1514)

/-- Reset every block fed by SD14, keeping what the warden restores (R387, R388 steps 1 and 4). -/
def State.fastReset (s : State) (again : Bool) : State :=
  { s with
    doms := s.doms.map fun e => (e.1, e.2.fsr again)
    chains := s.chains.map fun e => (e.1, e.2.fsr)
    views := s.views.map fun e => (e.1, e.2.fsr)
    lanes := s.lanes.map fun e => (e.1, e.2.fsr)
    dscs := s.dscs.map fun e => (e.1, e.2.fsr (s.rings.flights.any fun f => decide (f.waits = .lists e.1)))
    hkcs := s.hkcs.map fun e => (e.1, e.2.fsr)
    tallies := []
    tiles := s.tiles.map fun e => (e.1, e.2.fsr)
    accts := s.accts.map fun e => (e.1, e.2.fsr)
    diodes := s.diodes.map fun e => (e.1, e.2.fsr)
    eng := s.eng.fsr
    creg := { rescueEn := s.creg.rescueEn, moved := s.creg.moved ++ s.chains.filterMap fun e => e.2.loan }
    ledger := s.ledger.fsr
    limits := s.limits.fsr
    therm := s.therm.fsr
    sense := s.sense.fsr
    pace := { s.pace with latched := [], latchOk := false }
    pub := Tab.set (s.pub.filter fun e => !(regZ e.1)) 0x554 (pack [(15, 0, satU 16 (roundEven (s.limits.kIn * 32768)))]) }

/-- The bits of UL_SP_EN_i that a domain has (R240). -/
def spMask (d i : Nat) : Word := if isTD d then 0xFFFFFFFF else if i = 0 then 0x0000FFFF else 0

/-- What the per-chip table puts in force for each DSC at a cold start: UL_DSC_FB_n and UL_SP_EN_0 to 3, their reserved bits 0 (R11,
R235, R240). -/
def State.otpDscs (s : State) : Tab Dsc :=
  Tab.ofFn allDoms fun d =>
    { fb := s.otp.dscFb.getD d 0 &&& 0x00007F7F, en := (List.range 4).map fun i => (s.otp.spEn.getD d []).getD i 0 &&& spMask d i }

/-- Everything of the control-clock range at its Reset column: at each cold start and each restart (R533 code C). The struck
map comes from the vault, which the warden read at boot (R227, R230). The values that the warden writes to UL_CELLDOM_n and UL_CELLGLB in
step 7 (R93, R370) are taken to be the Reset column (DESIGN CHOICE, notes/assumptions/43.md). -/
def State.coldReset (s : State) : State :=
  { s with
    cells := [], chains := [], views := [], creg := {}, eng := {}, doms := [], lanes := [], tallies := [], hkcs := [],
    dscs := s.otpDscs
    sense := { struck := s.sense.struck }
    ledger := {}, tiles := [], accts := [], limits := {}, therm := {}, diodes := [], pub := [] }

end Sys2Proof.Machine
end

