-- ==== Sys2Proof/Machine/Faults.lean ====
section
/-! DEFINITION. The fault collector as one operation, `State.raise` (R399 to R411, R422): counting and suppression, incidents
and merging, the reactions in their order, the block resets they issue, the audits they start; and the close of an incident.  Every
command that meets a source's condition raises it through this operation. -/

namespace Sys2Proof.Machine

/-! ### The source table (R403) -/

/-- Every reaction that may be set for a source, in the bits of UL_FLT_REACT_s. -/
def allowedReact (src : Nat) : Nat :=
  if src ≤ 9 ∨ src = 19 ∨ src = 20 ∨ (25 ≤ src ∧ src ≤ 29) ∨ src = 32 ∨ (38 ≤ src ∧ src ≤ 40) ∨ src = 43 then 19
  else if src = 12 ∨ src = 13 ∨ src = 17 ∨ src = 22 then 31
  else if src = 23 ∨ src = 30 ∨ src = 33 ∨ src = 34 ∨ src = 37 then 27
  else if src = 44 then 18
  else if src < 45 then 23
  else 0

/-- The reactions of a source that always read 1. -/
def fixedReact (src : Nat) : Nat :=
  if src = 18 ∨ src = 35 ∨ src = 36 then 6 else if src = 38 ∨ src = 41 then 2 else 0

/-- The blocks a block reset can act on (R401). -/
inductive Block where
  | fastSide | dsc | hkc | pace | policy | ring
  deriving DecidableEq, Repr

/-- The code of a block in an incident's list of resets. -/
def blockCode : Block → Nat
  | .fastSide => 0 | .dsc => 1 | .hkc => 2 | .pace => 3 | .policy => 4 | .ring => 5

/-- The block of a source. -/
def blockOf (src : Nat) : Option Block :=
  if (10 ≤ src ∧ src ≤ 14) ∨ (16 ≤ src ∧ src ≤ 18) ∨ src = 35 ∨ src = 36 then some .fastSide
  else if src = 15 ∨ src = 21 ∨ src = 22 then some .dsc
  else if src = 24 then some .hkc
  else if src = 31 then some .pace
  else if src = 41 then some .policy
  else if src = 42 then some .ring
  else none

/-- The audits of R412. -/
inductive AuditKind where
  | cell | chain | lane | dsc | reference | hkc
  deriving DecidableEq, Repr

/-- The audit of a source. -/
def auditOf (src : Nat) : Option AuditKind :=
  if src ≤ 8 then some .cell
  else if 10 ≤ src ∧ src ≤ 12 then some .chain
  else if src = 16 ∨ src = 17 then some .lane
  else if src = 14 ∨ src = 15 ∨ src = 21 then some .dsc
  else if src = 23 then some .reference
  else if src = 24 then some .hkc
  else none

/-- An object code that names something of the source's kind (R404). -/
def objOk (src obj : Nat) : Bool :=
  if src ≤ 8 ∨ src = 27 then decide (obj < 2304)
  else if src = 9 ∨ src = 14 ∨ src = 15 ∨ src = 21 ∨ src = 22 ∨ src = 26 ∨ src = 28 then decide (obj < 48)
  else if (10 ≤ src ∧ src ≤ 12) ∨ src = 16 ∨ src = 17 ∨ src = 23 ∨ src = 24 ∨ src = 33 ∨ src = 37 then decide (obj < 8)
  else if src = 19 ∨ src = 20 then decide (obj < 4352)
  else if src = 25 then decide (obj < 1024)
  else if src = 30 then decide (obj < 3)
  else if src = 32 then decide (obj < 1120)
  else if src = 34 then decide (obj < 4)
  else if src = 42 then decide (obj < 7)
  else if src = 43 then decide (obj < 2)
  else true

/-! ### Records (R409, R410, R492) -/

/-- The incident record with a DUR_US, its CRC last (R409). -/
def incidentWords (i : Incident) (dur : Nat) : List Word :=
  withCrc [BitVec.ofNat 32 i.seq, BitVec.ofNat 32 i.epoch,
    pack [(15, 0, i.epoch / 2 ^ 32), (21, 16, i.first), (26, 22, i.react), (27, 27, b2n i.overrun), (28, 28, b2n i.abandon),
      (29, 29, b2n i.inj)],
    BitVec.ofNat 32 i.srcs, pack [(15, 0, i.srcs / 2 ^ 32), (31, 16, i.merged)],
    pack [(15, 0, i.obj), (23, 16, i.trans), (31, 24, i.lasting)], BitVec.ofNat 32 dur]

/-- Queue the record of the incident; one still queued for the slot is replaced (R454, R456). -/
def State.writeIncident (s : State) (dur : Nat) : State :=
  let slot := s.flt.inc.seq % 2048
  let s1 := { s with warden := { s.warden with jobs := s.warden.jobs.filter fun j => !(j.recNo == incRecNo slot) } }
  s1.vaultJob (if bitAt s.flt.inc.react 1 then 2 else 3) (incRecNo slot) (incRecAddr slot) (incidentWords s.flt.inc dur)

/-- A warden trap entry of a raise (R492). -/
def trapEntry (i : Incident) (src obj : Nat) : List (BitVec 64) :=
  [BitVec.ofNat 64 (packN [(63, 32, i.seq), (31, 26, src), (25, 21, i.react), (15, 0, obj)]),
    BitVec.ofNat 64 (packN [(63, 16, i.srcs), (15, 0, i.merged)])]

/-- Write an entry into the warden trap FIFO of 32 words; while it is full the entry waits (R489). -/
def State.pushTrap (s : State) (l : List (BitVec 64)) : State :=
  if s.rings.trapWait.isEmpty && decide (s.rings.trap.length + l.length ≤ 32) then
    { s with rings := { s.rings with trap := s.rings.trap ++ l } }
  else { s with rings := { s.rings with trapWait := s.rings.trapWait ++ l } }

/-! ### Block resets (R401) -/

/-- A tally emptied, with RESTART set. -/
def TallyCopy.restarted : TallyCopy := { restart := true }

/-- Move the fast-side audits in progress to the list of those that start again after adoption (R422). -/
def State.suspendAudits (s : State) : State :=
  let f := s.flt
  let all := (f.chainAud ++ f.laneAud ++ f.dscAud ++ f.hkcAud ++ f.refAud).map fun (e : Nat × Nat) => (e.2, e.1)
  { s with flt := { f with restartAud := f.restartAud ++ all, chainAud := [], laneAud := [], dscAud := [], hkcAud := [],
                           refAud := [] } }

/-- Assert a fast-side reset (R387, R388 step 1, R393): counted; the fast side stops, and what meets it follows R357, R383 and
R422.  Without a fast side to reset nothing happens. -/
def State.fsrAssert (s : State) : State :=
  if !s.start.aon || !(s.anyStarted) || !s.clk.everLock then s
  else
    let s1 := (s.suspendAudits).fastReset s.adopting
    let s2 := { s1 with
      clk := { s1.clk with
        fsReset := true
        restoring := false
        commitTick := none }
      start := { s1.start with
        adoptCnt := incSat 255 s1.start.adoptCnt
        adoptStep := 1
        fsrTick := s1.clk.watch
        countTick := if s.ledger.running then s.clk.commitTick.getD s.clk.watch else s.start.countTick }
      rings := { s1.rings with tlmRestart := true } }
    if s.stopq.active then { s2 with stopq := { s2.stopq with late := true } }
    else if s.start.ready then { s2 with start := { s2.start with step := .adoption } }
    else
      let s3 := s2.stopLatch (orCause causeFault causeStart) true
      { s3 with
        start := { s3.start with
          fail := 7
          abandonDue := false
          stageDue := false }
        stopq := { s3.stopq with late := true } }

/-- Checked lists that wait become active (R209). -/
def Dsc.takeLists (x : Dsc) : Dsc :=
  let a := match x.nextReg with
    | some l => { x.active with len := l.len, mask := l.mask, reg := l.reg }
    | none => x.active
  let b := match x.nextInj with
    | some l => { a with injLen := l.injLen, inj := l.inj }
    | none => a
  { x with active := b, nextReg := none, nextInj := none }

/-- The block reset of a DSC: its modulators restart, so that lists that wait are active, its tallies restart empty with RESTART set, and its domain is without a
valid latch until the first one (R401). -/
def State.dscBlockReset (s : State) (d : Nat) : State :=
  let new := (s.dsc d).nextReg.isSome || (s.dsc d).nextInj.isSome
  let s1 := s.updDsc d fun x => { x.takeLists with
    am := if x.audit.isSome then .audit none else .idle
    entry := none
    auxEdge := false
    held := false
    heldInj := false
    reading := []
    suspects := []
    retest := none
    second := none
    guardAt := 0
    mv := []
    mvOdd := []
    quietPts := []
    crossRun := 0
    crossBad := false
    noLatch := true }
  let fresh (k : Nat) : Tally := { work := { reconf := new && decide (2 ≤ k) } }
  { s1 with tallies := (List.range 16).foldl (fun t k => t.set (16 * d + k) (fresh k)) s1.tallies }

/-- The global diode index of a channel of HKCk (R342). -/
def diodeOf (k ch : Nat) : Option Nat :=
  if ch < 128 then some ((domTiles (4 * k + ch / 32)).getD (ch % 32) 0)
  else if ch < 136 then some (1024 + 8 * k + (ch - 128))
  else if ch < 140 then some (1088 + 4 * k + (ch - 136))
  else none

/-- A diode reading of a round: valid, with its rate where the round before had one, or invalid (R343, R348). -/
def takeDiode (v : Option Int) (x : Diode) : Diode :=
  let y := { x with prev := x.cur, badOld := x.badRun, setOld := x.badSet }
  match v with
  | some t =>
    { y with
      cur := some t
      rate := x.cur.map fun p => satS 16 (4 * (t - p))
      badRun := 0
      badSet := false
      fresh := true }
  | none =>
    { y with
      cur := none
      rate := none
      badRun := x.badRun + 1
      fresh := false }

/-- The block reset of an HKC: it leaves the round in progress, whose channels not yet converted have no reading, and its tallies
restart with RESTART set; the committed copies stay (R343, R348, R401). -/
def State.hkcBlockReset (s : State) (k : Nat) : State :=
  let x := s.hkc k
  let open_ := if x.inRound && s.sense.roundOn then (List.range 140).filter fun ch => !x.res.any (·.1 == ch) else []
  let s0 := s.forEach (open_.filterMap (diodeOf k)) fun s n => s.updDiode n (takeDiode none)
  let s1 := s0.updHkc k fun x => { x with inRound := false, res := [] }
  let ts := (List.range 16).foldl
    (fun (t : Tab Tally) j => t.modify {} (16 * hkcConv k + j) fun x => { x with work := .restarted }) s1.tallies
  { s1 with tallies := ts }

/-- The block reset of the policy core: Ebsis restarts at its entry point, keeping its image; queued requests go without a reply
(R450). -/
def State.policyBlockReset (s : State) : State :=
  { s with policy := { s.policy with
      held := []
      st := if s.policy.st == .running then .running else s.policy.st } }

/-- The block reset of the ring logic: ARM is cleared, which stops every ring until it is armed again, and the telemetry out FIFO
is flushed (R401, R490, R494). -/
def State.ringBlockReset (s : State) : State :=
  { s with rings := { s.rings with
      armed := false
      tlmOut := [] } }

/-- Reset a block for a source with an object. -/
def State.blockReset (s : State) (b : Block) (obj : Nat) : State :=
  match b with
  | .fastSide => s.fsrAssert
  | .dsc => s.dscBlockReset obj
  | .hkc => s.hkcBlockReset obj
  | .pace => s.paceBlockReset
  | .policy => s.policyBlockReset
  | .ring => s.ringBlockReset

/-- The key of a block reset in the incident's list: DSCs and HKCs are blocks each of their own. -/
def blockKey (b : Block) (obj : Nat) : Nat × Nat :=
  (blockCode b, match b with
    | .dsc => obj
    | .hkc => obj
    | _ => 0)

/-- A block reset has been released: a later raise may issue it again (R406). -/
def State.blockReleased (s : State) (b : Block) (obj : Nat) : State :=
  { s with flt := { s.flt with inc := { s.flt.inc with blocks := s.flt.inc.blocks.filter fun k => !(k == blockKey b obj) } } }

/-- Resets that are over as soon as they are issued. -/
def Block.momentary : Block → Bool
  | .pace => true
  | .policy => true
  | _ => false

/-! ### Audits (R412) -/

/-- The sources of a raise meet an audit of the same block already running. -/
def hasAudit (l : List (Nat × Nat)) (obj : Nat) : Bool := l.any (·.1 == obj)

/-- One audit more holds the incident open. -/
def State.holdAudit (s : State) : State :=
  { s with flt := { s.flt with inc := { s.flt.inc with audits := s.flt.inc.audits + 1 } } }

/-- The LOOP frames of an audit wait for the command slots: 256 around the main path, 64 around the rescue lane (R137). -/
def Chain.auditBegin (x : Chain) : Chain :=
  { x with
    audit := true
    loopMain := if x.audit then x.loopMain else 256
    loopResc := if x.audit then x.loopResc else 64 }

/-- M_A is free of an audit that was abandoned: the round it had left goes on at its entry (R210, R422). -/
def Dsc.auditOver (x : Dsc) : Dsc :=
  { x with
    audit := none
    am := match x.am with
      | .audit (some p) => .regular p
      | .audit none => .idle
      | m => m }

/-- An audit of a chain is over. -/
def Chain.auditOver (x : Chain) : Chain :=
  { x with
    audit := false
    auditReq := false
    loopMain := 0
    loopResc := 0 }

/-- A lane pair begins its audit (R182). -/
def laneAuditBegin (l : Lane) : Lane :=
  { l with
    st := .audit
    inAudit := 0 }

/-- A DSC begins its audit, which takes M_A: a round in progress resumes at its entry afterwards, and an injected run waits (R210,
R229). -/
def dscAuditBegin (d : Dsc) : Dsc :=
  let d1 := { d with
    audit := some 1
    auditBad := []
    entry := none }
  match d.am with
  | .idle => { d1 with am := .audit none }
  | .regular p => { d1 with am := .audit (some p) }
  | .injected _ r => { d1 with
      am := .audit r
      heldInj := true }
  | .audit _ => d1

/-- Start the audit of a raise, or join the one that runs on the same block; while the fast side is in reset its audits wait for
the end of adoption (R406, R412, R413, R422). -/
def State.startAudit (s : State) (src obj : Nat) : State :=
  if !objOk src obj then s else
  match auditOf src with
  | none => s
  | some .cell =>
    if (s.flt.audits.any (·.cell == obj)) || (src == 8 && !s.contact obj) then s
    else
      let a : CAudit := { cell := obj, src := src, wasOut := (s.view obj).out }
      ({ s with flt := { s.flt with audits := s.flt.audits ++ [a] } }).holdAudit
  | some k =>
    if src = 17 then
      if hasAudit s.flt.laneAud obj || !s.clk.fsReset then s
      else ({ s with flt := { s.flt with laneAud := s.flt.laneAud ++ [(obj, src)] } }).holdAudit
    else if s.clk.fsReset || s.adopting then
      if s.flt.restartAud.contains (src, obj) then s
      else ({ s with flt := { s.flt with restartAud := s.flt.restartAud ++ [(src, obj)] } }).holdAudit
    else match k with
      | .chain =>
        if hasAudit s.flt.chainAud obj then s
        else
          let s1 := { s with flt := { s.flt with chainAud := s.flt.chainAud ++ [(obj, src)] } }
          (s1.updChain obj Chain.auditBegin).holdAudit
      | .lane =>
        if hasAudit s.flt.laneAud obj || (s.lane obj).st == .frozen then s
        else
          let s1 := { s with flt := { s.flt with laneAud := s.flt.laneAud ++ [(obj, src)] } }
          (s1.updLane obj laneAuditBegin).holdAudit
      | .dsc =>
        if hasAudit s.flt.dscAud obj then s
        else
          let s1 := { s with flt := { s.flt with dscAud := s.flt.dscAud ++ [(obj, src)] } }
          (s1.updDsc obj dscAuditBegin).holdAudit
      | .reference =>
        if hasAudit s.flt.refAud obj then s
        else ({ s with flt := { s.flt with refAud := s.flt.refAud ++ [(obj, src)] } }).holdAudit
      | .hkc =>
        if hasAudit s.flt.hkcAud obj then s
        else ({ s with flt := { s.flt with hkcAud := s.flt.hkcAud ++ [(obj, src)] } }).holdAudit
      | .cell => s

/-- The loopback audit that a burst of bad CRCs starts, whether or not its raise was suppressed: without an audit of its own raise it
reports into its source's counters alone (R133, R405). -/
def State.burstAudit (s : State) (c : Nat) : State :=
  if hasAudit s.flt.chainAud c || s.stopq.active || s.stopped || s.clk.fsReset || s.adopting then s
  else ({ s with flt := { s.flt with chainAud := s.flt.chainAud ++ [(c, 10 + 64)] } }).updChain c Chain.auditBegin

/-! ### Reactions (R400, R402, R411) -/

/-- Drive ERR_N low for a pulse (R411). -/
def State.errnPulse (s : State) : State :=
  { s with flt := { s.flt with
      errnPulse := true
      errn := true } }

/-- ERRN_HOLD of UL_FLT_CTRL. -/
def State.errnHold (s : State) : Bool := wbit s.flt.ctrl 31

/-- The level of ERR_N once nothing pulses it: it stays low while it is low and held (R411). -/
def State.errnSettle (s : State) : State :=
  { s with flt := { s.flt with errn := s.flt.errnPulse || s.flt.errnStop || (s.flt.errn && s.errnHold) } }

/-- Write ERRN_HOLD (R411). -/
def State.setErrnHold (s : State) (b : Bool) : State :=
  ({ s with flt := { s.flt with ctrl := putFld s.flt.ctrl 31 31 (b2n b) } }).errnSettle

/-- Reaction I: an event of kind FAULT; while the controller is stopped it is not posted (R400, R422). -/
def State.reactI (s : State) (src obj : Nat) : State :=
  if s.stopped then s
  else s.pushEvent (evFault src obj s.flt.inc.seq s.flt.inc.react s.flt.inc.srcs)

/-- Reaction C: the stop sequence with cause FAULT; ERR_N stays low from its trigger (R400, R411). -/
def State.reactC (s : State) : State :=
  s.stopCause causeFault

/-- Issue the reactions `new` of a raise in the order of R402: I, T and E, then C, which drops every B not yet issued, else B. -/
def State.issue (s : State) (src obj new : Nat) : State :=
  let s1 := if bitAt new 0 then s.reactI src obj else s
  let s2 := if bitAt new 1 then s1.writeIncident 0xFFFFFFFF else s1
  let s3 := if bitAt new 4 then s2.errnPulse else s2
  if bitAt new 3 then s3.reactC
  else if bitAt new 2 then
    match blockOf src with
    | none => s3
    | some b =>
      let s4 := { s3 with flt := { s3.flt with inc := { s3.flt.inc with
          blocks := s3.flt.inc.blocks ++ (if b.momentary then [] else [blockKey b obj])
          fsrBusy := s3.flt.inc.fsrBusy || b == Block.fastSide } } }
      s4.blockReset b obj
  else s3

/-! ### Raises (R404 to R408) -/

/-- Count a raise: RAISED of the source, saturating, and its object (R426). -/
def State.countRaise (s : State) (src obj : Nat) : State :=
  { s with flt := { s.flt with
      raised := s.flt.raised.modify 0 src (incSat 65535)
      obj := s.flt.obj.set src obj
      blockDue := true } }

/-- A raise that is repeat-suppressed (R407). -/
def State.repeatRaise (s : State) : State :=
  match s.flt.st with
  | .handling => s
  | _ => { s with flt := { s.flt with
      st := .recovering
      quiet := some s.clk.watch } }

/-- Open an incident with a raise as its first source (R405). -/
def State.openIncident (s : State) (src obj : Nat) (inj : Bool) : State :=
  let i : Incident := { open_ := true, seq := s.flt.nextInc, epoch := s.ledger.epoch, ticks := s.clk.watch, first := src,
                        inj := inj, srcs := orBit 0 src, obj := obj }
  { s with flt := { s.flt with
      st := .handling
      quiet := none
      inc := i
      nextInc := s.flt.nextInc + 1 } }

/-- Merge a raise into the open incident (R406). -/
def State.mergeRaise (s : State) (src : Nat) (inj : Bool) : State :=
  { s with flt := { s.flt with inc := { s.flt.inc with
      srcs := orBit s.flt.inc.srcs src
      merged := incSat 65535 s.flt.inc.merged
      inj := s.flt.inc.inj || inj } } }

/-- The union and difference of reaction sets. -/
def orReact (a b : Nat) : Nat := ofBits ((List.range 5).filter fun i => bitAt a i || bitAt b i)
def reactNotIn (a b : Nat) : Nat := ofBits ((List.range 5).filter fun i => bitAt a i && !bitAt b i)

/-- The reactions of a raise that are to be issued: those of its source that the incident has not issued, and its block reset
where the incident has not issued that one or it has been released since; none of B after C, and neither B nor C once a stop
sequence runs or the controller is stopped (R402, R406, R422). -/
def State.newReact (s : State) (src obj : Nat) : Nat :=
  let want := s.reactOf src
  let base := reactNotIn (clrBit want 2) s.flt.inc.react
  let resetNew := match blockOf src with
    | none => false
    | some b => !(s.flt.inc.blocks.contains (blockKey b obj))
  let b := bitAt want 2 && resetNew && objOk src obj && !bitAt s.flt.inc.react 3 && !bitAt base 3
  let l := if b then orBit base 2 else base
  if s.stopq.active || s.stopped then clrBit (clrBit l 2) 3 else l

/-- The raise after it has opened or joined an incident: trap entry, reactions, audit. -/
def State.handleRaise (s : State) (src obj : Nat) (newSrc : Bool) : State :=
  let new := s.newReact src obj
  let s1 := { s with flt := { s.flt with inc := { s.flt.inc with react := orReact s.flt.inc.react new } } }
  let s2 := if bitAt s1.flt.inc.react 1 && newSrc then s1.pushTrap (trapEntry s1.flt.inc src obj) else s1
  let s3 := s2.issue src obj new
  let s4 := if s3.stopq.active || s3.stopped then s3 else s3.startAudit src obj
  if s4.stopped then s4.writeStateBlock else s4

/-- Audits in progress are abandoned when a stop sequence runs (R422). -/
def State.abandonAudits (s : State) : State :=
  let f := s.flt
  let any := !f.audits.isEmpty || !f.chainAud.isEmpty || !f.laneAud.isEmpty || !f.dscAud.isEmpty || !f.hkcAud.isEmpty
    || !f.refAud.isEmpty || !f.restartAud.isEmpty
  let s1 := { s with flt := { f with
      audits := []
      chainAud := []
      laneAud := []
      dscAud := []
      hkcAud := []
      refAud := []
      restartAud := []
      inc := { f.inc with
        abandon := f.inc.abandon || (f.inc.open_ && any)
        audits := 0 } } }
  let s2 := (List.range 8).foldl (fun s c => s.updChain c Chain.auditOver) s1
  { s2 with
    creg := { s2.creg with loopReq := 0 }
    lanes := s2.lanes.map fun (e : Nat × Lane) => (e.1, { e.2 with st := if e.2.st = .audit then .normal else e.2.st })
    dscs := s2.dscs.map fun (e : Nat × Dsc) => (e.1, e.2.auditOver) }

/-- A raise of a source with an object (R405 to R407). -/
def State.raise (s : State) (src obj : Nat) (inj : Bool := false) : State :=
  let s1 := s.countRaise src obj
  if src ≤ 8 && s.isPending 13 then s1
  else if s.isPending src && s.flt.pendObj.get 0 src == obj then s1.repeatRaise
  else
    let s2 := if s.isPending src then s1
      else { s1 with flt := { s1.flt with
        pend := orBit s1.flt.pend src
        pendObj := s1.flt.pendObj.set src obj } }
    if s.flt.inc.open_ then (s2.mergeRaise src inj).handleRaise src obj (!bitAt s.flt.inc.srcs src)
    else (s2.openIncident src obj inj).handleRaise src obj true

/-- The end of every command: EVENT_LOST is raised once per unbroken run of drops (R469), audits end when a stop sequence has
begun (R422), and ALERT_N follows the status bits (R501). -/
def closing (s0 s1 : State) : State :=
  let s2 := if s1.flt.eventLostRun && !s0.flt.eventLostRun then s1.raise 44 0 else s1
  let s3 := if s2.stopq.active && !s0.stopq.active then s2.abandonAudits else s2
  s3.alertUpdate

/-- The next state of a command that leads from one state to another. -/
def settle (s0 s1 : State) : Out := .next (closing s0 s1)

/-! ### Conclusions and the close of an incident (R405, R409, R412, R418) -/

/-- Count an audit's conclusion for a source, and for the incident it holds open (R426). -/
def State.concludeAudit (s : State) (src : Nat) (pass held : Bool) : State :=
  let f := if pass then { s.flt with trans := s.flt.trans.modify 0 src (incSat 255) }
    else { s.flt with
      lasting := s.flt.lasting.modify 0 src (incSat 255)
      lastCnt := incSat 65535 s.flt.lastCnt }
  let i := if held && f.inc.open_ then
      { f.inc with
        audits := f.inc.audits - 1
        trans := if pass then incSat 255 f.inc.trans else f.inc.trans
        lasting := if pass then f.inc.lasting else incSat 255 f.inc.lasting }
    else f.inc
  { s with flt := { f with
      inc := i
      blockDue := true } }

/-- The source of an audit entry whose incident has closed is listed 64 higher: it reports into its source's counters alone
(R405). -/
def auditSrc (e : Nat × Nat) : Nat := e.2 % 64
def auditHeld (e : Nat × Nat) : Bool := decide (e.2 < 64)

/-- Nothing the incident started remains (R405). -/
def State.incidentDone (s : State) : Bool :=
  s.flt.inc.open_ && s.flt.inc.audits == 0 && s.flt.covers.isEmpty && !(s.flt.inc.fsrBusy && (s.adopting || s.clk.fsReset)) &&
  !(bitAt s.flt.inc.react 4 && s.flt.errnPulse) && !(bitAt s.flt.inc.react 3 && s.stopq.active)

/-- Close the incident: its record is written, the quiet period begins, and audits still running report no longer into it
(R405, R409, R418, R455). -/
def State.closeIncident (s : State) (overrun : Bool) : State :=
  let i := { s.flt.inc with overrun := overrun }
  let s1 := { s with flt := { s.flt with inc := i } }
  let s2 := s1.writeIncident (ticksUs (s.clk.watch - i.ticks))
  let free (l : List (Nat × Nat)) : List (Nat × Nat) := l.map fun e => (e.1, if e.2 < 64 then e.2 + 64 else e.2)
  let f := { s2.flt with
    st := .recovering
    overrun := overrun
    quiet := some s2.clk.watch
    inc := { i with
      open_ := false
      fsrBusy := false
      blocks := [] }
    audits := s2.flt.audits.map fun (a : CAudit) => { a with counted := true }
    covers := []
    chainAud := free s2.flt.chainAud
    laneAud := free s2.flt.laneAud
    dscAud := free s2.flt.dscAud
    hkcAud := free s2.flt.hkcAud
    refAud := free s2.flt.refAud }
  ({ s2 with flt := f }).writeStateBlock

/-- An access that the window refused, as UL_WIN_STAT records it (R543). -/
def State.winRefused (s : State) (code off : Nat) (write : Bool) : State :=
  { s with win := { s.win with
      code := code
      wr := write
      cnt := incSat 255 s.win.cnt
      addr := off / 4 * 4 } }

end Sys2Proof.Machine
end

