-- ==== Sys2Proof/Machine/Avs.lean ====
section
/-! DEFINITION. The AVSBus masters (R502 to R505): the trim target, the responses of the four feed converters, failures and
retries. -/

namespace Sys2Proof.Machine

def State.link (s : State) (k : Nat) : AvsLink := s.avs.links.get {} k
def State.updLink (s : State) (k : Nat) (f : AvsLink → AvsLink) : State :=
  { s with avs := { s.avs with links := s.avs.links.modify {} k f } }

/-- BASE of UL_AVS_CTRL, mV. -/
def State.avsBase (s : State) : Nat := fld s.avs.ctrl 27 16

/-- B of R504: VIN_BOOST while the ledger's boost request is in force. -/
def State.avsB (s : State) : Nat := if s.avs.boost then fld s.ledger.hintCfg 31 26 else 0

/-- The trim target of R504. -/
def State.avsTarget (s : State) : Nat := min 1860 (s.avsBase + s.avsB)

/-- Record a transaction as sent on a link. -/
def State.avsSent (s : State) (k : Nat) (op : AvsOp) : State :=
  { s with avs := { s.avs with sent := (k, op) :: s.avs.sent } }

/-- Issue a transaction: it follows the one under way; a write goes ahead of reads not yet begun (R502). -/
def State.avsIssue (s : State) (k : Nat) (op : AvsOp) (write : Bool) : State :=
  let s1 := s.avsSent k op
  s1.updLink k fun l => { l with
    ops := if write then l.ops.take 1 ++ [op] ++ l.ops.drop 1 else l.ops ++ [op] }

/-- A transaction has ended well: it and the writes issued ahead of it leave the list. -/
def opsAfter (op : AvsOp) : List AvsOp → List AvsOp
  | [] => []
  | x :: t =>
    if x = op then t
    else match x with
      | .writeRate => opsAfter op t
      | .writeTrim _ => opsAfter op t
      | _ => x :: opsAfter op t

/-- A good response of a read: it ends, StatusAlert is noted, and where it is set a status read follows (R502, R505). -/
def State.avsResponse (s : State) (k : Nat) (op : AvsOp) (alert : Bool) : State :=
  let s1 := s.updLink k fun l => { l with
    ops := opsAfter op l.ops
    fails := 0
    alert := alert }
  if alert then s1.avsIssue k .readStatus false else s1

/-- The write of a changed target, on all four links at once (R502, R504). -/
def execAvsTrimWrite (s : State) : Out :=
  if s.traysUp then
    let mv := s.avsTarget
    let s1 := { s with avs := { s.avs with trim := mv } }
    settle s (s1.forEach (List.range 4) fun s k => s.avsIssue k (.writeTrim mv) true)
  else .next s

/-- The read-back of the converter's voltage (R502, R509). -/
def execAvsVoltageRead (k : ConvIx) (mv : BitVec 16) (alert : Bool) (s : State) : Out :=
  if s.traysUp then
    settle s ((s.avsResponse k .readVolt alert).updLink k fun l => { l with vi := putFld l.vi 31 16 mv.toNat })
  else .next s

/-- The converter's output current (R502, R509); a reading enters the k_in update of R295. -/
def execAvsCurrentRead (k : ConvIx) (code : BitVec 16) (alert : Bool) (s : State) : Out :=
  if s.traysUp then
    let s1 := (s.avsResponse k .readCur alert).updLink k fun l => { l with vi := putFld l.vi 15 0 code.toNat }
    settle s { s1 with limits := { s1.limits with ioutRd := s1.limits.ioutRd.set k code.toNat } }
  else .next s

/-- The converter's temperature (R502, R509). -/
def execAvsTempRead (k : ConvIx) (code : BitVec 16) (alert : Bool) (s : State) : Out :=
  if s.traysUp then
    settle s ((s.avsResponse k .readTemp alert).updLink k fun l => { l with ts := putFld l.ts 31 16 code.toNat })
  else .next s

/-- The converter's status word (R502, R505, R509). -/
def execAvsStatusRead (k : ConvIx) (w : BitVec 16) (alert : Bool) (s : State) : Out :=
  if s.traysUp then
    settle s ((s.avsResponse k .readStatus alert).updLink k fun l => { l with ts := putFld l.ts 15 0 w.toNat })
  else .next s

/-- A transaction of a link fails: twice it waits for its retry; the third failure raises AVS_ERR, and a current read lost this
way takes its reading out of the k_in update (R505). -/
def execAvsTransactionFail (k : ConvIx) (s : State) : Out :=
  if s.traysUp then
    let l := s.link k
    if l.fails < 2 then settle s (s.updLink k fun l => { l with fails := l.fails + 1 })
    else
      let s1 := s.updLink k fun l => { l with
        ops := l.ops.drop 1
        fails := 0
        err := true }
      let s2 := if l.ops.head? = some .readCur then { s1 with limits := { s1.limits with kBad := true } } else s1
      settle s (s2.raise 34 k)
  else .next s

/-- The retry of a failed transaction, 1 µs after it (R505, R508). -/
def execAvsRetry (k : ConvIx) (s : State) : Out :=
  let l := s.link k
  if s.traysUp && decide (l.fails > 0) then
    let s1 := { s with avs := { s.avs with retry := incSat 255 s.avs.retry } }
    settle s (match l.ops.head? with
      | some op => s1.avsSent k op
      | none => s1)
  else .next s

end Sys2Proof.Machine
end

