-- ==== Sys2Proof/Machine/Profile.lean ====
section
/-! DEFINITION. The profile generator of R57 and R58.  It carries its state on the lattice in which one 50 ns step is exact in
integers: jerk in 2^−8 mV/µs³, a in 1/5,120 mV/µs², v in 1/204,800 mV/µs, p in 1/12,288,000 mV, all finer than R57 asks.
The search for the fewest-step plan and what it takes to be a plan are in notes/assumptions/6.md. -/

namespace Sys2Proof.Machine

/-- p, v and a of a generator, p measured from a chosen origin. -/
structure Motion where
  p : Int
  v : Int
  a : Int
  deriving DecidableEq, Repr, Inhabited

/-- V_MAX, A_MAX and J_MAX in the generator's units. -/
structure MotionLimits where
  v : Int
  a : Int
  j : Int
  deriving DecidableEq, Repr, Inhabited

/-- The limits of profile codes (R56): 0.25 mV/µs, 1 mV/µs² and 16 mV/µs³ a step. -/
def motionLimits (vMax aMax jMax : Nat) : MotionLimits :=
  { v := 51200 * vMax, a := 5120 * aMax, j := 4096 * jMax }

/-- 1/64 mV in units of p. -/
def pStep : Int := 192000

/-- One 50 ns step at a constant jerk, integrated exactly (R57). -/
def Motion.step (m : Motion) (j : Int) : Motion :=
  { p := m.p + 3 * m.v + 3 * m.a + j, v := m.v + 2 * m.a + j, a := m.a + j }

/-- The mirror image of a motion. -/
def Motion.neg (m : Motion) : Motion := { p := -m.p, v := -m.v, a := -m.a }

/-- The most that an acceleration a > 0 still adds to the velocity at a step boundary while it is brought down as fast as the limits
allow: whole steps of −J to the last positive value r, then one step that may end below 0, down to −A (R57). -/
def gainToLevel (l : MotionLimits) (a : Int) : Int :=
  if a ≤ 0 then 0 else
    let n := (a - 1) / l.j
    let r := a - n * l.j
    n * (a + r) + max 0 (2 * r - min l.j (r + l.a))

/-- The least change of velocity over n steps that begin with acceleration a and end with none. -/
def leastChange (l : MotionLimits) (a : Int) (n : Int) : Int :=
  if n ≤ 0 then 0 else
    let k1 := max 0 (min (n - 1) (min ((a + n * l.j) / (2 * l.j)) ((a + l.a) / l.j)))
    let k3 := max 0 (min (l.a / l.j) (n - 1 - k1))
    let s1 := k1 * a - l.j * (k1 * (k1 + 1) / 2)
    let s3 := -(l.j * (k3 * (k3 + 1) / 2))
    a + 2 * (s1 + s3 - (n - 1 - k1 - k3) * l.a)

/-- The largest integer x in [lo, hi] with q x, for a q that holds up to some point and not after it; lo − 1 if none. The
interval is halved at most `fuel` times. -/
def largest (q : Int → Bool) : Nat → Int → Int → Int
  | 0, lo, _ => if q lo then lo else lo - 1
  | fuel + 1, lo, hi =>
    if hi < lo then lo - 1
    else if q hi then hi
    else
      let mid := (lo + hi) / 2
      if q mid then largest q fuel mid (hi - 1) else largest q fuel lo (mid - 1)

/-- The least number of steps from V_MAX at rest of acceleration to a standstill, found upward from n. -/
def stepsToStop (l : MotionLimits) (v : Int) : Nat → Int → Int
  | 0, n => n
  | fuel + 1, n => if v + leastChange l 0 n ≤ 0 then n else stepsToStop l v fuel (n + 1)

/-- A next acceleration is allowed with n steps left after it: within A_MAX and reach of 0, able to level off below V_MAX, and
able to stop. -/
def accAllowed (l : MotionLimits) (v a n a' : Int) : Bool :=
  decide (a' ≤ l.a) && decide (a' ≤ n * l.j) && decide (v + a + a' + gainToLevel l a' ≤ l.v) &&
  decide (v + a + a' + leastChange l a' n ≤ 0)

/-- The farthest way that n steps from (v, a) to rest can cover, or none if they cannot end at rest: at each step the largest
acceleration that still allows the rest. -/
def farthest (l : MotionLimits) (nStop : Int) : Nat → Int → Int → Int → Int → Option Int
  | 0, n, acc, v, a => if n = 0 ∧ v = 0 ∧ a = 0 then some acc else none
  | fuel + 1, n, acc, v, a =>
    if n = 0 then (if v = 0 ∧ a = 0 then some acc else none)
    else if a = 0 ∧ v = l.v ∧ n > nStop then
      farthest l nStop fuel nStop (acc + 3 * v * (n - nStop)) v a
    else
      let lo := max (-l.a) (max (a - l.j) (-((n - 1) * l.j)))
      let hi := min l.a (a + l.j)
      let a' := largest (accAllowed l v a (n - 1)) 40 lo hi
      if a' < lo then none
      else farthest l nStop fuel (n - 1) (acc + 3 * v + 2 * a + a') (v + a + a') a'

/-- The farthest way in n steps. -/
def farthestIn (l : MotionLimits) (n : Nat) (v a : Int) : Option Int :=
  farthest l (stepsToStop l l.v 4000 1) (min n 6000) n 0 v a

/-- The jerks of the one plan of 1, 2 or 3 steps that ends at rest at the origin, by solving for them. -/
def shortPlan (m : Motion) : Nat → List Int
  | 1 => [-m.a]
  | 2 => [-(m.v + 3 * m.a) / 2, (m.v + m.a) / 2]
  | _ =>
    let r1 := -m.a
    let r2 := -(m.v + 6 * m.a)
    let r3 := -(m.p + 9 * m.v + 27 * m.a)
    -- j1 + j2 + j3 = r1; 5 j1 + 3 j2 + j3 = r2; 19 j1 + 7 j2 + j3 = r3
    let j1 := ((r3 - r1) - 3 * (r2 - r1)) / 6
    let j2 := ((r2 - r1) - 4 * j1) / 2
    [j1, j2, r1 - j1 - j2]

/-- A list of jerks is a plan to rest at the origin within the limits at every step boundary (R57). -/
def isPlan (l : MotionLimits) : Motion → List Int → Bool
  | m, [] => decide (m = { p := 0, v := 0, a := 0 })
  | m, j :: t =>
    let m' := m.step j
    decide (-l.j ≤ j ∧ j ≤ l.j ∧ -l.a ≤ m'.a ∧ m'.a ≤ l.a ∧ -l.v ≤ m'.v ∧ m'.v ≤ l.v) && isPlan l m' t

/-- n steps from the motion can end at rest at or below the origin, or the motion falls too fast to end at rest in n steps at
all, which a larger jerk mends. -/
def notTooFar (l : MotionLimits) (n : Nat) (m : Motion) : Bool :=
  if l.v < -m.v ∨ l.v < -m.v + gainToLevel l (-m.a) ∨ (n : Int) * l.j < -m.a ∨ 0 < -m.v + leastChange l (-m.a) n then true
  else match farthestIn l n (-m.v) (-m.a) with
    | some f => decide (m.p ≤ f)
    | none => false

/-- n steps can cover the way to the origin. -/
def nearEnough (l : MotionLimits) (n : Nat) (m : Motion) : Bool :=
  match farthestIn l n m.v m.a with
  | some f => decide (-m.p ≤ f)
  | none => false

/-- A plan of n steps to rest at the origin is within reach: the way lies between the least and the greatest that n steps
cover. -/
def reachable (l : MotionLimits) (n : Nat) (m : Motion) : Bool :=
  nearEnough l n m && (farthestIn l n (-m.v) (-m.a)).isSome && notTooFar l n m

/-- The values that must stay within bounds in a plan of four steps with first jerk j, whose other three jerks are solved for,
each with its bound; every value is linear in j. -/
def fourStepValues (l : MotionLimits) (m : Motion) (j : Int) : List (Int × Int) :=
  let m1 := m.step j
  let t := shortPlan m1 3
  let m2 := m1.step (t.getD 0 0)
  let m3 := m2.step (t.getD 1 0)
  [(t.getD 0 0, l.j), (t.getD 1 0, l.j), (t.getD 2 0, l.j), (m2.a, l.a), (m3.a, l.a), (m1.v, l.v), (m2.v, l.v), (m3.v, l.v)]

/-- Narrow an interval to the integers j for which c + k j lies within ± bound. -/
def linearBounds (bound c k : Int) (i : Int × Int) : Int × Int :=
  let x := -bound - c
  let y := bound - c
  if k = 0 then (if x ≤ 0 ∧ 0 ≤ y then i else (i.1, i.1 - 1))
  else if k > 0 then (max i.1 ((x + k - 1) / k), min i.2 (y / k))
  else (max i.1 (-(y / -k)), min i.2 ((-x) / -k))

/-- The largest first jerk of a plan of n + 1 steps from m, which lies below the origin or moves upward; none without one. -/
def firstJerk (l : MotionLimits) (n : Nat) (m : Motion) : Option Int :=
  if n < 3 then
    let p := shortPlan m (n + 1)
    if isPlan l m p then p.head? else none
  else
    let lo := max (-l.j) (-l.a - m.a)
    let hi := min l.j (l.a - m.a)
    let fits (j : Int) : Bool :=
      let m' := m.step j
      decide (m'.v ≤ l.v) && decide (m'.v + gainToLevel l m'.a ≤ l.v) && notTooFar l n m'
    if n = 3 then
      let x := fourStepValues l m 0
      let y := fourStepValues l m 1
      let b := (x.zip y).foldl (fun acc e => linearBounds e.1.2 e.1.1 (e.2.1 - e.1.1) acc) (lo, hi)
      if b.1 ≤ b.2 ∧ isPlan l (m.step b.2) (shortPlan (m.step b.2) 3) then some b.2 else none
    else
      let j := largest fits 40 lo hi
      if lo ≤ j ∧ nearEnough l n (m.step j) then some j else none

/-- The least n found in (lo, hi] for which the way can be covered in n steps. -/
def searchSteps (l : MotionLimits) (m : Motion) : Nat → Nat → Nat → Nat
  | 0, _, hi => hi
  | fuel + 1, lo, hi =>
    if hi ≤ lo + 1 then hi
    else
      let mid := (lo + hi) / 2
      if reachable l mid m then searchSteps l m fuel lo mid else searchSteps l m fuel mid hi

/-- A number of steps, doubled until the way can be covered. -/
def enoughSteps (l : MotionLimits) (m : Motion) : Nat → Nat → Nat
  | 0, n => n
  | fuel + 1, n => if reachable l n m then n else enoughSteps l m fuel (2 * n)

/-- The jerk of the fewest-step plan with the largest jerks upward, from a motion that lies below the origin or, at it, moves
upward (R57). Where |a| and |v| lie within tightened limits and a still carries v past V_MAX, so that no plan exists, the jerk is 0: the
manual gives none there (DESIGN CHOICE, notes/assumptions/40.md). -/
def planUp (l : MotionLimits) (m : Motion) : Int :=
  match (List.range 3).findSome? fun n => firstJerk l n m with
  | some j => j
  | none =>
    let top := enoughSteps l m 20 4
    let n := if top = 4 then 4 else searchSteps l m 24 (top / 2) top
    ((List.range 12).findSome? fun k => firstJerk l (n - 1 + k) m).getD 0

/-- The jerk of one step toward a target with the present limits (R57), and while a or v lies outside them, the jerk that
brings |a|, then |v|, within them (R58). With p at the target, v = 0 and a not 0 the sign of R57 is 0, which gives no direction: the model
plans downward (DESIGN CHOICE, notes/assumptions/40.md). -/
def planJerk (l : MotionLimits) (m : Motion) : Int :=
  if m = { p := 0, v := 0, a := 0 } then 0
  else if m.a > l.a then -(min l.j (m.a - l.a))
  else if m.a < -l.a then min l.j (-l.a - m.a)
  else if m.v > l.v then max (-l.j) (-l.a - m.a)
  else if m.v < -l.v then min l.j (l.a - m.a)
  else if m.p < 0 ∨ (m.p = 0 ∧ m.v > 0) then planUp l m
  else -(planUp l m.neg)

/-- One profile step toward a target in 1/64 mV: the planned jerk, then the snap to the target of R57. -/
def profileStep (l : MotionLimits) (target : Nat) (m : Motion) : Motion :=
  let t : Int := target * pStep
  let m' := m.step (planJerk l { m with p := m.p - t })
  if (t - m'.p).natAbs < 192000 ∧ m'.v.natAbs < 51200 ∧ m'.a.natAbs < 5120 then { p := t, v := 0, a := 0 } else m'

/-- p as the rest of the cell reads it: 1/64 mV, ties to even (R57). -/
def pOut (p : Int) : Nat := (divEven p 192000).toNat

end Sys2Proof.Machine
end

