-- ==== Sys2Proof/Machine/Cells.lean ====
section
/-! DEFINITION. A regulator cell by itself: its events of R45 to R92, the window of measurements it closes for telemetry
(R89 to R91), and the shared operations by which a cell enters OFF, HOLD, MEASURE and four phases. -/

namespace Sys2Proof.Machine

/-! ### Readings of a cell -/

/-- The position p that the rest of the cell uses, in 1/64 mV (R57). -/
def cellP (c : Cell) : Nat := pOut c.p

/-- The profile target of R54 and R55, in 1/64 mV: 0 while the cell ramps to 0. -/
def cellTarget (c : Cell) : Nat :=
  if c.ramp then 0 else (clampI 0 64000 ((c.tgt : Int) + 8 * c.trim)).toNat

/-- The MODE a cell reports (R73, R90): ZERO is reported once every switch is open (R87). -/
def modeCode (c : Cell) : Nat :=
  match c.mode with
  | .off => 0
  | .rise => 1
  | .fall => 2
  | .run => 3
  | .hold => 4
  | .zero => if c.zeroDone then 5 else 3
  | .test => 6
  | .measure => 7

/-- PHASES of R90. -/
def phasesCode : Phases → Nat
  | .burst => 0
  | .one => 1
  | .two => 2
  | .four => 3

/-- SEL of R112. -/
def selCode : Sel → Nat
  | .isolate => 0
  | .home => 1
  | .neighbour => 2

/-- The arm state that the enables and the hint order give (R63, R64). -/
def armOf (c : Cell) : Arm := if !c.cfg.rsvEn then .disarmed else if c.hintArm then .hint else .base

/-- The arm state of the reserve in each cell state (R63, R73, R84). -/
def cellArm (c : Cell) : Arm :=
  match c.mode with
  | .run => armOf c
  | .hold => c.armHeld
  | _ => .disarmed

/-- READ_STATE code of an arm state (R114). -/
def armCode : Arm → Nat
  | .disarmed => 0
  | .base => 1
  | .hint => 2

/-- T_droop in mV (R63). -/
def tDroop (c : Cell) : Nat := if cellArm c = .hint then c.cfg.rsvHint else c.cfg.rsvDroop

/-- The cell follows the rules of FALL: in FALL, or in HOLD entered from it (R84). -/
def fallRules (c : Cell) : Bool := c.mode == .fall || (c.mode == .hold && c.holdFrom == .fall)

/-- T_over in mV (R63, R73). -/
def tOver (c : Cell) : Nat := if fallRules c then 4 else c.cfg.bleedOver

/-- The bleed is armed (R63, R73, R77, R84, R94). In RISE and FALL it is armed whatever BLEED_EN, as R73 has it, where R63 disarms it
with BLEED_EN = 0 (DESIGN CHOICE, notes/assumptions/41.md). -/
def bleedArmed (c : Cell) : Bool :=
  match c.mode with
  | .rise => true
  | .fall => true
  | .run => c.cfg.bleedEn
  | .hold => c.bleedHeld
  | _ => false

/-- The cell steers its current to zero: in ZERO, or at the start of a self-test, before every switch is open (R87, R92). -/
def steering (c : Cell) : Bool :=
  match c.mode with
  | .zero => !c.zeroDone
  | .test => !c.zeroDone
  | _ => false

/-- The power stage switches under the compensator (R73, R87, R92). -/
def switching (c : Cell) : Bool :=
  match c.mode with
  | .rise => true
  | .run => true
  | .hold => !fallRules c
  | _ => steering c

/-- The profile generator runs (R73); it also takes a ramp to 0 in any state (R74). -/
def generating (c : Cell) : Bool :=
  match c.mode with
  | .rise => true
  | .fall => true
  | .run => true
  | .hold => true
  | _ => c.ramp

/-- The position that the compensator follows, in 1/64 mV: p, moved by the overriding trim while the cell steers its current to zero
(R87, notes/assumptions/41.md). -/
def loopP (c : Cell) : Int :=
  if steering c then clampI 0 64000 ((cellP c : Int) + 8 * satS 8 (Config.zeroTrim c.iUs)) else (cellP c : Int)

/-- The nominal duty d_nom of R51 in 1/4096 codes, rounded under R4. -/
def dNom (c : Cell) : Int :=
  if c.vinCoarse = 0 then Config.dutyWithoutInput c.p
  else divEven (2 ^ 24 * loopP c) (640 * c.vinCoarse)

/-- A duty in 1/4096 codes as the 12-bit code of R48. -/
def dutyCode (d : Int) : Nat := (clampI 0 4032 (divEven d 4096)).toNat

/-- The pulse of one switching cycle in steps of 6.1035 ps: duty / 4, one step longer in the first (duty mod 4) of every four cycles; a
pulse below 16 steps is skipped (R48). -/
def pulseSteps (duty place : Nat) : Nat :=
  let w := duty / 4 + (if place < duty % 4 then 1 else 0)
  if w < 16 then 0 else w

/-- The window ADC's 7-bit code of an output `out` half millivolts above its centre (R49). -/
def windowCode (out : Int) : Int := clampI (-64) 63 out

/-- The voltage on which the window ADC is centred, 1/64 mV: p, or in MEASURE the coarse value (R49, R75). -/
def windowCentre (c : Cell) : Int :=
  if c.mode = .measure then (320 * c.measCoarse.getD c.vCoarse : Nat) else (cellP c : Int)

/-- Voltage of the reserve capacitor as RSV_V (R90): 50 mV steps, 6 bits. -/
def rsvCode (c : Cell) : Nat := satU 6 (divEven (c.rsvUv : Int) 50000)

/-- How many of the latest 160 CELLSYNC cycles a history marks. -/
def cyclesOn (h : BitVec 160) : Nat := ((List.range 160).filter fun k => h.getLsbD k).length

/-! ### Changes of state -/

/-- The bleed conducts while it is armed, its comparator is tripped and its budget lasts; a disarmed comparator is off (R62, R63). -/
def bleedGate (c : Cell) : Cell :=
  let trip := c.ovr && bleedArmed c
  let on := trip && !c.bleedSpent
  { c with ovr := trip, bleedOn := on, win := { c.win with bleed := c.win.bleed || on } }

/-- Four phases again, the light-load measure restarting from a fresh window (R70): the window in progress goes on, and its end does not
count for shedding (DESIGN CHOICE, notes/assumptions/41.md). -/
def readd (c : Cell) : Cell := { c with phases := .four, burstOn := false, freshWindow := true, lowUs := 0 }

/-- Enter OFF: every switch opens, the generator is idle with p := 0 (R73). -/
def enterOff (c : Cell) : Cell :=
  { c with mode := .off, ramp := false, rampExp := false, zeroDone := false, boot := false, p := 0, v := 0, a := 0, u := 0,
           duty := 0, dutyNext := 0, pulse := 0, phases := .four, burstOn := false, lowUs := 0, rsvFire := false,
           ovr := false, bleedOn := false, holdCyc := 0, marks := 0, tgtNext := none }

/-- Enter HOLD from RISE, FALL or RUN: the arm states of the reserve and the bleed are frozen as they stand in that state (R73, R84). -/
def enterHold (src : CellMode) (c : Cell) : Cell :=
  { c with mode := .hold, holdFrom := src, armHeld := cellArm { c with mode := src }, bleedHeld := bleedArmed { c with mode := src },
           holdCyc := 0, marks := 0, tgtNext := none }

/-- Enter MEASURE toward a target (R75); the HOLD time of an expired HOLD reads no longer (R85). -/
def enterMeasure (target : Nat) (c : Cell) : Cell :=
  bleedGate { c with
    mode := .measure, ramp := false, zeroDone := false, tgt := target, tgtNext := none, v := 0, a := 0, u := 0,
    duty := 0, dutyNext := 0, pulse := 0, holdExp := false, marks := 0, measCoarse := none, measSum := 0, measN := 0 }

/-- Queue an urgent report (R116). -/
def urgent (code detail : Nat) (c : Cell) : Cell := { c with urg := c.urg ++ [(code, detail)] }

/-- PREBIAS_ERR: telemetry bit 1 and the urgent report with the coarse output (R74, R78, R116). -/
def prebiasOff (c : Cell) : Cell := urgent 2 (c.vCoarse % 4096) { enterOff c with prebias := true }

/-! ### Telemetry (R89 to R91) -/

/-- The payload of the window that ends as the cell stands (R90, R91). Where the window holds no sample the mean is a free value. -/
def cellTlm (c : Cell) (tag : Nat) (part : Bool) (fv fi : BitVec 64) : Nat :=
  let w := c.win
  let vout := if w.winClip then
      (if w.coarseN = 0 then fv.toNat % 4096 else satU 12 (divEven (20 * (w.coarseSum : Int)) w.coarseN))
    else (if w.voutN = 0 then fv.toNat % 4096 else satU 12 (divEven w.voutSum (16 * w.voutN)))
  let iout := if w.ioutN = 0 then fi.toNat % 4096 else toCode 12 (satS 12 (divEven w.ioutSum w.ioutN))
  packN [(63, 56, c.gen), (55, 52, tag), (51, 40, vout), (39, 28, iout), (27, 25, modeCode c), (24, 23, phasesCode c.phases),
    (22, 17, rsvCode c), (16, 13, min 15 w.rsvCount), (12, 8, min 31 w.droopMax), (7, 7, b2n w.bleed), (6, 6, b2n c.ocLimit), (5, 5, b2n c.ovl),
    (4, 4, b2n (w.syncLost || !c.sync)), (3, 3, b2n w.limConv), (2, 2, b2n w.winClip), (1, 1, b2n (c.prebias || c.expired)),
    (0, 0, b2n part)]

/-- A new window; time without CELLSYNC lock counts from its start (R79). -/
def freshWin (c : Cell) : Window := { syncLost := !c.sync }

/-- End the window at a change of generation: the partial window waits for the next poll (R89). -/
def cutWindow (fv fi : BitVec 64) (c : Cell) : Cell :=
  { c with partialTlm := some (cellTlm c c.winTag true fv fi), win := freshWin c }

/-- The full window ends at the commit that opens epoch `winTag`; a cell polled in that epoch closes it unless a partial window waits
for the poll (R90, R117). -/
def closeWindow (fv fi : BitVec 64) (c : Cell) : Cell :=
  if c.partialTlm.isSome then c
  else { c with fullTlm := some (cellTlm c ((c.winTag + 15) % 16) false fv fi), win := freshWin c }

/-- A payload has been sent: PREBIAS_ERR and HOLD_EXPIRED that it carried are reported (R85, R90). -/
def reported (p : Nat) (c : Cell) : Cell := if bitAt p 1 then { c with prebias := false, expired := false } else c

/-- Take a new generation: a change ends the window in progress (R89, R124). -/
def takeGen (g : Nat) (fv fi : BitVec 64) (c : Cell) : Cell :=
  if c.gen = g then c else { cutWindow fv fi c with gen := g }

/-- The generation after g (R123). -/
def genNext (g : Nat) : Nat := if g ≥ 255 then 1 else g + 1

/-! ### The commands -/

/-- Cells are supplied and out of power-on reset (R20, R372). -/
def State.cellsUp (s : State) : Bool := s.start.aon && !s.start.cellRst

/-- A cell's own event. -/
def State.cellEvent (s : State) (i : CellIx) (f : Cell → Cell) : Out :=
  if s.cellsUp then .next (s.updCell i f) else .next s

/-- The compensator of R51 over one sample: every sample makes an error; the duty is formed while the power stage switches, and the
pulse is that of the duty in force, none while a burst rests (R48, R66). -/
def compensate (code : Int) (c : Cell) : Cell :=
  let e := -code
  let c0 := { c with e1 := e, e2 := c.e1 }
  if switching c then
    let u := c.u + c.k0 * e + c.k1 * c.e1 + c.k2 * c.e2
    let dn := dNom c
    let d := dutyCode (dn + u)
    let u' := if d = 0 ∨ d = 4032 then 4096 * (d : Int) - dn else u
    let place := (c.dither + 1) % 4
    { c0 with u := u', duty := c.dutyNext, dutyNext := d, dither := place,
              pulse := if c.phases = .burst ∧ !c.burstOn then 0 else pulseSteps c.dutyNext place }
  else { c0 with pulse := 0 }

/-- What a sample adds to the telemetry window (R49, R90, R91) and, in MEASURE, to the mean of its first 0.5 µs (R75). -/
def sampleWin (code : Int) (c : Cell) : Cell :=
  let depth := if code < 0 then (divEven (-code) 2).toNat else 0
  let x := windowCentre c + 32 * code
  let w := { c.win with
    voutSum := c.win.voutSum + x
    voutN := c.win.voutN + 1
    droopMax := max c.win.droopMax (min 31 depth)
    winClip := c.win.winClip || code == -64 || code == 63 }
  let take := c.mode == .measure && c.measCoarse.isSome && decide (c.measN < 80)
  { c with win := w, sampleCode := code, measSum := if take then c.measSum + x else c.measSum, measN := if take then c.measN + 1 else c.measN }

/-- The overshoot comparator and the bleed over one cycle: the comparator releases 2 mV below its threshold, the budget is 32 of the last
160 cycles, and a bleed whose comparator is still tripped conducts again once the window has moved on (R59, R62). -/
def bleedStep (out : Int) (c : Cell) : Cell :=
  let h := (c.bleedHist <<< 1) ||| (if c.bleedOn then 1 else 0)
  bleedGate { c with
    ovr := c.ovr && decide (2 * ((tOver c : Int) - 2) ≤ out)
    bleedHist := h
    bleedSpent := decide (cyclesOn h ≥ 32) }

/-- The 60 mA pump over one cycle: 18.75 mV into 20 nF, up to 2.4 V (R60). -/
def pumpStep (c : Cell) : Cell := { c with rsvUv := min 2400000 (c.rsvUv + 18750) }

/-- One CELLSYNC cycle with the output's distance from the window ADC's centre, in 0.5 mV, and the phases that met their peak limit (R49,
R51, R59, R60, R62, R70, R71, R85). -/
def l0Step (out : Int) (lim : Nat) (c : Cell) : Cell :=
  let code := windowCode out
  let c1 := compensate code (sampleWin code c)
  let c2 := if (code ≤ -32 || lim ≠ 0) && (c1.mode == .run || c1.mode == .hold) then readd c1 else c1
  let c3 := pumpStep (bleedStep out c2)
  if c3.mode = .hold then { c3 with holdCyc := c3.holdCyc + 1 } else c3

/-- One CELLSYNC cycle of a cell (R51). -/
def execL0Cycle (i : CellIx) (out : Int) (lim : BitVec 4) (s : State) : Out :=
  s.cellEvent i (l0Step out lim.toNat)

/-- The set-up received takes effect at a profile step (R54, R58, R69, R93). -/
def takeReceived (c : Cell) : Cell :=
  bleedGate { c with
    trim := c.trimNext.getD c.trim
    trimNext := none
    cfg := c.cfgNext.getD c.cfg
    cfgNext := none
    holdLim := (c.glbNext.map (·.1)).getD c.holdLim
    ocPersist := (c.glbNext.map (·.2)).getD c.ocPersist
    glbNext := none }

/-- One 50 ns step of the generator toward the present target (R57, R58). -/
def generate (c : Cell) : Cell :=
  let l := motionLimits c.cfg.vMax c.cfg.aMax c.cfg.jMax
  if generating c && c.cfg.vMax ≠ 0 && c.cfg.aMax ≠ 0 && c.cfg.jMax ≠ 0 then
    let out := decide (c.v.natAbs > l.v.natAbs) || decide (c.a.natAbs > l.a.natAbs)
    let m := profileStep l (cellTarget c) { p := c.p, v := c.v, a := c.a }
    let c1 := { c with p := m.p, v := m.v, a := m.a, win := { c.win with limConv := c.win.limConv || out } }
    if c1.phases = .burst ∧ c1.v ≠ 0 then { c1 with phases := .one, burstOn := false } else c1
  else c

/-- One step of the profile generator (R57, R67). -/
def execProfileStep (i : CellIx) (s : State) : Out := s.cellEvent i fun c => generate (takeReceived c)

/-- The fold-back limit L of R71, in A. -/
def foldBack (vCoarse p64 : Nat) : Rat :=
  if p64 < 6400 then 1 / 5
  else
    let f : Rat := (320 * vCoarse : Nat) / (p64 : Nat)
    if 4 / 5 ≤ f then 3 / 4 else if f ≤ 1 / 5 then 1 / 5 else 1 / 5 + (f - 1 / 5) * (11 / 12)

/-- Both readings of the coarse ADC and the limit they give (R50, R71). -/
def execCoarseAdcUpdate (i : CellIx) (vout vin : BitVec 8) (s : State) : Out :=
  s.cellEvent i fun c => { c with
    vCoarse := vout.toNat
    vinCoarse := vin.toNat
    measCoarse := if c.mode = .measure then some (c.measCoarse.getD vout.toNat) else c.measCoarse
    foldLim := foldBack vout.toNat (cellP c)
    win := { c.win with coarseSum := c.win.coarseSum + vout.toNat, coarseN := c.win.coarseN + 1 } }

/-- A droop crossing: counted, four phases return, and the reserve fires if it is charged (R60, R61, R70). -/
def droop (c : Cell) : Cell :=
  if cellArm c = .disarmed then c
  else
    let c1 := readd { c with win := { c.win with droopMax := max c.win.droopMax (min 31 (tDroop c)) } }
    if c1.rsvReady then
      { c1 with rsvReady := false, rsvFire := true, rsvUv := c1.rsvUv - 1200000, win := { c1.win with rsvCount := min 15 (c1.win.rsvCount + 1) } }
    else c1

/-- The output falls through p − T_droop. -/
def execDroopCrossing (i : CellIx) (s : State) : Out := s.cellEvent i droop

/-- The reserve switch opens 3 ns after it closed (R60). -/
def execReserveEnd (i : CellIx) (s : State) : Out := s.cellEvent i fun c => { c with rsvFire := false }

/-- The reserve capacitor is back above 2.3 V (R60). -/
def execReserveRearm (i : CellIx) (s : State) : Out := s.cellEvent i fun c =>
  { c with rsvReady := true, rsvUv := max 2300000 c.rsvUv }

/-- The output rises above p + T_over: the comparator of an armed bleed trips, and the bleed conducts while its budget lasts (R59, R62). -/
def execOvershootTrip (i : CellIx) (s : State) : Out := s.cellEvent i fun c => bleedGate { c with ovr := true }

/-- 200 ns of the last 1 µs are spent: the bleed stays off until the window has moved on (R62). -/
def execBleedBudgetSpent (i : CellIx) (s : State) : Out :=
  s.cellEvent i fun c => bleedGate { c with
    bleedSpent := true
    bleedHist := if cyclesOn c.bleedHist ≥ 32 then c.bleedHist else c.bleedHist ||| BitVec.ofNat 160 (2 ^ 32 - 1) }

/-- The new light-load mode at the end of a full 1 µs window (R65, R69, R70). -/
def lightLoad (amp : Int) (c : Cell) : Phases :=
  if c.hintArm then .four
  else if c.phases ≠ .four ∧ (!c.cfg.shedEn ∨ amp > 144) then .four
  else match c.phases with
    | .four => if amp < 96 && c.cfg.shedEn && !c.freshWindow then .two else .four
    | .two => if amp < 96 then .one else .two
    | .one => if amp < 24 && c.cfg.burstEn && c.v == 0 then .burst else .one
    | .burst => if c.cfg.burstEn then .burst else .one

/-- The end of a 1 µs window with its current measure (R65, R90). Burst mode is entered at rest, between two bursts: R66 does not say
whether a first burst of 16 cycles comes at once (DESIGN CHOICE, notes/assumptions/41.md). -/
def execLightLoadWindow (i : CellIx) (amp : Int) (s : State) : Out :=
  s.cellEvent i fun c =>
    let ph := if c.mode = .run ∨ c.mode = .hold then lightLoad amp c else c.phases
    { c with
      iUs := amp
      freshWindow := false
      phases := ph
      burstOn := c.burstOn && ph == .burst
      win := { c.win with ioutSum := c.win.ioutSum + amp, ioutN := c.win.ioutN + 1 } }

/-- A burst starts on phase 0 (R66). -/
def execBurstStart (i : CellIx) (s : State) : Out :=
  s.cellEvent i fun c => if c.phases = .burst then { c with burstOn := true } else c

/-- A burst stops after its 16 cycles; the cell leaves burst where the stop before it was shorter than 100 ns (R66, R67). -/
def execBurstStop (i : CellIx) (short : Bool) (s : State) : Out :=
  s.cellEvent i fun c =>
    if c.phases = .burst then { c with burstOn := false, phases := if short then .one else .burst } else c

/-- A phase has met its limit for OC_PERSIST µs (R72, R116). -/
def execOcLimitSet (i : CellIx) (phases : BitVec 4) (s : State) : Out :=
  s.cellEvent i fun c =>
    if c.ocLimit then c else urgent 1 phases.toNat { c with ocLimit := true, ocPhases := phases.toNat }

/-- A full 1 µs without a limit cycle (R72). -/
def execOcLimitClear (i : CellIx) (s : State) : Out := s.cellEvent i fun c => { c with ocLimit := false, ocPhases := 0 }

/-- More than 10 µs of the last 100 µs above 1.2 A (R46). -/
def execOvlSet (i : CellIx) (s : State) : Out := s.cellEvent i fun c => { c with ovl := true }

/-- The time above 1.2 A falls back to 10 µs or less (R46). -/
def execOvlClear (i : CellIx) (s : State) : Out := s.cellEvent i fun c => { c with ovl := false }

/-- CELLSYNC is lost: nothing else of the cell changes (R79, R81). -/
def execCellsyncLoss (i : CellIx) (s : State) : Out :=
  s.cellEvent i fun c => { c with sync := false, win := { c.win with syncLost := true } }

/-- CELLSYNC lock is declared (R80). -/
def execCellsyncRegain (i : CellIx) (s : State) : Out := s.cellEvent i fun c => { c with sync := true }

/-- What MEASURE has measured, in 1/64 mV: the mean of the coarse value and the window samples of 0.5 µs (R75). -/
def measuredP (c : Cell) : Nat :=
  (divEven (320 * (c.measCoarse.getD c.vCoarse : Nat) + c.measSum) (1 + c.measN)).toNat

/-- MEASURE ends (R74, R75, R373). -/
def measured (c : Cell) : Cell :=
  if c.mode = .measure ∧ !c.ramp then
    let p64 := measuredP c
    if p64 > 70400 then prebiasOff c
    else
      let c1 := { c with p := 192000 * (p64 : Int), v := 0, a := 0, u := 0 }
      let d := dutyCode (dNom c1)
      let c2 := { c1 with duty := d, dutyNext := d }
      let up := decide (p64 ≤ cellTarget c2)
      if c2.boot then enterHold (if up then .rise else .fall) c2
      else { c2 with mode := if up then .rise else .fall }
  else c

/-- MEASURE ends after 1 µs. -/
def execMeasureEnd (i : CellIx) (s : State) : Out := s.cellEvent i measured

/-- The RISE exit condition is met (R74, R76, R84). -/
def execRiseToRun (i : CellIx) (s : State) : Out :=
  s.cellEvent i fun c =>
    if c.ramp then c
    else if c.mode = .rise then { c with mode := .run }
    else if c.mode = .hold ∧ c.holdFrom = .rise then { c with holdFrom := .run }
    else c

/-- In FALL, p has reached the target with the output within 4 mV: RUN with d_nom for the target and u := 0 (R77, R84). -/
def fallen (c : Cell) : Cell :=
  let c1 := { c with p := 192000 * (cellTarget c : Int), v := 0, a := 0, u := 0 }
  let d := dutyCode (dNom c1)
  { c1 with duty := d, dutyNext := d }

/-- The FALL exit condition is met (R74, R77). -/
def execFallToRun (i : CellIx) (s : State) : Out :=
  s.cellEvent i fun c =>
    if c.ramp then c
    else if c.mode = .fall then { fallen c with mode := .run }
    else if c.mode = .hold ∧ c.holdFrom = .fall then { fallen c with holdFrom := .run }
    else c

/-- 2 ms in FALL (R78). -/
def execFallTimeout (i : CellIx) (s : State) : Out :=
  s.cellEvent i fun c => if c.mode = .fall then prebiasOff c else c

/-- Contact is lost (R83): a cell that already ramps to 0 goes on with its ramp. -/
def loseContact (c : Cell) : Cell :=
  if c.ramp then c
  else match c.mode with
    | .rise => enterHold .rise c
    | .fall => enterHold .fall c
    | .run => enterHold .run c
    | _ => c

/-- 16 marks without a valid multicast (R83). -/
def execContactLost (i : CellIx) (s : State) : Out := s.cellEvent i loseContact

/-- The HOLD limit is reached once HOLD_LIMIT × 160,000 cell-clock cycles of the HOLD have passed: the cell begins its ramp to 0 (R85). -/
def execHoldLimitReached (i : CellIx) (s : State) : Out :=
  s.cellEvent i fun c =>
    if c.mode = .hold ∧ !c.ramp ∧ c.holdCyc ≥ 160000 * c.holdLim then { c with ramp := true, rampExp := true } else c

/-- The current measure is below 10 mA: every switch opens (R87, R92). -/
def execZeroReached (i : CellIx) (s : State) : Out :=
  s.cellEvent i fun c => if steering c then { c with zeroDone := true, duty := 0, dutyNext := 0, pulse := 0 } else c

/-- The self-test ends with its bitmap; a cell without a loan switch reports bit 7 as passed (R92, R116). -/
def execSelftestComplete (i : CellIx) (bitmap : BitVec 8) (s : State) : Out :=
  s.cellEvent i fun c =>
    if c.mode = .test then
      let b := if (swingNo i).isSome then bitmap.toNat else orBit bitmap.toNat 7
      urgent 3 b { enterOff c with bitmap := b }
    else c

/-- A ramp reaches 0 and the cell enters OFF; at the end of an expired HOLD it sets HOLD_EXPIRED (R74, R85). -/
def execRampToZeroDone (i : CellIx) (s : State) : Out :=
  s.cellEvent i fun c =>
    if c.ramp then
      let e := c.rampExp
      { enterOff c with expired := c.expired || e, holdExp := c.holdExp || e }
    else c

end Sys2Proof.Machine
end

