-- ==== Sys2Proof/Machine/CellFrames.lean ====
section
/-! DEFINITION. Frames as the cells of a chain take them (R103 to R119, R124, R134): multicasts and marks, set-up, arming, trims,
polls, enumeration frames, and the CMD orders of R112 with their replies. -/

namespace Sys2Proof.Machine

/-! ### Reach and addressing -/

/-- A frame of chain c reaches the cell at a position: it lies on a segment the master drives (R134). -/
def State.reaches (s : State) (c pos : Nat) : Bool :=
  decide (pos < (s.chain c).j1) || decide (pos ≥ (s.chain c).j2)

/-- The cell of a chain that holds a logical address and that frames reach. -/
def State.cellByAddr (s : State) (c addr : Nat) : Option Nat :=
  (s.cells.find? fun e => chainOf e.1 == c && e.2.addr == some addr && s.reaches c (posOf e.1)).map (·.1)

/-- Change every addressed cell of a chain that frames reach. -/
def State.onChain (s : State) (c : Nat) (f : Nat → Cell → Cell) : State :=
  { s with cells := s.cells.map fun (e : Nat × Cell) =>
      if chainOf e.1 = c ∧ e.2.addr.isSome ∧ s.reaches c (posOf e.1) then (e.1, f e.1 e.2) else e }

/-- The two free values that stand for the means of cell i's window where it holds no sample (notes/assumptions/4.md). -/
def State.freeMeans (s : State) (i : Nat) : BitVec 64 × BitVec 64 :=
  (Config.freeValue (s.freeCtr + 2 * i), Config.freeValue (s.freeCtr + 2 * i + 1))

/-- The free values of every cell's window are spent. -/
def State.meansDrawn (s : State) : State := { s with freeCtr := s.freeCtr + 4610 }

/-- The generation check of R124: the cell with the generation it now holds, or none where the frame is refused. -/
def genCheck (g : Nat) (fv fi : BitVec 64) (c : Cell) : Option Cell :=
  if g = c.gen then some c
  else if c.gen ≠ 0 ∧ g = genNext c.gen then some (takeGen g fv fi c)
  else none

/-- A frame with a generation check, as every addressed cell of the chain takes it: an accepted one acts by `f` (R124). -/
def State.checkedFrame (s : State) (c : ChainIx) (payload : BitVec 64) (f : Nat → Cell → Cell) : State :=
  let g := bits payload.toNat 63 56
  (s.onChain c fun i x =>
    match genCheck g (s.freeMeans i).1 (s.freeMeans i).2 x with
    | some y => f i y
    | none => x).meansDrawn

/-- A command that is a frame on a ring. -/
def State.frame (s : State) (t : State) : Out := if s.cellsUp then .next t else .next s

/-! ### Multicasts and marks (R54, R83, R84, R104, R107) -/

/-- The entry of an MCAST payload for a domain, if it carries a valid one. -/
def mcastEntry (payload d : Nat) : Option Nat :=
  if bitAt payload 45 && bits payload 44 39 == d then some (bits payload 38 23)
  else if bitAt payload 22 && bits payload 21 16 == d then some (bits payload 15 0)
  else none

/-- An accepted multicast as a cell takes it: the entry of its domain waits for the next mark; HOLD ignores it. -/
def takeMcast (payload : Nat) (i : Nat) (c : Cell) : Cell :=
  let c1 := { c with winTag := bits payload 55 52 }
  match mcastEntry payload (cellDom i c) with
  | some t => if c1.mode = .hold then c1 else { c1 with tgtNext := some t, marks := 0 }
  | none => c1

/-- The L2 boundary at a cell: a domain target received before it takes effect, and the marks without a valid multicast are
counted, 16 of them losing contact (R54, R83, R104). -/
def markCell (fresh : Bool) (c : Cell) : Cell :=
  let c1 := { c with tgt := c.tgtNext.getD c.tgt, tgtNext := none, marks := if fresh then 0 else c.marks + 1 }
  if c1.marks ≥ 16 then
    (match c1.mode with
      | .rise => loseContact c1
      | .fall => loseContact c1
      | .run => loseContact c1
      | _ => { c1 with marks := 16 })
  else c1

/-- A mark frame at one cell: the boundary counts whether or not the generation is accepted (R126); the entries it carries wait
for the next one. The mark that opens an epoch in which the cell is polled ends its full window (R90, R117). -/
def takeMark (payload : Nat) (fv fi : BitVec 64) (i : Nat) (c : Cell) : Cell :=
  match genCheck (bits payload 63 56) fv fi c with
  | none => markCell false c
  | some y =>
    let fresh := (mcastEntry payload (cellDom i y)).isSome && y.mode != .hold
    let opens := bits payload 51 50 == 0 && bits payload 53 52 == posOf (y.addr.getD 0) % 4
    let z := if opens then closeWindow fv fi { y with winTag := bits payload 55 52 } else y
    takeMcast payload i (markCell fresh z)

/-- MCAST_MARK (R104, R107). -/
def execMcastMark (c : ChainIx) (payload : BitVec 64) (s : State) : Out :=
  s.frame (s.onChain c fun i x => takeMark payload.toNat (s.freeMeans i).1 (s.freeMeans i).2 i x).meansDrawn

/-- MCAST (R107, R124). -/
def execMcast (c : ChainIx) (payload : BitVec 64) (s : State) : Out :=
  s.frame (s.checkedFrame c payload (takeMcast payload.toNat))

/-! ### Set-up, arming, trims, segments -/

/-- The set-up a CFG payload carries (R108). -/
def cfgOf (p : Nat) : CellCfg :=
  { vMax := bits p 49 42, aMax := bits p 41 34, jMax := bits p 33 26, rsvDroop := bits p 25 20, rsvHint := bits p 19 14,
    bleedOver := bits p 13 8, burstEn := bitAt p 7, shedEn := bitAt p 6, bleedEn := bitAt p 5, rsvEn := bitAt p 4 }

/-- A CFG frame as a cell takes it, at its next profile step (R93, R108). HOLD ignores the whole frame, its set-up fields and the global
one included, where R84 speaks of limit changes (DESIGN CHOICE, notes/assumptions/39.md). -/
def takeCfg (p i : Nat) (c : Cell) : Cell :=
  if c.mode = .hold then c
  else if bits p 55 50 = 63 then { c with glbNext := some (bits p 49 44, bits p 43 40) }
  else if bits p 55 50 = cellDom i c then { c with cfgNext := some (cfgOf p) }
  else c

/-- CFG (R108). -/
def execCfgFrame (c : ChainIx) (payload : BitVec 64) (s : State) : Out :=
  s.frame (s.checkedFrame c payload (takeCfg payload.toNat))

/-- MASK selects the cell (R109). -/
def armSelects (mask i : Nat) (c : Cell) : Bool :=
  if posOf i < 256 ∧ c.sel ≠ .neighbour then bitAt mask (posOf i % 64 / 2) else mask != 0

/-- An ARM frame as a cell takes it; HOLD ignores it (R63, R64, R70, R84, R109). -/
def takeArm (p i : Nat) (c : Cell) : Cell :=
  if c.mode = .hold ∨ bits p 55 50 ≠ cellDom i c ∨ !armSelects (bits p 31 0) i c then c
  else if bitAt p 49 then readd { c with hintArm := true }
  else { c with hintArm := false }

/-- ARM (R109). -/
def execArmFrame (c : ChainIx) (payload : BitVec 64) (s : State) : Out :=
  s.frame (s.checkedFrame c payload (takeArm payload.toNat))

/-- A TRIM frame as a cell takes it, at its next profile step; HOLD ignores it (R54, R84, R110). -/
def takeTrim (p : Nat) (c : Cell) : Cell :=
  match c.addr with
  | none => c
  | some a =>
    let base := bits p 55 44
    if c.mode = .hold ∨ a < base ∨ a ≥ base + min 5 (bits p 43 40) then c
    else
      let k := a - base
      { c with trimNext := some (sext 8 (bits p (39 - 8 * k) (32 - 8 * k))) }

/-- TRIM (R110). -/
def execTrimFrame (c : ChainIx) (payload : BitVec 64) (s : State) : Out :=
  s.frame (s.checkedFrame c payload fun _ x => takeTrim payload.toNat x)

/-- PATH (R134): the cells take the new segment routing. -/
def execPathFrame (c : ChainIx) (payload : BitVec 64) (s : State) : Out :=
  s.frame (s.checkedFrame c payload fun _ x =>
    { x with pathLink := some (bits payload.toNat 55 44, bitAt payload.toNat 0) })

/-! ### Polls and reports -/

/-- What a polled cell sends, and the cell after it: a partial window that waits, or the latest full one. A cell that has had no mark
opening an epoch of its poll ends its window at the poll (DESIGN CHOICE, notes/assumptions/41.md). -/
def pollReply (fv fi : BitVec 64) (x : Cell) : Nat × Cell :=
  match x.partialTlm, x.fullTlm with
  | some p, _ => (p, reported p { x with partialTlm := none })
  | none, some p => (p, reported p { x with fullTlm := none })
  | none, none =>
    let p := cellTlm x ((x.winTag + 15) % 16) false fv fi
    (p, reported p { x with win := freshWin x })

/-- TLM_POLL: the polled cell answers with its partial window or its latest full one, and recomputes the CRC (R89, R90, R102, R117,
R135). -/
def execTlmPoll (c : ChainIx) (addr : BitVec 12) (s : State) : Out :=
  if !s.cellsUp then .next s
  else match s.cellByAddr c addr.toNat with
    | none => .next s
    | some i =>
      let r := pollReply (s.freeMeans 0).1 (s.freeMeans 0).2 (s.cell i)
      let s1 := s.setCell i r.2
      .next ({ s1 with freeCtr := s1.freeCtr + 2 }.updChain c fun ch => { ch with tlm := some (frameBits 9 r.1) })

/-- The cell uses the urgent slot of segment 2 of a degraded chain (R116, R135). -/
def State.onSeg2 (s : State) (i : Nat) : Bool := (s.chain (chainOf i)).st == .degraded && decide (posOf i ≥ (s.chain (chainOf i)).j2)

/-- Urgent slots free to a cell in the L2 period in progress. -/
def State.urgFree (s : State) (i : Nat) : Nat :=
  if s.onSeg2 i then (s.chain (chainOf i)).urgSlots2 else (s.chain (chainOf i)).urgSlots

/-- URG_SEND: a cell with a report takes an urgent slot that is free, of its own segment in degraded mode; the report of a cell that no
path reaches is lost (R116). -/
def execUrgSend (i : CellIx) (s : State) : Out :=
  let c := s.cell i
  let ch := chainOf i
  match c.addr, c.urg with
  | some a, (code, detail) :: t =>
    if !s.cellsUp then .next s
    else if !s.reaches ch (posOf i) then .next (s.setCell i { c with urg := t })
    else if s.urgFree i > 0 then
      let p := packN [(63, 56, c.gen), (55, 44, a), (43, 40, code), (39, 36, c.winTag), (35, 0, detail)]
      let two := s.onSeg2 i
      .next ((s.setCell i { c with urg := t }).updChain ch fun x => { x with
        urg := some (frameBits 0xA p)
        urgSlots := if two then x.urgSlots else x.urgSlots - 1
        urgSlots2 := if two then x.urgSlots2 - 1 else x.urgSlots2 })
    else .next s
  | _, _ => .next s

/-! ### Enumeration frames (R119 to R122) -/

/-- An ENUM payload rewritten to ACK with new DATA. -/
def enumAckOf (p data : Nat) : Nat := packN [(63, 56, bits p 63 56), (55, 44, bits p 55 44), (43, 40, 1), (39, 0, data)]

/-- The reply a cell writes into a frame, with its CRC (R102). -/
def State.reply (s : State) (c : ChainIx) (type p : Nat) : State := s.updChain c fun ch => { ch with rsp := some (frameBits type p) }

/-- A frame that every cell passes (R103, R119). -/
def State.passFrame (s : State) (c : ChainIx) (frame : Nat) : State :=
  s.updChain c fun ch => { ch with passed := some frame }

/-- The first cell without an address on the path TOKENs travel (R118, R120). -/
def State.firstUnaddressed (s : State) (c : ChainIx) : Option Nat :=
  let up := (List.range 288).map (cellAt c)
  (if (s.chain c).enumRescue then up.reverse else up).find? fun i => (s.cell i).addr.isNone

/-- A cell takes an address and a generation (R119). -/
def takeAddress (addr gen : Nat) (c : Cell) : Cell := { c with addr := some addr, gen := gen }

/-- TOKEN (R119, R374). -/
def execEnumToken (c : ChainIx) (payload : BitVec 64) (s : State) : Out :=
  match s.firstUnaddressed c with
  | none => s.frame (s.passFrame c (frameBits 0xB payload.toNat))
  | some i =>
    let p := payload.toNat
    s.frame ((s.updCell i (takeAddress (bits p 55 44) (bits p 63 56))).reply c 0xB (enumAckOf p (bits p 39 0)))

/-- ACK is passed by every cell (R119). -/
def execEnumAck (c : ChainIx) (payload : BitVec 64) (s : State) : Out :=
  s.frame (s.passFrame c (frameBits 0xB payload.toNat))

/-- QUERY: the addressed cell reports its generation, MODE, SEL and HOLD flag in any state (R119). -/
def execEnumQuery (c : ChainIx) (payload : BitVec 64) (s : State) : Out :=
  let p := payload.toNat
  match s.cellByAddr c (bits p 55 44) with
  | none => s.frame (s.passFrame c (frameBits 0xB p))
  | some i =>
    let x := s.cell i
    let d := packN [(39, 32, x.gen), (31, 29, modeCode x), (28, 27, selCode x.sel), (26, 26, b2n (x.mode == .hold))]
    s.frame (s.reply c 0xB (enumAckOf p d))

/-- CLEAR: the addressed cell forgets its address in OFF (R119, R121, R123). -/
def execEnumClear (c : ChainIx) (payload : BitVec 64) (s : State) : Out :=
  let p := payload.toNat
  match s.cellByAddr c (bits p 55 44) with
  | none => s.frame (s.passFrame c (frameBits 0xB p))
  | some i =>
    if (s.cell i).mode = .off then s.frame (s.updCell i fun x => { x with addr := none, gen := 0 })
    else s.frame (s.passFrame c (frameBits 0xB p))

/-- MOVE: the addressed cell takes a new address in OFF and keeps its generation (R119, R121, R122). -/
def execEnumMove (c : ChainIx) (payload : BitVec 64) (s : State) : Out :=
  let p := payload.toNat
  match s.cellByAddr c (bits p 55 44) with
  | none => s.frame (s.passFrame c (frameBits 0xB p))
  | some i =>
    if (s.cell i).mode = .off then
      s.frame ((s.updCell i fun x => { x with addr := some (bits p 11 0) }).reply c 0xB (enumAckOf p (bits p 39 0)))
    else s.frame (s.passFrame c (frameBits 0xB p))

/-- LOOP: the cell at the turn address sends the frame back (R122). -/
def execLoopFrame (c : ChainIx) (payload : BitVec 64) (s : State) : Out :=
  match s.cellByAddr c (bits payload.toNat 55 44) with
  | some i => s.frame (s.updChain c fun ch => { ch with turned := some (posOf i) })
  | none => s.frame (s.passFrame c (frameBits 0xC payload.toNat))

/-- A frame of reserved type is passed unchanged and not acted on (R103). -/
def execReservedFrame (c : ChainIx) (frame : BitVec 80) (s : State) : Out := s.frame (s.passFrame c frame.toNat)

/-! ### CMD orders (R111 to R115, R124) -/

/-- The RSP payload (R111). -/
def rspOf (gen addr op seq status data : Nat) : Nat :=
  packN [(63, 56, gen), (55, 44, addr), (43, 40, op), (39, 36, seq), (35, 32, status), (31, 0, data)]

/-- An order as its addressed cell takes it: a repeated SEQ is answered as before and not executed again, then the generation is
checked, then `act` gives STATUS, DATA and the cell (R111, R115, R124). -/
def State.order (s : State) (c : ChainIx) (h : CmdHdr) (op : Nat) (act : Nat → Cell → Nat × Nat × Cell) : State :=
  match s.cellByAddr c h.addr.toNat with
  | none => s
  | some i =>
    let x := s.cell i
    if x.seq = some h.seq.toNat then s.reply c 7 (rspOf x.gen h.addr.toNat op h.seq.toNat x.status x.data)
    else
      let m := s.freeMeans i
      let s1 := s.meansDrawn
      match genCheck h.gen.toNat m.1 m.2 x with
      | none => s1.reply c 7 (rspOf x.gen h.addr.toNat op h.seq.toNat 1 0)
      | some y =>
        let r := act i y
        let z := { r.2.2 with seq := some h.seq.toNat, status := r.1, data := r.2.1 }
        (s1.setCell i z).reply c 7 (rspOf z.gen h.addr.toNat op h.seq.toNat r.1 r.2.1)

/-- An order that only ADOPT, STOP, READ_STATE and SET_COEF pass in HOLD (R84). -/
def refusedInHold (c : Cell) : Bool := c.mode == .hold

/-- START (R74, R75, R82, R112). In ZERO before every switch is open it is refused with STATE: R74 gives ZERO to MEASURE without that
condition (DESIGN CHOICE, notes/assumptions/39.md). -/
def actStart (target : Nat) (_ : Nat) (c : Cell) : Nat × Nat × Cell :=
  if c.mode = .off then (if c.sync then (0, 0, enterMeasure target c) else (3, 0, c))
  else if c.mode = .zero ∧ c.zeroDone ∧ !c.ramp then (0, 0, enterMeasure target c)
  else (2, 0, c)

/-- STOP (R74, R112): ramp to 0, then OFF; a cell in OFF is there already. -/
def actStop (_ : Nat) (c : Cell) : Nat × Nat × Cell :=
  if c.mode = .test then (2, 0, c)
  else if c.mode = .off then (0, 0, c)
  else (0, 0, { c with ramp := true })

/-- ZERO (R74, R87): the reserve and the bleed are disarmed (R63). A cell that ramps to 0 refuses it (DESIGN CHOICE,
notes/assumptions/39.md). -/
def actZero (_ : Nat) (c : Cell) : Nat × Nat × Cell :=
  if c.mode = .run ∧ !c.ramp then (0, 0, bleedGate { c with mode := .zero, zeroDone := false }) else (2, 0, c)

/-- The selector of a SEL code (R112). -/
def selOf (v : Nat) : Option Sel :=
  match v with
  | 0 => some .isolate
  | 1 => some .home
  | 2 => some .neighbour
  | _ => none

/-- LOAN_SW (R88, R89, R112): only in ZERO with its switches open, or in OFF. A bad SEL is answered BAD before the state is looked at; the
manual gives no order between the two (DESIGN CHOICE, notes/assumptions/39.md). -/
def actLoanSw (sel newGen : Nat) (fv fi : BitVec 64) (i : Nat) (c : Cell) : Nat × Nat × Cell :=
  match selOf sel with
  | none => (4, 0, c)
  | some x =>
    if (swingNo i).isNone ∧ x ≠ .home then (4, 0, c)
    else if c.mode = .off ∨ (c.mode = .zero ∧ c.zeroDone) then
      (0, 0, { takeGen newGen fv fi c with sel := x, trim := 0, trimNext := none, tgtNext := none })
    else (2, 0, c)

/-- Put a compensator coefficient in force. -/
def setCoefOf (idx : Nat) (v : Int) (c : Cell) : Cell :=
  match idx with
  | 0 => { c with k0 := v }
  | 1 => { c with k1 := v }
  | _ => { c with k2 := v }

/-- ADOPT (R74, R84, R86, R374): HOLD ends with p, v, a, u and the arm state as they stand; stored coefficients take effect. -/
def actAdopt (_ : Nat) (c : Cell) : Nat × Nat × Cell :=
  if c.mode = .hold ∧ !c.ramp then
    let c1 := c.kNext.foldl (fun x k => setCoefOf k.1 k.2 x) c
    (0, 0, { c1 with mode := .run, boot := false, kNext := [], marks := 0 })
  else (2, 0, c)

/-- SELFTEST (R74, R92): the test begins with the way to zero current of R87, unless every switch is open already. A cell that ramps to
0 refuses it (DESIGN CHOICE, notes/assumptions/39.md). -/
def actSelftest (_ : Nat) (c : Cell) : Nat × Nat × Cell :=
  if (c.mode = .off ∨ c.mode = .zero ∨ c.mode = .run) ∧ !c.ramp then
    (0, 0, bleedGate { c with mode := .test, zeroDone := c.mode == .off || (c.mode == .zero && c.zeroDone) })
  else (2, 0, c)

/-- HOLD time of page 2 (R114). -/
def holdTime (c : Cell) : Nat :=
  if c.holdExp then 0x7F else if c.mode = .hold then min 126 (c.holdCyc / 160000) else 0

/-- The pages of READ_STATE (R114). -/
def statePage (page : Nat) (c : Cell) : Nat :=
  match page with
  | 0 => packN [(31, 16, cellP c), (15, 0, cellTarget c)]
  | 1 => packN [(31, 16, toCode 16 (satS 16 (divEven c.v 3200))), (15, 0, toCode 16 (satS 16 (divEven c.a 1280)))]
  | _ => packN [(31, 29, modeCode c), (28, 27, phasesCode c.phases), (26, 25, selCode c.sel), (24, 23, armCode (cellArm c)),
      (22, 16, holdTime c), (15, 8, toCode 8 c.trim), (7, 0, c.bitmap)]

/-- READ_STATE (R114). -/
def actReadState (page : Nat) (_ : Nat) (c : Cell) : Nat × Nat × Cell :=
  if page = 3 then (4, 0, c) else (0, statePage page c, c)

/-- SET_COEF (R51, R84, R112, R374): stored until ADOPT in HOLD and in the boot role. -/
def actSetCoef (idx v : Nat) (_ : Nat) (c : Cell) : Nat × Nat × Cell :=
  if idx = 3 then (4, 0, c)
  else if c.mode = .hold ∨ c.boot then (0, 0, { c with kNext := c.kNext ++ [(idx, sext 16 v)] })
  else (0, 0, setCoefOf idx (sext 16 v) c)

/-- An order refused in HOLD is answered STATE. -/
def notInHold (act : Nat → Cell → Nat × Nat × Cell) (i : Nat) (c : Cell) : Nat × Nat × Cell :=
  if refusedInHold c then (2, 0, c) else act i c

/-- START to one cell (R112). -/
def execStart (c : ChainIx) (h : CmdHdr) (target : BitVec 16) (s : State) : Out :=
  s.frame (s.order c h 1 (notInHold (actStart target.toNat)))

/-- STOP to one cell (R112). -/
def execStop (c : ChainIx) (h : CmdHdr) (s : State) : Out := s.frame (s.order c h 2 actStop)

/-- ZERO to one cell (R112). -/
def execZero (c : ChainIx) (h : CmdHdr) (s : State) : Out := s.frame (s.order c h 3 (notInHold actZero))

/-- LOAN_SW to one cell (R88, R112). -/
def execLoanSw (c : ChainIx) (h : CmdHdr) (sel : BitVec 2) (newGen : BitVec 8) (s : State) : Out :=
  let m := s.freeMeans 2304
  s.frame (s.order c h 4 (notInHold (actLoanSw sel.toNat newGen.toNat m.1 m.2)))

/-- ADOPT to one cell (R86, R112). -/
def execAdopt (c : ChainIx) (h : CmdHdr) (s : State) : Out := s.frame (s.order c h 5 actAdopt)

/-- SELFTEST to one cell (R92, R112). -/
def execSelftest (c : ChainIx) (h : CmdHdr) (s : State) : Out := s.frame (s.order c h 6 (notInHold actSelftest))

/-- READ_STATE to one cell (R114). -/
def execReadState (c : ChainIx) (h : CmdHdr) (page : BitVec 2) (s : State) : Out :=
  s.frame (s.order c h 7 (actReadState page.toNat))

/-- SET_COEF to one cell (R112). -/
def execSetCoef (c : ChainIx) (h : CmdHdr) (idx : BitVec 2) (v : BitVec 16) (s : State) : Out :=
  s.frame (s.order c h 8 (actSetCoef idx.toNat v.toNat))

/-- An OP that R112 does not list is refused with BAD; in HOLD every CMD but four is refused with STATE (R84). The codes of
listed operations are the commands above. -/
def execReservedOp (c : ChainIx) (h : CmdHdr) (op : BitVec 4) (s : State) : Out :=
  if 1 ≤ op.toNat ∧ op.toNat ≤ 8 then .next s
  else s.frame (s.order c h op.toNat fun _ x => if x.mode = .hold then (2, 0, x) else (4, 0, x))

end Sys2Proof.Machine
end

