-- ==== Sys2Proof/Machine/RingOps.lean ====
section
/-! DEFINITION. Finished commands and their completions (R472, R476, R477), and the operations that other blocks use to tell a waiting
command what became of it. -/

namespace Sys2Proof.Machine

/-- The status codes of R477. -/
def stOk : Nat := 0
def stBad : Nat := 1
def stState : Nat := 2
def stBusy : Nat := 3
def stLimit : Nat := 4
def stChain : Nat := 5
def stStale : Nat := 6
def stSuperseded : Nat := 7
def stLaw : Nat := 8
def stAborted : Nat := 9
def stDenied : Nat := 10
def stHostMem : Nat := 11
def stFlushed : Nat := 12
def stLinkFail : Nat := 13

/-- Places of the completion out FIFO (R488). -/
def complDepth : Nat := 16

/-- A completion enters the out FIFO; one that finds it full waits (R469, R472). -/
def State.pushCompl (s : State) (c : Compl) : State :=
  if s.rings.complOut.length < complDepth ∧ s.rings.complWait = [] then
    { s with rings := { s.rings with complOut := s.rings.complOut ++ [c] } }
  else { s with rings := { s.rings with complWait := s.rings.complWait ++ [c] } }

/-- A command finishes: QUIET drops an OK completion, and a refusal always signals its vector (R475, R476). -/
def State.complete (s : State) (x : CmdCtx) (opcode status data : Nat) : State :=
  if status = stOk ∧ x.quiet then s
  else s.pushCompl { opcode := opcode, ring := x.ring, tag := x.tag.toNat, index := x.index.toNat, status := status,
                     epoch := s.epochLo, data := data, intr := x.intr || status != stOk }

/-- An accepted command waits for what finishes it. -/
def State.addFlight (s : State) (x : CmdCtx) (opcode : Nat) (w : WaitFor) (data : Nat := 0) : State :=
  { s with rings := { s.rings with flights := s.rings.flights ++ [{ x := x, opcode := opcode, waits := w, data := data }] } }

/-- Finish the waiting commands that a test answers with a status and DATA, in the order of acceptance (R472). -/
def State.finishWhere (s : State) (p : Flight → Option (Nat × Nat)) : State :=
  let s1 := { s with rings := { s.rings with flights := s.rings.flights.filter fun f => (p f).isNone } }
  s.rings.flights.foldl (fun t f =>
    match p f with
    | some (st, d) => t.complete f.x f.opcode st d
    | none => t) s1

/-- Finish the commands that wait for one thing. -/
def State.finish (s : State) (w : WaitFor) (status data : Nat) : State :=
  s.finishWhere fun f => if f.waits = w then some (status, data) else none

/-- Change the DATA that a command that waits for one thing will report. -/
def State.flightData (s : State) (w : WaitFor) (data : Nat) : State :=
  { s with rings := { s.rings with flights := s.rings.flights.map fun f => if f.waits = w then { f with data := data } else f } }

/-- The command of one descriptor is superseded (R472). -/
def State.supersede (s : State) (x : CmdCtx) : State :=
  s.finishWhere fun f => if f.x = x then some (stSuperseded, 0) else none

/-- RING_ERR with its code (R470). -/
def State.ringErr (s : State) (obj code : Nat) : State :=
  ({ s with rings := { s.rings with err := orBit s.rings.err obj, errCode := code } }).raise 42 obj

end Sys2Proof.Machine
end

