-- ==== Sys2Proof/Machine/Orders.lean ====
section
/-! DEFINITION. Orders to cells and what their originators do with the replies: the master's queues (R106, R126), loans and recalls
(R127 to R131), cell audits (R413 to R416), the start of a domain and the shedding of its cells (R376 to R382), and adoption
(R388, R389). -/

namespace Sys2Proof.Machine

/-! ### Queues -/

/-- The engine writes a target for a domain and the codes of its sense of the present target (R148). -/
def State.targetOf (s : State) (d : Nat) : Nat := (s.dom d).tgt

/-- Queue an order for a cell: orders of the warden wait in a queue of their own (R106), each with the role it was composed for
(R126). -/
def State.queueOrder (s : State) (i op arg : Nat) (origin : Origin) : State :=
  let o : Order := { addr := i, op := op, arg := arg, origin := origin, role := s.role i }
  s.updChain (chainOf i) fun c =>
    if origin = .warden then { c with wardenQ := c.wardenQ ++ [o] } else { c with cmdQ := c.cmdQ ++ [o] }

/-- An order of one kind to a cell waits or is on its way. -/
def State.orderOut (s : State) (i op : Nat) (origin : Origin) : Bool :=
  let c := s.chain (chainOf i)
  let same (o : Order) : Bool := o.addr == i && o.op == op && o.origin == origin
  c.wardenQ.any same || c.cmdQ.any same || c.onRing.any same || c.resendQ.any same

/-- Queue READ_STATE page 2 unless one is on its way. -/
def State.queueRead (s : State) (i : Nat) (origin : Origin) : State :=
  if s.orderOut i 7 origin then s else s.queueOrder i 7 2 origin

/-- Fields of a READ_STATE page 2. -/
def pageMode (d : Nat) : Nat := bits d 31 29
def pageSel (d : Nat) : Nat := bits d 26 25
def pageHold (d : Nat) : Nat := bits d 22 16
def pageTrim (d : Nat) : Int := sext 8 (bits d 15 8)

/-- The latest MODE the controller holds of a cell: of its latest credited payload, else as confirmed by READ_STATE. -/
def State.viewMode (s : State) (i : Nat) : Option Nat :=
  match (if (s.view i).tlmOld then none else (s.view i).tlm) with
  | some p => some (bits p 27 25)
  | none => if (s.view i).runOk then some 3 else if (s.view i).offOk then some 0 else none

/-- Queue the CFG of a domain on every chain that carries it (R106). -/
def State.queueCfg (s : State) (d : Nat) (record : Bool) : State :=
  (List.range 8).foldl (fun s c =>
    if (chainDoms c).contains d ∨ (s.roleCells d).any (fun i => chainOf i == c) then
      s.updChain c fun x => { x with
        cfgQ := if x.cfgQ.contains d then x.cfgQ else x.cfgQ ++ [d]
        trimHold := if record && !x.trimHold.contains d then x.trimHold ++ [d] else x.trimHold }
    else s) s

/-- A TRIM payload without its GEN (R110). -/
def trimPayload (base : Nat) (trims : List Int) : Nat :=
  packN ([(55, 44, base), (43, 40, trims.length)] ++
    ((List.range 5).map fun i => (39 - 8 * i, 32 - 8 * i, toCode 8 (trims.getD i 0))))

/-- Queue the trim of one cell. -/
def State.queueTrim (s : State) (i : Nat) : State :=
  s.updChain (chainOf i) fun c => { c with trimQ := c.trimQ ++ [trimPayload i [(s.view i).trim]] }

/-! ### Loans and recalls (R127 to R131) -/

/-- The domains a chain serves with the cells that are on loan (R107). -/
def State.servedDoms (s : State) (c : Nat) : List Nat :=
  let own := chainDoms c
  let guests := (s.lentCells.filter fun i => chainOf i == c).map facing
  guests.foldl (fun l d => if l.contains d then l else l ++ [d]) own

/-- Swing cells that the controller counts as outside their home role for a loan, of one lending domain. -/
def State.lentOf (s : State) (d : Nat) : Nat :=
  (((List.range 4).map (swingCell d)).filter fun i =>
    (s.view i).lent || (match (s.chain (chainOf i)).loan with
      | some l => l.cell == i && !l.recalling
      | none => false)).length

/-- The mean current of a domain in the last epoch, mA. -/
def State.meanCurrent (s : State) (d : Nat) : Int := (s.acct d).iMeasE.getD (s.acct d).iRep

/-- The status of a request to lend cell `i`, into `named` if the request names a domain (R127). -/
def State.loanCheck (s : State) (i : Nat) (named : Option Nat) : Nat :=
  let home := homeDom i
  let host := facing i
  let c := s.chain (chainOf i)
  if (swingNo i).isNone || (named.isSome && named != some host) then stBad
  else if c.loan.isSome then stBusy
  else if s.viewMode i ≠ some 3 || s.flt.shed.contains i || (s.view i).out || (s.dom home).st ≠ .run || (s.dom host).st ≠ .run
      || (s.view i).lent then stState
  else if s.lentOf home + 1 > 2 || s.meanCurrent home > 1000 * (((s.roleCells home).length : Int) - 1) then stLimit
  else if c.st = .degraded || (!(s.servedDoms (chainOf i)).contains host && (s.servedDoms (chainOf i)).length ≥ 12) then stChain
  else stOk

/-- A recall of a cell in OFF on loan into a domain in OFF runs with LOAN_SW alone (R130). -/
def State.recallDirect (s : State) (i : Nat) : Bool := (s.dom (facing i)).st == .off && s.viewMode i == some 0

/-- The status of a request to recall cell `i` (R127): a recall of R130 is excused from the conditions on the cell's state and on its host
domain alone. -/
def State.recallCheck (s : State) (i : Nat) : Nat :=
  let c := s.chain (chainOf i)
  if (swingNo i).isNone then stBad
  else if c.loan.isSome then stBusy
  else if !(s.view i).lent then stState
  else if s.flt.shed.contains i || (s.dom (homeDom i)).st ≠ .run then stState
  else if s.recallDirect i then stOk
  else if s.viewMode i ≠ some 3 || (s.dom (facing i)).st ≠ .run then stState
  else stOk

/-- Accept a loan or recall: it starts at its commit E (R128, R130). -/
def State.loanAccept (s : State) (i : Nat) (recalling cover : Bool) (origin : Origin) : State :=
  s.updChain (chainOf i) fun c => { c with
    loan := some { cell := i, recalling := recalling, home := homeDom i, host := facing i, step := .accepted, origin := origin, cover := cover } }

/-- Change the loan in progress on a chain. -/
def State.updLoan (s : State) (c : Nat) (f : Loan → Loan) : State := s.updChain c fun x => { x with loan := x.loan.map f }

/-- Step 1 of R128: the cell leaves its role, and ZERO is queued; a recall of R130 sends LOAN_SW alone. -/
def State.loanBegin (s : State) (c : Nat) (l : Loan) : State :=
  let s1 := s.updView l.cell fun v => { v with moving := true, runOk := false, offOk := false }
  if l.recalling && s.recallDirect l.cell then
    (s1.queueOrder l.cell 4 (256 + (if (s.chain c).gen ≥ 255 then 1 else (s.chain c).gen + 1)) .loan).updLoan c
      fun x => { x with step := .direct, commits := 0 }
  else (s1.queueOrder l.cell 3 0 .loan).updLoan c fun x => { x with step := .zeroSent, commits := 0 }

/-- The domain a loan or recall moves its cell into. -/
def Loan.target (l : Loan) : Nat := if l.recalling then l.home else l.host

/-- The loan's place in the chain is free again; the command that asked for it completes (R129, R131, R478). -/
def State.loanEnd (s : State) (c : Nat) (l : Loan) (status : Nat) : State :=
  let s1 := s.updChain c fun x => { x with loan := none }
  s1.finish (.loan l.cell) status (s1.chain c).gen

/-- A loan or recall comes to nothing: a cell audit that waited for it as its cover seeks another, and its command completes ABORTED
(R129, R131, R414). -/
def State.loanDropped (s : State) (c : Nat) (l : Loan) : State :=
  let s1 := if l.cover then { s with flt := { s.flt with
      covers := s.flt.covers.filter (· != l.cell)
      audits := s.flt.audits.map fun a =>
        if a.cover = some l.cell then { a with cover := none, st := if a.st = .covering l.cell then .waiting else a.st } else a } }
    else s
  s1.loanEnd c l stAborted

/-- A loan or recall is abandoned under R129: counted besides (R142). -/
def State.loanAborted (s : State) (c : Nat) (l : Loan) : State :=
  ({ s with creg := { s.creg with abortCnt := incSat 255 s.creg.abortCnt } }).loanDropped c l

/-- The first row of R129: the cell still stands where it was and returns by pre-biased start. -/
def State.loanAbandonNear (s : State) (c : Nat) (l : Loan) : State :=
  let here := if l.recalling then l.host else l.home
  let s1 := s.updView l.cell fun v => { v with moving := false }
  (s1.queueOrder l.cell 1 (s.targetOf here) .loan).loanAborted c l

/-- The second row of R129: STOP, then isolation once the cell shows OFF. -/
def State.loanAbandonFar (s : State) (c : Nat) (l : Loan) : State :=
  (s.queueOrder l.cell 2 0 .loan).updLoan c fun x => { x with step := .stopping }

/-- The cell joins the sharing of its new domain at the L2 boundary after it is confirmed (R128 step 9). -/
def State.loanJoin (s : State) (c : Nat) (l : Loan) : State :=
  let s1 := s.updView l.cell fun v => { v with
    moving := false
    lent := !l.recalling
    cover := l.cover && !l.recalling
    trim := 0
    lastI := none
    runOk := true }
  (s1.queueTrim l.cell).updLoan c fun x => { x with step := .joined }

/-- A commit as the loan in progress on a chain meets it (R128). -/
def State.loanCommit (s : State) (c : Nat) : State :=
  match (s.chain c).loan with
  | none => s
  | some l =>
    let n := l.commits + 1
    let s1 := if l.step = .accepted then s else s.updLoan c fun x => { x with commits := n }
    match l.step with
    | .zeroSent => if n ≥ 2 then (s1.queueRead l.cell .loan).updLoan c fun x => { x with step := .zeroRead } else s1
    | .moved =>
      if n ≥ 3 then (s1.queueOrder l.cell 1 (s.targetOf l.target) .loan).updLoan c fun x => { x with step := .started } else s1
    | .started => if n ≥ 5 then s1.queueRead l.cell .loan else s1
    | .stopping => s1.queueRead l.cell .loan
    | _ => s1

/-- The generation after a chain's own (R123). -/
def State.nextGen (s : State) (c : Nat) : Nat := if (s.chain c).gen ≥ 255 then 1 else (s.chain c).gen + 1

/-- The reply to an order of a loan; `none` where none came (R115, R129). -/
def State.loanReply (s : State) (c : Nat) (o : Order) (r : Option (Nat × Nat)) : State :=
  match (s.chain c).loan with
  | none => s
  | some l =>
    if l.cell ≠ o.addr then s else
    let ok := match r with
      | some (0, _) => true
      | _ => false
    let data := match r with
      | some (_, d) => d
      | none => 0
    match l.step, o.op with
    | .zeroRead, 7 =>
      if ok && pageMode data == 5 then
        (s.queueOrder l.cell 4 ((s.chain c).gen) .loan).updLoan c fun x => { x with step := .isolated }
      else s.loanAbandonNear c l
    | .isolated, 4 =>
      if ok then
        (s.queueOrder l.cell 4 ((if l.recalling then 256 else 512) + s.nextGen c) .loan).updLoan c fun x => { x with step := .switched }
      else if (s.cell l.cell).sel = (if l.recalling then .neighbour else .home) then s.loanAbandonNear c l
      else s.loanAbandonFar c l
    | .switched, 4 => if ok then s.updLoan c fun x => { x with step := .moved } else s.loanAbandonFar c l
    | .started, 7 =>
      if ok && pageMode data == 3 then s.updLoan c fun x => { x with step := .confirmed } else s.loanAbandonFar c l
    | .stopping, 7 =>
      if ok && pageMode data == 0 then
        (s.queueOrder l.cell 4 ((s.cell l.cell).gen) .loan).updLoan c fun x => { x with step := .isolating }
      else s
    | .isolating, 4 =>
      let s1 := s.updView l.cell fun v => { v with moving := false, out := true, lent := false, cover := false }
      (s1.loanAborted c l).raise 7 l.cell
    | .direct, 4 =>
      if ok then
        let s1 := s.updView l.cell fun v => { v with moving := false, lent := false, cover := false, trim := 0 }
        s1.loanEnd c l stOk
      else
        let s1 := s.updView l.cell fun v => { v with moving := false }
        s1.loanAborted c l
    | _, _ => s

/-! ### Starting a domain (R376 to R382) -/

/-- Cells a domain may lose at its start (R382). -/
def shedAllowed (d : Nat) : Nat := if d < 32 then 4 else if d = sd 13 then 0 else domSize d / 8

/-- A home cell that cannot take part in a start: it took no token, or it is in the shed map (R120, R382, R415). -/
def State.absent (s : State) (i : Nat) : Bool := s.flt.shed.contains i || !((s.chain (chainOf i)).taken.any fun e => e.1 == posOf i)

/-- The home cells a domain starts without. -/
def State.absentOf (s : State) (d : Nat) : List Nat := (homeCells d).filter fun i => s.absent i

/-- The off order of R171: START, RUN and FBHOLD enter STOP. -/
def State.offOrder (s : State) (d : Nat) : State :=
  match (s.dom d).st with
  | .start | .run | .fbhold => s.updDom d fun x => { x with st := .stop, satCnt := 0, satRaised := false, stopSent := false, soloStage := none }
  | _ => s

/-- A domain is given up under R381: recorded, its off order given (or OFF at once under R172), and reported (R383, R392). -/
def State.giveUp (s : State) (d reason : Nat) : State :=
  let s1 := if reason = 3 then s.updDom d fun x => { x with st := .off, soloStage := none, fbCnt := 0 } else s.offOrder d
  let s2 := { s1 with start := { s1.start with failDom := d, failReason := reason } }
  let s3 := s2.finish (.domRun d) stAborted reason
  let restart := s.start.restarting == some d
  let cold := s.start.step == .staging
  let s4 := if restart then
      ({ s3 with start := { s3.start with restarting := none } }).pushEvent (evDomain 1 d (s.dom d).vset)
    else s3
  if isTD d then
    if cold || restart then
      ({ s4 with start := { s4.start with miss := BitVec.ofNat 32 (orBit s4.start.miss.toNat d) } }).raise 9 d
    else s4
  else if cold then s4.abandonStart causeFault 6
  else if restart then s4.stopCause causeFault
  else s4

/-- Start order: the domain leaves OFF for START (R171, R256, R376). Cells that took no token or are shed count against its limit (R382). -/
def State.domStart (s : State) (d : Nat) : State :=
  let gone := s.absentOf d
  let s1 := s.forEach gone fun s i => s.updView i fun v => { v with out := true }
  let s2 := s1.forEach (s1.roleCells d) fun s i =>
    s.updView i fun v => { v with runOk := false, offOk := false, startSent := false, reads := 0, lastI := none }
  let s3 := s2.updDom d fun x => { x with
    st := .start
    vEffSet := false
    groupNext := 0
    ramping := false
    fbCnt := 0
    fbRaised := false
    satCnt := 0
    satRaised := false
    stopSent := false
    stopRamp := false
    shed := gone.length
    tgtValid := false }
  let s4 := s3.updAcct d fun a => { a with vMeas := none }
  if gone.length > shedAllowed d then s4.giveUp d 4 else s4

/-- A cell is shed (R382): STOP, out of the role, counted, its audit asked for. -/
def State.shedCell (s : State) (i d : Nat) : State :=
  let s1 := s.updView i fun v => { v with out := true }
  let s2 := s1.queueOrder i 2 0 .stage
  let s3 := { s2 with start := { s2.start with shedCnt := incSat 255 s2.start.shedCnt, failAddr := i } }
  let s4 := s3.updDom d fun x => { x with shed := x.shed + 1 }
  let s5 := s4.raise 8 i
  if (s5.dom d).st = .start ∧ (s5.dom d).shed > shedAllowed d then s5.giveUp d 4 else s5

/-- Group g of a domain's role (R378). -/
def State.startGroup (s : State) (d g : Nat) : List Nat := ((s.roleCells d).drop (8 * g)).take 8

/-- The START and READ_STATE orders that a commit queues for a domain in START (R378, R382). -/
def State.startCommit (s : State) (d : Nat) : State :=
  let x := s.dom d
  if x.st ≠ .start || !x.vEffSet then s else
  let waiting := (s.roleCells d).filter fun i => (s.view i).startSent && !(s.view i).runOk && decide ((s.view i).reads < 3)
  let s1 := s.forEach waiting fun s i =>
    if s.orderOut i 7 .stage then s
    else (s.queueOrder i 7 2 .stage).updView i fun v => { v with reads := v.reads + 1 }
  let fresh := (s.roleCells d).filter fun i => !(s.view i).startSent
  let group := fresh.take 8
  let s2 := s1.forEach group fun s i => (s.queueOrder i 1 x.tgt .stage).updView i fun v => { v with startSent := true }
  s2.updDom d fun y => { y with groupNext := if group.isEmpty then y.groupNext else y.groupNext + 1 }

/-- Every cell that was sent START has reported RUN, so that the ramp may begin (R172). -/
def State.firstGroupUp (s : State) (d : Nat) : Bool :=
  let sent := (s.roleCells d).filter fun i => (s.view i).startSent
  !sent.isEmpty && (sent.take 8).all fun i => (s.view i).runOk

/-- The domain in whose start a cell takes part: of its role, or of the side its selector shows. -/
def State.serving (s : State) (i : Nat) : Nat := if (s.view i).lent then facing i else homeDom i

/-- The reply to an order of the start sequencing or of a domain's stop (R172, R174, R381, R382). -/
def State.stageReply (s : State) (o : Order) (r : Option (Nat × Nat)) : State :=
  let d := s.serving o.addr
  let v := s.view o.addr
  let starting := (s.dom d).st == .start && !v.out
  match o.op, r with
  | 1, some (3, _) => if starting then s.giveUp d 2 else s
  | 1, none => if starting then s.shedCell o.addr d else s
  | 7, some (0, data) =>
    let s1 := s.updView o.addr fun w => { w with page2 := data, runOk := pageMode data == 3, offOk := pageMode data == 0 }
    if starting && v.startSent && pageMode data != 3 && decide (v.reads ≥ 3) then s1.shedCell o.addr d else s1
  | 7, _ => if starting && v.startSent && decide (v.reads ≥ 3) then s.shedCell o.addr d else s
  | _, _ => s

/-! ### Cell audits (R413 to R416) -/

/-- Change the audit of a cell. -/
def State.updAudit (s : State) (i : Nat) (f : CAudit → CAudit) : State :=
  { s with flt := { s.flt with audits := s.flt.audits.map fun a => if a.cell = i then f a else a } }

/-- The audit of a cell is over. -/
def State.dropAudit (s : State) (i : Nat) : State :=
  { s with flt := { s.flt with audits := s.flt.audits.filter fun a => a.cell != i } }

/-- The audited cell leaves its role and is tested (R414). -/
def State.auditTest (s : State) (i : Nat) : State :=
  let s1 := s.updView i fun v => { v with out := true, runOk := false, offOk := false, startSent := false }
  (s1.queueOrder i 6 0 .audit).updAudit i fun a => { a with st := .testing }

/-- Put a cell into the shed map, kept in rising order. -/
def insertSorted (i : Nat) : List Nat → List Nat
  | [] => [i]
  | k :: t => if i < k then i :: k :: t else if i = k then k :: t else k :: insertSorted i t

/-- The audit concludes lasting: the cell stays out, counted and in the vault shed map; a cover stays in force (R414). -/
def State.auditLasting (s : State) (a : CAudit) : State :=
  let s1 := s.concludeAudit a.src false (!a.counted)
  let s2 := { s1 with flt := { s1.flt with
    shed := insertSorted a.cell s1.flt.shed
    covers := s1.flt.covers.filter fun c => a.cover != some c } }
  s2.writeStateBlock

/-- A cover is home again: the audit that had waited for it is over (R405, R414). -/
def State.coverDone (s : State) (k : Nat) : State :=
  { s with flt := { s.flt with
      covers := s.flt.covers.filter (· != k)
      audits := s.flt.audits.filter fun a => !(a.cover == some k && a.st == .recalling) } }

/-- The cover of a cell that has rejoined is recalled at the first commit that R127 accepts it. -/
def State.auditRecall (s : State) (k : Nat) : State :=
  if !(s.view k).lent && (s.chain (chainOf k)).loan.isNone then s.coverDone k
  else if s.recallCheck k = stOk then s.loanAccept k true true .audit
  else s

/-- The cell is back in its role; a cover loan is recalled (R414). -/
def State.auditRejoined (s : State) (a : CAudit) : State :=
  match a.cover with
  | some k => (s.updAudit a.cell fun x => { x with st := .recalling }).auditRecall k
  | none => s.dropAudit a.cell

/-- The return of a cell that passed, by the state of its domain (R414). -/
def State.auditReturn (s : State) (a : CAudit) : State :=
  let d := s.serving a.cell
  match (s.dom d).st with
  | .run =>
    if (s.view a.cell).startSent then s
    else (s.queueOrder a.cell 1 (s.targetOf d) .audit).updView a.cell fun v => { v with startSent := true }
  | .off | .stop =>
    (s.updView a.cell fun v => { v with out := false, offOk := true }).auditRejoined a
  | .start =>
    (s.updView a.cell fun v => { v with out := false, startSent := false, runOk := false, reads := 0 }).auditRejoined a
  | _ => s

/-- The audit concludes transient (R414, R415). -/
def State.auditTransient (s : State) (a : CAudit) : State :=
  let s1 := s.concludeAudit a.src true (!a.counted)
  let s2 := if s1.flt.shed.contains a.cell then
      ({ s1 with flt := { s1.flt with shed := s1.flt.shed.filter (· != a.cell) } }).writeStateBlock
    else s1
  let away := a.wasOut && (swingNo a.cell).isSome && pageSel (s2.view a.cell).page2 != 1
  let s3 := if away then (s2.queueOrder a.cell 4 (256 + s2.nextGen (chainOf a.cell)) .audit).updView a.cell fun v => { v with lent := false, cover := false, trim := 0 }
    else s2
  let s4 := s3.updAudit a.cell fun x => { x with st := .returning, counted := true }
  if away then s4 else s4.auditReturn { a with st := .returning, counted := true }

/-- The first cover candidate that R127 accepts. -/
def State.coverFor (s : State) (d : Nat) : Option Nat := (coverCandidates d).find? fun c => s.loanCheck c none == stOk

/-- A commit as one audit meets it (R413, R414). -/
def State.auditCommit (s : State) (a : CAudit) : State :=
  match a.st with
  | .waiting =>
    let defer := s.updAudit a.cell fun x => { x with deferred := x.deferred + 1 }
    if (s.view a.cell).out then
      (if s.contact a.cell && s.viewMode a.cell == some 0 then s.auditTest a.cell
       else if s.contact a.cell then s.queueRead a.cell .audit else s)
    else
      let d := s.serving a.cell
      let n := (s.roleCells d).length
      if (s.dom d).st ≠ .run || (s.chain (chainOf a.cell)).loan.isSome then defer
      else
        let room := match (s.acct d).iMeasE with
          | some m => decide (m ≤ 1000 * ((n : Int) - 1))
          | none => false
        if room then s.auditTest a.cell
        else match (if isTD d then s.coverFor d else none) with
          | some k =>
            let s1 := s.loanAccept k false true .audit
            let s2 := { s1 with flt := { s1.flt with covers := s1.flt.covers ++ [k] } }
            s2.updAudit a.cell fun x => { x with st := .covering k, cover := some k }
          | none => defer
  | .reported b => if b % 256 = 255 then s.auditTransient a else (s.auditLasting a).dropAudit a.cell
  | .returning =>
    if (s.view a.cell).out then
      if (s.dom (s.serving a.cell)).st = .run ∧ (s.view a.cell).startSent then
        (if (s.view a.cell).runOk then s else s.queueRead a.cell .audit)
      else s.auditReturn a
    else s.auditRejoined a
  | .recalling =>
    match a.cover with
    | none => s.dropAudit a.cell
    | some k => s.auditRecall k
  | .stopping => s.queueRead a.cell .audit
  | _ => s

/-- The reply to an order of a cell audit. -/
def State.auditReply (s : State) (o : Order) (r : Option (Nat × Nat)) : State :=
  match s.flt.audits.find? (fun a => a.cell == o.addr) with
  | none => s
  | some a =>
    match o.op, r with
    | 7, some (0, data) =>
      let s1 := s.updView o.addr fun v => { v with page2 := data, runOk := pageMode data == 3, offOk := pageMode data == 0,
                                                   tlmOld := v.tlmOld || pageMode data == 0 }
      if a.st = .stopping ∧ pageMode data = 0 then (s1.queueOrder o.addr 4 ((s1.cell o.addr).gen) .audit).dropAudit o.addr else s1
    | _, _ => s

/-- A cell that passed and is confirmed in RUN rejoins the role and sharing of its domain at an L2 boundary, with trim 0 (R414). -/
def State.auditRejoin (s : State) (a : CAudit) : State :=
  let v := s.view a.cell
  if a.st == .returning && v.out && v.startSent && v.runOk && (s.dom (s.serving a.cell)).st == .run then
    (s.updView a.cell fun v => { v with out := false, trim := 0, lastI := none }).queueTrim a.cell
  else s

/-! ### Adoption (R388 to R390) -/

/-- The reply to an order of adoption: the pages of the views, and ADOPT as done (R376, R389). -/
def State.adoptReply (s : State) (o : Order) (r : Option (Nat × Nat)) : State :=
  match o.op, r with
  | 7, some (0, data) => s.updView o.addr fun v =>
      match o.arg % 4 with
      | 0 => { v with page0 := data, heard := true }
      | 1 => { v with page1 := data }
      | _ => { v with page2 := data, runOk := pageMode data == 3, offOk := pageMode data == 0 }
  | 5, some (0, _) => s.updView o.addr fun v => { v with runOk := true }
  | _, _ => s

/-- READ_STATE pages 0 to 2 to every cell in contact of a list. -/
def State.queuePages (s : State) (l : List Nat) : State :=
  s.forEach (l.filter fun i => s.contact i) fun s i => s.forEach [0, 1, 2] fun s p => s.queueOrder i 7 p .adoption

/-! ### Every originator -/

/-- The page 2 the controller reads of a cell whose telemetry bit 1 was set tells the two sources apart (R90, R114, R403); a PREBIAS_ERR
while a domain starts gives the domain up instead (R381). -/
def State.prebiasReply (s : State) (i : Nat) (data : Nat) : State :=
  if pageHold data = 0x7F then s.raise 3 i
  else if (s.dom (s.serving i)).st = .start then s.giveUp (s.serving i) 1
  else s.raise 2 i

/-- An order is answered, or given up after its resends; its originator goes on (R115, R125, R126). -/
def State.orderResult (s : State) (o : Order) (r : Option (Nat × Nat)) : State :=
  match o.origin with
  | .loan => s.loanReply (chainOf o.addr) o r
  | .stage => s.stageReply o r
  | .engine => s.stageReply o r
  | .audit => s.auditReply o r
  | .adoption => s.adoptReply o r
  | .warden =>
    match o.op, r with
    | 7, some (0, data) => s.prebiasReply o.addr data
    | _, _ => s
  | .ring g x =>
    let w (f : Flight) : Bool := f.x.ring.val == g && f.x.index.toNat == x
    s.finishWhere fun f =>
      if w f then some (match r with
        | none => (stChain, 0)
        | some (0, data) => (stOk, data)
        | some (1, _) => (stStale, 0)
        | some (2, _) => (stState, 0)
        | some (_, _) => (stBad, 0))
      else none

/-- An order goes back to its originator with STALE (R125, R126, R142). -/
def State.orderStale (s : State) (o : Order) : State :=
  ({ s with creg := { s.creg with staleCnt := incSat 255 s.creg.staleCnt } }).orderResult o (some (1, 0))

end Sys2Proof.Machine
end

