-- ==== Sys2Proof/Machine/Chains.lean ====
section
/-! DEFINITION. The chain masters (R105, R106, R115 to R138): enumeration and roster repair, the slots of an L2 period, replies and
resends, breaks, audits, and the first step of a loan or recall. -/

namespace Sys2Proof.Machine

/-- The fast side runs: a command of a master, the engine, a converter or the ledger takes effect. -/
def State.fast (s : State) (t : State) : Out := if s.fastRuns then settle s t else .next s

/-! ### Composing frames -/

/-- A CMD payload (R111). -/
def cmdPayload (gen : Nat) (o : Order) : Nat :=
  packN [(63, 56, gen), (55, 44, o.addr), (43, 40, o.op), (39, 36, o.seq), (35, 32, o.arg / 2 ^ 32), (31, 0, o.arg)]

/-- The CFG payload of a domain, of the stop profile where ordered, or of the global set-up (R108, R155, R355). -/
def State.cfgPayload (s : State) (gen d : Nat) (stop : Bool) : Nat :=
  if d = 63 then
    packN [(63, 56, gen), (55, 50, 63), (49, 44, fld s.eng.cellGlb 5 0), (43, 40, fld s.eng.cellGlb 11 8)]
  else
    let w := ((s.dom d).law.getD 1 0)
    let r := s.cellDomReg d
    let v := if stop then 100 else fld w 31 24
    let a := if stop then 255 else fld w 23 16
    let j := if stop then 255 else fld w 15 8
    packN [(63, 56, gen), (55, 50, d), (49, 42, v), (41, 34, a), (33, 26, j), (25, 20, fld r 5 0), (19, 14, fld r 21 16),
      (13, 8, fld r 13 8), (7, 7, b2n (wbit r 27)), (6, 6, b2n (wbit r 26)), (5, 5, b2n (wbit r 25)), (4, 4, b2n (wbit r 24))]

/-- One entry of an MCAST as (valid, domain, target). -/
def State.mcastOf (s : State) (d : Option Nat) : Nat × Nat × Nat :=
  match d with
  | none => (0, 0, 0)
  | some d => (b2n ((s.dom d).tgtValid && (s.dom d).st != .off), d, (s.dom d).tgt)

/-- The MCAST payload of two entries (R107). -/
def State.mcastPayload (s : State) (gen l2 : Nat) (a b : Option Nat) : Nat :=
  let x := s.mcastOf a
  let y := s.mcastOf b
  packN [(63, 56, gen), (55, 52, s.ledger.epoch), (51, 50, l2), (45, 45, x.1), (44, 39, x.2.1), (38, 23, x.2.2),
    (22, 22, y.1), (21, 16, y.2.1), (15, 0, y.2.2)]

/-- Put a generation into a queued payload. -/
def withGen (gen p : Nat) : Nat := p % 2 ^ 56 + gen % 256 * 2 ^ 56

/-- A frame with its CRC (R102). -/
def frameOf (type payload : Nat) (rescue : Bool := false) : Frame :=
  { type := type, payload := payload, crc := crc12 type payload, rescue := rescue }

def idleFrame : Frame := frameOf 0 0

/-- A LOOP frame: one of the fixed patterns with its turn address (R103). -/
def loopFrameOf (k turn : Nat) (rescue : Bool) : Frame :=
  let p := (Config.loopPattern k).toNat
  frameOf 0xC (packN [(63, 56, bits p 63 56), (55, 44, turn), (43, 0, bits p 43 0)]) rescue

/-- The address that no cell turns: a LOOP frame that carries it goes around the whole path (R137, DESIGN CHOICE, notes/assumptions/42.md). -/
def noTurn : Nat := 0xFFF

/-- Take the next order of a chain that a test admits, the warden's first; orders whose cell has changed its role go back STALE
(R106, R126). -/
def State.nextOrder (s : State) (c : Nat) (ok : Order → Bool) : Nat → State × Option Order
  | 0 => (s, none)
  | fuel + 1 =>
    let ch := s.chain c
    match (ch.wardenQ ++ ch.cmdQ).find? ok with
    | none => (s, none)
    | some o =>
      let s1 := s.updChain c fun x => if x.wardenQ.contains o then { x with wardenQ := x.wardenQ.erase o } else { x with cmdQ := x.cmdQ.erase o }
      if o.role = s1.role o.addr then (s1, some o) else (s1.orderStale o).nextOrder c ok fuel

/-- Send an order: its SEQ advances, and it is on the ring (R115). -/
def State.sendOrder (s : State) (c : Nat) (o : Order) : State × Frame :=
  let p := posOf o.addr
  let q := ((s.chain c).seqs.get 0 p + 1) % 16
  let o' := { o with seq := q }
  (s.updChain c fun x => { x with seqs := x.seqs.set p q, onRing := x.onRing ++ [o'] },
    frameOf 6 (cmdPayload (s.chain c).gen o'))

/-- The next CMD of a slot: one to be sent again comes first, with its own SEQ (R115). -/
def State.orderFrame (s : State) (c : Nat) (ok : Order → Bool) : State × Option Frame :=
  match (s.chain c).resendQ.find? ok with
  | some o =>
    (s.updChain c fun x => { x with resendQ := x.resendQ.erase o, onRing := x.onRing ++ [o] },
      some (frameOf 6 (cmdPayload (s.chain c).gen o)))
  | none =>
  let r := s.nextOrder c ok ((s.chain c).wardenQ.length + (s.chain c).cmdQ.length)
  match r.2 with
  | none => (r.1, none)
  | some o =>
    let t := r.1.sendOrder c o
    (t.1, some t.2)

/-- The next master-originated frame of a chain in the precedence of R106, stop-profile CFGs ahead of all (R354). -/
def State.nextFrame (s : State) (c : Nat) (ok : Order → Bool) : State × Option Frame :=
  let ch := s.chain c
  match ch.stopCfg with
  | d :: t => (s.updChain c fun x => { x with stopCfg := t }, some (frameOf 3 (s.cfgPayload ch.gen d true)))
  | [] =>
  match ch.armQ with
  | p :: t => (s.updChain c fun x => { x with armQ := t }, some (frameOf 4 (withGen ch.gen p)))
  | [] =>
  let r := s.orderFrame c ok
  match r.2 with
  | some f => (r.1, some f)
  | none =>
  let s := r.1
  match (if ch.trimHold.isEmpty then ch.trimQ else []) with
  | p :: t => (s.updChain c fun x => { x with trimQ := t }, some (frameOf 5 (withGen ch.gen p)))
  | [] =>
  match ch.cfgQ with
  | d :: t =>
    (s.updChain c fun x => { x with cfgQ := t, trimHold := x.trimHold.filter (· != d), cfgAge := x.cfgAge.set d 0 },
      some (frameOf 3 (s.cfgPayload ch.gen d false)))
  | [] =>
  match ch.loopQ with
  | f :: t => (s.updChain c fun x => { x with loopQ := t }, some (frameOf f.type (withGen ch.gen f.payload) f.rescue))
  | [] =>
  if ch.loopMain > 0 then
    (s.updChain c fun x => { x with loopMain := x.loopMain - 1 }, some (loopFrameOf (256 - ch.loopMain) noTurn false))
  else if ch.loopResc > 0 then
    (s.updChain c fun x => { x with loopResc := x.loopResc - 1 }, some (loopFrameOf (64 - ch.loopResc) noTurn true))
  else (s, none)

/-- Fill n slots with master-originated frames. -/
def State.fillSlots (s : State) (c : Nat) : Nat → State × List Frame
  | 0 => (s, [])
  | n + 1 =>
    let r := s.nextFrame c (fun _ => true)
    let t := r.1.fillSlots c n
    (t.1, r.2.getD idleFrame :: t.2)

/-- The mark and the multicasts of a period, `pairs` frames of two entries (R105, R107). -/
def State.mcastFrames (s : State) (c l2 pairs : Nat) : List Frame :=
  let ds := s.servedDoms c
  (List.range pairs).map fun k =>
    frameOf (if k = 0 then 1 else 2) (s.mcastPayload (s.chain c).gen l2 ds[2 * k]? ds[2 * k + 1]?)

/-- A poll of a position; IDLE where no cell took its address, of which R117 says nothing (DESIGN CHOICE, notes/assumptions/42.md). -/
def State.pollFrame (s : State) (c : Nat) (p : Option Nat) : Frame :=
  match p with
  | none => idleFrame
  | some p =>
    if (s.chain c).taken.any (·.1 == p) then frameOf 8 (packN [(55, 44, cellAt c p)]) else idleFrame

/-- The four polls of a segment of n cells in degraded mode: each cell once every 4 × ceil(n / 64) epochs (R135). -/
def State.segPolls (s : State) (c : Nat) (seg : List Nat) : List Frame :=
  let period := 64 * ceilDiv (max 1 seg.length) 64
  (List.range 4).map fun j => s.pollFrame c seg[(4 * (s.chain c).pollPos + j) % period]?

/-- The slots of one segment in degraded mode, its slot 8 given (R135). -/
def State.segFrames (s : State) (c l2 : Nat) (seg : List Nat) (f : Frame) : List Frame :=
  s.mcastFrames c l2 4 ++ s.segPolls c seg ++ [f, idleFrame]

/-- The segments of a chain (R134). -/
def Chain.seg1 (x : Chain) : List Nat := List.range x.j1
def Chain.seg2 (x : Chain) : List Nat := (List.range (288 - x.j2)).map (x.j2 + ·)

/-- An L2 period of a chain in normal mode: 40 slots (R105). -/
def State.normalPeriod (s : State) (c l2 : Nat) : State :=
  let e := s.ledger.epoch % 4
  let mc := s.mcastFrames c l2 6
  let polls := (List.range 18).map fun j => s.pollFrame c (some (4 * (18 * l2 + j) + e))
  let r := s.fillSlots c 14
  r.1.updChain c fun x => { x with sent := mc ++ polls ++ r.2 ++ [idleFrame, idleFrame], urgSlots := 2 }

/-- The segment of a degraded chain that a master-originated frame is for: an order goes to that of its cell, PATH to the one it names,
LOOP to the path it tests; every other frame goes to both (R134, R135, R137). -/
def frameSeg1 (j1 : Nat) (f : Frame) : Option Bool :=
  match f.type with
  | 6 => some (decide (bits f.payload 55 44 % 288 < j1))
  | 0xD => some (!bitAt f.payload 0)
  | 0xC => some (!f.rescue)
  | _ => none

/-- An L2 period in degraded mode: ten slots a segment, those of segment 2 sent out on the rescue lane. Where the master's next frame is for
one segment, the other takes its own next order (R134, R135). -/
def State.degradedPeriod (s : State) (c l2 : Nat) : State :=
  let ch := s.chain c
  let in1 (o : Order) : Bool := decide (posOf o.addr < ch.j1)
  let in2 (o : Order) : Bool := decide (posOf o.addr ≥ ch.j2)
  let r := s.nextFrame c (fun o => in1 o || in2 o)
  let f := r.2.getD idleFrame
  let q := match frameSeg1 ch.j1 f with
    | some toSeg1 => r.1.orderFrame c (if toSeg1 then in2 else in1)
    | none => (r.1, some f)
  let g := q.2.getD idleFrame
  let second := frameSeg1 ch.j1 f == some false
  let one := if ch.j1 = 0 then [] else q.1.segFrames c l2 ch.seg1 (if second then g else f)
  let two := if ch.j2 ≥ 288 then [] else q.1.segFrames c l2 ch.seg2 (if second then f else g)
  q.1.updChain c fun x => { x with
    sent := one ++ two.map fun f => { f with rescue := true }
    urgSlots := if x.j1 > 0 then 1 else 0
    urgSlots2 := if x.j2 < 288 then 1 else 0
    pollPos := x.pollPos + 1 }

/-- The confirmed cell of a loan joins at the L2 boundary (R128). -/
def State.loanBoundary (s : State) (c : Nat) : State :=
  match (s.chain c).loan with
  | some l => if l.step = .confirmed then s.loanJoin c l else s
  | none => s

/-- The confirmed cells of audits rejoin at the L2 boundary (R414). -/
def State.auditBoundary (s : State) (c : Nat) : State :=
  if s.adopting then s else (s.flt.audits.filter fun a => chainOf a.cell == c).foldl State.auditRejoin s

/-- A master begins an L2 period (R105, R106, R117, R135). -/
def execL2Period (c : ChainIx) (s : State) : Out :=
  let l2 := (s.chain c).l2 % 4
  let s1 := ((s.loanBoundary c).auditBoundary c).updChain c fun x => { x with l2 := (l2 + 1) % 4 }
  match (s.chain c).st with
  | .running => s.fast (s1.normalPeriod c l2)
  | .degraded => s.fast (s1.degradedPeriod c l2)
  | _ => .next s

/-! ### Replies, resends, reports -/

/-- An OK LOAN_SW with SEL home or neighbour advances the chain generation; the moved cell's queued orders go back STALE, and the
role it held stays on record (R125, R132). -/
def State.genAdvance (s : State) (c : Nat) (o : Order) : State :=
  let sel := bits o.arg 9 8
  if o.op = 4 ∧ sel ≠ 0 then
    let old := s.serving o.addr
    let g := (s.chain c).gen
    let mine (x : Order) : Bool := x.addr == o.addr
    let ch := s.chain c
    let stale := ch.resendQ.filter mine ++ ch.wardenQ.filter mine ++ ch.cmdQ.filter mine
    let s1 := s.updChain c fun x => { x with
      gen := bits o.arg 7 0
      roles := (x.roles ++ [(g, o.addr, old)]).drop (x.roles.length + 1 - 64)
      resendQ := x.resendQ.filter fun y => !mine y
      wardenQ := x.wardenQ.filter fun y => !mine y
      cmdQ := x.cmdQ.filter fun y => !mine y }
    s1.forEach (List.range stale.length) fun s k =>
      match stale[k]? with
      | some y => s.orderStale y
      | none => s
  else s

/-- The order on the ring that an RSP answers (R111, R115). -/
def rspMatches (p : Nat) (o : Order) : Bool :=
  o.addr == bits p 55 44 && o.op == bits p 43 40 && o.seq == bits p 39 36

/-- A valid RSP returns (R115, R125). -/
def execRspReceived (c : ChainIx) (payload : BitVec 64) (s : State) : Out :=
  let p := payload.toNat
  match (s.chain c).onRing.find? (rspMatches p) with
  | none => .next s
  | some o =>
    let status := bits p 35 32
    let s1 := s.updChain c fun x => { x with onRing := x.onRing.erase o }
    let s2 := if status = 0 then s1.genAdvance c o else s1
    let s3 := if status = 1 then s2.orderStale o else s2.orderResult o (some (status, bits p 31 0))
    s.fast s3

/-- n frames have come back with a bad CRC (R133, R140). -/
def Chain.badCrc (n : Nat) (x : Chain) : Chain := { x with crcCnt := min 65535 (x.crcCnt + n), crcEpoch := x.crcEpoch + n }

/-- A CMD has not come back as a valid RSP, with a bad CRC or not at all: it waits to be sent again with the same SEQ in the next slot, up
to three times, then CMD_TIMEOUT is reported (R115, R140). -/
def execCmdResend (c : ChainIx) (bad : Bool) (s : State) : Out :=
  match (s.chain c).onRing with
  | [] => .next s
  | o :: t =>
    if o.resends < 3 then
      s.fast (s.updChain c fun x => { x.badCrc (b2n bad) with
        onRing := t
        resendQ := x.resendQ ++ [{ o with resends := o.resends + 1 }]
        retryCnt := incSat 255 x.retryCnt })
    else
      let s1 := s.updChain c fun x => { x.badCrc (b2n bad) with onRing := t }
      s.fast ((s1.raise 6 o.addr).orderResult o none)

/-- An urgent report reaches the master (R116, R381, R403, R414). -/
def execUrgReceived (c : ChainIx) (payload : BitVec 64) (s : State) : Out :=
  let p := payload.toNat
  let i := bits p 55 44
  if chainOf i ≠ c.val then .next s
  else match bits p 43 40 with
    | 1 => s.fast (s.raise 0 i)
    | 2 => s.fast (if (s.dom (s.serving i)).st = .start then s.giveUp (s.serving i) 1 else s.raise 2 i)
    | 3 => s.fast (s.updAudit i fun a => if a.st = .testing then { a with st := .reported (bits p 7 0) } else a)
    | _ => .next s

/-- Orders of more than 16 epochs in a queue go back STALE (R126). -/
def execQueueAgeDrop (c : ChainIx) (s : State) : Out :=
  let ch := s.chain c
  let old (o : Order) : Bool := decide (o.age > 16)
  let gone := ch.wardenQ.filter old ++ ch.cmdQ.filter old
  let s1 := s.updChain c fun x => { x with wardenQ := x.wardenQ.filter fun o => !old o, cmdQ := x.cmdQ.filter fun o => !old o }
  s.fast (gone.foldl (fun s o => s.orderStale o) s1)

/-- The CFG of a domain is due again (R106). -/
def execCfgRefresh (c : ChainIx) (d : DomIx) (s : State) : Out :=
  if (s.servedDoms c).contains d.val then
    s.fast (s.updChain c fun x => { x with cfgQ := if x.cfgQ.contains d.val then x.cfgQ else x.cfgQ ++ [d.val] })
  else .next s

/-! ### Enumeration (R118 to R122) -/

/-- The three coefficients of the per-chip table written into a cell: three orders of the warden (R51, R118). -/
def State.writeCoefs (s : State) (c i addr : Nat) : State :=
  let k := s.otp.coef.getD addr (0, 0, 0)
  let p := addr % 288
  let q := ((s.chain c).seqs.get 0 p + 3) % 16
  let s1 := s.updCell i fun x =>
    let y := if x.mode = .hold ∨ x.boot then { x with kNext := x.kNext ++ [(0, k.1), (1, k.2.1), (2, k.2.2)] }
      else { x with k0 := k.1, k1 := k.2.1, k2 := k.2.2 }
    { y with seq := some q, status := 0, data := 0 }
  s1.updChain c fun x => { x with seqs := x.seqs.set p q }

/-- The frames of a token cycle: TOKEN, the three SET_COEF orders of the address, and the LOOP of the position check (R118, R122). -/
def State.tokenFrames (s : State) (c a : Nat) : List Frame :=
  let k := s.otp.coef.getD a (0, 0, 0)
  let q := (s.chain c).seqs.get 0 (a % 288)
  let coef (n : Nat) (v : Int) : Frame :=
    frameOf 6 (cmdPayload 1 { addr := a, op := 8, arg := n * 2 ^ 16 + toCode 16 v, origin := .warden, role := none, seq := (q + n + 1) % 16 })
  let rescue := (s.chain c).enumRescue
  [frameOf 0xB (packN [(63, 56, 1), (55, 44, a)]) rescue, coef 0 k.1, coef 1 k.2.1, coef 2 k.2.2, loopFrameOf 0 a rescue]

/-- A TOKEN of the present position comes back as ACK and its cell is measured at position q (R118, R120, R122). -/
def execTokenCycle (c : ChainIx) (q : PosIx) (s : State) : Out :=
  let ch := s.chain c
  let i := cellAt c q
  let a := cellAt c ch.enumPos
  let free := (s.cell i).addr.isNone || (s.cell i).addr == some a
  if ch.st ≠ .enumerating || ch.enumDone || !free || !s.cellsUp then .next s
  else
    let s1 := (s.updCell i (takeAddress a 1)).writeCoefs c i a
    s.fast (s1.updChain c fun x => { x with
      sent := s.tokenFrames c a
      taken := x.taken ++ [(x.enumPos, q.val)]
      enumPos := if x.enumRescue then x.enumPos - 1 else x.enumPos + 1
      enumDone := if x.enumRescue then decide (x.enumPos ≤ x.enumLow) else decide (x.enumPos ≥ 287) })

/-- A TOKEN does not come back: the rest go out on the rescue lane, and one that fails there ends enumeration (R120). -/
def execTokenTimeout (c : ChainIx) (s : State) : Out :=
  let ch := s.chain c
  if ch.st ≠ .enumerating || ch.enumDone then .next s
  else if ch.enumRescue then s.fast (s.updChain c fun x => { x with enumDone := true })
  else s.fast (s.updChain c fun x => { x with enumRescue := true, enumLow := x.enumPos, enumPos := 287 })

/-- Every cell that took an address that is not its place is moved, and its coefficients are those of the place (R122). MOVE is obeyed only
in OFF (R119, R121): a cell in another state keeps its wrong address and leaves the roster, so that its position counts as one without a
token (DESIGN CHOICE, notes/assumptions/42.md). -/
def State.repairMoves (s : State) (c : Nat) : State :=
  let stuck (e : Nat × Nat) : Bool := e.1 != e.2 && (s.cell (cellAt c e.2)).mode != .off
  let moves := (s.chain c).taken.filter fun e => e.1 != e.2 && !stuck e
  let s1 := s.forEach (moves.map (·.2)) fun s q =>
    (s.updCell (cellAt c q) fun x => { x with addr := some (cellAt c q) }).writeCoefs c (cellAt c q) (cellAt c q)
  s1.updChain c fun x => { x with taken := (x.taken.filter fun e => !stuck e).map fun e => (e.2, e.2) }

/-- The positions of a chain that took no token. -/
def Chain.unused (x : Chain) : List Nat := (List.range 288).filter fun p => !(x.taken.any fun e => e.1 == p)

/-- A PATH frame without its GEN (R103). -/
def pathFrameOf (link : Nat) (seg : Nat) : Frame := frameOf 0xD (packN [(55, 44, link), (0, 0, seg)])

/-- The LOOP frames around the whole main path and the whole rescue lane (R118, R137). -/
def wholeLoops : List Frame :=
  (List.range 256).map (fun k => loopFrameOf k noTurn false) ++ (List.range 64).map fun k => loopFrameOf k noTurn true

/-- Roster repair ends the enumeration of a chain: it runs at generation 1, in degraded mode with PATH for both segments where tokens went
out on the rescue lane,
and positions without a token count as shed; once all eight run, start-up goes on with the reference, unless more than 2 of the 8 SD14
cells are out of contact (R118, R120, R122, R382, R383). -/
def execRosterRepair (c : ChainIx) (s : State) : Out :=
  if (s.chain c).st ≠ .enumerating || s.start.step ≠ .enumeration then .next s
  else
    let s1 := s.repairMoves c
    let ch := s1.chain c
    let old := (s.chain c).taken
    let j1 := ((old.filter fun e => decide (e.1 < ch.enumLow)).map fun e => e.2 + 1).foldl max 0
    let j2 := ((old.filter fun e => decide (e.1 ≥ ch.enumLow)).map fun e => e.2).foldl min 288
    let s2 := s1.updChain c fun x => { x with
      st := if x.enumRescue then .degraded else .running
      gen := 1
      cells := x.taken.length
      j1 := if x.enumRescue then j1 else 288
      j2 := if x.enumRescue then j2 else 288
      loopQ := if x.enumRescue then [pathFrameOf j1 0, pathFrameOf j2 1] else []
      sent := wholeLoops
      enumDone := true
      cfgQ := if x.cfgQ.contains 63 then x.cfgQ else x.cfgQ ++ [63]
      l2 := 0 }
    let lost := (s2.chain c).unused.map (cellAt c)
    let s3 := s2.forEach lost fun s i =>
      let t := s.updView i fun v => { v with out := true }
      ({ t with start := { t.start with shedCnt := incSat 255 t.start.shedCnt, failAddr := i } }).raise 8 i
    let all := (List.range 8).all fun k => match (s3.chain k).st with
      | .running => true
      | .degraded => true
      | _ => false
    if !all then s.fast s3
    else if (bootCells.filter fun i => !s3.contact i).length > 2 then s.fast (s3.abandonStart causeFault 4)
    else s.fast { s3 with start := { s3.start with step := .reference } }

/-! ### Breaks and audits (R133 to R138) -/

/-- Cells of a chain the master reaches. -/
def State.cellsInContact (s : State) (c : Nat) : Nat := ((List.range 288).filter fun p => s.contact (cellAt c p)).length

/-- The home cells of a domain are all out of contact (R171). -/
def State.domCut (s : State) (d : Nat) : Bool := !((homeCells d).any fun i => s.contact i)

/-- Domains whose home cells are out of contact enter HOLD (R171). -/
def State.holdCut (s : State) : State :=
  s.forEach allDoms fun s d =>
    match (s.dom d).st with
    | .start | .run | .stop | .fbhold =>
      if s.domCut d then s.updDom d fun x => { x with recorded := x.st, st := .hold } else s
    | _ => s

/-- The LOOP frames by which a master locates a break: 16 turned at every 18th position of the main path, then 17 in the span that they leave
for j1, and the same on the rescue lane for j2 (R134). -/
def searchFrames (c j1 j2 : Nat) : List Frame :=
  let main := (List.range 16).map fun k => 18 * k + 17
  let near := if j1 ≥ 288 then [] else (List.range 17).map fun k => j1 / 18 * 18 + k
  let resc := (List.range 16).map fun k => 270 - 18 * k
  let far := if j2 = 0 then [] else (List.range 17).map fun k => (j2 + 17) / 18 * 18 - 17 + k
  (main ++ near).map (fun p => loopFrameOf 0 (cellAt c p) false) ++ (resc ++ far).map fun p => loopFrameOf 0 (cellAt c p) true

/-- The reports of cells that no path reaches are lost (R116). -/
def State.reportsLost (s : State) (c lo hi : Nat) : State :=
  { s with cells := s.cells.map fun (e : Nat × Cell) =>
      if chainOf e.1 = c ∧ lo ≤ posOf e.1 ∧ posOf e.1 < hi then (e.1, { e.2 with urg := [] }) else e }

/-- A master declares a break, `bad` of whose four frames came back with a bad CRC, and routes around it, with RESCUE_EN; positions between the segments are stranded (R133, R134, R136). -/
def execChainBreak (c : ChainIx) (j1 j2 : Fin 289) (bad : Fin 5) (s : State) : Out :=
  match (s.chain c).st with
  | .running | .degraded =>
    let k2 := if s.creg.rescueEn then j2.val else 288
    let s1 := (s.reportsLost c j1 k2).updChain c fun x => { x.badCrc bad with
      st := .degraded
      search := if s.creg.rescueEn then searchFrames c j1 k2 else []
      j1 := j1
      j2 := k2
      loopQ := x.loopQ ++ (if s.creg.rescueEn then [pathFrameOf j1 0, pathFrameOf k2 1] else [])
      pollPos := 0 }
    let s2 := s1.updChain c fun x => { x with cells := s1.cellsInContact c }
    let s3 := s2.holdCut
    let s4 := s3.raise 11 c
    let stranded := (s.chain c).taken.any fun e => decide (j1.val ≤ e.1) && decide (e.1 < k2)
    s.fast (if stranded then s4.raise 12 c else s4)
  | _ => .next s

/-- n frames come back with a bad CRC; eight or more in an epoch are CHAIN_CRC, and start the audit of R137 (R133, R140). -/
def execCrcBurst (c : ChainIx) (n : BitVec 16) (s : State) : Out :=
  match (s.chain c).st with
  | .running | .degraded =>
    let s1 := s.updChain c (Chain.badCrc n.toNat)
    s.fast (if (s1.chain c).crcEpoch ≥ 8 then (s1.raise 10 c).burstAudit c else s1)
  | _ => .next s

/-- The loopback audit ends: a pass returns a degraded chain to normal routing with PATH to all cells; a failure leaves it degraded and
the break lasting (R137, R138, R412). -/
def execLoopbackAuditEnd (c : ChainIx) (pass : Bool) (s : State) : Out :=
  let ch := s.chain c
  if !ch.audit then .next s
  else
    let back := pass && ch.st == .degraded
    let s1 := (if back then s.reportsLost c ch.j1 ch.j2 else s).updChain c fun x => { x.auditOver with
      st := if back then .running else x.st
      j1 := if back then 288 else x.j1
      j2 := if back then 288 else x.j2
      lasting := if pass then false else x.lasting || x.st == .degraded
      loopQ := if back then x.loopQ ++ [pathFrameOf 288 0] else x.loopQ }
    let s2 := s1.updChain c fun x => { x with cells := if back then s1.cellsInContact c else x.cells }
    let s3 := { s2 with creg := { s2.creg with loopReq := clrBit s2.creg.loopReq c } }
    let mine := s3.flt.chainAud.filter fun e => e.1 == c.val
    let s4 := { s3 with flt := { s3.flt with chainAud := s3.flt.chainAud.filter fun e => e.1 != c.val } }
    s.fast (mine.foldl (fun s e => s.concludeAudit (auditSrc e) pass (auditHeld e)) s4)

/-- The audits that LOOP_REQ asks for, on chains that run (R138). -/
def State.loopRequest (s : State) (mask : Nat) : State :=
  s.forEach (setBits 8 mask) fun s c =>
    match (s.chain c).st with
    | .running | .degraded =>
      let s1 := s.updChain c fun x => { x.auditBegin with auditReq := true }
      { s1 with creg := { s1.creg with loopReq := orBit s1.creg.loopReq c } }
    | _ => s

/-! ### Loans: the commit E (R128, R130) -/

/-- The loan accepted on a chain starts at its commit E. -/
def execLoanStart (c : ChainIx) (s : State) : Out :=
  match (s.chain c).loan with
  | some l => if l.step = .accepted ∧ !l.recalling then s.fast (s.loanBegin c l) else .next s
  | none => .next s

/-- The recall accepted on a chain starts at its commit E. -/
def execRecallStart (c : ChainIx) (s : State) : Out :=
  match (s.chain c).loan with
  | some l => if l.step = .accepted ∧ l.recalling then s.fast (s.loanBegin c l) else .next s
  | none => .next s

end Sys2Proof.Machine
end

