-- ==== Sys2Proof/Machine/Sense.lean ====
section
/-! DEFINITION. The sense converters (R193 to R243) and the thermal supervisor (R342 to R349): sequences and triggers, tallies, the
reference, the housekeeping round, guard and open-wire tests, cross-check and audit, and the evaluation of diode readings. -/

namespace Sys2Proof.Machine

/-! ### Tallies (R212 to R216) -/

/-- A sample enters a copy (R212). -/
def TallyCopy.add (x : Int) (ovr : Bool) (t : TallyCopy) : TallyCopy :=
  if t.count ≥ 0xFFFFFFFF then { t with full := true }
  else { t with
    sum := t.sum + x
    count := t.count + 1
    min := if t.count = 0 then x else Min.min t.min x
    max := if t.count = 0 then x else Max.max t.max x
    full := decide (t.count + 1 ≥ 0xFFFFFFFF)
    ovr := t.ovr || ovr }

/-- A sample enters tally t of a converter (R213). -/
def State.tallyAdd (s : State) (conv t : Nat) (x : Int) (ovr : Bool) : State :=
  s.updTally conv t fun y => { y with work := y.work.add x ovr }

/-- Set RECONF in working copies of a converter (R214). -/
def State.reconf (s : State) (conv : Nat) (ts : List Nat) : State :=
  s.forEach ts fun s t => s.updTally conv t fun y => { y with work := { y.work with reconf := true } }

/-- Tallies 2 to 15, and the two of the feedback. -/
def hostTallies : List Nat := (List.range 14).map (2 + ·)
def fbTallies : List Nat := [0, 1]

/-- Close a working copy into the committed copy at an epoch. -/
def Tally.close (epoch : Nat) (t : Tally) : Tally :=
  { t with done := { t.work with epoch := epoch % 2 ^ 24 }, work := { restart := false } }

/-- TCLOSE of a DSC. -/
def Dsc.tclose (x : Dsc) : Nat := fld x.aux 15 12

/-- One DSC tally at the commit that opens an epoch (R213, R215). -/
def tallyAtCommit (k epoch : Nat) (t : Tally) : Tally :=
  if k = 0 then
    let w := if t.clear then TallyCopy.restarted else t.work
    { t with work := w, done := { w with epoch := epoch % 2 ^ 24 }, clear := false }
  else
    let t1 := if epoch % 2 ^ (k - 1) = 0 then t.close epoch else t
    if t1.clear then { t1 with work := .restarted, clear := false } else t1

/-- The committed copy that a commit publishes before a clear acts, as READ_TALLY takes it (R480). -/
def tallyPublished (k epoch : Nat) (t : Tally) : TallyCopy := (tallyAtCommit k epoch { t with clear := false }).done

/-- A clear that waits for a commit empties a tally that this commit does not close (R215). -/
def Tally.cleared (t : Tally) : Tally := if t.clear then { t with work := .restarted, clear := false } else t

/-- Every tally at a commit: those of the DSCs by their TCLOSE; those of the HKCs, which close with a round, take only a clear (R213). -/
def State.tallyCommit (s : State) (epoch : Nat) : State :=
  { s with tallies := Tab.ofFn (List.range (16 * 56)) fun k =>
      let t := s.tallies.get {} k
      if k < 16 * 48 then tallyAtCommit (s.dsc (k / 16)).tclose epoch t else t.cleared }

/-! ### Channels and points (R196, R197, R202, R203) -/

/-- The channels of sense points of a domain. -/
def pointChannels (d : Nat) : List Nat := List.range (pointCount d)

/-- A channel is offered for the domain (R196). -/
def chanOk (d ch : Nat) : Bool := decide (ch < pointCount d) || (decide (128 ≤ ch) && decide (ch ≤ 132))

/-- The enable bit of a channel (R240). -/
def Dsc.enabled (x : Dsc) (ch : Nat) : Bool := wbit (x.en.getD (ch / 32) 0) (ch % 32)

/-- Enabled, unstruck points of a domain in ascending channel order. -/
def State.livePoints (s : State) (d : Nat) : List Nat :=
  (pointChannels d).filter fun ch => (s.dsc d).enabled ch && !(s.struckOf d).contains ch

/-- A voltage on an unsigned fine code, and whether it is overrange (R197). -/
def fineV (x : Int) : Int × Bool := (clampI 0 65535 x, decide (x < 0) || decide (x > 65535))

/-- The limit of the current code of a domain, mA (R197). -/
def ampLimit (d : Nat) : Int := if isTD d then 256000 else 64000

/-- A current held to the range of its code (R197). -/
def ampCode (d : Nat) (x : Int) : Int × Bool :=
  (clampI (-ampLimit d) (ampLimit d) x, decide (x.natAbs > (ampLimit d).natAbs))

/-- The result of a channel as its code, with the overrange mark (R197). -/
def chanCode (d ch : Nat) (raw : Int) : Int × Bool :=
  if ch = 129 then ampCode d raw
  else if ch = 130 then (satS 16 raw, decide (satS 16 raw ≠ raw))
  else fineV raw

/-- The set N(P) of a point's channel (R224). -/
def neighbours (d ch : Nat) : List Nat :=
  if isTD d then
    let j := ch / 4
    let c := ch % 4
    let corners := ((List.range 4).filter (· != c)).map (4 * j + ·)
    let north := if j ≥ 8 then [4 * (j - 8) + c] else []
    let south := if j < 24 then [4 * (j + 8) + c] else []
    let east := if j % 8 < 7 then [4 * (j + 1) + c] else []
    let west := if j % 8 > 0 then [4 * (j - 1) + c] else []
    corners ++ north ++ south ++ east ++ west
  else
    (if ch ≥ 2 then [ch - 2] else []) ++ (if ch ≥ 1 then [ch - 1] else []) ++ (if ch + 1 < 16 then [ch + 1] else [])
      ++ (if ch + 2 < 16 then [ch + 2] else [])

/-- The latest guard readings of N(P) that count, struck and suspect points left out (R224). -/
def State.neighbourReadings (s : State) (d ch : Nat) : List Int :=
  let x := s.dsc d
  ((neighbours d ch).filter fun n => !(s.struckOf d).contains n && !x.suspects.contains n && x.reading.any (·.1 == n)).map fun n =>
    x.reading.get 0 n

/-- PLAUS_TOL in fine codes. -/
def State.plausTol (s : State) : Int := 64 * (fld s.sense.plaus 5 0 : Nat)

/-- A reading of a point is implausible; with fewer than 3 neighbours the check is skipped (R224). -/
def State.implausible (s : State) (d ch : Nat) (x : Int) : Bool :=
  let l := s.neighbourReadings d ch
  decide (l.length ≥ 3) && decide ((x - medianLow l).natAbs > s.plausTol.natAbs)

/-- The domain into whose current sum line a cell mirrors its phase currents: by its loan selector, in RISE, FALL, RUN, HOLD and ZERO
(R198). -/
def feeds (i : Nat) (c : Cell) : Option Nat :=
  if c.sel = .isolate then none
  else match c.mode with
    | .rise | .fall | .run | .hold | .zero => some (cellDom i c)
    | .off | .measure | .test => none

/-- What the codes of a domain's DSC are multiplied by for the reference in use: with VREF its value as the row's HKC measured it in the
last round, over 1.200 V; else 1 (R217). -/
def State.refScale (s : State) (d : Nat) : Rat :=
  if s.sense.refAct = 1 then ((s.hkc (laneOf d)).vref : Rat) / 4800 else 1

/-- REG of the active record: MinSense (R154). -/
def Dom.minSense (x : Dom) : Bool := wbit (x.law.getD 0 0) 29

/-- The regulation of a domain: as its active record says, else as R18 gives its kind (R157). -/
def regOf (d : Nat) (x : Dom) : Bool := if x.law = [] then !isTD d else x.minSense

/-- The least number of points behind a valid V_FB (R203). -/
def minPoints (d : Nat) : Nat := if isTD d then 16 else 1

/-- Enabled points that are neither struck nor suspect. -/
def State.soundPoints (s : State) (d : Nat) : List Nat := (s.livePoints d).filter fun ch => !(s.dsc d).suspects.contains ch

/-- The points whose averaging switch is closed: in a load-line domain that of a suspect is open (R196, R225). -/
def State.avgPoints (s : State) (d : Nat) : List Nat := if regOf d (s.dom d) then s.livePoints d else s.soundPoints d

/-- The latest result of a filter on a channel, in the units of its code: a point, the mean of the averaging network, the sum of the
currents that the domain's cells mirror (a sinc filter is linear, so each passes it alone), or another input (R196, R198, R199, R217). -/
def State.chanValue (s : State) (d ch : Nat) (f : List Int → Rat) (smp : SenseSample) : Rat :=
  let point (c : Nat) : Rat := f (smp.points.getD c [])
  s.refScale d * (
    if ch < 128 then point ch
    else if ch = 128 then
      let l := s.avgPoints d
      if l.isEmpty then 0 else (l.map point).foldl (· + ·) 0 / (l.length : Rat)
    else if ch = 129 then
      (smp.mirror.map fun e => if feeds e.1 (s.cell e.1) = some d then f e.2 else 0).foldl (· + ·) 0
    else f smp.other)

/-- The same as its code with the overrange mark (R4, R197). -/
def State.chanResult (s : State) (d ch : Nat) (f : List Int → Rat) (smp : SenseSample) : Int × Bool :=
  chanCode d ch (roundEven (s.chanValue d ch f smp))

/-- The filters of M_V and M_I under an image of UL_DSC_FB_n, of M_A under one of UL_DSC_AUX_n, and of M_G (R194, R223, R235, R236). -/
def vFilter (fb : Word) : List Int → Rat := filterOut (fld fb 1 0) (fld fb 4 2) (fld fb 6 5)
def iFilter (fb : Word) : List Int → Rat := filterOut (fld fb 9 8) (fld fb 12 10) (fld fb 14 13)
def aFilter (aux : Word) : List Int → Rat := filterOut (fld aux 4 3) (fld aux 7 5) (fld aux 9 8)
def gFilter : List Int → Rat := filterOut 1 1 1

/-- The latest M_V readings of a MinSense domain's scan, point by point (R202). -/
def State.scanReadings (s : State) (d : Nat) (smp : SenseSample) : List (Nat × Int × Bool) :=
  (s.livePoints d).map fun ch => (ch, s.chanResult d ch (vFilter (s.dsc d).fb) smp)

/-- The lowest reading of a MinSense scan with its overrange mark, suspects clamped (R202, R225). -/
def State.minSense (s : State) (d : Nat) (l : List (Nat × Int × Bool)) : Option (Int × Bool) :=
  let one (e : Nat × Int × Bool) : Int × Bool :=
    if (s.dsc d).suspects.contains e.1 then (max e.2.1 (medianLow (s.neighbourReadings d e.1) - s.plausTol), e.2.2) else e.2
  match l.map one with
  | [] => none
  | e :: t => some (t.foldl (fun m x => if x.1 < m.1 then x else m) e)

/-- V_FB and I_DOM as the sense path forms and judges them: value and overrange, none invalid (R202, R203). -/
def State.formSense (s : State) (d : Nat) (smp : SenseSample) : Option (Int × Bool) × Option (Int × Bool) :=
  let x := s.dsc d
  let on := s.sense.refRdy && !x.noLatch
  let v := if regOf d (s.dom d) then s.minSense d (s.scanReadings d smp) else some (s.chanResult d 128 (vFilter x.fb) smp)
  (if on && !x.vBad && decide ((s.soundPoints d).length ≥ minPoints d) then v else none,
    if on && !x.iBad then some (s.chanResult d 129 (iFilter x.fb) smp) else none)

/-- Every list checked for a DSC is active: its SET_SEQUENCE completes (R209, R478). -/
def State.listsDone (s : State) (d : Nat) : State :=
  if (s.dsc d).nextReg.isNone && (s.dsc d).nextInj.isNone then s.finish (.lists d) stOk 0 else s

/-- Latch V_FB and I_DOM for a domain's slot; valid values enter tallies 0 and 1. In the first period after new settings the values of
the period before are latched again (R202, R204). -/
def State.latchSense (s : State) (d : Nat) (smp : SenseSample) : State × Option Int × Option Int :=
  let r := s.formSense d smp
  let x := s.dom d
  let held := x.holdFb && s.sense.refRdy && !(s.dsc d).noLatch
  let v := if held then x.lastFb.1 else r.1.map (·.1)
  let i := if held then x.lastFb.2 else r.2.map (·.1)
  let ovr : Bool × Bool := if held then x.lastOvr else (r.1.any (·.2), r.2.any (·.2))
  let s1 := match v with
    | some y => s.tallyAdd d 0 y ovr.1
    | none => s
  let s2 := match i with
    | some y => s1.tallyAdd d 1 y ovr.2
    | none => s1
  let s3 := s2.updDom d fun y => { y with holdFb := false, lastFb := (v, i), lastOvr := ovr, latches := (v, i) :: y.latches }
  let scan := if regOf d x then s.scanReadings d smp else []
  let s4 := s3.updDsc d fun y => { y with
    mv := scan.map fun e => (e.1, e.2.1)
    mvOdd := (scan.filter fun e => s.implausible d e.1 e.2.1).map (·.1) }
  let s5 := if (s.dsc d).noLatch then ((s4.updDsc d fun y => { y with noLatch := false }).blockReleased .dsc d).listsDone d else s4
  (s5, v, i)

/-! ### Sequences (R205 to R211, R238, R239) -/

/-- MODE, CONT and TRIG_SRC of UL_DSC_AUX_n. -/
def Dsc.mode (x : Dsc) : Nat := fld x.aux 11 10
def Dsc.cont (x : Dsc) : Bool := wbit x.aux 17
def Dsc.trigSrc (x : Dsc) : Nat := fld x.aux 20 18

/-- The channels of the scan mask in ascending order (R211). -/
def maskChannels (m : Nat) : List Nat := setBits 16 (bits m 15 0) ++ (setBits 5 (bits m 20 16)).map (128 + ·)

/-- The clocks of the dwell of a pull, 400 ns (R208). -/
def dwellClocks (pull : Nat) : Nat := if pull = 0 then 0 else 128

/-- An entry of a channel, a tally and a pull that begins under an image of UL_DSC_AUX_n: order × D + m + 3 clocks after the dwell of its
pull (R200, R208). -/
def DscEntry.begin (aux : Word) (ch tally pull : Nat) : DscEntry :=
  { ch := ch, tally := tally, pull := pull, aux := aux,
    clocks := dwellClocks pull + settleClocks (fld aux 4 3) (fld aux 7 5) (fld aux 9 8) + 3 }

/-- The entry that a 16-bit word of a list names (R239). -/
def listEntry (aux : Word) (e : BitVec 16) : DscEntry := .begin aux (bits e.toNat 7 0) (bits e.toNat 11 8) (bits e.toNat 15 14)

/-- The entries of the regular round: the list, or the mask with the i-th channel in tally 2 + i and no pull (R208, R211). -/
def Dsc.round (x : Dsc) : List DscEntry :=
  match x.mode with
  | 1 => (x.active.reg.take x.active.len).map (listEntry x.aux)
  | 2 => (maskChannels x.active.mask).zipIdx.map fun e => .begin x.aux e.1 (2 + e.2) 0
  | _ => []

/-- The injected entries, and those that a trigger begins: none with MODE off (R208). -/
def Dsc.injAll (x : Dsc) : List DscEntry := (x.active.inj.take x.active.injLen).map (listEntry x.aux)
def Dsc.injRun (x : Dsc) : List DscEntry := if x.mode = 0 then [] else x.injAll

/-- M_A goes on to a place: the entry there begins at its multiplexer switch, under the settings then in force (R208, R210). -/
def Dsc.go (x : Dsc) (a : AState) : Dsc :=
  { x with
    am := a
    entry := match a with
      | .regular p => x.round[p]?
      | .injected p _ => x.injAll[p]?
      | _ => none }

/-- Host sequences run on M_A: it neither failed nor covers another modulator (R229). -/
def Dsc.hostOk (x : Dsc) : Bool := !x.vCov && !x.iCov && !x.aFail

/-- A round is in progress, be it interrupted. -/
def Dsc.inRound (x : Dsc) : Bool :=
  match x.am with
  | .regular _ => true
  | .injected _ (some _) => true
  | .audit (some _) => true
  | _ => false

def Dsc.missed (x : Dsc) : Dsc := { x with trigMiss := incSat 255 x.trigMiss }

/-- A regular trigger meets M_A (R208, R210). -/
def Dsc.trigRegular (x : Dsc) : Dsc :=
  if x.round = [] ∨ !x.hostOk then x
  else match x.am with
    | .idle => x.go (.regular 0)
    | .regular _ => if x.cont then x else x.missed
    | .injected _ (some _) => if x.cont then x else x.missed
    | .audit (some _) => if x.cont then x else x.missed
    | _ => if x.held then x.missed else { x with held := true }

/-- An injected trigger meets M_A (R210). -/
def Dsc.trigInjected (x : Dsc) : Dsc :=
  if x.injRun = [] ∨ !x.hostOk then x
  else match x.am with
    | .idle => x.go (.injected 0 none)
    | .regular p => x.go (.injected 0 (some p))
    | .injected _ _ => x.missed
    | .audit _ => if x.heldInj then x.missed else { x with heldInj := true }

/-- The DSCs a trigger word names (R233). -/
def trigTargets (all : Bool) (conv : Nat) : List Nat := if all then allDoms else if conv < 48 then [conv] else []

/-- Trigger the DSCs whose TRIG_SRC is a source (R205). -/
def State.trigSource (s : State) (src : Nat) : State :=
  s.forEach allDoms fun s d => if (s.dsc d).trigSrc = src then s.updDsc d Dsc.trigRegular else s

/-- A regular trigger from software, where TRIG_SRC is 0 (R233). -/
def State.softTrig (s : State) (all inj : Bool) (conv : Nat) : State :=
  s.forEach (trigTargets all conv) fun s d =>
    if inj then s.updDsc d Dsc.trigInjected
    else if (s.dsc d).trigSrc = 0 then s.updDsc d Dsc.trigRegular else s

/-- The common timer ticks (R205). -/
def execSenseTimerTick (s : State) : Out := if s.sense.timerOn then s.fast (s.trigSource 1) else .next s

/-- A CELLSYNC phase event at a multiple of 2^CS_DIV (R205). -/
def execCsPhaseEvent (s : State) : Out := s.fast (s.trigSource 3)

/-- A new regular list is active, or a new injected one (R209, R214). -/
def State.takeReg (s : State) (d : Nat) : State :=
  match (s.dsc d).nextReg with
  | none => s
  | some l =>
    (s.updDsc d fun x => { x with
      active := { x.active with len := l.len, mask := l.mask, reg := l.reg }
      nextReg := none }).reconf d hostTallies
def State.takeInj (s : State) (d : Nat) : State :=
  match (s.dsc d).nextInj with
  | none => s
  | some l =>
    (s.updDsc d fun x => { x with
      active := { x.active with injLen := l.injLen, inj := l.inj }
      nextInj := none }).reconf d hostTallies

/-- A regular round ends: a waiting list becomes active, and CONT begins the next (R208, R209). -/
def State.roundEnd (s : State) (d : Nat) (again : Bool) : State :=
  let s1 := s.takeReg d
  let x := s1.dsc d
  (s1.updDsc d fun y =>
    { y.go (if again && x.cont && !x.round.isEmpty && x.hostOk then .regular 0 else .idle) with auxEdge := false }).listsDone d

/-- What M_A takes up after an injected run or an audit: a held injected run, the round it was in, or a held round (R210). -/
def State.resumeA (s : State) (d : Nat) (resume : Option Nat) : State :=
  let x := s.dsc d
  if !x.hostOk then
    (((s.takeReg d).takeInj d).updDsc d fun y => { y.go .idle with held := false, heldInj := false, auxEdge := false }).listsDone d
  else if x.heldInj && !x.injRun.isEmpty then s.updDsc d fun y => { y.go (.injected 0 resume) with heldInj := false }
  else match resume with
    | some p => if p < x.round.length && !x.auxEdge then s.updDsc d (·.go (.regular p)) else s.roundEnd d (!x.auxEdge)
    | none =>
      if x.held && !x.round.isEmpty then s.updDsc d fun y => { y.go (.regular 0) with held := false }
      else s.updDsc d fun y => { y.go .idle with held := false }

/-- The result of the entry in progress enters its tally, formed under the settings it began with (R199, R208, R210, R213). -/
def State.entryResult (s : State) (d : Nat) (smp : SenseSample) : State :=
  match (s.dsc d).entry with
  | some e =>
    let r := s.chanResult d e.ch (aFilter e.aux) smp
    s.tallyAdd d e.tally r.1 r.2
  | none => s

/-- An entry of M_A ends with the samples of its channel (R199, R208, R210, R213). -/
def execEntryDone (d : DomIx) (smp : SenseSample) (s : State) : Out :=
  let x := s.dsc d
  match x.am with
  | .regular p =>
    let s1 := s.entryResult d smp
    s.fast (if x.auxEdge || decide (p + 1 ≥ x.round.length) then s1.roundEnd d (!x.auxEdge) else s1.updDsc d (·.go (.regular (p + 1))))
  | .injected p r =>
    let s1 := s.entryResult d smp
    s.fast (if p + 1 < x.injAll.length then s1.updDsc d (·.go (.injected (p + 1) r)) else ((s1.takeInj d).resumeA d r).listsDone d)
  | _ => .next s

/-- A sequence entry obeys its layout (R239). -/
def entryOk (d : Nat) (e : BitVec 16) : Bool :=
  bits e.toNat 15 14 != 3 && bits e.toNat 13 12 == 0 && decide (bits e.toNat 11 8 ≥ 2) && chanOk d (bits e.toNat 7 0)

/-- A staging copy passes GO, in any MODE (R209, R211, R238, R239). -/
def seqOk (d : Nat) (l : SeqSet) : Bool :=
  decide (l.len ≤ 64) && decide (l.injLen ≤ 8) && (l.reg.take l.len).all (entryOk d) && (l.inj.take l.injLen).all (entryOk d) &&
    decide ((maskChannels l.mask).length ≤ 14) && decide (l.len ≤ l.reg.length) && decide (l.injLen ≤ l.inj.length)

/-- A checked copy becomes active at the end of what is in progress, or at once (R209). -/
def State.seqActivate (s : State) (d : Nat) (l : SeqSet) : State :=
  let s1 := s.updDsc d fun x => { x with nextReg := some l, nextInj := some l }
  let inInj := match (s.dsc d).am with
    | .injected _ _ => true
    | _ => false
  let s2 := if (s.dsc d).inRound then s1 else s1.takeReg d
  let s3 := if inInj then s2 else s2.takeInj d
  s3.listsDone d

/-- The entry lists of a staging copy, 64 and 8 places. -/
def SeqSet.full (l : SeqSet) : SeqSet :=
  { l with reg := (l.reg ++ List.replicate 64 0).take 64, inj := (l.inj ++ List.replicate 8 0).take 8 }

/-- GO of UL_SEQ_CTRL for the DSC named in UL_SEQ_SEL: a length out of range discards the write, and a copy that fails its check is
refused whole (R209, R238). An earlier SET_SEQUENCE that still waits is superseded (R481). -/
def State.seqGo (s : State) (v : Word) : State :=
  let d := fld s.sense.seqSel 5 0
  if fld v 22 16 > 64 ∨ fld v 11 8 > 8 then { s with sense := { s.sense with cfgRej := true } }
  else
    let l := { (s.dsc d).staging.full with len := fld v 22 16, injLen := fld v 11 8 }
    let s1 := s.updDsc d fun x => { x with staging := l }
    if seqOk d l then (s1.finish (.lists d) stSuperseded 0).seqActivate d l
    else { s1 with sense := { s1.sense with cfgRej := true } }

/-- A write of UL_TALLY_SEL captures a committed copy (R216, R241). -/
def State.tallyCaptureOp (s : State) (v : Word) : State :=
  let conv := fld v 9 4
  if conv ≥ 56 then { s with sense := { s.sense with cfgRej := true } }
  else { s with sense := { s.sense with tallySel := pack [(9, 0, fld v 9 0)], cap := (s.tally conv (fld v 3 0)).done } }

/-- Working copies named for a clear at the next commit (R215). -/
def State.tallyClearOp (s : State) (conv mask : Nat) : State :=
  s.forEach (setBits 16 mask) fun s t => s.updTally conv t fun y => { y with clear := true }

/-! ### The reference (R217 to R219) -/

/-- A REF_SEL is written: a source other than the one in use waits for its test, in place of one that waited or had passed; code 3 is
refused (R217, R219, R231). -/
def State.refSelectOp (s : State) (sel : Nat) : State :=
  if sel = 3 then { s with sense := { s.sense with cfgRej := true } }
  else { s with sense := { s.sense with
    ctrl := putFld s.sense.ctrl 1 0 sel
    refPend := if sel = s.sense.refAct then none else some sel
    refSwitch := if s.sense.refSwitch = s.sense.refPend then none else s.sense.refSwitch } }

/-- A new REF_SEL takes effect. -/
def execRefSelect (sel : BitVec 2) (s : State) : Out := s.fast (s.refSelectOp sel.toNat)

/-- A channel of an HKC in the round in progress, and in the one before. -/
def State.hkcRes (s : State) (k ch : Nat) : Option Int := (s.hkc k).res.get none ch
def State.hkcPrev (s : State) (k ch : Nat) : Option Int := (s.hkc k).prev.get none ch

/-- |a − b| ≤ tol for two readings; a reading that is invalid passes nothing. -/
def near (a b : Option Int) (tol : Nat) : Bool :=
  match a, b with
  | some x, some y => decide ((x - y).natAbs ≤ tol)
  | _, _ => false

/-- A reading lies within limits. -/
def within (a : Option Int) (lo hi : Int) : Bool :=
  match a with
  | some x => decide (lo ≤ x) && decide (x ≤ hi)
  | none => false

/-- 2/3 of the mean of two readings lies within 2 mV of a third: 3 r against a + b, in 0.25 mV codes. -/
def nearTwoThirds (a b r : Option Int) : Bool :=
  match a, b, r with
  | some x, some y, some z => decide ((3 * z - (x + y)).natAbs ≤ 24)
  | _, _, _ => false

/-- Row k passes the test of a reference source (R218). -/
def State.rowPasses (s : State) (src k : Nat) : Bool :=
  let r := s.hkcRes k
  match src with
  | 0 => within (r 143) 4776 4824 && near (r 145) (r 143) 8
  | 1 => within (r 144) 4400 5200 && near (r 144) (s.hkcPrev k 144) 8 && near (r 145) (r 144) 8
  | _ => within (r 140) 6800 7600 && within (r 141) 6800 7600 && nearTwoThirds (r 140) (r 141) (r 145)

/-- The test of a source that waits: as for the source in use, but the row buffers do not carry it yet (R218, R219). -/
def State.rowOffers (s : State) (src k : Nat) : Bool :=
  let r := s.hkcRes k
  match src with
  | 0 => within (r 143) 4776 4824
  | 1 => within (r 144) 4400 5200 && near (r 144) (s.hkcPrev k 144) 8
  | _ => within (r 140) 6800 7600 && within (r 141) 6800 7600

/-! ### The housekeeping round (R220 to R222) -/

/-- A round begins: each HKC takes part, with the picks then written (R220, R243); new thermal images take effect (R363, R364). -/
def State.roundBegin (s : State) : State :=
  let s1 := s.forEach (List.range 8) fun s k =>
    let p := [s.sense.picks.get 0xFFFFFFFF (2 * k), s.sense.picks.get 0xFFFFFFFF (2 * k + 1)]
    let old := (s.hkc k).picks
    let changed := (List.range 8).filter fun t => fld (p.getD (t / 4) 0) (8 * (t % 4) + 7) (8 * (t % 4))
        != fld (old.getD (t / 4) 0xFFFFFFFF) (8 * (t % 4) + 7) (8 * (t % 4))
    ((s.updHkc k fun x => { x with inRound := true, prev := x.res, res := [], picks := p }).blockReleased .hkc k).reconf (hkcConv k)
      (changed.map (8 + ·))
  let t := s1.therm
  let done (s : State) (o : Option (Word × Stager)) : State := match o with
    | some (_, .command x) => s.finishWhere fun f => if f.x = x ∧ f.waits = .round then some (stOk, f.data) else none
    | _ => s
  let s2 := { s1 with
    therm := { t with
      rate := (t.rateNext.map (·.1)).getD t.rate
      lim := (t.limNext.map (·.1)).getD t.lim
      rateNext := none
      limNext := none
      hotCur := none
      riseCur := none
      warnCur := false }
    sense := { s1.sense with roundOn := true } }
  done (done s2 t.rateNext) t.limNext

/-- A housekeeping round begins at the commit of an epoch that is a multiple of 500 (R220, R230). -/
def execHkcRoundStart (s : State) : Out :=
  if s.ledger.running ∧ s.ledger.epoch % 500 = 0 ∧ !s.sense.roundOn then s.fast s.roundBegin else .next s

/-- The fixed tally of a channel (R222). -/
def hkcTally (ch : Nat) : Option Nat :=
  if ch < 128 then some (ch / 32)
  else if ch < 136 then some 4
  else if ch < 140 then some 5
  else if ch < 142 then some 6
  else if ch = 142 then some 7
  else none

/-- The tallies of the picks that name a channel (R222, R243). -/
def Hkc.pickTallies (x : Hkc) (ch : Nat) : List Nat :=
  ((List.range 8).filter fun t => fld (x.picks.getD (t / 4) 0xFFFFFFFF) (8 * (t % 4) + 7) (8 * (t % 4)) == ch).map (8 + ·)

/-- A conversion of a channel in its code, none where it is invalid: a diode outside −60 to +160 °C (R221, R222). -/
def hkcCode (ch : Nat) (raw : Option Int) : Option (Int × Bool) :=
  match raw with
  | none => none
  | some x =>
    if ch < 140 then (if -3840 ≤ x ∧ x ≤ 10240 then some (x, false) else none)
    else if ch < 146 then some (clampI 0 65535 x, decide (x < 0) || decide (x > 65535))
    else some (satS 16 x, decide (satS 16 x ≠ x))

/-- A tile takes the reading of its diode: a valid one stands from here on, an invalid one leaves the last (R256). -/
def takeTileDiode (v : Option Int) (x : Tile) : Tile :=
  { x with
    diodeOld := x.diode
    diode := match v with
      | some t => some t
      | none => x.diode }

/-- A conversion of one channel ends (R193, R220 to R222, R256, R342, R343, R403). -/
def execHkcConversion (k : HkcIx) (ch : Fin 152) (raw : Option Int) (s : State) : Out :=
  let x := s.hkc k
  if !x.inRound || !s.sense.roundOn then .next s
  else
    let c := hkcCode ch raw
    let s1 := s.updHkc k fun y => { y with res := y.res.set ch (c.map (·.1)) }
    let ts := (match hkcTally ch with
      | some t => [t]
      | none => []) ++ x.pickTallies ch
    let s2 := match c with
      | some (v, o) => s1.forEach ts fun s t => s.tallyAdd (hkcConv k) t v o
      | none => s1
    let s3 := match diodeOf k ch with
      | some n =>
        let t := s2.updDiode n (takeDiode (c.map (·.1)))
        if n < 1024 then t.updTile n (takeTileDiode (c.map (·.1))) else t
      | none => s2
    let s4 := match c with
      | some (v, _) =>
        if (ch.val = 140 ∨ ch.val = 141) ∧ (v < 6800 ∨ v > 7600) then s3.raise 33 k
        else if ch.val = 142 ∧ (v < 3040 ∨ v > 3360) then s3.raise 37 k
        else s3
      | none => s3
    s.fast s4

/-- Every result of an HKC's round is invalid: its tallies lose it, its diodes count a round without a reading, and its tiles keep their
last valid reading (R222, R256, R348). -/
def State.hkcVoid (s : State) (k : Nat) : State :=
  let s1 := s.updHkc k fun x => { x with res := [], fail := true }
  let s2 := s1.forEach (List.range 16) fun s t => s.updTally (hkcConv k) t fun y => { y with work := { y.work with
      sum := 0
      count := 0
      min := 0
      max := 0
      full := false
      ovr := false } }
  let s3 := s2.forEach ((List.range 140).filterMap (diodeOf k)) fun s n =>
    s.updDiode n fun x =>
      if x.cur.isSome then { x with cur := none, rate := none, fresh := false, badRun := x.badOld + 1, badSet := x.setOld } else x
  s3.forEach ((List.range 128).filterMap (diodeOf k)) fun s n => s.updTile n fun x => { x with diode := x.diodeOld }

/-- Conclude the audits of a list that a test answers, block by block (R412). -/
def State.concludeList (s : State) (l : List (Nat × Nat)) (pass : Nat → Bool) : State :=
  l.foldl (fun s e => s.concludeAudit (auditSrc e) (pass e.1) (auditHeld e)) s

/-- The check slot: each HKC's own tests (`own`), the reference of each row, a source that waits for its test, and the audits that wait
for this slot (R218, R219, R220, R222, R412). -/
def execHkcCheckSlot (own : BitVec 8) (s : State) : Out :=
  if !s.sense.roundOn then .next s
  else
    let rows := (List.range 8).filter fun k => (s.hkc k).inRound
    let ok (k : Nat) : Bool := bitAt own.toNat k
    let s1 := s.forEach rows fun s k => if ok k then s.updHkc k fun x => { x with fail := false } else s.hkcVoid k
    let hk := s1.flt.hkcAud
    let rf := s1.flt.refAud
    let act := s1.sense.refAct
    let bad := rows.filter fun k => !s1.rowPasses act k
    let s2 := { s1 with
      sense := { s1.sense with refRdy := bad.isEmpty && decide (rows.length = 8) }
      flt := { s1.flt with hkcAud := [], refAud := [] } }
    let s3 := (s2.concludeList hk ok).concludeList rf fun k => !bad.contains k
    let s4 := s3.forEach (rows.filter fun k => !ok k) fun s k => s.raise 24 k
    let s5 := if bad.isEmpty then s4
      else
        let t := { s4 with sense := { s4.sense with
          refFail := true
          refSwitch := if act = 0 then s4.sense.refSwitch else some 0 } }
        t.forEach bad fun s k => s.raise 23 k
    let s6 := match s5.sense.refPend with
      | none => s5
      | some p =>
        if decide (rows.length = 8) && rows.all fun k => s5.rowOffers p k then
          { s5 with sense := { s5.sense with refSwitch := some p } }
        else { s5 with sense := { s5.sense with refPend := none, refFail := true } }
    s.fast s6

/-- A change of reference at a commit (R204, R214, R219). -/
def State.refCommit (s : State) : State :=
  match s.sense.refSwitch with
  | none => s
  | some r =>
    let s1 := { s with sense := { s.sense with
      refAct := r
      refSwitch := none
      refPend := if s.sense.refPend = some r then none else s.sense.refPend } }
    s1.forEach allDoms fun s d => (s.reconf d fbTallies).updDom d fun x => { x with holdFb := true }

/-- The commit that ends a round: tallies close, the round's figures are taken, and the warden copies the throttle levels and the field
gains (R217, R220, R242, R262, R293, R348, R365). -/
def State.roundClose (s : State) (epoch : Nat) : State :=
  if !s.sense.roundOn then s
  else
    let s1 := { s with
      tallies := s.tallies.modifyAll {}
        (((List.range 8).filter fun k => (s.hkc k).inRound).flatMap fun k => (List.range 16).map (16 * hkcConv k + ·)) fun _ t => t.close epoch
      hkcs := s.hkcs.map fun (e : Nat × Hkc) =>
        (e.1, if e.2.inRound then { e.2 with vref := (e.2.res.get none 144).getD e.2.vref } else e.2)
      diodes := s.diodes.map fun (e : Nat × Diode) => (e.1, { e.2 with copy := e.2.level, round := e.2.cur })
      views := s.views.map fun (e : Nat × View) =>
        (e.1, { e.2 with copyGain := e.2.gain, copyCnt := e.2.cnt, copyLimit := e.2.atLimit })
      sense := { s.sense with roundOn := false, roundNum := (s.sense.roundNum + 1) % 65536 }
      therm := { s.therm with
        hot := match s.therm.hotCur with
          | some (t, n) => pack [(31, 16, toCode 16 t), (10, 0, n)]
          | none => 0
        rise := match s.therm.riseCur with
          | some (t, n) => pack [(31, 16, toCode 16 t), (10, 0, n)]
          | none => 0
        warn := s.therm.warnCur } }
    let vin := (List.range 8).flatMap fun k => [140, 141].filterMap fun ch => s.hkcRes k ch
    let s1 := if vin.isEmpty then s1
      else { s1 with limits := { s1.limits with vIn := (sumInt vin : Rat) / ((4 * vin.length : Nat) : Rat) } }
    let fails := (List.range 8).filter fun k => (s1.hkc k).fail
    { s1 with pub := s1.pub.set 0xFA0 (pack [(23, 16, ofBits fails), (15, 0, s1.sense.roundNum)]) }

/-! ### The thermal supervisor (R344, R345, R348, R349) -/

/-- Thresholds of UL_THERM_RATE in 1/256 °C/ms and of UL_THERM_LIM in 1/64 °C. -/
def State.warnRate (s : State) : Int := 64 * (fld s.therm.rate 7 0 : Nat)
def State.throtRate (s : State) : Int := 64 * (fld s.therm.rate 15 8 : Nat)
def State.tripRate (s : State) : Int := 64 * (fld s.therm.rate 23 16 : Nat)
def State.tTrip (s : State) : Int := 64 * (fld s.therm.lim 31 24 : Nat)
def State.tThrot (s : State) : Int := 64 * (fld s.therm.lim 23 16 : Nat)
def State.thermMax (s : State) : Nat := fld s.therm.lim 14 8
def State.thermStep (s : State) : Nat := fld s.therm.lim 5 0

/-- The greater of two readings with their diodes, the earlier of equals. -/
def hotter (a : Option (Int × Nat)) (b : Int × Nat) : Option (Int × Nat) :=
  match a with
  | some x => if x.1 < b.1 then some b else some x
  | none => some b

/-- A valid reading is evaluated (R344, R345, R353). -/
def State.evalDiode (s : State) (n : Nat) (t : Int) (rate : Option Int) : State :=
  let r := rate.getD 0
  let has := rate.isSome
  let warn := has && decide (r ≥ s.warnRate)
  let hot := (has && decide (r ≥ s.throtRate)) || decide (t ≥ s.tThrot)
  let cool := (!has || decide (r < s.warnRate)) && decide (t < s.tThrot - 128)
  let first := warn && !(s.diode n).warnRun
  let lvl (l : Nat) : Nat := if hot then min s.thermMax (l + s.thermStep) else if cool then l - s.thermStep else l
  let s1 := s.updDiode n fun x => { x with level := lvl x.level, warnRun := warn, fresh := false }
  let s2 := { s1 with therm := { s1.therm with
    warnCnt := if warn then incSat 65535 s1.therm.warnCnt else s1.therm.warnCnt
    throtCnt := if hot then incSat 65535 s1.therm.throtCnt else s1.therm.throtCnt
    warnCur := s1.therm.warnCur || warn
    hotCur := hotter s1.therm.hotCur (t, n)
    riseCur := if has then hotter s1.therm.riseCur (r, n) else s1.therm.riseCur } }
  let s3 := if first then s2.pushEvent (evThermWarn n t r) else s2
  let causes := (if has && decide (r ≥ s.tripRate) then causeRate else 0) + (if t ≥ s.tTrip then causeAbs else 0)
  if causes = 0 then s3 else s3.stopCause causes

/-- The supervisor evaluates the reading of a diode. -/
def execDiodeEval (n : DiodeIx) (s : State) : Out :=
  match (s.diode n).fresh, (s.diode n).cur with
  | true, some t => s.fast (s.evalDiode n t (s.diode n).rate)
  | _, _ => .next s

/-- A diode has been invalid in three rounds in a row: reported once (R348). -/
def execThermSensor (n : DiodeIx) (s : State) : Out :=
  let x := s.diode n
  if x.badRun ≥ 3 ∧ !x.badSet then s.fast ((s.updDiode n fun x => { x with badSet := true }).raise 32 n) else .next s

/-! ### Guard, open-wire tests, struck points (R223 to R227) -/

/-- Cells whose calm the check of a point needs (R224). -/
def State.nearCells (s : State) (d ch : Nat) : List Nat :=
  if isTD d then
    (s.roleCells d).filter fun i => homeDom i == d && posOf i % 64 / 2 == ch / 4
  else s.roleCells d

/-- The cells near a point are calm (R224). -/
def State.calm (s : State) (d ch : Nat) : Bool :=
  (s.nearCells d ch).all fun i => match (s.view i).tlm with
    | some p => decide (bits p 12 8 < fld s.sense.plaus 5 0) && !bitAt p 2 && bits p 16 13 == 0
    | none => false

/-- A point found intact is not tested again for 64 epochs unless its reading moves a further PLAUS_TOL (R226). -/
def State.quietPoint (s : State) (d ch : Nat) (x : Int) : Bool :=
  match (s.dsc d).quietPts.find? (·.1 == ch) with
  | some (_, n, x0) => decide (n > 0) && decide ((x - x0).natAbs ≤ s.plausTol.natAbs)
  | none => false

/-- The comparisons of a guard cycle: M_G against the latched values, and in a MinSense domain point by point (R228). -/
def State.crossFails (s : State) (d ch : Nat) (raw : Int) : Bool :=
  let x := s.dom d
  let steady := match x.latches with
    | (_, some a) :: (_, some b) :: _ => decide ((a - b).natAbs ≤ 2000)
    | _ => true
  let min := regOf d x
  let ampBad := match x.lastFb.2 with
    | some i => decide (50 * (raw - i).natAbs > 50000 + i.natAbs)
    | none => false
  let vBad := match x.lastFb.1 with
    | some v => decide ((raw - v).natAbs > 192)
    | none => false
  steady && (if ch = 129 then ampBad else if ch = 128 then !min && vBad
    else min && (match (s.dsc d).mv.find? (·.1 == ch) with
      | some m => decide ((raw - m.2).natAbs > 192)
      | none => false))

/-- The end of a guard cycle: two failing cycles in a row raise DSC_MISMATCH (R228). -/
def State.crossEnd (s : State) (d : Nat) : State :=
  let x := s.dsc d
  if x.crossBad then
    if x.crossRun ≥ 1 then
      (s.updDsc d fun y => { y with crossBad := false, crossRun := 0, mismCnt := incSat 15 y.mismCnt }).raise 21 d
    else s.updDsc d fun y => { y with crossBad := false, crossRun := 1 }
  else s.updDsc d fun y => { y with crossRun := 0 }

/-- The channel M_G converts next: a point read a second time, else the next unstruck point in ascending order, then 128 and 129
(R223, R225). -/
def State.guardNext (s : State) (d : Nat) : Nat :=
  let x := s.dsc d
  match x.second with
  | some ch => ch
  | none =>
    if x.guardAt = 129 then 129
    else ((pointChannels d).find? fun ch => decide (x.guardAt ≤ ch) && !(s.struckOf d).contains ch).getD 128

/-- A guard reading of a point is judged: implausible twice in a row with its cells calm, it becomes suspect while a place is free
(R224, R225). -/
def State.guardPoint (s : State) (d ch : Nat) (v : Int) : State :=
  let x := s.dsc d
  if s.implausible d ch v && !x.suspects.contains ch && !s.quietPoint d ch v then
    if x.second = some ch then
      let t := s.updDsc d fun y => { y with second := none, guardAt := ch + 1 }
      if t.calm d ch && decide (x.suspects.length < 4) then t.updDsc d fun y => { y with suspects := y.suspects ++ [ch] } else t
    else s.updDsc d fun y => { y with second := some ch, guardAt := ch }
  else s.updDsc d fun y => { y with second := none, guardAt := ch + 1 }

/-- M_G reads the next channel of its cycle; with 129 the cycle ends. Out of service, and in the step of an audit that checks M_G, the guard
stands (R223 to R225, R228, R229). -/
def execGuardReading (d : DomIx) (smp : SenseSample) (s : State) : Out :=
  let x := s.dsc d
  if x.gFail || x.audit == some 4 then .next s
  else
    let ch := s.guardNext d
    let v := (s.chanResult d ch gFilter smp).1
    let s1 := s.updDsc d fun y => { y with crossBad := y.crossBad || s.crossFails d ch v }
    s.fast (
      if ch = 129 then (s1.crossEnd d).updDsc d fun y => { y with guardAt := 0 }
      else if ch = 128 then s1.updDsc d fun y => { y with guardAt := 129 }
      else (s1.updDsc d fun y => { y with reading := y.reading.set ch v }).guardPoint d ch v)

/-- The point of a domain's channel goes into the struck map and the vault (R226, R227). -/
def State.strike (s : State) (d ch : Nat) : State :=
  let s1 := { s with sense := { s.sense with struck := insertSorted (pointIndex d ch) s.sense.struck } }
  let s2 := s1.updDsc d fun x => { x with
    reading := x.reading.filter fun e => e.1 != ch
    second := if x.second = some ch then none else x.second }
  ((s2.reconf d fbTallies).writeStateBlock).raise 19 (pointIndex d ch)

/-- An open-wire test ends with its two readings: of the suspect found first, or of a struck point that is to be restored (R225 to
R227). -/
def execOpenWireTestEnd (d : DomIx) (ch : Fin 128) (up down : List Int) (s : State) : Out :=
  let x := s.dsc d
  let pt := pointIndex d ch
  let asked := s.sense.restoreReq.contains pt
  if x.gFail || x.audit == some 4 || !(x.suspects.head? == some ch.val || asked) then .next s
  else
    let one (l : List Int) : Int := (fineV (roundEven (s.refScale d * gFilter l))).1
    let diff := one up - one down
    let strong := fld s.sense.plaus 25 24 == 2 || x.retest == some ch.val
    let open_ := decide (diff ≥ 64 * (fld s.sense.plaus 15 8 : Nat))
    let intact := decide (diff < 64 * (fld s.sense.plaus 20 16 : Nat))
    let clear (s : State) : State :=
      let t := s.updDsc d fun y => { y with
        suspects := y.suspects.filter (· != ch.val)
        retest := if y.retest = some ch.val then none else y.retest }
      { t with sense := { t.sense with restoreReq := t.sense.restoreReq.filter (· != pt) } }
    if asked then
      if intact then
        let t := clear s
        s.fast { t with sense := { t.sense with restore := insertSorted pt t.sense.restore } }
      else if open_ || strong then
        let t := clear s
        s.fast { t with sense := { t.sense with restRej := true } }
      else s.fast (s.updDsc d fun y => { y with retest := some ch.val })
    else if open_ then s.fast ((clear s).strike d ch)
    else if intact then
      s.fast ((clear s).updDsc d fun y => { y with quietPts := y.quietPts.set ch (64, y.reading.get 0 ch) })
    else if strong then s.fast ((clear s).raise 20 pt)
    else s.fast (s.updDsc d fun y => { y with retest := some ch.val })

/-- UL_SP_RESTORE asks for the test of a struck point (R227, R240). -/
def State.restoreOp (s : State) (point : Nat) : State :=
  if s.sense.struck.contains point then
    { s with sense := { s.sense with restoreReq := insertSorted point s.sense.restoreReq } }
  else s

/-- Points found intact return at a commit (R227). -/
def State.restoreCommit (s : State) : State :=
  if s.sense.restore = [] then s
  else
    let back := s.sense.restore
    let s1 := { s with sense := { s.sense with
      struck := s.sense.struck.filter fun p => !back.contains p
      restore := [] } }
    (s1.forEach back fun s p => s.reconf (pointDom p) fbTallies).writeStateBlock

/-! ### The audit of a DSC (R229) -/

/-- What a finished audit leaves: covers and failures by the steps that failed (1 M_A, 2 M_V, 3 M_I, 4 M_G). -/
def auditOutcome (bad : List Nat) (x : Dsc) : Dsc :=
  let a := bad.contains 1 || x.aFail
  let v := bad.contains 2
  let i := bad.contains 3
  { x with
    aFail := a
    vCov := x.vCov || (v && !a)
    vBad := x.vBad || (v && a)
    iCov := x.iCov || (i && !v && !a && !x.vCov)
    iBad := x.iBad || (i && (v || a || x.vCov))
    gFail := x.gFail || bad.contains 4
    degraded := x.degraded || !bad.isEmpty
    passCnt := if bad.isEmpty then incSat 15 x.passCnt else x.passCnt
    audit := none
    auditBad := [] }

/-- The results of an audit step pass: channel 132 within ±0.5 mV of 0 and channel 131 within ±1 mV of 600.000 mV at both filter
settings, and for M_I the 1.000 A injection within ±10 mA; before the scaling of R217 (R229). -/
def auditPass (step : Nat) (zero mid : Int × Int) (inj : Int) : Bool :=
  let z (x : Int) : Bool := decide (x.natAbs ≤ 32)
  let m (x : Int) : Bool := decide ((x - 38400).natAbs ≤ 64)
  z zero.1 && z zero.2 && m mid.1 && m mid.2 && (step != 3 || decide ((inj - 1000).natAbs ≤ 10))

/-- One 10 µs step of a DSC's audit ends; the fourth concludes it (R229, R412). -/
def execDscAuditStepEnd (d : DomIx) (zero mid : Int × Int) (inj : Int) (s : State) : Out :=
  match (s.dsc d).audit with
  | none => .next s
  | some k =>
    let pass := auditPass k zero mid inj
    let bad := (s.dsc d).auditBad ++ (if pass then [] else [k])
    if k < 4 then s.fast (s.updDsc d fun x => { x with audit := some (k + 1), auditBad := bad })
    else
      let resume := match (s.dsc d).am with
        | .audit r => r
        | _ => none
      let s1 := (s.updDsc d (auditOutcome bad)).resumeA d resume
      let mine := s1.flt.dscAud.filter fun e => e.1 == d.val
      let s2 := { s1 with flt := { s1.flt with dscAud := s1.flt.dscAud.filter fun e => e.1 != d.val } }
      let s3 := s2.concludeList mine fun _ => bad.isEmpty
      s.fast (if bad.isEmpty then s3 else s3.raise 22 d)

end Sys2Proof.Machine
end

