-- ==== Sys2Proof/Machine/Engine.lean ====
section
/-! DEFINITION. The regulation engine (spec/04): law records and their checks (R154 to R159), one domain slot (R146, R160 to R178), the
two faults of a slot, current sharing (R167 to R169), the lockstep pairs (R180 to R183) and the law registers (R186 to R189). -/

namespace Sys2Proof.Machine

/-! ### Arithmetic of R150 to R153 -/

/-- q() of R152: a sum in Q3.59 rounded once to Q1.30 with ties to even and saturated, and whether it saturated. -/
def qAcc (x : Int) : Int × Bool :=
  let y := divEven x (2 ^ 29)
  (clampI (-(2 ^ 30)) (2 ^ 30 - 1) y, decide (y < -(2 ^ 30)) || decide (y > 2 ^ 30 - 1))

/-- A Q1.30 term without a coefficient, aligned to Q3.59 (R152). -/
def align59 (x : Int) : Int := x * 2 ^ 29

/-- A voltage code of 0.25 mV in Q1.30 (R153). -/
def qOfVset (code : Nat) : Int := (code : Int) * 2 ^ 18
/-- A code of 1/64 mV in Q1.30. -/
def qOf64 (code : Int) : Int := code * 2 ^ 14
/-- A current code of 1 mA in Q1.30. -/
def qOfMa (i : Int) : Int := divEven (i * 2 ^ 20) 1000
/-- A Q1.30 voltage as a target code (R153). -/
def targetCode (t : Int) : Nat := (clampI 0 65535 (divEven t (2 ^ 14))).toNat

/-! ### Law records (R154 to R158) -/

/-- Word w of a record. -/
def lawW (l : List Word) (w : Nat) : Word := l.getD w 0
def lawTopo (l : List Word) : Nat := fld (lawW l 0) 31 30
def lawSatLim (l : List Word) : Nat := fld (lawW l 0) 27 16
/-- R_LL in Q2.29 (R153). -/
def lawRll (l : List Word) : Int := divEven ((fld (lawW l 0) 9 0 : Nat) * 2 ^ 29) 1000
/-- SS_RATE × 0.5 µs in Q1.30. -/
def lawStep (l : List Word) : Int := (fld (lawW l 1) 7 0 : Nat) * 2 ^ 17
def lawTgtMax (l : List Word) : Int := qOf64 (fld (lawW l 2) 31 16 : Nat)
def lawTgtMin (l : List Word) : Int := qOf64 (fld (lawW l 2) 15 0 : Nat)
def lawULim (l : List Word) : Int := qOf64 (fld (lawW l 3) 31 16 : Nat)
def lawKsh (l : List Word) : Nat := fld (lawW l 3) 15 8
def lawShDb (l : List Word) : Nat := fld (lawW l 3) 7 0
def lawKffH (l : List Word) : Int := (lawW l 4).toInt
def lawKffI (l : List Word) : Int := (lawW l 5).toInt
/-- Coefficient C_i as a raw Q2.29 integer. -/
def lawC (l : List Word) (i : Nat) : Int := (lawW l (6 + i)).toInt
def lawTag (l : List Word) : Nat := fld (lawW l 15) 31 16

/-- The integrating condition of R156. -/
def lawIntegrates (l : List Word) : Bool :=
  let near (x : Int) : Bool := decide ((x - 2 ^ 29).natAbs ≤ 512)
  match lawTopo l with
  | 0 => decide (lawC l 1 ≠ 0)
  | 1 => near (lawC l 3 + lawC l 4)
  | 2 => near (lawC l 4 + lawC l 5 + lawC l 6)
  | _ => true

/-- The conditions of R157 that a record meets for a domain, as REASON codes in rising order. -/
def State.lawFaults (s : State) (d : Nat) (l : List Word) : List Nat :=
  let zeros := match lawTopo l with
    | 0 => [4, 5, 6]
    | 1 => [5, 6]
    | _ => []
  let minSense := wbit (lawW l 0) 29
  let tgtMax := fld (lawW l 2) 31 16
  let tgtMin := fld (lawW l 2) 15 0
  let v := fld (lawW l 1) 31 24
  let a := fld (lawW l 1) 23 16
  let j := fld (lawW l 1) 15 8
  let ss := fld (lawW l 1) 7 0
  let m := s.otp.profMax.getD d (0, 0, 0, 0)
  (if lawTopo l = 3 || zeros.any (fun i => decide (lawC l i ≠ 0)) then [1] else [])
  ++ (if minSense = isTD d || (minSense && decide (fld (lawW l 0) 9 0 ≠ 0)) then [2] else [])
  ++ (if tgtMin > tgtMax || tgtMin + 3200 < 16 * (vRange d).1 || tgtMax > 16 * (vRange d).2 + 3200 || tgtMax > 64000
        || fld (lawW l 3) 31 16 = 0 then [3] else [])
  ++ (if v = 0 || a = 0 || j = 0 || ss = 0 || ss > v || v > m.1 || a > m.2.1 || j > m.2.2.1 || ss > m.2.2.2 then [4] else [])
  ++ (if (List.range 9).any fun k => wbit (lawW l (4 + k)) 31 != wbit (lawW l (4 + k)) 30 then [5] else [])
  ++ (if lawIntegrates l then [] else [6])
  ++ (if wbit (lawW l 0) 28 || fld (lawW l 0) 15 10 ≠ 0 || lawW l 13 ≠ 0 || lawW l 14 ≠ 0 || fld (lawW l 15) 15 0 ≠ 0 then [7] else [])

/-- A domain that host software may not name for a record: none of R8, or SD13 or SD14 (R157). -/
def lawDomainBad (d : Nat) : Bool := decide (d ≥ 48) || d == sd 13 || d == sd 14

/-- The REASON for a record from host software, 0 accepted (R157). -/
def State.lawReason (s : State) (d : Nat) (l : List Word) : Nat :=
  if lawDomainBad d then 8 else ((s.lawFaults d l).head?).getD 0

/-- Tell the path of a staged record that it was replaced before it took effect (R158). -/
def State.lawReplaced (s : State) (o : StagedLaw) : State :=
  match o.path with
  | .command x => s.supersede x
  | .register => { s with eng := { s.eng with super := true } }
  | .warden => s

/-- Stage a record that has passed its check; one already staged is discarded (R158). -/
def State.stageLaw (s : State) (d : Nat) (l : List Word) (path : LawPath) : State :=
  let s1 := match (s.dom d).staged with
    | some o => s.lawReplaced o
    | none => s
  s1.updDom d fun x => { x with staged := some { image := l, path := path, late := s.ledger.cutoff } }

/-- A record becomes active at a commit (R158, R159, R178): the domain's CFG is queued ahead of that chain's TRIM frames, and the law
starts bumplessly from the last u where it is being evaluated. In FROZEN it is stored, without any effect yet (R179). -/
def State.lawActivate (s : State) (d : Nat) : State :=
  match (s.dom d).staged with
  | none => s.updDom d fun x => { x with lawNew := false }
  | some r =>
    if r.late then s.updDom d fun x => { x with staged := some { r with late := false }, lawNew := false }
    else if (s.dom d).st = .frozen then s.updDom d fun x => { x with staged := none, lawStored := some r.image, lawNew := false }
    else
      let s1 := s.updDom d fun x => { x with
        law := r.image
        staged := none
        lawNew := true
        reinit := if x.st = .run then some (x.reinit.getD x.u1) else x.reinit }
      s1.queueCfg d true

/-! ### One slot (R146, R160 to R176) -/

/-- The reference of a domain at a value of V_SET_eff, Q1.30 (R160). -/
def Dom.vref (d : Nat) (x : Dom) (vEff i : Int) : Int × Bool :=
  if regOf d x then (vEff, false) else qAcc (align59 vEff - lawRll x.law * i)

/-- Feed-forward (R161). -/
def State.feedForward (s : State) (x : Dom) (i : Int) : Int × Bool :=
  let h := if wbit s.eng.ctrl 1 then lawKffH x.law * qOf64 x.hOff else 0
  let c := if wbit s.eng.ctrl 2 then lawKffI x.law * i - lawKffI x.law * x.iPrev else 0
  qAcc (h + c)

/-- Initialise the law at a value of u with the error of the first period (R176). -/
def lawInit (u0 e : Int) (x : Dom) : Dom × Bool :=
  let l := x.law
  let lim := lawULim l
  let u := clampI (-lim) lim u0
  let cut := decide (u ≠ u0)
  match lawTopo l with
  | 0 =>
    let r := qAcc (align59 u - lawC l 0 * e - lawC l 1 * e)
    ({ x with e1 := e, ud := 0, ui := r.1 }, cut || r.2)
  | 1 =>
    let r := qAcc (align59 u - lawC l 0 * e - lawC l 1 * e - lawC l 2 * e)
    ({ x with e1 := e, e2 := e, u1 := r.1, u2 := r.1 }, cut || r.2)
  | _ =>
    let r := qAcc (align59 u - lawC l 0 * e - lawC l 1 * e - lawC l 2 * e - lawC l 3 * e)
    ({ x with e1 := e, e2 := e, e3 := e, u1 := r.1, u2 := r.1, u3 := r.1 }, cut || r.2)

/-- The law's u from e, with the parts of its state that it changes before the clamps, and saturation (R162). -/
def lawU (e : Int) (x : Dom) : Int × Dom × Bool :=
  let c := lawC x.law
  match lawTopo x.law with
  | 0 =>
    let ui := qAcc (align59 x.ui + c 1 * e)
    let ud := qAcc (c 3 * x.ud + c 2 * e - c 2 * x.e1)
    let u := qAcc (align59 ui.1 + c 0 * e + align59 ud.1)
    (u.1, { x with ui := ui.1, ud := ud.1 }, ui.2 || ud.2 || u.2)
  | 1 =>
    let u := qAcc (c 3 * x.u1 + c 4 * x.u2 + c 0 * e + c 1 * x.e1 + c 2 * x.e2)
    (u.1, x, u.2)
  | _ =>
    let u := qAcc (c 4 * x.u1 + c 5 * x.u2 + c 6 * x.u3 + c 0 * e + c 1 * x.e1 + c 2 * x.e2 + c 3 * x.e3)
    (u.1, x, u.2)

/-- The clamps of R163 on u and on the target, with back-calculation: u, the PID's ui, the target and sat. -/
def lawClamp (vref ff e u : Int) (x : Dom) : Int × Int × Int × Bool :=
  let l := x.law
  let lim := lawULim l
  let u1 := clampI (-lim) lim u
  let t := qAcc (align59 vref + align59 u1 + align59 ff)
  let t1 := if t.1 > lawTgtMax l then lawTgtMax l else t.1
  let t2 := if t1 < lawTgtMin l then lawTgtMin l else t1
  if t2 = t.1 then (u1, x.ui, t2, decide (u1 ≠ u) || t.2)
  else
    let b := qAcc (align59 t2 - align59 vref - align59 ff)
    let u2 := clampI (-lim) lim b.1
    let ui := qAcc (align59 u2 - lawC l 0 * e - align59 x.ud)
    (u2, if lawTopo l = 0 then ui.1 else x.ui, t2, true)

/-- A period in RUN with both values valid (R160 to R164, R173, R176). -/
def State.runPeriod (s : State) (d : Nat) (v i : Int) (x0 : Dom) : Dom :=
  let st := lawStep x0.law
  let vEff := if x0.shiftHold then x0.vsetEff else x0.vsetEff + clampI (-st) st (qOfVset x0.vset - x0.vsetEff)
  let r := x0.vref d vEff i
  let e := qAcc (align59 r.1 - align59 (qOf64 v))
  let ff := s.feedForward x0 i
  let a := match x0.reinit with
    | some u0 => lawInit u0 e.1 x0
    | none => (x0, false)
  let u := lawU e.1 a.1
  let c := lawClamp r.1 ff.1 e.1 u.1 u.2.1
  let sat := r.2 || e.2 || ff.2 || a.2 || u.2.2 || c.2.2.2
  let y := u.2.1
  { y with
    vsetEff := vEff
    reinit := none
    ui := c.2.1
    u3 := y.u2
    u2 := y.u1
    u1 := c.1
    e3 := y.e2
    e2 := y.e1
    e1 := e.1
    lastAgreed := c.1
    sat := sat
    satCnt := if sat then incSat 8191 y.satCnt else 0
    satRaised := sat && y.satRaised
    tgt := targetCode c.2.2.1
    tgtValid := true
    fbCnt := 0
    fbRaised := false }

/-- The ramp target of START and STOP: no feed-forward, limited to 0 to TGT_MAX (R172, R174). -/
def Dom.rampTarget (d : Nat) (x : Dom) : Nat :=
  targetCode (clampI 0 (lawTgtMax x.law) (x.vref d x.vsetEff x.iValid).1)

/-- The first period of START with a valid V_FB sets V_SET_eff (R172). -/
def Dom.startMeasure (d : Nat) (v : Int) (x : Dom) : Dom :=
  let y := { x with vsetEff := clampI 0 (lawTgtMax x.law) (qOf64 v), vEffSet := true, tgtValid := true, fbCnt := 0 }
  { y with tgt := y.rampTarget d }

/-- A period of the soft-start ramp (R172). -/
def Dom.startRamp (d : Nat) (move : Bool) (x : Dom) : Dom :=
  let st := lawStep x.law
  let y := if move then { x with ramping := true, vsetEff := x.vsetEff + clampI (-st) st (qOfVset x.vset - x.vsetEff) } else x
  { y with tgt := y.rampTarget d }

/-- The stop rate of R355, 25 mV/µs, over one period. -/
def stopRate : Int := 13107200

/-- A period of the descent in STOP (R174, R355). -/
def Dom.stopDescend (d : Nat) (x : Dom) : Dom :=
  let st := if x.stopRamp then stopRate else lawStep x.law
  let y := { x with vsetEff := x.vsetEff - clampI (-st) st x.vsetEff }
  { y with tgt := y.rampTarget d, tgtValid := true }

/-- 100 mV in Q1.30. -/
def stopLevel : Int := 100 * 2 ^ 20

/-- A domain reaches RUN from its start (R171): what waited for it completes, and a restart under R392 is over. -/
def State.domRunning (s : State) (d : Nat) : State :=
  let s1 := s.updDom d fun x => { x with
      st := .run
      reinit := some 0
      u1 := 0
      lastAgreed := 0
      soloStage := none
      fbCnt := 0
      fbRaised := false
      leftRun := true }
  let s2 := s1.finish (.domRun d) stOk 0
  if s2.start.restarting == some d then
    ({ s2 with start := { s2.start with restarting := none } }).pushEvent (evDomain 0 d (s2.dom d).vset)
  else s2

/-- A domain reaches OFF (R171, R174). -/
def State.domIsOff (s : State) (d : Nat) : State :=
  let s1 := s.updDom d fun x => { x with
      st := .off
      tgtValid := false
      satCnt := 0
      satRaised := false
      stopSent := false
      stopRamp := false
      law := x.lawStored.getD x.law
      lawStored := none }
  s1.finish (.domOff d) stOk 0

/-- Every cell of the role was sent START and has reported RUN (R171). -/
def State.allUp (s : State) (d : Nat) : Bool :=
  !(s.roleCells d).isEmpty && (s.roleCells d).all fun i => (s.view i).startSent && (s.view i).runOk

/-- A slot in START. -/
def State.slotStart (s : State) (d : Nat) (v : Option Int) : State :=
  let x := s.dom d
  if x.vEffSet then
    let s1 := s.updDom d (Dom.startRamp d (x.ramping || s.firstGroupUp d))
    if (s1.dom d).vsetEff = qOfVset (s1.dom d).vset ∧ s1.allUp d then s1.domRunning d else s1
  else match v with
    | some y => s.updDom d (Dom.startMeasure d y)
    | none => s.updDom d fun y => { y with fbCnt := incSat 8191 y.fbCnt }

/-- A slot in STOP. -/
def State.slotStop (s : State) (d : Nat) : State :=
  let s1 := s.updDom d (Dom.stopDescend d)
  let x := s1.dom d
  if x.stopSent then (if (s1.roleCells d).all fun i => (s1.view i).offOk then s1.domIsOff d else s1)
  else if x.vsetEff ≤ stopLevel then
    let s2 := s1.forEach (s1.roleCells d) fun s i => (s.updView i fun w => { w with runOk := false, offOk := false, tlmOld := true }).queueOrder i 2 0 .engine
    s2.updDom d fun y => { y with stopSent := true }
  else s1

/-- The first period of ADOPT: the adopted target splits into U and V_SET_eff, and is written (R175). -/
def State.adoptPeriod (s : State) (d : Nat) (t : Nat) (x : Dom) : Dom :=
  let r := x.vref d (qOfVset x.vset) x.iValid
  let ff := s.feedForward x x.iValid
  let dd := (qAcc (align59 (qOf64 t) - align59 ff.1 - align59 r.1)).1
  let u := clampI (-(lawULim x.law)) (lawULim x.law) dd
  { x with vsetEff := qOfVset x.vset + (dd - u), reinit := some u, u1 := u, lastAgreed := u, tgt := t, tgtValid := true, adoptT := none }

/-- One slot of a domain with its latched values (R146, R171). -/
def State.slot (s : State) (d : Nat) (v i : Option Int) : State :=
  let x := s.dom d
  let hold (s : State) : State := s.updDom d fun y => { y with fbCnt := incSat 8191 y.fbCnt }
  match x.st, v, i with
  | .run, some a, some b => s.updDom d (s.runPeriod d a (qOfMa b))
  | .run, _, _ => s.updDom d fun y => { y with st := .fbhold, fbCnt := 1, fbRaised := false, leftRun := true }
  | .fbhold, some a, some b =>
    (s.updDom d fun y => { y with st := .run, reinit := some y.u1 }).updDom d (s.runPeriod d a (qOfMa b) ·)
  | .fbhold, _, _ => hold s
  | .start, _, _ => s.slotStart d v
  | .stop, _, _ => s.slotStop d
  | .adopt, _, _ => match x.adoptT with
    | some t => s.updDom d (s.adoptPeriod d t)
    | none => s
  | _, _, _ => s

/-- LANE_SLOT: one domain's slot of a lane period (R145, R146). The last valid I_DOM is kept for START and STOP (R166), and I_prev follows
every valid I_DOM but in FBHOLD, whose period leaves it unchanged (R161, R166). -/
def execLaneSlot (d : DomIx) (smp : SenseSample) (s : State) : Out :=
  let r := s.latchSense d smp
  let s1 := match r.2.2 with
    | some a => r.1.updDom d fun x => { x with iValid := qOfMa a }
    | none => r.1
  let s2 := s1.slot d r.2.1 r.2.2
  let s3 := match r.2.2 with
    | some a => if (s2.dom d).st == EngSt.fbhold then s2 else s2.updDom d fun x => { x with iPrev := qOfMa a }
    | none => s2
  s.fast (s3.updDom d fun x => { x with mismatch := false })

/-- ENG_SAT: the count has reached SAT_LIM + 2; once per unbroken run (R164, R191). -/
def execEngSat (d : DomIx) (s : State) : Out :=
  let x := s.dom d
  if x.satCnt ≥ lawSatLim x.law + 2 ∧ x.satRaised = false then
    let s1 := s.updDom d fun y => { y with satRaised := true }
    s.fast (({ s1 with eng := { s1.eng with satFlag := orBit s1.eng.satFlag d } }).raise 14 d)
  else .next s

/-- FB_LOST: 16 periods without the feedback value, in FBHOLD or at the start of a start (R166, R172). -/
def execFbLost (d : DomIx) (s : State) : Out :=
  let x := s.dom d
  if x.fbCnt < 16 || x.fbRaised then .next s
  else
    let s1 := s.updDom d fun y => { y with fbRaised := true }
    match x.st with
    | .fbhold => s.fast (s1.raise 15 d)
    | .start => if x.vEffSet then .next s else s.fast ((s1.raise 15 d).giveUp d 3)
    | _ => .next s

/-! ### Current sharing (R167 to R169, R260) -/

/-- The band of a raw current (R260). -/
def bandOf (iout : Int) : Nat :=
  if iout.natAbs < 300 then 0 else if iout.natAbs < 600 then 1 else if iout.natAbs < 900 then 2 else 3

/-- A band has field data (R262). -/
def State.fieldData (s : State) (i b : Nat) : Bool := decide ((s.view i).cnt.get 0 b ≥ 8)

/-- The gain a payload is corrected with: the field value of a band with field data, else the test-time value (R260, R262). -/
def State.testGain (s : State) (i b : Nat) : Nat := s.otp.gain.getD (4 * i + b) 0x8000
def State.gainInUse (s : State) (i b : Nat) : Nat :=
  if s.fieldData i b then (s.view i).gain.get (s.testGain i b) b else s.testGain i b

/-- I_corr of a raw cell current, mA (R260). -/
def State.iCorr (s : State) (i : Nat) (iout : Int) : Int :=
  let b := bandOf iout
  satS 12 (divEven (iout * (s.gainInUse i b : Int)) (2 ^ 15) + s.otp.offs.getD (4 * i + b) 0)

/-- The raw current of a payload (R90). -/
def tlmIout (p : Nat) : Int := sext 12 (bits p 39 28)

/-- A payload takes part in sharing (R167). -/
def State.shareIncludes (s : State) (i p : Nat) : Bool :=
  !bitAt p 0 && !bitAt p 2 && bits p 27 25 == 3 && bits p 63 56 == (s.chain (chainOf i)).gen && !(s.view i).moving &&
  (match s.role i with
    | some d => (s.dom d).st == .run
    | none => false)

/-- The latest included currents that are at most 8 epochs old, of the cells of a role (R167). -/
def State.shareCurrents (s : State) (d : Nat) : List Int :=
  (s.roleCells d).filterMap fun i => match (s.view i).lastI with
    | some (x, e) => if e + 8 ≥ s.ledger.epoch then some x else none
    | none => none

/-- Steps of 0.125 mV by which a cell's trim is lowered (R168). -/
def shareSteps (law : List Word) (cur : Int) (l : List Int) (ovl : Bool) : Int :=
  let n := l.length
  let diff := (n : Int) * cur - l.foldl (· + ·) 0
  let steps := if diff.natAbs ≤ 2 * lawShDb law * n then 0 else divEven ((lawKsh law : Int) * diff) (250 * n)
  if ovl && decide (steps < 1) then 1 else steps

/-- Queue a changed trim: into the latest waiting TRIM frame when its five addresses reach the cell, else in a frame of its own (R169). -/
def State.queueShareTrim (s : State) (i : Nat) : State :=
  let q := (s.chain (chainOf i)).trimQ
  match q.getLast? with
  | some p =>
    let base := bits p 55 44
    if base ≤ i ∧ i < base + 5 then
      let n := max (bits p 43 40) (i - base + 1)
      let frame := trimPayload base ((List.range n).map fun k => (s.view (base + k)).trim)
      s.updChain (chainOf i) fun c => { c with trimQ := q.dropLast ++ [frame] }
    else s.queueTrim i
  | none => s.queueTrim i

/-- One credited payload as sharing takes it; `trim` is false where a lane mismatch discards the trim change (R167, R168, R181). -/
def State.shareOne (s : State) (i p waited : Nat) (trim : Bool) : State :=
  if !s.shareIncludes i p then s else
  match s.role i with
  | none => s
  | some d =>
    let cur := s.iCorr i (tlmIout p)
    let s1 := s.updView i fun v => { v with lastI := some (cur, s.ledger.epoch - waited) }
    let law := (s.dom d).law
    if !trim || lawKsh law = 0 || !wbit s.eng.ctrl 0 then s1
    else
      let old := (s1.view i).trim
      let new := clampI (-128) 127 (old - shareSteps law cur (s1.shareCurrents d) (bitAt p 5))
      if new = old then s1 else (s1.updView i fun v => { v with trim := new }).queueShareTrim i

/-- Take the payload that has waited longest. -/
def State.shareNext (s : State) (k : Nat) (trim : Bool) : State :=
  match (s.lane k).wait with
  | [] => s
  | (i, p, w) :: rest => (s.updLane k fun l => { l with wait := rest }).shareOne i p w trim

/-- SHARING_STEP: one housekeeping cycle of a lane takes one payload (R147, R167, R169). -/
def execSharingStep (k : LaneIx) (s : State) : Out := s.fast (s.shareNext k true)

/-- SHARING_PAYLOAD_DROP: payloads that have waited more than 4 epochs are dropped from sharing (R169). -/
def execSharingPayloadDrop (k : LaneIx) (s : State) : Out :=
  s.fast (s.updLane k fun l => { l with wait := l.wait.filter fun e => decide (e.2.2 ≤ 4) })

/-! ### Lanes (R147, R180 to R183) -/

/-- LANE_SWAP: cycles 796 to 799 of L2 period 3, after which a staged value waits for the next commit but one (R147, R158, R245). -/
def execLaneSwap (s : State) : Out := s.fast { s with ledger := { s.ledger with cutoff := true } }

/-- The domain of a slot of a lane. -/
def slotDom (k slot : Nat) : Nat := (laneDoms k).getD slot 0

/-- A lasting fault of a lane pair freezes its domains that are not in OFF (R183). -/
def State.laneFreeze (s : State) (k : Nat) : State :=
  let s1 := s.forEach (laneDoms k) fun s d =>
    s.updDom d fun x => { x with st := if x.st = .off then .off else .frozen }
  let s2 := s1.updLane k fun l => { l with st := .frozen, barred := false }
  s2.raise 17 k

/-- The audit of a lane ends: transient or lasting (R182, R183, R412). -/
def State.laneAuditDone (s : State) (k : Nat) (pass : Bool) : State :=
  let mine := s.flt.laneAud.filter (·.1 == k)
  let s1 := { s with flt := { s.flt with laneAud := s.flt.laneAud.filter fun e => !(e.1 == k) } }
  let s2 := mine.foldl (fun s e => s.concludeAudit (auditSrc e) pass (auditHeld e)) s1
  if pass then s2.updLane k fun l => { l with st := .normal, barred := false, inAudit := 0, passCnt := incSat 255 l.passCnt }
  else s2.laneFreeze k

/-- The audit that a mismatch starts when its raise was suppressed: it reports into its source's counters alone (R182, R405). -/
def State.laneAuditOwn (s : State) (k : Nat) : State :=
  if hasAudit s.flt.laneAud k then s
  else (({ s with flt := { s.flt with laneAud := s.flt.laneAud ++ [(k, 16 + 64)] } }).updLane k laneAuditBegin)

/-- A mismatch found in a slot (R181, R182). -/
def State.laneMismatch (s : State) (k slot : Nat) : State :=
  let was := (s.lane k).st == .audit
  let s1 := s.updLane k fun l => { l with
    lastSlot := slot
    mismCnt := incSat 255 l.mismCnt
    inAudit := if was then l.inAudit + 1 else 0 }
  let s2 := if slot = 6 then s1.shareNext k false
    else s1.updDom (slotDom k slot) fun x => { x with
      mismatch := true
      reinit := if x.st = .run then some x.lastAgreed else x.reinit }
  let s3 := s2.raise 16 k
  let s4 := if s3.clk.fsReset || s3.adopting || s3.stopq.active || (s3.lane k).st == .frozen then s3 else s3.laneAuditOwn k
  if was && decide ((s.lane k).inAudit ≥ 1) then s4.laneAuditDone k false else s4

/-- LANE_MISMATCH: the pair disagrees in a slot, or in a sharing result (slot 6) (R181, R182). -/
def execLaneMismatch (k : LaneIx) (slot : Fin 7) (s : State) : Out := s.fast (s.laneMismatch k slot)

/-- LANE_AUDIT_END: the 64 vectors have run (R182, R183). A frozen pair that passes serves its domains again. -/
def execLaneAuditEnd (k : LaneIx) (pass : Bool) (s : State) : Out :=
  if (s.lane k).st = .audit ∨ hasAudit s.flt.laneAud k then s.fast (s.laneAuditDone k pass) else .next s

/-! ### The law registers (R186 to R189) -/

/-- Begin an operation of UL_LAWCTRL with GO reading 1; REJ speaks of the last operation (R187, R189). -/
def State.lawGo (s : State) (op d : Nat) : State :=
  { s with eng := { s.eng with lawGo := true, lawOp := op, lawDom := d, rej := false } }

/-- A write of 1 to GO that finds an operation under way is ignored and reported (R188). -/
def State.lawStart (s : State) (op d : Nat) : State :=
  if s.eng.lawGo then { s with eng := { s.eng with rej := true, reason := 9 } } else s.lawGo op d

/-- The record in UL_LAWBUF_w. -/
def State.lawBuffer (s : State) : List Word := (List.range 16).map fun w => s.eng.lawBuf.get 0 w

/-- The operation of UL_LAWCTRL ends (R158, R187, R189). -/
def State.lawEnd (s : State) : State :=
  let d := s.eng.lawDom
  let done (e : Eng) (reason : Nat) : Eng :=
    { e with lawGo := false, done := true, reason := reason, rej := e.rej || decide (reason ≠ 0) }
  match s.eng.lawOp with
  | 0 =>
    let l := s.lawBuffer
    let r := s.lawReason d l
    let s1 := if r = 0 then s.stageLaw d l .register else s
    { s1 with eng := { done s1.eng r with lawTag := lawTag l } }
  | 3 => { s with eng := done s.eng 9 }
  | op =>
    if d ≥ 48 then { s with eng := done s.eng 8 }
    else
      let l := if op = 1 then some (s.dom d).law else (s.dom d).staged.map (·.image)
      let image := l.getD []
      { s with eng := { done s.eng 0 with
        lawBuf := Tab.ofFn (List.range 16) fun w => lawW image w
        lawTag := if l.isNone then s.eng.lawTag else lawTag image
        empty := if op = 2 then l.isNone else s.eng.empty } }

/-- LAW_OP_DONE: the operation begun by GO ends (R187, R189). -/
def execLawOpDone (s : State) : Out := if s.eng.lawGo then s.fast s.lawEnd else .next s

end Sys2Proof.Machine
end

