-- ==== Sys2Proof/Machine/Meter.lean ====
section
/-! DEFINITION. The limit meter, the windows, the bounds of the effective treasury (R292 to R300), the measured values of a data epoch
(R258) and the correction of the meter by the feed converters (R295). -/

namespace Sys2Proof.Machine

/-- The sum of a list of rationals. -/
def sumR (l : List Rat) : Rat := l.foldl (· + ·) 0
/-- The sum of a list of integers. -/
def sumI (l : List Int) : Int := l.foldl (· + ·) 0
/-- The sum of a list of naturals. -/
def sumN (l : List Nat) : Nat := l.foldl (· + ·) 0

/-! ### Conversion between output and input (R294, R297) -/

/-- Entry i of η; a code of 0, which no efficiency has, is taken as 1 (notes/assumptions/3.md). -/
def State.etaCode (s : State) (i : Nat) : Nat := max 1 (s.otp.eta.getD i 65535)

/-- η at an output current in mA: linear between entries 150 A apart, clamped at the ends (R294). -/
def State.eta (s : State) (iOut : Int) : Rat :=
  let x := iOut.toNat
  let i := x / 150000
  if i ≥ 15 then (s.etaCode 15 : Rat) / 65536
  else
    let a : Rat := s.etaCode i
    let b : Rat := s.etaCode (i + 1)
    (a + (b - a) * ((x % 150000 : Nat) : Rat) / 150000) / 65536

/-- k_in over η at the output current of the latest metered epoch. -/
def State.inFactor (s : State) : Rat := s.limits.kIn / s.eta s.limits.iOut

/-- In(x) and Out(y) of R297: output to input power and back, with the latest metered epoch's I_OUT. -/
def State.inOf (s : State) (x : Rat) : Rat := x * s.inFactor
def State.outOf (s : State) (y : Rat) : Rat := y * s.eta s.limits.iOut / s.limits.kIn

/-! ### Windows (R296 to R298) -/

def winLen (w : Nat) : Nat := [5, 500, 50000].getD w 5
def winSpread (w : Nat) : Nat := [1, 50, 5000].getD w 1

/-- L_w in input mW (R296). -/
def State.winLimit (s : State) (w : Nat) : Rat :=
  let r := s.winReg w
  let p : Rat := ((fld r 27 16 * 1000 : Nat) : Rat)
  let c := fld r 10 0
  if c = 0 then p else min p ((c : Rat) * s.limits.vIn)

/-- What an epoch counts in a window: its P_IN, or max(L_w, last metered P_IN) where the meter has none (R298). -/
def State.winEpoch (s : State) (l : Rat) (e : Option Rat) : Rat :=
  match e with
  | some p => p
  | none => max l s.limits.pinLast

/-- The sum of the latest n epochs of the meter's history in a window. -/
def State.winSum (s : State) (w n : Nat) : Rat :=
  let l := s.winLimit w
  sumR ((s.limits.pinHist.take n).map (s.winEpoch l)) + ((n - s.limits.pinHist.length : Nat) : Rat) * s.winEpoch l none

/-- C_w of a commit whose last metered epoch heads the history (R297). -/
def State.winCeil (s : State) (w : Nat) : Rat :=
  let l := s.winLimit w
  let last := s.winEpoch l (s.limits.pinHist.getD 0 none)
  let phat := max last (s.inOf s.limits.tEff)
  let b := l * (winLen w : Rat) - s.winSum w (winLen w - 2) - phat - l
  if b ≥ 0 then l + b / (winSpread w : Rat) else l + b

/-! ### The effective treasury (R263, R292, R299, R301) -/

/-- RAMP_UP × 2 µs and RAMP_DN × 2 µs, mW. -/
def State.rampUp (s : State) : Rat := ((fld s.limits.ramp 31 22 * 2000 : Nat) : Rat)
def State.rampDn (s : State) : Rat := ((fld s.limits.ramp 21 12 * 2000 : Nat) : Rat)
def State.rampTol (s : State) : Rat := ((fld s.limits.ramp 11 0 * 1000 : Nat) : Rat)

/-- The bounds of R292 other than UL_TREASURY, with their BIND codes, in output mW. -/
def State.bounds (s : State) : List (Nat × Rat) :=
  ((List.range 3).map fun w => (w + 1, s.outOf (s.winCeil w)))
  ++ (if s.limits.govOn then [(4, s.outOf (s.limits.pG + s.rampUp))] else [])
  ++ (if s.limits.metered && decide (s.limits.iOut ≥ 1000) then
      [(5, ((fld s.limits.ctrl 11 0 * 1000 : Nat) : Rat) * s.limits.pOut / (s.limits.iOut : Rat))] else [])

/-- The lesser of two bounds, the lower code of equals. -/
def lesserBound (a b : Nat × Rat) : Nat × Rat := if b.2 < a.2 then b else a

/-- The effective treasury in 50 µW codes, with BIND and the ceiling that is not UL_TREASURY (R263, R292, R333); a policy treasury stands
in place of UL_TREASURY where it is lower (R447). -/
def State.treasury (s : State) : Nat × Int × Rat :=
  let t : Nat × Rat := (0, if s.policy.treas = 0 then (s.ledger.treasury.toNat : Rat)
    else min (s.ledger.treasury.toNat : Rat) (s.policy.treas : Rat))
  let r := s.bounds.foldl lesserBound t
  let c := match s.bounds with
    | [] => t
    | b :: l => l.foldl lesserBound b
  (r.1, max 0 (roundEven (r.2 * 20)), c.2)

/-! ### The measured values of an epoch (R258, R293) -/

/-- The valid values of a list of latches. -/
def validV (l : List (Option Int × Option Int)) : List Int := l.filterMap (·.1)
def validI (l : List (Option Int × Option Int)) : List Int := l.filterMap (·.2)
def validVI (l : List (Option Int × Option Int)) : List Int :=
  l.filterMap fun e => match e with
    | (some v, some i) => some (v * i)
    | _ => none

/-- The mean of integers over a divisor, ties to even; none of an empty list. -/
def meanOf (l : List Int) (d : Nat) : Option Int := if l.isEmpty then none else some (divEven (sumI l) (d * l.length))

/-- A domain's means of the epoch just ended, pushed before the earlier ones, and its part of P_OUT and I_OUT (R258, R293). P_MEAS is in
50 µW codes: 1/64 mV × 1 mA is 1/3,200 of one. -/
def DomAcct.measure (l : List (Option Int × Option Int)) (x : DomAcct) : DomAcct :=
  let v := meanOf (validV l) 1
  let i := meanOf (validI l) 1
  let p := validVI l
  { x with
    hist := ((x.vMeasE, x.iMeasE, x.pMeasE) :: x.hist).take 4
    vMeasE := v
    iMeasE := i
    pMeasE := meanOf p 3200
    vMeas := if v.isSome then v else x.vMeas
    pOut := if p.isEmpty then x.pOut else (sumI p : Rat) / ((64000 * p.length : Nat) : Rat)
    iOut := if (validI l).isEmpty then x.iOut else (sumI (validI l) : Rat) / ((validI l).length : Rat) }

/-- The meter of the epoch that a commit ends (R293, R300, R304): the means of every domain, P_IN into the windows, the runs over a
limit, and the epochs outside the governor's tolerance. -/
def State.meterEpoch (s : State) : State :=
  let s1 := s.forEach allDoms fun s d =>
    let l := (s.dom d).latches
    let ok := l.all fun e => e.1.isSome
    (s.updAcct d (DomAcct.measure l)).updDom d fun x => { x with
      latches := []
      vfbOk := if ok && !l.isEmpty then incSat 16 x.vfbOk else 0 }
  let pOut : Int := roundEven (sumR (allDoms.map fun d => (s1.acct d).pOut))
  let iOut : Int := roundEven (sumR (allDoms.map fun d => (s1.acct d).iOut))
  let pin : Rat := (roundEven ((pOut : Rat) * s1.limits.kIn / s1.eta iOut) : Int)
  let lim := { s1.limits with
    pOut := pOut
    iOut := iOut
    metered := true
    pinHist := (some pin :: s1.limits.pinHist).take 50000
    pinLast := pin
    pvSum := if s1.limits.vIn = 0 then s1.limits.pvSum else s1.limits.pvSum + pin / s1.limits.vIn
    pvN := if s1.limits.vIn = 0 then s1.limits.pvN else s1.limits.pvN + 1
    violCnt := if s1.limits.govOn && decide ((pin - s1.limits.pGPrev).abs > s1.rampTol) then incSat 255 s1.limits.violCnt
      else s1.limits.violCnt }
  (List.range 3).foldl (fun s w =>
    let overs := decide (s.winSum w (winLen w) > s.winLimit w * (winLen w : Rat))
    if overs then
      let s2 := { s with limits := { s.limits with
          overs := s.limits.overs.modify 0 w (incSat 255)
          overRun := if s.limits.overRun.contains w then s.limits.overRun else s.limits.overRun ++ [w] } }
      if s.limits.overRun.contains w then s2 else s2.raise 30 w
    else { s with limits := { s.limits with overRun := s.limits.overRun.filter (· != w) } }) { s1 with limits := lim }

/-- Epochs that passed without a meter value (R298). -/
def State.unmetered (s : State) (n : Nat) : State :=
  { s with limits := { s.limits with
      metered := false
      pinHist := (List.replicate (min n 50000) none ++ s.limits.pinHist).take 50000 } }

/-! ### k_in (R295) -/

/-- The four readings of a round against the meter, and what follows of them. -/
def State.kInStep (s : State) (total mean : Rat) : State :=
  let rho := total / mean
  if (rho - 1).abs ≤ 1 / 10 then
    let k := s.limits.kIn + s.limits.kIn * (rho - 1) / 16
    { s with limits := { s.limits with
        kIn := max (9 / 10) (min (11 / 10) k)
        meterBad := 0
        meterRaised := false } }
  else
    let s1 := { s with limits := { s.limits with meterBad := incSat 3 s.limits.meterBad } }
    if s1.limits.meterBad ≥ 3 && !s1.limits.meterRaised then
      ({ s1 with limits := { s1.limits with meterRaised := true } }).raise 29 0
    else s1

/-- A 50-epoch round of the meter ends, and the next one's readings begin (R295, R505). -/
def State.kInRound (s : State) : State :=
  { s with limits := { s.limits with
      pvMean := if s.limits.pvN = 50 then some (s.limits.pvSum / 50) else none
      pvSum := 0
      pvN := 0
      ioutRd := []
      kBad := false } }

/-- K_IN_UPDATE: the four current readings of a 50-epoch round are in, in 10 mA against the mean in A (R295, R505). A round with a failed read, or without 50 metered
epochs, makes no update; where the mean is 0 the manual gives no quotient, and none is made. -/
def execKInUpdate (s : State) : Out :=
  let l := s.limits
  match l.pvMean with
  | none => .next s
  | some m =>
    if m = 0 || l.kBad || !(List.range 4).all fun k => l.ioutRd.any (·.1 == k) then .next s
    else
      let total : Rat := (sumN ((List.range 4).map fun k => l.ioutRd.get 0 k) : Rat) / 100
      let s1 := s.kInStep total m
      s.fast { s1 with limits := { s1.limits with pvMean := none, ioutRd := [] } }

end Sys2Proof.Machine
end

