-- ==== Sys2Proof/Machine/Hints.lean ====
section
/-! DEFINITION. Hints (R38, R39, R270 to R276, R491): the port and the FIFO of each tile, packets and their checks, the states of a hint
at each commit, and what hints ask of the engine, the cells and the feed converters. -/

namespace Sys2Proof.Machine

/-! ### The port and the FIFO (R38, R39, R491) -/

/-- Places of a hint FIFO. -/
def hintFifoDepth : Nat := 8

/-- A word enters the FIFO, unless the drop of R491 is discarding up to the next end mark. -/
def Tile.pushHint (w : BitVec 64) (last : Bool) (x : Tile) : Tile :=
  if x.dropping then { x with dropping := !last } else { x with fifo := x.fifo ++ [(w, last)] }

/-- HINT_WORD: a word from a tile's scheduler. A full FIFO leaves it held at the port; while one is held the port offers no place, and
nothing is taken (R39). -/
def execHintWord (t : TileIx) (w : BitVec 64) (last : Bool) (s : State) : Out :=
  let x := s.tile t
  if x.held.isSome then .next s
  else if x.fifo.length ≥ hintFifoDepth && !x.dropping then s.fast (s.updTile t fun x => { x with held := some (w, last) })
  else s.fast (s.updTile t (Tile.pushHint w last))

/-- HINT_PORT_ROOM: a place comes free and the held word enters (R39). -/
def execHintPortRoom (t : TileIx) (s : State) : Out :=
  let x := s.tile t
  match x.held with
  | none => .next s
  | some (w, last) =>
    if x.fifo.length < hintFifoDepth || x.dropping then s.fast (s.updTile t fun x => ({ x with held := none }).pushHint w last)
    else .next s

/-- The words up to and including the last end mark. -/
def wholePart (l : List (BitVec 64 × Bool)) : List (BitVec 64 × Bool) := (l.reverse.dropWhile fun e => !e.2).reverse

/-- The drop of R491: the incomplete packet goes, and the words that follow up to the next end mark. -/
def Tile.dropPacket (x : Tile) : Tile :=
  match x.fifo.getLast? with
  | some (_, false) => { x with fifo := wholePart x.fifo, dropping := true }
  | _ => x

/-- Cut a list of words into packets at its end marks. -/
def cutPackets : List (BitVec 64) → List (BitVec 64 × Bool) → List (List (BitVec 64))
  | _, [] => []
  | acc, (w, true) :: t => (acc ++ [w]) :: cutPackets [] t
  | acc, (w, false) :: t => cutPackets (acc ++ [w]) t

/-! ### Packets (R270, R271) -/

def pktKind (w : BitVec 64) : Nat := bits w.toNat 63 60
def pktClass (w : BitVec 64) : Nat := bits w.toNat 59 56
def pktLevel (w : BitVec 64) : Nat := bits w.toNat 55 52
def pktStart (w : BitVec 64) : Nat := bits w.toNat 51 48
def pktDur (w : BitVec 64) : Nat := bits w.toNat 47 36
def pktTag (w : BitVec 64) : Nat := bits w.toNat 35 24

/-- A packet that the ledger keeps (R271). -/
def pktOk (l : List (BitVec 64)) : Bool :=
  match l with
  | w :: rest =>
    bits w.toNat 23 0 == 0 &&
    (match pktKind w with
      | 1 => rest.isEmpty && pktLevel w == 0 && pktStart w == 0 && pktDur w == 0
      | 2 => pktDur w != 0 && (match rest with
          | [] => true
          | [x] => bits x.toNat 47 0 == 0
          | _ => false)
      | 3 => rest.isEmpty && pktClass w == 0 && pktLevel w == 0 && pktStart w == 0 && pktDur w == 0
      | _ => false)
  | [] => false

/-- P_STEP in tile power codes, PRE_LEAD, HOFF_MAX and HOFF_K of UL_HINT_CFG (R286). -/
def State.pStepCodes (s : State) : Nat := 200 * fld s.ledger.hintCfg 11 4
def State.preLead (s : State) : Nat := fld s.ledger.hintCfg 3 0

/-- P_exp of a PHASE packet, tile power codes (R270). -/
def State.pktExp (s : State) (l : List (BitVec 64)) : Nat :=
  let p := match l with
    | [_, x] => bits x.toNat 63 48
    | w :: _ => pktLevel w * s.pStepCodes
    | [] => 0
  min p s.otp.pTileMax

/-- The hint of a PHASE packet with arrival epoch e for a tile whose EST of commit e + 1 is `est` (R272). -/
def State.newHint (s : State) (l : List (BitVec 64)) (e est : Nat) : Hint :=
  let w := l.headD 0
  let p := s.pktExp l
  let flat := decide (p ≤ est)
  { st := if flat then .active else .pending, flat := flat, s := e + pktStart w, begins := e + 2, dur := pktDur w, pExp := p, pBase := est,
    tag := pktTag w, arrive := e, ends := if flat then some (e + 2 + pktDur w) else none }

/-- The effects of a kept packet, which begin at commit e + 2; before READY or without HINT_EN it sets the class alone (R271, R277). -/
def State.pktFx (s : State) (l : List (BitVec 64)) (e est : Nat) : HintFx :=
  let w := l.headD 0
  let on := s.start.ready && wbit s.ledger.ctrl 14
  match pktKind w with
  | 1 => { commit := e + 2, cls := some (pktClass w) }
  | 2 => { commit := e + 2, cls := some (pktClass w), hint := if on then some (s.newHint l e est) else none }
  | _ => { commit := e + 2, endAll := s.start.ready }

/-- Commit n takes the whole packets of a tile, whose arrival epoch is n − 1; a FIFO holding 8 words and no whole packet is dropped
(R271, R491). -/
def State.takePackets (s : State) (n t : Nat) : State :=
  let x := s.tile t
  let ps := cutPackets [] x.fifo
  let good := ps.filter pktOk
  let stalled := ps.isEmpty && decide (x.fifo.length ≥ hintFifoDepth)
  let bad := ps.length - good.length + b2n stalled
  let rest := x.fifo.drop (wholePart x.fifo).length
  let s1 := s.updTile t fun y =>
    let z := { y with fifo := rest, fx := y.fx ++ good.map fun l => s.pktFx l (n - 1) y.est }
    if stalled then z.dropPacket else z
  if bad = 0 then s1 else { s1 with ledger := { s1.ledger with badPkt := min 255 (s1.ledger.badPkt + bad) } }

/-! ### The states of a hint (R272, R276) -/

/-- A hint that still acts. -/
def Hint.live (h : Hint) : Bool := !(h.st == .ended)

/-- A hint that raises demand: pre-positioning or active. -/
def Hint.raises (h : Hint) : Bool := h.st == .pre || h.st == .active

/-- A hint that arms cells and holds the boost (R274, R275). -/
def Hint.arms (h : Hint) : Bool := h.raises && !h.flat
def Tile.wantsArm (x : Tile) : Bool := match x.hint with
  | some h => h.arms
  | none => false

/-- The start threshold of a hint, tile power codes (R272). -/
def Hint.threshold (h : Hint) : Nat := h.pBase + ceilDiv (h.pExp - h.pBase) 2

/-- The state of a hint at commit n, when the corrected estimate of data epoch n − 3 is `est` (R272). -/
def Hint.at_ (lead n est : Nat) (h : Hint) : Hint :=
  let overs (h : Hint) : Hint := match h.ends with
    | some c => if n ≥ c then { h with st := .ended } else h
    | none => h
  match h.st with
  | .ended => h
  | .active => overs h
  | _ =>
    if n ≥ h.arrive + 3 && decide (est ≥ h.threshold) then
      overs { h with st := .active, ends := some (n - 3 + max h.dur 3) }
    else if n ≥ h.s + 7 then { h with st := .ended, ends := some n, expired := true }
    else if h.st = .pending ∧ n ≥ h.begins ∧ n + lead ≥ h.s then { h with st := .pre }
    else h

/-- One packet effect on a tile: its class, then its hint, which replaces one that acts, or the end of it (R268, R276). -/
def Tile.applyFx (f : HintFx) (x : Tile × Nat) : Tile × Nat :=
  let live := match x.1.hint with
    | some h => h.live
    | none => false
  let y := { x.1 with cls := f.cls.getD x.1.cls }
  match f.hint with
  | some h => ({ y with hint := some h }, if live then x.2 + 1 else x.2)
  | none =>
    if f.endAll then ({ y with hint := y.hint.map fun h => { h with st := .ended, ends := some f.commit } }, x.2) else (y, x.2)

/-- The effects due at commit n, in FIFO order, and the number of hints replaced. -/
def Tile.dueFx (n : Nat) (x : Tile) : Tile × Nat :=
  let due := x.fx.filter fun f => decide (f.commit ≤ n)
  due.foldl (fun y f => Tile.applyFx f y) ({ x with fx := x.fx.filter fun f => !decide (f.commit ≤ n) }, 0)

/-- A tile's hint at commit n: effects that begin, then the states of R272. -/
def State.hintCommit (s : State) (n t : Nat) : State :=
  let r := (s.tile t).dueFx n
  let lead := s.preLead
  let s1 := s.updTile t fun _ => { r.1 with hint := r.1.hint.map (Hint.at_ lead n r.1.est) }
  if r.2 = 0 then s1 else { s1 with ledger := { s1.ledger with replaced := min 255 (s1.ledger.replaced + r.2) } }

/-- Every hint ends: HINT_EN cleared, or a stop sequence (R276, R354). -/
def Tile.clearHints (x : Tile) : Tile :=
  { x with hint := x.hint.map fun h => { h with st := .ended }, fx := x.fx.map fun f => { f with hint := none, endAll := false } }

/-- HINT_EXPIRED: an expired hint is counted and posted (R272). -/
def execHintExpired (t : TileIx) (s : State) : Out :=
  match (s.tile t).hint with
  | some h =>
    if h.expired then
      let s1 := s.updTile t fun x => { x with hint := none }
      let s2 := { s1 with ledger := { s1.ledger with expired := incSat 255 s1.ledger.expired } }
      s.fast (s2.pushEvent (evHintExpired t h.tag h.s))
    else .next s
  | none => .next s

/-- HINT_END: a hint that has ended leaves its tile; the commit that ended it released its cells (R272, R274). -/
def execHintEnd (t : TileIx) (s : State) : Out :=
  match (s.tile t).hint with
  | some h => if h.st = .ended ∧ h.expired = false then s.fast (s.updTile t fun x => { x with hint := none }) else .next s
  | none => .next s

/-! ### H_OFF (R273) -/

/-- H_OFF of a domain at a commit, 1/64 mV: Σ (P_exp − P_base) × 50 µW / V_SET × HOFF_K, at most HOFF_MAX. -/
def State.hOff (s : State) (d : Nat) : Int :=
  let x := s.dom d
  if !isTD d || x.st ≠ .run || !wbit s.ledger.ctrl 14 || x.vset = 0 then 0
  else
    let sum := sumI ((domTiles d).map fun t => match (s.tile t).hint with
      | some h => if h.st = .pre ∧ h.flat = false then (h.pExp : Int) - h.pBase else 0
      | none => 0)
    let k := fld s.ledger.hintCfg 19 12
    min (64 * (fld s.ledger.hintCfg 25 20 : Nat)) (divEven (sum * k * 64) (1000 * x.vset))

/-! ### ARM orders (R109, R274) -/

/-- An ARM payload without its GEN (R109). -/
def armPayload (d : Nat) (arm : Bool) (mask : Nat) : Nat := packN [(55, 50, d), (49, 49, b2n arm), (31, 0, mask)]

/-- Queue an ARM or release for every chain of a domain. -/
def State.queueArm (s : State) (d : Nat) (arm : Bool) (mask : Nat) : State :=
  s.forEach (List.range 8) fun s c =>
    if (chainDoms c).contains d ∨ (s.roleCells d).any (fun i => chainOf i == c) then
      s.updChain c fun x => { x with armQ := x.armQ ++ [armPayload d arm mask] }
    else s

/-- The MASK of tiles of a domain. -/
def tileMask (ts : List Nat) : Nat := ofBits (ts.map tileLocal)

/-- The ARM frames of a commit for one tile domain (R274). A domain that enters RUN, or into which a loan has completed, is sent its armed
tiles again. -/
def State.armCommit (s : State) (d : Nat) : State :=
  if (s.dom d).st ≠ .run then
    let off := (s.dom d).st == .off
    let s1 := s.updAcct d fun a => { a with wasRun := false }
    if off then s1.forEach (domTiles d) fun s t => s.updTile t fun x => { x with armed := false } else s1
  else
    let now := (domTiles d).filter fun t => (s.tile t).wantsArm
    let old := (domTiles d).filter fun t => (s.tile t).armed
    let again := !(s.acct d).wasRun || (s.acct d).rearm
    let fresh := if again then now else now.filter fun t => !old.contains t
    let gone := old.filter fun t => !now.contains t
    let s1 := if fresh.isEmpty then s else s.queueArm d true (tileMask fresh)
    let s2 := if gone.isEmpty then s1
      else
        let s3 := s1.queueArm d false (tileMask gone)
        if now.isEmpty then s3 else s3.queueArm d true (tileMask now)
    let s4 := s2.forEach (domTiles d) fun s t => s.updTile t fun x => { x with armed := now.contains t }
    s4.updAcct d fun a => { a with wasRun := true, rearm := false }

/-! ### The VIN_PKG boost (R275, R504) -/

/-- The tiles' hints that act and expect more than their base. -/
def State.boostHints (s : State) : List Hint :=
  s.tiles.filterMap fun e => match e.2.hint with
    | some h => if h.live && !h.flat then some h else none
    | none => none

/-- The boost at a commit: requested when the announced power reaches VIN_TRIG, and counting its 8 commits once the last such hint has
ended (R275). -/
def State.boostCommit (s : State) : State :=
  let hs := s.boostHints
  let sum := sumN ((hs.filter fun h => h.st == .pending || h.st == .pre).map fun h => h.pExp - h.pBase)
  let trig := fld s.ledger.ctrl 31 24
  let want := decide (fld s.ledger.hintCfg 31 26 ≠ 0) && decide (trig ≠ 0) && decide (sum ≥ trig * 80000)
  if want then { s with
      ledger := { s.ledger with vinBoost := true, boostEnd := none }
      avs := { s.avs with boost := true } }
  else if s.ledger.vinBoost then
    { s with
      ledger := { s.ledger with boostEnd := if hs.isEmpty then (match s.ledger.boostEnd with
        | none => some 8
        | some k => some (k - 1)) else none }
      avs := { s.avs with boost := true } }
  else { s with avs := { s.avs with boost := false } }

/-- VIN_BOOST_END: 8 commits after the last boosting hint ended (R275). -/
def execVinBoostEnd (s : State) : Out :=
  if s.ledger.vinBoost ∧ s.ledger.boostEnd = some 0 then
    s.fast { s with
      ledger := { s.ledger with vinBoost := false, boostEnd := none }
      avs := { s.avs with boost := false } }
  else .next s

end Sys2Proof.Machine
end

