-- ==== Sys2Proof/Machine/Ledger.lean ====
section
/-! DEFINITION. The ledger (spec/06) and the quotas (spec/07): counter records and the estimator (R253 to R257), the residual (R259),
demands, purses and allowances (R263 to R269), quotas, the fast cut, the governor, burn and shift holds (R301 to R311), the calibration of
cell currents (R261), freeze and capture (R249, R290). -/

namespace Sys2Proof.Machine

/-! ### Counter records and the estimator (R40, R253 to R257) -/

/-- Counter k of a record. -/
def counter (r : BitVec 512) (k : Nat) : Nat := r.toNat / 2 ^ (16 * k) % 65536

/-- A record holds a saturated counter (R253). -/
def recSaturated (r : BitVec 512) : Bool := (List.range 32).any fun k => counter r k == 65535

/-- P_dyn of a record (R255). -/
def State.pDyn (s : State) (r : BitVec 512) : Nat :=
  (max 0 (divEven (sumI ((List.range 30).map fun k => s.otp.weight.getD k 0 * (counter r k : Int))) 1600)).toNat

/-- Linear interpolation in a 16-entry table of unsigned factors, clamped at its ends (R256). -/
def interp16 (tab : List Nat) (x base : Int) (step : Nat) : Nat :=
  if x ≤ base then tab.getD 0 0
  else
    let y := (x - base).toNat
    let i := y / step
    if i ≥ 15 then tab.getD 15 0
    else
      let a : Int := tab.getD i 0
      let b : Int := tab.getD (i + 1) 0
      (divEven (a * step + (b - a) * ((y % step : Nat) : Int)) step).toNat

/-- P_stat of a tile: its leakage at its temperature and its domain's voltage (R256). -/
def State.pStat (s : State) (t : Nat) : Nat :=
  let a := s.acct (tileDom t)
  let temp : Int := (s.tile t).diode.getD 8000
  let v : Int := match a.vMeasE with
    | some x => x
    | none => a.vMeas.getD 64000
  let f := s.otp.l0.getD t 0 * interp16 s.otp.fT temp 0 640 * interp16 s.otp.fV v 25600 2560
  (divEven (f : Int) (2 ^ 28)).toNat

/-- The estimate of one tile for the data epoch just ended, from the record that arrived or the one before it (R40, R254, R255). -/
def State.estimate (s : State) (t : Nat) : Tile :=
  let x := s.tile t
  if x.unpowered then
    { x with arrived := none, lateRun := 0, silent := false, pNew := 0, statNew := s.pStat t, satNew := false, lateNew := false, offNew := true }
  else
    let late := x.arrived.isNone
    let r := x.arrived.getD x.lastRec
    let sat := recSaturated r
    let stat := s.pStat t
    { x with
      arrived := none
      lastRec := r
      lateRun := if late then incSat 65535 x.lateRun else 0
      silent := late && x.silent
      pNew := if sat then s.otp.pTileMax else min (s.pDyn r + stat) s.otp.pTileMax
      statNew := stat
      satNew := sat
      lateNew := late
      offNew := false }

/-- LATE_RECORD_CUTOFF: ccyc 1,600 of an epoch: late records are replaced and the estimator runs (R40, R257); the throttle levels and the
pace entries that govern the next commit are taken (R322, R347). -/
def State.cutoff1600 (s : State) : State :=
  let tiles := Tab.ofFn (List.range 1024) s.estimate
  let late := (tiles.filter fun e => e.2.lateNew).length
  let sat := (tiles.filter fun e => e.2.satNew).length
  { s with
    tiles := tiles
    ledger := { s.ledger with
      recCut := true
      lateNew := late
      recLate := min 65535 (s.ledger.recLate + late)
      cntSat := min 255 (s.ledger.cntSat + sat) }
    diodes := s.diodes.map fun (e : Nat × Diode) => (e.1, { e.2 with latched := e.2.level })
    pace := { s.pace with
      latched := s.pace.entries
      latchOk := true } }

/-- The cut-off comes once in an epoch. -/
def execLateRecordCutoff (s : State) : Out := if s.ledger.recCut || !s.ledger.running then .next s else s.fast s.cutoff1600

/-- COUNTER_RECORD: a tile's record of the last epoch. One that comes after the cut-off is discarded, as is one from a tile that was in OFF
or START (R38, R40). -/
def execCounterRecord (t : TileIx) (counters : BitVec 512) (s : State) : Out :=
  if s.ledger.recCut || (s.tile t).unpowered then .next s
  else s.fast (s.updTile t fun x => { x with arrived := some counters })

/-- TILE_SILENT: 16 late records in a row, raised once (R254). -/
def execTileSilent (t : TileIx) (s : State) : Out :=
  let x := s.tile t
  if x.lateRun ≥ 16 ∧ x.silent = false then s.fast ((s.updTile t fun x => { x with silent := true }).raise 25 t) else .next s

/-- EST_RESID: the limit on k_d has acted in 16 epochs in a row, raised once (R259). -/
def execEstResid (d : DomIx) (s : State) : Out :=
  let a := s.acct d
  if a.clampRun ≥ 16 ∧ a.resRaised = false then s.fast ((s.updAcct d fun a => { a with resRaised := true }).raise 26 d) else .next s

/-! ### Accounting a data epoch (R250, R257 to R259) -/

/-- The estimates that a commit accounts are those formed in the epoch before the last (R257). -/
def Tile.shift (x : Tile) : Tile :=
  { x with pRdy := x.pNew, statRdy := x.statNew, satRdy := x.satNew, lateRdy := x.lateNew, offRdy := x.offNew }

/-- Ordered burn power of a tile in the data epoch of a commit, tile power codes (R303). -/
def Tile.burnData (x : Tile) : Nat := x.burnHist.getD 2 0

/-- The quota part in force in the data epoch (R265, R307). -/
def Tile.quotaData (x : Tile) : Nat := x.qHist.getD 2 0

/-- RES_EN, RES_SH, SD_MARGIN, CAL_UPD of UL_LEDG_CTRL (R279). -/
def State.resEn (s : State) : Bool := wbit s.ledger.ctrl 13
def State.resSh (s : State) : Nat := fld s.ledger.ctrl 19 17
def State.sdMargin (s : State) : Nat := fld s.ledger.ctrl 23 20

/-- k_d as a numerator over P_est: the sum it multiplies, and whether its limit acts (R259). -/
def gainOf (resEn : Bool) (pEst : Nat) (r : Int) : Int × Nat × Bool :=
  if !resEn || decide (pEst < 20000) then (1, 1, false)
  else
    let n : Int := (pEst : Int) + r
    if 4 * n < 3 * (pEst : Int) then (3, 4, true)
    else if 4 * n > 5 * (pEst : Int) then (5, 4, true)
    else (n, pEst, false)

/-- Units of 0.1 pJ in which the energy tallies wrap: 2^64 µJ (R258). -/
def energyWrap : Int := 2 ^ 64 * 10000000

/-- One tile domain's part of a commit: residual, corrected estimates and measured values (R258, R259). -/
def State.accountTile (s : State) (d : Nat) : State :=
  let ts := domTiles d
  let a := s.acct d
  let m := (a.hist.getD 0 (none, none, none)).2.2
  let pEst := sumN (ts.map fun t => (s.tile t).pRdy + (s.tile t).burnData)
  let r : Int := match m with
    | some p => if s.resEn && decide (pEst ≥ 20000) then a.resid + divEven (p - pEst - a.resid) (2 ^ s.resSh) else a.resid
    | none => a.resid
  let k := gainOf s.resEn pEst r
  let s1 := s.forEach ts fun s t => s.updTile t fun x =>
    let p := if x.offRdy then 0 else min (divEven ((x.pRdy : Int) * k.1) k.2.1).toNat s.otp.pTileMax
    { x with est := p, stat := x.statRdy, cntSat := x.satRdy, recLate := x.lateRdy }
  let total := sumN (ts.map fun t => (s1.tile t).est)
  s1.updAcct d fun a => { a with
    pEst := pEst
    resid := r
    resClamp := k.2.2
    clampRun := if k.2.2 then incSat 65535 a.clampRun else 0
    resRaised := k.2.2 && a.resRaised
    pMeas := m.getD total }

/-- A support domain keeps its last P_MEAS while no latch is valid (R258). -/
def State.accountSupport (s : State) (d : Nat) : State :=
  s.updAcct d fun a => { a with pMeas := ((a.hist.getD 0 (none, none, none)).2.2).getD a.pMeas }

/-- V_MEAS and I_DOM of the data epoch and the energy tally. Where no latch was valid the manual gives neither mean: free values. -/
def State.accountMeans (s : State) (d : Nat) : State :=
  let fv := (Config.freeValue (s.freeCtr + 2 * d)).toNat
  let fi := (Config.freeValue (s.freeCtr + 2 * d + 1)).toNat
  s.updAcct d fun a =>
    let h := a.hist.getD 0 (none, none, none)
    { a with
      vRep := h.1.getD ((fv % 65536 : Nat) : Int)
      iRep := h.2.1.getD ((fi % 256000 : Nat) : Int)
      energy := (((a.energy : Int) + a.pMeas * 1000) % energyWrap).toNat }

/-- The accounting of data epoch n − 3 (R250, R257). -/
def State.account (s : State) : State :=
  let s1 := s.forEach tds State.accountTile
  let s2 := s1.forEach sds State.accountSupport
  let s3 := s2.forEach allDoms State.accountMeans
  let mw : Int := roundEven ((sumI (allDoms.map fun d => (s3.acct d).pMeas) : Rat) / 20)
  { s3 with
    freeCtr := s3.freeCtr + 96
    ledger := { s3.ledger with
      late := s3.ledger.lateRdy
      chipPwr := satU 32 mw } }

/-! ### Demands (R265) -/

/-- Floor and weight of a tile's class (R266, R268). -/
def State.floorOf (s : State) (t : Nat) : Nat := fld (s.classReg (s.tile t).cls) 15 0
def State.weightOf (s : State) (t : Nat) : Nat := fld (s.classReg (s.tile t).cls) 31 24

/-- round(P' × 64 / (64 − q)), for q below 64. -/
def unpaused (p q : Nat) : Nat := (divEven ((p * 64 : Nat) : Int) (64 - q)).toNat

/-- The demand of a tile; the tiles have an estimate from commit 3 after a start of the ledger on (R265, R277, R278). -/
def State.demandOf (s : State) (t : Nat) : Nat :=
  let x := s.tile t
  let q := x.quotaData
  let base := if s.ledger.sinceStart < 4 then s.floorOf t
    else if q < 64 then min s.otp.pTileMax (unpaused x.est q)
    else x.demand
  match x.hint with
  | some h => if h.raises then max base h.pExp else base
  | none => base

/-! ### The split (R266, R267, R269) -/

/-- A tile as the split sees it: index, demand, weight and floor, codes. -/
structure Claim where
  tile   : Nat
  demand : Nat
  weight : Nat
  floor  : Nat
  deriving DecidableEq, Repr

/-- The least λ at which the bounded shares reach a pool: `l` holds (bound, weight) in rising order of bound / weight, `acc` the bounds
already reached and `w` the weights left. -/
def fillLevel (pool : Nat) : List (Nat × Nat) → Nat → Nat → Rat
  | [], _, _ => 0
  | (b, wt) :: t, acc, w =>
    let r : Rat := (b : Rat) / (wt : Rat)
    if (acc : Rat) + r * (w : Rat) ≥ (pool : Rat) then ((pool : Rat) - (acc : Rat)) / (w : Rat)
    else fillLevel pool t (acc + b) (w - wt)

/-- Give `n` codes one each to the entries still below their bound, in order. -/
def giveOne : Nat → List (Nat × Nat × Nat) → List (Nat × Nat)
  | _, [] => []
  | n, (t, x, b) :: l => if n > 0 ∧ x < b then (t, x + 1) :: giveOne (n - 1) l else (t, x) :: giveOne n l

/-- fill of R266 over entries (tile, weight, bound): the shares and the pool left. -/
def fill (l : List (Nat × Nat × Nat)) (pool : Nat) : List (Nat × Nat) × Nat :=
  let part := l.filter fun e => decide (e.2.1 > 0)
  let total := sumN (part.map (·.2.2))
  if total ≤ pool then (l.map fun e => (e.1, if e.2.1 > 0 then e.2.2 else 0), pool - total)
  else
    let byRatio := sortBy (fun a b => decide (a.1 * b.2 ≤ b.1 * a.2)) (part.map fun e => (e.2.2, e.2.1))
    let lam := fillLevel pool byRatio 0 (sumN (part.map (·.2.1)))
    let xs := l.map fun e => (e.1, if e.2.1 > 0 then min e.2.2 (lam * (e.2.1 : Rat)).floor.toNat else 0, if e.2.1 > 0 then e.2.2 else 0)
    (giveOne (pool - sumN (xs.map (·.2.1))) xs, 0)

/-- The split of R266: allowances, and whether the floors did not fit. Fixed-frequency mode skips stage 2 (R310). -/
def split (pMax : Nat) (fixed : Bool) (cs : List Claim) (total : Nat) : List (Nat × Nat) × Bool :=
  let fsum := sumN (cs.map (·.floor))
  if total < fsum then (cs.map fun c => (c.tile, c.floor * total / fsum), true)
  else
    let e (c : Claim) : Nat := c.demand - c.floor
    let r1 := fill (cs.map fun c => (c.tile, c.weight, e c)) (total - fsum)
    let r2 := if r1.2 > 0 && !fixed then (fill (cs.map fun c => (c.tile, c.weight, pMax - c.floor - e c)) r1.2).1
      else cs.map fun c => (c.tile, 0)
    let s1 := r1.1.zip r2
    ((cs.zip s1).map fun p => (p.1.tile, p.1.floor + p.2.1.2 + p.2.2.2), false)

/-- The limit of a tile domain's purse, codes: its cap and the capacity of its role (R267). -/
def State.purseLimit (s : State) (d : Nat) : Nat :=
  let cap := fld (s.capReg d) 19 0
  let capacity := 6 * (s.roleCells d).length * (s.dom d).vset
  if cap = 0 then capacity else min (20 * cap) capacity

/-- Rounds of R267: domains over their limit are fixed at it, and the rest is split again. -/
def capRounds (pMax : Nat) (fixed : Bool) (lim : Nat → Nat) : Nat → List (Nat × List Claim) → Nat → List (Nat × Nat) → List (Nat × Nat)
  | 0, _, _, acc => acc
  | n + 1, doms, total, acc =>
    let r := (split pMax fixed (sortBy (fun a b => decide (a.tile ≤ b.tile)) (doms.flatMap (·.2))) total).1
    let purse (e : Nat × List Claim) : Nat := sumN ((r.filter fun x => tileDom x.1 == e.1).map (·.2))
    let overs := doms.filter fun e => decide (purse e > lim e.1)
    if overs.isEmpty then acc ++ r
    else
      let fixedA := overs.flatMap fun e => (split pMax fixed e.2 (lim e.1)).1
      capRounds pMax fixed lim n (doms.filter fun e => !overs.any fun o => o.1 == e.1) (total - sumN (overs.map fun e => lim e.1)) (acc ++ fixedA)

/-- The purse of a support domain: P_MEAS and its margin, rounded up (R264). -/
def State.supportPurse (s : State) (d : Nat) : Nat :=
  let p := (s.acct d).pMeas * (16 + s.sdMargin : Nat)
  (max 0 (-((-p) / 16))).toNat

/-- Treasury, purses, demands and allowances of a commit (R263 to R269, R292). -/
def State.splitCommit (s : State) : State :=
  let tr := s.treasury
  let s1 := s.forEach sds fun s d => s.updAcct d fun a => { a with purse := s.supportPurse d }
  let tTd := (tr.2.1 - (sumN (sds.map fun d => (s1.acct d).purse) : Nat)).toNat
  let demands := Tab.ofFn (List.range 1024) fun t => s1.demandOf t
  let claim (t : Nat) : Claim := { tile := t, demand := demands.get 0 t, weight := s1.weightOf t, floor := s1.floorOf t }
  let lims := Tab.ofFn tds fun d => s1.purseLimit d
  let allow : Tab Nat := capRounds s.otp.pTileMax s1.limits.fixed (fun d => lims.get 0 d) 33 (tds.map fun d => (d, (domTiles d).map claim)) tTd []
  let s2 := s1.forEach (List.range 1024) fun s t =>
    let a := allow.get 0 t
    s.updTile t fun x => { x with demand := demands.get 0 t, allow := a, miss := decide (a < s1.floorOf t), hasEst := decide (s.ledger.sinceStart ≥ 4) }
  let s3 := s2.forEach tds fun s d => s.updAcct d fun a =>
    { a with purse := sumN ((domTiles d).map fun t => (s2.tile t).allow), miss := (domTiles d).any fun t => (s2.tile t).miss }
  let used := sumN (allDoms.map fun d => (s3.acct d).purse)
  { s3 with
    ledger := { s3.ledger with
      tTd := tTd
      slack := tr.2.1.toNat - used }
    limits := { s3.limits with
      tEff := (tr.2.1 : Rat) / 20
      bind := tr.1
      ceil := tr.2.2 } }

/-- FLOOR_MISS: the domains that miss at this commit, raised with the lowest (R269). -/
def State.floorMissCommit (s : State) : State :=
  let l := tds.filter fun d => (s.acct d).miss
  match l with
  | [] => s
  | d :: _ =>
    ({ s with ledger := { s.ledger with floorMiss := s.ledger.floorMiss ||| BitVec.ofNat 32 (ofBits l) } }).raise 28 d

/-! ### Quotas (R306 to R309, R320, R323, R324) -/

/-- The tile domains' share of the metered P_OUT, tile power codes (R308). -/
def State.pTd (s : State) : Nat := (max 0 (roundEven (sumR (tds.map fun d => (s.acct d).pOut) * 20))).toNat

/-- q_cut of a commit (R308). -/
def State.fastCut (s : State) : Nat :=
  let p := s.pTd
  let t := s.ledger.tTd
  if wbit s.limits.ctrl 30 && s.limits.metered && decide (16 * p > t * (16 + fld s.limits.ctrl 25 22)) then
    let st := sumN ((List.range 1024).map fun i => (s.tile i).stat)
    if p ≤ st then 63 else min 63 (ceilDiv (64 * (p - t)) (p - st))
  else 0

/-- q_symp of a commit and the entry it comes from (R321 to R323, R327). -/
def State.governing (s : State) : List PaceEntry := if s.pace.latchOk then s.pace.latched else s.pace.entries
def State.sympEntry (s : State) : Option PaceEntry := largestEntry s.governing
def State.qSympOf (s : State) : Nat :=
  if s.paceApply && !(s.pace.st == .solo) then (match s.sympEntry with
    | some e => e.q
    | none => 0) else 0

/-- A tile's domain holds no power (R307). -/
def State.tileOff (s : State) (t : Nat) : Bool := (s.dom (tileDom t)).st == .off

/-- U_t of a commit (R307). -/
def Tile.useOf (x : Tile) : Nat := if x.quotaData < 64 then unpaused x.est x.quotaData else x.unc

/-- q_own of R307. -/
def Tile.qOwn (u : Nat) (x : Tile) : Nat :=
  if u > x.allow ∧ u > x.stat then min 63 (ceilDiv (64 * (u - x.allow)) (u - x.stat)) else 0

/-- The expected draw of a tile under a quota, tile power codes (R307). -/
def Tile.draw (u q : Nat) (x : Tile) : Rat := (x.stat : Rat) + ((u : Rat) - (x.stat : Rat)) * ((64 - q : Nat) : Rat) / 64

/-- A tile's quota at a commit, with what it was made of. -/
structure QuotaRow where
  tile : Nat
  off  : Bool
  u    : Nat
  own  : Nat
  cut  : Nat
  therm : Nat
  base : Nat
  q    : Nat
  e    : Rat
  deriving DecidableEq, Repr

/-- The row of one tile (R307); a stop sequence halts the tiles of every powered domain (R309). -/
def State.quotaRow (s : State) (halt : Bool) (qCut qSymp t : Nat) : QuotaRow :=
  let x := s.tile t
  let u := x.useOf
  if s.tileOff t then { tile := t, off := true, u := u, own := 0, cut := 0, therm := 0, base := 64, q := 64, e := 0 }
  else
    let own := x.qOwn u
    let th := s.qTherm t
    let base := max own (max qCut th)
    let q := if halt then 64 else max base qSymp
    { tile := t, off := false, u := u, own := own, cut := qCut, therm := th, base := base, q := q, e := x.draw u q }

/-- ceil of the mean of q_base over the tiles that qualify, 0 of none (R320). -/
def State.qJob (s : State) (rows : List QuotaRow) : Nat :=
  let l := rows.filter fun r => !r.off && decide (r.u > s.floorOf r.tile) && decide (r.q < 64)
  if l.isEmpty then 0 else ceilDiv (sumN (l.map (·.base))) l.length

/-! ### The governor and burn (R301 to R303) -/

/-- E_IN(n) (R301). -/
def State.eIn (s : State) (rows : List QuotaRow) : Rat :=
  s.inOf ((sumR (rows.map (·.e)) + ((sumI (sds.map fun d => (s.acct d).pMeas) : Int) : Rat)) / 20)

/-- A tile may burn (R302). -/
def State.burnOk (s : State) (r : QuotaRow) : Bool :=
  !r.off && ((s.dom (tileDom r.tile)).st == .run) && decide (r.q ≤ 62) && r.therm == 0 &&
  (match (s.tile r.tile).hint with
    | some h => !h.raises
    | none => true)

/-- Order burn from a list of tiles in turn until a deficit is filled: the tiles with their burn power in tile codes, and what stays
unfilled (R302). -/
def orderBurn (gain : QuotaRow → Rat) (input : Rat → Rat) : List QuotaRow → Rat → List (Nat × Nat) × Rat
  | [], left => ([], left)
  | r :: t, left =>
    if left ≤ 0 then ([], left)
    else
      let g := gain r
      if g ≤ 0 then orderBurn gain input t left
      else
        let o := orderBurn gain input t (left - input (g / 20))
        ((r.tile, (roundEven g).toNat) :: o.1, o.2)

/-- The governor at a commit after READY: the level, and the deficit (R301). -/
def State.governor (s : State) (eIn : Rat) : Rat × Rat :=
  let g := max (s.limits.pG - s.rampDn) (min (s.limits.pG + s.rampUp) eIn)
  (g, g - eIn)

/-- The burn of a commit (R302): the tiles ordered, and whether a deficit stays. -/
def State.burnOf (s : State) (n : Nat) (rows : List QuotaRow) (deficit : Rat) : List (Nat × Nat) × Bool :=
  if deficit ≤ 0 then ([], false)
  else if !wbit s.limits.ctrl 29 then ([], true)
  else
    let k := n % 1024
    let turn := (rows.drop k ++ rows.take k).filter s.burnOk
    let r := orderBurn (fun r => max 0 ((s.otp.pBurn : Rat) - r.e)) s.inOf turn deficit
    (r.1, decide (r.2 > 0))

/-! ### Shift holds (R305) -/

/-- SHIFT_HOLD of every domain, in ascending index, against slack (codes) and room (input mW). -/
def State.shiftHolds (s : State) (slack0 : Nat) (room0 : Rat) : State :=
  (allDoms.foldl (fun (acc : State × Rat × Rat) d =>
    let x := acc.1.dom d
    if x.st ≠ .run ∨ x.vsetEff = qOfVset x.vset then (acc.1.updDom d fun y => { y with shiftHold := false }, acc.2)
    else
      let ss := fld (lawW x.law 1) 7 0
      let dP : Rat := ((s.acct d).pMeas : Rat) * (ss : Rat) * (2 ^ 20 : Nat) / (x.vsetEff : Rat)
      let up := decide (x.vsetEff < qOfVset x.vset)
      let need : Rat := if up then dP else s.inOf (dP / 20)
      let room := if up then acc.2.1 else acc.2.2
      let ok := decide (need ≤ room)
      let t := acc.1.updDom d fun y => { y with shiftHold := !ok }
      if !ok then (t, acc.2) else if up then (t, room - need, acc.2.2) else (t, acc.2.1, room - need)) (s, (slack0 : Rat), room0)).1

/-! ### The quotas of a commit -/

/-- REPEAT_BREAK and the throttle event of fixed-frequency mode (R311): an event begins where a powered tile is paused and none was; it is
posted with the union of its causes when it ends, or the mode does. -/
def State.fixedCommit (s : State) (rows : List QuotaRow) (qSymp : Nat) (enter : Bool) : State :=
  if !s.limits.fixed then
    let s1 := if s.limits.thrOn then s.pushEvent (evRepeatBreak s.limits.thrCause s.limits.repeatBrk) else s
    { s1 with limits := { s1.limits with thrOn := false, thrCause := 0 } }
  else
    let l := rows.filter fun r => !r.off && decide (r.q > 0)
    let any := !l.isEmpty
    let was := s.limits.thrOn && !enter
    let cause := ofBits ((if l.any fun r => decide (r.own > 0) then [0] else []) ++ (if l.any fun r => decide (r.cut > 0) then [1] else [])
      ++ (if l.any fun r => decide (r.therm > 0) then [2] else []) ++ (if any && decide (qSymp > 0) then [3] else []))
    let begins := any && !was
    let cnt := if begins then incSat 65535 s.limits.repeatBrk else s.limits.repeatBrk
    let all := ofBits ((List.range 4).filter fun i => bitAt cause i || (was && bitAt s.limits.thrCause i))
    let s1 := { s with limits := { s.limits with
      thrOn := any
      thrCause := if any then all else 0
      repeatBrk := cnt
      fixTe := min (2 ^ 32 - 1) (s.limits.fixTe + l.length) } }
    if was && !any then s1.pushEvent (evRepeatBreak s.limits.thrCause s.limits.repeatBrk) else s1

/-- The sympathetic pause of a commit: events on a change of q_symp, the epochs under it and the energy it saves (R324). -/
def State.sympCommit (s : State) (rows : List QuotaRow) (q : Nat) : State :=
  let e := s.sympEntry
  let key : Nat × Nat × Bool × Bool := match e with
    | some e => (e.q, if e.carried then 0 else e.origin, e.relay, e.carried)
    | none => (0, s.pace.sympKey.2.1, s.pace.sympKey.2.2.1, s.pace.sympKey.2.2.2)
  let s1 := if q ≠ s.pace.qSymp then s.pushEvent (evPace 3 key.2.1 key.1 key.2.2.1 key.2.2.2) else s
  let saved := if q = 0 then 0
    else sumR (rows.map fun r => if r.off then 0 else s.outOf ((s.tile r.tile).draw r.u r.base) - s.outOf r.e) / 20 * 2 / 1000
  { s1 with pace := { s1.pace with
      qSymp := q
      sympKey := key
      sympEpochs := if q > 0 then min (2 ^ 32 - 1) (s1.pace.sympEpochs + 1) else s1.pace.sympEpochs
      saved := s1.pace.saved + saved
      latchOk := false } }

/-- The runs, the ages of what this block sends and the ages of the entries at a commit. -/
def State.paceAged (s : State) (above below : Nat) : State :=
  { s with pace := { s.pace with
      aboveRun := above
      belowRun := below
      bcast := s.pace.bcast.map fun b => (b.1, b.2.1, b.2.2 + 1)
      relay := s.pace.relay.map fun b => (b.1, b.2.1, b.2.2 + 1)
      entries := s.pace.entries.map fun (e : PaceEntry) => { e with age := e.age + 1 } } }

/-- The relayed quota sent again where a new join asks for it. -/
def State.paceRelayAgain (s : State) : State :=
  match s.pace.resend, s.pace.relay with
  | true, some (q, seq, _) =>
    ({ s with pace := { s.pace with resend := false, relay := some (q, seq, 0) } }).paceSend (.quota s.pace.pos true s.paceGroup q seq)
  | _, _ => { s with pace := { s.pace with resend := false } }

/-- A quota of this block's own sent. -/
def State.paceSay (s : State) (q seq : Nat) : State :=
  ({ s with pace := { s.pace with bcast := some (q, seq, 0) } }).paceSend (.quota s.pace.pos false s.paceGroup q seq)

/-- The quota of this block's own: started, moved, repeated or released. -/
def State.paceOwnQuota (s : State) (above below q : Nat) (resend : Bool) : State :=
  match s.pace.bcast with
  | none => if above ≥ s.pacePersist then ((s.newSeq none).2).paceSay q (s.newSeq none).1 else s
  | some (old, seq, _) =>
    if below ≥ 8 then s.paceRelease false s.paceGroup
    else if (if q ≥ old then q - old else old - q) ≥ 4 then ((s.newSeq (some seq)).2).paceSay q (s.newSeq (some seq)).1
    else if resend then s.paceSay old seq
    else s

/-- The chip's own broadcast at a commit, and a relayed one at the first after SIZE (R320, R326, R482). -/
def State.paceJob (s : State) (qJob : Nat) : State :=
  let above := if qJob ≥ s.paceMin then incSat 255 s.pace.aboveRun else 0
  let below := if qJob < s.paceMin then incSat 255 s.pace.belowRun else 0
  let s1 := s.paceAged above below
  if !(s.pace.st == .up && decide (s.paceGroup ≠ 0)) then s1
  else
    let s2 := s1.paceRelayAgain
    if s.paceSendEn then s2.paceOwnQuota above below (min qJob 63) s.pace.resend else s2

/-- Quotas, governor, burn and holds of commit n (R301 to R311, R320 to R324). `halt` is a stop sequence: every tile of a powered domain
receives 64, so that none is eligible for burn. -/
def State.quotaCommit (s : State) (n : Nat) (halt enterFix : Bool) : State :=
  let qCut := s.fastCut
  let qSymp := s.qSympOf
  let rows := (List.range 1024).map fun t => s.quotaRow halt qCut qSymp t
  let eIn := s.eIn rows
  let g := if s.limits.govOn then s.governor eIn else (s.limits.pG, 0)
  let burn := s.burnOf n rows g.2
  let room := eIn - (s.limits.pG - s.rampDn)
  let s1 := s.shiftHolds s.ledger.slack room
  let bt : Tab Nat := burn.1
  let s2 := s1.forEach (List.range 1024) fun s t =>
    let r := rows.getD t { tile := t, off := true, u := 0, own := 0, cut := 0, therm := 0, base := 64, q := 64, e := 0 }
    let q := r.q
    let b := if burn.1.any (·.1 == t) then bt.get 0 t else 0
    let code := if burn.1.any (·.1 == t) && decide (q ≤ 62) then 65 + q else q
    s.updTile t fun x => { x with
      unc := r.u
      quota := code
      qHist := (q :: x.qHist).take 4
      burn := b
      burnHist := (b :: x.burnHist).take 4 }
  let s3 := { s2 with limits := { s2.limits with
      qCut := qCut
      cutCnt := if qCut > 0 then incSat 255 s2.limits.cutCnt else s2.limits.cutCnt
      pGPrev := s2.limits.pG
      pG := g.1
      burnTiles := burn.1.length
      shortCnt := if burn.2 then incSat 255 s2.limits.shortCnt else s2.limits.shortCnt
      shiftAny := allDoms.any fun d => (s2.dom d).shiftHold } }
  ((s3.fixedCommit rows qSymp enterFix).sympCommit rows qSymp).paceJob (s.qJob rows)

/-! ### Freeze, capture (R249, R290) -/

/-- FREEZE: the views are held as they stood at the last commit; a write while they are held has no effect (R249, R282). -/
def State.freezeOp (s : State) : State :=
  if s.ledger.frozen then s
  else { s with ledger := { s.ledger with
      frozen := true
      freezeN := 0
      fEpoch := s.ledger.epoch % 65536
      views := s.pub
      viewRecs := Tab.ofFn (List.range 1024) s.tileRec } }

/-- Release the views (R249). -/
def State.unfreezeOp (s : State) : State :=
  { s with ledger := { s.ledger with
      frozen := false
      views := []
      viewRecs := [] } }

/-- FREEZE_TIMEOUT: a freeze held 512 epochs is released (R249, R282). -/
def execFreezeTimeout (s : State) : Out :=
  if s.ledger.frozen && decide (s.ledger.freezeN ≥ 512) then
    let s1 := s.unfreezeOp
    s.fast { s1 with ledger := { s1.ledger with freezeTo := true } }
  else .next s

/-- A capture of UL_TILE_SEL: the record of the latest commit, or of the held one (R290). -/
def State.captureTile (s : State) (v : Word) : State :=
  let t := fld v 9 0
  let r := if s.ledger.frozen then s.ledger.viewRecs.get 0 t else s.tileRec t
  { s with ledger := { s.ledger with
      tileSel := pack [(9, 0, t)]
      recLo := BitVec.ofNat 32 r.toNat
      recHi := BitVec.ofNat 32 (r.toNat / 2 ^ 32) } }

end Sys2Proof.Machine
end

