-- ==== Sys2Proof/Machine/Telemetry.lean ====
section
/-! DEFINITION. Telemetry payloads as the controller credits them (R132), what they feed (R46, R79, R167, R262, R403), and the
calibration of the band gains (R261). -/

namespace Sys2Proof.Machine

/-- How many generations ago a chain generation was in force, 1 following 255 (R123). -/
def genAge (now g : Nat) : Nat := (now + 255 - g) % 255

/-- The domain a cell of a chain held under the generation of `age` ago (R132). -/
def State.domainAt (s : State) (c i age : Nat) : Nat :=
  let x := s.chain c
  let changes := x.roles.filter fun r => r.2.1 == i && decide (genAge x.gen r.1 ≤ age)
  match changes.foldl (fun (b : Option (Nat × Nat)) r =>
      let a := genAge x.gen r.1
      match b with
      | none => some (a, r.2.2)
      | some y => if y.1 < a then some (a, r.2.2) else b) none with
  | some y => y.2
  | none => s.serving i

/-- The last epoch of a window: the latest up to the present one with the payload's tag (R132). -/
def lastEpoch (now tag : Nat) : Int := (now : Int) - (((now : Int) - tag) % 16)

/-- A payload that the master credits: its domain and last epoch (R132). -/
def State.credit (s : State) (c i p : Nat) : Option (Nat × Nat) :=
  let g := bits p 63 56
  let age := genAge (s.chain c).gen g
  let l := lastEpoch s.ledger.epoch (bits p 55 52)
  if g = 0 ∨ age ≥ 16 ∨ l < 0 ∨ (s.ledger.epoch : Int) - l > 8 then none else some (s.domainAt c i age, l.toNat)

/-- The first of the epochs credited: the span of the window runs back from its last epoch L to the end of the window before, over four
epochs at most; a window that follows a partial one began at the change that cut it, in the last epoch of that one (R89, R117, R132). -/
def creditFirst (prev : Option Credit) (l : Nat) : Nat :=
  match prev with
  | none => l - 3
  | some c =>
    if l < c.last ∨ l > c.last + 8 then l - 3
    else if c.part then c.last
    else min l (max (c.last + 1) (l - 3))

/-- The controller's record of a credited payload: latest values, runs of windows, and the calibration block (R46, R79, R261, R403). -/
def State.recordTlm (s : State) (i p d l : Nat) : State :=
  let raw := tlmIout p
  let corr := s.iCorr i raw
  let full := !bitAt p 0
  let usable := full && !bitAt p 2 && bits p 27 25 == 3
  let field := s.fieldData i (bandOf raw)
  let r : Credit := { dom := d, first := creditFirst (s.view i).credit l, last := l, part := !full, raw := raw, corr := corr, usable := usable }
  let s1 := s.updView i fun v => { v with
    tlm := some p
    tlmOld := false
    offOk := bits p 27 25 == 0
    ovlRun := if bitAt p 5 then incSat 15 v.ovlRun else 0
    syncRun := if bitAt p 4 then incSat 15 v.syncRun else 0
    clipRun := if full then (if bitAt p 2 then incSat 15 v.clipRun else 0) else v.clipRun
    extrap := !field
    credit := some r
    block := if wbit s.ledger.ctrl 15 then v.block ++ [r] else [] }
  let s2 := if field then s1 else s1.updAcct d fun a => { a with extrapC := true }
  s2.updLane (laneOf d) fun x => { x with wait := x.wait ++ [(i, p, 0)] }

/-- CELLSYNC_LOST from the latest payloads: 16 cells, or every cell of one domain (R403). -/
def State.syncLostWide (s : State) (d : Nat) : Bool :=
  let lost (i : Nat) : Bool := match (s.view i).tlm with
    | some p => bitAt p 4
    | none => false
  decide ((s.views.filter fun e => match e.2.tlm with
    | some p => bitAt p 4
    | none => false).length ≥ 16) || (!(s.roleCells d).isEmpty && (s.roleCells d).all lost)

/-- The raises that a credited payload brings (R46, R72, R79, R403), and the page that tells PREBIAS_ERR from HOLD_EXPIRED (R114). -/
def State.tlmRaises (s : State) (i p d : Nat) (ocBefore : Bool) : State :=
  let v := s.view i
  let s1 := if bitAt p 6 && !ocBefore then s.raise 0 i else s
  let s2 := if v.ovlRun ≥ 2 then s1.raise 1 i else s1
  let s3 := if bitAt p 4 && !s2.isPending 13 && s2.syncLostWide d then s2.raise 13 0 else s2
  let s4 := if v.syncRun ≥ 2 && !s3.isPending 13 then s3.raise 4 i else s3
  let s5 := if v.clipRun ≥ 4 && decide ((s4.dom d).vfbOk ≥ 16) then s4.raise 5 i else s4
  if bitAt p 1 then s5.queueRead i .warden else s5

/-- TLM_RECEIVED: the payload of the cell at a position (R117, R132). -/
def execTlmReceived (c : ChainIx) (pos : PosIx) (payload : BitVec 64) (s : State) : Out :=
  let i := cellAt c pos
  let p := payload.toNat
  if !s.contact i then .next s
  else match s.credit c i p with
    | none => s.fast (s.updChain c fun x => { x with tlmDrop := incSat 255 x.tlmDrop })
    | some (d, l) =>
      let oc := match (s.view i).tlm with
        | some q => bitAt q 6
        | none => false
      s.fast ((s.recordTlm i p d l).tlmRaises i p d oc)

/-! ### Calibration (R261) -/

/-- The latches of the epoch that a commit ends, and whether the domain was in RUN throughout it, enter the domain's block, before they are metered. -/
def State.calLatches (s : State) (e d : Nat) : State :=
  let l := validI (s.dom d).latches
  let run := (s.dom d).st == .run && !(s.dom d).leftRun
  let m := e / 16
  let s1 := s.updDom d fun x => { x with leftRun := false }
  s1.updAcct d fun a =>
    let old := (a.blocks.find? (·.number == m)).getD { number := m, sum := 0, count := 0, lo := 0, hi := 0, run := decide (e % 16 = 0) }
    let new : CalBlock := l.foldl (fun b x =>
      { b with sum := b.sum + x, count := b.count + 1, lo := if b.count = 0 then x else min b.lo x, hi := if b.count = 0 then x else max b.hi x })
      { old with run := old.run && run }
    { a with blocks := (a.blocks.filter fun b => b.number != m && decide (b.number + 3 > m)) ++ [new] }

/-- The payloads of a cell credited to a domain in a block. -/
def State.blockOfCell (s : State) (i d m : Nat) : List Credit :=
  (s.view i).block.filter fun e => e.last / 16 == m && e.dom == d

/-- The cells with payloads credited to a domain in a block, under whatever generation (R132, R261). -/
def State.creditedCells (s : State) (d m : Nat) : List Nat :=
  (s.views.filter fun e => e.2.block.any fun x => x.last / 16 == m && x.dom == d).map (·.1)

/-- S_cells of a block, mA. -/
def State.sCells (s : State) (d m : Nat) : Rat :=
  sumR ((s.creditedCells d m).map fun i =>
    let l := s.blockOfCell i d m
    if l.isEmpty then 0 else (sumI (l.map (·.corr)) : Rat) / (l.length : Rat))

/-- A band gain after an update, held within 4% of its test-time value, and whether it is held (R261). -/
def newGain (g test : Nat) (rho : Rat) : Nat × Bool :=
  let x : Int := (g : Int) + roundEven ((g : Rat) * (rho - 1) / 16)
  let lo : Int := (((test : Rat) * 24 / 25).ceil)
  let hi : Int := (((test : Rat) * 26 / 25).floor)
  ((clampI lo hi x).toNat, decide (x < lo) || decide (x > hi))

/-- One cell in a block that is used. -/
def State.calCell (s : State) (i d m : Nat) (rho : Rat) : State :=
  let l := s.blockOfCell i d m
  match l with
  | [] => s
  | e :: _ =>
    let b := bandOf e.raw
    if l.length = 4 ∧ l.all (fun x => x.usable && bandOf x.raw == b) then
      let test := s.testGain i b
      let r := newGain ((s.view i).gain.get test b) test rho
      let first := r.2 && !(s.view i).drifted.contains b
      let s1 := s.updView i fun v => { v with
        gain := v.gain.set b r.1
        cnt := v.cnt.modify 0 b (incSat 255)
        atLimit := if r.2 then (if v.atLimit.contains b then v.atLimit else v.atLimit ++ [b]) else v.atLimit.filter (· != b)
        drifted := if first then v.drifted ++ [b] else v.drifted }
      if first then s1.raise 27 i else s1
    else s

/-- One domain at the evaluation of block m. "Their mean" in step 1 is taken as that of the highest and the lowest latch. -/
def State.calDomain (s : State) (m d : Nat) : State :=
  match (s.acct d).blocks.find? (·.number == m) with
  | none => s
  | some b =>
    let sc := s.sCells d m
    let steady := b.run && decide (b.count > 0) && decide (40 * (b.hi - b.lo) ≤ b.hi + b.lo) && decide (sc ≥ 1000)
    if !steady then s
    else
      let rho : Rat := (b.sum : Rat) / (b.count : Rat) / sc
      if (rho - 1).abs > 1 / 10 then { s with ledger := { s.ledger with calSkip := incSat 255 s.ledger.calSkip } }
      else s.forEach (s.creditedCells d m) fun s i => s.calCell i d m rho

/-- CAL_BLOCK_UPDATE: block m is evaluated at the commit that opens epoch 16 m + 24; its data then go (R261). -/
def execCalBlockUpdate (s : State) : Out :=
  let e := s.ledger.epoch
  if e < 24 ∨ e % 16 ≠ 8 then .next s
  else
    let m := (e - 24) / 16
    let s1 := if wbit s.ledger.ctrl 15 then s.forEach allDoms (fun s d => s.calDomain m d) else s
    let views := s1.views.map fun (v : Nat × View) => (v.1, { v.2 with block := v.2.block.filter fun x => decide (x.last / 16 > m) })
    let accts := s1.accts.map fun (a : Nat × DomAcct) => (a.1, { a.2 with blocks := a.2.blocks.filter fun b => decide (b.number > m) })
    s.fast { s1 with
      views := views
      accts := accts }

end Sys2Proof.Machine
end

