-- ==== Sys2Proof/Machine/StartOps.lean ====
section
/-! DEFINITION. What commits share with start-up, adoption and stop (R131, R171, R175, R354 to R357, R373, R388 to R391, R565): orders of
the warden to many cells, the adoption of a domain, the abandonment of start-up, commit s of a stop sequence and its stages. -/

namespace Sys2Proof.Machine

/-- STOP from the warden to each cell of a list that is in contact (R355 to R357). -/
def State.wardenStop (s : State) (l : List Nat) : State :=
  s.forEach (l.filter fun i => s.contact i) fun s i => s.queueOrder i 2 0 .warden

/-- BOOT falls: each cell still in its boot role ramps to 0 (R373). -/
def State.lowerBoot (s : State) : State :=
  let s1 := { s with start := { s.start with boot := false } }
  s1.forEach bootCells fun s i => s.updCell i fun c => if c.boot then { c with ramp := true } else c

/-! ### Adoption of a domain (R171, R175, R376, R388, R389) -/

/-- MODE and present target minus share trim of a cell as READ_STATE gave them, 1/64 mV. -/
def View.mode (v : View) : Nat := pageMode v.page2
def View.adoptTarget (v : View) : Int := (bits v.page0 15 0 : Int) - 8 * pageTrim v.page2

/-- A cell found in RUN or HOLD. -/
def View.adoptable (v : View) : Bool := v.heard && (v.mode == 3 || v.mode == 4)

/-- The adoption of a domain begins: its cells are read (R175, R376). -/
def State.rejoinBegin (s : State) (d : Nat) : State :=
  let l := s.roleCells d
  let s1 := s.forEach l fun s i => s.updView i fun v => { v with heard := false }
  (s1.queuePages l).updDom d fun x => { x with st := .hold, rejoin := 1 }

/-- An order of adoption to a cell of a domain is still waiting for its reply. -/
def State.rejoinBusy (s : State) (d : Nat) : Bool :=
  (s.roleCells d).any fun i => s.orderOut i 7 .adoption || s.orderOut i 5 .adoption

/-- A domain stopped by adoption, with its bit of UL_ADOPT_DOM (R389, R398). -/
def State.markStopped (s : State) (d : Nat) : State :=
  if s.adopting then { s with start := { s.start with adoptDom := orBit s.start.adoptDom d } } else s

/-- The warden starts a domain again after adoption when its copy recorded START or RUN (R392). -/
def Dom.restartAfter (x : Dom) : Bool := x.restart || x.recorded == .start || x.recorded == .run

/-- The commit that adopts a domain (R171, R175, R388 step 7, R389, R393): it stays in HOLD without contact; its cells are stopped one by
one while its lane pair is frozen; else it enters ADOPT, with T the median of the cells found in RUN or HOLD, and leaves it for STOP when a cell
of its role was found in another state. A cell that was not reached leaves the role. -/
def State.adoptDomain (s : State) (d : Nat) : State :=
  let l := s.roleCells d
  let found := l.filter fun i => (s.view i).adoptable
  let bad := l.any fun i => (s.view i).heard && !(s.view i).adoptable
  if s.domCut d then s.updDom d fun x => { x with rejoin := 0 }
  else if (s.lane (laneOf d)).out then
    ((s.wardenStop l).updDom d fun x => { x with st := .frozen, restart := true, rejoin := 0 }).markStopped d
  else if found.isEmpty ∧ !bad then s.updDom d fun x => { x with rejoin := 0 }
  else
    let t := (max 0 (medianLow (found.map fun i => (s.view i).adoptTarget))).toNat
    let s1 := s.forEach l fun s i =>
      let v := s.view i
      if v.adoptable then
        let s2 := s.updView i fun v => { v with trim := pageTrim v.page2, runOk := v.mode == 3, offOk := false }
        if v.mode = 4 then s2.queueOrder i 5 0 .adoption else s2
      else if s.adopting && !v.heard then s.updView i fun v => { v with out := true }
      else s
    let s3 := (s1.updDom d fun x => { x with
      st := .adopt
      adoptT := if found.isEmpty then none else some t
      rejoin := if bad then 3 else 2 }).queueCfg d false
    s3.forEach found fun s i => s.queueTrim i

/-- The commit that ends the adoption of a domain: RUN when every cell was found in RUN or HOLD and every cell reached has confirmed, else STOP (R171, R388 step 9). An adopted
tile domain is sent the release of R278. -/
def State.adoptFinish (s : State) (d : Nat) : State :=
  let x := s.dom d
  if x.st ≠ .adopt || x.rejoin < 2 then s
  else if x.rejoin = 2 ∧ (s.roleCells d).all fun i => (s.view i).runOk || !s.contact i then
    let s1 := (s.updDom d fun y => { y with st := .run, rejoin := 0, fbCnt := 0, fbRaised := false }).finish (.domRun d) stOk 0
    if isTD d && s.adopting then s1.queueArm d false 0xFFFFFFFF else s1
  else (s.updDom d fun y => { y with
      st := .stop
      stopSent := false
      restart := y.restartAfter
      rejoin := 0
      satCnt := 0
      satRaised := false }).markStopped d

/-- A commit as a domain in HOLD or ADOPT outside the adoption of a fast-side reset meets it: contact has returned, or SD14 is adopted in
stage 1 (R171, R175, R376). -/
def State.rejoinCommit (s : State) (d : Nat) : State :=
  let x := s.dom d
  match x.st with
  | .hold =>
    if s.domCut d || s.stopq.active then s
    else if x.rejoin = 0 then s.rejoinBegin d
    else if s.rejoinBusy d then s
    else s.adoptDomain d
  | .adopt => if s.rejoinBusy d then s else s.adoptFinish d
  | .run =>
    if x.recorded = .stop then (s.updDom d fun y => { y with recorded := .off }).offOrder d else s
  | _ => s

/-- Domains that the warden stops cell by cell are OFF once every cell shows OFF (R356, R393). -/
def State.stoppedOff (s : State) (d : Nat) : State :=
  let x := s.dom d
  if (x.st == .frozen || x.st == .hold) && (s.stopq.active || x.restart) && !(s.roleCells d).isEmpty &&
      (s.roleCells d).all fun i => (s.view i).offOk then s.domIsOff d else s

/-! ### The end of adoption (R131, R388 step 9, R392, R422) -/

/-- Every loan or recall that the reset met ends by the role in which its cell was found, and counts where it came to nothing, whoever
ordered it (R131). -/
def State.loanAfterReset (s : State) : State :=
  let move (f : Flight) : Option Nat := match f.waits with
    | .loan i => some i
    | _ => none
  let good (s : State) (lending : Bool) (i : Nat) : Bool :=
    let v := s.view i
    v.runOk && !v.out && v.lent == lending && (s.dom (s.serving i)).st == .run
  let lost := (s.creg.moved.filter fun l => !good s (!l.recalling) l.cell).length
  let s1 := s.finishWhere fun f => match move f with
    | some i => some (if good s (f.opcode == 9) i then stOk else stAborted, if s.contact i then (s.view i).genFound else 0)
    | none => none
  { s1 with creg := { s1.creg with
      abortCnt := min 255 (s1.creg.abortCnt + lost)
      moved := [] } }

/-- Cell audits that waited for a loan which the reset ended: a cover that stands lets the test go on, one that does not is sought again
(R131, R414). -/
def State.coversAfterReset (s : State) : State :=
  s.flt.audits.foldl (fun s a =>
    match a.st with
    | .covering k =>
      if (s.view k).lent && (s.view k).runOk then (s.updView k fun v => { v with cover := true }).auditTest a.cell
      else
        let s1 := { s with flt := { s.flt with covers := s.flt.covers.filter (· != k) } }
        s1.updAudit a.cell fun x => { x with st := .waiting, cover := none }
    | _ => s) s

/-- The fast-side audits that a reset abandoned start again (R422). -/
def State.restartAudits (s : State) : State :=
  let l := s.flt.restartAud
  let held := (l.filter fun e => decide (e.1 < 64)).length
  let s1 := { s with flt := { s.flt with restartAud := [], inc := { s.flt.inc with audits := s.flt.inc.audits - held } } }
  let s2 := l.foldl (fun s e => s.startAudit (e.1 % 64) e.2) s1
  if s2.flt.inc.open_ then s2
  else
    let free (l : List (Nat × Nat)) : List (Nat × Nat) := l.map fun e => (e.1, if e.2 < 64 then e.2 + 64 else e.2)
    { s2 with flt := { s2.flt with chainAud := free s2.flt.chainAud, laneAud := free s2.flt.laneAud, dscAud := free s2.flt.dscAud,
                                   hkcAud := free s2.flt.hkcAud, refAud := free s2.flt.refAud, inc := { s2.flt.inc with audits := 0 } } }

/-- A frozen lane pair runs its audit again before it serves its domains (R183, R393). -/
def State.frozenAudits (s : State) : State :=
  s.forEach (List.range 8) fun s k =>
    if (s.lane k).st = .frozen then
      let s1 := if hasAudit s.flt.laneAud k then s
        else { s with flt := { s.flt with laneAud := s.flt.laneAud ++ [(k, 17 + 64)] } }
      s1.updLane k fun l => { laneAuditBegin l with barred := true }
    else s

/-- Step 9 of R388: the adopted domains are in RUN; the figures are written, the event is posted, and what waited goes on. -/
def State.adoptEnd (s : State) : State :=
  let cells := (allDoms.filter fun d => (s.dom d).st == .run).foldl
    (fun n d => n + ((s.roleCells d).filter fun i => (s.view i).runOk).length) 0
  let us := min 65535 (ticksUs (s.clk.watch - s.start.fsrTick))
  let s1 := { s with start := { s.start with
      adopted := cells
      adoptUs := us
      adoptStep := 0
      fsrReq := false
      step := .ready } }
  let s2 := s1.pushEvent (evAdopt us (s1.startRegs 0x290).toNat s1.start.adoptDom)
  let s3 := { s2 with flt := { s2.flt with inc := { s2.flt.inc with
      fsrBusy := false
      blocks := s2.flt.inc.blocks.filter fun k => !(k == blockKey .fastSide 0) } } }
  (((s3.loanAfterReset).coversAfterReset).restartAudits).frozenAudits

/-- A commit during adoption: step 7 moves the domains to ADOPT; at the next commit whose orders are answered they enter RUN. -/
def State.adoptCommit (s : State) : State :=
  if s.stopq.active then s
  else if s.start.adoptStep = 6 then
    let s1 := s.forEach (allDoms.filter fun d => (s.dom d).st == .hold) State.adoptDomain
    { s1 with start := { s1.start with adoptStep := 7 } }
  else if s.start.adoptStep = 7 then
    if allDoms.any fun d => (s.dom d).st == .adopt && s.rejoinBusy d then s
    else (s.forEach allDoms State.adoptFinish).adoptEnd
  else s

/-! ### Abandoning start-up (R565) -/

/-- The domains of a stage of start-up but SD14. -/
def stageDoms (k : Nat) : List Nat := allDoms.filter fun d => stageOf d == k && d != sd 14

/-- SD14 last: BOOT falls where it has not been adopted, else the warden stops its cells. -/
def State.abandonSd14 (s : State) : State :=
  let s1 := if s.start.boot then s.lowerBoot else s
  let st := (s.dom (sd 14)).st
  if st == .off || (st == .hold && s.start.boot) then s1 else s1.wardenStop bootCells

/-- The off orders of a stage, or SD14's stop where none is left. -/
def State.abandonTo (s : State) (k : Nat) : State :=
  let s1 := { s with start := { s.start with abandonStage := k, abandonDue := false, stageDue := false } }
  if k = 0 then s1.abandonSd14 else s1.forEach (stageDoms k) State.offOrder

/-- The abandonment begins at a commit with the latest stage begun. -/
def State.abandonBegin (s : State) : State := s.abandonTo s.start.stage

/-- A domain of which nothing is left to bring down: OFF, or in HOLD with no cell in contact. -/
def State.isDown (s : State) (d : Nat) : Bool := (s.dom d).st == .off || ((s.dom d).st == .hold && s.domCut d)

/-- A commit as an abandonment meets it. -/
def State.abandonCommit (s : State) : State :=
  if !s.stopq.active || !s.stopq.abandon || s.stopq.late then s
  else if s.start.abandonDue then s.abandonBegin
  else if s.start.abandonStage ≠ 0 && (stageDoms s.start.abandonStage).all s.isDown then s.abandonTo (s.start.abandonStage - 1)
  else s

/-! ### The stop sequence (R131, R354 to R356) -/

/-- A loan or recall that a stop sequence meets: its cell receives STOP where it stands, and the record notes it (R131). -/
def State.stopLoan (s : State) (c : Nat) : State :=
  match (s.chain c).loan with
  | none => s
  | some l =>
    let s1 := s.queueOrder l.cell 2 0 .warden
    let s2 := { s1 with stopq := { s1.stopq with loanV := true, loanSel := selCode (s.cell l.cell).sel, loanAddr := l.cell } }
    s2.loanDropped c l

/-- Commit s (R354 step 2): the tiles of powered domains are halted, hints end, a release is queued for every tile domain, the pace ring is
left, the feed converters return to their base trim (R504), loans are abandoned, the event is posted, and every chain queues the stop-profile CFGs. -/
def State.stopCommitS (s : State) : State :=
  let s0 := { s with
    stopq := { s.stopq with pending := false }
    ledger := { s.ledger with vinBoost := false, boostEnd := none }
    avs := { s.avs with boost := false } }
  let s1 := s0.forEach (List.range 1024) fun s t =>
    let off := s.tileOff t
    s.updTile t fun x => ({ x with quota := if off then x.quota else 64, burn := 0 }).clearHints
  let s2 := s1.forEach allDoms fun s d => s.updDom d fun x => { x with hOff := 0 }
  let s3 := s2.forEach tds fun s d => s.queueArm d false 0xFFFFFFFF
  let s4 := (s3.paceLeave).forEach (List.range 8) State.stopLoan
  let s5 := s4.forEach (List.range 8) fun s c => s.updChain c fun x => { x with stopCfg := s.servedDoms c }
  s5.pushEvent (evStop s5.stopq.cause s5.stopq.seq)

/-- One domain at its stage (R355, R356). -/
def State.stopDomain (s : State) (d : Nat) : State :=
  match (s.dom d).st with
  | .off => s
  | .frozen | .hold => s.wardenStop (s.roleCells d)
  | .stop => s.updDom d fun x => { x with stopRamp := true }
  | _ => s.updDom d fun x => { x with st := .stop, stopRamp := true, stopSent := false, satCnt := 0, satRaised := false, soloStage := none,
                                      rejoin := 0 }

/-- Stage k of the stop sequence begins (R355); the policy core stops with SD13 at stage 3 (R450). -/
def State.stopStageBegin (s : State) (k : Nat) : State :=
  let s1 := { s with stopq := { s.stopq with stage := k } }
  if k = 4 then s1.wardenStop bootCells
  else
    let s2 := s1.forEach (allDoms.filter fun d => stopStageOf d == k) State.stopDomain
    if k = 3 ∧ s2.policy.st = .running then { s2 with policy := { s2.policy with st := .stopped } } else s2

/-- A commit as a stop sequence meets it: commit s if the cause came since the last, and the count from it. -/
def State.stopCommit (s : State) : State :=
  if !s.stopq.active || s.stopq.abandon then s
  else
    let s1 := if s.stopq.pending then s.stopCommitS else s
    { s1 with stopq := { s1.stopq with commits := match s1.stopq.commits with
        | none => some 0
        | some k => some (k + 1) } }

/-- STOP to every cell in contact, domain by domain in the order of the stages (R357, R383): a fast-side reset has met the stop. -/
def State.stopAll (s : State) : State :=
  let s1 := s.forEach [1, 2, 3] fun s k => s.forEach (allDoms.filter fun d => stopStageOf d == k) fun s d => s.wardenStop (s.roleCells d)
  s1.wardenStop bootCells

end Sys2Proof.Machine
end

