-- ==== Sys2Proof/Machine/VoltageTable.lean ====
section
/-! DEFINITION. The voltage tables (R431 to R438): the clip bands, the intact test, the reconcile of copies B and C, the clamp of
an update, and the tile clock caps. -/

namespace Sys2Proof.Machine

/-- Entries of a table (R431). -/
def vtEntries : Nat := 304

/-- Entry i of copy A. -/
def State.vtA (s : State) (i : Nat) : Word := s.otp.vtA.getD i 0

/-- Entry i is a start word; otherwise it is a point of a tile domain. -/
def vtIsStart (i : Nat) : Bool := decide (i < 48)

/-- The voltages and the cap of an entry: V_START or V_k; V_MIN; F_k. -/
def vtHi (e : Word) : Nat := fld e 27 16
def vtMin (e : Word) : Nat := fld e 11 0
def vtF (e : Word) : Nat := fld e 15 0

/-- 40 mV as a voltage code: the width of a band (R433). -/
def vtBand : Nat := 160

/-- The least cap of the band of an F_k (R433). -/
def vtFLow (a : Nat) : Nat := ceilDiv (7 * a) 8

/-- The reserved bits of an entry are 0. -/
def vtReservedOk (i : Nat) (e : Word) : Bool := fld e 31 28 == 0 && (!vtIsStart i || fld e 15 12 == 0)

/-- An entry lies within its band of copy A (R433). -/
def vtInBand (i : Nat) (a e : Word) : Bool :=
  let v (x y : Nat) : Bool := decide (x ≤ y) && decide (y ≤ x + vtBand)
  v (vtHi a) (vtHi e) && (if vtIsStart i then v (vtMin a) (vtMin e)
    else decide (vtFLow (vtF a) ≤ vtF e) && decide (vtF e ≤ vtF a))

/-- The points of tile domain d do not fall, and V_0 ≤ V_MIN ≤ V_START (R433). -/
def vtOrdered (t : Nat → Word) (d : Nat) : Bool :=
  let pt (k : Nat) : Word := t (48 + 8 * d + k)
  (List.range 7).all (fun k => decide (vtHi (pt k) ≤ vtHi (pt (k + 1))) && decide (vtF (pt k) ≤ vtF (pt (k + 1)))) &&
  decide (vtHi (pt 0) ≤ vtMin (t d)) && decide (vtMin (t d) ≤ vtHi (t d))

/-- Word k of copy B or C. -/
def State.vtCopyWord (s : State) (copyC : Bool) (k : Nat) : Word := s.vaultWord (vtCopyAddr copyC + 4 * k)

/-- Entry i of copy B or C. -/
def State.vtCopy (s : State) (copyC : Bool) (i : Nat) : Word := s.vtCopyWord copyC (16 + i)

/-- SEQ of copy B or C. -/
def State.vtCopySeq (s : State) (copyC : Bool) : Nat := (s.vtCopyWord copyC 1).toNat

/-- A copy is intact (R433). -/
def State.vtIntact (s : State) (copyC : Bool) : Bool :=
  let a := vtCopyAddr copyC
  s.vtCopyWord copyC 0 == 0x56540001 && s.vtCopyWord copyC 2 == 304 &&
  (List.range 13).all (fun k => s.vtCopyWord copyC (3 + k) == 0) &&
  crc32 (s.vaultBytes a 0x500) == s.vaultWord (a + 0x500) &&
  (List.range vtEntries).all (fun i => vtReservedOk i (s.vtCopy copyC i) && vtInBand i (s.vtA i) (s.vtCopy copyC i)) &&
  tds.all (vtOrdered (s.vtCopy copyC)) &&
  s.vtCopy copyC (sd 13) == s.vtA (sd 13) && s.vtCopy copyC (sd 14) == s.vtA (sd 14)

/-- An entry of two voltages or of a voltage and a cap. -/
def vtEntry (hi lo : Nat) : Word := pack [(27, 16, hi), (15, 0, lo)]

/-- An entry clipped to its band (R434). -/
def vtClip (i : Nat) (a e : Word) : Word :=
  let v (x y : Nat) : Nat := max x (min y (x + vtBand))
  if vtIsStart i then vtEntry (v (vtHi a) (vtHi e)) (v (vtMin a) (vtMin e))
  else vtEntry (v (vtHi a) (vtHi e)) (max (vtFLow (vtF a)) (min (vtF e) (vtF a)))

/-- The conservative merge of two entries: the highest voltages and the lowest cap (R434). -/
def vtMerge (i : Nat) (e f : Word) : Word :=
  if vtIsStart i then vtEntry (max (vtHi e) (vtHi f)) (max (vtMin e) (vtMin f))
  else vtEntry (max (vtHi e) (vtHi f)) (min (vtF e) (vtF f))

/-- What the reconcile finds: the table in use, SRC and SEQ of UL_VT_STAT and UL_VT_SEQ, and the raises, source and object
(R420, R434). -/
structure Reconciled where
  table  : Tab Word
  src    : Nat
  seq    : Nat
  bOk    : Bool
  cOk    : Bool
  raises : List (Nat × Nat)
  deriving DecidableEq, Repr

/-- The reconcile of copies B and C (R420, R434). -/
def State.reconcile (s : State) : Reconciled :=
  let b := s.vtIntact false
  let c := s.vtIntact true
  let n := s.vtCopySeq false
  let m := s.vtCopySeq true
  let of (f : Nat → Word) : Tab Word := Tab.ofFn (List.range vtEntries) f
  if b && c then
    let equal := (List.range vtEntries).all fun i => s.vtCopy false i == s.vtCopy true i
    if n = m ∧ equal then { table := of (s.vtCopy false), src := 0, seq := n, bOk := true, cOk := true, raises := [] }
    else if n = m + 1 then { table := of (s.vtCopy false), src := 1, seq := n, bOk := true, cOk := true, raises := [] }
    else if m = n + 1 then { table := of (s.vtCopy true), src := 1, seq := m, bOk := true, cOk := true, raises := [] }
    else { table := of fun i => vtClip i (s.vtA i) (vtMerge i (s.vtCopy false i) (s.vtCopy true i)), src := 2, seq := max n m,
           bOk := true, cOk := true, raises := [(39, 0)] }
  else if b then { table := of fun i => vtClip i (s.vtA i) (s.vtCopy false i), src := 2, seq := n, bOk := true, cOk := false,
                   raises := [(38, vtRecNo true), (39, 0)] }
  else if c then { table := of fun i => vtClip i (s.vtA i) (s.vtCopy true i), src := 2, seq := m, bOk := false, cOk := true,
                   raises := [(38, vtRecNo false), (39, 0)] }
  else { table := of s.vtA, src := 3, seq := 0, bOk := false, cOk := false,
         raises := [(38, vtRecNo false), (38, vtRecNo true), (39, 0)] }

/-! ### Updates (R436, R437) -/

/-- Entry i of the table in use. -/
def State.vtNow (s : State) (i : Nat) : Word := s.warden.vtUse.get 0 i

/-- A staged entry clamped against the table in use and copy A (R436). -/
def State.vtClampEntry (s : State) (i : Nat) (e : Word) : Word :=
  let use := s.vtNow i
  let a := s.vtA i
  let v (lo top x : Nat) : Nat := max lo (min x (top + vtBand))
  if vtIsStart i then vtEntry (v (vtHi use) (vtHi a) (vtHi e)) (v (vtMin use) (vtMin a) (vtMin e))
  else vtEntry (v (vtHi use) (vtHi a) (vtHi e)) (max (vtFLow (vtF a)) (min (vtF e) (vtF use)))

/-- The order of R433 enforced on a tile domain by raising later voltages and lowering earlier caps (R436). -/
def vtOrder (t : Tab Word) (d : Nat) : Tab Word :=
  let at_ (t : Tab Word) (k : Nat) : Word := t.get 0 (48 + 8 * d + k)
  let t1 := (List.range 7).foldl (fun t k =>
    t.set (48 + 8 * d + k + 1) (vtEntry (max (vtHi (at_ t k)) (vtHi (at_ t (k + 1)))) (vtF (at_ t (k + 1))))) t
  let t2 := ((List.range 7).reverse).foldl (fun t k =>
    t.set (48 + 8 * d + k) (vtEntry (vtHi (at_ t k)) (min (vtF (at_ t k)) (vtF (at_ t (k + 1)))))) t1
  let vmin := max (vtHi (at_ t2 0)) (vtMin (t2.get 0 d))
  t2.set d (vtEntry (max vmin (vtHi (t2.get 0 d))) vmin)

/-- The table that an apply makes of the staged entries, and whether any element was clamped (R436). -/
def State.vtApplied (s : State) : Tab Word × Bool :=
  let staged := s.warden.vtStaged
  let t := staged.foldl (fun (t : Tab Word) e => t.set e.1 (s.vtClampEntry e.1 e.2)) s.warden.vtUse
  (tds.foldl vtOrder t, staged.any fun e => s.vtClampEntry e.1 e.2 != e.2)

/-- The words of a copy (R432). -/
def vtCopyWords (t : Tab Word) (seq : Nat) : List Word :=
  withCrc ([(0x56540001 : Word), BitVec.ofNat 32 seq, 304] ++ List.replicate 13 0 ++ (List.range vtEntries).map (t.get 0))

/-- The highest SEQ of an intact copy. -/
def State.vtHighest (s : State) : Nat :=
  max (if s.warden.bOk then s.vtCopySeq false else 0) (if s.warden.cOk then s.vtCopySeq true else 0)

/-- 60 s of watch-clock ticks (R437). -/
def vtApplyTicks : Nat := 240000000

/-- An apply or commit may begin: none is being written, an apply comes no earlier than 60 s after the last, and SEQ has room
(R437). -/
def State.vtMayWrite (s : State) (apply : Bool) : Bool :=
  !s.warden.updBusy && decide (s.vtHighest + 1 ≤ 0xFFFFFFFE) &&
  (!apply || match s.warden.vtTick with
    | none => true
    | some t => decide (s.clk.watch ≥ t + vtApplyTicks))

/-- Begin to write a table to B and then to C (R436, R437, R456). -/
def State.vtWrite (s : State) (t : Tab Word) (chan : Option MboxChan) (clamped : Bool) : State :=
  let seq := s.vtHighest + 1
  let w := { s.warden with
    updBusy := true
    vtPend := some { table := t, seq := seq, chan := chan, clamped := clamped } }
  let s1 := ({ s with warden := w }).vaultJob 5 (vtRecNo false) (vtCopyAddr false) (vtCopyWords t seq)
  s1.vaultJob 5 (vtRecNo true) (vtCopyAddr true) (vtCopyWords t seq)

/-! ### Tile clock caps (R435) -/

/-- FCAP_d: F_k of the highest k with V_k at most V_SET_eff, 0 below V_0. -/
def State.fcapOf (s : State) (d : Nat) : Nat :=
  let v := (s.dom d).vsetEff
  (List.range 8).foldl (fun f k =>
    let e := s.vtNow (48 + 8 * d + k)
    if (vtHi e : Int) * 2 ^ 18 ≤ v then vtF e else f) 0

end Sys2Proof.Machine
end

