-- ==== Sys2Proof/Machine/Commit.lean ====
section
/-! DEFINITION. The epoch commit (R244 to R250): staged values, the snapshot image, the telemetry record, and EPOCH_COMMIT itself, which
changes everything that an epoch boundary changes. -/

namespace Sys2Proof.Machine

/-! ### Staging (R245, R472) -/

/-- A value is staged; one that waits for the same target is discarded, and its command superseded (R245, R472). -/
def State.stage (s : State) (key : StageKey) (v : Word) (by_ : Stager) : State :=
  let s1 := match (s.ledger.staged.find? fun e => e.key == key) with
    | some e => (match e.by_ with
      | .command x => s.supersede x
      | _ => s)
    | none => s
  { s1 with ledger := { s1.ledger with
      staged := (s1.ledger.staged.filter fun e => !(e.key == key)) ++ [{ key := key, val := v, late := s.ledger.cutoff, by_ := by_ }] } }

/-- RES_EN or HINT_EN of UL_LEDG_CTRL changes: every residual restarts at 0 (R259); every hint ends (R276). -/
def State.setLedgCtrl (s : State) (v : Word) : State :=
  let s1 := if wbit v 13 ≠ wbit s.ledger.ctrl 13 then
      { s with accts := s.accts.map fun (e : Nat × DomAcct) => (e.1, { e.2 with resid := 0 }) }
    else s
  { s1 with ledger := { s1.ledger with ctrl := v } }

/-- UL_PACE_CTRL takes effect: a change of GROUP discards the held entries and releases what is in force (R319); EN cleared leaves the
ring (R318). -/
def State.setPaceCtrl (s : State) (v : Word) : State :=
  let g := s.paceGroup
  let s1 := if fld v 23 16 ≠ g then
      let t := (s.paceRelease false g).paceRelease true g
      { t with pace := { t.pace with entries := [], latched := [] } }
    else s
  let s2 := { s1 with pace := { s1.pace with ctrl := v } }
  if s2.paceEn then s2 else { s2 with pace := { s2.pace with st := .off, leader := false, sentSurvey := false } }

/-- UL_SNS_CTRL takes effect: a new REF_SEL is asked for, the rest is in force (R205, R217). -/
def State.setSnsCtrl (s : State) (v : Word) : State :=
  let old := fld s.sense.ctrl 1 0
  let s1 := { s with sense := { s.sense with ctrl := putFld v 1 0 old } }
  if fld v 1 0 = old then s1 else s1.refSelectOp (fld v 1 0)

/-- UL_DSC_FB_n takes effect (R201, R204, R214). -/
def State.setDscFb (s : State) (d : Nat) (v : Word) : State :=
  let s1 := s.updDsc d fun x => { x with fb := v }
  if v = (s.dsc d).fb then s1 else (s1.reconf d fbTallies).updDom d fun x => { x with holdFb := true }

/-- UL_DSC_AUX_n takes effect (R210, R214). -/
def State.setDscAux (s : State) (d : Nat) (v : Word) : State :=
  let o := (s.dsc d).aux
  let edge := (s.dsc d).inRound && (fld o 11 10 != fld v 11 10 || fld o 20 18 != fld v 20 18)
  let rec_ := fld o 15 10 ≠ fld v 15 10 || fld o 9 3 ≠ fld v 9 3
  let s1 := s.updDsc d fun x => { x with aux := v, auxEdge := x.auxEdge || edge }
  if rec_ then s1.reconf d hostTallies else s1

/-- UL_SP_EN_i of a domain takes effect (R196, R204, R214). -/
def State.setSpEn (s : State) (d i : Nat) (v : Word) : State :=
  let old := ((s.dsc d).en ++ List.replicate 4 0).take 4
  let s1 := s.updDsc d fun x => { x with en := old.set i v }
  if old.getD i 0 = v then s1 else (s1.reconf d fbTallies).updDom d fun x => { x with holdFb := true }

/-- UL_CELLDOM_n or UL_CELLGLB takes effect: its CFG is queued (R93, R106). -/
def State.setCellDom (s : State) (d : Nat) (v : Word) : State :=
  ({ s with eng := { s.eng with cellDom := s.eng.cellDom.set d v } }).queueCfg d false
def State.setCellGlb (s : State) (v : Word) : State :=
  let s1 := { s with eng := { s.eng with cellGlb := v } }
  s1.forEach (List.range 8) fun s c => s.updChain c fun x => { x with cfgQ := if x.cfgQ.contains 63 then x.cfgQ else x.cfgQ ++ [63] }

/-- UL_LIM_CTRL takes effect (R310, R329). -/
def State.setLimCtrl (s : State) (v : Word) : State :=
  { s with limits := { s.limits with ctrl := v, fixed := wbit v 31 } }

/-- A staged register value takes effect. -/
def State.applyReg (s : State) (off : Nat) (v : Word) : State :=
  if off = 0x400 then s.setLedgCtrl v
  else if off = 0x414 then { s with ledger := { s.ledger with treasury := v } }
  else if 0x420 ≤ off ∧ off ≤ 0x45C then { s with ledger := { s.ledger with cls := s.ledger.cls.set ((off - 0x420) / 4) v } }
  else if 0x460 ≤ off ∧ off ≤ 0x4DC then { s with ledger := { s.ledger with caps := s.ledger.caps.set ((off - 0x460) / 4) v } }
  else if off = 0x4E0 then { s with ledger := { s.ledger with hintCfg := v } }
  else if off = 0x540 then s.setLimCtrl v
  else if 0x544 ≤ off ∧ off ≤ 0x54C then { s with limits := { s.limits with win := s.limits.win.set ((off - 0x544) / 4) v } }
  else if off = 0x550 then { s with limits := { s.limits with ramp := v } }
  else if off = 0x800 then { s with eng := { s.eng with ctrl := v } }
  else if 0xB00 ≤ off ∧ off ≤ 0xBBC then s.setCellDom ((off - 0xB00) / 4) v
  else if off = 0xBC0 then s.setCellGlb v
  else if off = 0xC00 then s.setSnsCtrl v
  else if off = 0xC0C then { s with sense := { s.sense with plaus := v } }
  else if 0xC40 ≤ off ∧ off ≤ 0xCFC then s.setDscFb ((off - 0xC40) / 4) v
  else if 0xD00 ≤ off ∧ off ≤ 0xDBC then s.setDscAux ((off - 0xD00) / 4) v
  else if off = 0x1600 then s.setPaceCtrl v
  else if off = 0x1710 then { s with avs := { s.avs with ctrl := putFld s.avs.ctrl 27 16 (fld v 27 16) } }
  else s

/-- V_SET of a domain takes effect; the last value from host software is H_d of R446. -/
def State.applyVset (s : State) (d : Nat) (v : Word) (by_ : Stager) : State :=
  let host := match by_ with
    | .window | .command _ => true
    | _ => false
  let s1 := s.updDom d fun x => { x with vset := fld v 11 0, vsetOwn := true }
  if host then { s1 with policy := { s1.policy with hostV := s1.policy.hostV.set d (fld v 11 0) } } else s1

/-- A staged V_SET meets fixed-frequency mode: that of a tile domain stays as it was, and its command is refused (R310). -/
def State.commitVset (s : State) (held : Bool) (e : Staged) : State :=
  match e.key with
  | .vset d =>
    if held && isTD d then
      (match e.by_ with
        | .command x => s.finishWhere fun f => if f.x = x then some (stState, 0) else none
        | _ => s)
    else s.applyVset d e.val e.by_
  | _ => s

/-- FIX_EN alone, as FIXED_FREQ writes it (R310, R479). -/
def State.applyFixed (s : State) (v : Word) : State := s.setLimCtrl (putFld s.limits.ctrl 31 31 (fld v 0 0))

/-- One staged value takes effect. V_SET acts before the ledger composes the commit, every other value after it (R246). -/
def State.applyStaged (s : State) (e : Staged) : State :=
  match e.key with
  | .reg off => s.applyReg off e.val
  | .vset d => s.applyVset d e.val e.by_
  | .spEn d i => s.setSpEn d i e.val
  | .power _ => s
  | .fixed => s.applyFixed e.val
  | .polTreas => { s with policy := { s.policy with treas := e.val.toNat } }

/-- A V_SET takes effect with the set-points of the commit. -/
def Staged.isVset (e : Staged) : Bool := match e.key with
  | .vset _ => true
  | _ => false

/-- HINT_EN is cleared by a value of this commit. -/
def Staged.clearsHints (e : Staged) : Bool := e.key == .reg 0x400 && !wbit e.val 14

/-- The values of this commit, and those that stay for the next. -/
def State.dueStaged (s : State) : List Staged := s.ledger.staged.filter fun e => !e.late
def Ledger.restaged (x : Ledger) : Ledger :=
  { x with staged := (x.staged.filter (·.late)).map fun e => { e with late := false } }

/-! ### The snapshot image (R250, R251) -/

/-- Power in mW of 50 µW codes (R4). -/
def mwOf (x : Int) : Int := roundEven ((x : Rat) / 20)

/-- µJ of an energy tally. -/
def State.energyUj (s : State) (d : Nat) : Nat := (s.acct d).energy / 10000000
/-- The tally of some domains, µJ, modulo 2^64. -/
def State.energySum (s : State) (ds : List Nat) : Nat := (sumN (ds.map fun d => (s.acct d).energy)) / 10000000 % 2 ^ 64

/-- The domain record of the image. -/
def State.imageDomain (s : State) (d : Nat) : List Word :=
  let a := s.acct d
  let x := s.dom d
  let td := isTD d
  let armed := ((domTiles d).filter fun t => (s.tile t).armed).length
  let w5 := pack [(31, 16, toCode 16 x.hOff), (15, 13, engCode x.st),
    (12, 12, b2n (wbit (s.pub.get 0 (0x900 + 4 * d)) 27)), (11, 11, b2n a.extrap), (10, 10, b2n a.resClamp),
    (9, 9, b2n a.miss), (5, 0, if td then armed else 0)]
  [word32 (mwOf (a.purse : Int)), word32 (mwOf a.pMeas), word32 (if td then mwOf (a.pEst : Int) else 0),
    sword32 (if td then mwOf a.resid else 0), pack [(31, 12, toCode 20 (satS 20 a.iRep)), (11, 0, vCode64 a.vRep.toNat)], w5,
    pack [(23, 12, vCode64 x.tgt), (11, 0, vCodeQ x.vsetEff)], 0]
  ++ lohi (s.energyUj d) ++ [0, 0]

/-- The snapshot image of the latest commit, 2,640 words. -/
def State.image (s : State) : List Word :=
  let flags := packN [(3, 3, b2n s.ledger.vinBoost), (2, 2, b2n (s.accts.any fun e => e.2.extrap)),
    (1, 1, b2n (s.accts.any fun e => e.2.resClamp)), (0, 0, b2n (s.tiles.any fun e => e.2.miss))]
  let header : List Word := [BitVec.ofNat 32 s.ledger.epoch, pack [(15, 0, s.epochHi)], word32 (roundEven s.limits.tEff),
    word32 (mwOf (sumI (allDoms.map fun d => (s.acct d).pMeas))), word32 (mwOf (sumN (tds.map fun d => (s.acct d).pEst) : Nat)),
    pack [(23, 0, toCode 24 (satS 24 (sumI (allDoms.map fun d => (s.acct d).iRep))))]]
    ++ lohi (s.energySum allDoms) ++ [BitVec.ofNat 32 flags, pack [(10, 0, s.ledger.late)]] ++ List.replicate 6 0
  header ++ allDoms.flatMap s.imageDomain
    ++ (List.range 1024).flatMap fun t => lohi (s.tileRec t).toNat

/-- A block written to host memory. -/
def State.hostWrite (s : State) (addr : Nat) (l : List Word) : State :=
  { s with rings := { s.rings with hostOut := { addr := addr, words := l } :: s.rings.hostOut } }

/-! ### Telemetry records (R484) -/

/-- The flags of a commit: FIXED, THROT, SYMP. A quota part counts where its tile's domain is powered, as a throttle event does (R311). -/
def State.tlmCommitFlags (s : State) : Nat :=
  packN [(0, 0, b2n s.limits.fixed),
    (1, 1, b2n ((List.range 1024).any fun t => !s.tileOff t && decide (quotaPart (s.tile t).quota > 0))),
    (2, 2, b2n (decide (s.pace.qSymp > 0)))]

/-- The union of two flag sets. -/
def orFlags (a b : Nat) : Nat := ofBits ((List.range 3).filter fun i => bitAt a i || bitAt b i)

/-- A sum and count with one value more. -/
def tlmAdd (x : Int × Nat) (v : Option Int) : Int × Nat := match v with
  | some y => (x.1 + y, x.2 + 1)
  | none => x

/-- A mean of a sum and count. -/
def tlmMean (x : Int × Nat) : Option Int := if x.2 = 0 then none else some (divEven x.1 x.2)

/-- The data epoch just accounted enters the means of its interval. -/
def State.tlmAccount (s : State) : State :=
  s.forEach allDoms fun s d => s.updAcct d fun a =>
    let h := a.hist.getD 0 (none, none, none)
    { a with tlmV := tlmAdd a.tlmV h.1, tlmI := tlmAdd a.tlmI h.2.1, tlmP := tlmAdd a.tlmP (some a.pMeas) }

/-- The metered epoch just ended enters the sums of the meter (R293, R484). -/
def State.tlmMeter (s : State) (metered : Bool) : State :=
  let r := s.rings
  if metered then { s with rings := { r with tlmN := r.tlmN + 1, tlmPin := r.tlmPin + s.limits.pinLast, tlmPout := r.tlmPout + s.limits.pOut,
                                             tlmIout := r.tlmIout + s.limits.iOut } }
  else s

/-- Commit 500 r closes the meter's part of an interval. -/
def State.tlmClose (s : State) : State :=
  let r := s.rings
  let m : TlmMeter := { n := r.tlmN, flags := r.tlmFlags, restart := r.tlmRestart, pin := r.tlmPin, pout := r.tlmPout, iout := r.tlmIout,
                        pG := s.limits.pG, treas := s.limits.tEff }
  { s with rings := { r with tlmLast := some m, tlmN := 0, tlmPin := 0, tlmPout := 0, tlmIout := 0, tlmFlags := 0, tlmRestart := false } }

/-- A mean of the meter, 0 where nothing was metered. -/
def meterMean (x : Rat) (n : Nat) : Rat := if n = 0 then 0 else x / (n : Rat)

/-- The words of a record, without PHASE (R484). -/
def State.tlmWords (s : State) (m : TlmMeter) (tseq epoch : Nat) : List Word :=
  let restart := m.restart
  [BitVec.ofNat 32 tseq, BitVec.ofNat 32 epoch, pack [(31, 16, m.n), (15, 0, epoch / 2 ^ 32)],
    pack [(31, 24, s.rings.dropped), (3, 1, m.flags), (0, 0, b2n restart)],
    word32 (roundEven (meterMean m.pin m.n)), word32 (roundEven (meterMean m.pout m.n)), s.therm.hot &&& 0xFFFF07FF, 0]
  ++ (allDoms.map fun d =>
      let a := s.acct d
      pack [(31, 20, vCode64 ((tlmMean a.tlmV).getD 0).toNat), (19, 0, toCode 20 (satS 20 ((tlmMean a.tlmI).getD 0)))])
  ++ lohi (s.energySum allDoms) ++ lohi (s.energySum tds) ++ lohi (s.energySum sds)
  ++ [word32 (roundEven m.pG), word32 (roundEven m.treas)]

/-- Commit 500 r + 3, or the first after it: the record enters the FIFO of 2, or is dropped; the means stay for PMBus, and the next interval begins
(R469, R484, R498). -/
def State.tlmRecord (s : State) (epoch : Nat) : State :=
  match s.rings.tlmLast with
  | none => s
  | some m =>
    let room := decide (s.rings.tlmOut.length < 2) && s.ringsOn
    let w := s.tlmWords m s.rings.tseq epoch
    let s1 := { s with rings := { s.rings with
        tseq := (s.rings.tseq + 1) % 2 ^ 32
        tlmOut := if room then s.rings.tlmOut ++ [w] else s.rings.tlmOut
        dropped := if room then 0 else incSat 255 s.rings.dropped
        tlmDrop := if room then s.rings.tlmDrop else incSat 255 s.rings.tlmDrop
        tlmLast := none
        pubPin := meterMean m.pin m.n
        pubPout := meterMean m.pout m.n
        pubIout := meterMean (m.iout : Int) m.n
        pubHot := s.therm.hot
        pubVin := s.limits.vIn } }
    s1.forEach allDoms fun s d => s.updAcct d fun a =>
      { a with pubV := tlmMean a.tlmV, pubI := tlmMean a.tlmI, pubP := tlmMean a.tlmP, tlmV := (0, 0), tlmI := (0, 0), tlmP := (0, 0) }

/-! ### The steps of a commit -/

/-- The number of the commit and its tick: 0 at the first of a cold start; 8 ticks after the last; or, after a fast-side reset, at the count
that the watch clock has reached (R7, R278, R511). -/
def State.nextCommit (s : State) : Nat × Nat :=
  if s.ledger.first then (0, s.clk.watch + 1)
  else if s.ledger.running then (s.ledger.epoch + 1, s.clk.commitTick.getD s.clk.watch + 8)
  else
    let k := max 1 ((s.clk.watch - s.start.countTick) / 8)
    (s.ledger.epoch + k, s.start.countTick + 8 * k)

/-- The commit that ends a telemetry interval fell into a fast-side reset: no record is formed, and the next interval begins afresh. -/
def State.tlmMissed (s : State) : State :=
  { s with
    rings := { s.rings with tlmN := 0, tlmPin := 0, tlmPout := 0, tlmIout := 0, tlmFlags := 0, tlmRestart := true }
    accts := s.accts.map fun (e : Nat × DomAcct) => (e.1, { e.2 with tlmV := (0, 0), tlmI := (0, 0), tlmP := (0, 0) }) }

/-- The counts of a new epoch (R245, R249, R511, R517). -/
def State.openEpoch (s : State) : State :=
  let c := s.nextCommit
  let n := c.1 % 2 ^ 48
  let skipped := if s.ledger.first || s.ledger.running then 0 else c.1 - s.ledger.epoch
  let s0 := if skipped = 0 then s else s.unmetered skipped
  let s1 := if skipped > 1 ∧ (c.1 - 1) / 500 > s.ledger.epoch / 500 then s0.tlmMissed else s0
  { s1 with
    ledger := { s1.ledger with
      epoch := n
      first := false
      running := true
      cutoff := false
      recCut := false
      sinceStart := incSat 4 s1.ledger.sinceStart
      freezeN := if s1.ledger.frozen then s1.ledger.freezeN + max 1 skipped else 0 }
    clk := { s1.clk with
      watch := max s1.clk.watch c.2
      commitTick := some c.2
      commit16 := n % 65536 } }

/-- A new table comes into use; domains in RUN below their new V_MIN are raised to it, but for a tile domain whose V_SET fixed-frequency
mode holds (R310, R436, R438, R463). -/
def State.vtUse (s : State) (held : Bool) : State :=
  match s.warden.vtNew with
  | none => s
  | some (t, seq) =>
    let s1 := { s with warden := { s.warden with vtNew := none, vtUse := t, vtSeq := seq, vtSrc := 0 } }
    s1.forEach allDoms fun s d =>
      if (s.dom d).st = .run ∧ (s.dom d).vset < s.vMin d ∧ (held && isTD d) = false then
        (s.updDom d fun x => { x with vset := s.vMin d, vsetOwn := true }).pushEvent (evDomain 2 d (s.vMin d))
      else s

/-- FIX_EN as this commit leaves it. -/
def State.fixAfter (s : State) (due : List Staged) : Bool :=
  due.foldl (fun b e => match e.key with
    | .reg 0x540 => wbit e.val 31
    | .fixed => fld e.val 0 0 == 1
    | _ => b) s.limits.fixed

/-- The set-points, records and table of a commit (R158, R178, R245, R310, R438). -/
def State.setPoints (s : State) (due : List Staged) : State :=
  let held := s.limits.fixed && s.fixAfter due
  let s1 := (due.filter Staged.isVset).foldl (fun s e => s.commitVset held e) s
  let s2 := s1.forEach allDoms State.lawActivate
  let s3 := s2.vtUse held
  if due.any Staged.clearsHints then { s3 with tiles := s3.tiles.map fun (e : Nat × Tile) => (e.1, e.2.clearHints) } else s3

/-- The data epoch accounted, and the hints (R250, R257, R272). -/
def State.ledgerData (s : State) (n : Nat) : State :=
  let s0 := if n % 500 ≥ 3 then s.tlmRecord (n / 500 * 500) else s
  let s1 := if s0.ledger.sinceStart < 4 then s0 else (s0.account).tlmAccount
  let s2 := { s1 with
    tiles := s1.tiles.map fun (e : Nat × Tile) => (e.1, e.2.shift)
    ledger := { s1.ledger with lateRdy := s1.ledger.lateNew } }
  s2.forEach (List.range 1024) fun s t => s.hintCommit n t

/-- The packets taken at a commit, which the epoch it opens processes under the parameters committed at it (R246, R271). -/
def State.packetCommit (s : State) (n : Nat) : State := s.forEach (List.range 1024) fun s t => s.takePackets n t

/-- Allowances, quotas and the meter (R263 to R269, R292 to R311). `fix` is the value of FIX_EN from this commit on. -/
def State.ledgerCompose (s : State) (n : Nat) (fix metered : Bool) : State :=
  let s1 := (s.splitCommit).floorMissCommit
  let enter := fix && !s1.limits.fixed
  let s2 := { s1 with limits := { s1.limits with fixed := fix } }
  let s3 := s2.quotaCommit n (s2.stopq.active && !s2.stopq.abandon) enter
  let s4 := if metered then s3.meterEpoch else s3
  let s5 := if n % 500 = 0 ∧ n > 0 then (s4.tlmMeter metered).tlmClose else s4.tlmMeter metered
  { s5 with rings := { s5.rings with tlmFlags := orFlags s5.rings.tlmFlags s5.tlmCommitFlags } }

/-- What hints ask of the engine, the cells and the feed converters (R273 to R275). -/
def State.hintEffects (s : State) : State :=
  let s1 := s.forEach allDoms fun s d => s.updDom d fun x => { x with hOff := s.hOff d }
  (s1.forEach tds State.armCommit).boostCommit

/-- The registers of a commit, the reference, restored points, tallies, the round and the sequences that the commit triggers
(R205, R213, R219, R220, R227). -/
def State.registerCommit (s : State) (due : List Staged) (n : Nat) : State :=
  let s1 := (due.filter fun e => !e.isVset).foldl State.applyStaged s
  let s2 := (s1.refCommit).restoreCommit
  let s3 := if n % 500 = 0 then s2.roundClose n else s2
  let s4 := (s3.tallyCommit n).trigSource 2
  { s4 with
    sense := { s4.sense with timerOn := decide (fld s4.sense.ctrl 31 16 ≠ 0) }
    dscs := s4.dscs.map fun (e : Nat × Dsc) =>
      (e.1, { e.2 with quietPts := (e.2.quietPts.map fun q => (q.1, q.2.1 - 1, q.2.2)).filter fun q => decide (q.2.1 > 0) }) }

/-- A cross-row loan of a degraded chain is recalled (R135). -/
def State.degradedRecall (s : State) (c : Nat) : State :=
  if (s.chain c).st ≠ .degraded || (s.chain c).loan.isSome then s
  else match (s.lentCells.filter fun i => chainOf i == c && facing i / 4 != c) with
    | i :: _ => if s.recallCheck i = stOk then s.loanAccept i true false .loan else s
    | [] => s

/-- The commit of a cell's audit, if it still runs. -/
def State.auditTurn (t : State) (cell : Nat) : State :=
  match t.flt.audits.find? (·.cell == cell) with
  | some b => t.auditCommit b
  | none => t

/-- The masters, loans, starts and audits at a commit (R106, R126, R128, R169, R378, R413, R414). -/
def State.chainCommit (s : State) : State :=
  let s1 := s.forEach (List.range 8) fun s c => (s.loanCommit c).degradedRecall c
  let s2 := s1.forEach allDoms State.startCommit
  let s3 := if s2.adopting then s2 else s2.flt.audits.foldl (fun t a => t.auditTurn a.cell) s2
  let older (l : List Order) : List Order := l.map fun o => { o with age := o.age + 1 }
  let s4 := s3.forEach (List.range 8) fun s c => s.updChain c fun x => { x with
    wardenQ := older x.wardenQ
    cmdQ := older x.cmdQ
    cfgAge := x.cfgAge.map fun e => (e.1, e.2 + 1)
    l2 := 0
    crcEpoch := 0 }
  { s4 with lanes := s4.lanes.map fun (e : Nat × Lane) => (e.1, { e.2 with wait := e.2.wait.map fun p => (p.1, p.2.1, p.2.2 + 1) }) }

/-- A one-domain stage of 100 epochs that ends without RUN gives its domain up (R381, R392, R479). -/
def State.soloCommit (s : State) (d : Nat) : State :=
  match (s.dom d).soloStage with
  | none => s
  | some k =>
    if k > 1 then s.updDom d fun x => { x with soloStage := some (k - 1) }
    else if (s.dom d).st = .start then
      s.giveUp d (if (s.roleCells d).any fun i => (s.cell i).mode == .fall then 1 else 5)
    else s.updDom d fun x => { x with soloStage := none }

/-- Start-up, adoption, abandonment and stop at a commit (R354, R377, R381, R388, R565). -/
def State.sequenceCommit (s : State) : State :=
  let s1 := (s.adoptCommit).abandonCommit
  let s2 := if s1.adopting then s1 else s1.forEach allDoms fun s d => (s.rejoinCommit d).soloCommit d
  let s3 := s2.forEach allDoms State.stoppedOff
  { s3 with start := { s3.start with stageCommits := s3.start.stageCommits + 1 } }

/-- What an epoch leaves to the next: extrapolation flags, powered tiles, the feed converter reads of the round, the clock caps
(R40, R262, R295, R435, R455, R502). -/
def State.epochEnd (s : State) (n : Nat) : State :=
  let s1 := { s with accts := s.accts.map fun (e : Nat × DomAcct) => (e.1, { e.2 with extrap := e.2.extrapC, extrapC := false }) }
  let s2 := s1.forEach (List.range 1024) fun s t =>
    let st := (s.dom (tileDom t)).st
    s.updTile t fun x => { x with unpowered := st == .off || st == .start }
  let s3 := if n % 50 = 0 then (s2.kInRound).forEach (List.range 4) fun s k => s.avsIssue k .readCur false else s2
  let s4 := if n % 500 = 0 then
      s3.forEach (List.range 4) fun s k => ((s.avsIssue k .readVolt false).avsIssue k .readTemp false).avsIssue k .readStatus false
    else s3
  ({ s4 with warden := { s4.warden with fcap := Tab.ofFn tds s4.fcapOf } }).stateBlockTurn

/-- The captures of READ_TALLY with CLEAR: 32 bytes a tally (R480). -/
def tallyWords (t : TallyCopy) : List Word :=
  lohi (toCode 64 t.sum) ++ [BitVec.ofNat 32 t.count, sword32 t.min, sword32 t.max, tflags t, 0, 0]

/-- The copy of a tally that the commit of an epoch publishes. -/
def State.tallyAt (s : State) (conv t epoch : Nat) : TallyCopy :=
  let x := s.tally conv t
  if conv < 48 then tallyPublished (s.dsc conv).tclose epoch x
  else if epoch % 500 = 0 ∧ s.sense.roundOn ∧ (s.hkc (conv - 48)).inRound then (x.close epoch).done else x.done

/-- READ_TALLY with CLEAR that waits for this commit writes its captures (R480). -/
def State.tallyCaptures (s : State) (n : Nat) : State :=
  s.rings.flights.foldl (fun s f => match f.waits with
    | .tallyClear conv mask addr ok =>
      if ok then s.hostWrite addr ((setBits 16 mask).flatMap fun t => tallyWords (s.tallyAt conv t n)) else s
    | _ => s) s

/-- The laws that commands staged and this commit made active. -/
def State.lawsDue (s : State) : List (Nat × CmdCtx × Nat) :=
  allDoms.filterMap fun d => match (s.dom d).staged with
    | some r => (match r.path with
      | .command x => if r.late then none else some (d, x, lawTag r.image)
      | _ => none)
    | none => none

/-- The commands that finish at this commit, in the order of acceptance; the others of the same kind wait for the next one
(R472, R478, R483). -/
def State.finishCommit (s : State) (laws : List (Nat × CmdCtx × Nat)) : State :=
  let img := s.image
  let snaps := s.rings.flights.filterMap fun f => match f.waits with
    | .snapshot a => some a
    | _ => none
  let s1 := snaps.foldl (fun s a => s.hostWrite a img) s
  let s2 := s1.finishWhere fun f => match f.waits with
    | .commit false => some (stOk, f.data)
    | .snapshot _ => some (stOk, 0)
    | .tallyClear _ mask _ ok => some (if ok then stOk else stHostMem, if ok then (setBits 16 mask).length else 0)
    | .law d => (laws.find? fun e => e.1 == d && e.2.1 == f.x).map fun e => (stOk, e.2.2 * 2 ^ 16)
    | _ => none
  let next (f : Flight) : Flight := if f.waits = .commit true then { f with waits := .commit false } else f
  { s2 with rings := { s2.rings with flights := s2.rings.flights.map next } }

/-- The registers that the commit publishes (R244, R249); a round's own word stands from its end. -/
def State.publish (s : State) : State :=
  { s with pub := s.commitRegs.foldl (fun t e => t.set e.1 e.2) s.pub }

/-- The offsets that the policy core's mirror holds (R444). -/
def mirrorOffs : List Nat := ((List.range 0x5C0).map (4 * ·)).filter assigned

/-- The mirror takes the registers as the commit leaves them (R522). -/
def State.mirrorCommit (s : State) : State := { s with policy := { s.policy with mirror := Tab.ofFn mirrorOffs s.readReg } }

end Sys2Proof.Machine
end

