-- ==== Sys2Proof/Machine/Start.lean ====
section
/-! DEFINITION. The commands of power and start-up (R20 to R32, R370 to R386, R512, R565), from AON_POWER_UP to START_ABANDON, except
warden boot and reconcile, and the completion of a loan (R128). -/

namespace Sys2Proof.Machine

/-! ### AON power (R20, R21, R31, R357) -/

/-- AON_POWER_UP: everything but the fuses and the vault stands at its power-on value; SLOT_ID is latched. -/
def execAonPowerUp (slot : BitVec 6) (s : State) : Out :=
  if s.start.aon then .next s
  else .next { State.reset with
    otp := s.otp
    warden := { State.reset.warden with vault := s.warden.vault }
    start := { State.reset.start with aon := true, slot := slot.toNat }
    freeCtr := s.freeCtr
    pending := s.pending }

/-- A stop record in progress is finished in the hold-up time: the open part, cause PWR added, and the seal with the stage reached (R21,
R357, R565). -/
def State.sealAtFall (s : State) : State :=
  if !s.stopq.active then s
  else
    let s1 := { s with stopq := { s.stopq with cause := orCause s.stopq.cause causePwr } }
    s1.stopWriteSeal (if s1.stopq.abandon then 1 else s1.stopq.stage) s1.offDomains

/-- AON_POWER_FALL: the record in progress is finished; then only the vault and the fuses keep anything, and the cells are unpowered. -/
def execAonPowerFall (s : State) : Out :=
  if !s.start.aon then .next s
  else
    let s1 := s.sealAtFall
    .next { State.reset with
      otp := s.otp
      warden := { State.reset.warden with vault := s1.warden.vault }
      freeCtr := s.freeCtr
      pending := s.pending }

/-! ### PWR_OK and the stagger (R29 to R32, R386) -/

/-- PWR_OK_RISE: the slot stagger begins. -/
def execPwrOkRise (s : State) : Out :=
  if !s.start.aon || s.start.pwrOk then .next s
  else
    let s1 := { s.wakeWarden with start := { s.start with pwrOk := true } }
    .next (if s1.start.step = .waitPwr then { s1 with start := { s1.start with step := .stagger } } else s1)

/-- The warden is told of PWR_OK low before any domain has started: back to waiting (R29, R357). -/
def State.backToWait (s : State) : State :=
  match s.start.step with
  | .stagger | .aonUp | .wardenBoot | .reconcile => { s with start := { s.start with step := .waitPwr, reconciled := false } }
  | _ => s

/-- PWR_OK_FALL (R29, R30, R357). -/
def execPwrOkFall (s : State) : Out :=
  if !s.start.aon || !s.start.pwrOk then .next s
  else
    let s1 := { s.wakeWarden with start := { s.start with pwrOk := false } }
    settle s (if s1.stopq.active then s1.stopAddCause causePwr
      else if s1.anyStarted then s1.stopCause causePwr
      else s1.backToWait)

/-- STAGGER_END: the trigger of R370. After a restart the start-up goes on at step 3 (R386). -/
def execStaggerEnd (s : State) : Out :=
  if s.start.step ≠ .stagger then .next s
  else .next { s with
    start := { s.start with
      step := if s.start.restartWait then .reconcile else .aonUp
      restartWait := false
      reconciled := false
      trigger := s.clk.watch
      fail := 0
      miss := 0
      stage := 0
      staged12 := false }
    clk := { s.clk with warden := true } }

/-- AON_UP_END: warden boot begins. -/
def execAonUpEnd (s : State) : Out :=
  if s.start.step = .aonUp then .next { s with start := { s.start with step := .wardenBoot } } else .next s

/-! ### The SD14 bootstrap (R352, R370 step 4, R372 to R375, R551) -/

/-- Step 4 begins: everything of the control-clock range and of the SD13 blocks starts at its Reset column, and CELL_RST is asserted
(R372, R533). -/
def State.beginStep4 (s : State) : State :=
  let s1 := s.coldReset
  { s1 with
    policy := { s1.policy with lowered := [], hostLim := [], hostV := [] }
    start := { s1.start with step := .bootstrap, reconciled := false, cellRst := true }
    warden := { s1.warden with fcap := [] } }

/-- Step 4 waits for step 3, for FLOW_OK and for the TAP to leave the pins (R352, R551). -/
def State.tryStep4 (s : State) : State :=
  if s.start.step == .reconcile && s.start.reconciled && s.start.flowOk && s.start.pwrOk && !s.tapHeld then s.beginStep4 else s

/-- A cell in OFF without an address takes its boot role at the rise of BOOT: MEASURE on its own oscillator, with the values of R373. -/
def bootRole (c : Cell) : Cell :=
  if c.mode = .off ∧ c.addr = none ∧ c.bootUsed = false then
    let k := Config.bootCoef
    enterMeasure 51200 { c with
      boot := true
      bootUsed := true
      trim := 0
      cfg := { vMax := 32, aMax := 40, jMax := 25 }
      k0 := k.1
      k1 := k.2.1
      k2 := k.2.2 }
  else c

/-- CELL_RST_END: the warden raises BOOT. -/
def execCellRstEnd (s : State) : Out :=
  if !s.start.cellRst then .next s
  else
    let s1 := { s with start := { s.start with cellRst := false, boot := true } }
    settle s (s1.forEach bootCells fun s i => s.updCell i bootRole)

/-- BOOT_FALL: each cell still in its boot role ramps to 0 (R373, R376). -/
def execBootFall (s : State) : Out := if s.start.boot then settle s s.lowerBoot else .next s

/-- SD14_GOOD: the fast side leaves reset and the PLL is enabled. -/
def execSd14Good (s : State) : Out :=
  if s.start.step ≠ .bootstrap || !s.start.boot || s.stopq.active then .next s
  else .next { s with
    start := { s.start with step := .pllLock }
    clk := { s.clk with pllOn := true, pllTick := s.clk.watch } }

/-- SD14_TIMEOUT: BOOT is lowered and the record begins; it is sealed when the rail is down (R383). -/
def execSd14Timeout (s : State) : Out :=
  if s.start.step ≠ .bootstrap || s.stopq.active then .next s else settle s ((s.abandonBoot 2).lowerBoot)

/-! ### The PLL (R383, R512, R513) -/

/-- Enumeration of all eight chains begins; every domain's V_SET is its V_START (R118, R370). -/
def State.enumerate (s : State) : State :=
  let s1 := s.forEach (List.range 8) fun s c => s.updChain c fun x => { x with st := .enumerating, enumPos := 0, taken := [], enumDone := false }
  s1.forEach allDoms fun s d => s.updDom d fun x => { x with vset := s.vStart d }

/-- The warden stages the law record of every domain, which passes R157 like any other, alongside step 7 (R157, R158, R370). -/
def State.loadLaws (s : State) : State :=
  s.forEach allDoms fun s d =>
    let l := s.otp.law.getD d []
    if s.lawFaults d l = [] then s.stageLaw d l .warden else s

/-- PLL_LOCK: the control clock and CELLSYNC run; at the first lock of a start enumeration begins, and commit 0 follows (R512). -/
def execPllLock (s : State) : Out :=
  if !s.clk.pllOn || s.clk.lock then .next s
  else
    let s1 := { s with clk := { s.clk with
      lock := true
      csync := true
      everLock := true
      lockUs := min 65535 (ticksUs (s.clk.watch - s.clk.pllTick)) } }
    if s.start.step = .pllLock then settle s (({ s1 with start := { s1.start with step := .enumeration } }).enumerate) else settle s s1

/-- PLL_LOCK_TIMEOUT: the PLL does not lock, or not again, before READY: BOOT is lowered and the record names PLL (R383). -/
def execPllLockTimeout (s : State) : Out :=
  if s.clk.lock || !s.clk.pllOn then .next s
  else if s.start.step = .pllLock then
    if s.stopq.active then .next s else settle s ((s.abandonBoot 3).lowerBoot)
  else if s.stopq.active && s.stopq.abandon then
    settle s ({ s with start := { s.start with fail := 3 } }).lowerBoot
  else .next s

/-- PLL_LOSS: the control clock and CELLSYNC stop; the source is raised unless stage 4 of a stop has begun (R513). -/
def execPllLoss (s : State) : Out :=
  if !s.clk.lock then .next s
  else
    let s1 := { s with clk := { s.clk with lock := false, csync := false } }
    if s.stopq.active && decide (s.stopq.stage ≥ 4) then .next s1
    else
      let s2 := { s1 with clk := { s1.clk with lockLoss := incSat 255 s1.clk.lockLoss, pllTick := s1.clk.watch } }
      settle s (s2.raise 36 0)

/-! ### Reference and staging (R219, R371, R376 to R383) -/

/-- REFERENCE_CHECK_END: REF_RDY is 1, the law records are staged, and staging begins at the next commit (R370 step 7). -/
def execReferenceCheckEnd (s : State) : Out :=
  if s.start.step ≠ .reference || s.stopq.active then .next s
  else
    let s1 := s.loadLaws
    settle s { s1 with
      sense := { s1.sense with refRdy := true }
      start := { s1.start with step := .staging, stage := 0, stageDue := true } }

/-- REF_TIMEOUT: the check of a row has failed, REF_FAIL is raised, and start-up is abandoned with REF (R219, R383). -/
def execRefTimeout (row : HkcIx) (s : State) : Out :=
  if s.start.step ≠ .reference || s.sense.refRdy || s.stopq.active then .next s
  else settle s (({ s with sense := { s.sense with refFail := true } }.raise 23 row).abandonStart causeFault 5)

/-- SD13 starts: the ring logic and the pace logic stand at their Reset column (R533 code S); the event out FIFO keeps its records (R490). -/
def State.sd13Start (s : State) : State :=
  { s with
    pace := { lock := s.pace.lock, tx := s.pace.tx }
    pub := s.pub.filter fun e => e.1 != 0x1604 && e.1 != 0x1608
    rings := { s.rings with
      ctrl := 0x00000A07
      armed := false
      cr := []
      pr := []
      err := 0
      errCode := 0
      tlmDrop := 0
      underTrap := false
      underCmd := false
      intake := []
      badChain := [] } }

/-- A domain is started with its V_START (R377), or with the V_SET committed since the cold start, which STOP and OFF keep (R174). A lane
pair that is frozen starts none of its domains (R183). -/
def State.beginDomain (s : State) (d : Nat) : State :=
  if (s.lane (laneOf d)).out then s
  else
    let s1 := if d = sd 13 then s.sd13Start else s
    (s1.updDom d fun x => { x with vset := if x.vsetOwn then x.vset else s.vStart d }).domStart d

/-- STAGE_BEGIN: the domains of the next stage enter START; in stage 1 SD14 is adopted as well (R376, R377). -/
def execStageBegin (s : State) : Out :=
  let k := s.start.stage + 1
  if s.start.step ≠ .staging || !s.start.stageDue || k > 12 || s.stopq.active || !s.fastUp then .next s
  else
    let s1 := { s with start := { s.start with stage := k, stageDue := false, stageCommits := 0 } }
    let s2 := if k = 1 then s1.rejoinBegin (sd 14) else s1
    settle s ((stageDoms k).foldl (fun s d => if s.stopq.active then s else s.beginDomain d) s2)

/-- Why a domain that is not in RUN at the end of its stage is given up: a cell still in FALL, or too slow (R381). -/
def State.slowReason (s : State) (d : Nat) : Nat := if (s.roleCells d).any fun i => (s.cell i).mode == .fall then 1 else 5

/-- STAGE_END: the commit that ends a stage gives up its domains that are still in START, and SD14 if it is not adopted (R381). -/
def execStageEnd (s : State) : Out :=
  if s.start.step ≠ .staging || s.start.stage = 0 || s.start.stageDue || s.start.staged12 || decide (s.start.stageCommits < 100) || s.stopq.active
  then .next s
  else
    let late := (stageDoms s.start.stage).filter fun d => (s.dom d).st == .start
    let sd14 := s.start.stage == 1 && ((s.dom (sd 14)).st == .hold || (s.dom (sd 14)).st == .adopt)
    let s1 := (late ++ if sd14 then [sd 14] else []).foldl (fun s d => if s.stopq.active then s else s.giveUp d (s.slowReason d)) s
    settle s (if s1.stopq.active then s1
      else if s1.start.stage = 12 then { s1 with start := { s1.start with staged12 := true } }
      else { s1 with start := { s1.start with stageDue := true } })

/-- The audits that each shed cell is given at READY; they hold no incident open (R415). -/
def State.recheckShed (s : State) : State :=
  let l := s.flt.shed.filter fun i => !(s.flt.audits.any fun a => a.cell == i)
  { s with flt := { s.flt with audits := s.flt.audits ++ l.map fun i => { cell := i, src := 8, counted := true, wasOut := true } } }

/-- READY: at the commit that ends stage 12 (R301, R384, R394, R415). -/
def execReady (s : State) : Out :=
  if s.start.step ≠ .staging || !s.start.staged12 || s.stopq.active then .next s
  else
    let us := min 65535 (ticksUs (s.clk.watch - s.start.trigger))
    let s1 := { s with
      start := { s.start with step := .ready, ready := true, readyUs := us, stage := 0, patchEvent := false }
      limits := { s.limits with govOn := true, pG := s.limits.pinLast }
      flt := if s.flt.recoverAtReady then { s.flt with recoverAtReady := false, quiet := if s.flt.st = FltSt.recovering then some s.clk.watch else s.flt.quiet } else s.flt }
    let s2 := s1.pushEvent (evReady us s.start.miss.toNat)
    let s3 := if s.start.patchEvent then s2.pushEvent (evWarden 0 (s2.readReg 0x18A0).toNat) else s2
    let s4 := s3.recheckShed
    settle s (if s4.paceEn && s4.pace.lock then s4.paceDiscover else s4)

/-- START_ABANDON: the commit at which an abandonment begins (R565). While the control clock has not yet run there is no commit, and no
domain but SD14 has begun to start: the warden lowers BOOT at once. -/
def execStartAbandon (s : State) : Out :=
  if s.start.abandonDue && s.stopq.active && (s.fastUp || !s.clk.everLock) then settle s s.abandonBegin else .next s

/-! ### The end of a loan (R128 step 10, R130, R274, R413) -/

/-- LOAN_COMPLETE: commit E + 6, or the first after it at which the cell has joined. -/
def execLoanComplete (c : ChainIx) (s : State) : Out :=
  match (s.chain c).loan with
  | none => .next s
  | some l =>
    if decide (l.commits < 6) || !(l.step == .confirmed || l.step == .joined) then .next s
    else
      let s1 := if l.step = .confirmed then s.loanJoin c l else s
      let s2 := (s1.loanEnd c l stOk).updAcct l.target fun a => { a with rearm := true }
      let wait := s2.flt.audits.find? fun a => l.cover && !l.recalling && a.st == .covering l.cell
      s.fast (match wait with
        | some a => s2.auditTest a.cell
        | none => if l.cover && l.recalling then s2.coverDone l.cell else s2)

/-! ### Cell audits out of time (R413, R414) -/

/-- SELFTEST_TIMEOUT: no bitmap came; lasting. The cell is stopped, and a swing cell isolated once it shows OFF. -/
def execSelftestTimeout (i : CellIx) (s : State) : Out :=
  match s.flt.audits.find? fun a => a.cell == i.val with
  | none => .next s
  | some a =>
    if a.st ≠ .testing then .next s
    else
      let s1 := (s.queueOrder i 2 0 .audit).auditLasting a
      settle s (if (swingNo i).isSome then s1.updAudit i fun x => { x with st := .stopping, counted := true } else s1.dropAudit i)

/-- AUDIT_DEFER_LIMIT: deferred for 500 epochs: counted, and the incident is held open no longer. -/
def execAuditDeferLimit (i : CellIx) (s : State) : Out :=
  match s.flt.audits.find? fun a => a.cell == i.val with
  | none => .next s
  | some a =>
    if a.st ≠ .waiting || a.limit || decide (a.deferred < 500) then .next s
    else
      let s1 := s.updAudit i fun x => { x with
        counted := true
        limit := true }
      settle s { s1 with flt := { s1.flt with
        shedDefer := incSat 255 s1.flt.shedDefer
        inc := if s1.flt.inc.open_ && !a.counted then { s1.flt.inc with audits := s1.flt.inc.audits - 1 } else s1.flt.inc } }

end Sys2Proof.Machine
end

