-- ==== Sys2Proof/Machine/Stop.lean ====
section
/-! DEFINITION. The commands of coolant, comparators and the stop sequence (R349 to R362): trips, FLOW_OK, commit s, the stages, the
record and the quiet period of a restart. -/

namespace Sys2Proof.Machine

/-! ### Comparators (R349, R361) -/

/-- COMP_TRIP: comparator n trips, stop cause COMP; while the controller is stopped the quiet period stands at 0 (R357, R361). -/
def execCompTrip (n : Fin 64) (s : State) : Out :=
  if !s.start.aon || s.stopq.tripped.contains n.val then .next s
  else settle s (({ s.wakeWarden with stopq := { s.stopq with tripped := s.stopq.tripped ++ [n.val] } }).stopCause causeComp)

/-- COMP_CLEAR: a tripped comparator clears; the quiet period is counted from the last of them (R361). -/
def execCompClear (n : Fin 64) (s : State) : Out :=
  if !s.stopq.tripped.contains n.val then .next s
  else
    let s1 := { s with stopq := { s.stopq with tripped := s.stopq.tripped.filter (· != n.val) } }
    settle s (if s1.stopped then s1.quietRestart else s1)

/-! ### FLOW_OK (R351, R352, R369) -/

/-- FLOW_OK_FALL: a stop cause while any domain is on, an abandonment in start-up once a domain has started; the quiet count stands at 0 and
a start-up that has started none waits (R351, R352, R361). -/
def execFlowOkFall (s : State) : Out :=
  if !s.start.aon || !s.start.flowOk then .next s
  else
    let s1 := { s.wakeWarden with
      start := { s.start with flowOk := false }
      stopq := { s.stopq with fallCnt := incSat 65535 s.stopq.fallCnt } }
    settle s (if s1.stopq.active then s1.stopAddCause causeFlow
      else if s1.anyStarted then s1.stopCause causeFlow
      else if s1.stopped then s1.quietRestart
      else s1)

/-- FLOW_OK_RISE: the quiet period is counted from here, and a start-up that waited goes on (R352, R361). -/
def execFlowOkRise (s : State) : Out :=
  if !s.start.aon || s.start.flowOk then .next s
  else
    let s1 := { s.wakeWarden with start := { s.start with flowOk := true } }
    settle s (if s1.stopped then s1.quietRestart else s1.tryStep4)

/-- FLOW_OK_GLITCH: a low shorter than 20 µs is counted and otherwise ignored. -/
def execFlowOkGlitch (s : State) : Out :=
  if !s.start.aon || !s.start.flowOk then .next s
  else .next { s with stopq := { s.stopq with glitchCnt := incSat 65535 s.stopq.glitchCnt } }

/-! ### The sequence (R354 to R358) -/

/-- STOP_SEQUENCE: the first commit after the trigger, commit s (R354 step 2). The latch of the cause, THERMTRIP_N and the opening of the
record came with the cause itself. -/
def execStopSequence (s : State) : Out :=
  if s.stopq.active && s.stopq.pending && s.fastUp then settle s s.stopCommitS else .next s

/-- The commits, from commit s, at which stages 1 to 4 begin (R354, R355). -/
def stageCommit (k : Nat) : Nat := [1, 27, 53, 79].getD (k - 1) 0

/-- STOP_STAGE: the next stage begins at its commit (R355, R356). -/
def execStopStage (s : State) : Out :=
  let k := s.stopq.stage + 1
  match s.stopq.commits with
  | none => .next s
  | some n =>
    if !s.stopq.active || s.stopq.abandon || s.stopq.late || k > 4 || decide (n < stageCommit k) || !s.fastUp then .next s
    else settle s (s.stopStageBegin k)

/-- RECORD_OPEN_WRITTEN: what is left of the open part is in the vault (R358). -/
def execRecordOpenWritten (s : State) : Out :=
  if !s.stopq.active || s.stopq.openDone then .next s
  else
    let s1 := s.vaultFlush (stopRecNo s.stopq.slot)
    .next { s1 with stopq := { s1.stopq with openDone := true } }

/-- SD14_OFF_SEEN: SD14 is confirmed OFF by the AON monitor, the record is sealed, and the controller is stopped (R354 steps 9 and 10, R359,
R360, R565). -/
def execSd14OffSeen (s : State) : Out :=
  if !s.stopq.active || !(s.stopq.stage == 4 || s.stopq.abandon || s.stopq.late) then .next s
  else
    let s1 := s.updDom (sd 14) fun x => { x with st := .off }
    let clean := allDoms.all fun d => (s1.dom d).st == .off
    settle s (s1.sealAndStop (if s.stopq.abandon && !clean then 1 else 5)
      (if s.clk.everLock then s1.offDomains else orBit 0 (sd 14)))

/-- QUIET_PERIOD_END: FLOW_OK has been high and no comparator tripped for 2 s (R361). -/
def execQuietPeriodEnd (s : State) : Out :=
  match s.stopq.quiet with
  | none => .next s
  | some _ => settle s { s with stopq := { s.stopq with quiet := none, quietOk := true } }

end Sys2Proof.Machine
end

