-- ==== Sys2Proof/Machine/Adopt.lean ====
section
/-! DEFINITION. The commands of a fast-side reset and of hot adoption (R387 to R398), except the end of the restore, which also carries
out the accesses that the window held. -/

namespace Sys2Proof.Machine

/-! ### The reset (R387, R388 steps 1 and 3) -/

/-- FAST_SIDE_RESET: the warden asserts a fast-side reset; one that is asserted already stays asserted. -/
def execFastSideReset (s : State) : Out :=
  if s.clk.fsReset && !s.clk.restoring then .next s else settle s s.fsrAssert

/-- FSR_RELEASE: 10 µs after its assertion the reset is released and the restore begins. A clock that has lost its lock seeks it again. -/
def execFsrRelease (s : State) : Out :=
  if !s.clk.fsReset || s.clk.restoring then .next s
  else .next { s with
    clk := { s.clk with
      restoring := true
      pllTick := if s.clk.lock then s.clk.pllTick else s.clk.watch }
    start := { s.start with adoptStep := 3 } }

/-- The end of the restore, step 4 of R388: the registers and copies that Reset.lean kept are in force, commits resume at their count,
and a frozen lane pair runs its audit (R183, R278, R534). -/
def State.restoreEnd (s : State) : State :=
  ({ s with
    clk := { s.clk with
      fsReset := false
      restoring := false }
    start := { s.start with adoptStep := 4 } }).frozenAudits

/-! ### The rosters (R121, R390, R357) -/

/-- The positions of a chain whose cells answer QUERY: those with an address, outside a break. -/
def State.queried (s : State) (c : Nat) : List Nat :=
  let x := s.chain c
  (List.range 288).filter fun p => (decide (p < x.j1) || decide (p ≥ x.j2)) && (s.cell (cellAt c p)).addr.isSome

/-- A master rebuilds its roster: its generation is the highest that QUERY found (R390). -/
def State.rebuildChain (s : State) (c : Nat) : State :=
  let l := s.queried c
  let g := l.foldl (fun m p => max m (s.cell (cellAt c p)).gen) 0
  s.updChain c fun x => { x with
    st := if l.isEmpty then .down else if x.j1 < 288 then .degraded else .running
    gen := g
    cells := l.length
    taken := l.map fun p => (p, p)
    enumDone := true }

/-- ROSTER_REBUILD: one master; once all eight are done, either the cells are read, or a stop sequence that met the reset sends STOP to every
cell in contact (R357, R388 step 5). -/
def execRosterRebuild (c : ChainIx) (s : State) : Out :=
  if !s.fastUp || s.start.adoptStep ≠ 4 then .next s
  else
    let s1 := s.rebuildChain c
    settle s (if (List.range 8).all fun k => (s1.chain k).enumDone then
        if s1.stopq.active then ({ s1 with start := { s1.start with adoptStep := 0 } }).stopAll
        else { s1 with start := { s1.start with adoptStep := 5 } }
      else s1)

/-! ### The cells are read and classified (R388 step 6, R389, R390) -/

/-- A cell answers the masters: in contact, at its chain's generation or the one before (R390). -/
def State.answers (s : State) (i : Nat) : Bool :=
  let g := (s.chain (chainOf i)).gen
  let h := (s.cell i).gen
  s.contact i && (h == g || g == genNext h)

/-- READ_STATE pages 0 to 2 of one cell, and what its selector makes of its role: the selector is authoritative (R131, R389). -/
def State.readCell (s : State) (i : Nat) : State :=
  let c := s.cell i
  let here := s.answers i
  s.updView i fun v =>
    if here then { v with
      heard := true
      genFound := c.gen
      page0 := statePage 0 c
      page1 := statePage 1 c
      page2 := statePage 2 c
      lent := if c.mode = .run ∨ c.mode = .hold then decide (c.sel = .neighbour) else v.lent
      out := v.out || decide (c.sel = .isolate)
      moving := false
      runOk := false
      offOk := decide (c.mode = .off) }
    else { v with
      heard := false
      genFound := if s.contact i then c.gen else 0
      moving := false
      runOk := false
      offOk := false }

/-- Every cell of the block. -/
def allCells : List Nat := List.range 2304

/-- Isolated cells found: left in OFF, out of every role, counted and audited without a raise (R389). -/
def State.isolated (s : State) : List Nat := allCells.filter fun i => s.answers i && (s.cell i).sel == .isolate

/-- Cells that no order reaches, of domains that are adopted without them (R389, R390). -/
def State.unreached (s : State) : List Nat :=
  allCells.filter fun i => match s.role i with
    | some d => s.domOn d && !s.answers i && !s.domCut d
    | none => false

/-- A self-test that went on in its cell has its bitmap read with page 2 (R422). -/
def State.auditBitmaps (s : State) : State :=
  let read (a : CAudit) : CAudit :=
    if a.st = .testing ∧ (s.view a.cell).heard = true then { a with st := .reported (bits (s.view a.cell).page2 7 0) } else a
  { s with flt := { s.flt with audits := s.flt.audits.map read } }

/-- ADOPT_READ_DONE: every cell in contact has been read; the next commit adopts the domains. An isolated cell that is not in OFF is sent
there (R131, R389). -/
def execAdoptReadDone (s : State) : Out :=
  if !s.fastUp || s.start.adoptStep ≠ 5 || s.stopq.active then .next s
  else
    let s1 := s.forEach allCells State.readCell
    let iso := s1.isolated
    let lost := s1.unreached
    let fresh := iso.filter fun i => !(s1.flt.audits.any fun a => a.cell == i)
    let s2 := (s1.auditBitmaps).forEach (iso.filter fun i => (s.cell i).mode != .off) fun s i => s.queueOrder i 2 0 .adoption
    settle s { s2 with
      start := { s2.start with
        unreach := iso.length + lost.length
        adoptDom := 0
        adoptStep := 6 }
      flt := { s2.flt with audits := s2.flt.audits ++ fresh.map fun i => { cell := i, src := 8, counted := true, wasOut := true } } }

/-! ### Restarts after adoption (R392) -/

/-- The domains that wait for their restart, support domains first, in ascending index. -/
def State.restartable (s : State) : List Nat :=
  (sds ++ tds).filter fun d => (s.dom d).restart && (s.dom d).st == .off && !(s.lane (laneOf d)).out

/-- ADOPT_RESTART: the next of them begins a stage of its own; its bit of UL_ADOPT_DOM is set. -/
def execAdoptRestart (s : State) : Out :=
  if !s.start.ready || !s.fastUp || s.stopq.active || s.adopting || s.start.restarting.isSome then .next s
  else
    match s.restartable with
    | [] => .next s
    | d :: _ =>
      let s1 := s.updDom d fun x => { x with restart := false, recorded := .off, soloStage := some 100 }
      let s2 := { s1 with start := { s1.start with
        restarting := some d
        adoptDom := orBit s1.start.adoptDom d } }
      settle s (s2.beginDomain d)

/-! ### Requests and causes (R387, R397, R517) -/

/-- Staging under R392 is in progress. -/
def State.restaging (s : State) : Bool := s.start.restarting.isSome || allDoms.any fun d => (s.dom d).restart

/-- COMMIT_STALL: no commit was seen for eight tick edges while the control clock runs (R387, R517). -/
def execCommitStall (s : State) : Out :=
  if !s.fastUp || !s.anyStarted then .next s else settle s (s.raise 18 0)

/-- SD14_RAIL_FAULT: SD14 lies outside its range for 10 µs with its cells in contact (R387). -/
def execSd14RailFault (s : State) : Out :=
  if !s.start.aon || !s.anyStarted || (s.stopq.active && decide (s.stopq.stage ≥ 4)) then .next s
  else if bootCells.any fun i => s.contact i then settle s (s.raise 35 0) else .next s

end Sys2Proof.Machine
end

