-- ==== Sys2Proof/Machine/Warden.lean ====
section
/-! DEFINITION. The warden's boot, reconcile and warm restart (R370, R383, R394, R430 to R443, R503), the mailbox and its opcodes (R451,
R452) and the vault's word writes (R456). -/

namespace Sys2Proof.Machine

/-- The ROM version (R462), which GET_INFO returns and a patch names as ROM_ID (R439). -/
def romVersion : Nat := 1

/-- The AON logic drives ERR_N low and start-up stops: the ROM or the constants failed their check (R383, R411, R430). -/
def State.romFailed (s : State) : State :=
  { s with
    start := { s.start with
      romFail := true
      fail := 1 }
    flt := { s.flt with
      errnStop := true
      errn := true } }

/-! ### Patches (R439 to R441, R454) -/

/-- A copy of the patch selector is valid. -/
def State.selectorOk (s : State) (copy1 : Bool) : Bool :=
  let a := patchSelAddr + if copy1 then 0x800 else 0
  crc32 (s.vaultBytes a 8) == s.vaultWord (a + 8)

/-- The valid selector copy with the higher SEQ. -/
def State.selector (s : State) : Option Bool :=
  let seq (c : Bool) : Nat := (s.vaultWord (patchSelAddr + if c then 0x800 else 0)).toNat
  match s.selectorOk false, s.selectorOk true with
  | true, true => some (decide (seq false < seq true))
  | true, false => some false
  | false, true => some true
  | false, false => none

/-- The active patch slot: 0 with no valid selector. -/
def State.activeSlot (s : State) : Nat :=
  match s.selector with
  | some c => (s.vaultWord (patchSelAddr + (if c then 0x800 else 0) + 4)).toNat % 2
  | none => 0

/-- Word k of a patch slot. -/
def State.patchWord (s : State) (slot k : Nat) : Word := s.vaultWord (patchSlotAddr slot + 4 * k)

/-- A patch slot holds a valid image; the key and the signature are the caller's word (R440, notes/assumptions/1.md). -/
def State.patchValid (s : State) (slot : Nat) (sigOk : Bool) : Bool :=
  let w := s.patchWord slot
  w 0 == 0x50544348 && (w 4).toNat == romVersion && decide (0x80 + (w 3).toNat + 96 ≤ 32768) && (w 3).toNat % 8 == 0 &&
  (w 2).toNat == (w 2).toNat % 256 && decide (1 ≤ (w 2).toNat) && decide ((w 2).toNat ≤ 32) && decide (s.otp.minSvn ≤ (w 2).toNat) &&
  [5, 6, 7].all (fun k => w k == 0) && sigOk

/-- The patch in a slot is checked: it runs, or the warden runs from ROM alone. A slot whose first word is erased holds no
image (R441, R462). -/
def State.patchCheck (s : State) (k : Nat) (sigOk : Bool) : State :=
  let rom : Warden := { s.warden with svn := 0, version := 0, patch := 0 }
  if s.patchWord k 0 = 0 then { s with warden := rom }
  else if s.patchValid k sigOk then
    { s with warden := { rom with svn := (s.patchWord k 2).toNat, version := s.patchWord k 1, patch := 1 } }
  else ({ s with warden := { rom with patch := 2 } }).raise 40 0

/-- Warden boot checks the active slot only; the event of a patch rejected waits for READY (R384, R441). -/
def State.patchBoot (s : State) (sigOk : Bool) : State :=
  let s1 := ({ s with warden := { s.warden with slot := s.activeSlot, committed := false } }).patchCheck s.activeSlot sigOk
  if s1.warden.patch = 2 then { s1 with start := { s1.start with patchEvent := true } } else s1

/-- The slot whose patch the last boot checked: a patch committed since does not run before the next loss of AON power (R441). -/
def Warden.bootSlot (w : Warden) : Nat := if w.committed then 1 - w.slot else w.slot

/-- A warm boot checks that slot again; the event of a patch rejected is posted at once (R383, R443). -/
def State.patchWarm (s : State) (sigOk : Bool) : State :=
  let s1 := s.patchCheck s.warden.bootSlot sigOk
  if s1.warden.patch = 2 then s1.pushEvent (evWarden 0 (s1.readReg 0x18A0).toNat) else s1

/-! ### What the vault holds at boot (R227, R358, R394, R419, R455) -/

/-- Bit i of a bit map in the vault. -/
def State.vaultBit (s : State) (a i : Nat) : Bool := bitAt (Memory.read s.warden.vault (a + i / 8)).toNat (i % 8)

/-- The collector's state as a state block gives it; a state of handling or recovering goes on as recovering (R394, R419). -/
def State.loadBlock (s : State) (k : Nat) : State :=
  let a := stateBlockAddr k
  let w (o : Nat) : Word := s.vaultWord (a + o)
  let tab (f : Word → Nat) : Tab Nat := ((List.range 48).map fun i => (i, f (w (0x20 + 4 * i)))).filter fun e => e.2 != 0
  let again := fld (w 4) 1 0 ≠ 0
  { s with
    flt := { s.flt with
      st := if again then .recovering else .normal
      recoverAtReady := again
      nextInc := (w 8).toNat
      recovCnt := fld (w 0x10) 31 16
      lastCnt := fld (w 0x10) 15 0
      raised := tab fun x => fld x 15 0
      trans := tab fun x => fld x 23 16
      lasting := tab fun x => fld x 31 24
      pend := (w 0xE0).toNat + 2 ^ 32 * (w 0xE4).toNat
      shed := (List.range 2304).filter fun i => s.vaultBit (a + 0x100) i }
    sense := { s.sense with struck := (List.range 4352).filter fun p => s.vaultBit (a + 0x220) p }
    stopq := { s.stopq with nextSeq := (w 0xC).toNat } }

/-- The state block with the higher SEQ; with none valid every count is 0, the numbers follow the records, and VAULT_ERR is raised
(R455). -/
def State.loadState (s : State) : State :=
  match s.stateBlockLatest with
  | some k => s.loadBlock k
  | none =>
    ({ s with
      flt := { s.flt with
        st := .normal
        recoverAtReady := false
        nextInc := s.incHighest + 1
        recovCnt := 0
        lastCnt := 0
        raised := []
        trans := []
        lasting := []
        pend := 0
        shed := [] }
      sense := { s.sense with struck := [] }
      stopq := { s.stopq with nextSeq := s.stopHighest + 1 } }).raise 38 (stateBlockNo 0)

/-- Seal a record that lost power before its seal: STAGE 6, no domain confirmed OFF, the causes of the open part; what the rule does not give
is free (R358, notes/assumptions/4.md). -/
def State.sealLost (s : State) (slot : Nat) : State :=
  if !s.stopOpenValid slot || s.stopSealValid slot then s
  else
    let a := stopRecAddr slot
    let (x, s1) := s.draw
    let (y, s2) := s1.draw
    let body : List Word := [pack [(15, 0, (s.vaultWord (a + 4)).toNat), (18, 16, 6), (22, 19, x.toNat)],
      pack [(23, 0, x.toNat / 16)], 0, 0, BitVec.ofNat 32 y.toNat]
    s2.vaultPutWords (a + 0x2C) (withCrc body ++ [0])

/-- The latest record as UL_STOP_STAT reports it; one that is open holds start-up (R362, R368, R394). -/
def State.loadStop (s : State) : State :=
  match s.stopLatest with
  | none => { s with stopq := { s.stopq with exists_ := false, cleared := true, seq := 0, cause := 0, stage := 0 } }
  | some k =>
    let a := stopRecAddr k
    let w := s.vaultWord (a + 0x2C)
    let cleared := wbit (s.vaultWord (a + 0x44)) 0
    { s with
      stopq := { s.stopq with
        exists_ := true
        cleared := cleared
        seq := (s.vaultWord a).toNat
        slot := k
        cause := fld w 15 0
        stage := fld w 18 16
        openDone := true }
      flt := { s.flt with
        errnStop := s.flt.errnStop || (!cleared && wbit w 5)
        errn := s.flt.errn || (!cleared && wbit w 5) } }

/-! ### Boot and reconcile (R370 steps 2 and 3) -/

/-- RATE of UL_AVS_CTRL. -/
def State.avsRate (s : State) : Nat := fld s.avs.ctrl 15 8

/-- The initialisation of one link (R503). -/
def State.avsInit (s : State) (k : Nat) (ok : Bool) (mv : Nat) : State :=
  let s1 := ((s.avsSent k .writeRate).avsSent k (.writeTrim s.avsBase)).avsSent k .readVolt
  if ok then s1.updLink k fun l => { l with vi := putFld l.vi 31 16 mv, ops := [], fails := 0 }
  else (s1.updLink k fun l => { l with err := true, ops := [], fails := 0 }).raise 34 k

/-- The initialisation of the four links at the end of warden boot (R503). -/
def State.avsBoot (s : State) (avsOk : Nat) (mv : List Nat) : State :=
  let s1 := { s with avs := { s.avs with
    trim := s.avsBase
    rate := s.avsRate } }
  s1.forEach (List.range 4) fun s k => s.avsInit k (bitAt avsOk k) (mv.getD k 0)

/-! ### The mailbox (R451) -/

/-- Mailbox statuses (R452). -/
def mbOk : Nat := 0
def mbBad : Nat := 1
def mbState : Nat := 2
def mbBusy : Nat := 3
def mbBadSig : Nat := 4
def mbClamped : Nat := 5
def mbVault : Nat := 6

def State.mbox (s : State) : MboxChan → Mbox
  | .window => s.warden.mboxW
  | .pmbus => s.warden.mboxP

def State.updMbox (s : State) (ch : MboxChan) (f : Mbox → Mbox) : State :=
  match ch with
  | .window => { s with warden := { s.warden with mboxW := f s.warden.mboxW } }
  | .pmbus => { s with warden := { s.warden with mboxP := f s.warden.mboxP } }

/-- A command of a channel ends (R451 step 4). -/
def State.mboxEnd (s : State) (ch : MboxChan) (status : Nat) : State :=
  s.updMbox ch fun m => { m with busy := false, done := true, status := status, wait := none }

/-- A list as the registers of a table. -/
def asTab (l : List Word) : Tab Word := Tab.ofFn (List.range l.length) fun i => l.getD i 0

/-- A command ends with results. -/
def State.mboxResults (s : State) (ch : MboxChan) (res : List Word) : State :=
  (s.updMbox ch fun m => { m with res := asTab ((res ++ [0, 0, 0, 0]).take 4) }).mboxEnd ch mbOk

/-- Whether the warden core runs: from the end of warden boot. -/
def State.wardenUp (s : State) : Bool :=
  s.start.aon && !s.start.romFail &&
  (match s.start.step with
   | .waitPwr | .stagger | .aonUp | .wardenBoot => false
   | _ => true)

/-- GET_INFO. -/
def State.mbGetInfo (s : State) (ch : MboxChan) : State :=
  s.mboxResults ch [BitVec.ofNat 32 romVersion, s.warden.version, BitVec.ofNat 32 s.warden.svn, BitVec.ofNat 32 s.warden.vtSeq]

/-- PATCH_BEGIN: the other slot is filled from its start (R441, R452). -/
def State.mbPatchBegin (s : State) (ch : MboxChan) (len : Nat) : State :=
  if len < 256 ∨ 32768 < len ∨ len % 8 ≠ 0 then s.mboxEnd ch mbBad
  else ({ s with warden := { s.warden with fillLen := some len, filled := [] } }).mboxEnd ch mbOk

/-- PATCH_DATA: 64 bytes are queued for the slot; the command ends when they are written (R441, R452, R456). -/
def State.mbPatchData (s : State) (ch : MboxChan) (off : Nat) (data : List Word) : State :=
  match s.warden.fillLen with
  | none => s.mboxEnd ch mbState
  | some len =>
    if off % 64 ≠ 0 ∨ len ≤ off then s.mboxEnd ch mbBad
    else
      let k := 1 - s.warden.slot
      s.vaultJob 6 (8196 + k) (patchSlotAddr k + off) ((data ++ List.replicate 16 0).take 16)

/-- Every piece of the image has been written. -/
def Warden.patchFull (w : Warden) (len : Nat) : Bool := (List.range ((len + 63) / 64)).all fun i => w.filled.contains (64 * i)

/-- The words of a selector copy (R454). -/
def selectorWords (seq slot : Nat) : List Word := withCrc [BitVec.ofNat 32 seq, BitVec.ofNat 32 slot]

/-- PATCH_COMMIT: on a pass the other selector copy is written to name the slot (R441). -/
def State.mbPatchCommit (s : State) (ch : MboxChan) (sigOk : Bool) : State :=
  match s.warden.fillLen with
  | none => s.mboxEnd ch mbState
  | some len =>
    let k := 1 - s.warden.slot
    if !s.warden.patchFull len then s.mboxEnd ch mbState
    else if !s.patchValid k sigOk then s.mboxEnd ch mbBadSig
    else
      let c := s.selector.getD true
      let seq := match s.selector with
        | some c => (s.vaultWord (patchSelAddr + if c then 0x800 else 0)).toNat + 1
        | none => 1
      s.vaultJob 6 8198 (patchSelAddr + if c then 0 else 0x800) (selectorWords seq k)

/-- VT_READ: 16 entries of a table, 0 past the last; a staged entry that none was staged for is free (R452, notes/assumptions/4.md). -/
def State.mbVtRead (s : State) (ch : MboxChan) (which first : Nat) : State :=
  if which > 4 then s.mboxEnd ch mbBad
  else
    let entry (i : Nat) : Word :=
      if i ≥ vtEntries then 0
      else match which with
        | 0 => s.vtA i
        | 1 => s.vtCopy false i
        | 2 => s.vtCopy true i
        | 3 => s.vtNow i
        | _ => match s.warden.vtStaged.find? fun e => e.1 == i with
          | some e => e.2
          | none => BitVec.ofNat 32 (Config.freeValue (s.freeCtr + (i - first))).toNat
    let s1 := s.updMbox ch fun m => { m with data := Tab.ofFn (List.range 16) fun j => entry (first + j) }
    ({ s1 with freeCtr := if which = 4 then s.freeCtr + 16 else s.freeCtr }).mboxEnd ch mbOk

/-- An entry may be staged: it exists, its reserved bits are 0, and it is not SD13's or SD14's (R431, R436). -/
def vtStageOk (i : Nat) (e : Word) : Bool := decide (i < vtEntries) && vtReservedOk i e && i != sd 13 && i != sd 14

/-- Stage an entry. -/
def State.vtStageEntry (s : State) (i : Nat) (e : Word) : State := { s with warden := { s.warden with vtStaged := s.warden.vtStaged.set i e } }

/-- VT_STAGE. -/
def State.mbVtStage (s : State) (ch : MboxChan) (i : Nat) (e : Word) : State :=
  if vtStageOk i e then (s.vtStageEntry i e).mboxEnd ch mbOk else s.mboxEnd ch mbBad

/-- Begin an apply of the staged entries, which empties their place (R436, R437, R452). -/
def State.vtApplyBegin (s : State) (chan : Option MboxChan) : State :=
  let (t, clamped) := s.vtApplied
  ({ s with warden := { s.warden with vtTick := some s.clk.watch, vtStaged := [] } }).vtWrite t chan clamped

/-- An apply or commit is refused (R437, R463). -/
def State.vtRefuse (s : State) : State := { s with warden := { s.warden with updRej := true } }

/-- VT_APPLY and VT_COMMIT end when both copies are written. -/
def State.mbVtApply (s : State) (ch : MboxChan) : State :=
  if s.vtMayWrite true then s.vtApplyBegin (some ch) else s.vtRefuse.mboxEnd ch mbBusy
def State.mbVtCommit (s : State) (ch : MboxChan) : State :=
  if s.vtMayWrite false then s.vtWrite s.warden.vtUse (some ch) false else s.vtRefuse.mboxEnd ch mbBusy

/-- POL_LOAD: the image is taken from host memory (R452). -/
def State.mbPolLoad (s : State) (ch : MboxChan) (len : Nat) (digest : List Word) : State :=
  if len > 524288 then s.mboxEnd ch mbBad
  else if s.policy.st = .running || !s.domOn (sd 11) then s.mboxEnd ch mbState
  else ({ s with policy := { s.policy with st := .loaded, imageLen := len } }).mboxResults ch digest

/-- POL_START. -/
def State.mbPolStart (s : State) (ch : MboxChan) : State :=
  if s.policy.st = .empty || !s.domOn (sd 13) then s.mboxEnd ch mbState
  else ({ s with policy := { s.policy with st := .running } }).mboxEnd ch mbOk

/-- The registers that hold the limits of SET_LIMIT, and the bits of each: target, offset, high and low bit (R446). -/
def limitField (target : Nat) : Option (Nat × Nat × Nat) :=
  match target with
  | 0 => some (0x544, 27, 16)
  | 1 => some (0x548, 27, 16)
  | 2 => some (0x548, 10, 0)
  | 3 => some (0x54C, 27, 16)
  | 4 => some (0x54C, 10, 0)
  | 5 => some (0x550, 31, 22)
  | 6 => some (0x550, 21, 12)
  | 7 => some (0x540, 11, 0)
  | _ => none

/-- The reset value of a limit. -/
def limitReset (target : Nat) : Nat := [0x708, 0x708, 0x44C, 0x5DC, 0x3E8, 0x3E8, 0x3E8, 0x898].getD target 0

/-- H of a limit: the last value from host software, or the reset value (R446). -/
def State.hostLimit (s : State) (target : Nat) : Nat := s.policy.hostLim.get (limitReset target) target

/-- What a register will hold after the next commit: its staged value, or the one in force. -/
def State.regNext (s : State) (off : Nat) : Word :=
  match s.ledger.staged.find? fun e => e.key == .reg off with
  | some e => e.val
  | none => s.readReg off

/-- Stage one limit (R446, R447). -/
def State.stageLimit (s : State) (target v : Nat) (by_ : Stager) : State :=
  match limitField target with
  | none => s
  | some (off, hi, lo) => s.stage (.reg off) (putFld (s.regNext off) hi lo v) by_

/-- The policy treasury and every limit that the policy lowered are dropped at the next commit (R450). -/
def State.policyDrop (s : State) : State :=
  let s1 := s.policy.lowered.foldl (fun s e => s.stageLimit e.1 (s.hostLimit e.1) .ebsis) s
  ({ s1 with policy := { s1.policy with lowered := [] } }).stage .polTreas 0 .ebsis

/-- POL_STOP and POL_CLEAR. -/
def State.mbPolStop (s : State) (ch : MboxChan) : State :=
  let p := if s.policy.st == PolSt.running then { s.policy with st := PolSt.stopped } else s.policy
  ({ s with policy := p }).policyDrop.mboxEnd ch mbOk
def State.mbPolClear (s : State) (ch : MboxChan) : State := s.policyDrop.mboxEnd ch mbOk

/-- The effect of a mailbox command that the warden serves (R452). -/
def State.mboxRun (s : State) (c : Instr) : State :=
  match c with
  | .getInfo ch _ => s.mbGetInfo ch
  | .patchBegin ch _ len => s.mbPatchBegin ch len.toNat
  | .patchData ch _ off data => s.mbPatchData ch off.toNat data
  | .patchCommit ch _ sigOk => s.mbPatchCommit ch sigOk
  | .vtRead ch _ which first => s.mbVtRead ch which.toNat first.toNat
  | .vtStage ch _ entry w => s.mbVtStage ch entry.toNat w
  | .vtApply ch _ => s.mbVtApply ch
  | .vtCommit ch _ => s.mbVtCommit ch
  | .polLoad ch _ _ len digest => s.mbPolLoad ch len.toNat digest
  | .polStart ch _ => s.mbPolStart ch
  | .polStop ch _ => s.mbPolStop ch
  | .polClear ch _ => s.mbPolClear ch
  | .mboxUnknownOp ch _ _ => s.mboxEnd ch mbBad
  | _ => s

/-- A channel whose command the warden is serving. -/
def Mbox.running (m : Mbox) : Bool := m.busy && m.wait.isNone

/-- The warden takes the next waiting command, one at a time (R451). -/
def State.mboxTurn (s : State) : State :=
  if !s.wardenUp || s.warden.mboxW.running || s.warden.mboxP.running then s
  else match s.warden.mboxW.wait, s.warden.mboxP.wait with
    | some c, _ => (s.updMbox .window fun m => { m with wait := none }).mboxRun c
    | none, some c => (s.updMbox .pmbus fun m => { m with wait := none }).mboxRun c
    | none, none => s

/-- Both channels had their turn. -/
def State.mboxTurns (s : State) : State := s.mboxTurn.mboxTurn

/-- A command enters a channel: BUSY is 1 until it ends, and the warden serves it in its turn. On a busy channel it is ignored, unless the
channel waits for just this operation's outside part (R451, notes/assumptions/1.md). -/
def State.mboxCommand (s : State) (ch : MboxChan) (op : Nat) (tag : BitVec 8) (args data : List Word) (c : Instr) : State :=
  let m := s.mbox ch
  if !s.start.aon || (ch == MboxChan.window && !s.windowUp) then s
  else if m.busy then
    if m.running && m.op == op && (op == 4 || op == 9) && s.warden.jobs.all (fun j => j.recNo != 8198) then (s.mboxRun c).mboxTurns else s
  else if ch == MboxChan.pmbus && !(s.traysUp && s.smb.valid && wbit s.win.gctrl 0) then s
  else
    ((if ch == MboxChan.pmbus then s.wakeWarden else s).updMbox ch fun m => { m with
      busy := true
      op := op
      cmdTag := tag.toNat
      tag := tag.toNat
      args := if args.isEmpty then m.args else asTab ((args ++ [0, 0, 0, 0]).take 4)
      data := if data.isEmpty then m.data else asTab ((data ++ List.replicate 16 0).take 16)
      wait := some c }).mboxTurns

def execGetInfo (ch : MboxChan) (tag : BitVec 8) (s : State) : Out := settle s (s.mboxCommand ch 1 tag [] [] (.getInfo ch tag))
def execPatchBegin (ch : MboxChan) (tag : BitVec 8) (len : Word) (s : State) : Out :=
  settle s (s.mboxCommand ch 2 tag [len] [] (.patchBegin ch tag len))
def execPatchData (ch : MboxChan) (tag : BitVec 8) (off : Word) (data : List Word) (s : State) : Out :=
  settle s (s.mboxCommand ch 3 tag [off] data (.patchData ch tag off data))
def execPatchCommit (ch : MboxChan) (tag : BitVec 8) (sigOk : Bool) (s : State) : Out :=
  settle s (s.mboxCommand ch 4 tag [] [] (.patchCommit ch tag sigOk))
def execVtRead (ch : MboxChan) (tag : BitVec 8) (which first : Word) (s : State) : Out :=
  settle s (s.mboxCommand ch 5 tag [which, first] [] (.vtRead ch tag which first))
def execVtStage (ch : MboxChan) (tag : BitVec 8) (entry w : Word) (s : State) : Out :=
  settle s (s.mboxCommand ch 6 tag [entry, w] [] (.vtStage ch tag entry w))
def execVtApply (ch : MboxChan) (tag : BitVec 8) (s : State) : Out := settle s (s.mboxCommand ch 7 tag [] [] (.vtApply ch tag))
def execVtCommit (ch : MboxChan) (tag : BitVec 8) (s : State) : Out := settle s (s.mboxCommand ch 8 tag [] [] (.vtCommit ch tag))
def execPolLoad (ch : MboxChan) (tag : BitVec 8) (addr : Word64) (len : Word) (digest : List Word) (s : State) : Out :=
  settle s (s.mboxCommand ch 9 tag (lohi addr.toNat ++ [len]) [] (.polLoad ch tag addr len digest))
def execPolStart (ch : MboxChan) (tag : BitVec 8) (s : State) : Out := settle s (s.mboxCommand ch 10 tag [] [] (.polStart ch tag))
def execPolStop (ch : MboxChan) (tag : BitVec 8) (s : State) : Out := settle s (s.mboxCommand ch 11 tag [] [] (.polStop ch tag))
def execPolClear (ch : MboxChan) (tag : BitVec 8) (s : State) : Out := settle s (s.mboxCommand ch 12 tag [] [] (.polClear ch tag))
/-- MBOX_UNKNOWN_OP: any OP that R452 does not list; one it lists is no such command. -/
def execMboxUnknownOp (ch : MboxChan) (tag op : BitVec 8) (s : State) : Out :=
  if decide (1 ≤ op.toNat) && decide (op.toNat ≤ 12) then .next s
  else settle s (s.mboxCommand ch op.toNat tag [] [] (.mboxUnknownOp ch tag op))

/-! ### Boot, reconcile, warm restart -/

/-- WARDEN_BOOT_END (R370 step 2, R383, R394, R430, R441, R442, R503). -/
def execWardenBootEnd (romOk constOk sigOk : Bool) (avsOk : BitVec 4) (avsMv : List Nat) (s : State) : Out :=
  if s.start.step ≠ .wardenBoot || s.start.romFail then .next s
  else if !romOk || !constOk then settle s s.romFailed
  else
    let s1 := (List.range 64).foldl State.sealLost s
    let s2 := (s1.loadState).loadStop
    let hold := s2.stopq.exists_ && !s2.stopq.cleared
    let s3 := { s2 with start := { s2.start with step := if hold then .waitRestart else .reconcile } }
    let s4 := (s3.patchBoot sigOk).avsBoot avsOk.toNat avsMv
    settle s (if hold then s4.quietRestart.mboxTurns else s4.mboxTurns)

/-- RECONCILE_END: the table in use is chosen (R420, R434, R463), and step 4 begins when it may. -/
def execReconcileEnd (s : State) : Out :=
  if s.start.step ≠ .reconcile || s.start.reconciled then .next s
  else
    let r := s.reconcile
    let s1 := { s with
      warden := { s.warden with vtUse := r.table, vtSrc := r.src, vtSeq := r.seq, bOk := r.bOk, cOk := r.cOk, vtNew := none }
      start := { s.start with reconciled := true } }
    settle s (r.raises.foldl (fun s e => s.raise e.1 e.2) s1).tryStep4

/-- WARDEN_WATCHDOG: a missed heartbeat restarts the core from ROM with its data memory; it checks ROM, constants and patch again, and a copy
that fails its CRC runs the stop sequence (R443). -/
def execWardenWatchdog (romOk constOk sigOk copiesOk : Bool) (s : State) : Out :=
  if !s.wardenUp then .next s
  else
    let s1 := { s with warden := { s.warden with warmCnt := incSat 255 s.warden.warmCnt } }
    if !romOk || !constOk then settle s s1.romFailed
    else
      let s2 := s1.patchWarm sigOk
      let s3 := s2.pushEvent (evWarden 1 (s2.readReg 0x18A0).toNat)
      settle s (if copiesOk then s3 else s3.stopCause causeFault)

/-! ### The vault's word writes (R454 to R456) -/

/-- A queued write that a mailbox command waits for has ended. -/
def State.mboxWrote (s : State) (op status : Nat) : State :=
  let s1 := if s.warden.mboxW.running && s.warden.mboxW.op == op then s.mboxEnd .window status
    else if s.warden.mboxP.running && s.warden.mboxP.op == op then s.mboxEnd .pmbus status
    else s
  s1.mboxTurns

/-- An apply or commit of the voltage table ends. -/
def State.vtEnd (s : State) (status : Nat) : State :=
  match s.warden.vtPend with
  | none => s
  | some p =>
    let s1 := { s with warden := { s.warden with updBusy := false, vtPend := none } }
    match p.chan with
    | some ch => (s1.mboxEnd ch status).mboxTurns
    | none => s1

/-- A record or block is written whole. -/
def State.jobDone (s : State) (j : VaultJob) : State :=
  if j.recNo = 8192 then { s with warden := { s.warden with bOk := true } }
  else if j.recNo = 8193 then
    match s.warden.vtPend with
    | none => s
    | some p =>
      ({ s with warden := { s.warden with cOk := true, vtNew := some (p.table, p.seq) } }).vtEnd (if p.clamped then mbClamped else mbOk)
  else if j.recNo = 8198 then
    let s1 := { s with warden := { s.warden with slot := 1 - s.warden.slot, committed := true, fillLen := none, filled := [] } }
    s1.mboxWrote 4 mbOk
  else if j.recNo = 8196 ∨ j.recNo = 8197 then
    let off := j.addr - patchSlotAddr (j.recNo - 8196) - 64
    let s1 := { s with warden := { s.warden with filled := off :: s.warden.filled } }
    s1.mboxWrote 3 mbOk
  else if j.recNo = stopRecNo s.stopq.slot then { s with stopq := { s.stopq with openDone := true } }
  else s

/-- The record of a failed word in the next slot: what was written of it, then what was left (R456). -/
def State.moveRecord (s : State) (j : VaultJob) : State :=
  let again (prio start recNo addr : Nat) : State :=
    let done := bytesWords ((j.addr - start) / 4) (s.vaultBytes start (j.addr - start))
    let left := j.words.flatMap fun w => lohi w.toNat
    s.vaultJob prio recNo addr (done ++ left)
  if 4096 ≤ j.recNo ∧ j.recNo < 4160 then
    let k := j.recNo - 4096
    let n := (k + 1) % 64
    let s1 := again j.prio (stopRecAddr k) (stopRecNo n) (stopRecAddr n)
    if s.stopq.active ∧ s.stopq.slot = k then { s1 with stopq := { s1.stopq with slot := n } } else s1
  else if j.recNo < 2048 then
    let n := (j.recNo + 1) % 2048
    again j.prio (incRecAddr j.recNo) (incRecNo n) (incRecAddr n)
  else s

/-- A write is abandoned: VAULT_ERR with the record number, and what waited for it fails (R436, R456). -/
def State.jobFailed (s : State) (j : VaultJob) : State :=
  let s1 := s.moveRecord j
  let s2 := if j.recNo = 8192 ∨ j.recNo = 8193 then
      let s3 := { s1 with warden := { s1.warden with
        jobs := s1.warden.jobs.filter fun k => !(k.recNo == 8192 || k.recNo == 8193)
        bOk := s1.warden.bOk && j.recNo != 8192
        cOk := s1.warden.cOk && j.recNo != 8193 } }
      s3.vtEnd mbVault
    else if j.recNo = 8198 then s1.mboxWrote 4 mbVault
    else if j.recNo = 8196 ∨ j.recNo = 8197 then s1.mboxWrote 3 mbVault
    else s1
  s2.raise 38 j.recNo

/-- VAULT_WORD_WRITE: the next word in the order of precedence is written and verified, or fails its verify; while a stop sequence runs, writes
of precedence 4 to 6 wait (R456). -/
def execVaultWordWrite (ok : Bool) (s : State) : Out :=
  match s.warden.jobs with
  | [] => .next s
  | j :: rest =>
    if !s.start.aon || (s.stopq.active && decide (j.prio ≥ 4)) then .next s
    else match j.words with
      | [] => settle s (({ s with warden := { s.warden with jobs := rest } }).jobDone j)
      | w :: left =>
        if ok then
          let s1 := s.vaultPut j.addr (natBytes 8 w.toNat)
          let k : VaultJob := { j with addr := j.addr + 8, words := left, tries := 0 }
          settle s (if left.isEmpty then ({ s1 with warden := { s1.warden with jobs := rest } }).jobDone k
            else { s1 with warden := { s1.warden with jobs := k :: rest } })
        else if j.tries < 2 then
          settle s { s with warden := { s.warden with jobs := { j with tries := j.tries + 1 } :: rest } }
        else settle s (({ s with warden := { s.warden with jobs := rest } }).jobFailed j)

end Sys2Proof.Machine
end

