-- ==== Sys2Proof/Machine/Policy.lean ====
section
/-! DEFINITION. The requests of the Ebsis policy firmware with their permissions and clamps (R444 to R449) and the faults of the policy core
(R450). -/

namespace Sys2Proof.Machine

/-- Reply statuses (R448). -/
def ebOk : Nat := 0
def ebClamped : Nat := 1
def ebPerm : Nat := 2
def ebState : Nat := 3
def ebHeld : Nat := 4
def ebBusy : Nat := 5
def ebBad : Nat := 6
def ebLimit : Nat := 7
def ebChain : Nat := 8

/-- The policy core runs and its queues are powered. -/
def State.policyUp (s : State) : Bool := s.start.aon && s.policy.st == PolSt.running && s.ringsOn && s.wardenUp

/-- A permission bit of UL_POL_CTRL (R459). -/
def State.perm (s : State) (b : Nat) : Bool := wbit s.policy.ctrl b

/-- An incident with reaction T is open (R400). -/
def State.trapOpen (s : State) : Bool := s.flt.inc.open_ && bitAt s.flt.inc.react 1

/-- The epoch number of the commit at which a value accepted now takes effect (R245). -/
def State.nextEpoch (s : State) : Nat := (s.ledger.epoch + if s.ledger.cutoff then 2 else 1) % 2 ^ 32

/-- Places of the reply queue (R444). -/
def replyDepth : Nat := 64

/-- A reply enters the queue; when it is full the oldest counts as taken by the core (notes/assumptions/16.md). Words that the manual gives no
value for are free. -/
def State.ebsisReply (s : State) (kind : Nat) (r : EbsisReq) (status : Nat) (value epoch : Option Nat) : State :=
  let (x, s1) := s.draw
  let w1 := value.getD (x.toNat % 2 ^ 32)
  let w2 := epoch.getD (x.toNat / 2 ^ 32)
  let reply : BitVec 128 := BitVec.ofNat 128
    (packN [(31, 24, kind), (23, 16, r.seq.toNat), (15, 12, status), (63, 32, w1), (95, 64, w2)])
  let q := s1.policy.replies ++ [reply]
  { s1 with policy := { s1.policy with
      replies := q.drop (q.length - replyDepth)
      clampCnt := if status = ebClamped then incSat 255 s1.policy.clampCnt else s1.policy.clampCnt
      refuseCnt := if status > ebClamped then incSat 255 s1.policy.refuseCnt else s1.policy.refuseCnt } }

/-- A request refused. -/
def State.ebsisRefuse (s : State) (kind : Nat) (r : EbsisReq) (status : Nat) : State := s.ebsisReply kind r status none none

/-- A request applied at the next commit, at the value asked for or clamped. -/
def State.ebsisDone (s0 s : State) (kind : Nat) (r : EbsisReq) (asked applied : Nat) (clamped : Bool) : State :=
  s.ebsisReply kind r (if clamped || asked != applied then ebClamped else ebOk) (some applied) (some s0.nextEpoch)

/-- What every request but HEARTBEAT passes before its clamp: its form, its permission, and the state of the chip (R446, R448). -/
def State.ebsisGate (s : State) (r : EbsisReq) (form : Bool) (permBit : Nat) : Option Nat :=
  if !form || r.word3 != 0 then some ebBad
  else if !s.perm permBit then some ebPerm
  else if s.stopq.active || !s.start.ready then some ebState
  else none

/-- A value clamped to a range; the low end rules where the range is empty. -/
def clampN (lo hi v : Nat) : Nat := max lo (min hi v)

/-- VDN and VUP of UL_POL_ENV as voltage codes (R460). -/
def State.vdn (s : State) : Nat := 4 * fld s.policy.env 23 16
def State.vup (s : State) : Nat := 4 * fld s.policy.env 31 24

/-- H_d: the last V_SET from host software, or V_START (R446). -/
def State.hostVset (s : State) (d : Nat) : Nat := s.policy.hostV.get (s.vStart d) d

/-- SET_VSET. -/
def State.ebVset (s : State) (r : EbsisReq) : State :=
  let d := r.target.toNat
  let v := r.value.toNat
  let form := decide (d < 48) && d != sd 13 && d != sd 14 && decide (v < 4096) && r.value2 == 0
  match s.ebsisGate r form 7 with
  | some e => s.ebsisRefuse 1 r e
  | none =>
    if (isTD d && s.limits.fixed) || (s.dom d).st ≠ .run then s.ebsisRefuse 1 r ebState
    else
      let h := s.hostVset d
      let a := clampN (max (s.vMin d) (h - s.vdn)) (min (h + s.vup) (vRange d).2) v
      s.ebsisDone (s.stage (.vset d) (BitVec.ofNat 32 a) .ebsis) 1 r v a false

/-- A treasury in force: 0 withdraws the policy's. -/
def State.treasOf (s : State) (v : Nat) : Nat := if v = 0 then s.ledger.treasury.toNat else v

/-- SET_TREAS. -/
def State.ebTreas (s : State) (r : EbsisReq) : State :=
  let v := r.value.toNat
  match s.ebsisGate r (r.target == 0 && r.value2 == 0) 6 with
  | some e => s.ebsisRefuse 2 r e
  | none =>
    let a := if v = 0 then 0 else clampN 50000 s.ledger.treasury.toNat v
    if s.trapOpen && decide (s.treasOf s.policy.treas < s.treasOf a) then s.ebsisRefuse 2 r ebHeld
    else s.ebsisDone (s.stage .polTreas (BitVec.ofNat 32 a) .ebsis) 2 r v a false

/-- SET_CLASS. -/
def State.ebClass (s : State) (r : EbsisReq) : State :=
  let c := r.target.toNat
  let f := r.value2.toNat
  match s.ebsisGate r (decide (c < 16) && decide (r.value.toNat < 256) && decide (f < 65536)) 5 with
  | some e => s.ebsisRefuse 3 r e
  | none =>
    let a := min f s.otp.pTileMax
    s.ebsisDone (s.stage (.reg (0x420 + 4 * c)) (pack [(31, 24, r.value.toNat), (15, 0, a)]) .ebsis) 3 r r.value.toNat r.value.toNat
      (a != f)

/-- The key of a host cap in the table of host values. -/
def capTarget (d : Nat) : Nat := 16 + d

/-- SET_CAP: 0 asks for no cap. -/
def State.ebCap (s : State) (r : EbsisReq) : State :=
  let d := r.target.toNat
  let v := r.value.toNat
  match s.ebsisGate r (decide (d < 32) && decide (v < 2 ^ 20) && r.value2 == 0) 4 with
  | some e => s.ebsisRefuse 4 r e
  | none =>
    let h := s.policy.hostLim.get 0 (capTarget d)
    let a := if h = 0 then v else if v = 0 then h else min v h
    let old := fld (s.capReg d) 19 0
    let raises := old != 0 && (a == 0 || decide (old < a))
    if s.trapOpen && raises then s.ebsisRefuse 4 r ebHeld
    else s.ebsisDone (s.stage (.reg (0x460 + 4 * d)) (pack [(19, 0, a)]) .ebsis) 4 r v a false

/-- A status of R127 in the codes of R448. -/
def ebLoanStatus (st : Nat) : Nat :=
  if st = stBad then ebBad else if st = stBusy then ebBusy else if st = stState then ebState else if st = stLimit then ebLimit
  else if st = stChain then ebChain else ebOk

/-- LOAN and RECALL: accepted when R127 refuses nothing; the move starts at its commit E. -/
def State.ebMove (s : State) (kind : Nat) (recalling : Bool) (r : EbsisReq) : State :=
  let i := r.target.toNat
  match s.ebsisGate r (decide (i < 2304) && r.value == 0 && r.value2 == 0) 3 with
  | some e => s.ebsisRefuse kind r e
  | none =>
    let st := ebLoanStatus (if recalling then s.recallCheck i else s.loanCheck i none)
    if st = ebOk then s.ebsisDone (s.loanAccept i recalling false .warden) kind r 0 0 false else s.ebsisRefuse kind r st

/-- The lowest valid value of a limit of SET_LIMIT (R329 to R331). -/
def limitLow (target : Nat) : Nat := if target = 5 ∨ target = 6 then 1 else 100

/-- 0 of a current limit means none. -/
def limitIsCur (target : Nat) : Bool := target == 2 || target == 4

/-- SET_LIMIT. -/
def State.ebLimitSet (s : State) (r : EbsisReq) : State :=
  let t := r.target.toNat
  let v := r.value.toNat
  match s.ebsisGate r ((limitField t).isSome && r.value2 == 0) 2 with
  | some e => s.ebsisRefuse 7 r e
  | none =>
    let h := s.hostLimit t
    let none_ := limitIsCur t && h == 0
    let a := if none_ && v == 0 then 0 else clampN (limitLow t) (if none_ then limitReset t else h) v
    let old := match limitField t with
      | some (off, hi, lo) => fld (s.readReg off) hi lo
      | none => 0
    let raises := !(limitIsCur t && old == 0) && ((limitIsCur t && a == 0) || decide (old < a))
    if s.trapOpen && raises then s.ebsisRefuse 7 r ebHeld
    else
      let s1 := s.stageLimit t (BitVec.ofNat 32 a).toNat .ebsis
      let rest := s1.policy.lowered.filter fun e => e.1 != t
      let s2 := { s1 with policy := { s1.policy with lowered := if a = h then rest else rest ++ [(t, a)] } }
      s.ebsisDone s2 7 r v a false

/-- AGE: an entry is staged, and applied where VALUE2 asks for it (R436, R437). -/
def State.ebAge (s : State) (r : EbsisReq) : State :=
  let i := r.target.toNat
  match s.ebsisGate r (vtStageOk i r.value && decide (r.value2.toNat < 2)) 1 with
  | some e => s.ebsisRefuse 8 r e
  | none =>
    let s1 := s.vtStageEntry i r.value
    if r.value2 = 0 then s1.ebsisReply 8 r ebOk (some r.value.toNat) none
    else if !s1.vtMayWrite true then s1.vtRefuse.ebsisRefuse 8 r ebBusy
    else
      let (t, clamped) := s1.vtApplied
      (s1.vtApplyBegin none).ebsisReply 8 r (if clamped then ebClamped else ebOk) (some (t.get 0 i).toNat) none

/-- HEARTBEAT: no effect but its reply. -/
def State.ebBeat (s : State) (r : EbsisReq) : State :=
  if r.target == 0 && r.value == 0 && r.value2 == 0 && r.word3 == 0 then s.ebsisReply 9 r ebOk (some 0) none
  else s.ebsisRefuse 9 r ebBad

/-- A request by its kind. -/
def State.ebServe (s : State) (kind : Nat) (r : EbsisReq) : State :=
  match kind with
  | 1 => s.ebVset r
  | 2 => s.ebTreas r
  | 3 => s.ebClass r
  | 4 => s.ebCap r
  | 5 => s.ebMove 5 false r
  | 6 => s.ebMove 6 true r
  | 7 => s.ebLimitSet r
  | 8 => s.ebAge r
  | 9 => s.ebBeat r
  | _ => s.ebsisRefuse kind r ebBad

/-- Requests that need the control-clock registers (R449). -/
def ebNeedsFast (kind : Nat) : Bool := decide (1 ≤ kind) && decide (kind ≤ 7)

/-- A request arrives: it is held through a fast-side reset, in order, or served (R449). -/
def State.ebsis (s : State) (kind : Nat) (r : EbsisReq) : State :=
  if !s.policyUp then s
  else if s.adopting || s.clk.fsReset then
    if ebNeedsFast kind then { s with policy := { s.policy with held := s.policy.held ++ [(kind, r)] } }
    else s.ebServe kind r
  else s.ebServe kind r

/-- The requests held through a fast-side reset are served after step 9 (R449). -/
def State.ebsisHeld (s : State) : State :=
  s.policy.held.foldl (fun s e => s.ebServe e.1 e.2) { s with policy := { s.policy with held := [] } }

def execSetVset (r : EbsisReq) (s : State) : Out := settle s (s.ebsis 1 r)
def execSetTreas (r : EbsisReq) (s : State) : Out := settle s (s.ebsis 2 r)
def execSetClass (r : EbsisReq) (s : State) : Out := settle s (s.ebsis 3 r)
def execSetCap (r : EbsisReq) (s : State) : Out := settle s (s.ebsis 4 r)
def execLoan (r : EbsisReq) (s : State) : Out := settle s (s.ebsis 5 r)
def execRecalling (r : EbsisReq) (s : State) : Out := settle s (s.ebsis 6 r)
def execSetLimit (r : EbsisReq) (s : State) : Out := settle s (s.ebsis 7 r)
def execAge (r : EbsisReq) (s : State) : Out := settle s (s.ebsis 8 r)
def execHeartbeat (r : EbsisReq) (s : State) : Out := settle s (s.ebsis 9 r)
/-- UNKNOWN_KIND: a KIND that R446 does not list. -/
def execUnknownKind (kind : BitVec 8) (r : EbsisReq) (s : State) : Out :=
  if decide (1 ≤ kind.toNat) && decide (kind.toNat ≤ 9) then .next s else settle s (s.ebsis kind.toNat r)

/-! ### Faults of the policy core (R450) -/

/-- One second of watch-clock ticks. -/
def secondTicks : Nat := 4000000

/-- POLICY_FAULT is raised; after the third within 1 s a running core is stopped for good and what it lowered is dropped. -/
def State.policyFault (s : State) (obj : Nat) : State :=
  let recent := (s.policy.faults.filter fun t => decide (s.clk.watch < t + secondTicks)) ++ [s.clk.watch]
  let s1 := { s with policy := { s.policy with
    faultCnt := incSat 255 s.policy.faultCnt
    faults := recent } }
  let s2 := s1.raise 41 obj
  if recent.length ≥ 3 ∧ s2.policy.st = .running then
    { s2 with policy := { s2.policy with st := .failed, faults := [], held := [] } }.policyDrop
  else s2

/-- POLICY_WATCHDOG: no request for WD_MS, or a reply queue full for as long. -/
def execPolicyWatchdog (s : State) : Out := if s.policyUp then settle s (s.policyFault 0) else .next s
/-- POLICY_TRAP: an illegal access or instruction. -/
def execPolicyTrap (s : State) : Out := if s.policyUp then settle s (s.policyFault 0) else .next s

end Sys2Proof.Machine
end

