-- ==== Sys2Proof/Machine/Checks.lean ====
section
/-! DEFINITION. Which values each writable register takes (R93 to R95, R184, R201, R231 to R243, R279 to R290, R329 to R337, R363, R364,
R424, R426, R459, R460, R507), for the register window and for the images of host commands (R479). -/

namespace Sys2Proof.Machine

/-! ### The bits of each register that a write can set -/

/-- The RW bits of a register; every other bit is reserved, or of another type (R10, R11). -/
def regMask (off : Nat) : Word :=
  if 0x420 ≤ off ∧ off ≤ 0x45C then 0xFF00FFFF
  else if 0x460 ≤ off ∧ off ≤ 0x4DC then 0x000FFFFF
  else if 0x544 ≤ off ∧ off ≤ 0x54C then 0x0FFF07FF
  else if 0xB00 ≤ off ∧ off ≤ 0xBBC then 0x0F3F3F3F
  else if 0xC40 ≤ off ∧ off ≤ 0xCFC then 0x00007F7F
  else if 0xD00 ≤ off ∧ off ≤ 0xDBC then 0xFF1EFFF8
  else if 0x1040 ≤ off ∧ off ≤ 0x10FC then 0x0000001F
  else match off with
  | 0x10 => 0x00000003
  | 0x1E0 => 0x0000FF07
  | 0x400 => 0xFFFEE000
  | 0x540 => 0xE3C00FFF
  | 0x800 => 0x00000007
  | 0x880 => 0x6000003F
  | 0xBC0 => 0x00000F3F
  | 0xC00 => 0xFFFF00F3
  | 0xC0C => 0x031FFF3F
  | 0xE80 => 0x0000003F
  | 0xE88 => 0x001FFFFF
  | 0xF40 => 0x0000003F
  | 0x1000 => 0x80FFFFFF
  | 0x1400 => 0x00000100
  | 0x1500 => 0x00FFFFFF
  | 0x1504 => 0xFFFF7F3F
  | 0x1600 => 0xE0FFFFFF
  | 0x1710 => 0x0FFFFF00
  | 0x1800 => 0x00FF00FF
  | 0x1880 => 0x00FF00FE
  | 0x1884 => 0xFFFF0000
  | _ => 0xFFFFFFFF

/-! ### Converter settings (R199 to R203) -/

/-- Settling clocks of M_V and of M_I under an image of UL_DSC_FB_n. -/
def vClocks (fb : Word) : Nat := settleClocks (fld fb 1 0) (fld fb 4 2) (fld fb 6 5)
def iClocks (fb : Word) : Nat := settleClocks (fld fb 9 8) (fld fb 12 10) (fld fb 14 13)

/-- The four words of UL_SP_EN_i. -/
def fourWords (l : List Word) : List Word := (l ++ List.replicate 4 0).take 4

/-- The points of a domain that four enable words enable. -/
def enabledPoints (d : Nat) (en : List Word) : List Nat := (pointChannels d).filter fun ch => wbit (en.getD (ch / 32) 0) (ch % 32)

/-- R201 on the settings of a domain; 400 ns are 128 modulator clocks. -/
def State.fbOk (s : State) (d : Nat) (fb : Word) (en : List Word) : Bool :=
  decide (fld fb 4 2 ≤ 5) && decide (fld fb 12 10 ≤ 5) && decide (iClocks fb ≤ 128) &&
  (if regOf d (s.dom d) then decide ((enabledPoints d en).length * (vClocks fb + 3) ≤ 160) else decide (vClocks fb ≤ 128))

/-- The minimum of R203: enabled points that are not struck. -/
def State.spMinOk (s : State) (d : Nat) (en : List Word) : Bool :=
  decide (minPoints d ≤ ((enabledPoints d en).filter fun ch => !(s.struckOf d).contains ch).length)

/-- UL_SP_EN_i and UL_DSC_FB_n of a domain as they will stand after the next commit. -/
def State.spNext (s : State) (d i : Nat) : Word :=
  match s.ledger.staged.find? fun e => e.key == .spEn d i with
  | some e => e.val
  | none => (fourWords (s.dsc d).en).getD i 0
def State.spNexts (s : State) (d : Nat) : List Word := (List.range 4).map (s.spNext d)
def State.fbNext (s : State) (d : Nat) : Word := s.regNext (0xC40 + 4 * d)

/-! ### The limits of the warden (R329 to R331, R363, R364) -/

/-- The ceilings that the reset values of UL_WIN_w set. -/
def winReset (w : Nat) : Word := [0x07080000, 0x0708044C, 0x05DC03E8].getD w 0

/-- A number within a range. -/
def inRange (lo hi v : Nat) : Bool := decide (lo ≤ v) && decide (v ≤ hi)

def winOk (w : Nat) (v : Word) : Bool :=
  let r := winReset w
  inRange 100 (fld r 27 16) (fld v 27 16) && (fld v 10 0 == 0 || inRange 100 (fld r 10 0) (fld v 10 0))

def thermRateOk (v : Word) : Bool :=
  let w := fld v 7 0
  let t := fld v 15 8
  let p := fld v 23 16
  decide (1 ≤ w) && decide (w < t) && decide (t < p) && decide (w ≤ 0x10) && decide (t ≤ 0x20) && decide (p ≤ 0x50)

def thermLimOk (v : Word) : Bool :=
  let trip := fld v 31 24
  inRange 60 118 trip && inRange 40 (min (trip - 4) 110) (fld v 23 16) && inRange 1 64 (fld v 14 8) &&
    inRange 1 (min 63 (fld v 14 8)) (fld v 5 0)

/-- A domain whose V_SET_eff has not reached its V_SET holds fixed-frequency mode off (R310). -/
def State.fixReady (s : State) : Bool := tds.all fun d => (s.dom d).vsetEff == qOfVset (s.dom d).vset

/-- A reaction image: every fixed reaction set and none that is not allowed (R403, R426). -/
def reactOk (src : Nat) (v : Nat) : Bool :=
  decide (src < 45) && decide (v < 32) && (List.range 5).all fun b =>
    (!bitAt v b || bitAt (allowedReact src) b) && (bitAt v b || !bitAt (fixedReact src) b)

/-! ### Every checked register -/

/-- A value whose reserved bits are 0 is within the range of the register and keeps the relations that its chapter states. -/
def State.valueOk (s : State) (off : Nat) (v : Word) : Bool :=
  if 0x420 ≤ off ∧ off ≤ 0x45C then decide (fld v 15 0 ≤ s.otp.pTileMax)
  else if 0x544 ≤ off ∧ off ≤ 0x54C then winOk ((off - 0x544) / 4) v
  else if 0xB00 ≤ off ∧ off ≤ 0xBBC then
    inRange 6 40 (fld v 5 0) && inRange 6 40 (fld v 21 16) && decide (fld v 21 16 ≤ fld v 5 0) && inRange 8 48 (fld v 13 8)
  else if 0xC40 ≤ off ∧ off ≤ 0xCFC then s.fbOk ((off - 0xC40) / 4) v (s.spNexts ((off - 0xC40) / 4))
  else if 0xD00 ≤ off ∧ off ≤ 0xDBC then decide (fld v 7 5 ≤ 5) && decide (fld v 20 18 ≤ 3) && fld v 11 10 != 3 && decide (fld v 15 12 ≤ 12)
  else if 0xFB0 ≤ off ∧ off ≤ 0xFEC then
    (List.range 4).all fun k => let b := fld v (8 * k + 7) (8 * k); decide (b ≤ 151) || b == 0xFF
  else if 0x1040 ≤ off ∧ off ≤ 0x10FC then reactOk ((off - 0x1040) / 4) v.toNat
  else match off with
  | 0x414 => inRange 50000 2500000 v.toNat
  | 0x4E0 => decide (fld v 31 26 ≤ 60)
  | 0x540 => inRange 1 15 (fld v 25 22) && inRange 100 2200 (fld v 11 0) && (!wbit v 31 || s.limits.fixed || s.fixReady)
  | 0x550 => inRange 1 1000 (fld v 31 22) && inRange 1 1000 (fld v 21 12) && inRange 1 4095 (fld v 11 0)
  | 0xBC0 => inRange 1 15 (fld v 11 8) && inRange 1 50 (fld v 5 0)
  | 0xC00 => decide (fld v 7 4 ≤ 8) && fld v 1 0 != 3
  | 0xC0C => fld v 25 24 != 3 && inRange 2 31 (fld v 20 16) && inRange 16 255 (fld v 15 8) &&
      decide (fld v 20 16 < fld v 15 8) && inRange 4 60 (fld v 5 0)
  | 0xE80 => decide (fld v 5 0 < 48)
  | 0xE84 => decide (fld v 22 16 ≤ 64) && decide (fld v 11 8 ≤ 8)
  | 0xF40 => decide (fld v 5 0 < 48)
  | 0x1000 => inRange 4 255 (fld v 23 16) && inRange 10 60000 (fld v 15 0)
  | 0x1500 => thermRateOk v
  | 0x1504 => thermLimOk v
  | 0x1600 => inRange 1 63 (fld v 15 10) && inRange 1 15 (fld v 9 6) && inRange 4 63 (fld v 5 0)
  | 0x1710 => inRange 2 20 (fld v 15 8)
  | 0x1880 => decide (1 ≤ fld v 23 16)
  | 0x1884 => decide (fld v 31 24 ≤ 100) && decide (fld v 23 16 ≤ 100)
  | _ => true

/-- Registers of SD13 and SD14 that only the warden writes (R93, R201). -/
def wardenOnly (off : Nat) : Bool :=
  [0xB00 + 4 * sd 13, 0xB00 + 4 * sd 14, 0xC40 + 4 * sd 13, 0xC40 + 4 * sd 14].contains off

/-- An image of a host command: reserved bits set are refused as well (R477, R479). -/
def State.imageOk (s : State) (off : Nat) (v : Word) : Bool := v &&& ~~~(regMask off) == 0 && s.valueOk off v

/-- The CFG_REJ of the group a register belongs to is set. -/
def State.cfgReject (s : State) (off : Nat) : State :=
  if 0x400 ≤ off ∧ off < 0x800 ∨ 0x1500 ≤ off ∧ off < 0x1700 then { s with ledger := { s.ledger with cfgRej := true } }
  else if 0xB00 ≤ off ∧ off < 0xC00 then { s with eng := { s.eng with cellRej := true } }
  else if 0xC00 ≤ off ∧ off < 0x1000 then { s with sense := { s.sense with cfgRej := true } }
  else if 0x1000 ≤ off ∧ off < 0x1400 then { s with flt := { s.flt with cfgRej := true } }
  else s

/-! ### What a host write of a limit means to the policy firmware (R446) -/

/-- The host's own value of a limit or cap: a value that the policy lowered is forgotten. -/
def State.hostValue (s : State) (target v : Nat) : State :=
  { s with policy := { s.policy with
      hostLim := s.policy.hostLim.set target v
      lowered := s.policy.lowered.filter fun e => e.1 != target } }

/-- Every limit that a register holds. -/
def State.hostLimits (s : State) (off : Nat) (v : Word) : State :=
  let s1 := s.forEach (List.range 8) fun s t => match limitField t with
    | some (o, hi, lo) => if o = off then s.hostValue t (fld v hi lo) else s
    | none => s
  if 0x460 ≤ off ∧ off ≤ 0x4DC then s1.hostValue (capTarget ((off - 0x460) / 4)) (fld v 19 0) else s1

/-- A host value is staged for the next commit. -/
def State.hostStage (s : State) (off : Nat) (v : Word) (by_ : Stager) : State := (s.stage (.reg off) v by_).hostLimits off v

/-- A thermal image is accepted: it is taken at the next round, and replaces one that waits (R363, R364, R472). -/
def State.thermStage (s : State) (lim : Bool) (v : Word) (by_ : Stager) : State :=
  let old := if lim then s.therm.limNext else s.therm.rateNext
  let s1 := match old with
    | some (_, .command x) => s.supersede x
    | _ => s
  { s1 with therm := if lim then { s1.therm with limNext := some (v, by_) } else { s1.therm with rateNext := some (v, by_) } }

end Sys2Proof.Machine
end

