-- ==== Sys2Proof/Machine/RingRegs.lean ====
section
/-! DEFINITION. The host rings as software and the host writer drive them (R466 to R470, R474, R487, R490, R493 to R495): indexes and doorbells,
fetches, the entries that producer rings receive, and the interrupt vectors. -/

namespace Sys2Proof.Machine

/-! ### Rings by number -/

def State.cr (s : State) (i : Nat) : Ring := s.rings.cr.get {} i
def State.updCr (s : State) (i : Nat) (f : Ring → Ring) : State := { s with rings := { s.rings with cr := s.rings.cr.modify {} i f } }
def State.pr (s : State) (p : Nat) : Ring := s.rings.pr.get {} p
def State.updPr (s : State) (p : Nat) (f : Ring → Ring) : State := { s with rings := { s.rings with pr := s.rings.pr.modify {} p f } }

/-- Entries of a ring. -/
def Ring.entries (r : Ring) : Nat := 2 ^ r.size

/-- A ring's base address. -/
def Ring.base (r : Ring) : Nat := r.baseLo.toNat / 4096 * 4096 + 2 ^ 32 * r.baseHi.toNat

/-- The difference of two 16-bit indexes (R466). -/
def idxDiff (a b : Nat) : Nat := (a + 65536 - b % 65536) % 65536

/-- Entries a ring holds. -/
def Ring.held (r : Ring) : Nat := idxDiff r.tail r.head

/-- A producer ring has room for an entry. -/
def Ring.room (r : Ring) : Bool := decide (r.held < r.entries)

/-- PHASE of the entry with index x (R467). -/
def Ring.phase (r : Ring) (x : Nat) : Nat := b2n (decide (x / r.entries % 2 = 0))

/-- Places of an intake FIFO (R488). -/
def intakeDepth : Nat := 4

def State.intake (s : State) (i : Nat) : List Desc := s.rings.intake.get [] i
def State.setIntake (s : State) (i : Nat) (l : List Desc) : State := { s with rings := { s.rings with intake := s.rings.intake.set i l } }

/-! ### Fetches (R468, R469, R489) -/

/-- Issue the fetch of up to 4 offered descriptors for which the intake FIFO has room, one read at a time, without crossing the ring's end. -/
def State.issueFetch (s : State) (i : Nat) : State :=
  let r := s.cr i
  let n := min (min (idxDiff r.tail r.fetchTo) (intakeDepth - (s.intake i).length)) (r.entries - r.fetchTo % r.entries)
  if !s.rings.armed || !r.en || r.fetchTo ≠ r.head || n = 0 then s
  else
    let s1 := s.updCr i fun x => { x with fetchTo := (x.fetchTo + n) % 65536 }
    { s1 with rings := { s1.rings with fetches := (i, r.head, n) :: s1.rings.fetches } }

def State.issueFetches (s : State) : State := s.forEach (List.range 4) State.issueFetch

/-! ### Index writes (R468) -/

/-- A write of UL_CR_TAIL_i. -/
def State.tailWrite (s : State) (i new : Nat) : State :=
  let r := s.cr i
  if idxDiff new r.tail ≤ r.entries - r.held then (s.updCr i fun x => { x with tail := new }).issueFetch i else s.ringErr i 1

/-- A write of UL_PR_HEAD_p. -/
def State.headWrite (s : State) (p new : Nat) : State :=
  let r := s.pr p
  if idxDiff new r.head ≤ r.held then s.updPr p fun x => { x with head := new } else s.ringErr (p + 4) 2

/-! ### The set-up of a ring (R470, R474, R490, R493) -/

/-- The header flags of a descriptor (R475). -/
def descCtx (i : Nat) (d : Desc) : CmdCtx :=
  let w := d.words.getD 0 0
  { ring := Fin.ofNat 4 i, index := BitVec.ofNat 16 d.index, tag := BitVec.ofNat 16 (fld w 15 0), fence := wbit w 23, link := wbit w 22,
    intr := wbit w 21, quiet := wbit w 20 }

/-- OPCODE of a descriptor. -/
def descOp (d : Desc) : Nat := fld (d.words.getD 0 0) 31 24

/-- The context and opcode of a host command. -/
def hostCtx : Instr → Option (CmdCtx × Nat)
  | .nop x => some (x, 0x00)
  | .setDomainVoltage x _ _ => some (x, 0x01)
  | .domainOn x _ => some (x, 0x02)
  | .domainOff x _ => some (x, 0x03)
  | .stageLaw x _ _ _ => some (x, 0x04)
  | .readLaw x _ _ _ _ => some (x, 0x05)
  | .setBudget x _ _ _ => some (x, 0x06)
  | .setClassWeights x _ _ _ => some (x, 0x07)
  | .setLimits x _ _ => some (x, 0x08)
  | .loanCell x _ _ => some (x, 0x09)
  | .recallCell x _ => some (x, 0x0A)
  | .readCell x _ _ => some (x, 0x0B)
  | .snapshot x _ => some (x, 0x0C)
  | .readTally x _ _ _ _ _ => some (x, 0x0D)
  | .setSequence x _ _ _ _ _ => some (x, 0x0E)
  | .setSense x _ _ _ => some (x, 0x0F)
  | .senseTrigger x _ => some (x, 0x10)
  | .setCellCfg x _ _ => some (x, 0x11)
  | .faultAck x _ _ _ => some (x, 0x12)
  | .fixedFreq x _ => some (x, 0x13)
  | .paceGroup x _ _ _ => some (x, 0x14)
  | .paceRelay x _ _ => some (x, 0x14)
  | .vaultRead x _ _ _ _ => some (x, 0x15)
  | .dropPacket x _ _ => some (x, 0x16)
  | .setReaction x _ _ => some (x, 0x17)
  | .unknownOpcode x op => some (x, op.toNat)
  | _ => none

/-- A command of ring i. -/
def ofRing (i : Nat) (c : Instr) : Bool := match hostCtx c with
  | some (x, _) => x.ring.val == i
  | none => false

/-- Descriptors of a ring that were fetched and not accepted complete FLUSHED, and so do its commands that wait (R474). -/
def State.flushRing (s : State) (i : Nat) : State :=
  let s1 := (s.rings.waitLog.filter (ofRing i)).foldl (fun s c => match hostCtx c with
    | some (x, op) => s.complete x op stFlushed 0
    | none => s) s
  let s2 := (s.intake i).foldl (fun s d => s.complete (descCtx i d) (descOp d) stFlushed 0) s1
  ({ s2 with rings := { s2.rings with
      waitLog := s2.rings.waitLog.filter fun c => !ofRing i c
      badChain := s2.rings.badChain.filter (· != i) } }).setIntake i []

/-- EN of a ring object is cleared: a command ring is flushed, the telemetry FIFO too (R474, R490). -/
def State.ringOff (s : State) (obj : Nat) (stopped : Bool) : State :=
  let off (x : Ring) : Ring := { x with en := false, stopped := x.stopped || stopped, fetchTo := x.head }
  if obj < 4 then (s.updCr obj off).flushRing obj
  else
    let s1 := s.updPr (obj - 4) off
    if obj = 5 then { s1 with rings := { s1.rings with tlmOut := [] } } else s1

/-- A ring object's registers. -/
def State.ringObj (s : State) (obj : Nat) : Ring := if obj < 4 then s.cr obj else s.pr (obj - 4)
def State.updRing (s : State) (obj : Nat) (f : Ring → Ring) : State := if obj < 4 then s.updCr obj f else s.updPr (obj - 4) f

/-- log2 N is within the range of the ring (R493). -/
def sizeOk (obj n : Nat) : Bool := if obj = 5 then inRange 2 10 n else inRange 6 12 n

/-- A write of BASE: refused while the ring is in service (R470 code 5). -/
def State.baseWrite (s : State) (obj : Nat) (hi : Bool) (v : Word) : State :=
  if (s.ringObj obj).en then s.ringErr obj 5
  else s.updRing obj fun x => if hi then { x with baseHi := v } else { x with baseLo := v &&& 0xFFFFF000 }

/-- A write of UL_CR_CFG_i or UL_PR_CFG_p. -/
def State.cfgWrite (s : State) (obj : Nat) (v : Word) : State :=
  let r := s.ringObj obj
  let size := fld v 3 0
  let clear (x : Ring) : Ring := { x with stopped := x.stopped && !wbit v 30 }
  if r.en then
    if size ≠ r.size then s.ringErr obj 5
    else if wbit v 31 then s.updRing obj clear
    else (s.updRing obj clear).ringOff obj false
  else if wbit v 31 then
    if sizeOk obj size then
      s.updRing obj fun x => { clear x with en := true, size := size, head := 0, tail := 0, fetchTo := 0 }
    else s.ringErr obj 6
  else s.updRing obj fun x => { clear x with size := size }

/-- A write of UL_RING_CTRL: ARM arms the ring logic, and what the rings offer is fetched (R494). -/
def State.ringCtrlWrite (s : State) (v : Word) : State :=
  let s1 := { s with rings := { s.rings with
      ctrl := v &&& 0x0000FF07
      armed := s.rings.armed || wbit v 31 } }
  (if wbit v 31 then s1.blockReleased .ring 0 else s1).issueFetches

/-! ### Vectors (R487) -/

/-- INT_HOLD and VEC_EN. -/
def State.intHold (s : State) : Nat := fld s.rings.ctrl 15 8
def State.vecEn (s : State) (v : Nat) : Bool := wbit s.rings.ctrl v

/-- A vector is signalled, or waits for the end of its hold-off; `now` is an event of kind FAULT. -/
def State.signalVec (s : State) (v : Nat) (now : Bool) : State :=
  if !s.vecEn v then s
  else if s.rings.holdOff.contains v && !now then
    { s with rings := { s.rings with vecPend := if s.rings.vecPend.contains v then s.rings.vecPend else s.rings.vecPend ++ [v] } }
  else
    { s with rings := { s.rings with
        vectors := v :: s.rings.vectors
        holdOff := if s.intHold = 0 || s.rings.holdOff.contains v then s.rings.holdOff else s.rings.holdOff ++ [v] } }

/-- INT_HOLD_END: the oldest hold-off ends; a vector that waited is signalled and begins its next one. -/
def execIntHoldEnd (s : State) : Out :=
  match s.rings.holdOff with
  | [] => .next s
  | v :: t =>
    let s1 := { s with rings := { s.rings with holdOff := t, vecPend := s.rings.vecPend.filter (· != v) } }
    settle s (if s.rings.vecPend.contains v then s1.signalVec v false else s1)

/-! ### Entries of the producer rings (R467, R476, R484, R485) -/

/-- The words of a completion, with PHASE. -/
def complWords (c : Compl) (phase : Nat) : List Word :=
  [pack [(31, 24, c.opcode), (23, 22, c.ring), (15, 0, c.tag)], pack [(31, 16, c.index), (15, 8, c.status), (0, 0, phase)],
    BitVec.ofNat 32 c.epoch, BitVec.ofNat 32 c.data]

/-- The words of an event record, with PHASE. -/
def eventWords (e : Event) (phase : Nat) : List Word :=
  [pack [(31, 24, e.kind), (23, 16, e.sub), (15, 0, e.obj)], BitVec.ofNat 32 e.epoch, pack [(31, 16, e.eseq), (15, 0, e.epoch / 2 ^ 32)],
    BitVec.ofNat 32 e.d0, BitVec.ofNat 32 e.d1, BitVec.ofNat 32 e.d2, BitVec.ofNat 32 e.d3, pack [(31, 31, phase)]]

/-- The words of a telemetry record, with PHASE in the word at 0x1C. -/
def tlmPhase (l : List Word) (phase : Nat) : List Word := l.set 7 (pack [(31, 31, phase)])

/-- Write an entry: every word but the one that holds PHASE, and then that one (R467). -/
def State.writeEntry (s : State) (addr k : Nat) (l : List Word) : State :=
  let s1 := if k = 0 then s else s.hostWrite addr (l.take k)
  let s2 := if (l.drop (k + 1)).isEmpty then s1 else s1.hostWrite (addr + 4 * (k + 1)) (l.drop (k + 1))
  s2.hostWrite (addr + 4 * k) [l.getD k 0]

/-- An entry of producer ring p, its PHASE word at index k, and TAIL advanced. -/
def State.produce (s : State) (p k : Nat) (f : Nat → List Word) : State :=
  let r := s.pr p
  let l := f (r.phase r.tail)
  (s.writeEntry (r.base + r.tail % r.entries * (4 * l.length)) k l).updPr p fun x => { x with tail := (x.tail + 1) % 65536 }

/-- Finished completions move up as room appears (R469). -/
def State.complRefill (s : State) : State :=
  let n := complDepth - s.rings.complOut.length
  { s with rings := { s.rings with complOut := s.rings.complOut ++ s.rings.complWait.take n, complWait := s.rings.complWait.drop n } }

/-- The host writer serves the completion ring; with no room a completion waits. -/
def State.writeCompl (s : State) (room : Bool) : State :=
  match s.rings.complOut with
  | [] => s
  | c :: t =>
    if !room then s
    else
      let s1 := ({ s with rings := { s.rings with complOut := t } }).complRefill
      let s2 := s1.produce 0 1 (complWords c)
      if c.intr then s2.signalVec 0 false else s2

/-- The telemetry ring; with no room the record is dropped and counted. -/
def State.writeTlm (s : State) (room : Bool) : State :=
  match s.rings.tlmOut with
  | [] => s
  | l :: t =>
    let s1 := { s with rings := { s.rings with tlmOut := t } }
    if room then (s1.produce 1 7 (tlmPhase l)).signalVec 2 false
    else { s1 with rings := { s1.rings with tlmDrop := incSat 255 s1.rings.tlmDrop, dropped := incSat 255 s1.rings.dropped } }

/-- The event ring; with no room the record is dropped, and the run of drops goes on (R469). -/
def State.writeEvent (s : State) (room : Bool) : State :=
  match s.rings.eventOut with
  | [] => s
  | e :: t =>
    let s1 := { s with rings := { s.rings with eventOut := t } }
    if room then (({ s1 with flt := { s1.flt with eventLostRun := false } }).produce 2 7 (eventWords e)).signalVec 1 (e.kind == 1)
    else { s1 with flt := { s1.flt with eventLostRun := true } }

/-- HOST_ENTRY_WRITE: the host writer takes the oldest entry of an out FIFO to its ring, which is in service and armed. -/
def execHostEntryWrite (p : ProdIx) (s : State) : Out :=
  let r := s.pr p
  if !s.ringsOn || !s.rings.armed || !r.en then .next s
  else settle s (match p.val with
    | 0 => s.writeCompl r.room
    | 1 => s.writeTlm r.room
    | _ => s.writeEvent r.room)

/-- TELEMETRY_RECORD: the record of an interval whose last epoch is accounted enters the FIFO with commit 500 r + 3 (R484). -/
def execTelemetryRecord (s : State) : Out :=
  if s.rings.tlmLast.isSome && decide (s.ledger.epoch % 500 ≥ 2) then s.fast (s.tlmRecord (s.ledger.epoch / 500 * 500)) else .next s

/-! ### What host memory answers (R469, R470) -/

/-- The descriptors that a list of words holds, from an index on. -/
def descs (n x : Nat) (l : List Word) : List Desc := (List.range n).map fun k =>
  { index := (x + k) % 65536, words := ((l.drop (16 * k)).take 16 ++ List.replicate 16 0).take 16 }

/-- DESCRIPTOR_FETCHED: the read issued for a ring returns; its descriptors enter the intake FIFO and HEAD passes them (R468). -/
def execDescriptorFetched (i : RingIx) (words : List Word) (s : State) : Out :=
  let r := s.cr i
  let n := idxDiff r.fetchTo r.head
  if !s.ringsOn || !r.en || n = 0 then .next s
  else
    let s1 := s.setIntake i (s.intake i ++ descs n r.head words)
    settle s ((s1.updCr i fun x => { x with head := x.fetchTo }).issueFetch i)

/-- HOST_MEM_ERROR: a read or write for a ring fails; the ring stops, and RING_ERR is raised with code 3 or 4. -/
def execHostMemError (obj : RingObj) (write : Bool) (s : State) : Out :=
  if !s.ringsOn || !(s.ringObj obj).en then .next s
  else settle s ((s.ringOff obj true).ringErr obj (if write then 4 else 3))

end Sys2Proof.Machine
end

