-- ==== Sys2Proof/Machine/Window.lean ====
section
/-! DEFINITION. The register window (R10 to R13, R519 to R527, R532, R543, R545): reads with their side effects, writes by register group, the
accesses that the window holds and their order, and the commands that are one access of a host. -/

namespace Sys2Proof.Machine

/-! ### Reads (R10, R12, R13, R526) -/

/-- A read of a LO register latches the high half of the same value (R526). -/
def State.latchHi (s : State) (off : Nat) : State :=
  match off with
  | 0x208 => { s with clk := { s.clk with watchHi := s.clk.watch / 2 ^ 32 % 2 ^ 32 } }
  | 0x408 => { s with ledger := { s.ledger with epochHi := s.epochHi } }
  | 0x1614 => { s with pace := { s.pace with savedHi := toCode 32 (roundEven s.pace.saved / 2 ^ 32) } }
  | _ => s

/-- The counts of a UL_DSC_STAT_n word less those that a read returned. -/
def lessCounts (w r : Word) : Word :=
  pack [(31, 16, fld w 31 16), (15, 8, fld w 15 8 - fld r 15 8), (7, 4, fld w 7 4 - fld r 7 4), (3, 0, fld w 3 0 - fld r 3 0)]

/-- A read of UL_DSC_STAT_n returned the counts of the latest commit: they are taken off the register and off the counters, so that what
has come since then shows at the next commit (R10, R237). -/
def State.clearDscStat (s : State) (n : Nat) : State :=
  let off := 0xDC0 + 4 * n
  let r := s.readPub off
  let s1 := s.updDsc n fun x => { x with
    trigMiss := x.trigMiss - fld r 15 8
    passCnt := x.passCnt - fld r 7 4
    mismCnt := x.mismCnt - fld r 3 0 }
  { s1 with
    pub := s1.pub.modify 0 off fun w => lessCounts w r
    ledger := { s1.ledger with views := s1.ledger.views.modify 0 off fun w => lessCounts w r } }

/-- The RC fields of a register are cleared by the read that returned them (R10). -/
def State.clearRc (s : State) (off : Nat) : State :=
  if 0x9D0 ≤ off ∧ off ≤ 0x9EC then s.updLane ((off - 0x9D0) / 4) fun x => { x with passCnt := 0, mismCnt := 0 }
  else if 0xDC0 ≤ off ∧ off ≤ 0xE7C then s.clearDscStat ((off - 0xDC0) / 4)
  else if 0x1430 ≤ off ∧ off ≤ 0x144C then s.updChain ((off - 0x1430) / 4) fun x => { x with crcCnt := 0, retryCnt := 0, tlmDrop := 0 }
  else match off with
  | 0x1C => { s with win := { s.win with cnt := 0 } }
  | 0x1E4 => { s with rings := { s.rings with tlmDrop := 0 } }
  | 0x200 => { s with clk := { s.clk with lockLoss := 0 } }
  | 0x28C => { s with start := { s.start with shedCnt := 0 } }
  | 0x290 => { s with start := { s.start with adoptCnt := 0 } }
  | 0x404 => { s with ledger := { s.ledger with recLate := 0, cntSat := 0 } }
  | 0x4E4 => { s with ledger := { s.ledger with expired := 0, replaced := 0, badPkt := 0 } }
  | 0x4E8 => { s with ledger := { s.ledger with calSkip := 0 } }
  | 0x564 => { s with limits := { s.limits with overs := [], cutCnt := 0 } }
  | 0x568 => { s with limits := { s.limits with shortCnt := 0, violCnt := 0 } }
  | 0x56C => { s with limits := { s.limits with repeatBrk := 0 } }
  | 0x570 => { s with limits := { s.limits with fixTe := 0 } }
  | 0x1018 => { s with flt := { s.flt with shedDefer := 0 } }
  | 0x1460 => { s with creg := { s.creg with abortCnt := 0, staleCnt := 0 } }
  | 0x1514 => { s with therm := { s.therm with warnCnt := 0, throtCnt := 0 } }
  | 0x1528 => { s with stopq := { s.stopq with fallCnt := 0, glitchCnt := 0 } }
  | 0x160C => { s with pace := { s.pace with crcCnt := 0, downCnt := 0, expireCnt := 0 } }
  | 0x1610 => { s with pace := { s.pace with sympEpochs := 0 } }
  | 0x1700 => { s with smb := { s.smb with pecErr := 0, timeouts := 0 } }
  | 0x1714 => { s with avs := { s.avs with retry := 0 } }
  | 0x1888 => { s with policy := { s.policy with faultCnt := 0, clampCnt := 0, refuseCnt := 0 } }
  | 0x18A0 => { s with warden := { s.warden with warmCnt := 0 } }
  | _ => s

/-- The bytes of a word that an access at a byte offset of it returns; bytes beyond the word read 0 (R13). -/
def readBytes (w : Word) (at_ size : Nat) : Word := BitVec.ofNat 32 (w.toNat / 256 ^ at_ % 256 ^ size)

/-- The answer of a read. -/
def State.answer (s : State) (w : Word) (off size : Nat) : State :=
  { s with win := { s.win with lastRead := some (readBytes w (off % 4) size) } }

/-- An offset of the factory test range that the manual does not describe, in a part where it is open: what it reads is free (R544). -/
def ftOther (off : Nat) : Bool := decide (off ≥ 0x8000) && off != 0x8040

/-- A read that the window carries out, from the aligned word that holds its first byte (R10, R13, R532, R545). -/
def State.readNow (s : State) (off size : Nat) : State :=
  let o := off / 4 * 4
  if 0x8000 ≤ o ∧ s.otp.ftLocked then (s.winRefused 3 o false).answer 0 off size
  else if ftOther o then
    let (x, s1) := s.draw
    s1.answer (BitVec.ofNat 32 x.toNat) off size
  else if !assigned o then (s.winRefused 1 o false).answer 0 off size
  else ((s.answer (s.readReg o) off size).latchHi o).clearRc o

/-! ### Writes -/

/-- A value that a later register write replaces before its commit (R245, R472). -/
def State.unstage (s : State) (key : StageKey) : State :=
  let s1 := match (s.ledger.staged.find? fun e => e.key == key) with
    | some e => (match e.by_ with
      | .command x => s.supersede x
      | _ => s)
    | none => s
  { s1 with ledger := { s1.ledger with staged := s1.ledger.staged.filter fun e => !(e.key == key) } }

/-- A staged register: the image is checked and waits for its commit, or is discarded whole (R93, R245). -/
def State.stagedWrite (s : State) (off : Nat) (v : Word) : State :=
  if wardenOnly off || !s.valueOk off v then s.cfgReject off
  else
    let s1 := if off = 0x540 then s.unstage .fixed else s
    s1.hostStage off v .window

/-- The ring range (R493 to R495). -/
def State.ringWrite (s : State) (off : Nat) (v : Word) : State :=
  if off = 0x1E0 then s.ringCtrlWrite v
  else if off = 0x1E4 then { s with rings := { s.rings with err := ofBits ((setBits 7 s.rings.err).filter fun b => !wbit v b) } }
  else if off = 0x1E8 then
    { s with rings := { s.rings with
      underTrap := s.rings.underTrap && !wbit v 31
      underCmd := s.rings.underCmd && !wbit v 30 } }
  else
    let obj := (off - 0x100) / 0x20
    match off % 0x20 / 4 with
    | 0 => s.baseWrite obj false v
    | 1 => s.baseWrite obj true v
    | 2 => s.cfgWrite obj v
    | 3 => if obj < 4 then s.tailWrite obj (fld v 15 0) else s.headWrite (obj - 4) (fld v 15 0)
    | _ => s

/-- A request for a fast-side reset (R397): the same answer as FSR_REQUEST gives. -/
def State.fsrAsk (s : State) : State :=
  if s.start.ready && !s.stopq.active && !s.adopting && !s.restaging && (List.range 8).all fun c => (s.chain c).loan.isNone then
    ({ s with start := { s.start with fsrReq := true } }).fsrAssert
  else { s with start := { s.start with fsrRej := true } }

/-- UL_FSR_CTRL: REQ_REJ is cleared first, so that a refusal of the same write shows (R12, R397). -/
def State.fsrWrite (s : State) (v : Word) : State :=
  let s1 := if wbit v 30 then { s with start := { s.start with fsrRej := false } } else s
  if wbit v 31 then s1.fsrAsk else s1

/-- The ledger's registers that act at once (R280, R282, R289, R290). -/
def State.ledgerWrite (s : State) (off : Nat) (v : Word) : State :=
  match off with
  | 0x404 => if wbit v 4 then { s with ledger := { s.ledger with cfgRej := false } } else s
  | 0x410 =>
    let s1 := if wbit v 29 then { s with ledger := { s.ledger with freezeTo := false } } else s
    if wbit v 31 then s1.freezeOp else if s1.ledger.frozen then s1.unfreezeOp else s1
  | 0x4EC => { s with ledger := { s.ledger with floorMiss := s.ledger.floorMiss &&& ~~~v } }
  | 0x4F0 => s.captureTile v
  | _ => s

/-- UL_LAWBUF_w, UL_LAWCTRL and UL_LAWSTAT (R186 to R189). -/
def State.lawRegWrite (s : State) (off : Nat) (v : Word) : State :=
  if off = 0x884 then
    { s with eng := { s.eng with super := s.eng.super && !wbit v 3, rej := s.eng.rej && !wbit v 1, done := s.eng.done && !wbit v 0 } }
  else if s.eng.lawGo then { s with eng := { s.eng with rej := true, reason := 9 } }
  else if off = 0x880 then
    let s1 := { s with eng := { s.eng with lawOp := fld v 30 29, lawDom := fld v 5 0 } }
    if wbit v 31 then s1.lawStart (fld v 30 29) (fld v 5 0) else s1
  else { s with eng := { s.eng with lawBuf := s.eng.lawBuf.set ((off - 0x840) / 4) v } }

/-- The engine and cell set-up ranges (R93, R184 to R192). -/
def State.engineWrite (s : State) (off : Nat) (v : Word) : State :=
  if off = 0x800 ∨ (0xB00 ≤ off ∧ off ≤ 0xBC0) then s.stagedWrite off (v &&& regMask off)
  else if 0x840 ≤ off ∧ off ≤ 0x884 then s.lawRegWrite off v
  else if off = 0x9C0 ∨ off = 0x9C4 then
    let base := if off = 0x9C0 then 0 else 32
    { s with eng := { s.eng with satFlag := ofBits ((setBits 48 s.eng.satFlag).filter fun b => !(decide (base ≤ b) && decide (b < base + 32) && wbit v (b - base))) } }
  else if off = 0xBC4 then { s with eng := { s.eng with cellRej := s.eng.cellRej && !wbit v 0 } }
  else s

/-- Two entries of a sequence list, their reserved bits dropped (R11, R238, R239). -/
def setEntries (l : List (BitVec 16)) (i : Nat) (v : Word) : List (BitVec 16) :=
  (l.set (2 * i) (BitVec.ofNat 16 (fld v 15 0) &&& 0xCFFF)).set (2 * i + 1) (BitVec.ofNat 16 (fld v 31 16) &&& 0xCFFF)

/-- The staging copy of the DSC named in UL_SEQ_SEL (R209, R238). -/
def State.updStaging (s : State) (f : SeqSet → SeqSet) : State :=
  s.updDsc (fld s.sense.seqSel 5 0) fun x => { x with staging := f x.staging.full }

/-- UL_SEQ_CTRL: GO checks and activates the staging copy (R209, R238). -/
def State.seqCtrlWrite (s : State) (v : Word) : State :=
  if wbit v 31 then s.seqGo v
  else if !s.valueOk 0xE84 v then s.cfgReject 0xE84
  else s.updStaging fun l => { l with len := fld v 22 16, injLen := fld v 11 8 }

/-- UL_SP_EN_i of the domain named in UL_SP_SEL (R201, R203, R240). -/
def State.spEnWrite (s : State) (i : Nat) (v0 : Word) : State :=
  let d := fld s.sense.spSel 5 0
  let v := v0 &&& spMask d i
  let en := (s.spNexts d).set i v
  if spMask d i = 0 then s
  else if d == sd 13 || d == sd 14 || !s.spMinOk d en || !s.fbOk d (s.fbNext d) en then s.cfgReject 0xF44
  else s.stage (.spEn d i) v .window

/-- The sense range (R231 to R243). -/
def State.senseWrite (s : State) (off : Nat) (v : Word) : State :=
  if 0xC40 ≤ off ∧ off ≤ 0xDBC then s.stagedWrite off (v &&& regMask off)
  else if 0xE90 ≤ off ∧ off ≤ 0xE9C then s.updStaging fun l => { l with inj := setEntries l.inj ((off - 0xE90) / 4) v }
  else if 0xEC0 ≤ off ∧ off ≤ 0xF3C then s.updStaging fun l => { l with reg := setEntries l.reg ((off - 0xEC0) / 4) v }
  else if 0xF44 ≤ off ∧ off ≤ 0xF50 then s.spEnWrite ((off - 0xF44) / 4) v
  else if 0xFB0 ≤ off ∧ off ≤ 0xFEC then
    if s.valueOk off v then { s with sense := { s.sense with picks := s.sense.picks.set ((off - 0xFB0) / 4) v } } else s.cfgReject off
  else match off with
  | 0xC00 => s.stagedWrite off (v &&& regMask off)
  | 0xC04 => { s with sense := { s.sense with
      cfgRej := s.sense.cfgRej && !wbit v 7
      restRej := s.sense.restRej && !wbit v 6
      refFail := s.sense.refFail && !wbit v 5 } }
  | 0xC08 => s.softTrig (wbit v 31) (wbit v 30) (fld v 5 0)
  | 0xC0C => s.stagedWrite off (v &&& regMask off)
  | 0xE80 => if s.valueOk off v then { s with sense := { s.sense with seqSel := v &&& regMask off } } else s.cfgReject off
  | 0xE84 => s.seqCtrlWrite v
  | 0xE88 => s.updStaging fun l => { l with mask := fld v 20 0 }
  | 0xF40 => if s.valueOk off v then { s with sense := { s.sense with spSel := v &&& regMask off } } else s.cfgReject off
  | 0xF64 => s.restoreOp (fld v 12 0)
  | 0xF80 => s.tallyCaptureOp v
  | 0xF9C => if fld v 9 4 ≥ 56 then s.cfgReject off else s.tallyClearOp (fld v 9 4) (fld v 31 16)
  | _ => s

/-- A reaction image takes effect (R403, R426). -/
def State.setReact (s : State) (src v : Nat) : State := { s with flt := { s.flt with react := s.flt.react.set src v } }

/-- Pending bits named by a write of ones are cleared (R426). -/
def State.clearPend (s : State) (mask : Nat) : State :=
  { s with flt := { s.flt with pend := ofBits ((setBits 45 s.flt.pend).filter fun b => !bitAt mask b) } }

/-- UL_FLT_CTRL (R411, R424). -/
def State.fltCtrlWrite (s : State) (v : Word) : State :=
  if !s.valueOk 0x1000 v then s.cfgReject 0x1000
  else
    let s1 := { s with flt := { s.flt with ctrl := v &&& 0x00FFFFFF ||| s.flt.ctrl &&& 0x80000000, clrBusy := s.flt.clrBusy || wbit v 30 } }
    s1.setErrnHold (wbit v 31)

/-- The fault range, which acts on the collector at once (R424 to R426). -/
def State.faultWrite (s : State) (off : Nat) (v : Word) : State :=
  if 0x1040 ≤ off ∧ off ≤ 0x10FC then
    let src := (off - 0x1040) / 4
    if src ≥ 45 then s
    else if s.valueOk off (v &&& 0x1F) then s.setReact src (fld v 4 0) else s.cfgReject off
  else match off with
  | 0x1000 => s.fltCtrlWrite v
  | 0x1004 => { s with flt := { s.flt with cfgRej := s.flt.cfgRej && !wbit v 27 } }
  | 0x100C => s.clearPend v.toNat
  | 0x1010 => s.clearPend (v.toNat * 2 ^ 32)
  | _ => s

/-- Chains, heat and the pace link (R138, R337, R363, R364). -/
def State.chainWrite (s : State) (off : Nat) (v : Word) : State :=
  match off with
  | 0x1400 => ({ s with creg := { s.creg with rescueEn := wbit v 8 } }).loopRequest (fld v 7 0)
  | 0x1500 => if s.valueOk off (v &&& regMask off) then s.thermStage false (v &&& regMask off) .window else s.cfgReject off
  | 0x1504 => if s.valueOk off (v &&& regMask off) then s.thermStage true (v &&& regMask off) .window else s.cfgReject off
  | 0x1600 => s.stagedWrite off (v &&& regMask off)
  | _ => s

/-- The command that a channel's registers hold, for an opcode of R452; what only its outside part tells is not known yet. -/
def mboxInstr (ch : MboxChan) (m : Mbox) (op tag : Nat) : Instr :=
  let t := BitVec.ofNat 8 tag
  let a (i : Nat) : Word := m.args.get 0 i
  match op with
  | 1 => .getInfo ch t
  | 2 => .patchBegin ch t (a 0)
  | 3 => .patchData ch t (a 0) ((List.range 16).map (m.data.get 0))
  | 5 => .vtRead ch t (a 0) (a 1)
  | 6 => .vtStage ch t (a 0) (a 1)
  | 7 => .vtApply ch t
  | 8 => .vtCommit ch t
  | 10 => .polStart ch t
  | 11 => .polStop ch t
  | 12 => .polClear ch t
  | _ => .mboxUnknownOp ch t (BitVec.ofNat 8 op)

/-- UL_WMB_CMD: GO hands the command to the warden; PATCH_COMMIT and POL_LOAD then wait for the command that brings their check or their
image (R451, R457, notes/assumptions/1.md). -/
def State.mboxCmdWrite (s : State) (v : Word) : State :=
  let op := fld v 7 0
  let tag := fld v 23 16
  if s.warden.mboxW.busy then s
  else if !wbit v 31 then s.updMbox .window fun m => { m with op := op, cmdTag := tag }
  else if op = 4 ∨ op = 9 then s.updMbox .window fun m => { m with busy := true, op := op, cmdTag := tag, tag := tag }
  else s.mboxCommand .window op (BitVec.ofNat 8 tag) [] [] (mboxInstr .window s.warden.mboxW op tag)

/-- UL_AVS_CTRL: BASE is clamped by the warden and staged; RATE is in force at the next initialisation (R504, R507). -/
def State.avsCtrlWrite (s : State) (v : Word) : State :=
  if !s.valueOk 0x1710 v then s
  else
    let s1 := { s with avs := { s.avs with ctrl := putFld s.avs.ctrl 15 8 (fld v 15 8) } }
    s1.stage (.reg 0x1710) (putFld (v &&& regMask 0x1710) 27 16 (clampN 1740 1860 (fld v 27 16))) .window

/-- The tray buses and the warden (R457 to R463, R507, R508). -/
def State.wardenWrite (s : State) (off : Nat) (v : Word) : State :=
  let free := !s.warden.mboxW.busy
  if 0x1808 ≤ off ∧ off ≤ 0x1814 then
    if free then s.updMbox .window fun m => { m with args := m.args.set ((off - 0x1808) / 4) v } else s
  else if 0x1840 ≤ off ∧ off ≤ 0x187C then
    if free then s.updMbox .window fun m => { m with data := m.data.set ((off - 0x1840) / 4) v } else s
  else match off with
  | 0x1710 => s.avsCtrlWrite v
  | 0x1714 => s.forEach (List.range 4) fun s k => if wbit v (12 + k) then s.updLink k fun l => { l with err := false } else s
  | 0x1800 => s.mboxCmdWrite v
  | 0x1804 => if free && wbit v 30 then s.updMbox .window fun m => { m with done := false } else s
  | 0x1880 => if s.valueOk off v then { s with policy := { s.policy with ctrl := v &&& regMask off } } else s
  | 0x1884 => if s.valueOk off v then { s with policy := { s.policy with env := v &&& regMask off } } else s
  | 0x18A4 => if wbit v 26 then { s with warden := { s.warden with updRej := false } } else s
  | _ => s

/-- UL_FT_INJ in a part whose factory range is open (R423). -/
def State.ftWrite (s : State) (off : Nat) (v : Word) : State :=
  if off ≠ 0x8040 then s
  else
    let s1 := { s with win := { s.win with ftInj := v &&& 0x003FFFFF } }
    if wbit v 31 && decide (fld v 21 16 < 45) then s1.raise (fld v 21 16) (fld v 15 0) true else s1

/-- A whole-word write that the window carries out (R10, R532). -/
def State.writeNow (s : State) (off : Nat) (v : Word) : State :=
  if 0x8000 ≤ off then (if s.otp.ftLocked then s.winRefused 3 off true else s.ftWrite off v)
  else if !assigned off then s.winRefused 1 off true
  else if off = 0x10 then { s with win := { s.win with gctrl := v &&& 3 } }
  else if off = 0x14 then { s with win := { s.win with scratch := v } }
  else if off < 0x100 then s
  else if off < 0x200 then s.ringWrite off v
  else if off = 0x29C then s.fsrWrite v
  else if off < 0x400 then s
  else if off < 0x800 then
    if [0x404, 0x410, 0x4EC, 0x4F0].contains off then s.ledgerWrite off v
    else if [0x400, 0x414, 0x4E0, 0x540, 0x544, 0x548, 0x54C, 0x550].contains off || (decide (0x420 ≤ off) && decide (off ≤ 0x4DC)) then
      s.stagedWrite off (v &&& regMask off)
    else s
  else if off < 0xC00 then s.engineWrite off v
  else if off < 0x1000 then s.senseWrite off v
  else if off < 0x1400 then s.faultWrite off v
  else if off < 0x1700 then s.chainWrite off v
  else s.wardenWrite off v

/-! ### Order and holds (R13, R519 to R521) -/

/-- An access as the window carries it out. -/
def State.access (s : State) : Held → State
  | .write off v => s.writeNow off v
  | .read off size => s.readNow off size
  | .notWhole off => s.winRefused 2 off true

/-- An access that must wait for the control clock: an assigned register of its range (R520, R532). -/
def needsControl : Held → Bool
  | .write off _ => controlRange off && assigned off
  | .read off _ => controlRange off && assigned (off / 4 * 4)
  | .notWhole _ => false

/-- An access of the host: nothing reaches a window that is down, and one that must wait holds those behind it (R371, R520, R521). -/
def State.hostAccess (s : State) (a : Held) : State :=
  if !s.windowUp then s
  else if !s.win.held.isEmpty || (needsControl a && !s.fastUp) then { s with win := { s.win with held := s.win.held ++ [a] } }
  else s.access a

/-- The accesses held are carried out in order (R520). -/
def State.serveHeld (s : State) : State :=
  s.win.held.foldl State.access { s with win := { s.win with held := [] } }

/-- A write by the host of a whole aligned word, or of anything else (R13). -/
def State.hostWriteReg (s : State) (off : Nat) (v : Word) : State :=
  s.hostAccess (if off % 4 = 0 then .write off v else .notWhole off)

/-! ### The commands that are one access -/

/-- REGISTER_WRITE. -/
def execRegisterWrite (off : BitVec 16) (v : Word) (s : State) : Out := settle s (s.hostWriteReg off.toNat v)

/-- RC_FIELD_READ: a read, with every side effect of the word it is answered from. -/
def execRcFieldRead (off : BitVec 16) (size : Nat) (s : State) : Out := settle s (s.hostAccess (.read off.toNat size))

/-- WRITE_NOT_WHOLE: narrow, misaligned or across a word boundary. -/
def execWriteNotWhole (off : BitVec 16) (size : Nat) (s : State) : Out :=
  if size = 4 ∧ off.toNat % 4 = 0 then .next s else settle s (s.hostAccess (.notWhole off.toNat))

/-- UNASSIGNED_ACCESS. -/
def execUnassignedAccess (off : BitVec 16) (write : Bool) (s : State) : Out :=
  let o := off.toNat / 4 * 4
  if assigned o || decide (0x8000 ≤ o) then .next s
  else settle s (s.hostAccess (if write then .write o 0 else .read off.toNat 4))

/-- FT_LOCKED_ACCESS. -/
def execFtLockedAccess (off : BitVec 16) (write : Bool) (s : State) : Out :=
  let o := off.toNat / 4 * 4
  if decide (o < 0x8000) || !s.otp.ftLocked then .next s
  else settle s (s.hostAccess (if write then .write o 0 else .read off.toNat 4))

/-- The LO register of a split pair. -/
def splitLo : SplitPair → Nat
  | .epoch => 0x408
  | .saved => 0x1614
  | .watch => 0x208

/-- SPLIT_LO_READ. -/
def execSplitLoRead (p : SplitPair) (s : State) : Out := settle s (s.hostAccess (.read (splitLo p) 4))

/-- CR_DOORBELL. -/
def execCrDoorbell (r : RingIx) (tail : BitVec 16) (s : State) : Out :=
  settle s (s.hostWriteReg (0x10C + 0x20 * r.val) (BitVec.ofNat 32 tail.toNat))
/-- PR_DOORBELL. -/
def execPrDoorbell (p : ProdIx) (head : BitVec 16) (s : State) : Out :=
  settle s (s.hostWriteReg (0x18C + 0x20 * p.val) (BitVec.ofNat 32 head.toNat))
/-- RING_ENABLE: a write of EN = 1. -/
def execRingEnable (r : RingObj) (v : Word) (s : State) : Out :=
  if wbit v 31 then settle s (s.hostWriteReg (0x108 + 0x20 * r.val) v) else .next s
/-- RING_DISABLE: a write of EN = 0. -/
def execRingDisable (r : RingObj) (v : Word) (s : State) : Out :=
  if wbit v 31 then .next s else settle s (s.hostWriteReg (0x108 + 0x20 * r.val) v)
/-- RING_ARM. -/
def execRingArm (s : State) : Out := settle s (s.hostWriteReg 0x1E0 (s.rings.ctrl ||| 0x80000000))

/-- UL_LAWCTRL with GO on a domain. -/
def lawCtrl (op d : Nat) : Word := pack [(31, 31, 1), (30, 29, op), (5, 0, d)]
/-- LAW_STAGE: OP 0b00 (R187). -/
def execLawStage (d : BitVec 6) (s : State) : Out := settle s (s.hostWriteReg 0x880 (lawCtrl 0 d.toNat))
/-- LAW_COPY_ACTIVE: OP 0b01. -/
def execLawCopyActive (d : BitVec 6) (s : State) : Out := settle s (s.hostWriteReg 0x880 (lawCtrl 1 d.toNat))
/-- LAW_COPY_STAGED: OP 0b10. -/
def execLawCopyStaged (d : BitVec 6) (s : State) : Out := settle s (s.hostWriteReg 0x880 (lawCtrl 2 d.toNat))
/-- LAW_OP_REFUSED: OP 0b11, which ends refused with REASON OP (R157, R187). -/
def execLawOpRefused (d : BitVec 6) (s : State) : Out := settle s (s.hostWriteReg 0x880 (lawCtrl 3 d.toNat))

/-- UL_SNS_TRIG (R233). -/
def snsTrig (all inj : Bool) (conv : Nat) : Word := pack [(31, 31, b2n all), (30, 30, b2n inj), (5, 0, conv)]
/-- SNS_TRIG_REGULAR. -/
def execSnsTrigRegular (all : Bool) (conv : BitVec 6) (s : State) : Out := settle s (s.hostWriteReg 0xC08 (snsTrig all false conv.toNat))
/-- SNS_TRIG_INJECTED. -/
def execSnsTrigInjected (all : Bool) (conv : BitVec 6) (s : State) : Out := settle s (s.hostWriteReg 0xC08 (snsTrig all true conv.toNat))
/-- SEQ_GO: UL_SEQ_CTRL is written with GO. -/
def execSeqGo (v : Word) (s : State) : Out := settle s (s.hostWriteReg 0xE84 (v ||| 0x80000000))
/-- TALLY_CAPTURE: UL_TALLY_SEL is written. -/
def execTallyCapture (v : Word) (s : State) : Out := settle s (s.hostWriteReg 0xF80 v)
/-- TALLY_CLEAR: UL_TALLY_CLR is written. -/
def execTallyClear (v : Word) (s : State) : Out := settle s (s.hostWriteReg 0xF9C v)
/-- SP_RESTORE: UL_SP_RESTORE is written. -/
def execSpRestore (point : BitVec 13) (s : State) : Out := settle s (s.hostWriteReg 0xF64 (BitVec.ofNat 32 point.toNat))
/-- TILE_CAPTURE: UL_TILE_SEL is written. -/
def execTileCapture (v : Word) (s : State) : Out := settle s (s.hostWriteReg 0x4F0 v)
/-- FREEZE: a write of FREEZE = 1 (R249). -/
def execFreeze (s : State) : Out := settle s (s.hostWriteReg 0x410 0x80000000)
/-- UNFREEZE: a write of FREEZE = 0. -/
def execUnfreeze (s : State) : Out := settle s (s.hostWriteReg 0x410 0)
/-- LOOP_REQ is written (R138). -/
def execLoopReq (mask : BitVec 8) (s : State) : Out :=
  settle s (s.hostWriteReg 0x1400 (pack [(8, 8, b2n s.creg.rescueEn), (7, 0, mask.toNat)]))
/-- FSR_REQUEST: REQ of UL_FSR_CTRL is written (R397). -/
def execFsrRequest (s : State) : Out := settle s (s.hostWriteReg 0x29C 0x80000000)

/-- FAULT_INJECT: UL_FT_INJ is written with GO: with the factory range unlocked it raises the source with INJ set, with the range locked the
write is discarded and recorded (R423, R545). -/
def execFaultInject (src : SrcIx) (obj : BitVec 16) (s : State) : Out :=
  settle s (s.hostWriteReg 0x8040 (pack [(31, 31, 1), (21, 16, src), (15, 0, obj.toNat)]))

end Sys2Proof.Machine
end

