-- ==== Sys2Proof/Machine/HostCmds.lean ====
section
/-! DEFINITION. The commands of the host rings (R471 to R483): when the executor accepts one, what each does, and how it completes. -/

namespace Sys2Proof.Machine

/-- What a command's acceptance comes to: a refusal with its STATUS and DATA, or the state it leaves. -/
abbrev Verdict := Except (Nat × Nat) State

/-- Refused with a status and DATA 0. -/
def refuse (st : Nat) : Verdict := .error (st, 0)

/-- The commands that take effect at a commit (R478). -/
def classC (op : Nat) : Bool :=
  (decide (1 ≤ op) && decide (op ≤ 4)) || (decide (6 ≤ op) && decide (op ≤ 10)) || [0x0E, 0x0F, 0x11, 0x13, 0x14].contains op

/-- The commands that a fast-side reset does not hold back (R474). -/
def runsInReset (op : Nat) : Bool := [0x00, 0x12, 0x15, 0x17].contains op

/-- What finishes a command that staged a value (R245, R472). -/
def State.atCommit (s : State) : WaitFor := .commit s.ledger.cutoff

/-- A domain index that names no domain, and one reserved to the warden (R8, R477, R479). -/
def noDomain (d : Nat) : Bool := decide (d ≥ 48)
def denied (d : Nat) : Bool := d == sd 13 || d == sd 14

/-! ### Voltage and power of a domain (R173, R310, R429, R479) -/

def State.runSetDomainVoltage (s : State) (x : CmdCtx) (d v : Nat) : Verdict :=
  if noDomain d then refuse stBad
  else if denied d then refuse stDenied
  else if decide (v < (vRange d).1) || decide (v > (vRange d).2) || decide (v < s.vMin d) then refuse stBad
  else if isTD d && s.limits.fixed then refuse stState
  else .ok ((s.stage (.vset d) (BitVec.ofNat 32 v) (.command x)).addFlight x 0x01 s.atCommit v)

def State.runDomainOn (s : State) (x : CmdCtx) (d : Nat) : Verdict :=
  if noDomain d then refuse stBad
  else if denied d then refuse stDenied
  else if (s.dom d).st ≠ .off || (s.lane (laneOf d)).out then refuse stState
  else .ok ((s.stage (.power d) 1 (.command x)).addFlight x 0x02 (.domRun d))

/-- A support domain goes off only while every tile domain is OFF; SD11 never does. -/
def State.runDomainOff (s : State) (x : CmdCtx) (d : Nat) : Verdict :=
  if noDomain d then refuse stBad
  else if denied d || d == sd 11 then refuse stDenied
  else if !isTD d && tds.any fun t => (s.dom t).st != .off then refuse stState
  else .ok ((s.stage (.power d) 0 (.command x)).addFlight x 0x03 (.domOff d))

/-! ### Law records (R157, R158) -/

def State.runStageLaw (s : State) (x : CmdCtx) (d : Nat) (addr : Nat) (h : HostData) : Verdict :=
  let l := (h.words ++ List.replicate 16 0).take 16
  let r := s.lawReason d l
  if addr % 64 ≠ 0 then refuse stBad
  else if denied d then refuse stDenied
  else if !h.ok then refuse stHostMem
  else if r ≠ 0 then .error (stLaw, lawTag l * 65536 + r)
  else .ok ((s.stageLaw d l (.command x)).addFlight x 0x04 (.law d) (lawTag l * 65536))

def State.runReadLaw (s : State) (x : CmdCtx) (d : Nat) (staged : Bool) (addr : Nat) (ok : Bool) : Verdict :=
  let rec_ := if staged then (s.dom d).staged.map (·.image) else some (s.dom d).law
  if noDomain d then refuse stBad
  else match rec_ with
  | none => refuse stState
  | some l0 =>
    let l := (l0 ++ List.replicate 16 0).take 16
    if !ok then refuse stHostMem else .ok ((s.hostWrite addr l).complete x 0x05 stOk (lawTag l * 65536))

/-! ### Images of registers (R479) -/

/-- Stage a list of images by register offset. -/
def State.stageImages (s : State) (x : CmdCtx) (l : List (Nat × Word)) : State :=
  l.foldl (fun s e => s.hostStage e.1 e.2 (.command x)) s

/-- The caps of SET_BUDGET: a word that is not valid names nothing. -/
def capImages (l : List Word) : List (Nat × Word) :=
  ((l.take 12).filter fun w => wbit w 31).map fun w => (0x460 + 4 * fld w 28 24, BitVec.ofNat 32 (fld w 19 0))

def State.runSetBudget (s : State) (x : CmdCtx) (valid : Bool) (treasury : Word) (caps : List Word) : Verdict :=
  if (caps.take 12).any fun w => w &&& 0x60F00000 != 0 then refuse stBad
  else if valid && !s.imageOk 0x414 treasury then refuse stBad
  else .ok ((s.stageImages x ((if valid then [(0x414, treasury)] else []) ++ capImages caps)).addFlight x 0x06 s.atCommit)

def State.runSetClassWeights (s : State) (x : CmdCtx) (first count : Nat) (images : List Word) : Verdict :=
  let l := (List.range count).map fun k => (0x420 + 4 * (first + k), images.getD k 0)
  if decide (count < 1) || decide (count > 14) || decide (first + count > 16) || l.any (fun e => !s.imageOk e.1 e.2) then refuse stBad
  else .ok ((s.stageImages x l).addFlight x 0x07 s.atCommit)

/-- The registers of SET_LIMITS, by bit of A1. -/
def limitsReg (b : Nat) : Nat := [0x540, 0x544, 0x548, 0x54C, 0x550, 0x1500, 0x1504].getD b 0

/-- FIX_EN as it will stand after the next commit. -/
def State.fixNext (s : State) : Bool :=
  match s.ledger.staged.find? fun e => e.key == .fixed with
  | some e => wbit e.val 0
  | none => wbit (s.regNext 0x540) 31

/-- One image of SET_LIMITS; FIX_EN of UL_LIM_CTRL is ignored, and thermal images wait for their round. -/
def State.stageLimitImage (s : State) (x : CmdCtx) (b : Nat) (v : Word) : State :=
  if b ≥ 5 then s.thermStage (b == 6) v (.command x)
  else s.hostStage (limitsReg b) (if b = 0 then putFld v 31 31 (b2n s.fixNext) else v) (.command x)

def State.runSetLimits (s : State) (x : CmdCtx) (valid : Nat) (images : List Word) : Verdict :=
  let l := (setBits 7 valid).map fun b => (b, images.getD b 0)
  let ok (e : Nat × Word) : Bool := s.imageOk (limitsReg e.1) (if e.1 = 0 then putFld e.2 31 31 0 else e.2)
  if !l.all ok then refuse stBad
  else
    let s1 := l.foldl (fun s e => s.stageLimitImage x e.1 e.2) s
    .ok (s1.addFlight x 0x08 (if l.any fun e => decide (e.1 ≥ 5) then .round else s.atCommit))

/-- The registers of SET_SENSE beside UL_SP_EN_i, by bit of VALID. -/
def senseReg (d k : Nat) : Nat := if k = 0 then 0xC40 + 4 * d else if k = 1 then 0xD00 + 4 * d else if k = 6 then 0xC0C else 0xC00

/-- SET_SENSE checks the feedback settings and the enabled points it leaves together (R201, R203). -/
def State.runSetSense (s : State) (x : CmdCtx) (d valid : Nat) (images : List Word) : Verdict :=
  let has (k : Nat) : Bool := bitAt valid k
  let img (k : Nat) : Word := images.getD k 0
  let points := (List.range 4).any fun i => has (i + 2)
  let en := (List.range 4).map fun i => if has (i + 2) then img (i + 2) else s.spNext d i
  let fb := if has 0 then img 0 else s.fbNext d
  if noDomain d then refuse stBad
  else if denied d && (has 0 || points) then refuse stDenied
  else if ((has 0 && img 0 &&& ~~~(regMask 0xC40) != 0) || (List.range 4).any fun i => has (i + 2) && img (i + 2) &&& ~~~(spMask d i) != 0)
      || ([1, 6, 7].any fun k => has k && !s.imageOk (senseReg d k) (img k))
      || ((has 0 || points) && !s.fbOk d fb en) || (points && !s.spMinOk d en) then refuse stBad
  else
    let s1 := s.stageImages x (([0, 1, 6, 7].filter has).map fun k => (senseReg d k, img k))
    let s2 := s1.forEach ((List.range 4).filter fun i => has (i + 2)) fun s i => s.stage (.spEn d i) (img (i + 2)) (.command x)
    .ok (s2.addFlight x 0x0F s.atCommit)

def State.runSetCellCfg (s : State) (x : CmdCtx) (d : Nat) (v : Word) : Verdict :=
  let off := if d = 63 then 0xBC0 else 0xB00 + 4 * d
  if denied d then refuse stDenied
  else if (d ≠ 63 ∧ noDomain d = true) ∨ s.imageOk off v = false then refuse stBad
  else .ok ((s.stageImages x [(off, v)]).addFlight x 0x11 s.atCommit)

/-- FIXED_FREQ: entry is refused while any V_SET_eff differs from its V_SET (R310). -/
def State.runFixedFreq (s : State) (x : CmdCtx) (enter : Bool) : Verdict :=
  if enter && !s.fixReady then refuse stState
  else .ok ((s.stage .fixed (BitVec.ofNat 32 (b2n enter)) (.command x)).addFlight x 0x13 s.atCommit)

/-! ### Cells (R114, R127) -/

def State.runLoanCell (s : State) (x : CmdCtx) (i d : Nat) : Verdict :=
  if decide (i ≥ 2304) || noDomain d then refuse stBad
  else
    let st := s.loanCheck i (some d)
    if st ≠ stOk then refuse st
    else .ok ((s.loanAccept i false false (.ring x.ring x.index.toNat)).addFlight x 0x09 (.loan i))

def State.runRecallCell (s : State) (x : CmdCtx) (i : Nat) : Verdict :=
  if i ≥ 2304 then refuse stBad
  else
    let st := s.recallCheck i
    if st ≠ stOk then refuse st
    else .ok ((s.loanAccept i true false (.ring x.ring x.index.toNat)).addFlight x 0x0A (.loan i))

/-- READ_CELL: a cell out of contact answers nothing; page 3 is refused by the cell itself (R114). -/
def State.runReadCell (s : State) (x : CmdCtx) (i page : Nat) : Verdict :=
  if i ≥ 2304 then refuse stBad
  else if !s.contact i then refuse stChain
  else .ok ((s.queueOrder i 7 page (.ring x.ring x.index.toNat)).addFlight x 0x0B (.rsp i page))

/-! ### Images and captures written to host memory (R216, R250, R358, R480) -/

def State.runSnapshot (s : State) (x : CmdCtx) (addr : Nat) : Verdict :=
  if addr % 64 ≠ 0 then refuse stBad else .ok (s.addFlight x 0x0C (.snapshot addr))

/-- READ_TALLY takes the committed copies now, or with CLEAR those that the next commit publishes. -/
def State.runReadTally (s : State) (x : CmdCtx) (conv mask : Nat) (clear : Bool) (addr : Nat) (ok : Bool) : Verdict :=
  if conv ≥ 56 then refuse stBad
  else if clear then .ok ((s.tallyClearOp conv mask).addFlight x 0x0D (.tallyClear conv mask addr ok))
  else if !ok then refuse stHostMem
  else
    let l := setBits 16 mask
    .ok ((s.hostWrite addr (l.flatMap fun t => tallyWords (s.tally conv t).done)).complete x 0x0D stOk l.length)

def State.runVaultRead (s : State) (x : CmdCtx) (off len addr : Nat) (ok : Bool) : Verdict :=
  if off % 8 ≠ 0 ∨ len % 8 ≠ 0 ∨ len < 8 ∨ len > 4096 ∨ off + len > 0x40000 then refuse stBad
  else if !ok then refuse stHostMem
  else
    let b := s.vaultBytes off len
    .ok ((s.hostWrite addr (bytesWords (len / 4) b)).complete x 0x15 stOk (crc32 b).toNat)

/-! ### Sequences and triggers (R209, R233, R481) -/

/-- The staging copy that a list of 36 words makes. -/
def seqList (old : SeqSet) (len injLen : Nat) (l : List Word) : SeqSet :=
  let entries (ws : List Word) : List (BitVec 16) := ws.flatMap fun w => [BitVec.ofNat 16 (fld w 15 0), BitVec.ofNat 16 (fld w 31 16)]
  let w := (l ++ List.replicate 36 0).take 36
  { old with len := len, injLen := injLen, inj := entries (w.take 4), reg := entries (w.drop 4) }

def State.runSetSequence (s : State) (x : CmdCtx) (d len injLen : Nat) (h : HostData) : Verdict :=
  let l := seqList (s.dsc d).staging len injLen h.words
  if noDomain d || decide (len > 64) || decide (injLen > 8) then refuse stBad
  else if !h.ok then refuse stHostMem
  else if !seqOk d l then refuse stBad
  else
    let s1 := (s.finish (.lists d) stSuperseded 0).updDsc d fun y => { y with staging := l }
    .ok ((s1.addFlight x 0x0E (.lists d)).seqActivate d l)

def State.runSenseTrigger (s : State) (x : CmdCtx) (v : Word) : Verdict :=
  if v &&& 0x3FFFFFC0 ≠ 0 ∨ (wbit v 31 = false ∧ fld v 5 0 ≥ 48) then refuse stBad
  else .ok ((s.softTrig (wbit v 31) (wbit v 30) (fld v 5 0)).complete x 0x10 stOk 0)

/-! ### Faults, hints, pace (R320, R411, R426, R482, R491) -/

def State.runFaultAck (s : State) (x : CmdCtx) (clr0 clr1 : Word) (hold : BitVec 2) : Verdict :=
  if clr1.toNat > 0x1FFF then refuse stBad
  else
    let s1 := s.clearPend (clr0.toNat + 2 ^ 32 * clr1.toNat)
    let s2 := if hold.toNat ≥ 2 then s1.setErrnHold (hold.toNat % 2 == 1) else s1
    .ok (s2.complete x 0x12 stOk (fltCode s2.flt.st))

def State.runSetReaction (s : State) (x : CmdCtx) (src react : Nat) : Verdict :=
  if !reactOk src react then refuse stBad else .ok ((s.setReact src react).complete x 0x17 stOk react)

def State.runDropPacket (s : State) (x : CmdCtx) (tile : Nat) (all : Bool) : Verdict :=
  let ts := if all then List.range 1024 else [tile]
  let s1 := s.forEach ts fun s t => s.updTile t Tile.dropPacket
  let n := sumN (ts.map fun t => (s.tile t).fifo.length - (s1.tile t).fifo.length)
  .ok (s1.complete x 0x16 stOk n)

/-- The group form stages the fields it names of UL_PACE_CTRL. -/
def State.runPaceGroup (s : State) (x : CmdCtx) (group : Nat) (apply send : Bool) : Verdict :=
  let v := putFld (putFld (putFld (s.regNext 0x1600) 23 16 group) 30 30 (b2n apply)) 29 29 (b2n send)
  .ok ((s.stageImages x [(0x1600, v)]).addFlight x 0x14 s.atCommit)

/-- The relay form sends QUOTA under a new SEQ, or RELEASE of the one in force, and completes with the frame's SEQ; where there is nothing to
release no frame is sent, and the manual gives no DATA (notes/assumptions/4.md). -/
def State.runPaceRelay (s : State) (x : CmdCtx) (q : Nat) (rel : Bool) : Verdict :=
  if q = 0 then refuse stBad
  else if s.pace.st ≠ .up ∨ s.paceGroup = 0 then refuse stState
  else if rel then match s.pace.relay with
    | some (_, seq, _) => .ok ((s.paceRelease true s.paceGroup).complete x 0x14 stOk seq)
    | none => let (r, s1) := s.draw; .ok (s1.complete x 0x14 stOk (r.toNat % 256))
  else
    let (seq, s1) := s.newSeq (s.pace.relay.map fun b => b.2.1)
    let s2 := s1.paceSend (.quota s.pace.pos true s.paceGroup q seq)
    .ok (({ s2 with pace := { s2.pace with
      relay := some (q, seq, 0)
      entries := takeQuota s2.pace.entries s.pace.pos true q seq } }).complete x 0x14 stOk seq)

/-! ### Acceptance (R471, R474, R483) -/

/-- The effect of an accepted command. -/
def State.hostRun (s : State) : Instr → Verdict
  | .nop x => .ok (s.complete x 0x00 stOk 0)
  | .setDomainVoltage x d v => s.runSetDomainVoltage x d.toNat v.toNat
  | .domainOn x d => s.runDomainOn x d.toNat
  | .domainOff x d => s.runDomainOff x d.toNat
  | .stageLaw x d a h => s.runStageLaw x d.toNat a.toNat h
  | .readLaw x d st a ok => s.runReadLaw x d.toNat st a.toNat ok
  | .setBudget x v t l => s.runSetBudget x v t l
  | .setClassWeights x f c l => s.runSetClassWeights x f.toNat c.toNat l
  | .setLimits x v l => s.runSetLimits x v.toNat l
  | .loanCell x i d => s.runLoanCell x i.toNat d.toNat
  | .recallCell x i => s.runRecallCell x i.toNat
  | .readCell x i p => s.runReadCell x i.toNat p.toNat
  | .snapshot x a => s.runSnapshot x a.toNat
  | .readTally x c m cl a ok => s.runReadTally x c.toNat m.toNat cl a.toNat ok
  | .setSequence x d l j _ h => s.runSetSequence x d.toNat l.toNat j.toNat h
  | .setSense x d v l => s.runSetSense x d.toNat v.toNat l
  | .senseTrigger x v => s.runSenseTrigger x v
  | .setCellCfg x d v => s.runSetCellCfg x d.toNat v
  | .faultAck x a b h => s.runFaultAck x a b h
  | .fixedFreq x e => s.runFixedFreq x e
  | .paceGroup x g a e => s.runPaceGroup x g.toNat a e
  | .paceRelay x q r => s.runPaceRelay x q.toNat r
  | .vaultRead x o l a ok => s.runVaultRead x o.toNat l.toNat a.toNat ok
  | .dropPacket x t a => s.runDropPacket x t.toNat a
  | .setReaction x r v => s.runSetReaction x r.toNat v.toNat
  | _ => refuse stBad

/-- A class C command before READY and during a stop sequence completes STATE (R474). -/
def State.stateRefused (s : State) (op : Nat) : Bool := classC op && (!s.start.ready || s.stopq.active)

/-- The executor serves commands: the ring logic is on and armed, and before READY SD11 is in RUN (R401, R465, R474, R494). -/
def State.hostOn (s : State) : Bool := s.ringsOn && s.rings.armed && (s.start.ready || s.stopq.active || s.windowUp)

/-- The completion out FIFO has no place (R469). -/
def State.complFull (s : State) : Bool := decide (s.rings.complOut.length ≥ complDepth) || !s.rings.complWait.isEmpty

/-- A command is not accepted yet: behind an earlier one of its ring that waits, behind what a FENCE waits for, without a place for its
completion, through a fast-side reset, or while a SNAPSHOT is in progress (R388, R469, R471, R474, R483). -/
def State.mustWait (s : State) (x : CmdCtx) (op : Nat) : Bool :=
  s.complFull || s.rings.waitLog.any (ofRing x.ring) || (x.fence && s.rings.flights.any fun f => f.x.ring == x.ring)
  || ((s.adopting || s.clk.fsReset) && !runsInReset op && !s.stateRefused op)
  || (op == 0x0C && s.rings.flights.any fun f => f.opcode == 0x0C)

/-- A command is accepted: refused, or run. -/
def State.accept (s : State) (c : Instr) (x : CmdCtx) (op : Nat) : State :=
  if s.stateRefused op then s.complete x op stState 0
  else match s.hostRun c with
    | .ok t => t
    | .error (st, d) => s.complete x op st d

/-- A command that reaches the executor is accepted, or waits in its ring's order. -/
def State.offer (s : State) (c : Instr) : State :=
  match hostCtx c with
  | none => s
  | some (x, op) =>
    if s.mustWait x op then { s with rings := { s.rings with waitLog := s.rings.waitLog ++ [c] } } else s.accept c x op

/-- The commands that wait are offered again, in their order. -/
def State.serveWaits (s : State) : State := s.rings.waitLog.foldl State.offer { s with rings := { s.rings with waitLog := [] } }

/-- A host command of a ring. -/
def State.hostCmd (s : State) (c : Instr) : Out := if s.hostOn then settle s (s.serveWaits.offer c) else .next s

def execNop (x : CmdCtx) (s : State) : Out := s.hostCmd (.nop x)
def execSetDomainVoltage (x : CmdCtx) (d : BitVec 6) (v : BitVec 12) (s : State) : Out := s.hostCmd (.setDomainVoltage x d v)
def execDomainOn (x : CmdCtx) (d : BitVec 6) (s : State) : Out := s.hostCmd (.domainOn x d)
def execDomainOff (x : CmdCtx) (d : BitVec 6) (s : State) : Out := s.hostCmd (.domainOff x d)
def execStageLaw (x : CmdCtx) (d : BitVec 6) (a : Word64) (h : HostData) (s : State) : Out := s.hostCmd (.stageLaw x d a h)
def execReadLaw (x : CmdCtx) (d : BitVec 6) (staged : Bool) (a : Word64) (ok : Bool) (s : State) : Out := s.hostCmd (.readLaw x d staged a ok)
def execSetBudget (x : CmdCtx) (valid : Bool) (t : Word) (caps : List Word) (s : State) : Out := s.hostCmd (.setBudget x valid t caps)
def execSetClassWeights (x : CmdCtx) (f c : BitVec 4) (l : List Word) (s : State) : Out := s.hostCmd (.setClassWeights x f c l)
def execSetLimits (x : CmdCtx) (v : BitVec 7) (l : List Word) (s : State) : Out := s.hostCmd (.setLimits x v l)
def execLoanCell (x : CmdCtx) (a : BitVec 12) (d : BitVec 6) (s : State) : Out := s.hostCmd (.loanCell x a d)
def execRecallCell (x : CmdCtx) (a : BitVec 12) (s : State) : Out := s.hostCmd (.recallCell x a)
def execReadCell (x : CmdCtx) (a : BitVec 12) (p : BitVec 2) (s : State) : Out := s.hostCmd (.readCell x a p)
def execSnapshot (x : CmdCtx) (a : Word64) (s : State) : Out := s.hostCmd (.snapshot x a)
def execReadTally (x : CmdCtx) (c : BitVec 6) (m : BitVec 16) (clear : Bool) (a : Word64) (ok : Bool) (s : State) : Out :=
  s.hostCmd (.readTally x c m clear a ok)
def execSetSequence (x : CmdCtx) (d : BitVec 6) (l : BitVec 7) (j : BitVec 4) (a : Word64) (h : HostData) (s : State) : Out :=
  s.hostCmd (.setSequence x d l j a h)
def execSetSense (x : CmdCtx) (d : BitVec 6) (v : BitVec 8) (l : List Word) (s : State) : Out := s.hostCmd (.setSense x d v l)
def execSenseTrigger (x : CmdCtx) (v : Word) (s : State) : Out := s.hostCmd (.senseTrigger x v)
def execSetCellCfg (x : CmdCtx) (d : BitVec 6) (v : Word) (s : State) : Out := s.hostCmd (.setCellCfg x d v)
def execFaultAck (x : CmdCtx) (a b : Word) (h : BitVec 2) (s : State) : Out := s.hostCmd (.faultAck x a b h)
def execFixedFreq (x : CmdCtx) (e : Bool) (s : State) : Out := s.hostCmd (.fixedFreq x e)
def execPaceGroup (x : CmdCtx) (g : BitVec 8) (a e : Bool) (s : State) : Out := s.hostCmd (.paceGroup x g a e)
def execPaceRelay (x : CmdCtx) (q : BitVec 6) (r : Bool) (s : State) : Out := s.hostCmd (.paceRelay x q r)
def execVaultRead (x : CmdCtx) (o l : Word) (a : Word64) (ok : Bool) (s : State) : Out := s.hostCmd (.vaultRead x o l a ok)
def execDropPacket (x : CmdCtx) (t : BitVec 10) (all : Bool) (s : State) : Out := s.hostCmd (.dropPacket x t all)
def execSetReaction (x : CmdCtx) (r : BitVec 6) (v : BitVec 5) (s : State) : Out := s.hostCmd (.setReaction x r v)
/-- UNKNOWN_OPCODE: an opcode that R478 does not list completes BAD. -/
def execUnknownOpcode (x : CmdCtx) (op : BitVec 8) (s : State) : Out :=
  if op.toNat ≤ 0x17 then .next s else s.hostCmd (.unknownOpcode x op)

end Sys2Proof.Machine
end

