-- ==== Sys2Proof/Machine/Executor.lean ====
section
/-! DEFINITION. The whole of an epoch commit (R244 to R250, R472), the executor's acceptance of descriptors (R471 to R475), and the end of the
restore after a fast-side reset (R388, R520, R534). -/

namespace Sys2Proof.Machine

/-! ### Domains that commands start and stop (R478, R479) -/

/-- One DOMAIN_ON or DOMAIN_OFF takes effect at its commit; a stop sequence that began in between refuses it (R474). -/
def State.powerDue (s : State) (d : Nat) (on : Bool) : State :=
  let w : WaitFor := if on then .domRun d else .domOff d
  if s.stopq.active then s.finish w stState 0
  else if on then
    if (s.dom d).st ≠ .off || (s.lane (laneOf d)).out then s.finish w stState 0
    else (s.updDom d fun x => { x with restart := false, soloStage := some 100 }).beginDomain d
  else if (s.dom d).st = .off then s.finish w stOk 0
  else (s.updDom d fun x => { x with restart := false }).offOrder d

/-- Every one that is due. -/
def State.powerCommit (s : State) (due : List Staged) : State :=
  due.foldl (fun s e => match e.key with
    | .power d => s.powerDue d (wbit e.val 0)
    | _ => s) s

/-! ### The commit -/

/-- READ_CELL commands that a fast-side reset left without their reply ask again (R388, R474). -/
def State.askAgain (s : State) : State :=
  s.rings.flights.foldl (fun s f => match f.waits with
    | .rsp i page => s.queueOrder i 7 page (.ring f.x.ring f.x.index.toNat)
    | _ => s) s

/-- The commit that ends adoption lets everything that waited go on, in order; the policy firmware's requests first (R388, R449, R474). -/
def State.afterCommit (s : State) (adopting : Bool) : State :=
  let s1 := if adopting && !s.adopting then (s.askAgain).ebsisHeld else s
  if s1.adopting || s1.clk.fsReset then s1 else s1.serveWaits

/-- The place of a completion among the commands in the order of acceptance. -/
def complPlace (l : List Flight) (c : Compl) : Nat :=
  (l.findIdx? fun f => f.x.ring.val == c.ring && f.x.index.toNat == c.index).getD l.length

/-- The completions that a commit added are posted in the order in which their commands were accepted (R472). -/
def State.complOrder (s0 s : State) : State :=
  let n := s0.rings.complOut.length + s0.rings.complWait.length
  let all := s.rings.complOut ++ s.rings.complWait
  let new := all.drop n
  let places := List.range (s0.rings.flights.length + 1)
  let sorted := places.flatMap fun k => new.filter fun c => complPlace s0.rings.flights c == k
  let l := all.take n ++ sorted
  let k := s.rings.complOut.length
  { s with rings := { s.rings with complOut := l.take k, complWait := l.drop k } }

/-- The whole of a commit. -/
def State.commit (s : State) : State :=
  let metered := s.ledger.running
  let ended := s.ledger.epoch
  let s00 := s.publishDoms
  let s0 := if metered then s00.forEach allDoms fun s d => s.calLatches ended d else s00
  let s1 := s0.openEpoch
  let n := s1.ledger.epoch
  let due := s1.dueStaged
  let laws := s1.lawsDue
  let s2 := { s1 with ledger := s1.ledger.restaged }
  let s3 := (s2.stopCommit).setPoints due
  let s4 := (s3.ledgerData n).ledgerCompose n (s3.fixAfter due) metered
  let s5 := s4.tallyCaptures n
  let s6 := ((s5.hintEffects).registerCommit due n).packetCommit n
  let s7 := ((s6.chainCommit).sequenceCommit).powerCommit due
  (s.complOrder ((s7.epochEnd n).finishCommit laws).publish.mirrorCommit).afterCommit s.adopting

/-- EPOCH_COMMIT: ccyc 0 of an epoch, while the control clock runs and the fast side is out of reset (R244, R247). -/
def execEpochCommit (s : State) : Out := if s.fastUp && s.clk.everLock then settle s s.commit else .next s

/-! ### Descriptors (R475, R478) -/

/-- The argument bits that R478 names, A1 on; words after the list hold no named bit. -/
def argMasks (op : Nat) (l : List Word) : List Word :=
  let all : Word := 0xFFFFFFFF
  match op with
  | 0x01 => [0x3F, 0xFFF]
  | 0x02 | 0x03 => [0x3F]
  | 0x04 => [0x3F, all, all]
  | 0x05 => [0x13F, all, all]
  | 0x06 => [1, all] ++ List.replicate 12 0x9F0FFFFF
  | 0x07 => 0xF0F :: List.replicate 14 all
  | 0x08 => 0x7F :: List.replicate 7 all
  | 0x09 => [0xFFF, 0x3F]
  | 0x0A => [0xFFF]
  | 0x0B => [0xFFF, 3]
  | 0x0C => [all, all]
  | 0x0D => [0xFFFF03F0, 1, all, all]
  | 0x0E => [0x7F0F3F, all, all]
  | 0x0F => 0xFF3F :: List.replicate 8 all
  | 0x10 => [0xC000003F]
  | 0x11 => [0x3F, all]
  | 0x12 => [all, 0x1FFF, 3]
  | 0x13 => [1]
  | 0x14 => [1, if wbit (l.getD 1 0) 0 then 0x13F else 0x3FF]
  | 0x15 => [all, all, all, all]
  | 0x16 => [0x800003FF]
  | 0x17 => [0x3F, 0x1F]
  | _ => []

/-- No reserved bit of a descriptor is set. -/
def descClean (op : Nat) (l : List Word) : Bool :=
  let m := argMasks op l
  fld (l.getD 0 0) 19 16 == 0 && (List.range 15).all fun k => l.getD (k + 1) 0 &&& ~~~(m.getD k 0) == 0

/-- The command that a descriptor spells, with what its access of host memory meets. -/
def descCommand (i : Nat) (d : Desc) (h : HostData) : Instr :=
  let x := descCtx i d
  let a (k : Nat) : Word := d.words.getD k 0
  let n (k hi lo w : Nat) : BitVec w := BitVec.ofNat w (fld (a k) hi lo)
  let addr (k : Nat) : Word64 := BitVec.ofNat 64 ((a k).toNat + 2 ^ 32 * (a (k + 1)).toNat)
  let op := descOp d
  match op with
  | 0x00 => .nop x
  | 0x01 => .setDomainVoltage x (n 1 5 0 6) (n 2 11 0 12)
  | 0x02 => .domainOn x (n 1 5 0 6)
  | 0x03 => .domainOff x (n 1 5 0 6)
  | 0x04 => .stageLaw x (n 1 5 0 6) (addr 2) h
  | 0x05 => .readLaw x (n 1 5 0 6) (wbit (a 1) 8) (addr 2) h.ok
  | 0x06 => .setBudget x (wbit (a 1) 0) (a 2) ((List.range 12).map fun k => a (k + 3))
  | 0x07 => .setClassWeights x (n 1 3 0 4) (n 1 11 8 4) ((List.range 14).map fun k => a (k + 2))
  | 0x08 => .setLimits x (n 1 6 0 7) ((List.range 7).map fun k => a (k + 2))
  | 0x09 => .loanCell x (n 1 11 0 12) (n 2 5 0 6)
  | 0x0A => .recallCell x (n 1 11 0 12)
  | 0x0B => .readCell x (n 1 11 0 12) (n 2 1 0 2)
  | 0x0C => .snapshot x (addr 1)
  | 0x0D => .readTally x (n 1 9 4 6) (n 1 31 16 16) (wbit (a 2) 0) (addr 3) h.ok
  | 0x0E => .setSequence x (n 1 5 0 6) (n 1 22 16 7) (n 1 11 8 4) (addr 2) h
  | 0x0F => .setSense x (n 1 5 0 6) (n 1 15 8 8) ((List.range 8).map fun k => a (k + 2))
  | 0x10 => .senseTrigger x (a 1)
  | 0x11 => .setCellCfg x (n 1 5 0 6) (a 2)
  | 0x12 => .faultAck x (a 1) (a 2) (n 3 1 0 2)
  | 0x13 => .fixedFreq x (wbit (a 1) 0)
  | 0x14 => if wbit (a 1) 0 then .paceRelay x (n 2 5 0 6) (wbit (a 2) 8) else .paceGroup x (n 2 7 0 8) (wbit (a 2) 8) (wbit (a 2) 9)
  | 0x15 => .vaultRead x (a 1) (a 2) (addr 3) h.ok
  | 0x16 => .dropPacket x (n 1 9 0 10) (wbit (a 1) 31)
  | 0x17 => .setReaction x (n 1 5 0 6) (n 2 4 0 5)
  | _ => .unknownOpcode x (BitVec.ofNat 8 op)

/-- What the executor answers to one descriptor: class C out of its time STATE, a reserved bit BAD, else the command's own verdict. -/
def State.verdict (s : State) (i : Nat) (d : Desc) (h : HostData) : Verdict :=
  if s.stateRefused (descOp d) then refuse stState
  else if !descClean (descOp d) d.words then refuse stBad
  else s.hostRun (descCommand i d h)

/-- One descriptor on its own. -/
def State.acceptDesc (s : State) (i : Nat) (d : Desc) (h : HostData) : State :=
  match s.verdict i d h with
  | .ok t => t
  | .error (st, v) => s.complete (descCtx i d) (descOp d) st v

/-! ### Chains (R473) -/

/-- The run of linked descriptors at the front of an intake FIFO, closed by one without LINK; none where it is not closed yet. -/
def closedChain (i : Nat) : List Desc → Option (List Desc)
  | [] => none
  | d :: t => if (descCtx i d).link then (closedChain i t).map (d :: ·) else some [d]

/-- Every member of a list completes with its own status. -/
def State.completeAll (s : State) (i : Nat) (l : List (Desc × Nat × Nat)) : State :=
  l.foldl (fun s e => s.complete (descCtx i e.1) (descOp e.1) e.2.1 e.2.2) s

/-- A chain: each member is judged after those before it; one refusal refuses all. -/
def State.acceptChain (s : State) (i : Nat) (l : List (Desc × HostData)) : State :=
  let step (b : State × List (Desc × Nat × Nat) × Bool) (e : Desc × HostData) : State × List (Desc × Nat × Nat) × Bool :=
    match b.1.verdict i e.1 e.2 with
    | .ok t => (t, b.2.1 ++ [(e.1, stLinkFail, 0)], b.2.2)
    | .error (st, v) => (b.1, b.2.1 ++ [(e.1, st, v)], true)
  let r := l.foldl step (s, [], false)
  if r.2.2 then s.completeAll i r.2.1 else r.1

/-- What ring i offers the executor: how many descriptors it would take now, 0 where its front one waits. -/
def State.ready (s : State) (i : Nat) : Nat :=
  let waits (l : List Desc) : Bool := l.any fun d => s.mustWait (descCtx i d) (descOp d)
  match s.intake i with
  | [] => 0
  | d :: t =>
    if s.rings.badChain.contains i then (if s.complFull then 0 else 1)
    else if !(descCtx i d).link then (if waits [d] then 0 else 1)
    else match closedChain i (d :: t) with
      | some l => if waits l || s.ledger.cutoff then 0 else l.length
      | none => if (d :: t).length ≥ intakeDepth && !s.complFull then (d :: t).length else 0

/-- The lowest-numbered ring with a descriptor ready takes precedence (R471). -/
def State.nextRing (s : State) : Option Nat := (List.range 4).find? fun i => s.ready i != 0

/-- The descriptors that the executor takes from a ring. A chain of more than four members, or with a member of another class, is BAD in every
member; those still to come are refused as they arrive. -/
def State.takeRing (s : State) (i : Nat) (data : List HostData) : State :=
  let l := (s.intake i).take (s.ready i)
  let s1 := s.setIntake i ((s.intake i).drop (s.ready i))
  let bad := l.map fun d => (d, stBad, 0)
  let linked (d : Desc) : Bool := (descCtx i d).link
  let goesOn := (l.getLast?.map linked).getD false
  let mark (t : State) : State := { t with rings := { t.rings with
      badChain := (t.rings.badChain.filter (· != i)) ++ (if goesOn then [i] else []) } }
  let h (k : Nat) : HostData := data.getD k { words := [], ok := false }
  if s.rings.badChain.contains i || goesOn then mark (s1.completeAll i bad)
  else match l with
  | [] => s1
  | [d] => s1.acceptDesc i d (h 0)
  | _ =>
    if l.all fun d => classC (descOp d) then s1.acceptChain i ((List.range l.length).filterMap fun k => (l[k]?).map fun d => (d, h k))
    else s1.completeAll i bad

/-- COMMAND_ACCEPT: at a descriptor boundary the executor takes the next descriptor, or a whole chain (R471, R473). -/
def execCommandAccept (data : List HostData) (s : State) : Out :=
  if !s.hostOn then .next s
  else
    let s1 := s.serveWaits
    match s1.nextRing with
    | none => settle s s1
    | some i => settle s ((s1.takeRing i data).issueFetch i)

/-! ### The end of the restore -/

/-- RESTORE_DONE: the warden ends its restore; lists that waited for a round's end are active, and the accesses held are carried out
(R388 step 4, R520, R534). -/
def execRestoreDone (s : State) : Out :=
  if !s.clk.fsReset || !s.clk.restoring || !s.clk.lock then .next s
  else
    let s1 := s.restoreEnd
    let s2 := s1.forEach allDoms fun s d => ((s.takeReg d).takeInj d).listsDone d
    settle s s2.serveHeld

end Sys2Proof.Machine
end

