-- ==== Sys2Proof/Machine/FaultCmds.lean ====
section
/-! DEFINITION. The commands of the fault collector (R405, R411, R418, R423, R424): raises asserted by a source, the
end of an ERR_N pulse, the close of an incident and the end of the quiet period. -/

namespace Sys2Proof.Machine

/-- Sources that lie in the AON domain and can be raised while the controller is stopped (R422). -/
def aonSource (src : Nat) : Bool := [34, 38, 39, 40, 43].contains src

/-- What the source itself notes of its condition: DSC_MISMATCH is counted (R237), and an underrun sets its flag (R489, R495). -/
def State.raiseNote (s : State) (src obj : Nat) : State :=
  if src = 21 ∧ obj < 48 then s.updDsc obj fun x => { x with mismCnt := incSat 15 x.mismCnt }
  else if src = 43 ∧ obj = 0 then { s with rings := { s.rings with underTrap := true } }
  else if src = 43 ∧ obj = 1 then { s with rings := { s.rings with underCmd := true } }
  else s

/-- A source detects its condition (R399, R405); POLICY_FAULT is counted as the policy core's own are (R450). -/
def execFaultRaise (src : SrcIx) (obj : BitVec 16) (s : State) : Out :=
  if !s.start.aon || (s.stopped && !aonSource src) then .next s
  else if src.val = 41 then settle s (s.policyFault obj.toNat)
  else settle s ((s.raiseNote src obj.toNat).raise src obj.toNat)

/-- The pulse on ERR_N ends (R411). -/
def execErrnPulseEnd (s : State) : Out :=
  settle s ({ s with flt := { s.flt with errnPulse := false } }).errnSettle

/-- The incident closes once its audits have concluded and its reactions have completed (R405, R409). -/
def execIncidentClose (s : State) : Out :=
  if s.incidentDone then settle s (s.closeIncident false) else .next s

/-- The incident closes 1,000 epochs after it opened, whatever remains (R405). -/
def execIncidentOverrun (s : State) : Out :=
  if s.flt.inc.open_ then settle s (s.closeIncident true) else .next s

/-- The quiet period ends (R417, R418). -/
def execFaultQuietEnd (s : State) : Out :=
  if s.flt.st == .recovering && s.flt.quiet.isSome then
    let cnt := incSat 65535 s.flt.recovCnt
    let s1 := { s with flt := { s.flt with
      st := .normal
      quiet := none
      recovCnt := cnt } }
    settle s ((s1.pushEvent (evRecover cnt s.flt.inc.seq)).writeStateBlock)
  else .next s

/-- The clear asked for by CNT_CLR is done: every UL_FLT_CNT_s and its vault copy (R424). -/
def execFltCntClear (s : State) : Out :=
  if s.flt.clrBusy then
    let s1 := { s with flt := { s.flt with
      raised := []
      trans := []
      lasting := []
      clrBusy := false } }
    settle s s1.writeStateBlock
  else .next s

end Sys2Proof.Machine
end

