-- ==== Sys2Proof/Machine/Pace.lean ====
section
/-! DEFINITION. The commands of the pace ring (R312 to R328): frames as they pass their check, and the chip's own events.  A
command that meets a chip whose SD13 is off, or a state its rule does not name, changes nothing (notes/assumptions/7.md). -/

namespace Sys2Proof.Machine

/-- The chip takes part in discovery: EN is 1 and READY has been reached (R316, R337). -/
def State.paceTakesPart (s : State) : Bool := s.paceOn && s.paceEn && s.start.ready

/-- A frame that this chip only forwards. -/
def State.paceForward (s : State) (f : PaceTx) : State := if s.paceOn then s.paceSend f else s

/-- The ring is up for the chip: its size is known, entries but the carried one are discarded, and a broadcast in force is to be
sent again at the next commit (R316 step 5, R326). -/
def State.paceUp (s : State) (n : Nat) : State :=
  let p := { s.pace with
    st := .up
    size := n
    liveAge := 0
    entries := s.pace.entries.filter (·.carried)
    resend := s.pace.bcast.isSome || s.pace.relay.isSome }
  ({ s with pace := p }).pushEvent (evPace 1 0 0 false false (s.pace.pos + n * 2 ^ 8))

/-- SURVEY (R314 to R317). -/
def execSurvey (serial : BitVec 48) (s : State) : Out :=
  if !s.paceTakesPart then settle s (s.paceForward (.survey serial.toNat))
  else
    let s1 := s.paceJoin
    if serial.toNat = s.serial then
      settle s (({ s1 with pace := { s1.pace with
        leader := true
        pos := 0 } }).paceSend (.count 1))
    else if serial.toNat < s.serial then settle s (s1.paceSend (.survey serial.toNat))
    else settle s s1

/-- COUNT (R316 steps 3 and 4): outside discovery, and with a NEXT outside 1 to 63, it is forwarded as it is. -/
def execCount (next : BitVec 7) (s : State) : Out :=
  let n := next.toNat
  if !s.paceTakesPart then settle s (s.paceForward (.count n))
  else if s.pace.leader then
    (if s.pace.st = .discovering ∧ 1 ≤ n ∧ n ≤ 64 then
      settle s (({ s with pace := { s.pace with size := n } }).paceSend (.size n))
    else .next s)
  else if s.pace.st = .discovering ∧ 1 ≤ n ∧ n ≤ 63 then
    settle s (({ s with pace := { s.pace with pos := n } }).paceSend (.count (n + 1)))
  else settle s (s.paceForward (.count n))

/-- SIZE (R316 step 5): the leader removes it. -/
def execSize (n : BitVec 7) (s : State) : Out :=
  if !s.paceTakesPart then settle s (s.paceForward (.size n.toNat))
  else if s.pace.leader then
    (if s.pace.st = .discovering then settle s (s.paceUp s.pace.size) else .next s)
  else if s.pace.st = .discovering ∧ 1 ≤ n.toNat ∧ n.toNat ≤ 64 then settle s ((s.paceUp n.toNat).paceSend (.size n.toNat))
  else settle s (s.paceForward (.size n.toNat))

/-- The chip removes frames of its own ring position (R315). -/
def State.paceOwn (s : State) (origin : Nat) : Bool := s.pace.st == .up && s.pace.pos == origin

/-- LIVE (R315, R317). -/
def execLive (origin : BitVec 6) (s : State) : Out :=
  if s.paceOwn origin.toNat then .next s else settle s (s.paceForward (.live origin.toNat))

/-- The chip holds entries of a group: its own, which is not 0 (R319). -/
def State.paceHolds (s : State) (group : Nat) : Bool :=
  s.paceTakesPart && s.pace.st == .up && s.paceGroup != 0 && s.paceGroup == group

/-- QUOTA (R315, R319, R321): applied only for the chip's own group, and never for its own ORIGIN. -/
def execQuota (origin : BitVec 6) (relay : Bool) (group : BitVec 8) (q : BitVec 6) (seq : BitVec 8) (s : State) : Out :=
  if s.paceOwn origin.toNat then .next s
  else
    let s1 := s.paceForward (.quota origin.toNat relay group.toNat q.toNat seq.toNat)
    if s.paceHolds group.toNat && q.toNat != 0 then
      settle s { s1 with pace := { s1.pace with entries := takeQuota s.pace.entries origin.toNat relay q.toNat seq.toNat } }
    else settle s s1

/-- RELEASE (R321): it removes the entry whose SEQ it carries. -/
def execRelease (origin : BitVec 6) (relay : Bool) (group : BitVec 8) (seq : BitVec 8) (s : State) : Out :=
  if s.paceOwn origin.toNat then .next s
  else
    let s1 := s.paceForward (.release origin.toNat relay group.toNat seq.toNat)
    if s.paceHolds group.toNat then
      settle s { s1 with pace := { s1.pace with
        entries := s.pace.entries.filter fun e => !(e.is origin.toNat relay && e.seq == seq.toNat) } }
    else settle s s1

/-- LEAVE (R328): peers drop that origin's entries and post an event. -/
def execLeave (origin : BitVec 6) (group : BitVec 8) (s : State) : Out :=
  if s.paceOwn origin.toNat then .next s
  else
    let s1 := s.paceForward (.leave origin.toNat group.toNat)
    if s.paceHolds group.toNat then
      let s2 := { s1 with pace := { s1.pace with
        entries := s.pace.entries.filter fun e => e.carried || e.origin != origin.toNat } }
      settle s (s2.pushEvent (evPace 5 origin.toNat 0 false false))
    else settle s s1

/-- A frame whose CRC does not fit its payload: dropped and counted (R312, R313). -/
def execPaceCrcDrop (payload : BitVec 56) (crc : BitVec 16) (s : State) : Out :=
  if s.paceOn && crc.toNat != paceCrc payload.toNat then settle s { s with pace := { s.pace with crcCnt := incSat 65535 s.pace.crcCnt } } else .next s

/-- A discovery begins (R316). -/
def execPaceDiscovery (s : State) : Out :=
  if s.paceTakesPart && s.pace.lock && !(s.pace.st == .up) then settle s s.paceDiscover else .next s

/-- A chip that is not up 200 µs after its discovery began starts it again (R316). -/
def execPaceDiscoveryRetry (s : State) : Out :=
  if s.paceTakesPart && s.pace.st == .discovering then settle s s.paceDiscover else .next s

/-- The leader sends LIVE every 16 epochs of its own (R317). -/
def execPaceLiveSend (s : State) : Out :=
  if s.paceOn && s.pace.st == .up && s.pace.leader then
    settle s (({ s with pace := { s.pace with liveAge := 0 } }).paceSend (.live s.pace.pos))
  else .next s

/-- The receiver loses symbol lock: a chip that is up declares the ring down and raises PACE_DOWN (R317). -/
def execPaceLockLoss (s : State) : Out :=
  let s1 := { s with pace := { s.pace with lock := false } }
  if s.paceOn && s.pace.st == .up then settle s (s1.paceDown.raise 31 0) else settle s s1

/-- The receiver gains symbol lock: after READY, with EN, discovery begins (R316, R318). -/
def execPaceLockGain (s : State) : Out :=
  let s1 := { s with pace := { s.pace with lock := true } }
  if s.paceTakesPart then settle s s1.paceDiscover else settle s s1

/-- No valid frame for 100 µs while up: the ring is declared down (R317). -/
def execPaceSilence (s : State) : Out :=
  if s.paceOn && s.pace.st == .up then settle s (s.paceDown.raise 31 0) else .next s

/-- No valid signal for 100 µs after READY: the chip runs solo and posts one event (R35, R318). -/
def execPaceSolo (s : State) : Out :=
  if s.paceOn && s.start.ready && !s.pace.lock && !(s.pace.st == .solo) && !(s.pace.st == .up) then
    settle s (({ s with pace := { s.pace with
      st := .solo
      leader := false } }).pushEvent (evPace 0 0 0 false false))
  else .next s

/-- The entry that an expiry names: the carried one, which has no ORIGIN, or that of a pair (R321, R326). -/
def PaceEntry.expiring (carried : Bool) (origin : Nat) (relay : Bool) (e : PaceEntry) : Bool :=
  if carried then e.carried else e.is origin relay

/-- An entry not refreshed within 4 × PACE_REFRESH epochs expires, the carried entry included: counted and posted (R321, R326). -/
def execPaceEntryExpire (carried : Bool) (origin : BitVec 6) (relay : Bool) (s : State) : Out :=
  match s.pace.entries.find? (·.expiring carried origin.toNat relay) with
  | none => .next s
  | some e =>
    let s1 := { s with pace := { s.pace with
      entries := s.pace.entries.filter fun e => !(e.expiring carried origin.toNat relay)
      expireCnt := incSat 255 s.pace.expireCnt } }
    settle s (s1.pushEvent (evPace 4 e.origin e.q e.relay e.carried))

/-- QUOTA of a broadcast in force, sent again with the same Q and SEQ (R320, R482). -/
def State.paceResend (s : State) (relay : Bool) : State :=
  match (if relay then s.pace.relay else s.pace.bcast) with
  | none => s
  | some (q, seq, _) =>
    let s1 := s.paceSend (.quota s.pace.pos relay s.paceGroup q seq)
    if relay then { s1 with pace := { s1.pace with
      relay := some (q, seq, 0)
      entries := takeQuota s1.pace.entries s1.pace.pos true q seq } }
    else { s1 with pace := { s1.pace with bcast := some (q, seq, 0) } }

/-- The refresh of the broadcasts in force at every PACE_REFRESH epochs: its own while SEND_EN is 1, and the relayed one (R320, R327,
R482). -/
def execPaceRefresh (s : State) : Out :=
  if s.paceOn && s.pace.st == .up && s.paceGroup != 0 then
    settle s ((if s.paceSendEn then s.paceResend false else s).paceResend true)
  else .next s

/-- A frame of a reserved TYPE is forwarded unchanged and not acted on (R314). -/
def execPaceReservedFrame (payload : BitVec 56) (s : State) : Out :=
  if decide (1 ≤ bits payload.toNat 55 52) && decide (bits payload.toNat 55 52 ≤ 7) then .next s
  else settle s (s.paceForward (.raw payload.toNat))

end Sys2Proof.Machine
end

