-- ==== Sys2Proof/Machine/Smbus.lean ====
section
/-! DEFINITION. The SMBus target: address resolution, the PMBus subset, its status bits and replies, and a restart over PMBus
(R360, R361, R386, R496 to R501, R540). -/

namespace Sys2Proof.Machine

/-! ### Transactions -/

/-- The target answers at its assigned address; the TAP may hold its pins (R496, R551). -/
def State.smbAnswers (s : State) : Bool := s.traysUp && s.smb.valid

/-- The data bytes of a read, least significant byte of a word first. -/
def State.smbReply (s : State) (l : List Byte) : State := { s with smb := { s.smb with reply := l } }
def byte (n : Nat) : Byte := BitVec.ofNat 8 n
def State.replyByte (s : State) (n : Nat) : State := s.smbReply [byte n]
def State.replyWord (s : State) (n : Nat) : State := s.smbReply (natBytes 2 n)
/-- A block read sends its byte count first. -/
def State.replyBlock (s : State) (l : List Byte) : State := s.smbReply (byte l.length :: l)

/-- A bit of STATUS_CML: 7 invalid command, 6 invalid data, 5 PEC failed, 1 bus timeout (R499). -/
def State.cml (s : State) (b : Nat) : State := { s with smb := { s.smb with cml := orBit s.smb.cml b } }

/-- Data that the page does not have: nothing is returned. -/
def State.badData (s : State) : State := (s.cml 6).smbReply []

/-- A transaction at the assigned address; its START wakes the warden (R514). -/
def State.pmbus (s : State) (f : State → State) : Out := if s.smbAnswers then settle s (f s.wakeWarden) else .next s

/-- A write whose PEC is wrong is discarded and counted (R499, R508). -/
def State.badPec (s : State) : State := { s.cml 5 with smb := { (s.cml 5).smb with pecErr := incSat 255 s.smb.pecErr } }

/-- A write to a command that takes a PEC (R499). -/
def State.pmWrite (s : State) (pec : Pec) (f : State → State) : Out :=
  s.pmbus fun s => match pec with
    | .bad => s.badPec
    | _ => f s

/-- The domain that PAGE selects, none for the chip. -/
def State.pageDom (s : State) : Option Nat := if s.smb.page.toNat < 48 then some s.smb.page.toNat else none

/-! ### Formats (R498) -/

/-- A reading in LINEAR11; where no valid reading exists the reply is open (notes/assumptions/4.md). -/
def State.replyLinear (s : State) (v : Option Rat) : State :=
  match v with
  | some x => s.replyWord (linear11 x).toNat
  | none => let (r, s1) := s.draw; s1.replyWord (r.toNat % 65536)

/-- A chip reading, a domain reading, or the one of the two that the page has. -/
def State.readChip (s : State) (v : Rat) : State := if s.pageDom.isNone then s.replyLinear (some v) else s.badData

/-! ### Address resolution (R496, R497) -/

/-- The UDID, most significant byte first. -/
def State.udid (s : State) : List Byte :=
  (natBytes 16 ((0x81 * 2 ^ 120) + (0x08 + s.otp.sirev.toNat) * 2 ^ 112 + s.otp.vendorId.toNat * 2 ^ 96 + 0x4E02 * 2 ^ 80 + 0x0026 * 2 ^ 64
    + s.start.slot * 2 ^ 26 + s.serial % 2 ^ 26)).reverse

/-- PREPARE_TO_ARP: the address counts as not resolved. -/
def execPrepareToArp (s : State) : Out :=
  if s.traysUp then settle s { s.wakeWarden with smb := { s.smb with resolved := false } } else .next s

/-- RESET_DEVICE: the assigned address is cleared; without one ALERT_N is not driven (R496, R501). -/
def execResetDevice (s : State) : Out :=
  if s.traysUp then settle s { s.wakeWarden with smb := { s.smb with resolved := false, valid := false, addr := 0, alert := false } } else .next s

/-- GET_UDID: the UDID, and then the address in use, 0x7F where none is assigned, with a 1 below it. -/
def execGetUdid (s : State) : Out :=
  if s.traysUp then
    settle s (s.wakeWarden.replyBlock (s.udid ++ [byte (2 * (if s.smb.valid then s.smb.addr else 0x7F) + 1)]))
  else .next s

/-- ASSIGN_ADDRESS: the target whose UDID was named takes the address. -/
def execAssignAddress (udid : BitVec 128) (a : BitVec 7) (s : State) : Out :=
  if s.traysUp && udid == BitVec.ofNat 128 (bytesNat s.udid.reverse) then
    settle s { s.wakeWarden with smb := { s.smb with resolved := true, valid := true, addr := a.toNat } }
  else .next s

/-- SMBUS_TIMEOUT: SCL was low for 25 ms and the bus is released. -/
def execSmbusTimeout (s : State) : Out :=
  if s.traysUp then settle s { s.wakeWarden.cml 1 with smb := { (s.cml 1).smb with timeouts := incSat 255 s.smb.timeouts } } else .next s

/-- ALERT_RESPONSE: the target that drives ALERT_N answers with its address, and releases the pin once it has won (R501). -/
def execAlertResponse (s : State) : Out :=
  if s.smbAnswers && s.smb.alert then
    settle s ({ s.wakeWarden with smb := { s.smb with alert := false } }.replyByte (2 * s.smb.addr))
  else .next s

/-! ### Pages, faults and fixed values -/

/-- PAGE: read, or written with 0x00 to 0x2F or 0xFF. -/
def execPage (pec : Pec) (w : Option Byte) (s : State) : Out :=
  match w with
  | none => s.pmbus fun s => s.smbReply [s.smb.page]
  | some v => s.pmWrite pec fun s => if v.toNat < 48 ∨ v = 0xFF then { s with smb := { s.smb with page := v } } else s.cml 6

/-- CLEAR_FAULTS: STATUS_CML, RESTART_REJ and NOCLK. -/
def execClearFaults (pec : Pec) (s : State) : Out :=
  s.pmWrite pec fun s => { s with smb := { s.smb with cml := 0, restRej := false, noClk := false } }

def execCapability (s : State) : Out := s.pmbus fun s => s.replyByte 0xD0
def execVoutMode (s : State) : Out := s.pmbus fun s => s.replyByte 0x14
def execPmbusRevision (s : State) : Out := s.pmbus fun s => s.replyByte 0x44

/-- The bytes of an ASCII text. -/
def asciiBytes (t : String) : List Byte := t.toList.map fun c => byte c.toNat
def execMfrId (s : State) : Out := s.pmbus fun s => s.replyBlock (asciiBytes "GNOXUS")
def execMfrModel (s : State) : Out := s.pmbus fun s => s.replyBlock (asciiBytes "ULUGO U2")
/-- MFR_REVISION: ROM version, silicon revision. -/
def execMfrRevision (s : State) : Out := s.pmbus fun s => s.replyBlock [byte romVersion, byte s.otp.sirev.toNat]
/-- MFR_SERIAL: the six bytes of the chip serial. -/
def execMfrSerial (s : State) : Out := s.pmbus fun s => s.replyBlock (natBytes 6 s.serial)

/-! ### Status (R499) -/

def execStatusByte (s : State) : Out := s.pmbus fun s => s.replyByte s.statusByte
def execStatusWord (s : State) : Out := s.pmbus fun s => s.replyWord s.statusWord
def execStatusTemperature (s : State) : Out := s.pmbus fun s => s.replyByte s.statusTemperature
def execStatusCml (s : State) : Out := s.pmbus fun s => s.replyByte s.smb.cml
def execStatusMfrSpecific (s : State) : Out := s.pmbus fun s => s.replyByte s.statusMfr

/-! ### Readings (R498) -/

/-- READ_VIN: V_IN in volts. -/
def execReadVin (s : State) : Out := s.pmbus fun s => s.readChip (s.rings.pubVin / 1000)
/-- READ_IIN: the four converters' currents, 10 mA a step. -/
def execReadIin (s : State) : Out :=
  s.pmbus fun s => s.readChip ((sumN ((List.range 4).map fun k => fld (s.link k).vi 15 0) : Rat) / 100)
/-- READ_VOUT: LINEAR16 with exponent −12, from 1/64 mV. -/
def execReadVout (s : State) : Out :=
  s.pmbus fun s => match s.pageDom with
    | some d => s.replyWord (satU 16 (roundEven ((((s.acct d).pubV).getD 0 : Rat) * 4096 / 64000)))
    | none => s.badData
/-- READ_IOUT: amperes. -/
def execReadIout (s : State) : Out :=
  s.pmbus fun s => match s.pageDom with
    | some d => s.replyLinear (some ((((s.acct d).pubI).getD 0 : Rat) / 1000))
    | none => s.replyLinear (some (s.rings.pubIout / 1000))
/-- READ_POUT: watts, from mW and from 50 µW codes. -/
def execReadPout (s : State) : Out :=
  s.pmbus fun s => match s.pageDom with
    | some d => s.replyLinear (some ((((s.acct d).pubP).getD 0 : Rat) / 20000))
    | none => s.replyLinear (some (s.rings.pubPout / 1000))
/-- READ_PIN: watts. -/
def execReadPin (s : State) : Out := s.pmbus fun s => s.readChip (s.rings.pubPin / 1000)

/-- The diodes beneath a domain: of its tiles, or the two of a support domain (R342). -/
def domDiodes (d : Nat) : List Nat := if isTD d then domTiles d else [1088 + 2 * (d - 32), 1089 + 2 * (d - 32)]

/-- The highest valid reading of some diodes in the last closed round, 1/64 °C. -/
def State.hottest (s : State) (l : List Nat) : Option Int :=
  (l.filterMap fun n => (s.diode n).round).foldl (fun b t => some (match b with
    | some m => max m t
    | none => t)) none

/-- READ_TEMPERATURE_1: HOT_T of the chip, or the hottest valid diode of the domain. -/
def execReadTemperature1 (s : State) : Out :=
  s.pmbus fun s => match s.pageDom with
    | some d => s.replyLinear ((s.hottest (domDiodes d)).map fun (t : Int) => (t : Rat) / 64)
    | none => s.replyLinear (some ((sext 16 (fld s.rings.pubHot 31 16) : Rat) / 64))

/-! ### Restart (R360, R361, R386, R500) -/

/-- R361 holds: stopped, the latest record sealed, and the quiet period complete. -/
def State.restartOk (s : State) : Bool := s.stopped && s.stopq.exists_ && !s.stopq.active && s.stopq.quietOk

/-- The restart is accepted: CLEARED is written, THERMTRIP_N and ERR_N are released, and the slot stagger runs before step 3. -/
def State.restart (s : State) : State :=
  let s1 := s.vaultPutWords (stopRecAddr s.stopq.slot + 0x44) [1]
  ({ s1 with
    stopq := { s1.stopq with cleared := true, thermTrip := false, quiet := none, quietOk := false }
    flt := { s1.flt with errnStop := false }
    start := { s1.start with
      step := if s1.start.pwrOk then .stagger else .waitPwr
      restartWait := true } }).errnSettle

/-- MFR_RESTART: a valid PEC and 0xA5, or it is invalid data, a PEC that fails included; then R361 decides. -/
def execMfrRestart (pec : Pec) (data : Byte) (s : State) : Out :=
  s.pmbus fun s =>
    if pec = .bad then (s.cml 6).badPec
    else if pec ≠ .good ∨ data ≠ 0xA5 then s.cml 6
    else if s.restartOk then s.restart
    else { s with smb := { s.smb with restRej := true } }

/-! ### Faults, start-up and the vault -/

/-- MFR_ERRN: bit 0 ERRN_HOLD, bit 1 ERR_N driven low; a write needs its PEC. -/
def execMfrErrn (pec : Pec) (w : Option Byte) (s : State) : Out :=
  match w with
  | none => s.pmbus fun s => s.replyByte (b2n s.errnHold + 2 * b2n s.flt.errn)
  | some v => s.pmWrite pec fun s => if pec = .good then s.setErrnHold (v.toNat % 2 == 1) else s.cml 7

/-- MFR_FAULT: UL_FLT_STAT, UL_FLT_INC and the two pending words. -/
def execMfrFault (s : State) : Out :=
  s.pmbus fun s => s.replyBlock (wordsBytes [s.readReg 0x1004, s.readReg 0x1008, s.readReg 0x100C, s.readReg 0x1010])
/-- MFR_START: UL_START_STAT, UL_START_TIME. -/
def execMfrStart (s : State) : Out := s.pmbus fun s => s.replyBlock (wordsBytes [s.readReg 0x280, s.readReg 0x284])

/-- MFR_VAULT_ADDR: a multiple of 8 within the vault. -/
def execMfrVaultAddr (pec : Pec) (off : Word) (s : State) : Out :=
  s.pmWrite pec fun s =>
    if off.toNat % 8 ≠ 0 ∨ off.toNat ≥ 0x40000 then s.cml 6 else { s with smb := { s.smb with vaultAddr := off.toNat } }

/-- 32 bytes of the vault; those past its end are open (notes/assumptions/4.md). -/
def State.vaultBlock (s : State) : List Byte × State :=
  let a := s.smb.vaultAddr
  let (r, s1) := s.draw
  (((s.vaultBytes a (min 32 (0x40000 - a))) ++ List.replicate 32 (BitVec.ofNat 8 r.toNat)).take 32, if a + 32 ≤ 0x40000 then s else s1)

/-- MFR_VAULT_DATA: 32 bytes from the offset, which advances by 32. -/
def execMfrVaultData (s : State) : Out :=
  s.pmbus fun s =>
    let (l, s1) := s.vaultBlock
    ({ s1 with smb := { s1.smb with vaultAddr := s1.smb.vaultAddr + 32 } }).replyBlock l

/-! ### The mailbox channel and register reads (R451, R498, R540) -/

/-- PMB_MBOX_EN and PMB_REG_EN of UL_GCTRL. -/
def State.pmbMbox (s : State) : Bool := wbit s.win.gctrl 0
def State.pmbReg (s : State) : Bool := wbit s.win.gctrl 1

/-- MFR_MBOX_CMD: opcode, tag, four arguments and, for some, 64 bytes of data; GO is implied. -/
def execMfrMboxCmd (pec : Pec) (op tag : BitVec 8) (args : List Word) (data : Option (List Word)) (s : State) : Out :=
  s.pmWrite pec fun s =>
    let words := data.getD []
    if !s.pmbMbox then s.cml 7
    else if args.length ≠ 4 ∨ (data.isSome ∧ words.length ≠ 16) then s.cml 6
    else if s.warden.mboxP.busy then s
    else
      let s1 := s.updMbox .pmbus fun m => { m with
        op := op.toNat
        cmdTag := tag.toNat
        args := asTab args
        data := if words.isEmpty then m.data else asTab words }
      if op = 4 ∨ op = 9 then s1.updMbox .pmbus fun m => { m with busy := true, tag := tag.toNat }
      else s1.mboxCommand .pmbus op.toNat tag [] [] (mboxInstr .pmbus s1.warden.mboxP op.toNat tag.toNat)

/-- MFR_MBOX_STAT: flags, STATUS, TAG, the results and the data; it stays readable. -/
def execMfrMboxStat (s : State) : Out :=
  s.pmbus fun s =>
    let m := s.warden.mboxP
    s.replyBlock ([byte (128 * b2n m.busy + 64 * b2n m.done), byte m.status, byte m.tag, 0]
      ++ wordsBytes ((List.range 4).map (m.res.get 0)) ++ wordsBytes ((List.range 16).map (m.data.get 0)))

/-- MFR_REG_ADDR. -/
def execMfrRegAddr (pec : Pec) (off : BitVec 16) (s : State) : Out :=
  s.pmWrite pec fun s => if s.pmbReg then { s with smb := { s.smb with regAddr := off.toNat } } else s.cml 7

/-- What a register read over PMBus finds: whether its range is served at all, and whether it is reachable now (R498). -/
def State.regServed (s : State) (off : Nat) : Option Bool :=
  if off % 4 ≠ 0 ∨ off ≥ 0x1900 then none
  else if 0x100 ≤ off ∧ off < 0x200 then some s.ringsOn
  else if 0x400 ≤ off ∧ off < 0x1700 then some s.fastUp
  else some true

/-- MFR_REG_DATA: the register at the offset, without side effects. -/
def execMfrRegData (s : State) : Out :=
  s.pmbus fun s =>
    let off := s.smb.regAddr
    if !s.pmbReg then (s.cml 7).smbReply []
    else match s.regServed off with
      | none => s.badData
      | some true => s.replyBlock (wordBytes (if assigned off then s.readReg off else 0))
      | some false => ({ s with smb := { s.smb with noClk := true } }).replyBlock (wordBytes 0xFFFFFFFF)

/-- The command codes of R498. -/
def pmbusCodes : List Nat :=
  [0x00, 0x03, 0x19, 0x20, 0x78, 0x79, 0x7D, 0x7E, 0x80, 0x88, 0x89, 0x8B, 0x8C, 0x8D, 0x96, 0x97, 0x98, 0x99, 0x9A, 0x9B, 0x9E] ++
    (List.range 10).map (0xD0 + ·)

/-- A code that counts as not listed: none of R498, or one that UL_GCTRL disables (R540). -/
def State.pmbusUnlisted (s : State) (code : Nat) : Bool :=
  !pmbusCodes.contains code || (!s.pmbMbox && code == 0xD6) || (!s.pmbReg && (code == 0xD8 || code == 0xD9))

/-- PMBUS_INVALID_COMMAND: acknowledged and discarded, with the invalid-command bit. -/
def execPmbusInvalidCommand (code : Byte) (s : State) : Out :=
  if s.pmbusUnlisted code.toNat then s.pmbus fun s => s.cml 7 else .next s

end Sys2Proof.Machine
end

