-- ==== Sys2Proof/Machine/TestPort.lean ====
section
/-! DEFINITION. The clock of the warden (R513, R514) and the test access port (R547 to R551). -/

namespace Sys2Proof.Machine

/-! ### The warden clock -/

/-- WARDEN_WAKE. -/
def execWardenWake (s : State) : Out := .next s.wakeWarden

/-- The warden has no work: no mailbox command, no write of the vault, nothing in the trap FIFO (R514). -/
def State.wardenIdle (s : State) : Bool :=
  !s.warden.mboxW.busy && !s.warden.mboxP.busy && s.warden.jobs.isEmpty && s.warden.vtPend.isNone && s.rings.trap.isEmpty && !s.stopq.active

/-- WARDEN_SLEEP: only while the control clock is off, and with no work left. -/
def execWardenSleep (s : State) : Out :=
  if s.start.aon && s.stopped && !s.clk.lock && s.wardenIdle then .next { s with clk := { s.clk with warden := false } } else .next s

/-- WARDEN_ALARM: the voltage, temperature and status reads of R502, every 1 ms while the controller is stopped. -/
def execWardenAlarm (s : State) : Out :=
  if !s.start.aon || !s.stopped || s.clk.lock then .next s
  else
    let s1 := s.wakeWarden
    settle s (if s1.traysUp then
        s1.forEach (List.range 4) fun s k => ((s.avsIssue k .readVolt false).avsIssue k .readTemp false).avsIssue k .readStatus false
      else s1)

/-! ### The boundary register (R550) -/

/-- A pin that is driven low reads 0; one that is released reads what the tray makes of it, which is open (notes/assumptions/4.md). -/
def pinLevel (low open_ : Bool) : Nat := if low then 0 else b2n open_

/-- What Capture-DR takes into the boundary register: the output cells, given, the levels of the open-drain pins, of FLOW_OK and PWR_OK and of
the slot straps; the serial lines are open. -/
def State.capture (s : State) (therm errn alert : Bool) : Nat × State :=
  let (r, s1) := s.draw
  let f (i : Nat) : Bool := bitAt r.toNat i
  (packN [(0, 0, b2n therm), (1, 1, pinLevel therm (f 1)), (2, 2, b2n errn), (3, 3, pinLevel errn (f 3)), (4, 4, b2n alert),
    (5, 5, pinLevel alert (f 5)), (9, 6, bits r.toNat 9 6), (10, 10, b2n s.start.flowOk), (11, 11, b2n s.start.pwrOk), (17, 12, s.start.slot),
    (30, 18, bits r.toNat 30 18)], s1)

/-- The capture of the functional pins. -/
def State.captureRun (s : State) : Nat × State := s.capture s.stopq.thermTrip s.flt.errn s.smb.alert

/-- The capture while the pins follow the boundary register. -/
def State.captureTest (s : State) : Nat × State :=
  let b := s.tap.bnd.toNat
  s.capture (bitAt b 0) (bitAt b 2) (bitAt b 4)

/-! ### Instructions (R548, R551) -/

/-- EXTEST, CLAMP and HIGHZ are accepted only while no domain is on (R37, R551). -/
def State.tapAllowed (s : State) : Bool :=
  match s.start.step with
  | .waitPwr | .stagger | .aonUp | .wardenBoot | .reconcile | .waitRestart | .stopped => true
  | _ => false

/-- Another instruction is in force, with the data register it captures; on leaving one that held the pins, start-up goes on (R551). -/
def State.tapSelect (s : State) (ir : TapIr) (dr : Nat) : State :=
  let s1 := { s with tap := { s.tap with ir := ir, dr := dr } }
  if s.tapHeld && !s1.tapHeld then s1.tryStep4 else s1

/-- The identification register (R549). -/
def State.idReg (s : State) : Nat := packN [(31, 28, s.otp.sirev.toNat), (27, 12, 0x4E02), (11, 1, s.otp.jedec.toNat), (0, 0, 1)]

/-- TAP_RESET: Test-Logic-Reset selects IDCODE (R547). -/
def execTapReset (s : State) : Out := if s.start.aon then settle s (s.tapSelect .idcode s.idReg) else .next s

/-- IDCODE. -/
def execIdcode (s : State) : Out := if s.start.aon then settle s (s.tapSelect .idcode s.idReg) else .next s

/-- BYPASS, also selected by every opcode not listed. -/
def State.tapBypass (s : State) : State := s.tapSelect .bypass 0
def execBypass (s : State) : Out := if s.start.aon then settle s s.tapBypass else .next s

/-- EXTEST: the pins follow the boundary register; where it is not accepted it acts as BYPASS. -/
def execExtest (s : State) : Out :=
  if !s.start.aon then .next s
  else settle s (if s.tapAllowed then
      let (c, s1) := s.captureTest
      s1.tapSelect .extest c
    else s.tapBypass)

/-- SAMPLE/PRELOAD: the pins are captured, and what TDI brought is the preload, which the row does not give (notes/assumptions/4.md). -/
def execSamplePreload (s : State) : Out :=
  if !s.start.aon then .next s
  else
    let (c, s1) := s.captureRun
    let (r, s2) := s1.draw
    settle s (({ s2 with tap := { s2.tap with bnd := BitVec.ofNat 31 r.toNat } }).tapSelect .sample c)

/-- CLAMP: the pins are held from the boundary register with bypass selected. -/
def execClamp (s : State) : Out :=
  if s.start.aon then settle s (if s.tapAllowed then s.tapSelect .clamp 0 else s.tapBypass) else .next s

/-- HIGHZ: the outputs are released with bypass selected. -/
def execHighz (s : State) : Out :=
  if s.start.aon then settle s (if s.tapAllowed then s.tapSelect .highz 0 else s.tapBypass) else .next s

/-- FT_ACCESS: BYPASS in a locked part, and while a domain is on (R37); the factory test data register is open (notes/assumptions/4.md). -/
def execFtAccess (s : State) : Out :=
  if !s.start.aon then .next s
  else if s.otp.ftLocked || !s.tapAllowed then settle s s.tapBypass
  else
    let (r, s1) := s.draw
    settle s (s1.tapSelect .ftAccess r.toNat)

/-- TAP_LEAVE: the TAP leaves an instruction that held the pins. -/
def execTapLeave (s : State) : Out := if s.start.aon && s.tapHeld then settle s s.tapBypass else .next s

end Sys2Proof.Machine
end

