-- ==== Sys2Proof/Machine/Dispatch.lean ====
section
/-! DEFINITION. The dispatch: one arm per command, each one direct call of its meaning. -/

namespace Sys2Proof.Machine

/-- What a command does to everything but the queue of waiting commands. -/
def exec (i : Instr) (s : State) : Host.Outcome State Fault Refusal :=
  match i with
  | .aonPowerUp slot => Sys2Proof.Machine.execAonPowerUp slot s
  | .aonPowerFall => Sys2Proof.Machine.execAonPowerFall s
  | .pwrOkRise => Sys2Proof.Machine.execPwrOkRise s
  | .pwrOkFall => Sys2Proof.Machine.execPwrOkFall s
  | .staggerEnd => Sys2Proof.Machine.execStaggerEnd s
  | .aonUpEnd => Sys2Proof.Machine.execAonUpEnd s
  | .wardenBootEnd romOk constOk sigOk avsOk avsMv => Sys2Proof.Machine.execWardenBootEnd romOk constOk sigOk avsOk avsMv s
  | .reconcileEnd => Sys2Proof.Machine.execReconcileEnd s
  | .cellRstEnd => Sys2Proof.Machine.execCellRstEnd s
  | .bootFall => Sys2Proof.Machine.execBootFall s
  | .sd14Good => Sys2Proof.Machine.execSd14Good s
  | .sd14Timeout => Sys2Proof.Machine.execSd14Timeout s
  | .pllLock => Sys2Proof.Machine.execPllLock s
  | .pllLockTimeout => Sys2Proof.Machine.execPllLockTimeout s
  | .pllLoss => Sys2Proof.Machine.execPllLoss s
  | .tokenCycle c q => Sys2Proof.Machine.execTokenCycle c q s
  | .tokenTimeout c => Sys2Proof.Machine.execTokenTimeout c s
  | .rosterRepair c => Sys2Proof.Machine.execRosterRepair c s
  | .referenceCheckEnd => Sys2Proof.Machine.execReferenceCheckEnd s
  | .refTimeout row => Sys2Proof.Machine.execRefTimeout row s
  | .stageBegin => Sys2Proof.Machine.execStageBegin s
  | .stageEnd => Sys2Proof.Machine.execStageEnd s
  | .ready => Sys2Proof.Machine.execReady s
  | .startAbandon => Sys2Proof.Machine.execStartAbandon s
  | .registerWrite off v => Sys2Proof.Machine.execRegisterWrite off v s
  | .rcFieldRead off size => Sys2Proof.Machine.execRcFieldRead off size s
  | .writeNotWhole off size => Sys2Proof.Machine.execWriteNotWhole off size s
  | .unassignedAccess off write => Sys2Proof.Machine.execUnassignedAccess off write s
  | .ftLockedAccess off write => Sys2Proof.Machine.execFtLockedAccess off write s
  | .splitLoRead p => Sys2Proof.Machine.execSplitLoRead p s
  | .l0Cycle cell out lim => Sys2Proof.Machine.execL0Cycle cell out lim s
  | .profileStep cell => Sys2Proof.Machine.execProfileStep cell s
  | .coarseAdcUpdate cell vout vin => Sys2Proof.Machine.execCoarseAdcUpdate cell vout vin s
  | .droopCrossing cell => Sys2Proof.Machine.execDroopCrossing cell s
  | .reserveEnd cell => Sys2Proof.Machine.execReserveEnd cell s
  | .reserveRearm cell => Sys2Proof.Machine.execReserveRearm cell s
  | .overshootTrip cell => Sys2Proof.Machine.execOvershootTrip cell s
  | .bleedBudgetSpent cell => Sys2Proof.Machine.execBleedBudgetSpent cell s
  | .lightLoadWindow cell amp => Sys2Proof.Machine.execLightLoadWindow cell amp s
  | .burstStart cell => Sys2Proof.Machine.execBurstStart cell s
  | .burstStop cell short => Sys2Proof.Machine.execBurstStop cell short s
  | .ocLimitSet cell phases => Sys2Proof.Machine.execOcLimitSet cell phases s
  | .ocLimitClear cell => Sys2Proof.Machine.execOcLimitClear cell s
  | .ovlSet cell => Sys2Proof.Machine.execOvlSet cell s
  | .cellsyncLoss cell => Sys2Proof.Machine.execCellsyncLoss cell s
  | .cellsyncRegain cell => Sys2Proof.Machine.execCellsyncRegain cell s
  | .measureEnd cell => Sys2Proof.Machine.execMeasureEnd cell s
  | .riseToRun cell => Sys2Proof.Machine.execRiseToRun cell s
  | .fallToRun cell => Sys2Proof.Machine.execFallToRun cell s
  | .fallTimeout cell => Sys2Proof.Machine.execFallTimeout cell s
  | .contactLost cell => Sys2Proof.Machine.execContactLost cell s
  | .holdLimitReached cell => Sys2Proof.Machine.execHoldLimitReached cell s
  | .zeroReached cell => Sys2Proof.Machine.execZeroReached cell s
  | .selftestComplete cell bitmap => Sys2Proof.Machine.execSelftestComplete cell bitmap s
  | .rampToZeroDone cell => Sys2Proof.Machine.execRampToZeroDone cell s
  | .mcastMark c payload => Sys2Proof.Machine.execMcastMark c payload s
  | .mcast c payload => Sys2Proof.Machine.execMcast c payload s
  | .cfgFrame c payload => Sys2Proof.Machine.execCfgFrame c payload s
  | .armFrame c payload => Sys2Proof.Machine.execArmFrame c payload s
  | .trimFrame c payload => Sys2Proof.Machine.execTrimFrame c payload s
  | .tlmPoll c addr => Sys2Proof.Machine.execTlmPoll c addr s
  | .enumToken c payload => Sys2Proof.Machine.execEnumToken c payload s
  | .enumAck c payload => Sys2Proof.Machine.execEnumAck c payload s
  | .enumQuery c payload => Sys2Proof.Machine.execEnumQuery c payload s
  | .enumClear c payload => Sys2Proof.Machine.execEnumClear c payload s
  | .enumMove c payload => Sys2Proof.Machine.execEnumMove c payload s
  | .loopFrame c payload => Sys2Proof.Machine.execLoopFrame c payload s
  | .pathFrame c payload => Sys2Proof.Machine.execPathFrame c payload s
  | .reservedFrame c frame => Sys2Proof.Machine.execReservedFrame c frame s
  | .start c h target => Sys2Proof.Machine.execStart c h target s
  | .stop c h => Sys2Proof.Machine.execStop c h s
  | .zero c h => Sys2Proof.Machine.execZero c h s
  | .loanSw c h sel newGen => Sys2Proof.Machine.execLoanSw c h sel newGen s
  | .adopt c h => Sys2Proof.Machine.execAdopt c h s
  | .selftest c h => Sys2Proof.Machine.execSelftest c h s
  | .readState c h page => Sys2Proof.Machine.execReadState c h page s
  | .setCoef c h idx v => Sys2Proof.Machine.execSetCoef c h idx v s
  | .urgSend cell => Sys2Proof.Machine.execUrgSend cell s
  | .l2Period c => Sys2Proof.Machine.execL2Period c s
  | .rspReceived c payload => Sys2Proof.Machine.execRspReceived c payload s
  | .cmdResend c bad => Sys2Proof.Machine.execCmdResend c bad s
  | .tlmReceived c pos payload => Sys2Proof.Machine.execTlmReceived c pos payload s
  | .urgReceived c payload => Sys2Proof.Machine.execUrgReceived c payload s
  | .chainBreak c j1 j2 bad => Sys2Proof.Machine.execChainBreak c j1 j2 bad s
  | .crcBurst c n => Sys2Proof.Machine.execCrcBurst c n s
  | .loopbackAuditEnd c pass => Sys2Proof.Machine.execLoopbackAuditEnd c pass s
  | .loopReq mask => Sys2Proof.Machine.execLoopReq mask s
  | .queueAgeDrop c => Sys2Proof.Machine.execQueueAgeDrop c s
  | .cfgRefresh c d => Sys2Proof.Machine.execCfgRefresh c d s
  | .loanStart c => Sys2Proof.Machine.execLoanStart c s
  | .loanComplete c => Sys2Proof.Machine.execLoanComplete c s
  | .recallStart c => Sys2Proof.Machine.execRecallStart c s
  | .laneSlot d smp => Sys2Proof.Machine.execLaneSlot d smp s
  | .engSat d => Sys2Proof.Machine.execEngSat d s
  | .fbLost d => Sys2Proof.Machine.execFbLost d s
  | .sharingStep k => Sys2Proof.Machine.execSharingStep k s
  | .sharingPayloadDrop k => Sys2Proof.Machine.execSharingPayloadDrop k s
  | .laneSwap => Sys2Proof.Machine.execLaneSwap s
  | .laneMismatch k slot => Sys2Proof.Machine.execLaneMismatch k slot s
  | .laneAuditEnd k pass => Sys2Proof.Machine.execLaneAuditEnd k pass s
  | .lawStage d => Sys2Proof.Machine.execLawStage d s
  | .lawCopyActive d => Sys2Proof.Machine.execLawCopyActive d s
  | .lawCopyStaged d => Sys2Proof.Machine.execLawCopyStaged d s
  | .lawOpRefused d => Sys2Proof.Machine.execLawOpRefused d s
  | .lawOpDone => Sys2Proof.Machine.execLawOpDone s
  | .snsTrigRegular all conv => Sys2Proof.Machine.execSnsTrigRegular all conv s
  | .snsTrigInjected all conv => Sys2Proof.Machine.execSnsTrigInjected all conv s
  | .senseTimerTick => Sys2Proof.Machine.execSenseTimerTick s
  | .csPhaseEvent => Sys2Proof.Machine.execCsPhaseEvent s
  | .entryDone d smp => Sys2Proof.Machine.execEntryDone d smp s
  | .seqGo v => Sys2Proof.Machine.execSeqGo v s
  | .tallyCapture v => Sys2Proof.Machine.execTallyCapture v s
  | .tallyClear v => Sys2Proof.Machine.execTallyClear v s
  | .refSelect sel => Sys2Proof.Machine.execRefSelect sel s
  | .hkcRoundStart => Sys2Proof.Machine.execHkcRoundStart s
  | .hkcConversion k ch raw => Sys2Proof.Machine.execHkcConversion k ch raw s
  | .hkcCheckSlot own => Sys2Proof.Machine.execHkcCheckSlot own s
  | .diodeEval n => Sys2Proof.Machine.execDiodeEval n s
  | .thermSensor n => Sys2Proof.Machine.execThermSensor n s
  | .guardReading d smp => Sys2Proof.Machine.execGuardReading d smp s
  | .openWireTestEnd d ch up down => Sys2Proof.Machine.execOpenWireTestEnd d ch up down s
  | .spRestore point => Sys2Proof.Machine.execSpRestore point s
  | .dscAuditStepEnd d zero mid inj => Sys2Proof.Machine.execDscAuditStepEnd d zero mid inj s
  | .epochCommit => Sys2Proof.Machine.execEpochCommit s
  | .counterRecord t counters => Sys2Proof.Machine.execCounterRecord t counters s
  | .lateRecordCutoff => Sys2Proof.Machine.execLateRecordCutoff s
  | .hintWord t w last => Sys2Proof.Machine.execHintWord t w last s
  | .hintPortRoom t => Sys2Proof.Machine.execHintPortRoom t s
  | .hintExpired t => Sys2Proof.Machine.execHintExpired t s
  | .hintEnd t => Sys2Proof.Machine.execHintEnd t s
  | .vinBoostEnd => Sys2Proof.Machine.execVinBoostEnd s
  | .tileSilent t => Sys2Proof.Machine.execTileSilent t s
  | .estResid d => Sys2Proof.Machine.execEstResid d s
  | .calBlockUpdate => Sys2Proof.Machine.execCalBlockUpdate s
  | .freeze => Sys2Proof.Machine.execFreeze s
  | .unfreeze => Sys2Proof.Machine.execUnfreeze s
  | .freezeTimeout => Sys2Proof.Machine.execFreezeTimeout s
  | .tileCapture v => Sys2Proof.Machine.execTileCapture v s
  | .kInUpdate => Sys2Proof.Machine.execKInUpdate s
  | .survey serial => Sys2Proof.Machine.execSurvey serial s
  | .count next => Sys2Proof.Machine.execCount next s
  | .size n => Sys2Proof.Machine.execSize n s
  | .live origin => Sys2Proof.Machine.execLive origin s
  | .quota origin relay group q seq => Sys2Proof.Machine.execQuota origin relay group q seq s
  | .release origin relay group seq => Sys2Proof.Machine.execRelease origin relay group seq s
  | .leave origin group => Sys2Proof.Machine.execLeave origin group s
  | .paceCrcDrop payload crc => Sys2Proof.Machine.execPaceCrcDrop payload crc s
  | .paceDiscovery => Sys2Proof.Machine.execPaceDiscovery s
  | .paceDiscoveryRetry => Sys2Proof.Machine.execPaceDiscoveryRetry s
  | .paceLiveSend => Sys2Proof.Machine.execPaceLiveSend s
  | .paceLockLoss => Sys2Proof.Machine.execPaceLockLoss s
  | .paceLockGain => Sys2Proof.Machine.execPaceLockGain s
  | .paceSilence => Sys2Proof.Machine.execPaceSilence s
  | .paceSolo => Sys2Proof.Machine.execPaceSolo s
  | .paceEntryExpire carried origin relay => Sys2Proof.Machine.execPaceEntryExpire carried origin relay s
  | .paceRefresh => Sys2Proof.Machine.execPaceRefresh s
  | .compTrip n => Sys2Proof.Machine.execCompTrip n s
  | .compClear n => Sys2Proof.Machine.execCompClear n s
  | .flowOkFall => Sys2Proof.Machine.execFlowOkFall s
  | .flowOkRise => Sys2Proof.Machine.execFlowOkRise s
  | .flowOkGlitch => Sys2Proof.Machine.execFlowOkGlitch s
  | .stopSequence => Sys2Proof.Machine.execStopSequence s
  | .stopStage => Sys2Proof.Machine.execStopStage s
  | .recordOpenWritten => Sys2Proof.Machine.execRecordOpenWritten s
  | .sd14OffSeen => Sys2Proof.Machine.execSd14OffSeen s
  | .quietPeriodEnd => Sys2Proof.Machine.execQuietPeriodEnd s
  | .fastSideReset => Sys2Proof.Machine.execFastSideReset s
  | .fsrRelease => Sys2Proof.Machine.execFsrRelease s
  | .restoreDone => Sys2Proof.Machine.execRestoreDone s
  | .rosterRebuild c => Sys2Proof.Machine.execRosterRebuild c s
  | .adoptReadDone => Sys2Proof.Machine.execAdoptReadDone s
  | .adoptRestart => Sys2Proof.Machine.execAdoptRestart s
  | .fsrRequest => Sys2Proof.Machine.execFsrRequest s
  | .commitStall => Sys2Proof.Machine.execCommitStall s
  | .sd14RailFault => Sys2Proof.Machine.execSd14RailFault s
  | .faultRaise src obj => Sys2Proof.Machine.execFaultRaise src obj s
  | .errnPulseEnd => Sys2Proof.Machine.execErrnPulseEnd s
  | .incidentClose => Sys2Proof.Machine.execIncidentClose s
  | .incidentOverrun => Sys2Proof.Machine.execIncidentOverrun s
  | .faultQuietEnd => Sys2Proof.Machine.execFaultQuietEnd s
  | .selftestTimeout cell => Sys2Proof.Machine.execSelftestTimeout cell s
  | .auditDeferLimit cell => Sys2Proof.Machine.execAuditDeferLimit cell s
  | .fltCntClear => Sys2Proof.Machine.execFltCntClear s
  | .faultInject src obj => Sys2Proof.Machine.execFaultInject src obj s
  | .wardenWatchdog romOk constOk sigOk copiesOk => Sys2Proof.Machine.execWardenWatchdog romOk constOk sigOk copiesOk s
  | .getInfo ch tag => Sys2Proof.Machine.execGetInfo ch tag s
  | .patchBegin ch tag len => Sys2Proof.Machine.execPatchBegin ch tag len s
  | .patchData ch tag off data => Sys2Proof.Machine.execPatchData ch tag off data s
  | .patchCommit ch tag sigOk => Sys2Proof.Machine.execPatchCommit ch tag sigOk s
  | .vtRead ch tag which first => Sys2Proof.Machine.execVtRead ch tag which first s
  | .vtStage ch tag entry w => Sys2Proof.Machine.execVtStage ch tag entry w s
  | .vtApply ch tag => Sys2Proof.Machine.execVtApply ch tag s
  | .vtCommit ch tag => Sys2Proof.Machine.execVtCommit ch tag s
  | .polLoad ch tag addr len digest => Sys2Proof.Machine.execPolLoad ch tag addr len digest s
  | .polStart ch tag => Sys2Proof.Machine.execPolStart ch tag s
  | .polStop ch tag => Sys2Proof.Machine.execPolStop ch tag s
  | .polClear ch tag => Sys2Proof.Machine.execPolClear ch tag s
  | .mboxUnknownOp ch tag op => Sys2Proof.Machine.execMboxUnknownOp ch tag op s
  | .setVset r => Sys2Proof.Machine.execSetVset r s
  | .setTreas r => Sys2Proof.Machine.execSetTreas r s
  | .setClass r => Sys2Proof.Machine.execSetClass r s
  | .setCap r => Sys2Proof.Machine.execSetCap r s
  | .loan r => Sys2Proof.Machine.execLoan r s
  | .recalling r => Sys2Proof.Machine.execRecalling r s
  | .setLimit r => Sys2Proof.Machine.execSetLimit r s
  | .age r => Sys2Proof.Machine.execAge r s
  | .heartbeat r => Sys2Proof.Machine.execHeartbeat r s
  | .policyWatchdog => Sys2Proof.Machine.execPolicyWatchdog s
  | .policyTrap => Sys2Proof.Machine.execPolicyTrap s
  | .vaultWordWrite ok => Sys2Proof.Machine.execVaultWordWrite ok s
  | .crDoorbell r tail => Sys2Proof.Machine.execCrDoorbell r tail s
  | .prDoorbell p head => Sys2Proof.Machine.execPrDoorbell p head s
  | .descriptorFetched r words => Sys2Proof.Machine.execDescriptorFetched r words s
  | .commandAccept data => Sys2Proof.Machine.execCommandAccept data s
  | .nop x => Sys2Proof.Machine.execNop x s
  | .setDomainVoltage x dom code => Sys2Proof.Machine.execSetDomainVoltage x dom code s
  | .domainOn x dom => Sys2Proof.Machine.execDomainOn x dom s
  | .domainOff x dom => Sys2Proof.Machine.execDomainOff x dom s
  | .stageLaw x dom addr data => Sys2Proof.Machine.execStageLaw x dom addr data s
  | .readLaw x dom staged addr ok => Sys2Proof.Machine.execReadLaw x dom staged addr ok s
  | .setBudget x valid treasury caps => Sys2Proof.Machine.execSetBudget x valid treasury caps s
  | .setClassWeights x first count images => Sys2Proof.Machine.execSetClassWeights x first count images s
  | .setLimits x valid images => Sys2Proof.Machine.execSetLimits x valid images s
  | .loanCell x addr dom => Sys2Proof.Machine.execLoanCell x addr dom s
  | .recallCell x addr => Sys2Proof.Machine.execRecallCell x addr s
  | .readCell x addr page => Sys2Proof.Machine.execReadCell x addr page s
  | .snapshot x addr => Sys2Proof.Machine.execSnapshot x addr s
  | .readTally x conv mask clear addr ok => Sys2Proof.Machine.execReadTally x conv mask clear addr ok s
  | .setSequence x dsc len injLen addr data => Sys2Proof.Machine.execSetSequence x dsc len injLen addr data s
  | .setSense x dom valid images => Sys2Proof.Machine.execSetSense x dom valid images s
  | .senseTrigger x v => Sys2Proof.Machine.execSenseTrigger x v s
  | .setCellCfg x dom image => Sys2Proof.Machine.execSetCellCfg x dom image s
  | .faultAck x clr0 clr1 hold => Sys2Proof.Machine.execFaultAck x clr0 clr1 hold s
  | .fixedFreq x enter => Sys2Proof.Machine.execFixedFreq x enter s
  | .paceGroup x group apply send => Sys2Proof.Machine.execPaceGroup x group apply send s
  | .paceRelay x q rel => Sys2Proof.Machine.execPaceRelay x q rel s
  | .vaultRead x off len addr ok => Sys2Proof.Machine.execVaultRead x off len addr ok s
  | .dropPacket x tile all => Sys2Proof.Machine.execDropPacket x tile all s
  | .setReaction x src react => Sys2Proof.Machine.execSetReaction x src react s
  | .unknownOpcode x opcode => Sys2Proof.Machine.execUnknownOpcode x opcode s
  | .hostEntryWrite p => Sys2Proof.Machine.execHostEntryWrite p s
  | .telemetryRecord => Sys2Proof.Machine.execTelemetryRecord s
  | .intHoldEnd => Sys2Proof.Machine.execIntHoldEnd s
  | .ringEnable r v => Sys2Proof.Machine.execRingEnable r v s
  | .ringDisable r v => Sys2Proof.Machine.execRingDisable r v s
  | .ringArm => Sys2Proof.Machine.execRingArm s
  | .hostMemError r write => Sys2Proof.Machine.execHostMemError r write s
  | .prepareToArp => Sys2Proof.Machine.execPrepareToArp s
  | .resetDevice => Sys2Proof.Machine.execResetDevice s
  | .getUdid => Sys2Proof.Machine.execGetUdid s
  | .assignAddress udid a => Sys2Proof.Machine.execAssignAddress udid a s
  | .smbusTimeout => Sys2Proof.Machine.execSmbusTimeout s
  | .alertResponse => Sys2Proof.Machine.execAlertResponse s
  | .page pec w => Sys2Proof.Machine.execPage pec w s
  | .clearFaults pec => Sys2Proof.Machine.execClearFaults pec s
  | .capability => Sys2Proof.Machine.execCapability s
  | .voutMode => Sys2Proof.Machine.execVoutMode s
  | .statusByte => Sys2Proof.Machine.execStatusByte s
  | .statusWord => Sys2Proof.Machine.execStatusWord s
  | .statusTemperature => Sys2Proof.Machine.execStatusTemperature s
  | .statusCml => Sys2Proof.Machine.execStatusCml s
  | .statusMfrSpecific => Sys2Proof.Machine.execStatusMfrSpecific s
  | .readVin => Sys2Proof.Machine.execReadVin s
  | .readIin => Sys2Proof.Machine.execReadIin s
  | .readVout => Sys2Proof.Machine.execReadVout s
  | .readIout => Sys2Proof.Machine.execReadIout s
  | .readTemperature1 => Sys2Proof.Machine.execReadTemperature1 s
  | .readPout => Sys2Proof.Machine.execReadPout s
  | .readPin => Sys2Proof.Machine.execReadPin s
  | .pmbusRevision => Sys2Proof.Machine.execPmbusRevision s
  | .mfrId => Sys2Proof.Machine.execMfrId s
  | .mfrModel => Sys2Proof.Machine.execMfrModel s
  | .mfrRevision => Sys2Proof.Machine.execMfrRevision s
  | .mfrSerial => Sys2Proof.Machine.execMfrSerial s
  | .mfrRestart pec data => Sys2Proof.Machine.execMfrRestart pec data s
  | .mfrErrn pec w => Sys2Proof.Machine.execMfrErrn pec w s
  | .mfrFault => Sys2Proof.Machine.execMfrFault s
  | .mfrStart => Sys2Proof.Machine.execMfrStart s
  | .mfrVaultAddr pec off => Sys2Proof.Machine.execMfrVaultAddr pec off s
  | .mfrVaultData => Sys2Proof.Machine.execMfrVaultData s
  | .mfrMboxCmd pec op tag args data => Sys2Proof.Machine.execMfrMboxCmd pec op tag args data s
  | .mfrMboxStat => Sys2Proof.Machine.execMfrMboxStat s
  | .mfrRegAddr pec off => Sys2Proof.Machine.execMfrRegAddr pec off s
  | .mfrRegData => Sys2Proof.Machine.execMfrRegData s
  | .pmbusInvalidCommand code => Sys2Proof.Machine.execPmbusInvalidCommand code s
  | .avsTrimWrite => Sys2Proof.Machine.execAvsTrimWrite s
  | .avsVoltageRead k mv alert => Sys2Proof.Machine.execAvsVoltageRead k mv alert s
  | .avsCurrentRead k code alert => Sys2Proof.Machine.execAvsCurrentRead k code alert s
  | .avsTempRead k code alert => Sys2Proof.Machine.execAvsTempRead k code alert s
  | .avsStatusRead k w alert => Sys2Proof.Machine.execAvsStatusRead k w alert s
  | .avsTransactionFail k => Sys2Proof.Machine.execAvsTransactionFail k s
  | .avsRetry k => Sys2Proof.Machine.execAvsRetry k s
  | .wardenWake => Sys2Proof.Machine.execWardenWake s
  | .wardenSleep => Sys2Proof.Machine.execWardenSleep s
  | .wardenAlarm => Sys2Proof.Machine.execWardenAlarm s
  | .tapReset => Sys2Proof.Machine.execTapReset s
  | .extest => Sys2Proof.Machine.execExtest s
  | .idcode => Sys2Proof.Machine.execIdcode s
  | .samplePreload => Sys2Proof.Machine.execSamplePreload s
  | .clamp => Sys2Proof.Machine.execClamp s
  | .highz => Sys2Proof.Machine.execHighz s
  | .ftAccess => Sys2Proof.Machine.execFtAccess s
  | .bypass => Sys2Proof.Machine.execBypass s
  | .tapLeave => Sys2Proof.Machine.execTapLeave s
  | .ovlClear cell => Sys2Proof.Machine.execOvlClear cell s
  | .paceReservedFrame payload => Sys2Proof.Machine.execPaceReservedFrame payload s
  | .unknownKind kind r => Sys2Proof.Machine.execUnknownKind kind r s
  | .reservedOp c h op => Sys2Proof.Machine.execReservedOp c h op s

end Sys2Proof.Machine
end

