-- ==== Sys2Proof/Machine/Idle.lean ====
section
/-! DEFINITION. What the block does between commands: the free-running watch clock (R531), and the warden that empties its trap
FIFO (R488). -/

namespace Sys2Proof.Machine

/-- The warden, while its clock runs, takes the oldest entry of the trap FIFO, and an entry that waits for room follows (R488, R489, R492). -/
def trapRead (s : State) : State :=
  if s.start.aon && s.clk.warden then
    let left := s.rings.trap.drop 2
    { s with rings := { s.rings with
        trap := left ++ s.rings.trapWait.take (32 - left.length)
        trapWait := s.rings.trapWait.drop (32 - left.length) } }
  else s

/-- One tick of the watch clock: UL_WATCH is a 64-bit count of 250 ns ticks that runs while the AON domain is powered
(R20, R531). -/
def watchTick (s : State) : State :=
  let t := trapRead s
  if t.start.aon then { t with clk := { t.clk with watch := (t.clk.watch + 1) % 2 ^ 64 } } else t

end Sys2Proof.Machine
end

