-- ==== Sys2Proof/Safety.lean ====
section
/-! DEFINITION. The terms in which claims speak of a run: what every step keeps, and when a command of each kind has its effect at
once. -/

namespace Sys2Proof.Machine

/-- What every step keeps: the vault's bytes in canonical form (R453). -/
def State.Inv (s : State) : Prop := Memory.wf s.warden.vault = true

/-- The warden serves a command of this channel at once (R451, R496, R519): its core runs, no channel is busy and none has a command
waiting, and the channel reaches it: the window is up; on the SMBus the tray buses are up, the address is valid and PMB_EN is set. -/
def State.MboxReady (s : State) (ch : MboxChan) : Prop :=
  s.wardenUp = true ∧ s.warden.mboxW.busy = false ∧ s.warden.mboxP.busy = false ∧
  s.warden.mboxW.wait = none ∧ s.warden.mboxP.wait = none ∧
  (match ch with
   | .window => s.windowUp = true
   | .pmbus => s.traysUp = true ∧ s.smb.valid = true ∧ wbit s.win.gctrl 0 = true)

/-- A host command is accepted and decided at once (R388, R469, R471, R474, R483): the rings are served, nothing of its ring waits, its
completion has a place, no adoption or fast-side reset holds it, and it is not a command of class C before READY or in a stop sequence. -/
def State.HostReady (s : State) (x : CmdCtx) (op : Nat) : Prop :=
  s.hostOn = true ∧ s.mustWait x op = false ∧ s.stateRefused op = false ∧ s.rings.waitLog = []

/-- The register window carries an access out at once: it is up, nothing is held in front, and the control clock runs outside a
fast-side reset (R371, R520, R521). -/
def State.WindowReady (s : State) : Prop := s.windowUp = true ∧ s.win.held = [] ∧ s.fastUp = true

/-- An order on chain c reaches cell i, is new to it and carries its generation, so that it is executed (R111, R115, R124). -/
def State.OrderReaches (s : State) (c : ChainIx) (h : CmdHdr) (i : Nat) : Prop :=
  s.cellsUp = true ∧ s.cellByAddr c h.addr.toNat = some i ∧ (s.cell i).seq ≠ some h.seq.toNat ∧ h.gen.toNat = (s.cell i).gen

/-- Cell i has answered the order on its ring, with what STATUS and DATA it stored, and no other cell has changed (R111, R115). -/
def State.Answered (s t : State) (c : ChainIx) (h : CmdHdr) (op i status data : Nat) : Prop :=
  (t.chain c).rsp = some (frameBits 7 (rspOf (t.cell i).gen h.addr.toNat op h.seq.toNat status data)) ∧
  (t.cell i).seq = some h.seq.toNat ∧ (t.cell i).status = status ∧ (t.cell i).data = data ∧
  (∀ j, j ≠ i → t.cell j = s.cell j) ∧ t.doms = s.doms ∧ t.views = s.views

/-- A frame of chain c reaches cell i, which holds an address, and its generation is the cell's (R119, R124, R134). -/
def State.FrameReaches (s : State) (c : ChainIx) (payload : BitVec 64) (i : Nat) : Prop :=
  s.cellsUp = true ∧ chainOf i = c.val ∧ (s.cell i).addr.isSome = true ∧ s.reaches c (posOf i) = true ∧
  bits payload.toNat 63 56 = (s.cell i).gen

/-- A mailbox channel has ended a command with a tag and a status (R451). -/
def Mbox.Ended (m : Mbox) (tag status : Nat) : Prop := m.busy = false ∧ m.done = true ∧ m.tag = tag ∧ m.status = status

/-- A value waits for the next commit under a key (R245). -/
def State.Waits (s : State) (key : StageKey) (v : Word) : Prop := ∃ e, e ∈ s.ledger.staged ∧ e.key = key ∧ e.val = v

/-- Only this value waits after a command in a state where none did. -/
def State.WaitsOnly (s t : State) (key : StageKey) (v : Word) : Prop :=
  s.ledger.staged = [] ∧ ∃ e, t.ledger.staged = [e] ∧ e.key = key ∧ e.val = v

/-- A raise of this source, and one of EVENT_LOST, reset no block and stop no controller: neither B nor C is in the reactions of either
(R399, R401, R402). -/
def State.Soft (s : State) (src : Nat) : Prop :=
  bitAt (s.reactOf src) 3 = false ∧ bitAt (s.reactOf src) 2 = false ∧ bitAt (s.reactOf 44) 3 = false ∧ bitAt (s.reactOf 44) 2 = false

/-- A host command has completed: its entry stands last in the completion out FIFO; a command with QUIET leaves no OK entry
(R469, R475, R476). -/
def State.Completed (s t : State) (x : CmdCtx) (op status data : Nat) : Prop :=
  t.rings.complOut = if status = stOk ∧ x.quiet = true then s.rings.complOut
    else s.rings.complOut ++ [{ opcode := op, ring := x.ring, tag := x.tag.toNat, index := x.index.toNat, status := status,
                                epoch := s.epochLo, data := data, intr := x.intr || status != stOk }]

/-- An accepted host command waits, last of those in flight, for what finishes it (R472). -/
def State.InFlight (t : State) (x : CmdCtx) (op : Nat) (w : WaitFor) (data : Nat) : Prop :=
  ∃ l, t.rings.flights = l ++ [{ x := x, opcode := op, waits := w, data := data }]

/-- A transaction on the SMBus target has left the target's registers so and changed nothing else: its START has woken the warden clock, and
ALERT_N has followed the status bits (R501, R514). -/
def State.SmbOnly (s t : State) (m : Smb) : Prop :=
  t = { s with clk := s.wakeWarden.clk, smb := { m with seen := t.smb.seen, alert := t.smb.alert } }

/-- The warden serves a request of the policy core at once (R444, R449): the core runs, its queues are powered, and no fast-side reset or
adoption holds requests back. -/
def State.EbsisReady (s : State) : Prop := s.policyUp = true ∧ s.adopting = false ∧ s.clk.fsReset = false

/-- The latest entry of the reply queue answers this request with a status, a value and an epoch number (R445). -/
def State.Replied (t : State) (kind : Nat) (r : EbsisReq) (status value epoch : Nat) : Prop :=
  t.policy.replies.getLast? = some (BitVec.ofNat 128
    (epoch * 2 ^ 64 + value * 2 ^ 32 + kind * 2 ^ 24 + r.seq.toNat * 2 ^ 16 + status * 2 ^ 12))

end Sys2Proof.Machine
end

