-- ==== Sys2Proof/Certificates/Slice0/Obligations.lean ====
section
/-! DEFINITION. The statements about the model, each a proposition.  A clause that ends in a next state says that the command completes. -/

open Sys2Proof Sys2Proof.Machine

/-- With a command at the front, a step is its effect on the state with the rest of the queue (log entry 9). -/
def Obligations.StepRunsFrontCommand : Prop :=
  ∀ (c : Instr) (rest : List Instr) (s : State), s.pending = c :: rest → step s = exec c { s with pending := rest }

/-- The commands of AON power, PWR_OK and the stagger (R20, R21, R29, R31, R357, R370). -/
def Obligations.PowerAndStagger : Prop :=
  (∀ (s : State) (slot : BitVec 6), s.start.aon = false →
    exec (.aonPowerUp slot) s = .next { State.reset with
      otp := s.otp
      warden := { State.reset.warden with vault := s.warden.vault }
      start := { State.reset.start with aon := true, slot := slot.toNat }
      freeCtr := s.freeCtr
      pending := s.pending }) ∧
  (∀ s : State, s.start.aon = true → s.stopq.active = false →
    exec .aonPowerFall s = .next { State.reset with
      otp := s.otp
      warden := { State.reset.warden with vault := s.warden.vault }
      freeCtr := s.freeCtr
      pending := s.pending }) ∧
  (∀ s : State, s.start.aon = true → s.start.pwrOk = false → s.start.step = .waitPwr →
    exec .pwrOkRise s = .next { s with start := { s.start with pwrOk := true, step := .stagger } }) ∧
  (∀ s : State, s.start.aon = true → s.start.pwrOk = true → s.stopq.active = false →
    s.start.step = .stagger ∨ s.start.step = .aonUp ∨ s.start.step = .wardenBoot ∨ s.start.step = .reconcile →
    ∃ t, exec .pwrOkFall s = .next t ∧ t.start = { s.start with pwrOk := false, step := .waitPwr, reconciled := false } ∧
      t.stopq = s.stopq ∧ t.flt = s.flt ∧ t.warden = s.warden ∧ t.cells = s.cells) ∧
  (∀ s : State, s.start.aon = true → s.start.pwrOk = true → s.stopq.active = false → s.start.ready = true →
    s.start.step = .ready →
    ∃ t, exec .pwrOkFall s = .next t ∧ t.stopq.active = true ∧ t.stopq.pending = true ∧ t.stopq.cause = 2 ∧
      t.stopq.abandon = false ∧ t.start.ready = false ∧ t.start.pwrOk = false ∧ t.cells = s.cells) ∧
  (∀ s : State, s.start.step = .stagger → s.start.restartWait = false →
    exec .staggerEnd s = .next { s with
      start := { s.start with step := .aonUp, restartWait := false, reconciled := false, trigger := s.clk.watch, fail := 0, miss := 0,
                              stage := 0, staged12 := false }
      clk := { s.clk with warden := true } }) ∧
  (∀ s : State, s.start.step = .stagger → s.start.restartWait = true →
    ∃ t, exec .staggerEnd s = .next t ∧ t.start.step = .reconcile ∧ t.start.trigger = s.clk.watch ∧ t.cells = s.cells) ∧
  (∀ s : State, s.start.step = .aonUp →
    exec .aonUpEnd s = .next { s with start := { s.start with step := .wardenBoot } })

/-- The bootstrap of SD14 and the PLL (R372, R373, R383, R512, R513). -/
def Obligations.BootstrapAndPll : Prop :=
  (∀ s : State, s.start.cellRst = true →
    ∃ t, exec .cellRstEnd s = .next t ∧ t.start = { s.start with cellRst := false, boot := true } ∧
      (∀ i, i ∈ bootCells → (s.cell i).mode = .off → (s.cell i).addr = none → (s.cell i).bootUsed = false →
        (t.cell i).boot = true ∧ (t.cell i).bootUsed = true ∧ (t.cell i).mode = .measure ∧ (t.cell i).tgt = 51200 ∧ (t.cell i).trim = 0) ∧
      (∀ i, i ∉ bootCells → t.cell i = s.cell i) ∧ t.doms = s.doms ∧ t.stopq = s.stopq ∧ t.flt = s.flt) ∧
  (∀ s : State, s.start.boot = true →
    ∃ t, exec .bootFall s = .next t ∧ t.start = { s.start with boot := false } ∧
      (∀ i, i ∈ bootCells → (s.cell i).boot = true → t.cell i = { s.cell i with ramp := true }) ∧
      (∀ i, i ∉ bootCells → t.cell i = s.cell i)) ∧
  (∀ s : State, s.start.step = .bootstrap → s.start.boot = true → s.stopq.active = false →
    exec .sd14Good s = .next { s with
      start := { s.start with step := .pllLock }
      clk := { s.clk with pllOn := true, pllTick := s.clk.watch } }) ∧
  (∀ s : State, s.start.step = .bootstrap → s.stopq.active = false →
    ∃ t, exec .sd14Timeout s = .next t ∧ t.start.fail = 2 ∧ t.start.boot = false ∧ t.stopq.active = true ∧ t.stopq.abandon = true ∧
      t.stopq.cause = 0x60 ∧ (∀ i, i ∉ bootCells → t.cell i = s.cell i)) ∧
  (∀ s : State, s.clk.pllOn = true → s.clk.lock = false → s.start.step = .pllLock →
    ∃ t, exec .pllLock s = .next t ∧ t.start.step = .enumeration ∧
      t.clk = { s.clk with lock := true, csync := true, everLock := true, lockUs := min 65535 (ticksUs (s.clk.watch - s.clk.pllTick)) } ∧
      (∀ c, c < 8 → (t.chain c).st = .enumerating ∧ (t.chain c).taken = [])) ∧
  (∀ s : State, s.clk.pllOn = true → s.clk.lock = false → s.start.step ≠ .pllLock →
    ∃ t, exec .pllLock s = .next t ∧ t.start = s.start ∧ t.chains = s.chains ∧ t.doms = s.doms ∧
      t.clk = { s.clk with lock := true, csync := true, everLock := true, lockUs := min 65535 (ticksUs (s.clk.watch - s.clk.pllTick)) }) ∧
  (∀ s : State, s.clk.lock = false → s.clk.pllOn = true → s.start.step = .pllLock → s.stopq.active = false →
    ∃ t, exec .pllLockTimeout s = .next t ∧ t.start.fail = 3 ∧ t.start.boot = false ∧ t.stopq.active = true ∧ t.stopq.cause = 0x60) ∧
  (∀ s : State, s.clk.lock = true → s.stopq.active = true → 4 ≤ s.stopq.stage →
    exec .pllLoss s = .next { s with clk := { s.clk with lock := false, csync := false } }) ∧
  (∀ s : State, s.clk.lock = true → s.stopq.active = false →
    ∃ t, exec .pllLoss s = .next t ∧ t.cells = s.cells ∧ t.otp = s.otp ∧
      (t.flt.raised.get 0 36 = incSat 65535 (s.flt.raised.get 0 36)))

/-- Reference, staging, READY and abandonment (R370, R377, R381, R383, R384, R565). -/
def Obligations.StagingAndReady : Prop :=
  (∀ s : State, s.start.step = .reference → s.stopq.active = false →
    ∃ t, exec .referenceCheckEnd s = .next t ∧ t.sense = { s.sense with refRdy := true } ∧
      t.start = { s.start with step := .staging, stage := 0, stageDue := true } ∧ t.cells = s.cells ∧
      (∀ d, d ∈ allDoms → t.dom d = if s.lawFaults d (s.otp.law.getD d []) = []
        then { s.dom d with staged := some { image := s.otp.law.getD d [], path := .warden, late := s.ledger.cutoff } }
        else s.dom d)) ∧
  (∀ (row : HkcIx) (s : State), s.start.step = .reference → s.sense.refRdy = false → s.stopq.active = false →
    (∀ src, src = 23 ∨ src = 44 → bitAt (s.reactOf src) 3 = false ∧ bitAt (s.reactOf src) 2 = false) →
    ∃ t, exec (.refTimeout row) s = .next t ∧ t.sense = { s.sense with refFail := true } ∧
      t.flt.raised.get 0 23 = incSat 65535 (s.flt.raised.get 0 23) ∧ t.start.fail = 5 ∧ t.start.abandonDue = true ∧ t.stopq.active = true ∧ t.stopq.abandon = true ∧
      t.stopq.cause = 0x60 ∧ t.cells = s.cells ∧ t.doms = s.doms) ∧
  (∀ s : State, s.start.step = .staging → s.start.stageDue = true → s.start.stage ≠ 0 → s.start.stage < 12 → s.stopq.active = false → s.fastUp = true →
    (∀ d, d ∈ stageDoms (s.start.stage + 1) → s.absentOf d = []) →
    ∃ t, exec .stageBegin s = .next t ∧ t.start.stage = s.start.stage + 1 ∧ t.start.stageDue = false ∧
      (∀ d, d ∈ stageDoms (s.start.stage + 1) → (s.lane (laneOf d)).out = false →
        (t.dom d).st = .start ∧ (t.dom d).vset = if (s.dom d).vsetOwn then (s.dom d).vset else s.vStart d) ∧
      (∀ d, d ∈ stageDoms (s.start.stage + 1) → (s.lane (laneOf d)).out = true → t.dom d = s.dom d)) ∧
  (∀ s : State, s.start.step = .staging → s.start.stage ≠ 0 → s.start.stageDue = false → s.start.staged12 = false →
    100 ≤ s.start.stageCommits → s.stopq.active = false →
    (∀ d, d ∈ stageDoms s.start.stage → (s.dom d).st ≠ .start) →
    (s.start.stage = 1 → (s.dom (sd 14)).st ≠ .hold ∧ (s.dom (sd 14)).st ≠ .adopt) →
    ∃ t, exec .stageEnd s = .next t ∧ t.doms = s.doms ∧
      t.start = if s.start.stage = 12 then { s.start with staged12 := true } else { s.start with stageDue := true }) ∧
  (∀ s : State, s.start.step = .staging → s.start.staged12 = true → s.stopq.active = false → s.start.patchEvent = false →
    s.pace.lock = false → s.rings.eventOut.length < 64 →
    ∃ t, exec .ready s = .next t ∧ t.start.step = .ready ∧ t.start.ready = true ∧ t.start.stage = 0 ∧
      t.start.readyUs = min 65535 (ticksUs (s.clk.watch - s.start.trigger)) ∧
      t.limits = { s.limits with govOn := true, pG := s.limits.pinLast } ∧ t.rings.eventOut.length = s.rings.eventOut.length + 1) ∧
  (∀ s : State, s.start.abandonDue = true → s.stopq.active = true → s.fastUp = true → s.start.stage ≠ 0 →
    ∃ t, exec .startAbandon s = .next t ∧ t.start = { s.start with abandonStage := s.start.stage, abandonDue := false, stageDue := false } ∧
      (∀ d, d ∈ stageDoms s.start.stage → (s.dom d).st = .run → (t.dom d).st = .stop) ∧ t.stopq = s.stopq)

/-- The chain masters (R105, R115, R118, R120, R133, R137, R138, R140). -/
def Obligations.ChainMastersKeepTheirRings : Prop :=
  (∀ (s : State) (c : ChainIx) (q : PosIx), s.fastRuns = true → s.cellsUp = true → (s.chain c).st = .enumerating →
    (s.chain c).enumDone = false →
    (s.cell (cellAt c q)).addr = none ∨ (s.cell (cellAt c q)).addr = some (cellAt c (s.chain c).enumPos) →
    ∃ t, exec (.tokenCycle c q) s = .next t ∧ (t.cell (cellAt c q)).addr = some (cellAt c (s.chain c).enumPos) ∧
      (t.cell (cellAt c q)).gen = 1 ∧ (t.chain c).taken = (s.chain c).taken ++ [((s.chain c).enumPos, q.val)] ∧
      (t.chain c).enumPos = if (s.chain c).enumRescue then (s.chain c).enumPos - 1 else (s.chain c).enumPos + 1) ∧
  (∀ (s : State) (c : ChainIx), s.fastRuns = true → (s.chain c).st = .enumerating → (s.chain c).enumDone = false →
    (s.chain c).enumRescue = false →
    ∃ t, exec (.tokenTimeout c) s = .next t ∧ (t.chain c).enumRescue = true ∧ (t.chain c).enumLow = (s.chain c).enumPos ∧
      (t.chain c).enumPos = 287 ∧ (t.chain c).enumDone = false) ∧
  (∀ (s : State) (c : ChainIx), s.fastRuns = true → (s.chain c).st = .enumerating → (s.chain c).enumDone = false →
    (s.chain c).enumRescue = true →
    ∃ t, exec (.tokenTimeout c) s = .next t ∧ (t.chain c).enumDone = true ∧ (t.chain c).taken = (s.chain c).taken) ∧
  (∀ (s : State) (c : ChainIx), s.fastRuns = true → s.start.step = .enumeration → (s.chain c).st = .enumerating →
    (s.chain c).enumRescue = false → (s.chain c).taken = (List.range 288).map (fun p => (p, p)) →
    ∃ t, exec (.rosterRepair c) s = .next t ∧ (t.chain c).st = .running ∧ (t.chain c).gen = 1 ∧ (t.chain c).cells = 288) ∧
  (∀ (s : State) (c : ChainIx), s.fastRuns = true → (s.chain c).st = .running →
    ∃ t, exec (.l2Period c) s = .next t ∧ (t.chain c).sent.length = 40 ∧ (t.chain c).urgSlots = 2) ∧
  (∀ (s : State) (c : ChainIx) (bad : Bool) (o : Order) (l : List Order), s.fastRuns = true → (s.chain c).onRing = o :: l → o.resends < 3 →
    ∃ t, exec (.cmdResend c bad) s = .next t ∧ (t.chain c).onRing = l ∧
      (t.chain c).resendQ = (s.chain c).resendQ ++ [{ o with resends := o.resends + 1 }] ∧
      (t.chain c).crcCnt = min 65535 ((s.chain c).crcCnt + if bad then 1 else 0) ∧
      (t.chain c).retryCnt = incSat 255 (s.chain c).retryCnt) ∧
  (∀ (s : State) (c : ChainIx) (d : DomIx), s.fastRuns = true → (s.servedDoms c).contains d.val = true →
    ∃ t, exec (.cfgRefresh c d) s = .next t ∧ d.val ∈ (t.chain c).cfgQ) ∧
  (∀ (s : State) (c : ChainIx) (j1 j2 : Fin 289) (bad : Fin 5), s.fastRuns = true → (s.chain c).st = .running →
    bitAt (s.reactOf 11) 3 = false → bitAt (s.reactOf 11) 2 = false → bitAt (s.reactOf 12) 3 = false → bitAt (s.reactOf 12) 2 = false →
    ∃ t, exec (.chainBreak c j1 j2 bad) s = .next t ∧ (t.chain c).st = .degraded ∧
      (t.chain c).crcCnt = min 65535 ((s.chain c).crcCnt + bad.val) ∧ (t.chain c).j1 = j1.val ∧
      (t.chain c).j2 = (if s.creg.rescueEn then j2.val else 288) ∧
      (t.chain c).loopQ = (s.chain c).loopQ ++ if s.creg.rescueEn then [pathFrameOf j1 0, pathFrameOf j2 1] else []) ∧
  (∀ (s : State) (c : ChainIx) (n : BitVec 16), s.fastRuns = true → (s.chain c).st = .running → (s.chain c).crcEpoch + n.toNat < 8 →
    ∃ t, exec (.crcBurst c n) s = .next t ∧ t.flt.raised.get 0 10 = s.flt.raised.get 0 10 ∧
      (t.chain c).crcCnt = min 65535 ((s.chain c).crcCnt + n.toNat)) ∧
  (∀ (s : State) (c : ChainIx) (n : BitVec 16), s.fastRuns = true → (s.chain c).st = .running → 8 ≤ (s.chain c).crcEpoch + n.toNat →
    ∃ t, exec (.crcBurst c n) s = .next t ∧ t.flt.raised.get 0 10 = incSat 65535 (s.flt.raised.get 0 10) ∧
      (bitAt (s.reactOf 10) 3 = false → bitAt (s.reactOf 10) 2 = false →
        (t.chain c).crcCnt = min 65535 ((s.chain c).crcCnt + n.toNat))) ∧
  (∀ (s : State) (c : ChainIx) (pass : Bool), s.fastRuns = true → (s.chain c).audit = true →
    ∃ t, exec (.loopbackAuditEnd c pass) s = .next t ∧ (t.chain c).auditReq = false ∧
      (pass = true → (s.chain c).st = .degraded → (t.chain c).st = .running ∧ (t.chain c).j1 = 288 ∧ (t.chain c).j2 = 288 ∧
        (t.chain c).lasting = false) ∧
      (pass = false → (t.chain c).st = (s.chain c).st))

/-- Replies, loans and cell audits (R115, R116, R126, R128, R130, R413, R414). -/
def Obligations.RepliesLoansAndCellAudits : Prop :=
  (∀ (s : State) (c : ChainIx) (p : BitVec 64) (o : Order) (g x : Nat), s.fastRuns = true →
    (s.chain c).onRing.find? (rspMatches p.toNat) = some o → o.origin = .ring g x → o.op ≠ 4 → bits p.toNat 35 32 = 0 →
    ∃ t, exec (.rspReceived c p) s = .next t ∧ (t.chain c).onRing = (s.chain c).onRing.erase o ∧
      (∀ f, f ∈ t.rings.flights → ¬(f.x.ring.val = g ∧ f.x.index.toNat = x)) ∧ t.cells = s.cells) ∧
  (∀ (s : State) (c : ChainIx) (p : BitVec 64), s.fastRuns = true → chainOf (bits p.toNat 55 44) = c.val → bits p.toNat 43 40 = 1 →
    ∃ t, exec (.urgReceived c p) s = .next t ∧ t.flt.raised.get 0 0 = incSat 65535 (s.flt.raised.get 0 0) ∧ t.cells = s.cells) ∧
  (∀ (s : State) (c : ChainIx) (p : BitVec 64), s.fastRuns = true → chainOf (bits p.toNat 55 44) = c.val → bits p.toNat 43 40 = 3 →
    ∃ t, exec (.urgReceived c p) s = .next t ∧
      (∀ a, a ∈ s.flt.audits → a.cell = bits p.toNat 55 44 → a.st = .testing → { a with st := .reported (bits p.toNat 7 0) } ∈ t.flt.audits) ∧
      (∀ a, a ∈ s.flt.audits → a.cell ≠ bits p.toNat 55 44 → a ∈ t.flt.audits) ∧ t.cells = s.cells) ∧
  (∀ (s : State) (c : ChainIx), s.fastRuns = true →
    (∀ o, o ∈ (s.chain c).wardenQ ++ (s.chain c).cmdQ → 16 < o.age → o.origin = .warden) →
    ∃ t, exec (.queueAgeDrop c) s = .next t ∧ (t.chain c).wardenQ = (s.chain c).wardenQ.filter (fun o => !decide (o.age > 16)) ∧
      (t.chain c).cmdQ = (s.chain c).cmdQ.filter (fun o => !decide (o.age > 16)) ∧ t.cells = s.cells) ∧
  (∀ (s : State) (c : ChainIx) (l : Loan), s.fastRuns = true → (s.chain c).loan = some l → l.step = .accepted → l.recalling = false →
    ∃ t, exec (.loanStart c) s = .next t ∧ (t.view l.cell).moving = true ∧ (t.view l.cell).runOk = false ∧
      (t.chain c).loan = some { l with step := .zeroSent, commits := 0 } ∧ (∀ i, i ≠ l.cell → t.view i = s.view i) ∧ t.cells = s.cells) ∧
  (∀ (s : State) (c : ChainIx) (l : Loan), s.fastRuns = true → (s.chain c).loan = some l → l.step = .accepted → l.recalling = true →
    ∃ t, exec (.recallStart c) s = .next t ∧ (t.view l.cell).moving = true ∧
      (t.chain c).loan = some { l with step := if s.recallDirect l.cell then .direct else .zeroSent, commits := 0 } ∧
      (∀ i, i ≠ l.cell → t.view i = s.view i) ∧ t.cells = s.cells) ∧
  (∀ (s : State) (c : ChainIx) (l : Loan), s.fastRuns = true → (s.chain c).loan = some l → l.step = .joined → 6 ≤ l.commits →
    s.flt.audits = [] →
    ∃ t, exec (.loanComplete c) s = .next t ∧ (t.chain c).loan = none ∧ (t.acct l.target).rearm = true ∧
      (∀ f, f ∈ t.rings.flights → f.waits ≠ .loan l.cell) ∧ t.views = s.views) ∧
  (∀ (s : State) (i : CellIx) (a : CAudit), s.flt.audits.find? (fun a => a.cell == i.val) = some a → a.st = .testing →
    ∃ t, exec (.selftestTimeout i) s = .next t ∧ i.val ∈ t.flt.shed ∧ t.cells = s.cells ∧ t.doms = s.doms) ∧
  (∀ (s : State) (i : CellIx) (a : CAudit), s.flt.audits.find? (fun a => a.cell == i.val) = some a → a.st = .waiting →
    a.limit = false → 500 ≤ a.deferred →
    ∃ t, exec (.auditDeferLimit i) s = .next t ∧ t.flt.shedDefer = incSat 255 s.flt.shedDefer ∧
      t.flt.inc.audits = (if s.flt.inc.open_ = true ∧ a.counted = false then s.flt.inc.audits - 1 else s.flt.inc.audits) ∧ t.cells = s.cells ∧ t.views = s.views)

/-- Warden boot, reconcile and watchdog (R362, R370, R383, R430, R434, R440, R443, R455, R463, R503). -/
def Obligations.WardenBootAndReconcile : Prop :=
  (∀ (s : State) (rom con sig : Bool) (av : BitVec 4) (mv : List Nat), s.start.step = .wardenBoot → s.start.romFail = false →
    (rom && con) = false →
    ∃ t, exec (.wardenBootEnd rom con sig av mv) s = .next t ∧ t.start = { s.start with romFail := true, fail := 1 } ∧
      t.flt.errn = true ∧ t.flt.errnStop = true ∧ t.cells = s.cells ∧ t.warden = s.warden) ∧
  (∀ (s : State) (sig : Bool) (mv : List Nat), s.start.step = .wardenBoot → s.start.romFail = false → s.flt.react = [] →
    (∀ k, s.stopOpenValid k = false) → s.stateBlockLatest = none → s.patchWord s.activeSlot 0 = 0 →
    s.warden.mboxW.wait = none → s.warden.mboxP.wait = none →
    ∃ t, exec (.wardenBootEnd true true sig 15 mv) s = .next t ∧ t.start = { s.start with step := .reconcile } ∧
      t.stopq.exists_ = false ∧ t.flt.raised.get 0 38 = 1 ∧ t.avs.trim = s.avsBase ∧ t.avs.rate = s.avsRate ∧ t.cells = s.cells) ∧
  (∀ s : State, s.start.step = .reconcile → s.start.reconciled = false → s.start.flowOk = false →
    s.vtIntact false = true → s.vtIntact true = true → s.vtCopySeq false = s.vtCopySeq true →
    (∀ i, i < vtEntries → s.vtCopy false i = s.vtCopy true i) →
    ∃ t, exec .reconcileEnd s = .next t ∧ t.start = { s.start with reconciled := true } ∧ t.warden.vtSrc = 0 ∧ t.warden.bOk = true ∧
      t.warden.cOk = true ∧ t.warden.vtSeq = s.vtCopySeq false ∧ t.flt = s.flt ∧
      (∀ i, i < vtEntries → t.warden.vtUse.get 0 i = s.vtCopy false i)) ∧
  (∀ s : State, s.start.step = .reconcile → s.start.reconciled = false → s.start.flowOk = true → s.start.pwrOk = true → s.tapHeld = false →
    s.vtIntact false = true → s.vtIntact true = true → s.vtCopySeq false = s.vtCopySeq true →
    (∀ i, i < vtEntries → s.vtCopy false i = s.vtCopy true i) →
    ∃ t, exec .reconcileEnd s = .next t ∧ t.start.step = .bootstrap ∧ t.start.cellRst = true ∧ t.start.reconciled = false) ∧
  (∀ (s : State) (sig : Bool), s.wardenUp = true → s.rings.eventOut.length < 64 → s.patchWord s.warden.bootSlot 0 = 0 →
    ∃ t, exec (.wardenWatchdog true true sig true) s = .next t ∧ t.warden.warmCnt = incSat 255 s.warden.warmCnt ∧ t.warden.patch = 0 ∧
      t.cells = s.cells ∧ t.doms = s.doms ∧ t.start = s.start ∧ t.stopq = s.stopq) ∧
  (∀ (s : State) (rom con sig ok : Bool), s.wardenUp = true → (rom && con) = false →
    ∃ t, exec (.wardenWatchdog rom con sig ok) s = .next t ∧ t.warden.warmCnt = incSat 255 s.warden.warmCnt ∧ t.flt.errn = true ∧
      t.start = { s.start with romFail := true, fail := 1 } ∧ t.cells = s.cells)

/-- With an empty queue, a step ticks the watch clock (R531), and the warden reads its trap FIFO (R488); log entry 2. -/
def Obligations.IdleStepTicksWatch : Prop :=
  ∀ s : State, s.pending = [] → ∃ t, step s = .next t ∧
    t.clk = { s.clk with watch := if s.start.aon = true then (s.clk.watch + 1) % 2 ^ 64 else s.clk.watch } ∧
    ((s.start.aon && s.clk.warden) = false → t.rings = s.rings) ∧
    ((s.start.aon && s.clk.warden) = true →
      (∀ i, i < 30 → i + 2 < s.rings.trap.length → t.rings.trap[i]? = s.rings.trap[i + 2]?) ∧
      (s.rings.trap.length ≤ 32 → t.rings.trap.length = min 32 (s.rings.trap.length - 2 + s.rings.trapWait.length)) ∧
      t.rings.trap ++ t.rings.trapWait = s.rings.trap.drop 2 ++ s.rings.trapWait) ∧
    t.start = s.start ∧ t.cells = s.cells ∧ t.views = s.views ∧ t.chains = s.chains ∧ t.doms = s.doms ∧ t.dscs = s.dscs ∧
    t.ledger = s.ledger ∧ t.tiles = s.tiles ∧ t.limits = s.limits ∧ t.pace = s.pace ∧ t.stopq = s.stopq ∧ t.flt = s.flt ∧
    t.warden = s.warden ∧ t.policy = s.policy ∧ t.smb = s.smb ∧ t.avs = s.avs ∧ t.win = s.win ∧ t.tap = s.tap ∧ t.pending = []

/-- Every command keeps the fuses, the queue and the vault's canonical form (R453, R536). -/
def Obligations.EveryCommandKeeps : Prop :=
  ∀ (c : Instr) (s t : State), exec c s = .next t →
    t.otp = s.otp ∧ t.pending = s.pending ∧ (s.Inv → t.Inv)

/-- Every step keeps the invariant and the fuses, and takes the front of the queue (R453). -/
def Obligations.EveryStepKeepsInv : Prop :=
  ∀ s t : State, s.Inv → step s = .next t → t.Inv ∧ t.otp = s.otp ∧ t.pending = s.pending.drop 1

/-- The reset values of the control registers (R138, R184, R279, R283, R286, R329, R331, R337, R363, R364, R424). -/
def Obligations.ResetState : Prop :=
  State.reset.Inv ∧ State.reset.pending = [] ∧ (∀ d, (State.reset.dom d).st = .off) ∧ State.reset.start.aon = false ∧
  State.reset.eng.ctrl = 0x00000007 ∧ State.reset.creg.rescueEn = true ∧ State.reset.ledger.ctrl = 0x1928E000 ∧
  State.reset.ledger.treasury = 0x0016E360 ∧ State.reset.ledger.hintCfg = 0x790320A2 ∧ State.reset.limits.ctrl = 0x40400898 ∧
  State.reset.limits.ramp = 0xFA3E8064 ∧ State.reset.pace.ctrl = 0xE0001090 ∧ State.reset.therm.rate = 0x00502010 ∧
  State.reset.therm.lim = 0x766E3010 ∧ State.reset.flt.ctrl = 0x00040064

/-- Mailbox commands that end in the step that brings them (R451, R452). -/
def Obligations.MailboxCommandsEnd : Prop :=
  (∀ (s : State) (ch : MboxChan) (tag : BitVec 8), s.MboxReady ch →
    ∃ t, exec (.getInfo ch tag) s = .next t ∧ (t.mbox ch).Ended tag.toNat 0 ∧
      (t.mbox ch).res.get 0 0 = 1 ∧ (t.mbox ch).res.get 0 1 = s.warden.version ∧
      (t.mbox ch).res.get 0 2 = BitVec.ofNat 32 s.warden.svn ∧ (t.mbox ch).res.get 0 3 = BitVec.ofNat 32 s.warden.vtSeq) ∧
  (∀ (s : State) (ch : MboxChan) (tag : BitVec 8) (len : Word), s.MboxReady ch →
    256 ≤ len.toNat → len.toNat ≤ 32768 → len.toNat % 8 = 0 →
    ∃ t, exec (.patchBegin ch tag len) s = .next t ∧ (t.mbox ch).Ended tag.toNat 0 ∧
      t.warden.fillLen = some len.toNat ∧ t.warden.filled = [] ∧ t.warden.vault = s.warden.vault) ∧
  (∀ (s : State) (ch : MboxChan) (tag : BitVec 8) (which first : Word), s.MboxReady ch → which.toNat ≤ 3 →
    ∃ t, exec (.vtRead ch tag which first) s = .next t ∧ (t.mbox ch).Ended tag.toNat 0 ∧
      ∀ j, j < 16 → (t.mbox ch).data.get 0 j =
        if first.toNat + j ≥ 304 then 0
        else if which = 0 then s.vtA (first.toNat + j)
        else if which = 1 then s.vtCopy false (first.toNat + j)
        else if which = 2 then s.vtCopy true (first.toNat + j)
        else s.vtNow (first.toNat + j)) ∧
  (∀ (s : State) (ch : MboxChan) (tag : BitVec 8) (entry w : Word), s.MboxReady ch → vtStageOk entry.toNat w = true →
    ∃ t, exec (.vtStage ch tag entry w) s = .next t ∧ (t.mbox ch).Ended tag.toNat 0 ∧
      t.warden.vtStaged.get 0 entry.toNat = w ∧ t.warden.vtUse = s.warden.vtUse) ∧
  (∀ (s : State) (ch : MboxChan) (tag : BitVec 8) (addr : Word64) (len : Word) (digest : List Word), s.MboxReady ch →
    len.toNat ≤ 524288 → s.policy.st ≠ .running → s.domOn (sd 11) = true →
    ∃ t, exec (.polLoad ch tag addr len digest) s = .next t ∧ (t.mbox ch).Ended tag.toNat 0 ∧
      t.policy.st = .loaded ∧ t.policy.imageLen = len.toNat) ∧
  (∀ (s : State) (ch : MboxChan) (tag : BitVec 8), s.MboxReady ch → s.policy.st ≠ .empty → s.domOn (sd 13) = true →
    ∃ t, exec (.polStart ch tag) s = .next t ∧ (t.mbox ch).Ended tag.toNat 0 ∧ t.policy = { s.policy with st := .running }) ∧
  (∀ (s : State) (ch : MboxChan) (tag : BitVec 8), s.MboxReady ch → s.policy.st = .running →
    ∃ t, exec (.polStop ch tag) s = .next t ∧ (t.mbox ch).Ended tag.toNat 0 ∧
      t.policy.st = .stopped ∧ t.policy.lowered = [] ∧ t.Waits .polTreas 0) ∧
  (∀ (s : State) (ch : MboxChan) (tag : BitVec 8), s.MboxReady ch →
    ∃ t, exec (.polClear ch tag) s = .next t ∧ (t.mbox ch).Ended tag.toNat 0 ∧
      t.policy.st = s.policy.st ∧ t.policy.lowered = [] ∧ t.Waits .polTreas 0) ∧
  (∀ (s : State) (ch : MboxChan) (tag op : BitVec 8), s.MboxReady ch → op = 0 ∨ 12 < op.toNat →
    ∃ t, exec (.mboxUnknownOp ch tag op) s = .next t ∧ (t.mbox ch).Ended tag.toNat 1 ∧ t.policy = s.policy ∧ t.ledger = s.ledger)

/-- Writes of the vault (R436, R437, R441, R456). -/
def Obligations.VaultWritesAreQueuedAndStored : Prop :=
  (∀ (s : State) (ch : MboxChan) (tag : BitVec 8) (off : Word) (data : List Word) (len : Nat), s.MboxReady ch →
    s.warden.fillLen = some len → off.toNat % 64 = 0 → off.toNat < len →
    ∃ t, exec (.patchData ch tag off data) s = .next t ∧ (t.mbox ch).busy = true ∧ (t.mbox ch).op = 3 ∧
      t.warden.vault = s.warden.vault ∧
      t.warden.jobs = vaultQueue
        { prio := 6
          recNo := 8196 + (1 - s.warden.slot)
          addr := patchSlotAddr (1 - s.warden.slot) + off.toNat
          words := wordPairs ((data ++ List.replicate 16 0).take 16) } s.warden.jobs) ∧
  (∀ (s : State) (ch : MboxChan) (tag : BitVec 8) (sigOk : Bool) (len : Nat), s.MboxReady ch →
    s.warden.fillLen = some len → s.warden.patchFull len = true → s.patchValid (1 - s.warden.slot) sigOk = true →
    ∃ t, exec (.patchCommit ch tag sigOk) s = .next t ∧ (t.mbox ch).busy = true ∧ t.warden.vault = s.warden.vault ∧
      ∃ j seq a, j = ({ prio := 6, recNo := 8198, addr := a, words := wordPairs (selectorWords seq (1 - s.warden.slot)) } : VaultJob) ∧
        t.warden.jobs = vaultQueue j s.warden.jobs) ∧
  (∀ (s : State) (ch : MboxChan) (tag : BitVec 8), s.MboxReady ch → s.vtMayWrite true = true →
    ∃ t, exec (.vtApply ch tag) s = .next t ∧ (t.mbox ch).busy = true ∧ t.warden.updBusy = true ∧ t.warden.vtStaged = [] ∧
      t.warden.vtTick = some s.clk.watch ∧ t.warden.vtUse = s.warden.vtUse ∧ t.warden.vault = s.warden.vault) ∧
  (∀ (s : State) (ch : MboxChan) (tag : BitVec 8), s.MboxReady ch → s.vtMayWrite false = true →
    ∃ t, exec (.vtCommit ch tag) s = .next t ∧ (t.mbox ch).busy = true ∧ t.warden.updBusy = true ∧
      t.warden.vtPend = some { table := s.warden.vtUse, seq := s.vtHighest + 1, chan := some ch, clamped := false } ∧
      t.warden.vtStaged = s.warden.vtStaged ∧ t.warden.vault = s.warden.vault) ∧
  (∀ (s : State) (j : VaultJob) (rest : List VaultJob) (w x : BitVec 64) (left : List (BitVec 64)), s.Inv →
    s.warden.jobs = j :: rest → j.words = w :: x :: left → s.start.aon = true → (s.stopq.active = true → j.prio < 4) →
    ∃ t, exec (.vaultWordWrite true) s = .next t ∧
      (∀ k, k < 8 → Memory.read t.warden.vault (j.addr + k) = (natBytes 8 w.toNat).getD k 0) ∧
      (∀ a, a < j.addr ∨ j.addr + 8 ≤ a → Memory.read t.warden.vault a = Memory.read s.warden.vault a) ∧
      t.warden.jobs = { j with addr := j.addr + 8, words := x :: left, tries := 0 } :: rest) ∧
  (∀ (s : State) (j : VaultJob) (rest : List VaultJob) (w : BitVec 64) (left : List (BitVec 64)),
    s.warden.jobs = j :: rest → j.words = w :: left → s.start.aon = true → (s.stopq.active = true → j.prio < 4) → j.tries < 2 →
    ∃ t, exec (.vaultWordWrite false) s = .next t ∧ t.warden = { s.warden with jobs := { j with tries := j.tries + 1 } :: rest } ∧
      t.flt = s.flt)

/-- Accesses of the register window (R10, R13, R249, R290, R397, R520, R526, R532, R543 to R545). -/
def Obligations.WindowAccesses : Prop :=
  (∀ (s : State) (v : Word), s.WindowReady →
    ∃ t, exec (.registerWrite 0x14 v) s = .next t ∧ t.win = { s.win with scratch := v } ∧ t.ledger = s.ledger ∧ t.cells = s.cells ∧
      t.doms = s.doms ∧ t.flt = s.flt) ∧
  (∀ (s : State) (v : Word), s.WindowReady → s.ledger.staged = [] → 50000 ≤ v.toNat → v.toNat ≤ 2500000 →
    ∃ t, exec (.registerWrite 0x414 v) s = .next t ∧ s.WaitsOnly t (.reg 0x414) v ∧ t.win = s.win ∧ t.doms = s.doms) ∧
  (∀ (s : State) (off : BitVec 16) (size : Nat), s.WindowReady → off.toNat % 4 = 0 → off.toNat < 0x8000 → assigned off.toNat = true →
    ∃ t, exec (.rcFieldRead off size) s = .next t ∧
      t.win.lastRead = some (readBytes (s.readReg off.toNat) 0 size) ∧ (off = 0x1C → t.win.cnt = 0) ∧
      (off = 0x404 → t.ledger.recLate = 0 ∧ t.ledger.cntSat = 0) ∧ t.cells = s.cells ∧ t.doms = s.doms ∧ t.stopq.active = s.stopq.active) ∧
  (∀ (s : State) (off : BitVec 16) (size : Nat), s.WindowReady → size ≠ 4 ∨ off.toNat % 4 ≠ 0 →
    ∃ t, exec (.writeNotWhole off size) s = .next t ∧
      t.win = { s.win with code := 2, wr := true, cnt := incSat 255 s.win.cnt, addr := off.toNat / 4 * 4 } ∧
      t.ledger = s.ledger ∧ t.cells = s.cells ∧ t.doms = s.doms ∧ t.flt = s.flt) ∧
  (∀ (s : State) (off : BitVec 16), s.WindowReady → assigned (off.toNat / 4 * 4) = false → off.toNat < 0x8000 →
    ∃ t u, exec (.unassignedAccess off true) s = .next t ∧ exec (.unassignedAccess off false) s = .next u ∧
      t.win = { s.win with code := 1, wr := true, cnt := incSat 255 s.win.cnt, addr := off.toNat / 4 * 4 } ∧
      u.win = { s.win with code := 1, wr := false, cnt := incSat 255 s.win.cnt, addr := off.toNat / 4 * 4, lastRead := some 0 } ∧
      t.doms = s.doms ∧ u.doms = s.doms ∧ t.cells = s.cells ∧ u.cells = s.cells) ∧
  (∀ (s : State) (off : BitVec 16), s.WindowReady → s.otp.ftLocked = true → 0x8000 ≤ off.toNat →
    ∃ t u, exec (.ftLockedAccess off true) s = .next t ∧ exec (.ftLockedAccess off false) s = .next u ∧
      t.win = { s.win with code := 3, wr := true, cnt := incSat 255 s.win.cnt, addr := off.toNat / 4 * 4 } ∧
      u.win = { s.win with code := 3, wr := false, cnt := incSat 255 s.win.cnt, addr := off.toNat / 4 * 4, lastRead := some 0 } ∧
      t.flt = s.flt ∧ u.flt = s.flt) ∧
  (∀ s : State, s.WindowReady →
    ∃ t, exec (.splitLoRead .watch) s = .next t ∧ t.clk.watchHi = s.clk.watch / 2 ^ 32 % 2 ^ 32 ∧
      t.win.lastRead = some (readBytes (s.readReg 0x208) 0 4) ∧ t.doms = s.doms) ∧
  (∀ s : State, s.WindowReady →
    ∃ t, exec (.splitLoRead .epoch) s = .next t ∧ t.ledger.epochHi = s.epochHi ∧
      t.win.lastRead = some (readBytes (s.readReg 0x408) 0 4) ∧ t.doms = s.doms) ∧
  (∀ s : State, s.WindowReady → s.ledger.frozen = false →
    ∃ t, exec .freeze s = .next t ∧ t.ledger.frozen = true ∧ t.ledger.views = s.pub ∧ t.ledger.fEpoch = s.ledger.epoch % 65536 ∧
      t.ledger.staged = s.ledger.staged ∧ t.doms = s.doms) ∧
  (∀ s : State, s.WindowReady →
    ∃ t, exec .unfreeze s = .next t ∧ t.ledger.frozen = s.ledger.frozen.and false ∧ t.doms = s.doms ∧
      t.ledger.staged = s.ledger.staged) ∧
  (∀ (s : State) (v : Word), s.WindowReady → s.ledger.frozen = false →
    ∃ t, exec (.tileCapture v) s = .next t ∧ t.ledger.recLo = BitVec.ofNat 32 (s.tileRec (fld v 9 0)).toNat ∧
      t.ledger.recHi = BitVec.ofNat 32 ((s.tileRec (fld v 9 0)).toNat / 2 ^ 32) ∧ t.tiles = s.tiles) ∧
  (∀ s : State, s.WindowReady → s.start.ready = false →
    ∃ t, exec .fsrRequest s = .next t ∧ t.start = { s.start with fsrRej := true } ∧ t.clk = s.clk ∧ t.doms = s.doms) ∧
  (∀ s : State, s.windowUp = false → ∀ (off : BitVec 16) (v : Word),
    ∃ t, exec (.registerWrite off v) s = .next t ∧ t.win = s.win ∧ t.ledger = s.ledger ∧ t.doms = s.doms ∧ t.flt = s.flt ∧ t.rings = s.rings) ∧
  (∀ s : State, s.windowUp = true → s.fastUp = false → ∀ (v : Word),
    ∃ t, exec (.registerWrite 0x414 v) s = .next t ∧ t.win = { s.win with held := s.win.held ++ [.write 0x414 v] } ∧ t.ledger = s.ledger)

/-- Law, sense and loop requests (R138, R187, R188, R208, R210, R215, R216, R227, R233, R238, R241). -/
def Obligations.LawAndSenseRequests : Prop :=
  (∀ (s : State) (d : BitVec 6), s.WindowReady → s.eng.lawGo = false →
    ∃ t u v w, exec (.lawStage d) s = .next t ∧ exec (.lawCopyActive d) s = .next u ∧ exec (.lawCopyStaged d) s = .next v ∧
      exec (.lawOpRefused d) s = .next w ∧
      t.eng = { s.eng with lawGo := true, lawOp := 0, lawDom := d.toNat, rej := false } ∧ u.eng = { s.eng with lawGo := true, lawOp := 1, lawDom := d.toNat, rej := false } ∧
      v.eng = { s.eng with lawGo := true, lawOp := 2, lawDom := d.toNat, rej := false } ∧ w.eng = { s.eng with lawGo := true, lawOp := 3, lawDom := d.toNat, rej := false } ∧
      t.doms = s.doms ∧ u.doms = s.doms ∧ v.doms = s.doms ∧ w.doms = s.doms) ∧
  (∀ (s : State) (d : BitVec 6), s.WindowReady → s.eng.lawGo = true →
    ∃ t, exec (.lawStage d) s = .next t ∧ t.eng = { s.eng with rej := true, reason := 9 } ∧ t.doms = s.doms) ∧
  (∀ (s : State) (d : BitVec 6), s.WindowReady → d.toNat < 48 → (s.dsc d.toNat).trigSrc = 0 →
    ∃ t, exec (.snsTrigRegular false d) s = .next t ∧ t.dsc d.toNat = (s.dsc d.toNat).trigRegular ∧
      (∀ j, j ≠ d.toNat → t.dsc j = s.dsc j) ∧ t.tallies = s.tallies) ∧
  (∀ (s : State) (d : BitVec 6), s.WindowReady → d.toNat < 48 →
    ∃ t, exec (.snsTrigInjected false d) s = .next t ∧ t.dsc d.toNat = (s.dsc d.toNat).trigInjected ∧
      (∀ j, j ≠ d.toNat → t.dsc j = s.dsc j) ∧ t.tallies = s.tallies) ∧
  (∀ (s : State) (v : Word), s.WindowReady →
    fld v 22 16 > 64 ∨ fld v 11 8 > 8 ∨ seqOk (fld s.sense.seqSel 5 0)
      { (s.dsc (fld s.sense.seqSel 5 0)).staging.full with len := fld v 22 16, injLen := fld v 11 8 } = false →
    ∃ t, exec (.seqGo v) s = .next t ∧ t.sense.cfgRej = true ∧
      (∀ d, (t.dsc d).active = (s.dsc d).active ∧ (t.dsc d).nextReg = (s.dsc d).nextReg ∧ (t.dsc d).nextInj = (s.dsc d).nextInj)) ∧
  (∀ (s : State) (v : Word), s.WindowReady → fld v 9 4 < 56 →
    ∃ t, exec (.tallyCapture v) s = .next t ∧ t.sense.cap = (s.tally (fld v 9 4) (fld v 3 0)).done ∧ t.tallies = s.tallies) ∧
  (∀ (s : State) (v : Word), s.WindowReady → fld v 9 4 < 56 →
    ∃ t, exec (.tallyClear v) s = .next t ∧
      (∀ k, k < 16 → wbit v (16 + k) = true → (t.tally (fld v 9 4) k) = { s.tally (fld v 9 4) k with clear := true }) ∧
      (∀ c k, c < 56 → k < 16 → c ≠ fld v 9 4 → t.tally c k = s.tally c k)) ∧
  (∀ (s : State) (x : BitVec 13), s.WindowReady → x.toNat ∈ s.sense.struck →
    ∃ t, exec (.spRestore x) s = .next t ∧ t.sense = { s.sense with restoreReq := insertSorted x.toNat s.sense.restoreReq }) ∧
  (∀ (s : State) (x : BitVec 13), s.WindowReady → x.toNat ∉ s.sense.struck →
    ∃ t, exec (.spRestore x) s = .next t ∧ t.sense = s.sense) ∧
  (∀ (s : State) (m : BitVec 8), s.WindowReady →
    ∃ t, exec (.loopReq m) s = .next t ∧
      (∀ c, c < 8 → bitAt m.toNat c = true → (s.chain c).st = .running → t.chain c = { (s.chain c).auditBegin with auditReq := true }) ∧
      (∀ c, c < 8 → bitAt m.toNat c = false ∨ (s.chain c).st = .down ∨ (s.chain c).st = .enumerating → t.chain c = s.chain c) ∧
      t.cells = s.cells)

/-- The host rings (R466 to R470, R474, R484, R487, R490, R493, R494). -/
def Obligations.HostRings : Prop :=
  (∀ (s : State) (r : RingIx) (tail : BitVec 16), s.WindowReady →
    idxDiff tail.toNat (s.cr r.val).tail ≤ (s.cr r.val).entries - (s.cr r.val).held →
    ∃ t, exec (.crDoorbell r tail) s = .next t ∧ (t.cr r.val).tail = tail.toNat ∧ (t.cr r.val).head = (s.cr r.val).head ∧
      (∀ i, i ≠ r.val → t.cr i = s.cr i) ∧ t.rings.pr = s.rings.pr ∧ t.flt = s.flt) ∧
  (∀ (s : State) (p : ProdIx) (head : BitVec 16), s.WindowReady → idxDiff head.toNat (s.pr p.val).head ≤ (s.pr p.val).held →
    ∃ t, exec (.prDoorbell p head) s = .next t ∧ t.pr p.val = { s.pr p.val with head := head.toNat } ∧
      (∀ i, i ≠ p.val → t.pr i = s.pr i) ∧ t.rings.cr = s.rings.cr ∧ t.flt = s.flt) ∧
  (∀ (s : State) (o : RingObj) (v : Word), s.WindowReady → wbit v 31 = true → (s.ringObj o.val).en = false → sizeOk o.val (fld v 3 0) = true →
    ∃ t, exec (.ringEnable o v) s = .next t ∧
      t.ringObj o.val = { s.ringObj o.val with en := true, size := fld v 3 0, head := 0, tail := 0, fetchTo := 0,
                                               stopped := (s.ringObj o.val).stopped && !wbit v 30 } ∧
      (∀ j, j < 7 → j ≠ o.val → t.ringObj j = s.ringObj j) ∧ t.flt = s.flt) ∧
  (∀ (s : State) (o : RingObj) (v : Word), s.WindowReady → wbit v 31 = false → (s.ringObj o.val).en = true →
    fld v 3 0 = (s.ringObj o.val).size → s.rings.waitLog = [] → s.intake o.val = [] →
    ∃ t, exec (.ringDisable o v) s = .next t ∧ (t.ringObj o.val).en = false ∧ (t.ringObj o.val).head = (s.ringObj o.val).head ∧
      (∀ j, j < 7 → j ≠ o.val → t.ringObj j = s.ringObj j) ∧ (o.val = 5 → t.rings.tlmOut = []) ∧ t.flt = s.flt) ∧
  (∀ s : State, s.WindowReady →
    ∃ t, exec .ringArm s = .next t ∧ t.rings.armed = true ∧ (∀ i, (t.cr i).head = (s.cr i).head ∧ (t.cr i).tail = (s.cr i).tail) ∧
      t.rings.pr = s.rings.pr) ∧
  (∀ (s : State) (i : RingIx) (l : List Word), s.ringsOn = true → (s.cr i.val).en = true →
    idxDiff (s.cr i.val).fetchTo (s.cr i.val).head ≠ 0 →
    ∃ t, exec (.descriptorFetched i l) s = .next t ∧ (t.cr i.val).head = (s.cr i.val).fetchTo ∧ (t.cr i.val).tail = (s.cr i.val).tail ∧
      t.intake i.val = s.intake i.val ++ descs (idxDiff (s.cr i.val).fetchTo (s.cr i.val).head) (s.cr i.val).head l ∧
      (∀ j, j ≠ i.val → t.cr j = s.cr j) ∧ t.rings.pr = s.rings.pr ∧ t.flt = s.flt) ∧
  (∀ (s : State) (c : Compl) (l : List Compl), s.ringsOn = true → s.rings.armed = true → (s.pr 0).en = true → (s.pr 0).room = true →
    s.rings.complOut = c :: l → s.rings.complWait = [] →
    ∃ t, exec (.hostEntryWrite 0) s = .next t ∧ t.pr 0 = { s.pr 0 with tail := ((s.pr 0).tail + 1) % 65536 } ∧ t.rings.complOut = l ∧
      t.rings.hostOut.take 3 = [
        { addr := (s.pr 0).base + (s.pr 0).tail % (s.pr 0).entries * 16 + 4, words := [(complWords c ((s.pr 0).phase (s.pr 0).tail)).getD 1 0] },
        { addr := (s.pr 0).base + (s.pr 0).tail % (s.pr 0).entries * 16 + 8, words := (complWords c ((s.pr 0).phase (s.pr 0).tail)).drop 2 },
        { addr := (s.pr 0).base + (s.pr 0).tail % (s.pr 0).entries * 16, words := (complWords c ((s.pr 0).phase (s.pr 0).tail)).take 1 }]) ∧
  (∀ (s : State) (w : List Word) (l : List (List Word)), s.ringsOn = true → s.rings.armed = true → (s.pr 1).en = true → s.rings.tlmOut = w :: l →
    ∃ t, exec (.hostEntryWrite 1) s = .next t ∧ t.rings.tlmOut = l ∧
      ((s.pr 1).room = true → (t.pr 1).tail = ((s.pr 1).tail + 1) % 65536) ∧
      ((s.pr 1).room = false → t.pr 1 = s.pr 1 ∧ t.rings.tlmDrop = incSat 255 s.rings.tlmDrop ∧ t.rings.hostOut = s.rings.hostOut)) ∧
  (∀ (s : State) (e : Event) (l : List Event), s.ringsOn = true → s.rings.armed = true → (s.pr 2).en = true → (s.pr 2).room = true →
    s.rings.eventOut = e :: l →
    ∃ t, exec (.hostEntryWrite 2) s = .next t ∧ (t.pr 2).tail = ((s.pr 2).tail + 1) % 65536 ∧ t.rings.eventOut = l ∧
      t.flt.eventLostRun = false) ∧
  (∀ (s : State) (m : TlmMeter), s.fastRuns = true → s.rings.tlmLast = some m → s.ledger.epoch % 500 ≥ 2 → s.ringsOn = true →
    ∃ t, exec .telemetryRecord s = .next t ∧ t.rings.tlmLast = none ∧ t.rings.tseq = (s.rings.tseq + 1) % 2 ^ 32 ∧
      (s.rings.tlmOut.length < 2 →
        t.rings.tlmOut = s.rings.tlmOut ++ [s.tlmWords m s.rings.tseq (s.ledger.epoch / 500 * 500)] ∧ t.rings.dropped = 0) ∧
      (¬ s.rings.tlmOut.length < 2 → t.rings.tlmOut = s.rings.tlmOut ∧ t.rings.dropped = incSat 255 s.rings.dropped)) ∧
  (∀ (s : State) (v : Nat) (l : List Nat), s.rings.holdOff = v :: l →
    ∃ t, exec .intHoldEnd s = .next t ∧
      (s.rings.vecPend.contains v = false → t.rings.holdOff = l ∧ t.rings.vectors = s.rings.vectors) ∧
      (s.rings.vecPend.contains v = true → s.vecEn v = true → l.contains v = false →
        t.rings.vectors = v :: s.rings.vectors ∧ v ∉ t.rings.vecPend)) ∧
  (∀ (s : State) (o : RingObj) (wr : Bool), s.ringsOn = true → (s.ringObj o.val).en = true →
    s.Soft 42 →
    ∃ t, exec (.hostMemError o wr) s = .next t ∧ (t.ringObj o.val).en = false ∧ (t.ringObj o.val).stopped = true ∧
      t.rings.errCode = (if wr then 4 else 3) ∧ t.rings.err = orBit s.rings.err o.val)

/-- The regulation engine's commands (R146, R158, R160, R164, R166, R167, R169, R173, R181, R182, R187, R189). -/
def Obligations.RegulationSlots : Prop :=
  (∀ (s : State) (d : DomIx) (smp : SenseSample) (a b : Int), s.fastRuns = true → (s.latchSense d smp).2 = (some a, some b) → (s.dom d).st = .run →
    ∃ t, exec (.laneSlot d smp) s = .next t ∧
      t.dom d = { s.runPeriod d a (qOfMa b) { (s.latchSense d smp).1.dom d with iValid := qOfMa b } with iPrev := qOfMa b, mismatch := false } ∧
      (∀ j, j ≠ d.val → t.dom j = s.dom j)) ∧
  (∀ (s : State) (d : DomIx) (smp : SenseSample), s.fastRuns = true → (s.latchSense d smp).2.1 = none → (s.latchSense d smp).2.2 = none →
    (s.dom d).st = .run →
    ∃ t, exec (.laneSlot d smp) s = .next t ∧ (t.dom d).st = .fbhold ∧ (t.dom d).fbCnt = 1 ∧ (t.dom d).leftRun = true ∧ (t.dom d).u1 = (s.dom d).u1 ∧
      (t.dom d).tgt = (s.dom d).tgt ∧ (t.dom d).iPrev = (s.dom d).iPrev ∧ (∀ j, j ≠ d.val → t.dom j = s.dom j)) ∧
  (∀ (s : State) (d : DomIx), s.fastRuns = true → (s.dom d).satCnt ≥ lawSatLim (s.dom d).law + 2 → (s.dom d).satRaised = false → s.Soft 14 →
    ∃ t, exec (.engSat d) s = .next t ∧ (t.dom d).satRaised = true ∧ t.eng.satFlag = orBit s.eng.satFlag d ∧
      t.flt.raised.get 0 14 = incSat 65535 (s.flt.raised.get 0 14) ∧ (∀ j, j ≠ d.val → t.dom j = s.dom j)) ∧
  (∀ (s : State) (d : DomIx), s.fastRuns = true → (s.dom d).st = .fbhold → (s.dom d).fbCnt ≥ 16 → (s.dom d).fbRaised = false → s.Soft 15 →
    ∃ t, exec (.fbLost d) s = .next t ∧ t.dom d = { s.dom d with fbRaised := true } ∧
      t.flt.raised.get 0 15 = incSat 65535 (s.flt.raised.get 0 15) ∧ (∀ j, j ≠ d.val → t.dom j = s.dom j)) ∧
  (∀ (s : State) (k : LaneIx) (i p w d : Nat) (l : List (Nat × Nat × Nat)), s.fastRuns = true → (s.lane k).wait = (i, p, w) :: l →
    s.shareIncludes i p = true → s.role i = some d → lawKsh (s.dom d).law = 0 →
    ∃ t, exec (.sharingStep k) s = .next t ∧ (t.lane k).wait = l ∧
      (t.view i).lastI = some (s.iCorr i (tlmIout p), s.ledger.epoch - w) ∧ (t.view i).trim = (s.view i).trim ∧
      (∀ j, j ≠ i → t.view j = s.view j) ∧ t.doms = s.doms ∧ t.chains = s.chains) ∧
  (∀ (s : State) (k : LaneIx), s.fastRuns = true →
    ∃ t, exec (.sharingPayloadDrop k) s = .next t ∧ (t.lane k).wait = (s.lane k).wait.filter (fun e => decide (e.2.2 ≤ 4)) ∧
      (∀ j, j ≠ k.val → t.lane j = s.lane j) ∧ t.doms = s.doms ∧ t.views = s.views) ∧
  (∀ s : State, s.fastRuns = true →
    ∃ t, exec .laneSwap s = .next t ∧ t.ledger = { s.ledger with cutoff := true } ∧ t.doms = s.doms ∧ t.lanes = s.lanes) ∧
  (∀ (s : State) (k : LaneIx) (slot : Fin 7), s.fastRuns = true → slot ≠ 6 → (s.lane k).st ≠ .audit → s.Soft 16 →
    ∃ t, exec (.laneMismatch k slot) s = .next t ∧
      t.dom (slotDom k slot) = { s.dom (slotDom k slot) with
        mismatch := true
        reinit := if (s.dom (slotDom k slot)).st = .run then some (s.dom (slotDom k slot)).lastAgreed else (s.dom (slotDom k slot)).reinit } ∧
      t.flt.raised.get 0 16 = incSat 65535 (s.flt.raised.get 0 16) ∧ (∀ j, j ≠ slotDom k slot → t.dom j = s.dom j)) ∧
  (∀ (s : State) (k : LaneIx), s.fastRuns = true → (s.lane k).st = .audit →
    ∃ t, exec (.laneAuditEnd k true) s = .next t ∧
      t.lane k = { s.lane k with st := .normal, barred := false, inAudit := 0, passCnt := incSat 255 (s.lane k).passCnt } ∧
      hasAudit t.flt.laneAud k = false ∧ (∀ j, j ≠ k.val → t.lane j = s.lane j) ∧ t.doms = s.doms) ∧
  (∀ s : State, s.fastRuns = true → s.eng.lawGo = true → s.eng.lawOp = 0 → s.lawReason s.eng.lawDom s.lawBuffer = 0 →
    (s.dom s.eng.lawDom).staged = none →
    ∃ t, exec .lawOpDone s = .next t ∧
      (t.dom s.eng.lawDom).staged = some { image := s.lawBuffer, path := .register, late := s.ledger.cutoff } ∧
      t.eng = { s.eng with lawGo := false, done := true, reason := 0, lawTag := lawTag s.lawBuffer } ∧
      (∀ j, j ≠ s.eng.lawDom → t.dom j = s.dom j)) ∧
  (∀ s : State, s.fastRuns = true → s.eng.lawGo = true → s.eng.lawOp = 0 → s.lawReason s.eng.lawDom s.lawBuffer ≠ 0 →
    ∃ t, exec .lawOpDone s = .next t ∧ t.doms = s.doms ∧
      t.eng = { s.eng with lawGo := false, done := true, rej := true, reason := s.lawReason s.eng.lawDom s.lawBuffer, lawTag := lawTag s.lawBuffer })

/-- Telemetry and calibration (R89, R90, R117, R132, R261, R295). -/
def Obligations.TelemetryAndCalibration : Prop :=
  (∀ (s : State) (c : ChainIx) (addr : BitVec 12) (i p : Nat), s.cellsUp = true → s.cellByAddr c addr.toNat = some i →
    (s.cell i).partialTlm = some p →
    ∃ t, exec (.tlmPoll c addr) s = .next t ∧ (t.chain c).tlm = some (frameBits 9 p) ∧
      t.cell i = reported p { s.cell i with partialTlm := none } ∧ (∀ j, j ≠ i → t.cell j = s.cell j) ∧ t.views = s.views) ∧
  (∀ (s : State) (c : ChainIx) (addr : BitVec 12) (i p : Nat), s.cellsUp = true → s.cellByAddr c addr.toNat = some i →
    (s.cell i).partialTlm = none → (s.cell i).fullTlm = some p →
    ∃ t, exec (.tlmPoll c addr) s = .next t ∧ (t.chain c).tlm = some (frameBits 9 p) ∧
      t.cell i = reported p { s.cell i with fullTlm := none } ∧ (∀ j, j ≠ i → t.cell j = s.cell j) ∧ t.views = s.views) ∧
  (∀ (s : State) (c : ChainIx) (addr : BitVec 12) (i : Nat), s.cellsUp = true → s.cellByAddr c addr.toNat = some i →
    (s.cell i).partialTlm = none → (s.cell i).fullTlm = none →
    ∃ t p, exec (.tlmPoll c addr) s = .next t ∧ (t.chain c).tlm = some (frameBits 9 p) ∧
      p = cellTlm (s.cell i) (((s.cell i).winTag + 15) % 16) false (s.freeMeans 0).1 (s.freeMeans 0).2 ∧
      t.cell i = reported p { s.cell i with win := freshWin (s.cell i) } ∧ (∀ j, j ≠ i → t.cell j = s.cell j) ∧ t.views = s.views) ∧
  (∀ (s : State) (c : ChainIx) (pos : PosIx) (p : BitVec 64), s.fastRuns = true → s.contact (cellAt c pos) = true →
    s.credit c (cellAt c pos) p.toNat = none →
    ∃ t, exec (.tlmReceived c pos p) s = .next t ∧ (t.chain c).tlmDrop = incSat 255 (s.chain c).tlmDrop ∧ t.views = s.views ∧ t.lanes = s.lanes) ∧
  (∀ (s : State) (c : ChainIx) (pos : PosIx) (p : BitVec 64) (d l : Nat), s.fastRuns = true → s.contact (cellAt c pos) = true →
    s.credit c (cellAt c pos) p.toNat = some (d, l) → bitAt p.toNat 0 = false → bitAt p.toNat 1 = false → bitAt p.toNat 2 = false →
    bitAt p.toNat 4 = false → bitAt p.toNat 5 = false → bitAt p.toNat 6 = false →
    ∃ t, exec (.tlmReceived c pos p) s = .next t ∧ (t.view (cellAt c pos)).tlm = some p.toNat ∧
      (t.view (cellAt c pos)).offOk = (bits p.toNat 27 25 == 0) ∧ (t.view (cellAt c pos)).ovlRun = 0 ∧
      (t.lane (laneOf d)).wait = (s.lane (laneOf d)).wait ++ [(cellAt c pos, p.toNat, 0)] ∧
      (∀ j, j ≠ cellAt c pos → t.view j = s.view j) ∧ t.flt = s.flt) ∧
  (∀ s u : State, s.fastRuns = true → s.ledger.epoch ≥ 24 → s.ledger.epoch % 16 = 8 →
    u = (if wbit s.ledger.ctrl 15 then s.forEach allDoms (fun x d => x.calDomain ((s.ledger.epoch - 24) / 16) d) else s) →
    u.flt = s.flt → u.stopq = s.stopq →
    ∃ t, exec .calBlockUpdate s = .next t ∧
      (∀ i, t.view i = { u.view i with block := (u.view i).block.filter fun x => decide (x.last / 16 > (s.ledger.epoch - 24) / 16) }) ∧
      t.ledger.calSkip = u.ledger.calSkip) ∧
  (∀ (s : State) (m : Rat), s.fastRuns = true → s.limits.pvMean = some m → m ≠ 0 → s.limits.kBad = false →
    (List.range 4).all (fun k => s.limits.ioutRd.any (·.1 == k)) = true →
    (((sumN ((List.range 4).map fun k => s.limits.ioutRd.get 0 k) : Rat) / 100 / m) - 1).abs ≤ 1 / 10 →
    ∃ t, exec .kInUpdate s = .next t ∧ t.limits = { s.limits with
      kIn := max (9 / 10) (min (11 / 10) (s.limits.kIn + s.limits.kIn *
        (((sumN ((List.range 4).map fun k => s.limits.ioutRd.get 0 k) : Rat) / 100 / m) - 1) / 16))
      meterBad := 0
      meterRaised := false
      pvMean := none
      ioutRd := [] } ∧ t.flt = s.flt)

/-- The sense converters (R205, R208, R217, R218, R220 to R222, R224, R226, R229, R344, R348). -/
def Obligations.SenseCommands : Prop :=
  (∀ s : State, s.fastRuns = true → s.sense.timerOn = true →
    ∃ t, exec .senseTimerTick s = .next t ∧ t.tallies = s.tallies ∧
      ∀ d, d < 48 → t.dsc d = if (s.dsc d).trigSrc = 1 then (s.dsc d).trigRegular else s.dsc d) ∧
  (∀ s : State, s.fastRuns = true →
    ∃ t, exec .csPhaseEvent s = .next t ∧ t.tallies = s.tallies ∧
      ∀ d, d < 48 → t.dsc d = if (s.dsc d).trigSrc = 3 then (s.dsc d).trigRegular else s.dsc d) ∧
  (∀ (s : State) (d : DomIx) (smp : SenseSample) (p : Nat) (e : DscEntry), s.fastRuns = true → (s.dsc d).am = .regular p → (s.dsc d).entry = some e →
    (s.dsc d).auxEdge = false → p + 1 < (s.dsc d).round.length →
    ∃ t, exec (.entryDone d smp) s = .next t ∧ t.dsc d = (s.dsc d).go (.regular (p + 1)) ∧ (∀ j, j ≠ d.val → t.dsc j = s.dsc j) ∧
      t.tallies = (s.tallyAdd d e.tally (s.chanResult d e.ch (aFilter e.aux) smp).1 (s.chanResult d e.ch (aFilter e.aux) smp).2).tallies) ∧
  (∀ (s : State) (sel : BitVec 2), s.fastRuns = true → sel ≠ 3 →
    ∃ t, exec (.refSelect sel) s = .next t ∧ t.sense = { s.sense with
      ctrl := putFld s.sense.ctrl 1 0 sel.toNat
      refPend := if sel.toNat = s.sense.refAct then none else some sel.toNat
      refSwitch := if s.sense.refSwitch = s.sense.refPend then none else s.sense.refSwitch }) ∧
  (∀ s : State, s.fastRuns = true → ∃ t, exec (.refSelect 3) s = .next t ∧ t.sense = { s.sense with cfgRej := true }) ∧
  (∀ s : State, s.fastRuns = true → s.ledger.running = true → s.ledger.epoch % 500 = 0 → s.sense.roundOn = false →
    ∃ t, exec .hkcRoundStart s = .next t ∧ t.sense.roundOn = true ∧
      (∀ k, k < 8 → (t.hkc k).inRound = true ∧ (t.hkc k).res = [] ∧ (t.hkc k).prev = (s.hkc k).res) ∧
      t.therm.rate = (s.therm.rateNext.map (·.1)).getD s.therm.rate ∧ t.therm.lim = (s.therm.limNext.map (·.1)).getD s.therm.lim) ∧
  (∀ (s : State) (k : HkcIx) (ch : Fin 152) (raw : Option Int) (n : Nat), s.fastRuns = true → (s.hkc k).inRound = true → s.sense.roundOn = true →
    diodeOf k ch = some n →
    ∃ t, exec (.hkcConversion k ch raw) s = .next t ∧ (t.hkc k).res = (s.hkc k).res.set ch ((hkcCode ch raw).map (·.1)) ∧
      t.diode n = takeDiode ((hkcCode ch raw).map (·.1)) (s.diode n) ∧ (∀ j, j ≠ n → t.diode j = s.diode j) ∧
      (n < 1024 → t.tile n = takeTileDiode ((hkcCode ch raw).map (·.1)) (s.tile n)) ∧ t.flt = s.flt) ∧
  (∀ (s : State) (own : BitVec 8), s.fastRuns = true → s.sense.roundOn = true → s.sense.refPend = none →
    (∀ k, k < 8 → (s.hkc k).inRound = true ∧ bitAt own.toNat k = true ∧ s.rowPasses s.sense.refAct k = true) →
    ∃ t, exec (.hkcCheckSlot own) s = .next t ∧ t.sense.refRdy = true ∧ t.flt.hkcAud = [] ∧ t.flt.refAud = [] ∧
      (∀ k, k < 8 → (t.hkc k).fail = false)) ∧
  (∀ (s : State) (n : DiodeIx) (x : Int), s.fastRuns = true → (s.diode n).fresh = true → (s.diode n).cur = some x →
    x < s.tTrip → (∀ r, (s.diode n).rate = some r → r < s.tripRate ∧ r < s.warnRate) →
    ∃ t, exec (.diodeEval n) s = .next t ∧ (t.diode n).fresh = false ∧
      (x ≥ s.tThrot → (t.diode n).level = min s.thermMax ((s.diode n).level + s.thermStep)) ∧
      (x < s.tThrot - 128 → s.warnRate ≤ s.throtRate → (t.diode n).level = (s.diode n).level - s.thermStep) ∧
      (∀ j, j ≠ n.val → t.diode j = s.diode j) ∧ t.stopq = s.stopq) ∧
  (∀ (s : State) (n : DiodeIx), s.fastRuns = true → (s.diode n).badRun ≥ 3 → (s.diode n).badSet = false → s.Soft 32 →
    ∃ t, exec (.thermSensor n) s = .next t ∧ t.diode n = { s.diode n with badSet := true } ∧
      t.flt.raised.get 0 32 = incSat 65535 (s.flt.raised.get 0 32) ∧ (∀ j, j ≠ n.val → t.diode j = s.diode j)) ∧
  (∀ (s : State) (d : DomIx) (smp : SenseSample), s.fastRuns = true → (s.dsc d).gFail = false → (s.dsc d).audit ≠ some 4 → s.guardNext d < 128 →
    ∃ t, exec (.guardReading d smp) s = .next t ∧
      (t.dsc d).reading = (s.dsc d).reading.set (s.guardNext d) (s.chanResult d (s.guardNext d) gFilter smp).1 ∧
      (∀ j, j ≠ d.val → t.dsc j = s.dsc j) ∧ t.flt = s.flt ∧ t.sense = s.sense) ∧
  (∀ (s : State) (d : DomIx) (smp : SenseSample), s.fastRuns = true → (s.dsc d).gFail = false → (s.dsc d).audit ≠ some 4 → s.guardNext d = 128 →
    ∃ t, exec (.guardReading d smp) s = .next t ∧
      t.dsc d = { s.dsc d with crossBad := (s.dsc d).crossBad || s.crossFails d 128 (s.chanResult d 128 gFilter smp).1, guardAt := 129 } ∧
      (∀ j, j ≠ d.val → t.dsc j = s.dsc j) ∧ t.flt = s.flt ∧ t.sense = s.sense) ∧
  (∀ (s : State) (d : DomIx) (smp : SenseSample) (bad : Bool), s.fastRuns = true → (s.dsc d).gFail = false → (s.dsc d).audit ≠ some 4 → s.guardNext d = 129 →
    bad = ((s.dsc d).crossBad || s.crossFails d 129 (s.chanResult d 129 gFilter smp).1) → bad = false ∨ (s.dsc d).crossRun = 0 →
    ∃ t, exec (.guardReading d smp) s = .next t ∧
      t.dsc d = { s.dsc d with crossBad := false, crossRun := if bad then 1 else 0, guardAt := 0 } ∧
      (∀ j, j ≠ d.val → t.dsc j = s.dsc j) ∧ t.flt = s.flt ∧ t.sense = s.sense) ∧
  (∀ (s : State) (d : DomIx) (smp : SenseSample), s.fastRuns = true → (s.dsc d).gFail = false → (s.dsc d).audit ≠ some 4 → s.guardNext d = 129 →
    ((s.dsc d).crossBad || s.crossFails d 129 (s.chanResult d 129 gFilter smp).1) = true → (s.dsc d).crossRun ≥ 1 →
    ∃ t, exec (.guardReading d smp) s = .next t ∧ t.flt.raised.get 0 21 = incSat 65535 (s.flt.raised.get 0 21)) ∧
  (∀ (s : State) (d : DomIx) (ch : Fin 128) (up down : List Int) (x : Int), s.fastRuns = true → (s.dsc d).gFail = false → (s.dsc d).audit ≠ some 4 →
    (s.dsc d).suspects.head? = some ch.val → s.sense.restoreReq.contains (pointIndex d ch) = false →
    x = (fineV (roundEven (s.refScale d * gFilter up))).1 - (fineV (roundEven (s.refScale d * gFilter down))).1 →
    x < 64 * (fld s.sense.plaus 15 8 : Nat) → x < 64 * (fld s.sense.plaus 20 16 : Nat) →
    ∃ t, exec (.openWireTestEnd d ch up down) s = .next t ∧ (t.dsc d).suspects = (s.dsc d).suspects.filter (· != ch.val) ∧
      t.sense.struck = s.sense.struck ∧ (∀ j, j ≠ d.val → t.dsc j = s.dsc j)) ∧
  (∀ (s : State) (d : DomIx) (ch : Fin 128) (up down : List Int), s.fastRuns = true → (s.dsc d).gFail = false → (s.dsc d).audit ≠ some 4 →
    (s.dsc d).suspects.head? = some ch.val → s.sense.restoreReq.contains (pointIndex d ch) = false →
    (fineV (roundEven (s.refScale d * gFilter up))).1 - (fineV (roundEven (s.refScale d * gFilter down))).1 ≥ 64 * (fld s.sense.plaus 15 8 : Nat) → s.Soft 19 →
    ∃ t, exec (.openWireTestEnd d ch up down) s = .next t ∧ t.sense.struck = insertSorted (pointIndex d ch) s.sense.struck ∧
      t.flt.raised.get 0 19 = incSat 65535 (s.flt.raised.get 0 19)) ∧
  (∀ (s : State) (d : DomIx) (zero mid : Int × Int) (inj : Int) (k : Nat), s.fastRuns = true → (s.dsc d).audit = some k → k < 4 →
    ∃ t, exec (.dscAuditStepEnd d zero mid inj) s = .next t ∧
      t.dsc d = { s.dsc d with audit := some (k + 1), auditBad := (s.dsc d).auditBad ++ (if auditPass k zero mid inj then [] else [k]) } ∧
      (∀ j, j ≠ d.val → t.dsc j = s.dsc j))

/-- One cycle, one profile step and the reserve of a cell (R50, R51, R54, R57, R60, R61, R70, R71). `State.updCell` changes the one
cell it names. -/
def Obligations.CellCycleAndProfile : Prop :=
  (∀ (s : State) (i : CellIx) (out : Int) (lim : BitVec 4), s.cellsUp = true →
    ∃ c, exec (.l0Cycle i out lim) s = .next (s.updCell i fun _ => c) ∧
      c.p = (s.cell i).p ∧ c.v = (s.cell i).v ∧ c.a = (s.cell i).a ∧ c.mode = (s.cell i).mode ∧ c.sampleCode = windowCode out ∧
      c.e1 = -windowCode out ∧ c.e2 = (s.cell i).e1 ∧ c.rsvUv = min 2400000 ((s.cell i).rsvUv + 18750) ∧
      c.bleedHist = ((s.cell i).bleedHist <<< 1) ||| (if (s.cell i).bleedOn then 1 else 0) ∧
      c.bleedSpent = decide (cyclesOn c.bleedHist ≥ 32) ∧ c.bleedOn = (c.ovr && !c.bleedSpent) ∧
      ((s.cell i).mode = .hold → c.holdCyc = (s.cell i).holdCyc + 1) ∧
      (switching (s.cell i) = true → c.duty = (s.cell i).dutyNext ∧ c.dither = ((s.cell i).dither + 1) % 4 ∧
        (let u := (s.cell i).u + (s.cell i).k0 * -windowCode out + (s.cell i).k1 * (s.cell i).e1 + (s.cell i).k2 * (s.cell i).e2
         c.dutyNext = dutyCode (dNom (s.cell i) + u) ∧ (0 < c.dutyNext → c.dutyNext < 4032 → c.u = u)) ∧
        c.pulse = if (s.cell i).phases = .burst ∧ (s.cell i).burstOn = false then 0 else pulseSteps (s.cell i).dutyNext (((s.cell i).dither + 1) % 4)) ∧
      (switching (s.cell i) = false → c.duty = (s.cell i).duty ∧ c.dutyNext = (s.cell i).dutyNext ∧ c.u = (s.cell i).u ∧ c.pulse = 0) ∧
      ((s.cell i).mode = .run ∨ (s.cell i).mode = .hold → windowCode out ≤ -32 ∨ lim ≠ 0 → c.phases = .four)) ∧
  (∀ (s : State) (i : CellIx), s.cellsUp = true →
    ∃ c, exec (.profileStep i) s = .next (s.updCell i fun _ => c) ∧ c.trim = (s.cell i).trimNext.getD (s.cell i).trim ∧
      c.cfg = (s.cell i).cfgNext.getD (s.cell i).cfg ∧ c.trimNext = none ∧ c.cfgNext = none ∧ c.mode = (s.cell i).mode) ∧
  (∀ (s : State) (i : CellIx), s.cellsUp = true → generating (s.cell i) = true →
    (s.cell i).trimNext = none → (s.cell i).cfgNext = none → (s.cell i).cfg.vMax ≠ 0 → (s.cell i).cfg.aMax ≠ 0 → (s.cell i).cfg.jMax ≠ 0 →
    ∃ c j, exec (.profileStep i) s = .next (s.updCell i fun _ => c) ∧
      (let t := 192000 * (cellTarget (s.cell i) : Int)
       let p := (s.cell i).p + 3 * (s.cell i).v + 3 * (s.cell i).a + j
       let v := (s.cell i).v + 2 * (s.cell i).a + j
       let a := (s.cell i).a + j
       (c.p, c.v, c.a) = if (t - p).natAbs < 192000 ∧ v.natAbs < 51200 ∧ a.natAbs < 5120 then (t, 0, 0) else (p, v, a)) ∧
      ((s.cell i).p = 192000 * (cellTarget (s.cell i) : Int) → (s.cell i).v = 0 → (s.cell i).a = 0 →
        c.p = (s.cell i).p ∧ c.v = 0 ∧ c.a = 0)) ∧
  (∀ (s : State) (i : CellIx) (vout vin : BitVec 8), s.cellsUp = true →
    exec (.coarseAdcUpdate i vout vin) s = .next (s.updCell i fun c => { c with
      vCoarse := vout.toNat
      vinCoarse := vin.toNat
      measCoarse := if c.mode = .measure then some (c.measCoarse.getD vout.toNat) else c.measCoarse
      foldLim := foldBack vout.toNat (cellP c)
      win := { c.win with coarseSum := c.win.coarseSum + vout.toNat, coarseN := c.win.coarseN + 1 } })) ∧
  (∀ (s : State) (i : CellIx), s.cellsUp = true → cellArm (s.cell i) ≠ .disarmed →
    ∃ c, exec (.droopCrossing i) s = .next (s.updCell i fun _ => c) ∧ c.phases = .four ∧ c.burstOn = false ∧
      c.rsvReady = false ∧ c.rsvFire = ((s.cell i).rsvReady || (s.cell i).rsvFire) ∧
      c.rsvUv = (if (s.cell i).rsvReady then (s.cell i).rsvUv - 1200000 else (s.cell i).rsvUv) ∧
      c.win.rsvCount = (if (s.cell i).rsvReady then min 15 ((s.cell i).win.rsvCount + 1) else (s.cell i).win.rsvCount)) ∧
  (∀ (s : State) (i : CellIx), s.cellsUp = true → cellArm (s.cell i) = .disarmed →
    ∃ t, exec (.droopCrossing i) s = .next t ∧ t.cell i = s.cell i) ∧
  (∀ (s : State) (i : CellIx), s.cellsUp = true →
    exec (.reserveEnd i) s = .next (s.updCell i fun c => { c with rsvFire := false })) ∧
  (∀ (s : State) (i : CellIx), s.cellsUp = true →
    exec (.reserveRearm i) s = .next (s.updCell i fun c => { c with rsvReady := true, rsvUv := max 2300000 c.rsvUv }))

/-- Load, protection and CELLSYNC of one cell (R46, R62, R65 to R67, R70, R72, R79 to R81, R116). `State.updCell` changes the one cell
it names. -/
def Obligations.CellLoadAndProtection : Prop :=
  (∀ (s : State) (i : CellIx), s.cellsUp = true →
    exec (.overshootTrip i) s = .next (s.updCell i fun c => { c with
      ovr := bleedArmed c
      bleedOn := bleedArmed c && !c.bleedSpent
      win := { c.win with bleed := c.win.bleed || (bleedArmed c && !c.bleedSpent) } })) ∧
  (∀ (s : State) (i : CellIx), s.cellsUp = true →
    ∃ c, exec (.bleedBudgetSpent i) s = .next (s.updCell i fun _ => c) ∧ c.bleedOn = false ∧ c.bleedSpent = true ∧
      c.ovr = ((s.cell i).ovr && bleedArmed (s.cell i)) ∧ c.win = (s.cell i).win ∧ c.mode = (s.cell i).mode ∧
      (cyclesOn (s.cell i).bleedHist ≥ 32 → c.bleedHist = (s.cell i).bleedHist)) ∧
  (∀ (s : State) (i : CellIx) (amp : Int), s.cellsUp = true →
    ∃ c, exec (.lightLoadWindow i amp) s = .next (s.updCell i fun _ => c) ∧ c.iUs = amp ∧ c.freshWindow = false ∧ c.bleedSpent = (s.cell i).bleedSpent ∧
      c.win.ioutSum = (s.cell i).win.ioutSum + amp ∧ c.win.ioutN = (s.cell i).win.ioutN + 1 ∧
      ((s.cell i).mode = .run → (s.cell i).hintArm = true → c.phases = .four) ∧
      ((s.cell i).mode = .run → (s.cell i).phases ≠ .four → 144 < amp → c.phases = .four) ∧
      ((s.cell i).mode = .run → (s.cell i).hintArm = false → (s.cell i).phases = .four → (s.cell i).cfg.shedEn = true →
        c.phases = if amp < 96 ∧ (s.cell i).freshWindow = false then .two else .four) ∧
      ((s.cell i).mode = .run → (s.cell i).hintArm = false → (s.cell i).phases = .one → (s.cell i).cfg.shedEn = true → amp ≤ 144 →
        c.phases = if amp < 24 ∧ (s.cell i).cfg.burstEn = true ∧ (s.cell i).v = 0 then .burst else .one) ∧
      ((s.cell i).mode ≠ .run → (s.cell i).mode ≠ .hold → c.phases = (s.cell i).phases) ∧
      (c.phases ≠ .burst → c.burstOn = false) ∧ c.p = (s.cell i).p ∧ c.mode = (s.cell i).mode) ∧
  (∀ (s : State) (i : CellIx), s.cellsUp = true →
    exec (.burstStart i) s = .next (s.updCell i fun c => if c.phases = .burst then { c with burstOn := true } else c)) ∧
  (∀ (s : State) (i : CellIx) (short : Bool), s.cellsUp = true → (s.cell i).phases = .burst →
    exec (.burstStop i short) s = .next (s.updCell i fun c => { c with
      burstOn := false
      phases := if short then .one else .burst })) ∧
  (∀ (s : State) (i : CellIx) (short : Bool), s.cellsUp = true → (s.cell i).phases ≠ .burst →
    ∃ t, exec (.burstStop i short) s = .next t ∧ t.cell i = s.cell i) ∧
  (∀ (s : State) (i : CellIx) (ph : BitVec 4), s.cellsUp = true →
    exec (.ocLimitSet i ph) s = .next (s.updCell i fun c =>
      if c.ocLimit then c
      else { c with
        ocLimit := true
        ocPhases := ph.toNat
        urg := c.urg ++ [(1, ph.toNat)] })) ∧
  (∀ (s : State) (i : CellIx), s.cellsUp = true →
    exec (.ocLimitClear i) s = .next (s.updCell i fun c => { c with ocLimit := false, ocPhases := 0 })) ∧
  (∀ (s : State) (i : CellIx), s.cellsUp = true → exec (.ovlSet i) s = .next (s.updCell i fun c => { c with ovl := true })) ∧
  (∀ (s : State) (i : CellIx), s.cellsUp = true → exec (.ovlClear i) s = .next (s.updCell i fun c => { c with ovl := false })) ∧
  (∀ (s : State) (i : CellIx), s.cellsUp = true →
    exec (.cellsyncLoss i) s = .next (s.updCell i fun c => { c with sync := false, win := { c.win with syncLost := true } })) ∧
  (∀ (s : State) (i : CellIx), s.cellsUp = true → exec (.cellsyncRegain i) s = .next (s.updCell i fun c => { c with sync := true }))

/-- The cell's own changes of state (R74 to R78, R83 to R85, R87, R92, R116, R373). `State.updCell` changes the one cell it names. -/
def Obligations.CellStateChanges : Prop :=
  (∀ (s : State) (i : CellIx), s.cellsUp = true → (s.cell i).mode = .measure → (s.cell i).ramp = false → measuredP (s.cell i) ≤ 70400 →
    ∃ c, exec (.measureEnd i) s = .next (s.updCell i fun _ => c) ∧ c.p = 192000 * (measuredP (s.cell i) : Int) ∧ c.v = 0 ∧ c.a = 0 ∧ c.u = 0 ∧
      c.e1 = (s.cell i).e1 ∧ c.e2 = (s.cell i).e2 ∧ c.tgt = (s.cell i).tgt ∧
      (let up : Bool := decide (measuredP (s.cell i) ≤ cellTarget (s.cell i))
       if (s.cell i).boot then c.mode = .hold ∧ c.holdFrom = (if up then .rise else .fall) else c.mode = if up then .rise else .fall)) ∧
  (∀ (s : State) (i : CellIx), s.cellsUp = true → (s.cell i).mode = .measure → (s.cell i).ramp = false → 70400 < measuredP (s.cell i) →
    ∃ c, exec (.measureEnd i) s = .next (s.updCell i fun _ => c) ∧ c.mode = .off ∧ c.p = 0 ∧ c.prebias = true ∧ c.bleedOn = false ∧
      c.urg = (s.cell i).urg ++ [(2, (s.cell i).vCoarse % 4096)]) ∧
  (∀ (s : State) (i : CellIx), s.cellsUp = true → (s.cell i).mode = .rise → (s.cell i).ramp = false →
    exec (.riseToRun i) s = .next (s.updCell i fun c => { c with mode := .run })) ∧
  (∀ (s : State) (i : CellIx), s.cellsUp = true → (s.cell i).mode = .fall → (s.cell i).ramp = false →
    ∃ c, exec (.fallToRun i) s = .next (s.updCell i fun _ => c) ∧ c.mode = .run ∧ c.p = 192000 * (cellTarget (s.cell i) : Int) ∧
      c.v = 0 ∧ c.a = 0 ∧ c.u = 0 ∧ c.cfg = (s.cell i).cfg ∧ c.tgt = (s.cell i).tgt) ∧
  (∀ (s : State) (i : CellIx), s.cellsUp = true → (s.cell i).mode = .fall →
    ∃ c, exec (.fallTimeout i) s = .next (s.updCell i fun _ => c) ∧ c.mode = .off ∧ c.p = 0 ∧ c.prebias = true ∧
      c.urg = (s.cell i).urg ++ [(2, (s.cell i).vCoarse % 4096)]) ∧
  (∀ (s : State) (i : CellIx), s.cellsUp = true → (s.cell i).ramp = false →
    (s.cell i).mode = .rise ∨ (s.cell i).mode = .fall ∨ (s.cell i).mode = .run →
    ∃ c, exec (.contactLost i) s = .next (s.updCell i fun _ => c) ∧ c.mode = .hold ∧ c.holdFrom = (s.cell i).mode ∧
      c.armHeld = cellArm (s.cell i) ∧ c.holdCyc = 0 ∧ c.p = (s.cell i).p ∧ c.tgt = (s.cell i).tgt ∧ c.trim = (s.cell i).trim ∧ c.gen = (s.cell i).gen) ∧
  (∀ (s : State) (i : CellIx), s.cellsUp = true → (s.cell i).mode = .hold ∨ (s.cell i).mode = .off ∨ (s.cell i).mode = .zero →
    ∃ t, exec (.contactLost i) s = .next t ∧ t.cell i = s.cell i) ∧
  (∀ (s : State) (i : CellIx), s.cellsUp = true → (s.cell i).mode = .hold → (s.cell i).ramp = false → (s.cell i).holdCyc ≥ 160000 * (s.cell i).holdLim →
    exec (.holdLimitReached i) s = .next (s.updCell i fun c => { c with ramp := true, rampExp := true })) ∧
  (∀ (s : State) (i : CellIx), s.cellsUp = true → (s.cell i).mode = .hold → (s.cell i).holdCyc < 160000 * (s.cell i).holdLim →
    exec (.holdLimitReached i) s = .next (s.updCell i fun c => c)) ∧
  (∀ (s : State) (i : CellIx), s.cellsUp = true → steering (s.cell i) = true →
    exec (.zeroReached i) s = .next (s.updCell i fun c => { c with zeroDone := true, duty := 0, dutyNext := 0, pulse := 0 })) ∧
  (∀ (s : State) (i : CellIx) (b : BitVec 8), s.cellsUp = true → (s.cell i).mode = .test →
    ∃ c, exec (.selftestComplete i b) s = .next (s.updCell i fun _ => c) ∧ c.mode = .off ∧
      c.bitmap = (if (swingNo i).isSome then b.toNat else orBit b.toNat 7) ∧ c.urg = (s.cell i).urg ++ [(3, c.bitmap)]) ∧
  (∀ (s : State) (i : CellIx), s.cellsUp = true → (s.cell i).ramp = true →
    ∃ c, exec (.rampToZeroDone i) s = .next (s.updCell i fun _ => c) ∧ c.mode = .off ∧ c.ramp = false ∧ c.p = 0 ∧
      c.expired = ((s.cell i).expired || (s.cell i).rampExp) ∧ c.holdExp = ((s.cell i).holdExp || (s.cell i).rampExp))

/-- Frames at the cells (R54, R83, R84, R93, R103, R107 to R110, R116, R122, R124, R134). -/
def Obligations.FramesToCells : Prop :=
  (∀ (s : State) (c : ChainIx) (p : BitVec 64), s.cellsUp = true →
    ∃ t, exec (.mcast c p) s = .next t ∧ t.doms = s.doms ∧ t.chains = s.chains ∧
      (∀ i v, s.FrameReaches c p i → (s.cell i).mode ≠ .hold → mcastEntry p.toNat (cellDom i (s.cell i)) = some v →
        t.cell i = { s.cell i with winTag := bits p.toNat 55 52, tgtNext := some v, marks := 0 }) ∧
      (∀ i, s.FrameReaches c p i → (s.cell i).mode = .hold → t.cell i = { s.cell i with winTag := bits p.toNat 55 52 }) ∧
      (∀ i, chainOf i ≠ c.val ∨ (s.cell i).addr = none ∨
        (bits p.toNat 63 56 ≠ (s.cell i).gen ∧ bits p.toNat 63 56 ≠ genNext (s.cell i).gen) → t.cell i = s.cell i)) ∧
  (∀ (s : State) (c : ChainIx) (p : BitVec 64), s.cellsUp = true →
    ∃ t, exec (.mcastMark c p) s = .next t ∧ t.doms = s.doms ∧ t.chains = s.chains ∧
      (∀ i v, s.FrameReaches c p i → (s.cell i).mode = .run → mcastEntry p.toNat (cellDom i (s.cell i)) = some v →
        t.cell i = { (if bits p.toNat 51 50 = 0 ∧ bits p.toNat 53 52 = posOf ((s.cell i).addr.getD 0) % 4
            then closeWindow (s.freeMeans i).1 (s.freeMeans i).2 { s.cell i with winTag := bits p.toNat 55 52 } else s.cell i) with
          winTag := bits p.toNat 55 52
          tgt := (s.cell i).tgtNext.getD (s.cell i).tgt
          tgtNext := some v
          marks := 0 }) ∧
      (∀ i, s.FrameReaches c p i → (s.cell i).mode = .run → mcastEntry p.toNat (cellDom i (s.cell i)) = none →
        15 ≤ (s.cell i).marks → (s.cell i).ramp = false → (t.cell i).mode = .hold ∧ (t.cell i).holdFrom = .run) ∧
      (∀ i, chainOf i ≠ c.val ∨ (s.cell i).addr = none → t.cell i = s.cell i)) ∧
  (∀ (s : State) (c : ChainIx) (p : BitVec 64), s.cellsUp = true →
    ∃ t, exec (.cfgFrame c p) s = .next t ∧ t.doms = s.doms ∧
      (∀ i, s.FrameReaches c p i → (s.cell i).mode = .hold → t.cell i = s.cell i) ∧
      (∀ i, s.FrameReaches c p i → (s.cell i).mode ≠ .hold → bits p.toNat 55 50 = 63 →
        t.cell i = { s.cell i with glbNext := some (bits p.toNat 49 44, bits p.toNat 43 40) }) ∧
      (∀ i, s.FrameReaches c p i → (s.cell i).mode ≠ .hold → bits p.toNat 55 50 ≠ 63 → bits p.toNat 55 50 = cellDom i (s.cell i) →
        t.cell i = { s.cell i with cfgNext := some (cfgOf p.toNat) }) ∧
      (∀ i, s.FrameReaches c p i → bits p.toNat 55 50 ≠ 63 → bits p.toNat 55 50 ≠ cellDom i (s.cell i) → t.cell i = s.cell i)) ∧
  (∀ (s : State) (c : ChainIx) (p : BitVec 64), s.cellsUp = true →
    ∃ t, exec (.armFrame c p) s = .next t ∧ t.doms = s.doms ∧
      (∀ i, s.FrameReaches c p i → (s.cell i).mode ≠ .hold → bits p.toNat 55 50 = cellDom i (s.cell i) →
        armSelects (bits p.toNat 31 0) i (s.cell i) = true →
        t.cell i = if bitAt p.toNat 49 then { s.cell i with
          hintArm := true
          phases := .four
          burstOn := false
          freshWindow := true
          lowUs := 0 } else { s.cell i with hintArm := false }) ∧
      (∀ i, s.FrameReaches c p i → (s.cell i).mode = .hold ∨ bits p.toNat 55 50 ≠ cellDom i (s.cell i) → t.cell i = s.cell i)) ∧
  (∀ (s : State) (c : ChainIx) (p : BitVec 64), s.cellsUp = true →
    ∃ t, exec (.trimFrame c p) s = .next t ∧ t.doms = s.doms ∧
      (∀ i a k, s.FrameReaches c p i → (s.cell i).mode ≠ .hold → (s.cell i).addr = some a → a = bits p.toNat 55 44 + k →
        k < min 5 (bits p.toNat 43 40) →
        t.cell i = { s.cell i with trimNext := some (sext 8 (bits p.toNat (39 - 8 * k) (32 - 8 * k))) }) ∧
      (∀ i, s.FrameReaches c p i → (s.cell i).mode = .hold → t.cell i = s.cell i)) ∧
  (∀ (s : State) (c : ChainIx) (p : BitVec 64), s.cellsUp = true →
    ∃ t, exec (.pathFrame c p) s = .next t ∧ t.doms = s.doms ∧
      (∀ i, s.FrameReaches c p i → t.cell i = { s.cell i with pathLink := some (bits p.toNat 55 44, bitAt p.toNat 0) }) ∧
      (∀ i, chainOf i ≠ c.val ∨ (s.cell i).addr = none → t.cell i = s.cell i)) ∧
  (∀ (s : State) (c : ChainIx) (p : BitVec 64) (i : Nat), s.cellsUp = true → s.cellByAddr c (bits p.toNat 55 44) = some i →
    ∃ t, exec (.loopFrame c p) s = .next t ∧ (t.chain c).turned = some (posOf i) ∧ t.cells = s.cells) ∧
  (∀ (s : State) (c : ChainIx) (f : BitVec 80), s.cellsUp = true →
    ∃ t, exec (.reservedFrame c f) s = .next t ∧ (t.chain c).passed = some f.toNat ∧ t.cells = s.cells ∧ t.doms = s.doms) ∧
  (∀ (s : State) (i : CellIx) (a code detail : Nat) (l : List (Nat × Nat)), s.cellsUp = true → (s.cell i).addr = some a →
    (s.cell i).urg = (code, detail) :: l →
    (s.reaches (chainOf i) (posOf i) = true → 0 < s.urgFree i →
      ∃ t, exec (.urgSend i) s = .next t ∧ t.cell i = { s.cell i with urg := l } ∧ t.urgFree i = s.urgFree i - 1 ∧
        (t.chain (chainOf i)).urg = some (frameBits 0xA
          (packN [(63, 56, (s.cell i).gen), (55, 44, a), (43, 40, code), (39, 36, (s.cell i).winTag), (35, 0, detail)]))) ∧
    (s.reaches (chainOf i) (posOf i) = false → exec (.urgSend i) s = .next (s.setCell i { s.cell i with urg := l }))) ∧
  (∀ (s : State) (i : CellIx), (s.cell i).urg = [] → exec (.urgSend i) s = .next s)

/-- Enumeration frames (R118, R119, R121 to R123, R374). `enumAckOf p d` is the frame p rewritten to ACK with DATA d. -/
def Obligations.EnumerationFrames : Prop :=
  (∀ (s : State) (c : ChainIx) (p : BitVec 64) (i : Nat), s.cellsUp = true → s.firstUnaddressed c = some i →
    ∃ t, exec (.enumToken c p) s = .next t ∧
      t.cell i = { s.cell i with addr := some (bits p.toNat 55 44), gen := bits p.toNat 63 56 } ∧
      (∀ j, j ≠ i → t.cell j = s.cell j) ∧ (t.chain c).rsp = some (frameBits 0xB (enumAckOf p.toNat (bits p.toNat 39 0))) ∧ t.doms = s.doms) ∧
  (∀ (s : State) (c : ChainIx) (p : BitVec 64), s.cellsUp = true → s.firstUnaddressed c = none →
    ∃ t, exec (.enumToken c p) s = .next t ∧ t.cells = s.cells ∧ (t.chain c).passed = some (frameBits 0xB p.toNat)) ∧
  (∀ (s : State) (c : ChainIx) (p : BitVec 64), s.cellsUp = true →
    ∃ t, exec (.enumAck c p) s = .next t ∧ t.cells = s.cells ∧ (t.chain c).passed = some (frameBits 0xB p.toNat)) ∧
  (∀ (s : State) (c : ChainIx) (p : BitVec 64) (i : Nat), s.cellsUp = true → s.cellByAddr c (bits p.toNat 55 44) = some i →
    ∃ t, exec (.enumQuery c p) s = .next t ∧ t.cells = s.cells ∧ (t.chain c).rsp = some (frameBits 0xB (enumAckOf p.toNat
      (packN [(39, 32, (s.cell i).gen), (31, 29, modeCode (s.cell i)), (28, 27, selCode (s.cell i).sel),
        (26, 26, b2n ((s.cell i).mode == .hold))])))) ∧
  (∀ (s : State) (c : ChainIx) (p : BitVec 64) (i : Nat), s.cellsUp = true → s.cellByAddr c (bits p.toNat 55 44) = some i →
    (s.cell i).mode = .off →
    ∃ t, exec (.enumClear c p) s = .next t ∧ t.cell i = { s.cell i with addr := none, gen := 0 } ∧
      (∀ j, j ≠ i → t.cell j = s.cell j) ∧ t.chains = s.chains) ∧
  (∀ (s : State) (c : ChainIx) (p : BitVec 64) (i : Nat), s.cellsUp = true → s.cellByAddr c (bits p.toNat 55 44) = some i →
    (s.cell i).mode = .off →
    ∃ t, exec (.enumMove c p) s = .next t ∧ t.cell i = { s.cell i with addr := some (bits p.toNat 11 0) } ∧
      (∀ j, j ≠ i → t.cell j = s.cell j) ∧ (t.chain c).rsp = some (frameBits 0xB (enumAckOf p.toNat (bits p.toNat 39 0)))) ∧
  (∀ (s : State) (c : ChainIx) (p : BitVec 64) (i : Nat), s.cellsUp = true → s.cellByAddr c (bits p.toNat 55 44) = some i →
    (s.cell i).mode ≠ .off →
    ∃ t u, exec (.enumClear c p) s = .next t ∧ exec (.enumMove c p) s = .next u ∧ t.cells = s.cells ∧ u.cells = s.cells ∧
      (t.chain c).passed = some (frameBits 0xB p.toNat) ∧ (u.chain c).passed = some (frameBits 0xB p.toNat))

/-- Orders to one cell (R51, R74, R75, R82, R84, R86 to R88, R92, R112, R114, R115). -/
def Obligations.OrdersToOneCell : Prop :=
  (∀ (s : State) (c : ChainIx) (h : CmdHdr) (i : Nat) (v : BitVec 16), s.OrderReaches c h i → (s.cell i).mode = .off →
    ∃ t, exec (.start c h v) s = .next t ∧
      (if (s.cell i).sync then s.Answered t c h 1 i 0 0 ∧ (t.cell i).mode = .measure ∧ (t.cell i).tgt = v.toNat ∧ (t.cell i).v = 0 ∧
        (t.cell i).a = 0 ∧ (t.cell i).u = 0 else s.Answered t c h 1 i 3 0 ∧ (t.cell i).mode = .off)) ∧
  (∀ (s : State) (c : ChainIx) (h : CmdHdr) (i : Nat), s.OrderReaches c h i → (s.cell i).mode ≠ .test → (s.cell i).mode ≠ .off →
    ∃ t, exec (.stop c h) s = .next t ∧ s.Answered t c h 2 i 0 0 ∧ (t.cell i).ramp = true ∧ (t.cell i).mode = (s.cell i).mode ∧
      (t.cell i).p = (s.cell i).p) ∧
  (∀ (s : State) (c : ChainIx) (h : CmdHdr) (i : Nat), s.OrderReaches c h i → (s.cell i).mode = .run → (s.cell i).ramp = false →
    ∃ t, exec (.zero c h) s = .next t ∧ s.Answered t c h 3 i 0 0 ∧ (t.cell i).mode = .zero ∧ (t.cell i).zeroDone = false) ∧
  (∀ (s : State) (c : ChainIx) (h : CmdHdr) (i : Nat) (sel : BitVec 2) (g : BitVec 8) (x : Sel), s.OrderReaches c h i →
    (s.cell i).mode = .off → (swingNo i).isSome = true → selOf sel.toNat = some x →
    ∃ t, exec (.loanSw c h sel g) s = .next t ∧ s.Answered t c h 4 i 0 0 ∧ (t.cell i).sel = x ∧ (t.cell i).gen = g.toNat ∧
      (t.cell i).trim = 0 ∧ (t.cell i).mode = .off) ∧
  (∀ (s : State) (c : ChainIx) (h : CmdHdr) (i : Nat) (sel : BitVec 2) (g : BitVec 8), s.OrderReaches c h i →
    (s.cell i).mode ≠ .hold → selOf sel.toNat = none ∨ ((swingNo i).isNone = true ∧ selOf sel.toNat ≠ some .home) →
    ∃ t, exec (.loanSw c h sel g) s = .next t ∧ s.Answered t c h 4 i 4 0 ∧ (t.cell i).sel = (s.cell i).sel ∧
      (t.cell i).gen = (s.cell i).gen) ∧
  (∀ (s : State) (c : ChainIx) (h : CmdHdr) (i : Nat), s.OrderReaches c h i → (s.cell i).mode = .hold → (s.cell i).ramp = false →
    (s.cell i).kNext = [] →
    ∃ t, exec (.adopt c h) s = .next t ∧ s.Answered t c h 5 i 0 0 ∧ (t.cell i).mode = .run ∧ (t.cell i).boot = false ∧
      (t.cell i).p = (s.cell i).p ∧ (t.cell i).v = (s.cell i).v ∧ (t.cell i).a = (s.cell i).a ∧ (t.cell i).u = (s.cell i).u ∧
      (t.cell i).hintArm = (s.cell i).hintArm ∧ (t.cell i).tgt = (s.cell i).tgt) ∧
  (∀ (s : State) (c : ChainIx) (h : CmdHdr) (i : Nat), s.OrderReaches c h i → (s.cell i).mode ≠ .hold →
    ∃ t, exec (.adopt c h) s = .next t ∧ s.Answered t c h 5 i 2 0 ∧ (t.cell i).mode = (s.cell i).mode) ∧
  (∀ (s : State) (c : ChainIx) (h : CmdHdr) (i : Nat), s.OrderReaches c h i → (s.cell i).mode = .off ∨ (s.cell i).mode = .run → (s.cell i).ramp = false →
    ∃ t, exec (.selftest c h) s = .next t ∧ s.Answered t c h 6 i 0 0 ∧ (t.cell i).mode = .test ∧
      (t.cell i).zeroDone = ((s.cell i).mode == .off)) ∧
  (∀ (s : State) (c : ChainIx) (h : CmdHdr) (i : Nat) (pg : BitVec 2), s.OrderReaches c h i →
    ∃ t, exec (.readState c h pg) s = .next t ∧
      (if pg = 3 then s.Answered t c h 7 i 4 0 else s.Answered t c h 7 i 0 (statePage pg.toNat (s.cell i))) ∧
      (t.cell i).mode = (s.cell i).mode ∧ (t.cell i).p = (s.cell i).p) ∧
  (∀ (s : State) (c : ChainIx) (h : CmdHdr) (i : Nat) (v : BitVec 16), s.OrderReaches c h i → (s.cell i).mode ≠ .hold →
    (s.cell i).boot = false →
    ∃ t, exec (.setCoef c h 1 v) s = .next t ∧ s.Answered t c h 8 i 0 0 ∧ (t.cell i).k1 = sext 16 v.toNat ∧
      (t.cell i).k0 = (s.cell i).k0 ∧ (t.cell i).k2 = (s.cell i).k2 ∧ (t.cell i).kNext = (s.cell i).kNext) ∧
  (∀ (s : State) (c : ChainIx) (h : CmdHdr) (i : Nat) (op : BitVec 4), s.OrderReaches c h i → op = 0 ∨ 8 < op.toNat →
    ∃ t, exec (.reservedOp c h op) s = .next t ∧ (t.cell i).mode = (s.cell i).mode ∧
      s.Answered t c h op.toNat i (if (s.cell i).mode = .hold then 2 else 4) 0) ∧
  (∀ (s : State) (c : ChainIx) (h : CmdHdr) (i : Nat) (v : BitVec 16), s.OrderReaches c h i → (s.cell i).mode = .hold →
    ∃ t u w, exec (.start c h v) s = .next t ∧ exec (.zero c h) s = .next u ∧ exec (.selftest c h) s = .next w ∧
      s.Answered t c h 1 i 2 0 ∧ s.Answered u c h 3 i 2 0 ∧ s.Answered w c h 6 i 2 0 ∧
      (t.cell i).mode = .hold ∧ (u.cell i).mode = .hold ∧ (w.cell i).mode = .hold) ∧
  (∀ (s : State) (c : ChainIx) (h : CmdHdr) (i : Nat) (sel : BitVec 2) (g : BitVec 8), s.OrderReaches c h i → (s.cell i).mode = .hold →
    ∃ t, exec (.loanSw c h sel g) s = .next t ∧ s.Answered t c h 4 i 2 0 ∧ (t.cell i).mode = .hold ∧ (t.cell i).sel = (s.cell i).sel) ∧
  (∀ (s : State) (c : ChainIx) (h : CmdHdr) (i : Nat), s.OrderReaches c h i → (s.cell i).mode = .test →
    ∃ t, exec (.stop c h) s = .next t ∧ s.Answered t c h 2 i 2 0 ∧ (t.cell i).mode = .test) ∧
  (∀ (s : State) (c : ChainIx) (h : CmdHdr) (i : Nat), s.cellsUp = true → s.cellByAddr c h.addr.toNat = some i →
    (s.cell i).seq = some h.seq.toNat →
    ∃ t, exec (.stop c h) s = .next t ∧ t.cells = s.cells ∧
      (t.chain c).rsp = some (frameBits 7 (rspOf (s.cell i).gen h.addr.toNat 2 h.seq.toNat (s.cell i).status (s.cell i).data)))

/-- Host commands that finish as they are accepted (R476, R478, R479). -/
def Obligations.HostCommandsAtOnce : Prop :=
  (∀ (s : State) (x : CmdCtx), s.HostReady x 0x00 → ∃ t, exec (.nop x) s = .next t ∧ s.Completed t x 0x00 stOk 0 ∧
    t.doms = s.doms ∧ t.ledger = s.ledger ∧ t.warden = s.warden ∧ t.rings.flights = s.rings.flights) ∧
  (∀ (s : State) (x : CmdCtx) (d : BitVec 6) (staged : Bool) (addr : Word64) (l : List Word), s.HostReady x 0x05 → d.toNat < 48 →
    (if staged then (s.dom d.toNat).staged.map (·.image) else some (s.dom d.toNat).law) = some l → l.length = 16 →
    ∃ t, exec (.readLaw x d staged addr true) s = .next t ∧ s.Completed t x 0x05 stOk (lawTag l * 65536) ∧
      t.rings.hostOut = { addr := addr.toNat, words := l } :: s.rings.hostOut ∧ t.doms = s.doms ∧ t.ledger = s.ledger) ∧
  (∀ (s : State) (x : CmdCtx) (conv : BitVec 6) (mask : BitVec 16) (addr : Word64), s.HostReady x 0x0D → conv.toNat < 56 →
    ∃ t, exec (.readTally x conv mask false addr true) s = .next t ∧
      s.Completed t x 0x0D stOk ((List.range 16).filter fun k => bitAt mask.toNat k).length ∧
      t.rings.hostOut = { addr := addr.toNat,
                          words := ((List.range 16).filter fun k => bitAt mask.toNat k).flatMap fun k => tallyWords (s.tally conv.toNat k).done } ::
                        s.rings.hostOut ∧ t.tallies = s.tallies) ∧
  (∀ (s : State) (x : CmdCtx) (off len : Word) (addr : Word64), s.HostReady x 0x15 →
    off.toNat % 8 = 0 → len.toNat % 8 = 0 → 8 ≤ len.toNat → len.toNat ≤ 4096 → off.toNat + len.toNat ≤ 0x40000 →
    ∃ t, exec (.vaultRead x off len addr true) s = .next t ∧
      s.Completed t x 0x15 stOk (crc32 (s.vaultBytes off.toNat len.toNat)).toNat ∧
      t.rings.hostOut = { addr := addr.toNat, words := bytesWords (len.toNat / 4) (s.vaultBytes off.toNat len.toNat) } :: s.rings.hostOut ∧
      t.warden = s.warden) ∧
  (∀ (s : State) (x : CmdCtx) (v : Word), s.HostReady x 0x10 → v &&& 0x3FFFFFC0 = 0 → wbit v 31 = true ∨ fld v 5 0 < 48 →
    ∃ t, exec (.senseTrigger x v) s = .next t ∧ s.Completed t x 0x10 stOk 0 ∧
      (∀ d, d ∈ trigTargets (wbit v 31) (fld v 5 0) → wbit v 30 = true → t.dsc d = (s.dsc d).trigInjected) ∧
      (∀ d, d ∈ trigTargets (wbit v 31) (fld v 5 0) → wbit v 30 = false → (s.dsc d).trigSrc = 0 → t.dsc d = (s.dsc d).trigRegular) ∧
      (∀ d, d ∉ trigTargets (wbit v 31) (fld v 5 0) → t.dsc d = s.dsc d)) ∧
  (∀ (s : State) (x : CmdCtx) (clr0 clr1 : Word) (hold : BitVec 2), s.HostReady x 0x12 → clr1.toNat ≤ 0x1FFF →
    ∃ t, exec (.faultAck x clr0 clr1 hold) s = .next t ∧ s.Completed t x 0x12 stOk (fltCode s.flt.st) ∧
      (∀ k, k < 45 → bitAt t.flt.pend k = (bitAt s.flt.pend k && !bitAt (clr0.toNat + 2 ^ 32 * clr1.toNat) k)) ∧
      (2 ≤ hold.toNat → wbit t.flt.ctrl 31 = decide (hold.toNat = 3)) ∧ (hold.toNat < 2 → t.flt.ctrl = s.flt.ctrl)) ∧
  (∀ (s : State) (x : CmdCtx) (src : BitVec 6) (react : BitVec 5), s.HostReady x 0x17 → reactOk src.toNat react.toNat = true →
    ∃ t, exec (.setReaction x src react) s = .next t ∧ s.Completed t x 0x17 stOk react.toNat ∧ t.reactOf src.toNat = react.toNat ∧
      ∀ k, k ≠ src.toNat → t.reactOf k = s.reactOf k) ∧
  (∀ (s : State) (x : CmdCtx) (tile : BitVec 10) (all : Bool), s.HostReady x 0x16 →
    ∃ t n, exec (.dropPacket x tile all) s = .next t ∧ s.Completed t x 0x16 stOk n ∧
      (∀ k, k < 1024 → all = true ∨ k = tile.toNat → t.tile k = (s.tile k).dropPacket) ∧
      (∀ k, k ≠ tile.toNat → all = false → t.tile k = s.tile k) ∧
      (all = false → n = (s.tile tile.toNat).fifo.length - (s.tile tile.toNat).dropPacket.fifo.length)) ∧
  (∀ (s : State) (x : CmdCtx) (q : BitVec 6), s.HostReady x 0x14 → q ≠ 0 → s.pace.st = .up → s.paceGroup ≠ 0 →
    (∃ t seq, exec (.paceRelay x q false) s = .next t ∧ s.Completed t x 0x14 stOk seq ∧ seq < 256 ∧
      t.pace.tx = .quota s.pace.pos true s.paceGroup q.toNat seq :: s.pace.tx ∧ t.pace.relay = some (q.toNat, seq, 0) ∧
      ∀ b, s.pace.relay = some b → seq ≠ b.2.1) ∧
    (∀ q0 seq n, s.pace.relay = some (q0, seq, n) → ∃ t, exec (.paceRelay x q true) s = .next t ∧ s.Completed t x 0x14 stOk seq ∧
      t.pace.tx = .release s.pace.pos true s.paceGroup seq :: s.pace.tx ∧ t.pace.relay = none) ∧
    (s.pace.relay = none → ∃ t data, exec (.paceRelay x q true) s = .next t ∧ s.Completed t x 0x14 stOk data ∧ t.pace = s.pace)) ∧
  (∀ (s : State) (x : CmdCtx) (op : BitVec 8), 0x17 < op.toNat → s.HostReady x op.toNat →
    ∃ t, exec (.unknownOpcode x op) s = .next t ∧ s.Completed t x op.toNat stBad 0 ∧ t.doms = s.doms ∧ t.ledger = s.ledger)

/-- Host commands that stage a value (R245, R472, R478, R479). -/
def Obligations.HostCommandsStaged : Prop :=
  (∀ (s : State) (x : CmdCtx) (d : BitVec 6) (v : BitVec 12), s.HostReady x 0x01 → d.toNat < 48 → denied d.toNat = false →
    (vRange d.toNat).1 ≤ v.toNat → v.toNat ≤ (vRange d.toNat).2 → s.vMin d.toNat ≤ v.toNat → isTD d.toNat = false ∨ s.limits.fixed = false →
    ∃ t, exec (.setDomainVoltage x d v) s = .next t ∧ t.Waits (.vset d.toNat) (BitVec.ofNat 32 v.toNat) ∧
      t.InFlight x 0x01 (.commit s.ledger.cutoff) v.toNat ∧ t.doms = s.doms ∧ t.limits = s.limits ∧ t.flt = s.flt) ∧
  (∀ (s : State) (x : CmdCtx) (d : BitVec 6), s.HostReady x 0x02 → d.toNat < 48 → denied d.toNat = false → (s.dom d.toNat).st = .off →
    (s.lane (laneOf d.toNat)).out = false →
    ∃ t, exec (.domainOn x d) s = .next t ∧ t.Waits (.power d.toNat) 1 ∧ t.InFlight x 0x02 (.domRun d.toNat) 0 ∧ t.doms = s.doms ∧ t.flt = s.flt) ∧
  (∀ (s : State) (x : CmdCtx) (d : BitVec 6), s.HostReady x 0x03 → d.toNat < 48 → denied d.toNat = false → d.toNat ≠ sd 11 →
    isTD d.toNat = true ∨ (∀ e, e < 32 → (s.dom e).st = .off) →
    ∃ t, exec (.domainOff x d) s = .next t ∧ t.Waits (.power d.toNat) 0 ∧ t.InFlight x 0x03 (.domOff d.toNat) 0 ∧ t.doms = s.doms ∧ t.flt = s.flt) ∧
  (∀ (s : State) (x : CmdCtx) (d : BitVec 6) (addr : Word64) (l : List Word), s.HostReady x 0x04 → addr.toNat % 64 = 0 → denied d.toNat = false →
    l.length = 16 → s.lawReason d.toNat l = 0 →
    ∃ t, exec (.stageLaw x d addr { words := l, ok := true }) s = .next t ∧
      (t.dom d.toNat).staged = some { image := l, path := .command x, late := s.ledger.cutoff } ∧
      (t.dom d.toNat).law = (s.dom d.toNat).law ∧ t.InFlight x 0x04 (.law d.toNat) (lawTag l * 65536) ∧
      (∀ e, e ≠ d.toNat → t.dom e = s.dom e)) ∧
  (∀ (s : State) (x : CmdCtx) (w : Word) (caps : List Word), s.HostReady x 0x06 → (∀ c, c ∈ caps.take 12 → c &&& 0x60F00000 = 0) →
    s.imageOk 0x414 w = true → capImages caps = [] →
    ∃ t, exec (.setBudget x true w caps) s = .next t ∧ t.Waits (.reg 0x414) w ∧ t.InFlight x 0x06 (.commit s.ledger.cutoff) 0 ∧
      t.ledger.treasury = s.ledger.treasury ∧ t.doms = s.doms) ∧
  (∀ (s : State) (x : CmdCtx) (f : BitVec 4) (l : List Word), s.HostReady x 0x07 → s.imageOk (0x420 + 4 * f.toNat) (l.getD 0 0) = true →
    ∃ t, exec (.setClassWeights x f 1 l) s = .next t ∧ t.Waits (.reg (0x420 + 4 * f.toNat)) (l.getD 0 0) ∧
      t.InFlight x 0x07 (.commit s.ledger.cutoff) 0 ∧ t.ledger.cls = s.ledger.cls) ∧
  (∀ (s : State) (x : CmdCtx) (l : List Word), s.HostReady x 0x08 → s.imageOk 0x1504 (l.getD 6 0) = true →
    ∃ t, exec (.setLimits x 0x40 l) s = .next t ∧ t.therm.limNext = some (l.getD 6 0, .command x) ∧ t.therm.lim = s.therm.lim ∧
      t.InFlight x 0x08 .round 0) ∧
  (∀ (s : State) (x : CmdCtx) (d : BitVec 6) (l : List Word), s.HostReady x 0x0F → d.toNat < 48 → s.imageOk (0xD00 + 4 * d.toNat) (l.getD 1 0) = true →
    ∃ t, exec (.setSense x d 0x02 l) s = .next t ∧ t.Waits (.reg (0xD00 + 4 * d.toNat)) (l.getD 1 0) ∧
      t.InFlight x 0x0F (.commit s.ledger.cutoff) 0 ∧ t.dscs = s.dscs) ∧
  (∀ (s : State) (x : CmdCtx) (d : BitVec 6) (v : Word), s.HostReady x 0x11 → d.toNat < 48 → denied d.toNat = false →
    s.imageOk (0xB00 + 4 * d.toNat) v = true →
    ∃ t, exec (.setCellCfg x d v) s = .next t ∧ t.Waits (.reg (0xB00 + 4 * d.toNat)) v ∧ t.InFlight x 0x11 (.commit s.ledger.cutoff) 0 ∧
      t.eng = s.eng ∧ t.cells = s.cells) ∧
  (∀ (s : State) (x : CmdCtx) (enter : Bool), s.HostReady x 0x13 → enter = false ∨ s.fixReady = true →
    ∃ t, exec (.fixedFreq x enter) s = .next t ∧ t.Waits .fixed (if enter then 1 else 0) ∧ t.InFlight x 0x13 (.commit s.ledger.cutoff) 0 ∧
      t.limits = s.limits) ∧
  (∀ (s : State) (x : CmdCtx) (g : BitVec 8) (apply send : Bool), s.HostReady x 0x14 →
    ∃ t w, exec (.paceGroup x g apply send) s = .next t ∧ t.Waits (.reg 0x1600) w ∧ fld w 23 16 = g.toNat ∧ wbit w 30 = apply ∧ wbit w 29 = send ∧
      t.InFlight x 0x14 (.commit s.ledger.cutoff) 0 ∧ t.pace = s.pace)

/-- Loans, reads, snapshots and sequence lists ordered by host software (R127, R209, R250, R478). -/
def Obligations.HostLoansReadsLists : Prop :=
  (∀ (s : State) (x : CmdCtx) (i : BitVec 12) (d : BitVec 6), s.HostReady x 0x09 → i.toNat < 2304 → d.toNat < 48 →
    (s.loanCheck i.toNat (some d.toNat) = stOk → ∃ t, exec (.loanCell x i d) s = .next t ∧ t.InFlight x 0x09 (.loan i.toNat) 0 ∧
      (t.chain (chainOf i.toNat)).loan = some { cell := i.toNat, recalling := false, home := homeDom i.toNat, host := facing i.toNat, step := .accepted, origin := .ring x.ring x.index.toNat } ∧ t.cells = s.cells ∧ t.doms = s.doms) ∧
    (s.loanCheck i.toNat (some d.toNat) ≠ stOk → ∃ t, exec (.loanCell x i d) s = .next t ∧
      s.Completed t x 0x09 (s.loanCheck i.toNat (some d.toNat)) 0 ∧ t = { s with rings := t.rings, smb := t.smb })) ∧
  (∀ (s : State) (x : CmdCtx) (i : BitVec 12), s.HostReady x 0x0A → i.toNat < 2304 →
    (s.recallCheck i.toNat = stOk → ∃ t, exec (.recallCell x i) s = .next t ∧ t.InFlight x 0x0A (.loan i.toNat) 0 ∧
      (t.chain (chainOf i.toNat)).loan = some { cell := i.toNat, recalling := true, home := homeDom i.toNat, host := facing i.toNat, step := .accepted, origin := .ring x.ring x.index.toNat } ∧ t.cells = s.cells ∧ t.doms = s.doms) ∧
    (s.recallCheck i.toNat ≠ stOk → ∃ t, exec (.recallCell x i) s = .next t ∧
      s.Completed t x 0x0A (s.recallCheck i.toNat) 0 ∧ t = { s with rings := t.rings, smb := t.smb })) ∧
  (∀ (s : State) (x : CmdCtx) (i : BitVec 12) (p : BitVec 2), s.HostReady x 0x0B → i.toNat < 2304 →
    (s.contact i.toNat = true → ∃ t, exec (.readCell x i p) s = .next t ∧ t.InFlight x 0x0B (.rsp i.toNat p.toNat) 0 ∧
      (t.chain (chainOf i.toNat)).cmdQ = (s.chain (chainOf i.toNat)).cmdQ ++
        [{ addr := i.toNat, op := 7, arg := p.toNat, origin := .ring x.ring x.index.toNat, role := s.role i.toNat }] ∧
      t.cells = s.cells ∧ t.doms = s.doms) ∧
    (s.contact i.toNat = false → ∃ t, exec (.readCell x i p) s = .next t ∧ s.Completed t x 0x0B stChain 0 ∧
      t = { s with rings := t.rings, smb := t.smb })) ∧
  (∀ (s : State) (x : CmdCtx) (a : Word64), s.HostReady x 0x0C →
    (a.toNat % 64 = 0 → ∃ t, exec (.snapshot x a) s = .next t ∧ t.InFlight x 0x0C (.snapshot a.toNat) 0 ∧ t = { s with rings := t.rings, smb := t.smb }) ∧
    (a.toNat % 64 ≠ 0 → ∃ t, exec (.snapshot x a) s = .next t ∧ s.Completed t x 0x0C stBad 0 ∧ t = { s with rings := t.rings, smb := t.smb })) ∧
  (∀ (s : State) (x : CmdCtx) (i : BitVec 12) (d : BitVec 6) (p : BitVec 2), 2304 ≤ i.toNat →
    (s.HostReady x 0x09 → ∃ t, exec (.loanCell x i d) s = .next t ∧ s.Completed t x 0x09 stBad 0) ∧
    (s.HostReady x 0x0A → ∃ t, exec (.recallCell x i) s = .next t ∧ s.Completed t x 0x0A stBad 0) ∧
    (s.HostReady x 0x0B → ∃ t, exec (.readCell x i p) s = .next t ∧ s.Completed t x 0x0B stBad 0)) ∧
  (∀ (s : State) (x : CmdCtx) (d : BitVec 6) (n : BitVec 7) (j : BitVec 4) (a : Word64) (l : List Word) (q : SeqSet), s.HostReady x 0x0E →
    q = seqList (s.dsc d.toNat).staging n.toNat j.toNat l → d.toNat < 48 → n.toNat ≤ 64 → j.toNat ≤ 8 → seqOk d.toNat q = true →
    ((s.dsc d.toNat).am = .idle → ∃ t, exec (.setSequence x d n j a { words := l, ok := true }) s = .next t ∧
      (t.dsc d.toNat).active = { (s.dsc d.toNat).active with len := q.len, mask := q.mask, reg := q.reg, injLen := q.injLen, inj := q.inj } ∧
      t.cells = s.cells ∧ t.doms = s.doms) ∧
    ((s.dsc d.toNat).inRound = true → ∃ t, exec (.setSequence x d n j a { words := l, ok := true }) s = .next t ∧
      (t.dsc d.toNat).nextReg = some q ∧ (t.dsc d.toNat).active.reg = (s.dsc d.toNat).active.reg ∧
      t.InFlight x 0x0E (.lists d.toNat) 0 ∧ t.cells = s.cells ∧ t.doms = s.doms)) ∧
  (∀ (s : State) (x : CmdCtx) (d : BitVec 6) (n : BitVec 7) (j : BitVec 4) (a : Word64) (l : List Word), s.HostReady x 0x0E →
    (48 ≤ d.toNat ∨ 64 < n.toNat ∨ 8 < j.toNat ∨ seqOk d.toNat (seqList (s.dsc d.toNat).staging n.toNat j.toNat l) = false) →
    ∃ t, exec (.setSequence x d n j a { words := l, ok := true }) s = .next t ∧ s.Completed t x 0x0E stBad 0 ∧
      t = { s with rings := t.rings, smb := t.smb })

/-- Address resolution and the alert response (R496, R497, R499, R501, R506). -/
def Obligations.SmbusAddressing : Prop :=
  (∀ (s : State), s.traysUp = true → ∃ t, exec .prepareToArp s = .next t ∧ s.SmbOnly t { s.smb with resolved := false }) ∧
  (∀ (s : State), s.traysUp = true → ∃ t, exec .resetDevice s = .next t ∧
    s.SmbOnly t { s.smb with resolved := false, valid := false, addr := 0 } ∧ t.smb.alert = false) ∧
  (∀ (s : State), s.traysUp = true → s.start.slot < 64 → ∃ t l, exec .getUdid s = .next t ∧ s.SmbOnly t { s.smb with reply := 17 :: l } ∧
    l.length = 17 ∧ l.take 12 = [0x81, BitVec.ofNat 8 (0x08 + s.otp.sirev.toNat), BitVec.ofNat 8 (s.otp.vendorId.toNat / 256),
      BitVec.ofNat 8 s.otp.vendorId.toNat, 0x4E, 0x02, 0x00, 0x26, 0x00, 0x00, 0x00, 0x00] ∧
    (l.getD 12 0).toNat / 4 = s.start.slot ∧
    bytesNat [l.getD 15 0, l.getD 14 0, l.getD 13 0, l.getD 12 0] % 2 ^ 26 = (s.otp.lot.toNat * 2 ^ 24 + s.otp.die.toNat) % 2 ^ 26 ∧
    (l.getD 16 0).toNat % 2 = 1) ∧
  (∀ (s : State) (u : BitVec 128) (a : BitVec 7), s.traysUp = true → u = BitVec.ofNat 128 (bytesNat s.udid.reverse) →
    ∃ t, exec (.assignAddress u a) s = .next t ∧ s.SmbOnly t { s.smb with resolved := true, valid := true, addr := a.toNat }) ∧
  (∀ (s : State) (u : BitVec 128) (a : BitVec 7), u ≠ BitVec.ofNat 128 (bytesNat s.udid.reverse) →
    exec (.assignAddress u a) s = .next s) ∧
  (∀ (s : State), s.traysUp = true → ∃ t, exec .smbusTimeout s = .next t ∧
    s.SmbOnly t { s.smb with cml := orBit s.smb.cml 1, timeouts := if s.smb.timeouts < 255 then s.smb.timeouts + 1 else 255 } ∧
    bitAt t.smb.cml 1 = true) ∧
  (∀ (s : State), s.smbAnswers = true → s.smb.alert = true → ∃ t, exec .alertResponse s = .next t ∧
    s.SmbOnly t { s.smb with alert := false, reply := [BitVec.ofNat 8 (2 * s.smb.addr)] } ∧
    (s.smb.seen = s.alertBits → t.smb.alert = false)) ∧
  (∀ (s : State), s.smb.alert = false → exec .alertResponse s = .next s)

/-- Plain commands of the PMBus subset (R498 to R500, R539, R540). -/
def Obligations.PmbusCommands : Prop :=
  (∀ (s : State) (pec : Pec), s.smbAnswers = true → ∃ t, exec (.page pec none) s = .next t ∧ s.SmbOnly t { s.smb with reply := [s.smb.page] }) ∧
  (∀ (s : State) (pec : Pec) (v : Byte), s.smbAnswers = true → pec ≠ .bad → ∃ t, exec (.page pec (some v)) s = .next t ∧
    s.SmbOnly t (if v.toNat ≤ 0x2F ∨ v = 0xFF then { s.smb with page := v } else { s.smb with cml := orBit s.smb.cml 6 })) ∧
  (∀ (s : State) (pec : Pec), s.smbAnswers = true → pec ≠ .bad → ∃ t, exec (.clearFaults pec) s = .next t ∧
    s.SmbOnly t { s.smb with cml := 0, restRej := false, noClk := false }) ∧
  (∀ (s : State), s.smbAnswers = true → ∃ t, exec .capability s = .next t ∧ s.SmbOnly t { s.smb with reply := [0xD0] }) ∧
  (∀ (s : State), s.smbAnswers = true → ∃ t, exec .voutMode s = .next t ∧ s.SmbOnly t { s.smb with reply := [0x14] }) ∧
  (∀ (s : State), s.smbAnswers = true → ∃ t, exec .pmbusRevision s = .next t ∧ s.SmbOnly t { s.smb with reply := [0x44] }) ∧
  (∀ (s : State), s.smbAnswers = true → ∃ t, exec .mfrId s = .next t ∧
    s.SmbOnly t { s.smb with reply := [6, 0x47, 0x4E, 0x4F, 0x58, 0x55, 0x53] }) ∧
  (∀ (s : State), s.smbAnswers = true → ∃ t, exec .mfrModel s = .next t ∧
    s.SmbOnly t { s.smb with reply := [8, 0x55, 0x4C, 0x55, 0x47, 0x4F, 0x20, 0x55, 0x32] }) ∧
  (∀ (s : State), s.smbAnswers = true → ∃ t, exec .mfrRevision s = .next t ∧
    s.SmbOnly t { s.smb with reply := [2, 0x01, BitVec.ofNat 8 s.otp.sirev.toNat] }) ∧
  (∀ (s : State), s.smbAnswers = true → ∃ t l, exec .mfrSerial s = .next t ∧ s.SmbOnly t { s.smb with reply := 6 :: l } ∧
    l = (List.range 6).map fun i => BitVec.ofNat 8 ((s.otp.lot.toNat * 2 ^ 24 + s.otp.die.toNat) / 256 ^ i)) ∧
  (∀ (s : State), s.smbAnswers = true → ∃ t, exec .statusCml s = .next t ∧ s.SmbOnly t { s.smb with reply := [BitVec.ofNat 8 s.smb.cml] }) ∧
  (∀ (s : State) (pec : Pec) (off : Word), s.smbAnswers = true → pec ≠ .bad → ∃ t, exec (.mfrVaultAddr pec off) s = .next t ∧
    s.SmbOnly t (if off.toNat % 8 = 0 ∧ off.toNat < 0x40000 then { s.smb with vaultAddr := off.toNat }
      else { s.smb with cml := orBit s.smb.cml 6 })) ∧
  (∀ (s : State) (pec : Pec) (off : BitVec 16), s.smbAnswers = true → pec ≠ .bad → ∃ t, exec (.mfrRegAddr pec off) s = .next t ∧
    s.SmbOnly t (if wbit s.win.gctrl 1 = true then { s.smb with regAddr := off.toNat } else { s.smb with cml := orBit s.smb.cml 7 })) ∧
  (∀ (s : State) (v : Byte) (vault : Word) (off : BitVec 16), s.smbAnswers = true →
    ∀ c, c = .page .bad (some v) ∨ c = .clearFaults .bad ∨ c = .mfrErrn .bad (some v) ∨ c = .mfrVaultAddr .bad vault ∨
      c = .mfrRegAddr .bad off →
    ∃ t, exec c s = .next t ∧
      s.SmbOnly t { s.smb with cml := orBit s.smb.cml 5, pecErr := if s.smb.pecErr < 255 then s.smb.pecErr + 1 else 255 }) ∧
  (∀ (s : State) (data : Byte), s.smbAnswers = true → ∃ t, exec (.mfrRestart .bad data) s = .next t ∧
    s.SmbOnly t { s.smb with cml := orBit (orBit s.smb.cml 6) 5, pecErr := if s.smb.pecErr < 255 then s.smb.pecErr + 1 else 255 }) ∧
  (∀ (s : State) (code : Byte), s.smbAnswers = true →
    code.toNat ∉ [0x00, 0x03, 0x19, 0x20, 0x78, 0x79, 0x7D, 0x7E, 0x80, 0x88, 0x89, 0x8B, 0x8C, 0x8D, 0x96, 0x97, 0x98, 0x99, 0x9A, 0x9B, 0x9E,
      0xD0, 0xD1, 0xD2, 0xD3, 0xD4, 0xD5, 0xD6, 0xD7, 0xD8, 0xD9] ∨ (wbit s.win.gctrl 0 = false ∧ code = 0xD6) ∨
      (wbit s.win.gctrl 1 = false ∧ (code = 0xD8 ∨ code = 0xD9)) →
    ∃ t, exec (.pmbusInvalidCommand code) s = .next t ∧ s.SmbOnly t { s.smb with cml := orBit s.smb.cml 7 })

/-- The status bits of R499, bit 0 first. -/
def Obligations.PmbusStatus : Prop :=
  (∀ (s : State), s.smbAnswers = true → ∃ t v, exec .statusTemperature s = .next t ∧ s.SmbOnly t { s.smb with reply := [v] } ∧
    (List.range 8).map (bitAt v.toNat) = [false, false, false, false, false, false,
      wbit (s.readPub 0x1510) 1 || wbit (s.readPub 0x1510) 0,
      s.stopq.exists_ && !s.stopq.cleared && (bitAt s.stopq.cause 2 || bitAt s.stopq.cause 3 || bitAt s.stopq.cause 4)]) ∧
  (∀ (s : State), s.smbAnswers = true → ∃ t v, exec .statusMfrSpecific s = .next t ∧ s.SmbOnly t { s.smb with reply := [v] } ∧
    (List.range 8).map (bitAt v.toNat) = [s.stopq.thermTrip, s.smb.noClk, false, s.warden.mboxP.done,
      s.stopq.quiet.isSome || s.flt.quiet.isSome, s.smb.restRej, s.stopped, !(s.flt.st == .normal)]) ∧
  (∀ (s : State), s.smbAnswers = true → ∃ t v, exec .statusByte s = .next t ∧ s.SmbOnly t { s.smb with reply := [v] } ∧
    v = BitVec.ofNat 8 s.statusByte ∧ s.statusByte < 256) ∧
  (∀ (s : State), s.smbAnswers = true → ∃ t, exec .statusWord s = .next t ∧
    s.SmbOnly t { s.smb with reply := [BitVec.ofNat 8 s.statusWord, BitVec.ofNat 8 (s.statusWord / 256)] } ∧ s.statusWord < 65536) ∧
  (∀ (s : State),
    let vout := bitAt s.flt.pend 14 || bitAt s.flt.pend 15 || bitAt s.flt.pend 19
    let input := bitAt s.flt.pend 33 || bitAt s.flt.pend 34 || bitAt s.flt.pend 29
    let mfr := decide (s.statusMfr ≠ 0)
    (List.range 16).map (bitAt s.statusWord) = [vout || bitAt s.flt.pend 30 || input || mfr, decide (s.smb.cml ≠ 0),
      decide (s.statusTemperature ≠ 0), bitAt s.flt.pend 33, bitAt s.flt.pend 30, false, !s.start.ready,
      s.warden.mboxP.busy || s.warden.mboxW.busy, false, false, false, !s.start.ready, mfr, input, bitAt s.flt.pend 30, vout] ∧
    s.statusWord % 256 = s.statusByte)

/-- The readings of the PMBus subset (R498, R502). -/
def Obligations.PmbusReadings : Prop :=
  (∀ (s : State), s.smbAnswers = true → s.pageDom = none → ∀ c v,
    (c = .readVin ∧ v = s.rings.pubVin / 1000) ∨ (c = .readPin ∧ v = s.rings.pubPin / 1000) ∨ (c = .readIout ∧ v = s.rings.pubIout / 1000) ∨
      (c = .readPout ∧ v = s.rings.pubPout / 1000) ∨ (c = .readTemperature1 ∧ v = (sext 16 (fld s.rings.pubHot 31 16) : Rat) / 64) ∨
      (c = .readIin ∧ v = ((fld (s.link 0).vi 15 0 + fld (s.link 1).vi 15 0 + fld (s.link 2).vi 15 0 + fld (s.link 3).vi 15 0 : Nat) : Rat) / 100) →
    ∃ t, exec c s = .next t ∧ s.SmbOnly t { s.smb with reply := natBytes 2 (linear11 v).toNat }) ∧
  (∀ (s : State) (d : Nat), s.smbAnswers = true → s.pageDom = some d → ∀ c v,
    (c = .readIout ∧ v = some ((((s.acct d).pubI).getD 0 : Rat) / 1000)) ∨ (c = .readPout ∧ v = some ((((s.acct d).pubP).getD 0 : Rat) / 20000)) ∨
      (c = .readTemperature1 ∧ v = (s.hottest (domDiodes d)).map fun (x : Int) => (x : Rat) / 64) →
    ∀ x, v = some x → ∃ t, exec c s = .next t ∧ s.SmbOnly t { s.smb with reply := natBytes 2 (linear11 x).toNat }) ∧
  (∀ (s : State) (d : Nat), s.smbAnswers = true → s.pageDom = some d → s.hottest (domDiodes d) = none →
    ∃ t w, exec .readTemperature1 s = .next t ∧
      ({ s with freeCtr := s.freeCtr + 1 } : State).SmbOnly t { s.smb with reply := natBytes 2 w }) ∧
  (∀ (s : State) (d : Nat), s.smbAnswers = true → s.pageDom = some d → ∃ t, exec .readVout s = .next t ∧
    s.SmbOnly t { s.smb with reply := natBytes 2 (satU 16 (roundEven (((s.acct d).pubV).getD 0 * 4096 / 64000))) }) ∧
  (∀ (s : State), s.smbAnswers = true → ∀ c,
    (s.pageDom = none ∧ c = .readVout) ∨ (s.pageDom ≠ none ∧ (c = .readVin ∨ c = .readIin ∨ c = .readPin)) →
    ∃ t, exec c s = .next t ∧ s.SmbOnly t { s.smb with cml := orBit s.smb.cml 6, reply := [] }) ∧
  (∀ (s : State), s.smbAnswers = true → ∃ t, exec .mfrFault s = .next t ∧
    s.SmbOnly t { s.smb with reply := 16 :: wordsBytes ([0x1004, 0x1008, 0x100C, 0x1010].map s.readReg) }) ∧
  (∀ (s : State), s.smbAnswers = true → ∃ t, exec .mfrStart s = .next t ∧
    s.SmbOnly t { s.smb with reply := 8 :: wordsBytes ([0x280, 0x284].map s.readReg) }) ∧
  (∀ (x : Rat) (k : Nat), k < 13 → (linMant x (Int.ofNat k - 10)).natAbs ≤ 1023 → (∀ j, j < k → 1023 < (linMant x (Int.ofNat j - 10)).natAbs) →
    fld (BitVec.setWidth 32 (linear11 x)) 15 11 = ((Int.ofNat k - 10) % 32).toNat ∧
    fld (BitVec.setWidth 32 (linear11 x)) 10 0 = (linMant x (Int.ofNat k - 10) % 2048).toNat)

/-- The commands of R498 that act on the warden (R361, R451, R498, R500). -/
def Obligations.PmbusRestartVaultMailbox : Prop :=
  (∀ (s : State) (pec : Pec) (data : Byte), s.smbAnswers = true → pec ≠ .bad → (pec = .good ∧ data = 0xA5) → s.restartOk = true →
    ∃ t, exec (.mfrRestart pec data) s = .next t ∧ t.stopq.cleared = true ∧ t.stopq.thermTrip = false ∧ t.stopq.quietOk = false ∧
      t.start.restartWait = true ∧ t.start.step = (if s.start.pwrOk = true then .stagger else .waitPwr) ∧
      t.smb.restRej = s.smb.restRej ∧ t.warden.vault = (s.vaultPutWords (stopRecAddr s.stopq.slot + 0x44) [1]).warden.vault) ∧
  (∀ (s : State) (pec : Pec) (data : Byte), s.smbAnswers = true → pec ≠ .bad → (pec = .good ∧ data = 0xA5) → s.restartOk = false →
    ∃ t, exec (.mfrRestart pec data) s = .next t ∧ s.SmbOnly t { s.smb with restRej := true }) ∧
  (∀ (s : State) (pec : Pec) (data : Byte), s.smbAnswers = true → pec ≠ .bad → (pec ≠ .good ∨ data ≠ 0xA5) →
    ∃ t, exec (.mfrRestart pec data) s = .next t ∧ s.SmbOnly t { s.smb with cml := orBit s.smb.cml 6 }) ∧
  (∀ (s : State) (pec : Pec), s.smbAnswers = true → ∃ t, exec (.mfrErrn pec none) s = .next t ∧
    s.SmbOnly t { s.smb with reply := [BitVec.ofNat 8 (fld s.flt.ctrl 31 31 + if s.flt.errn = true then 2 else 0)] }) ∧
  (∀ (s : State) (v : Byte), s.smbAnswers = true → ∃ t, exec (.mfrErrn .good (some v)) s = .next t ∧
    t.errnHold = (v.toNat % 2 == 1) ∧ t.flt.errn = (s.flt.errnPulse || s.flt.errnStop || (s.flt.errn && (v.toNat % 2 == 1))) ∧
    t.cells = s.cells ∧ t.doms = s.doms ∧ t.warden = s.warden) ∧
  (∀ (s : State), s.smbAnswers = true → s.smb.vaultAddr + 32 ≤ 0x40000 → ∃ t, exec .mfrVaultData s = .next t ∧
    s.SmbOnly t { s.smb with
      vaultAddr := s.smb.vaultAddr + 32
      reply := 32 :: Memory.readBytes s.warden.vault s.smb.vaultAddr 32 }) ∧
  (∀ (s : State) (pec : Pec) (op tag : BitVec 8) (args : List Word) (data : Option (List Word)), s.smbAnswers = true → pec ≠ .bad →
    wbit s.win.gctrl 0 = false →
    ∃ t, exec (.mfrMboxCmd pec op tag args data) s = .next t ∧ s.SmbOnly t { s.smb with cml := orBit s.smb.cml 7 }) ∧
  (∀ (s : State) (pec : Pec) (op tag : BitVec 8) (args : List Word) (data : Option (List Word)), s.smbAnswers = true → pec ≠ .bad →
    wbit s.win.gctrl 0 = true → args.length = 4 → (∀ l, data = some l → l.length = 16) → s.warden.mboxP.busy = true →
    ∃ t, exec (.mfrMboxCmd pec op tag args data) s = .next t ∧ s.SmbOnly t s.smb) ∧
  (∀ (s : State) (pec : Pec) (op tag : BitVec 8) (args : List Word) (data : Option (List Word)), s.smbAnswers = true → pec ≠ .bad →
    wbit s.win.gctrl 0 = true → args.length = 4 → (∀ l, data = some l → l.length = 16) → s.warden.mboxP.busy = false → op = 4 ∨ op = 9 →
    ∃ t, exec (.mfrMboxCmd pec op tag args data) s = .next t ∧ s.SmbOnly { t with warden := s.warden } s.smb ∧
      t.warden.mboxP.busy = true ∧ t.warden.mboxP.op = op.toNat ∧ t.warden.mboxP.cmdTag = tag.toNat ∧ t.warden.mboxP.tag = tag.toNat ∧
      t.warden.mboxP.args = asTab args) ∧
  (∀ (s : State), s.smbAnswers = true → ∃ t, exec .mfrMboxStat s = .next t ∧
    s.SmbOnly t { s.smb with reply := 84 :: (
      [BitVec.ofNat 8 ((if s.warden.mboxP.busy = true then 128 else 0) + if s.warden.mboxP.done = true then 64 else 0),
        BitVec.ofNat 8 s.warden.mboxP.status, BitVec.ofNat 8 s.warden.mboxP.tag, 0] ++
      wordsBytes ((List.range 4).map (s.warden.mboxP.res.get 0)) ++ wordsBytes ((List.range 16).map (s.warden.mboxP.data.get 0))) }) ∧
  (∀ (s : State), s.smbAnswers = true → wbit s.win.gctrl 1 = true → ∃ t, exec .mfrRegData s = .next t ∧
    s.SmbOnly t (match s.regServed s.smb.regAddr with
      | some true => { s.smb with reply := 4 :: wordBytes (if assigned s.smb.regAddr = true then s.wakeWarden.readReg s.smb.regAddr else 0) }
      | some false => { s.smb with noClk := true, reply := [4, 0xFF, 0xFF, 0xFF, 0xFF] }
      | none => { s.smb with cml := orBit s.smb.cml 6, reply := [] })) ∧
  (∀ (s : State) (off : Nat), s.regServed off =
    if off % 4 ≠ 0 ∨ 0x1900 ≤ off then none else if 0x100 ≤ off ∧ off < 0x200 then some s.ringsOn
    else if 0x400 ≤ off ∧ off < 0x1700 then some s.fastUp else some true)

/-- The AVSBus masters (R502, R504, R505, R508). -/
def Obligations.AvsLinks : Prop :=
  (∀ (s : State), s.traysUp = true → ∃ t, exec .avsTrimWrite s = .next t ∧ t = { s with avs := t.avs, smb := t.smb } ∧
    t.avs.trim = min 1860 (fld s.avs.ctrl 27 16 + if s.avs.boost = true then fld s.ledger.hintCfg 31 26 else 0) ∧
    t.avs.sent = ([3, 2, 1, 0].map fun k => (k, AvsOp.writeTrim t.avs.trim)) ++ s.avs.sent ∧
    (∀ k, k < 4 → (t.link k).ops = (s.link k).ops.take 1 ++ [AvsOp.writeTrim t.avs.trim] ++ (s.link k).ops.drop 1)) ∧
  (∀ (s : State) (k : ConvIx) (w : BitVec 16) (alert : Bool), s.traysUp = true → ∀ c op vi ts,
    (c = .avsVoltageRead k w alert ∧ op = AvsOp.readVolt ∧ vi = putFld (s.link k).vi 31 16 w.toNat ∧ ts = (s.link k).ts) ∨
      (c = .avsCurrentRead k w alert ∧ op = AvsOp.readCur ∧ vi = putFld (s.link k).vi 15 0 w.toNat ∧ ts = (s.link k).ts) ∨
      (c = .avsTempRead k w alert ∧ op = AvsOp.readTemp ∧ vi = (s.link k).vi ∧ ts = putFld (s.link k).ts 31 16 w.toNat) ∨
      (c = .avsStatusRead k w alert ∧ op = AvsOp.readStatus ∧ vi = (s.link k).vi ∧ ts = putFld (s.link k).ts 15 0 w.toNat) →
    ∃ t, exec c s = .next t ∧ t = { s with avs := t.avs, limits := t.limits, smb := t.smb } ∧
      t.link k = { (s.link k) with
        vi := vi, ts := ts, fails := 0, alert := alert
        ops := opsAfter op (s.link k).ops ++ if alert = true then [AvsOp.readStatus] else [] } ∧
      (∀ j, j ≠ k.val → t.link j = s.link j) ∧
      t.avs.sent = (if alert = true then [(k.val, AvsOp.readStatus)] else []) ++ s.avs.sent ∧
      t.limits = (if op = AvsOp.readCur then { s.limits with ioutRd := s.limits.ioutRd.set k w.toNat } else s.limits)) ∧
  (∀ (s : State) (k : ConvIx), s.traysUp = true → (s.link k).fails < 2 →
    ∃ t, exec (.avsTransactionFail k) s = .next t ∧ t = { s with avs := t.avs, smb := t.smb } ∧
      t.link k = { (s.link k) with fails := (s.link k).fails + 1 } ∧ (∀ j, j ≠ k.val → t.link j = s.link j)) ∧
  (∀ (s : State) (k : ConvIx), s.traysUp = true → 2 ≤ (s.link k).fails →
    ∃ (t u : State), exec (.avsTransactionFail k) s = .next t ∧ t = closing s (u.raise 34 k) ∧
      u = { s with avs := u.avs, limits := u.limits } ∧
      u.link k = { (s.link k) with ops := (s.link k).ops.drop 1, fails := 0, err := true } ∧
      (∀ j, j ≠ k.val → u.link j = s.link j) ∧
      u.limits = (if (s.link k).ops.head? = some .readCur then { s.limits with kBad := true } else s.limits)) ∧
  (∀ (s : State) (k : ConvIx), s.traysUp = true → 0 < (s.link k).fails →
    ∃ t, exec (.avsRetry k) s = .next t ∧ t = { s with avs := t.avs, smb := t.smb } ∧
      t.avs.retry = (if s.avs.retry < 255 then s.avs.retry + 1 else 255) ∧ t.avs.links = s.avs.links ∧
      t.avs.sent = ((s.link k).ops.head?.toList.map fun op => (k.val, op)) ++ s.avs.sent)

/-- Test-port instructions and the clock of the warden (R37, R502, R514, R548, R551). -/
def Obligations.TestPortAndWardenClock : Prop :=
  (∀ (s : State), s.start.aon = true → s.tapHeld = false →
    ∀ c ir, (c = .clamp ∧ ir = TapIr.clamp) ∨ (c = .highz ∧ ir = TapIr.highz) → s.tapAllowed = true →
    ∃ t, exec c s = .next t ∧ t = { s with tap := { s.tap with ir := ir, dr := 0 }, smb := t.smb }) ∧
  (∀ (s : State), s.start.aon = true → s.tapHeld = false → s.tapAllowed = true →
    ∃ t, exec .extest s = .next t ∧ t.tap.ir = .extest ∧ t.tap.bnd = s.tap.bnd ∧ t = { s with tap := t.tap, smb := t.smb, freeCtr := t.freeCtr } ∧
      bitAt t.tap.dr 0 = bitAt s.tap.bnd.toNat 0 ∧ bitAt t.tap.dr 2 = bitAt s.tap.bnd.toNat 2 ∧ bitAt t.tap.dr 4 = bitAt s.tap.bnd.toNat 4 ∧
      bitAt t.tap.dr 10 = s.start.flowOk ∧ bitAt t.tap.dr 11 = s.start.pwrOk) ∧
  (∀ (s : State), s.start.aon = true → s.tapHeld = false →
    ∃ t, exec .samplePreload s = .next t ∧ t.tap.ir = .sample ∧ t = { s with tap := t.tap, smb := t.smb, freeCtr := t.freeCtr } ∧
      bitAt t.tap.dr 0 = s.stopq.thermTrip ∧ bitAt t.tap.dr 2 = s.flt.errn ∧ bitAt t.tap.dr 4 = s.smb.alert ∧
      bitAt t.tap.dr 10 = s.start.flowOk ∧ bitAt t.tap.dr 11 = s.start.pwrOk) ∧
  (∀ (s : State), s.start.aon = true → s.tapHeld = false → s.otp.ftLocked = false → s.tapAllowed = true →
    ∃ t, exec .ftAccess s = .next t ∧ t.tap.ir = .ftAccess ∧ t = { s with tap := t.tap, smb := t.smb, freeCtr := t.freeCtr }) ∧
  (∀ (s : State), s.start.aon = true → s.tapHeld = false → ∀ c,
    c = .bypass ∨ (s.otp.ftLocked = true ∧ c = .ftAccess) ∨ (s.tapAllowed = false ∧ (c = .extest ∨ c = .clamp ∨ c = .highz ∨ c = .ftAccess)) →
    ∃ t, exec c s = .next t ∧ t = { s with tap := { s.tap with ir := .bypass, dr := 0 }, smb := t.smb }) ∧
  (∀ (s : State), s.start.aon = true → s.tapHeld = true → s.start.step ≠ .reconcile →
    ∃ t, exec .tapLeave s = .next t ∧ t = { s with tap := { s.tap with ir := .bypass, dr := 0 }, smb := t.smb }) ∧
  (∀ (s : State), s.tapAllowed =
    ([Step_.waitPwr, .stagger, .aonUp, .wardenBoot, .reconcile, .waitRestart, .stopped].contains s.start.step)) ∧
  (∀ (s : State), ∃ t, exec .wardenWake s = .next t ∧ t = { s with clk := t.clk } ∧
    (s.start.aon = true → s.start.step ≠ .waitPwr → s.start.step ≠ .stagger → t.clk = { s.clk with warden := true })) ∧
  (∀ (s : State), s.start.aon = true → s.stopped = true → s.clk.lock = false → s.wardenIdle = true →
    exec .wardenSleep s = .next { s with clk := { s.clk with warden := false } }) ∧
  (∀ (s : State), s.clk.lock = true ∨ s.stopped = false ∨ s.warden.jobs ≠ [] → exec .wardenSleep s = .next s) ∧
  (∀ (s : State), s.traysUp = true → s.stopped = true → s.clk.lock = false →
    ∃ t, exec .wardenAlarm s = .next t ∧ t = { s with clk := s.wakeWarden.clk, avs := t.avs, smb := t.smb } ∧
      t.avs.sent = ([3, 2, 1, 0].flatMap fun k => [(k, AvsOp.readStatus), (k, AvsOp.readTemp), (k, AvsOp.readVolt)]) ++ s.avs.sent) ∧
  (∀ (s : State), s.clk.lock = true ∨ s.stopped = false → exec .wardenAlarm s = .next s)

/-- The requests of R446 that are applied. -/
def Obligations.PolicyRequestsApplied : Prop :=
  (∀ (s : State) (r : EbsisReq), s.EbsisReady → s.start.ready = true → s.stopq.active = false → r.word3 = 0 →
    s.perm 7 = true → r.value2 = 0 → r.target.toNat < 48 → r.target.toNat ≠ 45 → r.target.toNat ≠ 46 → r.value.toNat < 4096 →
    (s.dom r.target.toNat).st = .run → (r.target.toNat < 32 → s.limits.fixed = false) →
    ∃ t a, exec (.setVset r) s = .next t ∧ t.Waits (.vset r.target.toNat) (BitVec.ofNat 32 a) ∧
      t.Replied 1 r (if a = r.value.toNat then 0 else 1) (a % 2 ^ 32) s.nextEpoch ∧
      a = max (max (s.vMin r.target.toNat) (s.hostVset r.target.toNat - 4 * fld s.policy.env 23 16))
        (min (min (s.hostVset r.target.toNat + 4 * fld s.policy.env 31 24) (vRange r.target.toNat).2) r.value.toNat)) ∧
  (∀ (s : State) (r : EbsisReq), s.EbsisReady → s.start.ready = true → s.stopq.active = false → r.word3 = 0 →
    s.perm 6 = true → r.value2 = 0 → r.target = 0 → s.trapOpen = false →
    ∃ t a, exec (.setTreas r) s = .next t ∧ t.Waits .polTreas (BitVec.ofNat 32 a) ∧
      t.Replied 2 r (if a = r.value.toNat then 0 else 1) a s.nextEpoch ∧
      a = (if r.value = 0 then 0 else max 50000 (min s.ledger.treasury.toNat r.value.toNat))) ∧
  (∀ (s : State) (r : EbsisReq), s.EbsisReady → s.start.ready = true → s.stopq.active = false → r.word3 = 0 →
    s.perm 5 = true → r.target.toNat < 16 → r.value.toNat < 256 → r.value2.toNat < 65536 →
    ∃ t, exec (.setClass r) s = .next t ∧
      t.Waits (.reg (0x420 + 4 * r.target.toNat)) (pack [(31, 24, r.value.toNat), (15, 0, min r.value2.toNat s.otp.pTileMax)]) ∧
      t.Replied 3 r (if r.value2.toNat ≤ s.otp.pTileMax then 0 else 1) r.value.toNat s.nextEpoch) ∧
  (∀ (s : State) (r : EbsisReq), s.EbsisReady → s.start.ready = true → s.stopq.active = false → r.word3 = 0 →
    s.perm 4 = true → r.target.toNat < 32 → r.value.toNat < 2 ^ 20 → r.value2 = 0 → s.trapOpen = false →
    ∃ t a, exec (.setCap r) s = .next t ∧ t.Waits (.reg (0x460 + 4 * r.target.toNat)) (pack [(19, 0, a)]) ∧
      t.Replied 4 r (if a = r.value.toNat then 0 else 1) (a % 2 ^ 32) s.nextEpoch ∧
      a = (if s.policy.hostLim.get 0 (16 + r.target.toNat) = 0 then r.value.toNat
        else if r.value = 0 then s.policy.hostLim.get 0 (16 + r.target.toNat) else min r.value.toNat (s.policy.hostLim.get 0 (16 + r.target.toNat)))) ∧
  (∀ (s : State) (r : EbsisReq) (off hi lo : Nat), s.EbsisReady → s.start.ready = true → s.stopq.active = false → r.word3 = 0 →
    s.perm 2 = true → r.value2 = 0 → s.trapOpen = false → limitField r.target.toNat = some (off, hi, lo) → s.hostLimit r.target.toNat ≠ 0 →
    ∃ t a, exec (.setLimit r) s = .next t ∧ t.Waits (.reg off) (putFld (s.regNext off) hi lo (a % 2 ^ 32)) ∧
      t.Replied 7 r (if a = r.value.toNat then 0 else 1) (a % 2 ^ 32) s.nextEpoch ∧
      a = max (if r.target.toNat = 5 ∨ r.target.toNat = 6 then 1 else 100) (min (s.hostLimit r.target.toNat) r.value.toNat) ∧
      ((r.target.toNat, a) ∈ t.policy.lowered ↔ a ≠ s.hostLimit r.target.toNat)) ∧
  (∀ (s : State) (r : EbsisReq), s.EbsisReady → s.start.ready = true → s.stopq.active = false → r.word3 = 0 →
    s.perm 3 = true → r.value = 0 → r.value2 = 0 → r.target.toNat < 2304 → s.loanCheck r.target.toNat none = stOk →
    ∃ t, exec (.loan r) s = .next t ∧ t.chains = (s.loanAccept r.target.toNat false false .warden).chains ∧
      t.Replied 5 r 0 0 s.nextEpoch) ∧
  (∀ (s : State) (r : EbsisReq), s.EbsisReady → s.start.ready = true → s.stopq.active = false → r.word3 = 0 →
    s.perm 3 = true → r.value = 0 → r.value2 = 0 → r.target.toNat < 2304 → s.recallCheck r.target.toNat = stOk →
    ∃ t, exec (.recalling r) s = .next t ∧ t.chains = (s.loanAccept r.target.toNat true false .warden).chains ∧
      t.Replied 6 r 0 0 s.nextEpoch) ∧
  (∀ (s : State) (r : EbsisReq), s.EbsisReady → s.start.ready = true → s.stopq.active = false → r.word3 = 0 →
    s.perm 1 = true → r.value2 = 0 → vtStageOk r.target.toNat r.value = true →
    ∃ t e, exec (.age r) s = .next t ∧ t.warden.vtStaged = s.warden.vtStaged.set r.target.toNat r.value ∧
      t.warden.vault = s.warden.vault ∧ t.warden.vtUse = s.warden.vtUse ∧ t.Replied 8 r 0 r.value.toNat e) ∧
  (∀ (s : State) (r : EbsisReq), s.EbsisReady → r.word3 = 0 → r.target = 0 → r.value = 0 → r.value2 = 0 →
    ∃ t e, exec (.heartbeat r) s = .next t ∧ t.Replied 9 r 0 0 e ∧ t.ledger = s.ledger ∧ t.warden = s.warden ∧ t.chains = s.chains)

/-- Refusals and faults of the policy core (R446, R448 to R450). -/
def Obligations.PolicyRefusalsAndFaults : Prop :=
  (∀ (s : State) (r : EbsisReq), s.EbsisReady → ∀ c kind permBit (form : Bool),
    (c = .setTreas r ∧ kind = 2 ∧ permBit = 6 ∧ form = (r.target == 0 && r.value2 == 0)) ∨
      (c = .setClass r ∧ kind = 3 ∧ permBit = 5 ∧ form = (decide (r.target.toNat < 16) && decide (r.value.toNat < 256) && decide (r.value2.toNat < 65536))) ∨
      (c = .setCap r ∧ kind = 4 ∧ permBit = 4 ∧ form = (decide (r.target.toNat < 32) && decide (r.value.toNat < 2 ^ 20) && r.value2 == 0)) ∨
      (c = .loan r ∧ kind = 5 ∧ permBit = 3 ∧ form = (decide (r.target.toNat < 2304) && r.value == 0 && r.value2 == 0)) ∨
      (c = .recalling r ∧ kind = 6 ∧ permBit = 3 ∧ form = (decide (r.target.toNat < 2304) && r.value == 0 && r.value2 == 0)) ∨
      (c = .setLimit r ∧ kind = 7 ∧ permBit = 2 ∧ form = (decide (r.target.toNat < 8) && r.value2 == 0)) →
    ∀ st, (st = 6 ∧ (form = false ∨ r.word3 ≠ 0)) ∨ (st = 2 ∧ form = true ∧ r.word3 = 0 ∧ s.perm permBit = false) ∨
      (st = 3 ∧ form = true ∧ r.word3 = 0 ∧ s.perm permBit = true ∧ (s.stopq.active = true ∨ s.start.ready = false)) →
    ∃ t v e, exec c s = .next t ∧ t.Replied kind r st v e ∧ t.ledger = s.ledger ∧ t.chains = s.chains ∧ t.warden = s.warden ∧
      t.policy.refuseCnt = (if s.policy.refuseCnt < 255 then s.policy.refuseCnt + 1 else 255)) ∧
  (∀ (s : State) (kind : BitVec 8) (r : EbsisReq), s.EbsisReady → kind = 0 ∨ 9 < kind.toNat →
    ∃ t v e, exec (.unknownKind kind r) s = .next t ∧ t.Replied kind.toNat r 6 v e ∧ t.ledger = s.ledger ∧ t.chains = s.chains ∧ t.warden = s.warden) ∧
  (∀ (s : State) (r : EbsisReq), s.policyUp = true → s.clk.fsReset = true → ∀ c kind,
    (c = .setVset r ∧ kind = 1) ∨ (c = .setTreas r ∧ kind = 2) ∨ (c = .setClass r ∧ kind = 3) ∨ (c = .setCap r ∧ kind = 4) ∨ (c = .loan r ∧ kind = 5) ∨
      (c = .recalling r ∧ kind = 6) ∨ (c = .setLimit r ∧ kind = 7) →
    ∃ t, exec c s = .next t ∧ t.policy = { s.policy with held := s.policy.held ++ [(kind, r)] } ∧ t.ledger = s.ledger ∧ t.chains = s.chains) ∧
  (∀ (s : State), s.policyUp = true → s.Soft 41 → ∀ c, c = .policyWatchdog ∨ c = .policyTrap ∨ (s.stopped = false ∧ ∃ obj, c = .faultRaise 41 obj) →
    ∀ l, l = (s.policy.faults.filter fun x => decide (s.clk.watch < x + 4000000)) ++ [s.clk.watch] → l.length < 3 →
    ∃ t, exec c s = .next t ∧ t.policy = { s.policy with
        faultCnt := if s.policy.faultCnt < 255 then s.policy.faultCnt + 1 else 255
        faults := l } ∧
      t.flt.raised.get 0 41 = (if s.flt.raised.get 0 41 < 65535 then s.flt.raised.get 0 41 + 1 else 65535) ∧ t.cells = s.cells ∧ t.doms = s.doms ∧
      t.ledger = s.ledger) ∧
  (∀ (s : State), s.policyUp = true → s.Soft 41 → ∀ c, c = .policyWatchdog ∨ c = .policyTrap ∨ (s.stopped = false ∧ ∃ obj, c = .faultRaise 41 obj) →
    3 ≤ ((s.policy.faults.filter fun x => decide (s.clk.watch < x + 4000000)) ++ [s.clk.watch]).length →
    ∃ t, exec c s = .next t ∧ t.policy.st = .failed ∧ t.policy.lowered = [] ∧ t.policy.held = [] ∧ t.Waits .polTreas 0 ∧
      t.flt.raised.get 0 41 = (if s.flt.raised.get 0 41 < 65535 then s.flt.raised.get 0 41 + 1 else 65535) ∧ t.cells = s.cells ∧ t.doms = s.doms) ∧
  (∀ (s : State), s.policyUp = false → exec .policyWatchdog s = .next s ∧ exec .policyTrap s = .next s)

/-- The commands of the fault collector (R405, R411, R418, R423, R424). -/
def Obligations.FaultCollector : Prop :=
  (∀ (s : State) (src : SrcIx) (obj : BitVec 16), s.start.aon = true → s.stopped = false → s.Soft src → src.val ≠ 44 →
    (decide (src.val ≤ 8) && s.isPending 13) = false →
    (src.val = 41 → s.policy.st ≠ .running ∨ (s.policy.faults.filter fun x => decide (s.clk.watch < x + 4000000)).length < 2) →
    ∃ t, exec (.faultRaise src obj) s = .next t ∧ t.isPending src = true ∧
      t.flt.raised.get 0 src = (if s.flt.raised.get 0 src < 65535 then s.flt.raised.get 0 src + 1 else 65535) ∧
      t.cells = s.cells ∧ t.doms = s.doms ∧ t.ledger = s.ledger ∧ t.stopq = s.stopq) ∧
  (∀ (s : State) (src : SrcIx) (obj : BitVec 16), s.WindowReady → s.otp.ftLocked = false → s.Soft src → src.val ≠ 44 →
    (decide (src.val ≤ 8) && s.isPending 13) = false →
    ∃ t, exec (.faultInject src obj) s = .next t ∧ t.isPending src = true ∧
      t.flt.raised.get 0 src = (if s.flt.raised.get 0 src < 65535 then s.flt.raised.get 0 src + 1 else 65535) ∧
      t.win.ftInj = BitVec.ofNat 32 (src.val * 65536 + obj.toNat) ∧ t.cells = s.cells ∧ t.doms = s.doms ∧ t.ledger = s.ledger) ∧
  (∀ (s : State) (src : SrcIx) (obj : BitVec 16), s.WindowReady → s.otp.ftLocked = true →
    ∃ t, exec (.faultInject src obj) s = .next t ∧ t = { s with win := t.win, smb := t.smb } ∧ t.win.code = 3 ∧ t.win.wr = true ∧
      t.win.addr = 0x8040 ∧ t.win.ftInj = s.win.ftInj) ∧
  (∀ (s : State), ∃ t, exec .errnPulseEnd s = .next t ∧ t = { s with flt := t.flt, smb := t.smb } ∧
    t.flt = { s.flt with errnPulse := false, errn := s.flt.errnStop || (s.flt.errn && wbit s.flt.ctrl 31) }) ∧
  (∀ (s : State) (late : Bool) (c : Instr), (c = .incidentClose ∧ late = false ∧ s.incidentDone = true) ∨
      (c = .incidentOverrun ∧ late = true ∧ s.flt.inc.open_ = true) →
    ∃ t, exec c s = .next t ∧ t.flt.st = .recovering ∧ t.flt.quiet = some s.clk.watch ∧ t.flt.inc.open_ = false ∧
      t.flt.inc.overrun = late ∧ t.flt.inc.seq = s.flt.inc.seq ∧ t.flt.pend = s.flt.pend ∧ t.cells = s.cells ∧ t.doms = s.doms ∧ t.ledger = s.ledger) ∧
  (∀ (s : State), s.incidentDone = false → exec .incidentClose s = .next s) ∧
  (∀ (s : State), s.flt.st = .recovering → s.flt.quiet.isSome = true → s.rings.eventOut.length < 64 →
    ∃ t, exec .faultQuietEnd s = .next t ∧ t.flt.st = .normal ∧ t.flt.quiet = none ∧
      t.flt.recovCnt = (if s.flt.recovCnt < 65535 then s.flt.recovCnt + 1 else 65535) ∧
      t.rings.eventOut = s.rings.eventOut ++ [{ evRecover t.flt.recovCnt s.flt.inc.seq with epoch := s.ledger.epoch, eseq := s.rings.eseq }] ∧
      t.cells = s.cells ∧ t.doms = s.doms ∧ t.ledger = s.ledger) ∧
  (∀ (s : State), s.flt.clrBusy = true →
    ∃ t, exec .fltCntClear s = .next t ∧ t.flt = { s.flt with raised := [], trans := [], lasting := [], clrBusy := false } ∧
      t.cells = s.cells ∧ t.doms = s.doms ∧ t.ledger = s.ledger ∧ t.rings = s.rings)

/-- Hints, counter records and the ends of hints, boosts and freezes (R39, R40, R249, R254, R259, R272, R275). -/
def Obligations.HintsAndRecords : Prop :=
  (∀ (s : State) (i : TileIx) (w : BitVec 64) (last : Bool), s.fastRuns = true → (s.tile i).held = none →
    ∃ t, exec (.hintWord i w last) s = .next t ∧ t = { s with tiles := t.tiles, smb := t.smb } ∧
      t.tile i = (if (s.tile i).dropping = true then { s.tile i with dropping := !last }
        else if 8 ≤ (s.tile i).fifo.length then { s.tile i with held := some (w, last) }
        else { s.tile i with fifo := (s.tile i).fifo ++ [(w, last)] }) ∧
      ∀ j, j ≠ i.val → t.tile j = s.tile j) ∧
  (∀ (s : State) (i : TileIx) (w : BitVec 64) (last : Bool), (s.tile i).held ≠ none → exec (.hintWord i w last) s = .next s) ∧
  (∀ (s : State) (i : TileIx) (w : BitVec 64) (last : Bool), s.fastRuns = true → (s.tile i).held = some (w, last) →
    (s.tile i).fifo.length < 8 → (s.tile i).dropping = false →
    ∃ t, exec (.hintPortRoom i) s = .next t ∧ t = { s with tiles := t.tiles, smb := t.smb } ∧
      t.tile i = { s.tile i with held := none, fifo := (s.tile i).fifo ++ [(w, last)] } ∧ ∀ j, j ≠ i.val → t.tile j = s.tile j) ∧
  (∀ (s : State) (i : TileIx) (r : BitVec 512), s.fastRuns = true → s.ledger.recCut = false → (s.tile i).unpowered = false →
    ∃ t, exec (.counterRecord i r) s = .next t ∧ t = { s with tiles := t.tiles, smb := t.smb } ∧
      t.tile i = { s.tile i with arrived := some r } ∧ ∀ j, j ≠ i.val → t.tile j = s.tile j) ∧
  (∀ (s : State) (i : TileIx) (r : BitVec 512), s.ledger.recCut = true ∨ (s.tile i).unpowered = true → exec (.counterRecord i r) s = .next s) ∧
  (∀ (s : State), s.fastRuns = true → s.ledger.recCut = false → s.ledger.running = true →
    ∃ t, exec .lateRecordCutoff s = .next t ∧ t.ledger.recCut = true ∧ t.pace.latched = s.pace.entries ∧
      (∀ i, i < 1024 → t.tile i = s.estimate i) ∧ t.cells = s.cells ∧ t.doms = s.doms ∧ t.accts = s.accts) ∧
  (∀ (s : State) (i : Nat), (s.tile i).unpowered = false → (s.tile i).arrived = none →
    (s.estimate i).lastRec = (s.tile i).lastRec ∧ (s.estimate i).lateNew = true ∧
      (s.estimate i).lateRun = (if (s.tile i).lateRun < 65535 then (s.tile i).lateRun + 1 else 65535)) ∧
  (∀ (s : State) (i : Nat) (r : BitVec 512), (s.tile i).unpowered = false → (s.tile i).arrived = some r →
    (s.estimate i).lastRec = r ∧ (s.estimate i).lateNew = false ∧ (s.estimate i).lateRun = 0 ∧ (s.estimate i).silent = false ∧
      (s.estimate i).pNew = (if recSaturated r = true then s.otp.pTileMax else min (s.pDyn r + s.pStat i) s.otp.pTileMax)) ∧
  (∀ (s : State) (i : TileIx), s.fastRuns = true → 16 ≤ (s.tile i).lateRun → (s.tile i).silent = false → s.Soft 25 →
    ∃ t, exec (.tileSilent i) s = .next t ∧ t.isPending 25 = true ∧ (t.tile i).silent = true ∧ t.cells = s.cells ∧ t.doms = s.doms) ∧
  (∀ (s : State) (d : DomIx), s.fastRuns = true → 16 ≤ (s.acct d).clampRun → (s.acct d).resRaised = false → s.Soft 26 →
    ∃ t, exec (.estResid d) s = .next t ∧ t.isPending 26 = true ∧ (t.acct d).resRaised = true ∧ t.cells = s.cells ∧ t.doms = s.doms) ∧
  (∀ (s : State) (i : TileIx) (h : Hint), s.fastRuns = true → (s.tile i).hint = some h → h.expired = true → s.rings.eventOut.length < 64 →
    ∃ t, exec (.hintExpired i) s = .next t ∧ (t.tile i).hint = none ∧
      t.ledger = { s.ledger with expired := if s.ledger.expired < 255 then s.ledger.expired + 1 else 255 } ∧
      t.rings.eventOut = s.rings.eventOut ++ [{ evHintExpired i h.tag h.s with epoch := s.ledger.epoch, eseq := s.rings.eseq }] ∧
      t.cells = s.cells ∧ t.doms = s.doms) ∧
  (∀ (s : State) (i : TileIx) (h : Hint), s.fastRuns = true → (s.tile i).hint = some h → h.st = .ended → h.expired = false →
    ∃ t, exec (.hintEnd i) s = .next t ∧ t = { s with tiles := t.tiles, smb := t.smb } ∧ t.tile i = { s.tile i with hint := none } ∧
      ∀ j, j ≠ i.val → t.tile j = s.tile j) ∧
  (∀ (s : State), s.fastRuns = true → s.ledger.vinBoost = true → s.ledger.boostEnd = some 0 →
    ∃ t, exec .vinBoostEnd s = .next t ∧ t.avsB = 0 ∧
      t = { s with ledger := { s.ledger with vinBoost := false, boostEnd := none }, avs := { s.avs with boost := false }, smb := t.smb }) ∧
  (∀ (s : State), s.fastRuns = true → s.ledger.frozen = true → 512 ≤ s.ledger.freezeN →
    ∃ t, exec .freezeTimeout s = .next t ∧
      t = { s with ledger := { s.ledger with frozen := false, freezeTo := true, views := [], viewRecs := [] }, smb := t.smb }) ∧
  (∀ (s : State), s.ledger.frozen = false ∨ s.ledger.freezeN < 512 → exec .freezeTimeout s = .next s)

/-- What the frames of the pace ring do at the chip they reach (R313 to R316, R319, R321, R326, R328). -/
def Obligations.PaceFrames : Prop :=
  (∀ (s : State) (serial : BitVec 48), s.paceTakesPart = true →
    ∃ t p, exec (.survey serial) s = .next t ∧ t = { s with pace := t.pace, smb := t.smb } ∧
      p = (if s.pace.st = .discovering ∧ s.pace.sentSurvey = true then s.pace
        else { s.pace with
          st := .discovering
          leader := false
          sentSurvey := true
          pos := 0
          size := 0
          entries := carryLargest s.pace.entries
          tx := .survey s.serial :: s.pace.tx }) ∧
      t.pace = (if serial.toNat = s.serial then { p with leader := true, pos := 0, tx := .count 1 :: p.tx }
        else if serial.toNat < s.serial then { p with tx := .survey serial.toNat :: p.tx } else p)) ∧
  (∀ (s : State) (n : BitVec 7), s.paceTakesPart = true → s.pace.st = .discovering →
    (s.pace.leader = true → 1 ≤ n.toNat → n.toNat ≤ 64 → ∃ t, exec (.count n) s = .next t ∧
      t = { s with pace := { s.pace with size := n.toNat, tx := .size n.toNat :: s.pace.tx }, smb := t.smb }) ∧
    (s.pace.leader = false → 1 ≤ n.toNat → n.toNat ≤ 63 → ∃ t, exec (.count n) s = .next t ∧
      t = { s with pace := { s.pace with pos := n.toNat, tx := .count (n.toNat + 1) :: s.pace.tx }, smb := t.smb })) ∧
  (∀ (s : State) (n : BitVec 7), s.paceTakesPart = true → s.pace.st = .discovering → s.rings.eventOut.length < 64 →
    (s.pace.leader = true ∨ (1 ≤ n.toNat ∧ n.toNat ≤ 64)) → ∃ t z, exec (.size n) s = .next t ∧
      z = (if s.pace.leader = true then s.pace.size else n.toNat) ∧
      t.rings.eventOut = s.rings.eventOut ++ [{ evPace 1 0 0 false false (s.pace.pos + z * 2 ^ 8) with
        epoch := s.ledger.epoch, eseq := s.rings.eseq }] ∧
      t = { s with rings := t.rings, smb := t.smb, pace := { s.pace with
        st := .up
        size := z
        liveAge := 0
        entries := s.pace.entries.filter (·.carried)
        resend := s.pace.bcast.isSome || s.pace.relay.isSome
        tx := if s.pace.leader = true then s.pace.tx else .size n.toNat :: s.pace.tx } }) ∧
  (∀ (s : State) (o : BitVec 6) (r : Bool) (g : BitVec 8) (q : BitVec 6) (seq : BitVec 8), s.pace.st = .up → s.pace.pos = o.toNat →
    exec (.live o) s = .next s ∧ exec (.quota o r g q seq) s = .next s ∧ exec (.release o r g seq) s = .next s ∧
      exec (.leave o g) s = .next s) ∧
  (∀ (s : State) (o : BitVec 6) (r : Bool) (g : BitVec 8) (q : BitVec 6) (seq : BitVec 8), s.paceTakesPart = true → s.pace.st = .up →
    s.pace.pos ≠ o.toNat → s.paceGroup = g.toNat → g ≠ 0 →
    (∃ t, exec (.live o) s = .next t ∧ t = { s with pace := { s.pace with tx := .live o.toNat :: s.pace.tx }, smb := t.smb }) ∧
    (q ≠ 0 → ∃ t, exec (.quota o r g q seq) s = .next t ∧ t = { s with smb := t.smb, pace := { s.pace with
      entries := takeQuota s.pace.entries o.toNat r q.toNat seq.toNat
      tx := .quota o.toNat r g.toNat q.toNat seq.toNat :: s.pace.tx } }) ∧
    (∃ t, exec (.release o r g seq) s = .next t ∧ t = { s with smb := t.smb, pace := { s.pace with
      entries := s.pace.entries.filter fun e => !(e.is o.toNat r && e.seq == seq.toNat)
      tx := .release o.toNat r g.toNat seq.toNat :: s.pace.tx } }) ∧
    (s.rings.eventOut.length < 64 → ∃ t, exec (.leave o g) s = .next t ∧
      t.rings.eventOut = s.rings.eventOut ++ [{ evPace 5 o.toNat 0 false false with epoch := s.ledger.epoch, eseq := s.rings.eseq }] ∧
      t = { s with rings := t.rings, smb := t.smb, pace := { s.pace with
        entries := s.pace.entries.filter fun e => e.carried || e.origin != o.toNat
        tx := .leave o.toNat g.toNat :: s.pace.tx } })) ∧
  (∀ (l : List PaceEntry) (o : Nat) (r : Bool) (q seq : Nat), (∀ e ∈ l, e.is o r = false) → (l.filter fun e => !e.carried).length < 64 →
    takeQuota l o r q seq = l ++ [{ origin := o, relay := r, q := q, seq := seq }]) ∧
  (∀ (l : List PaceEntry) (o : Nat) (r : Bool) (q seq : Nat), (∃ e ∈ l, e.is o r = true) →
    takeQuota l o r q seq = l.map fun e => if e.is o r then
      (if e.seq ≠ seq ∨ e.q < q then { e with q := q, seq := seq, age := 0 } else { e with age := 0 }) else e) ∧
  (∀ (s : State) (o : BitVec 6) (r : Bool) (g : BitVec 8) (q : BitVec 6) (seq : BitVec 8) (serial : BitVec 48) (n : BitVec 7) (f : PaceTx) (c : Instr),
    s.paceOn = true → (¬ (s.pace.st = .up ∧ s.pace.pos = o.toNat)) →
    ((c = .live o ∧ f = .live o.toNat) ∨
      (s.paceHolds g.toNat = false ∧ ((c = .quota o r g q seq ∧ f = .quota o.toNat r g.toNat q.toNat seq.toNat) ∨
        (c = .release o r g seq ∧ f = .release o.toNat r g.toNat seq.toNat) ∨ (c = .leave o g ∧ f = .leave o.toNat g.toNat))) ∨
      (s.paceTakesPart = false ∧ c = .survey serial ∧ f = .survey serial.toNat) ∨
      ((s.paceTakesPart = false ∨ (s.pace.leader = false ∧ s.pace.st ≠ .discovering)) ∧ ((c = .count n ∧ f = .count n.toNat) ∨
        (c = .size n ∧ f = .size n.toNat)))) →
    ∃ t, exec c s = .next t ∧ t = { s with pace := { s.pace with tx := f :: s.pace.tx }, smb := t.smb }) ∧
  (∀ (s : State) (n : BitVec 7), s.paceTakesPart = true → s.pace.leader = true → s.pace.st ≠ .discovering →
    exec (.count n) s = .next s ∧ exec (.size n) s = .next s) ∧
  (∀ (s : State) (p : BitVec 56), s.paceOn = true → (p.toNat / 2 ^ 52 = 0 ∨ 8 ≤ p.toNat / 2 ^ 52) →
    ∃ t, exec (.paceReservedFrame p) s = .next t ∧ t = { s with pace := { s.pace with tx := .raw p.toNat :: s.pace.tx }, smb := t.smb }) ∧
  (∀ (s : State) (p : BitVec 56) (crc : BitVec 16), s.paceOn = true → crc.toNat ≠ crc16 ((natBytes 7 p.toNat).reverse) →
    ∃ t, exec (.paceCrcDrop p crc) s = .next t ∧
      t = { s with pace := { s.pace with crcCnt := if s.pace.crcCnt < 65535 then s.pace.crcCnt + 1 else 65535 }, smb := t.smb })

/-- What the pace link's own events do (R35, R316 to R318, R320, R321, R326, R482). -/
def Obligations.PaceEvents : Prop :=
  (∀ (s : State) (p : Pace), s.paceTakesPart = true → p = { s.pace with
      st := .discovering
      leader := false
      sentSurvey := true
      pos := 0
      size := 0
      entries := carryLargest s.pace.entries
      tx := .survey s.serial :: s.pace.tx } →
    (s.pace.lock = true → s.pace.st ≠ .up → ∃ t, exec .paceDiscovery s = .next t ∧ t = { s with pace := p, smb := t.smb }) ∧
    (s.pace.st = .discovering → ∃ t, exec .paceDiscoveryRetry s = .next t ∧ t = { s with pace := p, smb := t.smb }) ∧
    (∃ t, exec .paceLockGain s = .next t ∧ t = { s with pace := { p with lock := true }, smb := t.smb })) ∧
  (∀ (s : State), s.paceTakesPart = false →
    ∃ t, exec .paceLockGain s = .next t ∧ t = { s with pace := { s.pace with lock := true }, smb := t.smb }) ∧
  (∀ (l : List PaceEntry) (e : PaceEntry), largestEntry l = some e →
    e ∈ l ∧ (∀ x ∈ l, x.q ≤ e.q) ∧ carryLargest l = { e with carried := true, relay := false, origin := 0 } :: l.filter fun x => !x.carried) ∧
  (∀ (s : State), s.paceOn = true → s.pace.st = .up → s.pace.leader = true → ∃ t, exec .paceLiveSend s = .next t ∧
    t = { s with pace := { s.pace with liveAge := 0, tx := .live s.pace.pos :: s.pace.tx }, smb := t.smb }) ∧
  (∀ (s : State) (c : Instr), s.paceOn = true → s.pace.st = .up → s.Soft 31 → (c = .paceLockLoss ∨ c = .paceSilence) →
    ∃ t, exec c s = .next t ∧ t.isPending 31 = true ∧
      t.pace = { s.pace with
        st := .down
        lock := s.pace.lock && (c != .paceLockLoss)
        leader := false
        sentSurvey := false
        downCnt := if s.pace.downCnt < 255 then s.pace.downCnt + 1 else 255 } ∧
      t.cells = s.cells ∧ t.doms = s.doms ∧ t.tiles = s.tiles) ∧
  (∀ (s : State), s.paceOn = false ∨ s.pace.st ≠ .up →
    ∃ t, exec .paceLockLoss s = .next t ∧ t = { s with pace := { s.pace with lock := false }, smb := t.smb }) ∧
  (∀ (s : State), s.paceOn = true → s.start.ready = true → s.pace.lock = false → s.pace.st ≠ .solo → s.pace.st ≠ .up →
    s.rings.eventOut.length < 64 →
    ∃ t, exec .paceSolo s = .next t ∧
      t.rings.eventOut = s.rings.eventOut ++ [{ evPace 0 0 0 false false with epoch := s.ledger.epoch, eseq := s.rings.eseq }] ∧
      t = { s with pace := { s.pace with st := .solo, leader := false }, rings := t.rings, smb := t.smb }) ∧
  (∀ (s : State), s.pace.st = .solo → exec .paceSolo s = .next s ∧ s.qSympOf = 0) ∧
  (∀ (s : State) (carried : Bool) (o : BitVec 6) (r : Bool) (e : PaceEntry),
    s.pace.entries.find? (·.expiring carried o.toNat r) = some e → s.rings.eventOut.length < 64 →
    ∃ t, exec (.paceEntryExpire carried o r) s = .next t ∧
      t.rings.eventOut = s.rings.eventOut ++ [{ evPace 4 e.origin e.q e.relay e.carried with epoch := s.ledger.epoch, eseq := s.rings.eseq }] ∧
      (∀ x, x ∈ t.pace.entries ↔ x ∈ s.pace.entries ∧ (if carried = true then x.carried = false
        else ¬ (x.carried = false ∧ x.origin = o.toNat ∧ x.relay = r))) ∧
      t = { s with rings := t.rings, smb := t.smb, pace := { s.pace with
        entries := t.pace.entries
        expireCnt := if s.pace.expireCnt < 255 then s.pace.expireCnt + 1 else 255 } }) ∧
  (∀ (s : State) (q seq n : Nat), s.paceOn = true → s.pace.st = .up → s.paceGroup ≠ 0 →
    (s.pace.bcast = some (q, seq, n) → s.pace.relay = none → s.paceSendEn = true →
      ∃ t, exec .paceRefresh s = .next t ∧ t = { s with smb := t.smb, pace := { s.pace with
        bcast := some (q, seq, 0)
        tx := .quota s.pace.pos false s.paceGroup q seq :: s.pace.tx } }) ∧
    (s.pace.relay = some (q, seq, n) → s.pace.bcast = none ∨ s.paceSendEn = false →
      ∃ t, exec .paceRefresh s = .next t ∧ t = { s with smb := t.smb, pace := { s.pace with
        relay := some (q, seq, 0)
        entries := takeQuota s.pace.entries s.pace.pos true q seq
        tx := .quota s.pace.pos true s.paceGroup q seq :: s.pace.tx } }))

/-- The stop sequence and what starts and ends it (R349 to R361). -/
def Obligations.StopSequence : Prop :=
  (∀ (s : State) (n : Fin 64), s.start.aon = true → n.val ∉ s.stopq.tripped → s.start.ready = true → s.stopq.active = false →
    ∃ t, exec (.compTrip n) s = .next t ∧ t.stopq.active = true ∧ t.stopq.pending = true ∧ t.stopq.abandon = false ∧ t.stopq.cause = 16 ∧
      t.stopq.thermTrip = true ∧ t.stopq.tripped = s.stopq.tripped ++ [n.val] ∧ t.start.ready = false ∧
      t.cells = s.cells ∧ t.doms = s.doms ∧ t.tiles = s.tiles) ∧
  (∀ (s : State), s.start.aon = true → s.start.flowOk = true → s.start.ready = true → s.start.step = .ready → s.stopq.active = false →
    ∃ t, exec .flowOkFall s = .next t ∧ t.stopq.active = true ∧ t.stopq.pending = true ∧ t.stopq.abandon = false ∧ t.stopq.cause = 1 ∧
      t.stopq.thermTrip = s.stopq.thermTrip ∧ t.start.flowOk = false ∧ t.start.ready = false ∧
      t.stopq.fallCnt = (if s.stopq.fallCnt < 65535 then s.stopq.fallCnt + 1 else 65535) ∧
      t.cells = s.cells ∧ t.doms = s.doms ∧ t.tiles = s.tiles) ∧
  (∀ (s : State) (n : Fin 64), s.start.aon = true → s.stopq.active = true →
    (n.val ∉ s.stopq.tripped → ∃ t, exec (.compTrip n) s = .next t ∧ t.stopq.cause = orCause s.stopq.cause 16 ∧
      t.stopq.active = true ∧ t.stopq.thermTrip = true ∧ t.stopq.pending = s.stopq.pending ∧ t.stopq.commits = s.stopq.commits ∧
      t.stopq.stage = s.stopq.stage ∧ t.doms = s.doms) ∧
    (s.start.flowOk = true → ∃ t, exec .flowOkFall s = .next t ∧ t.stopq.cause = orCause s.stopq.cause 1 ∧ t.start.flowOk = false ∧
      t.stopq.active = true ∧ t.stopq.pending = s.stopq.pending ∧ t.stopq.commits = s.stopq.commits ∧ t.stopq.stage = s.stopq.stage ∧
      t.doms = s.doms)) ∧
  (∀ (s : State) (n : Fin 64), s.start.aon = true → n.val ∉ s.stopq.tripped → s.stopq.active = false → s.start.step = .stopped →
    s.start.ready = false → ∃ t, exec (.compTrip n) s = .next t ∧ t.start.step = .stopped ∧ t.stopq.active = false ∧ t.stopq.stage = 0 ∧
      t.stopq.cause = 16 ∧ t.stopq.thermTrip = true ∧ t.stopq.quiet = none ∧ t.stopq.tripped = s.stopq.tripped ++ [n.val]) ∧
  (∀ (s : State) (n : Fin 64), n.val ∈ s.stopq.tripped → ∃ t, exec (.compClear n) s = .next t ∧
    t.stopq.tripped = s.stopq.tripped.filter (· != n.val) ∧
    (s.stopped = false → t = { s with stopq := { s.stopq with tripped := t.stopq.tripped }, smb := t.smb }) ∧
    (s.stopped = true → t = { s with smb := t.smb, stopq := { s.stopq with
      tripped := t.stopq.tripped
      quiet := if s.start.flowOk = true ∧ t.stopq.tripped = [] then some s.clk.watch else none
      quietOk := false } })) ∧
  (∀ (s : State), s.start.aon = true → s.start.flowOk = false →
    (s.start.step ≠ .reconcile → s.stopped = false → ∃ t, exec .flowOkRise s = .next t ∧
      t = { s with clk := t.clk, start := { s.start with flowOk := true }, smb := t.smb }) ∧
    (s.stopped = true → ∃ t, exec .flowOkRise s = .next t ∧ t.start.flowOk = true ∧
      t.stopq.quiet = (if s.stopq.tripped = [] then some s.clk.watch else none) ∧ t.stopq.quietOk = false)) ∧
  (∀ (s : State), s.start.aon = true → s.start.flowOk = true → exec .flowOkGlitch s = .next { s with
    stopq := { s.stopq with glitchCnt := if s.stopq.glitchCnt < 65535 then s.stopq.glitchCnt + 1 else 65535 } }) ∧
  (∀ (s : State), s.stopq.active = true → s.stopq.pending = true → s.fastUp = true →
    ∃ t, exec .stopSequence s = .next t ∧ t.avs.boost = false ∧ t.pace.entries = [] ∧ t.pace.bcast = none ∧ t.pace.relay = none ∧
      (∀ i, i < 1024 → t.tile i = ({ s.tile i with quota := if s.tileOff i then (s.tile i).quota else 64, burn := 0 } : Tile).clearHints) ∧
      (∀ i, t.cell i = s.cell i)) ∧
  (∀ (s : State) (n d : Nat), s.stopq.active = true → s.stopq.abandon = false → s.stopq.late = false → s.stopq.commits = some n → s.fastUp = true →
    s.stopq.stage < 4 → [1, 27, 53, 79].getD s.stopq.stage 0 ≤ n → ∃ t, exec .stopStage s = .next t ∧ t.stopq.stage = s.stopq.stage + 1 ∧
      (d ∈ allDoms → stopStageOf d = s.stopq.stage + 1 → s.stopq.stage < 3 →
        (s.dom d).st ∉ [EngSt.off, .frozen, .hold, .stop] → (t.dom d).st = .stop ∧ (t.dom d).stopRamp = true) ∧
      (stopStageOf d ≠ s.stopq.stage + 1 ∨ s.stopq.stage = 3 ∨ (s.dom d).st ∈ [EngSt.off, .frozen, .hold] → t.dom d = s.dom d) ∧
      (∀ i, t.cell i = s.cell i)) ∧
  (∀ (s : State), s.stopq.active = true → s.stopq.openDone = false → ∃ t, exec .recordOpenWritten s = .next t ∧
    t = { s with stopq := { s.stopq with openDone := true }, warden := t.warden } ∧
    ∀ j, j ∈ t.warden.jobs ↔ j ∈ s.warden.jobs ∧ j.recNo ≠ stopRecNo s.stopq.slot) ∧
  (∀ (s : State), s.stopq.active = true → s.stopq.abandon = false → (s.stopq.stage = 4 ∨ s.stopq.late = true) →
    ∃ t, exec .sd14OffSeen s = .next t ∧ t.start.step = .stopped ∧ t.stopq.active = false ∧ t.stopq.stage = 5 ∧ t.start.ready = false ∧
      t.clk.pllOn = false ∧ t.clk.lock = false ∧ t.ledger.running = false ∧ t.win.held = [] ∧ ∀ d, (t.dom d).st = .off) ∧
  (∀ (s : State) (k : Nat), s.stopq.quiet = some k → ∃ t, exec .quietPeriodEnd s = .next t ∧
    t = { s with stopq := { s.stopq with quiet := none, quietOk := true }, smb := t.smb })

/-- The fast-side reset and adoption (R387 to R391, R357). -/
def Obligations.FastReset : Prop :=
  (∀ (s : State), s.start.aon = true → s.anyStarted = true → s.clk.everLock = true → (s.clk.fsReset = false ∨ s.clk.restoring = true) →
    ∃ t, exec .fastSideReset s = .next t ∧ t.clk.fsReset = true ∧ t.clk.restoring = false ∧ t.clk.commitTick = none ∧ t.start.adoptStep = 1 ∧
      t.start.adoptCnt = (if s.start.adoptCnt < 255 then s.start.adoptCnt + 1 else 255) ∧ t.cells = s.cells ∧
      t.pace.entries = s.pace.entries ∧ t.policy = s.policy ∧
      (∀ d, (t.dom d).st = (if (if s.adopting = true then (s.dom d).recorded else (s.dom d).st) = .off then .off else .hold)) ∧
      (s.stopq.active = true → t.stopq.late = true ∧ t.stopq.active = true) ∧
      (s.stopq.active = false → s.start.ready = true → t.start.step = .adoption ∧ t.start.ready = true ∧ t.stopq = s.stopq) ∧
      (s.stopq.active = false → s.start.ready = false → t.stopq.active = true ∧ t.stopq.abandon = true ∧ t.stopq.late = true ∧ t.start.fail = 7)) ∧
  (∀ (s : State), s.clk.fsReset = true → s.clk.restoring = false → ∃ t, exec .fsrRelease s = .next t ∧
    t = { s with
      clk := { s.clk with
        restoring := true
        pllTick := if s.clk.lock = true then s.clk.pllTick else s.clk.watch }
      start := { s.start with adoptStep := 3 } }) ∧
  (∀ (s : State), s.clk.fsReset = true → s.clk.restoring = true → s.clk.lock = true → s.win.held = [] →
    ∃ t, exec .restoreDone s = .next t ∧ t.clk = { s.clk with fsReset := false, restoring := false } ∧ t.start = { s.start with adoptStep := 4 } ∧
      t.cells = s.cells ∧ t.doms = s.doms ∧ ∀ k, k < 8 → (s.lane k).st = .frozen → (t.lane k).barred = true) ∧
  (∀ (s : State) (c : ChainIx), s.fastUp = true → s.start.adoptStep = 4 →
    ∃ t, exec (.rosterRebuild c) s = .next t ∧ t.cells = s.cells ∧ t.doms = s.doms ∧ (t.chain c).enumDone = true ∧
      (t.chain c).cells = (s.queried c).length ∧
      ((∃ k, k < 8 ∧ k ≠ c.val ∧ (s.chain k).enumDone = false) → t.start = s.start ∧ t.stopq = s.stopq ∧
        (∀ p, p ∈ s.queried c → (s.cell (cellAt c p)).gen ≤ (t.chain c).gen)) ∧
      ((∀ k, k < 8 → k ≠ c.val → (s.chain k).enumDone = true) →
        t.start = { s.start with adoptStep := if s.stopq.active = true then 0 else 5 })) ∧
  (∀ (s : State), s.fastUp = true → s.start.adoptStep = 5 → s.stopq.active = false → ∃ t, exec .adoptReadDone s = .next t ∧
    t.start.adoptStep = 6 ∧ t.start.adoptDom = 0 ∧ t.cells = s.cells ∧ t.doms = s.doms) ∧
  (∀ (s : State) (d : Nat) (l : List Nat), s.start.ready = true → s.fastUp = true → s.stopq.active = false → s.adopting = false →
    s.start.restarting = none → s.restartable = d :: l → (s.absentOf d).length ≤ shedAllowed d → d ≠ sd 13 → ∃ t, exec .adoptRestart s = .next t ∧
    t.start = { s.start with restarting := some d, adoptDom := orBit s.start.adoptDom d } ∧ (t.dom d).st = .start ∧ (t.dom d).restart = false ∧
      t.cells = s.cells ∧ ∀ e, e ≠ d → t.dom e = s.dom e) ∧
  (∀ (s : State), s.fastUp = true → s.anyStarted = true → (∃ t, exec .commitStall s = .next t ∧ t.isPending 18 = true)) ∧
  (∀ (s : State) (i : Nat), s.start.aon = true → s.anyStarted = true → (s.stopq.active = true → s.stopq.stage < 4) → i ∈ bootCells →
    s.contact i = true → ∃ t, exec .sd14RailFault s = .next t ∧ t.isPending 35 = true)

/-- The commit's number (R7, R247, R278) and the executor's acceptance of one descriptor (R471, R474 to R476). -/
def Obligations.CommitAndAccept : Prop :=
  (∀ (s : State), s.fastUp = true → s.clk.everLock = true → ∃ t, exec .epochCommit s = .next t ∧ t.otp = s.otp ∧
    (s.ledger.first = true → t.clk.commit16 = 0) ∧
    (s.ledger.first = false → s.ledger.running = true → t.clk.commit16 = (s.ledger.epoch + 1) % 2 ^ 16) ∧
    (s.ledger.first = false → s.ledger.running = false →
      t.clk.commit16 = (s.ledger.epoch + max 1 ((s.clk.watch - s.start.countTick) / 8)) % 2 ^ 16)) ∧
  (∀ (s : State), s.fastUp = false ∨ s.clk.everLock = false → exec .epochCommit s = .next s) ∧
  (∀ (s : State) (l : List HostData), s.hostOn = true → s.rings.waitLog = [] → s.nextRing = none →
    ∃ t, exec (.commandAccept l) s = .next t ∧ t = { s with smb := t.smb }) ∧
  (∀ (s : State) (l : List HostData) (i st v : Nat) (d : Desc) (r : List Desc), s.hostOn = true → s.rings.waitLog = [] →
    s.nextRing = some i → s.intake i = d :: r → (descCtx i d).link = false → i ∉ s.rings.badChain →
    s.rings.complOut.length < complDepth → s.rings.complWait = [] →
    ((s.setIntake i r).verdict i d (l.getD 0 { words := [], ok := false }) = .error (st, v) ∨
      (descOp d = 0 ∧ descClean 0 d.words = true ∧ s.stateRefused 0 = false ∧ st = stOk ∧ v = 0)) →
    ∃ t, exec (.commandAccept l) s = .next t ∧ s.Completed t (descCtx i d) (descOp d) st v ∧ t.intake i = r ∧
      t = { s with rings := t.rings, smb := t.smb })

/-- A cell in OFF refuses START without lock; a running cell keeps running through the loss (R82). -/
def Obligations.StartNeedsCellsync : Prop :=
  (∀ (s : State) (c : ChainIx) (h : CmdHdr) (v : BitVec 16) (i : Nat), s.OrderReaches c h i → (s.cell i).mode = .off → (s.cell i).sync = false →
    ∃ t, exec (.start c h v) s = .next t ∧ s.Answered t c h 1 i 3 0 ∧
      t.cell i = { s.cell i with seq := some h.seq.toNat, status := 3, data := 0 }) ∧
  (∀ (s : State) (i : CellIx), s.cellsUp = true →
    ∃ t, exec (.cellsyncLoss i) s = .next t ∧
      t.cell i.val = { s.cell i.val with sync := false, win := { (s.cell i.val).win with syncLost := true } } ∧
      ∀ j, j ≠ i.val → t.cell j = s.cell j)

/-- ARM with RSV_EN = 0 forces four phases and does not turn on the droop comparator (R64). -/
def Obligations.ArmWithoutReserve : Prop :=
  ∀ (s : State) (c : ChainIx) (p : BitVec 64) (i : CellIx), s.FrameReaches c p i.val → (s.cell i.val).mode = .run →
    (s.cell i.val).cfg.rsvEn = false → bits p.toNat 55 50 = cellDom i.val (s.cell i.val) → armSelects (bits p.toNat 31 0) i.val (s.cell i.val) = true →
    bitAt p.toNat 49 = true →
    ∃ t, exec (.armFrame c p) s = .next t ∧ (t.cell i.val).phases = .four ∧ (t.cell i.val).burstOn = false ∧
      cellArm (t.cell i.val) = .disarmed ∧ ∃ u, exec (.droopCrossing i) t = .next u ∧ u.cell i.val = t.cell i.val

/-- A droop crossing of an armed cell whose reserve is not charged (R61). -/
def Obligations.DroopWithoutCharge : Prop :=
  ∀ (s : State) (i : CellIx), s.cellsUp = true → cellArm (s.cell i.val) ≠ .disarmed → (s.cell i.val).rsvReady = false →
    ∃ t, exec (.droopCrossing i) s = .next t ∧ (t.cell i.val).rsvFire = (s.cell i.val).rsvFire ∧
      (t.cell i.val).win = { (s.cell i.val).win with droopMax := max (s.cell i.val).win.droopMax (min 31 (tDroop (s.cell i.val))) } ∧
      (t.cell i.val).rsvReady = false ∧ (t.cell i.val).phases = .four ∧ (t.cell i.val).burstOn = false ∧
      ∀ j, j ≠ i.val → t.cell j = s.cell j

/-- UL_SCRATCH at 0x0014 stores a word and has no effect (R541). -/
def Obligations.ScratchStoresOnly : Prop :=
  State.reset.readReg 0x14 = 0 ∧
  ∀ (s : State) (v : Word), s.WindowReady →
    ∃ t, exec (.registerWrite 0x14 v) s = .next t ∧ t.readReg 0x14 = v ∧ t = { s with win := { s.win with scratch := v } }.alertUpdate

/-- What the identification register reads (R549). -/
def Obligations.IdentificationRegister : Prop :=
  ∀ s : State, s.start.aon = true → s.tapHeld = false →
    ∃ t u, exec .idcode s = .next t ∧ exec .tapReset s = .next u ∧ u.tap = t.tap ∧ t.tap.ir = .idcode ∧ t.tap.dr < 2 ^ 32 ∧
      bits t.tap.dr 31 28 = s.otp.sirev.toNat ∧ bits t.tap.dr 27 12 = 0x4E02 ∧ bits t.tap.dr 11 1 = s.otp.jedec.toNat ∧ bits t.tap.dr 0 0 = 1
end

