-- ==== Sys2Proof/Laws/Vault.lean ====
section
/-! SUPPORT. The byte memory of the vault: every write keeps the canonical form, a read gives the byte last written, and a write leaves every
other byte alone. -/

namespace Sys2Proof.Machine

theorem Memory.wfFrom_mono {m : List Host.Cell} {lo lo' : Nat} (h : lo' ≤ lo) (w : Memory.wfFrom lo m = true) : Memory.wfFrom lo' m = true := by
  cases m with
  | nil => rfl
  | cons e t =>
    simp only [Memory.wfFrom, Bool.and_eq_true, decide_eq_true_eq] at w ⊢
    exact ⟨⟨Nat.le_trans h w.1.1, w.1.2⟩, w.2⟩

theorem Memory.wfFrom_write {m : List Host.Cell} {lo a : Nat} (v : Byte) (h : lo ≤ a) (w : Memory.wfFrom lo m = true) :
    Memory.wfFrom lo (Memory.write m a v) = true := by
  induction m generalizing lo with
  | nil =>
    simp only [Memory.write]
    split
    · rfl
    · rename_i hv
      simp [Memory.wfFrom, h, hv]
  | cons e t ih =>
    obtain ⟨k, b⟩ := e
    simp only [Memory.wfFrom, Bool.and_eq_true, decide_eq_true_eq] at w
    obtain ⟨⟨hk, hb⟩, ht⟩ := w
    simp only [Memory.write]
    split
    · rename_i hlt
      split
      · simp [Memory.wfFrom, hk, ht, hb] at hb ⊢
      · rename_i hv
        simp only [Memory.wfFrom, Bool.and_eq_true, decide_eq_true_eq]
        exact ⟨⟨h, by simpa using hv⟩, ⟨⟨hlt, hb⟩, ht⟩⟩
    · split
      · rename_i hne heq
        subst heq
        split
        · exact Memory.wfFrom_mono (by omega) ht
        · rename_i hv
          simp only [Memory.wfFrom, Bool.and_eq_true, decide_eq_true_eq]
          exact ⟨⟨h, by simpa using hv⟩, ht⟩
      · simp only [Memory.wfFrom, Bool.and_eq_true, decide_eq_true_eq]
        exact ⟨⟨hk, hb⟩, ih (by omega) ht⟩

/-- A write keeps the canonical form. -/
theorem Memory.wf_write {m : List Host.Cell} (a : Nat) (v : Byte) (w : Memory.wf m = true) : Memory.wf (Memory.write m a v) = true :=
  Memory.wfFrom_write v (Nat.zero_le a) w

/-- So does a write of many bytes. -/
theorem Memory.wf_writeBytes (l : List Byte) {m : List Host.Cell} (a : Nat) (w : Memory.wf m = true) :
    Memory.wf (Memory.writeBytes m a l) = true := by
  induction l generalizing m a with
  | nil => exact w
  | cons b t ih => exact ih (a + 1) (Memory.wf_write a b w)

/-- Below the bound of a canonical memory every byte is erased. -/
theorem Memory.read_below {m : List Host.Cell} {lo a : Nat} (w : Memory.wfFrom lo m = true) (h : a < lo) : Memory.read m a = Memory.erased := by
  induction m generalizing lo with
  | nil => rfl
  | cons e t ih =>
    obtain ⟨k, b⟩ := e
    simp only [Memory.wfFrom, Bool.and_eq_true, decide_eq_true_eq] at w
    have hne : k ≠ a := by omega
    simp only [Memory.read, hne, if_false]
    exact ih w.2 (by omega)

/-- The byte just written reads back. -/
theorem Memory.read_write_same {m : List Host.Cell} (a : Nat) (v : Byte) {lo : Nat} (w : Memory.wfFrom lo m = true) :
    Memory.read (Memory.write m a v) a = v := by
  induction m generalizing lo with
  | nil =>
    simp only [Memory.write]
    split
    · rename_i h; simp [Memory.read, h]
    · simp [Memory.read]
  | cons e t ih =>
    obtain ⟨k, b⟩ := e
    simp only [Memory.wfFrom, Bool.and_eq_true, decide_eq_true_eq] at w
    simp only [Memory.write]
    split
    · rename_i hlt
      split
      · rename_i h
        have hne : k ≠ a := by omega
        simp only [Memory.read, hne, if_false, h]
        exact Memory.read_below w.2 (by omega)
      · simp [Memory.read]
    · split
      · rename_i hlt heq
        subst heq
        split
        · rename_i h
          rw [h]
          exact Memory.read_below w.2 (by omega)
        · simp [Memory.read]
      · rename_i hlt hne
        have hne' : k ≠ a := fun h => hne h.symm
        simp only [Memory.read, hne', if_false]
        exact ih w.2

/-- Every other byte reads as before. -/
theorem Memory.read_write_other (m : List Host.Cell) {a b : Nat} (v : Byte) (h : b ≠ a) :
    Memory.read (Memory.write m a v) b = Memory.read m b := by
  induction m with
  | nil =>
    simp only [Memory.write]
    split
    · rfl
    · simp [Memory.read, Ne.symm h]
  | cons e t ih =>
    obtain ⟨k, c⟩ := e
    simp only [Memory.write]
    split
    · split
      · rfl
      · simp [Memory.read, Ne.symm h]
    · split
      · rename_i heq
        subst heq
        split
        · simp [Memory.read, Ne.symm h]
        · simp [Memory.read, Ne.symm h]
      · simp only [Memory.read]
        split
        · rfl
        · exact ih

/-- A write of many bytes leaves every byte outside them alone. -/
theorem Memory.read_writeBytes_other (l : List Byte) (m : List Host.Cell) {a b : Nat} (h : b < a ∨ a + l.length ≤ b) :
    Memory.read (Memory.writeBytes m a l) b = Memory.read m b := by
  induction l generalizing m a with
  | nil => rfl
  | cons x l ih =>
    simp only [List.length_cons] at h
    exact (ih (Memory.write m a x) (a := a + 1) (by omega)).trans (Memory.read_write_other m x (by omega))

/-- A write of many bytes stores each of them. -/
theorem Memory.read_writeBytes_in (l : List Byte) {m : List Host.Cell} (w : Memory.wf m = true) {a k : Nat} (h : k < l.length) :
    Memory.read (Memory.writeBytes m a l) (a + k) = l.getD k 0 := by
  induction l generalizing m a k with
  | nil => simp at h
  | cons x l ih =>
    cases k with
    | zero =>
      have := Memory.read_writeBytes_other l (Memory.write m a x) (a := a + 1) (b := a) (Or.inl (Nat.lt_succ_self a))
      exact this.trans (Memory.read_write_same a x w)
    | succ k =>
      have := ih (Memory.wf_write a x w) (a := a + 1) (k := k) (by simpa using h)
      simpa [Memory.writeBytes, Nat.add_assoc, Nat.add_comm 1 k] using this

end Sys2Proof.Machine
end

