-- ==== Sys2Proof/Laws/Kept.lean ====
section
/-! SUPPORT. What every command keeps, whatever else it does: the fuses, the queue of waiting commands, and the canonical form of the vault. Each
shared operation has one lemma, which the proofs about whole commands cite. -/

namespace Sys2Proof.Machine

/-- From `s` to `t` the fuses and the queue are unchanged, and a vault in canonical form stays in it. -/
def Steady (s t : State) : Prop :=
  t.otp = s.otp ∧ t.pending = s.pending ∧ (Memory.wf s.warden.vault = true → Memory.wf t.warden.vault = true)

/-- The same, and no commit has been performed. -/
def Kept (s t : State) : Prop :=
  t.otp = s.otp ∧ t.pending = s.pending ∧ (Memory.wf s.warden.vault = true → Memory.wf t.warden.vault = true) ∧
  t.clk.commit16 = s.clk.commit16

theorem Kept.steady {s t : State} (h : Kept s t) : Steady s t := ⟨h.1, h.2.1, h.2.2.1⟩

theorem Steady.refl (s : State) : Steady s s := ⟨rfl, rfl, id⟩

theorem Steady.trans {a b c : State} (h : Steady a b) (k : Steady b c) : Steady a c :=
  ⟨k.1.trans h.1, k.2.1.trans h.2.1, fun w => k.2.2 (h.2.2 w)⟩

/-- `Steady` of an outcome: of its next state, where it has one. -/
def OutSteady (s : State) : Out → Prop
  | .next t => Steady s t
  | _ => True

/-- The same of an outcome: of its next state, where it has one. -/
def OutKept (s : State) : Out → Prop
  | .next t => Kept s t
  | _ => True

@[simp] theorem Kept.refl (s : State) : Kept s s := ⟨rfl, rfl, id, rfl⟩

theorem Kept.trans {a b c : State} (h : Kept a b) (k : Kept b c) : Kept a c :=
  ⟨k.1.trans h.1, k.2.1.trans h.2.1, fun w => k.2.2.1 (h.2.2.1 w), k.2.2.2.trans h.2.2.2⟩

/-- A record update that leaves the fuses, the queue and the vault's bytes alone. -/
@[simp] theorem kept_mk {s x : State} (h : Kept s x) (start) (clk : Clk) (win cells views chains creg eng doms lanes sense dscs hkcs tallies
    ledger tiles accts limits pace therm diodes stopq flt) (warden : Warden) (policy rings smb avs tap pub freeCtr)
    (hw : warden.vault = x.warden.vault)
    (hc : clk.commit16 = x.clk.commit16) :
    Kept s { otp := x.otp, start := start, clk := clk, win := win, cells := cells, views := views, chains := chains, creg := creg, eng := eng, doms := doms, lanes := lanes, sense := sense, dscs := dscs, hkcs := hkcs, tallies := tallies,
             ledger := ledger, tiles := tiles, accts := accts, limits := limits, pace := pace, therm := therm, diodes := diodes, stopq := stopq, flt := flt, warden := warden, policy := policy, rings := rings, smb := smb, avs := avs, tap := tap, pub := pub, freeCtr := freeCtr, pending := x.pending } :=
  ⟨h.1, h.2.1, fun w => by simpa [hw] using h.2.2.1 w, hc.trans h.2.2.2⟩

@[simp] theorem kept_ite {s a b : State} {c : Prop} [Decidable c] (h : Kept s a) (k : Kept s b) : Kept s (if c then a else b) := by
  split <;> assumption

@[simp] theorem kept_foldl {α : Type} {s x : State} (g : State → α → State) (l : List α) (h : Kept s x) (k : ∀ t a, Kept t (g t a)) :
    Kept s (l.foldl g x) := by
  induction l generalizing x with
  | nil => exact h
  | cons a l ih => exact ih (h.trans (k x a))

@[simp] theorem kept_forEach {s x : State} (g : State → Nat → State) (l : List Nat) (h : Kept s x) (k : ∀ t a, Kept t (g t a)) :
    Kept s (x.forEach l g) := kept_foldl g l h k

/-- A loop that carries other data beside the state. -/
theorem kept_foldl_fst {α β : Type} {s : State} {x : State × β} (g : State × β → α → State × β) (l : List α) (h : Kept s x.1)
    (k : ∀ p a, Kept p.1 (g p a).1) : Kept s (l.foldl g x).1 := by
  induction l generalizing x with
  | nil => exact h
  | cons a l ih => exact ih (h.trans (k x a))

/-- The same with the state second. -/
theorem kept_foldl_snd {α β : Type} {s : State} {x : β × State} (g : β × State → α → β × State) (l : List α) (h : Kept s x.2)
    (k : ∀ p a, Kept p.2 (g p a).2) : Kept s (l.foldl g x).2 := by
  induction l generalizing x with
  | nil => exact h
  | cons a l ih => exact ih (h.trans (k x a))

@[simp] theorem outKept_next {s t : State} : OutKept s (.next t) = Kept s t := rfl

@[simp] theorem outKept_ite {s : State} {a b : Out} {c : Prop} [Decidable c] (h : OutKept s a) (k : OutKept s b) :
    OutKept s (if c then a else b) := by
  split <;> assumption

/-! ### Writes of the vault -/

@[simp] theorem kept_vaultPut {s x : State} (h : Kept s x) (a : Nat) (l : List Byte) : Kept s (x.vaultPut a l) :=
  ⟨h.1, h.2.1, fun w => Memory.wf_writeBytes l a (h.2.2.1 w), h.2.2.2⟩

end Sys2Proof.Machine
end

