-- ==== Sys2Proof/Laws/KeptOps.lean ====
section
/-! SUPPORT. What the operations of Machine/Ops.lean keep (Laws/Kept.lean). -/

set_option linter.unusedSimpArgs false
set_option linter.unusedVariables false

namespace Sys2Proof.Machine

@[simp] theorem kept_draw {s x : State} (h : Kept s x) : Kept s x.draw.2 := by
  simp (maxDischargeDepth := 40) [State.draw, h]

@[simp] theorem kept_State_setCell {s0_ : State} (s : State) (i : Nat) (c : Cell) (h_ : Kept s0_ s)  : Kept s0_ (State.setCell s i c) := by
  first
    | (simp (maxDischargeDepth := 40) [State.setCell, h_]; done)
    | (unfold State.setCell; (try dsimp only); repeat' (first | (simp (maxDischargeDepth := 40) [h_]; done) | intro _ | apply kept_foldl | apply kept_foldl_fst | apply kept_foldl_snd | apply kept_forEach | split))

@[simp] theorem kept_State_updCell {s0_ : State} (s : State) (i : Nat) (f : Cell → Cell) (h_ : Kept s0_ s)  : Kept s0_ (State.updCell s i f) := by
  first
    | (simp (maxDischargeDepth := 40) [State.updCell, h_]; done)
    | (unfold State.updCell; (try dsimp only); repeat' (first | (simp (maxDischargeDepth := 40) [h_]; done) | intro _ | apply kept_foldl | apply kept_foldl_fst | apply kept_foldl_snd | apply kept_forEach | split))

@[simp] theorem kept_State_updView {s0_ : State} (s : State) (i : Nat) (f : View → View) (h_ : Kept s0_ s)  : Kept s0_ (State.updView s i f) := by
  first
    | (simp (maxDischargeDepth := 40) [State.updView, h_]; done)
    | (unfold State.updView; (try dsimp only); repeat' (first | (simp (maxDischargeDepth := 40) [h_]; done) | intro _ | apply kept_foldl | apply kept_foldl_fst | apply kept_foldl_snd | apply kept_forEach | split))

@[simp] theorem kept_State_updChain {s0_ : State} (s : State) (c : Nat) (f : Chain → Chain) (h_ : Kept s0_ s)  : Kept s0_ (State.updChain s c f) := by
  first
    | (simp (maxDischargeDepth := 40) [State.updChain, h_]; done)
    | (unfold State.updChain; (try dsimp only); repeat' (first | (simp (maxDischargeDepth := 40) [h_]; done) | intro _ | apply kept_foldl | apply kept_foldl_fst | apply kept_foldl_snd | apply kept_forEach | split))

@[simp] theorem kept_State_updDom {s0_ : State} (s : State) (d : Nat) (f : Dom → Dom) (h_ : Kept s0_ s)  : Kept s0_ (State.updDom s d f) := by
  first
    | (simp (maxDischargeDepth := 40) [State.updDom, h_]; done)
    | (unfold State.updDom; (try dsimp only); repeat' (first | (simp (maxDischargeDepth := 40) [h_]; done) | intro _ | apply kept_foldl | apply kept_foldl_fst | apply kept_foldl_snd | apply kept_forEach | split))

@[simp] theorem kept_State_updLane {s0_ : State} (s : State) (k : Nat) (f : Lane → Lane) (h_ : Kept s0_ s)  : Kept s0_ (State.updLane s k f) := by
  first
    | (simp (maxDischargeDepth := 40) [State.updLane, h_]; done)
    | (unfold State.updLane; (try dsimp only); repeat' (first | (simp (maxDischargeDepth := 40) [h_]; done) | intro _ | apply kept_foldl | apply kept_foldl_fst | apply kept_foldl_snd | apply kept_forEach | split))

@[simp] theorem kept_State_updDsc {s0_ : State} (s : State) (d : Nat) (f : Dsc → Dsc) (h_ : Kept s0_ s)  : Kept s0_ (State.updDsc s d f) := by
  first
    | (simp (maxDischargeDepth := 40) [State.updDsc, h_]; done)
    | (unfold State.updDsc; (try dsimp only); repeat' (first | (simp (maxDischargeDepth := 40) [h_]; done) | intro _ | apply kept_foldl | apply kept_foldl_fst | apply kept_foldl_snd | apply kept_forEach | split))

@[simp] theorem kept_State_updHkc {s0_ : State} (s : State) (k : Nat) (f : Hkc → Hkc) (h_ : Kept s0_ s)  : Kept s0_ (State.updHkc s k f) := by
  first
    | (simp (maxDischargeDepth := 40) [State.updHkc, h_]; done)
    | (unfold State.updHkc; (try dsimp only); repeat' (first | (simp (maxDischargeDepth := 40) [h_]; done) | intro _ | apply kept_foldl | apply kept_foldl_fst | apply kept_foldl_snd | apply kept_forEach | split))

@[simp] theorem kept_State_updTally {s0_ : State} (s : State) (conv : Nat) (t : Nat) (f : Tally → Tally) (h_ : Kept s0_ s)  : Kept s0_ (State.updTally s conv t f) := by
  first
    | (simp (maxDischargeDepth := 40) [State.updTally, h_]; done)
    | (unfold State.updTally; (try dsimp only); repeat' (first | (simp (maxDischargeDepth := 40) [h_]; done) | intro _ | apply kept_foldl | apply kept_foldl_fst | apply kept_foldl_snd | apply kept_forEach | split))

@[simp] theorem kept_State_updTile {s0_ : State} (s : State) (t : Nat) (f : Tile → Tile) (h_ : Kept s0_ s)  : Kept s0_ (State.updTile s t f) := by
  first
    | (simp (maxDischargeDepth := 40) [State.updTile, h_]; done)
    | (unfold State.updTile; (try dsimp only); repeat' (first | (simp (maxDischargeDepth := 40) [h_]; done) | intro _ | apply kept_foldl | apply kept_foldl_fst | apply kept_foldl_snd | apply kept_forEach | split))

@[simp] theorem kept_State_updAcct {s0_ : State} (s : State) (d : Nat) (f : DomAcct → DomAcct) (h_ : Kept s0_ s)  : Kept s0_ (State.updAcct s d f) := by
  first
    | (simp (maxDischargeDepth := 40) [State.updAcct, h_]; done)
    | (unfold State.updAcct; (try dsimp only); repeat' (first | (simp (maxDischargeDepth := 40) [h_]; done) | intro _ | apply kept_foldl | apply kept_foldl_fst | apply kept_foldl_snd | apply kept_forEach | split))

@[simp] theorem kept_State_updDiode {s0_ : State} (s : State) (n : Nat) (f : Diode → Diode) (h_ : Kept s0_ s)  : Kept s0_ (State.updDiode s n f) := by
  first
    | (simp (maxDischargeDepth := 40) [State.updDiode, h_]; done)
    | (unfold State.updDiode; (try dsimp only); repeat' (first | (simp (maxDischargeDepth := 40) [h_]; done) | intro _ | apply kept_foldl | apply kept_foldl_fst | apply kept_foldl_snd | apply kept_forEach | split))

@[simp] theorem kept_State_wakeWarden {s0_ : State} (s : State) (h_ : Kept s0_ s)  : Kept s0_ (State.wakeWarden s) := by
  first
    | (simp (maxDischargeDepth := 40) [State.wakeWarden, h_]; done)
    | (unfold State.wakeWarden; (try dsimp only); repeat' (first | (simp (maxDischargeDepth := 40) [h_]; done) | intro _ | apply kept_foldl | apply kept_foldl_fst | apply kept_foldl_snd | apply kept_forEach | split))

end Sys2Proof.Machine
end

