-- ==== Sys2Proof/Laws/KeptVault.lean ====
section
/-! SUPPORT. What the operations of Machine/Vault.lean keep (Laws/Kept.lean). -/

set_option linter.unusedSimpArgs false
set_option linter.unusedVariables false

namespace Sys2Proof.Machine

@[simp] theorem kept_State_vaultPutWords {s0_ : State} (s : State) (a : Nat) (l : List Word) (h_ : Kept s0_ s)  : Kept s0_ (State.vaultPutWords s a l) := by
  first
    | (simp (maxDischargeDepth := 40) [State.vaultPutWords, h_]; done)
    | (unfold State.vaultPutWords; (try dsimp only); repeat' (first | (simp (maxDischargeDepth := 40) [h_]; done) | intro _ | apply kept_foldl | apply kept_foldl_fst | apply kept_foldl_snd | apply kept_forEach | split))

@[simp] theorem kept_State_vaultJob {s0_ : State} (s : State) (prio : Nat) (recNo : Nat) (addr : Nat) (l : List Word) (h_ : Kept s0_ s)  : Kept s0_ (State.vaultJob s prio recNo addr l) := by
  first
    | (simp (maxDischargeDepth := 40) [State.vaultJob, h_]; done)
    | (unfold State.vaultJob; (try dsimp only); repeat' (first | (simp (maxDischargeDepth := 40) [h_]; done) | intro _ | apply kept_foldl | apply kept_foldl_fst | apply kept_foldl_snd | apply kept_forEach | split))

@[simp] theorem kept_State_vaultFlush {s0_ : State} (s : State) (recNo : Nat) (h_ : Kept s0_ s)  : Kept s0_ (State.vaultFlush s recNo) := by
  first
    | (simp (maxDischargeDepth := 40) [State.vaultFlush, h_]; done)
    | (unfold State.vaultFlush; (try dsimp only); repeat' (first | (simp (maxDischargeDepth := 40) [h_]; done) | intro _ | apply kept_foldl | apply kept_foldl_fst | apply kept_foldl_snd | apply kept_forEach | split))

@[simp] theorem kept_State_writeStateBlock {s0_ : State} (s : State) (h_ : Kept s0_ s)  : Kept s0_ (State.writeStateBlock s) := by
  first
    | (simp (maxDischargeDepth := 40) [State.writeStateBlock, h_]; done)
    | (unfold State.writeStateBlock; (try dsimp only); repeat' (first | (simp (maxDischargeDepth := 40) [h_]; done) | intro _ | apply kept_foldl | apply kept_foldl_fst | apply kept_foldl_snd | apply kept_forEach | split))

end Sys2Proof.Machine
end

