-- ==== Sys2Proof/Laws/KeptEvents.lean ====
section
/-! SUPPORT. What the operations of Machine/Events.lean keep (Laws/Kept.lean). -/

set_option linter.unusedSimpArgs false
set_option linter.unusedVariables false

namespace Sys2Proof.Machine

@[simp] theorem kept_State_pushEvent {s0_ : State} (s : State) (e : Event) (h_ : Kept s0_ s)  : Kept s0_ (State.pushEvent s e) := by
  first
    | (simp (maxDischargeDepth := 40) [State.pushEvent, h_]; done)
    | (unfold State.pushEvent; (try dsimp only); repeat' (first | (simp (maxDischargeDepth := 40) [h_]; done) | intro _ | apply kept_foldl | apply kept_foldl_fst | apply kept_foldl_snd | apply kept_forEach | split))

end Sys2Proof.Machine
end

