-- ==== Sys2Proof/Laws/KeptStopOps.lean ====
section
/-! SUPPORT. What the operations of Machine/StopOps.lean keep (Laws/Kept.lean). -/

set_option linter.unusedSimpArgs false
set_option linter.unusedVariables false

namespace Sys2Proof.Machine

@[simp] theorem kept_State_stopLatch {s0_ : State} (s : State) (causes : Nat) (abandon : Bool) (h_ : Kept s0_ s)  : Kept s0_ (State.stopLatch s causes abandon) := by
  first
    | (simp (maxDischargeDepth := 40) [State.stopLatch, h_]; done)
    | (unfold State.stopLatch; (try dsimp only); repeat' (first | (simp (maxDischargeDepth := 40) [h_]; done) | intro _ | apply kept_foldl | apply kept_foldl_fst | apply kept_foldl_snd | apply kept_forEach | split))

@[simp] theorem kept_State_stopAddCause {s0_ : State} (s : State) (causes : Nat) (h_ : Kept s0_ s)  : Kept s0_ (State.stopAddCause s causes) := by
  first
    | (simp (maxDischargeDepth := 40) [State.stopAddCause, h_]; done)
    | (unfold State.stopAddCause; (try dsimp only); repeat' (first | (simp (maxDischargeDepth := 40) [h_]; done) | intro _ | apply kept_foldl | apply kept_foldl_fst | apply kept_foldl_snd | apply kept_forEach | split))

@[simp] theorem kept_State_stopWriteSeal {s0_ : State} (s : State) (stage : Nat) (off : Nat) (h_ : Kept s0_ s)  : Kept s0_ (State.stopWriteSeal s stage off) := by
  first
    | (simp (maxDischargeDepth := 40) [State.stopWriteSeal, h_]; done)
    | (unfold State.stopWriteSeal; (try dsimp only); repeat' (first | (simp (maxDischargeDepth := 40) [h_]; done) | intro _ | apply kept_foldl | apply kept_foldl_fst | apply kept_foldl_snd | apply kept_forEach | split))

@[simp] theorem kept_State_quietRestart {s0_ : State} (s : State) (h_ : Kept s0_ s)  : Kept s0_ (State.quietRestart s) := by
  first
    | (simp (maxDischargeDepth := 40) [State.quietRestart, h_]; done)
    | (unfold State.quietRestart; (try dsimp only); repeat' (first | (simp (maxDischargeDepth := 40) [h_]; done) | intro _ | apply kept_foldl | apply kept_foldl_fst | apply kept_foldl_snd | apply kept_forEach | split))

@[simp] theorem kept_State_enterStopped {s0_ : State} (s : State) (h_ : Kept s0_ s)  : Kept s0_ (State.enterStopped s) := by
  first
    | (simp (maxDischargeDepth := 40) [State.enterStopped, h_]; done)
    | (unfold State.enterStopped; (try dsimp only); repeat' (first | (simp (maxDischargeDepth := 40) [h_]; done) | intro _ | apply kept_foldl | apply kept_foldl_fst | apply kept_foldl_snd | apply kept_forEach | split))

@[simp] theorem kept_State_sealAndStop {s0_ : State} (s : State) (stage : Nat) (off : Nat) (h_ : Kept s0_ s)  : Kept s0_ (State.sealAndStop s stage off) := by
  first
    | (simp (maxDischargeDepth := 40) [State.sealAndStop, h_]; done)
    | (unfold State.sealAndStop; (try dsimp only); repeat' (first | (simp (maxDischargeDepth := 40) [h_]; done) | intro _ | apply kept_foldl | apply kept_foldl_fst | apply kept_foldl_snd | apply kept_forEach | split))

@[simp] theorem kept_State_stopRecordOnly {s0_ : State} (s : State) (causes : Nat) (h_ : Kept s0_ s)  : Kept s0_ (State.stopRecordOnly s causes) := by
  first
    | (simp (maxDischargeDepth := 40) [State.stopRecordOnly, h_]; done)
    | (unfold State.stopRecordOnly; (try dsimp only); repeat' (first | (simp (maxDischargeDepth := 40) [h_]; done) | intro _ | apply kept_foldl | apply kept_foldl_fst | apply kept_foldl_snd | apply kept_forEach | split))

@[simp] theorem kept_State_abandonStart {s0_ : State} (s : State) (causes : Nat) (fail : Nat) (h_ : Kept s0_ s)  : Kept s0_ (State.abandonStart s causes fail) := by
  first
    | (simp (maxDischargeDepth := 40) [State.abandonStart, h_]; done)
    | (unfold State.abandonStart; (try dsimp only); repeat' (first | (simp (maxDischargeDepth := 40) [h_]; done) | intro _ | apply kept_foldl | apply kept_foldl_fst | apply kept_foldl_snd | apply kept_forEach | split))

@[simp] theorem kept_State_abandonBoot {s0_ : State} (s : State) (fail : Nat) (h_ : Kept s0_ s)  : Kept s0_ (State.abandonBoot s fail) := by
  first
    | (simp (maxDischargeDepth := 40) [State.abandonBoot, h_]; done)
    | (unfold State.abandonBoot; (try dsimp only); repeat' (first | (simp (maxDischargeDepth := 40) [h_]; done) | intro _ | apply kept_foldl | apply kept_foldl_fst | apply kept_foldl_snd | apply kept_forEach | split))

@[simp] theorem kept_State_stopCause {s0_ : State} (s : State) (causes : Nat) (h_ : Kept s0_ s)  : Kept s0_ (State.stopCause s causes) := by
  first
    | (simp (maxDischargeDepth := 40) [State.stopCause, h_]; done)
    | (unfold State.stopCause; (try dsimp only); repeat' (first | (simp (maxDischargeDepth := 40) [h_]; done) | intro _ | apply kept_foldl | apply kept_foldl_fst | apply kept_foldl_snd | apply kept_forEach | split))

end Sys2Proof.Machine
end

