-- ==== Sys2Proof/Laws/KeptPaceOps.lean ====
section
/-! SUPPORT. What the operations of Machine/PaceOps.lean keep (Laws/Kept.lean). -/

set_option linter.unusedSimpArgs false
set_option linter.unusedVariables false

namespace Sys2Proof.Machine

@[simp] theorem kept_State_paceSend {s0_ : State} (s : State) (f : PaceTx) (h_ : Kept s0_ s)  : Kept s0_ (State.paceSend s f) := by
  first
    | (simp (maxDischargeDepth := 40) [State.paceSend, h_]; done)
    | (unfold State.paceSend; (try dsimp only); repeat' (first | (simp (maxDischargeDepth := 40) [h_]; done) | intro _ | apply kept_foldl | apply kept_foldl_fst | apply kept_foldl_snd | apply kept_forEach | split))

@[simp] theorem kept_State_newSeq {s0_ : State} (s : State) (old : Option Nat) (h_ : Kept s0_ s)  : Kept s0_ (State.newSeq s old).2 := by
  first
    | (simp (maxDischargeDepth := 40) [State.newSeq, h_]; done)
    | (unfold State.newSeq; (try dsimp only); repeat' (first | (simp (maxDischargeDepth := 40) [h_]; done) | intro _ | apply kept_foldl | apply kept_foldl_fst | apply kept_foldl_snd | apply kept_forEach | split))

@[simp] theorem kept_State_paceDiscover {s0_ : State} (s : State) (h_ : Kept s0_ s)  : Kept s0_ (State.paceDiscover s) := by
  first
    | (simp (maxDischargeDepth := 40) [State.paceDiscover, h_]; done)
    | (unfold State.paceDiscover; (try dsimp only); repeat' (first | (simp (maxDischargeDepth := 40) [h_]; done) | intro _ | apply kept_foldl | apply kept_foldl_fst | apply kept_foldl_snd | apply kept_forEach | split))

@[simp] theorem kept_State_paceJoin {s0_ : State} (s : State) (h_ : Kept s0_ s)  : Kept s0_ (State.paceJoin s) := by
  first
    | (simp (maxDischargeDepth := 40) [State.paceJoin, h_]; done)
    | (unfold State.paceJoin; (try dsimp only); repeat' (first | (simp (maxDischargeDepth := 40) [h_]; done) | intro _ | apply kept_foldl | apply kept_foldl_fst | apply kept_foldl_snd | apply kept_forEach | split))

@[simp] theorem kept_State_paceDown {s0_ : State} (s : State) (h_ : Kept s0_ s)  : Kept s0_ (State.paceDown s) := by
  first
    | (simp (maxDischargeDepth := 40) [State.paceDown, h_]; done)
    | (unfold State.paceDown; (try dsimp only); repeat' (first | (simp (maxDischargeDepth := 40) [h_]; done) | intro _ | apply kept_foldl | apply kept_foldl_fst | apply kept_foldl_snd | apply kept_forEach | split))

@[simp] theorem kept_State_paceBlockReset {s0_ : State} (s : State) (h_ : Kept s0_ s)  : Kept s0_ (State.paceBlockReset s) := by
  first
    | (simp (maxDischargeDepth := 40) [State.paceBlockReset, h_]; done)
    | (unfold State.paceBlockReset; (try dsimp only); repeat' (first | (simp (maxDischargeDepth := 40) [h_]; done) | intro _ | apply kept_foldl | apply kept_foldl_fst | apply kept_foldl_snd | apply kept_forEach | split))

@[simp] theorem kept_State_paceRelease {s0_ : State} (s : State) (relay : Bool) (group : Nat) (h_ : Kept s0_ s)  : Kept s0_ (State.paceRelease s relay group) := by
  first
    | (simp (maxDischargeDepth := 40) [State.paceRelease, h_]; done)
    | (unfold State.paceRelease; (try dsimp only); repeat' (first | (simp (maxDischargeDepth := 40) [h_]; done) | intro _ | apply kept_foldl | apply kept_foldl_fst | apply kept_foldl_snd | apply kept_forEach | split))

@[simp] theorem kept_State_paceLeave {s0_ : State} (s : State) (h_ : Kept s0_ s)  : Kept s0_ (State.paceLeave s) := by
  first
    | (simp (maxDischargeDepth := 40) [State.paceLeave, h_]; done)
    | (unfold State.paceLeave; (try dsimp only); repeat' (first | (simp (maxDischargeDepth := 40) [h_]; done) | intro _ | apply kept_foldl | apply kept_foldl_fst | apply kept_foldl_snd | apply kept_forEach | split))

end Sys2Proof.Machine
end

