-- ==== Sys2Proof/Laws/KeptReset.lean ====
section
/-! SUPPORT. What the operations of Machine/Reset.lean keep (Laws/Kept.lean). -/

set_option linter.unusedSimpArgs false
set_option linter.unusedVariables false

namespace Sys2Proof.Machine

@[simp] theorem kept_State_fastReset {s0_ : State} (s : State) (again : Bool) (h_ : Kept s0_ s)  : Kept s0_ (State.fastReset s again) := by
  first
    | (simp (maxDischargeDepth := 40) [State.fastReset, h_]; done)
    | (unfold State.fastReset; (try dsimp only); repeat' (first | (simp (maxDischargeDepth := 40) [h_]; done) | intro _ | apply kept_foldl | apply kept_foldl_fst | apply kept_foldl_snd | apply kept_forEach | split))

@[simp] theorem kept_State_coldReset {s0_ : State} (s : State) (h_ : Kept s0_ s)  : Kept s0_ (State.coldReset s) := by
  first
    | (simp (maxDischargeDepth := 40) [State.coldReset, h_]; done)
    | (unfold State.coldReset; (try dsimp only); repeat' (first | (simp (maxDischargeDepth := 40) [h_]; done) | intro _ | apply kept_foldl | apply kept_foldl_fst | apply kept_foldl_snd | apply kept_forEach | split))

end Sys2Proof.Machine
end

