-- ==== Sys2Proof/Laws/KeptFaults.lean ====
section
/-! SUPPORT. What the operations of Machine/Faults.lean keep (Laws/Kept.lean). -/

set_option linter.unusedSimpArgs false
set_option linter.unusedVariables false

namespace Sys2Proof.Machine

@[simp] theorem kept_State_alertUpdate {s0_ s : State} (h : Kept s0_ s) : Kept s0_ s.alertUpdate := by
  simp [State.alertUpdate, h]

@[simp] theorem kept_State_writeIncident {s0_ : State} (s : State) (dur : Nat) (h_ : Kept s0_ s)  : Kept s0_ (State.writeIncident s dur) := by
  first
    | (simp (maxDischargeDepth := 40) [State.writeIncident, h_]; done)
    | (unfold State.writeIncident; (try dsimp only); repeat' (first | (simp (maxDischargeDepth := 40) [h_]; done) | intro _ | apply kept_foldl | apply kept_foldl_fst | apply kept_foldl_snd | apply kept_forEach | split))

@[simp] theorem kept_State_pushTrap {s0_ : State} (s : State) (l : List (BitVec 64)) (h_ : Kept s0_ s)  : Kept s0_ (State.pushTrap s l) := by
  first
    | (simp (maxDischargeDepth := 40) [State.pushTrap, h_]; done)
    | (unfold State.pushTrap; (try dsimp only); repeat' (first | (simp (maxDischargeDepth := 40) [h_]; done) | intro _ | apply kept_foldl | apply kept_foldl_fst | apply kept_foldl_snd | apply kept_forEach | split))

@[simp] theorem kept_State_suspendAudits {s0_ : State} (s : State) (h_ : Kept s0_ s)  : Kept s0_ (State.suspendAudits s) := by
  first
    | (simp (maxDischargeDepth := 40) [State.suspendAudits, h_]; done)
    | (unfold State.suspendAudits; (try dsimp only); repeat' (first | (simp (maxDischargeDepth := 40) [h_]; done) | intro _ | apply kept_foldl | apply kept_foldl_fst | apply kept_foldl_snd | apply kept_forEach | split))

@[simp] theorem kept_State_fsrAssert {s0_ : State} (s : State) (h_ : Kept s0_ s)  : Kept s0_ (State.fsrAssert s) := by
  first
    | (simp (maxDischargeDepth := 40) [State.fsrAssert, h_]; done)
    | (unfold State.fsrAssert; (try dsimp only); repeat' (first | (simp (maxDischargeDepth := 40) [h_]; done) | intro _ | apply kept_foldl | apply kept_foldl_fst | apply kept_foldl_snd | apply kept_forEach | split))

@[simp] theorem kept_State_dscBlockReset {s0_ : State} (s : State) (d : Nat) (h_ : Kept s0_ s)  : Kept s0_ (State.dscBlockReset s d) := by
  first
    | (simp (maxDischargeDepth := 40) [State.dscBlockReset, h_]; done)
    | (unfold State.dscBlockReset; (try dsimp only); repeat' (first | (simp (maxDischargeDepth := 40) [h_]; done) | intro _ | apply kept_foldl | apply kept_foldl_fst | apply kept_foldl_snd | apply kept_forEach | split))

@[simp] theorem kept_State_hkcBlockReset {s0_ : State} (s : State) (k : Nat) (h_ : Kept s0_ s)  : Kept s0_ (State.hkcBlockReset s k) := by
  first
    | (simp (maxDischargeDepth := 40) [State.hkcBlockReset, h_]; done)
    | (unfold State.hkcBlockReset; (try dsimp only); repeat' (first | (simp (maxDischargeDepth := 40) [h_]; done) | intro _ | apply kept_foldl | apply kept_foldl_fst | apply kept_foldl_snd | apply kept_forEach | split))

@[simp] theorem kept_State_policyBlockReset {s0_ : State} (s : State) (h_ : Kept s0_ s)  : Kept s0_ (State.policyBlockReset s) := by
  first
    | (simp (maxDischargeDepth := 40) [State.policyBlockReset, h_]; done)
    | (unfold State.policyBlockReset; (try dsimp only); repeat' (first | (simp (maxDischargeDepth := 40) [h_]; done) | intro _ | apply kept_foldl | apply kept_foldl_fst | apply kept_foldl_snd | apply kept_forEach | split))

@[simp] theorem kept_State_ringBlockReset {s0_ : State} (s : State) (h_ : Kept s0_ s)  : Kept s0_ (State.ringBlockReset s) := by
  first
    | (simp (maxDischargeDepth := 40) [State.ringBlockReset, h_]; done)
    | (unfold State.ringBlockReset; (try dsimp only); repeat' (first | (simp (maxDischargeDepth := 40) [h_]; done) | intro _ | apply kept_foldl | apply kept_foldl_fst | apply kept_foldl_snd | apply kept_forEach | split))

@[simp] theorem kept_State_blockReset {s0_ : State} (s : State) (b : Block) (obj : Nat) (h_ : Kept s0_ s)  : Kept s0_ (State.blockReset s b obj) := by
  first
    | (simp (maxDischargeDepth := 40) [State.blockReset, h_]; done)
    | (unfold State.blockReset; (try dsimp only); repeat' (first | (simp (maxDischargeDepth := 40) [h_]; done) | intro _ | apply kept_foldl | apply kept_foldl_fst | apply kept_foldl_snd | apply kept_forEach | split))

@[simp] theorem kept_State_blockReleased {s0_ : State} (s : State) (b : Block) (obj : Nat) (h_ : Kept s0_ s)  : Kept s0_ (State.blockReleased s b obj) := by
  first
    | (simp (maxDischargeDepth := 40) [State.blockReleased, h_]; done)
    | (unfold State.blockReleased; (try dsimp only); repeat' (first | (simp (maxDischargeDepth := 40) [h_]; done) | intro _ | apply kept_foldl | apply kept_foldl_fst | apply kept_foldl_snd | apply kept_forEach | split))

@[simp] theorem kept_State_holdAudit {s0_ : State} (s : State) (h_ : Kept s0_ s)  : Kept s0_ (State.holdAudit s) := by
  first
    | (simp (maxDischargeDepth := 40) [State.holdAudit, h_]; done)
    | (unfold State.holdAudit; (try dsimp only); repeat' (first | (simp (maxDischargeDepth := 40) [h_]; done) | intro _ | apply kept_foldl | apply kept_foldl_fst | apply kept_foldl_snd | apply kept_forEach | split))

@[simp] theorem kept_State_startAudit {s0_ : State} (s : State) (src : Nat) (obj : Nat) (h_ : Kept s0_ s)  : Kept s0_ (State.startAudit s src obj) := by
  first
    | (simp (maxDischargeDepth := 40) [State.startAudit, h_]; done)
    | (unfold State.startAudit; (try dsimp only); repeat' (first | (simp (maxDischargeDepth := 40) [h_]; done) | intro _ | apply kept_foldl | apply kept_foldl_fst | apply kept_foldl_snd | apply kept_forEach | split))

@[simp] theorem kept_State_burstAudit {s0_ : State} (s : State) (c : Nat) (h_ : Kept s0_ s)  : Kept s0_ (State.burstAudit s c) := by
  first
    | (simp (maxDischargeDepth := 40) [State.burstAudit, h_]; done)
    | (unfold State.burstAudit; (try dsimp only); repeat' (first | (simp (maxDischargeDepth := 40) [h_]; done) | intro _ | apply kept_foldl | apply kept_foldl_fst | apply kept_foldl_snd | apply kept_forEach | split))

@[simp] theorem kept_State_errnPulse {s0_ : State} (s : State) (h_ : Kept s0_ s)  : Kept s0_ (State.errnPulse s) := by
  first
    | (simp (maxDischargeDepth := 40) [State.errnPulse, h_]; done)
    | (unfold State.errnPulse; (try dsimp only); repeat' (first | (simp (maxDischargeDepth := 40) [h_]; done) | intro _ | apply kept_foldl | apply kept_foldl_fst | apply kept_foldl_snd | apply kept_forEach | split))

@[simp] theorem kept_State_errnSettle {s0_ : State} (s : State) (h_ : Kept s0_ s)  : Kept s0_ (State.errnSettle s) := by
  first
    | (simp (maxDischargeDepth := 40) [State.errnSettle, h_]; done)
    | (unfold State.errnSettle; (try dsimp only); repeat' (first | (simp (maxDischargeDepth := 40) [h_]; done) | intro _ | apply kept_foldl | apply kept_foldl_fst | apply kept_foldl_snd | apply kept_forEach | split))

@[simp] theorem kept_State_setErrnHold {s0_ : State} (s : State) (b : Bool) (h_ : Kept s0_ s)  : Kept s0_ (State.setErrnHold s b) := by
  first
    | (simp (maxDischargeDepth := 40) [State.setErrnHold, h_]; done)
    | (unfold State.setErrnHold; (try dsimp only); repeat' (first | (simp (maxDischargeDepth := 40) [h_]; done) | intro _ | apply kept_foldl | apply kept_foldl_fst | apply kept_foldl_snd | apply kept_forEach | split))

@[simp] theorem kept_State_reactI {s0_ : State} (s : State) (src : Nat) (obj : Nat) (h_ : Kept s0_ s)  : Kept s0_ (State.reactI s src obj) := by
  first
    | (simp (maxDischargeDepth := 40) [State.reactI, h_]; done)
    | (unfold State.reactI; (try dsimp only); repeat' (first | (simp (maxDischargeDepth := 40) [h_]; done) | intro _ | apply kept_foldl | apply kept_foldl_fst | apply kept_foldl_snd | apply kept_forEach | split))

@[simp] theorem kept_State_reactC {s0_ : State} (s : State) (h_ : Kept s0_ s)  : Kept s0_ (State.reactC s) := by
  first
    | (simp (maxDischargeDepth := 40) [State.reactC, h_]; done)
    | (unfold State.reactC; (try dsimp only); repeat' (first | (simp (maxDischargeDepth := 40) [h_]; done) | intro _ | apply kept_foldl | apply kept_foldl_fst | apply kept_foldl_snd | apply kept_forEach | split))

@[simp] theorem kept_State_issue {s0_ : State} (s : State) (src : Nat) (obj : Nat) (new : Nat) (h_ : Kept s0_ s)  : Kept s0_ (State.issue s src obj new) := by
  first
    | (simp (maxDischargeDepth := 40) [State.issue, h_]; done)
    | (unfold State.issue; (try dsimp only); repeat' (first | (simp (maxDischargeDepth := 40) [h_]; done) | intro _ | apply kept_foldl | apply kept_foldl_fst | apply kept_foldl_snd | apply kept_forEach | split))

@[simp] theorem kept_State_countRaise {s0_ : State} (s : State) (src : Nat) (obj : Nat) (h_ : Kept s0_ s)  : Kept s0_ (State.countRaise s src obj) := by
  first
    | (simp (maxDischargeDepth := 40) [State.countRaise, h_]; done)
    | (unfold State.countRaise; (try dsimp only); repeat' (first | (simp (maxDischargeDepth := 40) [h_]; done) | intro _ | apply kept_foldl | apply kept_foldl_fst | apply kept_foldl_snd | apply kept_forEach | split))

@[simp] theorem kept_State_repeatRaise {s0_ : State} (s : State) (h_ : Kept s0_ s)  : Kept s0_ (State.repeatRaise s) := by
  first
    | (simp (maxDischargeDepth := 40) [State.repeatRaise, h_]; done)
    | (unfold State.repeatRaise; (try dsimp only); repeat' (first | (simp (maxDischargeDepth := 40) [h_]; done) | intro _ | apply kept_foldl | apply kept_foldl_fst | apply kept_foldl_snd | apply kept_forEach | split))

@[simp] theorem kept_State_openIncident {s0_ : State} (s : State) (src : Nat) (obj : Nat) (inj : Bool) (h_ : Kept s0_ s)  : Kept s0_ (State.openIncident s src obj inj) := by
  first
    | (simp (maxDischargeDepth := 40) [State.openIncident, h_]; done)
    | (unfold State.openIncident; (try dsimp only); repeat' (first | (simp (maxDischargeDepth := 40) [h_]; done) | intro _ | apply kept_foldl | apply kept_foldl_fst | apply kept_foldl_snd | apply kept_forEach | split))

@[simp] theorem kept_State_mergeRaise {s0_ : State} (s : State) (src : Nat) (inj : Bool) (h_ : Kept s0_ s)  : Kept s0_ (State.mergeRaise s src inj) := by
  first
    | (simp (maxDischargeDepth := 40) [State.mergeRaise, h_]; done)
    | (unfold State.mergeRaise; (try dsimp only); repeat' (first | (simp (maxDischargeDepth := 40) [h_]; done) | intro _ | apply kept_foldl | apply kept_foldl_fst | apply kept_foldl_snd | apply kept_forEach | split))

@[simp] theorem kept_State_handleRaise {s0_ : State} (s : State) (src : Nat) (obj : Nat) (newSrc : Bool) (h_ : Kept s0_ s)  : Kept s0_ (State.handleRaise s src obj newSrc) := by
  first
    | (simp (maxDischargeDepth := 40) [State.handleRaise, h_]; done)
    | (unfold State.handleRaise; (try dsimp only); repeat' (first | (simp (maxDischargeDepth := 40) [h_]; done) | intro _ | apply kept_foldl | apply kept_foldl_fst | apply kept_foldl_snd | apply kept_forEach | split))

@[simp] theorem kept_State_abandonAudits {s0_ : State} (s : State) (h_ : Kept s0_ s)  : Kept s0_ (State.abandonAudits s) := by
  first
    | (simp (maxDischargeDepth := 40) [State.abandonAudits, h_]; done)
    | (unfold State.abandonAudits; (try dsimp only); repeat' (first | (simp (maxDischargeDepth := 40) [h_]; done) | intro _ | apply kept_foldl | apply kept_foldl_fst | apply kept_foldl_snd | apply kept_forEach | split))

@[simp] theorem kept_State_raise {s0_ : State} (s : State) (src : Nat) (obj : Nat) (inj : Bool) (h_ : Kept s0_ s)  : Kept s0_ (State.raise s src obj inj) := by
  first
    | (simp (maxDischargeDepth := 40) [State.raise, h_]; done)
    | (unfold State.raise; (try dsimp only); repeat' (first | (simp (maxDischargeDepth := 40) [h_]; done) | intro _ | apply kept_foldl | apply kept_foldl_fst | apply kept_foldl_snd | apply kept_forEach | split))

@[simp] theorem kept_State_concludeAudit {s0_ : State} (s : State) (src : Nat) (pass : Bool) (held : Bool) (h_ : Kept s0_ s)  : Kept s0_ (State.concludeAudit s src pass held) := by
  first
    | (simp (maxDischargeDepth := 40) [State.concludeAudit, h_]; done)
    | (unfold State.concludeAudit; (try dsimp only); repeat' (first | (simp (maxDischargeDepth := 40) [h_]; done) | intro _ | apply kept_foldl | apply kept_foldl_fst | apply kept_foldl_snd | apply kept_forEach | split))

@[simp] theorem kept_State_closeIncident {s0_ : State} (s : State) (overrun : Bool) (h_ : Kept s0_ s)  : Kept s0_ (State.closeIncident s overrun) := by
  first
    | (simp (maxDischargeDepth := 40) [State.closeIncident, h_]; done)
    | (unfold State.closeIncident; (try dsimp only); repeat' (first | (simp (maxDischargeDepth := 40) [h_]; done) | intro _ | apply kept_foldl | apply kept_foldl_fst | apply kept_foldl_snd | apply kept_forEach | split))

@[simp] theorem kept_State_winRefused {s0_ : State} (s : State) (code : Nat) (off : Nat) (write : Bool) (h_ : Kept s0_ s)  : Kept s0_ (State.winRefused s code off write) := by
  first
    | (simp (maxDischargeDepth := 40) [State.winRefused, h_]; done)
    | (unfold State.winRefused; (try dsimp only); repeat' (first | (simp (maxDischargeDepth := 40) [h_]; done) | intro _ | apply kept_foldl | apply kept_foldl_fst | apply kept_foldl_snd | apply kept_forEach | split))

@[simp] theorem kept_closing {s0_ s t : State} (k : Kept s0_ t) : Kept s0_ (closing s t) := by
  unfold closing; dsimp only
  repeat' (first | (simp (maxDischargeDepth := 40) [k]; done) | split)

@[simp] theorem outKept_settle {s0_ s t : State} (k : Kept s0_ t) : OutKept s0_ (settle s t) := kept_closing k

end Sys2Proof.Machine
end

