-- ==== Sys2Proof/Laws/KeptRingOps.lean ====
section
/-! SUPPORT. What the operations of Machine/RingOps.lean keep (Laws/Kept.lean). -/

set_option linter.unusedSimpArgs false
set_option linter.unusedVariables false

namespace Sys2Proof.Machine

@[simp] theorem kept_State_pushCompl {s0_ : State} (s : State) (c : Compl) (h_ : Kept s0_ s)  : Kept s0_ (State.pushCompl s c) := by
  first
    | (simp (maxDischargeDepth := 40) [State.pushCompl, h_]; done)
    | (unfold State.pushCompl; (try dsimp only); repeat' (first | (simp (maxDischargeDepth := 40) [h_]; done) | intro _ | apply kept_foldl | apply kept_foldl_fst | apply kept_foldl_snd | apply kept_forEach | split))

@[simp] theorem kept_State_complete {s0_ : State} (s : State) (x : CmdCtx) (opcode : Nat) (status : Nat) (data : Nat) (h_ : Kept s0_ s)  : Kept s0_ (State.complete s x opcode status data) := by
  first
    | (simp (maxDischargeDepth := 40) [State.complete, h_]; done)
    | (unfold State.complete; (try dsimp only); repeat' (first | (simp (maxDischargeDepth := 40) [h_]; done) | intro _ | apply kept_foldl | apply kept_foldl_fst | apply kept_foldl_snd | apply kept_forEach | split))

@[simp] theorem kept_State_addFlight {s0_ : State} (s : State) (x : CmdCtx) (opcode : Nat) (w : WaitFor) (data : Nat) (h_ : Kept s0_ s)  : Kept s0_ (State.addFlight s x opcode w data) := by
  first
    | (simp (maxDischargeDepth := 40) [State.addFlight, h_]; done)
    | (unfold State.addFlight; (try dsimp only); repeat' (first | (simp (maxDischargeDepth := 40) [h_]; done) | intro _ | apply kept_foldl | apply kept_foldl_fst | apply kept_foldl_snd | apply kept_forEach | split))

@[simp] theorem kept_State_finishWhere {s0_ : State} (s : State) (p : Flight → Option (Nat × Nat)) (h_ : Kept s0_ s)  : Kept s0_ (State.finishWhere s p) := by
  first
    | (simp (maxDischargeDepth := 40) [State.finishWhere, h_]; done)
    | (unfold State.finishWhere; (try dsimp only); repeat' (first | (simp (maxDischargeDepth := 40) [h_]; done) | intro _ | apply kept_foldl | apply kept_foldl_fst | apply kept_foldl_snd | apply kept_forEach | split))

@[simp] theorem kept_State_finish {s0_ : State} (s : State) (w : WaitFor) (status : Nat) (data : Nat) (h_ : Kept s0_ s)  : Kept s0_ (State.finish s w status data) := by
  first
    | (simp (maxDischargeDepth := 40) [State.finish, h_]; done)
    | (unfold State.finish; (try dsimp only); repeat' (first | (simp (maxDischargeDepth := 40) [h_]; done) | intro _ | apply kept_foldl | apply kept_foldl_fst | apply kept_foldl_snd | apply kept_forEach | split))

@[simp] theorem kept_State_flightData {s0_ : State} (s : State) (w : WaitFor) (data : Nat) (h_ : Kept s0_ s)  : Kept s0_ (State.flightData s w data) := by
  first
    | (simp (maxDischargeDepth := 40) [State.flightData, h_]; done)
    | (unfold State.flightData; (try dsimp only); repeat' (first | (simp (maxDischargeDepth := 40) [h_]; done) | intro _ | apply kept_foldl | apply kept_foldl_fst | apply kept_foldl_snd | apply kept_forEach | split))

@[simp] theorem kept_State_supersede {s0_ : State} (s : State) (x : CmdCtx) (h_ : Kept s0_ s)  : Kept s0_ (State.supersede s x) := by
  first
    | (simp (maxDischargeDepth := 40) [State.supersede, h_]; done)
    | (unfold State.supersede; (try dsimp only); repeat' (first | (simp (maxDischargeDepth := 40) [h_]; done) | intro _ | apply kept_foldl | apply kept_foldl_fst | apply kept_foldl_snd | apply kept_forEach | split))

@[simp] theorem kept_State_ringErr {s0_ : State} (s : State) (obj : Nat) (code : Nat) (h_ : Kept s0_ s)  : Kept s0_ (State.ringErr s obj code) := by
  first
    | (simp (maxDischargeDepth := 40) [State.ringErr, h_]; done)
    | (unfold State.ringErr; (try dsimp only); repeat' (first | (simp (maxDischargeDepth := 40) [h_]; done) | intro _ | apply kept_foldl | apply kept_foldl_fst | apply kept_foldl_snd | apply kept_forEach | split))

end Sys2Proof.Machine
end

