-- ==== Sys2Proof/Laws/KeptOrders.lean ====
section
/-! SUPPORT. What the operations of Machine/Orders.lean keep (Laws/Kept.lean). -/

set_option linter.unusedSimpArgs false
set_option linter.unusedVariables false

namespace Sys2Proof.Machine

@[simp] theorem kept_State_queueOrder {s0_ : State} (s : State) (i : Nat) (op : Nat) (arg : Nat) (origin : Origin) (h_ : Kept s0_ s)  : Kept s0_ (State.queueOrder s i op arg origin) := by
  first
    | (simp (maxDischargeDepth := 40) [State.queueOrder, h_]; done)
    | (unfold State.queueOrder; (try dsimp only); repeat' (first | (simp (maxDischargeDepth := 40) [h_]; done) | intro _ | apply kept_foldl | apply kept_foldl_fst | apply kept_foldl_snd | apply kept_forEach | split))

@[simp] theorem kept_State_queueRead {s0_ : State} (s : State) (i : Nat) (origin : Origin) (h_ : Kept s0_ s)  : Kept s0_ (State.queueRead s i origin) := by
  first
    | (simp (maxDischargeDepth := 40) [State.queueRead, h_]; done)
    | (unfold State.queueRead; (try dsimp only); repeat' (first | (simp (maxDischargeDepth := 40) [h_]; done) | intro _ | apply kept_foldl | apply kept_foldl_fst | apply kept_foldl_snd | apply kept_forEach | split))

@[simp] theorem kept_State_queueCfg {s0_ : State} (s : State) (d : Nat) (record : Bool) (h_ : Kept s0_ s)  : Kept s0_ (State.queueCfg s d record) := by
  first
    | (simp (maxDischargeDepth := 40) [State.queueCfg, h_]; done)
    | (unfold State.queueCfg; (try dsimp only); repeat' (first | (simp (maxDischargeDepth := 40) [h_]; done) | intro _ | apply kept_foldl | apply kept_foldl_fst | apply kept_foldl_snd | apply kept_forEach | split))

@[simp] theorem kept_State_queueTrim {s0_ : State} (s : State) (i : Nat) (h_ : Kept s0_ s)  : Kept s0_ (State.queueTrim s i) := by
  first
    | (simp (maxDischargeDepth := 40) [State.queueTrim, h_]; done)
    | (unfold State.queueTrim; (try dsimp only); repeat' (first | (simp (maxDischargeDepth := 40) [h_]; done) | intro _ | apply kept_foldl | apply kept_foldl_fst | apply kept_foldl_snd | apply kept_forEach | split))

@[simp] theorem kept_State_loanAccept {s0_ : State} (s : State) (i : Nat) (recalling : Bool) (cover : Bool) (origin : Origin) (h_ : Kept s0_ s)  : Kept s0_ (State.loanAccept s i recalling cover origin) := by
  first
    | (simp (maxDischargeDepth := 40) [State.loanAccept, h_]; done)
    | (unfold State.loanAccept; (try dsimp only); repeat' (first | (simp (maxDischargeDepth := 40) [h_]; done) | intro _ | apply kept_foldl | apply kept_foldl_fst | apply kept_foldl_snd | apply kept_forEach | split))

@[simp] theorem kept_State_updLoan {s0_ : State} (s : State) (c : Nat) (f : Loan → Loan) (h_ : Kept s0_ s)  : Kept s0_ (State.updLoan s c f) := by
  first
    | (simp (maxDischargeDepth := 40) [State.updLoan, h_]; done)
    | (unfold State.updLoan; (try dsimp only); repeat' (first | (simp (maxDischargeDepth := 40) [h_]; done) | intro _ | apply kept_foldl | apply kept_foldl_fst | apply kept_foldl_snd | apply kept_forEach | split))

@[simp] theorem kept_State_loanBegin {s0_ : State} (s : State) (c : Nat) (l : Loan) (h_ : Kept s0_ s)  : Kept s0_ (State.loanBegin s c l) := by
  first
    | (simp (maxDischargeDepth := 40) [State.loanBegin, h_]; done)
    | (unfold State.loanBegin; (try dsimp only); repeat' (first | (simp (maxDischargeDepth := 40) [h_]; done) | intro _ | apply kept_foldl | apply kept_foldl_fst | apply kept_foldl_snd | apply kept_forEach | split))

@[simp] theorem kept_State_loanEnd {s0_ : State} (s : State) (c : Nat) (l : Loan) (status : Nat) (h_ : Kept s0_ s)  : Kept s0_ (State.loanEnd s c l status) := by
  first
    | (simp (maxDischargeDepth := 40) [State.loanEnd, h_]; done)
    | (unfold State.loanEnd; (try dsimp only); repeat' (first | (simp (maxDischargeDepth := 40) [h_]; done) | intro _ | apply kept_foldl | apply kept_foldl_fst | apply kept_foldl_snd | apply kept_forEach | split))

@[simp] theorem kept_State_loanDropped {s0_ : State} (s : State) (c : Nat) (l : Loan) (h_ : Kept s0_ s)  : Kept s0_ (State.loanDropped s c l) := by
  first
    | (simp (maxDischargeDepth := 40) [State.loanDropped, h_]; done)
    | (unfold State.loanDropped; (try dsimp only); repeat' (first | (simp (maxDischargeDepth := 40) [h_]; done) | intro _ | apply kept_foldl | apply kept_foldl_fst | apply kept_foldl_snd | apply kept_forEach | split))

@[simp] theorem kept_State_loanAborted {s0_ : State} (s : State) (c : Nat) (l : Loan) (h_ : Kept s0_ s)  : Kept s0_ (State.loanAborted s c l) := by
  first
    | (simp (maxDischargeDepth := 40) [State.loanAborted, h_]; done)
    | (unfold State.loanAborted; (try dsimp only); repeat' (first | (simp (maxDischargeDepth := 40) [h_]; done) | intro _ | apply kept_foldl | apply kept_foldl_fst | apply kept_foldl_snd | apply kept_forEach | split))

@[simp] theorem kept_State_loanAbandonNear {s0_ : State} (s : State) (c : Nat) (l : Loan) (h_ : Kept s0_ s)  : Kept s0_ (State.loanAbandonNear s c l) := by
  first
    | (simp (maxDischargeDepth := 40) [State.loanAbandonNear, h_]; done)
    | (unfold State.loanAbandonNear; (try dsimp only); repeat' (first | (simp (maxDischargeDepth := 40) [h_]; done) | intro _ | apply kept_foldl | apply kept_foldl_fst | apply kept_foldl_snd | apply kept_forEach | split))

@[simp] theorem kept_State_loanAbandonFar {s0_ : State} (s : State) (c : Nat) (l : Loan) (h_ : Kept s0_ s)  : Kept s0_ (State.loanAbandonFar s c l) := by
  first
    | (simp (maxDischargeDepth := 40) [State.loanAbandonFar, h_]; done)
    | (unfold State.loanAbandonFar; (try dsimp only); repeat' (first | (simp (maxDischargeDepth := 40) [h_]; done) | intro _ | apply kept_foldl | apply kept_foldl_fst | apply kept_foldl_snd | apply kept_forEach | split))

@[simp] theorem kept_State_loanJoin {s0_ : State} (s : State) (c : Nat) (l : Loan) (h_ : Kept s0_ s)  : Kept s0_ (State.loanJoin s c l) := by
  first
    | (simp (maxDischargeDepth := 40) [State.loanJoin, h_]; done)
    | (unfold State.loanJoin; (try dsimp only); repeat' (first | (simp (maxDischargeDepth := 40) [h_]; done) | intro _ | apply kept_foldl | apply kept_foldl_fst | apply kept_foldl_snd | apply kept_forEach | split))

@[simp] theorem kept_State_loanCommit {s0_ : State} (s : State) (c : Nat) (h_ : Kept s0_ s)  : Kept s0_ (State.loanCommit s c) := by
  first
    | (simp (maxDischargeDepth := 40) [State.loanCommit, h_]; done)
    | (unfold State.loanCommit; (try dsimp only); repeat' (first | (simp (maxDischargeDepth := 40) [h_]; done) | intro _ | apply kept_foldl | apply kept_foldl_fst | apply kept_foldl_snd | apply kept_forEach | split))

@[simp] theorem kept_State_loanReply {s0_ : State} (s : State) (c : Nat) (o : Order) (r : Option (Nat × Nat)) (h_ : Kept s0_ s)  : Kept s0_ (State.loanReply s c o r) := by
  first
    | (simp (maxDischargeDepth := 40) [State.loanReply, h_]; done)
    | (unfold State.loanReply; (try dsimp only); repeat' (first | (simp (maxDischargeDepth := 40) [h_]; done) | intro _ | apply kept_foldl | apply kept_foldl_fst | apply kept_foldl_snd | apply kept_forEach | split))

@[simp] theorem kept_State_offOrder {s0_ : State} (s : State) (d : Nat) (h_ : Kept s0_ s)  : Kept s0_ (State.offOrder s d) := by
  first
    | (simp (maxDischargeDepth := 40) [State.offOrder, h_]; done)
    | (unfold State.offOrder; (try dsimp only); repeat' (first | (simp (maxDischargeDepth := 40) [h_]; done) | intro _ | apply kept_foldl | apply kept_foldl_fst | apply kept_foldl_snd | apply kept_forEach | split))

@[simp] theorem kept_State_giveUp {s0_ : State} (s : State) (d : Nat) (reason : Nat) (h_ : Kept s0_ s)  : Kept s0_ (State.giveUp s d reason) := by
  first
    | (simp (maxDischargeDepth := 40) [State.giveUp, h_]; done)
    | (unfold State.giveUp; (try dsimp only); repeat' (first | (simp (maxDischargeDepth := 40) [h_]; done) | intro _ | apply kept_foldl | apply kept_foldl_fst | apply kept_foldl_snd | apply kept_forEach | split))

@[simp] theorem kept_State_domStart {s0_ : State} (s : State) (d : Nat) (h_ : Kept s0_ s)  : Kept s0_ (State.domStart s d) := by
  first
    | (simp (maxDischargeDepth := 40) [State.domStart, h_]; done)
    | (unfold State.domStart; (try dsimp only); repeat' (first | (simp (maxDischargeDepth := 40) [h_]; done) | intro _ | apply kept_foldl | apply kept_foldl_fst | apply kept_foldl_snd | apply kept_forEach | split))

@[simp] theorem kept_State_shedCell {s0_ : State} (s : State) (i : Nat) (d : Nat) (h_ : Kept s0_ s)  : Kept s0_ (State.shedCell s i d) := by
  first
    | (simp (maxDischargeDepth := 40) [State.shedCell, h_]; done)
    | (unfold State.shedCell; (try dsimp only); repeat' (first | (simp (maxDischargeDepth := 40) [h_]; done) | intro _ | apply kept_foldl | apply kept_foldl_fst | apply kept_foldl_snd | apply kept_forEach | split))

@[simp] theorem kept_State_startCommit {s0_ : State} (s : State) (d : Nat) (h_ : Kept s0_ s)  : Kept s0_ (State.startCommit s d) := by
  first
    | (simp (maxDischargeDepth := 40) [State.startCommit, h_]; done)
    | (unfold State.startCommit; (try dsimp only); repeat' (first | (simp (maxDischargeDepth := 40) [h_]; done) | intro _ | apply kept_foldl | apply kept_foldl_fst | apply kept_foldl_snd | apply kept_forEach | split))

@[simp] theorem kept_State_stageReply {s0_ : State} (s : State) (o : Order) (r : Option (Nat × Nat)) (h_ : Kept s0_ s)  : Kept s0_ (State.stageReply s o r) := by
  first
    | (simp (maxDischargeDepth := 40) [State.stageReply, h_]; done)
    | (unfold State.stageReply; (try dsimp only); repeat' (first | (simp (maxDischargeDepth := 40) [h_]; done) | intro _ | apply kept_foldl | apply kept_foldl_fst | apply kept_foldl_snd | apply kept_forEach | split))

@[simp] theorem kept_State_updAudit {s0_ : State} (s : State) (i : Nat) (f : CAudit → CAudit) (h_ : Kept s0_ s)  : Kept s0_ (State.updAudit s i f) := by
  first
    | (simp (maxDischargeDepth := 40) [State.updAudit, h_]; done)
    | (unfold State.updAudit; (try dsimp only); repeat' (first | (simp (maxDischargeDepth := 40) [h_]; done) | intro _ | apply kept_foldl | apply kept_foldl_fst | apply kept_foldl_snd | apply kept_forEach | split))

@[simp] theorem kept_State_dropAudit {s0_ : State} (s : State) (i : Nat) (h_ : Kept s0_ s)  : Kept s0_ (State.dropAudit s i) := by
  first
    | (simp (maxDischargeDepth := 40) [State.dropAudit, h_]; done)
    | (unfold State.dropAudit; (try dsimp only); repeat' (first | (simp (maxDischargeDepth := 40) [h_]; done) | intro _ | apply kept_foldl | apply kept_foldl_fst | apply kept_foldl_snd | apply kept_forEach | split))

@[simp] theorem kept_State_auditTest {s0_ : State} (s : State) (i : Nat) (h_ : Kept s0_ s)  : Kept s0_ (State.auditTest s i) := by
  first
    | (simp (maxDischargeDepth := 40) [State.auditTest, h_]; done)
    | (unfold State.auditTest; (try dsimp only); repeat' (first | (simp (maxDischargeDepth := 40) [h_]; done) | intro _ | apply kept_foldl | apply kept_foldl_fst | apply kept_foldl_snd | apply kept_forEach | split))

@[simp] theorem kept_State_auditLasting {s0_ : State} (s : State) (a : CAudit) (h_ : Kept s0_ s)  : Kept s0_ (State.auditLasting s a) := by
  first
    | (simp (maxDischargeDepth := 40) [State.auditLasting, h_]; done)
    | (unfold State.auditLasting; (try dsimp only); repeat' (first | (simp (maxDischargeDepth := 40) [h_]; done) | intro _ | apply kept_foldl | apply kept_foldl_fst | apply kept_foldl_snd | apply kept_forEach | split))

@[simp] theorem kept_State_coverDone {s0_ : State} (s : State) (k : Nat) (h_ : Kept s0_ s)  : Kept s0_ (State.coverDone s k) := by
  first
    | (simp (maxDischargeDepth := 40) [State.coverDone, h_]; done)
    | (unfold State.coverDone; (try dsimp only); repeat' (first | (simp (maxDischargeDepth := 40) [h_]; done) | intro _ | apply kept_foldl | apply kept_foldl_fst | apply kept_foldl_snd | apply kept_forEach | split))

@[simp] theorem kept_State_auditRecall {s0_ : State} (s : State) (k : Nat) (h_ : Kept s0_ s)  : Kept s0_ (State.auditRecall s k) := by
  first
    | (simp (maxDischargeDepth := 40) [State.auditRecall, h_]; done)
    | (unfold State.auditRecall; (try dsimp only); repeat' (first | (simp (maxDischargeDepth := 40) [h_]; done) | intro _ | apply kept_foldl | apply kept_foldl_fst | apply kept_foldl_snd | apply kept_forEach | split))

@[simp] theorem kept_State_auditRejoined {s0_ : State} (s : State) (a : CAudit) (h_ : Kept s0_ s)  : Kept s0_ (State.auditRejoined s a) := by
  first
    | (simp (maxDischargeDepth := 40) [State.auditRejoined, h_]; done)
    | (unfold State.auditRejoined; (try dsimp only); repeat' (first | (simp (maxDischargeDepth := 40) [h_]; done) | intro _ | apply kept_foldl | apply kept_foldl_fst | apply kept_foldl_snd | apply kept_forEach | split))

@[simp] theorem kept_State_auditReturn {s0_ : State} (s : State) (a : CAudit) (h_ : Kept s0_ s)  : Kept s0_ (State.auditReturn s a) := by
  first
    | (simp (maxDischargeDepth := 40) [State.auditReturn, h_]; done)
    | (unfold State.auditReturn; (try dsimp only); repeat' (first | (simp (maxDischargeDepth := 40) [h_]; done) | intro _ | apply kept_foldl | apply kept_foldl_fst | apply kept_foldl_snd | apply kept_forEach | split))

@[simp] theorem kept_State_auditTransient {s0_ : State} (s : State) (a : CAudit) (h_ : Kept s0_ s)  : Kept s0_ (State.auditTransient s a) := by
  first
    | (simp (maxDischargeDepth := 40) [State.auditTransient, h_]; done)
    | (unfold State.auditTransient; (try dsimp only); repeat' (first | (simp (maxDischargeDepth := 40) [h_]; done) | intro _ | apply kept_foldl | apply kept_foldl_fst | apply kept_foldl_snd | apply kept_forEach | split))

@[simp] theorem kept_State_auditCommit {s0_ : State} (s : State) (a : CAudit) (h_ : Kept s0_ s)  : Kept s0_ (State.auditCommit s a) := by
  first
    | (simp (maxDischargeDepth := 40) [State.auditCommit, h_]; done)
    | (unfold State.auditCommit; (try dsimp only); repeat' (first | (simp (maxDischargeDepth := 40) [h_]; done) | intro _ | apply kept_foldl | apply kept_foldl_fst | apply kept_foldl_snd | apply kept_forEach | split))

@[simp] theorem kept_State_auditRejoin {s0_ : State} (s : State) (a : CAudit) (h_ : Kept s0_ s)  : Kept s0_ (State.auditRejoin s a) := by
  first
    | (simp (maxDischargeDepth := 40) [State.auditRejoin, h_]; done)
    | (unfold State.auditRejoin; (try dsimp only); repeat' (first | (simp (maxDischargeDepth := 40) [h_]; done) | intro _ | apply kept_foldl | apply kept_foldl_fst | apply kept_foldl_snd | apply kept_forEach | split))

@[simp] theorem kept_State_auditReply {s0_ : State} (s : State) (o : Order) (r : Option (Nat × Nat)) (h_ : Kept s0_ s)  : Kept s0_ (State.auditReply s o r) := by
  first
    | (simp (maxDischargeDepth := 40) [State.auditReply, h_]; done)
    | (unfold State.auditReply; (try dsimp only); repeat' (first | (simp (maxDischargeDepth := 40) [h_]; done) | intro _ | apply kept_foldl | apply kept_foldl_fst | apply kept_foldl_snd | apply kept_forEach | split))

@[simp] theorem kept_State_adoptReply {s0_ : State} (s : State) (o : Order) (r : Option (Nat × Nat)) (h_ : Kept s0_ s)  : Kept s0_ (State.adoptReply s o r) := by
  first
    | (simp (maxDischargeDepth := 40) [State.adoptReply, h_]; done)
    | (unfold State.adoptReply; (try dsimp only); repeat' (first | (simp (maxDischargeDepth := 40) [h_]; done) | intro _ | apply kept_foldl | apply kept_foldl_fst | apply kept_foldl_snd | apply kept_forEach | split))

@[simp] theorem kept_State_queuePages {s0_ : State} (s : State) (l : List Nat) (h_ : Kept s0_ s)  : Kept s0_ (State.queuePages s l) := by
  first
    | (simp (maxDischargeDepth := 40) [State.queuePages, h_]; done)
    | (unfold State.queuePages; (try dsimp only); repeat' (first | (simp (maxDischargeDepth := 40) [h_]; done) | intro _ | apply kept_foldl | apply kept_foldl_fst | apply kept_foldl_snd | apply kept_forEach | split))

@[simp] theorem kept_State_prebiasReply {s0_ : State} (s : State) (i : Nat) (data : Nat) (h_ : Kept s0_ s)  : Kept s0_ (State.prebiasReply s i data) := by
  first
    | (simp (maxDischargeDepth := 40) [State.prebiasReply, h_]; done)
    | (unfold State.prebiasReply; (try dsimp only); repeat' (first | (simp (maxDischargeDepth := 40) [h_]; done) | intro _ | apply kept_foldl | apply kept_foldl_fst | apply kept_foldl_snd | apply kept_forEach | split))

@[simp] theorem kept_State_orderResult {s0_ : State} (s : State) (o : Order) (r : Option (Nat × Nat)) (h_ : Kept s0_ s)  : Kept s0_ (State.orderResult s o r) := by
  first
    | (simp (maxDischargeDepth := 40) [State.orderResult, h_]; done)
    | (unfold State.orderResult; (try dsimp only); repeat' (first | (simp (maxDischargeDepth := 40) [h_]; done) | intro _ | apply kept_foldl | apply kept_foldl_fst | apply kept_foldl_snd | apply kept_forEach | split))

@[simp] theorem kept_State_orderStale {s0_ : State} (s : State) (o : Order) (h_ : Kept s0_ s)  : Kept s0_ (State.orderStale s o) := by
  first
    | (simp (maxDischargeDepth := 40) [State.orderStale, h_]; done)
    | (unfold State.orderStale; (try dsimp only); repeat' (first | (simp (maxDischargeDepth := 40) [h_]; done) | intro _ | apply kept_foldl | apply kept_foldl_fst | apply kept_foldl_snd | apply kept_forEach | split))

end Sys2Proof.Machine
end

