-- ==== Sys2Proof/Laws/KeptProfile.lean ====
section
/-! SUPPORT. What the operations of Machine/Profile.lean keep (Laws/Kept.lean). -/

set_option linter.unusedSimpArgs false
set_option linter.unusedVariables false

namespace Sys2Proof.Machine



end Sys2Proof.Machine
end

