-- ==== Sys2Proof/Laws/KeptCells.lean ====
section
/-! SUPPORT. What the operations of Machine/Cells.lean keep (Laws/Kept.lean). -/

set_option linter.unusedSimpArgs false
set_option linter.unusedVariables false

namespace Sys2Proof.Machine

@[simp] theorem kept_State_cellEvent {s0_ : State} (s : State) (i : CellIx) (f : Cell → Cell) (h_ : Kept s0_ s)  : OutKept s0_ (State.cellEvent s i f) := by
  first
    | (simp (maxDischargeDepth := 40) [State.cellEvent, h_]; done)
    | (unfold State.cellEvent; (try dsimp only); repeat' (first | (simp (maxDischargeDepth := 40) [h_]; done) | intro _ | apply kept_foldl | apply kept_foldl_fst | apply kept_foldl_snd | apply kept_forEach | split))

@[simp] theorem kept_execL0Cycle {s0_ : State} (i : CellIx) (out : Int) (lim : BitVec 4) (s : State) (h_ : Kept s0_ s)  : OutKept s0_ (execL0Cycle i out lim s) := by
  first
    | (simp (maxDischargeDepth := 40) [execL0Cycle, h_]; done)
    | (unfold execL0Cycle; (try dsimp only); repeat' (first | (simp (maxDischargeDepth := 40) [h_]; done) | intro _ | apply kept_foldl | apply kept_foldl_fst | apply kept_foldl_snd | apply kept_forEach | split))

@[simp] theorem kept_execProfileStep {s0_ : State} (i : CellIx) (s : State) (h_ : Kept s0_ s)  : OutKept s0_ (execProfileStep i s) := by
  first
    | (simp (maxDischargeDepth := 40) [execProfileStep, h_]; done)
    | (unfold execProfileStep; (try dsimp only); repeat' (first | (simp (maxDischargeDepth := 40) [h_]; done) | intro _ | apply kept_foldl | apply kept_foldl_fst | apply kept_foldl_snd | apply kept_forEach | split))

@[simp] theorem kept_execCoarseAdcUpdate {s0_ : State} (i : CellIx) (vout : BitVec 8) (vin : BitVec 8) (s : State) (h_ : Kept s0_ s)  : OutKept s0_ (execCoarseAdcUpdate i vout vin s) := by
  first
    | (simp (maxDischargeDepth := 40) [execCoarseAdcUpdate, h_]; done)
    | (unfold execCoarseAdcUpdate; (try dsimp only); repeat' (first | (simp (maxDischargeDepth := 40) [h_]; done) | intro _ | apply kept_foldl | apply kept_foldl_fst | apply kept_foldl_snd | apply kept_forEach | split))

@[simp] theorem kept_execDroopCrossing {s0_ : State} (i : CellIx) (s : State) (h_ : Kept s0_ s)  : OutKept s0_ (execDroopCrossing i s) := by
  first
    | (simp (maxDischargeDepth := 40) [execDroopCrossing, h_]; done)
    | (unfold execDroopCrossing; (try dsimp only); repeat' (first | (simp (maxDischargeDepth := 40) [h_]; done) | intro _ | apply kept_foldl | apply kept_foldl_fst | apply kept_foldl_snd | apply kept_forEach | split))

@[simp] theorem kept_execReserveEnd {s0_ : State} (i : CellIx) (s : State) (h_ : Kept s0_ s)  : OutKept s0_ (execReserveEnd i s) := by
  first
    | (simp (maxDischargeDepth := 40) [execReserveEnd, h_]; done)
    | (unfold execReserveEnd; (try dsimp only); repeat' (first | (simp (maxDischargeDepth := 40) [h_]; done) | intro _ | apply kept_foldl | apply kept_foldl_fst | apply kept_foldl_snd | apply kept_forEach | split))

@[simp] theorem kept_execReserveRearm {s0_ : State} (i : CellIx) (s : State) (h_ : Kept s0_ s)  : OutKept s0_ (execReserveRearm i s) := by
  first
    | (simp (maxDischargeDepth := 40) [execReserveRearm, h_]; done)
    | (unfold execReserveRearm; (try dsimp only); repeat' (first | (simp (maxDischargeDepth := 40) [h_]; done) | intro _ | apply kept_foldl | apply kept_foldl_fst | apply kept_foldl_snd | apply kept_forEach | split))

@[simp] theorem kept_execOvershootTrip {s0_ : State} (i : CellIx) (s : State) (h_ : Kept s0_ s)  : OutKept s0_ (execOvershootTrip i s) := by
  first
    | (simp (maxDischargeDepth := 40) [execOvershootTrip, h_]; done)
    | (unfold execOvershootTrip; (try dsimp only); repeat' (first | (simp (maxDischargeDepth := 40) [h_]; done) | intro _ | apply kept_foldl | apply kept_foldl_fst | apply kept_foldl_snd | apply kept_forEach | split))

@[simp] theorem kept_execBleedBudgetSpent {s0_ : State} (i : CellIx) (s : State) (h_ : Kept s0_ s)  : OutKept s0_ (execBleedBudgetSpent i s) := by
  first
    | (simp (maxDischargeDepth := 40) [execBleedBudgetSpent, h_]; done)
    | (unfold execBleedBudgetSpent; (try dsimp only); repeat' (first | (simp (maxDischargeDepth := 40) [h_]; done) | intro _ | apply kept_foldl | apply kept_foldl_fst | apply kept_foldl_snd | apply kept_forEach | split))

@[simp] theorem kept_execLightLoadWindow {s0_ : State} (i : CellIx) (amp : Int) (s : State) (h_ : Kept s0_ s)  : OutKept s0_ (execLightLoadWindow i amp s) := by
  first
    | (simp (maxDischargeDepth := 40) [execLightLoadWindow, h_]; done)
    | (unfold execLightLoadWindow; (try dsimp only); repeat' (first | (simp (maxDischargeDepth := 40) [h_]; done) | intro _ | apply kept_foldl | apply kept_foldl_fst | apply kept_foldl_snd | apply kept_forEach | split))

@[simp] theorem kept_execBurstStart {s0_ : State} (i : CellIx) (s : State) (h_ : Kept s0_ s)  : OutKept s0_ (execBurstStart i s) := by
  first
    | (simp (maxDischargeDepth := 40) [execBurstStart, h_]; done)
    | (unfold execBurstStart; (try dsimp only); repeat' (first | (simp (maxDischargeDepth := 40) [h_]; done) | intro _ | apply kept_foldl | apply kept_foldl_fst | apply kept_foldl_snd | apply kept_forEach | split))

@[simp] theorem kept_execBurstStop {s0_ : State} (i : CellIx) (short : Bool) (s : State) (h_ : Kept s0_ s)  : OutKept s0_ (execBurstStop i short s) := by
  first
    | (simp (maxDischargeDepth := 40) [execBurstStop, h_]; done)
    | (unfold execBurstStop; (try dsimp only); repeat' (first | (simp (maxDischargeDepth := 40) [h_]; done) | intro _ | apply kept_foldl | apply kept_foldl_fst | apply kept_foldl_snd | apply kept_forEach | split))

@[simp] theorem kept_execOcLimitSet {s0_ : State} (i : CellIx) (phases : BitVec 4) (s : State) (h_ : Kept s0_ s)  : OutKept s0_ (execOcLimitSet i phases s) := by
  first
    | (simp (maxDischargeDepth := 40) [execOcLimitSet, h_]; done)
    | (unfold execOcLimitSet; (try dsimp only); repeat' (first | (simp (maxDischargeDepth := 40) [h_]; done) | intro _ | apply kept_foldl | apply kept_foldl_fst | apply kept_foldl_snd | apply kept_forEach | split))

@[simp] theorem kept_execOcLimitClear {s0_ : State} (i : CellIx) (s : State) (h_ : Kept s0_ s)  : OutKept s0_ (execOcLimitClear i s) := by
  first
    | (simp (maxDischargeDepth := 40) [execOcLimitClear, h_]; done)
    | (unfold execOcLimitClear; (try dsimp only); repeat' (first | (simp (maxDischargeDepth := 40) [h_]; done) | intro _ | apply kept_foldl | apply kept_foldl_fst | apply kept_foldl_snd | apply kept_forEach | split))

@[simp] theorem kept_execOvlSet {s0_ : State} (i : CellIx) (s : State) (h_ : Kept s0_ s)  : OutKept s0_ (execOvlSet i s) := by
  first
    | (simp (maxDischargeDepth := 40) [execOvlSet, h_]; done)
    | (unfold execOvlSet; (try dsimp only); repeat' (first | (simp (maxDischargeDepth := 40) [h_]; done) | intro _ | apply kept_foldl | apply kept_foldl_fst | apply kept_foldl_snd | apply kept_forEach | split))

@[simp] theorem kept_execOvlClear {s0_ : State} (i : CellIx) (s : State) (h_ : Kept s0_ s)  : OutKept s0_ (execOvlClear i s) := by
  first
    | (simp (maxDischargeDepth := 40) [execOvlClear, h_]; done)
    | (unfold execOvlClear; (try dsimp only); repeat' (first | (simp (maxDischargeDepth := 40) [h_]; done) | intro _ | apply kept_foldl | apply kept_foldl_fst | apply kept_foldl_snd | apply kept_forEach | split))

@[simp] theorem kept_execCellsyncLoss {s0_ : State} (i : CellIx) (s : State) (h_ : Kept s0_ s)  : OutKept s0_ (execCellsyncLoss i s) := by
  first
    | (simp (maxDischargeDepth := 40) [execCellsyncLoss, h_]; done)
    | (unfold execCellsyncLoss; (try dsimp only); repeat' (first | (simp (maxDischargeDepth := 40) [h_]; done) | intro _ | apply kept_foldl | apply kept_foldl_fst | apply kept_foldl_snd | apply kept_forEach | split))

@[simp] theorem kept_execCellsyncRegain {s0_ : State} (i : CellIx) (s : State) (h_ : Kept s0_ s)  : OutKept s0_ (execCellsyncRegain i s) := by
  first
    | (simp (maxDischargeDepth := 40) [execCellsyncRegain, h_]; done)
    | (unfold execCellsyncRegain; (try dsimp only); repeat' (first | (simp (maxDischargeDepth := 40) [h_]; done) | intro _ | apply kept_foldl | apply kept_foldl_fst | apply kept_foldl_snd | apply kept_forEach | split))

@[simp] theorem kept_execMeasureEnd {s0_ : State} (i : CellIx) (s : State) (h_ : Kept s0_ s)  : OutKept s0_ (execMeasureEnd i s) := by
  first
    | (simp (maxDischargeDepth := 40) [execMeasureEnd, h_]; done)
    | (unfold execMeasureEnd; (try dsimp only); repeat' (first | (simp (maxDischargeDepth := 40) [h_]; done) | intro _ | apply kept_foldl | apply kept_foldl_fst | apply kept_foldl_snd | apply kept_forEach | split))

@[simp] theorem kept_execRiseToRun {s0_ : State} (i : CellIx) (s : State) (h_ : Kept s0_ s)  : OutKept s0_ (execRiseToRun i s) := by
  first
    | (simp (maxDischargeDepth := 40) [execRiseToRun, h_]; done)
    | (unfold execRiseToRun; (try dsimp only); repeat' (first | (simp (maxDischargeDepth := 40) [h_]; done) | intro _ | apply kept_foldl | apply kept_foldl_fst | apply kept_foldl_snd | apply kept_forEach | split))

@[simp] theorem kept_execFallToRun {s0_ : State} (i : CellIx) (s : State) (h_ : Kept s0_ s)  : OutKept s0_ (execFallToRun i s) := by
  first
    | (simp (maxDischargeDepth := 40) [execFallToRun, h_]; done)
    | (unfold execFallToRun; (try dsimp only); repeat' (first | (simp (maxDischargeDepth := 40) [h_]; done) | intro _ | apply kept_foldl | apply kept_foldl_fst | apply kept_foldl_snd | apply kept_forEach | split))

@[simp] theorem kept_execFallTimeout {s0_ : State} (i : CellIx) (s : State) (h_ : Kept s0_ s)  : OutKept s0_ (execFallTimeout i s) := by
  first
    | (simp (maxDischargeDepth := 40) [execFallTimeout, h_]; done)
    | (unfold execFallTimeout; (try dsimp only); repeat' (first | (simp (maxDischargeDepth := 40) [h_]; done) | intro _ | apply kept_foldl | apply kept_foldl_fst | apply kept_foldl_snd | apply kept_forEach | split))

@[simp] theorem kept_execContactLost {s0_ : State} (i : CellIx) (s : State) (h_ : Kept s0_ s)  : OutKept s0_ (execContactLost i s) := by
  first
    | (simp (maxDischargeDepth := 40) [execContactLost, h_]; done)
    | (unfold execContactLost; (try dsimp only); repeat' (first | (simp (maxDischargeDepth := 40) [h_]; done) | intro _ | apply kept_foldl | apply kept_foldl_fst | apply kept_foldl_snd | apply kept_forEach | split))

@[simp] theorem kept_execHoldLimitReached {s0_ : State} (i : CellIx) (s : State) (h_ : Kept s0_ s)  : OutKept s0_ (execHoldLimitReached i s) := by
  first
    | (simp (maxDischargeDepth := 40) [execHoldLimitReached, h_]; done)
    | (unfold execHoldLimitReached; (try dsimp only); repeat' (first | (simp (maxDischargeDepth := 40) [h_]; done) | intro _ | apply kept_foldl | apply kept_foldl_fst | apply kept_foldl_snd | apply kept_forEach | split))

@[simp] theorem kept_execZeroReached {s0_ : State} (i : CellIx) (s : State) (h_ : Kept s0_ s)  : OutKept s0_ (execZeroReached i s) := by
  first
    | (simp (maxDischargeDepth := 40) [execZeroReached, h_]; done)
    | (unfold execZeroReached; (try dsimp only); repeat' (first | (simp (maxDischargeDepth := 40) [h_]; done) | intro _ | apply kept_foldl | apply kept_foldl_fst | apply kept_foldl_snd | apply kept_forEach | split))

@[simp] theorem kept_execSelftestComplete {s0_ : State} (i : CellIx) (bitmap : BitVec 8) (s : State) (h_ : Kept s0_ s)  : OutKept s0_ (execSelftestComplete i bitmap s) := by
  first
    | (simp (maxDischargeDepth := 40) [execSelftestComplete, h_]; done)
    | (unfold execSelftestComplete; (try dsimp only); repeat' (first | (simp (maxDischargeDepth := 40) [h_]; done) | intro _ | apply kept_foldl | apply kept_foldl_fst | apply kept_foldl_snd | apply kept_forEach | split))

@[simp] theorem kept_execRampToZeroDone {s0_ : State} (i : CellIx) (s : State) (h_ : Kept s0_ s)  : OutKept s0_ (execRampToZeroDone i s) := by
  first
    | (simp (maxDischargeDepth := 40) [execRampToZeroDone, h_]; done)
    | (unfold execRampToZeroDone; (try dsimp only); repeat' (first | (simp (maxDischargeDepth := 40) [h_]; done) | intro _ | apply kept_foldl | apply kept_foldl_fst | apply kept_foldl_snd | apply kept_forEach | split))

end Sys2Proof.Machine
end

