-- ==== Sys2Proof/Laws/KeptCellFrames.lean ====
section
/-! SUPPORT. What the operations of Machine/CellFrames.lean keep (Laws/Kept.lean). -/

set_option linter.unusedSimpArgs false
set_option linter.unusedVariables false

namespace Sys2Proof.Machine

@[simp] theorem kept_State_onChain {s0_ : State} (s : State) (c : Nat) (f : Nat → Cell → Cell) (h_ : Kept s0_ s)  : Kept s0_ (State.onChain s c f) := by
  first
    | (simp (maxDischargeDepth := 40) [State.onChain, h_]; done)
    | (unfold State.onChain; (try dsimp only); repeat' (first | (simp (maxDischargeDepth := 40) [h_]; done) | intro _ | apply kept_foldl | apply kept_foldl_fst | apply kept_foldl_snd | apply kept_forEach | split))

@[simp] theorem kept_State_meansDrawn {s0_ : State} (s : State) (h_ : Kept s0_ s)  : Kept s0_ (State.meansDrawn s) := by
  first
    | (simp (maxDischargeDepth := 40) [State.meansDrawn, h_]; done)
    | (unfold State.meansDrawn; (try dsimp only); repeat' (first | (simp (maxDischargeDepth := 40) [h_]; done) | intro _ | apply kept_foldl | apply kept_foldl_fst | apply kept_foldl_snd | apply kept_forEach | split))

@[simp] theorem kept_State_checkedFrame {s0_ : State} (s : State) (c : ChainIx) (payload : BitVec 64) (f : Nat → Cell → Cell) (h_ : Kept s0_ s)  : Kept s0_ (State.checkedFrame s c payload f) := by
  first
    | (simp (maxDischargeDepth := 40) [State.checkedFrame, h_]; done)
    | (unfold State.checkedFrame; (try dsimp only); repeat' (first | (simp (maxDischargeDepth := 40) [h_]; done) | intro _ | apply kept_foldl | apply kept_foldl_fst | apply kept_foldl_snd | apply kept_forEach | split))

@[simp] theorem kept_State_frame {s0_ s t : State} (h : Kept s0_ s) (k : Kept s0_ t) : OutKept s0_ (s.frame t) := by
  unfold State.frame; split <;> assumption

@[simp] theorem kept_execMcastMark {s0_ : State} (c : ChainIx) (payload : BitVec 64) (s : State) (h_ : Kept s0_ s)  : OutKept s0_ (execMcastMark c payload s) := by
  first
    | (simp (maxDischargeDepth := 40) [execMcastMark, h_]; done)
    | (unfold execMcastMark; (try dsimp only); repeat' (first | (simp (maxDischargeDepth := 40) [h_]; done) | intro _ | apply kept_foldl | apply kept_foldl_fst | apply kept_foldl_snd | apply kept_forEach | split))

@[simp] theorem kept_execMcast {s0_ : State} (c : ChainIx) (payload : BitVec 64) (s : State) (h_ : Kept s0_ s)  : OutKept s0_ (execMcast c payload s) := by
  first
    | (simp (maxDischargeDepth := 40) [execMcast, h_]; done)
    | (unfold execMcast; (try dsimp only); repeat' (first | (simp (maxDischargeDepth := 40) [h_]; done) | intro _ | apply kept_foldl | apply kept_foldl_fst | apply kept_foldl_snd | apply kept_forEach | split))

@[simp] theorem kept_execCfgFrame {s0_ : State} (c : ChainIx) (payload : BitVec 64) (s : State) (h_ : Kept s0_ s)  : OutKept s0_ (execCfgFrame c payload s) := by
  first
    | (simp (maxDischargeDepth := 40) [execCfgFrame, h_]; done)
    | (unfold execCfgFrame; (try dsimp only); repeat' (first | (simp (maxDischargeDepth := 40) [h_]; done) | intro _ | apply kept_foldl | apply kept_foldl_fst | apply kept_foldl_snd | apply kept_forEach | split))

@[simp] theorem kept_execArmFrame {s0_ : State} (c : ChainIx) (payload : BitVec 64) (s : State) (h_ : Kept s0_ s)  : OutKept s0_ (execArmFrame c payload s) := by
  first
    | (simp (maxDischargeDepth := 40) [execArmFrame, h_]; done)
    | (unfold execArmFrame; (try dsimp only); repeat' (first | (simp (maxDischargeDepth := 40) [h_]; done) | intro _ | apply kept_foldl | apply kept_foldl_fst | apply kept_foldl_snd | apply kept_forEach | split))

@[simp] theorem kept_execTrimFrame {s0_ : State} (c : ChainIx) (payload : BitVec 64) (s : State) (h_ : Kept s0_ s)  : OutKept s0_ (execTrimFrame c payload s) := by
  first
    | (simp (maxDischargeDepth := 40) [execTrimFrame, h_]; done)
    | (unfold execTrimFrame; (try dsimp only); repeat' (first | (simp (maxDischargeDepth := 40) [h_]; done) | intro _ | apply kept_foldl | apply kept_foldl_fst | apply kept_foldl_snd | apply kept_forEach | split))

@[simp] theorem kept_execPathFrame {s0_ : State} (c : ChainIx) (payload : BitVec 64) (s : State) (h_ : Kept s0_ s)  : OutKept s0_ (execPathFrame c payload s) := by
  first
    | (simp (maxDischargeDepth := 40) [execPathFrame, h_]; done)
    | (unfold execPathFrame; (try dsimp only); repeat' (first | (simp (maxDischargeDepth := 40) [h_]; done) | intro _ | apply kept_foldl | apply kept_foldl_fst | apply kept_foldl_snd | apply kept_forEach | split))

@[simp] theorem kept_execTlmPoll {s0_ : State} (c : ChainIx) (addr : BitVec 12) (s : State) (h_ : Kept s0_ s)  : OutKept s0_ (execTlmPoll c addr s) := by
  first
    | (simp (maxDischargeDepth := 40) [execTlmPoll, h_]; done)
    | (unfold execTlmPoll; (try dsimp only); repeat' (first | (simp (maxDischargeDepth := 40) [h_]; done) | intro _ | apply kept_foldl | apply kept_foldl_fst | apply kept_foldl_snd | apply kept_forEach | split))

@[simp] theorem kept_execUrgSend {s0_ : State} (i : CellIx) (s : State) (h_ : Kept s0_ s)  : OutKept s0_ (execUrgSend i s) := by
  first
    | (simp (maxDischargeDepth := 40) [execUrgSend, h_]; done)
    | (unfold execUrgSend; (try dsimp only); repeat' (first | (simp (maxDischargeDepth := 40) [h_]; done) | intro _ | apply kept_foldl | apply kept_foldl_fst | apply kept_foldl_snd | apply kept_forEach | split))

@[simp] theorem kept_State_reply {s0_ : State} (s : State) (c : ChainIx) (type : Nat) (p : Nat) (h_ : Kept s0_ s)  : Kept s0_ (State.reply s c type p) := by
  first
    | (simp (maxDischargeDepth := 40) [State.reply, h_]; done)
    | (unfold State.reply; (try dsimp only); repeat' (first | (simp (maxDischargeDepth := 40) [h_]; done) | intro _ | apply kept_foldl | apply kept_foldl_fst | apply kept_foldl_snd | apply kept_forEach | split))

@[simp] theorem kept_State_passFrame {s0_ : State} (s : State) (c : ChainIx) (frame : Nat) (h_ : Kept s0_ s)  : Kept s0_ (State.passFrame s c frame) := by
  first
    | (simp (maxDischargeDepth := 40) [State.passFrame, h_]; done)
    | (unfold State.passFrame; (try dsimp only); repeat' (first | (simp (maxDischargeDepth := 40) [h_]; done) | intro _ | apply kept_foldl | apply kept_foldl_fst | apply kept_foldl_snd | apply kept_forEach | split))

@[simp] theorem kept_execEnumToken {s0_ : State} (c : ChainIx) (payload : BitVec 64) (s : State) (h_ : Kept s0_ s)  : OutKept s0_ (execEnumToken c payload s) := by
  first
    | (simp (maxDischargeDepth := 40) [execEnumToken, h_]; done)
    | (unfold execEnumToken; (try dsimp only); repeat' (first | (simp (maxDischargeDepth := 40) [h_]; done) | intro _ | apply kept_foldl | apply kept_foldl_fst | apply kept_foldl_snd | apply kept_forEach | split))

@[simp] theorem kept_execEnumAck {s0_ : State} (c : ChainIx) (payload : BitVec 64) (s : State) (h_ : Kept s0_ s)  : OutKept s0_ (execEnumAck c payload s) := by
  first
    | (simp (maxDischargeDepth := 40) [execEnumAck, h_]; done)
    | (unfold execEnumAck; (try dsimp only); repeat' (first | (simp (maxDischargeDepth := 40) [h_]; done) | intro _ | apply kept_foldl | apply kept_foldl_fst | apply kept_foldl_snd | apply kept_forEach | split))

@[simp] theorem kept_execEnumQuery {s0_ : State} (c : ChainIx) (payload : BitVec 64) (s : State) (h_ : Kept s0_ s)  : OutKept s0_ (execEnumQuery c payload s) := by
  first
    | (simp (maxDischargeDepth := 40) [execEnumQuery, h_]; done)
    | (unfold execEnumQuery; (try dsimp only); repeat' (first | (simp (maxDischargeDepth := 40) [h_]; done) | intro _ | apply kept_foldl | apply kept_foldl_fst | apply kept_foldl_snd | apply kept_forEach | split))

@[simp] theorem kept_execEnumClear {s0_ : State} (c : ChainIx) (payload : BitVec 64) (s : State) (h_ : Kept s0_ s)  : OutKept s0_ (execEnumClear c payload s) := by
  first
    | (simp (maxDischargeDepth := 40) [execEnumClear, h_]; done)
    | (unfold execEnumClear; (try dsimp only); repeat' (first | (simp (maxDischargeDepth := 40) [h_]; done) | intro _ | apply kept_foldl | apply kept_foldl_fst | apply kept_foldl_snd | apply kept_forEach | split))

@[simp] theorem kept_execEnumMove {s0_ : State} (c : ChainIx) (payload : BitVec 64) (s : State) (h_ : Kept s0_ s)  : OutKept s0_ (execEnumMove c payload s) := by
  first
    | (simp (maxDischargeDepth := 40) [execEnumMove, h_]; done)
    | (unfold execEnumMove; (try dsimp only); repeat' (first | (simp (maxDischargeDepth := 40) [h_]; done) | intro _ | apply kept_foldl | apply kept_foldl_fst | apply kept_foldl_snd | apply kept_forEach | split))

@[simp] theorem kept_execLoopFrame {s0_ : State} (c : ChainIx) (payload : BitVec 64) (s : State) (h_ : Kept s0_ s)  : OutKept s0_ (execLoopFrame c payload s) := by
  first
    | (simp (maxDischargeDepth := 40) [execLoopFrame, h_]; done)
    | (unfold execLoopFrame; (try dsimp only); repeat' (first | (simp (maxDischargeDepth := 40) [h_]; done) | intro _ | apply kept_foldl | apply kept_foldl_fst | apply kept_foldl_snd | apply kept_forEach | split))

@[simp] theorem kept_execReservedFrame {s0_ : State} (c : ChainIx) (frame : BitVec 80) (s : State) (h_ : Kept s0_ s)  : OutKept s0_ (execReservedFrame c frame s) := by
  first
    | (simp (maxDischargeDepth := 40) [execReservedFrame, h_]; done)
    | (unfold execReservedFrame; (try dsimp only); repeat' (first | (simp (maxDischargeDepth := 40) [h_]; done) | intro _ | apply kept_foldl | apply kept_foldl_fst | apply kept_foldl_snd | apply kept_forEach | split))

@[simp] theorem kept_State_order {s0_ : State} (s : State) (c : ChainIx) (h : CmdHdr) (op : Nat) (act : Nat → Cell → Nat × Nat × Cell) (h_ : Kept s0_ s)  : Kept s0_ (State.order s c h op act) := by
  first
    | (simp (maxDischargeDepth := 40) [State.order, h_]; done)
    | (unfold State.order; (try dsimp only); repeat' (first | (simp (maxDischargeDepth := 40) [h_]; done) | intro _ | apply kept_foldl | apply kept_foldl_fst | apply kept_foldl_snd | apply kept_forEach | split))

@[simp] theorem kept_execStart {s0_ : State} (c : ChainIx) (h : CmdHdr) (target : BitVec 16) (s : State) (h_ : Kept s0_ s)  : OutKept s0_ (execStart c h target s) := by
  first
    | (simp (maxDischargeDepth := 40) [execStart, h_]; done)
    | (unfold execStart; (try dsimp only); repeat' (first | (simp (maxDischargeDepth := 40) [h_]; done) | intro _ | apply kept_foldl | apply kept_foldl_fst | apply kept_foldl_snd | apply kept_forEach | split))

@[simp] theorem kept_execStop {s0_ : State} (c : ChainIx) (h : CmdHdr) (s : State) (h_ : Kept s0_ s)  : OutKept s0_ (execStop c h s) := by
  first
    | (simp (maxDischargeDepth := 40) [execStop, h_]; done)
    | (unfold execStop; (try dsimp only); repeat' (first | (simp (maxDischargeDepth := 40) [h_]; done) | intro _ | apply kept_foldl | apply kept_foldl_fst | apply kept_foldl_snd | apply kept_forEach | split))

@[simp] theorem kept_execZero {s0_ : State} (c : ChainIx) (h : CmdHdr) (s : State) (h_ : Kept s0_ s)  : OutKept s0_ (execZero c h s) := by
  first
    | (simp (maxDischargeDepth := 40) [execZero, h_]; done)
    | (unfold execZero; (try dsimp only); repeat' (first | (simp (maxDischargeDepth := 40) [h_]; done) | intro _ | apply kept_foldl | apply kept_foldl_fst | apply kept_foldl_snd | apply kept_forEach | split))

@[simp] theorem kept_execLoanSw {s0_ : State} (c : ChainIx) (h : CmdHdr) (sel : BitVec 2) (newGen : BitVec 8) (s : State) (h_ : Kept s0_ s)  : OutKept s0_ (execLoanSw c h sel newGen s) := by
  first
    | (simp (maxDischargeDepth := 40) [execLoanSw, h_]; done)
    | (unfold execLoanSw; (try dsimp only); repeat' (first | (simp (maxDischargeDepth := 40) [h_]; done) | intro _ | apply kept_foldl | apply kept_foldl_fst | apply kept_foldl_snd | apply kept_forEach | split))

@[simp] theorem kept_execAdopt {s0_ : State} (c : ChainIx) (h : CmdHdr) (s : State) (h_ : Kept s0_ s)  : OutKept s0_ (execAdopt c h s) := by
  first
    | (simp (maxDischargeDepth := 40) [execAdopt, h_]; done)
    | (unfold execAdopt; (try dsimp only); repeat' (first | (simp (maxDischargeDepth := 40) [h_]; done) | intro _ | apply kept_foldl | apply kept_foldl_fst | apply kept_foldl_snd | apply kept_forEach | split))

@[simp] theorem kept_execSelftest {s0_ : State} (c : ChainIx) (h : CmdHdr) (s : State) (h_ : Kept s0_ s)  : OutKept s0_ (execSelftest c h s) := by
  first
    | (simp (maxDischargeDepth := 40) [execSelftest, h_]; done)
    | (unfold execSelftest; (try dsimp only); repeat' (first | (simp (maxDischargeDepth := 40) [h_]; done) | intro _ | apply kept_foldl | apply kept_foldl_fst | apply kept_foldl_snd | apply kept_forEach | split))

@[simp] theorem kept_execReadState {s0_ : State} (c : ChainIx) (h : CmdHdr) (page : BitVec 2) (s : State) (h_ : Kept s0_ s)  : OutKept s0_ (execReadState c h page s) := by
  first
    | (simp (maxDischargeDepth := 40) [execReadState, h_]; done)
    | (unfold execReadState; (try dsimp only); repeat' (first | (simp (maxDischargeDepth := 40) [h_]; done) | intro _ | apply kept_foldl | apply kept_foldl_fst | apply kept_foldl_snd | apply kept_forEach | split))

@[simp] theorem kept_execSetCoef {s0_ : State} (c : ChainIx) (h : CmdHdr) (idx : BitVec 2) (v : BitVec 16) (s : State) (h_ : Kept s0_ s)  : OutKept s0_ (execSetCoef c h idx v s) := by
  first
    | (simp (maxDischargeDepth := 40) [execSetCoef, h_]; done)
    | (unfold execSetCoef; (try dsimp only); repeat' (first | (simp (maxDischargeDepth := 40) [h_]; done) | intro _ | apply kept_foldl | apply kept_foldl_fst | apply kept_foldl_snd | apply kept_forEach | split))

@[simp] theorem kept_execReservedOp {s0_ : State} (c : ChainIx) (h : CmdHdr) (op : BitVec 4) (s : State) (h_ : Kept s0_ s)  : OutKept s0_ (execReservedOp c h op s) := by
  first
    | (simp (maxDischargeDepth := 40) [execReservedOp, h_]; done)
    | (unfold execReservedOp; (try dsimp only); repeat' (first | (simp (maxDischargeDepth := 40) [h_]; done) | intro _ | apply kept_foldl | apply kept_foldl_fst | apply kept_foldl_snd | apply kept_forEach | split))

end Sys2Proof.Machine
end

