-- ==== Sys2Proof/Laws/KeptChains.lean ====
section
/-! SUPPORT. What the operations of Machine/Chains.lean keep (Laws/Kept.lean). -/

set_option linter.unusedSimpArgs false
set_option linter.unusedVariables false

namespace Sys2Proof.Machine

@[simp] theorem kept_State_fast {s0_ s t : State} (h : Kept s0_ s) (k : Kept s0_ t) : OutKept s0_ (s.fast t) := by
  unfold State.fast; split
  · exact kept_closing k
  · exact h

@[simp] theorem kept_State_sendOrder {s0_ : State} (s : State) (c : Nat) (o : Order) (h_ : Kept s0_ s)  : Kept s0_ (State.sendOrder s c o).1 := by
  first
    | (simp (maxDischargeDepth := 40) [State.sendOrder, h_]; done)
    | (unfold State.sendOrder; (try dsimp only); repeat' (first | (simp (maxDischargeDepth := 40) [h_]; done) | intro _ | apply kept_foldl | apply kept_foldl_fst | apply kept_foldl_snd | apply kept_forEach | split))

@[simp] theorem kept_State_nextOrder {s0_ : State} (s : State) (c : Nat) (ok : Order → Bool) (n : Nat) (h_ : Kept s0_ s) :
    Kept s0_ (State.nextOrder s c ok n).1 := by
  induction n generalizing s with
  | zero => exact h_
  | succ n ih =>
    unfold State.nextOrder; dsimp only
    repeat' (first | (simp (maxDischargeDepth := 40) [h_]; done) | (apply ih; simp (maxDischargeDepth := 40) [h_]; done) | split)

@[simp] theorem kept_State_orderFrame {s0_ : State} (s : State) (c : Nat) (ok : Order → Bool) (h_ : Kept s0_ s)  : Kept s0_ (State.orderFrame s c ok).1 := by
  first
    | (simp (maxDischargeDepth := 40) [State.orderFrame, h_]; done)
    | (unfold State.orderFrame; (try dsimp only); repeat' (first | (simp (maxDischargeDepth := 40) [h_]; done) | intro _ | apply kept_foldl | apply kept_foldl_fst | apply kept_foldl_snd | apply kept_forEach | split))

@[simp] theorem kept_State_nextFrame {s0_ : State} (s : State) (c : Nat) (ok : Order → Bool) (h_ : Kept s0_ s)  : Kept s0_ (State.nextFrame s c ok).1 := by
  first
    | (simp (maxDischargeDepth := 40) [State.nextFrame, h_]; done)
    | (unfold State.nextFrame; (try dsimp only); repeat' (first | (simp (maxDischargeDepth := 40) [h_]; done) | intro _ | apply kept_foldl | apply kept_foldl_fst | apply kept_foldl_snd | apply kept_forEach | split))

@[simp] theorem kept_State_fillSlots {s0_ : State} (s : State) (c n : Nat) (h_ : Kept s0_ s) : Kept s0_ (State.fillSlots s c n).1 := by
  induction n generalizing s with
  | zero => exact h_
  | succ n ih => exact ih _ (kept_State_nextFrame _ _ _ h_)

@[simp] theorem kept_State_normalPeriod {s0_ : State} (s : State) (c : Nat) (l2 : Nat) (h_ : Kept s0_ s)  : Kept s0_ (State.normalPeriod s c l2) := by
  unfold State.normalPeriod; dsimp only
  exact kept_State_updChain _ _ _ (kept_State_fillSlots _ _ _ h_)

@[simp] theorem kept_State_degradedPeriod {s0_ : State} (s : State) (c : Nat) (l2 : Nat) (h_ : Kept s0_ s)  : Kept s0_ (State.degradedPeriod s c l2) := by
  first
    | (simp (maxDischargeDepth := 40) [State.degradedPeriod, h_]; done)
    | (unfold State.degradedPeriod; (try dsimp only); repeat' (first | (simp (maxDischargeDepth := 40) [h_]; done) | intro _ | apply kept_foldl | apply kept_foldl_fst | apply kept_foldl_snd | apply kept_forEach | split))

@[simp] theorem kept_State_loanBoundary {s0_ : State} (s : State) (c : Nat) (h_ : Kept s0_ s)  : Kept s0_ (State.loanBoundary s c) := by
  first
    | (simp (maxDischargeDepth := 40) [State.loanBoundary, h_]; done)
    | (unfold State.loanBoundary; (try dsimp only); repeat' (first | (simp (maxDischargeDepth := 40) [h_]; done) | intro _ | apply kept_foldl | apply kept_foldl_fst | apply kept_foldl_snd | apply kept_forEach | split))

@[simp] theorem kept_State_auditBoundary {s0_ : State} (s : State) (c : Nat) (h_ : Kept s0_ s)  : Kept s0_ (State.auditBoundary s c) := by
  first
    | (simp (maxDischargeDepth := 40) [State.auditBoundary, h_]; done)
    | (unfold State.auditBoundary; (try dsimp only); repeat' (first | (simp (maxDischargeDepth := 40) [h_]; done) | intro _ | apply kept_foldl | apply kept_foldl_fst | apply kept_foldl_snd | apply kept_forEach | split))

@[simp] theorem kept_execL2Period {s0_ : State} (c : ChainIx) (s : State) (h_ : Kept s0_ s)  : OutKept s0_ (execL2Period c s) := by
  first
    | (simp (maxDischargeDepth := 40) [execL2Period, h_]; done)
    | (unfold execL2Period; (try dsimp only); repeat' (first | (simp (maxDischargeDepth := 40) [h_]; done) | intro _ | apply kept_foldl | apply kept_foldl_fst | apply kept_foldl_snd | apply kept_forEach | split))

@[simp] theorem kept_State_genAdvance {s0_ : State} (s : State) (c : Nat) (o : Order) (h_ : Kept s0_ s)  : Kept s0_ (State.genAdvance s c o) := by
  first
    | (simp (maxDischargeDepth := 40) [State.genAdvance, h_]; done)
    | (unfold State.genAdvance; (try dsimp only); repeat' (first | (simp (maxDischargeDepth := 40) [h_]; done) | intro _ | apply kept_foldl | apply kept_foldl_fst | apply kept_foldl_snd | apply kept_forEach | split))

@[simp] theorem kept_execRspReceived {s0_ : State} (c : ChainIx) (payload : BitVec 64) (s : State) (h_ : Kept s0_ s)  : OutKept s0_ (execRspReceived c payload s) := by
  first
    | (simp (maxDischargeDepth := 40) [execRspReceived, h_]; done)
    | (unfold execRspReceived; (try dsimp only); repeat' (first | (simp (maxDischargeDepth := 40) [h_]; done) | intro _ | apply kept_foldl | apply kept_foldl_fst | apply kept_foldl_snd | apply kept_forEach | split))

@[simp] theorem kept_execCmdResend {s0_ : State} (c : ChainIx) (bad : Bool) (s : State) (h_ : Kept s0_ s)  : OutKept s0_ (execCmdResend c bad s) := by
  first
    | (simp (maxDischargeDepth := 40) [execCmdResend, h_]; done)
    | (unfold execCmdResend; (try dsimp only); repeat' (first | (simp (maxDischargeDepth := 40) [h_]; done) | intro _ | apply kept_foldl | apply kept_foldl_fst | apply kept_foldl_snd | apply kept_forEach | split))

@[simp] theorem kept_execUrgReceived {s0_ : State} (c : ChainIx) (payload : BitVec 64) (s : State) (h_ : Kept s0_ s)  : OutKept s0_ (execUrgReceived c payload s) := by
  first
    | (simp (maxDischargeDepth := 40) [execUrgReceived, h_]; done)
    | (unfold execUrgReceived; (try dsimp only); repeat' (first | (simp (maxDischargeDepth := 40) [h_]; done) | intro _ | apply kept_foldl | apply kept_foldl_fst | apply kept_foldl_snd | apply kept_forEach | split))

@[simp] theorem kept_execQueueAgeDrop {s0_ : State} (c : ChainIx) (s : State) (h_ : Kept s0_ s)  : OutKept s0_ (execQueueAgeDrop c s) := by
  first
    | (simp (maxDischargeDepth := 40) [execQueueAgeDrop, h_]; done)
    | (unfold execQueueAgeDrop; (try dsimp only); repeat' (first | (simp (maxDischargeDepth := 40) [h_]; done) | intro _ | apply kept_foldl | apply kept_foldl_fst | apply kept_foldl_snd | apply kept_forEach | split))

@[simp] theorem kept_execCfgRefresh {s0_ : State} (c : ChainIx) (d : DomIx) (s : State) (h_ : Kept s0_ s)  : OutKept s0_ (execCfgRefresh c d s) := by
  first
    | (simp (maxDischargeDepth := 40) [execCfgRefresh, h_]; done)
    | (unfold execCfgRefresh; (try dsimp only); repeat' (first | (simp (maxDischargeDepth := 40) [h_]; done) | intro _ | apply kept_foldl | apply kept_foldl_fst | apply kept_foldl_snd | apply kept_forEach | split))

@[simp] theorem kept_State_writeCoefs {s0_ : State} (s : State) (c : Nat) (i : Nat) (addr : Nat) (h_ : Kept s0_ s)  : Kept s0_ (State.writeCoefs s c i addr) := by
  first
    | (simp (maxDischargeDepth := 40) [State.writeCoefs, h_]; done)
    | (unfold State.writeCoefs; (try dsimp only); repeat' (first | (simp (maxDischargeDepth := 40) [h_]; done) | intro _ | apply kept_foldl | apply kept_foldl_fst | apply kept_foldl_snd | apply kept_forEach | split))

@[simp] theorem kept_execTokenCycle {s0_ : State} (c : ChainIx) (q : PosIx) (s : State) (h_ : Kept s0_ s)  : OutKept s0_ (execTokenCycle c q s) := by
  first
    | (simp (maxDischargeDepth := 40) [execTokenCycle, h_]; done)
    | (unfold execTokenCycle; (try dsimp only); repeat' (first | (simp (maxDischargeDepth := 40) [h_]; done) | intro _ | apply kept_foldl | apply kept_foldl_fst | apply kept_foldl_snd | apply kept_forEach | split))

@[simp] theorem kept_execTokenTimeout {s0_ : State} (c : ChainIx) (s : State) (h_ : Kept s0_ s)  : OutKept s0_ (execTokenTimeout c s) := by
  first
    | (simp (maxDischargeDepth := 40) [execTokenTimeout, h_]; done)
    | (unfold execTokenTimeout; (try dsimp only); repeat' (first | (simp (maxDischargeDepth := 40) [h_]; done) | intro _ | apply kept_foldl | apply kept_foldl_fst | apply kept_foldl_snd | apply kept_forEach | split))

@[simp] theorem kept_State_repairMoves {s0_ : State} (s : State) (c : Nat) (h_ : Kept s0_ s)  : Kept s0_ (State.repairMoves s c) := by
  first
    | (simp (maxDischargeDepth := 40) [State.repairMoves, h_]; done)
    | (unfold State.repairMoves; (try dsimp only); repeat' (first | (simp (maxDischargeDepth := 40) [h_]; done) | intro _ | apply kept_foldl | apply kept_foldl_fst | apply kept_foldl_snd | apply kept_forEach | split))

@[simp] theorem kept_execRosterRepair {s0_ : State} (c : ChainIx) (s : State) (h_ : Kept s0_ s)  : OutKept s0_ (execRosterRepair c s) := by
  first
    | (simp (maxDischargeDepth := 40) [execRosterRepair, h_]; done)
    | (unfold execRosterRepair; (try dsimp only); repeat' (first | (simp (maxDischargeDepth := 40) [h_]; done) | intro _ | apply kept_foldl | apply kept_foldl_fst | apply kept_foldl_snd | apply kept_forEach | split))

@[simp] theorem kept_State_holdCut {s0_ : State} (s : State) (h_ : Kept s0_ s)  : Kept s0_ (State.holdCut s) := by
  first
    | (simp (maxDischargeDepth := 40) [State.holdCut, h_]; done)
    | (unfold State.holdCut; (try dsimp only); repeat' (first | (simp (maxDischargeDepth := 40) [h_]; done) | intro _ | apply kept_foldl | apply kept_foldl_fst | apply kept_foldl_snd | apply kept_forEach | split))

@[simp] theorem kept_State_reportsLost {s0_ : State} (s : State) (c : Nat) (lo : Nat) (hi : Nat) (h_ : Kept s0_ s)  : Kept s0_ (State.reportsLost s c lo hi) := by
  first
    | (simp (maxDischargeDepth := 40) [State.reportsLost, h_]; done)
    | (unfold State.reportsLost; (try dsimp only); repeat' (first | (simp (maxDischargeDepth := 40) [h_]; done) | intro _ | apply kept_foldl | apply kept_foldl_fst | apply kept_foldl_snd | apply kept_forEach | split))

@[simp] theorem kept_execChainBreak {s0_ : State} (c : ChainIx) (j1 : Fin 289) (j2 : Fin 289) (bad : Fin 5) (s : State) (h_ : Kept s0_ s)  : OutKept s0_ (execChainBreak c j1 j2 bad s) := by
  first
    | (simp (maxDischargeDepth := 40) [execChainBreak, h_]; done)
    | (unfold execChainBreak; (try dsimp only); repeat' (first | (simp (maxDischargeDepth := 40) [h_]; done) | intro _ | apply kept_foldl | apply kept_foldl_fst | apply kept_foldl_snd | apply kept_forEach | split))

@[simp] theorem kept_execCrcBurst {s0_ : State} (c : ChainIx) (n : BitVec 16) (s : State) (h_ : Kept s0_ s)  : OutKept s0_ (execCrcBurst c n s) := by
  first
    | (simp (maxDischargeDepth := 40) [execCrcBurst, h_]; done)
    | (unfold execCrcBurst; (try dsimp only); repeat' (first | (simp (maxDischargeDepth := 40) [h_]; done) | intro _ | apply kept_foldl | apply kept_foldl_fst | apply kept_foldl_snd | apply kept_forEach | split))

@[simp] theorem kept_execLoopbackAuditEnd {s0_ : State} (c : ChainIx) (pass : Bool) (s : State) (h_ : Kept s0_ s)  : OutKept s0_ (execLoopbackAuditEnd c pass s) := by
  first
    | (simp (maxDischargeDepth := 40) [execLoopbackAuditEnd, h_]; done)
    | (unfold execLoopbackAuditEnd; (try dsimp only); repeat' (first | (simp (maxDischargeDepth := 40) [h_]; done) | intro _ | apply kept_foldl | apply kept_foldl_fst | apply kept_foldl_snd | apply kept_forEach | split))

@[simp] theorem kept_State_loopRequest {s0_ : State} (s : State) (mask : Nat) (h_ : Kept s0_ s)  : Kept s0_ (State.loopRequest s mask) := by
  first
    | (simp (maxDischargeDepth := 40) [State.loopRequest, h_]; done)
    | (unfold State.loopRequest; (try dsimp only); repeat' (first | (simp (maxDischargeDepth := 40) [h_]; done) | intro _ | apply kept_foldl | apply kept_foldl_fst | apply kept_foldl_snd | apply kept_forEach | split))

@[simp] theorem kept_execLoanStart {s0_ : State} (c : ChainIx) (s : State) (h_ : Kept s0_ s)  : OutKept s0_ (execLoanStart c s) := by
  first
    | (simp (maxDischargeDepth := 40) [execLoanStart, h_]; done)
    | (unfold execLoanStart; (try dsimp only); repeat' (first | (simp (maxDischargeDepth := 40) [h_]; done) | intro _ | apply kept_foldl | apply kept_foldl_fst | apply kept_foldl_snd | apply kept_forEach | split))

@[simp] theorem kept_execRecallStart {s0_ : State} (c : ChainIx) (s : State) (h_ : Kept s0_ s)  : OutKept s0_ (execRecallStart c s) := by
  first
    | (simp (maxDischargeDepth := 40) [execRecallStart, h_]; done)
    | (unfold execRecallStart; (try dsimp only); repeat' (first | (simp (maxDischargeDepth := 40) [h_]; done) | intro _ | apply kept_foldl | apply kept_foldl_fst | apply kept_foldl_snd | apply kept_forEach | split))

end Sys2Proof.Machine
end

