-- ==== Sys2Proof/Laws/KeptSense.lean ====
section
/-! SUPPORT. What the operations of Machine/Sense.lean keep (Laws/Kept.lean). -/

set_option linter.unusedSimpArgs false
set_option linter.unusedVariables false

namespace Sys2Proof.Machine

@[simp] theorem kept_State_tallyAdd {s0_ : State} (s : State) (conv : Nat) (t : Nat) (x : Int) (ovr : Bool) (h_ : Kept s0_ s)  : Kept s0_ (State.tallyAdd s conv t x ovr) := by
  first
    | (simp (maxDischargeDepth := 40) [State.tallyAdd, h_]; done)
    | (unfold State.tallyAdd; (try dsimp only); repeat' (first | (simp (maxDischargeDepth := 40) [h_]; done) | intro _ | apply kept_foldl | apply kept_foldl_fst | apply kept_foldl_snd | apply kept_forEach | split))

@[simp] theorem kept_State_reconf {s0_ : State} (s : State) (conv : Nat) (ts : List Nat) (h_ : Kept s0_ s)  : Kept s0_ (State.reconf s conv ts) := by
  first
    | (simp (maxDischargeDepth := 40) [State.reconf, h_]; done)
    | (unfold State.reconf; (try dsimp only); repeat' (first | (simp (maxDischargeDepth := 40) [h_]; done) | intro _ | apply kept_foldl | apply kept_foldl_fst | apply kept_foldl_snd | apply kept_forEach | split))

@[simp] theorem kept_State_tallyCommit {s0_ : State} (s : State) (epoch : Nat) (h_ : Kept s0_ s)  : Kept s0_ (State.tallyCommit s epoch) := by
  first
    | (simp (maxDischargeDepth := 40) [State.tallyCommit, h_]; done)
    | (unfold State.tallyCommit; (try dsimp only); repeat' (first | (simp (maxDischargeDepth := 40) [h_]; done) | intro _ | apply kept_foldl | apply kept_foldl_fst | apply kept_foldl_snd | apply kept_forEach | split))

@[simp] theorem kept_State_listsDone {s0_ : State} (s : State) (d : Nat) (h_ : Kept s0_ s)  : Kept s0_ (State.listsDone s d) := by
  first
    | (simp (maxDischargeDepth := 40) [State.listsDone, h_]; done)
    | (unfold State.listsDone; (try dsimp only); repeat' (first | (simp (maxDischargeDepth := 40) [h_]; done) | intro _ | apply kept_foldl | apply kept_foldl_fst | apply kept_foldl_snd | apply kept_forEach | split))

@[simp] theorem kept_State_latchSense {s0_ : State} (s : State) (d : Nat) (smp : SenseSample) (h_ : Kept s0_ s)  : Kept s0_ (State.latchSense s d smp).1 := by
  first
    | (simp (maxDischargeDepth := 40) [State.latchSense, h_]; done)
    | (unfold State.latchSense; (try dsimp only); repeat' (first | (simp (maxDischargeDepth := 40) [h_]; done) | intro _ | apply kept_foldl | apply kept_foldl_fst | apply kept_foldl_snd | apply kept_forEach | split))

@[simp] theorem kept_State_trigSource {s0_ : State} (s : State) (src : Nat) (h_ : Kept s0_ s)  : Kept s0_ (State.trigSource s src) := by
  first
    | (simp (maxDischargeDepth := 40) [State.trigSource, h_]; done)
    | (unfold State.trigSource; (try dsimp only); repeat' (first | (simp (maxDischargeDepth := 40) [h_]; done) | intro _ | apply kept_foldl | apply kept_foldl_fst | apply kept_foldl_snd | apply kept_forEach | split))

@[simp] theorem kept_State_softTrig {s0_ : State} (s : State) (all : Bool) (inj : Bool) (conv : Nat) (h_ : Kept s0_ s)  : Kept s0_ (State.softTrig s all inj conv) := by
  first
    | (simp (maxDischargeDepth := 40) [State.softTrig, h_]; done)
    | (unfold State.softTrig; (try dsimp only); repeat' (first | (simp (maxDischargeDepth := 40) [h_]; done) | intro _ | apply kept_foldl | apply kept_foldl_fst | apply kept_foldl_snd | apply kept_forEach | split))

@[simp] theorem kept_execSenseTimerTick {s0_ : State} (s : State) (h_ : Kept s0_ s)  : OutKept s0_ (execSenseTimerTick s) := by
  first
    | (simp (maxDischargeDepth := 40) [execSenseTimerTick, h_]; done)
    | (unfold execSenseTimerTick; (try dsimp only); repeat' (first | (simp (maxDischargeDepth := 40) [h_]; done) | intro _ | apply kept_foldl | apply kept_foldl_fst | apply kept_foldl_snd | apply kept_forEach | split))

@[simp] theorem kept_execCsPhaseEvent {s0_ : State} (s : State) (h_ : Kept s0_ s)  : OutKept s0_ (execCsPhaseEvent s) := by
  first
    | (simp (maxDischargeDepth := 40) [execCsPhaseEvent, h_]; done)
    | (unfold execCsPhaseEvent; (try dsimp only); repeat' (first | (simp (maxDischargeDepth := 40) [h_]; done) | intro _ | apply kept_foldl | apply kept_foldl_fst | apply kept_foldl_snd | apply kept_forEach | split))

@[simp] theorem kept_State_takeReg {s0_ : State} (s : State) (d : Nat) (h_ : Kept s0_ s)  : Kept s0_ (State.takeReg s d) := by
  first
    | (simp (maxDischargeDepth := 40) [State.takeReg, h_]; done)
    | (unfold State.takeReg; (try dsimp only); repeat' (first | (simp (maxDischargeDepth := 40) [h_]; done) | intro _ | apply kept_foldl | apply kept_foldl_fst | apply kept_foldl_snd | apply kept_forEach | split))

@[simp] theorem kept_State_takeInj {s0_ : State} (s : State) (d : Nat) (h_ : Kept s0_ s)  : Kept s0_ (State.takeInj s d) := by
  first
    | (simp (maxDischargeDepth := 40) [State.takeInj, h_]; done)
    | (unfold State.takeInj; (try dsimp only); repeat' (first | (simp (maxDischargeDepth := 40) [h_]; done) | intro _ | apply kept_foldl | apply kept_foldl_fst | apply kept_foldl_snd | apply kept_forEach | split))

@[simp] theorem kept_State_roundEnd {s0_ : State} (s : State) (d : Nat) (again : Bool) (h_ : Kept s0_ s)  : Kept s0_ (State.roundEnd s d again) := by
  first
    | (simp (maxDischargeDepth := 40) [State.roundEnd, h_]; done)
    | (unfold State.roundEnd; (try dsimp only); repeat' (first | (simp (maxDischargeDepth := 40) [h_]; done) | intro _ | apply kept_foldl | apply kept_foldl_fst | apply kept_foldl_snd | apply kept_forEach | split))

@[simp] theorem kept_State_resumeA {s0_ : State} (s : State) (d : Nat) (resume : Option Nat) (h_ : Kept s0_ s)  : Kept s0_ (State.resumeA s d resume) := by
  first
    | (simp (maxDischargeDepth := 40) [State.resumeA, h_]; done)
    | (unfold State.resumeA; (try dsimp only); repeat' (first | (simp (maxDischargeDepth := 40) [h_]; done) | intro _ | apply kept_foldl | apply kept_foldl_fst | apply kept_foldl_snd | apply kept_forEach | split))

@[simp] theorem kept_State_entryResult {s0_ : State} (s : State) (d : Nat) (smp : SenseSample) (h_ : Kept s0_ s)  : Kept s0_ (State.entryResult s d smp) := by
  first
    | (simp (maxDischargeDepth := 40) [State.entryResult, h_]; done)
    | (unfold State.entryResult; (try dsimp only); repeat' (first | (simp (maxDischargeDepth := 40) [h_]; done) | intro _ | apply kept_foldl | apply kept_foldl_fst | apply kept_foldl_snd | apply kept_forEach | split))

@[simp] theorem kept_execEntryDone {s0_ : State} (d : DomIx) (smp : SenseSample) (s : State) (h_ : Kept s0_ s)  : OutKept s0_ (execEntryDone d smp s) := by
  first
    | (simp (maxDischargeDepth := 40) [execEntryDone, h_]; done)
    | (unfold execEntryDone; (try dsimp only); repeat' (first | (simp (maxDischargeDepth := 40) [h_]; done) | intro _ | apply kept_foldl | apply kept_foldl_fst | apply kept_foldl_snd | apply kept_forEach | split))

@[simp] theorem kept_State_seqActivate {s0_ : State} (s : State) (d : Nat) (l : SeqSet) (h_ : Kept s0_ s)  : Kept s0_ (State.seqActivate s d l) := by
  first
    | (simp (maxDischargeDepth := 40) [State.seqActivate, h_]; done)
    | (unfold State.seqActivate; (try dsimp only); repeat' (first | (simp (maxDischargeDepth := 40) [h_]; done) | intro _ | apply kept_foldl | apply kept_foldl_fst | apply kept_foldl_snd | apply kept_forEach | split))

@[simp] theorem kept_State_seqGo {s0_ : State} (s : State) (v : Word) (h_ : Kept s0_ s)  : Kept s0_ (State.seqGo s v) := by
  first
    | (simp (maxDischargeDepth := 40) [State.seqGo, h_]; done)
    | (unfold State.seqGo; (try dsimp only); repeat' (first | (simp (maxDischargeDepth := 40) [h_]; done) | intro _ | apply kept_foldl | apply kept_foldl_fst | apply kept_foldl_snd | apply kept_forEach | split))

@[simp] theorem kept_State_tallyCaptureOp {s0_ : State} (s : State) (v : Word) (h_ : Kept s0_ s)  : Kept s0_ (State.tallyCaptureOp s v) := by
  first
    | (simp (maxDischargeDepth := 40) [State.tallyCaptureOp, h_]; done)
    | (unfold State.tallyCaptureOp; (try dsimp only); repeat' (first | (simp (maxDischargeDepth := 40) [h_]; done) | intro _ | apply kept_foldl | apply kept_foldl_fst | apply kept_foldl_snd | apply kept_forEach | split))

@[simp] theorem kept_State_tallyClearOp {s0_ : State} (s : State) (conv : Nat) (mask : Nat) (h_ : Kept s0_ s)  : Kept s0_ (State.tallyClearOp s conv mask) := by
  first
    | (simp (maxDischargeDepth := 40) [State.tallyClearOp, h_]; done)
    | (unfold State.tallyClearOp; (try dsimp only); repeat' (first | (simp (maxDischargeDepth := 40) [h_]; done) | intro _ | apply kept_foldl | apply kept_foldl_fst | apply kept_foldl_snd | apply kept_forEach | split))

@[simp] theorem kept_State_refSelectOp {s0_ : State} (s : State) (sel : Nat) (h_ : Kept s0_ s)  : Kept s0_ (State.refSelectOp s sel) := by
  first
    | (simp (maxDischargeDepth := 40) [State.refSelectOp, h_]; done)
    | (unfold State.refSelectOp; (try dsimp only); repeat' (first | (simp (maxDischargeDepth := 40) [h_]; done) | intro _ | apply kept_foldl | apply kept_foldl_fst | apply kept_foldl_snd | apply kept_forEach | split))

@[simp] theorem kept_execRefSelect {s0_ : State} (sel : BitVec 2) (s : State) (h_ : Kept s0_ s)  : OutKept s0_ (execRefSelect sel s) := by
  first
    | (simp (maxDischargeDepth := 40) [execRefSelect, h_]; done)
    | (unfold execRefSelect; (try dsimp only); repeat' (first | (simp (maxDischargeDepth := 40) [h_]; done) | intro _ | apply kept_foldl | apply kept_foldl_fst | apply kept_foldl_snd | apply kept_forEach | split))

@[simp] theorem kept_State_roundBegin {s0_ : State} (s : State) (h_ : Kept s0_ s)  : Kept s0_ (State.roundBegin s) := by
  first
    | (simp (maxDischargeDepth := 40) [State.roundBegin, h_]; done)
    | (unfold State.roundBegin; (try dsimp only); repeat' (first | (simp (maxDischargeDepth := 40) [h_]; done) | intro _ | apply kept_foldl | apply kept_foldl_fst | apply kept_foldl_snd | apply kept_forEach | split))

@[simp] theorem kept_execHkcRoundStart {s0_ : State} (s : State) (h_ : Kept s0_ s)  : OutKept s0_ (execHkcRoundStart s) := by
  first
    | (simp (maxDischargeDepth := 40) [execHkcRoundStart, h_]; done)
    | (unfold execHkcRoundStart; (try dsimp only); repeat' (first | (simp (maxDischargeDepth := 40) [h_]; done) | intro _ | apply kept_foldl | apply kept_foldl_fst | apply kept_foldl_snd | apply kept_forEach | split))

@[simp] theorem kept_execHkcConversion {s0_ : State} (k : HkcIx) (ch : Fin 152) (raw : Option Int) (s : State) (h_ : Kept s0_ s)  : OutKept s0_ (execHkcConversion k ch raw s) := by
  first
    | (simp (maxDischargeDepth := 40) [execHkcConversion, h_]; done)
    | (unfold execHkcConversion; (try dsimp only); repeat' (first | (simp (maxDischargeDepth := 40) [h_]; done) | intro _ | apply kept_foldl | apply kept_foldl_fst | apply kept_foldl_snd | apply kept_forEach | split))

@[simp] theorem kept_State_hkcVoid {s0_ : State} (s : State) (k : Nat) (h_ : Kept s0_ s)  : Kept s0_ (State.hkcVoid s k) := by
  first
    | (simp (maxDischargeDepth := 40) [State.hkcVoid, h_]; done)
    | (unfold State.hkcVoid; (try dsimp only); repeat' (first | (simp (maxDischargeDepth := 40) [h_]; done) | intro _ | apply kept_foldl | apply kept_foldl_fst | apply kept_foldl_snd | apply kept_forEach | split))

@[simp] theorem kept_State_concludeList {s0_ : State} (s : State) (l : List (Nat × Nat)) (pass : Nat → Bool) (h_ : Kept s0_ s)  : Kept s0_ (State.concludeList s l pass) := by
  first
    | (simp (maxDischargeDepth := 40) [State.concludeList, h_]; done)
    | (unfold State.concludeList; (try dsimp only); repeat' (first | (simp (maxDischargeDepth := 40) [h_]; done) | intro _ | apply kept_foldl | apply kept_foldl_fst | apply kept_foldl_snd | apply kept_forEach | split))

@[simp] theorem kept_execHkcCheckSlot {s0_ : State} (own : BitVec 8) (s : State) (h_ : Kept s0_ s)  : OutKept s0_ (execHkcCheckSlot own s) := by
  first
    | (simp (maxDischargeDepth := 40) [execHkcCheckSlot, h_]; done)
    | (unfold execHkcCheckSlot; (try dsimp only); repeat' (first | (simp (maxDischargeDepth := 40) [h_]; done) | intro _ | apply kept_foldl | apply kept_foldl_fst | apply kept_foldl_snd | apply kept_forEach | split))

@[simp] theorem kept_State_refCommit {s0_ : State} (s : State) (h_ : Kept s0_ s)  : Kept s0_ (State.refCommit s) := by
  first
    | (simp (maxDischargeDepth := 40) [State.refCommit, h_]; done)
    | (unfold State.refCommit; (try dsimp only); repeat' (first | (simp (maxDischargeDepth := 40) [h_]; done) | intro _ | apply kept_foldl | apply kept_foldl_fst | apply kept_foldl_snd | apply kept_forEach | split))

@[simp] theorem kept_State_roundClose {s0_ : State} (s : State) (epoch : Nat) (h_ : Kept s0_ s)  : Kept s0_ (State.roundClose s epoch) := by
  first
    | (simp (maxDischargeDepth := 40) [State.roundClose, h_]; done)
    | (unfold State.roundClose; (try dsimp only); repeat' (first | (simp (maxDischargeDepth := 40) [h_]; done) | intro _ | apply kept_foldl | apply kept_foldl_fst | apply kept_foldl_snd | apply kept_forEach | split))

@[simp] theorem kept_State_evalDiode {s0_ : State} (s : State) (n : Nat) (t : Int) (rate : Option Int) (h_ : Kept s0_ s)  : Kept s0_ (State.evalDiode s n t rate) := by
  first
    | (simp (maxDischargeDepth := 40) [State.evalDiode, h_]; done)
    | (unfold State.evalDiode; (try dsimp only); repeat' (first | (simp (maxDischargeDepth := 40) [h_]; done) | intro _ | apply kept_foldl | apply kept_foldl_fst | apply kept_foldl_snd | apply kept_forEach | split))

@[simp] theorem kept_execDiodeEval {s0_ : State} (n : DiodeIx) (s : State) (h_ : Kept s0_ s)  : OutKept s0_ (execDiodeEval n s) := by
  first
    | (simp (maxDischargeDepth := 40) [execDiodeEval, h_]; done)
    | (unfold execDiodeEval; (try dsimp only); repeat' (first | (simp (maxDischargeDepth := 40) [h_]; done) | intro _ | apply kept_foldl | apply kept_foldl_fst | apply kept_foldl_snd | apply kept_forEach | split))

@[simp] theorem kept_execThermSensor {s0_ : State} (n : DiodeIx) (s : State) (h_ : Kept s0_ s)  : OutKept s0_ (execThermSensor n s) := by
  first
    | (simp (maxDischargeDepth := 40) [execThermSensor, h_]; done)
    | (unfold execThermSensor; (try dsimp only); repeat' (first | (simp (maxDischargeDepth := 40) [h_]; done) | intro _ | apply kept_foldl | apply kept_foldl_fst | apply kept_foldl_snd | apply kept_forEach | split))

@[simp] theorem kept_State_crossEnd {s0_ : State} (s : State) (d : Nat) (h_ : Kept s0_ s)  : Kept s0_ (State.crossEnd s d) := by
  first
    | (simp (maxDischargeDepth := 40) [State.crossEnd, h_]; done)
    | (unfold State.crossEnd; (try dsimp only); repeat' (first | (simp (maxDischargeDepth := 40) [h_]; done) | intro _ | apply kept_foldl | apply kept_foldl_fst | apply kept_foldl_snd | apply kept_forEach | split))

@[simp] theorem kept_State_guardPoint {s0_ : State} (s : State) (d : Nat) (ch : Nat) (v : Int) (h_ : Kept s0_ s)  : Kept s0_ (State.guardPoint s d ch v) := by
  first
    | (simp (maxDischargeDepth := 40) [State.guardPoint, h_]; done)
    | (unfold State.guardPoint; (try dsimp only); repeat' (first | (simp (maxDischargeDepth := 40) [h_]; done) | intro _ | apply kept_foldl | apply kept_foldl_fst | apply kept_foldl_snd | apply kept_forEach | split))

@[simp] theorem kept_execGuardReading {s0_ : State} (d : DomIx) (smp : SenseSample) (s : State) (h_ : Kept s0_ s)  : OutKept s0_ (execGuardReading d smp s) := by
  first
    | (simp (maxDischargeDepth := 40) [execGuardReading, h_]; done)
    | (unfold execGuardReading; (try dsimp only); repeat' (first | (simp (maxDischargeDepth := 40) [h_]; done) | intro _ | apply kept_foldl | apply kept_foldl_fst | apply kept_foldl_snd | apply kept_forEach | split))

@[simp] theorem kept_State_strike {s0_ : State} (s : State) (d : Nat) (ch : Nat) (h_ : Kept s0_ s)  : Kept s0_ (State.strike s d ch) := by
  first
    | (simp (maxDischargeDepth := 40) [State.strike, h_]; done)
    | (unfold State.strike; (try dsimp only); repeat' (first | (simp (maxDischargeDepth := 40) [h_]; done) | intro _ | apply kept_foldl | apply kept_foldl_fst | apply kept_foldl_snd | apply kept_forEach | split))

@[simp] theorem kept_execOpenWireTestEnd {s0_ : State} (d : DomIx) (ch : Fin 128) (up : List Int) (down : List Int) (s : State) (h_ : Kept s0_ s)  : OutKept s0_ (execOpenWireTestEnd d ch up down s) := by
  first
    | (simp (maxDischargeDepth := 40) [execOpenWireTestEnd, h_]; done)
    | (unfold execOpenWireTestEnd; (try dsimp only); repeat' (first | (simp (maxDischargeDepth := 40) [h_]; done) | intro _ | apply kept_foldl | apply kept_foldl_fst | apply kept_foldl_snd | apply kept_forEach | split))

@[simp] theorem kept_State_restoreOp {s0_ : State} (s : State) (point : Nat) (h_ : Kept s0_ s)  : Kept s0_ (State.restoreOp s point) := by
  first
    | (simp (maxDischargeDepth := 40) [State.restoreOp, h_]; done)
    | (unfold State.restoreOp; (try dsimp only); repeat' (first | (simp (maxDischargeDepth := 40) [h_]; done) | intro _ | apply kept_foldl | apply kept_foldl_fst | apply kept_foldl_snd | apply kept_forEach | split))

@[simp] theorem kept_State_restoreCommit {s0_ : State} (s : State) (h_ : Kept s0_ s)  : Kept s0_ (State.restoreCommit s) := by
  first
    | (simp (maxDischargeDepth := 40) [State.restoreCommit, h_]; done)
    | (unfold State.restoreCommit; (try dsimp only); repeat' (first | (simp (maxDischargeDepth := 40) [h_]; done) | intro _ | apply kept_foldl | apply kept_foldl_fst | apply kept_foldl_snd | apply kept_forEach | split))

@[simp] theorem kept_execDscAuditStepEnd {s0_ : State} (d : DomIx) (zero : Int × Int) (mid : Int × Int) (inj : Int) (s : State) (h_ : Kept s0_ s)  : OutKept s0_ (execDscAuditStepEnd d zero mid inj s) := by
  first
    | (simp (maxDischargeDepth := 40) [execDscAuditStepEnd, h_]; done)
    | (unfold execDscAuditStepEnd; (try dsimp only); repeat' (first | (simp (maxDischargeDepth := 40) [h_]; done) | intro _ | apply kept_foldl | apply kept_foldl_fst | apply kept_foldl_snd | apply kept_forEach | split))

end Sys2Proof.Machine
end

