-- ==== Sys2Proof/Laws/KeptEngine.lean ====
section
/-! SUPPORT. What the operations of Machine/Engine.lean keep (Laws/Kept.lean). -/

set_option linter.unusedSimpArgs false
set_option linter.unusedVariables false

namespace Sys2Proof.Machine

@[simp] theorem kept_State_lawReplaced {s0_ : State} (s : State) (o : StagedLaw) (h_ : Kept s0_ s)  : Kept s0_ (State.lawReplaced s o) := by
  first
    | (simp (maxDischargeDepth := 40) [State.lawReplaced, h_]; done)
    | (unfold State.lawReplaced; (try dsimp only); repeat' (first | (simp (maxDischargeDepth := 40) [h_]; done) | intro _ | apply kept_foldl | apply kept_foldl_fst | apply kept_foldl_snd | apply kept_forEach | split))

@[simp] theorem kept_State_stageLaw {s0_ : State} (s : State) (d : Nat) (l : List Word) (path : LawPath) (h_ : Kept s0_ s)  : Kept s0_ (State.stageLaw s d l path) := by
  first
    | (simp (maxDischargeDepth := 40) [State.stageLaw, h_]; done)
    | (unfold State.stageLaw; (try dsimp only); repeat' (first | (simp (maxDischargeDepth := 40) [h_]; done) | intro _ | apply kept_foldl | apply kept_foldl_fst | apply kept_foldl_snd | apply kept_forEach | split))

@[simp] theorem kept_State_lawActivate {s0_ : State} (s : State) (d : Nat) (h_ : Kept s0_ s)  : Kept s0_ (State.lawActivate s d) := by
  first
    | (simp (maxDischargeDepth := 40) [State.lawActivate, h_]; done)
    | (unfold State.lawActivate; (try dsimp only); repeat' (first | (simp (maxDischargeDepth := 40) [h_]; done) | intro _ | apply kept_foldl | apply kept_foldl_fst | apply kept_foldl_snd | apply kept_forEach | split))

@[simp] theorem kept_State_domRunning {s0_ : State} (s : State) (d : Nat) (h_ : Kept s0_ s)  : Kept s0_ (State.domRunning s d) := by
  first
    | (simp (maxDischargeDepth := 40) [State.domRunning, h_]; done)
    | (unfold State.domRunning; (try dsimp only); repeat' (first | (simp (maxDischargeDepth := 40) [h_]; done) | intro _ | apply kept_foldl | apply kept_foldl_fst | apply kept_foldl_snd | apply kept_forEach | split))

@[simp] theorem kept_State_domIsOff {s0_ : State} (s : State) (d : Nat) (h_ : Kept s0_ s)  : Kept s0_ (State.domIsOff s d) := by
  first
    | (simp (maxDischargeDepth := 40) [State.domIsOff, h_]; done)
    | (unfold State.domIsOff; (try dsimp only); repeat' (first | (simp (maxDischargeDepth := 40) [h_]; done) | intro _ | apply kept_foldl | apply kept_foldl_fst | apply kept_foldl_snd | apply kept_forEach | split))

@[simp] theorem kept_State_slotStart {s0_ : State} (s : State) (d : Nat) (v : Option Int) (h_ : Kept s0_ s)  : Kept s0_ (State.slotStart s d v) := by
  first
    | (simp (maxDischargeDepth := 40) [State.slotStart, h_]; done)
    | (unfold State.slotStart; (try dsimp only); repeat' (first | (simp (maxDischargeDepth := 40) [h_]; done) | intro _ | apply kept_foldl | apply kept_foldl_fst | apply kept_foldl_snd | apply kept_forEach | split))

@[simp] theorem kept_State_slotStop {s0_ : State} (s : State) (d : Nat) (h_ : Kept s0_ s)  : Kept s0_ (State.slotStop s d) := by
  first
    | (simp (maxDischargeDepth := 40) [State.slotStop, h_]; done)
    | (unfold State.slotStop; (try dsimp only); repeat' (first | (simp (maxDischargeDepth := 40) [h_]; done) | intro _ | apply kept_foldl | apply kept_foldl_fst | apply kept_foldl_snd | apply kept_forEach | split))

@[simp] theorem kept_State_slot {s0_ : State} (s : State) (d : Nat) (v : Option Int) (i : Option Int) (h_ : Kept s0_ s)  : Kept s0_ (State.slot s d v i) := by
  first
    | (simp (maxDischargeDepth := 40) [State.slot, h_]; done)
    | (unfold State.slot; (try dsimp only); repeat' (first | (simp (maxDischargeDepth := 40) [h_]; done) | intro _ | apply kept_foldl | apply kept_foldl_fst | apply kept_foldl_snd | apply kept_forEach | split))

@[simp] theorem kept_execLaneSlot {s0_ : State} (d : DomIx) (smp : SenseSample) (s : State) (h_ : Kept s0_ s)  : OutKept s0_ (execLaneSlot d smp s) := by
  first
    | (simp (maxDischargeDepth := 40) [execLaneSlot, h_]; done)
    | (unfold execLaneSlot; (try dsimp only); repeat' (first | (simp (maxDischargeDepth := 40) [h_]; done) | intro _ | apply kept_foldl | apply kept_foldl_fst | apply kept_foldl_snd | apply kept_forEach | split))

@[simp] theorem kept_execEngSat {s0_ : State} (d : DomIx) (s : State) (h_ : Kept s0_ s)  : OutKept s0_ (execEngSat d s) := by
  first
    | (simp (maxDischargeDepth := 40) [execEngSat, h_]; done)
    | (unfold execEngSat; (try dsimp only); repeat' (first | (simp (maxDischargeDepth := 40) [h_]; done) | intro _ | apply kept_foldl | apply kept_foldl_fst | apply kept_foldl_snd | apply kept_forEach | split))

@[simp] theorem kept_execFbLost {s0_ : State} (d : DomIx) (s : State) (h_ : Kept s0_ s)  : OutKept s0_ (execFbLost d s) := by
  first
    | (simp (maxDischargeDepth := 40) [execFbLost, h_]; done)
    | (unfold execFbLost; (try dsimp only); repeat' (first | (simp (maxDischargeDepth := 40) [h_]; done) | intro _ | apply kept_foldl | apply kept_foldl_fst | apply kept_foldl_snd | apply kept_forEach | split))

@[simp] theorem kept_State_queueShareTrim {s0_ : State} (s : State) (i : Nat) (h_ : Kept s0_ s)  : Kept s0_ (State.queueShareTrim s i) := by
  first
    | (simp (maxDischargeDepth := 40) [State.queueShareTrim, h_]; done)
    | (unfold State.queueShareTrim; (try dsimp only); repeat' (first | (simp (maxDischargeDepth := 40) [h_]; done) | intro _ | apply kept_foldl | apply kept_foldl_fst | apply kept_foldl_snd | apply kept_forEach | split))

@[simp] theorem kept_State_shareOne {s0_ : State} (s : State) (i : Nat) (p : Nat) (waited : Nat) (trim : Bool) (h_ : Kept s0_ s)  : Kept s0_ (State.shareOne s i p waited trim) := by
  first
    | (simp (maxDischargeDepth := 40) [State.shareOne, h_]; done)
    | (unfold State.shareOne; (try dsimp only); repeat' (first | (simp (maxDischargeDepth := 40) [h_]; done) | intro _ | apply kept_foldl | apply kept_foldl_fst | apply kept_foldl_snd | apply kept_forEach | split))

@[simp] theorem kept_State_shareNext {s0_ : State} (s : State) (k : Nat) (trim : Bool) (h_ : Kept s0_ s)  : Kept s0_ (State.shareNext s k trim) := by
  first
    | (simp (maxDischargeDepth := 40) [State.shareNext, h_]; done)
    | (unfold State.shareNext; (try dsimp only); repeat' (first | (simp (maxDischargeDepth := 40) [h_]; done) | intro _ | apply kept_foldl | apply kept_foldl_fst | apply kept_foldl_snd | apply kept_forEach | split))

@[simp] theorem kept_execSharingStep {s0_ : State} (k : LaneIx) (s : State) (h_ : Kept s0_ s)  : OutKept s0_ (execSharingStep k s) := by
  first
    | (simp (maxDischargeDepth := 40) [execSharingStep, h_]; done)
    | (unfold execSharingStep; (try dsimp only); repeat' (first | (simp (maxDischargeDepth := 40) [h_]; done) | intro _ | apply kept_foldl | apply kept_foldl_fst | apply kept_foldl_snd | apply kept_forEach | split))

@[simp] theorem kept_execSharingPayloadDrop {s0_ : State} (k : LaneIx) (s : State) (h_ : Kept s0_ s)  : OutKept s0_ (execSharingPayloadDrop k s) := by
  first
    | (simp (maxDischargeDepth := 40) [execSharingPayloadDrop, h_]; done)
    | (unfold execSharingPayloadDrop; (try dsimp only); repeat' (first | (simp (maxDischargeDepth := 40) [h_]; done) | intro _ | apply kept_foldl | apply kept_foldl_fst | apply kept_foldl_snd | apply kept_forEach | split))

@[simp] theorem kept_execLaneSwap {s0_ : State} (s : State) (h_ : Kept s0_ s)  : OutKept s0_ (execLaneSwap s) := by
  first
    | (simp (maxDischargeDepth := 40) [execLaneSwap, h_]; done)
    | (unfold execLaneSwap; (try dsimp only); repeat' (first | (simp (maxDischargeDepth := 40) [h_]; done) | intro _ | apply kept_foldl | apply kept_foldl_fst | apply kept_foldl_snd | apply kept_forEach | split))

@[simp] theorem kept_State_laneFreeze {s0_ : State} (s : State) (k : Nat) (h_ : Kept s0_ s)  : Kept s0_ (State.laneFreeze s k) := by
  first
    | (simp (maxDischargeDepth := 40) [State.laneFreeze, h_]; done)
    | (unfold State.laneFreeze; (try dsimp only); repeat' (first | (simp (maxDischargeDepth := 40) [h_]; done) | intro _ | apply kept_foldl | apply kept_foldl_fst | apply kept_foldl_snd | apply kept_forEach | split))

@[simp] theorem kept_State_laneAuditDone {s0_ : State} (s : State) (k : Nat) (pass : Bool) (h_ : Kept s0_ s)  : Kept s0_ (State.laneAuditDone s k pass) := by
  first
    | (simp (maxDischargeDepth := 40) [State.laneAuditDone, h_]; done)
    | (unfold State.laneAuditDone; (try dsimp only); repeat' (first | (simp (maxDischargeDepth := 40) [h_]; done) | intro _ | apply kept_foldl | apply kept_foldl_fst | apply kept_foldl_snd | apply kept_forEach | split))

@[simp] theorem kept_State_laneAuditOwn {s0_ : State} (s : State) (k : Nat) (h_ : Kept s0_ s)  : Kept s0_ (State.laneAuditOwn s k) := by
  first
    | (simp (maxDischargeDepth := 40) [State.laneAuditOwn, h_]; done)
    | (unfold State.laneAuditOwn; (try dsimp only); repeat' (first | (simp (maxDischargeDepth := 40) [h_]; done) | intro _ | apply kept_foldl | apply kept_foldl_fst | apply kept_foldl_snd | apply kept_forEach | split))

@[simp] theorem kept_State_laneMismatch {s0_ : State} (s : State) (k : Nat) (slot : Nat) (h_ : Kept s0_ s)  : Kept s0_ (State.laneMismatch s k slot) := by
  first
    | (simp (maxDischargeDepth := 40) [State.laneMismatch, h_]; done)
    | (unfold State.laneMismatch; (try dsimp only); repeat' (first | (simp (maxDischargeDepth := 40) [h_]; done) | intro _ | apply kept_foldl | apply kept_foldl_fst | apply kept_foldl_snd | apply kept_forEach | split))

@[simp] theorem kept_execLaneMismatch {s0_ : State} (k : LaneIx) (slot : Fin 7) (s : State) (h_ : Kept s0_ s)  : OutKept s0_ (execLaneMismatch k slot s) := by
  first
    | (simp (maxDischargeDepth := 40) [execLaneMismatch, h_]; done)
    | (unfold execLaneMismatch; (try dsimp only); repeat' (first | (simp (maxDischargeDepth := 40) [h_]; done) | intro _ | apply kept_foldl | apply kept_foldl_fst | apply kept_foldl_snd | apply kept_forEach | split))

@[simp] theorem kept_execLaneAuditEnd {s0_ : State} (k : LaneIx) (pass : Bool) (s : State) (h_ : Kept s0_ s)  : OutKept s0_ (execLaneAuditEnd k pass s) := by
  first
    | (simp (maxDischargeDepth := 40) [execLaneAuditEnd, h_]; done)
    | (unfold execLaneAuditEnd; (try dsimp only); repeat' (first | (simp (maxDischargeDepth := 40) [h_]; done) | intro _ | apply kept_foldl | apply kept_foldl_fst | apply kept_foldl_snd | apply kept_forEach | split))

@[simp] theorem kept_State_lawGo {s0_ : State} (s : State) (op : Nat) (d : Nat) (h_ : Kept s0_ s)  : Kept s0_ (State.lawGo s op d) := by
  first
    | (simp (maxDischargeDepth := 40) [State.lawGo, h_]; done)
    | (unfold State.lawGo; (try dsimp only); repeat' (first | (simp (maxDischargeDepth := 40) [h_]; done) | intro _ | apply kept_foldl | apply kept_foldl_fst | apply kept_foldl_snd | apply kept_forEach | split))

@[simp] theorem kept_State_lawStart {s0_ : State} (s : State) (op : Nat) (d : Nat) (h_ : Kept s0_ s)  : Kept s0_ (State.lawStart s op d) := by
  first
    | (simp (maxDischargeDepth := 40) [State.lawStart, h_]; done)
    | (unfold State.lawStart; (try dsimp only); repeat' (first | (simp (maxDischargeDepth := 40) [h_]; done) | intro _ | apply kept_foldl | apply kept_foldl_fst | apply kept_foldl_snd | apply kept_forEach | split))

@[simp] theorem kept_State_lawEnd {s0_ : State} (s : State) (h_ : Kept s0_ s)  : Kept s0_ (State.lawEnd s) := by
  first
    | (simp (maxDischargeDepth := 40) [State.lawEnd, h_]; done)
    | (unfold State.lawEnd; (try dsimp only); repeat' (first | (simp (maxDischargeDepth := 40) [h_]; done) | intro _ | apply kept_foldl | apply kept_foldl_fst | apply kept_foldl_snd | apply kept_forEach | split))

@[simp] theorem kept_execLawOpDone {s0_ : State} (s : State) (h_ : Kept s0_ s)  : OutKept s0_ (execLawOpDone s) := by
  first
    | (simp (maxDischargeDepth := 40) [execLawOpDone, h_]; done)
    | (unfold execLawOpDone; (try dsimp only); repeat' (first | (simp (maxDischargeDepth := 40) [h_]; done) | intro _ | apply kept_foldl | apply kept_foldl_fst | apply kept_foldl_snd | apply kept_forEach | split))

end Sys2Proof.Machine
end

