-- ==== Sys2Proof/Laws/KeptMeter.lean ====
section
/-! SUPPORT. What the operations of Machine/Meter.lean keep (Laws/Kept.lean). -/

set_option linter.unusedSimpArgs false
set_option linter.unusedVariables false

namespace Sys2Proof.Machine

@[simp] theorem kept_State_meterEpoch {s0_ : State} (s : State) (h_ : Kept s0_ s)  : Kept s0_ (State.meterEpoch s) := by
  first
    | (simp (maxDischargeDepth := 40) [State.meterEpoch, h_]; done)
    | (unfold State.meterEpoch; (try dsimp only); repeat' (first | (simp (maxDischargeDepth := 40) [h_]; done) | intro _ | apply kept_foldl | apply kept_foldl_fst | apply kept_foldl_snd | apply kept_forEach | split))

@[simp] theorem kept_State_unmetered {s0_ : State} (s : State) (n : Nat) (h_ : Kept s0_ s)  : Kept s0_ (State.unmetered s n) := by
  first
    | (simp (maxDischargeDepth := 40) [State.unmetered, h_]; done)
    | (unfold State.unmetered; (try dsimp only); repeat' (first | (simp (maxDischargeDepth := 40) [h_]; done) | intro _ | apply kept_foldl | apply kept_foldl_fst | apply kept_foldl_snd | apply kept_forEach | split))

@[simp] theorem kept_State_kInStep {s0_ : State} (s : State) (total : Rat) (mean : Rat) (h_ : Kept s0_ s)  : Kept s0_ (State.kInStep s total mean) := by
  first
    | (simp (maxDischargeDepth := 40) [State.kInStep, h_]; done)
    | (unfold State.kInStep; (try dsimp only); repeat' (first | (simp (maxDischargeDepth := 40) [h_]; done) | intro _ | apply kept_foldl | apply kept_foldl_fst | apply kept_foldl_snd | apply kept_forEach | split))

@[simp] theorem kept_State_kInRound {s0_ : State} (s : State) (h_ : Kept s0_ s)  : Kept s0_ (State.kInRound s) := by
  first
    | (simp (maxDischargeDepth := 40) [State.kInRound, h_]; done)
    | (unfold State.kInRound; (try dsimp only); repeat' (first | (simp (maxDischargeDepth := 40) [h_]; done) | intro _ | apply kept_foldl | apply kept_foldl_fst | apply kept_foldl_snd | apply kept_forEach | split))

@[simp] theorem kept_execKInUpdate {s0_ : State} (s : State) (h_ : Kept s0_ s)  : OutKept s0_ (execKInUpdate s) := by
  first
    | (simp (maxDischargeDepth := 40) [execKInUpdate, h_]; done)
    | (unfold execKInUpdate; (try dsimp only); repeat' (first | (simp (maxDischargeDepth := 40) [h_]; done) | intro _ | apply kept_foldl | apply kept_foldl_fst | apply kept_foldl_snd | apply kept_forEach | split))

end Sys2Proof.Machine
end

