-- ==== Sys2Proof/Laws/KeptHints.lean ====
section
/-! SUPPORT. What the operations of Machine/Hints.lean keep (Laws/Kept.lean). -/

set_option linter.unusedSimpArgs false
set_option linter.unusedVariables false

namespace Sys2Proof.Machine

@[simp] theorem kept_execHintWord {s0_ : State} (t : TileIx) (w : BitVec 64) (last : Bool) (s : State) (h_ : Kept s0_ s)  : OutKept s0_ (execHintWord t w last s) := by
  first
    | (simp (maxDischargeDepth := 40) [execHintWord, h_]; done)
    | (unfold execHintWord; (try dsimp only); repeat' (first | (simp (maxDischargeDepth := 40) [h_]; done) | intro _ | apply kept_foldl | apply kept_foldl_fst | apply kept_foldl_snd | apply kept_forEach | split))

@[simp] theorem kept_execHintPortRoom {s0_ : State} (t : TileIx) (s : State) (h_ : Kept s0_ s)  : OutKept s0_ (execHintPortRoom t s) := by
  first
    | (simp (maxDischargeDepth := 40) [execHintPortRoom, h_]; done)
    | (unfold execHintPortRoom; (try dsimp only); repeat' (first | (simp (maxDischargeDepth := 40) [h_]; done) | intro _ | apply kept_foldl | apply kept_foldl_fst | apply kept_foldl_snd | apply kept_forEach | split))

@[simp] theorem kept_State_takePackets {s0_ : State} (s : State) (n : Nat) (t : Nat) (h_ : Kept s0_ s)  : Kept s0_ (State.takePackets s n t) := by
  first
    | (simp (maxDischargeDepth := 40) [State.takePackets, h_]; done)
    | (unfold State.takePackets; (try dsimp only); repeat' (first | (simp (maxDischargeDepth := 40) [h_]; done) | intro _ | apply kept_foldl | apply kept_foldl_fst | apply kept_foldl_snd | apply kept_forEach | split))

@[simp] theorem kept_State_hintCommit {s0_ : State} (s : State) (n : Nat) (t : Nat) (h_ : Kept s0_ s)  : Kept s0_ (State.hintCommit s n t) := by
  first
    | (simp (maxDischargeDepth := 40) [State.hintCommit, h_]; done)
    | (unfold State.hintCommit; (try dsimp only); repeat' (first | (simp (maxDischargeDepth := 40) [h_]; done) | intro _ | apply kept_foldl | apply kept_foldl_fst | apply kept_foldl_snd | apply kept_forEach | split))

@[simp] theorem kept_execHintExpired {s0_ : State} (t : TileIx) (s : State) (h_ : Kept s0_ s)  : OutKept s0_ (execHintExpired t s) := by
  first
    | (simp (maxDischargeDepth := 40) [execHintExpired, h_]; done)
    | (unfold execHintExpired; (try dsimp only); repeat' (first | (simp (maxDischargeDepth := 40) [h_]; done) | intro _ | apply kept_foldl | apply kept_foldl_fst | apply kept_foldl_snd | apply kept_forEach | split))

@[simp] theorem kept_execHintEnd {s0_ : State} (t : TileIx) (s : State) (h_ : Kept s0_ s)  : OutKept s0_ (execHintEnd t s) := by
  first
    | (simp (maxDischargeDepth := 40) [execHintEnd, h_]; done)
    | (unfold execHintEnd; (try dsimp only); repeat' (first | (simp (maxDischargeDepth := 40) [h_]; done) | intro _ | apply kept_foldl | apply kept_foldl_fst | apply kept_foldl_snd | apply kept_forEach | split))

@[simp] theorem kept_State_queueArm {s0_ : State} (s : State) (d : Nat) (arm : Bool) (mask : Nat) (h_ : Kept s0_ s)  : Kept s0_ (State.queueArm s d arm mask) := by
  first
    | (simp (maxDischargeDepth := 40) [State.queueArm, h_]; done)
    | (unfold State.queueArm; (try dsimp only); repeat' (first | (simp (maxDischargeDepth := 40) [h_]; done) | intro _ | apply kept_foldl | apply kept_foldl_fst | apply kept_foldl_snd | apply kept_forEach | split))

@[simp] theorem kept_State_armCommit {s0_ : State} (s : State) (d : Nat) (h_ : Kept s0_ s)  : Kept s0_ (State.armCommit s d) := by
  first
    | (simp (maxDischargeDepth := 40) [State.armCommit, h_]; done)
    | (unfold State.armCommit; (try dsimp only); repeat' (first | (simp (maxDischargeDepth := 40) [h_]; done) | intro _ | apply kept_foldl | apply kept_foldl_fst | apply kept_foldl_snd | apply kept_forEach | split))

@[simp] theorem kept_State_boostCommit {s0_ : State} (s : State) (h_ : Kept s0_ s)  : Kept s0_ (State.boostCommit s) := by
  first
    | (simp (maxDischargeDepth := 40) [State.boostCommit, h_]; done)
    | (unfold State.boostCommit; (try dsimp only); repeat' (first | (simp (maxDischargeDepth := 40) [h_]; done) | intro _ | apply kept_foldl | apply kept_foldl_fst | apply kept_foldl_snd | apply kept_forEach | split))

@[simp] theorem kept_execVinBoostEnd {s0_ : State} (s : State) (h_ : Kept s0_ s)  : OutKept s0_ (execVinBoostEnd s) := by
  first
    | (simp (maxDischargeDepth := 40) [execVinBoostEnd, h_]; done)
    | (unfold execVinBoostEnd; (try dsimp only); repeat' (first | (simp (maxDischargeDepth := 40) [h_]; done) | intro _ | apply kept_foldl | apply kept_foldl_fst | apply kept_foldl_snd | apply kept_forEach | split))

end Sys2Proof.Machine
end

