-- ==== Sys2Proof/Laws/KeptLedger.lean ====
section
/-! SUPPORT. What the operations of Machine/Ledger.lean keep (Laws/Kept.lean). -/

set_option linter.unusedSimpArgs false
set_option linter.unusedVariables false

namespace Sys2Proof.Machine

@[simp] theorem kept_State_cutoff1600 {s0_ : State} (s : State) (h_ : Kept s0_ s)  : Kept s0_ (State.cutoff1600 s) := by
  first
    | (simp (maxDischargeDepth := 40) [State.cutoff1600, h_]; done)
    | (unfold State.cutoff1600; (try dsimp only); repeat' (first | (simp (maxDischargeDepth := 40) [h_]; done) | intro _ | apply kept_foldl | apply kept_foldl_fst | apply kept_foldl_snd | apply kept_forEach | split))

@[simp] theorem kept_execLateRecordCutoff {s0_ : State} (s : State) (h_ : Kept s0_ s)  : OutKept s0_ (execLateRecordCutoff s) := by
  first
    | (simp (maxDischargeDepth := 40) [execLateRecordCutoff, h_]; done)
    | (unfold execLateRecordCutoff; (try dsimp only); repeat' (first | (simp (maxDischargeDepth := 40) [h_]; done) | intro _ | apply kept_foldl | apply kept_foldl_fst | apply kept_foldl_snd | apply kept_forEach | split))

@[simp] theorem kept_execCounterRecord {s0_ : State} (t : TileIx) (counters : BitVec 512) (s : State) (h_ : Kept s0_ s)  : OutKept s0_ (execCounterRecord t counters s) := by
  first
    | (simp (maxDischargeDepth := 40) [execCounterRecord, h_]; done)
    | (unfold execCounterRecord; (try dsimp only); repeat' (first | (simp (maxDischargeDepth := 40) [h_]; done) | intro _ | apply kept_foldl | apply kept_foldl_fst | apply kept_foldl_snd | apply kept_forEach | split))

@[simp] theorem kept_execTileSilent {s0_ : State} (t : TileIx) (s : State) (h_ : Kept s0_ s)  : OutKept s0_ (execTileSilent t s) := by
  first
    | (simp (maxDischargeDepth := 40) [execTileSilent, h_]; done)
    | (unfold execTileSilent; (try dsimp only); repeat' (first | (simp (maxDischargeDepth := 40) [h_]; done) | intro _ | apply kept_foldl | apply kept_foldl_fst | apply kept_foldl_snd | apply kept_forEach | split))

@[simp] theorem kept_execEstResid {s0_ : State} (d : DomIx) (s : State) (h_ : Kept s0_ s)  : OutKept s0_ (execEstResid d s) := by
  first
    | (simp (maxDischargeDepth := 40) [execEstResid, h_]; done)
    | (unfold execEstResid; (try dsimp only); repeat' (first | (simp (maxDischargeDepth := 40) [h_]; done) | intro _ | apply kept_foldl | apply kept_foldl_fst | apply kept_foldl_snd | apply kept_forEach | split))

@[simp] theorem kept_State_accountTile {s0_ : State} (s : State) (d : Nat) (h_ : Kept s0_ s)  : Kept s0_ (State.accountTile s d) := by
  unfold State.accountTile
  extract_lets ts a m pEst r k s1 total
  have h1 : Kept s0_ s1 := kept_forEach _ _ h_ fun z n => kept_State_updTile _ _ _ (Kept.refl z)
  exact kept_State_updAcct _ _ _ h1

@[simp] theorem kept_State_accountSupport {s0_ : State} (s : State) (d : Nat) (h_ : Kept s0_ s)  : Kept s0_ (State.accountSupport s d) := by
  first
    | (simp (maxDischargeDepth := 40) [State.accountSupport, h_]; done)
    | (unfold State.accountSupport; (try dsimp only); repeat' (first | (simp (maxDischargeDepth := 40) [h_]; done) | intro _ | apply kept_foldl | apply kept_foldl_fst | apply kept_foldl_snd | apply kept_forEach | split))

@[simp] theorem kept_State_accountMeans {s0_ : State} (s : State) (d : Nat) (h_ : Kept s0_ s)  : Kept s0_ (State.accountMeans s d) := by
  first
    | (simp (maxDischargeDepth := 40) [State.accountMeans, h_]; done)
    | (unfold State.accountMeans; (try dsimp only); repeat' (first | (simp (maxDischargeDepth := 40) [h_]; done) | intro _ | apply kept_foldl | apply kept_foldl_fst | apply kept_foldl_snd | apply kept_forEach | split))

@[simp] theorem kept_State_account {s0_ : State} (s : State) (h_ : Kept s0_ s)  : Kept s0_ (State.account s) := by
  first
    | (simp (maxDischargeDepth := 40) [State.account, h_]; done)
    | (unfold State.account; (try dsimp only); repeat' (first | (simp (maxDischargeDepth := 40) [h_]; done) | intro _ | apply kept_foldl | apply kept_foldl_fst | apply kept_foldl_snd | apply kept_forEach | split))

@[simp] theorem kept_State_splitCommit {s0_ : State} (s : State) (h_ : Kept s0_ s)  : Kept s0_ (State.splitCommit s) := by
  unfold State.splitCommit
  extract_lets tr s1 tTd demands claim lims allow s2 s3 used
  have h1 : Kept s0_ s1 := kept_forEach _ _ h_ fun z n => kept_State_updAcct _ _ _ (Kept.refl z)
  have h2 : Kept s0_ s2 := kept_forEach _ _ h1 fun z n => kept_State_updTile _ _ _ (Kept.refl z)
  have h3 : Kept s0_ s3 := kept_forEach _ _ h2 fun z n => kept_State_updAcct _ _ _ (Kept.refl z)
  clear_value s3
  exact h3.trans ⟨rfl, rfl, id, rfl⟩

@[simp] theorem kept_State_floorMissCommit {s0_ : State} (s : State) (h_ : Kept s0_ s)  : Kept s0_ (State.floorMissCommit s) := by
  first
    | (simp (maxDischargeDepth := 40) [State.floorMissCommit, h_]; done)
    | (unfold State.floorMissCommit; (try dsimp only); repeat' (first | (simp (maxDischargeDepth := 40) [h_]; done) | intro _ | apply kept_foldl | apply kept_foldl_fst | apply kept_foldl_snd | apply kept_forEach | split))

@[simp] theorem kept_State_shiftHolds {s0_ : State} (s : State) (slack0 : Nat) (room0 : Rat) (h_ : Kept s0_ s)  : Kept s0_ (State.shiftHolds s slack0 room0) := by
  unfold State.shiftHolds
  refine kept_foldl_fst _ _ h_ fun p d => ?_
  dsimp only
  repeat' (first | (simp (maxDischargeDepth := 40) [Kept.refl]; done) | split)

@[simp] theorem kept_State_fixedCommit {s0_ : State} (s : State) (rows : List QuotaRow) (qSymp : Nat) (enter : Bool) (h_ : Kept s0_ s)  : Kept s0_ (State.fixedCommit s rows qSymp enter) := by
  first
    | (simp (maxDischargeDepth := 40) [State.fixedCommit, h_]; done)
    | (unfold State.fixedCommit; (try dsimp only); repeat' (first | (simp (maxDischargeDepth := 40) [h_]; done) | intro _ | apply kept_foldl | apply kept_foldl_fst | apply kept_foldl_snd | apply kept_forEach | split))

@[simp] theorem kept_State_sympCommit {s0_ : State} (s : State) (rows : List QuotaRow) (q : Nat) (h_ : Kept s0_ s)  : Kept s0_ (State.sympCommit s rows q) := by
  first
    | (simp (maxDischargeDepth := 40) [State.sympCommit, h_]; done)
    | (unfold State.sympCommit; (try dsimp only); repeat' (first | (simp (maxDischargeDepth := 40) [h_]; done) | intro _ | apply kept_foldl | apply kept_foldl_fst | apply kept_foldl_snd | apply kept_forEach | split))

@[simp] theorem kept_State_paceAged {s0_ : State} (s : State) (above : Nat) (below : Nat) (h_ : Kept s0_ s)  : Kept s0_ (State.paceAged s above below) := by
  first
    | (simp (maxDischargeDepth := 40) [State.paceAged, h_]; done)
    | (unfold State.paceAged; (try dsimp only); repeat' (first | (simp (maxDischargeDepth := 40) [h_]; done) | intro _ | apply kept_foldl | apply kept_foldl_fst | apply kept_foldl_snd | apply kept_forEach | split))

@[simp] theorem kept_State_paceRelayAgain {s0_ : State} (s : State) (h_ : Kept s0_ s)  : Kept s0_ (State.paceRelayAgain s) := by
  first
    | (simp (maxDischargeDepth := 40) [State.paceRelayAgain, h_]; done)
    | (unfold State.paceRelayAgain; (try dsimp only); repeat' (first | (simp (maxDischargeDepth := 40) [h_]; done) | intro _ | apply kept_foldl | apply kept_foldl_fst | apply kept_foldl_snd | apply kept_forEach | split))

@[simp] theorem kept_State_paceSay {s0_ : State} (s : State) (q : Nat) (seq : Nat) (h_ : Kept s0_ s)  : Kept s0_ (State.paceSay s q seq) := by
  first
    | (simp (maxDischargeDepth := 40) [State.paceSay, h_]; done)
    | (unfold State.paceSay; (try dsimp only); repeat' (first | (simp (maxDischargeDepth := 40) [h_]; done) | intro _ | apply kept_foldl | apply kept_foldl_fst | apply kept_foldl_snd | apply kept_forEach | split))

@[simp] theorem kept_State_paceOwnQuota {s0_ : State} (s : State) (above : Nat) (below : Nat) (q : Nat) (resend : Bool) (h_ : Kept s0_ s)  : Kept s0_ (State.paceOwnQuota s above below q resend) := by
  first
    | (simp (maxDischargeDepth := 40) [State.paceOwnQuota, h_]; done)
    | (unfold State.paceOwnQuota; (try dsimp only); repeat' (first | (simp (maxDischargeDepth := 40) [h_]; done) | intro _ | apply kept_foldl | apply kept_foldl_fst | apply kept_foldl_snd | apply kept_forEach | split))

@[simp] theorem kept_State_paceJob {s0_ : State} (s : State) (qJob : Nat) (h_ : Kept s0_ s)  : Kept s0_ (State.paceJob s qJob) := by
  first
    | (simp (maxDischargeDepth := 40) [State.paceJob, h_]; done)
    | (unfold State.paceJob; (try dsimp only); repeat' (first | (simp (maxDischargeDepth := 40) [h_]; done) | intro _ | apply kept_foldl | apply kept_foldl_fst | apply kept_foldl_snd | apply kept_forEach | split))

@[simp] theorem kept_State_quotaCommit {s0_ : State} (s : State) (n : Nat) (halt : Bool) (enterFix : Bool) (h_ : Kept s0_ s)  : Kept s0_ (State.quotaCommit s n halt enterFix) := by
  first
    | (simp (maxDischargeDepth := 40) [State.quotaCommit, h_]; done)
    | (unfold State.quotaCommit; (try dsimp only); repeat' (first | (simp (maxDischargeDepth := 40) [h_]; done) | intro _ | apply kept_foldl | apply kept_foldl_fst | apply kept_foldl_snd | apply kept_forEach | split))

@[simp] theorem kept_State_freezeOp {s0_ : State} (s : State) (h_ : Kept s0_ s)  : Kept s0_ (State.freezeOp s) := by
  first
    | (simp (maxDischargeDepth := 40) [State.freezeOp, h_]; done)
    | (unfold State.freezeOp; (try dsimp only); repeat' (first | (simp (maxDischargeDepth := 40) [h_]; done) | intro _ | apply kept_foldl | apply kept_foldl_fst | apply kept_foldl_snd | apply kept_forEach | split))

@[simp] theorem kept_State_unfreezeOp {s0_ : State} (s : State) (h_ : Kept s0_ s)  : Kept s0_ (State.unfreezeOp s) := by
  first
    | (simp (maxDischargeDepth := 40) [State.unfreezeOp, h_]; done)
    | (unfold State.unfreezeOp; (try dsimp only); repeat' (first | (simp (maxDischargeDepth := 40) [h_]; done) | intro _ | apply kept_foldl | apply kept_foldl_fst | apply kept_foldl_snd | apply kept_forEach | split))

@[simp] theorem kept_execFreezeTimeout {s0_ : State} (s : State) (h_ : Kept s0_ s)  : OutKept s0_ (execFreezeTimeout s) := by
  first
    | (simp (maxDischargeDepth := 40) [execFreezeTimeout, h_]; done)
    | (unfold execFreezeTimeout; (try dsimp only); repeat' (first | (simp (maxDischargeDepth := 40) [h_]; done) | intro _ | apply kept_foldl | apply kept_foldl_fst | apply kept_foldl_snd | apply kept_forEach | split))

@[simp] theorem kept_State_captureTile {s0_ : State} (s : State) (v : Word) (h_ : Kept s0_ s)  : Kept s0_ (State.captureTile s v) := by
  first
    | (simp (maxDischargeDepth := 40) [State.captureTile, h_]; done)
    | (unfold State.captureTile; (try dsimp only); repeat' (first | (simp (maxDischargeDepth := 40) [h_]; done) | intro _ | apply kept_foldl | apply kept_foldl_fst | apply kept_foldl_snd | apply kept_forEach | split))

end Sys2Proof.Machine
end

