-- ==== Sys2Proof/Laws/KeptTelemetry.lean ====
section
/-! SUPPORT. What the operations of Machine/Telemetry.lean keep (Laws/Kept.lean). -/

set_option linter.unusedSimpArgs false
set_option linter.unusedVariables false

namespace Sys2Proof.Machine

@[simp] theorem kept_State_recordTlm {s0_ : State} (s : State) (i : Nat) (p : Nat) (d : Nat) (l : Nat) (h_ : Kept s0_ s)  : Kept s0_ (State.recordTlm s i p d l) := by
  first
    | (simp (maxDischargeDepth := 40) [State.recordTlm, h_]; done)
    | (unfold State.recordTlm; (try dsimp only); repeat' (first | (simp (maxDischargeDepth := 40) [h_]; done) | intro _ | apply kept_foldl | apply kept_foldl_fst | apply kept_foldl_snd | apply kept_forEach | split))

@[simp] theorem kept_State_tlmRaises {s0_ : State} (s : State) (i : Nat) (p : Nat) (d : Nat) (ocBefore : Bool) (h_ : Kept s0_ s)  : Kept s0_ (State.tlmRaises s i p d ocBefore) := by
  first
    | (simp (maxDischargeDepth := 40) [State.tlmRaises, h_]; done)
    | (unfold State.tlmRaises; (try dsimp only); repeat' (first | (simp (maxDischargeDepth := 40) [h_]; done) | intro _ | apply kept_foldl | apply kept_foldl_fst | apply kept_foldl_snd | apply kept_forEach | split))

@[simp] theorem kept_execTlmReceived {s0_ : State} (c : ChainIx) (pos : PosIx) (payload : BitVec 64) (s : State) (h_ : Kept s0_ s)  : OutKept s0_ (execTlmReceived c pos payload s) := by
  first
    | (simp (maxDischargeDepth := 40) [execTlmReceived, h_]; done)
    | (unfold execTlmReceived; (try dsimp only); repeat' (first | (simp (maxDischargeDepth := 40) [h_]; done) | intro _ | apply kept_foldl | apply kept_foldl_fst | apply kept_foldl_snd | apply kept_forEach | split))

@[simp] theorem kept_State_calLatches {s0_ : State} (s : State) (e : Nat) (d : Nat) (h_ : Kept s0_ s)  : Kept s0_ (State.calLatches s e d) := by
  first
    | (simp (maxDischargeDepth := 40) [State.calLatches, h_]; done)
    | (unfold State.calLatches; (try dsimp only); repeat' (first | (simp (maxDischargeDepth := 40) [h_]; done) | intro _ | apply kept_foldl | apply kept_foldl_fst | apply kept_foldl_snd | apply kept_forEach | split))

@[simp] theorem kept_State_calCell {s0_ : State} (s : State) (i : Nat) (d : Nat) (m : Nat) (rho : Rat) (h_ : Kept s0_ s)  : Kept s0_ (State.calCell s i d m rho) := by
  first
    | (simp (maxDischargeDepth := 40) [State.calCell, h_]; done)
    | (unfold State.calCell; (try dsimp only); repeat' (first | (simp (maxDischargeDepth := 40) [h_]; done) | intro _ | apply kept_foldl | apply kept_foldl_fst | apply kept_foldl_snd | apply kept_forEach | split))

@[simp] theorem kept_State_calDomain {s0_ : State} (s : State) (m : Nat) (d : Nat) (h_ : Kept s0_ s)  : Kept s0_ (State.calDomain s m d) := by
  first
    | (simp (maxDischargeDepth := 40) [State.calDomain, h_]; done)
    | (unfold State.calDomain; (try dsimp only); repeat' (first | (simp (maxDischargeDepth := 40) [h_]; done) | intro _ | apply kept_foldl | apply kept_foldl_fst | apply kept_foldl_snd | apply kept_forEach | split))

@[simp] theorem kept_execCalBlockUpdate {s0_ : State} (s : State) (h_ : Kept s0_ s)  : OutKept s0_ (execCalBlockUpdate s) := by
  first
    | (simp (maxDischargeDepth := 40) [execCalBlockUpdate, h_]; done)
    | (unfold execCalBlockUpdate; (try dsimp only); repeat' (first | (simp (maxDischargeDepth := 40) [h_]; done) | intro _ | apply kept_foldl | apply kept_foldl_fst | apply kept_foldl_snd | apply kept_forEach | split))

end Sys2Proof.Machine
end

