-- ==== Sys2Proof/Laws/KeptStartOps.lean ====
section
/-! SUPPORT. What the operations of Machine/StartOps.lean keep (Laws/Kept.lean). -/

set_option linter.unusedSimpArgs false
set_option linter.unusedVariables false

namespace Sys2Proof.Machine

@[simp] theorem kept_State_wardenStop {s0_ : State} (s : State) (l : List Nat) (h_ : Kept s0_ s)  : Kept s0_ (State.wardenStop s l) := by
  first
    | (simp (maxDischargeDepth := 40) [State.wardenStop, h_]; done)
    | (unfold State.wardenStop; (try dsimp only); repeat' (first | (simp (maxDischargeDepth := 40) [h_]; done) | intro _ | apply kept_foldl | apply kept_foldl_fst | apply kept_foldl_snd | apply kept_forEach | split))

@[simp] theorem kept_State_lowerBoot {s0_ : State} (s : State) (h_ : Kept s0_ s)  : Kept s0_ (State.lowerBoot s) := by
  first
    | (simp (maxDischargeDepth := 40) [State.lowerBoot, h_]; done)
    | (unfold State.lowerBoot; (try dsimp only); repeat' (first | (simp (maxDischargeDepth := 40) [h_]; done) | intro _ | apply kept_foldl | apply kept_foldl_fst | apply kept_foldl_snd | apply kept_forEach | split))

@[simp] theorem kept_State_rejoinBegin {s0_ : State} (s : State) (d : Nat) (h_ : Kept s0_ s)  : Kept s0_ (State.rejoinBegin s d) := by
  first
    | (simp (maxDischargeDepth := 40) [State.rejoinBegin, h_]; done)
    | (unfold State.rejoinBegin; (try dsimp only); repeat' (first | (simp (maxDischargeDepth := 40) [h_]; done) | intro _ | apply kept_foldl | apply kept_foldl_fst | apply kept_foldl_snd | apply kept_forEach | split))

@[simp] theorem kept_State_markStopped {s0_ : State} (s : State) (d : Nat) (h_ : Kept s0_ s)  : Kept s0_ (State.markStopped s d) := by
  first
    | (simp (maxDischargeDepth := 40) [State.markStopped, h_]; done)
    | (unfold State.markStopped; (try dsimp only); repeat' (first | (simp (maxDischargeDepth := 40) [h_]; done) | intro _ | apply kept_foldl | apply kept_foldl_fst | apply kept_foldl_snd | apply kept_forEach | split))

@[simp] theorem kept_State_adoptDomain {s0_ : State} (s : State) (d : Nat) (h_ : Kept s0_ s)  : Kept s0_ (State.adoptDomain s d) := by
  first
    | (simp (maxDischargeDepth := 40) [State.adoptDomain, h_]; done)
    | (unfold State.adoptDomain; (try dsimp only); repeat' (first | (simp (maxDischargeDepth := 40) [h_]; done) | intro _ | apply kept_foldl | apply kept_foldl_fst | apply kept_foldl_snd | apply kept_forEach | split))

@[simp] theorem kept_State_adoptFinish {s0_ : State} (s : State) (d : Nat) (h_ : Kept s0_ s)  : Kept s0_ (State.adoptFinish s d) := by
  first
    | (simp (maxDischargeDepth := 40) [State.adoptFinish, h_]; done)
    | (unfold State.adoptFinish; (try dsimp only); repeat' (first | (simp (maxDischargeDepth := 40) [h_]; done) | intro _ | apply kept_foldl | apply kept_foldl_fst | apply kept_foldl_snd | apply kept_forEach | split))

@[simp] theorem kept_State_rejoinCommit {s0_ : State} (s : State) (d : Nat) (h_ : Kept s0_ s)  : Kept s0_ (State.rejoinCommit s d) := by
  first
    | (simp (maxDischargeDepth := 40) [State.rejoinCommit, h_]; done)
    | (unfold State.rejoinCommit; (try dsimp only); repeat' (first | (simp (maxDischargeDepth := 40) [h_]; done) | intro _ | apply kept_foldl | apply kept_foldl_fst | apply kept_foldl_snd | apply kept_forEach | split))

@[simp] theorem kept_State_stoppedOff {s0_ : State} (s : State) (d : Nat) (h_ : Kept s0_ s)  : Kept s0_ (State.stoppedOff s d) := by
  first
    | (simp (maxDischargeDepth := 40) [State.stoppedOff, h_]; done)
    | (unfold State.stoppedOff; (try dsimp only); repeat' (first | (simp (maxDischargeDepth := 40) [h_]; done) | intro _ | apply kept_foldl | apply kept_foldl_fst | apply kept_foldl_snd | apply kept_forEach | split))

@[simp] theorem kept_State_loanAfterReset {s0_ : State} (s : State) (h_ : Kept s0_ s)  : Kept s0_ (State.loanAfterReset s) := by
  first
    | (simp (maxDischargeDepth := 40) [State.loanAfterReset, h_]; done)
    | (unfold State.loanAfterReset; (try dsimp only); repeat' (first | (simp (maxDischargeDepth := 40) [h_]; done) | intro _ | apply kept_foldl | apply kept_foldl_fst | apply kept_foldl_snd | apply kept_forEach | split))

@[simp] theorem kept_State_coversAfterReset {s0_ : State} (s : State) (h_ : Kept s0_ s)  : Kept s0_ (State.coversAfterReset s) := by
  first
    | (simp (maxDischargeDepth := 40) [State.coversAfterReset, h_]; done)
    | (unfold State.coversAfterReset; (try dsimp only); repeat' (first | (simp (maxDischargeDepth := 40) [h_]; done) | intro _ | apply kept_foldl | apply kept_foldl_fst | apply kept_foldl_snd | apply kept_forEach | split))

@[simp] theorem kept_State_restartAudits {s0_ : State} (s : State) (h_ : Kept s0_ s)  : Kept s0_ (State.restartAudits s) := by
  first
    | (simp (maxDischargeDepth := 40) [State.restartAudits, h_]; done)
    | (unfold State.restartAudits; (try dsimp only); repeat' (first | (simp (maxDischargeDepth := 40) [h_]; done) | intro _ | apply kept_foldl | apply kept_foldl_fst | apply kept_foldl_snd | apply kept_forEach | split))

@[simp] theorem kept_State_frozenAudits {s0_ : State} (s : State) (h_ : Kept s0_ s)  : Kept s0_ (State.frozenAudits s) := by
  first
    | (simp (maxDischargeDepth := 40) [State.frozenAudits, h_]; done)
    | (unfold State.frozenAudits; (try dsimp only); repeat' (first | (simp (maxDischargeDepth := 40) [h_]; done) | intro _ | apply kept_foldl | apply kept_foldl_fst | apply kept_foldl_snd | apply kept_forEach | split))

@[simp] theorem kept_State_adoptEnd {s0_ : State} (s : State) (h_ : Kept s0_ s)  : Kept s0_ (State.adoptEnd s) := by
  first
    | (simp (maxDischargeDepth := 40) [State.adoptEnd, h_]; done)
    | (unfold State.adoptEnd; (try dsimp only); repeat' (first | (simp (maxDischargeDepth := 40) [h_]; done) | intro _ | apply kept_foldl | apply kept_foldl_fst | apply kept_foldl_snd | apply kept_forEach | split))

@[simp] theorem kept_State_adoptCommit {s0_ : State} (s : State) (h_ : Kept s0_ s)  : Kept s0_ (State.adoptCommit s) := by
  first
    | (simp (maxDischargeDepth := 40) [State.adoptCommit, h_]; done)
    | (unfold State.adoptCommit; (try dsimp only); repeat' (first | (simp (maxDischargeDepth := 40) [h_]; done) | intro _ | apply kept_foldl | apply kept_foldl_fst | apply kept_foldl_snd | apply kept_forEach | split))

@[simp] theorem kept_State_abandonSd14 {s0_ : State} (s : State) (h_ : Kept s0_ s)  : Kept s0_ (State.abandonSd14 s) := by
  first
    | (simp (maxDischargeDepth := 40) [State.abandonSd14, h_]; done)
    | (unfold State.abandonSd14; (try dsimp only); repeat' (first | (simp (maxDischargeDepth := 40) [h_]; done) | intro _ | apply kept_foldl | apply kept_foldl_fst | apply kept_foldl_snd | apply kept_forEach | split))

@[simp] theorem kept_State_abandonTo {s0_ : State} (s : State) (k : Nat) (h_ : Kept s0_ s)  : Kept s0_ (State.abandonTo s k) := by
  first
    | (simp (maxDischargeDepth := 40) [State.abandonTo, h_]; done)
    | (unfold State.abandonTo; (try dsimp only); repeat' (first | (simp (maxDischargeDepth := 40) [h_]; done) | intro _ | apply kept_foldl | apply kept_foldl_fst | apply kept_foldl_snd | apply kept_forEach | split))

@[simp] theorem kept_State_abandonBegin {s0_ : State} (s : State) (h_ : Kept s0_ s)  : Kept s0_ (State.abandonBegin s) := by
  first
    | (simp (maxDischargeDepth := 40) [State.abandonBegin, h_]; done)
    | (unfold State.abandonBegin; (try dsimp only); repeat' (first | (simp (maxDischargeDepth := 40) [h_]; done) | intro _ | apply kept_foldl | apply kept_foldl_fst | apply kept_foldl_snd | apply kept_forEach | split))

@[simp] theorem kept_State_abandonCommit {s0_ : State} (s : State) (h_ : Kept s0_ s)  : Kept s0_ (State.abandonCommit s) := by
  first
    | (simp (maxDischargeDepth := 40) [State.abandonCommit, h_]; done)
    | (unfold State.abandonCommit; (try dsimp only); repeat' (first | (simp (maxDischargeDepth := 40) [h_]; done) | intro _ | apply kept_foldl | apply kept_foldl_fst | apply kept_foldl_snd | apply kept_forEach | split))

@[simp] theorem kept_State_stopLoan {s0_ : State} (s : State) (c : Nat) (h_ : Kept s0_ s)  : Kept s0_ (State.stopLoan s c) := by
  first
    | (simp (maxDischargeDepth := 40) [State.stopLoan, h_]; done)
    | (unfold State.stopLoan; (try dsimp only); repeat' (first | (simp (maxDischargeDepth := 40) [h_]; done) | intro _ | apply kept_foldl | apply kept_foldl_fst | apply kept_foldl_snd | apply kept_forEach | split))

@[simp] theorem kept_State_stopCommitS {s0_ : State} (s : State) (h_ : Kept s0_ s)  : Kept s0_ (State.stopCommitS s) := by
  first
    | (simp (maxDischargeDepth := 40) [State.stopCommitS, h_]; done)
    | (unfold State.stopCommitS; (try dsimp only); repeat' (first | (simp (maxDischargeDepth := 40) [h_]; done) | intro _ | apply kept_foldl | apply kept_foldl_fst | apply kept_foldl_snd | apply kept_forEach | split))

@[simp] theorem kept_State_stopDomain {s0_ : State} (s : State) (d : Nat) (h_ : Kept s0_ s)  : Kept s0_ (State.stopDomain s d) := by
  first
    | (simp (maxDischargeDepth := 40) [State.stopDomain, h_]; done)
    | (unfold State.stopDomain; (try dsimp only); repeat' (first | (simp (maxDischargeDepth := 40) [h_]; done) | intro _ | apply kept_foldl | apply kept_foldl_fst | apply kept_foldl_snd | apply kept_forEach | split))

@[simp] theorem kept_State_stopStageBegin {s0_ : State} (s : State) (k : Nat) (h_ : Kept s0_ s)  : Kept s0_ (State.stopStageBegin s k) := by
  first
    | (simp (maxDischargeDepth := 40) [State.stopStageBegin, h_]; done)
    | (unfold State.stopStageBegin; (try dsimp only); repeat' (first | (simp (maxDischargeDepth := 40) [h_]; done) | intro _ | apply kept_foldl | apply kept_foldl_fst | apply kept_foldl_snd | apply kept_forEach | split))

@[simp] theorem kept_State_stopCommit {s0_ : State} (s : State) (h_ : Kept s0_ s)  : Kept s0_ (State.stopCommit s) := by
  first
    | (simp (maxDischargeDepth := 40) [State.stopCommit, h_]; done)
    | (unfold State.stopCommit; (try dsimp only); repeat' (first | (simp (maxDischargeDepth := 40) [h_]; done) | intro _ | apply kept_foldl | apply kept_foldl_fst | apply kept_foldl_snd | apply kept_forEach | split))

@[simp] theorem kept_State_stopAll {s0_ : State} (s : State) (h_ : Kept s0_ s)  : Kept s0_ (State.stopAll s) := by
  first
    | (simp (maxDischargeDepth := 40) [State.stopAll, h_]; done)
    | (unfold State.stopAll; (try dsimp only); repeat' (first | (simp (maxDischargeDepth := 40) [h_]; done) | intro _ | apply kept_foldl | apply kept_foldl_fst | apply kept_foldl_snd | apply kept_forEach | split))

end Sys2Proof.Machine
end

