-- ==== Sys2Proof/Laws/KeptVoltageTable.lean ====
section
/-! SUPPORT. What the operations of Machine/VoltageTable.lean keep (Laws/Kept.lean). -/

set_option linter.unusedSimpArgs false
set_option linter.unusedVariables false

namespace Sys2Proof.Machine

@[simp] theorem kept_State_vtWrite {s0_ : State} (s : State) (t : Tab Word) (chan : Option MboxChan) (clamped : Bool) (h_ : Kept s0_ s)  : Kept s0_ (State.vtWrite s t chan clamped) := by
  first
    | (simp (maxDischargeDepth := 40) [State.vtWrite, h_]; done)
    | (unfold State.vtWrite; (try dsimp only); repeat' (first | (simp (maxDischargeDepth := 40) [h_]; done) | intro _ | apply kept_foldl | apply kept_foldl_fst | apply kept_foldl_snd | apply kept_forEach | split))

end Sys2Proof.Machine
end

