-- ==== Sys2Proof/Laws/KeptAvs.lean ====
section
/-! SUPPORT. What the operations of Machine/Avs.lean keep (Laws/Kept.lean). -/

set_option linter.unusedSimpArgs false
set_option linter.unusedVariables false

namespace Sys2Proof.Machine

@[simp] theorem kept_State_updLink {s0_ : State} (s : State) (k : Nat) (f : AvsLink → AvsLink) (h_ : Kept s0_ s)  : Kept s0_ (State.updLink s k f) := by
  first
    | (simp (maxDischargeDepth := 40) [State.updLink, h_]; done)
    | (unfold State.updLink; (try dsimp only); repeat' (first | (simp (maxDischargeDepth := 40) [h_]; done) | intro _ | apply kept_foldl | apply kept_foldl_fst | apply kept_foldl_snd | apply kept_forEach | split))

@[simp] theorem kept_State_avsSent {s0_ : State} (s : State) (k : Nat) (op : AvsOp) (h_ : Kept s0_ s)  : Kept s0_ (State.avsSent s k op) := by
  first
    | (simp (maxDischargeDepth := 40) [State.avsSent, h_]; done)
    | (unfold State.avsSent; (try dsimp only); repeat' (first | (simp (maxDischargeDepth := 40) [h_]; done) | intro _ | apply kept_foldl | apply kept_foldl_fst | apply kept_foldl_snd | apply kept_forEach | split))

@[simp] theorem kept_State_avsIssue {s0_ : State} (s : State) (k : Nat) (op : AvsOp) (write : Bool) (h_ : Kept s0_ s)  : Kept s0_ (State.avsIssue s k op write) := by
  first
    | (simp (maxDischargeDepth := 40) [State.avsIssue, h_]; done)
    | (unfold State.avsIssue; (try dsimp only); repeat' (first | (simp (maxDischargeDepth := 40) [h_]; done) | intro _ | apply kept_foldl | apply kept_foldl_fst | apply kept_foldl_snd | apply kept_forEach | split))

@[simp] theorem kept_State_avsResponse {s0_ : State} (s : State) (k : Nat) (op : AvsOp) (alert : Bool) (h_ : Kept s0_ s)  : Kept s0_ (State.avsResponse s k op alert) := by
  first
    | (simp (maxDischargeDepth := 40) [State.avsResponse, h_]; done)
    | (unfold State.avsResponse; (try dsimp only); repeat' (first | (simp (maxDischargeDepth := 40) [h_]; done) | intro _ | apply kept_foldl | apply kept_foldl_fst | apply kept_foldl_snd | apply kept_forEach | split))

@[simp] theorem kept_execAvsTrimWrite {s0_ : State} (s : State) (h_ : Kept s0_ s)  : OutKept s0_ (execAvsTrimWrite s) := by
  first
    | (simp (maxDischargeDepth := 40) [execAvsTrimWrite, h_]; done)
    | (unfold execAvsTrimWrite; (try dsimp only); repeat' (first | (simp (maxDischargeDepth := 40) [h_]; done) | intro _ | apply kept_foldl | apply kept_foldl_fst | apply kept_foldl_snd | apply kept_forEach | split))

@[simp] theorem kept_execAvsVoltageRead {s0_ : State} (k : ConvIx) (mv : BitVec 16) (alert : Bool) (s : State) (h_ : Kept s0_ s)  : OutKept s0_ (execAvsVoltageRead k mv alert s) := by
  first
    | (simp (maxDischargeDepth := 40) [execAvsVoltageRead, h_]; done)
    | (unfold execAvsVoltageRead; (try dsimp only); repeat' (first | (simp (maxDischargeDepth := 40) [h_]; done) | intro _ | apply kept_foldl | apply kept_foldl_fst | apply kept_foldl_snd | apply kept_forEach | split))

@[simp] theorem kept_execAvsCurrentRead {s0_ : State} (k : ConvIx) (code : BitVec 16) (alert : Bool) (s : State) (h_ : Kept s0_ s)  : OutKept s0_ (execAvsCurrentRead k code alert s) := by
  first
    | (simp (maxDischargeDepth := 40) [execAvsCurrentRead, h_]; done)
    | (unfold execAvsCurrentRead; (try dsimp only); repeat' (first | (simp (maxDischargeDepth := 40) [h_]; done) | intro _ | apply kept_foldl | apply kept_foldl_fst | apply kept_foldl_snd | apply kept_forEach | split))

@[simp] theorem kept_execAvsTempRead {s0_ : State} (k : ConvIx) (code : BitVec 16) (alert : Bool) (s : State) (h_ : Kept s0_ s)  : OutKept s0_ (execAvsTempRead k code alert s) := by
  first
    | (simp (maxDischargeDepth := 40) [execAvsTempRead, h_]; done)
    | (unfold execAvsTempRead; (try dsimp only); repeat' (first | (simp (maxDischargeDepth := 40) [h_]; done) | intro _ | apply kept_foldl | apply kept_foldl_fst | apply kept_foldl_snd | apply kept_forEach | split))

@[simp] theorem kept_execAvsStatusRead {s0_ : State} (k : ConvIx) (w : BitVec 16) (alert : Bool) (s : State) (h_ : Kept s0_ s)  : OutKept s0_ (execAvsStatusRead k w alert s) := by
  first
    | (simp (maxDischargeDepth := 40) [execAvsStatusRead, h_]; done)
    | (unfold execAvsStatusRead; (try dsimp only); repeat' (first | (simp (maxDischargeDepth := 40) [h_]; done) | intro _ | apply kept_foldl | apply kept_foldl_fst | apply kept_foldl_snd | apply kept_forEach | split))

@[simp] theorem kept_execAvsTransactionFail {s0_ : State} (k : ConvIx) (s : State) (h_ : Kept s0_ s)  : OutKept s0_ (execAvsTransactionFail k s) := by
  first
    | (simp (maxDischargeDepth := 40) [execAvsTransactionFail, h_]; done)
    | (unfold execAvsTransactionFail; (try dsimp only); repeat' (first | (simp (maxDischargeDepth := 40) [h_]; done) | intro _ | apply kept_foldl | apply kept_foldl_fst | apply kept_foldl_snd | apply kept_forEach | split))

@[simp] theorem kept_execAvsRetry {s0_ : State} (k : ConvIx) (s : State) (h_ : Kept s0_ s)  : OutKept s0_ (execAvsRetry k s) := by
  first
    | (simp (maxDischargeDepth := 40) [execAvsRetry, h_]; done)
    | (unfold execAvsRetry; (try dsimp only); repeat' (first | (simp (maxDischargeDepth := 40) [h_]; done) | intro _ | apply kept_foldl | apply kept_foldl_fst | apply kept_foldl_snd | apply kept_forEach | split))

end Sys2Proof.Machine
end

