-- ==== Sys2Proof/Laws/KeptCommit.lean ====
section
/-! SUPPORT. What the operations of Machine/Commit.lean keep (Laws/Kept.lean). -/

set_option linter.unusedSimpArgs false
set_option linter.unusedVariables false

namespace Sys2Proof.Machine

@[simp] theorem kept_State_stage {s0_ : State} (s : State) (key : StageKey) (v : Word) (by_ : Stager) (h_ : Kept s0_ s)  : Kept s0_ (State.stage s key v by_) := by
  first
    | (simp (maxDischargeDepth := 40) [State.stage, h_]; done)
    | (unfold State.stage; (try dsimp only); repeat' (first | (simp (maxDischargeDepth := 40) [h_]; done) | intro _ | apply kept_foldl | apply kept_foldl_fst | apply kept_foldl_snd | apply kept_forEach | split))

@[simp] theorem kept_State_setLedgCtrl {s0_ : State} (s : State) (v : Word) (h_ : Kept s0_ s)  : Kept s0_ (State.setLedgCtrl s v) := by
  first
    | (simp (maxDischargeDepth := 40) [State.setLedgCtrl, h_]; done)
    | (unfold State.setLedgCtrl; (try dsimp only); repeat' (first | (simp (maxDischargeDepth := 40) [h_]; done) | intro _ | apply kept_foldl | apply kept_foldl_fst | apply kept_foldl_snd | apply kept_forEach | split))

@[simp] theorem kept_State_setPaceCtrl {s0_ : State} (s : State) (v : Word) (h_ : Kept s0_ s)  : Kept s0_ (State.setPaceCtrl s v) := by
  first
    | (simp (maxDischargeDepth := 40) [State.setPaceCtrl, h_]; done)
    | (unfold State.setPaceCtrl; (try dsimp only); repeat' (first | (simp (maxDischargeDepth := 40) [h_]; done) | intro _ | apply kept_foldl | apply kept_foldl_fst | apply kept_foldl_snd | apply kept_forEach | split))

@[simp] theorem kept_State_setSnsCtrl {s0_ : State} (s : State) (v : Word) (h_ : Kept s0_ s)  : Kept s0_ (State.setSnsCtrl s v) := by
  first
    | (simp (maxDischargeDepth := 40) [State.setSnsCtrl, h_]; done)
    | (unfold State.setSnsCtrl; (try dsimp only); repeat' (first | (simp (maxDischargeDepth := 40) [h_]; done) | intro _ | apply kept_foldl | apply kept_foldl_fst | apply kept_foldl_snd | apply kept_forEach | split))

@[simp] theorem kept_State_setDscFb {s0_ : State} (s : State) (d : Nat) (v : Word) (h_ : Kept s0_ s)  : Kept s0_ (State.setDscFb s d v) := by
  first
    | (simp (maxDischargeDepth := 40) [State.setDscFb, h_]; done)
    | (unfold State.setDscFb; (try dsimp only); repeat' (first | (simp (maxDischargeDepth := 40) [h_]; done) | intro _ | apply kept_foldl | apply kept_foldl_fst | apply kept_foldl_snd | apply kept_forEach | split))

@[simp] theorem kept_State_setDscAux {s0_ : State} (s : State) (d : Nat) (v : Word) (h_ : Kept s0_ s)  : Kept s0_ (State.setDscAux s d v) := by
  first
    | (simp (maxDischargeDepth := 40) [State.setDscAux, h_]; done)
    | (unfold State.setDscAux; (try dsimp only); repeat' (first | (simp (maxDischargeDepth := 40) [h_]; done) | intro _ | apply kept_foldl | apply kept_foldl_fst | apply kept_foldl_snd | apply kept_forEach | split))

@[simp] theorem kept_State_setSpEn {s0_ : State} (s : State) (d : Nat) (i : Nat) (v : Word) (h_ : Kept s0_ s)  : Kept s0_ (State.setSpEn s d i v) := by
  first
    | (simp (maxDischargeDepth := 40) [State.setSpEn, h_]; done)
    | (unfold State.setSpEn; (try dsimp only); repeat' (first | (simp (maxDischargeDepth := 40) [h_]; done) | intro _ | apply kept_foldl | apply kept_foldl_fst | apply kept_foldl_snd | apply kept_forEach | split))

@[simp] theorem kept_State_setCellDom {s0_ : State} (s : State) (d : Nat) (v : Word) (h_ : Kept s0_ s)  : Kept s0_ (State.setCellDom s d v) := by
  first
    | (simp (maxDischargeDepth := 40) [State.setCellDom, h_]; done)
    | (unfold State.setCellDom; (try dsimp only); repeat' (first | (simp (maxDischargeDepth := 40) [h_]; done) | intro _ | apply kept_foldl | apply kept_foldl_fst | apply kept_foldl_snd | apply kept_forEach | split))

@[simp] theorem kept_State_setCellGlb {s0_ : State} (s : State) (v : Word) (h_ : Kept s0_ s)  : Kept s0_ (State.setCellGlb s v) := by
  first
    | (simp (maxDischargeDepth := 40) [State.setCellGlb, h_]; done)
    | (unfold State.setCellGlb; (try dsimp only); repeat' (first | (simp (maxDischargeDepth := 40) [h_]; done) | intro _ | apply kept_foldl | apply kept_foldl_fst | apply kept_foldl_snd | apply kept_forEach | split))

@[simp] theorem kept_State_setLimCtrl {s0_ : State} (s : State) (v : Word) (h_ : Kept s0_ s)  : Kept s0_ (State.setLimCtrl s v) := by
  first
    | (simp (maxDischargeDepth := 40) [State.setLimCtrl, h_]; done)
    | (unfold State.setLimCtrl; (try dsimp only); repeat' (first | (simp (maxDischargeDepth := 40) [h_]; done) | intro _ | apply kept_foldl | apply kept_foldl_fst | apply kept_foldl_snd | apply kept_forEach | split))

@[simp] theorem kept_State_applyReg {s0_ : State} (s : State) (off : Nat) (v : Word) (h_ : Kept s0_ s)  : Kept s0_ (State.applyReg s off v) := by
  first
    | (simp (maxDischargeDepth := 40) [State.applyReg, h_]; done)
    | (unfold State.applyReg; (try dsimp only); repeat' (first | (simp (maxDischargeDepth := 40) [h_]; done) | intro _ | apply kept_foldl | apply kept_foldl_fst | apply kept_foldl_snd | apply kept_forEach | split))

@[simp] theorem kept_State_applyVset {s0_ : State} (s : State) (d : Nat) (v : Word) (by_ : Stager) (h_ : Kept s0_ s)  : Kept s0_ (State.applyVset s d v by_) := by
  first
    | (simp (maxDischargeDepth := 40) [State.applyVset, h_]; done)
    | (unfold State.applyVset; (try dsimp only); repeat' (first | (simp (maxDischargeDepth := 40) [h_]; done) | intro _ | apply kept_foldl | apply kept_foldl_fst | apply kept_foldl_snd | apply kept_forEach | split))

@[simp] theorem kept_State_commitVset {s0_ : State} (s : State) (held : Bool) (e : Staged) (h_ : Kept s0_ s)  : Kept s0_ (State.commitVset s held e) := by
  first
    | (simp (maxDischargeDepth := 40) [State.commitVset, h_]; done)
    | (unfold State.commitVset; (try dsimp only); repeat' (first | (simp (maxDischargeDepth := 40) [h_]; done) | intro _ | apply kept_foldl | apply kept_foldl_fst | apply kept_foldl_snd | apply kept_forEach | split))

@[simp] theorem kept_State_applyFixed {s0_ : State} (s : State) (v : Word) (h_ : Kept s0_ s)  : Kept s0_ (State.applyFixed s v) := by
  first
    | (simp (maxDischargeDepth := 40) [State.applyFixed, h_]; done)
    | (unfold State.applyFixed; (try dsimp only); repeat' (first | (simp (maxDischargeDepth := 40) [h_]; done) | intro _ | apply kept_foldl | apply kept_foldl_fst | apply kept_foldl_snd | apply kept_forEach | split))

@[simp] theorem kept_State_applyStaged {s0_ : State} (s : State) (e : Staged) (h_ : Kept s0_ s)  : Kept s0_ (State.applyStaged s e) := by
  first
    | (simp (maxDischargeDepth := 40) [State.applyStaged, h_]; done)
    | (unfold State.applyStaged; (try dsimp only); repeat' (first | (simp (maxDischargeDepth := 40) [h_]; done) | intro _ | apply kept_foldl | apply kept_foldl_fst | apply kept_foldl_snd | apply kept_forEach | split))

@[simp] theorem kept_State_hostWrite {s0_ : State} (s : State) (addr : Nat) (l : List Word) (h_ : Kept s0_ s)  : Kept s0_ (State.hostWrite s addr l) := by
  first
    | (simp (maxDischargeDepth := 40) [State.hostWrite, h_]; done)
    | (unfold State.hostWrite; (try dsimp only); repeat' (first | (simp (maxDischargeDepth := 40) [h_]; done) | intro _ | apply kept_foldl | apply kept_foldl_fst | apply kept_foldl_snd | apply kept_forEach | split))

@[simp] theorem kept_State_tlmAccount {s0_ : State} (s : State) (h_ : Kept s0_ s)  : Kept s0_ (State.tlmAccount s) := by
  first
    | (simp (maxDischargeDepth := 40) [State.tlmAccount, h_]; done)
    | (unfold State.tlmAccount; (try dsimp only); repeat' (first | (simp (maxDischargeDepth := 40) [h_]; done) | intro _ | apply kept_foldl | apply kept_foldl_fst | apply kept_foldl_snd | apply kept_forEach | split))

@[simp] theorem kept_State_tlmMeter {s0_ : State} (s : State) (metered : Bool) (h_ : Kept s0_ s)  : Kept s0_ (State.tlmMeter s metered) := by
  first
    | (simp (maxDischargeDepth := 40) [State.tlmMeter, h_]; done)
    | (unfold State.tlmMeter; (try dsimp only); repeat' (first | (simp (maxDischargeDepth := 40) [h_]; done) | intro _ | apply kept_foldl | apply kept_foldl_fst | apply kept_foldl_snd | apply kept_forEach | split))

@[simp] theorem kept_State_tlmClose {s0_ : State} (s : State) (h_ : Kept s0_ s)  : Kept s0_ (State.tlmClose s) := by
  first
    | (simp (maxDischargeDepth := 40) [State.tlmClose, h_]; done)
    | (unfold State.tlmClose; (try dsimp only); repeat' (first | (simp (maxDischargeDepth := 40) [h_]; done) | intro _ | apply kept_foldl | apply kept_foldl_fst | apply kept_foldl_snd | apply kept_forEach | split))

@[simp] theorem kept_State_tlmRecord {s0_ : State} (s : State) (epoch : Nat) (h_ : Kept s0_ s)  : Kept s0_ (State.tlmRecord s epoch) := by
  first
    | (simp (maxDischargeDepth := 40) [State.tlmRecord, h_]; done)
    | (unfold State.tlmRecord; (try dsimp only); repeat' (first | (simp (maxDischargeDepth := 40) [h_]; done) | intro _ | apply kept_foldl | apply kept_foldl_fst | apply kept_foldl_snd | apply kept_forEach | split))

@[simp] theorem kept_State_tlmMissed {s0_ : State} (s : State) (h_ : Kept s0_ s)  : Kept s0_ (State.tlmMissed s) := by
  first
    | (simp (maxDischargeDepth := 40) [State.tlmMissed, h_]; done)
    | (unfold State.tlmMissed; (try dsimp only); repeat' (first | (simp (maxDischargeDepth := 40) [h_]; done) | intro _ | apply kept_foldl | apply kept_foldl_fst | apply kept_foldl_snd | apply kept_forEach | split))

/-- The opening of an epoch, and the number it gives commit16 (R249). -/
theorem steady_openEpoch (s : State) :
    Steady s s.openEpoch ∧ s.openEpoch.clk.commit16 = (s.nextCommit).1 % 2 ^ 48 % 65536 := by
  refine ⟨?_, rfl⟩
  have h : ∀ n m : Nat, ∀ c d : Prop, ∀ [Decidable c] [Decidable d],
      Kept s (if d then (if c then s else s.unmetered n).tlmMissed else (if c then s else s.unmetered m)) := by
    intro n m c d _ _
    have k : ∀ n, Kept s (if c then s else s.unmetered n) := fun n => kept_ite (.refl s) (kept_State_unmetered s n (.refl s))
    exact kept_ite (kept_State_tlmMissed _ (k n)) (k m)
  refine ⟨?_, ?_, ?_⟩
  · exact (h _ _ _ _).1
  · exact (h _ _ _ _).2.1
  · exact (h _ _ _ _).2.2.1

@[simp] theorem kept_State_vtUse {s0_ : State} (s : State) (held : Bool) (h_ : Kept s0_ s)  : Kept s0_ (State.vtUse s held) := by
  first
    | (simp (maxDischargeDepth := 40) [State.vtUse, h_]; done)
    | (unfold State.vtUse; (try dsimp only); repeat' (first | (simp (maxDischargeDepth := 40) [h_]; done) | intro _ | apply kept_foldl | apply kept_foldl_fst | apply kept_foldl_snd | apply kept_forEach | split))

@[simp] theorem kept_State_setPoints {s0_ : State} (s : State) (due : List Staged) (h_ : Kept s0_ s)  : Kept s0_ (State.setPoints s due) := by
  first
    | (simp (maxDischargeDepth := 40) [State.setPoints, h_]; done)
    | (unfold State.setPoints; (try dsimp only); repeat' (first | (simp (maxDischargeDepth := 40) [h_]; done) | intro _ | apply kept_foldl | apply kept_foldl_fst | apply kept_foldl_snd | apply kept_forEach | split))

@[simp] theorem kept_State_ledgerData {s0_ : State} (s : State) (n : Nat) (h_ : Kept s0_ s)  : Kept s0_ (State.ledgerData s n) := by
  first
    | (simp (maxDischargeDepth := 40) [State.ledgerData, h_]; done)
    | (unfold State.ledgerData; (try dsimp only); repeat' (first | (simp (maxDischargeDepth := 40) [h_]; done) | intro _ | apply kept_foldl | apply kept_foldl_fst | apply kept_foldl_snd | apply kept_forEach | split))

@[simp] theorem kept_State_packetCommit {s0_ : State} (s : State) (n : Nat) (h_ : Kept s0_ s)  : Kept s0_ (State.packetCommit s n) := by
  first
    | (simp (maxDischargeDepth := 40) [State.packetCommit, h_]; done)
    | (unfold State.packetCommit; (try dsimp only); repeat' (first | (simp (maxDischargeDepth := 40) [h_]; done) | intro _ | apply kept_foldl | apply kept_foldl_fst | apply kept_foldl_snd | apply kept_forEach | split))

@[simp] theorem kept_State_ledgerCompose {s0_ : State} (s : State) (n : Nat) (fix : Bool) (metered : Bool) (h_ : Kept s0_ s)  : Kept s0_ (State.ledgerCompose s n fix metered) := by
  first
    | (simp (maxDischargeDepth := 40) [State.ledgerCompose, h_]; done)
    | (unfold State.ledgerCompose; (try dsimp only); repeat' (first | (simp (maxDischargeDepth := 40) [h_]; done) | intro _ | apply kept_foldl | apply kept_foldl_fst | apply kept_foldl_snd | apply kept_forEach | split))

@[simp] theorem kept_State_hintEffects {s0_ : State} (s : State) (h_ : Kept s0_ s)  : Kept s0_ (State.hintEffects s) := by
  first
    | (simp (maxDischargeDepth := 40) [State.hintEffects, h_]; done)
    | (unfold State.hintEffects; (try dsimp only); repeat' (first | (simp (maxDischargeDepth := 40) [h_]; done) | intro _ | apply kept_foldl | apply kept_foldl_fst | apply kept_foldl_snd | apply kept_forEach | split))

@[simp] theorem kept_State_registerCommit {s0_ : State} (s : State) (due : List Staged) (n : Nat) (h_ : Kept s0_ s)  : Kept s0_ (State.registerCommit s due n) := by
  first
    | (simp (maxDischargeDepth := 40) [State.registerCommit, h_]; done)
    | (unfold State.registerCommit; (try dsimp only); repeat' (first | (simp (maxDischargeDepth := 40) [h_]; done) | intro _ | apply kept_foldl | apply kept_foldl_fst | apply kept_foldl_snd | apply kept_forEach | split))

@[simp] theorem kept_State_degradedRecall {s0_ : State} (s : State) (c : Nat) (h_ : Kept s0_ s)  : Kept s0_ (State.degradedRecall s c) := by
  first
    | (simp (maxDischargeDepth := 40) [State.degradedRecall, h_]; done)
    | (unfold State.degradedRecall; (try dsimp only); repeat' (first | (simp (maxDischargeDepth := 40) [h_]; done) | intro _ | apply kept_foldl | apply kept_foldl_fst | apply kept_foldl_snd | apply kept_forEach | split))

@[simp] theorem kept_State_auditTurn {s0_ : State} (t : State) (cell : Nat) (h_ : Kept s0_ t)  : Kept s0_ (State.auditTurn t cell) := by
  first
    | (simp (maxDischargeDepth := 40) [State.auditTurn, h_]; done)
    | (unfold State.auditTurn; (try dsimp only); repeat' (first | (simp (maxDischargeDepth := 40) [h_]; done) | intro _ | apply kept_foldl | apply kept_foldl_fst | apply kept_foldl_snd | apply kept_forEach | split))

@[simp] theorem kept_State_chainCommit {s0_ : State} (s : State) (h_ : Kept s0_ s)  : Kept s0_ (State.chainCommit s) := by
  first
    | (simp (maxDischargeDepth := 40) [State.chainCommit, h_]; done)
    | (unfold State.chainCommit; (try dsimp only); repeat' (first | (simp (maxDischargeDepth := 40) [h_]; done) | intro _ | apply kept_foldl | apply kept_foldl_fst | apply kept_foldl_snd | apply kept_forEach | split))

@[simp] theorem kept_State_soloCommit {s0_ : State} (s : State) (d : Nat) (h_ : Kept s0_ s)  : Kept s0_ (State.soloCommit s d) := by
  first
    | (simp (maxDischargeDepth := 40) [State.soloCommit, h_]; done)
    | (unfold State.soloCommit; (try dsimp only); repeat' (first | (simp (maxDischargeDepth := 40) [h_]; done) | intro _ | apply kept_foldl | apply kept_foldl_fst | apply kept_foldl_snd | apply kept_forEach | split))

@[simp] theorem kept_State_sequenceCommit {s0_ : State} (s : State) (h_ : Kept s0_ s)  : Kept s0_ (State.sequenceCommit s) := by
  first
    | (simp (maxDischargeDepth := 40) [State.sequenceCommit, h_]; done)
    | (unfold State.sequenceCommit; (try dsimp only); repeat' (first | (simp (maxDischargeDepth := 40) [h_]; done) | intro _ | apply kept_foldl | apply kept_foldl_fst | apply kept_foldl_snd | apply kept_forEach | split))

@[simp] theorem kept_State_stateBlockTurn {s0_ : State} (s : State) (h_ : Kept s0_ s) : Kept s0_ (State.stateBlockTurn s) := by
  unfold State.stateBlockTurn
  split
  · have h : Kept s0_ s.writeStateBlock := by simp [h_]
    exact ⟨h.1, h.2.1, h.2.2.1, h.2.2.2⟩
  · exact h_

@[simp] theorem kept_State_epochEnd {s0_ : State} (s : State) (n : Nat) (h_ : Kept s0_ s)  : Kept s0_ (State.epochEnd s n) := by
  first
    | (simp (maxDischargeDepth := 40) [State.epochEnd, h_]; done)
    | (unfold State.epochEnd; (try dsimp only); repeat' (first | (simp (maxDischargeDepth := 40) [h_]; done) | intro _ | apply kept_foldl | apply kept_foldl_fst | apply kept_foldl_snd | apply kept_forEach | split))

@[simp] theorem kept_State_tallyCaptures {s0_ : State} (s : State) (n : Nat) (h_ : Kept s0_ s)  : Kept s0_ (State.tallyCaptures s n) := by
  first
    | (simp (maxDischargeDepth := 40) [State.tallyCaptures, h_]; done)
    | (unfold State.tallyCaptures; (try dsimp only); repeat' (first | (simp (maxDischargeDepth := 40) [h_]; done) | intro _ | apply kept_foldl | apply kept_foldl_fst | apply kept_foldl_snd | apply kept_forEach | split))

@[simp] theorem kept_State_finishCommit {s0_ : State} (s : State) (laws : List (Nat × CmdCtx × Nat)) (h_ : Kept s0_ s)  : Kept s0_ (State.finishCommit s laws) := by
  first
    | (simp (maxDischargeDepth := 40) [State.finishCommit, h_]; done)
    | (unfold State.finishCommit; (try dsimp only); repeat' (first | (simp (maxDischargeDepth := 40) [h_]; done) | intro _ | apply kept_foldl | apply kept_foldl_fst | apply kept_foldl_snd | apply kept_forEach | split))

@[simp] theorem kept_State_publish {s0_ : State} (s : State) (h_ : Kept s0_ s)  : Kept s0_ (State.publish s) := by
  first
    | (simp (maxDischargeDepth := 40) [State.publish, h_]; done)
    | (unfold State.publish; (try dsimp only); repeat' (first | (simp (maxDischargeDepth := 40) [h_]; done) | intro _ | apply kept_foldl | apply kept_foldl_fst | apply kept_foldl_snd | apply kept_forEach | split))

end Sys2Proof.Machine
end

