-- ==== Sys2Proof/Laws/KeptStart.lean ====
section
/-! SUPPORT. What the operations of Machine/Start.lean keep (Laws/Kept.lean). -/

set_option linter.unusedSimpArgs false
set_option linter.unusedVariables false

namespace Sys2Proof.Machine

/-- AON_POWER_UP starts every count afresh, but keeps the fuses, the queue and the vault. -/
theorem steady_execAonPowerUp (slot : BitVec 6) (s : State) : OutSteady s (execAonPowerUp slot s) := by
  unfold execAonPowerUp
  split
  · exact .refl s
  · exact ⟨rfl, rfl, id⟩

@[simp] theorem kept_State_sealAtFall {s0_ : State} (s : State) (h_ : Kept s0_ s)  : Kept s0_ (State.sealAtFall s) := by
  first
    | (simp (maxDischargeDepth := 40) [State.sealAtFall, h_]; done)
    | (unfold State.sealAtFall; (try dsimp only); repeat' (first | (simp (maxDischargeDepth := 40) [h_]; done) | intro _ | apply kept_foldl | apply kept_foldl_fst | apply kept_foldl_snd | apply kept_forEach | split))

/-- AON_POWER_FALL likewise. -/
theorem steady_execAonPowerFall (s : State) : OutSteady s (execAonPowerFall s) := by
  unfold execAonPowerFall; dsimp only
  split
  · exact .refl s
  · exact ⟨rfl, rfl, (kept_State_sealAtFall (s0_ := s) s (.refl s)).2.2.1⟩

@[simp] theorem kept_execPwrOkRise {s0_ : State} (s : State) (h_ : Kept s0_ s)  : OutKept s0_ (execPwrOkRise s) := by
  first
    | (simp (maxDischargeDepth := 40) [execPwrOkRise, h_]; done)
    | (unfold execPwrOkRise; (try dsimp only); repeat' (first | (simp (maxDischargeDepth := 40) [h_]; done) | intro _ | apply kept_foldl | apply kept_foldl_fst | apply kept_foldl_snd | apply kept_forEach | split))

@[simp] theorem kept_State_backToWait {s0_ : State} (s : State) (h_ : Kept s0_ s)  : Kept s0_ (State.backToWait s) := by
  first
    | (simp (maxDischargeDepth := 40) [State.backToWait, h_]; done)
    | (unfold State.backToWait; (try dsimp only); repeat' (first | (simp (maxDischargeDepth := 40) [h_]; done) | intro _ | apply kept_foldl | apply kept_foldl_fst | apply kept_foldl_snd | apply kept_forEach | split))

@[simp] theorem kept_execPwrOkFall {s0_ : State} (s : State) (h_ : Kept s0_ s)  : OutKept s0_ (execPwrOkFall s) := by
  first
    | (simp (maxDischargeDepth := 40) [execPwrOkFall, h_]; done)
    | (unfold execPwrOkFall; (try dsimp only); repeat' (first | (simp (maxDischargeDepth := 40) [h_]; done) | intro _ | apply kept_foldl | apply kept_foldl_fst | apply kept_foldl_snd | apply kept_forEach | split))

@[simp] theorem kept_execStaggerEnd {s0_ : State} (s : State) (h_ : Kept s0_ s)  : OutKept s0_ (execStaggerEnd s) := by
  first
    | (simp (maxDischargeDepth := 40) [execStaggerEnd, h_]; done)
    | (unfold execStaggerEnd; (try dsimp only); repeat' (first | (simp (maxDischargeDepth := 40) [h_]; done) | intro _ | apply kept_foldl | apply kept_foldl_fst | apply kept_foldl_snd | apply kept_forEach | split))

@[simp] theorem kept_execAonUpEnd {s0_ : State} (s : State) (h_ : Kept s0_ s)  : OutKept s0_ (execAonUpEnd s) := by
  first
    | (simp (maxDischargeDepth := 40) [execAonUpEnd, h_]; done)
    | (unfold execAonUpEnd; (try dsimp only); repeat' (first | (simp (maxDischargeDepth := 40) [h_]; done) | intro _ | apply kept_foldl | apply kept_foldl_fst | apply kept_foldl_snd | apply kept_forEach | split))

@[simp] theorem kept_State_beginStep4 {s0_ : State} (s : State) (h_ : Kept s0_ s)  : Kept s0_ (State.beginStep4 s) := by
  first
    | (simp (maxDischargeDepth := 40) [State.beginStep4, h_]; done)
    | (unfold State.beginStep4; (try dsimp only); repeat' (first | (simp (maxDischargeDepth := 40) [h_]; done) | intro _ | apply kept_foldl | apply kept_foldl_fst | apply kept_foldl_snd | apply kept_forEach | split))

@[simp] theorem kept_State_tryStep4 {s0_ : State} (s : State) (h_ : Kept s0_ s)  : Kept s0_ (State.tryStep4 s) := by
  first
    | (simp (maxDischargeDepth := 40) [State.tryStep4, h_]; done)
    | (unfold State.tryStep4; (try dsimp only); repeat' (first | (simp (maxDischargeDepth := 40) [h_]; done) | intro _ | apply kept_foldl | apply kept_foldl_fst | apply kept_foldl_snd | apply kept_forEach | split))

@[simp] theorem kept_execCellRstEnd {s0_ : State} (s : State) (h_ : Kept s0_ s)  : OutKept s0_ (execCellRstEnd s) := by
  first
    | (simp (maxDischargeDepth := 40) [execCellRstEnd, h_]; done)
    | (unfold execCellRstEnd; (try dsimp only); repeat' (first | (simp (maxDischargeDepth := 40) [h_]; done) | intro _ | apply kept_foldl | apply kept_foldl_fst | apply kept_foldl_snd | apply kept_forEach | split))

@[simp] theorem kept_execBootFall {s0_ : State} (s : State) (h_ : Kept s0_ s)  : OutKept s0_ (execBootFall s) := by
  first
    | (simp (maxDischargeDepth := 40) [execBootFall, h_]; done)
    | (unfold execBootFall; (try dsimp only); repeat' (first | (simp (maxDischargeDepth := 40) [h_]; done) | intro _ | apply kept_foldl | apply kept_foldl_fst | apply kept_foldl_snd | apply kept_forEach | split))

@[simp] theorem kept_execSd14Good {s0_ : State} (s : State) (h_ : Kept s0_ s)  : OutKept s0_ (execSd14Good s) := by
  first
    | (simp (maxDischargeDepth := 40) [execSd14Good, h_]; done)
    | (unfold execSd14Good; (try dsimp only); repeat' (first | (simp (maxDischargeDepth := 40) [h_]; done) | intro _ | apply kept_foldl | apply kept_foldl_fst | apply kept_foldl_snd | apply kept_forEach | split))

@[simp] theorem kept_execSd14Timeout {s0_ : State} (s : State) (h_ : Kept s0_ s)  : OutKept s0_ (execSd14Timeout s) := by
  first
    | (simp (maxDischargeDepth := 40) [execSd14Timeout, h_]; done)
    | (unfold execSd14Timeout; (try dsimp only); repeat' (first | (simp (maxDischargeDepth := 40) [h_]; done) | intro _ | apply kept_foldl | apply kept_foldl_fst | apply kept_foldl_snd | apply kept_forEach | split))

@[simp] theorem kept_State_enumerate {s0_ : State} (s : State) (h_ : Kept s0_ s)  : Kept s0_ (State.enumerate s) := by
  first
    | (simp (maxDischargeDepth := 40) [State.enumerate, h_]; done)
    | (unfold State.enumerate; (try dsimp only); repeat' (first | (simp (maxDischargeDepth := 40) [h_]; done) | intro _ | apply kept_foldl | apply kept_foldl_fst | apply kept_foldl_snd | apply kept_forEach | split))

@[simp] theorem kept_State_loadLaws {s0_ : State} (s : State) (h_ : Kept s0_ s)  : Kept s0_ (State.loadLaws s) := by
  first
    | (simp (maxDischargeDepth := 40) [State.loadLaws, h_]; done)
    | (unfold State.loadLaws; (try dsimp only); repeat' (first | (simp (maxDischargeDepth := 40) [h_]; done) | intro _ | apply kept_foldl | apply kept_foldl_fst | apply kept_foldl_snd | apply kept_forEach | split))

@[simp] theorem kept_execPllLock {s0_ : State} (s : State) (h_ : Kept s0_ s)  : OutKept s0_ (execPllLock s) := by
  first
    | (simp (maxDischargeDepth := 40) [execPllLock, h_]; done)
    | (unfold execPllLock; (try dsimp only); repeat' (first | (simp (maxDischargeDepth := 40) [h_]; done) | intro _ | apply kept_foldl | apply kept_foldl_fst | apply kept_foldl_snd | apply kept_forEach | split))

@[simp] theorem kept_execPllLockTimeout {s0_ : State} (s : State) (h_ : Kept s0_ s)  : OutKept s0_ (execPllLockTimeout s) := by
  first
    | (simp (maxDischargeDepth := 40) [execPllLockTimeout, h_]; done)
    | (unfold execPllLockTimeout; (try dsimp only); repeat' (first | (simp (maxDischargeDepth := 40) [h_]; done) | intro _ | apply kept_foldl | apply kept_foldl_fst | apply kept_foldl_snd | apply kept_forEach | split))

@[simp] theorem kept_execPllLoss {s0_ : State} (s : State) (h_ : Kept s0_ s)  : OutKept s0_ (execPllLoss s) := by
  first
    | (simp (maxDischargeDepth := 40) [execPllLoss, h_]; done)
    | (unfold execPllLoss; (try dsimp only); repeat' (first | (simp (maxDischargeDepth := 40) [h_]; done) | intro _ | apply kept_foldl | apply kept_foldl_fst | apply kept_foldl_snd | apply kept_forEach | split))

@[simp] theorem kept_execReferenceCheckEnd {s0_ : State} (s : State) (h_ : Kept s0_ s)  : OutKept s0_ (execReferenceCheckEnd s) := by
  first
    | (simp (maxDischargeDepth := 40) [execReferenceCheckEnd, h_]; done)
    | (unfold execReferenceCheckEnd; (try dsimp only); repeat' (first | (simp (maxDischargeDepth := 40) [h_]; done) | intro _ | apply kept_foldl | apply kept_foldl_fst | apply kept_foldl_snd | apply kept_forEach | split))

@[simp] theorem kept_execRefTimeout {s0_ : State} (row : HkcIx) (s : State) (h_ : Kept s0_ s)  : OutKept s0_ (execRefTimeout row s) := by
  first
    | (simp (maxDischargeDepth := 40) [execRefTimeout, h_]; done)
    | (unfold execRefTimeout; (try dsimp only); repeat' (first | (simp (maxDischargeDepth := 40) [h_]; done) | intro _ | apply kept_foldl | apply kept_foldl_fst | apply kept_foldl_snd | apply kept_forEach | split))

@[simp] theorem kept_State_sd13Start {s0_ : State} (s : State) (h_ : Kept s0_ s)  : Kept s0_ (State.sd13Start s) := by
  first
    | (simp (maxDischargeDepth := 40) [State.sd13Start, h_]; done)
    | (unfold State.sd13Start; (try dsimp only); repeat' (first | (simp (maxDischargeDepth := 40) [h_]; done) | intro _ | apply kept_foldl | apply kept_foldl_fst | apply kept_foldl_snd | apply kept_forEach | split))

@[simp] theorem kept_State_beginDomain {s0_ : State} (s : State) (d : Nat) (h_ : Kept s0_ s)  : Kept s0_ (State.beginDomain s d) := by
  first
    | (simp (maxDischargeDepth := 40) [State.beginDomain, h_]; done)
    | (unfold State.beginDomain; (try dsimp only); repeat' (first | (simp (maxDischargeDepth := 40) [h_]; done) | intro _ | apply kept_foldl | apply kept_foldl_fst | apply kept_foldl_snd | apply kept_forEach | split))

@[simp] theorem kept_execStageBegin {s0_ : State} (s : State) (h_ : Kept s0_ s)  : OutKept s0_ (execStageBegin s) := by
  first
    | (simp (maxDischargeDepth := 40) [execStageBegin, h_]; done)
    | (unfold execStageBegin; (try dsimp only); repeat' (first | (simp (maxDischargeDepth := 40) [h_]; done) | intro _ | apply kept_foldl | apply kept_foldl_fst | apply kept_foldl_snd | apply kept_forEach | split))

@[simp] theorem kept_execStageEnd {s0_ : State} (s : State) (h_ : Kept s0_ s)  : OutKept s0_ (execStageEnd s) := by
  first
    | (simp (maxDischargeDepth := 40) [execStageEnd, h_]; done)
    | (unfold execStageEnd; (try dsimp only); repeat' (first | (simp (maxDischargeDepth := 40) [h_]; done) | intro _ | apply kept_foldl | apply kept_foldl_fst | apply kept_foldl_snd | apply kept_forEach | split))

@[simp] theorem kept_State_recheckShed {s0_ : State} (s : State) (h_ : Kept s0_ s)  : Kept s0_ (State.recheckShed s) := by
  first
    | (simp (maxDischargeDepth := 40) [State.recheckShed, h_]; done)
    | (unfold State.recheckShed; (try dsimp only); repeat' (first | (simp (maxDischargeDepth := 40) [h_]; done) | intro _ | apply kept_foldl | apply kept_foldl_fst | apply kept_foldl_snd | apply kept_forEach | split))

@[simp] theorem kept_execReady {s0_ : State} (s : State) (h_ : Kept s0_ s)  : OutKept s0_ (execReady s) := by
  first
    | (simp (maxDischargeDepth := 40) [execReady, h_]; done)
    | (unfold execReady; (try dsimp only); repeat' (first | (simp (maxDischargeDepth := 40) [h_]; done) | intro _ | apply kept_foldl | apply kept_foldl_fst | apply kept_foldl_snd | apply kept_forEach | split))

@[simp] theorem kept_execStartAbandon {s0_ : State} (s : State) (h_ : Kept s0_ s)  : OutKept s0_ (execStartAbandon s) := by
  first
    | (simp (maxDischargeDepth := 40) [execStartAbandon, h_]; done)
    | (unfold execStartAbandon; (try dsimp only); repeat' (first | (simp (maxDischargeDepth := 40) [h_]; done) | intro _ | apply kept_foldl | apply kept_foldl_fst | apply kept_foldl_snd | apply kept_forEach | split))

@[simp] theorem kept_execLoanComplete {s0_ : State} (c : ChainIx) (s : State) (h_ : Kept s0_ s)  : OutKept s0_ (execLoanComplete c s) := by
  first
    | (simp (maxDischargeDepth := 40) [execLoanComplete, h_]; done)
    | (unfold execLoanComplete; (try dsimp only); repeat' (first | (simp (maxDischargeDepth := 40) [h_]; done) | intro _ | apply kept_foldl | apply kept_foldl_fst | apply kept_foldl_snd | apply kept_forEach | split))

@[simp] theorem kept_execSelftestTimeout {s0_ : State} (i : CellIx) (s : State) (h_ : Kept s0_ s)  : OutKept s0_ (execSelftestTimeout i s) := by
  first
    | (simp (maxDischargeDepth := 40) [execSelftestTimeout, h_]; done)
    | (unfold execSelftestTimeout; (try dsimp only); repeat' (first | (simp (maxDischargeDepth := 40) [h_]; done) | intro _ | apply kept_foldl | apply kept_foldl_fst | apply kept_foldl_snd | apply kept_forEach | split))

@[simp] theorem kept_execAuditDeferLimit {s0_ : State} (i : CellIx) (s : State) (h_ : Kept s0_ s)  : OutKept s0_ (execAuditDeferLimit i s) := by
  first
    | (simp (maxDischargeDepth := 40) [execAuditDeferLimit, h_]; done)
    | (unfold execAuditDeferLimit; (try dsimp only); repeat' (first | (simp (maxDischargeDepth := 40) [h_]; done) | intro _ | apply kept_foldl | apply kept_foldl_fst | apply kept_foldl_snd | apply kept_forEach | split))

end Sys2Proof.Machine
end

