-- ==== Sys2Proof/Laws/KeptStop.lean ====
section
/-! SUPPORT. What the operations of Machine/Stop.lean keep (Laws/Kept.lean). -/

set_option linter.unusedSimpArgs false
set_option linter.unusedVariables false

namespace Sys2Proof.Machine

@[simp] theorem kept_execCompTrip {s0_ : State} (n : Fin 64) (s : State) (h_ : Kept s0_ s)  : OutKept s0_ (execCompTrip n s) := by
  first
    | (simp (maxDischargeDepth := 40) [execCompTrip, h_]; done)
    | (unfold execCompTrip; (try dsimp only); repeat' (first | (simp (maxDischargeDepth := 40) [h_]; done) | intro _ | apply kept_foldl | apply kept_foldl_fst | apply kept_foldl_snd | apply kept_forEach | split))

@[simp] theorem kept_execCompClear {s0_ : State} (n : Fin 64) (s : State) (h_ : Kept s0_ s)  : OutKept s0_ (execCompClear n s) := by
  first
    | (simp (maxDischargeDepth := 40) [execCompClear, h_]; done)
    | (unfold execCompClear; (try dsimp only); repeat' (first | (simp (maxDischargeDepth := 40) [h_]; done) | intro _ | apply kept_foldl | apply kept_foldl_fst | apply kept_foldl_snd | apply kept_forEach | split))

@[simp] theorem kept_execFlowOkFall {s0_ : State} (s : State) (h_ : Kept s0_ s)  : OutKept s0_ (execFlowOkFall s) := by
  first
    | (simp (maxDischargeDepth := 40) [execFlowOkFall, h_]; done)
    | (unfold execFlowOkFall; (try dsimp only); repeat' (first | (simp (maxDischargeDepth := 40) [h_]; done) | intro _ | apply kept_foldl | apply kept_foldl_fst | apply kept_foldl_snd | apply kept_forEach | split))

@[simp] theorem kept_execFlowOkRise {s0_ : State} (s : State) (h_ : Kept s0_ s)  : OutKept s0_ (execFlowOkRise s) := by
  first
    | (simp (maxDischargeDepth := 40) [execFlowOkRise, h_]; done)
    | (unfold execFlowOkRise; (try dsimp only); repeat' (first | (simp (maxDischargeDepth := 40) [h_]; done) | intro _ | apply kept_foldl | apply kept_foldl_fst | apply kept_foldl_snd | apply kept_forEach | split))

@[simp] theorem kept_execFlowOkGlitch {s0_ : State} (s : State) (h_ : Kept s0_ s)  : OutKept s0_ (execFlowOkGlitch s) := by
  first
    | (simp (maxDischargeDepth := 40) [execFlowOkGlitch, h_]; done)
    | (unfold execFlowOkGlitch; (try dsimp only); repeat' (first | (simp (maxDischargeDepth := 40) [h_]; done) | intro _ | apply kept_foldl | apply kept_foldl_fst | apply kept_foldl_snd | apply kept_forEach | split))

@[simp] theorem kept_execStopSequence {s0_ : State} (s : State) (h_ : Kept s0_ s)  : OutKept s0_ (execStopSequence s) := by
  first
    | (simp (maxDischargeDepth := 40) [execStopSequence, h_]; done)
    | (unfold execStopSequence; (try dsimp only); repeat' (first | (simp (maxDischargeDepth := 40) [h_]; done) | intro _ | apply kept_foldl | apply kept_foldl_fst | apply kept_foldl_snd | apply kept_forEach | split))

@[simp] theorem kept_execStopStage {s0_ : State} (s : State) (h_ : Kept s0_ s)  : OutKept s0_ (execStopStage s) := by
  first
    | (simp (maxDischargeDepth := 40) [execStopStage, h_]; done)
    | (unfold execStopStage; (try dsimp only); repeat' (first | (simp (maxDischargeDepth := 40) [h_]; done) | intro _ | apply kept_foldl | apply kept_foldl_fst | apply kept_foldl_snd | apply kept_forEach | split))

@[simp] theorem kept_execRecordOpenWritten {s0_ : State} (s : State) (h_ : Kept s0_ s)  : OutKept s0_ (execRecordOpenWritten s) := by
  first
    | (simp (maxDischargeDepth := 40) [execRecordOpenWritten, h_]; done)
    | (unfold execRecordOpenWritten; (try dsimp only); repeat' (first | (simp (maxDischargeDepth := 40) [h_]; done) | intro _ | apply kept_foldl | apply kept_foldl_fst | apply kept_foldl_snd | apply kept_forEach | split))

@[simp] theorem kept_execSd14OffSeen {s0_ : State} (s : State) (h_ : Kept s0_ s)  : OutKept s0_ (execSd14OffSeen s) := by
  first
    | (simp (maxDischargeDepth := 40) [execSd14OffSeen, h_]; done)
    | (unfold execSd14OffSeen; (try dsimp only); repeat' (first | (simp (maxDischargeDepth := 40) [h_]; done) | intro _ | apply kept_foldl | apply kept_foldl_fst | apply kept_foldl_snd | apply kept_forEach | split))

@[simp] theorem kept_execQuietPeriodEnd {s0_ : State} (s : State) (h_ : Kept s0_ s)  : OutKept s0_ (execQuietPeriodEnd s) := by
  first
    | (simp (maxDischargeDepth := 40) [execQuietPeriodEnd, h_]; done)
    | (unfold execQuietPeriodEnd; (try dsimp only); repeat' (first | (simp (maxDischargeDepth := 40) [h_]; done) | intro _ | apply kept_foldl | apply kept_foldl_fst | apply kept_foldl_snd | apply kept_forEach | split))

end Sys2Proof.Machine
end

