-- ==== Sys2Proof/Laws/KeptAdopt.lean ====
section
/-! SUPPORT. What the operations of Machine/Adopt.lean keep (Laws/Kept.lean). -/

set_option linter.unusedSimpArgs false
set_option linter.unusedVariables false

namespace Sys2Proof.Machine

@[simp] theorem kept_execFastSideReset {s0_ : State} (s : State) (h_ : Kept s0_ s)  : OutKept s0_ (execFastSideReset s) := by
  first
    | (simp (maxDischargeDepth := 40) [execFastSideReset, h_]; done)
    | (unfold execFastSideReset; (try dsimp only); repeat' (first | (simp (maxDischargeDepth := 40) [h_]; done) | intro _ | apply kept_foldl | apply kept_foldl_fst | apply kept_foldl_snd | apply kept_forEach | split))

@[simp] theorem kept_execFsrRelease {s0_ : State} (s : State) (h_ : Kept s0_ s)  : OutKept s0_ (execFsrRelease s) := by
  first
    | (simp (maxDischargeDepth := 40) [execFsrRelease, h_]; done)
    | (unfold execFsrRelease; (try dsimp only); repeat' (first | (simp (maxDischargeDepth := 40) [h_]; done) | intro _ | apply kept_foldl | apply kept_foldl_fst | apply kept_foldl_snd | apply kept_forEach | split))

@[simp] theorem kept_State_restoreEnd {s0_ : State} (s : State) (h_ : Kept s0_ s)  : Kept s0_ (State.restoreEnd s) := by
  first
    | (simp (maxDischargeDepth := 40) [State.restoreEnd, h_]; done)
    | (unfold State.restoreEnd; (try dsimp only); repeat' (first | (simp (maxDischargeDepth := 40) [h_]; done) | intro _ | apply kept_foldl | apply kept_foldl_fst | apply kept_foldl_snd | apply kept_forEach | split))

@[simp] theorem kept_State_rebuildChain {s0_ : State} (s : State) (c : Nat) (h_ : Kept s0_ s)  : Kept s0_ (State.rebuildChain s c) := by
  first
    | (simp (maxDischargeDepth := 40) [State.rebuildChain, h_]; done)
    | (unfold State.rebuildChain; (try dsimp only); repeat' (first | (simp (maxDischargeDepth := 40) [h_]; done) | intro _ | apply kept_foldl | apply kept_foldl_fst | apply kept_foldl_snd | apply kept_forEach | split))

@[simp] theorem kept_execRosterRebuild {s0_ : State} (c : ChainIx) (s : State) (h_ : Kept s0_ s)  : OutKept s0_ (execRosterRebuild c s) := by
  first
    | (simp (maxDischargeDepth := 40) [execRosterRebuild, h_]; done)
    | (unfold execRosterRebuild; (try dsimp only); repeat' (first | (simp (maxDischargeDepth := 40) [h_]; done) | intro _ | apply kept_foldl | apply kept_foldl_fst | apply kept_foldl_snd | apply kept_forEach | split))

@[simp] theorem kept_State_readCell {s0_ : State} (s : State) (i : Nat) (h_ : Kept s0_ s)  : Kept s0_ (State.readCell s i) := by
  first
    | (simp (maxDischargeDepth := 40) [State.readCell, h_]; done)
    | (unfold State.readCell; (try dsimp only); repeat' (first | (simp (maxDischargeDepth := 40) [h_]; done) | intro _ | apply kept_foldl | apply kept_foldl_fst | apply kept_foldl_snd | apply kept_forEach | split))

@[simp] theorem kept_State_auditBitmaps {s0_ : State} (s : State) (h_ : Kept s0_ s)  : Kept s0_ (State.auditBitmaps s) := by
  first
    | (simp (maxDischargeDepth := 40) [State.auditBitmaps, h_]; done)
    | (unfold State.auditBitmaps; (try dsimp only); repeat' (first | (simp (maxDischargeDepth := 40) [h_]; done) | intro _ | apply kept_foldl | apply kept_foldl_fst | apply kept_foldl_snd | apply kept_forEach | split))

@[simp] theorem kept_execAdoptReadDone {s0_ : State} (s : State) (h_ : Kept s0_ s)  : OutKept s0_ (execAdoptReadDone s) := by
  first
    | (simp (maxDischargeDepth := 40) [execAdoptReadDone, h_]; done)
    | (unfold execAdoptReadDone; (try dsimp only); repeat' (first | (simp (maxDischargeDepth := 40) [h_]; done) | intro _ | apply kept_foldl | apply kept_foldl_fst | apply kept_foldl_snd | apply kept_forEach | split))

@[simp] theorem kept_execAdoptRestart {s0_ : State} (s : State) (h_ : Kept s0_ s)  : OutKept s0_ (execAdoptRestart s) := by
  first
    | (simp (maxDischargeDepth := 40) [execAdoptRestart, h_]; done)
    | (unfold execAdoptRestart; (try dsimp only); repeat' (first | (simp (maxDischargeDepth := 40) [h_]; done) | intro _ | apply kept_foldl | apply kept_foldl_fst | apply kept_foldl_snd | apply kept_forEach | split))

@[simp] theorem kept_execCommitStall {s0_ : State} (s : State) (h_ : Kept s0_ s)  : OutKept s0_ (execCommitStall s) := by
  first
    | (simp (maxDischargeDepth := 40) [execCommitStall, h_]; done)
    | (unfold execCommitStall; (try dsimp only); repeat' (first | (simp (maxDischargeDepth := 40) [h_]; done) | intro _ | apply kept_foldl | apply kept_foldl_fst | apply kept_foldl_snd | apply kept_forEach | split))

@[simp] theorem kept_execSd14RailFault {s0_ : State} (s : State) (h_ : Kept s0_ s)  : OutKept s0_ (execSd14RailFault s) := by
  first
    | (simp (maxDischargeDepth := 40) [execSd14RailFault, h_]; done)
    | (unfold execSd14RailFault; (try dsimp only); repeat' (first | (simp (maxDischargeDepth := 40) [h_]; done) | intro _ | apply kept_foldl | apply kept_foldl_fst | apply kept_foldl_snd | apply kept_forEach | split))

end Sys2Proof.Machine
end

