-- ==== Sys2Proof/Laws/KeptWarden.lean ====
section
/-! SUPPORT. What the operations of Machine/Warden.lean keep (Laws/Kept.lean). -/

set_option linter.unusedSimpArgs false
set_option linter.unusedVariables false

namespace Sys2Proof.Machine

@[simp] theorem kept_State_romFailed {s0_ : State} (s : State) (h_ : Kept s0_ s)  : Kept s0_ (State.romFailed s) := by
  first
    | (simp (maxDischargeDepth := 40) [State.romFailed, h_]; done)
    | (unfold State.romFailed; (try dsimp only); repeat' (first | (simp (maxDischargeDepth := 40) [h_]; done) | intro _ | apply kept_foldl | apply kept_foldl_fst | apply kept_foldl_snd | apply kept_forEach | split))

@[simp] theorem kept_State_patchCheck {s0_ : State} (s : State) (k : Nat) (sigOk : Bool) (h_ : Kept s0_ s)  : Kept s0_ (State.patchCheck s k sigOk) := by
  first
    | (simp (maxDischargeDepth := 40) [State.patchCheck, h_]; done)
    | (unfold State.patchCheck; (try dsimp only); repeat' (first | (simp (maxDischargeDepth := 40) [h_]; done) | intro _ | apply kept_foldl | apply kept_foldl_fst | apply kept_foldl_snd | apply kept_forEach | split))

@[simp] theorem kept_State_patchBoot {s0_ : State} (s : State) (sigOk : Bool) (h_ : Kept s0_ s)  : Kept s0_ (State.patchBoot s sigOk) := by
  first
    | (simp (maxDischargeDepth := 40) [State.patchBoot, h_]; done)
    | (unfold State.patchBoot; (try dsimp only); repeat' (first | (simp (maxDischargeDepth := 40) [h_]; done) | intro _ | apply kept_foldl | apply kept_foldl_fst | apply kept_foldl_snd | apply kept_forEach | split))

@[simp] theorem kept_State_patchWarm {s0_ : State} (s : State) (sigOk : Bool) (h_ : Kept s0_ s)  : Kept s0_ (State.patchWarm s sigOk) := by
  first
    | (simp (maxDischargeDepth := 40) [State.patchWarm, h_]; done)
    | (unfold State.patchWarm; (try dsimp only); repeat' (first | (simp (maxDischargeDepth := 40) [h_]; done) | intro _ | apply kept_foldl | apply kept_foldl_fst | apply kept_foldl_snd | apply kept_forEach | split))

@[simp] theorem kept_State_loadBlock {s0_ : State} (s : State) (k : Nat) (h_ : Kept s0_ s)  : Kept s0_ (State.loadBlock s k) := by
  first
    | (simp (maxDischargeDepth := 40) [State.loadBlock, h_]; done)
    | (unfold State.loadBlock; (try dsimp only); repeat' (first | (simp (maxDischargeDepth := 40) [h_]; done) | intro _ | apply kept_foldl | apply kept_foldl_fst | apply kept_foldl_snd | apply kept_forEach | split))

@[simp] theorem kept_State_loadState {s0_ : State} (s : State) (h_ : Kept s0_ s)  : Kept s0_ (State.loadState s) := by
  first
    | (simp (maxDischargeDepth := 40) [State.loadState, h_]; done)
    | (unfold State.loadState; (try dsimp only); repeat' (first | (simp (maxDischargeDepth := 40) [h_]; done) | intro _ | apply kept_foldl | apply kept_foldl_fst | apply kept_foldl_snd | apply kept_forEach | split))

@[simp] theorem kept_State_sealLost {s0_ : State} (s : State) (slot : Nat) (h_ : Kept s0_ s)  : Kept s0_ (State.sealLost s slot) := by
  first
    | (simp (maxDischargeDepth := 40) [State.sealLost, h_]; done)
    | (unfold State.sealLost; (try dsimp only); repeat' (first | (simp (maxDischargeDepth := 40) [h_]; done) | intro _ | apply kept_foldl | apply kept_foldl_fst | apply kept_foldl_snd | apply kept_forEach | split))

@[simp] theorem kept_State_loadStop {s0_ : State} (s : State) (h_ : Kept s0_ s)  : Kept s0_ (State.loadStop s) := by
  first
    | (simp (maxDischargeDepth := 40) [State.loadStop, h_]; done)
    | (unfold State.loadStop; (try dsimp only); repeat' (first | (simp (maxDischargeDepth := 40) [h_]; done) | intro _ | apply kept_foldl | apply kept_foldl_fst | apply kept_foldl_snd | apply kept_forEach | split))

@[simp] theorem kept_State_avsInit {s0_ : State} (s : State) (k : Nat) (ok : Bool) (mv : Nat) (h_ : Kept s0_ s)  : Kept s0_ (State.avsInit s k ok mv) := by
  first
    | (simp (maxDischargeDepth := 40) [State.avsInit, h_]; done)
    | (unfold State.avsInit; (try dsimp only); repeat' (first | (simp (maxDischargeDepth := 40) [h_]; done) | intro _ | apply kept_foldl | apply kept_foldl_fst | apply kept_foldl_snd | apply kept_forEach | split))

@[simp] theorem kept_State_avsBoot {s0_ : State} (s : State) (avsOk : Nat) (mv : List Nat) (h_ : Kept s0_ s)  : Kept s0_ (State.avsBoot s avsOk mv) := by
  first
    | (simp (maxDischargeDepth := 40) [State.avsBoot, h_]; done)
    | (unfold State.avsBoot; (try dsimp only); repeat' (first | (simp (maxDischargeDepth := 40) [h_]; done) | intro _ | apply kept_foldl | apply kept_foldl_fst | apply kept_foldl_snd | apply kept_forEach | split))

@[simp] theorem kept_State_updMbox {s0_ : State} (s : State) (ch : MboxChan) (f : Mbox → Mbox) (h_ : Kept s0_ s)  : Kept s0_ (State.updMbox s ch f) := by
  first
    | (simp (maxDischargeDepth := 40) [State.updMbox, h_]; done)
    | (unfold State.updMbox; (try dsimp only); repeat' (first | (simp (maxDischargeDepth := 40) [h_]; done) | intro _ | apply kept_foldl | apply kept_foldl_fst | apply kept_foldl_snd | apply kept_forEach | split))

@[simp] theorem kept_State_mboxEnd {s0_ : State} (s : State) (ch : MboxChan) (status : Nat) (h_ : Kept s0_ s)  : Kept s0_ (State.mboxEnd s ch status) := by
  first
    | (simp (maxDischargeDepth := 40) [State.mboxEnd, h_]; done)
    | (unfold State.mboxEnd; (try dsimp only); repeat' (first | (simp (maxDischargeDepth := 40) [h_]; done) | intro _ | apply kept_foldl | apply kept_foldl_fst | apply kept_foldl_snd | apply kept_forEach | split))

@[simp] theorem kept_State_mboxResults {s0_ : State} (s : State) (ch : MboxChan) (res : List Word) (h_ : Kept s0_ s)  : Kept s0_ (State.mboxResults s ch res) := by
  first
    | (simp (maxDischargeDepth := 40) [State.mboxResults, h_]; done)
    | (unfold State.mboxResults; (try dsimp only); repeat' (first | (simp (maxDischargeDepth := 40) [h_]; done) | intro _ | apply kept_foldl | apply kept_foldl_fst | apply kept_foldl_snd | apply kept_forEach | split))

@[simp] theorem kept_State_mbGetInfo {s0_ : State} (s : State) (ch : MboxChan) (h_ : Kept s0_ s)  : Kept s0_ (State.mbGetInfo s ch) := by
  first
    | (simp (maxDischargeDepth := 40) [State.mbGetInfo, h_]; done)
    | (unfold State.mbGetInfo; (try dsimp only); repeat' (first | (simp (maxDischargeDepth := 40) [h_]; done) | intro _ | apply kept_foldl | apply kept_foldl_fst | apply kept_foldl_snd | apply kept_forEach | split))

@[simp] theorem kept_State_mbPatchBegin {s0_ : State} (s : State) (ch : MboxChan) (len : Nat) (h_ : Kept s0_ s)  : Kept s0_ (State.mbPatchBegin s ch len) := by
  first
    | (simp (maxDischargeDepth := 40) [State.mbPatchBegin, h_]; done)
    | (unfold State.mbPatchBegin; (try dsimp only); repeat' (first | (simp (maxDischargeDepth := 40) [h_]; done) | intro _ | apply kept_foldl | apply kept_foldl_fst | apply kept_foldl_snd | apply kept_forEach | split))

@[simp] theorem kept_State_mbPatchData {s0_ : State} (s : State) (ch : MboxChan) (off : Nat) (data : List Word) (h_ : Kept s0_ s)  : Kept s0_ (State.mbPatchData s ch off data) := by
  first
    | (simp (maxDischargeDepth := 40) [State.mbPatchData, h_]; done)
    | (unfold State.mbPatchData; (try dsimp only); repeat' (first | (simp (maxDischargeDepth := 40) [h_]; done) | intro _ | apply kept_foldl | apply kept_foldl_fst | apply kept_foldl_snd | apply kept_forEach | split))

@[simp] theorem kept_State_mbPatchCommit {s0_ : State} (s : State) (ch : MboxChan) (sigOk : Bool) (h_ : Kept s0_ s)  : Kept s0_ (State.mbPatchCommit s ch sigOk) := by
  first
    | (simp (maxDischargeDepth := 40) [State.mbPatchCommit, h_]; done)
    | (unfold State.mbPatchCommit; (try dsimp only); repeat' (first | (simp (maxDischargeDepth := 40) [h_]; done) | intro _ | apply kept_foldl | apply kept_foldl_fst | apply kept_foldl_snd | apply kept_forEach | split))

@[simp] theorem kept_State_mbVtRead {s0_ : State} (s : State) (ch : MboxChan) (which : Nat) (first : Nat) (h_ : Kept s0_ s)  : Kept s0_ (State.mbVtRead s ch which first) := by
  first
    | (simp (maxDischargeDepth := 40) [State.mbVtRead, h_]; done)
    | (unfold State.mbVtRead; (try dsimp only); repeat' (first | (simp (maxDischargeDepth := 40) [h_]; done) | intro _ | apply kept_foldl | apply kept_foldl_fst | apply kept_foldl_snd | apply kept_forEach | split))

@[simp] theorem kept_State_vtStageEntry {s0_ : State} (s : State) (i : Nat) (e : Word) (h_ : Kept s0_ s)  : Kept s0_ (State.vtStageEntry s i e) := by
  first
    | (simp (maxDischargeDepth := 40) [State.vtStageEntry, h_]; done)
    | (unfold State.vtStageEntry; (try dsimp only); repeat' (first | (simp (maxDischargeDepth := 40) [h_]; done) | intro _ | apply kept_foldl | apply kept_foldl_fst | apply kept_foldl_snd | apply kept_forEach | split))

@[simp] theorem kept_State_mbVtStage {s0_ : State} (s : State) (ch : MboxChan) (i : Nat) (e : Word) (h_ : Kept s0_ s)  : Kept s0_ (State.mbVtStage s ch i e) := by
  first
    | (simp (maxDischargeDepth := 40) [State.mbVtStage, h_]; done)
    | (unfold State.mbVtStage; (try dsimp only); repeat' (first | (simp (maxDischargeDepth := 40) [h_]; done) | intro _ | apply kept_foldl | apply kept_foldl_fst | apply kept_foldl_snd | apply kept_forEach | split))

@[simp] theorem kept_State_vtApplyBegin {s0_ : State} (s : State) (chan : Option MboxChan) (h_ : Kept s0_ s)  : Kept s0_ (State.vtApplyBegin s chan) := by
  first
    | (simp (maxDischargeDepth := 40) [State.vtApplyBegin, h_]; done)
    | (unfold State.vtApplyBegin; (try dsimp only); repeat' (first | (simp (maxDischargeDepth := 40) [h_]; done) | intro _ | apply kept_foldl | apply kept_foldl_fst | apply kept_foldl_snd | apply kept_forEach | split))

@[simp] theorem kept_State_vtRefuse {s0_ : State} (s : State) (h_ : Kept s0_ s)  : Kept s0_ (State.vtRefuse s) := by
  first
    | (simp (maxDischargeDepth := 40) [State.vtRefuse, h_]; done)
    | (unfold State.vtRefuse; (try dsimp only); repeat' (first | (simp (maxDischargeDepth := 40) [h_]; done) | intro _ | apply kept_foldl | apply kept_foldl_fst | apply kept_foldl_snd | apply kept_forEach | split))

@[simp] theorem kept_State_mbVtApply {s0_ : State} (s : State) (ch : MboxChan) (h_ : Kept s0_ s)  : Kept s0_ (State.mbVtApply s ch) := by
  first
    | (simp (maxDischargeDepth := 40) [State.mbVtApply, h_]; done)
    | (unfold State.mbVtApply; (try dsimp only); repeat' (first | (simp (maxDischargeDepth := 40) [h_]; done) | intro _ | apply kept_foldl | apply kept_foldl_fst | apply kept_foldl_snd | apply kept_forEach | split))

@[simp] theorem kept_State_mbVtCommit {s0_ : State} (s : State) (ch : MboxChan) (h_ : Kept s0_ s)  : Kept s0_ (State.mbVtCommit s ch) := by
  first
    | (simp (maxDischargeDepth := 40) [State.mbVtCommit, h_]; done)
    | (unfold State.mbVtCommit; (try dsimp only); repeat' (first | (simp (maxDischargeDepth := 40) [h_]; done) | intro _ | apply kept_foldl | apply kept_foldl_fst | apply kept_foldl_snd | apply kept_forEach | split))

@[simp] theorem kept_State_mbPolLoad {s0_ : State} (s : State) (ch : MboxChan) (len : Nat) (digest : List Word) (h_ : Kept s0_ s)  : Kept s0_ (State.mbPolLoad s ch len digest) := by
  first
    | (simp (maxDischargeDepth := 40) [State.mbPolLoad, h_]; done)
    | (unfold State.mbPolLoad; (try dsimp only); repeat' (first | (simp (maxDischargeDepth := 40) [h_]; done) | intro _ | apply kept_foldl | apply kept_foldl_fst | apply kept_foldl_snd | apply kept_forEach | split))

@[simp] theorem kept_State_mbPolStart {s0_ : State} (s : State) (ch : MboxChan) (h_ : Kept s0_ s)  : Kept s0_ (State.mbPolStart s ch) := by
  first
    | (simp (maxDischargeDepth := 40) [State.mbPolStart, h_]; done)
    | (unfold State.mbPolStart; (try dsimp only); repeat' (first | (simp (maxDischargeDepth := 40) [h_]; done) | intro _ | apply kept_foldl | apply kept_foldl_fst | apply kept_foldl_snd | apply kept_forEach | split))

@[simp] theorem kept_State_stageLimit {s0_ : State} (s : State) (target : Nat) (v : Nat) (by_ : Stager) (h_ : Kept s0_ s)  : Kept s0_ (State.stageLimit s target v by_) := by
  first
    | (simp (maxDischargeDepth := 40) [State.stageLimit, h_]; done)
    | (unfold State.stageLimit; (try dsimp only); repeat' (first | (simp (maxDischargeDepth := 40) [h_]; done) | intro _ | apply kept_foldl | apply kept_foldl_fst | apply kept_foldl_snd | apply kept_forEach | split))

@[simp] theorem kept_State_policyDrop {s0_ : State} (s : State) (h_ : Kept s0_ s)  : Kept s0_ (State.policyDrop s) := by
  first
    | (simp (maxDischargeDepth := 40) [State.policyDrop, h_]; done)
    | (unfold State.policyDrop; (try dsimp only); repeat' (first | (simp (maxDischargeDepth := 40) [h_]; done) | intro _ | apply kept_foldl | apply kept_foldl_fst | apply kept_foldl_snd | apply kept_forEach | split))

@[simp] theorem kept_State_mbPolStop {s0_ : State} (s : State) (ch : MboxChan) (h_ : Kept s0_ s)  : Kept s0_ (State.mbPolStop s ch) := by
  first
    | (simp (maxDischargeDepth := 40) [State.mbPolStop, h_]; done)
    | (unfold State.mbPolStop; (try dsimp only); repeat' (first | (simp (maxDischargeDepth := 40) [h_]; done) | intro _ | apply kept_foldl | apply kept_foldl_fst | apply kept_foldl_snd | apply kept_forEach | split))

@[simp] theorem kept_State_mbPolClear {s0_ : State} (s : State) (ch : MboxChan) (h_ : Kept s0_ s)  : Kept s0_ (State.mbPolClear s ch) := by
  first
    | (simp (maxDischargeDepth := 40) [State.mbPolClear, h_]; done)
    | (unfold State.mbPolClear; (try dsimp only); repeat' (first | (simp (maxDischargeDepth := 40) [h_]; done) | intro _ | apply kept_foldl | apply kept_foldl_fst | apply kept_foldl_snd | apply kept_forEach | split))

@[simp] theorem kept_State_mboxRun {s0_ : State} (s : State) (c : Instr) (h_ : Kept s0_ s)  : Kept s0_ (State.mboxRun s c) := by
  first
    | (simp (maxDischargeDepth := 40) [State.mboxRun, h_]; done)
    | (unfold State.mboxRun; (try dsimp only); repeat' (first | (simp (maxDischargeDepth := 40) [h_]; done) | intro _ | apply kept_foldl | apply kept_foldl_fst | apply kept_foldl_snd | apply kept_forEach | split))

@[simp] theorem kept_State_mboxTurn {s0_ : State} (s : State) (h_ : Kept s0_ s)  : Kept s0_ (State.mboxTurn s) := by
  first
    | (simp (maxDischargeDepth := 40) [State.mboxTurn, h_]; done)
    | (unfold State.mboxTurn; (try dsimp only); repeat' (first | (simp (maxDischargeDepth := 40) [h_]; done) | intro _ | apply kept_foldl | apply kept_foldl_fst | apply kept_foldl_snd | apply kept_forEach | split))

@[simp] theorem kept_State_mboxTurns {s0_ : State} (s : State) (h_ : Kept s0_ s)  : Kept s0_ (State.mboxTurns s) := by
  first
    | (simp (maxDischargeDepth := 40) [State.mboxTurns, h_]; done)
    | (unfold State.mboxTurns; (try dsimp only); repeat' (first | (simp (maxDischargeDepth := 40) [h_]; done) | intro _ | apply kept_foldl | apply kept_foldl_fst | apply kept_foldl_snd | apply kept_forEach | split))

@[simp] theorem kept_State_mboxCommand {s0_ : State} (s : State) (ch : MboxChan) (op : Nat) (tag : BitVec 8) (args : List Word) (data : List Word) (c : Instr) (h_ : Kept s0_ s)  : Kept s0_ (State.mboxCommand s ch op tag args data c) := by
  first
    | (simp (maxDischargeDepth := 40) [State.mboxCommand, h_]; done)
    | (unfold State.mboxCommand; (try dsimp only); repeat' (first | (simp (maxDischargeDepth := 40) [h_]; done) | intro _ | apply kept_foldl | apply kept_foldl_fst | apply kept_foldl_snd | apply kept_forEach | split))

@[simp] theorem kept_execGetInfo {s0_ : State} (ch : MboxChan) (tag : BitVec 8) (s : State) (h_ : Kept s0_ s)  : OutKept s0_ (execGetInfo ch tag s) := by
  first
    | (simp (maxDischargeDepth := 40) [execGetInfo, h_]; done)
    | (unfold execGetInfo; (try dsimp only); repeat' (first | (simp (maxDischargeDepth := 40) [h_]; done) | intro _ | apply kept_foldl | apply kept_foldl_fst | apply kept_foldl_snd | apply kept_forEach | split))

@[simp] theorem kept_execPatchBegin {s0_ : State} (ch : MboxChan) (tag : BitVec 8) (len : Word) (s : State) (h_ : Kept s0_ s)  : OutKept s0_ (execPatchBegin ch tag len s) := by
  first
    | (simp (maxDischargeDepth := 40) [execPatchBegin, h_]; done)
    | (unfold execPatchBegin; (try dsimp only); repeat' (first | (simp (maxDischargeDepth := 40) [h_]; done) | intro _ | apply kept_foldl | apply kept_foldl_fst | apply kept_foldl_snd | apply kept_forEach | split))

@[simp] theorem kept_execPatchData {s0_ : State} (ch : MboxChan) (tag : BitVec 8) (off : Word) (data : List Word) (s : State) (h_ : Kept s0_ s)  : OutKept s0_ (execPatchData ch tag off data s) := by
  first
    | (simp (maxDischargeDepth := 40) [execPatchData, h_]; done)
    | (unfold execPatchData; (try dsimp only); repeat' (first | (simp (maxDischargeDepth := 40) [h_]; done) | intro _ | apply kept_foldl | apply kept_foldl_fst | apply kept_foldl_snd | apply kept_forEach | split))

@[simp] theorem kept_execPatchCommit {s0_ : State} (ch : MboxChan) (tag : BitVec 8) (sigOk : Bool) (s : State) (h_ : Kept s0_ s)  : OutKept s0_ (execPatchCommit ch tag sigOk s) := by
  first
    | (simp (maxDischargeDepth := 40) [execPatchCommit, h_]; done)
    | (unfold execPatchCommit; (try dsimp only); repeat' (first | (simp (maxDischargeDepth := 40) [h_]; done) | intro _ | apply kept_foldl | apply kept_foldl_fst | apply kept_foldl_snd | apply kept_forEach | split))

@[simp] theorem kept_execVtRead {s0_ : State} (ch : MboxChan) (tag : BitVec 8) (which : Word) (first : Word) (s : State) (h_ : Kept s0_ s)  : OutKept s0_ (execVtRead ch tag which first s) := by
  first
    | (simp (maxDischargeDepth := 40) [execVtRead, h_]; done)
    | (unfold execVtRead; (try dsimp only); repeat' (first | (simp (maxDischargeDepth := 40) [h_]; done) | intro _ | apply kept_foldl | apply kept_foldl_fst | apply kept_foldl_snd | apply kept_forEach | split))

@[simp] theorem kept_execVtStage {s0_ : State} (ch : MboxChan) (tag : BitVec 8) (entry : Word) (w : Word) (s : State) (h_ : Kept s0_ s)  : OutKept s0_ (execVtStage ch tag entry w s) := by
  first
    | (simp (maxDischargeDepth := 40) [execVtStage, h_]; done)
    | (unfold execVtStage; (try dsimp only); repeat' (first | (simp (maxDischargeDepth := 40) [h_]; done) | intro _ | apply kept_foldl | apply kept_foldl_fst | apply kept_foldl_snd | apply kept_forEach | split))

@[simp] theorem kept_execVtApply {s0_ : State} (ch : MboxChan) (tag : BitVec 8) (s : State) (h_ : Kept s0_ s)  : OutKept s0_ (execVtApply ch tag s) := by
  first
    | (simp (maxDischargeDepth := 40) [execVtApply, h_]; done)
    | (unfold execVtApply; (try dsimp only); repeat' (first | (simp (maxDischargeDepth := 40) [h_]; done) | intro _ | apply kept_foldl | apply kept_foldl_fst | apply kept_foldl_snd | apply kept_forEach | split))

@[simp] theorem kept_execVtCommit {s0_ : State} (ch : MboxChan) (tag : BitVec 8) (s : State) (h_ : Kept s0_ s)  : OutKept s0_ (execVtCommit ch tag s) := by
  first
    | (simp (maxDischargeDepth := 40) [execVtCommit, h_]; done)
    | (unfold execVtCommit; (try dsimp only); repeat' (first | (simp (maxDischargeDepth := 40) [h_]; done) | intro _ | apply kept_foldl | apply kept_foldl_fst | apply kept_foldl_snd | apply kept_forEach | split))

@[simp] theorem kept_execPolLoad {s0_ : State} (ch : MboxChan) (tag : BitVec 8) (addr : Word64) (len : Word) (digest : List Word) (s : State) (h_ : Kept s0_ s)  : OutKept s0_ (execPolLoad ch tag addr len digest s) := by
  first
    | (simp (maxDischargeDepth := 40) [execPolLoad, h_]; done)
    | (unfold execPolLoad; (try dsimp only); repeat' (first | (simp (maxDischargeDepth := 40) [h_]; done) | intro _ | apply kept_foldl | apply kept_foldl_fst | apply kept_foldl_snd | apply kept_forEach | split))

@[simp] theorem kept_execPolStart {s0_ : State} (ch : MboxChan) (tag : BitVec 8) (s : State) (h_ : Kept s0_ s)  : OutKept s0_ (execPolStart ch tag s) := by
  first
    | (simp (maxDischargeDepth := 40) [execPolStart, h_]; done)
    | (unfold execPolStart; (try dsimp only); repeat' (first | (simp (maxDischargeDepth := 40) [h_]; done) | intro _ | apply kept_foldl | apply kept_foldl_fst | apply kept_foldl_snd | apply kept_forEach | split))

@[simp] theorem kept_execPolStop {s0_ : State} (ch : MboxChan) (tag : BitVec 8) (s : State) (h_ : Kept s0_ s)  : OutKept s0_ (execPolStop ch tag s) := by
  first
    | (simp (maxDischargeDepth := 40) [execPolStop, h_]; done)
    | (unfold execPolStop; (try dsimp only); repeat' (first | (simp (maxDischargeDepth := 40) [h_]; done) | intro _ | apply kept_foldl | apply kept_foldl_fst | apply kept_foldl_snd | apply kept_forEach | split))

@[simp] theorem kept_execPolClear {s0_ : State} (ch : MboxChan) (tag : BitVec 8) (s : State) (h_ : Kept s0_ s)  : OutKept s0_ (execPolClear ch tag s) := by
  first
    | (simp (maxDischargeDepth := 40) [execPolClear, h_]; done)
    | (unfold execPolClear; (try dsimp only); repeat' (first | (simp (maxDischargeDepth := 40) [h_]; done) | intro _ | apply kept_foldl | apply kept_foldl_fst | apply kept_foldl_snd | apply kept_forEach | split))

@[simp] theorem kept_execMboxUnknownOp {s0_ : State} (ch : MboxChan) (tag : BitVec 8) (op : BitVec 8) (s : State) (h_ : Kept s0_ s)  : OutKept s0_ (execMboxUnknownOp ch tag op s) := by
  first
    | (simp (maxDischargeDepth := 40) [execMboxUnknownOp, h_]; done)
    | (unfold execMboxUnknownOp; (try dsimp only); repeat' (first | (simp (maxDischargeDepth := 40) [h_]; done) | intro _ | apply kept_foldl | apply kept_foldl_fst | apply kept_foldl_snd | apply kept_forEach | split))

@[simp] theorem kept_execWardenBootEnd {s0_ : State} (romOk : Bool) (constOk : Bool) (sigOk : Bool) (avsOk : BitVec 4) (avsMv : List Nat) (s : State) (h_ : Kept s0_ s)  : OutKept s0_ (execWardenBootEnd romOk constOk sigOk avsOk avsMv s) := by
  first
    | (simp (maxDischargeDepth := 40) [execWardenBootEnd, h_]; done)
    | (unfold execWardenBootEnd; (try dsimp only); repeat' (first | (simp (maxDischargeDepth := 40) [h_]; done) | intro _ | apply kept_foldl | apply kept_foldl_fst | apply kept_foldl_snd | apply kept_forEach | split))

@[simp] theorem kept_execReconcileEnd {s0_ : State} (s : State) (h_ : Kept s0_ s)  : OutKept s0_ (execReconcileEnd s) := by
  first
    | (simp (maxDischargeDepth := 40) [execReconcileEnd, h_]; done)
    | (unfold execReconcileEnd; (try dsimp only); repeat' (first | (simp (maxDischargeDepth := 40) [h_]; done) | intro _ | apply kept_foldl | apply kept_foldl_fst | apply kept_foldl_snd | apply kept_forEach | split))

@[simp] theorem kept_execWardenWatchdog {s0_ : State} (romOk : Bool) (constOk : Bool) (sigOk : Bool) (copiesOk : Bool) (s : State) (h_ : Kept s0_ s)  : OutKept s0_ (execWardenWatchdog romOk constOk sigOk copiesOk s) := by
  first
    | (simp (maxDischargeDepth := 40) [execWardenWatchdog, h_]; done)
    | (unfold execWardenWatchdog; (try dsimp only); repeat' (first | (simp (maxDischargeDepth := 40) [h_]; done) | intro _ | apply kept_foldl | apply kept_foldl_fst | apply kept_foldl_snd | apply kept_forEach | split))

@[simp] theorem kept_State_mboxWrote {s0_ : State} (s : State) (op : Nat) (status : Nat) (h_ : Kept s0_ s)  : Kept s0_ (State.mboxWrote s op status) := by
  first
    | (simp (maxDischargeDepth := 40) [State.mboxWrote, h_]; done)
    | (unfold State.mboxWrote; (try dsimp only); repeat' (first | (simp (maxDischargeDepth := 40) [h_]; done) | intro _ | apply kept_foldl | apply kept_foldl_fst | apply kept_foldl_snd | apply kept_forEach | split))

@[simp] theorem kept_State_vtEnd {s0_ : State} (s : State) (status : Nat) (h_ : Kept s0_ s)  : Kept s0_ (State.vtEnd s status) := by
  first
    | (simp (maxDischargeDepth := 40) [State.vtEnd, h_]; done)
    | (unfold State.vtEnd; (try dsimp only); repeat' (first | (simp (maxDischargeDepth := 40) [h_]; done) | intro _ | apply kept_foldl | apply kept_foldl_fst | apply kept_foldl_snd | apply kept_forEach | split))

@[simp] theorem kept_State_jobDone {s0_ : State} (s : State) (j : VaultJob) (h_ : Kept s0_ s)  : Kept s0_ (State.jobDone s j) := by
  first
    | (simp (maxDischargeDepth := 40) [State.jobDone, h_]; done)
    | (unfold State.jobDone; (try dsimp only); repeat' (first | (simp (maxDischargeDepth := 40) [h_]; done) | intro _ | apply kept_foldl | apply kept_foldl_fst | apply kept_foldl_snd | apply kept_forEach | split))

@[simp] theorem kept_State_moveRecord {s0_ : State} (s : State) (j : VaultJob) (h_ : Kept s0_ s)  : Kept s0_ (State.moveRecord s j) := by
  first
    | (simp (maxDischargeDepth := 40) [State.moveRecord, h_]; done)
    | (unfold State.moveRecord; (try dsimp only); repeat' (first | (simp (maxDischargeDepth := 40) [h_]; done) | intro _ | apply kept_foldl | apply kept_foldl_fst | apply kept_foldl_snd | apply kept_forEach | split))

@[simp] theorem kept_State_jobFailed {s0_ : State} (s : State) (j : VaultJob) (h_ : Kept s0_ s)  : Kept s0_ (State.jobFailed s j) := by
  first
    | (simp (maxDischargeDepth := 40) [State.jobFailed, h_]; done)
    | (unfold State.jobFailed; (try dsimp only); repeat' (first | (simp (maxDischargeDepth := 40) [h_]; done) | intro _ | apply kept_foldl | apply kept_foldl_fst | apply kept_foldl_snd | apply kept_forEach | split))

@[simp] theorem kept_execVaultWordWrite {s0_ : State} (ok : Bool) (s : State) (h_ : Kept s0_ s)  : OutKept s0_ (execVaultWordWrite ok s) := by
  first
    | (simp (maxDischargeDepth := 40) [execVaultWordWrite, h_]; done)
    | (unfold execVaultWordWrite; (try dsimp only); repeat' (first | (simp (maxDischargeDepth := 40) [h_]; done) | intro _ | apply kept_foldl | apply kept_foldl_fst | apply kept_foldl_snd | apply kept_forEach | split))

end Sys2Proof.Machine
end

