-- ==== Sys2Proof/Laws/KeptPolicy.lean ====
section
/-! SUPPORT. What the operations of Machine/Policy.lean keep (Laws/Kept.lean). -/

set_option linter.unusedSimpArgs false
set_option linter.unusedVariables false

namespace Sys2Proof.Machine

@[simp] theorem kept_State_ebsisReply {s0_ : State} (s : State) (kind : Nat) (r : EbsisReq) (status : Nat) (value : Option Nat) (epoch : Option Nat) (h_ : Kept s0_ s)  : Kept s0_ (State.ebsisReply s kind r status value epoch) := by
  first
    | (simp (maxDischargeDepth := 40) [State.ebsisReply, h_]; done)
    | (unfold State.ebsisReply; (try dsimp only); repeat' (first | (simp (maxDischargeDepth := 40) [h_]; done) | intro _ | apply kept_foldl | apply kept_foldl_fst | apply kept_foldl_snd | apply kept_forEach | split))

@[simp] theorem kept_State_ebsisRefuse {s0_ : State} (s : State) (kind : Nat) (r : EbsisReq) (status : Nat) (h_ : Kept s0_ s)  : Kept s0_ (State.ebsisRefuse s kind r status) := by
  first
    | (simp (maxDischargeDepth := 40) [State.ebsisRefuse, h_]; done)
    | (unfold State.ebsisRefuse; (try dsimp only); repeat' (first | (simp (maxDischargeDepth := 40) [h_]; done) | intro _ | apply kept_foldl | apply kept_foldl_fst | apply kept_foldl_snd | apply kept_forEach | split))

@[simp] theorem kept_State_ebsisDone {s0_ : State} (s0 : State) (s : State) (kind : Nat) (r : EbsisReq) (asked : Nat) (applied : Nat) (clamped : Bool) (h_ : Kept s0_ s0) (h_s : Kept s0_ s) : Kept s0_ (State.ebsisDone s0 s kind r asked applied clamped) := by
  first
    | (simp (maxDischargeDepth := 40) [State.ebsisDone, h_, h_s]; done)
    | (unfold State.ebsisDone; (try dsimp only); repeat' (first | (simp (maxDischargeDepth := 40) [h_, h_s]; done) | intro _ | apply kept_foldl | apply kept_foldl_fst | apply kept_foldl_snd | apply kept_forEach | split))

@[simp] theorem kept_State_ebVset {s0_ : State} (s : State) (r : EbsisReq) (h_ : Kept s0_ s)  : Kept s0_ (State.ebVset s r) := by
  first
    | (simp (maxDischargeDepth := 40) [State.ebVset, h_]; done)
    | (unfold State.ebVset; (try dsimp only); repeat' (first | (simp (maxDischargeDepth := 40) [h_]; done) | intro _ | apply kept_foldl | apply kept_foldl_fst | apply kept_foldl_snd | apply kept_forEach | split))

@[simp] theorem kept_State_ebTreas {s0_ : State} (s : State) (r : EbsisReq) (h_ : Kept s0_ s)  : Kept s0_ (State.ebTreas s r) := by
  first
    | (simp (maxDischargeDepth := 40) [State.ebTreas, h_]; done)
    | (unfold State.ebTreas; (try dsimp only); repeat' (first | (simp (maxDischargeDepth := 40) [h_]; done) | intro _ | apply kept_foldl | apply kept_foldl_fst | apply kept_foldl_snd | apply kept_forEach | split))

@[simp] theorem kept_State_ebClass {s0_ : State} (s : State) (r : EbsisReq) (h_ : Kept s0_ s)  : Kept s0_ (State.ebClass s r) := by
  first
    | (simp (maxDischargeDepth := 40) [State.ebClass, h_]; done)
    | (unfold State.ebClass; (try dsimp only); repeat' (first | (simp (maxDischargeDepth := 40) [h_]; done) | intro _ | apply kept_foldl | apply kept_foldl_fst | apply kept_foldl_snd | apply kept_forEach | split))

@[simp] theorem kept_State_ebCap {s0_ : State} (s : State) (r : EbsisReq) (h_ : Kept s0_ s)  : Kept s0_ (State.ebCap s r) := by
  first
    | (simp (maxDischargeDepth := 40) [State.ebCap, h_]; done)
    | (unfold State.ebCap; (try dsimp only); repeat' (first | (simp (maxDischargeDepth := 40) [h_]; done) | intro _ | apply kept_foldl | apply kept_foldl_fst | apply kept_foldl_snd | apply kept_forEach | split))

@[simp] theorem kept_State_ebMove {s0_ : State} (s : State) (kind : Nat) (recalling : Bool) (r : EbsisReq) (h_ : Kept s0_ s)  : Kept s0_ (State.ebMove s kind recalling r) := by
  first
    | (simp (maxDischargeDepth := 40) [State.ebMove, h_]; done)
    | (unfold State.ebMove; (try dsimp only); repeat' (first | (simp (maxDischargeDepth := 40) [h_]; done) | intro _ | apply kept_foldl | apply kept_foldl_fst | apply kept_foldl_snd | apply kept_forEach | split))

@[simp] theorem kept_State_ebLimitSet {s0_ : State} (s : State) (r : EbsisReq) (h_ : Kept s0_ s)  : Kept s0_ (State.ebLimitSet s r) := by
  first
    | (simp (maxDischargeDepth := 40) [State.ebLimitSet, h_]; done)
    | (unfold State.ebLimitSet; (try dsimp only); repeat' (first | (simp (maxDischargeDepth := 40) [h_]; done) | intro _ | apply kept_foldl | apply kept_foldl_fst | apply kept_foldl_snd | apply kept_forEach | split))

@[simp] theorem kept_State_ebAge {s0_ : State} (s : State) (r : EbsisReq) (h_ : Kept s0_ s)  : Kept s0_ (State.ebAge s r) := by
  first
    | (simp (maxDischargeDepth := 40) [State.ebAge, h_]; done)
    | (unfold State.ebAge; (try dsimp only); repeat' (first | (simp (maxDischargeDepth := 40) [h_]; done) | intro _ | apply kept_foldl | apply kept_foldl_fst | apply kept_foldl_snd | apply kept_forEach | split))

@[simp] theorem kept_State_ebBeat {s0_ : State} (s : State) (r : EbsisReq) (h_ : Kept s0_ s)  : Kept s0_ (State.ebBeat s r) := by
  first
    | (simp (maxDischargeDepth := 40) [State.ebBeat, h_]; done)
    | (unfold State.ebBeat; (try dsimp only); repeat' (first | (simp (maxDischargeDepth := 40) [h_]; done) | intro _ | apply kept_foldl | apply kept_foldl_fst | apply kept_foldl_snd | apply kept_forEach | split))

@[simp] theorem kept_State_ebServe {s0_ : State} (s : State) (kind : Nat) (r : EbsisReq) (h_ : Kept s0_ s)  : Kept s0_ (State.ebServe s kind r) := by
  first
    | (simp (maxDischargeDepth := 40) [State.ebServe, h_]; done)
    | (unfold State.ebServe; (try dsimp only); repeat' (first | (simp (maxDischargeDepth := 40) [h_]; done) | intro _ | apply kept_foldl | apply kept_foldl_fst | apply kept_foldl_snd | apply kept_forEach | split))

@[simp] theorem kept_State_ebsis {s0_ : State} (s : State) (kind : Nat) (r : EbsisReq) (h_ : Kept s0_ s)  : Kept s0_ (State.ebsis s kind r) := by
  first
    | (simp (maxDischargeDepth := 40) [State.ebsis, h_]; done)
    | (unfold State.ebsis; (try dsimp only); repeat' (first | (simp (maxDischargeDepth := 40) [h_]; done) | intro _ | apply kept_foldl | apply kept_foldl_fst | apply kept_foldl_snd | apply kept_forEach | split))

@[simp] theorem kept_State_ebsisHeld {s0_ : State} (s : State) (h_ : Kept s0_ s)  : Kept s0_ (State.ebsisHeld s) := by
  first
    | (simp (maxDischargeDepth := 40) [State.ebsisHeld, h_]; done)
    | (unfold State.ebsisHeld; (try dsimp only); repeat' (first | (simp (maxDischargeDepth := 40) [h_]; done) | intro _ | apply kept_foldl | apply kept_foldl_fst | apply kept_foldl_snd | apply kept_forEach | split))

@[simp] theorem kept_execSetVset {s0_ : State} (r : EbsisReq) (s : State) (h_ : Kept s0_ s)  : OutKept s0_ (execSetVset r s) := by
  first
    | (simp (maxDischargeDepth := 40) [execSetVset, h_]; done)
    | (unfold execSetVset; (try dsimp only); repeat' (first | (simp (maxDischargeDepth := 40) [h_]; done) | intro _ | apply kept_foldl | apply kept_foldl_fst | apply kept_foldl_snd | apply kept_forEach | split))

@[simp] theorem kept_execSetTreas {s0_ : State} (r : EbsisReq) (s : State) (h_ : Kept s0_ s)  : OutKept s0_ (execSetTreas r s) := by
  first
    | (simp (maxDischargeDepth := 40) [execSetTreas, h_]; done)
    | (unfold execSetTreas; (try dsimp only); repeat' (first | (simp (maxDischargeDepth := 40) [h_]; done) | intro _ | apply kept_foldl | apply kept_foldl_fst | apply kept_foldl_snd | apply kept_forEach | split))

@[simp] theorem kept_execSetClass {s0_ : State} (r : EbsisReq) (s : State) (h_ : Kept s0_ s)  : OutKept s0_ (execSetClass r s) := by
  first
    | (simp (maxDischargeDepth := 40) [execSetClass, h_]; done)
    | (unfold execSetClass; (try dsimp only); repeat' (first | (simp (maxDischargeDepth := 40) [h_]; done) | intro _ | apply kept_foldl | apply kept_foldl_fst | apply kept_foldl_snd | apply kept_forEach | split))

@[simp] theorem kept_execSetCap {s0_ : State} (r : EbsisReq) (s : State) (h_ : Kept s0_ s)  : OutKept s0_ (execSetCap r s) := by
  first
    | (simp (maxDischargeDepth := 40) [execSetCap, h_]; done)
    | (unfold execSetCap; (try dsimp only); repeat' (first | (simp (maxDischargeDepth := 40) [h_]; done) | intro _ | apply kept_foldl | apply kept_foldl_fst | apply kept_foldl_snd | apply kept_forEach | split))

@[simp] theorem kept_execLoan {s0_ : State} (r : EbsisReq) (s : State) (h_ : Kept s0_ s)  : OutKept s0_ (execLoan r s) := by
  first
    | (simp (maxDischargeDepth := 40) [execLoan, h_]; done)
    | (unfold execLoan; (try dsimp only); repeat' (first | (simp (maxDischargeDepth := 40) [h_]; done) | intro _ | apply kept_foldl | apply kept_foldl_fst | apply kept_foldl_snd | apply kept_forEach | split))

@[simp] theorem kept_execRecalling {s0_ : State} (r : EbsisReq) (s : State) (h_ : Kept s0_ s)  : OutKept s0_ (execRecalling r s) := by
  first
    | (simp (maxDischargeDepth := 40) [execRecalling, h_]; done)
    | (unfold execRecalling; (try dsimp only); repeat' (first | (simp (maxDischargeDepth := 40) [h_]; done) | intro _ | apply kept_foldl | apply kept_foldl_fst | apply kept_foldl_snd | apply kept_forEach | split))

@[simp] theorem kept_execSetLimit {s0_ : State} (r : EbsisReq) (s : State) (h_ : Kept s0_ s)  : OutKept s0_ (execSetLimit r s) := by
  first
    | (simp (maxDischargeDepth := 40) [execSetLimit, h_]; done)
    | (unfold execSetLimit; (try dsimp only); repeat' (first | (simp (maxDischargeDepth := 40) [h_]; done) | intro _ | apply kept_foldl | apply kept_foldl_fst | apply kept_foldl_snd | apply kept_forEach | split))

@[simp] theorem kept_execAge {s0_ : State} (r : EbsisReq) (s : State) (h_ : Kept s0_ s)  : OutKept s0_ (execAge r s) := by
  first
    | (simp (maxDischargeDepth := 40) [execAge, h_]; done)
    | (unfold execAge; (try dsimp only); repeat' (first | (simp (maxDischargeDepth := 40) [h_]; done) | intro _ | apply kept_foldl | apply kept_foldl_fst | apply kept_foldl_snd | apply kept_forEach | split))

@[simp] theorem kept_execHeartbeat {s0_ : State} (r : EbsisReq) (s : State) (h_ : Kept s0_ s)  : OutKept s0_ (execHeartbeat r s) := by
  first
    | (simp (maxDischargeDepth := 40) [execHeartbeat, h_]; done)
    | (unfold execHeartbeat; (try dsimp only); repeat' (first | (simp (maxDischargeDepth := 40) [h_]; done) | intro _ | apply kept_foldl | apply kept_foldl_fst | apply kept_foldl_snd | apply kept_forEach | split))

@[simp] theorem kept_execUnknownKind {s0_ : State} (kind : BitVec 8) (r : EbsisReq) (s : State) (h_ : Kept s0_ s)  : OutKept s0_ (execUnknownKind kind r s) := by
  first
    | (simp (maxDischargeDepth := 40) [execUnknownKind, h_]; done)
    | (unfold execUnknownKind; (try dsimp only); repeat' (first | (simp (maxDischargeDepth := 40) [h_]; done) | intro _ | apply kept_foldl | apply kept_foldl_fst | apply kept_foldl_snd | apply kept_forEach | split))

@[simp] theorem kept_State_policyFault {s0_ : State} (s : State) (obj : Nat) (h_ : Kept s0_ s)  : Kept s0_ (State.policyFault s obj) := by
  first
    | (simp (maxDischargeDepth := 40) [State.policyFault, h_]; done)
    | (unfold State.policyFault; (try dsimp only); repeat' (first | (simp (maxDischargeDepth := 40) [h_]; done) | intro _ | apply kept_foldl | apply kept_foldl_fst | apply kept_foldl_snd | apply kept_forEach | split))

@[simp] theorem kept_execPolicyWatchdog {s0_ : State} (s : State) (h_ : Kept s0_ s)  : OutKept s0_ (execPolicyWatchdog s) := by
  first
    | (simp (maxDischargeDepth := 40) [execPolicyWatchdog, h_]; done)
    | (unfold execPolicyWatchdog; (try dsimp only); repeat' (first | (simp (maxDischargeDepth := 40) [h_]; done) | intro _ | apply kept_foldl | apply kept_foldl_fst | apply kept_foldl_snd | apply kept_forEach | split))

@[simp] theorem kept_execPolicyTrap {s0_ : State} (s : State) (h_ : Kept s0_ s)  : OutKept s0_ (execPolicyTrap s) := by
  first
    | (simp (maxDischargeDepth := 40) [execPolicyTrap, h_]; done)
    | (unfold execPolicyTrap; (try dsimp only); repeat' (first | (simp (maxDischargeDepth := 40) [h_]; done) | intro _ | apply kept_foldl | apply kept_foldl_fst | apply kept_foldl_snd | apply kept_forEach | split))

end Sys2Proof.Machine
end

