-- ==== Sys2Proof/Laws/KeptChecks.lean ====
section
/-! SUPPORT. What the operations of Machine/Checks.lean keep (Laws/Kept.lean). -/

set_option linter.unusedSimpArgs false
set_option linter.unusedVariables false

namespace Sys2Proof.Machine

@[simp] theorem kept_State_cfgReject {s0_ : State} (s : State) (off : Nat) (h_ : Kept s0_ s)  : Kept s0_ (State.cfgReject s off) := by
  first
    | (simp (maxDischargeDepth := 40) [State.cfgReject, h_]; done)
    | (unfold State.cfgReject; (try dsimp only); repeat' (first | (simp (maxDischargeDepth := 40) [h_]; done) | intro _ | apply kept_foldl | apply kept_foldl_fst | apply kept_foldl_snd | apply kept_forEach | split))

@[simp] theorem kept_State_hostValue {s0_ : State} (s : State) (target : Nat) (v : Nat) (h_ : Kept s0_ s)  : Kept s0_ (State.hostValue s target v) := by
  first
    | (simp (maxDischargeDepth := 40) [State.hostValue, h_]; done)
    | (unfold State.hostValue; (try dsimp only); repeat' (first | (simp (maxDischargeDepth := 40) [h_]; done) | intro _ | apply kept_foldl | apply kept_foldl_fst | apply kept_foldl_snd | apply kept_forEach | split))

@[simp] theorem kept_State_hostLimits {s0_ : State} (s : State) (off : Nat) (v : Word) (h_ : Kept s0_ s)  : Kept s0_ (State.hostLimits s off v) := by
  first
    | (simp (maxDischargeDepth := 40) [State.hostLimits, h_]; done)
    | (unfold State.hostLimits; (try dsimp only); repeat' (first | (simp (maxDischargeDepth := 40) [h_]; done) | intro _ | apply kept_foldl | apply kept_foldl_fst | apply kept_foldl_snd | apply kept_forEach | split))

@[simp] theorem kept_State_hostStage {s0_ : State} (s : State) (off : Nat) (v : Word) (by_ : Stager) (h_ : Kept s0_ s)  : Kept s0_ (State.hostStage s off v by_) := by
  first
    | (simp (maxDischargeDepth := 40) [State.hostStage, h_]; done)
    | (unfold State.hostStage; (try dsimp only); repeat' (first | (simp (maxDischargeDepth := 40) [h_]; done) | intro _ | apply kept_foldl | apply kept_foldl_fst | apply kept_foldl_snd | apply kept_forEach | split))

@[simp] theorem kept_State_thermStage {s0_ : State} (s : State) (lim : Bool) (v : Word) (by_ : Stager) (h_ : Kept s0_ s)  : Kept s0_ (State.thermStage s lim v by_) := by
  first
    | (simp (maxDischargeDepth := 40) [State.thermStage, h_]; done)
    | (unfold State.thermStage; (try dsimp only); repeat' (first | (simp (maxDischargeDepth := 40) [h_]; done) | intro _ | apply kept_foldl | apply kept_foldl_fst | apply kept_foldl_snd | apply kept_forEach | split))

end Sys2Proof.Machine
end

