-- ==== Sys2Proof/Laws/KeptRingRegs.lean ====
section
/-! SUPPORT. What the operations of Machine/RingRegs.lean keep (Laws/Kept.lean). -/

set_option linter.unusedSimpArgs false
set_option linter.unusedVariables false

namespace Sys2Proof.Machine

@[simp] theorem kept_State_updCr {s0_ : State} (s : State) (i : Nat) (f : Ring → Ring) (h_ : Kept s0_ s)  : Kept s0_ (State.updCr s i f) := by
  first
    | (simp (maxDischargeDepth := 40) [State.updCr, h_]; done)
    | (unfold State.updCr; (try dsimp only); repeat' (first | (simp (maxDischargeDepth := 40) [h_]; done) | intro _ | apply kept_foldl | apply kept_foldl_fst | apply kept_foldl_snd | apply kept_forEach | split))

@[simp] theorem kept_State_updPr {s0_ : State} (s : State) (p : Nat) (f : Ring → Ring) (h_ : Kept s0_ s)  : Kept s0_ (State.updPr s p f) := by
  first
    | (simp (maxDischargeDepth := 40) [State.updPr, h_]; done)
    | (unfold State.updPr; (try dsimp only); repeat' (first | (simp (maxDischargeDepth := 40) [h_]; done) | intro _ | apply kept_foldl | apply kept_foldl_fst | apply kept_foldl_snd | apply kept_forEach | split))

@[simp] theorem kept_State_setIntake {s0_ : State} (s : State) (i : Nat) (l : List Desc) (h_ : Kept s0_ s)  : Kept s0_ (State.setIntake s i l) := by
  first
    | (simp (maxDischargeDepth := 40) [State.setIntake, h_]; done)
    | (unfold State.setIntake; (try dsimp only); repeat' (first | (simp (maxDischargeDepth := 40) [h_]; done) | intro _ | apply kept_foldl | apply kept_foldl_fst | apply kept_foldl_snd | apply kept_forEach | split))

@[simp] theorem kept_State_issueFetch {s0_ : State} (s : State) (i : Nat) (h_ : Kept s0_ s)  : Kept s0_ (State.issueFetch s i) := by
  first
    | (simp (maxDischargeDepth := 40) [State.issueFetch, h_]; done)
    | (unfold State.issueFetch; (try dsimp only); repeat' (first | (simp (maxDischargeDepth := 40) [h_]; done) | intro _ | apply kept_foldl | apply kept_foldl_fst | apply kept_foldl_snd | apply kept_forEach | split))

@[simp] theorem kept_State_issueFetches {s0_ : State} (s : State) (h_ : Kept s0_ s)  : Kept s0_ (State.issueFetches s) := by
  first
    | (simp (maxDischargeDepth := 40) [State.issueFetches, h_]; done)
    | (unfold State.issueFetches; (try dsimp only); repeat' (first | (simp (maxDischargeDepth := 40) [h_]; done) | intro _ | apply kept_foldl | apply kept_foldl_fst | apply kept_foldl_snd | apply kept_forEach | split))

@[simp] theorem kept_State_tailWrite {s0_ : State} (s : State) (i : Nat) (new : Nat) (h_ : Kept s0_ s)  : Kept s0_ (State.tailWrite s i new) := by
  first
    | (simp (maxDischargeDepth := 40) [State.tailWrite, h_]; done)
    | (unfold State.tailWrite; (try dsimp only); repeat' (first | (simp (maxDischargeDepth := 40) [h_]; done) | intro _ | apply kept_foldl | apply kept_foldl_fst | apply kept_foldl_snd | apply kept_forEach | split))

@[simp] theorem kept_State_headWrite {s0_ : State} (s : State) (p : Nat) (new : Nat) (h_ : Kept s0_ s)  : Kept s0_ (State.headWrite s p new) := by
  first
    | (simp (maxDischargeDepth := 40) [State.headWrite, h_]; done)
    | (unfold State.headWrite; (try dsimp only); repeat' (first | (simp (maxDischargeDepth := 40) [h_]; done) | intro _ | apply kept_foldl | apply kept_foldl_fst | apply kept_foldl_snd | apply kept_forEach | split))

@[simp] theorem kept_State_flushRing {s0_ : State} (s : State) (i : Nat) (h_ : Kept s0_ s)  : Kept s0_ (State.flushRing s i) := by
  first
    | (simp (maxDischargeDepth := 40) [State.flushRing, h_]; done)
    | (unfold State.flushRing; (try dsimp only); repeat' (first | (simp (maxDischargeDepth := 40) [h_]; done) | intro _ | apply kept_foldl | apply kept_foldl_fst | apply kept_foldl_snd | apply kept_forEach | split))

@[simp] theorem kept_State_ringOff {s0_ : State} (s : State) (obj : Nat) (stopped : Bool) (h_ : Kept s0_ s)  : Kept s0_ (State.ringOff s obj stopped) := by
  first
    | (simp (maxDischargeDepth := 40) [State.ringOff, h_]; done)
    | (unfold State.ringOff; (try dsimp only); repeat' (first | (simp (maxDischargeDepth := 40) [h_]; done) | intro _ | apply kept_foldl | apply kept_foldl_fst | apply kept_foldl_snd | apply kept_forEach | split))

@[simp] theorem kept_State_updRing {s0_ : State} (s : State) (obj : Nat) (f : Ring → Ring) (h_ : Kept s0_ s)  : Kept s0_ (State.updRing s obj f) := by
  first
    | (simp (maxDischargeDepth := 40) [State.updRing, h_]; done)
    | (unfold State.updRing; (try dsimp only); repeat' (first | (simp (maxDischargeDepth := 40) [h_]; done) | intro _ | apply kept_foldl | apply kept_foldl_fst | apply kept_foldl_snd | apply kept_forEach | split))

@[simp] theorem kept_State_baseWrite {s0_ : State} (s : State) (obj : Nat) (hi : Bool) (v : Word) (h_ : Kept s0_ s)  : Kept s0_ (State.baseWrite s obj hi v) := by
  first
    | (simp (maxDischargeDepth := 40) [State.baseWrite, h_]; done)
    | (unfold State.baseWrite; (try dsimp only); repeat' (first | (simp (maxDischargeDepth := 40) [h_]; done) | intro _ | apply kept_foldl | apply kept_foldl_fst | apply kept_foldl_snd | apply kept_forEach | split))

@[simp] theorem kept_State_cfgWrite {s0_ : State} (s : State) (obj : Nat) (v : Word) (h_ : Kept s0_ s)  : Kept s0_ (State.cfgWrite s obj v) := by
  first
    | (simp (maxDischargeDepth := 40) [State.cfgWrite, h_]; done)
    | (unfold State.cfgWrite; (try dsimp only); repeat' (first | (simp (maxDischargeDepth := 40) [h_]; done) | intro _ | apply kept_foldl | apply kept_foldl_fst | apply kept_foldl_snd | apply kept_forEach | split))

@[simp] theorem kept_State_ringCtrlWrite {s0_ : State} (s : State) (v : Word) (h_ : Kept s0_ s)  : Kept s0_ (State.ringCtrlWrite s v) := by
  first
    | (simp (maxDischargeDepth := 40) [State.ringCtrlWrite, h_]; done)
    | (unfold State.ringCtrlWrite; (try dsimp only); repeat' (first | (simp (maxDischargeDepth := 40) [h_]; done) | intro _ | apply kept_foldl | apply kept_foldl_fst | apply kept_foldl_snd | apply kept_forEach | split))

@[simp] theorem kept_State_signalVec {s0_ : State} (s : State) (v : Nat) (now : Bool) (h_ : Kept s0_ s)  : Kept s0_ (State.signalVec s v now) := by
  first
    | (simp (maxDischargeDepth := 40) [State.signalVec, h_]; done)
    | (unfold State.signalVec; (try dsimp only); repeat' (first | (simp (maxDischargeDepth := 40) [h_]; done) | intro _ | apply kept_foldl | apply kept_foldl_fst | apply kept_foldl_snd | apply kept_forEach | split))

@[simp] theorem kept_execIntHoldEnd {s0_ : State} (s : State) (h_ : Kept s0_ s)  : OutKept s0_ (execIntHoldEnd s) := by
  first
    | (simp (maxDischargeDepth := 40) [execIntHoldEnd, h_]; done)
    | (unfold execIntHoldEnd; (try dsimp only); repeat' (first | (simp (maxDischargeDepth := 40) [h_]; done) | intro _ | apply kept_foldl | apply kept_foldl_fst | apply kept_foldl_snd | apply kept_forEach | split))

@[simp] theorem kept_State_writeEntry {s0_ : State} (s : State) (addr : Nat) (k : Nat) (l : List Word) (h_ : Kept s0_ s)  : Kept s0_ (State.writeEntry s addr k l) := by
  first
    | (simp (maxDischargeDepth := 40) [State.writeEntry, h_]; done)
    | (unfold State.writeEntry; (try dsimp only); repeat' (first | (simp (maxDischargeDepth := 40) [h_]; done) | intro _ | apply kept_foldl | apply kept_foldl_fst | apply kept_foldl_snd | apply kept_forEach | split))

@[simp] theorem kept_State_produce {s0_ : State} (s : State) (p : Nat) (k : Nat) (f : Nat → List Word) (h_ : Kept s0_ s)  : Kept s0_ (State.produce s p k f) := by
  first
    | (simp (maxDischargeDepth := 40) [State.produce, h_]; done)
    | (unfold State.produce; (try dsimp only); repeat' (first | (simp (maxDischargeDepth := 40) [h_]; done) | intro _ | apply kept_foldl | apply kept_foldl_fst | apply kept_foldl_snd | apply kept_forEach | split))

@[simp] theorem kept_State_complRefill {s0_ : State} (s : State) (h_ : Kept s0_ s)  : Kept s0_ (State.complRefill s) := by
  first
    | (simp (maxDischargeDepth := 40) [State.complRefill, h_]; done)
    | (unfold State.complRefill; (try dsimp only); repeat' (first | (simp (maxDischargeDepth := 40) [h_]; done) | intro _ | apply kept_foldl | apply kept_foldl_fst | apply kept_foldl_snd | apply kept_forEach | split))

@[simp] theorem kept_State_writeCompl {s0_ : State} (s : State) (room : Bool) (h_ : Kept s0_ s)  : Kept s0_ (State.writeCompl s room) := by
  first
    | (simp (maxDischargeDepth := 40) [State.writeCompl, h_]; done)
    | (unfold State.writeCompl; (try dsimp only); repeat' (first | (simp (maxDischargeDepth := 40) [h_]; done) | intro _ | apply kept_foldl | apply kept_foldl_fst | apply kept_foldl_snd | apply kept_forEach | split))

@[simp] theorem kept_State_writeTlm {s0_ : State} (s : State) (room : Bool) (h_ : Kept s0_ s)  : Kept s0_ (State.writeTlm s room) := by
  first
    | (simp (maxDischargeDepth := 40) [State.writeTlm, h_]; done)
    | (unfold State.writeTlm; (try dsimp only); repeat' (first | (simp (maxDischargeDepth := 40) [h_]; done) | intro _ | apply kept_foldl | apply kept_foldl_fst | apply kept_foldl_snd | apply kept_forEach | split))

@[simp] theorem kept_State_writeEvent {s0_ : State} (s : State) (room : Bool) (h_ : Kept s0_ s)  : Kept s0_ (State.writeEvent s room) := by
  first
    | (simp (maxDischargeDepth := 40) [State.writeEvent, h_]; done)
    | (unfold State.writeEvent; (try dsimp only); repeat' (first | (simp (maxDischargeDepth := 40) [h_]; done) | intro _ | apply kept_foldl | apply kept_foldl_fst | apply kept_foldl_snd | apply kept_forEach | split))

@[simp] theorem kept_execHostEntryWrite {s0_ : State} (p : ProdIx) (s : State) (h_ : Kept s0_ s)  : OutKept s0_ (execHostEntryWrite p s) := by
  first
    | (simp (maxDischargeDepth := 40) [execHostEntryWrite, h_]; done)
    | (unfold execHostEntryWrite; (try dsimp only); repeat' (first | (simp (maxDischargeDepth := 40) [h_]; done) | intro _ | apply kept_foldl | apply kept_foldl_fst | apply kept_foldl_snd | apply kept_forEach | split))

@[simp] theorem kept_execTelemetryRecord {s0_ : State} (s : State) (h_ : Kept s0_ s)  : OutKept s0_ (execTelemetryRecord s) := by
  first
    | (simp (maxDischargeDepth := 40) [execTelemetryRecord, h_]; done)
    | (unfold execTelemetryRecord; (try dsimp only); repeat' (first | (simp (maxDischargeDepth := 40) [h_]; done) | intro _ | apply kept_foldl | apply kept_foldl_fst | apply kept_foldl_snd | apply kept_forEach | split))

@[simp] theorem kept_execDescriptorFetched {s0_ : State} (i : RingIx) (words : List Word) (s : State) (h_ : Kept s0_ s)  : OutKept s0_ (execDescriptorFetched i words s) := by
  first
    | (simp (maxDischargeDepth := 40) [execDescriptorFetched, h_]; done)
    | (unfold execDescriptorFetched; (try dsimp only); repeat' (first | (simp (maxDischargeDepth := 40) [h_]; done) | intro _ | apply kept_foldl | apply kept_foldl_fst | apply kept_foldl_snd | apply kept_forEach | split))

@[simp] theorem kept_execHostMemError {s0_ : State} (obj : RingObj) (write : Bool) (s : State) (h_ : Kept s0_ s)  : OutKept s0_ (execHostMemError obj write s) := by
  first
    | (simp (maxDischargeDepth := 40) [execHostMemError, h_]; done)
    | (unfold execHostMemError; (try dsimp only); repeat' (first | (simp (maxDischargeDepth := 40) [h_]; done) | intro _ | apply kept_foldl | apply kept_foldl_fst | apply kept_foldl_snd | apply kept_forEach | split))

end Sys2Proof.Machine
end

