-- ==== Sys2Proof/Laws/KeptWindow.lean ====
section
/-! SUPPORT. What the operations of Machine/Window.lean keep (Laws/Kept.lean). -/

set_option linter.unusedSimpArgs false
set_option linter.unusedVariables false

namespace Sys2Proof.Machine

@[simp] theorem kept_State_latchHi {s0_ : State} (s : State) (off : Nat) (h_ : Kept s0_ s)  : Kept s0_ (State.latchHi s off) := by
  first
    | (simp (maxDischargeDepth := 40) [State.latchHi, h_]; done)
    | (unfold State.latchHi; (try dsimp only); repeat' (first | (simp (maxDischargeDepth := 40) [h_]; done) | intro _ | apply kept_foldl | apply kept_foldl_fst | apply kept_foldl_snd | apply kept_forEach | split))

@[simp] theorem kept_State_clearDscStat {s0_ : State} (s : State) (n : Nat) (h_ : Kept s0_ s)  : Kept s0_ (State.clearDscStat s n) := by
  first
    | (simp (maxDischargeDepth := 40) [State.clearDscStat, h_]; done)
    | (unfold State.clearDscStat; (try dsimp only); repeat' (first | (simp (maxDischargeDepth := 40) [h_]; done) | intro _ | apply kept_foldl | apply kept_foldl_fst | apply kept_foldl_snd | apply kept_forEach | split))

@[simp] theorem kept_State_clearRc {s0_ : State} (s : State) (off : Nat) (h_ : Kept s0_ s)  : Kept s0_ (State.clearRc s off) := by
  first
    | (simp (maxDischargeDepth := 40) [State.clearRc, h_]; done)
    | (unfold State.clearRc; (try dsimp only); repeat' (first | (simp (maxDischargeDepth := 40) [h_]; done) | intro _ | apply kept_foldl | apply kept_foldl_fst | apply kept_foldl_snd | apply kept_forEach | split))

@[simp] theorem kept_State_answer {s0_ : State} (s : State) (w : Word) (off : Nat) (size : Nat) (h_ : Kept s0_ s)  : Kept s0_ (State.answer s w off size) := by
  first
    | (simp (maxDischargeDepth := 40) [State.answer, h_]; done)
    | (unfold State.answer; (try dsimp only); repeat' (first | (simp (maxDischargeDepth := 40) [h_]; done) | intro _ | apply kept_foldl | apply kept_foldl_fst | apply kept_foldl_snd | apply kept_forEach | split))

@[simp] theorem kept_State_readNow {s0_ : State} (s : State) (off : Nat) (size : Nat) (h_ : Kept s0_ s)  : Kept s0_ (State.readNow s off size) := by
  first
    | (simp (maxDischargeDepth := 40) [State.readNow, h_]; done)
    | (unfold State.readNow; (try dsimp only); repeat' (first | (simp (maxDischargeDepth := 40) [h_]; done) | intro _ | apply kept_foldl | apply kept_foldl_fst | apply kept_foldl_snd | apply kept_forEach | split))

@[simp] theorem kept_State_unstage {s0_ : State} (s : State) (key : StageKey) (h_ : Kept s0_ s)  : Kept s0_ (State.unstage s key) := by
  first
    | (simp (maxDischargeDepth := 40) [State.unstage, h_]; done)
    | (unfold State.unstage; (try dsimp only); repeat' (first | (simp (maxDischargeDepth := 40) [h_]; done) | intro _ | apply kept_foldl | apply kept_foldl_fst | apply kept_foldl_snd | apply kept_forEach | split))

@[simp] theorem kept_State_stagedWrite {s0_ : State} (s : State) (off : Nat) (v : Word) (h_ : Kept s0_ s)  : Kept s0_ (State.stagedWrite s off v) := by
  first
    | (simp (maxDischargeDepth := 40) [State.stagedWrite, h_]; done)
    | (unfold State.stagedWrite; (try dsimp only); repeat' (first | (simp (maxDischargeDepth := 40) [h_]; done) | intro _ | apply kept_foldl | apply kept_foldl_fst | apply kept_foldl_snd | apply kept_forEach | split))

@[simp] theorem kept_State_ringWrite {s0_ : State} (s : State) (off : Nat) (v : Word) (h_ : Kept s0_ s)  : Kept s0_ (State.ringWrite s off v) := by
  first
    | (simp (maxDischargeDepth := 40) [State.ringWrite, h_]; done)
    | (unfold State.ringWrite; (try dsimp only); repeat' (first | (simp (maxDischargeDepth := 40) [h_]; done) | intro _ | apply kept_foldl | apply kept_foldl_fst | apply kept_foldl_snd | apply kept_forEach | split))

@[simp] theorem kept_State_fsrAsk {s0_ : State} (s : State) (h_ : Kept s0_ s)  : Kept s0_ (State.fsrAsk s) := by
  first
    | (simp (maxDischargeDepth := 40) [State.fsrAsk, h_]; done)
    | (unfold State.fsrAsk; (try dsimp only); repeat' (first | (simp (maxDischargeDepth := 40) [h_]; done) | intro _ | apply kept_foldl | apply kept_foldl_fst | apply kept_foldl_snd | apply kept_forEach | split))

@[simp] theorem kept_State_fsrWrite {s0_ : State} (s : State) (v : Word) (h_ : Kept s0_ s)  : Kept s0_ (State.fsrWrite s v) := by
  first
    | (simp (maxDischargeDepth := 40) [State.fsrWrite, h_]; done)
    | (unfold State.fsrWrite; (try dsimp only); repeat' (first | (simp (maxDischargeDepth := 40) [h_]; done) | intro _ | apply kept_foldl | apply kept_foldl_fst | apply kept_foldl_snd | apply kept_forEach | split))

@[simp] theorem kept_State_ledgerWrite {s0_ : State} (s : State) (off : Nat) (v : Word) (h_ : Kept s0_ s)  : Kept s0_ (State.ledgerWrite s off v) := by
  first
    | (simp (maxDischargeDepth := 40) [State.ledgerWrite, h_]; done)
    | (unfold State.ledgerWrite; (try dsimp only); repeat' (first | (simp (maxDischargeDepth := 40) [h_]; done) | intro _ | apply kept_foldl | apply kept_foldl_fst | apply kept_foldl_snd | apply kept_forEach | split))

@[simp] theorem kept_State_lawRegWrite {s0_ : State} (s : State) (off : Nat) (v : Word) (h_ : Kept s0_ s)  : Kept s0_ (State.lawRegWrite s off v) := by
  first
    | (simp (maxDischargeDepth := 40) [State.lawRegWrite, h_]; done)
    | (unfold State.lawRegWrite; (try dsimp only); repeat' (first | (simp (maxDischargeDepth := 40) [h_]; done) | intro _ | apply kept_foldl | apply kept_foldl_fst | apply kept_foldl_snd | apply kept_forEach | split))

@[simp] theorem kept_State_engineWrite {s0_ : State} (s : State) (off : Nat) (v : Word) (h_ : Kept s0_ s)  : Kept s0_ (State.engineWrite s off v) := by
  first
    | (simp (maxDischargeDepth := 40) [State.engineWrite, h_]; done)
    | (unfold State.engineWrite; (try dsimp only); repeat' (first | (simp (maxDischargeDepth := 40) [h_]; done) | intro _ | apply kept_foldl | apply kept_foldl_fst | apply kept_foldl_snd | apply kept_forEach | split))

@[simp] theorem kept_State_updStaging {s0_ : State} (s : State) (f : SeqSet → SeqSet) (h_ : Kept s0_ s)  : Kept s0_ (State.updStaging s f) := by
  first
    | (simp (maxDischargeDepth := 40) [State.updStaging, h_]; done)
    | (unfold State.updStaging; (try dsimp only); repeat' (first | (simp (maxDischargeDepth := 40) [h_]; done) | intro _ | apply kept_foldl | apply kept_foldl_fst | apply kept_foldl_snd | apply kept_forEach | split))

@[simp] theorem kept_State_seqCtrlWrite {s0_ : State} (s : State) (v : Word) (h_ : Kept s0_ s)  : Kept s0_ (State.seqCtrlWrite s v) := by
  first
    | (simp (maxDischargeDepth := 40) [State.seqCtrlWrite, h_]; done)
    | (unfold State.seqCtrlWrite; (try dsimp only); repeat' (first | (simp (maxDischargeDepth := 40) [h_]; done) | intro _ | apply kept_foldl | apply kept_foldl_fst | apply kept_foldl_snd | apply kept_forEach | split))

@[simp] theorem kept_State_spEnWrite {s0_ : State} (s : State) (i : Nat) (v0 : Word) (h_ : Kept s0_ s)  : Kept s0_ (State.spEnWrite s i v0) := by
  first
    | (simp (maxDischargeDepth := 40) [State.spEnWrite, h_]; done)
    | (unfold State.spEnWrite; (try dsimp only); repeat' (first | (simp (maxDischargeDepth := 40) [h_]; done) | intro _ | apply kept_foldl | apply kept_foldl_fst | apply kept_foldl_snd | apply kept_forEach | split))

@[simp] theorem kept_State_senseWrite {s0_ : State} (s : State) (off : Nat) (v : Word) (h_ : Kept s0_ s)  : Kept s0_ (State.senseWrite s off v) := by
  first
    | (simp (maxDischargeDepth := 40) [State.senseWrite, h_]; done)
    | (unfold State.senseWrite; (try dsimp only); repeat' (first | (simp (maxDischargeDepth := 40) [h_]; done) | intro _ | apply kept_foldl | apply kept_foldl_fst | apply kept_foldl_snd | apply kept_forEach | split))

@[simp] theorem kept_State_setReact {s0_ : State} (s : State) (src : Nat) (v : Nat) (h_ : Kept s0_ s)  : Kept s0_ (State.setReact s src v) := by
  first
    | (simp (maxDischargeDepth := 40) [State.setReact, h_]; done)
    | (unfold State.setReact; (try dsimp only); repeat' (first | (simp (maxDischargeDepth := 40) [h_]; done) | intro _ | apply kept_foldl | apply kept_foldl_fst | apply kept_foldl_snd | apply kept_forEach | split))

@[simp] theorem kept_State_clearPend {s0_ : State} (s : State) (mask : Nat) (h_ : Kept s0_ s)  : Kept s0_ (State.clearPend s mask) := by
  first
    | (simp (maxDischargeDepth := 40) [State.clearPend, h_]; done)
    | (unfold State.clearPend; (try dsimp only); repeat' (first | (simp (maxDischargeDepth := 40) [h_]; done) | intro _ | apply kept_foldl | apply kept_foldl_fst | apply kept_foldl_snd | apply kept_forEach | split))

@[simp] theorem kept_State_fltCtrlWrite {s0_ : State} (s : State) (v : Word) (h_ : Kept s0_ s)  : Kept s0_ (State.fltCtrlWrite s v) := by
  first
    | (simp (maxDischargeDepth := 40) [State.fltCtrlWrite, h_]; done)
    | (unfold State.fltCtrlWrite; (try dsimp only); repeat' (first | (simp (maxDischargeDepth := 40) [h_]; done) | intro _ | apply kept_foldl | apply kept_foldl_fst | apply kept_foldl_snd | apply kept_forEach | split))

@[simp] theorem kept_State_faultWrite {s0_ : State} (s : State) (off : Nat) (v : Word) (h_ : Kept s0_ s)  : Kept s0_ (State.faultWrite s off v) := by
  first
    | (simp (maxDischargeDepth := 40) [State.faultWrite, h_]; done)
    | (unfold State.faultWrite; (try dsimp only); repeat' (first | (simp (maxDischargeDepth := 40) [h_]; done) | intro _ | apply kept_foldl | apply kept_foldl_fst | apply kept_foldl_snd | apply kept_forEach | split))

@[simp] theorem kept_State_chainWrite {s0_ : State} (s : State) (off : Nat) (v : Word) (h_ : Kept s0_ s)  : Kept s0_ (State.chainWrite s off v) := by
  first
    | (simp (maxDischargeDepth := 40) [State.chainWrite, h_]; done)
    | (unfold State.chainWrite; (try dsimp only); repeat' (first | (simp (maxDischargeDepth := 40) [h_]; done) | intro _ | apply kept_foldl | apply kept_foldl_fst | apply kept_foldl_snd | apply kept_forEach | split))

@[simp] theorem kept_State_mboxCmdWrite {s0_ : State} (s : State) (v : Word) (h_ : Kept s0_ s)  : Kept s0_ (State.mboxCmdWrite s v) := by
  first
    | (simp (maxDischargeDepth := 40) [State.mboxCmdWrite, h_]; done)
    | (unfold State.mboxCmdWrite; (try dsimp only); repeat' (first | (simp (maxDischargeDepth := 40) [h_]; done) | intro _ | apply kept_foldl | apply kept_foldl_fst | apply kept_foldl_snd | apply kept_forEach | split))

@[simp] theorem kept_State_avsCtrlWrite {s0_ : State} (s : State) (v : Word) (h_ : Kept s0_ s)  : Kept s0_ (State.avsCtrlWrite s v) := by
  first
    | (simp (maxDischargeDepth := 40) [State.avsCtrlWrite, h_]; done)
    | (unfold State.avsCtrlWrite; (try dsimp only); repeat' (first | (simp (maxDischargeDepth := 40) [h_]; done) | intro _ | apply kept_foldl | apply kept_foldl_fst | apply kept_foldl_snd | apply kept_forEach | split))

@[simp] theorem kept_State_wardenWrite {s0_ : State} (s : State) (off : Nat) (v : Word) (h_ : Kept s0_ s)  : Kept s0_ (State.wardenWrite s off v) := by
  first
    | (simp (maxDischargeDepth := 40) [State.wardenWrite, h_]; done)
    | (unfold State.wardenWrite; (try dsimp only); repeat' (first | (simp (maxDischargeDepth := 40) [h_]; done) | intro _ | apply kept_foldl | apply kept_foldl_fst | apply kept_foldl_snd | apply kept_forEach | split))

@[simp] theorem kept_State_ftWrite {s0_ : State} (s : State) (off : Nat) (v : Word) (h_ : Kept s0_ s)  : Kept s0_ (State.ftWrite s off v) := by
  first
    | (simp (maxDischargeDepth := 40) [State.ftWrite, h_]; done)
    | (unfold State.ftWrite; (try dsimp only); repeat' (first | (simp (maxDischargeDepth := 40) [h_]; done) | intro _ | apply kept_foldl | apply kept_foldl_fst | apply kept_foldl_snd | apply kept_forEach | split))

@[simp] theorem kept_State_writeNow {s0_ : State} (s : State) (off : Nat) (v : Word) (h_ : Kept s0_ s)  : Kept s0_ (State.writeNow s off v) := by
  first
    | (simp (maxDischargeDepth := 40) [State.writeNow, h_]; done)
    | (unfold State.writeNow; (try dsimp only); repeat' (first | (simp (maxDischargeDepth := 40) [h_]; done) | intro _ | apply kept_foldl | apply kept_foldl_fst | apply kept_foldl_snd | apply kept_forEach | split))

@[simp] theorem kept_State_access {s0_ s : State} (a : Held) (h_ : Kept s0_ s) : Kept s0_ (s.access a) := by
  cases a <;> simp [State.access, h_]

@[simp] theorem kept_State_hostAccess {s0_ : State} (s : State) (a : Held) (h_ : Kept s0_ s)  : Kept s0_ (State.hostAccess s a) := by
  first
    | (simp (maxDischargeDepth := 40) [State.hostAccess, h_]; done)
    | (unfold State.hostAccess; (try dsimp only); repeat' (first | (simp (maxDischargeDepth := 40) [h_]; done) | intro _ | apply kept_foldl | apply kept_foldl_fst | apply kept_foldl_snd | apply kept_forEach | split))

@[simp] theorem kept_State_serveHeld {s0_ : State} (s : State) (h_ : Kept s0_ s)  : Kept s0_ (State.serveHeld s) := by
  first
    | (simp (maxDischargeDepth := 40) [State.serveHeld, h_]; done)
    | (unfold State.serveHeld; (try dsimp only); repeat' (first | (simp (maxDischargeDepth := 40) [h_]; done) | intro _ | apply kept_foldl | apply kept_foldl_fst | apply kept_foldl_snd | apply kept_forEach | split))

@[simp] theorem kept_State_hostWriteReg {s0_ : State} (s : State) (off : Nat) (v : Word) (h_ : Kept s0_ s)  : Kept s0_ (State.hostWriteReg s off v) := by
  first
    | (simp (maxDischargeDepth := 40) [State.hostWriteReg, h_]; done)
    | (unfold State.hostWriteReg; (try dsimp only); repeat' (first | (simp (maxDischargeDepth := 40) [h_]; done) | intro _ | apply kept_foldl | apply kept_foldl_fst | apply kept_foldl_snd | apply kept_forEach | split))

@[simp] theorem kept_execRegisterWrite {s0_ : State} (off : BitVec 16) (v : Word) (s : State) (h_ : Kept s0_ s)  : OutKept s0_ (execRegisterWrite off v s) := by
  first
    | (simp (maxDischargeDepth := 40) [execRegisterWrite, h_]; done)
    | (unfold execRegisterWrite; (try dsimp only); repeat' (first | (simp (maxDischargeDepth := 40) [h_]; done) | intro _ | apply kept_foldl | apply kept_foldl_fst | apply kept_foldl_snd | apply kept_forEach | split))

@[simp] theorem kept_execRcFieldRead {s0_ : State} (off : BitVec 16) (size : Nat) (s : State) (h_ : Kept s0_ s)  : OutKept s0_ (execRcFieldRead off size s) := by
  first
    | (simp (maxDischargeDepth := 40) [execRcFieldRead, h_]; done)
    | (unfold execRcFieldRead; (try dsimp only); repeat' (first | (simp (maxDischargeDepth := 40) [h_]; done) | intro _ | apply kept_foldl | apply kept_foldl_fst | apply kept_foldl_snd | apply kept_forEach | split))

@[simp] theorem kept_execWriteNotWhole {s0_ : State} (off : BitVec 16) (size : Nat) (s : State) (h_ : Kept s0_ s)  : OutKept s0_ (execWriteNotWhole off size s) := by
  first
    | (simp (maxDischargeDepth := 40) [execWriteNotWhole, h_]; done)
    | (unfold execWriteNotWhole; (try dsimp only); repeat' (first | (simp (maxDischargeDepth := 40) [h_]; done) | intro _ | apply kept_foldl | apply kept_foldl_fst | apply kept_foldl_snd | apply kept_forEach | split))

@[simp] theorem kept_execUnassignedAccess {s0_ : State} (off : BitVec 16) (write : Bool) (s : State) (h_ : Kept s0_ s)  : OutKept s0_ (execUnassignedAccess off write s) := by
  first
    | (simp (maxDischargeDepth := 40) [execUnassignedAccess, h_]; done)
    | (unfold execUnassignedAccess; (try dsimp only); repeat' (first | (simp (maxDischargeDepth := 40) [h_]; done) | intro _ | apply kept_foldl | apply kept_foldl_fst | apply kept_foldl_snd | apply kept_forEach | split))

@[simp] theorem kept_execFtLockedAccess {s0_ : State} (off : BitVec 16) (write : Bool) (s : State) (h_ : Kept s0_ s)  : OutKept s0_ (execFtLockedAccess off write s) := by
  first
    | (simp (maxDischargeDepth := 40) [execFtLockedAccess, h_]; done)
    | (unfold execFtLockedAccess; (try dsimp only); repeat' (first | (simp (maxDischargeDepth := 40) [h_]; done) | intro _ | apply kept_foldl | apply kept_foldl_fst | apply kept_foldl_snd | apply kept_forEach | split))

@[simp] theorem kept_execSplitLoRead {s0_ : State} (p : SplitPair) (s : State) (h_ : Kept s0_ s)  : OutKept s0_ (execSplitLoRead p s) := by
  first
    | (simp (maxDischargeDepth := 40) [execSplitLoRead, h_]; done)
    | (unfold execSplitLoRead; (try dsimp only); repeat' (first | (simp (maxDischargeDepth := 40) [h_]; done) | intro _ | apply kept_foldl | apply kept_foldl_fst | apply kept_foldl_snd | apply kept_forEach | split))

@[simp] theorem kept_execCrDoorbell {s0_ : State} (r : RingIx) (tail : BitVec 16) (s : State) (h_ : Kept s0_ s)  : OutKept s0_ (execCrDoorbell r tail s) := by
  first
    | (simp (maxDischargeDepth := 40) [execCrDoorbell, h_]; done)
    | (unfold execCrDoorbell; (try dsimp only); repeat' (first | (simp (maxDischargeDepth := 40) [h_]; done) | intro _ | apply kept_foldl | apply kept_foldl_fst | apply kept_foldl_snd | apply kept_forEach | split))

@[simp] theorem kept_execPrDoorbell {s0_ : State} (p : ProdIx) (head : BitVec 16) (s : State) (h_ : Kept s0_ s)  : OutKept s0_ (execPrDoorbell p head s) := by
  first
    | (simp (maxDischargeDepth := 40) [execPrDoorbell, h_]; done)
    | (unfold execPrDoorbell; (try dsimp only); repeat' (first | (simp (maxDischargeDepth := 40) [h_]; done) | intro _ | apply kept_foldl | apply kept_foldl_fst | apply kept_foldl_snd | apply kept_forEach | split))

@[simp] theorem kept_execRingEnable {s0_ : State} (r : RingObj) (v : Word) (s : State) (h_ : Kept s0_ s)  : OutKept s0_ (execRingEnable r v s) := by
  first
    | (simp (maxDischargeDepth := 40) [execRingEnable, h_]; done)
    | (unfold execRingEnable; (try dsimp only); repeat' (first | (simp (maxDischargeDepth := 40) [h_]; done) | intro _ | apply kept_foldl | apply kept_foldl_fst | apply kept_foldl_snd | apply kept_forEach | split))

@[simp] theorem kept_execRingDisable {s0_ : State} (r : RingObj) (v : Word) (s : State) (h_ : Kept s0_ s)  : OutKept s0_ (execRingDisable r v s) := by
  first
    | (simp (maxDischargeDepth := 40) [execRingDisable, h_]; done)
    | (unfold execRingDisable; (try dsimp only); repeat' (first | (simp (maxDischargeDepth := 40) [h_]; done) | intro _ | apply kept_foldl | apply kept_foldl_fst | apply kept_foldl_snd | apply kept_forEach | split))

@[simp] theorem kept_execRingArm {s0_ : State} (s : State) (h_ : Kept s0_ s)  : OutKept s0_ (execRingArm s) := by
  first
    | (simp (maxDischargeDepth := 40) [execRingArm, h_]; done)
    | (unfold execRingArm; (try dsimp only); repeat' (first | (simp (maxDischargeDepth := 40) [h_]; done) | intro _ | apply kept_foldl | apply kept_foldl_fst | apply kept_foldl_snd | apply kept_forEach | split))

@[simp] theorem kept_execLawStage {s0_ : State} (d : BitVec 6) (s : State) (h_ : Kept s0_ s)  : OutKept s0_ (execLawStage d s) := by
  first
    | (simp (maxDischargeDepth := 40) [execLawStage, h_]; done)
    | (unfold execLawStage; (try dsimp only); repeat' (first | (simp (maxDischargeDepth := 40) [h_]; done) | intro _ | apply kept_foldl | apply kept_foldl_fst | apply kept_foldl_snd | apply kept_forEach | split))

@[simp] theorem kept_execLawCopyActive {s0_ : State} (d : BitVec 6) (s : State) (h_ : Kept s0_ s)  : OutKept s0_ (execLawCopyActive d s) := by
  first
    | (simp (maxDischargeDepth := 40) [execLawCopyActive, h_]; done)
    | (unfold execLawCopyActive; (try dsimp only); repeat' (first | (simp (maxDischargeDepth := 40) [h_]; done) | intro _ | apply kept_foldl | apply kept_foldl_fst | apply kept_foldl_snd | apply kept_forEach | split))

@[simp] theorem kept_execLawCopyStaged {s0_ : State} (d : BitVec 6) (s : State) (h_ : Kept s0_ s)  : OutKept s0_ (execLawCopyStaged d s) := by
  first
    | (simp (maxDischargeDepth := 40) [execLawCopyStaged, h_]; done)
    | (unfold execLawCopyStaged; (try dsimp only); repeat' (first | (simp (maxDischargeDepth := 40) [h_]; done) | intro _ | apply kept_foldl | apply kept_foldl_fst | apply kept_foldl_snd | apply kept_forEach | split))

@[simp] theorem kept_execLawOpRefused {s0_ : State} (d : BitVec 6) (s : State) (h_ : Kept s0_ s)  : OutKept s0_ (execLawOpRefused d s) := by
  first
    | (simp (maxDischargeDepth := 40) [execLawOpRefused, h_]; done)
    | (unfold execLawOpRefused; (try dsimp only); repeat' (first | (simp (maxDischargeDepth := 40) [h_]; done) | intro _ | apply kept_foldl | apply kept_foldl_fst | apply kept_foldl_snd | apply kept_forEach | split))

@[simp] theorem kept_execSnsTrigRegular {s0_ : State} (all : Bool) (conv : BitVec 6) (s : State) (h_ : Kept s0_ s)  : OutKept s0_ (execSnsTrigRegular all conv s) := by
  first
    | (simp (maxDischargeDepth := 40) [execSnsTrigRegular, h_]; done)
    | (unfold execSnsTrigRegular; (try dsimp only); repeat' (first | (simp (maxDischargeDepth := 40) [h_]; done) | intro _ | apply kept_foldl | apply kept_foldl_fst | apply kept_foldl_snd | apply kept_forEach | split))

@[simp] theorem kept_execSnsTrigInjected {s0_ : State} (all : Bool) (conv : BitVec 6) (s : State) (h_ : Kept s0_ s)  : OutKept s0_ (execSnsTrigInjected all conv s) := by
  first
    | (simp (maxDischargeDepth := 40) [execSnsTrigInjected, h_]; done)
    | (unfold execSnsTrigInjected; (try dsimp only); repeat' (first | (simp (maxDischargeDepth := 40) [h_]; done) | intro _ | apply kept_foldl | apply kept_foldl_fst | apply kept_foldl_snd | apply kept_forEach | split))

@[simp] theorem kept_execSeqGo {s0_ : State} (v : Word) (s : State) (h_ : Kept s0_ s)  : OutKept s0_ (execSeqGo v s) := by
  first
    | (simp (maxDischargeDepth := 40) [execSeqGo, h_]; done)
    | (unfold execSeqGo; (try dsimp only); repeat' (first | (simp (maxDischargeDepth := 40) [h_]; done) | intro _ | apply kept_foldl | apply kept_foldl_fst | apply kept_foldl_snd | apply kept_forEach | split))

@[simp] theorem kept_execTallyCapture {s0_ : State} (v : Word) (s : State) (h_ : Kept s0_ s)  : OutKept s0_ (execTallyCapture v s) := by
  first
    | (simp (maxDischargeDepth := 40) [execTallyCapture, h_]; done)
    | (unfold execTallyCapture; (try dsimp only); repeat' (first | (simp (maxDischargeDepth := 40) [h_]; done) | intro _ | apply kept_foldl | apply kept_foldl_fst | apply kept_foldl_snd | apply kept_forEach | split))

@[simp] theorem kept_execTallyClear {s0_ : State} (v : Word) (s : State) (h_ : Kept s0_ s)  : OutKept s0_ (execTallyClear v s) := by
  first
    | (simp (maxDischargeDepth := 40) [execTallyClear, h_]; done)
    | (unfold execTallyClear; (try dsimp only); repeat' (first | (simp (maxDischargeDepth := 40) [h_]; done) | intro _ | apply kept_foldl | apply kept_foldl_fst | apply kept_foldl_snd | apply kept_forEach | split))

@[simp] theorem kept_execSpRestore {s0_ : State} (point : BitVec 13) (s : State) (h_ : Kept s0_ s)  : OutKept s0_ (execSpRestore point s) := by
  first
    | (simp (maxDischargeDepth := 40) [execSpRestore, h_]; done)
    | (unfold execSpRestore; (try dsimp only); repeat' (first | (simp (maxDischargeDepth := 40) [h_]; done) | intro _ | apply kept_foldl | apply kept_foldl_fst | apply kept_foldl_snd | apply kept_forEach | split))

@[simp] theorem kept_execTileCapture {s0_ : State} (v : Word) (s : State) (h_ : Kept s0_ s)  : OutKept s0_ (execTileCapture v s) := by
  first
    | (simp (maxDischargeDepth := 40) [execTileCapture, h_]; done)
    | (unfold execTileCapture; (try dsimp only); repeat' (first | (simp (maxDischargeDepth := 40) [h_]; done) | intro _ | apply kept_foldl | apply kept_foldl_fst | apply kept_foldl_snd | apply kept_forEach | split))

@[simp] theorem kept_execFreeze {s0_ : State} (s : State) (h_ : Kept s0_ s)  : OutKept s0_ (execFreeze s) := by
  first
    | (simp (maxDischargeDepth := 40) [execFreeze, h_]; done)
    | (unfold execFreeze; (try dsimp only); repeat' (first | (simp (maxDischargeDepth := 40) [h_]; done) | intro _ | apply kept_foldl | apply kept_foldl_fst | apply kept_foldl_snd | apply kept_forEach | split))

@[simp] theorem kept_execUnfreeze {s0_ : State} (s : State) (h_ : Kept s0_ s)  : OutKept s0_ (execUnfreeze s) := by
  first
    | (simp (maxDischargeDepth := 40) [execUnfreeze, h_]; done)
    | (unfold execUnfreeze; (try dsimp only); repeat' (first | (simp (maxDischargeDepth := 40) [h_]; done) | intro _ | apply kept_foldl | apply kept_foldl_fst | apply kept_foldl_snd | apply kept_forEach | split))

@[simp] theorem kept_execLoopReq {s0_ : State} (mask : BitVec 8) (s : State) (h_ : Kept s0_ s)  : OutKept s0_ (execLoopReq mask s) := by
  first
    | (simp (maxDischargeDepth := 40) [execLoopReq, h_]; done)
    | (unfold execLoopReq; (try dsimp only); repeat' (first | (simp (maxDischargeDepth := 40) [h_]; done) | intro _ | apply kept_foldl | apply kept_foldl_fst | apply kept_foldl_snd | apply kept_forEach | split))

@[simp] theorem kept_execFsrRequest {s0_ : State} (s : State) (h_ : Kept s0_ s)  : OutKept s0_ (execFsrRequest s) := by
  first
    | (simp (maxDischargeDepth := 40) [execFsrRequest, h_]; done)
    | (unfold execFsrRequest; (try dsimp only); repeat' (first | (simp (maxDischargeDepth := 40) [h_]; done) | intro _ | apply kept_foldl | apply kept_foldl_fst | apply kept_foldl_snd | apply kept_forEach | split))

@[simp] theorem kept_execFaultInject {s0_ : State} (src : SrcIx) (obj : BitVec 16) (s : State) (h_ : Kept s0_ s)  : OutKept s0_ (execFaultInject src obj s) := by
  first
    | (simp (maxDischargeDepth := 40) [execFaultInject, h_]; done)
    | (unfold execFaultInject; (try dsimp only); repeat' (first | (simp (maxDischargeDepth := 40) [h_]; done) | intro _ | apply kept_foldl | apply kept_foldl_fst | apply kept_foldl_snd | apply kept_forEach | split))

end Sys2Proof.Machine
end

