-- ==== Sys2Proof/Laws/KeptHostCmds.lean ====
section
/-! SUPPORT. What the operations of Machine/HostCmds.lean keep (Laws/Kept.lean). -/

set_option linter.unusedSimpArgs false
set_option linter.unusedVariables false

namespace Sys2Proof.Machine

/-- The same of a command's acceptance: of the state it leaves, where it is not refused. -/
def VerdictKept (s : State) : Verdict → Prop
  | .ok t => Kept s t
  | .error _ => True

@[simp] theorem verdictKept_ok {s t : State} : VerdictKept s (.ok t) = Kept s t := rfl
@[simp] theorem verdictKept_error {s : State} (e : Nat × Nat) : VerdictKept s (.error e) = True := rfl
@[simp] theorem verdictKept_refuse {s : State} (n : Nat) : VerdictKept s (refuse n) = True := rfl
theorem kept_of_verdict {s t : State} {v : Verdict} (h : VerdictKept s v) (e : v = .ok t) : Kept s t := by subst e; exact h

@[simp] theorem verdictKept_ite {s : State} {a b : Verdict} {c : Prop} [Decidable c] (h : VerdictKept s a) (k : VerdictKept s b) :
    VerdictKept s (if c then a else b) := by
  split <;> assumption


@[simp] theorem kept_State_runSetDomainVoltage {s0_ : State} (s : State) (x : CmdCtx) (d : Nat) (v : Nat) (h_ : Kept s0_ s)  : VerdictKept s0_ (State.runSetDomainVoltage s x d v) := by
  first
    | (simp (maxDischargeDepth := 40) [State.runSetDomainVoltage, h_]; done)
    | (unfold State.runSetDomainVoltage; (try dsimp only); repeat' (first | (simp (maxDischargeDepth := 40) [h_]; done) | intro _ | apply kept_foldl | apply kept_foldl_fst | apply kept_foldl_snd | apply kept_forEach | split))

@[simp] theorem kept_State_runDomainOn {s0_ : State} (s : State) (x : CmdCtx) (d : Nat) (h_ : Kept s0_ s)  : VerdictKept s0_ (State.runDomainOn s x d) := by
  first
    | (simp (maxDischargeDepth := 40) [State.runDomainOn, h_]; done)
    | (unfold State.runDomainOn; (try dsimp only); repeat' (first | (simp (maxDischargeDepth := 40) [h_]; done) | intro _ | apply kept_foldl | apply kept_foldl_fst | apply kept_foldl_snd | apply kept_forEach | split))

@[simp] theorem kept_State_runDomainOff {s0_ : State} (s : State) (x : CmdCtx) (d : Nat) (h_ : Kept s0_ s)  : VerdictKept s0_ (State.runDomainOff s x d) := by
  first
    | (simp (maxDischargeDepth := 40) [State.runDomainOff, h_]; done)
    | (unfold State.runDomainOff; (try dsimp only); repeat' (first | (simp (maxDischargeDepth := 40) [h_]; done) | intro _ | apply kept_foldl | apply kept_foldl_fst | apply kept_foldl_snd | apply kept_forEach | split))

@[simp] theorem kept_State_runStageLaw {s0_ : State} (s : State) (x : CmdCtx) (d : Nat) (addr : Nat) (h : HostData) (h_ : Kept s0_ s)  : VerdictKept s0_ (State.runStageLaw s x d addr h) := by
  first
    | (simp (maxDischargeDepth := 40) [State.runStageLaw, h_]; done)
    | (unfold State.runStageLaw; (try dsimp only); repeat' (first | (simp (maxDischargeDepth := 40) [h_]; done) | intro _ | apply kept_foldl | apply kept_foldl_fst | apply kept_foldl_snd | apply kept_forEach | split))

@[simp] theorem kept_State_runReadLaw {s0_ : State} (s : State) (x : CmdCtx) (d : Nat) (staged : Bool) (addr : Nat) (ok : Bool) (h_ : Kept s0_ s)  : VerdictKept s0_ (State.runReadLaw s x d staged addr ok) := by
  first
    | (simp (maxDischargeDepth := 40) [State.runReadLaw, h_]; done)
    | (unfold State.runReadLaw; (try dsimp only); repeat' (first | (simp (maxDischargeDepth := 40) [h_]; done) | intro _ | apply kept_foldl | apply kept_foldl_fst | apply kept_foldl_snd | apply kept_forEach | split))

@[simp] theorem kept_State_stageImages {s0_ : State} (s : State) (x : CmdCtx) (l : List (Nat × Word)) (h_ : Kept s0_ s)  : Kept s0_ (State.stageImages s x l) := by
  first
    | (simp (maxDischargeDepth := 40) [State.stageImages, h_]; done)
    | (unfold State.stageImages; (try dsimp only); repeat' (first | (simp (maxDischargeDepth := 40) [h_]; done) | intro _ | apply kept_foldl | apply kept_foldl_fst | apply kept_foldl_snd | apply kept_forEach | split))

@[simp] theorem kept_State_runSetBudget {s0_ : State} (s : State) (x : CmdCtx) (valid : Bool) (treasury : Word) (caps : List Word) (h_ : Kept s0_ s)  : VerdictKept s0_ (State.runSetBudget s x valid treasury caps) := by
  first
    | (simp (maxDischargeDepth := 40) [State.runSetBudget, h_]; done)
    | (unfold State.runSetBudget; (try dsimp only); repeat' (first | (simp (maxDischargeDepth := 40) [h_]; done) | intro _ | apply kept_foldl | apply kept_foldl_fst | apply kept_foldl_snd | apply kept_forEach | split))

@[simp] theorem kept_State_runSetClassWeights {s0_ : State} (s : State) (x : CmdCtx) (first : Nat) (count : Nat) (images : List Word) (h_ : Kept s0_ s)  : VerdictKept s0_ (State.runSetClassWeights s x first count images) := by
  first
    | (simp (maxDischargeDepth := 40) [State.runSetClassWeights, h_]; done)
    | (unfold State.runSetClassWeights; (try dsimp only); repeat' (first | (simp (maxDischargeDepth := 40) [h_]; done) | intro _ | apply kept_foldl | apply kept_foldl_fst | apply kept_foldl_snd | apply kept_forEach | split))

@[simp] theorem kept_State_stageLimitImage {s0_ : State} (s : State) (x : CmdCtx) (b : Nat) (v : Word) (h_ : Kept s0_ s)  : Kept s0_ (State.stageLimitImage s x b v) := by
  first
    | (simp (maxDischargeDepth := 40) [State.stageLimitImage, h_]; done)
    | (unfold State.stageLimitImage; (try dsimp only); repeat' (first | (simp (maxDischargeDepth := 40) [h_]; done) | intro _ | apply kept_foldl | apply kept_foldl_fst | apply kept_foldl_snd | apply kept_forEach | split))

@[simp] theorem kept_State_runSetLimits {s0_ : State} (s : State) (x : CmdCtx) (valid : Nat) (images : List Word) (h_ : Kept s0_ s)  : VerdictKept s0_ (State.runSetLimits s x valid images) := by
  first
    | (simp (maxDischargeDepth := 40) [State.runSetLimits, h_]; done)
    | (unfold State.runSetLimits; (try dsimp only); repeat' (first | (simp (maxDischargeDepth := 40) [h_]; done) | intro _ | apply kept_foldl | apply kept_foldl_fst | apply kept_foldl_snd | apply kept_forEach | split))

@[simp] theorem kept_State_runSetSense {s0_ : State} (s : State) (x : CmdCtx) (d : Nat) (valid : Nat) (images : List Word) (h_ : Kept s0_ s)  : VerdictKept s0_ (State.runSetSense s x d valid images) := by
  first
    | (simp (maxDischargeDepth := 40) [State.runSetSense, h_]; done)
    | (unfold State.runSetSense; (try dsimp only); repeat' (first | (simp (maxDischargeDepth := 40) [h_]; done) | intro _ | apply kept_foldl | apply kept_foldl_fst | apply kept_foldl_snd | apply kept_forEach | split))

@[simp] theorem kept_State_runSetCellCfg {s0_ : State} (s : State) (x : CmdCtx) (d : Nat) (v : Word) (h_ : Kept s0_ s)  : VerdictKept s0_ (State.runSetCellCfg s x d v) := by
  first
    | (simp (maxDischargeDepth := 40) [State.runSetCellCfg, h_]; done)
    | (unfold State.runSetCellCfg; (try dsimp only); repeat' (first | (simp (maxDischargeDepth := 40) [h_]; done) | intro _ | apply kept_foldl | apply kept_foldl_fst | apply kept_foldl_snd | apply kept_forEach | split))

@[simp] theorem kept_State_runFixedFreq {s0_ : State} (s : State) (x : CmdCtx) (enter : Bool) (h_ : Kept s0_ s)  : VerdictKept s0_ (State.runFixedFreq s x enter) := by
  first
    | (simp (maxDischargeDepth := 40) [State.runFixedFreq, h_]; done)
    | (unfold State.runFixedFreq; (try dsimp only); repeat' (first | (simp (maxDischargeDepth := 40) [h_]; done) | intro _ | apply kept_foldl | apply kept_foldl_fst | apply kept_foldl_snd | apply kept_forEach | split))

@[simp] theorem kept_State_runLoanCell {s0_ : State} (s : State) (x : CmdCtx) (i : Nat) (d : Nat) (h_ : Kept s0_ s)  : VerdictKept s0_ (State.runLoanCell s x i d) := by
  first
    | (simp (maxDischargeDepth := 40) [State.runLoanCell, h_]; done)
    | (unfold State.runLoanCell; (try dsimp only); repeat' (first | (simp (maxDischargeDepth := 40) [h_]; done) | intro _ | apply kept_foldl | apply kept_foldl_fst | apply kept_foldl_snd | apply kept_forEach | split))

@[simp] theorem kept_State_runRecallCell {s0_ : State} (s : State) (x : CmdCtx) (i : Nat) (h_ : Kept s0_ s)  : VerdictKept s0_ (State.runRecallCell s x i) := by
  first
    | (simp (maxDischargeDepth := 40) [State.runRecallCell, h_]; done)
    | (unfold State.runRecallCell; (try dsimp only); repeat' (first | (simp (maxDischargeDepth := 40) [h_]; done) | intro _ | apply kept_foldl | apply kept_foldl_fst | apply kept_foldl_snd | apply kept_forEach | split))

@[simp] theorem kept_State_runReadCell {s0_ : State} (s : State) (x : CmdCtx) (i : Nat) (page : Nat) (h_ : Kept s0_ s)  : VerdictKept s0_ (State.runReadCell s x i page) := by
  first
    | (simp (maxDischargeDepth := 40) [State.runReadCell, h_]; done)
    | (unfold State.runReadCell; (try dsimp only); repeat' (first | (simp (maxDischargeDepth := 40) [h_]; done) | intro _ | apply kept_foldl | apply kept_foldl_fst | apply kept_foldl_snd | apply kept_forEach | split))

@[simp] theorem kept_State_runSnapshot {s0_ : State} (s : State) (x : CmdCtx) (addr : Nat) (h_ : Kept s0_ s)  : VerdictKept s0_ (State.runSnapshot s x addr) := by
  first
    | (simp (maxDischargeDepth := 40) [State.runSnapshot, h_]; done)
    | (unfold State.runSnapshot; (try dsimp only); repeat' (first | (simp (maxDischargeDepth := 40) [h_]; done) | intro _ | apply kept_foldl | apply kept_foldl_fst | apply kept_foldl_snd | apply kept_forEach | split))

@[simp] theorem kept_State_runReadTally {s0_ : State} (s : State) (x : CmdCtx) (conv : Nat) (mask : Nat) (clear : Bool) (addr : Nat) (ok : Bool) (h_ : Kept s0_ s)  : VerdictKept s0_ (State.runReadTally s x conv mask clear addr ok) := by
  first
    | (simp (maxDischargeDepth := 40) [State.runReadTally, h_]; done)
    | (unfold State.runReadTally; (try dsimp only); repeat' (first | (simp (maxDischargeDepth := 40) [h_]; done) | intro _ | apply kept_foldl | apply kept_foldl_fst | apply kept_foldl_snd | apply kept_forEach | split))

@[simp] theorem kept_State_runVaultRead {s0_ : State} (s : State) (x : CmdCtx) (off : Nat) (len : Nat) (addr : Nat) (ok : Bool) (h_ : Kept s0_ s)  : VerdictKept s0_ (State.runVaultRead s x off len addr ok) := by
  first
    | (simp (maxDischargeDepth := 40) [State.runVaultRead, h_]; done)
    | (unfold State.runVaultRead; (try dsimp only); repeat' (first | (simp (maxDischargeDepth := 40) [h_]; done) | intro _ | apply kept_foldl | apply kept_foldl_fst | apply kept_foldl_snd | apply kept_forEach | split))

@[simp] theorem kept_State_runSetSequence {s0_ : State} (s : State) (x : CmdCtx) (d : Nat) (len : Nat) (injLen : Nat) (h : HostData) (h_ : Kept s0_ s)  : VerdictKept s0_ (State.runSetSequence s x d len injLen h) := by
  first
    | (simp (maxDischargeDepth := 40) [State.runSetSequence, h_]; done)
    | (unfold State.runSetSequence; (try dsimp only); repeat' (first | (simp (maxDischargeDepth := 40) [h_]; done) | intro _ | apply kept_foldl | apply kept_foldl_fst | apply kept_foldl_snd | apply kept_forEach | split))

@[simp] theorem kept_State_runSenseTrigger {s0_ : State} (s : State) (x : CmdCtx) (v : Word) (h_ : Kept s0_ s)  : VerdictKept s0_ (State.runSenseTrigger s x v) := by
  first
    | (simp (maxDischargeDepth := 40) [State.runSenseTrigger, h_]; done)
    | (unfold State.runSenseTrigger; (try dsimp only); repeat' (first | (simp (maxDischargeDepth := 40) [h_]; done) | intro _ | apply kept_foldl | apply kept_foldl_fst | apply kept_foldl_snd | apply kept_forEach | split))

@[simp] theorem kept_State_runFaultAck {s0_ : State} (s : State) (x : CmdCtx) (clr0 : Word) (clr1 : Word) (hold : BitVec 2) (h_ : Kept s0_ s)  : VerdictKept s0_ (State.runFaultAck s x clr0 clr1 hold) := by
  first
    | (simp (maxDischargeDepth := 40) [State.runFaultAck, h_]; done)
    | (unfold State.runFaultAck; (try dsimp only); repeat' (first | (simp (maxDischargeDepth := 40) [h_]; done) | intro _ | apply kept_foldl | apply kept_foldl_fst | apply kept_foldl_snd | apply kept_forEach | split))

@[simp] theorem kept_State_runSetReaction {s0_ : State} (s : State) (x : CmdCtx) (src : Nat) (react : Nat) (h_ : Kept s0_ s)  : VerdictKept s0_ (State.runSetReaction s x src react) := by
  first
    | (simp (maxDischargeDepth := 40) [State.runSetReaction, h_]; done)
    | (unfold State.runSetReaction; (try dsimp only); repeat' (first | (simp (maxDischargeDepth := 40) [h_]; done) | intro _ | apply kept_foldl | apply kept_foldl_fst | apply kept_foldl_snd | apply kept_forEach | split))

@[simp] theorem kept_State_runDropPacket {s0_ : State} (s : State) (x : CmdCtx) (tile : Nat) (all : Bool) (h_ : Kept s0_ s)  : VerdictKept s0_ (State.runDropPacket s x tile all) := by
  first
    | (simp (maxDischargeDepth := 40) [State.runDropPacket, h_]; done)
    | (unfold State.runDropPacket; (try dsimp only); repeat' (first | (simp (maxDischargeDepth := 40) [h_]; done) | intro _ | apply kept_foldl | apply kept_foldl_fst | apply kept_foldl_snd | apply kept_forEach | split))

@[simp] theorem kept_State_runPaceGroup {s0_ : State} (s : State) (x : CmdCtx) (group : Nat) (apply : Bool) (send : Bool) (h_ : Kept s0_ s)  : VerdictKept s0_ (State.runPaceGroup s x group apply send) := by
  first
    | (simp (maxDischargeDepth := 40) [State.runPaceGroup, h_]; done)
    | (unfold State.runPaceGroup; (try dsimp only); repeat' (first | (simp (maxDischargeDepth := 40) [h_]; done) | intro _ | apply kept_foldl | apply kept_foldl_fst | apply kept_foldl_snd | apply kept_forEach | split))

@[simp] theorem kept_State_runPaceRelay {s0_ : State} (s : State) (x : CmdCtx) (q : Nat) (rel : Bool) (h_ : Kept s0_ s)  : VerdictKept s0_ (State.runPaceRelay s x q rel) := by
  first
    | (simp (maxDischargeDepth := 40) [State.runPaceRelay, h_]; done)
    | (unfold State.runPaceRelay; (try dsimp only); repeat' (first | (simp (maxDischargeDepth := 40) [h_]; done) | intro _ | apply kept_foldl | apply kept_foldl_fst | apply kept_foldl_snd | apply kept_forEach | split))

@[simp] theorem kept_State_hostRun {s0_ s : State} (c : Instr) (h_ : Kept s0_ s) : VerdictKept s0_ (s.hostRun c) := by
  unfold State.hostRun
  split <;> simp (maxDischargeDepth := 40) [h_]

@[simp] theorem kept_State_accept {s0_ : State} (s : State) (c : Instr) (x : CmdCtx) (op : Nat) (h_ : Kept s0_ s)  : Kept s0_ (State.accept s c x op) := by
  have k := kept_State_hostRun c h_
  unfold State.accept
  split
  · simp [h_]
  · split
    · rename_i e; simpa [e] using k
    · simp [h_]

@[simp] theorem kept_State_offer {s0_ : State} (s : State) (c : Instr) (h_ : Kept s0_ s)  : Kept s0_ (State.offer s c) := by
  first
    | (simp (maxDischargeDepth := 40) [State.offer, h_]; done)
    | (unfold State.offer; (try dsimp only); repeat' (first | (simp (maxDischargeDepth := 40) [h_]; done) | intro _ | apply kept_foldl | apply kept_foldl_fst | apply kept_foldl_snd | apply kept_forEach | split))

@[simp] theorem kept_State_serveWaits {s0_ : State} (s : State) (h_ : Kept s0_ s)  : Kept s0_ (State.serveWaits s) := by
  first
    | (simp (maxDischargeDepth := 40) [State.serveWaits, h_]; done)
    | (unfold State.serveWaits; (try dsimp only); repeat' (first | (simp (maxDischargeDepth := 40) [h_]; done) | intro _ | apply kept_foldl | apply kept_foldl_fst | apply kept_foldl_snd | apply kept_forEach | split))

@[simp] theorem kept_State_hostCmd {s0_ : State} (s : State) (c : Instr) (h_ : Kept s0_ s)  : OutKept s0_ (State.hostCmd s c) := by
  first
    | (simp (maxDischargeDepth := 40) [State.hostCmd, h_]; done)
    | (unfold State.hostCmd; (try dsimp only); repeat' (first | (simp (maxDischargeDepth := 40) [h_]; done) | intro _ | apply kept_foldl | apply kept_foldl_fst | apply kept_foldl_snd | apply kept_forEach | split))

@[simp] theorem kept_execNop {s0_ : State} (x : CmdCtx) (s : State) (h_ : Kept s0_ s)  : OutKept s0_ (execNop x s) := by
  first
    | (simp (maxDischargeDepth := 40) [execNop, h_]; done)
    | (unfold execNop; (try dsimp only); repeat' (first | (simp (maxDischargeDepth := 40) [h_]; done) | intro _ | apply kept_foldl | apply kept_foldl_fst | apply kept_foldl_snd | apply kept_forEach | split))

@[simp] theorem kept_execSetDomainVoltage {s0_ : State} (x : CmdCtx) (d : BitVec 6) (v : BitVec 12) (s : State) (h_ : Kept s0_ s)  : OutKept s0_ (execSetDomainVoltage x d v s) := by
  first
    | (simp (maxDischargeDepth := 40) [execSetDomainVoltage, h_]; done)
    | (unfold execSetDomainVoltage; (try dsimp only); repeat' (first | (simp (maxDischargeDepth := 40) [h_]; done) | intro _ | apply kept_foldl | apply kept_foldl_fst | apply kept_foldl_snd | apply kept_forEach | split))

@[simp] theorem kept_execDomainOn {s0_ : State} (x : CmdCtx) (d : BitVec 6) (s : State) (h_ : Kept s0_ s)  : OutKept s0_ (execDomainOn x d s) := by
  first
    | (simp (maxDischargeDepth := 40) [execDomainOn, h_]; done)
    | (unfold execDomainOn; (try dsimp only); repeat' (first | (simp (maxDischargeDepth := 40) [h_]; done) | intro _ | apply kept_foldl | apply kept_foldl_fst | apply kept_foldl_snd | apply kept_forEach | split))

@[simp] theorem kept_execDomainOff {s0_ : State} (x : CmdCtx) (d : BitVec 6) (s : State) (h_ : Kept s0_ s)  : OutKept s0_ (execDomainOff x d s) := by
  first
    | (simp (maxDischargeDepth := 40) [execDomainOff, h_]; done)
    | (unfold execDomainOff; (try dsimp only); repeat' (first | (simp (maxDischargeDepth := 40) [h_]; done) | intro _ | apply kept_foldl | apply kept_foldl_fst | apply kept_foldl_snd | apply kept_forEach | split))

@[simp] theorem kept_execStageLaw {s0_ : State} (x : CmdCtx) (d : BitVec 6) (a : Word64) (h : HostData) (s : State) (h_ : Kept s0_ s)  : OutKept s0_ (execStageLaw x d a h s) := by
  first
    | (simp (maxDischargeDepth := 40) [execStageLaw, h_]; done)
    | (unfold execStageLaw; (try dsimp only); repeat' (first | (simp (maxDischargeDepth := 40) [h_]; done) | intro _ | apply kept_foldl | apply kept_foldl_fst | apply kept_foldl_snd | apply kept_forEach | split))

@[simp] theorem kept_execReadLaw {s0_ : State} (x : CmdCtx) (d : BitVec 6) (staged : Bool) (a : Word64) (ok : Bool) (s : State) (h_ : Kept s0_ s)  : OutKept s0_ (execReadLaw x d staged a ok s) := by
  first
    | (simp (maxDischargeDepth := 40) [execReadLaw, h_]; done)
    | (unfold execReadLaw; (try dsimp only); repeat' (first | (simp (maxDischargeDepth := 40) [h_]; done) | intro _ | apply kept_foldl | apply kept_foldl_fst | apply kept_foldl_snd | apply kept_forEach | split))

@[simp] theorem kept_execSetBudget {s0_ : State} (x : CmdCtx) (valid : Bool) (t : Word) (caps : List Word) (s : State) (h_ : Kept s0_ s)  : OutKept s0_ (execSetBudget x valid t caps s) := by
  first
    | (simp (maxDischargeDepth := 40) [execSetBudget, h_]; done)
    | (unfold execSetBudget; (try dsimp only); repeat' (first | (simp (maxDischargeDepth := 40) [h_]; done) | intro _ | apply kept_foldl | apply kept_foldl_fst | apply kept_foldl_snd | apply kept_forEach | split))

@[simp] theorem kept_execSetClassWeights {s0_ : State} (x : CmdCtx) (f : BitVec 4) (c : BitVec 4) (l : List Word) (s : State) (h_ : Kept s0_ s)  : OutKept s0_ (execSetClassWeights x f c l s) := by
  first
    | (simp (maxDischargeDepth := 40) [execSetClassWeights, h_]; done)
    | (unfold execSetClassWeights; (try dsimp only); repeat' (first | (simp (maxDischargeDepth := 40) [h_]; done) | intro _ | apply kept_foldl | apply kept_foldl_fst | apply kept_foldl_snd | apply kept_forEach | split))

@[simp] theorem kept_execSetLimits {s0_ : State} (x : CmdCtx) (v : BitVec 7) (l : List Word) (s : State) (h_ : Kept s0_ s)  : OutKept s0_ (execSetLimits x v l s) := by
  first
    | (simp (maxDischargeDepth := 40) [execSetLimits, h_]; done)
    | (unfold execSetLimits; (try dsimp only); repeat' (first | (simp (maxDischargeDepth := 40) [h_]; done) | intro _ | apply kept_foldl | apply kept_foldl_fst | apply kept_foldl_snd | apply kept_forEach | split))

@[simp] theorem kept_execLoanCell {s0_ : State} (x : CmdCtx) (a : BitVec 12) (d : BitVec 6) (s : State) (h_ : Kept s0_ s)  : OutKept s0_ (execLoanCell x a d s) := by
  first
    | (simp (maxDischargeDepth := 40) [execLoanCell, h_]; done)
    | (unfold execLoanCell; (try dsimp only); repeat' (first | (simp (maxDischargeDepth := 40) [h_]; done) | intro _ | apply kept_foldl | apply kept_foldl_fst | apply kept_foldl_snd | apply kept_forEach | split))

@[simp] theorem kept_execRecallCell {s0_ : State} (x : CmdCtx) (a : BitVec 12) (s : State) (h_ : Kept s0_ s)  : OutKept s0_ (execRecallCell x a s) := by
  first
    | (simp (maxDischargeDepth := 40) [execRecallCell, h_]; done)
    | (unfold execRecallCell; (try dsimp only); repeat' (first | (simp (maxDischargeDepth := 40) [h_]; done) | intro _ | apply kept_foldl | apply kept_foldl_fst | apply kept_foldl_snd | apply kept_forEach | split))

@[simp] theorem kept_execReadCell {s0_ : State} (x : CmdCtx) (a : BitVec 12) (p : BitVec 2) (s : State) (h_ : Kept s0_ s)  : OutKept s0_ (execReadCell x a p s) := by
  first
    | (simp (maxDischargeDepth := 40) [execReadCell, h_]; done)
    | (unfold execReadCell; (try dsimp only); repeat' (first | (simp (maxDischargeDepth := 40) [h_]; done) | intro _ | apply kept_foldl | apply kept_foldl_fst | apply kept_foldl_snd | apply kept_forEach | split))

@[simp] theorem kept_execSnapshot {s0_ : State} (x : CmdCtx) (a : Word64) (s : State) (h_ : Kept s0_ s)  : OutKept s0_ (execSnapshot x a s) := by
  first
    | (simp (maxDischargeDepth := 40) [execSnapshot, h_]; done)
    | (unfold execSnapshot; (try dsimp only); repeat' (first | (simp (maxDischargeDepth := 40) [h_]; done) | intro _ | apply kept_foldl | apply kept_foldl_fst | apply kept_foldl_snd | apply kept_forEach | split))

@[simp] theorem kept_execReadTally {s0_ : State} (x : CmdCtx) (c : BitVec 6) (m : BitVec 16) (clear : Bool) (a : Word64) (ok : Bool) (s : State) (h_ : Kept s0_ s)  : OutKept s0_ (execReadTally x c m clear a ok s) := by
  first
    | (simp (maxDischargeDepth := 40) [execReadTally, h_]; done)
    | (unfold execReadTally; (try dsimp only); repeat' (first | (simp (maxDischargeDepth := 40) [h_]; done) | intro _ | apply kept_foldl | apply kept_foldl_fst | apply kept_foldl_snd | apply kept_forEach | split))

@[simp] theorem kept_execSetSequence {s0_ : State} (x : CmdCtx) (d : BitVec 6) (l : BitVec 7) (j : BitVec 4) (a : Word64) (h : HostData) (s : State) (h_ : Kept s0_ s)  : OutKept s0_ (execSetSequence x d l j a h s) := by
  first
    | (simp (maxDischargeDepth := 40) [execSetSequence, h_]; done)
    | (unfold execSetSequence; (try dsimp only); repeat' (first | (simp (maxDischargeDepth := 40) [h_]; done) | intro _ | apply kept_foldl | apply kept_foldl_fst | apply kept_foldl_snd | apply kept_forEach | split))

@[simp] theorem kept_execSetSense {s0_ : State} (x : CmdCtx) (d : BitVec 6) (v : BitVec 8) (l : List Word) (s : State) (h_ : Kept s0_ s)  : OutKept s0_ (execSetSense x d v l s) := by
  first
    | (simp (maxDischargeDepth := 40) [execSetSense, h_]; done)
    | (unfold execSetSense; (try dsimp only); repeat' (first | (simp (maxDischargeDepth := 40) [h_]; done) | intro _ | apply kept_foldl | apply kept_foldl_fst | apply kept_foldl_snd | apply kept_forEach | split))

@[simp] theorem kept_execSenseTrigger {s0_ : State} (x : CmdCtx) (v : Word) (s : State) (h_ : Kept s0_ s)  : OutKept s0_ (execSenseTrigger x v s) := by
  first
    | (simp (maxDischargeDepth := 40) [execSenseTrigger, h_]; done)
    | (unfold execSenseTrigger; (try dsimp only); repeat' (first | (simp (maxDischargeDepth := 40) [h_]; done) | intro _ | apply kept_foldl | apply kept_foldl_fst | apply kept_foldl_snd | apply kept_forEach | split))

@[simp] theorem kept_execSetCellCfg {s0_ : State} (x : CmdCtx) (d : BitVec 6) (v : Word) (s : State) (h_ : Kept s0_ s)  : OutKept s0_ (execSetCellCfg x d v s) := by
  first
    | (simp (maxDischargeDepth := 40) [execSetCellCfg, h_]; done)
    | (unfold execSetCellCfg; (try dsimp only); repeat' (first | (simp (maxDischargeDepth := 40) [h_]; done) | intro _ | apply kept_foldl | apply kept_foldl_fst | apply kept_foldl_snd | apply kept_forEach | split))

@[simp] theorem kept_execFaultAck {s0_ : State} (x : CmdCtx) (a : Word) (b : Word) (h : BitVec 2) (s : State) (h_ : Kept s0_ s)  : OutKept s0_ (execFaultAck x a b h s) := by
  first
    | (simp (maxDischargeDepth := 40) [execFaultAck, h_]; done)
    | (unfold execFaultAck; (try dsimp only); repeat' (first | (simp (maxDischargeDepth := 40) [h_]; done) | intro _ | apply kept_foldl | apply kept_foldl_fst | apply kept_foldl_snd | apply kept_forEach | split))

@[simp] theorem kept_execFixedFreq {s0_ : State} (x : CmdCtx) (e : Bool) (s : State) (h_ : Kept s0_ s)  : OutKept s0_ (execFixedFreq x e s) := by
  first
    | (simp (maxDischargeDepth := 40) [execFixedFreq, h_]; done)
    | (unfold execFixedFreq; (try dsimp only); repeat' (first | (simp (maxDischargeDepth := 40) [h_]; done) | intro _ | apply kept_foldl | apply kept_foldl_fst | apply kept_foldl_snd | apply kept_forEach | split))

@[simp] theorem kept_execPaceGroup {s0_ : State} (x : CmdCtx) (g : BitVec 8) (a : Bool) (e : Bool) (s : State) (h_ : Kept s0_ s)  : OutKept s0_ (execPaceGroup x g a e s) := by
  first
    | (simp (maxDischargeDepth := 40) [execPaceGroup, h_]; done)
    | (unfold execPaceGroup; (try dsimp only); repeat' (first | (simp (maxDischargeDepth := 40) [h_]; done) | intro _ | apply kept_foldl | apply kept_foldl_fst | apply kept_foldl_snd | apply kept_forEach | split))

@[simp] theorem kept_execPaceRelay {s0_ : State} (x : CmdCtx) (q : BitVec 6) (r : Bool) (s : State) (h_ : Kept s0_ s)  : OutKept s0_ (execPaceRelay x q r s) := by
  first
    | (simp (maxDischargeDepth := 40) [execPaceRelay, h_]; done)
    | (unfold execPaceRelay; (try dsimp only); repeat' (first | (simp (maxDischargeDepth := 40) [h_]; done) | intro _ | apply kept_foldl | apply kept_foldl_fst | apply kept_foldl_snd | apply kept_forEach | split))

@[simp] theorem kept_execVaultRead {s0_ : State} (x : CmdCtx) (o : Word) (l : Word) (a : Word64) (ok : Bool) (s : State) (h_ : Kept s0_ s)  : OutKept s0_ (execVaultRead x o l a ok s) := by
  first
    | (simp (maxDischargeDepth := 40) [execVaultRead, h_]; done)
    | (unfold execVaultRead; (try dsimp only); repeat' (first | (simp (maxDischargeDepth := 40) [h_]; done) | intro _ | apply kept_foldl | apply kept_foldl_fst | apply kept_foldl_snd | apply kept_forEach | split))

@[simp] theorem kept_execDropPacket {s0_ : State} (x : CmdCtx) (t : BitVec 10) (all : Bool) (s : State) (h_ : Kept s0_ s)  : OutKept s0_ (execDropPacket x t all s) := by
  first
    | (simp (maxDischargeDepth := 40) [execDropPacket, h_]; done)
    | (unfold execDropPacket; (try dsimp only); repeat' (first | (simp (maxDischargeDepth := 40) [h_]; done) | intro _ | apply kept_foldl | apply kept_foldl_fst | apply kept_foldl_snd | apply kept_forEach | split))

@[simp] theorem kept_execSetReaction {s0_ : State} (x : CmdCtx) (r : BitVec 6) (v : BitVec 5) (s : State) (h_ : Kept s0_ s)  : OutKept s0_ (execSetReaction x r v s) := by
  first
    | (simp (maxDischargeDepth := 40) [execSetReaction, h_]; done)
    | (unfold execSetReaction; (try dsimp only); repeat' (first | (simp (maxDischargeDepth := 40) [h_]; done) | intro _ | apply kept_foldl | apply kept_foldl_fst | apply kept_foldl_snd | apply kept_forEach | split))

@[simp] theorem kept_execUnknownOpcode {s0_ : State} (x : CmdCtx) (op : BitVec 8) (s : State) (h_ : Kept s0_ s)  : OutKept s0_ (execUnknownOpcode x op s) := by
  first
    | (simp (maxDischargeDepth := 40) [execUnknownOpcode, h_]; done)
    | (unfold execUnknownOpcode; (try dsimp only); repeat' (first | (simp (maxDischargeDepth := 40) [h_]; done) | intro _ | apply kept_foldl | apply kept_foldl_fst | apply kept_foldl_snd | apply kept_forEach | split))

end Sys2Proof.Machine
end

