-- ==== Sys2Proof/Laws/KeptExecutor.lean ====
section
/-! SUPPORT. What the operations of Machine/Executor.lean keep (Laws/Kept.lean). -/

set_option linter.unusedSimpArgs false
set_option linter.unusedVariables false

namespace Sys2Proof.Machine

@[simp] theorem kept_State_powerDue {s0_ : State} (s : State) (d : Nat) (on : Bool) (h_ : Kept s0_ s)  : Kept s0_ (State.powerDue s d on) := by
  first
    | (simp (maxDischargeDepth := 40) [State.powerDue, h_]; done)
    | (unfold State.powerDue; (try dsimp only); repeat' (first | (simp (maxDischargeDepth := 40) [h_]; done) | intro _ | apply kept_foldl | apply kept_foldl_fst | apply kept_foldl_snd | apply kept_forEach | split))

@[simp] theorem kept_State_powerCommit {s0_ : State} (s : State) (due : List Staged) (h_ : Kept s0_ s)  : Kept s0_ (State.powerCommit s due) := by
  first
    | (simp (maxDischargeDepth := 40) [State.powerCommit, h_]; done)
    | (unfold State.powerCommit; (try dsimp only); repeat' (first | (simp (maxDischargeDepth := 40) [h_]; done) | intro _ | apply kept_foldl | apply kept_foldl_fst | apply kept_foldl_snd | apply kept_forEach | split))

@[simp] theorem kept_State_askAgain {s0_ : State} (s : State) (h_ : Kept s0_ s)  : Kept s0_ (State.askAgain s) := by
  first
    | (simp (maxDischargeDepth := 40) [State.askAgain, h_]; done)
    | (unfold State.askAgain; (try dsimp only); repeat' (first | (simp (maxDischargeDepth := 40) [h_]; done) | intro _ | apply kept_foldl | apply kept_foldl_fst | apply kept_foldl_snd | apply kept_forEach | split))

@[simp] theorem kept_State_afterCommit {s0_ : State} (s : State) (adopting : Bool) (h_ : Kept s0_ s)  : Kept s0_ (State.afterCommit s adopting) := by
  first
    | (simp (maxDischargeDepth := 40) [State.afterCommit, h_]; done)
    | (unfold State.afterCommit; (try dsimp only); repeat' (first | (simp (maxDischargeDepth := 40) [h_]; done) | intro _ | apply kept_foldl | apply kept_foldl_fst | apply kept_foldl_snd | apply kept_forEach | split))

@[simp] theorem kept_State_complOrder {s0_ : State} (s t : State) (h_ : Kept s0_ t) : Kept s0_ (s.complOrder t) := by
  simp [State.complOrder, h_]

@[simp] theorem kept_State_publishDoms {s0_ : State} (s : State) (h_ : Kept s0_ s) : Kept s0_ s.publishDoms := by
  simp [State.publishDoms, h_]

@[simp] theorem kept_State_mirrorCommit {s0_ : State} (s : State) (h_ : Kept s0_ s) : Kept s0_ s.mirrorCommit := by
  simp [State.mirrorCommit, h_]

/-- A loop whose rounds leave the next commit alone. -/
theorem State.forEach_nextCommit (f : State → Nat → State) (l : List Nat) (s : State) (h : ∀ t d, (f t d).nextCommit = t.nextCommit) :
    (s.forEach l f).nextCommit = s.nextCommit := by
  induction l generalizing s with
  | nil => rfl
  | cons d l ih => exact (ih _).trans (h s d)

/-- What a commit does to the three kept things and to the commit's number (R249). -/
theorem steady_commit (s : State) :
    Steady s s.commit ∧ s.commit.clk.commit16 = (s.nextCommit).1 % 2 ^ 48 % 65536 := by
  obtain ⟨s0, hs0, k0, n0⟩ : ∃ s0, s0 = (if s.ledger.running then s.publishDoms.forEach allDoms fun t d => t.calLatches s.ledger.epoch d
      else s.publishDoms) ∧ Kept s s0 ∧ s0.nextCommit = s.nextCommit := by
    have k : Kept s s.publishDoms := kept_State_publishDoms s (.refl s)
    have n : s.publishDoms.nextCommit = s.nextCommit := by simp only [State.publishDoms, State.nextCommit]; rfl
    refine ⟨_, rfl, kept_ite (kept_forEach _ _ k fun t d => kept_State_calLatches t _ d (.refl t)) k, ?_⟩
    split
    · exact (State.forEach_nextCommit _ _ _ fun t d => by
        simp only [State.calLatches, State.nextCommit, State.updDom, State.updAcct]; rfl).trans n
    · exact n
  have h1 := steady_openEpoch s0
  have h2 : Kept s0.openEpoch s.commit := by
    unfold State.commit
    dsimp only
    rw [← hs0]
    simp (maxDischargeDepth := 40)
  rw [n0] at h1
  exact ⟨(k0.steady.trans h1.1).trans h2.steady, h2.2.2.2.trans h1.2⟩

/-- The same of the command. -/
theorem steady_execEpochCommit (s : State) : OutSteady s (execEpochCommit s) := by
  unfold execEpochCommit
  split
  · exact (steady_commit s).1.trans (kept_closing (.refl _)).steady
  · exact .refl s

@[simp] theorem kept_State_verdict {s0_ : State} (s : State) (i : Nat) (d : Desc) (h : HostData) (h_ : Kept s0_ s)  : VerdictKept s0_ (State.verdict s i d h) := by
  first
    | (simp (maxDischargeDepth := 40) [State.verdict, h_]; done)
    | (unfold State.verdict; (try dsimp only); repeat' (first | (simp (maxDischargeDepth := 40) [h_]; done) | intro _ | apply kept_foldl | apply kept_foldl_fst | apply kept_foldl_snd | apply kept_forEach | split))

@[simp] theorem kept_State_acceptDesc {s0_ : State} (s : State) (i : Nat) (d : Desc) (h : HostData) (h_ : Kept s0_ s)  : Kept s0_ (State.acceptDesc s i d h) := by
  unfold State.acceptDesc; try dsimp only
  repeat' (first | (simp (maxDischargeDepth := 40) [h_]; done) | (refine kept_of_verdict ?_ (by assumption); simp (maxDischargeDepth := 40) [h_]; done) | intro _ | apply kept_foldl_fst | apply kept_foldl | split)

@[simp] theorem kept_State_completeAll {s0_ : State} (s : State) (i : Nat) (l : List (Desc × Nat × Nat)) (h_ : Kept s0_ s)  : Kept s0_ (State.completeAll s i l) := by
  first
    | (simp (maxDischargeDepth := 40) [State.completeAll, h_]; done)
    | (unfold State.completeAll; (try dsimp only); repeat' (first | (simp (maxDischargeDepth := 40) [h_]; done) | intro _ | apply kept_foldl | apply kept_foldl_fst | apply kept_foldl_snd | apply kept_forEach | split))

@[simp] theorem kept_State_acceptChain {s0_ : State} (s : State) (i : Nat) (l : List (Desc × HostData)) (h_ : Kept s0_ s)  : Kept s0_ (State.acceptChain s i l) := by
  unfold State.acceptChain; dsimp only
  repeat' (first | (simp (maxDischargeDepth := 40) [h_]; done) | (refine kept_of_verdict ?_ (by assumption); simp (maxDischargeDepth := 40) [h_]; done) | intro _ | apply kept_foldl_fst | apply kept_foldl | split)

@[simp] theorem kept_State_takeRing {s0_ : State} (s : State) (i : Nat) (data : List HostData) (h_ : Kept s0_ s)  : Kept s0_ (State.takeRing s i data) := by
  first
    | (simp (maxDischargeDepth := 40) [State.takeRing, h_]; done)
    | (unfold State.takeRing; (try dsimp only); repeat' (first | (simp (maxDischargeDepth := 40) [h_]; done) | intro _ | apply kept_foldl | apply kept_foldl_fst | apply kept_foldl_snd | apply kept_forEach | split))

@[simp] theorem kept_execCommandAccept {s0_ : State} (data : List HostData) (s : State) (h_ : Kept s0_ s)  : OutKept s0_ (execCommandAccept data s) := by
  first
    | (simp (maxDischargeDepth := 40) [execCommandAccept, h_]; done)
    | (unfold execCommandAccept; (try dsimp only); repeat' (first | (simp (maxDischargeDepth := 40) [h_]; done) | intro _ | apply kept_foldl | apply kept_foldl_fst | apply kept_foldl_snd | apply kept_forEach | split))

@[simp] theorem kept_execRestoreDone {s0_ : State} (s : State) (h_ : Kept s0_ s)  : OutKept s0_ (execRestoreDone s) := by
  first
    | (simp (maxDischargeDepth := 40) [execRestoreDone, h_]; done)
    | (unfold execRestoreDone; (try dsimp only); repeat' (first | (simp (maxDischargeDepth := 40) [h_]; done) | intro _ | apply kept_foldl | apply kept_foldl_fst | apply kept_foldl_snd | apply kept_forEach | split))

end Sys2Proof.Machine
end

