-- ==== Sys2Proof/Laws/KeptFaultCmds.lean ====
section
/-! SUPPORT. What the operations of Machine/FaultCmds.lean keep (Laws/Kept.lean). -/

set_option linter.unusedSimpArgs false
set_option linter.unusedVariables false

namespace Sys2Proof.Machine

@[simp] theorem kept_State_raiseNote {s0_ : State} (s : State) (src : Nat) (obj : Nat) (h_ : Kept s0_ s)  : Kept s0_ (State.raiseNote s src obj) := by
  first
    | (simp (maxDischargeDepth := 40) [State.raiseNote, h_]; done)
    | (unfold State.raiseNote; (try dsimp only); repeat' (first | (simp (maxDischargeDepth := 40) [h_]; done) | intro _ | apply kept_foldl | apply kept_foldl_fst | apply kept_foldl_snd | apply kept_forEach | split))

@[simp] theorem kept_execFaultRaise {s0_ : State} (src : SrcIx) (obj : BitVec 16) (s : State) (h_ : Kept s0_ s)  : OutKept s0_ (execFaultRaise src obj s) := by
  first
    | (simp (maxDischargeDepth := 40) [execFaultRaise, h_]; done)
    | (unfold execFaultRaise; (try dsimp only); repeat' (first | (simp (maxDischargeDepth := 40) [h_]; done) | intro _ | apply kept_foldl | apply kept_foldl_fst | apply kept_foldl_snd | apply kept_forEach | split))

@[simp] theorem kept_execErrnPulseEnd {s0_ : State} (s : State) (h_ : Kept s0_ s)  : OutKept s0_ (execErrnPulseEnd s) := by
  first
    | (simp (maxDischargeDepth := 40) [execErrnPulseEnd, h_]; done)
    | (unfold execErrnPulseEnd; (try dsimp only); repeat' (first | (simp (maxDischargeDepth := 40) [h_]; done) | intro _ | apply kept_foldl | apply kept_foldl_fst | apply kept_foldl_snd | apply kept_forEach | split))

@[simp] theorem kept_execIncidentClose {s0_ : State} (s : State) (h_ : Kept s0_ s)  : OutKept s0_ (execIncidentClose s) := by
  first
    | (simp (maxDischargeDepth := 40) [execIncidentClose, h_]; done)
    | (unfold execIncidentClose; (try dsimp only); repeat' (first | (simp (maxDischargeDepth := 40) [h_]; done) | intro _ | apply kept_foldl | apply kept_foldl_fst | apply kept_foldl_snd | apply kept_forEach | split))

@[simp] theorem kept_execIncidentOverrun {s0_ : State} (s : State) (h_ : Kept s0_ s)  : OutKept s0_ (execIncidentOverrun s) := by
  first
    | (simp (maxDischargeDepth := 40) [execIncidentOverrun, h_]; done)
    | (unfold execIncidentOverrun; (try dsimp only); repeat' (first | (simp (maxDischargeDepth := 40) [h_]; done) | intro _ | apply kept_foldl | apply kept_foldl_fst | apply kept_foldl_snd | apply kept_forEach | split))

@[simp] theorem kept_execFaultQuietEnd {s0_ : State} (s : State) (h_ : Kept s0_ s)  : OutKept s0_ (execFaultQuietEnd s) := by
  first
    | (simp (maxDischargeDepth := 40) [execFaultQuietEnd, h_]; done)
    | (unfold execFaultQuietEnd; (try dsimp only); repeat' (first | (simp (maxDischargeDepth := 40) [h_]; done) | intro _ | apply kept_foldl | apply kept_foldl_fst | apply kept_foldl_snd | apply kept_forEach | split))

@[simp] theorem kept_execFltCntClear {s0_ : State} (s : State) (h_ : Kept s0_ s)  : OutKept s0_ (execFltCntClear s) := by
  first
    | (simp (maxDischargeDepth := 40) [execFltCntClear, h_]; done)
    | (unfold execFltCntClear; (try dsimp only); repeat' (first | (simp (maxDischargeDepth := 40) [h_]; done) | intro _ | apply kept_foldl | apply kept_foldl_fst | apply kept_foldl_snd | apply kept_forEach | split))

end Sys2Proof.Machine
end

