-- ==== Sys2Proof/Laws/KeptPace.lean ====
section
/-! SUPPORT. What the operations of Machine/Pace.lean keep (Laws/Kept.lean). -/

set_option linter.unusedSimpArgs false
set_option linter.unusedVariables false

namespace Sys2Proof.Machine

@[simp] theorem kept_State_paceForward {s0_ : State} (s : State) (f : PaceTx) (h_ : Kept s0_ s)  : Kept s0_ (State.paceForward s f) := by
  first
    | (simp (maxDischargeDepth := 40) [State.paceForward, h_]; done)
    | (unfold State.paceForward; (try dsimp only); repeat' (first | (simp (maxDischargeDepth := 40) [h_]; done) | intro _ | apply kept_foldl | apply kept_foldl_fst | apply kept_foldl_snd | apply kept_forEach | split))

@[simp] theorem kept_State_paceUp {s0_ : State} (s : State) (n : Nat) (h_ : Kept s0_ s)  : Kept s0_ (State.paceUp s n) := by
  first
    | (simp (maxDischargeDepth := 40) [State.paceUp, h_]; done)
    | (unfold State.paceUp; (try dsimp only); repeat' (first | (simp (maxDischargeDepth := 40) [h_]; done) | intro _ | apply kept_foldl | apply kept_foldl_fst | apply kept_foldl_snd | apply kept_forEach | split))

@[simp] theorem kept_execSurvey {s0_ : State} (serial : BitVec 48) (s : State) (h_ : Kept s0_ s)  : OutKept s0_ (execSurvey serial s) := by
  first
    | (simp (maxDischargeDepth := 40) [execSurvey, h_]; done)
    | (unfold execSurvey; (try dsimp only); repeat' (first | (simp (maxDischargeDepth := 40) [h_]; done) | intro _ | apply kept_foldl | apply kept_foldl_fst | apply kept_foldl_snd | apply kept_forEach | split))

@[simp] theorem kept_execCount {s0_ : State} (next : BitVec 7) (s : State) (h_ : Kept s0_ s)  : OutKept s0_ (execCount next s) := by
  first
    | (simp (maxDischargeDepth := 40) [execCount, h_]; done)
    | (unfold execCount; (try dsimp only); repeat' (first | (simp (maxDischargeDepth := 40) [h_]; done) | intro _ | apply kept_foldl | apply kept_foldl_fst | apply kept_foldl_snd | apply kept_forEach | split))

@[simp] theorem kept_execSize {s0_ : State} (n : BitVec 7) (s : State) (h_ : Kept s0_ s)  : OutKept s0_ (execSize n s) := by
  first
    | (simp (maxDischargeDepth := 40) [execSize, h_]; done)
    | (unfold execSize; (try dsimp only); repeat' (first | (simp (maxDischargeDepth := 40) [h_]; done) | intro _ | apply kept_foldl | apply kept_foldl_fst | apply kept_foldl_snd | apply kept_forEach | split))

@[simp] theorem kept_execLive {s0_ : State} (origin : BitVec 6) (s : State) (h_ : Kept s0_ s)  : OutKept s0_ (execLive origin s) := by
  first
    | (simp (maxDischargeDepth := 40) [execLive, h_]; done)
    | (unfold execLive; (try dsimp only); repeat' (first | (simp (maxDischargeDepth := 40) [h_]; done) | intro _ | apply kept_foldl | apply kept_foldl_fst | apply kept_foldl_snd | apply kept_forEach | split))

@[simp] theorem kept_execQuota {s0_ : State} (origin : BitVec 6) (relay : Bool) (group : BitVec 8) (q : BitVec 6) (seq : BitVec 8) (s : State) (h_ : Kept s0_ s)  : OutKept s0_ (execQuota origin relay group q seq s) := by
  first
    | (simp (maxDischargeDepth := 40) [execQuota, h_]; done)
    | (unfold execQuota; (try dsimp only); repeat' (first | (simp (maxDischargeDepth := 40) [h_]; done) | intro _ | apply kept_foldl | apply kept_foldl_fst | apply kept_foldl_snd | apply kept_forEach | split))

@[simp] theorem kept_execRelease {s0_ : State} (origin : BitVec 6) (relay : Bool) (group : BitVec 8) (seq : BitVec 8) (s : State) (h_ : Kept s0_ s)  : OutKept s0_ (execRelease origin relay group seq s) := by
  first
    | (simp (maxDischargeDepth := 40) [execRelease, h_]; done)
    | (unfold execRelease; (try dsimp only); repeat' (first | (simp (maxDischargeDepth := 40) [h_]; done) | intro _ | apply kept_foldl | apply kept_foldl_fst | apply kept_foldl_snd | apply kept_forEach | split))

@[simp] theorem kept_execLeave {s0_ : State} (origin : BitVec 6) (group : BitVec 8) (s : State) (h_ : Kept s0_ s)  : OutKept s0_ (execLeave origin group s) := by
  first
    | (simp (maxDischargeDepth := 40) [execLeave, h_]; done)
    | (unfold execLeave; (try dsimp only); repeat' (first | (simp (maxDischargeDepth := 40) [h_]; done) | intro _ | apply kept_foldl | apply kept_foldl_fst | apply kept_foldl_snd | apply kept_forEach | split))

@[simp] theorem kept_execPaceCrcDrop {s0_ : State} (payload : BitVec 56) (crc : BitVec 16) (s : State) (h_ : Kept s0_ s)  : OutKept s0_ (execPaceCrcDrop payload crc s) := by
  first
    | (simp (maxDischargeDepth := 40) [execPaceCrcDrop, h_]; done)
    | (unfold execPaceCrcDrop; (try dsimp only); repeat' (first | (simp (maxDischargeDepth := 40) [h_]; done) | intro _ | apply kept_foldl | apply kept_foldl_fst | apply kept_foldl_snd | apply kept_forEach | split))

@[simp] theorem kept_execPaceDiscovery {s0_ : State} (s : State) (h_ : Kept s0_ s)  : OutKept s0_ (execPaceDiscovery s) := by
  first
    | (simp (maxDischargeDepth := 40) [execPaceDiscovery, h_]; done)
    | (unfold execPaceDiscovery; (try dsimp only); repeat' (first | (simp (maxDischargeDepth := 40) [h_]; done) | intro _ | apply kept_foldl | apply kept_foldl_fst | apply kept_foldl_snd | apply kept_forEach | split))

@[simp] theorem kept_execPaceDiscoveryRetry {s0_ : State} (s : State) (h_ : Kept s0_ s)  : OutKept s0_ (execPaceDiscoveryRetry s) := by
  first
    | (simp (maxDischargeDepth := 40) [execPaceDiscoveryRetry, h_]; done)
    | (unfold execPaceDiscoveryRetry; (try dsimp only); repeat' (first | (simp (maxDischargeDepth := 40) [h_]; done) | intro _ | apply kept_foldl | apply kept_foldl_fst | apply kept_foldl_snd | apply kept_forEach | split))

@[simp] theorem kept_execPaceLiveSend {s0_ : State} (s : State) (h_ : Kept s0_ s)  : OutKept s0_ (execPaceLiveSend s) := by
  first
    | (simp (maxDischargeDepth := 40) [execPaceLiveSend, h_]; done)
    | (unfold execPaceLiveSend; (try dsimp only); repeat' (first | (simp (maxDischargeDepth := 40) [h_]; done) | intro _ | apply kept_foldl | apply kept_foldl_fst | apply kept_foldl_snd | apply kept_forEach | split))

@[simp] theorem kept_execPaceLockLoss {s0_ : State} (s : State) (h_ : Kept s0_ s)  : OutKept s0_ (execPaceLockLoss s) := by
  first
    | (simp (maxDischargeDepth := 40) [execPaceLockLoss, h_]; done)
    | (unfold execPaceLockLoss; (try dsimp only); repeat' (first | (simp (maxDischargeDepth := 40) [h_]; done) | intro _ | apply kept_foldl | apply kept_foldl_fst | apply kept_foldl_snd | apply kept_forEach | split))

@[simp] theorem kept_execPaceLockGain {s0_ : State} (s : State) (h_ : Kept s0_ s)  : OutKept s0_ (execPaceLockGain s) := by
  first
    | (simp (maxDischargeDepth := 40) [execPaceLockGain, h_]; done)
    | (unfold execPaceLockGain; (try dsimp only); repeat' (first | (simp (maxDischargeDepth := 40) [h_]; done) | intro _ | apply kept_foldl | apply kept_foldl_fst | apply kept_foldl_snd | apply kept_forEach | split))

@[simp] theorem kept_execPaceSilence {s0_ : State} (s : State) (h_ : Kept s0_ s)  : OutKept s0_ (execPaceSilence s) := by
  first
    | (simp (maxDischargeDepth := 40) [execPaceSilence, h_]; done)
    | (unfold execPaceSilence; (try dsimp only); repeat' (first | (simp (maxDischargeDepth := 40) [h_]; done) | intro _ | apply kept_foldl | apply kept_foldl_fst | apply kept_foldl_snd | apply kept_forEach | split))

@[simp] theorem kept_execPaceSolo {s0_ : State} (s : State) (h_ : Kept s0_ s)  : OutKept s0_ (execPaceSolo s) := by
  first
    | (simp (maxDischargeDepth := 40) [execPaceSolo, h_]; done)
    | (unfold execPaceSolo; (try dsimp only); repeat' (first | (simp (maxDischargeDepth := 40) [h_]; done) | intro _ | apply kept_foldl | apply kept_foldl_fst | apply kept_foldl_snd | apply kept_forEach | split))

@[simp] theorem kept_execPaceEntryExpire {s0_ : State} (carried : Bool) (origin : BitVec 6) (relay : Bool) (s : State) (h_ : Kept s0_ s)  : OutKept s0_ (execPaceEntryExpire carried origin relay s) := by
  first
    | (simp (maxDischargeDepth := 40) [execPaceEntryExpire, h_]; done)
    | (unfold execPaceEntryExpire; (try dsimp only); repeat' (first | (simp (maxDischargeDepth := 40) [h_]; done) | intro _ | apply kept_foldl | apply kept_foldl_fst | apply kept_foldl_snd | apply kept_forEach | split))

@[simp] theorem kept_State_paceResend {s0_ : State} (s : State) (relay : Bool) (h_ : Kept s0_ s)  : Kept s0_ (State.paceResend s relay) := by
  first
    | (simp (maxDischargeDepth := 40) [State.paceResend, h_]; done)
    | (unfold State.paceResend; (try dsimp only); repeat' (first | (simp (maxDischargeDepth := 40) [h_]; done) | intro _ | apply kept_foldl | apply kept_foldl_fst | apply kept_foldl_snd | apply kept_forEach | split))

@[simp] theorem kept_execPaceRefresh {s0_ : State} (s : State) (h_ : Kept s0_ s)  : OutKept s0_ (execPaceRefresh s) := by
  first
    | (simp (maxDischargeDepth := 40) [execPaceRefresh, h_]; done)
    | (unfold execPaceRefresh; (try dsimp only); repeat' (first | (simp (maxDischargeDepth := 40) [h_]; done) | intro _ | apply kept_foldl | apply kept_foldl_fst | apply kept_foldl_snd | apply kept_forEach | split))

@[simp] theorem kept_execPaceReservedFrame {s0_ : State} (payload : BitVec 56) (s : State) (h_ : Kept s0_ s)  : OutKept s0_ (execPaceReservedFrame payload s) := by
  first
    | (simp (maxDischargeDepth := 40) [execPaceReservedFrame, h_]; done)
    | (unfold execPaceReservedFrame; (try dsimp only); repeat' (first | (simp (maxDischargeDepth := 40) [h_]; done) | intro _ | apply kept_foldl | apply kept_foldl_fst | apply kept_foldl_snd | apply kept_forEach | split))

end Sys2Proof.Machine
end

