-- ==== Sys2Proof/Laws/KeptSmbus.lean ====
section
/-! SUPPORT. What the operations of Machine/Smbus.lean keep (Laws/Kept.lean). -/

set_option linter.unusedSimpArgs false
set_option linter.unusedVariables false

namespace Sys2Proof.Machine

@[simp] theorem kept_State_smbReply {s0_ : State} (s : State) (l : List Byte) (h_ : Kept s0_ s)  : Kept s0_ (State.smbReply s l) := by
  first
    | (simp (maxDischargeDepth := 40) [State.smbReply, h_]; done)
    | (unfold State.smbReply; (try dsimp only); repeat' (first | (simp (maxDischargeDepth := 40) [h_]; done) | intro _ | apply kept_foldl | apply kept_foldl_fst | apply kept_foldl_snd | apply kept_forEach | split))

@[simp] theorem kept_State_replyByte {s0_ : State} (s : State) (n : Nat) (h_ : Kept s0_ s)  : Kept s0_ (State.replyByte s n) := by
  first
    | (simp (maxDischargeDepth := 40) [State.replyByte, h_]; done)
    | (unfold State.replyByte; (try dsimp only); repeat' (first | (simp (maxDischargeDepth := 40) [h_]; done) | intro _ | apply kept_foldl | apply kept_foldl_fst | apply kept_foldl_snd | apply kept_forEach | split))

@[simp] theorem kept_State_replyWord {s0_ : State} (s : State) (n : Nat) (h_ : Kept s0_ s)  : Kept s0_ (State.replyWord s n) := by
  first
    | (simp (maxDischargeDepth := 40) [State.replyWord, h_]; done)
    | (unfold State.replyWord; (try dsimp only); repeat' (first | (simp (maxDischargeDepth := 40) [h_]; done) | intro _ | apply kept_foldl | apply kept_foldl_fst | apply kept_foldl_snd | apply kept_forEach | split))

@[simp] theorem kept_State_replyBlock {s0_ : State} (s : State) (l : List Byte) (h_ : Kept s0_ s)  : Kept s0_ (State.replyBlock s l) := by
  first
    | (simp (maxDischargeDepth := 40) [State.replyBlock, h_]; done)
    | (unfold State.replyBlock; (try dsimp only); repeat' (first | (simp (maxDischargeDepth := 40) [h_]; done) | intro _ | apply kept_foldl | apply kept_foldl_fst | apply kept_foldl_snd | apply kept_forEach | split))

@[simp] theorem kept_State_cml {s0_ : State} (s : State) (b : Nat) (h_ : Kept s0_ s)  : Kept s0_ (State.cml s b) := by
  first
    | (simp (maxDischargeDepth := 40) [State.cml, h_]; done)
    | (unfold State.cml; (try dsimp only); repeat' (first | (simp (maxDischargeDepth := 40) [h_]; done) | intro _ | apply kept_foldl | apply kept_foldl_fst | apply kept_foldl_snd | apply kept_forEach | split))

@[simp] theorem kept_State_badData {s0_ : State} (s : State) (h_ : Kept s0_ s)  : Kept s0_ (State.badData s) := by
  first
    | (simp (maxDischargeDepth := 40) [State.badData, h_]; done)
    | (unfold State.badData; (try dsimp only); repeat' (first | (simp (maxDischargeDepth := 40) [h_]; done) | intro _ | apply kept_foldl | apply kept_foldl_fst | apply kept_foldl_snd | apply kept_forEach | split))

@[simp] theorem kept_State_pmbus {s0_ : State} (s : State) (f : State → State) (h_ : Kept s0_ s) (h_f : ∀ t, Kept t (f t)) : OutKept s0_ (State.pmbus s f) := by
  unfold State.pmbus
  split
  · exact outKept_settle (Kept.trans (by simp [h_]) (h_f _))
  · exact h_

@[simp] theorem kept_State_pmWrite {s0_ : State} (s : State) (pec : Pec) (f : State → State) (h_ : Kept s0_ s) (h_f : ∀ t, Kept t (f t)) : OutKept s0_ (State.pmWrite s pec f) := by
  have h_f := fun (a t : State) (h : Kept a t) => h.trans (h_f t)
  first
    | (simp (maxDischargeDepth := 40) [State.pmWrite, State.badPec, h_, h_f]; done)
    | (unfold State.pmWrite State.badPec; (try dsimp only); repeat' (first | (simp (maxDischargeDepth := 40) [h_, h_f]; done) | intro _ | apply kept_foldl | apply kept_foldl_fst | apply kept_foldl_snd | apply kept_forEach | split))

@[simp] theorem kept_State_replyLinear {s0_ : State} (s : State) (v : Option Rat) (h_ : Kept s0_ s)  : Kept s0_ (State.replyLinear s v) := by
  first
    | (simp (maxDischargeDepth := 40) [State.replyLinear, h_]; done)
    | (unfold State.replyLinear; (try dsimp only); repeat' (first | (simp (maxDischargeDepth := 40) [h_]; done) | intro _ | apply kept_foldl | apply kept_foldl_fst | apply kept_foldl_snd | apply kept_forEach | split))

@[simp] theorem kept_State_readChip {s0_ : State} (s : State) (v : Rat) (h_ : Kept s0_ s)  : Kept s0_ (State.readChip s v) := by
  first
    | (simp (maxDischargeDepth := 40) [State.readChip, h_]; done)
    | (unfold State.readChip; (try dsimp only); repeat' (first | (simp (maxDischargeDepth := 40) [h_]; done) | intro _ | apply kept_foldl | apply kept_foldl_fst | apply kept_foldl_snd | apply kept_forEach | split))

@[simp] theorem kept_execPrepareToArp {s0_ : State} (s : State) (h_ : Kept s0_ s)  : OutKept s0_ (execPrepareToArp s) := by
  first
    | (simp (maxDischargeDepth := 40) [execPrepareToArp, h_]; done)
    | (unfold execPrepareToArp; (try dsimp only); repeat' (first | (simp (maxDischargeDepth := 40) [h_]; done) | intro _ | apply kept_foldl | apply kept_foldl_fst | apply kept_foldl_snd | apply kept_forEach | split))

@[simp] theorem kept_execResetDevice {s0_ : State} (s : State) (h_ : Kept s0_ s)  : OutKept s0_ (execResetDevice s) := by
  first
    | (simp (maxDischargeDepth := 40) [execResetDevice, h_]; done)
    | (unfold execResetDevice; (try dsimp only); repeat' (first | (simp (maxDischargeDepth := 40) [h_]; done) | intro _ | apply kept_foldl | apply kept_foldl_fst | apply kept_foldl_snd | apply kept_forEach | split))

@[simp] theorem kept_execGetUdid {s0_ : State} (s : State) (h_ : Kept s0_ s)  : OutKept s0_ (execGetUdid s) := by
  first
    | (simp (maxDischargeDepth := 40) [execGetUdid, h_]; done)
    | (unfold execGetUdid; (try dsimp only); repeat' (first | (simp (maxDischargeDepth := 40) [h_]; done) | intro _ | apply kept_foldl | apply kept_foldl_fst | apply kept_foldl_snd | apply kept_forEach | split))

@[simp] theorem kept_execAssignAddress {s0_ : State} (udid : BitVec 128) (a : BitVec 7) (s : State) (h_ : Kept s0_ s)  : OutKept s0_ (execAssignAddress udid a s) := by
  first
    | (simp (maxDischargeDepth := 40) [execAssignAddress, h_]; done)
    | (unfold execAssignAddress; (try dsimp only); repeat' (first | (simp (maxDischargeDepth := 40) [h_]; done) | intro _ | apply kept_foldl | apply kept_foldl_fst | apply kept_foldl_snd | apply kept_forEach | split))

@[simp] theorem kept_execSmbusTimeout {s0_ : State} (s : State) (h_ : Kept s0_ s)  : OutKept s0_ (execSmbusTimeout s) := by
  first
    | (simp (maxDischargeDepth := 40) [execSmbusTimeout, h_]; done)
    | (unfold execSmbusTimeout; (try dsimp only); repeat' (first | (simp (maxDischargeDepth := 40) [h_]; done) | intro _ | apply kept_foldl | apply kept_foldl_fst | apply kept_foldl_snd | apply kept_forEach | split))

@[simp] theorem kept_execAlertResponse {s0_ : State} (s : State) (h_ : Kept s0_ s)  : OutKept s0_ (execAlertResponse s) := by
  first
    | (simp (maxDischargeDepth := 40) [execAlertResponse, h_]; done)
    | (unfold execAlertResponse; (try dsimp only); repeat' (first | (simp (maxDischargeDepth := 40) [h_]; done) | intro _ | apply kept_foldl | apply kept_foldl_fst | apply kept_foldl_snd | apply kept_forEach | split))

@[simp] theorem kept_execPage {s0_ : State} (pec : Pec) (w : Option Byte) (s : State) (h_ : Kept s0_ s)  : OutKept s0_ (execPage pec w s) := by
  first
    | (simp (maxDischargeDepth := 40) [execPage, h_]; done)
    | (unfold execPage; (try dsimp only); repeat' (first | (simp (maxDischargeDepth := 40) [h_]; done) | intro _ | apply kept_foldl | apply kept_foldl_fst | apply kept_foldl_snd | apply kept_forEach | split))

@[simp] theorem kept_execClearFaults {s0_ : State} (pec : Pec) (s : State) (h_ : Kept s0_ s)  : OutKept s0_ (execClearFaults pec s) := by
  first
    | (simp (maxDischargeDepth := 40) [execClearFaults, h_]; done)
    | (unfold execClearFaults; (try dsimp only); repeat' (first | (simp (maxDischargeDepth := 40) [h_]; done) | intro _ | apply kept_foldl | apply kept_foldl_fst | apply kept_foldl_snd | apply kept_forEach | split))

@[simp] theorem kept_execCapability {s0_ : State} (s : State) (h_ : Kept s0_ s)  : OutKept s0_ (execCapability s) := by
  first
    | (simp (maxDischargeDepth := 40) [execCapability, h_]; done)
    | (unfold execCapability; (try dsimp only); repeat' (first | (simp (maxDischargeDepth := 40) [h_]; done) | intro _ | apply kept_foldl | apply kept_foldl_fst | apply kept_foldl_snd | apply kept_forEach | split))

@[simp] theorem kept_execVoutMode {s0_ : State} (s : State) (h_ : Kept s0_ s)  : OutKept s0_ (execVoutMode s) := by
  first
    | (simp (maxDischargeDepth := 40) [execVoutMode, h_]; done)
    | (unfold execVoutMode; (try dsimp only); repeat' (first | (simp (maxDischargeDepth := 40) [h_]; done) | intro _ | apply kept_foldl | apply kept_foldl_fst | apply kept_foldl_snd | apply kept_forEach | split))

@[simp] theorem kept_execPmbusRevision {s0_ : State} (s : State) (h_ : Kept s0_ s)  : OutKept s0_ (execPmbusRevision s) := by
  first
    | (simp (maxDischargeDepth := 40) [execPmbusRevision, h_]; done)
    | (unfold execPmbusRevision; (try dsimp only); repeat' (first | (simp (maxDischargeDepth := 40) [h_]; done) | intro _ | apply kept_foldl | apply kept_foldl_fst | apply kept_foldl_snd | apply kept_forEach | split))

@[simp] theorem kept_execMfrId {s0_ : State} (s : State) (h_ : Kept s0_ s)  : OutKept s0_ (execMfrId s) := by
  first
    | (simp (maxDischargeDepth := 40) [execMfrId, h_]; done)
    | (unfold execMfrId; (try dsimp only); repeat' (first | (simp (maxDischargeDepth := 40) [h_]; done) | intro _ | apply kept_foldl | apply kept_foldl_fst | apply kept_foldl_snd | apply kept_forEach | split))

@[simp] theorem kept_execMfrModel {s0_ : State} (s : State) (h_ : Kept s0_ s)  : OutKept s0_ (execMfrModel s) := by
  first
    | (simp (maxDischargeDepth := 40) [execMfrModel, h_]; done)
    | (unfold execMfrModel; (try dsimp only); repeat' (first | (simp (maxDischargeDepth := 40) [h_]; done) | intro _ | apply kept_foldl | apply kept_foldl_fst | apply kept_foldl_snd | apply kept_forEach | split))

@[simp] theorem kept_execMfrRevision {s0_ : State} (s : State) (h_ : Kept s0_ s)  : OutKept s0_ (execMfrRevision s) := by
  first
    | (simp (maxDischargeDepth := 40) [execMfrRevision, h_]; done)
    | (unfold execMfrRevision; (try dsimp only); repeat' (first | (simp (maxDischargeDepth := 40) [h_]; done) | intro _ | apply kept_foldl | apply kept_foldl_fst | apply kept_foldl_snd | apply kept_forEach | split))

@[simp] theorem kept_execMfrSerial {s0_ : State} (s : State) (h_ : Kept s0_ s)  : OutKept s0_ (execMfrSerial s) := by
  first
    | (simp (maxDischargeDepth := 40) [execMfrSerial, h_]; done)
    | (unfold execMfrSerial; (try dsimp only); repeat' (first | (simp (maxDischargeDepth := 40) [h_]; done) | intro _ | apply kept_foldl | apply kept_foldl_fst | apply kept_foldl_snd | apply kept_forEach | split))

@[simp] theorem kept_execStatusByte {s0_ : State} (s : State) (h_ : Kept s0_ s)  : OutKept s0_ (execStatusByte s) := by
  first
    | (simp (maxDischargeDepth := 40) [execStatusByte, h_]; done)
    | (unfold execStatusByte; (try dsimp only); repeat' (first | (simp (maxDischargeDepth := 40) [h_]; done) | intro _ | apply kept_foldl | apply kept_foldl_fst | apply kept_foldl_snd | apply kept_forEach | split))

@[simp] theorem kept_execStatusWord {s0_ : State} (s : State) (h_ : Kept s0_ s)  : OutKept s0_ (execStatusWord s) := by
  first
    | (simp (maxDischargeDepth := 40) [execStatusWord, h_]; done)
    | (unfold execStatusWord; (try dsimp only); repeat' (first | (simp (maxDischargeDepth := 40) [h_]; done) | intro _ | apply kept_foldl | apply kept_foldl_fst | apply kept_foldl_snd | apply kept_forEach | split))

@[simp] theorem kept_execStatusTemperature {s0_ : State} (s : State) (h_ : Kept s0_ s)  : OutKept s0_ (execStatusTemperature s) := by
  first
    | (simp (maxDischargeDepth := 40) [execStatusTemperature, h_]; done)
    | (unfold execStatusTemperature; (try dsimp only); repeat' (first | (simp (maxDischargeDepth := 40) [h_]; done) | intro _ | apply kept_foldl | apply kept_foldl_fst | apply kept_foldl_snd | apply kept_forEach | split))

@[simp] theorem kept_execStatusCml {s0_ : State} (s : State) (h_ : Kept s0_ s)  : OutKept s0_ (execStatusCml s) := by
  first
    | (simp (maxDischargeDepth := 40) [execStatusCml, h_]; done)
    | (unfold execStatusCml; (try dsimp only); repeat' (first | (simp (maxDischargeDepth := 40) [h_]; done) | intro _ | apply kept_foldl | apply kept_foldl_fst | apply kept_foldl_snd | apply kept_forEach | split))

@[simp] theorem kept_execStatusMfrSpecific {s0_ : State} (s : State) (h_ : Kept s0_ s)  : OutKept s0_ (execStatusMfrSpecific s) := by
  first
    | (simp (maxDischargeDepth := 40) [execStatusMfrSpecific, h_]; done)
    | (unfold execStatusMfrSpecific; (try dsimp only); repeat' (first | (simp (maxDischargeDepth := 40) [h_]; done) | intro _ | apply kept_foldl | apply kept_foldl_fst | apply kept_foldl_snd | apply kept_forEach | split))

@[simp] theorem kept_execReadVin {s0_ : State} (s : State) (h_ : Kept s0_ s)  : OutKept s0_ (execReadVin s) := by
  first
    | (simp (maxDischargeDepth := 40) [execReadVin, h_]; done)
    | (unfold execReadVin; (try dsimp only); repeat' (first | (simp (maxDischargeDepth := 40) [h_]; done) | intro _ | apply kept_foldl | apply kept_foldl_fst | apply kept_foldl_snd | apply kept_forEach | split))

@[simp] theorem kept_execReadIin {s0_ : State} (s : State) (h_ : Kept s0_ s)  : OutKept s0_ (execReadIin s) := by
  first
    | (simp (maxDischargeDepth := 40) [execReadIin, h_]; done)
    | (unfold execReadIin; (try dsimp only); repeat' (first | (simp (maxDischargeDepth := 40) [h_]; done) | intro _ | apply kept_foldl | apply kept_foldl_fst | apply kept_foldl_snd | apply kept_forEach | split))

@[simp] theorem kept_execReadVout {s0_ : State} (s : State) (h_ : Kept s0_ s)  : OutKept s0_ (execReadVout s) := by
  unfold execReadVout
  refine kept_State_pmbus _ _ h_ fun t => ?_
  (try dsimp only)
  repeat' (first | (simp (maxDischargeDepth := 40); done) | split)

@[simp] theorem kept_execReadIout {s0_ : State} (s : State) (h_ : Kept s0_ s)  : OutKept s0_ (execReadIout s) := by
  unfold execReadIout
  refine kept_State_pmbus _ _ h_ fun t => ?_
  (try dsimp only)
  repeat' (first | (simp (maxDischargeDepth := 40); done) | split)

@[simp] theorem kept_execReadPout {s0_ : State} (s : State) (h_ : Kept s0_ s)  : OutKept s0_ (execReadPout s) := by
  unfold execReadPout
  refine kept_State_pmbus _ _ h_ fun t => ?_
  (try dsimp only)
  repeat' (first | (simp (maxDischargeDepth := 40); done) | split)

@[simp] theorem kept_execReadPin {s0_ : State} (s : State) (h_ : Kept s0_ s)  : OutKept s0_ (execReadPin s) := by
  first
    | (simp (maxDischargeDepth := 40) [execReadPin, h_]; done)
    | (unfold execReadPin; (try dsimp only); repeat' (first | (simp (maxDischargeDepth := 40) [h_]; done) | intro _ | apply kept_foldl | apply kept_foldl_fst | apply kept_foldl_snd | apply kept_forEach | split))

@[simp] theorem kept_execReadTemperature1 {s0_ : State} (s : State) (h_ : Kept s0_ s)  : OutKept s0_ (execReadTemperature1 s) := by
  unfold execReadTemperature1
  refine kept_State_pmbus _ _ h_ fun t => ?_
  (try dsimp only)
  repeat' (first | (simp (maxDischargeDepth := 40); done) | split)

@[simp] theorem kept_State_restart {s0_ : State} (s : State) (h_ : Kept s0_ s)  : Kept s0_ (State.restart s) := by
  first
    | (simp (maxDischargeDepth := 40) [State.restart, h_]; done)
    | (unfold State.restart; (try dsimp only); repeat' (first | (simp (maxDischargeDepth := 40) [h_]; done) | intro _ | apply kept_foldl | apply kept_foldl_fst | apply kept_foldl_snd | apply kept_forEach | split))

@[simp] theorem kept_execMfrRestart {s0_ : State} (pec : Pec) (data : Byte) (s : State) (h_ : Kept s0_ s)  : OutKept s0_ (execMfrRestart pec data s) := by
  first
    | (simp (maxDischargeDepth := 40) [execMfrRestart, State.badPec, h_]; done)
    | (unfold execMfrRestart State.badPec; (try dsimp only); repeat' (first | (simp (maxDischargeDepth := 40) [h_]; done) | intro _ | apply kept_foldl | apply kept_foldl_fst | apply kept_foldl_snd | apply kept_forEach | split))

@[simp] theorem kept_execMfrErrn {s0_ : State} (pec : Pec) (w : Option Byte) (s : State) (h_ : Kept s0_ s)  : OutKept s0_ (execMfrErrn pec w s) := by
  first
    | (simp (maxDischargeDepth := 40) [execMfrErrn, h_]; done)
    | (unfold execMfrErrn; (try dsimp only); repeat' (first | (simp (maxDischargeDepth := 40) [h_]; done) | intro _ | apply kept_foldl | apply kept_foldl_fst | apply kept_foldl_snd | apply kept_forEach | split))

@[simp] theorem kept_execMfrFault {s0_ : State} (s : State) (h_ : Kept s0_ s)  : OutKept s0_ (execMfrFault s) := by
  first
    | (simp (maxDischargeDepth := 40) [execMfrFault, h_]; done)
    | (unfold execMfrFault; (try dsimp only); repeat' (first | (simp (maxDischargeDepth := 40) [h_]; done) | intro _ | apply kept_foldl | apply kept_foldl_fst | apply kept_foldl_snd | apply kept_forEach | split))

@[simp] theorem kept_execMfrStart {s0_ : State} (s : State) (h_ : Kept s0_ s)  : OutKept s0_ (execMfrStart s) := by
  first
    | (simp (maxDischargeDepth := 40) [execMfrStart, h_]; done)
    | (unfold execMfrStart; (try dsimp only); repeat' (first | (simp (maxDischargeDepth := 40) [h_]; done) | intro _ | apply kept_foldl | apply kept_foldl_fst | apply kept_foldl_snd | apply kept_forEach | split))

@[simp] theorem kept_execMfrVaultAddr {s0_ : State} (pec : Pec) (off : Word) (s : State) (h_ : Kept s0_ s)  : OutKept s0_ (execMfrVaultAddr pec off s) := by
  first
    | (simp (maxDischargeDepth := 40) [execMfrVaultAddr, h_]; done)
    | (unfold execMfrVaultAddr; (try dsimp only); repeat' (first | (simp (maxDischargeDepth := 40) [h_]; done) | intro _ | apply kept_foldl | apply kept_foldl_fst | apply kept_foldl_snd | apply kept_forEach | split))

@[simp] theorem kept_State_vaultBlock {s0_ : State} (s : State) (h_ : Kept s0_ s)  : Kept s0_ (State.vaultBlock s).2 := by
  first
    | (simp (maxDischargeDepth := 40) [State.vaultBlock, h_]; done)
    | (unfold State.vaultBlock; (try dsimp only); repeat' (first | (simp (maxDischargeDepth := 40) [h_]; done) | intro _ | apply kept_foldl | apply kept_foldl_fst | apply kept_foldl_snd | apply kept_forEach | split))

@[simp] theorem kept_execMfrVaultData {s0_ : State} (s : State) (h_ : Kept s0_ s)  : OutKept s0_ (execMfrVaultData s) := by
  first
    | (simp (maxDischargeDepth := 40) [execMfrVaultData, h_]; done)
    | (unfold execMfrVaultData; (try dsimp only); repeat' (first | (simp (maxDischargeDepth := 40) [h_]; done) | intro _ | apply kept_foldl | apply kept_foldl_fst | apply kept_foldl_snd | apply kept_forEach | split))

@[simp] theorem kept_execMfrMboxCmd {s0_ : State} (pec : Pec) (op : BitVec 8) (tag : BitVec 8) (args : List Word) (data : Option (List Word)) (s : State) (h_ : Kept s0_ s)  : OutKept s0_ (execMfrMboxCmd pec op tag args data s) := by
  first
    | (simp (maxDischargeDepth := 40) [execMfrMboxCmd, h_]; done)
    | (unfold execMfrMboxCmd; (try dsimp only); repeat' (first | (simp (maxDischargeDepth := 40) [h_]; done) | intro _ | apply kept_foldl | apply kept_foldl_fst | apply kept_foldl_snd | apply kept_forEach | split))

@[simp] theorem kept_execMfrMboxStat {s0_ : State} (s : State) (h_ : Kept s0_ s)  : OutKept s0_ (execMfrMboxStat s) := by
  first
    | (simp (maxDischargeDepth := 40) [execMfrMboxStat, h_]; done)
    | (unfold execMfrMboxStat; (try dsimp only); repeat' (first | (simp (maxDischargeDepth := 40) [h_]; done) | intro _ | apply kept_foldl | apply kept_foldl_fst | apply kept_foldl_snd | apply kept_forEach | split))

@[simp] theorem kept_execMfrRegAddr {s0_ : State} (pec : Pec) (off : BitVec 16) (s : State) (h_ : Kept s0_ s)  : OutKept s0_ (execMfrRegAddr pec off s) := by
  first
    | (simp (maxDischargeDepth := 40) [execMfrRegAddr, h_]; done)
    | (unfold execMfrRegAddr; (try dsimp only); repeat' (first | (simp (maxDischargeDepth := 40) [h_]; done) | intro _ | apply kept_foldl | apply kept_foldl_fst | apply kept_foldl_snd | apply kept_forEach | split))

@[simp] theorem kept_execMfrRegData {s0_ : State} (s : State) (h_ : Kept s0_ s)  : OutKept s0_ (execMfrRegData s) := by
  unfold execMfrRegData
  refine kept_State_pmbus _ _ h_ fun t => ?_
  (try dsimp only)
  repeat' (first | (simp (maxDischargeDepth := 40); done) | split)

@[simp] theorem kept_execPmbusInvalidCommand {s0_ : State} (code : Byte) (s : State) (h_ : Kept s0_ s)  : OutKept s0_ (execPmbusInvalidCommand code s) := by
  first
    | (simp (maxDischargeDepth := 40) [execPmbusInvalidCommand, h_]; done)
    | (unfold execPmbusInvalidCommand; (try dsimp only); repeat' (first | (simp (maxDischargeDepth := 40) [h_]; done) | intro _ | apply kept_foldl | apply kept_foldl_fst | apply kept_foldl_snd | apply kept_forEach | split))

end Sys2Proof.Machine
end

