-- ==== Sys2Proof/Laws/KeptTestPort.lean ====
section
/-! SUPPORT. What the operations of Machine/TestPort.lean keep (Laws/Kept.lean). -/

set_option linter.unusedSimpArgs false
set_option linter.unusedVariables false

namespace Sys2Proof.Machine

@[simp] theorem kept_execWardenWake {s0_ : State} (s : State) (h_ : Kept s0_ s)  : OutKept s0_ (execWardenWake s) := by
  first
    | (simp (maxDischargeDepth := 40) [execWardenWake, h_]; done)
    | (unfold execWardenWake; (try dsimp only); repeat' (first | (simp (maxDischargeDepth := 40) [h_]; done) | intro _ | apply kept_foldl | apply kept_foldl_fst | apply kept_foldl_snd | apply kept_forEach | split))

@[simp] theorem kept_execWardenSleep {s0_ : State} (s : State) (h_ : Kept s0_ s)  : OutKept s0_ (execWardenSleep s) := by
  first
    | (simp (maxDischargeDepth := 40) [execWardenSleep, h_]; done)
    | (unfold execWardenSleep; (try dsimp only); repeat' (first | (simp (maxDischargeDepth := 40) [h_]; done) | intro _ | apply kept_foldl | apply kept_foldl_fst | apply kept_foldl_snd | apply kept_forEach | split))

@[simp] theorem kept_execWardenAlarm {s0_ : State} (s : State) (h_ : Kept s0_ s)  : OutKept s0_ (execWardenAlarm s) := by
  first
    | (simp (maxDischargeDepth := 40) [execWardenAlarm, h_]; done)
    | (unfold execWardenAlarm; (try dsimp only); repeat' (first | (simp (maxDischargeDepth := 40) [h_]; done) | intro _ | apply kept_foldl | apply kept_foldl_fst | apply kept_foldl_snd | apply kept_forEach | split))

@[simp] theorem kept_State_capture {s0_ : State} (s : State) (therm : Bool) (errn : Bool) (alert : Bool) (h_ : Kept s0_ s)  : Kept s0_ (State.capture s therm errn alert).2 := by
  first
    | (simp (maxDischargeDepth := 40) [State.capture, h_]; done)
    | (unfold State.capture; (try dsimp only); repeat' (first | (simp (maxDischargeDepth := 40) [h_]; done) | intro _ | apply kept_foldl | apply kept_foldl_fst | apply kept_foldl_snd | apply kept_forEach | split))

@[simp] theorem kept_State_captureRun {s0_ : State} (s : State) (h_ : Kept s0_ s)  : Kept s0_ (State.captureRun s).2 := by
  first
    | (simp (maxDischargeDepth := 40) [State.captureRun, h_]; done)
    | (unfold State.captureRun; (try dsimp only); repeat' (first | (simp (maxDischargeDepth := 40) [h_]; done) | intro _ | apply kept_foldl | apply kept_foldl_fst | apply kept_foldl_snd | apply kept_forEach | split))

@[simp] theorem kept_State_captureTest {s0_ : State} (s : State) (h_ : Kept s0_ s)  : Kept s0_ (State.captureTest s).2 := by
  first
    | (simp (maxDischargeDepth := 40) [State.captureTest, h_]; done)
    | (unfold State.captureTest; (try dsimp only); repeat' (first | (simp (maxDischargeDepth := 40) [h_]; done) | intro _ | apply kept_foldl | apply kept_foldl_fst | apply kept_foldl_snd | apply kept_forEach | split))

@[simp] theorem kept_State_tapSelect {s0_ : State} (s : State) (ir : TapIr) (dr : Nat) (h_ : Kept s0_ s)  : Kept s0_ (State.tapSelect s ir dr) := by
  first
    | (simp (maxDischargeDepth := 40) [State.tapSelect, h_]; done)
    | (unfold State.tapSelect; (try dsimp only); repeat' (first | (simp (maxDischargeDepth := 40) [h_]; done) | intro _ | apply kept_foldl | apply kept_foldl_fst | apply kept_foldl_snd | apply kept_forEach | split))

@[simp] theorem kept_execTapReset {s0_ : State} (s : State) (h_ : Kept s0_ s)  : OutKept s0_ (execTapReset s) := by
  first
    | (simp (maxDischargeDepth := 40) [execTapReset, h_]; done)
    | (unfold execTapReset; (try dsimp only); repeat' (first | (simp (maxDischargeDepth := 40) [h_]; done) | intro _ | apply kept_foldl | apply kept_foldl_fst | apply kept_foldl_snd | apply kept_forEach | split))

@[simp] theorem kept_execIdcode {s0_ : State} (s : State) (h_ : Kept s0_ s)  : OutKept s0_ (execIdcode s) := by
  first
    | (simp (maxDischargeDepth := 40) [execIdcode, h_]; done)
    | (unfold execIdcode; (try dsimp only); repeat' (first | (simp (maxDischargeDepth := 40) [h_]; done) | intro _ | apply kept_foldl | apply kept_foldl_fst | apply kept_foldl_snd | apply kept_forEach | split))

@[simp] theorem kept_State_tapBypass {s0_ : State} (s : State) (h_ : Kept s0_ s)  : Kept s0_ (State.tapBypass s) := by
  first
    | (simp (maxDischargeDepth := 40) [State.tapBypass, h_]; done)
    | (unfold State.tapBypass; (try dsimp only); repeat' (first | (simp (maxDischargeDepth := 40) [h_]; done) | intro _ | apply kept_foldl | apply kept_foldl_fst | apply kept_foldl_snd | apply kept_forEach | split))

@[simp] theorem kept_execBypass {s0_ : State} (s : State) (h_ : Kept s0_ s)  : OutKept s0_ (execBypass s) := by
  first
    | (simp (maxDischargeDepth := 40) [execBypass, h_]; done)
    | (unfold execBypass; (try dsimp only); repeat' (first | (simp (maxDischargeDepth := 40) [h_]; done) | intro _ | apply kept_foldl | apply kept_foldl_fst | apply kept_foldl_snd | apply kept_forEach | split))

@[simp] theorem kept_execExtest {s0_ : State} (s : State) (h_ : Kept s0_ s)  : OutKept s0_ (execExtest s) := by
  first
    | (simp (maxDischargeDepth := 40) [execExtest, h_]; done)
    | (unfold execExtest; (try dsimp only); repeat' (first | (simp (maxDischargeDepth := 40) [h_]; done) | intro _ | apply kept_foldl | apply kept_foldl_fst | apply kept_foldl_snd | apply kept_forEach | split))

@[simp] theorem kept_execSamplePreload {s0_ : State} (s : State) (h_ : Kept s0_ s)  : OutKept s0_ (execSamplePreload s) := by
  first
    | (simp (maxDischargeDepth := 40) [execSamplePreload, h_]; done)
    | (unfold execSamplePreload; (try dsimp only); repeat' (first | (simp (maxDischargeDepth := 40) [h_]; done) | intro _ | apply kept_foldl | apply kept_foldl_fst | apply kept_foldl_snd | apply kept_forEach | split))

@[simp] theorem kept_execClamp {s0_ : State} (s : State) (h_ : Kept s0_ s)  : OutKept s0_ (execClamp s) := by
  first
    | (simp (maxDischargeDepth := 40) [execClamp, h_]; done)
    | (unfold execClamp; (try dsimp only); repeat' (first | (simp (maxDischargeDepth := 40) [h_]; done) | intro _ | apply kept_foldl | apply kept_foldl_fst | apply kept_foldl_snd | apply kept_forEach | split))

@[simp] theorem kept_execHighz {s0_ : State} (s : State) (h_ : Kept s0_ s)  : OutKept s0_ (execHighz s) := by
  first
    | (simp (maxDischargeDepth := 40) [execHighz, h_]; done)
    | (unfold execHighz; (try dsimp only); repeat' (first | (simp (maxDischargeDepth := 40) [h_]; done) | intro _ | apply kept_foldl | apply kept_foldl_fst | apply kept_foldl_snd | apply kept_forEach | split))

@[simp] theorem kept_execFtAccess {s0_ : State} (s : State) (h_ : Kept s0_ s)  : OutKept s0_ (execFtAccess s) := by
  first
    | (simp (maxDischargeDepth := 40) [execFtAccess, h_]; done)
    | (unfold execFtAccess; (try dsimp only); repeat' (first | (simp (maxDischargeDepth := 40) [h_]; done) | intro _ | apply kept_foldl | apply kept_foldl_fst | apply kept_foldl_snd | apply kept_forEach | split))

@[simp] theorem kept_execTapLeave {s0_ : State} (s : State) (h_ : Kept s0_ s)  : OutKept s0_ (execTapLeave s) := by
  first
    | (simp (maxDischargeDepth := 40) [execTapLeave, h_]; done)
    | (unfold execTapLeave; (try dsimp only); repeat' (first | (simp (maxDischargeDepth := 40) [h_]; done) | intro _ | apply kept_foldl | apply kept_foldl_fst | apply kept_foldl_snd | apply kept_forEach | split))

end Sys2Proof.Machine
end

