-- ==== Sys2Proof/Laws/AllKept.lean ====
section
/-! SUPPORT. The lemmas Kept* gathered: what every command and the idle tick keep. A proof about all commands takes one of them per
constructor. -/

namespace Sys2Proof.Machine

/-- An outcome that keeps all four things keeps the three. -/
theorem OutKept.steady {s : State} {o : Out} (h : OutKept s o) : OutSteady s o := by
  cases o with
  | next t => exact Kept.steady h
  | fault _ => trivial
  | refused _ => trivial

/-- A tick of the watch clock keeps them. -/
theorem kept_watchTick (s : State) : Kept s (watchTick s) := by
  have h : Kept s (trapRead s) := by
    unfold trapRead
    split
    · exact ⟨rfl, rfl, id, rfl⟩
    · exact .refl s
  refine h.trans ?_
  unfold watchTick
  generalize trapRead s = t
  dsimp only
  split
  · exact ⟨rfl, rfl, id, rfl⟩
  · exact .refl t

end Sys2Proof.Machine
end

