-- ==== Sys2Proof/Laws/Bits.lean ====
section
/-! SUPPORT. Bits of numbers and of words: which bits a list of bit numbers, a set or cleared bit, and a field put into a word give; and
loops over a list without repeats, each of whose rounds changes the thing it names. -/

namespace Sys2Proof.Machine

theorem bitAt_eq_testBit (v i : Nat) : bitAt v i = v.testBit i := by
  rw [Nat.testBit_eq_decide_div_mod_eq]
  simp only [bitAt, BEq.beq]

/-- Setting a clear bit by addition sets that bit alone. -/
theorem testBit_add_pow {v i : Nat} (h : v.testBit i = false) (k : Nat) : (v + 2 ^ i).testBit k = (v.testBit k || decide (k = i)) := by
  rcases Nat.lt_trichotomy k i with c | c | c
  · rw [Nat.add_comm, Nat.testBit_two_pow_add_gt c]
    simp [Nat.ne_of_lt c]
  · subst c
    rw [Nat.add_comm, Nat.testBit_two_pow_add_eq, h]
    simp
  · have hm : v % 2 ^ (i + 1) < 2 ^ i := by
      rw [Nat.testBit_eq_decide_div_mod_eq] at h
      have h1 : v / 2 ^ i % 2 = 0 := by
        have := Nat.mod_lt (v / 2 ^ i) (show 0 < 2 by omega)
        simp only [decide_eq_false_iff_not] at h
        omega
      rw [Nat.mod_pow_succ, h1]
      simpa using Nat.mod_lt v (Nat.two_pow_pos i)
    have hd : (v + 2 ^ i) / 2 ^ (i + 1) = v / 2 ^ (i + 1) := by
      have e := Nat.div_add_mod v (2 ^ (i + 1))
      have p : 2 ^ (i + 1) = 2 ^ i + 2 ^ i := by rw [Nat.pow_succ]; omega
      rw [Nat.div_eq_of_lt_le]
      · rw [Nat.mul_comm]; omega
      · rw [Nat.mul_comm, Nat.mul_add, Nat.mul_one]; omega
    obtain ⟨j, rfl⟩ : ∃ j, k = i + 1 + j := ⟨k - (i + 1), by omega⟩
    rw [Nat.testBit_eq_decide_div_mod_eq, Nat.testBit_eq_decide_div_mod_eq, Nat.pow_add, ← Nat.div_div_eq_div_mul, ← Nat.div_div_eq_div_mul, hd]
    simp
    omega

theorem bitAt_orBit (v i k : Nat) : bitAt (orBit v i) k = (bitAt v k || decide (k = i)) := by
  unfold orBit
  by_cases h : bitAt v i = true
  · rw [if_pos h]
    by_cases e : k = i
    · subst e; simp [h]
    · simp [e]
  · rw [if_neg h]
    simp only [bitAt_eq_testBit] at h ⊢
    exact testBit_add_pow (by simpa using h) k

/-- The bits of a number built of bit numbers. -/
theorem bitAt_ofBits (l : List Nat) (k : Nat) : bitAt (ofBits l) k = l.contains k := by
  have h : ∀ (l : List Nat) (a : Nat), bitAt (l.foldl (fun acc i => if bitAt acc i then acc else acc + 2 ^ i) a) k = (bitAt a k || l.contains k) := by
    intro l
    induction l with
    | nil => intro a; simp
    | cons i l ih =>
      intro a
      rw [List.foldl_cons, ih]
      have := bitAt_orBit a i k
      unfold orBit at this
      rw [this, List.contains_cons, Bool.or_assoc]
      congr 1
  have := h l 0
  simpa [ofBits, bitAt] using this

/-- The bits of a number built of a range filtered. -/
theorem bitAt_ofBits_range (n : Nat) (p : Nat → Bool) (k : Nat) (h : k < n) : bitAt (ofBits ((List.range n).filter p)) k = p k := by
  rw [bitAt_ofBits]
  by_cases e : p k = true <;> simp [e, h]

/-- A field put into a word reads as put, modulo its width. -/
theorem fld_putFld (w : Word) (hi lo v : Nat) (h : lo ≤ hi) (k : hi < 32) : fld (putFld w hi lo v) hi lo = v % 2 ^ (hi + 1 - lo) := by
  obtain ⟨n, rfl⟩ : ∃ n, hi = lo + n := ⟨hi - lo, by omega⟩
  have ew : lo + n + 1 - lo = n + 1 := by omega
  simp only [fld, putFld, bits, ew, BitVec.toNat_ofNat]
  generalize hx : w.toNat = x
  have x32 : x < 2 ^ 32 := hx ▸ w.isLt
  have p0 : 0 < 2 ^ lo := Nat.two_pow_pos _
  have p1 : 0 < 2 ^ (n + 1) := Nat.two_pow_pos _
  generalize hv : v % 2 ^ (n + 1) = u
  have hu : u < 2 ^ (n + 1) := hv ▸ Nat.mod_lt _ p1
  have e1 := Nat.div_add_mod x (2 ^ lo)
  have e2 := Nat.div_add_mod (x / 2 ^ lo) (2 ^ (n + 1))
  have b := Nat.mod_lt x p0
  generalize x / 2 ^ lo / 2 ^ (n + 1) = a at *
  generalize x / 2 ^ lo % 2 ^ (n + 1) = m at *
  generalize x % 2 ^ lo = r at *
  have q : x = 2 ^ lo * (2 ^ (n + 1) * a) + 2 ^ lo * m + r := by
    rw [← e1, ← e2, Nat.mul_add]
  have s : x - m * 2 ^ lo + u * 2 ^ lo = 2 ^ lo * (2 ^ (n + 1) * a + u) + r := by
    rw [Nat.mul_comm m, Nat.mul_comm u, q, Nat.mul_add]
    omega
  have lt : x - m * 2 ^ lo + u * 2 ^ lo < 2 ^ 32 := by
    have pw : 2 ^ 32 = 2 ^ lo * (2 ^ (n + 1) * 2 ^ (31 - lo - n)) := by
      rw [← Nat.pow_add, ← Nat.pow_add]; congr 1; omega
    have ha : a < 2 ^ (31 - lo - n) := by
      have h1 : 2 ^ lo * (2 ^ (n + 1) * a) < 2 ^ lo * (2 ^ (n + 1) * 2 ^ (31 - lo - n)) := by omega
      exact Nat.lt_of_mul_lt_mul_left (Nat.lt_of_mul_lt_mul_left h1)
    have h2 : 2 ^ (n + 1) * (a + 1) ≤ 2 ^ (n + 1) * 2 ^ (31 - lo - n) := Nat.mul_le_mul_left _ ha
    have h3 : 2 ^ (n + 1) * a + u + 1 ≤ 2 ^ (n + 1) * 2 ^ (31 - lo - n) := by rw [Nat.mul_add] at h2; omega
    have h4 : 2 ^ lo * (2 ^ (n + 1) * a + u + 1) ≤ 2 ^ lo * (2 ^ (n + 1) * 2 ^ (31 - lo - n)) := Nat.mul_le_mul_left _ h3
    rw [s]
    rw [Nat.mul_add] at h4
    omega
  rw [Nat.mod_eq_of_lt lt, s, Nat.mul_add_div p0, Nat.div_eq_of_lt b, Nat.add_zero, Nat.mul_add_mod, Nat.mod_eq_of_lt hu]

/-- A bit put into a word. -/
theorem wbit_putFld (w : Word) (i v : Nat) (k : i < 32) : wbit (putFld w i i v) i = (v % 2 == 1) := by
  have := fld_putFld w i i v (Nat.le_refl _) k
  simp only [fld, bits, show i + 1 - i = 1 by omega, Nat.pow_one] at this
  simp only [wbit, bitAt, this]

/-- A loop whose rounds do not touch a thing. -/
theorem forEach_same {β : Type} (p : State → β) (g : State → Nat → State) (l : List Nat) (h : ∀ t a, a ∈ l → p (g t a) = p t) (s : State) :
    p (s.forEach l g) = p s := by
  induction l generalizing s with
  | nil => rfl
  | cons a l ih =>
    exact (ih (fun t b m => h t b (List.mem_cons_of_mem _ m)) (g s a)).trans (h s a (List.mem_cons_self ..))

/-- A loop whose rounds change the thing they name: what is not named reads as before. -/
theorem forEach_at_other {β : Type} (p : State → Nat → β) (g : State → Nat → State) (h : ∀ t a b, b ≠ a → p (g t a) b = p t b)
    (l : List Nat) (s : State) (b : Nat) (m : b ∉ l) : p (s.forEach l g) b = p s b :=
  forEach_same (p · b) g l (fun t a ma => h t a b fun e => m (e ▸ ma)) s

/-- And what is named once reads as the round for it leaves it. -/
theorem forEach_at_mem {β : Type} (p : State → Nat → β) (g : State → Nat → State) (f : Nat → β → β) (h : ∀ t a b, b ≠ a → p (g t a) b = p t b)
    (k : ∀ t a, p (g t a) a = f a (p t a)) (l : List Nat) (s : State) (b : Nat) (n : l.Nodup) (m : b ∈ l) :
    p (s.forEach l g) b = f b (p s b) := by
  induction l generalizing s with
  | nil => simp at m
  | cons a l ih =>
    have hn := List.nodup_cons.1 n
    show p ((g s a).forEach l g) b = f b (p s b)
    by_cases e : b = a
    · subst e
      rw [forEach_at_other p g h l _ b hn.1, k]
    · rw [ih _ hn.2 ((List.mem_cons.1 m).resolve_left e), h s a b e]

end Sys2Proof.Machine
end

