-- ==== Sys2Proof/Laws/Tab.lean ====
section
/-! SUPPORT. Reading a table after a write: the written number reads as written, every other as before. -/

namespace Sys2Proof

@[simp] theorem Tab.get_nil {α : Type} (d : α) (i : Nat) : Tab.get d [] i = d := rfl

theorem Tab.get_set {α : Type} (d : α) (t : Tab α) (i j : Nat) (v : α) :
    Tab.get d (t.set i v) j = if j = i then v else Tab.get d t j := by
  induction t with
  | nil =>
    by_cases h : j = i
    · simp [Tab.set, Tab.get, h]
    · simp [Tab.set, Tab.get, h, Ne.symm h]
  | cons e t ih =>
    obtain ⟨k, w⟩ := e
    by_cases h1 : i < k
    · by_cases h : j = i
      · simp [Tab.set, Tab.get, h1, h]
      · simp [Tab.set, Tab.get, h1, h, Ne.symm h]
    · by_cases h2 : k = i
      · by_cases h : j = i
        · simp [Tab.set, Tab.get, h2, h]
        · simp [Tab.set, Tab.get, h2, h, Ne.symm h]
      · by_cases h3 : k = j
        · subst h3; simp [Tab.set, Tab.get, h1, h2]
        · simp [Tab.set, Tab.get, h1, h2, h3, ih]

@[simp] theorem Tab.get_set_same {α : Type} (d : α) (t : Tab α) (i : Nat) (v : α) : Tab.get d (t.set i v) i = v := by
  simp [Tab.get_set]

@[simp] theorem Tab.get_set_other {α : Type} (d : α) (t : Tab α) (i j : Nat) (v : α) (h : j ≠ i) :
    Tab.get d (t.set i v) j = Tab.get d t j := by
  simp [Tab.get_set, h]

theorem Tab.get_modify {α : Type} (d : α) (t : Tab α) (i j : Nat) (f : α → α) :
    Tab.get d (Tab.modify d t i f) j = if j = i then f (Tab.get d t i) else Tab.get d t j := Tab.get_set d t i j _

@[simp] theorem Tab.get_modify_same {α : Type} (d : α) (t : Tab α) (i : Nat) (f : α → α) :
    Tab.get d (Tab.modify d t i f) i = f (Tab.get d t i) := Tab.get_set_same d t i _

@[simp] theorem Tab.get_modify_other {α : Type} (d : α) (t : Tab α) (i j : Nat) (f : α → α) (h : j ≠ i) :
    Tab.get d (Tab.modify d t i f) j = Tab.get d t j := Tab.get_set_other d t i j _ h

/-- A change of every listed entry, where the default changes alike. -/
theorem Tab.get_map {α β : Type} (d : α) (t : Tab α) (f : α → β) (i : Nat) :
    Tab.get (f d) (t.map fun e => (e.1, f e.2)) i = f (Tab.get d t i) := by
  induction t with
  | nil => rfl
  | cons e t ih => by_cases h : e.1 = i <;> simp [Tab.get, h, ih]

/-- A table made from a function reads as the function where it lists. -/
theorem Tab.get_ofFn {α : Type} (d : α) (ks : List Nat) (f : Nat → α) (i : Nat) (h : i ∈ ks) : Tab.get d (Tab.ofFn ks f) i = f i := by
  induction ks with
  | nil => simp at h
  | cons k ks ih =>
    by_cases e : k = i
    · simp [Tab.ofFn, Tab.get, e]
    · have m : i ∈ ks := (List.mem_cons.1 h).resolve_left (Ne.symm e)
      simpa [Tab.ofFn, Tab.get, e] using ih m

end Sys2Proof
end

