-- ==== Sys2Proof/Laws/State.lean ====
section
/-! SUPPORT. What each writer of a numbered thing leaves alone, field by field; what reading after it gives; and the end of a
command where it raises nothing. -/

namespace Sys2Proof.Machine

/-! ### setCell -/

@[simp] theorem State.setCell_otp (s : State) (i : Nat) (c : Cell) : (s.setCell i c).otp = s.otp := (rfl)
@[simp] theorem State.setCell_start (s : State) (i : Nat) (c : Cell) : (s.setCell i c).start = s.start := (rfl)
@[simp] theorem State.setCell_clk (s : State) (i : Nat) (c : Cell) : (s.setCell i c).clk = s.clk := (rfl)
@[simp] theorem State.setCell_win (s : State) (i : Nat) (c : Cell) : (s.setCell i c).win = s.win := (rfl)
@[simp] theorem State.setCell_views (s : State) (i : Nat) (c : Cell) : (s.setCell i c).views = s.views := (rfl)
@[simp] theorem State.setCell_chains (s : State) (i : Nat) (c : Cell) : (s.setCell i c).chains = s.chains := (rfl)
@[simp] theorem State.setCell_creg (s : State) (i : Nat) (c : Cell) : (s.setCell i c).creg = s.creg := (rfl)
@[simp] theorem State.setCell_eng (s : State) (i : Nat) (c : Cell) : (s.setCell i c).eng = s.eng := (rfl)
@[simp] theorem State.setCell_doms (s : State) (i : Nat) (c : Cell) : (s.setCell i c).doms = s.doms := (rfl)
@[simp] theorem State.setCell_lanes (s : State) (i : Nat) (c : Cell) : (s.setCell i c).lanes = s.lanes := (rfl)
@[simp] theorem State.setCell_sense (s : State) (i : Nat) (c : Cell) : (s.setCell i c).sense = s.sense := (rfl)
@[simp] theorem State.setCell_dscs (s : State) (i : Nat) (c : Cell) : (s.setCell i c).dscs = s.dscs := (rfl)
@[simp] theorem State.setCell_hkcs (s : State) (i : Nat) (c : Cell) : (s.setCell i c).hkcs = s.hkcs := (rfl)
@[simp] theorem State.setCell_tallies (s : State) (i : Nat) (c : Cell) : (s.setCell i c).tallies = s.tallies := (rfl)
@[simp] theorem State.setCell_ledger (s : State) (i : Nat) (c : Cell) : (s.setCell i c).ledger = s.ledger := (rfl)
@[simp] theorem State.setCell_tiles (s : State) (i : Nat) (c : Cell) : (s.setCell i c).tiles = s.tiles := (rfl)
@[simp] theorem State.setCell_accts (s : State) (i : Nat) (c : Cell) : (s.setCell i c).accts = s.accts := (rfl)
@[simp] theorem State.setCell_limits (s : State) (i : Nat) (c : Cell) : (s.setCell i c).limits = s.limits := (rfl)
@[simp] theorem State.setCell_pace (s : State) (i : Nat) (c : Cell) : (s.setCell i c).pace = s.pace := (rfl)
@[simp] theorem State.setCell_therm (s : State) (i : Nat) (c : Cell) : (s.setCell i c).therm = s.therm := (rfl)
@[simp] theorem State.setCell_diodes (s : State) (i : Nat) (c : Cell) : (s.setCell i c).diodes = s.diodes := (rfl)
@[simp] theorem State.setCell_stopq (s : State) (i : Nat) (c : Cell) : (s.setCell i c).stopq = s.stopq := (rfl)
@[simp] theorem State.setCell_flt (s : State) (i : Nat) (c : Cell) : (s.setCell i c).flt = s.flt := (rfl)
@[simp] theorem State.setCell_warden (s : State) (i : Nat) (c : Cell) : (s.setCell i c).warden = s.warden := (rfl)
@[simp] theorem State.setCell_policy (s : State) (i : Nat) (c : Cell) : (s.setCell i c).policy = s.policy := (rfl)
@[simp] theorem State.setCell_rings (s : State) (i : Nat) (c : Cell) : (s.setCell i c).rings = s.rings := (rfl)
@[simp] theorem State.setCell_smb (s : State) (i : Nat) (c : Cell) : (s.setCell i c).smb = s.smb := (rfl)
@[simp] theorem State.setCell_avs (s : State) (i : Nat) (c : Cell) : (s.setCell i c).avs = s.avs := (rfl)
@[simp] theorem State.setCell_tap (s : State) (i : Nat) (c : Cell) : (s.setCell i c).tap = s.tap := (rfl)
@[simp] theorem State.setCell_pub (s : State) (i : Nat) (c : Cell) : (s.setCell i c).pub = s.pub := (rfl)
@[simp] theorem State.setCell_freeCtr (s : State) (i : Nat) (c : Cell) : (s.setCell i c).freeCtr = s.freeCtr := (rfl)
@[simp] theorem State.setCell_pending (s : State) (i : Nat) (c : Cell) : (s.setCell i c).pending = s.pending := (rfl)

/-! ### updCell -/

@[simp] theorem State.updCell_otp (s : State) (i : Nat) (f : Cell → Cell) : (s.updCell i f).otp = s.otp := (rfl)
@[simp] theorem State.updCell_start (s : State) (i : Nat) (f : Cell → Cell) : (s.updCell i f).start = s.start := (rfl)
@[simp] theorem State.updCell_clk (s : State) (i : Nat) (f : Cell → Cell) : (s.updCell i f).clk = s.clk := (rfl)
@[simp] theorem State.updCell_win (s : State) (i : Nat) (f : Cell → Cell) : (s.updCell i f).win = s.win := (rfl)
@[simp] theorem State.updCell_views (s : State) (i : Nat) (f : Cell → Cell) : (s.updCell i f).views = s.views := (rfl)
@[simp] theorem State.updCell_chains (s : State) (i : Nat) (f : Cell → Cell) : (s.updCell i f).chains = s.chains := (rfl)
@[simp] theorem State.updCell_creg (s : State) (i : Nat) (f : Cell → Cell) : (s.updCell i f).creg = s.creg := (rfl)
@[simp] theorem State.updCell_eng (s : State) (i : Nat) (f : Cell → Cell) : (s.updCell i f).eng = s.eng := (rfl)
@[simp] theorem State.updCell_doms (s : State) (i : Nat) (f : Cell → Cell) : (s.updCell i f).doms = s.doms := (rfl)
@[simp] theorem State.updCell_lanes (s : State) (i : Nat) (f : Cell → Cell) : (s.updCell i f).lanes = s.lanes := (rfl)
@[simp] theorem State.updCell_sense (s : State) (i : Nat) (f : Cell → Cell) : (s.updCell i f).sense = s.sense := (rfl)
@[simp] theorem State.updCell_dscs (s : State) (i : Nat) (f : Cell → Cell) : (s.updCell i f).dscs = s.dscs := (rfl)
@[simp] theorem State.updCell_hkcs (s : State) (i : Nat) (f : Cell → Cell) : (s.updCell i f).hkcs = s.hkcs := (rfl)
@[simp] theorem State.updCell_tallies (s : State) (i : Nat) (f : Cell → Cell) : (s.updCell i f).tallies = s.tallies := (rfl)
@[simp] theorem State.updCell_ledger (s : State) (i : Nat) (f : Cell → Cell) : (s.updCell i f).ledger = s.ledger := (rfl)
@[simp] theorem State.updCell_tiles (s : State) (i : Nat) (f : Cell → Cell) : (s.updCell i f).tiles = s.tiles := (rfl)
@[simp] theorem State.updCell_accts (s : State) (i : Nat) (f : Cell → Cell) : (s.updCell i f).accts = s.accts := (rfl)
@[simp] theorem State.updCell_limits (s : State) (i : Nat) (f : Cell → Cell) : (s.updCell i f).limits = s.limits := (rfl)
@[simp] theorem State.updCell_pace (s : State) (i : Nat) (f : Cell → Cell) : (s.updCell i f).pace = s.pace := (rfl)
@[simp] theorem State.updCell_therm (s : State) (i : Nat) (f : Cell → Cell) : (s.updCell i f).therm = s.therm := (rfl)
@[simp] theorem State.updCell_diodes (s : State) (i : Nat) (f : Cell → Cell) : (s.updCell i f).diodes = s.diodes := (rfl)
@[simp] theorem State.updCell_stopq (s : State) (i : Nat) (f : Cell → Cell) : (s.updCell i f).stopq = s.stopq := (rfl)
@[simp] theorem State.updCell_flt (s : State) (i : Nat) (f : Cell → Cell) : (s.updCell i f).flt = s.flt := (rfl)
@[simp] theorem State.updCell_warden (s : State) (i : Nat) (f : Cell → Cell) : (s.updCell i f).warden = s.warden := (rfl)
@[simp] theorem State.updCell_policy (s : State) (i : Nat) (f : Cell → Cell) : (s.updCell i f).policy = s.policy := (rfl)
@[simp] theorem State.updCell_rings (s : State) (i : Nat) (f : Cell → Cell) : (s.updCell i f).rings = s.rings := (rfl)
@[simp] theorem State.updCell_smb (s : State) (i : Nat) (f : Cell → Cell) : (s.updCell i f).smb = s.smb := (rfl)
@[simp] theorem State.updCell_avs (s : State) (i : Nat) (f : Cell → Cell) : (s.updCell i f).avs = s.avs := (rfl)
@[simp] theorem State.updCell_tap (s : State) (i : Nat) (f : Cell → Cell) : (s.updCell i f).tap = s.tap := (rfl)
@[simp] theorem State.updCell_pub (s : State) (i : Nat) (f : Cell → Cell) : (s.updCell i f).pub = s.pub := (rfl)
@[simp] theorem State.updCell_freeCtr (s : State) (i : Nat) (f : Cell → Cell) : (s.updCell i f).freeCtr = s.freeCtr := (rfl)
@[simp] theorem State.updCell_pending (s : State) (i : Nat) (f : Cell → Cell) : (s.updCell i f).pending = s.pending := (rfl)

/-! ### updView -/

@[simp] theorem State.updView_otp (s : State) (i : Nat) (f : View → View) : (s.updView i f).otp = s.otp := (rfl)
@[simp] theorem State.updView_start (s : State) (i : Nat) (f : View → View) : (s.updView i f).start = s.start := (rfl)
@[simp] theorem State.updView_clk (s : State) (i : Nat) (f : View → View) : (s.updView i f).clk = s.clk := (rfl)
@[simp] theorem State.updView_win (s : State) (i : Nat) (f : View → View) : (s.updView i f).win = s.win := (rfl)
@[simp] theorem State.updView_cells (s : State) (i : Nat) (f : View → View) : (s.updView i f).cells = s.cells := (rfl)
@[simp] theorem State.updView_chains (s : State) (i : Nat) (f : View → View) : (s.updView i f).chains = s.chains := (rfl)
@[simp] theorem State.updView_creg (s : State) (i : Nat) (f : View → View) : (s.updView i f).creg = s.creg := (rfl)
@[simp] theorem State.updView_eng (s : State) (i : Nat) (f : View → View) : (s.updView i f).eng = s.eng := (rfl)
@[simp] theorem State.updView_doms (s : State) (i : Nat) (f : View → View) : (s.updView i f).doms = s.doms := (rfl)
@[simp] theorem State.updView_lanes (s : State) (i : Nat) (f : View → View) : (s.updView i f).lanes = s.lanes := (rfl)
@[simp] theorem State.updView_sense (s : State) (i : Nat) (f : View → View) : (s.updView i f).sense = s.sense := (rfl)
@[simp] theorem State.updView_dscs (s : State) (i : Nat) (f : View → View) : (s.updView i f).dscs = s.dscs := (rfl)
@[simp] theorem State.updView_hkcs (s : State) (i : Nat) (f : View → View) : (s.updView i f).hkcs = s.hkcs := (rfl)
@[simp] theorem State.updView_tallies (s : State) (i : Nat) (f : View → View) : (s.updView i f).tallies = s.tallies := (rfl)
@[simp] theorem State.updView_ledger (s : State) (i : Nat) (f : View → View) : (s.updView i f).ledger = s.ledger := (rfl)
@[simp] theorem State.updView_tiles (s : State) (i : Nat) (f : View → View) : (s.updView i f).tiles = s.tiles := (rfl)
@[simp] theorem State.updView_accts (s : State) (i : Nat) (f : View → View) : (s.updView i f).accts = s.accts := (rfl)
@[simp] theorem State.updView_limits (s : State) (i : Nat) (f : View → View) : (s.updView i f).limits = s.limits := (rfl)
@[simp] theorem State.updView_pace (s : State) (i : Nat) (f : View → View) : (s.updView i f).pace = s.pace := (rfl)
@[simp] theorem State.updView_therm (s : State) (i : Nat) (f : View → View) : (s.updView i f).therm = s.therm := (rfl)
@[simp] theorem State.updView_diodes (s : State) (i : Nat) (f : View → View) : (s.updView i f).diodes = s.diodes := (rfl)
@[simp] theorem State.updView_stopq (s : State) (i : Nat) (f : View → View) : (s.updView i f).stopq = s.stopq := (rfl)
@[simp] theorem State.updView_flt (s : State) (i : Nat) (f : View → View) : (s.updView i f).flt = s.flt := (rfl)
@[simp] theorem State.updView_warden (s : State) (i : Nat) (f : View → View) : (s.updView i f).warden = s.warden := (rfl)
@[simp] theorem State.updView_policy (s : State) (i : Nat) (f : View → View) : (s.updView i f).policy = s.policy := (rfl)
@[simp] theorem State.updView_rings (s : State) (i : Nat) (f : View → View) : (s.updView i f).rings = s.rings := (rfl)
@[simp] theorem State.updView_smb (s : State) (i : Nat) (f : View → View) : (s.updView i f).smb = s.smb := (rfl)
@[simp] theorem State.updView_avs (s : State) (i : Nat) (f : View → View) : (s.updView i f).avs = s.avs := (rfl)
@[simp] theorem State.updView_tap (s : State) (i : Nat) (f : View → View) : (s.updView i f).tap = s.tap := (rfl)
@[simp] theorem State.updView_pub (s : State) (i : Nat) (f : View → View) : (s.updView i f).pub = s.pub := (rfl)
@[simp] theorem State.updView_freeCtr (s : State) (i : Nat) (f : View → View) : (s.updView i f).freeCtr = s.freeCtr := (rfl)
@[simp] theorem State.updView_pending (s : State) (i : Nat) (f : View → View) : (s.updView i f).pending = s.pending := (rfl)

/-! ### updChain -/

@[simp] theorem State.updChain_otp (s : State) (i : Nat) (f : Chain → Chain) : (s.updChain i f).otp = s.otp := (rfl)
@[simp] theorem State.updChain_start (s : State) (i : Nat) (f : Chain → Chain) : (s.updChain i f).start = s.start := (rfl)
@[simp] theorem State.updChain_clk (s : State) (i : Nat) (f : Chain → Chain) : (s.updChain i f).clk = s.clk := (rfl)
@[simp] theorem State.updChain_win (s : State) (i : Nat) (f : Chain → Chain) : (s.updChain i f).win = s.win := (rfl)
@[simp] theorem State.updChain_cells (s : State) (i : Nat) (f : Chain → Chain) : (s.updChain i f).cells = s.cells := (rfl)
@[simp] theorem State.updChain_views (s : State) (i : Nat) (f : Chain → Chain) : (s.updChain i f).views = s.views := (rfl)
@[simp] theorem State.updChain_creg (s : State) (i : Nat) (f : Chain → Chain) : (s.updChain i f).creg = s.creg := (rfl)
@[simp] theorem State.updChain_eng (s : State) (i : Nat) (f : Chain → Chain) : (s.updChain i f).eng = s.eng := (rfl)
@[simp] theorem State.updChain_doms (s : State) (i : Nat) (f : Chain → Chain) : (s.updChain i f).doms = s.doms := (rfl)
@[simp] theorem State.updChain_lanes (s : State) (i : Nat) (f : Chain → Chain) : (s.updChain i f).lanes = s.lanes := (rfl)
@[simp] theorem State.updChain_sense (s : State) (i : Nat) (f : Chain → Chain) : (s.updChain i f).sense = s.sense := (rfl)
@[simp] theorem State.updChain_dscs (s : State) (i : Nat) (f : Chain → Chain) : (s.updChain i f).dscs = s.dscs := (rfl)
@[simp] theorem State.updChain_hkcs (s : State) (i : Nat) (f : Chain → Chain) : (s.updChain i f).hkcs = s.hkcs := (rfl)
@[simp] theorem State.updChain_tallies (s : State) (i : Nat) (f : Chain → Chain) : (s.updChain i f).tallies = s.tallies := (rfl)
@[simp] theorem State.updChain_ledger (s : State) (i : Nat) (f : Chain → Chain) : (s.updChain i f).ledger = s.ledger := (rfl)
@[simp] theorem State.updChain_tiles (s : State) (i : Nat) (f : Chain → Chain) : (s.updChain i f).tiles = s.tiles := (rfl)
@[simp] theorem State.updChain_accts (s : State) (i : Nat) (f : Chain → Chain) : (s.updChain i f).accts = s.accts := (rfl)
@[simp] theorem State.updChain_limits (s : State) (i : Nat) (f : Chain → Chain) : (s.updChain i f).limits = s.limits := (rfl)
@[simp] theorem State.updChain_pace (s : State) (i : Nat) (f : Chain → Chain) : (s.updChain i f).pace = s.pace := (rfl)
@[simp] theorem State.updChain_therm (s : State) (i : Nat) (f : Chain → Chain) : (s.updChain i f).therm = s.therm := (rfl)
@[simp] theorem State.updChain_diodes (s : State) (i : Nat) (f : Chain → Chain) : (s.updChain i f).diodes = s.diodes := (rfl)
@[simp] theorem State.updChain_stopq (s : State) (i : Nat) (f : Chain → Chain) : (s.updChain i f).stopq = s.stopq := (rfl)
@[simp] theorem State.updChain_flt (s : State) (i : Nat) (f : Chain → Chain) : (s.updChain i f).flt = s.flt := (rfl)
@[simp] theorem State.updChain_warden (s : State) (i : Nat) (f : Chain → Chain) : (s.updChain i f).warden = s.warden := (rfl)
@[simp] theorem State.updChain_policy (s : State) (i : Nat) (f : Chain → Chain) : (s.updChain i f).policy = s.policy := (rfl)
@[simp] theorem State.updChain_rings (s : State) (i : Nat) (f : Chain → Chain) : (s.updChain i f).rings = s.rings := (rfl)
@[simp] theorem State.updChain_smb (s : State) (i : Nat) (f : Chain → Chain) : (s.updChain i f).smb = s.smb := (rfl)
@[simp] theorem State.updChain_avs (s : State) (i : Nat) (f : Chain → Chain) : (s.updChain i f).avs = s.avs := (rfl)
@[simp] theorem State.updChain_tap (s : State) (i : Nat) (f : Chain → Chain) : (s.updChain i f).tap = s.tap := (rfl)
@[simp] theorem State.updChain_pub (s : State) (i : Nat) (f : Chain → Chain) : (s.updChain i f).pub = s.pub := (rfl)
@[simp] theorem State.updChain_freeCtr (s : State) (i : Nat) (f : Chain → Chain) : (s.updChain i f).freeCtr = s.freeCtr := (rfl)
@[simp] theorem State.updChain_pending (s : State) (i : Nat) (f : Chain → Chain) : (s.updChain i f).pending = s.pending := (rfl)

/-! ### updDom -/

@[simp] theorem State.updDom_otp (s : State) (i : Nat) (f : Dom → Dom) : (s.updDom i f).otp = s.otp := (rfl)
@[simp] theorem State.updDom_start (s : State) (i : Nat) (f : Dom → Dom) : (s.updDom i f).start = s.start := (rfl)
@[simp] theorem State.updDom_clk (s : State) (i : Nat) (f : Dom → Dom) : (s.updDom i f).clk = s.clk := (rfl)
@[simp] theorem State.updDom_win (s : State) (i : Nat) (f : Dom → Dom) : (s.updDom i f).win = s.win := (rfl)
@[simp] theorem State.updDom_cells (s : State) (i : Nat) (f : Dom → Dom) : (s.updDom i f).cells = s.cells := (rfl)
@[simp] theorem State.updDom_views (s : State) (i : Nat) (f : Dom → Dom) : (s.updDom i f).views = s.views := (rfl)
@[simp] theorem State.updDom_chains (s : State) (i : Nat) (f : Dom → Dom) : (s.updDom i f).chains = s.chains := (rfl)
@[simp] theorem State.updDom_creg (s : State) (i : Nat) (f : Dom → Dom) : (s.updDom i f).creg = s.creg := (rfl)
@[simp] theorem State.updDom_eng (s : State) (i : Nat) (f : Dom → Dom) : (s.updDom i f).eng = s.eng := (rfl)
@[simp] theorem State.updDom_lanes (s : State) (i : Nat) (f : Dom → Dom) : (s.updDom i f).lanes = s.lanes := (rfl)
@[simp] theorem State.updDom_sense (s : State) (i : Nat) (f : Dom → Dom) : (s.updDom i f).sense = s.sense := (rfl)
@[simp] theorem State.updDom_dscs (s : State) (i : Nat) (f : Dom → Dom) : (s.updDom i f).dscs = s.dscs := (rfl)
@[simp] theorem State.updDom_hkcs (s : State) (i : Nat) (f : Dom → Dom) : (s.updDom i f).hkcs = s.hkcs := (rfl)
@[simp] theorem State.updDom_tallies (s : State) (i : Nat) (f : Dom → Dom) : (s.updDom i f).tallies = s.tallies := (rfl)
@[simp] theorem State.updDom_ledger (s : State) (i : Nat) (f : Dom → Dom) : (s.updDom i f).ledger = s.ledger := (rfl)
@[simp] theorem State.updDom_tiles (s : State) (i : Nat) (f : Dom → Dom) : (s.updDom i f).tiles = s.tiles := (rfl)
@[simp] theorem State.updDom_accts (s : State) (i : Nat) (f : Dom → Dom) : (s.updDom i f).accts = s.accts := (rfl)
@[simp] theorem State.updDom_limits (s : State) (i : Nat) (f : Dom → Dom) : (s.updDom i f).limits = s.limits := (rfl)
@[simp] theorem State.updDom_pace (s : State) (i : Nat) (f : Dom → Dom) : (s.updDom i f).pace = s.pace := (rfl)
@[simp] theorem State.updDom_therm (s : State) (i : Nat) (f : Dom → Dom) : (s.updDom i f).therm = s.therm := (rfl)
@[simp] theorem State.updDom_diodes (s : State) (i : Nat) (f : Dom → Dom) : (s.updDom i f).diodes = s.diodes := (rfl)
@[simp] theorem State.updDom_stopq (s : State) (i : Nat) (f : Dom → Dom) : (s.updDom i f).stopq = s.stopq := (rfl)
@[simp] theorem State.updDom_flt (s : State) (i : Nat) (f : Dom → Dom) : (s.updDom i f).flt = s.flt := (rfl)
@[simp] theorem State.updDom_warden (s : State) (i : Nat) (f : Dom → Dom) : (s.updDom i f).warden = s.warden := (rfl)
@[simp] theorem State.updDom_policy (s : State) (i : Nat) (f : Dom → Dom) : (s.updDom i f).policy = s.policy := (rfl)
@[simp] theorem State.updDom_rings (s : State) (i : Nat) (f : Dom → Dom) : (s.updDom i f).rings = s.rings := (rfl)
@[simp] theorem State.updDom_smb (s : State) (i : Nat) (f : Dom → Dom) : (s.updDom i f).smb = s.smb := (rfl)
@[simp] theorem State.updDom_avs (s : State) (i : Nat) (f : Dom → Dom) : (s.updDom i f).avs = s.avs := (rfl)
@[simp] theorem State.updDom_tap (s : State) (i : Nat) (f : Dom → Dom) : (s.updDom i f).tap = s.tap := (rfl)
@[simp] theorem State.updDom_pub (s : State) (i : Nat) (f : Dom → Dom) : (s.updDom i f).pub = s.pub := (rfl)
@[simp] theorem State.updDom_freeCtr (s : State) (i : Nat) (f : Dom → Dom) : (s.updDom i f).freeCtr = s.freeCtr := (rfl)
@[simp] theorem State.updDom_pending (s : State) (i : Nat) (f : Dom → Dom) : (s.updDom i f).pending = s.pending := (rfl)

/-! ### updLane -/

@[simp] theorem State.updLane_otp (s : State) (i : Nat) (f : Lane → Lane) : (s.updLane i f).otp = s.otp := (rfl)
@[simp] theorem State.updLane_start (s : State) (i : Nat) (f : Lane → Lane) : (s.updLane i f).start = s.start := (rfl)
@[simp] theorem State.updLane_clk (s : State) (i : Nat) (f : Lane → Lane) : (s.updLane i f).clk = s.clk := (rfl)
@[simp] theorem State.updLane_win (s : State) (i : Nat) (f : Lane → Lane) : (s.updLane i f).win = s.win := (rfl)
@[simp] theorem State.updLane_cells (s : State) (i : Nat) (f : Lane → Lane) : (s.updLane i f).cells = s.cells := (rfl)
@[simp] theorem State.updLane_views (s : State) (i : Nat) (f : Lane → Lane) : (s.updLane i f).views = s.views := (rfl)
@[simp] theorem State.updLane_chains (s : State) (i : Nat) (f : Lane → Lane) : (s.updLane i f).chains = s.chains := (rfl)
@[simp] theorem State.updLane_creg (s : State) (i : Nat) (f : Lane → Lane) : (s.updLane i f).creg = s.creg := (rfl)
@[simp] theorem State.updLane_eng (s : State) (i : Nat) (f : Lane → Lane) : (s.updLane i f).eng = s.eng := (rfl)
@[simp] theorem State.updLane_doms (s : State) (i : Nat) (f : Lane → Lane) : (s.updLane i f).doms = s.doms := (rfl)
@[simp] theorem State.updLane_sense (s : State) (i : Nat) (f : Lane → Lane) : (s.updLane i f).sense = s.sense := (rfl)
@[simp] theorem State.updLane_dscs (s : State) (i : Nat) (f : Lane → Lane) : (s.updLane i f).dscs = s.dscs := (rfl)
@[simp] theorem State.updLane_hkcs (s : State) (i : Nat) (f : Lane → Lane) : (s.updLane i f).hkcs = s.hkcs := (rfl)
@[simp] theorem State.updLane_tallies (s : State) (i : Nat) (f : Lane → Lane) : (s.updLane i f).tallies = s.tallies := (rfl)
@[simp] theorem State.updLane_ledger (s : State) (i : Nat) (f : Lane → Lane) : (s.updLane i f).ledger = s.ledger := (rfl)
@[simp] theorem State.updLane_tiles (s : State) (i : Nat) (f : Lane → Lane) : (s.updLane i f).tiles = s.tiles := (rfl)
@[simp] theorem State.updLane_accts (s : State) (i : Nat) (f : Lane → Lane) : (s.updLane i f).accts = s.accts := (rfl)
@[simp] theorem State.updLane_limits (s : State) (i : Nat) (f : Lane → Lane) : (s.updLane i f).limits = s.limits := (rfl)
@[simp] theorem State.updLane_pace (s : State) (i : Nat) (f : Lane → Lane) : (s.updLane i f).pace = s.pace := (rfl)
@[simp] theorem State.updLane_therm (s : State) (i : Nat) (f : Lane → Lane) : (s.updLane i f).therm = s.therm := (rfl)
@[simp] theorem State.updLane_diodes (s : State) (i : Nat) (f : Lane → Lane) : (s.updLane i f).diodes = s.diodes := (rfl)
@[simp] theorem State.updLane_stopq (s : State) (i : Nat) (f : Lane → Lane) : (s.updLane i f).stopq = s.stopq := (rfl)
@[simp] theorem State.updLane_flt (s : State) (i : Nat) (f : Lane → Lane) : (s.updLane i f).flt = s.flt := (rfl)
@[simp] theorem State.updLane_warden (s : State) (i : Nat) (f : Lane → Lane) : (s.updLane i f).warden = s.warden := (rfl)
@[simp] theorem State.updLane_policy (s : State) (i : Nat) (f : Lane → Lane) : (s.updLane i f).policy = s.policy := (rfl)
@[simp] theorem State.updLane_rings (s : State) (i : Nat) (f : Lane → Lane) : (s.updLane i f).rings = s.rings := (rfl)
@[simp] theorem State.updLane_smb (s : State) (i : Nat) (f : Lane → Lane) : (s.updLane i f).smb = s.smb := (rfl)
@[simp] theorem State.updLane_avs (s : State) (i : Nat) (f : Lane → Lane) : (s.updLane i f).avs = s.avs := (rfl)
@[simp] theorem State.updLane_tap (s : State) (i : Nat) (f : Lane → Lane) : (s.updLane i f).tap = s.tap := (rfl)
@[simp] theorem State.updLane_pub (s : State) (i : Nat) (f : Lane → Lane) : (s.updLane i f).pub = s.pub := (rfl)
@[simp] theorem State.updLane_freeCtr (s : State) (i : Nat) (f : Lane → Lane) : (s.updLane i f).freeCtr = s.freeCtr := (rfl)
@[simp] theorem State.updLane_pending (s : State) (i : Nat) (f : Lane → Lane) : (s.updLane i f).pending = s.pending := (rfl)

/-! ### updDsc -/

@[simp] theorem State.updDsc_otp (s : State) (i : Nat) (f : Dsc → Dsc) : (s.updDsc i f).otp = s.otp := (rfl)
@[simp] theorem State.updDsc_start (s : State) (i : Nat) (f : Dsc → Dsc) : (s.updDsc i f).start = s.start := (rfl)
@[simp] theorem State.updDsc_clk (s : State) (i : Nat) (f : Dsc → Dsc) : (s.updDsc i f).clk = s.clk := (rfl)
@[simp] theorem State.updDsc_win (s : State) (i : Nat) (f : Dsc → Dsc) : (s.updDsc i f).win = s.win := (rfl)
@[simp] theorem State.updDsc_cells (s : State) (i : Nat) (f : Dsc → Dsc) : (s.updDsc i f).cells = s.cells := (rfl)
@[simp] theorem State.updDsc_views (s : State) (i : Nat) (f : Dsc → Dsc) : (s.updDsc i f).views = s.views := (rfl)
@[simp] theorem State.updDsc_chains (s : State) (i : Nat) (f : Dsc → Dsc) : (s.updDsc i f).chains = s.chains := (rfl)
@[simp] theorem State.updDsc_creg (s : State) (i : Nat) (f : Dsc → Dsc) : (s.updDsc i f).creg = s.creg := (rfl)
@[simp] theorem State.updDsc_eng (s : State) (i : Nat) (f : Dsc → Dsc) : (s.updDsc i f).eng = s.eng := (rfl)
@[simp] theorem State.updDsc_doms (s : State) (i : Nat) (f : Dsc → Dsc) : (s.updDsc i f).doms = s.doms := (rfl)
@[simp] theorem State.updDsc_lanes (s : State) (i : Nat) (f : Dsc → Dsc) : (s.updDsc i f).lanes = s.lanes := (rfl)
@[simp] theorem State.updDsc_sense (s : State) (i : Nat) (f : Dsc → Dsc) : (s.updDsc i f).sense = s.sense := (rfl)
@[simp] theorem State.updDsc_hkcs (s : State) (i : Nat) (f : Dsc → Dsc) : (s.updDsc i f).hkcs = s.hkcs := (rfl)
@[simp] theorem State.updDsc_tallies (s : State) (i : Nat) (f : Dsc → Dsc) : (s.updDsc i f).tallies = s.tallies := (rfl)
@[simp] theorem State.updDsc_ledger (s : State) (i : Nat) (f : Dsc → Dsc) : (s.updDsc i f).ledger = s.ledger := (rfl)
@[simp] theorem State.updDsc_tiles (s : State) (i : Nat) (f : Dsc → Dsc) : (s.updDsc i f).tiles = s.tiles := (rfl)
@[simp] theorem State.updDsc_accts (s : State) (i : Nat) (f : Dsc → Dsc) : (s.updDsc i f).accts = s.accts := (rfl)
@[simp] theorem State.updDsc_limits (s : State) (i : Nat) (f : Dsc → Dsc) : (s.updDsc i f).limits = s.limits := (rfl)
@[simp] theorem State.updDsc_pace (s : State) (i : Nat) (f : Dsc → Dsc) : (s.updDsc i f).pace = s.pace := (rfl)
@[simp] theorem State.updDsc_therm (s : State) (i : Nat) (f : Dsc → Dsc) : (s.updDsc i f).therm = s.therm := (rfl)
@[simp] theorem State.updDsc_diodes (s : State) (i : Nat) (f : Dsc → Dsc) : (s.updDsc i f).diodes = s.diodes := (rfl)
@[simp] theorem State.updDsc_stopq (s : State) (i : Nat) (f : Dsc → Dsc) : (s.updDsc i f).stopq = s.stopq := (rfl)
@[simp] theorem State.updDsc_flt (s : State) (i : Nat) (f : Dsc → Dsc) : (s.updDsc i f).flt = s.flt := (rfl)
@[simp] theorem State.updDsc_warden (s : State) (i : Nat) (f : Dsc → Dsc) : (s.updDsc i f).warden = s.warden := (rfl)
@[simp] theorem State.updDsc_policy (s : State) (i : Nat) (f : Dsc → Dsc) : (s.updDsc i f).policy = s.policy := (rfl)
@[simp] theorem State.updDsc_rings (s : State) (i : Nat) (f : Dsc → Dsc) : (s.updDsc i f).rings = s.rings := (rfl)
@[simp] theorem State.updDsc_smb (s : State) (i : Nat) (f : Dsc → Dsc) : (s.updDsc i f).smb = s.smb := (rfl)
@[simp] theorem State.updDsc_avs (s : State) (i : Nat) (f : Dsc → Dsc) : (s.updDsc i f).avs = s.avs := (rfl)
@[simp] theorem State.updDsc_tap (s : State) (i : Nat) (f : Dsc → Dsc) : (s.updDsc i f).tap = s.tap := (rfl)
@[simp] theorem State.updDsc_pub (s : State) (i : Nat) (f : Dsc → Dsc) : (s.updDsc i f).pub = s.pub := (rfl)
@[simp] theorem State.updDsc_freeCtr (s : State) (i : Nat) (f : Dsc → Dsc) : (s.updDsc i f).freeCtr = s.freeCtr := (rfl)
@[simp] theorem State.updDsc_pending (s : State) (i : Nat) (f : Dsc → Dsc) : (s.updDsc i f).pending = s.pending := (rfl)

/-! ### updHkc -/

@[simp] theorem State.updHkc_otp (s : State) (i : Nat) (f : Hkc → Hkc) : (s.updHkc i f).otp = s.otp := (rfl)
@[simp] theorem State.updHkc_start (s : State) (i : Nat) (f : Hkc → Hkc) : (s.updHkc i f).start = s.start := (rfl)
@[simp] theorem State.updHkc_clk (s : State) (i : Nat) (f : Hkc → Hkc) : (s.updHkc i f).clk = s.clk := (rfl)
@[simp] theorem State.updHkc_win (s : State) (i : Nat) (f : Hkc → Hkc) : (s.updHkc i f).win = s.win := (rfl)
@[simp] theorem State.updHkc_cells (s : State) (i : Nat) (f : Hkc → Hkc) : (s.updHkc i f).cells = s.cells := (rfl)
@[simp] theorem State.updHkc_views (s : State) (i : Nat) (f : Hkc → Hkc) : (s.updHkc i f).views = s.views := (rfl)
@[simp] theorem State.updHkc_chains (s : State) (i : Nat) (f : Hkc → Hkc) : (s.updHkc i f).chains = s.chains := (rfl)
@[simp] theorem State.updHkc_creg (s : State) (i : Nat) (f : Hkc → Hkc) : (s.updHkc i f).creg = s.creg := (rfl)
@[simp] theorem State.updHkc_eng (s : State) (i : Nat) (f : Hkc → Hkc) : (s.updHkc i f).eng = s.eng := (rfl)
@[simp] theorem State.updHkc_doms (s : State) (i : Nat) (f : Hkc → Hkc) : (s.updHkc i f).doms = s.doms := (rfl)
@[simp] theorem State.updHkc_lanes (s : State) (i : Nat) (f : Hkc → Hkc) : (s.updHkc i f).lanes = s.lanes := (rfl)
@[simp] theorem State.updHkc_sense (s : State) (i : Nat) (f : Hkc → Hkc) : (s.updHkc i f).sense = s.sense := (rfl)
@[simp] theorem State.updHkc_dscs (s : State) (i : Nat) (f : Hkc → Hkc) : (s.updHkc i f).dscs = s.dscs := (rfl)
@[simp] theorem State.updHkc_tallies (s : State) (i : Nat) (f : Hkc → Hkc) : (s.updHkc i f).tallies = s.tallies := (rfl)
@[simp] theorem State.updHkc_ledger (s : State) (i : Nat) (f : Hkc → Hkc) : (s.updHkc i f).ledger = s.ledger := (rfl)
@[simp] theorem State.updHkc_tiles (s : State) (i : Nat) (f : Hkc → Hkc) : (s.updHkc i f).tiles = s.tiles := (rfl)
@[simp] theorem State.updHkc_accts (s : State) (i : Nat) (f : Hkc → Hkc) : (s.updHkc i f).accts = s.accts := (rfl)
@[simp] theorem State.updHkc_limits (s : State) (i : Nat) (f : Hkc → Hkc) : (s.updHkc i f).limits = s.limits := (rfl)
@[simp] theorem State.updHkc_pace (s : State) (i : Nat) (f : Hkc → Hkc) : (s.updHkc i f).pace = s.pace := (rfl)
@[simp] theorem State.updHkc_therm (s : State) (i : Nat) (f : Hkc → Hkc) : (s.updHkc i f).therm = s.therm := (rfl)
@[simp] theorem State.updHkc_diodes (s : State) (i : Nat) (f : Hkc → Hkc) : (s.updHkc i f).diodes = s.diodes := (rfl)
@[simp] theorem State.updHkc_stopq (s : State) (i : Nat) (f : Hkc → Hkc) : (s.updHkc i f).stopq = s.stopq := (rfl)
@[simp] theorem State.updHkc_flt (s : State) (i : Nat) (f : Hkc → Hkc) : (s.updHkc i f).flt = s.flt := (rfl)
@[simp] theorem State.updHkc_warden (s : State) (i : Nat) (f : Hkc → Hkc) : (s.updHkc i f).warden = s.warden := (rfl)
@[simp] theorem State.updHkc_policy (s : State) (i : Nat) (f : Hkc → Hkc) : (s.updHkc i f).policy = s.policy := (rfl)
@[simp] theorem State.updHkc_rings (s : State) (i : Nat) (f : Hkc → Hkc) : (s.updHkc i f).rings = s.rings := (rfl)
@[simp] theorem State.updHkc_smb (s : State) (i : Nat) (f : Hkc → Hkc) : (s.updHkc i f).smb = s.smb := (rfl)
@[simp] theorem State.updHkc_avs (s : State) (i : Nat) (f : Hkc → Hkc) : (s.updHkc i f).avs = s.avs := (rfl)
@[simp] theorem State.updHkc_tap (s : State) (i : Nat) (f : Hkc → Hkc) : (s.updHkc i f).tap = s.tap := (rfl)
@[simp] theorem State.updHkc_pub (s : State) (i : Nat) (f : Hkc → Hkc) : (s.updHkc i f).pub = s.pub := (rfl)
@[simp] theorem State.updHkc_freeCtr (s : State) (i : Nat) (f : Hkc → Hkc) : (s.updHkc i f).freeCtr = s.freeCtr := (rfl)
@[simp] theorem State.updHkc_pending (s : State) (i : Nat) (f : Hkc → Hkc) : (s.updHkc i f).pending = s.pending := (rfl)

/-! ### updTile -/

@[simp] theorem State.updTile_otp (s : State) (i : Nat) (f : Tile → Tile) : (s.updTile i f).otp = s.otp := (rfl)
@[simp] theorem State.updTile_start (s : State) (i : Nat) (f : Tile → Tile) : (s.updTile i f).start = s.start := (rfl)
@[simp] theorem State.updTile_clk (s : State) (i : Nat) (f : Tile → Tile) : (s.updTile i f).clk = s.clk := (rfl)
@[simp] theorem State.updTile_win (s : State) (i : Nat) (f : Tile → Tile) : (s.updTile i f).win = s.win := (rfl)
@[simp] theorem State.updTile_cells (s : State) (i : Nat) (f : Tile → Tile) : (s.updTile i f).cells = s.cells := (rfl)
@[simp] theorem State.updTile_views (s : State) (i : Nat) (f : Tile → Tile) : (s.updTile i f).views = s.views := (rfl)
@[simp] theorem State.updTile_chains (s : State) (i : Nat) (f : Tile → Tile) : (s.updTile i f).chains = s.chains := (rfl)
@[simp] theorem State.updTile_creg (s : State) (i : Nat) (f : Tile → Tile) : (s.updTile i f).creg = s.creg := (rfl)
@[simp] theorem State.updTile_eng (s : State) (i : Nat) (f : Tile → Tile) : (s.updTile i f).eng = s.eng := (rfl)
@[simp] theorem State.updTile_doms (s : State) (i : Nat) (f : Tile → Tile) : (s.updTile i f).doms = s.doms := (rfl)
@[simp] theorem State.updTile_lanes (s : State) (i : Nat) (f : Tile → Tile) : (s.updTile i f).lanes = s.lanes := (rfl)
@[simp] theorem State.updTile_sense (s : State) (i : Nat) (f : Tile → Tile) : (s.updTile i f).sense = s.sense := (rfl)
@[simp] theorem State.updTile_dscs (s : State) (i : Nat) (f : Tile → Tile) : (s.updTile i f).dscs = s.dscs := (rfl)
@[simp] theorem State.updTile_hkcs (s : State) (i : Nat) (f : Tile → Tile) : (s.updTile i f).hkcs = s.hkcs := (rfl)
@[simp] theorem State.updTile_tallies (s : State) (i : Nat) (f : Tile → Tile) : (s.updTile i f).tallies = s.tallies := (rfl)
@[simp] theorem State.updTile_ledger (s : State) (i : Nat) (f : Tile → Tile) : (s.updTile i f).ledger = s.ledger := (rfl)
@[simp] theorem State.updTile_accts (s : State) (i : Nat) (f : Tile → Tile) : (s.updTile i f).accts = s.accts := (rfl)
@[simp] theorem State.updTile_limits (s : State) (i : Nat) (f : Tile → Tile) : (s.updTile i f).limits = s.limits := (rfl)
@[simp] theorem State.updTile_pace (s : State) (i : Nat) (f : Tile → Tile) : (s.updTile i f).pace = s.pace := (rfl)
@[simp] theorem State.updTile_therm (s : State) (i : Nat) (f : Tile → Tile) : (s.updTile i f).therm = s.therm := (rfl)
@[simp] theorem State.updTile_diodes (s : State) (i : Nat) (f : Tile → Tile) : (s.updTile i f).diodes = s.diodes := (rfl)
@[simp] theorem State.updTile_stopq (s : State) (i : Nat) (f : Tile → Tile) : (s.updTile i f).stopq = s.stopq := (rfl)
@[simp] theorem State.updTile_flt (s : State) (i : Nat) (f : Tile → Tile) : (s.updTile i f).flt = s.flt := (rfl)
@[simp] theorem State.updTile_warden (s : State) (i : Nat) (f : Tile → Tile) : (s.updTile i f).warden = s.warden := (rfl)
@[simp] theorem State.updTile_policy (s : State) (i : Nat) (f : Tile → Tile) : (s.updTile i f).policy = s.policy := (rfl)
@[simp] theorem State.updTile_rings (s : State) (i : Nat) (f : Tile → Tile) : (s.updTile i f).rings = s.rings := (rfl)
@[simp] theorem State.updTile_smb (s : State) (i : Nat) (f : Tile → Tile) : (s.updTile i f).smb = s.smb := (rfl)
@[simp] theorem State.updTile_avs (s : State) (i : Nat) (f : Tile → Tile) : (s.updTile i f).avs = s.avs := (rfl)
@[simp] theorem State.updTile_tap (s : State) (i : Nat) (f : Tile → Tile) : (s.updTile i f).tap = s.tap := (rfl)
@[simp] theorem State.updTile_pub (s : State) (i : Nat) (f : Tile → Tile) : (s.updTile i f).pub = s.pub := (rfl)
@[simp] theorem State.updTile_freeCtr (s : State) (i : Nat) (f : Tile → Tile) : (s.updTile i f).freeCtr = s.freeCtr := (rfl)
@[simp] theorem State.updTile_pending (s : State) (i : Nat) (f : Tile → Tile) : (s.updTile i f).pending = s.pending := (rfl)

/-! ### updAcct -/

@[simp] theorem State.updAcct_otp (s : State) (i : Nat) (f : DomAcct → DomAcct) : (s.updAcct i f).otp = s.otp := (rfl)
@[simp] theorem State.updAcct_start (s : State) (i : Nat) (f : DomAcct → DomAcct) : (s.updAcct i f).start = s.start := (rfl)
@[simp] theorem State.updAcct_clk (s : State) (i : Nat) (f : DomAcct → DomAcct) : (s.updAcct i f).clk = s.clk := (rfl)
@[simp] theorem State.updAcct_win (s : State) (i : Nat) (f : DomAcct → DomAcct) : (s.updAcct i f).win = s.win := (rfl)
@[simp] theorem State.updAcct_cells (s : State) (i : Nat) (f : DomAcct → DomAcct) : (s.updAcct i f).cells = s.cells := (rfl)
@[simp] theorem State.updAcct_views (s : State) (i : Nat) (f : DomAcct → DomAcct) : (s.updAcct i f).views = s.views := (rfl)
@[simp] theorem State.updAcct_chains (s : State) (i : Nat) (f : DomAcct → DomAcct) : (s.updAcct i f).chains = s.chains := (rfl)
@[simp] theorem State.updAcct_creg (s : State) (i : Nat) (f : DomAcct → DomAcct) : (s.updAcct i f).creg = s.creg := (rfl)
@[simp] theorem State.updAcct_eng (s : State) (i : Nat) (f : DomAcct → DomAcct) : (s.updAcct i f).eng = s.eng := (rfl)
@[simp] theorem State.updAcct_doms (s : State) (i : Nat) (f : DomAcct → DomAcct) : (s.updAcct i f).doms = s.doms := (rfl)
@[simp] theorem State.updAcct_lanes (s : State) (i : Nat) (f : DomAcct → DomAcct) : (s.updAcct i f).lanes = s.lanes := (rfl)
@[simp] theorem State.updAcct_sense (s : State) (i : Nat) (f : DomAcct → DomAcct) : (s.updAcct i f).sense = s.sense := (rfl)
@[simp] theorem State.updAcct_dscs (s : State) (i : Nat) (f : DomAcct → DomAcct) : (s.updAcct i f).dscs = s.dscs := (rfl)
@[simp] theorem State.updAcct_hkcs (s : State) (i : Nat) (f : DomAcct → DomAcct) : (s.updAcct i f).hkcs = s.hkcs := (rfl)
@[simp] theorem State.updAcct_tallies (s : State) (i : Nat) (f : DomAcct → DomAcct) : (s.updAcct i f).tallies = s.tallies := (rfl)
@[simp] theorem State.updAcct_ledger (s : State) (i : Nat) (f : DomAcct → DomAcct) : (s.updAcct i f).ledger = s.ledger := (rfl)
@[simp] theorem State.updAcct_tiles (s : State) (i : Nat) (f : DomAcct → DomAcct) : (s.updAcct i f).tiles = s.tiles := (rfl)
@[simp] theorem State.updAcct_limits (s : State) (i : Nat) (f : DomAcct → DomAcct) : (s.updAcct i f).limits = s.limits := (rfl)
@[simp] theorem State.updAcct_pace (s : State) (i : Nat) (f : DomAcct → DomAcct) : (s.updAcct i f).pace = s.pace := (rfl)
@[simp] theorem State.updAcct_therm (s : State) (i : Nat) (f : DomAcct → DomAcct) : (s.updAcct i f).therm = s.therm := (rfl)
@[simp] theorem State.updAcct_diodes (s : State) (i : Nat) (f : DomAcct → DomAcct) : (s.updAcct i f).diodes = s.diodes := (rfl)
@[simp] theorem State.updAcct_stopq (s : State) (i : Nat) (f : DomAcct → DomAcct) : (s.updAcct i f).stopq = s.stopq := (rfl)
@[simp] theorem State.updAcct_flt (s : State) (i : Nat) (f : DomAcct → DomAcct) : (s.updAcct i f).flt = s.flt := (rfl)
@[simp] theorem State.updAcct_warden (s : State) (i : Nat) (f : DomAcct → DomAcct) : (s.updAcct i f).warden = s.warden := (rfl)
@[simp] theorem State.updAcct_policy (s : State) (i : Nat) (f : DomAcct → DomAcct) : (s.updAcct i f).policy = s.policy := (rfl)
@[simp] theorem State.updAcct_rings (s : State) (i : Nat) (f : DomAcct → DomAcct) : (s.updAcct i f).rings = s.rings := (rfl)
@[simp] theorem State.updAcct_smb (s : State) (i : Nat) (f : DomAcct → DomAcct) : (s.updAcct i f).smb = s.smb := (rfl)
@[simp] theorem State.updAcct_avs (s : State) (i : Nat) (f : DomAcct → DomAcct) : (s.updAcct i f).avs = s.avs := (rfl)
@[simp] theorem State.updAcct_tap (s : State) (i : Nat) (f : DomAcct → DomAcct) : (s.updAcct i f).tap = s.tap := (rfl)
@[simp] theorem State.updAcct_pub (s : State) (i : Nat) (f : DomAcct → DomAcct) : (s.updAcct i f).pub = s.pub := (rfl)
@[simp] theorem State.updAcct_freeCtr (s : State) (i : Nat) (f : DomAcct → DomAcct) : (s.updAcct i f).freeCtr = s.freeCtr := (rfl)
@[simp] theorem State.updAcct_pending (s : State) (i : Nat) (f : DomAcct → DomAcct) : (s.updAcct i f).pending = s.pending := (rfl)

/-! ### updDiode -/

@[simp] theorem State.updDiode_otp (s : State) (i : Nat) (f : Diode → Diode) : (s.updDiode i f).otp = s.otp := (rfl)
@[simp] theorem State.updDiode_start (s : State) (i : Nat) (f : Diode → Diode) : (s.updDiode i f).start = s.start := (rfl)
@[simp] theorem State.updDiode_clk (s : State) (i : Nat) (f : Diode → Diode) : (s.updDiode i f).clk = s.clk := (rfl)
@[simp] theorem State.updDiode_win (s : State) (i : Nat) (f : Diode → Diode) : (s.updDiode i f).win = s.win := (rfl)
@[simp] theorem State.updDiode_cells (s : State) (i : Nat) (f : Diode → Diode) : (s.updDiode i f).cells = s.cells := (rfl)
@[simp] theorem State.updDiode_views (s : State) (i : Nat) (f : Diode → Diode) : (s.updDiode i f).views = s.views := (rfl)
@[simp] theorem State.updDiode_chains (s : State) (i : Nat) (f : Diode → Diode) : (s.updDiode i f).chains = s.chains := (rfl)
@[simp] theorem State.updDiode_creg (s : State) (i : Nat) (f : Diode → Diode) : (s.updDiode i f).creg = s.creg := (rfl)
@[simp] theorem State.updDiode_eng (s : State) (i : Nat) (f : Diode → Diode) : (s.updDiode i f).eng = s.eng := (rfl)
@[simp] theorem State.updDiode_doms (s : State) (i : Nat) (f : Diode → Diode) : (s.updDiode i f).doms = s.doms := (rfl)
@[simp] theorem State.updDiode_lanes (s : State) (i : Nat) (f : Diode → Diode) : (s.updDiode i f).lanes = s.lanes := (rfl)
@[simp] theorem State.updDiode_sense (s : State) (i : Nat) (f : Diode → Diode) : (s.updDiode i f).sense = s.sense := (rfl)
@[simp] theorem State.updDiode_dscs (s : State) (i : Nat) (f : Diode → Diode) : (s.updDiode i f).dscs = s.dscs := (rfl)
@[simp] theorem State.updDiode_hkcs (s : State) (i : Nat) (f : Diode → Diode) : (s.updDiode i f).hkcs = s.hkcs := (rfl)
@[simp] theorem State.updDiode_tallies (s : State) (i : Nat) (f : Diode → Diode) : (s.updDiode i f).tallies = s.tallies := (rfl)
@[simp] theorem State.updDiode_ledger (s : State) (i : Nat) (f : Diode → Diode) : (s.updDiode i f).ledger = s.ledger := (rfl)
@[simp] theorem State.updDiode_tiles (s : State) (i : Nat) (f : Diode → Diode) : (s.updDiode i f).tiles = s.tiles := (rfl)
@[simp] theorem State.updDiode_accts (s : State) (i : Nat) (f : Diode → Diode) : (s.updDiode i f).accts = s.accts := (rfl)
@[simp] theorem State.updDiode_limits (s : State) (i : Nat) (f : Diode → Diode) : (s.updDiode i f).limits = s.limits := (rfl)
@[simp] theorem State.updDiode_pace (s : State) (i : Nat) (f : Diode → Diode) : (s.updDiode i f).pace = s.pace := (rfl)
@[simp] theorem State.updDiode_therm (s : State) (i : Nat) (f : Diode → Diode) : (s.updDiode i f).therm = s.therm := (rfl)
@[simp] theorem State.updDiode_stopq (s : State) (i : Nat) (f : Diode → Diode) : (s.updDiode i f).stopq = s.stopq := (rfl)
@[simp] theorem State.updDiode_flt (s : State) (i : Nat) (f : Diode → Diode) : (s.updDiode i f).flt = s.flt := (rfl)
@[simp] theorem State.updDiode_warden (s : State) (i : Nat) (f : Diode → Diode) : (s.updDiode i f).warden = s.warden := (rfl)
@[simp] theorem State.updDiode_policy (s : State) (i : Nat) (f : Diode → Diode) : (s.updDiode i f).policy = s.policy := (rfl)
@[simp] theorem State.updDiode_rings (s : State) (i : Nat) (f : Diode → Diode) : (s.updDiode i f).rings = s.rings := (rfl)
@[simp] theorem State.updDiode_smb (s : State) (i : Nat) (f : Diode → Diode) : (s.updDiode i f).smb = s.smb := (rfl)
@[simp] theorem State.updDiode_avs (s : State) (i : Nat) (f : Diode → Diode) : (s.updDiode i f).avs = s.avs := (rfl)
@[simp] theorem State.updDiode_tap (s : State) (i : Nat) (f : Diode → Diode) : (s.updDiode i f).tap = s.tap := (rfl)
@[simp] theorem State.updDiode_pub (s : State) (i : Nat) (f : Diode → Diode) : (s.updDiode i f).pub = s.pub := (rfl)
@[simp] theorem State.updDiode_freeCtr (s : State) (i : Nat) (f : Diode → Diode) : (s.updDiode i f).freeCtr = s.freeCtr := (rfl)
@[simp] theorem State.updDiode_pending (s : State) (i : Nat) (f : Diode → Diode) : (s.updDiode i f).pending = s.pending := (rfl)

/-! ### updTally -/

@[simp] theorem State.updTally_otp (s : State) (c t : Nat) (f : Tally → Tally) : (s.updTally c t f).otp = s.otp := (rfl)
@[simp] theorem State.updTally_start (s : State) (c t : Nat) (f : Tally → Tally) : (s.updTally c t f).start = s.start := (rfl)
@[simp] theorem State.updTally_clk (s : State) (c t : Nat) (f : Tally → Tally) : (s.updTally c t f).clk = s.clk := (rfl)
@[simp] theorem State.updTally_win (s : State) (c t : Nat) (f : Tally → Tally) : (s.updTally c t f).win = s.win := (rfl)
@[simp] theorem State.updTally_cells (s : State) (c t : Nat) (f : Tally → Tally) : (s.updTally c t f).cells = s.cells := (rfl)
@[simp] theorem State.updTally_views (s : State) (c t : Nat) (f : Tally → Tally) : (s.updTally c t f).views = s.views := (rfl)
@[simp] theorem State.updTally_chains (s : State) (c t : Nat) (f : Tally → Tally) : (s.updTally c t f).chains = s.chains := (rfl)
@[simp] theorem State.updTally_creg (s : State) (c t : Nat) (f : Tally → Tally) : (s.updTally c t f).creg = s.creg := (rfl)
@[simp] theorem State.updTally_eng (s : State) (c t : Nat) (f : Tally → Tally) : (s.updTally c t f).eng = s.eng := (rfl)
@[simp] theorem State.updTally_doms (s : State) (c t : Nat) (f : Tally → Tally) : (s.updTally c t f).doms = s.doms := (rfl)
@[simp] theorem State.updTally_lanes (s : State) (c t : Nat) (f : Tally → Tally) : (s.updTally c t f).lanes = s.lanes := (rfl)
@[simp] theorem State.updTally_sense (s : State) (c t : Nat) (f : Tally → Tally) : (s.updTally c t f).sense = s.sense := (rfl)
@[simp] theorem State.updTally_dscs (s : State) (c t : Nat) (f : Tally → Tally) : (s.updTally c t f).dscs = s.dscs := (rfl)
@[simp] theorem State.updTally_hkcs (s : State) (c t : Nat) (f : Tally → Tally) : (s.updTally c t f).hkcs = s.hkcs := (rfl)
@[simp] theorem State.updTally_ledger (s : State) (c t : Nat) (f : Tally → Tally) : (s.updTally c t f).ledger = s.ledger := (rfl)
@[simp] theorem State.updTally_tiles (s : State) (c t : Nat) (f : Tally → Tally) : (s.updTally c t f).tiles = s.tiles := (rfl)
@[simp] theorem State.updTally_accts (s : State) (c t : Nat) (f : Tally → Tally) : (s.updTally c t f).accts = s.accts := (rfl)
@[simp] theorem State.updTally_limits (s : State) (c t : Nat) (f : Tally → Tally) : (s.updTally c t f).limits = s.limits := (rfl)
@[simp] theorem State.updTally_pace (s : State) (c t : Nat) (f : Tally → Tally) : (s.updTally c t f).pace = s.pace := (rfl)
@[simp] theorem State.updTally_therm (s : State) (c t : Nat) (f : Tally → Tally) : (s.updTally c t f).therm = s.therm := (rfl)
@[simp] theorem State.updTally_diodes (s : State) (c t : Nat) (f : Tally → Tally) : (s.updTally c t f).diodes = s.diodes := (rfl)
@[simp] theorem State.updTally_stopq (s : State) (c t : Nat) (f : Tally → Tally) : (s.updTally c t f).stopq = s.stopq := (rfl)
@[simp] theorem State.updTally_flt (s : State) (c t : Nat) (f : Tally → Tally) : (s.updTally c t f).flt = s.flt := (rfl)
@[simp] theorem State.updTally_warden (s : State) (c t : Nat) (f : Tally → Tally) : (s.updTally c t f).warden = s.warden := (rfl)
@[simp] theorem State.updTally_policy (s : State) (c t : Nat) (f : Tally → Tally) : (s.updTally c t f).policy = s.policy := (rfl)
@[simp] theorem State.updTally_rings (s : State) (c t : Nat) (f : Tally → Tally) : (s.updTally c t f).rings = s.rings := (rfl)
@[simp] theorem State.updTally_smb (s : State) (c t : Nat) (f : Tally → Tally) : (s.updTally c t f).smb = s.smb := (rfl)
@[simp] theorem State.updTally_avs (s : State) (c t : Nat) (f : Tally → Tally) : (s.updTally c t f).avs = s.avs := (rfl)
@[simp] theorem State.updTally_tap (s : State) (c t : Nat) (f : Tally → Tally) : (s.updTally c t f).tap = s.tap := (rfl)
@[simp] theorem State.updTally_pub (s : State) (c t : Nat) (f : Tally → Tally) : (s.updTally c t f).pub = s.pub := (rfl)
@[simp] theorem State.updTally_freeCtr (s : State) (c t : Nat) (f : Tally → Tally) : (s.updTally c t f).freeCtr = s.freeCtr := (rfl)
@[simp] theorem State.updTally_pending (s : State) (c t : Nat) (f : Tally → Tally) : (s.updTally c t f).pending = s.pending := (rfl)

/-! ### Reading after a write -/

@[simp] theorem State.updCell_same (s : State) (i : Nat) (f : Cell → Cell) : (s.updCell i f).cell i = f (s.cell i) :=
  Tab.get_set_same _ _ _ _

@[simp] theorem State.updCell_other (s : State) (i j : Nat) (f : Cell → Cell) (h : j ≠ i) : (s.updCell i f).cell j = s.cell j :=
  Tab.get_set_other _ _ _ _ _ h

@[simp] theorem State.updView_same (s : State) (i : Nat) (f : View → View) : (s.updView i f).view i = f (s.view i) :=
  Tab.get_set_same _ _ _ _

@[simp] theorem State.updView_other (s : State) (i j : Nat) (f : View → View) (h : j ≠ i) : (s.updView i f).view j = s.view j :=
  Tab.get_set_other _ _ _ _ _ h

@[simp] theorem State.updChain_same (s : State) (i : Nat) (f : Chain → Chain) : (s.updChain i f).chain i = f (s.chain i) :=
  Tab.get_set_same _ _ _ _

@[simp] theorem State.updChain_other (s : State) (i j : Nat) (f : Chain → Chain) (h : j ≠ i) : (s.updChain i f).chain j = s.chain j :=
  Tab.get_set_other _ _ _ _ _ h

@[simp] theorem State.updDom_same (s : State) (i : Nat) (f : Dom → Dom) : (s.updDom i f).dom i = f (s.dom i) :=
  Tab.get_set_same _ _ _ _

@[simp] theorem State.updDom_other (s : State) (i j : Nat) (f : Dom → Dom) (h : j ≠ i) : (s.updDom i f).dom j = s.dom j :=
  Tab.get_set_other _ _ _ _ _ h

@[simp] theorem State.updLane_same (s : State) (i : Nat) (f : Lane → Lane) : (s.updLane i f).lane i = f (s.lane i) :=
  Tab.get_set_same _ _ _ _

@[simp] theorem State.updLane_other (s : State) (i j : Nat) (f : Lane → Lane) (h : j ≠ i) : (s.updLane i f).lane j = s.lane j :=
  Tab.get_set_other _ _ _ _ _ h

@[simp] theorem State.updDsc_same (s : State) (i : Nat) (f : Dsc → Dsc) : (s.updDsc i f).dsc i = f (s.dsc i) :=
  Tab.get_set_same _ _ _ _

@[simp] theorem State.updDsc_other (s : State) (i j : Nat) (f : Dsc → Dsc) (h : j ≠ i) : (s.updDsc i f).dsc j = s.dsc j :=
  Tab.get_set_other _ _ _ _ _ h

@[simp] theorem State.updHkc_same (s : State) (i : Nat) (f : Hkc → Hkc) : (s.updHkc i f).hkc i = f (s.hkc i) :=
  Tab.get_set_same _ _ _ _

@[simp] theorem State.updHkc_other (s : State) (i j : Nat) (f : Hkc → Hkc) (h : j ≠ i) : (s.updHkc i f).hkc j = s.hkc j :=
  Tab.get_set_other _ _ _ _ _ h

@[simp] theorem State.updTile_same (s : State) (i : Nat) (f : Tile → Tile) : (s.updTile i f).tile i = f (s.tile i) :=
  Tab.get_set_same _ _ _ _

@[simp] theorem State.updTile_other (s : State) (i j : Nat) (f : Tile → Tile) (h : j ≠ i) : (s.updTile i f).tile j = s.tile j :=
  Tab.get_set_other _ _ _ _ _ h

@[simp] theorem State.updAcct_same (s : State) (i : Nat) (f : DomAcct → DomAcct) : (s.updAcct i f).acct i = f (s.acct i) :=
  Tab.get_set_same _ _ _ _

@[simp] theorem State.updAcct_other (s : State) (i j : Nat) (f : DomAcct → DomAcct) (h : j ≠ i) : (s.updAcct i f).acct j = s.acct j :=
  Tab.get_set_other _ _ _ _ _ h

@[simp] theorem State.updDiode_same (s : State) (i : Nat) (f : Diode → Diode) : (s.updDiode i f).diode i = f (s.diode i) :=
  Tab.get_set_same _ _ _ _

@[simp] theorem State.updDiode_other (s : State) (i j : Nat) (f : Diode → Diode) (h : j ≠ i) : (s.updDiode i f).diode j = s.diode j :=
  Tab.get_set_other _ _ _ _ _ h

/-! ### The other tables -/

@[simp] theorem State.updCell_view (s : State) (i j : Nat) (f : Cell → Cell) : (s.updCell i f).view j = s.view j := (rfl)
@[simp] theorem State.updCell_chain (s : State) (i j : Nat) (f : Cell → Cell) : (s.updCell i f).chain j = s.chain j := (rfl)
@[simp] theorem State.updCell_dom (s : State) (i j : Nat) (f : Cell → Cell) : (s.updCell i f).dom j = s.dom j := (rfl)
@[simp] theorem State.updCell_lane (s : State) (i j : Nat) (f : Cell → Cell) : (s.updCell i f).lane j = s.lane j := (rfl)
@[simp] theorem State.updCell_dsc (s : State) (i j : Nat) (f : Cell → Cell) : (s.updCell i f).dsc j = s.dsc j := (rfl)
@[simp] theorem State.updCell_hkc (s : State) (i j : Nat) (f : Cell → Cell) : (s.updCell i f).hkc j = s.hkc j := (rfl)
@[simp] theorem State.updCell_tile (s : State) (i j : Nat) (f : Cell → Cell) : (s.updCell i f).tile j = s.tile j := (rfl)
@[simp] theorem State.updCell_acct (s : State) (i j : Nat) (f : Cell → Cell) : (s.updCell i f).acct j = s.acct j := (rfl)
@[simp] theorem State.updCell_diode (s : State) (i j : Nat) (f : Cell → Cell) : (s.updCell i f).diode j = s.diode j := (rfl)
@[simp] theorem State.updCell_tally (s : State) (i c t : Nat) (f : Cell → Cell) : (s.updCell i f).tally c t = s.tally c t := (rfl)

@[simp] theorem State.updView_cell (s : State) (i j : Nat) (f : View → View) : (s.updView i f).cell j = s.cell j := (rfl)
@[simp] theorem State.updView_chain (s : State) (i j : Nat) (f : View → View) : (s.updView i f).chain j = s.chain j := (rfl)
@[simp] theorem State.updView_dom (s : State) (i j : Nat) (f : View → View) : (s.updView i f).dom j = s.dom j := (rfl)
@[simp] theorem State.updView_lane (s : State) (i j : Nat) (f : View → View) : (s.updView i f).lane j = s.lane j := (rfl)
@[simp] theorem State.updView_dsc (s : State) (i j : Nat) (f : View → View) : (s.updView i f).dsc j = s.dsc j := (rfl)
@[simp] theorem State.updView_hkc (s : State) (i j : Nat) (f : View → View) : (s.updView i f).hkc j = s.hkc j := (rfl)
@[simp] theorem State.updView_tile (s : State) (i j : Nat) (f : View → View) : (s.updView i f).tile j = s.tile j := (rfl)
@[simp] theorem State.updView_acct (s : State) (i j : Nat) (f : View → View) : (s.updView i f).acct j = s.acct j := (rfl)
@[simp] theorem State.updView_diode (s : State) (i j : Nat) (f : View → View) : (s.updView i f).diode j = s.diode j := (rfl)
@[simp] theorem State.updView_tally (s : State) (i c t : Nat) (f : View → View) : (s.updView i f).tally c t = s.tally c t := (rfl)

@[simp] theorem State.updChain_cell (s : State) (i j : Nat) (f : Chain → Chain) : (s.updChain i f).cell j = s.cell j := (rfl)
@[simp] theorem State.updChain_view (s : State) (i j : Nat) (f : Chain → Chain) : (s.updChain i f).view j = s.view j := (rfl)
@[simp] theorem State.updChain_dom (s : State) (i j : Nat) (f : Chain → Chain) : (s.updChain i f).dom j = s.dom j := (rfl)
@[simp] theorem State.updChain_lane (s : State) (i j : Nat) (f : Chain → Chain) : (s.updChain i f).lane j = s.lane j := (rfl)
@[simp] theorem State.updChain_dsc (s : State) (i j : Nat) (f : Chain → Chain) : (s.updChain i f).dsc j = s.dsc j := (rfl)
@[simp] theorem State.updChain_hkc (s : State) (i j : Nat) (f : Chain → Chain) : (s.updChain i f).hkc j = s.hkc j := (rfl)
@[simp] theorem State.updChain_tile (s : State) (i j : Nat) (f : Chain → Chain) : (s.updChain i f).tile j = s.tile j := (rfl)
@[simp] theorem State.updChain_acct (s : State) (i j : Nat) (f : Chain → Chain) : (s.updChain i f).acct j = s.acct j := (rfl)
@[simp] theorem State.updChain_diode (s : State) (i j : Nat) (f : Chain → Chain) : (s.updChain i f).diode j = s.diode j := (rfl)
@[simp] theorem State.updChain_tally (s : State) (i c t : Nat) (f : Chain → Chain) : (s.updChain i f).tally c t = s.tally c t := (rfl)

@[simp] theorem State.updDom_cell (s : State) (i j : Nat) (f : Dom → Dom) : (s.updDom i f).cell j = s.cell j := (rfl)
@[simp] theorem State.updDom_view (s : State) (i j : Nat) (f : Dom → Dom) : (s.updDom i f).view j = s.view j := (rfl)
@[simp] theorem State.updDom_chain (s : State) (i j : Nat) (f : Dom → Dom) : (s.updDom i f).chain j = s.chain j := (rfl)
@[simp] theorem State.updDom_lane (s : State) (i j : Nat) (f : Dom → Dom) : (s.updDom i f).lane j = s.lane j := (rfl)
@[simp] theorem State.updDom_dsc (s : State) (i j : Nat) (f : Dom → Dom) : (s.updDom i f).dsc j = s.dsc j := (rfl)
@[simp] theorem State.updDom_hkc (s : State) (i j : Nat) (f : Dom → Dom) : (s.updDom i f).hkc j = s.hkc j := (rfl)
@[simp] theorem State.updDom_tile (s : State) (i j : Nat) (f : Dom → Dom) : (s.updDom i f).tile j = s.tile j := (rfl)
@[simp] theorem State.updDom_acct (s : State) (i j : Nat) (f : Dom → Dom) : (s.updDom i f).acct j = s.acct j := (rfl)
@[simp] theorem State.updDom_diode (s : State) (i j : Nat) (f : Dom → Dom) : (s.updDom i f).diode j = s.diode j := (rfl)
@[simp] theorem State.updDom_tally (s : State) (i c t : Nat) (f : Dom → Dom) : (s.updDom i f).tally c t = s.tally c t := (rfl)

@[simp] theorem State.updLane_cell (s : State) (i j : Nat) (f : Lane → Lane) : (s.updLane i f).cell j = s.cell j := (rfl)
@[simp] theorem State.updLane_view (s : State) (i j : Nat) (f : Lane → Lane) : (s.updLane i f).view j = s.view j := (rfl)
@[simp] theorem State.updLane_chain (s : State) (i j : Nat) (f : Lane → Lane) : (s.updLane i f).chain j = s.chain j := (rfl)
@[simp] theorem State.updLane_dom (s : State) (i j : Nat) (f : Lane → Lane) : (s.updLane i f).dom j = s.dom j := (rfl)
@[simp] theorem State.updLane_dsc (s : State) (i j : Nat) (f : Lane → Lane) : (s.updLane i f).dsc j = s.dsc j := (rfl)
@[simp] theorem State.updLane_hkc (s : State) (i j : Nat) (f : Lane → Lane) : (s.updLane i f).hkc j = s.hkc j := (rfl)
@[simp] theorem State.updLane_tile (s : State) (i j : Nat) (f : Lane → Lane) : (s.updLane i f).tile j = s.tile j := (rfl)
@[simp] theorem State.updLane_acct (s : State) (i j : Nat) (f : Lane → Lane) : (s.updLane i f).acct j = s.acct j := (rfl)
@[simp] theorem State.updLane_diode (s : State) (i j : Nat) (f : Lane → Lane) : (s.updLane i f).diode j = s.diode j := (rfl)
@[simp] theorem State.updLane_tally (s : State) (i c t : Nat) (f : Lane → Lane) : (s.updLane i f).tally c t = s.tally c t := (rfl)

@[simp] theorem State.updDsc_cell (s : State) (i j : Nat) (f : Dsc → Dsc) : (s.updDsc i f).cell j = s.cell j := (rfl)
@[simp] theorem State.updDsc_view (s : State) (i j : Nat) (f : Dsc → Dsc) : (s.updDsc i f).view j = s.view j := (rfl)
@[simp] theorem State.updDsc_chain (s : State) (i j : Nat) (f : Dsc → Dsc) : (s.updDsc i f).chain j = s.chain j := (rfl)
@[simp] theorem State.updDsc_dom (s : State) (i j : Nat) (f : Dsc → Dsc) : (s.updDsc i f).dom j = s.dom j := (rfl)
@[simp] theorem State.updDsc_lane (s : State) (i j : Nat) (f : Dsc → Dsc) : (s.updDsc i f).lane j = s.lane j := (rfl)
@[simp] theorem State.updDsc_hkc (s : State) (i j : Nat) (f : Dsc → Dsc) : (s.updDsc i f).hkc j = s.hkc j := (rfl)
@[simp] theorem State.updDsc_tile (s : State) (i j : Nat) (f : Dsc → Dsc) : (s.updDsc i f).tile j = s.tile j := (rfl)
@[simp] theorem State.updDsc_acct (s : State) (i j : Nat) (f : Dsc → Dsc) : (s.updDsc i f).acct j = s.acct j := (rfl)
@[simp] theorem State.updDsc_diode (s : State) (i j : Nat) (f : Dsc → Dsc) : (s.updDsc i f).diode j = s.diode j := (rfl)
@[simp] theorem State.updDsc_tally (s : State) (i c t : Nat) (f : Dsc → Dsc) : (s.updDsc i f).tally c t = s.tally c t := (rfl)

@[simp] theorem State.updHkc_cell (s : State) (i j : Nat) (f : Hkc → Hkc) : (s.updHkc i f).cell j = s.cell j := (rfl)
@[simp] theorem State.updHkc_view (s : State) (i j : Nat) (f : Hkc → Hkc) : (s.updHkc i f).view j = s.view j := (rfl)
@[simp] theorem State.updHkc_chain (s : State) (i j : Nat) (f : Hkc → Hkc) : (s.updHkc i f).chain j = s.chain j := (rfl)
@[simp] theorem State.updHkc_dom (s : State) (i j : Nat) (f : Hkc → Hkc) : (s.updHkc i f).dom j = s.dom j := (rfl)
@[simp] theorem State.updHkc_lane (s : State) (i j : Nat) (f : Hkc → Hkc) : (s.updHkc i f).lane j = s.lane j := (rfl)
@[simp] theorem State.updHkc_dsc (s : State) (i j : Nat) (f : Hkc → Hkc) : (s.updHkc i f).dsc j = s.dsc j := (rfl)
@[simp] theorem State.updHkc_tile (s : State) (i j : Nat) (f : Hkc → Hkc) : (s.updHkc i f).tile j = s.tile j := (rfl)
@[simp] theorem State.updHkc_acct (s : State) (i j : Nat) (f : Hkc → Hkc) : (s.updHkc i f).acct j = s.acct j := (rfl)
@[simp] theorem State.updHkc_diode (s : State) (i j : Nat) (f : Hkc → Hkc) : (s.updHkc i f).diode j = s.diode j := (rfl)
@[simp] theorem State.updHkc_tally (s : State) (i c t : Nat) (f : Hkc → Hkc) : (s.updHkc i f).tally c t = s.tally c t := (rfl)

@[simp] theorem State.updTile_cell (s : State) (i j : Nat) (f : Tile → Tile) : (s.updTile i f).cell j = s.cell j := (rfl)
@[simp] theorem State.updTile_view (s : State) (i j : Nat) (f : Tile → Tile) : (s.updTile i f).view j = s.view j := (rfl)
@[simp] theorem State.updTile_chain (s : State) (i j : Nat) (f : Tile → Tile) : (s.updTile i f).chain j = s.chain j := (rfl)
@[simp] theorem State.updTile_dom (s : State) (i j : Nat) (f : Tile → Tile) : (s.updTile i f).dom j = s.dom j := (rfl)
@[simp] theorem State.updTile_lane (s : State) (i j : Nat) (f : Tile → Tile) : (s.updTile i f).lane j = s.lane j := (rfl)
@[simp] theorem State.updTile_dsc (s : State) (i j : Nat) (f : Tile → Tile) : (s.updTile i f).dsc j = s.dsc j := (rfl)
@[simp] theorem State.updTile_hkc (s : State) (i j : Nat) (f : Tile → Tile) : (s.updTile i f).hkc j = s.hkc j := (rfl)
@[simp] theorem State.updTile_acct (s : State) (i j : Nat) (f : Tile → Tile) : (s.updTile i f).acct j = s.acct j := (rfl)
@[simp] theorem State.updTile_diode (s : State) (i j : Nat) (f : Tile → Tile) : (s.updTile i f).diode j = s.diode j := (rfl)
@[simp] theorem State.updTile_tally (s : State) (i c t : Nat) (f : Tile → Tile) : (s.updTile i f).tally c t = s.tally c t := (rfl)

@[simp] theorem State.updAcct_cell (s : State) (i j : Nat) (f : DomAcct → DomAcct) : (s.updAcct i f).cell j = s.cell j := (rfl)
@[simp] theorem State.updAcct_view (s : State) (i j : Nat) (f : DomAcct → DomAcct) : (s.updAcct i f).view j = s.view j := (rfl)
@[simp] theorem State.updAcct_chain (s : State) (i j : Nat) (f : DomAcct → DomAcct) : (s.updAcct i f).chain j = s.chain j := (rfl)
@[simp] theorem State.updAcct_dom (s : State) (i j : Nat) (f : DomAcct → DomAcct) : (s.updAcct i f).dom j = s.dom j := (rfl)
@[simp] theorem State.updAcct_lane (s : State) (i j : Nat) (f : DomAcct → DomAcct) : (s.updAcct i f).lane j = s.lane j := (rfl)
@[simp] theorem State.updAcct_dsc (s : State) (i j : Nat) (f : DomAcct → DomAcct) : (s.updAcct i f).dsc j = s.dsc j := (rfl)
@[simp] theorem State.updAcct_hkc (s : State) (i j : Nat) (f : DomAcct → DomAcct) : (s.updAcct i f).hkc j = s.hkc j := (rfl)
@[simp] theorem State.updAcct_tile (s : State) (i j : Nat) (f : DomAcct → DomAcct) : (s.updAcct i f).tile j = s.tile j := (rfl)
@[simp] theorem State.updAcct_diode (s : State) (i j : Nat) (f : DomAcct → DomAcct) : (s.updAcct i f).diode j = s.diode j := (rfl)
@[simp] theorem State.updAcct_tally (s : State) (i c t : Nat) (f : DomAcct → DomAcct) : (s.updAcct i f).tally c t = s.tally c t := (rfl)

@[simp] theorem State.updDiode_cell (s : State) (i j : Nat) (f : Diode → Diode) : (s.updDiode i f).cell j = s.cell j := (rfl)
@[simp] theorem State.updDiode_view (s : State) (i j : Nat) (f : Diode → Diode) : (s.updDiode i f).view j = s.view j := (rfl)
@[simp] theorem State.updDiode_chain (s : State) (i j : Nat) (f : Diode → Diode) : (s.updDiode i f).chain j = s.chain j := (rfl)
@[simp] theorem State.updDiode_dom (s : State) (i j : Nat) (f : Diode → Diode) : (s.updDiode i f).dom j = s.dom j := (rfl)
@[simp] theorem State.updDiode_lane (s : State) (i j : Nat) (f : Diode → Diode) : (s.updDiode i f).lane j = s.lane j := (rfl)
@[simp] theorem State.updDiode_dsc (s : State) (i j : Nat) (f : Diode → Diode) : (s.updDiode i f).dsc j = s.dsc j := (rfl)
@[simp] theorem State.updDiode_hkc (s : State) (i j : Nat) (f : Diode → Diode) : (s.updDiode i f).hkc j = s.hkc j := (rfl)
@[simp] theorem State.updDiode_tile (s : State) (i j : Nat) (f : Diode → Diode) : (s.updDiode i f).tile j = s.tile j := (rfl)
@[simp] theorem State.updDiode_acct (s : State) (i j : Nat) (f : Diode → Diode) : (s.updDiode i f).acct j = s.acct j := (rfl)
@[simp] theorem State.updDiode_tally (s : State) (i c t : Nat) (f : Diode → Diode) : (s.updDiode i f).tally c t = s.tally c t := (rfl)

@[simp] theorem State.updTally_cell (s : State) (c t j : Nat) (f : Tally → Tally) : (s.updTally c t f).cell j = s.cell j := (rfl)
@[simp] theorem State.updTally_view (s : State) (c t j : Nat) (f : Tally → Tally) : (s.updTally c t f).view j = s.view j := (rfl)
@[simp] theorem State.updTally_chain (s : State) (c t j : Nat) (f : Tally → Tally) : (s.updTally c t f).chain j = s.chain j := (rfl)
@[simp] theorem State.updTally_dom (s : State) (c t j : Nat) (f : Tally → Tally) : (s.updTally c t f).dom j = s.dom j := (rfl)
@[simp] theorem State.updTally_lane (s : State) (c t j : Nat) (f : Tally → Tally) : (s.updTally c t f).lane j = s.lane j := (rfl)
@[simp] theorem State.updTally_dsc (s : State) (c t j : Nat) (f : Tally → Tally) : (s.updTally c t f).dsc j = s.dsc j := (rfl)
@[simp] theorem State.updTally_hkc (s : State) (c t j : Nat) (f : Tally → Tally) : (s.updTally c t f).hkc j = s.hkc j := (rfl)
@[simp] theorem State.updTally_tile (s : State) (c t j : Nat) (f : Tally → Tally) : (s.updTally c t f).tile j = s.tile j := (rfl)
@[simp] theorem State.updTally_acct (s : State) (c t j : Nat) (f : Tally → Tally) : (s.updTally c t f).acct j = s.acct j := (rfl)
@[simp] theorem State.updTally_diode (s : State) (c t j : Nat) (f : Tally → Tally) : (s.updTally c t f).diode j = s.diode j := (rfl)

/-! ### The end of a command -/

@[simp] theorem State.alertUpdate_cell (s : State) (i : Nat) : s.alertUpdate.cell i = s.cell i := (rfl)
@[simp] theorem State.alertUpdate_view (s : State) (i : Nat) : s.alertUpdate.view i = s.view i := (rfl)
@[simp] theorem State.alertUpdate_chain (s : State) (i : Nat) : s.alertUpdate.chain i = s.chain i := (rfl)
@[simp] theorem State.alertUpdate_dom (s : State) (i : Nat) : s.alertUpdate.dom i = s.dom i := (rfl)
@[simp] theorem State.alertUpdate_lane (s : State) (i : Nat) : s.alertUpdate.lane i = s.lane i := (rfl)
@[simp] theorem State.alertUpdate_dsc (s : State) (i : Nat) : s.alertUpdate.dsc i = s.dsc i := (rfl)
@[simp] theorem State.alertUpdate_hkc (s : State) (i : Nat) : s.alertUpdate.hkc i = s.hkc i := (rfl)
@[simp] theorem State.alertUpdate_tile (s : State) (i : Nat) : s.alertUpdate.tile i = s.tile i := (rfl)
@[simp] theorem State.alertUpdate_acct (s : State) (i : Nat) : s.alertUpdate.acct i = s.acct i := (rfl)
@[simp] theorem State.alertUpdate_diode (s : State) (i : Nat) : s.alertUpdate.diode i = s.diode i := (rfl)
@[simp] theorem State.alertUpdate_tally (s : State) (c t : Nat) : s.alertUpdate.tally c t = s.tally c t := (rfl)

@[simp] theorem State.alertUpdate_otp (s : State) : s.alertUpdate.otp = s.otp := (rfl)
@[simp] theorem State.alertUpdate_start (s : State) : s.alertUpdate.start = s.start := (rfl)
@[simp] theorem State.alertUpdate_clk (s : State) : s.alertUpdate.clk = s.clk := (rfl)
@[simp] theorem State.alertUpdate_win (s : State) : s.alertUpdate.win = s.win := (rfl)
@[simp] theorem State.alertUpdate_cells (s : State) : s.alertUpdate.cells = s.cells := (rfl)
@[simp] theorem State.alertUpdate_views (s : State) : s.alertUpdate.views = s.views := (rfl)
@[simp] theorem State.alertUpdate_chains (s : State) : s.alertUpdate.chains = s.chains := (rfl)
@[simp] theorem State.alertUpdate_creg (s : State) : s.alertUpdate.creg = s.creg := (rfl)
@[simp] theorem State.alertUpdate_eng (s : State) : s.alertUpdate.eng = s.eng := (rfl)
@[simp] theorem State.alertUpdate_doms (s : State) : s.alertUpdate.doms = s.doms := (rfl)
@[simp] theorem State.alertUpdate_lanes (s : State) : s.alertUpdate.lanes = s.lanes := (rfl)
@[simp] theorem State.alertUpdate_sense (s : State) : s.alertUpdate.sense = s.sense := (rfl)
@[simp] theorem State.alertUpdate_dscs (s : State) : s.alertUpdate.dscs = s.dscs := (rfl)
@[simp] theorem State.alertUpdate_hkcs (s : State) : s.alertUpdate.hkcs = s.hkcs := (rfl)
@[simp] theorem State.alertUpdate_tallies (s : State) : s.alertUpdate.tallies = s.tallies := (rfl)
@[simp] theorem State.alertUpdate_ledger (s : State) : s.alertUpdate.ledger = s.ledger := (rfl)
@[simp] theorem State.alertUpdate_tiles (s : State) : s.alertUpdate.tiles = s.tiles := (rfl)
@[simp] theorem State.alertUpdate_accts (s : State) : s.alertUpdate.accts = s.accts := (rfl)
@[simp] theorem State.alertUpdate_limits (s : State) : s.alertUpdate.limits = s.limits := (rfl)
@[simp] theorem State.alertUpdate_pace (s : State) : s.alertUpdate.pace = s.pace := (rfl)
@[simp] theorem State.alertUpdate_therm (s : State) : s.alertUpdate.therm = s.therm := (rfl)
@[simp] theorem State.alertUpdate_diodes (s : State) : s.alertUpdate.diodes = s.diodes := (rfl)
@[simp] theorem State.alertUpdate_stopq (s : State) : s.alertUpdate.stopq = s.stopq := (rfl)
@[simp] theorem State.alertUpdate_flt (s : State) : s.alertUpdate.flt = s.flt := (rfl)
@[simp] theorem State.alertUpdate_warden (s : State) : s.alertUpdate.warden = s.warden := (rfl)
@[simp] theorem State.alertUpdate_policy (s : State) : s.alertUpdate.policy = s.policy := (rfl)
@[simp] theorem State.alertUpdate_rings (s : State) : s.alertUpdate.rings = s.rings := (rfl)
@[simp] theorem State.alertUpdate_avs (s : State) : s.alertUpdate.avs = s.avs := (rfl)
@[simp] theorem State.alertUpdate_tap (s : State) : s.alertUpdate.tap = s.tap := (rfl)
@[simp] theorem State.alertUpdate_pub (s : State) : s.alertUpdate.pub = s.pub := (rfl)
@[simp] theorem State.alertUpdate_freeCtr (s : State) : s.alertUpdate.freeCtr = s.freeCtr := (rfl)
@[simp] theorem State.alertUpdate_pending (s : State) : s.alertUpdate.pending = s.pending := (rfl)

/-- A command that begins no run of lost events and no stop sequence ends with the check of ALERT_N alone. -/
theorem closing_quiet {s t : State} (h : t.flt.eventLostRun = s.flt.eventLostRun) (k : t.stopq.active = s.stopq.active) :
    closing s t = t.alertUpdate := by
  simp [closing, h, k]

/-- The same as the outcome. -/
theorem settle_quiet {s t : State} (h : t.flt.eventLostRun = s.flt.eventLostRun) (k : t.stopq.active = s.stopq.active) :
    settle s t = .next t.alertUpdate := by
  simp [settle, closing_quiet h k]

end Sys2Proof.Machine
end

