-- ==== Sys2Proof/Laws/Frames.lean ====
section
/-! SUPPORT. Loops that leave a field alone: where each turn does, the whole does. -/

namespace Sys2Proof.Machine

theorem foldl_keeps {α β : Type} (p : State → β) (g : State → α → State) (l : List α) (s : State) (h : ∀ t a, p (g t a) = p t) :
    p (l.foldl g s) = p s := by
  induction l generalizing s with
  | nil => rfl
  | cons a l ih => exact (ih _).trans (h s a)

theorem foldl_keeps_fst {α β γ : Type} (p : State → β) (g : State × γ → α → State × γ) (l : List α) (x : State × γ)
    (h : ∀ y a, p (g y a).1 = p y.1) : p (l.foldl g x).1 = p x.1 := by
  induction l generalizing x with
  | nil => rfl
  | cons a l ih => exact (ih _).trans (h x a)

@[simp] theorem foldl_otp {α : Type} (g : State → α → State) (l : List α) (s : State) (h : ∀ t a, (g t a).otp = t.otp) :
    (l.foldl g s).otp = s.otp := foldl_keeps (·.otp) g l s h
@[simp] theorem forEach_otp (g : State → Nat → State) (l : List Nat) (s : State) (h : ∀ t a, (g t a).otp = t.otp) :
    (s.forEach l g).otp = s.otp := foldl_keeps (·.otp) g l s h
@[simp] theorem draw_otp (s : State) : s.draw.2.otp = s.otp := (rfl)
@[simp] theorem foldl_start {α : Type} (g : State → α → State) (l : List α) (s : State) (h : ∀ t a, (g t a).start = t.start) :
    (l.foldl g s).start = s.start := foldl_keeps (·.start) g l s h
@[simp] theorem forEach_start (g : State → Nat → State) (l : List Nat) (s : State) (h : ∀ t a, (g t a).start = t.start) :
    (s.forEach l g).start = s.start := foldl_keeps (·.start) g l s h
@[simp] theorem draw_start (s : State) : s.draw.2.start = s.start := (rfl)
@[simp] theorem foldl_clk {α : Type} (g : State → α → State) (l : List α) (s : State) (h : ∀ t a, (g t a).clk = t.clk) :
    (l.foldl g s).clk = s.clk := foldl_keeps (·.clk) g l s h
@[simp] theorem forEach_clk (g : State → Nat → State) (l : List Nat) (s : State) (h : ∀ t a, (g t a).clk = t.clk) :
    (s.forEach l g).clk = s.clk := foldl_keeps (·.clk) g l s h
@[simp] theorem draw_clk (s : State) : s.draw.2.clk = s.clk := (rfl)
@[simp] theorem foldl_win {α : Type} (g : State → α → State) (l : List α) (s : State) (h : ∀ t a, (g t a).win = t.win) :
    (l.foldl g s).win = s.win := foldl_keeps (·.win) g l s h
@[simp] theorem forEach_win (g : State → Nat → State) (l : List Nat) (s : State) (h : ∀ t a, (g t a).win = t.win) :
    (s.forEach l g).win = s.win := foldl_keeps (·.win) g l s h
@[simp] theorem draw_win (s : State) : s.draw.2.win = s.win := (rfl)
@[simp] theorem foldl_cells {α : Type} (g : State → α → State) (l : List α) (s : State) (h : ∀ t a, (g t a).cells = t.cells) :
    (l.foldl g s).cells = s.cells := foldl_keeps (·.cells) g l s h
@[simp] theorem forEach_cells (g : State → Nat → State) (l : List Nat) (s : State) (h : ∀ t a, (g t a).cells = t.cells) :
    (s.forEach l g).cells = s.cells := foldl_keeps (·.cells) g l s h
@[simp] theorem draw_cells (s : State) : s.draw.2.cells = s.cells := (rfl)
@[simp] theorem foldl_views {α : Type} (g : State → α → State) (l : List α) (s : State) (h : ∀ t a, (g t a).views = t.views) :
    (l.foldl g s).views = s.views := foldl_keeps (·.views) g l s h
@[simp] theorem forEach_views (g : State → Nat → State) (l : List Nat) (s : State) (h : ∀ t a, (g t a).views = t.views) :
    (s.forEach l g).views = s.views := foldl_keeps (·.views) g l s h
@[simp] theorem draw_views (s : State) : s.draw.2.views = s.views := (rfl)
@[simp] theorem foldl_chains {α : Type} (g : State → α → State) (l : List α) (s : State) (h : ∀ t a, (g t a).chains = t.chains) :
    (l.foldl g s).chains = s.chains := foldl_keeps (·.chains) g l s h
@[simp] theorem forEach_chains (g : State → Nat → State) (l : List Nat) (s : State) (h : ∀ t a, (g t a).chains = t.chains) :
    (s.forEach l g).chains = s.chains := foldl_keeps (·.chains) g l s h
@[simp] theorem draw_chains (s : State) : s.draw.2.chains = s.chains := (rfl)
@[simp] theorem foldl_creg {α : Type} (g : State → α → State) (l : List α) (s : State) (h : ∀ t a, (g t a).creg = t.creg) :
    (l.foldl g s).creg = s.creg := foldl_keeps (·.creg) g l s h
@[simp] theorem forEach_creg (g : State → Nat → State) (l : List Nat) (s : State) (h : ∀ t a, (g t a).creg = t.creg) :
    (s.forEach l g).creg = s.creg := foldl_keeps (·.creg) g l s h
@[simp] theorem draw_creg (s : State) : s.draw.2.creg = s.creg := (rfl)
@[simp] theorem foldl_eng {α : Type} (g : State → α → State) (l : List α) (s : State) (h : ∀ t a, (g t a).eng = t.eng) :
    (l.foldl g s).eng = s.eng := foldl_keeps (·.eng) g l s h
@[simp] theorem forEach_eng (g : State → Nat → State) (l : List Nat) (s : State) (h : ∀ t a, (g t a).eng = t.eng) :
    (s.forEach l g).eng = s.eng := foldl_keeps (·.eng) g l s h
@[simp] theorem draw_eng (s : State) : s.draw.2.eng = s.eng := (rfl)
@[simp] theorem foldl_doms {α : Type} (g : State → α → State) (l : List α) (s : State) (h : ∀ t a, (g t a).doms = t.doms) :
    (l.foldl g s).doms = s.doms := foldl_keeps (·.doms) g l s h
@[simp] theorem forEach_doms (g : State → Nat → State) (l : List Nat) (s : State) (h : ∀ t a, (g t a).doms = t.doms) :
    (s.forEach l g).doms = s.doms := foldl_keeps (·.doms) g l s h
@[simp] theorem draw_doms (s : State) : s.draw.2.doms = s.doms := (rfl)
@[simp] theorem foldl_lanes {α : Type} (g : State → α → State) (l : List α) (s : State) (h : ∀ t a, (g t a).lanes = t.lanes) :
    (l.foldl g s).lanes = s.lanes := foldl_keeps (·.lanes) g l s h
@[simp] theorem forEach_lanes (g : State → Nat → State) (l : List Nat) (s : State) (h : ∀ t a, (g t a).lanes = t.lanes) :
    (s.forEach l g).lanes = s.lanes := foldl_keeps (·.lanes) g l s h
@[simp] theorem draw_lanes (s : State) : s.draw.2.lanes = s.lanes := (rfl)
@[simp] theorem foldl_sense {α : Type} (g : State → α → State) (l : List α) (s : State) (h : ∀ t a, (g t a).sense = t.sense) :
    (l.foldl g s).sense = s.sense := foldl_keeps (·.sense) g l s h
@[simp] theorem forEach_sense (g : State → Nat → State) (l : List Nat) (s : State) (h : ∀ t a, (g t a).sense = t.sense) :
    (s.forEach l g).sense = s.sense := foldl_keeps (·.sense) g l s h
@[simp] theorem draw_sense (s : State) : s.draw.2.sense = s.sense := (rfl)
@[simp] theorem foldl_dscs {α : Type} (g : State → α → State) (l : List α) (s : State) (h : ∀ t a, (g t a).dscs = t.dscs) :
    (l.foldl g s).dscs = s.dscs := foldl_keeps (·.dscs) g l s h
@[simp] theorem forEach_dscs (g : State → Nat → State) (l : List Nat) (s : State) (h : ∀ t a, (g t a).dscs = t.dscs) :
    (s.forEach l g).dscs = s.dscs := foldl_keeps (·.dscs) g l s h
@[simp] theorem draw_dscs (s : State) : s.draw.2.dscs = s.dscs := (rfl)
@[simp] theorem foldl_hkcs {α : Type} (g : State → α → State) (l : List α) (s : State) (h : ∀ t a, (g t a).hkcs = t.hkcs) :
    (l.foldl g s).hkcs = s.hkcs := foldl_keeps (·.hkcs) g l s h
@[simp] theorem forEach_hkcs (g : State → Nat → State) (l : List Nat) (s : State) (h : ∀ t a, (g t a).hkcs = t.hkcs) :
    (s.forEach l g).hkcs = s.hkcs := foldl_keeps (·.hkcs) g l s h
@[simp] theorem draw_hkcs (s : State) : s.draw.2.hkcs = s.hkcs := (rfl)
@[simp] theorem foldl_tallies {α : Type} (g : State → α → State) (l : List α) (s : State) (h : ∀ t a, (g t a).tallies = t.tallies) :
    (l.foldl g s).tallies = s.tallies := foldl_keeps (·.tallies) g l s h
@[simp] theorem forEach_tallies (g : State → Nat → State) (l : List Nat) (s : State) (h : ∀ t a, (g t a).tallies = t.tallies) :
    (s.forEach l g).tallies = s.tallies := foldl_keeps (·.tallies) g l s h
@[simp] theorem draw_tallies (s : State) : s.draw.2.tallies = s.tallies := (rfl)
@[simp] theorem foldl_ledger {α : Type} (g : State → α → State) (l : List α) (s : State) (h : ∀ t a, (g t a).ledger = t.ledger) :
    (l.foldl g s).ledger = s.ledger := foldl_keeps (·.ledger) g l s h
@[simp] theorem forEach_ledger (g : State → Nat → State) (l : List Nat) (s : State) (h : ∀ t a, (g t a).ledger = t.ledger) :
    (s.forEach l g).ledger = s.ledger := foldl_keeps (·.ledger) g l s h
@[simp] theorem draw_ledger (s : State) : s.draw.2.ledger = s.ledger := (rfl)
@[simp] theorem foldl_tiles {α : Type} (g : State → α → State) (l : List α) (s : State) (h : ∀ t a, (g t a).tiles = t.tiles) :
    (l.foldl g s).tiles = s.tiles := foldl_keeps (·.tiles) g l s h
@[simp] theorem forEach_tiles (g : State → Nat → State) (l : List Nat) (s : State) (h : ∀ t a, (g t a).tiles = t.tiles) :
    (s.forEach l g).tiles = s.tiles := foldl_keeps (·.tiles) g l s h
@[simp] theorem draw_tiles (s : State) : s.draw.2.tiles = s.tiles := (rfl)
@[simp] theorem foldl_accts {α : Type} (g : State → α → State) (l : List α) (s : State) (h : ∀ t a, (g t a).accts = t.accts) :
    (l.foldl g s).accts = s.accts := foldl_keeps (·.accts) g l s h
@[simp] theorem forEach_accts (g : State → Nat → State) (l : List Nat) (s : State) (h : ∀ t a, (g t a).accts = t.accts) :
    (s.forEach l g).accts = s.accts := foldl_keeps (·.accts) g l s h
@[simp] theorem draw_accts (s : State) : s.draw.2.accts = s.accts := (rfl)
@[simp] theorem foldl_limits {α : Type} (g : State → α → State) (l : List α) (s : State) (h : ∀ t a, (g t a).limits = t.limits) :
    (l.foldl g s).limits = s.limits := foldl_keeps (·.limits) g l s h
@[simp] theorem forEach_limits (g : State → Nat → State) (l : List Nat) (s : State) (h : ∀ t a, (g t a).limits = t.limits) :
    (s.forEach l g).limits = s.limits := foldl_keeps (·.limits) g l s h
@[simp] theorem draw_limits (s : State) : s.draw.2.limits = s.limits := (rfl)
@[simp] theorem foldl_pace {α : Type} (g : State → α → State) (l : List α) (s : State) (h : ∀ t a, (g t a).pace = t.pace) :
    (l.foldl g s).pace = s.pace := foldl_keeps (·.pace) g l s h
@[simp] theorem forEach_pace (g : State → Nat → State) (l : List Nat) (s : State) (h : ∀ t a, (g t a).pace = t.pace) :
    (s.forEach l g).pace = s.pace := foldl_keeps (·.pace) g l s h
@[simp] theorem draw_pace (s : State) : s.draw.2.pace = s.pace := (rfl)
@[simp] theorem foldl_therm {α : Type} (g : State → α → State) (l : List α) (s : State) (h : ∀ t a, (g t a).therm = t.therm) :
    (l.foldl g s).therm = s.therm := foldl_keeps (·.therm) g l s h
@[simp] theorem forEach_therm (g : State → Nat → State) (l : List Nat) (s : State) (h : ∀ t a, (g t a).therm = t.therm) :
    (s.forEach l g).therm = s.therm := foldl_keeps (·.therm) g l s h
@[simp] theorem draw_therm (s : State) : s.draw.2.therm = s.therm := (rfl)
@[simp] theorem foldl_diodes {α : Type} (g : State → α → State) (l : List α) (s : State) (h : ∀ t a, (g t a).diodes = t.diodes) :
    (l.foldl g s).diodes = s.diodes := foldl_keeps (·.diodes) g l s h
@[simp] theorem forEach_diodes (g : State → Nat → State) (l : List Nat) (s : State) (h : ∀ t a, (g t a).diodes = t.diodes) :
    (s.forEach l g).diodes = s.diodes := foldl_keeps (·.diodes) g l s h
@[simp] theorem draw_diodes (s : State) : s.draw.2.diodes = s.diodes := (rfl)
@[simp] theorem foldl_stopq {α : Type} (g : State → α → State) (l : List α) (s : State) (h : ∀ t a, (g t a).stopq = t.stopq) :
    (l.foldl g s).stopq = s.stopq := foldl_keeps (·.stopq) g l s h
@[simp] theorem forEach_stopq (g : State → Nat → State) (l : List Nat) (s : State) (h : ∀ t a, (g t a).stopq = t.stopq) :
    (s.forEach l g).stopq = s.stopq := foldl_keeps (·.stopq) g l s h
@[simp] theorem draw_stopq (s : State) : s.draw.2.stopq = s.stopq := (rfl)
@[simp] theorem foldl_flt {α : Type} (g : State → α → State) (l : List α) (s : State) (h : ∀ t a, (g t a).flt = t.flt) :
    (l.foldl g s).flt = s.flt := foldl_keeps (·.flt) g l s h
@[simp] theorem forEach_flt (g : State → Nat → State) (l : List Nat) (s : State) (h : ∀ t a, (g t a).flt = t.flt) :
    (s.forEach l g).flt = s.flt := foldl_keeps (·.flt) g l s h
@[simp] theorem draw_flt (s : State) : s.draw.2.flt = s.flt := (rfl)
@[simp] theorem foldl_warden {α : Type} (g : State → α → State) (l : List α) (s : State) (h : ∀ t a, (g t a).warden = t.warden) :
    (l.foldl g s).warden = s.warden := foldl_keeps (·.warden) g l s h
@[simp] theorem forEach_warden (g : State → Nat → State) (l : List Nat) (s : State) (h : ∀ t a, (g t a).warden = t.warden) :
    (s.forEach l g).warden = s.warden := foldl_keeps (·.warden) g l s h
@[simp] theorem draw_warden (s : State) : s.draw.2.warden = s.warden := (rfl)
@[simp] theorem foldl_policy {α : Type} (g : State → α → State) (l : List α) (s : State) (h : ∀ t a, (g t a).policy = t.policy) :
    (l.foldl g s).policy = s.policy := foldl_keeps (·.policy) g l s h
@[simp] theorem forEach_policy (g : State → Nat → State) (l : List Nat) (s : State) (h : ∀ t a, (g t a).policy = t.policy) :
    (s.forEach l g).policy = s.policy := foldl_keeps (·.policy) g l s h
@[simp] theorem draw_policy (s : State) : s.draw.2.policy = s.policy := (rfl)
@[simp] theorem foldl_rings {α : Type} (g : State → α → State) (l : List α) (s : State) (h : ∀ t a, (g t a).rings = t.rings) :
    (l.foldl g s).rings = s.rings := foldl_keeps (·.rings) g l s h
@[simp] theorem forEach_rings (g : State → Nat → State) (l : List Nat) (s : State) (h : ∀ t a, (g t a).rings = t.rings) :
    (s.forEach l g).rings = s.rings := foldl_keeps (·.rings) g l s h
@[simp] theorem draw_rings (s : State) : s.draw.2.rings = s.rings := (rfl)
@[simp] theorem foldl_smb {α : Type} (g : State → α → State) (l : List α) (s : State) (h : ∀ t a, (g t a).smb = t.smb) :
    (l.foldl g s).smb = s.smb := foldl_keeps (·.smb) g l s h
@[simp] theorem forEach_smb (g : State → Nat → State) (l : List Nat) (s : State) (h : ∀ t a, (g t a).smb = t.smb) :
    (s.forEach l g).smb = s.smb := foldl_keeps (·.smb) g l s h
@[simp] theorem draw_smb (s : State) : s.draw.2.smb = s.smb := (rfl)
@[simp] theorem foldl_avs {α : Type} (g : State → α → State) (l : List α) (s : State) (h : ∀ t a, (g t a).avs = t.avs) :
    (l.foldl g s).avs = s.avs := foldl_keeps (·.avs) g l s h
@[simp] theorem forEach_avs (g : State → Nat → State) (l : List Nat) (s : State) (h : ∀ t a, (g t a).avs = t.avs) :
    (s.forEach l g).avs = s.avs := foldl_keeps (·.avs) g l s h
@[simp] theorem draw_avs (s : State) : s.draw.2.avs = s.avs := (rfl)
@[simp] theorem foldl_tap {α : Type} (g : State → α → State) (l : List α) (s : State) (h : ∀ t a, (g t a).tap = t.tap) :
    (l.foldl g s).tap = s.tap := foldl_keeps (·.tap) g l s h
@[simp] theorem forEach_tap (g : State → Nat → State) (l : List Nat) (s : State) (h : ∀ t a, (g t a).tap = t.tap) :
    (s.forEach l g).tap = s.tap := foldl_keeps (·.tap) g l s h
@[simp] theorem draw_tap (s : State) : s.draw.2.tap = s.tap := (rfl)
@[simp] theorem foldl_pub {α : Type} (g : State → α → State) (l : List α) (s : State) (h : ∀ t a, (g t a).pub = t.pub) :
    (l.foldl g s).pub = s.pub := foldl_keeps (·.pub) g l s h
@[simp] theorem forEach_pub (g : State → Nat → State) (l : List Nat) (s : State) (h : ∀ t a, (g t a).pub = t.pub) :
    (s.forEach l g).pub = s.pub := foldl_keeps (·.pub) g l s h
@[simp] theorem draw_pub (s : State) : s.draw.2.pub = s.pub := (rfl)
@[simp] theorem foldl_freeCtr {α : Type} (g : State → α → State) (l : List α) (s : State) (h : ∀ t a, (g t a).freeCtr = t.freeCtr) :
    (l.foldl g s).freeCtr = s.freeCtr := foldl_keeps (·.freeCtr) g l s h
@[simp] theorem forEach_freeCtr (g : State → Nat → State) (l : List Nat) (s : State) (h : ∀ t a, (g t a).freeCtr = t.freeCtr) :
    (s.forEach l g).freeCtr = s.freeCtr := foldl_keeps (·.freeCtr) g l s h
@[simp] theorem foldl_pending {α : Type} (g : State → α → State) (l : List α) (s : State) (h : ∀ t a, (g t a).pending = t.pending) :
    (l.foldl g s).pending = s.pending := foldl_keeps (·.pending) g l s h
@[simp] theorem forEach_pending (g : State → Nat → State) (l : List Nat) (s : State) (h : ∀ t a, (g t a).pending = t.pending) :
    (s.forEach l g).pending = s.pending := foldl_keeps (·.pending) g l s h
@[simp] theorem draw_pending (s : State) : s.draw.2.pending = s.pending := (rfl)

end Sys2Proof.Machine
end

