-- ==== Sys2Proof/Laws/FramesOps.lean ====
section
/-! SUPPORT. The fields of State that the operations of Machine/Ops.lean leave alone. -/

set_option linter.unusedSimpArgs false
set_option linter.unusedVariables false

namespace Sys2Proof.Machine

@[simp] theorem State_wakeWarden_keeps (s : State) :
    (State.wakeWarden s).otp = s.otp ∧ (State.wakeWarden s).start = s.start ∧ (State.wakeWarden s).win = s.win ∧
    (State.wakeWarden s).cells = s.cells ∧ (State.wakeWarden s).views = s.views ∧ (State.wakeWarden s).chains = s.chains ∧
    (State.wakeWarden s).creg = s.creg ∧ (State.wakeWarden s).eng = s.eng ∧ (State.wakeWarden s).doms = s.doms ∧
    (State.wakeWarden s).lanes = s.lanes ∧ (State.wakeWarden s).sense = s.sense ∧ (State.wakeWarden s).dscs = s.dscs ∧
    (State.wakeWarden s).hkcs = s.hkcs ∧ (State.wakeWarden s).tallies = s.tallies ∧ (State.wakeWarden s).ledger = s.ledger ∧
    (State.wakeWarden s).tiles = s.tiles ∧ (State.wakeWarden s).accts = s.accts ∧ (State.wakeWarden s).limits = s.limits ∧
    (State.wakeWarden s).pace = s.pace ∧ (State.wakeWarden s).therm = s.therm ∧ (State.wakeWarden s).diodes = s.diodes ∧
    (State.wakeWarden s).stopq = s.stopq ∧ (State.wakeWarden s).flt = s.flt ∧ (State.wakeWarden s).warden = s.warden ∧
    (State.wakeWarden s).policy = s.policy ∧ (State.wakeWarden s).rings = s.rings ∧ (State.wakeWarden s).smb = s.smb ∧
    (State.wakeWarden s).avs = s.avs ∧ (State.wakeWarden s).tap = s.tap ∧ (State.wakeWarden s).pub = s.pub ∧
    (State.wakeWarden s).freeCtr = s.freeCtr ∧ (State.wakeWarden s).pending = s.pending := by
  refine ⟨?_, ?_, ?_, ?_, ?_, ?_, ?_, ?_, ?_, ?_, ?_, ?_, ?_, ?_, ?_, ?_, ?_, ?_, ?_, ?_, ?_, ?_, ?_, ?_, ?_, ?_, ?_, ?_, ?_, ?_, ?_, ?_⟩ <;> (first | rfl | (simp (maxDischargeDepth := 12) [State.wakeWarden]; done) | (unfold State.wakeWarden; (try dsimp only); repeat' (first | rfl | (simp (maxDischargeDepth := 12); done) | split)))

end Sys2Proof.Machine
end

