-- ==== Sys2Proof/Laws/FramesVault.lean ====
section
/-! SUPPORT. The fields of State that the operations of Machine/Vault.lean leave alone. -/

set_option linter.unusedSimpArgs false
set_option linter.unusedVariables false

namespace Sys2Proof.Machine

@[simp] theorem State_vaultPut_keeps (s : State) (a : Nat) (l : List Byte) :
    (State.vaultPut s a l).otp = s.otp ∧ (State.vaultPut s a l).start = s.start ∧ (State.vaultPut s a l).clk = s.clk ∧
    (State.vaultPut s a l).win = s.win ∧ (State.vaultPut s a l).cells = s.cells ∧ (State.vaultPut s a l).views = s.views ∧
    (State.vaultPut s a l).chains = s.chains ∧ (State.vaultPut s a l).creg = s.creg ∧ (State.vaultPut s a l).eng = s.eng ∧
    (State.vaultPut s a l).doms = s.doms ∧ (State.vaultPut s a l).lanes = s.lanes ∧ (State.vaultPut s a l).sense = s.sense ∧
    (State.vaultPut s a l).dscs = s.dscs ∧ (State.vaultPut s a l).hkcs = s.hkcs ∧ (State.vaultPut s a l).tallies = s.tallies ∧
    (State.vaultPut s a l).ledger = s.ledger ∧ (State.vaultPut s a l).tiles = s.tiles ∧ (State.vaultPut s a l).accts = s.accts ∧
    (State.vaultPut s a l).limits = s.limits ∧ (State.vaultPut s a l).pace = s.pace ∧ (State.vaultPut s a l).therm = s.therm ∧
    (State.vaultPut s a l).diodes = s.diodes ∧ (State.vaultPut s a l).stopq = s.stopq ∧ (State.vaultPut s a l).flt = s.flt ∧
    (State.vaultPut s a l).policy = s.policy ∧ (State.vaultPut s a l).rings = s.rings ∧ (State.vaultPut s a l).smb = s.smb ∧
    (State.vaultPut s a l).avs = s.avs ∧ (State.vaultPut s a l).tap = s.tap ∧ (State.vaultPut s a l).pub = s.pub ∧
    (State.vaultPut s a l).freeCtr = s.freeCtr ∧ (State.vaultPut s a l).pending = s.pending := by
  refine ⟨?_, ?_, ?_, ?_, ?_, ?_, ?_, ?_, ?_, ?_, ?_, ?_, ?_, ?_, ?_, ?_, ?_, ?_, ?_, ?_, ?_, ?_, ?_, ?_, ?_, ?_, ?_, ?_, ?_, ?_, ?_, ?_⟩ <;> (first | rfl | (simp (maxDischargeDepth := 12) [State.vaultPut]; done) | (unfold State.vaultPut; (try dsimp only); repeat' (first | rfl | (simp (maxDischargeDepth := 12); done) | split)))

@[simp] theorem State_vaultPutWords_keeps (s : State) (a : Nat) (l : List Word) :
    (State.vaultPutWords s a l).otp = s.otp ∧ (State.vaultPutWords s a l).start = s.start ∧ (State.vaultPutWords s a l).clk = s.clk ∧
    (State.vaultPutWords s a l).win = s.win ∧ (State.vaultPutWords s a l).cells = s.cells ∧ (State.vaultPutWords s a l).views = s.views ∧
    (State.vaultPutWords s a l).chains = s.chains ∧ (State.vaultPutWords s a l).creg = s.creg ∧ (State.vaultPutWords s a l).eng = s.eng ∧
    (State.vaultPutWords s a l).doms = s.doms ∧ (State.vaultPutWords s a l).lanes = s.lanes ∧
    (State.vaultPutWords s a l).sense = s.sense ∧ (State.vaultPutWords s a l).dscs = s.dscs ∧ (State.vaultPutWords s a l).hkcs = s.hkcs ∧
    (State.vaultPutWords s a l).tallies = s.tallies ∧ (State.vaultPutWords s a l).ledger = s.ledger ∧
    (State.vaultPutWords s a l).tiles = s.tiles ∧ (State.vaultPutWords s a l).accts = s.accts ∧
    (State.vaultPutWords s a l).limits = s.limits ∧ (State.vaultPutWords s a l).pace = s.pace ∧
    (State.vaultPutWords s a l).therm = s.therm ∧ (State.vaultPutWords s a l).diodes = s.diodes ∧
    (State.vaultPutWords s a l).stopq = s.stopq ∧ (State.vaultPutWords s a l).flt = s.flt ∧
    (State.vaultPutWords s a l).policy = s.policy ∧ (State.vaultPutWords s a l).rings = s.rings ∧
    (State.vaultPutWords s a l).smb = s.smb ∧ (State.vaultPutWords s a l).avs = s.avs ∧ (State.vaultPutWords s a l).tap = s.tap ∧
    (State.vaultPutWords s a l).pub = s.pub ∧ (State.vaultPutWords s a l).freeCtr = s.freeCtr ∧
    (State.vaultPutWords s a l).pending = s.pending := by
  refine ⟨?_, ?_, ?_, ?_, ?_, ?_, ?_, ?_, ?_, ?_, ?_, ?_, ?_, ?_, ?_, ?_, ?_, ?_, ?_, ?_, ?_, ?_, ?_, ?_, ?_, ?_, ?_, ?_, ?_, ?_, ?_, ?_⟩ <;> (first | rfl | (simp (maxDischargeDepth := 12) [State.vaultPutWords]; done) | (unfold State.vaultPutWords; (try dsimp only); repeat' (first | rfl | (simp (maxDischargeDepth := 12); done) | split)))

@[simp] theorem State_vaultJob_keeps (s : State) (prio : Nat) (recNo : Nat) (addr : Nat) (l : List Word) :
    (State.vaultJob s prio recNo addr l).otp = s.otp ∧ (State.vaultJob s prio recNo addr l).start = s.start ∧
    (State.vaultJob s prio recNo addr l).clk = s.clk ∧ (State.vaultJob s prio recNo addr l).win = s.win ∧
    (State.vaultJob s prio recNo addr l).cells = s.cells ∧ (State.vaultJob s prio recNo addr l).views = s.views ∧
    (State.vaultJob s prio recNo addr l).chains = s.chains ∧ (State.vaultJob s prio recNo addr l).creg = s.creg ∧
    (State.vaultJob s prio recNo addr l).eng = s.eng ∧ (State.vaultJob s prio recNo addr l).doms = s.doms ∧
    (State.vaultJob s prio recNo addr l).lanes = s.lanes ∧ (State.vaultJob s prio recNo addr l).sense = s.sense ∧
    (State.vaultJob s prio recNo addr l).dscs = s.dscs ∧ (State.vaultJob s prio recNo addr l).hkcs = s.hkcs ∧
    (State.vaultJob s prio recNo addr l).tallies = s.tallies ∧ (State.vaultJob s prio recNo addr l).ledger = s.ledger ∧
    (State.vaultJob s prio recNo addr l).tiles = s.tiles ∧ (State.vaultJob s prio recNo addr l).accts = s.accts ∧
    (State.vaultJob s prio recNo addr l).limits = s.limits ∧ (State.vaultJob s prio recNo addr l).pace = s.pace ∧
    (State.vaultJob s prio recNo addr l).therm = s.therm ∧ (State.vaultJob s prio recNo addr l).diodes = s.diodes ∧
    (State.vaultJob s prio recNo addr l).stopq = s.stopq ∧ (State.vaultJob s prio recNo addr l).flt = s.flt ∧
    (State.vaultJob s prio recNo addr l).policy = s.policy ∧ (State.vaultJob s prio recNo addr l).rings = s.rings ∧
    (State.vaultJob s prio recNo addr l).smb = s.smb ∧ (State.vaultJob s prio recNo addr l).avs = s.avs ∧
    (State.vaultJob s prio recNo addr l).tap = s.tap ∧ (State.vaultJob s prio recNo addr l).pub = s.pub ∧
    (State.vaultJob s prio recNo addr l).freeCtr = s.freeCtr ∧ (State.vaultJob s prio recNo addr l).pending = s.pending := by
  refine ⟨?_, ?_, ?_, ?_, ?_, ?_, ?_, ?_, ?_, ?_, ?_, ?_, ?_, ?_, ?_, ?_, ?_, ?_, ?_, ?_, ?_, ?_, ?_, ?_, ?_, ?_, ?_, ?_, ?_, ?_, ?_, ?_⟩ <;> (first | rfl | (simp (maxDischargeDepth := 12) [State.vaultJob]; done) | (unfold State.vaultJob; (try dsimp only); repeat' (first | rfl | (simp (maxDischargeDepth := 12); done) | split)))

@[simp] theorem State_vaultFlush_keeps (s : State) (recNo : Nat) :
    (State.vaultFlush s recNo).otp = s.otp ∧ (State.vaultFlush s recNo).start = s.start ∧ (State.vaultFlush s recNo).clk = s.clk ∧
    (State.vaultFlush s recNo).win = s.win ∧ (State.vaultFlush s recNo).cells = s.cells ∧ (State.vaultFlush s recNo).views = s.views ∧
    (State.vaultFlush s recNo).chains = s.chains ∧ (State.vaultFlush s recNo).creg = s.creg ∧ (State.vaultFlush s recNo).eng = s.eng ∧
    (State.vaultFlush s recNo).doms = s.doms ∧ (State.vaultFlush s recNo).lanes = s.lanes ∧ (State.vaultFlush s recNo).sense = s.sense ∧
    (State.vaultFlush s recNo).dscs = s.dscs ∧ (State.vaultFlush s recNo).hkcs = s.hkcs ∧ (State.vaultFlush s recNo).tallies = s.tallies ∧
    (State.vaultFlush s recNo).ledger = s.ledger ∧ (State.vaultFlush s recNo).tiles = s.tiles ∧
    (State.vaultFlush s recNo).accts = s.accts ∧ (State.vaultFlush s recNo).limits = s.limits ∧ (State.vaultFlush s recNo).pace = s.pace ∧
    (State.vaultFlush s recNo).therm = s.therm ∧ (State.vaultFlush s recNo).diodes = s.diodes ∧
    (State.vaultFlush s recNo).stopq = s.stopq ∧ (State.vaultFlush s recNo).flt = s.flt ∧ (State.vaultFlush s recNo).policy = s.policy ∧
    (State.vaultFlush s recNo).rings = s.rings ∧ (State.vaultFlush s recNo).smb = s.smb ∧ (State.vaultFlush s recNo).avs = s.avs ∧
    (State.vaultFlush s recNo).tap = s.tap ∧ (State.vaultFlush s recNo).pub = s.pub ∧ (State.vaultFlush s recNo).freeCtr = s.freeCtr ∧
    (State.vaultFlush s recNo).pending = s.pending := by
  refine ⟨?_, ?_, ?_, ?_, ?_, ?_, ?_, ?_, ?_, ?_, ?_, ?_, ?_, ?_, ?_, ?_, ?_, ?_, ?_, ?_, ?_, ?_, ?_, ?_, ?_, ?_, ?_, ?_, ?_, ?_, ?_, ?_⟩ <;> (first | rfl | (simp (maxDischargeDepth := 12) [State.vaultFlush]; done) | (unfold State.vaultFlush; (try dsimp only); repeat' (first | rfl | (simp (maxDischargeDepth := 12); done) | split)))

@[simp] theorem State_writeStateBlock_keeps (s : State) :
    (State.writeStateBlock s).otp = s.otp ∧ (State.writeStateBlock s).start = s.start ∧ (State.writeStateBlock s).clk = s.clk ∧
    (State.writeStateBlock s).win = s.win ∧ (State.writeStateBlock s).cells = s.cells ∧ (State.writeStateBlock s).views = s.views ∧
    (State.writeStateBlock s).chains = s.chains ∧ (State.writeStateBlock s).creg = s.creg ∧ (State.writeStateBlock s).eng = s.eng ∧
    (State.writeStateBlock s).doms = s.doms ∧ (State.writeStateBlock s).lanes = s.lanes ∧ (State.writeStateBlock s).sense = s.sense ∧
    (State.writeStateBlock s).dscs = s.dscs ∧ (State.writeStateBlock s).hkcs = s.hkcs ∧ (State.writeStateBlock s).tallies = s.tallies ∧
    (State.writeStateBlock s).ledger = s.ledger ∧ (State.writeStateBlock s).tiles = s.tiles ∧ (State.writeStateBlock s).accts = s.accts ∧
    (State.writeStateBlock s).limits = s.limits ∧ (State.writeStateBlock s).pace = s.pace ∧ (State.writeStateBlock s).therm = s.therm ∧
    (State.writeStateBlock s).diodes = s.diodes ∧ (State.writeStateBlock s).stopq = s.stopq ∧ (State.writeStateBlock s).flt = s.flt ∧
    (State.writeStateBlock s).policy = s.policy ∧ (State.writeStateBlock s).rings = s.rings ∧ (State.writeStateBlock s).smb = s.smb ∧
    (State.writeStateBlock s).avs = s.avs ∧ (State.writeStateBlock s).tap = s.tap ∧ (State.writeStateBlock s).pub = s.pub ∧
    (State.writeStateBlock s).freeCtr = s.freeCtr ∧ (State.writeStateBlock s).pending = s.pending := by
  refine ⟨?_, ?_, ?_, ?_, ?_, ?_, ?_, ?_, ?_, ?_, ?_, ?_, ?_, ?_, ?_, ?_, ?_, ?_, ?_, ?_, ?_, ?_, ?_, ?_, ?_, ?_, ?_, ?_, ?_, ?_, ?_, ?_⟩ <;> (first | rfl | (simp (maxDischargeDepth := 12) [State.writeStateBlock]; done) | (unfold State.writeStateBlock; (try dsimp only); repeat' (first | rfl | (simp (maxDischargeDepth := 12); done) | split)))

end Sys2Proof.Machine
end

