-- ==== Sys2Proof/Laws/FramesEvents.lean ====
section
/-! SUPPORT. The fields of State that the operations of Machine/Events.lean leave alone. -/

set_option linter.unusedSimpArgs false
set_option linter.unusedVariables false

namespace Sys2Proof.Machine

@[simp] theorem State_pushEvent_keeps (s : State) (e : Event) :
    (State.pushEvent s e).otp = s.otp ∧ (State.pushEvent s e).start = s.start ∧ (State.pushEvent s e).clk = s.clk ∧
    (State.pushEvent s e).win = s.win ∧ (State.pushEvent s e).cells = s.cells ∧ (State.pushEvent s e).views = s.views ∧
    (State.pushEvent s e).chains = s.chains ∧ (State.pushEvent s e).creg = s.creg ∧ (State.pushEvent s e).eng = s.eng ∧
    (State.pushEvent s e).doms = s.doms ∧ (State.pushEvent s e).lanes = s.lanes ∧ (State.pushEvent s e).sense = s.sense ∧
    (State.pushEvent s e).dscs = s.dscs ∧ (State.pushEvent s e).hkcs = s.hkcs ∧ (State.pushEvent s e).tallies = s.tallies ∧
    (State.pushEvent s e).ledger = s.ledger ∧ (State.pushEvent s e).tiles = s.tiles ∧ (State.pushEvent s e).accts = s.accts ∧
    (State.pushEvent s e).limits = s.limits ∧ (State.pushEvent s e).pace = s.pace ∧ (State.pushEvent s e).therm = s.therm ∧
    (State.pushEvent s e).diodes = s.diodes ∧ (State.pushEvent s e).stopq = s.stopq ∧ (State.pushEvent s e).warden = s.warden ∧
    (State.pushEvent s e).policy = s.policy ∧ (State.pushEvent s e).smb = s.smb ∧ (State.pushEvent s e).avs = s.avs ∧
    (State.pushEvent s e).tap = s.tap ∧ (State.pushEvent s e).pub = s.pub ∧ (State.pushEvent s e).freeCtr = s.freeCtr ∧
    (State.pushEvent s e).pending = s.pending := by
  refine ⟨?_, ?_, ?_, ?_, ?_, ?_, ?_, ?_, ?_, ?_, ?_, ?_, ?_, ?_, ?_, ?_, ?_, ?_, ?_, ?_, ?_, ?_, ?_, ?_, ?_, ?_, ?_, ?_, ?_, ?_, ?_⟩ <;> (first | rfl | (simp (maxDischargeDepth := 12) [State.pushEvent]; done) | (unfold State.pushEvent; (try dsimp only); repeat' (first | rfl | (simp (maxDischargeDepth := 12); done) | split)))

end Sys2Proof.Machine
end

