-- ==== Sys2Proof/Laws/FramesStopOps.lean ====
section
/-! SUPPORT. The fields of State that the operations of Machine/StopOps.lean leave alone. -/

set_option linter.unusedSimpArgs false
set_option linter.unusedVariables false

namespace Sys2Proof.Machine

@[simp] theorem State_stopLatch_keeps0 (s : State) (causes : Nat) (abandon : Bool) :
    (State.stopLatch s causes abandon).otp = s.otp ∧ (State.stopLatch s causes abandon).clk = s.clk ∧
    (State.stopLatch s causes abandon).win = s.win ∧ (State.stopLatch s causes abandon).cells = s.cells ∧
    (State.stopLatch s causes abandon).views = s.views ∧ (State.stopLatch s causes abandon).chains = s.chains ∧
    (State.stopLatch s causes abandon).creg = s.creg ∧ (State.stopLatch s causes abandon).eng = s.eng ∧
    (State.stopLatch s causes abandon).doms = s.doms ∧ (State.stopLatch s causes abandon).lanes = s.lanes ∧
    (State.stopLatch s causes abandon).sense = s.sense := by
  refine ⟨?_, ?_, ?_, ?_, ?_, ?_, ?_, ?_, ?_, ?_, ?_⟩ <;> (first | rfl | (simp (maxDischargeDepth := 12) [State.stopLatch]; done) | (unfold State.stopLatch; (try dsimp only); repeat' (first | rfl | (simp (maxDischargeDepth := 12); done) | split)))

@[simp] theorem State_stopLatch_keeps1 (s : State) (causes : Nat) (abandon : Bool) :
    (State.stopLatch s causes abandon).dscs = s.dscs ∧ (State.stopLatch s causes abandon).hkcs = s.hkcs ∧
    (State.stopLatch s causes abandon).tallies = s.tallies ∧ (State.stopLatch s causes abandon).ledger = s.ledger ∧
    (State.stopLatch s causes abandon).tiles = s.tiles ∧ (State.stopLatch s causes abandon).accts = s.accts ∧
    (State.stopLatch s causes abandon).limits = s.limits ∧ (State.stopLatch s causes abandon).pace = s.pace ∧
    (State.stopLatch s causes abandon).therm = s.therm ∧ (State.stopLatch s causes abandon).diodes = s.diodes ∧
    (State.stopLatch s causes abandon).policy = s.policy := by
  refine ⟨?_, ?_, ?_, ?_, ?_, ?_, ?_, ?_, ?_, ?_, ?_⟩ <;> (first | rfl | (simp (maxDischargeDepth := 12) [State.stopLatch]; done) | (unfold State.stopLatch; (try dsimp only); repeat' (first | rfl | (simp (maxDischargeDepth := 12); done) | split)))

@[simp] theorem State_stopLatch_keeps2 (s : State) (causes : Nat) (abandon : Bool) :
    (State.stopLatch s causes abandon).rings = s.rings ∧ (State.stopLatch s causes abandon).smb = s.smb ∧
    (State.stopLatch s causes abandon).avs = s.avs ∧ (State.stopLatch s causes abandon).tap = s.tap ∧
    (State.stopLatch s causes abandon).pub = s.pub ∧ (State.stopLatch s causes abandon).freeCtr = s.freeCtr ∧
    (State.stopLatch s causes abandon).pending = s.pending := by
  refine ⟨?_, ?_, ?_, ?_, ?_, ?_, ?_⟩ <;> (first | rfl | (simp (maxDischargeDepth := 12) [State.stopLatch]; done) | (unfold State.stopLatch; (try dsimp only); repeat' (first | rfl | (simp (maxDischargeDepth := 12); done) | split)))

@[simp] theorem State_stopAddCause_keeps0 (s : State) (causes : Nat) :
    (State.stopAddCause s causes).otp = s.otp ∧ (State.stopAddCause s causes).start = s.start ∧
    (State.stopAddCause s causes).clk = s.clk ∧ (State.stopAddCause s causes).win = s.win ∧
    (State.stopAddCause s causes).cells = s.cells ∧ (State.stopAddCause s causes).views = s.views ∧
    (State.stopAddCause s causes).chains = s.chains ∧ (State.stopAddCause s causes).creg = s.creg ∧
    (State.stopAddCause s causes).eng = s.eng ∧ (State.stopAddCause s causes).doms = s.doms ∧
    (State.stopAddCause s causes).lanes = s.lanes := by
  refine ⟨?_, ?_, ?_, ?_, ?_, ?_, ?_, ?_, ?_, ?_, ?_⟩ <;> (first | rfl | (simp (maxDischargeDepth := 12) [State.stopAddCause]; done) | (unfold State.stopAddCause; (try dsimp only); repeat' (first | rfl | (simp (maxDischargeDepth := 12); done) | split)))

@[simp] theorem State_stopAddCause_keeps1 (s : State) (causes : Nat) :
    (State.stopAddCause s causes).sense = s.sense ∧ (State.stopAddCause s causes).dscs = s.dscs ∧
    (State.stopAddCause s causes).hkcs = s.hkcs ∧ (State.stopAddCause s causes).tallies = s.tallies ∧
    (State.stopAddCause s causes).ledger = s.ledger ∧ (State.stopAddCause s causes).tiles = s.tiles ∧
    (State.stopAddCause s causes).accts = s.accts ∧ (State.stopAddCause s causes).limits = s.limits ∧
    (State.stopAddCause s causes).pace = s.pace ∧ (State.stopAddCause s causes).therm = s.therm ∧
    (State.stopAddCause s causes).diodes = s.diodes := by
  refine ⟨?_, ?_, ?_, ?_, ?_, ?_, ?_, ?_, ?_, ?_, ?_⟩ <;> (first | rfl | (simp (maxDischargeDepth := 12) [State.stopAddCause]; done) | (unfold State.stopAddCause; (try dsimp only); repeat' (first | rfl | (simp (maxDischargeDepth := 12); done) | split)))

@[simp] theorem State_stopAddCause_keeps2 (s : State) (causes : Nat) :
    (State.stopAddCause s causes).policy = s.policy ∧ (State.stopAddCause s causes).rings = s.rings ∧
    (State.stopAddCause s causes).smb = s.smb ∧ (State.stopAddCause s causes).avs = s.avs ∧ (State.stopAddCause s causes).tap = s.tap ∧
    (State.stopAddCause s causes).pub = s.pub ∧ (State.stopAddCause s causes).freeCtr = s.freeCtr ∧
    (State.stopAddCause s causes).pending = s.pending := by
  refine ⟨?_, ?_, ?_, ?_, ?_, ?_, ?_, ?_⟩ <;> (first | rfl | (simp (maxDischargeDepth := 12) [State.stopAddCause]; done) | (unfold State.stopAddCause; (try dsimp only); repeat' (first | rfl | (simp (maxDischargeDepth := 12); done) | split)))

@[simp] theorem State_stopWriteSeal_keeps0 (s : State) (stage : Nat) (off : Nat) :
    (State.stopWriteSeal s stage off).otp = s.otp ∧ (State.stopWriteSeal s stage off).start = s.start ∧
    (State.stopWriteSeal s stage off).clk = s.clk ∧ (State.stopWriteSeal s stage off).win = s.win ∧
    (State.stopWriteSeal s stage off).cells = s.cells ∧ (State.stopWriteSeal s stage off).views = s.views ∧
    (State.stopWriteSeal s stage off).chains = s.chains ∧ (State.stopWriteSeal s stage off).creg = s.creg ∧
    (State.stopWriteSeal s stage off).eng = s.eng ∧ (State.stopWriteSeal s stage off).doms = s.doms ∧
    (State.stopWriteSeal s stage off).lanes = s.lanes := by
  refine ⟨?_, ?_, ?_, ?_, ?_, ?_, ?_, ?_, ?_, ?_, ?_⟩ <;> (first | rfl | (simp (maxDischargeDepth := 12) [State.stopWriteSeal]; done) | (unfold State.stopWriteSeal; (try dsimp only); repeat' (first | rfl | (simp (maxDischargeDepth := 12); done) | split)))

@[simp] theorem State_stopWriteSeal_keeps1 (s : State) (stage : Nat) (off : Nat) :
    (State.stopWriteSeal s stage off).sense = s.sense ∧ (State.stopWriteSeal s stage off).dscs = s.dscs ∧
    (State.stopWriteSeal s stage off).hkcs = s.hkcs ∧ (State.stopWriteSeal s stage off).tallies = s.tallies ∧
    (State.stopWriteSeal s stage off).ledger = s.ledger ∧ (State.stopWriteSeal s stage off).tiles = s.tiles ∧
    (State.stopWriteSeal s stage off).accts = s.accts ∧ (State.stopWriteSeal s stage off).limits = s.limits ∧
    (State.stopWriteSeal s stage off).pace = s.pace ∧ (State.stopWriteSeal s stage off).therm = s.therm ∧
    (State.stopWriteSeal s stage off).diodes = s.diodes := by
  refine ⟨?_, ?_, ?_, ?_, ?_, ?_, ?_, ?_, ?_, ?_, ?_⟩ <;> (first | rfl | (simp (maxDischargeDepth := 12) [State.stopWriteSeal]; done) | (unfold State.stopWriteSeal; (try dsimp only); repeat' (first | rfl | (simp (maxDischargeDepth := 12); done) | split)))

@[simp] theorem State_stopWriteSeal_keeps2 (s : State) (stage : Nat) (off : Nat) :
    (State.stopWriteSeal s stage off).flt = s.flt ∧ (State.stopWriteSeal s stage off).policy = s.policy ∧
    (State.stopWriteSeal s stage off).rings = s.rings ∧ (State.stopWriteSeal s stage off).smb = s.smb ∧
    (State.stopWriteSeal s stage off).avs = s.avs ∧ (State.stopWriteSeal s stage off).tap = s.tap ∧
    (State.stopWriteSeal s stage off).pub = s.pub ∧ (State.stopWriteSeal s stage off).freeCtr = s.freeCtr ∧
    (State.stopWriteSeal s stage off).pending = s.pending := by
  refine ⟨?_, ?_, ?_, ?_, ?_, ?_, ?_, ?_, ?_⟩ <;> (first | rfl | (simp (maxDischargeDepth := 12) [State.stopWriteSeal]; done) | (unfold State.stopWriteSeal; (try dsimp only); repeat' (first | rfl | (simp (maxDischargeDepth := 12); done) | split)))

@[simp] theorem State_quietRestart_keeps0 (s : State) :
    (State.quietRestart s).otp = s.otp ∧ (State.quietRestart s).start = s.start ∧ (State.quietRestart s).clk = s.clk ∧
    (State.quietRestart s).win = s.win ∧ (State.quietRestart s).cells = s.cells ∧ (State.quietRestart s).views = s.views ∧
    (State.quietRestart s).chains = s.chains ∧ (State.quietRestart s).creg = s.creg ∧ (State.quietRestart s).eng = s.eng ∧
    (State.quietRestart s).doms = s.doms ∧ (State.quietRestart s).lanes = s.lanes := by
  refine ⟨?_, ?_, ?_, ?_, ?_, ?_, ?_, ?_, ?_, ?_, ?_⟩ <;> (first | rfl | (simp (maxDischargeDepth := 12) [State.quietRestart]; done) | (unfold State.quietRestart; (try dsimp only); repeat' (first | rfl | (simp (maxDischargeDepth := 12); done) | split)))

@[simp] theorem State_quietRestart_keeps1 (s : State) :
    (State.quietRestart s).sense = s.sense ∧ (State.quietRestart s).dscs = s.dscs ∧ (State.quietRestart s).hkcs = s.hkcs ∧
    (State.quietRestart s).tallies = s.tallies ∧ (State.quietRestart s).ledger = s.ledger ∧ (State.quietRestart s).tiles = s.tiles ∧
    (State.quietRestart s).accts = s.accts ∧ (State.quietRestart s).limits = s.limits ∧ (State.quietRestart s).pace = s.pace ∧
    (State.quietRestart s).therm = s.therm ∧ (State.quietRestart s).diodes = s.diodes := by
  refine ⟨?_, ?_, ?_, ?_, ?_, ?_, ?_, ?_, ?_, ?_, ?_⟩ <;> (first | rfl | (simp (maxDischargeDepth := 12) [State.quietRestart]; done) | (unfold State.quietRestart; (try dsimp only); repeat' (first | rfl | (simp (maxDischargeDepth := 12); done) | split)))

@[simp] theorem State_quietRestart_keeps2 (s : State) :
    (State.quietRestart s).flt = s.flt ∧ (State.quietRestart s).warden = s.warden ∧ (State.quietRestart s).policy = s.policy ∧
    (State.quietRestart s).rings = s.rings ∧ (State.quietRestart s).smb = s.smb ∧ (State.quietRestart s).avs = s.avs ∧
    (State.quietRestart s).tap = s.tap ∧ (State.quietRestart s).pub = s.pub ∧ (State.quietRestart s).freeCtr = s.freeCtr ∧
    (State.quietRestart s).pending = s.pending := by
  refine ⟨?_, ?_, ?_, ?_, ?_, ?_, ?_, ?_, ?_, ?_⟩ <;> (first | rfl | (simp (maxDischargeDepth := 12) [State.quietRestart]; done) | (unfold State.quietRestart; (try dsimp only); repeat' (first | rfl | (simp (maxDischargeDepth := 12); done) | split)))

@[simp] theorem State_enterStopped_keeps0 (s : State) :
    (State.enterStopped s).otp = s.otp ∧ (State.enterStopped s).cells = s.cells ∧ (State.enterStopped s).views = s.views ∧
    (State.enterStopped s).chains = s.chains ∧ (State.enterStopped s).creg = s.creg ∧ (State.enterStopped s).eng = s.eng ∧
    (State.enterStopped s).lanes = s.lanes ∧ (State.enterStopped s).sense = s.sense ∧ (State.enterStopped s).dscs = s.dscs ∧
    (State.enterStopped s).hkcs = s.hkcs ∧ (State.enterStopped s).tallies = s.tallies := by
  refine ⟨?_, ?_, ?_, ?_, ?_, ?_, ?_, ?_, ?_, ?_, ?_⟩ <;> (first | rfl | (simp (maxDischargeDepth := 12) [State.enterStopped]; done) | (unfold State.enterStopped; (try dsimp only); repeat' (first | rfl | (simp (maxDischargeDepth := 12); done) | split)))

@[simp] theorem State_enterStopped_keeps1 (s : State) :
    (State.enterStopped s).tiles = s.tiles ∧ (State.enterStopped s).accts = s.accts ∧ (State.enterStopped s).limits = s.limits ∧
    (State.enterStopped s).pace = s.pace ∧ (State.enterStopped s).therm = s.therm ∧ (State.enterStopped s).diodes = s.diodes ∧
    (State.enterStopped s).flt = s.flt ∧ (State.enterStopped s).warden = s.warden ∧ (State.enterStopped s).policy = s.policy ∧
    (State.enterStopped s).smb = s.smb ∧ (State.enterStopped s).avs = s.avs := by
  refine ⟨?_, ?_, ?_, ?_, ?_, ?_, ?_, ?_, ?_, ?_, ?_⟩ <;> (first | rfl | (simp (maxDischargeDepth := 12) [State.enterStopped]; done) | (unfold State.enterStopped; (try dsimp only); repeat' (first | rfl | (simp (maxDischargeDepth := 12); done) | split)))

@[simp] theorem State_enterStopped_keeps2 (s : State) :
    (State.enterStopped s).tap = s.tap ∧ (State.enterStopped s).pub = s.pub ∧ (State.enterStopped s).freeCtr = s.freeCtr ∧
    (State.enterStopped s).pending = s.pending := by
  refine ⟨?_, ?_, ?_, ?_⟩ <;> (first | rfl | (simp (maxDischargeDepth := 12) [State.enterStopped]; done) | (unfold State.enterStopped; (try dsimp only); repeat' (first | rfl | (simp (maxDischargeDepth := 12); done) | split)))

@[simp] theorem State_sealAndStop_keeps0 (s : State) (stage : Nat) (off : Nat) :
    (State.sealAndStop s stage off).otp = s.otp ∧ (State.sealAndStop s stage off).cells = s.cells ∧
    (State.sealAndStop s stage off).views = s.views ∧ (State.sealAndStop s stage off).chains = s.chains ∧
    (State.sealAndStop s stage off).creg = s.creg ∧ (State.sealAndStop s stage off).eng = s.eng ∧
    (State.sealAndStop s stage off).lanes = s.lanes ∧ (State.sealAndStop s stage off).sense = s.sense ∧
    (State.sealAndStop s stage off).dscs = s.dscs ∧ (State.sealAndStop s stage off).hkcs = s.hkcs ∧
    (State.sealAndStop s stage off).tallies = s.tallies := by
  refine ⟨?_, ?_, ?_, ?_, ?_, ?_, ?_, ?_, ?_, ?_, ?_⟩ <;> (first | rfl | (simp (maxDischargeDepth := 12) [State.sealAndStop]; done) | (unfold State.sealAndStop; (try dsimp only); repeat' (first | rfl | (simp (maxDischargeDepth := 12); done) | split)))

@[simp] theorem State_sealAndStop_keeps1 (s : State) (stage : Nat) (off : Nat) :
    (State.sealAndStop s stage off).tiles = s.tiles ∧ (State.sealAndStop s stage off).accts = s.accts ∧
    (State.sealAndStop s stage off).limits = s.limits ∧ (State.sealAndStop s stage off).pace = s.pace ∧
    (State.sealAndStop s stage off).therm = s.therm ∧ (State.sealAndStop s stage off).diodes = s.diodes ∧
    (State.sealAndStop s stage off).flt = s.flt ∧ (State.sealAndStop s stage off).policy = s.policy ∧
    (State.sealAndStop s stage off).smb = s.smb ∧ (State.sealAndStop s stage off).avs = s.avs ∧
    (State.sealAndStop s stage off).tap = s.tap := by
  refine ⟨?_, ?_, ?_, ?_, ?_, ?_, ?_, ?_, ?_, ?_, ?_⟩ <;> (first | rfl | (simp (maxDischargeDepth := 12) [State.sealAndStop]; done) | (unfold State.sealAndStop; (try dsimp only); repeat' (first | rfl | (simp (maxDischargeDepth := 12); done) | split)))

@[simp] theorem State_sealAndStop_keeps2 (s : State) (stage : Nat) (off : Nat) :
    (State.sealAndStop s stage off).pub = s.pub ∧ (State.sealAndStop s stage off).freeCtr = s.freeCtr ∧
    (State.sealAndStop s stage off).pending = s.pending := by
  refine ⟨?_, ?_, ?_⟩ <;> (first | rfl | (simp (maxDischargeDepth := 12) [State.sealAndStop]; done) | (unfold State.sealAndStop; (try dsimp only); repeat' (first | rfl | (simp (maxDischargeDepth := 12); done) | split)))

@[simp] theorem State_stopRecordOnly_keeps0 (s : State) (causes : Nat) :
    (State.stopRecordOnly s causes).otp = s.otp ∧ (State.stopRecordOnly s causes).cells = s.cells ∧
    (State.stopRecordOnly s causes).views = s.views ∧ (State.stopRecordOnly s causes).chains = s.chains ∧
    (State.stopRecordOnly s causes).creg = s.creg ∧ (State.stopRecordOnly s causes).eng = s.eng ∧
    (State.stopRecordOnly s causes).lanes = s.lanes ∧ (State.stopRecordOnly s causes).sense = s.sense ∧
    (State.stopRecordOnly s causes).dscs = s.dscs ∧ (State.stopRecordOnly s causes).hkcs = s.hkcs ∧
    (State.stopRecordOnly s causes).tallies = s.tallies := by
  refine ⟨?_, ?_, ?_, ?_, ?_, ?_, ?_, ?_, ?_, ?_, ?_⟩ <;> (first | rfl | (simp (maxDischargeDepth := 12) [State.stopRecordOnly]; done) | (unfold State.stopRecordOnly; (try dsimp only); repeat' (first | rfl | (simp (maxDischargeDepth := 12); done) | split)))

@[simp] theorem State_stopRecordOnly_keeps1 (s : State) (causes : Nat) :
    (State.stopRecordOnly s causes).tiles = s.tiles ∧ (State.stopRecordOnly s causes).accts = s.accts ∧
    (State.stopRecordOnly s causes).limits = s.limits ∧ (State.stopRecordOnly s causes).pace = s.pace ∧
    (State.stopRecordOnly s causes).therm = s.therm ∧ (State.stopRecordOnly s causes).diodes = s.diodes ∧
    (State.stopRecordOnly s causes).policy = s.policy ∧ (State.stopRecordOnly s causes).smb = s.smb ∧
    (State.stopRecordOnly s causes).avs = s.avs ∧ (State.stopRecordOnly s causes).tap = s.tap ∧
    (State.stopRecordOnly s causes).pub = s.pub := by
  refine ⟨?_, ?_, ?_, ?_, ?_, ?_, ?_, ?_, ?_, ?_, ?_⟩ <;> (first | rfl | (simp (maxDischargeDepth := 12) [State.stopRecordOnly]; done) | (unfold State.stopRecordOnly; (try dsimp only); repeat' (first | rfl | (simp (maxDischargeDepth := 12); done) | split)))

@[simp] theorem State_stopRecordOnly_keeps2 (s : State) (causes : Nat) :
    (State.stopRecordOnly s causes).freeCtr = s.freeCtr ∧ (State.stopRecordOnly s causes).pending = s.pending := by
  refine ⟨?_, ?_⟩ <;> (first | rfl | (simp (maxDischargeDepth := 12) [State.stopRecordOnly]; done) | (unfold State.stopRecordOnly; (try dsimp only); repeat' (first | rfl | (simp (maxDischargeDepth := 12); done) | split)))

@[simp] theorem State_abandonStart_keeps0 (s : State) (causes : Nat) (fail : Nat) :
    (State.abandonStart s causes fail).otp = s.otp ∧ (State.abandonStart s causes fail).clk = s.clk ∧
    (State.abandonStart s causes fail).win = s.win ∧ (State.abandonStart s causes fail).cells = s.cells ∧
    (State.abandonStart s causes fail).views = s.views ∧ (State.abandonStart s causes fail).chains = s.chains ∧
    (State.abandonStart s causes fail).creg = s.creg ∧ (State.abandonStart s causes fail).eng = s.eng ∧
    (State.abandonStart s causes fail).doms = s.doms ∧ (State.abandonStart s causes fail).lanes = s.lanes ∧
    (State.abandonStart s causes fail).sense = s.sense := by
  refine ⟨?_, ?_, ?_, ?_, ?_, ?_, ?_, ?_, ?_, ?_, ?_⟩ <;> (first | rfl | (simp (maxDischargeDepth := 12) [State.abandonStart]; done) | (unfold State.abandonStart; (try dsimp only); repeat' (first | rfl | (simp (maxDischargeDepth := 12); done) | split)))

@[simp] theorem State_abandonStart_keeps1 (s : State) (causes : Nat) (fail : Nat) :
    (State.abandonStart s causes fail).dscs = s.dscs ∧ (State.abandonStart s causes fail).hkcs = s.hkcs ∧
    (State.abandonStart s causes fail).tallies = s.tallies ∧ (State.abandonStart s causes fail).ledger = s.ledger ∧
    (State.abandonStart s causes fail).tiles = s.tiles ∧ (State.abandonStart s causes fail).accts = s.accts ∧
    (State.abandonStart s causes fail).limits = s.limits ∧ (State.abandonStart s causes fail).pace = s.pace ∧
    (State.abandonStart s causes fail).therm = s.therm ∧ (State.abandonStart s causes fail).diodes = s.diodes ∧
    (State.abandonStart s causes fail).policy = s.policy := by
  refine ⟨?_, ?_, ?_, ?_, ?_, ?_, ?_, ?_, ?_, ?_, ?_⟩ <;> (first | rfl | (simp (maxDischargeDepth := 12) [State.abandonStart]; done) | (unfold State.abandonStart; (try dsimp only); repeat' (first | rfl | (simp (maxDischargeDepth := 12); done) | split)))

@[simp] theorem State_abandonStart_keeps2 (s : State) (causes : Nat) (fail : Nat) :
    (State.abandonStart s causes fail).rings = s.rings ∧ (State.abandonStart s causes fail).smb = s.smb ∧
    (State.abandonStart s causes fail).avs = s.avs ∧ (State.abandonStart s causes fail).tap = s.tap ∧
    (State.abandonStart s causes fail).pub = s.pub ∧ (State.abandonStart s causes fail).freeCtr = s.freeCtr ∧
    (State.abandonStart s causes fail).pending = s.pending := by
  refine ⟨?_, ?_, ?_, ?_, ?_, ?_, ?_⟩ <;> (first | rfl | (simp (maxDischargeDepth := 12) [State.abandonStart]; done) | (unfold State.abandonStart; (try dsimp only); repeat' (first | rfl | (simp (maxDischargeDepth := 12); done) | split)))

@[simp] theorem State_abandonBoot_keeps0 (s : State) (fail : Nat) :
    (State.abandonBoot s fail).otp = s.otp ∧ (State.abandonBoot s fail).clk = s.clk ∧ (State.abandonBoot s fail).win = s.win ∧
    (State.abandonBoot s fail).cells = s.cells ∧ (State.abandonBoot s fail).views = s.views ∧
    (State.abandonBoot s fail).chains = s.chains ∧ (State.abandonBoot s fail).creg = s.creg ∧ (State.abandonBoot s fail).eng = s.eng ∧
    (State.abandonBoot s fail).doms = s.doms ∧ (State.abandonBoot s fail).lanes = s.lanes ∧ (State.abandonBoot s fail).sense = s.sense := by
  refine ⟨?_, ?_, ?_, ?_, ?_, ?_, ?_, ?_, ?_, ?_, ?_⟩ <;> (first | rfl | (simp (maxDischargeDepth := 12) [State.abandonBoot]; done) | (unfold State.abandonBoot; (try dsimp only); repeat' (first | rfl | (simp (maxDischargeDepth := 12); done) | split)))

@[simp] theorem State_abandonBoot_keeps1 (s : State) (fail : Nat) :
    (State.abandonBoot s fail).dscs = s.dscs ∧ (State.abandonBoot s fail).hkcs = s.hkcs ∧ (State.abandonBoot s fail).tallies = s.tallies ∧
    (State.abandonBoot s fail).ledger = s.ledger ∧ (State.abandonBoot s fail).tiles = s.tiles ∧
    (State.abandonBoot s fail).accts = s.accts ∧ (State.abandonBoot s fail).limits = s.limits ∧ (State.abandonBoot s fail).pace = s.pace ∧
    (State.abandonBoot s fail).therm = s.therm ∧ (State.abandonBoot s fail).diodes = s.diodes ∧
    (State.abandonBoot s fail).policy = s.policy := by
  refine ⟨?_, ?_, ?_, ?_, ?_, ?_, ?_, ?_, ?_, ?_, ?_⟩ <;> (first | rfl | (simp (maxDischargeDepth := 12) [State.abandonBoot]; done) | (unfold State.abandonBoot; (try dsimp only); repeat' (first | rfl | (simp (maxDischargeDepth := 12); done) | split)))

@[simp] theorem State_abandonBoot_keeps2 (s : State) (fail : Nat) :
    (State.abandonBoot s fail).rings = s.rings ∧ (State.abandonBoot s fail).smb = s.smb ∧ (State.abandonBoot s fail).avs = s.avs ∧
    (State.abandonBoot s fail).tap = s.tap ∧ (State.abandonBoot s fail).pub = s.pub ∧ (State.abandonBoot s fail).freeCtr = s.freeCtr ∧
    (State.abandonBoot s fail).pending = s.pending := by
  refine ⟨?_, ?_, ?_, ?_, ?_, ?_, ?_⟩ <;> (first | rfl | (simp (maxDischargeDepth := 12) [State.abandonBoot]; done) | (unfold State.abandonBoot; (try dsimp only); repeat' (first | rfl | (simp (maxDischargeDepth := 12); done) | split)))

@[simp] theorem State_stopCause_keeps0 (s : State) (causes : Nat) :
    (State.stopCause s causes).otp = s.otp ∧ (State.stopCause s causes).cells = s.cells ∧ (State.stopCause s causes).views = s.views ∧
    (State.stopCause s causes).chains = s.chains ∧ (State.stopCause s causes).creg = s.creg ∧ (State.stopCause s causes).eng = s.eng ∧
    (State.stopCause s causes).lanes = s.lanes ∧ (State.stopCause s causes).sense = s.sense ∧ (State.stopCause s causes).dscs = s.dscs ∧
    (State.stopCause s causes).hkcs = s.hkcs ∧ (State.stopCause s causes).tallies = s.tallies := by
  refine ⟨?_, ?_, ?_, ?_, ?_, ?_, ?_, ?_, ?_, ?_, ?_⟩ <;> (first | rfl | (simp (maxDischargeDepth := 12) [State.stopCause]; done) | (unfold State.stopCause; (try dsimp only); repeat' (first | rfl | (simp (maxDischargeDepth := 12); done) | split)))

@[simp] theorem State_stopCause_keeps1 (s : State) (causes : Nat) :
    (State.stopCause s causes).tiles = s.tiles ∧ (State.stopCause s causes).accts = s.accts ∧
    (State.stopCause s causes).limits = s.limits ∧ (State.stopCause s causes).pace = s.pace ∧ (State.stopCause s causes).therm = s.therm ∧
    (State.stopCause s causes).diodes = s.diodes ∧ (State.stopCause s causes).policy = s.policy ∧ (State.stopCause s causes).smb = s.smb ∧
    (State.stopCause s causes).avs = s.avs ∧ (State.stopCause s causes).tap = s.tap ∧ (State.stopCause s causes).pub = s.pub := by
  refine ⟨?_, ?_, ?_, ?_, ?_, ?_, ?_, ?_, ?_, ?_, ?_⟩ <;> (first | rfl | (simp (maxDischargeDepth := 12) [State.stopCause]; done) | (unfold State.stopCause; (try dsimp only); repeat' (first | rfl | (simp (maxDischargeDepth := 12); done) | split)))

@[simp] theorem State_stopCause_keeps2 (s : State) (causes : Nat) :
    (State.stopCause s causes).freeCtr = s.freeCtr ∧ (State.stopCause s causes).pending = s.pending := by
  refine ⟨?_, ?_⟩ <;> (first | rfl | (simp (maxDischargeDepth := 12) [State.stopCause]; done) | (unfold State.stopCause; (try dsimp only); repeat' (first | rfl | (simp (maxDischargeDepth := 12); done) | split)))

end Sys2Proof.Machine
end

