-- ==== Sys2Proof/Laws/FramesPaceOps.lean ====
section
/-! SUPPORT. The fields of State that the operations of Machine/PaceOps.lean leave alone. -/

set_option linter.unusedSimpArgs false
set_option linter.unusedVariables false

namespace Sys2Proof.Machine

@[simp] theorem State_paceSend_keeps0 (s : State) (f : PaceTx) :
    (State.paceSend s f).otp = s.otp ∧ (State.paceSend s f).start = s.start ∧ (State.paceSend s f).clk = s.clk ∧
    (State.paceSend s f).win = s.win ∧ (State.paceSend s f).cells = s.cells ∧ (State.paceSend s f).views = s.views ∧
    (State.paceSend s f).chains = s.chains ∧ (State.paceSend s f).creg = s.creg ∧ (State.paceSend s f).eng = s.eng ∧
    (State.paceSend s f).doms = s.doms ∧ (State.paceSend s f).lanes = s.lanes := by
  refine ⟨?_, ?_, ?_, ?_, ?_, ?_, ?_, ?_, ?_, ?_, ?_⟩ <;> (first | rfl | (simp (maxDischargeDepth := 12) [State.paceSend]; done) | (unfold State.paceSend; (try dsimp only); repeat' (first | rfl | (simp (maxDischargeDepth := 12); done) | split)))

@[simp] theorem State_paceSend_keeps1 (s : State) (f : PaceTx) :
    (State.paceSend s f).sense = s.sense ∧ (State.paceSend s f).dscs = s.dscs ∧ (State.paceSend s f).hkcs = s.hkcs ∧
    (State.paceSend s f).tallies = s.tallies ∧ (State.paceSend s f).ledger = s.ledger ∧ (State.paceSend s f).tiles = s.tiles ∧
    (State.paceSend s f).accts = s.accts ∧ (State.paceSend s f).limits = s.limits ∧ (State.paceSend s f).therm = s.therm ∧
    (State.paceSend s f).diodes = s.diodes ∧ (State.paceSend s f).stopq = s.stopq := by
  refine ⟨?_, ?_, ?_, ?_, ?_, ?_, ?_, ?_, ?_, ?_, ?_⟩ <;> (first | rfl | (simp (maxDischargeDepth := 12) [State.paceSend]; done) | (unfold State.paceSend; (try dsimp only); repeat' (first | rfl | (simp (maxDischargeDepth := 12); done) | split)))

@[simp] theorem State_paceSend_keeps2 (s : State) (f : PaceTx) :
    (State.paceSend s f).flt = s.flt ∧ (State.paceSend s f).warden = s.warden ∧ (State.paceSend s f).policy = s.policy ∧
    (State.paceSend s f).rings = s.rings ∧ (State.paceSend s f).smb = s.smb ∧ (State.paceSend s f).avs = s.avs ∧
    (State.paceSend s f).tap = s.tap ∧ (State.paceSend s f).pub = s.pub ∧ (State.paceSend s f).freeCtr = s.freeCtr ∧
    (State.paceSend s f).pending = s.pending := by
  refine ⟨?_, ?_, ?_, ?_, ?_, ?_, ?_, ?_, ?_, ?_⟩ <;> (first | rfl | (simp (maxDischargeDepth := 12) [State.paceSend]; done) | (unfold State.paceSend; (try dsimp only); repeat' (first | rfl | (simp (maxDischargeDepth := 12); done) | split)))

@[simp] theorem State_newSeq_keeps0 (s : State) (old : Option Nat) :
    (State.newSeq s old).2.otp = s.otp ∧ (State.newSeq s old).2.start = s.start ∧ (State.newSeq s old).2.clk = s.clk ∧
    (State.newSeq s old).2.win = s.win ∧ (State.newSeq s old).2.cells = s.cells ∧ (State.newSeq s old).2.views = s.views ∧
    (State.newSeq s old).2.chains = s.chains ∧ (State.newSeq s old).2.creg = s.creg ∧ (State.newSeq s old).2.eng = s.eng ∧
    (State.newSeq s old).2.doms = s.doms ∧ (State.newSeq s old).2.lanes = s.lanes := by
  refine ⟨?_, ?_, ?_, ?_, ?_, ?_, ?_, ?_, ?_, ?_, ?_⟩ <;> (first | rfl | (simp (maxDischargeDepth := 12) [State.newSeq]; done) | (unfold State.newSeq; (try dsimp only); repeat' (first | rfl | (simp (maxDischargeDepth := 12); done) | split)))

@[simp] theorem State_newSeq_keeps1 (s : State) (old : Option Nat) :
    (State.newSeq s old).2.sense = s.sense ∧ (State.newSeq s old).2.dscs = s.dscs ∧ (State.newSeq s old).2.hkcs = s.hkcs ∧
    (State.newSeq s old).2.tallies = s.tallies ∧ (State.newSeq s old).2.ledger = s.ledger ∧ (State.newSeq s old).2.tiles = s.tiles ∧
    (State.newSeq s old).2.accts = s.accts ∧ (State.newSeq s old).2.limits = s.limits ∧ (State.newSeq s old).2.pace = s.pace ∧
    (State.newSeq s old).2.therm = s.therm ∧ (State.newSeq s old).2.diodes = s.diodes := by
  refine ⟨?_, ?_, ?_, ?_, ?_, ?_, ?_, ?_, ?_, ?_, ?_⟩ <;> (first | rfl | (simp (maxDischargeDepth := 12) [State.newSeq]; done) | (unfold State.newSeq; (try dsimp only); repeat' (first | rfl | (simp (maxDischargeDepth := 12); done) | split)))

@[simp] theorem State_newSeq_keeps2 (s : State) (old : Option Nat) :
    (State.newSeq s old).2.stopq = s.stopq ∧ (State.newSeq s old).2.flt = s.flt ∧ (State.newSeq s old).2.warden = s.warden ∧
    (State.newSeq s old).2.policy = s.policy ∧ (State.newSeq s old).2.rings = s.rings ∧ (State.newSeq s old).2.smb = s.smb ∧
    (State.newSeq s old).2.avs = s.avs ∧ (State.newSeq s old).2.tap = s.tap ∧ (State.newSeq s old).2.pub = s.pub ∧
    (State.newSeq s old).2.pending = s.pending := by
  refine ⟨?_, ?_, ?_, ?_, ?_, ?_, ?_, ?_, ?_, ?_⟩ <;> (first | rfl | (simp (maxDischargeDepth := 12) [State.newSeq]; done) | (unfold State.newSeq; (try dsimp only); repeat' (first | rfl | (simp (maxDischargeDepth := 12); done) | split)))

@[simp] theorem State_paceDiscover_keeps0 (s : State) :
    (State.paceDiscover s).otp = s.otp ∧ (State.paceDiscover s).start = s.start ∧ (State.paceDiscover s).clk = s.clk ∧
    (State.paceDiscover s).win = s.win ∧ (State.paceDiscover s).cells = s.cells ∧ (State.paceDiscover s).views = s.views ∧
    (State.paceDiscover s).chains = s.chains ∧ (State.paceDiscover s).creg = s.creg ∧ (State.paceDiscover s).eng = s.eng ∧
    (State.paceDiscover s).doms = s.doms ∧ (State.paceDiscover s).lanes = s.lanes := by
  refine ⟨?_, ?_, ?_, ?_, ?_, ?_, ?_, ?_, ?_, ?_, ?_⟩ <;> (first | rfl | (simp (maxDischargeDepth := 12) [State.paceDiscover]; done) | (unfold State.paceDiscover; (try dsimp only); repeat' (first | rfl | (simp (maxDischargeDepth := 12); done) | split)))

@[simp] theorem State_paceDiscover_keeps1 (s : State) :
    (State.paceDiscover s).sense = s.sense ∧ (State.paceDiscover s).dscs = s.dscs ∧ (State.paceDiscover s).hkcs = s.hkcs ∧
    (State.paceDiscover s).tallies = s.tallies ∧ (State.paceDiscover s).ledger = s.ledger ∧ (State.paceDiscover s).tiles = s.tiles ∧
    (State.paceDiscover s).accts = s.accts ∧ (State.paceDiscover s).limits = s.limits ∧ (State.paceDiscover s).therm = s.therm ∧
    (State.paceDiscover s).diodes = s.diodes ∧ (State.paceDiscover s).stopq = s.stopq := by
  refine ⟨?_, ?_, ?_, ?_, ?_, ?_, ?_, ?_, ?_, ?_, ?_⟩ <;> (first | rfl | (simp (maxDischargeDepth := 12) [State.paceDiscover]; done) | (unfold State.paceDiscover; (try dsimp only); repeat' (first | rfl | (simp (maxDischargeDepth := 12); done) | split)))

@[simp] theorem State_paceDiscover_keeps2 (s : State) :
    (State.paceDiscover s).flt = s.flt ∧ (State.paceDiscover s).warden = s.warden ∧ (State.paceDiscover s).policy = s.policy ∧
    (State.paceDiscover s).rings = s.rings ∧ (State.paceDiscover s).smb = s.smb ∧ (State.paceDiscover s).avs = s.avs ∧
    (State.paceDiscover s).tap = s.tap ∧ (State.paceDiscover s).pub = s.pub ∧ (State.paceDiscover s).freeCtr = s.freeCtr ∧
    (State.paceDiscover s).pending = s.pending := by
  refine ⟨?_, ?_, ?_, ?_, ?_, ?_, ?_, ?_, ?_, ?_⟩ <;> (first | rfl | (simp (maxDischargeDepth := 12) [State.paceDiscover]; done) | (unfold State.paceDiscover; (try dsimp only); repeat' (first | rfl | (simp (maxDischargeDepth := 12); done) | split)))

@[simp] theorem State_paceJoin_keeps0 (s : State) :
    (State.paceJoin s).otp = s.otp ∧ (State.paceJoin s).start = s.start ∧ (State.paceJoin s).clk = s.clk ∧
    (State.paceJoin s).win = s.win ∧ (State.paceJoin s).cells = s.cells ∧ (State.paceJoin s).views = s.views ∧
    (State.paceJoin s).chains = s.chains ∧ (State.paceJoin s).creg = s.creg ∧ (State.paceJoin s).eng = s.eng ∧
    (State.paceJoin s).doms = s.doms ∧ (State.paceJoin s).lanes = s.lanes := by
  refine ⟨?_, ?_, ?_, ?_, ?_, ?_, ?_, ?_, ?_, ?_, ?_⟩ <;> (first | rfl | (simp (maxDischargeDepth := 12) [State.paceJoin]; done) | (unfold State.paceJoin; (try dsimp only); repeat' (first | rfl | (simp (maxDischargeDepth := 12); done) | split)))

@[simp] theorem State_paceJoin_keeps1 (s : State) :
    (State.paceJoin s).sense = s.sense ∧ (State.paceJoin s).dscs = s.dscs ∧ (State.paceJoin s).hkcs = s.hkcs ∧
    (State.paceJoin s).tallies = s.tallies ∧ (State.paceJoin s).ledger = s.ledger ∧ (State.paceJoin s).tiles = s.tiles ∧
    (State.paceJoin s).accts = s.accts ∧ (State.paceJoin s).limits = s.limits ∧ (State.paceJoin s).therm = s.therm ∧
    (State.paceJoin s).diodes = s.diodes ∧ (State.paceJoin s).stopq = s.stopq := by
  refine ⟨?_, ?_, ?_, ?_, ?_, ?_, ?_, ?_, ?_, ?_, ?_⟩ <;> (first | rfl | (simp (maxDischargeDepth := 12) [State.paceJoin]; done) | (unfold State.paceJoin; (try dsimp only); repeat' (first | rfl | (simp (maxDischargeDepth := 12); done) | split)))

@[simp] theorem State_paceJoin_keeps2 (s : State) :
    (State.paceJoin s).flt = s.flt ∧ (State.paceJoin s).warden = s.warden ∧ (State.paceJoin s).policy = s.policy ∧
    (State.paceJoin s).rings = s.rings ∧ (State.paceJoin s).smb = s.smb ∧ (State.paceJoin s).avs = s.avs ∧
    (State.paceJoin s).tap = s.tap ∧ (State.paceJoin s).pub = s.pub ∧ (State.paceJoin s).freeCtr = s.freeCtr ∧
    (State.paceJoin s).pending = s.pending := by
  refine ⟨?_, ?_, ?_, ?_, ?_, ?_, ?_, ?_, ?_, ?_⟩ <;> (first | rfl | (simp (maxDischargeDepth := 12) [State.paceJoin]; done) | (unfold State.paceJoin; (try dsimp only); repeat' (first | rfl | (simp (maxDischargeDepth := 12); done) | split)))

@[simp] theorem State_paceDown_keeps0 (s : State) :
    (State.paceDown s).otp = s.otp ∧ (State.paceDown s).start = s.start ∧ (State.paceDown s).clk = s.clk ∧
    (State.paceDown s).win = s.win ∧ (State.paceDown s).cells = s.cells ∧ (State.paceDown s).views = s.views ∧
    (State.paceDown s).chains = s.chains ∧ (State.paceDown s).creg = s.creg ∧ (State.paceDown s).eng = s.eng ∧
    (State.paceDown s).doms = s.doms ∧ (State.paceDown s).lanes = s.lanes := by
  refine ⟨?_, ?_, ?_, ?_, ?_, ?_, ?_, ?_, ?_, ?_, ?_⟩ <;> (first | rfl | (simp (maxDischargeDepth := 12) [State.paceDown]; done) | (unfold State.paceDown; (try dsimp only); repeat' (first | rfl | (simp (maxDischargeDepth := 12); done) | split)))

@[simp] theorem State_paceDown_keeps1 (s : State) :
    (State.paceDown s).sense = s.sense ∧ (State.paceDown s).dscs = s.dscs ∧ (State.paceDown s).hkcs = s.hkcs ∧
    (State.paceDown s).tallies = s.tallies ∧ (State.paceDown s).ledger = s.ledger ∧ (State.paceDown s).tiles = s.tiles ∧
    (State.paceDown s).accts = s.accts ∧ (State.paceDown s).limits = s.limits ∧ (State.paceDown s).therm = s.therm ∧
    (State.paceDown s).diodes = s.diodes ∧ (State.paceDown s).stopq = s.stopq := by
  refine ⟨?_, ?_, ?_, ?_, ?_, ?_, ?_, ?_, ?_, ?_, ?_⟩ <;> (first | rfl | (simp (maxDischargeDepth := 12) [State.paceDown]; done) | (unfold State.paceDown; (try dsimp only); repeat' (first | rfl | (simp (maxDischargeDepth := 12); done) | split)))

@[simp] theorem State_paceDown_keeps2 (s : State) :
    (State.paceDown s).warden = s.warden ∧ (State.paceDown s).policy = s.policy ∧ (State.paceDown s).smb = s.smb ∧
    (State.paceDown s).avs = s.avs ∧ (State.paceDown s).tap = s.tap ∧ (State.paceDown s).pub = s.pub ∧
    (State.paceDown s).freeCtr = s.freeCtr ∧ (State.paceDown s).pending = s.pending := by
  refine ⟨?_, ?_, ?_, ?_, ?_, ?_, ?_, ?_⟩ <;> (first | rfl | (simp (maxDischargeDepth := 12) [State.paceDown]; done) | (unfold State.paceDown; (try dsimp only); repeat' (first | rfl | (simp (maxDischargeDepth := 12); done) | split)))

@[simp] theorem State_paceBlockReset_keeps0 (s : State) :
    (State.paceBlockReset s).otp = s.otp ∧ (State.paceBlockReset s).start = s.start ∧ (State.paceBlockReset s).clk = s.clk ∧
    (State.paceBlockReset s).win = s.win ∧ (State.paceBlockReset s).cells = s.cells ∧ (State.paceBlockReset s).views = s.views ∧
    (State.paceBlockReset s).chains = s.chains ∧ (State.paceBlockReset s).creg = s.creg ∧ (State.paceBlockReset s).eng = s.eng ∧
    (State.paceBlockReset s).doms = s.doms ∧ (State.paceBlockReset s).lanes = s.lanes := by
  refine ⟨?_, ?_, ?_, ?_, ?_, ?_, ?_, ?_, ?_, ?_, ?_⟩ <;> (first | rfl | (simp (maxDischargeDepth := 12) [State.paceBlockReset]; done) | (unfold State.paceBlockReset; (try dsimp only); repeat' (first | rfl | (simp (maxDischargeDepth := 12); done) | split)))

@[simp] theorem State_paceBlockReset_keeps1 (s : State) :
    (State.paceBlockReset s).sense = s.sense ∧ (State.paceBlockReset s).dscs = s.dscs ∧ (State.paceBlockReset s).hkcs = s.hkcs ∧
    (State.paceBlockReset s).tallies = s.tallies ∧ (State.paceBlockReset s).ledger = s.ledger ∧ (State.paceBlockReset s).tiles = s.tiles ∧
    (State.paceBlockReset s).accts = s.accts ∧ (State.paceBlockReset s).limits = s.limits ∧ (State.paceBlockReset s).therm = s.therm ∧
    (State.paceBlockReset s).diodes = s.diodes ∧ (State.paceBlockReset s).stopq = s.stopq := by
  refine ⟨?_, ?_, ?_, ?_, ?_, ?_, ?_, ?_, ?_, ?_, ?_⟩ <;> (first | rfl | (simp (maxDischargeDepth := 12) [State.paceBlockReset]; done) | (unfold State.paceBlockReset; (try dsimp only); repeat' (first | rfl | (simp (maxDischargeDepth := 12); done) | split)))

@[simp] theorem State_paceBlockReset_keeps2 (s : State) :
    (State.paceBlockReset s).flt = s.flt ∧ (State.paceBlockReset s).warden = s.warden ∧ (State.paceBlockReset s).policy = s.policy ∧
    (State.paceBlockReset s).rings = s.rings ∧ (State.paceBlockReset s).smb = s.smb ∧ (State.paceBlockReset s).avs = s.avs ∧
    (State.paceBlockReset s).tap = s.tap ∧ (State.paceBlockReset s).pub = s.pub ∧ (State.paceBlockReset s).freeCtr = s.freeCtr ∧
    (State.paceBlockReset s).pending = s.pending := by
  refine ⟨?_, ?_, ?_, ?_, ?_, ?_, ?_, ?_, ?_, ?_⟩ <;> (first | rfl | (simp (maxDischargeDepth := 12) [State.paceBlockReset]; done) | (unfold State.paceBlockReset; (try dsimp only); repeat' (first | rfl | (simp (maxDischargeDepth := 12); done) | split)))

@[simp] theorem State_paceRelease_keeps0 (s : State) (relay : Bool) (group : Nat) :
    (State.paceRelease s relay group).otp = s.otp ∧ (State.paceRelease s relay group).start = s.start ∧
    (State.paceRelease s relay group).clk = s.clk ∧ (State.paceRelease s relay group).win = s.win ∧
    (State.paceRelease s relay group).cells = s.cells ∧ (State.paceRelease s relay group).views = s.views ∧
    (State.paceRelease s relay group).chains = s.chains ∧ (State.paceRelease s relay group).creg = s.creg ∧
    (State.paceRelease s relay group).eng = s.eng ∧ (State.paceRelease s relay group).doms = s.doms ∧
    (State.paceRelease s relay group).lanes = s.lanes := by
  refine ⟨?_, ?_, ?_, ?_, ?_, ?_, ?_, ?_, ?_, ?_, ?_⟩ <;> (first | rfl | (simp (maxDischargeDepth := 12) [State.paceRelease]; done) | (unfold State.paceRelease; (try dsimp only); repeat' (first | rfl | (simp (maxDischargeDepth := 12); done) | split)))

@[simp] theorem State_paceRelease_keeps1 (s : State) (relay : Bool) (group : Nat) :
    (State.paceRelease s relay group).sense = s.sense ∧ (State.paceRelease s relay group).dscs = s.dscs ∧
    (State.paceRelease s relay group).hkcs = s.hkcs ∧ (State.paceRelease s relay group).tallies = s.tallies ∧
    (State.paceRelease s relay group).ledger = s.ledger ∧ (State.paceRelease s relay group).tiles = s.tiles ∧
    (State.paceRelease s relay group).accts = s.accts ∧ (State.paceRelease s relay group).limits = s.limits ∧
    (State.paceRelease s relay group).therm = s.therm ∧ (State.paceRelease s relay group).diodes = s.diodes ∧
    (State.paceRelease s relay group).stopq = s.stopq := by
  refine ⟨?_, ?_, ?_, ?_, ?_, ?_, ?_, ?_, ?_, ?_, ?_⟩ <;> (first | rfl | (simp (maxDischargeDepth := 12) [State.paceRelease]; done) | (unfold State.paceRelease; (try dsimp only); repeat' (first | rfl | (simp (maxDischargeDepth := 12); done) | split)))

@[simp] theorem State_paceRelease_keeps2 (s : State) (relay : Bool) (group : Nat) :
    (State.paceRelease s relay group).flt = s.flt ∧ (State.paceRelease s relay group).warden = s.warden ∧
    (State.paceRelease s relay group).policy = s.policy ∧ (State.paceRelease s relay group).rings = s.rings ∧
    (State.paceRelease s relay group).smb = s.smb ∧ (State.paceRelease s relay group).avs = s.avs ∧
    (State.paceRelease s relay group).tap = s.tap ∧ (State.paceRelease s relay group).pub = s.pub ∧
    (State.paceRelease s relay group).freeCtr = s.freeCtr ∧ (State.paceRelease s relay group).pending = s.pending := by
  refine ⟨?_, ?_, ?_, ?_, ?_, ?_, ?_, ?_, ?_, ?_⟩ <;> (first | rfl | (simp (maxDischargeDepth := 12) [State.paceRelease]; done) | (unfold State.paceRelease; (try dsimp only); repeat' (first | rfl | (simp (maxDischargeDepth := 12); done) | split)))

@[simp] theorem State_paceLeave_keeps0 (s : State) :
    (State.paceLeave s).otp = s.otp ∧ (State.paceLeave s).start = s.start ∧ (State.paceLeave s).clk = s.clk ∧
    (State.paceLeave s).win = s.win ∧ (State.paceLeave s).cells = s.cells ∧ (State.paceLeave s).views = s.views ∧
    (State.paceLeave s).chains = s.chains ∧ (State.paceLeave s).creg = s.creg ∧ (State.paceLeave s).eng = s.eng ∧
    (State.paceLeave s).doms = s.doms ∧ (State.paceLeave s).lanes = s.lanes := by
  refine ⟨?_, ?_, ?_, ?_, ?_, ?_, ?_, ?_, ?_, ?_, ?_⟩ <;> (first | rfl | (simp (maxDischargeDepth := 12) [State.paceLeave]; done) | (unfold State.paceLeave; (try dsimp only); repeat' (first | rfl | (simp (maxDischargeDepth := 12); done) | split)))

@[simp] theorem State_paceLeave_keeps1 (s : State) :
    (State.paceLeave s).sense = s.sense ∧ (State.paceLeave s).dscs = s.dscs ∧ (State.paceLeave s).hkcs = s.hkcs ∧
    (State.paceLeave s).tallies = s.tallies ∧ (State.paceLeave s).ledger = s.ledger ∧ (State.paceLeave s).tiles = s.tiles ∧
    (State.paceLeave s).accts = s.accts ∧ (State.paceLeave s).limits = s.limits ∧ (State.paceLeave s).therm = s.therm ∧
    (State.paceLeave s).diodes = s.diodes ∧ (State.paceLeave s).stopq = s.stopq := by
  refine ⟨?_, ?_, ?_, ?_, ?_, ?_, ?_, ?_, ?_, ?_, ?_⟩ <;> (first | rfl | (simp (maxDischargeDepth := 12) [State.paceLeave]; done) | (unfold State.paceLeave; (try dsimp only); repeat' (first | rfl | (simp (maxDischargeDepth := 12); done) | split)))

@[simp] theorem State_paceLeave_keeps2 (s : State) :
    (State.paceLeave s).flt = s.flt ∧ (State.paceLeave s).warden = s.warden ∧ (State.paceLeave s).policy = s.policy ∧
    (State.paceLeave s).rings = s.rings ∧ (State.paceLeave s).smb = s.smb ∧ (State.paceLeave s).avs = s.avs ∧
    (State.paceLeave s).tap = s.tap ∧ (State.paceLeave s).pub = s.pub ∧ (State.paceLeave s).freeCtr = s.freeCtr ∧
    (State.paceLeave s).pending = s.pending := by
  refine ⟨?_, ?_, ?_, ?_, ?_, ?_, ?_, ?_, ?_, ?_⟩ <;> (first | rfl | (simp (maxDischargeDepth := 12) [State.paceLeave]; done) | (unfold State.paceLeave; (try dsimp only); repeat' (first | rfl | (simp (maxDischargeDepth := 12); done) | split)))

end Sys2Proof.Machine
end

