-- ==== Sys2Proof/Laws/FramesReset.lean ====
section
/-! SUPPORT. The fields of State that the operations of Machine/Reset.lean leave alone. -/

set_option linter.unusedSimpArgs false
set_option linter.unusedVariables false

namespace Sys2Proof.Machine

@[simp] theorem State_fastReset_keeps0 (s : State) (again : Bool) :
    (State.fastReset s again).otp = s.otp ∧ (State.fastReset s again).start = s.start ∧ (State.fastReset s again).clk = s.clk ∧
    (State.fastReset s again).win = s.win ∧ (State.fastReset s again).cells = s.cells ∧ (State.fastReset s again).stopq = s.stopq ∧
    (State.fastReset s again).flt = s.flt ∧ (State.fastReset s again).warden = s.warden ∧ (State.fastReset s again).policy = s.policy ∧
    (State.fastReset s again).rings = s.rings ∧ (State.fastReset s again).smb = s.smb := by
  refine ⟨?_, ?_, ?_, ?_, ?_, ?_, ?_, ?_, ?_, ?_, ?_⟩ <;> (first | rfl | (simp (maxDischargeDepth := 12) [State.fastReset]; done) | (unfold State.fastReset; (try dsimp only); repeat' (first | rfl | (simp (maxDischargeDepth := 12); done) | split)))

@[simp] theorem State_fastReset_keeps1 (s : State) (again : Bool) :
    (State.fastReset s again).avs = s.avs ∧ (State.fastReset s again).tap = s.tap ∧ (State.fastReset s again).freeCtr = s.freeCtr ∧
    (State.fastReset s again).pending = s.pending := by
  refine ⟨?_, ?_, ?_, ?_⟩ <;> (first | rfl | (simp (maxDischargeDepth := 12) [State.fastReset]; done) | (unfold State.fastReset; (try dsimp only); repeat' (first | rfl | (simp (maxDischargeDepth := 12); done) | split)))

@[simp] theorem State_coldReset_keeps0 (s : State) :
    (State.coldReset s).otp = s.otp ∧ (State.coldReset s).start = s.start ∧ (State.coldReset s).clk = s.clk ∧
    (State.coldReset s).win = s.win ∧ (State.coldReset s).pace = s.pace ∧ (State.coldReset s).stopq = s.stopq ∧
    (State.coldReset s).flt = s.flt ∧ (State.coldReset s).warden = s.warden ∧ (State.coldReset s).policy = s.policy ∧
    (State.coldReset s).rings = s.rings ∧ (State.coldReset s).smb = s.smb := by
  refine ⟨?_, ?_, ?_, ?_, ?_, ?_, ?_, ?_, ?_, ?_, ?_⟩ <;> (first | rfl | (simp (maxDischargeDepth := 12) [State.coldReset]; done) | (unfold State.coldReset; (try dsimp only); repeat' (first | rfl | (simp (maxDischargeDepth := 12); done) | split)))

@[simp] theorem State_coldReset_keeps1 (s : State) :
    (State.coldReset s).avs = s.avs ∧ (State.coldReset s).tap = s.tap ∧ (State.coldReset s).freeCtr = s.freeCtr ∧
    (State.coldReset s).pending = s.pending := by
  refine ⟨?_, ?_, ?_, ?_⟩ <;> (first | rfl | (simp (maxDischargeDepth := 12) [State.coldReset]; done) | (unfold State.coldReset; (try dsimp only); repeat' (first | rfl | (simp (maxDischargeDepth := 12); done) | split)))

end Sys2Proof.Machine
end

