-- ==== Sys2Proof/Laws/FramesFaults.lean ====
section
/-! SUPPORT. The fields of State that the operations of Machine/Faults.lean leave alone. -/

set_option linter.unusedSimpArgs false
set_option linter.unusedVariables false

namespace Sys2Proof.Machine

@[simp] theorem State_writeIncident_keeps0 (s : State) (dur : Nat) :
    (State.writeIncident s dur).otp = s.otp ∧ (State.writeIncident s dur).start = s.start ∧ (State.writeIncident s dur).clk = s.clk ∧
    (State.writeIncident s dur).win = s.win ∧ (State.writeIncident s dur).cells = s.cells ∧ (State.writeIncident s dur).views = s.views ∧
    (State.writeIncident s dur).chains = s.chains ∧ (State.writeIncident s dur).creg = s.creg ∧ (State.writeIncident s dur).eng = s.eng ∧
    (State.writeIncident s dur).doms = s.doms ∧ (State.writeIncident s dur).lanes = s.lanes := by
  refine ⟨?_, ?_, ?_, ?_, ?_, ?_, ?_, ?_, ?_, ?_, ?_⟩ <;> (first | rfl | (simp (maxDischargeDepth := 12) [State.writeIncident]; done) | (unfold State.writeIncident; (try dsimp only); repeat' (first | rfl | (simp (maxDischargeDepth := 12); done) | split)))

@[simp] theorem State_writeIncident_keeps1 (s : State) (dur : Nat) :
    (State.writeIncident s dur).sense = s.sense ∧ (State.writeIncident s dur).dscs = s.dscs ∧ (State.writeIncident s dur).hkcs = s.hkcs ∧
    (State.writeIncident s dur).tallies = s.tallies ∧ (State.writeIncident s dur).ledger = s.ledger ∧
    (State.writeIncident s dur).tiles = s.tiles ∧ (State.writeIncident s dur).accts = s.accts ∧
    (State.writeIncident s dur).limits = s.limits ∧ (State.writeIncident s dur).pace = s.pace ∧
    (State.writeIncident s dur).therm = s.therm ∧ (State.writeIncident s dur).diodes = s.diodes := by
  refine ⟨?_, ?_, ?_, ?_, ?_, ?_, ?_, ?_, ?_, ?_, ?_⟩ <;> (first | rfl | (simp (maxDischargeDepth := 12) [State.writeIncident]; done) | (unfold State.writeIncident; (try dsimp only); repeat' (first | rfl | (simp (maxDischargeDepth := 12); done) | split)))

@[simp] theorem State_writeIncident_keeps2 (s : State) (dur : Nat) :
    (State.writeIncident s dur).stopq = s.stopq ∧ (State.writeIncident s dur).flt = s.flt ∧
    (State.writeIncident s dur).policy = s.policy ∧ (State.writeIncident s dur).rings = s.rings ∧
    (State.writeIncident s dur).smb = s.smb ∧ (State.writeIncident s dur).avs = s.avs ∧ (State.writeIncident s dur).tap = s.tap ∧
    (State.writeIncident s dur).pub = s.pub ∧ (State.writeIncident s dur).freeCtr = s.freeCtr ∧
    (State.writeIncident s dur).pending = s.pending := by
  refine ⟨?_, ?_, ?_, ?_, ?_, ?_, ?_, ?_, ?_, ?_⟩ <;> (first | rfl | (simp (maxDischargeDepth := 12) [State.writeIncident]; done) | (unfold State.writeIncident; (try dsimp only); repeat' (first | rfl | (simp (maxDischargeDepth := 12); done) | split)))

@[simp] theorem State_pushTrap_keeps0 (s : State) (l : List (BitVec 64)) :
    (State.pushTrap s l).otp = s.otp ∧ (State.pushTrap s l).start = s.start ∧ (State.pushTrap s l).clk = s.clk ∧
    (State.pushTrap s l).win = s.win ∧ (State.pushTrap s l).cells = s.cells ∧ (State.pushTrap s l).views = s.views ∧
    (State.pushTrap s l).chains = s.chains ∧ (State.pushTrap s l).creg = s.creg ∧ (State.pushTrap s l).eng = s.eng ∧
    (State.pushTrap s l).doms = s.doms ∧ (State.pushTrap s l).lanes = s.lanes := by
  refine ⟨?_, ?_, ?_, ?_, ?_, ?_, ?_, ?_, ?_, ?_, ?_⟩ <;> (first | rfl | (simp (maxDischargeDepth := 12) [State.pushTrap]; done) | (unfold State.pushTrap; (try dsimp only); repeat' (first | rfl | (simp (maxDischargeDepth := 12); done) | split)))

@[simp] theorem State_pushTrap_keeps1 (s : State) (l : List (BitVec 64)) :
    (State.pushTrap s l).sense = s.sense ∧ (State.pushTrap s l).dscs = s.dscs ∧ (State.pushTrap s l).hkcs = s.hkcs ∧
    (State.pushTrap s l).tallies = s.tallies ∧ (State.pushTrap s l).ledger = s.ledger ∧ (State.pushTrap s l).tiles = s.tiles ∧
    (State.pushTrap s l).accts = s.accts ∧ (State.pushTrap s l).limits = s.limits ∧ (State.pushTrap s l).pace = s.pace ∧
    (State.pushTrap s l).therm = s.therm ∧ (State.pushTrap s l).diodes = s.diodes := by
  refine ⟨?_, ?_, ?_, ?_, ?_, ?_, ?_, ?_, ?_, ?_, ?_⟩ <;> (first | rfl | (simp (maxDischargeDepth := 12) [State.pushTrap]; done) | (unfold State.pushTrap; (try dsimp only); repeat' (first | rfl | (simp (maxDischargeDepth := 12); done) | split)))

@[simp] theorem State_pushTrap_keeps2 (s : State) (l : List (BitVec 64)) :
    (State.pushTrap s l).stopq = s.stopq ∧ (State.pushTrap s l).flt = s.flt ∧ (State.pushTrap s l).warden = s.warden ∧
    (State.pushTrap s l).policy = s.policy ∧ (State.pushTrap s l).smb = s.smb ∧ (State.pushTrap s l).avs = s.avs ∧
    (State.pushTrap s l).tap = s.tap ∧ (State.pushTrap s l).pub = s.pub ∧ (State.pushTrap s l).freeCtr = s.freeCtr ∧
    (State.pushTrap s l).pending = s.pending := by
  refine ⟨?_, ?_, ?_, ?_, ?_, ?_, ?_, ?_, ?_, ?_⟩ <;> (first | rfl | (simp (maxDischargeDepth := 12) [State.pushTrap]; done) | (unfold State.pushTrap; (try dsimp only); repeat' (first | rfl | (simp (maxDischargeDepth := 12); done) | split)))

@[simp] theorem State_suspendAudits_keeps0 (s : State) :
    (State.suspendAudits s).otp = s.otp ∧ (State.suspendAudits s).start = s.start ∧ (State.suspendAudits s).clk = s.clk ∧
    (State.suspendAudits s).win = s.win ∧ (State.suspendAudits s).cells = s.cells ∧ (State.suspendAudits s).views = s.views ∧
    (State.suspendAudits s).chains = s.chains ∧ (State.suspendAudits s).creg = s.creg ∧ (State.suspendAudits s).eng = s.eng ∧
    (State.suspendAudits s).doms = s.doms ∧ (State.suspendAudits s).lanes = s.lanes := by
  refine ⟨?_, ?_, ?_, ?_, ?_, ?_, ?_, ?_, ?_, ?_, ?_⟩ <;> (first | rfl | (simp (maxDischargeDepth := 12) [State.suspendAudits]; done) | (unfold State.suspendAudits; (try dsimp only); repeat' (first | rfl | (simp (maxDischargeDepth := 12); done) | split)))

@[simp] theorem State_suspendAudits_keeps1 (s : State) :
    (State.suspendAudits s).sense = s.sense ∧ (State.suspendAudits s).dscs = s.dscs ∧ (State.suspendAudits s).hkcs = s.hkcs ∧
    (State.suspendAudits s).tallies = s.tallies ∧ (State.suspendAudits s).ledger = s.ledger ∧ (State.suspendAudits s).tiles = s.tiles ∧
    (State.suspendAudits s).accts = s.accts ∧ (State.suspendAudits s).limits = s.limits ∧ (State.suspendAudits s).pace = s.pace ∧
    (State.suspendAudits s).therm = s.therm ∧ (State.suspendAudits s).diodes = s.diodes := by
  refine ⟨?_, ?_, ?_, ?_, ?_, ?_, ?_, ?_, ?_, ?_, ?_⟩ <;> (first | rfl | (simp (maxDischargeDepth := 12) [State.suspendAudits]; done) | (unfold State.suspendAudits; (try dsimp only); repeat' (first | rfl | (simp (maxDischargeDepth := 12); done) | split)))

@[simp] theorem State_suspendAudits_keeps2 (s : State) :
    (State.suspendAudits s).stopq = s.stopq ∧ (State.suspendAudits s).warden = s.warden ∧ (State.suspendAudits s).policy = s.policy ∧
    (State.suspendAudits s).rings = s.rings ∧ (State.suspendAudits s).smb = s.smb ∧ (State.suspendAudits s).avs = s.avs ∧
    (State.suspendAudits s).tap = s.tap ∧ (State.suspendAudits s).pub = s.pub ∧ (State.suspendAudits s).freeCtr = s.freeCtr ∧
    (State.suspendAudits s).pending = s.pending := by
  refine ⟨?_, ?_, ?_, ?_, ?_, ?_, ?_, ?_, ?_, ?_⟩ <;> (first | rfl | (simp (maxDischargeDepth := 12) [State.suspendAudits]; done) | (unfold State.suspendAudits; (try dsimp only); repeat' (first | rfl | (simp (maxDischargeDepth := 12); done) | split)))

@[simp] theorem State_fsrAssert_keeps0 (s : State) :
    (State.fsrAssert s).otp = s.otp ∧ (State.fsrAssert s).win = s.win ∧ (State.fsrAssert s).cells = s.cells ∧
    (State.fsrAssert s).policy = s.policy := by
  refine ⟨?_, ?_, ?_, ?_⟩ <;> (first | rfl | (simp (maxDischargeDepth := 12) [State.fsrAssert]; done) | (unfold State.fsrAssert; (try dsimp only); repeat' (first | rfl | (simp (maxDischargeDepth := 12); done) | split)))

@[simp] theorem State_fsrAssert_keeps1 (s : State) :
    (State.fsrAssert s).smb = s.smb ∧ (State.fsrAssert s).avs = s.avs ∧ (State.fsrAssert s).tap = s.tap ∧
    (State.fsrAssert s).freeCtr = s.freeCtr := by
  refine ⟨?_, ?_, ?_, ?_⟩ <;> (first | rfl | (simp (maxDischargeDepth := 12) [State.fsrAssert]; done) | (unfold State.fsrAssert; (try dsimp only); repeat' (first | rfl | (simp (maxDischargeDepth := 12); done) | split)))

@[simp] theorem State_fsrAssert_keeps2 (s : State) :
    (State.fsrAssert s).pending = s.pending := by
  first | rfl | (simp (maxDischargeDepth := 12) [State.fsrAssert]; done) | (unfold State.fsrAssert; (try dsimp only); repeat' (first | rfl | (simp (maxDischargeDepth := 12); done) | split))

@[simp] theorem State_dscBlockReset_keeps0 (s : State) (d : Nat) :
    (State.dscBlockReset s d).otp = s.otp ∧ (State.dscBlockReset s d).start = s.start ∧ (State.dscBlockReset s d).clk = s.clk ∧
    (State.dscBlockReset s d).win = s.win ∧ (State.dscBlockReset s d).cells = s.cells ∧ (State.dscBlockReset s d).views = s.views ∧
    (State.dscBlockReset s d).chains = s.chains ∧ (State.dscBlockReset s d).creg = s.creg ∧ (State.dscBlockReset s d).eng = s.eng ∧
    (State.dscBlockReset s d).doms = s.doms ∧ (State.dscBlockReset s d).lanes = s.lanes := by
  refine ⟨?_, ?_, ?_, ?_, ?_, ?_, ?_, ?_, ?_, ?_, ?_⟩ <;> (first | rfl | (simp (maxDischargeDepth := 12) [State.dscBlockReset]; done) | (unfold State.dscBlockReset; (try dsimp only); repeat' (first | rfl | (simp (maxDischargeDepth := 12); done) | split)))

@[simp] theorem State_dscBlockReset_keeps1 (s : State) (d : Nat) :
    (State.dscBlockReset s d).sense = s.sense ∧ (State.dscBlockReset s d).hkcs = s.hkcs ∧ (State.dscBlockReset s d).ledger = s.ledger ∧
    (State.dscBlockReset s d).tiles = s.tiles ∧ (State.dscBlockReset s d).accts = s.accts ∧ (State.dscBlockReset s d).limits = s.limits ∧
    (State.dscBlockReset s d).pace = s.pace ∧ (State.dscBlockReset s d).therm = s.therm ∧ (State.dscBlockReset s d).diodes = s.diodes ∧
    (State.dscBlockReset s d).stopq = s.stopq ∧ (State.dscBlockReset s d).flt = s.flt := by
  refine ⟨?_, ?_, ?_, ?_, ?_, ?_, ?_, ?_, ?_, ?_, ?_⟩ <;> (first | rfl | (simp (maxDischargeDepth := 12) [State.dscBlockReset]; done) | (unfold State.dscBlockReset; (try dsimp only); repeat' (first | rfl | (simp (maxDischargeDepth := 12); done) | split)))

@[simp] theorem State_dscBlockReset_keeps2 (s : State) (d : Nat) :
    (State.dscBlockReset s d).warden = s.warden ∧ (State.dscBlockReset s d).policy = s.policy ∧
    (State.dscBlockReset s d).rings = s.rings ∧ (State.dscBlockReset s d).smb = s.smb ∧ (State.dscBlockReset s d).avs = s.avs ∧
    (State.dscBlockReset s d).tap = s.tap ∧ (State.dscBlockReset s d).pub = s.pub ∧ (State.dscBlockReset s d).freeCtr = s.freeCtr ∧
    (State.dscBlockReset s d).pending = s.pending := by
  refine ⟨?_, ?_, ?_, ?_, ?_, ?_, ?_, ?_, ?_⟩ <;> (first | rfl | (simp (maxDischargeDepth := 12) [State.dscBlockReset]; done) | (unfold State.dscBlockReset; (try dsimp only); repeat' (first | rfl | (simp (maxDischargeDepth := 12); done) | split)))

@[simp] theorem State_hkcBlockReset_keeps0 (s : State) (k : Nat) :
    (State.hkcBlockReset s k).otp = s.otp ∧ (State.hkcBlockReset s k).start = s.start ∧ (State.hkcBlockReset s k).clk = s.clk ∧
    (State.hkcBlockReset s k).win = s.win ∧ (State.hkcBlockReset s k).cells = s.cells ∧ (State.hkcBlockReset s k).views = s.views ∧
    (State.hkcBlockReset s k).chains = s.chains ∧ (State.hkcBlockReset s k).creg = s.creg ∧ (State.hkcBlockReset s k).eng = s.eng ∧
    (State.hkcBlockReset s k).doms = s.doms ∧ (State.hkcBlockReset s k).lanes = s.lanes := by
  refine ⟨?_, ?_, ?_, ?_, ?_, ?_, ?_, ?_, ?_, ?_, ?_⟩ <;> (first | rfl | (simp (maxDischargeDepth := 12) [State.hkcBlockReset]; done) | (unfold State.hkcBlockReset; (try dsimp only); repeat' (first | rfl | (simp (maxDischargeDepth := 12); done) | split)))

@[simp] theorem State_hkcBlockReset_keeps1 (s : State) (k : Nat) :
    (State.hkcBlockReset s k).sense = s.sense ∧ (State.hkcBlockReset s k).dscs = s.dscs ∧ (State.hkcBlockReset s k).ledger = s.ledger ∧
    (State.hkcBlockReset s k).tiles = s.tiles ∧ (State.hkcBlockReset s k).accts = s.accts ∧ (State.hkcBlockReset s k).limits = s.limits ∧
    (State.hkcBlockReset s k).pace = s.pace ∧ (State.hkcBlockReset s k).therm = s.therm ∧ (State.hkcBlockReset s k).stopq = s.stopq ∧
    (State.hkcBlockReset s k).flt = s.flt ∧ (State.hkcBlockReset s k).warden = s.warden := by
  refine ⟨?_, ?_, ?_, ?_, ?_, ?_, ?_, ?_, ?_, ?_, ?_⟩ <;> (first | rfl | (simp (maxDischargeDepth := 12) [State.hkcBlockReset]; done) | (unfold State.hkcBlockReset; (try dsimp only); repeat' (first | rfl | (simp (maxDischargeDepth := 12); done) | split)))

@[simp] theorem State_hkcBlockReset_keeps2 (s : State) (k : Nat) :
    (State.hkcBlockReset s k).policy = s.policy ∧ (State.hkcBlockReset s k).rings = s.rings ∧ (State.hkcBlockReset s k).smb = s.smb ∧
    (State.hkcBlockReset s k).avs = s.avs ∧ (State.hkcBlockReset s k).tap = s.tap ∧ (State.hkcBlockReset s k).pub = s.pub ∧
    (State.hkcBlockReset s k).freeCtr = s.freeCtr ∧ (State.hkcBlockReset s k).pending = s.pending := by
  refine ⟨?_, ?_, ?_, ?_, ?_, ?_, ?_, ?_⟩ <;> (first | rfl | (simp (maxDischargeDepth := 12) [State.hkcBlockReset]; done) | (unfold State.hkcBlockReset; (try dsimp only); repeat' (first | rfl | (simp (maxDischargeDepth := 12); done) | split)))

@[simp] theorem State_policyBlockReset_keeps0 (s : State) :
    (State.policyBlockReset s).otp = s.otp ∧ (State.policyBlockReset s).start = s.start ∧ (State.policyBlockReset s).clk = s.clk ∧
    (State.policyBlockReset s).win = s.win ∧ (State.policyBlockReset s).cells = s.cells ∧ (State.policyBlockReset s).views = s.views ∧
    (State.policyBlockReset s).chains = s.chains ∧ (State.policyBlockReset s).creg = s.creg ∧ (State.policyBlockReset s).eng = s.eng ∧
    (State.policyBlockReset s).doms = s.doms ∧ (State.policyBlockReset s).lanes = s.lanes := by
  refine ⟨?_, ?_, ?_, ?_, ?_, ?_, ?_, ?_, ?_, ?_, ?_⟩ <;> (first | rfl | (simp (maxDischargeDepth := 12) [State.policyBlockReset]; done) | (unfold State.policyBlockReset; (try dsimp only); repeat' (first | rfl | (simp (maxDischargeDepth := 12); done) | split)))

@[simp] theorem State_policyBlockReset_keeps1 (s : State) :
    (State.policyBlockReset s).sense = s.sense ∧ (State.policyBlockReset s).dscs = s.dscs ∧ (State.policyBlockReset s).hkcs = s.hkcs ∧
    (State.policyBlockReset s).tallies = s.tallies ∧ (State.policyBlockReset s).ledger = s.ledger ∧
    (State.policyBlockReset s).tiles = s.tiles ∧ (State.policyBlockReset s).accts = s.accts ∧
    (State.policyBlockReset s).limits = s.limits ∧ (State.policyBlockReset s).pace = s.pace ∧ (State.policyBlockReset s).therm = s.therm ∧
    (State.policyBlockReset s).diodes = s.diodes := by
  refine ⟨?_, ?_, ?_, ?_, ?_, ?_, ?_, ?_, ?_, ?_, ?_⟩ <;> (first | rfl | (simp (maxDischargeDepth := 12) [State.policyBlockReset]; done) | (unfold State.policyBlockReset; (try dsimp only); repeat' (first | rfl | (simp (maxDischargeDepth := 12); done) | split)))

@[simp] theorem State_policyBlockReset_keeps2 (s : State) :
    (State.policyBlockReset s).stopq = s.stopq ∧ (State.policyBlockReset s).flt = s.flt ∧ (State.policyBlockReset s).warden = s.warden ∧
    (State.policyBlockReset s).rings = s.rings ∧ (State.policyBlockReset s).smb = s.smb ∧ (State.policyBlockReset s).avs = s.avs ∧
    (State.policyBlockReset s).tap = s.tap ∧ (State.policyBlockReset s).pub = s.pub ∧ (State.policyBlockReset s).freeCtr = s.freeCtr ∧
    (State.policyBlockReset s).pending = s.pending := by
  refine ⟨?_, ?_, ?_, ?_, ?_, ?_, ?_, ?_, ?_, ?_⟩ <;> (first | rfl | (simp (maxDischargeDepth := 12) [State.policyBlockReset]; done) | (unfold State.policyBlockReset; (try dsimp only); repeat' (first | rfl | (simp (maxDischargeDepth := 12); done) | split)))

@[simp] theorem State_ringBlockReset_keeps0 (s : State) :
    (State.ringBlockReset s).otp = s.otp ∧ (State.ringBlockReset s).start = s.start ∧ (State.ringBlockReset s).clk = s.clk ∧
    (State.ringBlockReset s).win = s.win ∧ (State.ringBlockReset s).cells = s.cells ∧ (State.ringBlockReset s).views = s.views ∧
    (State.ringBlockReset s).chains = s.chains ∧ (State.ringBlockReset s).creg = s.creg ∧ (State.ringBlockReset s).eng = s.eng ∧
    (State.ringBlockReset s).doms = s.doms ∧ (State.ringBlockReset s).lanes = s.lanes := by
  refine ⟨?_, ?_, ?_, ?_, ?_, ?_, ?_, ?_, ?_, ?_, ?_⟩ <;> (first | rfl | (simp (maxDischargeDepth := 12) [State.ringBlockReset]; done) | (unfold State.ringBlockReset; (try dsimp only); repeat' (first | rfl | (simp (maxDischargeDepth := 12); done) | split)))

@[simp] theorem State_ringBlockReset_keeps1 (s : State) :
    (State.ringBlockReset s).sense = s.sense ∧ (State.ringBlockReset s).dscs = s.dscs ∧ (State.ringBlockReset s).hkcs = s.hkcs ∧
    (State.ringBlockReset s).tallies = s.tallies ∧ (State.ringBlockReset s).ledger = s.ledger ∧ (State.ringBlockReset s).tiles = s.tiles ∧
    (State.ringBlockReset s).accts = s.accts ∧ (State.ringBlockReset s).limits = s.limits ∧ (State.ringBlockReset s).pace = s.pace ∧
    (State.ringBlockReset s).therm = s.therm ∧ (State.ringBlockReset s).diodes = s.diodes := by
  refine ⟨?_, ?_, ?_, ?_, ?_, ?_, ?_, ?_, ?_, ?_, ?_⟩ <;> (first | rfl | (simp (maxDischargeDepth := 12) [State.ringBlockReset]; done) | (unfold State.ringBlockReset; (try dsimp only); repeat' (first | rfl | (simp (maxDischargeDepth := 12); done) | split)))

@[simp] theorem State_ringBlockReset_keeps2 (s : State) :
    (State.ringBlockReset s).stopq = s.stopq ∧ (State.ringBlockReset s).flt = s.flt ∧ (State.ringBlockReset s).warden = s.warden ∧
    (State.ringBlockReset s).policy = s.policy ∧ (State.ringBlockReset s).smb = s.smb ∧ (State.ringBlockReset s).avs = s.avs ∧
    (State.ringBlockReset s).tap = s.tap ∧ (State.ringBlockReset s).pub = s.pub ∧ (State.ringBlockReset s).freeCtr = s.freeCtr ∧
    (State.ringBlockReset s).pending = s.pending := by
  refine ⟨?_, ?_, ?_, ?_, ?_, ?_, ?_, ?_, ?_, ?_⟩ <;> (first | rfl | (simp (maxDischargeDepth := 12) [State.ringBlockReset]; done) | (unfold State.ringBlockReset; (try dsimp only); repeat' (first | rfl | (simp (maxDischargeDepth := 12); done) | split)))

@[simp] theorem State_blockReset_keeps0 (s : State) (b : Block) (obj : Nat) :
    (State.blockReset s b obj).otp = s.otp ∧ (State.blockReset s b obj).win = s.win ∧ (State.blockReset s b obj).cells = s.cells ∧
    (State.blockReset s b obj).smb = s.smb := by
  refine ⟨?_, ?_, ?_, ?_⟩ <;> (first | rfl | (simp (maxDischargeDepth := 12) [State.blockReset]; done) | (unfold State.blockReset; (try dsimp only); repeat' (first | rfl | (simp (maxDischargeDepth := 12); done) | split)))

@[simp] theorem State_blockReset_keeps1 (s : State) (b : Block) (obj : Nat) :
    (State.blockReset s b obj).avs = s.avs ∧ (State.blockReset s b obj).tap = s.tap ∧ (State.blockReset s b obj).freeCtr = s.freeCtr ∧
    (State.blockReset s b obj).pending = s.pending := by
  refine ⟨?_, ?_, ?_, ?_⟩ <;> (first | rfl | (simp (maxDischargeDepth := 12) [State.blockReset]; done) | (unfold State.blockReset; (try dsimp only); repeat' (first | rfl | (simp (maxDischargeDepth := 12); done) | split)))

@[simp] theorem State_blockReleased_keeps0 (s : State) (b : Block) (obj : Nat) :
    (State.blockReleased s b obj).otp = s.otp ∧ (State.blockReleased s b obj).start = s.start ∧
    (State.blockReleased s b obj).clk = s.clk ∧ (State.blockReleased s b obj).win = s.win ∧
    (State.blockReleased s b obj).cells = s.cells ∧ (State.blockReleased s b obj).views = s.views ∧
    (State.blockReleased s b obj).chains = s.chains ∧ (State.blockReleased s b obj).creg = s.creg ∧
    (State.blockReleased s b obj).eng = s.eng ∧ (State.blockReleased s b obj).doms = s.doms ∧
    (State.blockReleased s b obj).lanes = s.lanes := by
  refine ⟨?_, ?_, ?_, ?_, ?_, ?_, ?_, ?_, ?_, ?_, ?_⟩ <;> (first | rfl | (simp (maxDischargeDepth := 12) [State.blockReleased]; done) | (unfold State.blockReleased; (try dsimp only); repeat' (first | rfl | (simp (maxDischargeDepth := 12); done) | split)))

@[simp] theorem State_blockReleased_keeps1 (s : State) (b : Block) (obj : Nat) :
    (State.blockReleased s b obj).sense = s.sense ∧ (State.blockReleased s b obj).dscs = s.dscs ∧
    (State.blockReleased s b obj).hkcs = s.hkcs ∧ (State.blockReleased s b obj).tallies = s.tallies ∧
    (State.blockReleased s b obj).ledger = s.ledger ∧ (State.blockReleased s b obj).tiles = s.tiles ∧
    (State.blockReleased s b obj).accts = s.accts ∧ (State.blockReleased s b obj).limits = s.limits ∧
    (State.blockReleased s b obj).pace = s.pace ∧ (State.blockReleased s b obj).therm = s.therm ∧
    (State.blockReleased s b obj).diodes = s.diodes := by
  refine ⟨?_, ?_, ?_, ?_, ?_, ?_, ?_, ?_, ?_, ?_, ?_⟩ <;> (first | rfl | (simp (maxDischargeDepth := 12) [State.blockReleased]; done) | (unfold State.blockReleased; (try dsimp only); repeat' (first | rfl | (simp (maxDischargeDepth := 12); done) | split)))

@[simp] theorem State_blockReleased_keeps2 (s : State) (b : Block) (obj : Nat) :
    (State.blockReleased s b obj).stopq = s.stopq ∧ (State.blockReleased s b obj).warden = s.warden ∧
    (State.blockReleased s b obj).policy = s.policy ∧ (State.blockReleased s b obj).rings = s.rings ∧
    (State.blockReleased s b obj).smb = s.smb ∧ (State.blockReleased s b obj).avs = s.avs ∧ (State.blockReleased s b obj).tap = s.tap ∧
    (State.blockReleased s b obj).pub = s.pub ∧ (State.blockReleased s b obj).freeCtr = s.freeCtr ∧
    (State.blockReleased s b obj).pending = s.pending := by
  refine ⟨?_, ?_, ?_, ?_, ?_, ?_, ?_, ?_, ?_, ?_⟩ <;> (first | rfl | (simp (maxDischargeDepth := 12) [State.blockReleased]; done) | (unfold State.blockReleased; (try dsimp only); repeat' (first | rfl | (simp (maxDischargeDepth := 12); done) | split)))

@[simp] theorem State_holdAudit_keeps0 (s : State) :
    (State.holdAudit s).otp = s.otp ∧ (State.holdAudit s).start = s.start ∧ (State.holdAudit s).clk = s.clk ∧
    (State.holdAudit s).win = s.win ∧ (State.holdAudit s).cells = s.cells ∧ (State.holdAudit s).views = s.views ∧
    (State.holdAudit s).chains = s.chains ∧ (State.holdAudit s).creg = s.creg ∧ (State.holdAudit s).eng = s.eng ∧
    (State.holdAudit s).doms = s.doms ∧ (State.holdAudit s).lanes = s.lanes := by
  refine ⟨?_, ?_, ?_, ?_, ?_, ?_, ?_, ?_, ?_, ?_, ?_⟩ <;> (first | rfl | (simp (maxDischargeDepth := 12) [State.holdAudit]; done) | (unfold State.holdAudit; (try dsimp only); repeat' (first | rfl | (simp (maxDischargeDepth := 12); done) | split)))

@[simp] theorem State_holdAudit_keeps1 (s : State) :
    (State.holdAudit s).sense = s.sense ∧ (State.holdAudit s).dscs = s.dscs ∧ (State.holdAudit s).hkcs = s.hkcs ∧
    (State.holdAudit s).tallies = s.tallies ∧ (State.holdAudit s).ledger = s.ledger ∧ (State.holdAudit s).tiles = s.tiles ∧
    (State.holdAudit s).accts = s.accts ∧ (State.holdAudit s).limits = s.limits ∧ (State.holdAudit s).pace = s.pace ∧
    (State.holdAudit s).therm = s.therm ∧ (State.holdAudit s).diodes = s.diodes := by
  refine ⟨?_, ?_, ?_, ?_, ?_, ?_, ?_, ?_, ?_, ?_, ?_⟩ <;> (first | rfl | (simp (maxDischargeDepth := 12) [State.holdAudit]; done) | (unfold State.holdAudit; (try dsimp only); repeat' (first | rfl | (simp (maxDischargeDepth := 12); done) | split)))

@[simp] theorem State_holdAudit_keeps2 (s : State) :
    (State.holdAudit s).stopq = s.stopq ∧ (State.holdAudit s).warden = s.warden ∧ (State.holdAudit s).policy = s.policy ∧
    (State.holdAudit s).rings = s.rings ∧ (State.holdAudit s).smb = s.smb ∧ (State.holdAudit s).avs = s.avs ∧
    (State.holdAudit s).tap = s.tap ∧ (State.holdAudit s).pub = s.pub ∧ (State.holdAudit s).freeCtr = s.freeCtr ∧
    (State.holdAudit s).pending = s.pending := by
  refine ⟨?_, ?_, ?_, ?_, ?_, ?_, ?_, ?_, ?_, ?_⟩ <;> (first | rfl | (simp (maxDischargeDepth := 12) [State.holdAudit]; done) | (unfold State.holdAudit; (try dsimp only); repeat' (first | rfl | (simp (maxDischargeDepth := 12); done) | split)))

@[simp] theorem State_startAudit_keeps0 (s : State) (src : Nat) (obj : Nat) :
    (State.startAudit s src obj).otp = s.otp ∧ (State.startAudit s src obj).start = s.start ∧ (State.startAudit s src obj).clk = s.clk ∧
    (State.startAudit s src obj).win = s.win := by
  refine ⟨?_, ?_, ?_, ?_⟩ <;> (first | rfl | (simp (maxDischargeDepth := 12) [State.startAudit]; done) | (unfold State.startAudit; (try dsimp only); repeat' (first | rfl | (simp (maxDischargeDepth := 12); done) | split)))

@[simp] theorem State_startAudit_keeps1 (s : State) (src : Nat) (obj : Nat) :
    (State.startAudit s src obj).cells = s.cells ∧ (State.startAudit s src obj).views = s.views ∧
    (State.startAudit s src obj).creg = s.creg ∧ (State.startAudit s src obj).eng = s.eng := by
  refine ⟨?_, ?_, ?_, ?_⟩ <;> (first | rfl | (simp (maxDischargeDepth := 12) [State.startAudit]; done) | (unfold State.startAudit; (try dsimp only); repeat' (first | rfl | (simp (maxDischargeDepth := 12); done) | split)))

@[simp] theorem State_startAudit_keeps2 (s : State) (src : Nat) (obj : Nat) :
    (State.startAudit s src obj).doms = s.doms ∧ (State.startAudit s src obj).sense = s.sense ∧
    (State.startAudit s src obj).hkcs = s.hkcs ∧ (State.startAudit s src obj).tallies = s.tallies := by
  refine ⟨?_, ?_, ?_, ?_⟩ <;> (first | rfl | (simp (maxDischargeDepth := 12) [State.startAudit]; done) | (unfold State.startAudit; (try dsimp only); repeat' (first | rfl | (simp (maxDischargeDepth := 12); done) | split)))

@[simp] theorem State_startAudit_keeps3 (s : State) (src : Nat) (obj : Nat) :
    (State.startAudit s src obj).ledger = s.ledger ∧ (State.startAudit s src obj).tiles = s.tiles ∧
    (State.startAudit s src obj).accts = s.accts ∧ (State.startAudit s src obj).limits = s.limits := by
  refine ⟨?_, ?_, ?_, ?_⟩ <;> (first | rfl | (simp (maxDischargeDepth := 12) [State.startAudit]; done) | (unfold State.startAudit; (try dsimp only); repeat' (first | rfl | (simp (maxDischargeDepth := 12); done) | split)))

@[simp] theorem State_startAudit_keeps4 (s : State) (src : Nat) (obj : Nat) :
    (State.startAudit s src obj).pace = s.pace ∧ (State.startAudit s src obj).therm = s.therm ∧
    (State.startAudit s src obj).diodes = s.diodes ∧ (State.startAudit s src obj).stopq = s.stopq := by
  refine ⟨?_, ?_, ?_, ?_⟩ <;> (first | rfl | (simp (maxDischargeDepth := 12) [State.startAudit]; done) | (unfold State.startAudit; (try dsimp only); repeat' (first | rfl | (simp (maxDischargeDepth := 12); done) | split)))

@[simp] theorem State_startAudit_keeps5 (s : State) (src : Nat) (obj : Nat) :
    (State.startAudit s src obj).warden = s.warden ∧ (State.startAudit s src obj).policy = s.policy ∧
    (State.startAudit s src obj).rings = s.rings ∧ (State.startAudit s src obj).smb = s.smb := by
  refine ⟨?_, ?_, ?_, ?_⟩ <;> (first | rfl | (simp (maxDischargeDepth := 12) [State.startAudit]; done) | (unfold State.startAudit; (try dsimp only); repeat' (first | rfl | (simp (maxDischargeDepth := 12); done) | split)))

@[simp] theorem State_startAudit_keeps6 (s : State) (src : Nat) (obj : Nat) :
    (State.startAudit s src obj).avs = s.avs ∧ (State.startAudit s src obj).tap = s.tap ∧ (State.startAudit s src obj).pub = s.pub ∧
    (State.startAudit s src obj).freeCtr = s.freeCtr := by
  refine ⟨?_, ?_, ?_, ?_⟩ <;> (first | rfl | (simp (maxDischargeDepth := 12) [State.startAudit]; done) | (unfold State.startAudit; (try dsimp only); repeat' (first | rfl | (simp (maxDischargeDepth := 12); done) | split)))

@[simp] theorem State_startAudit_keeps7 (s : State) (src : Nat) (obj : Nat) :
    (State.startAudit s src obj).pending = s.pending := by
  first | rfl | (simp (maxDischargeDepth := 12) [State.startAudit]; done) | (unfold State.startAudit; (try dsimp only); repeat' (first | rfl | (simp (maxDischargeDepth := 12); done) | split))

@[simp] theorem State_burstAudit_keeps0 (s : State) (c : Nat) :
    (State.burstAudit s c).otp = s.otp ∧ (State.burstAudit s c).start = s.start ∧ (State.burstAudit s c).clk = s.clk ∧
    (State.burstAudit s c).win = s.win ∧ (State.burstAudit s c).cells = s.cells ∧ (State.burstAudit s c).views = s.views ∧
    (State.burstAudit s c).creg = s.creg ∧ (State.burstAudit s c).eng = s.eng ∧ (State.burstAudit s c).doms = s.doms ∧
    (State.burstAudit s c).lanes = s.lanes ∧ (State.burstAudit s c).sense = s.sense := by
  refine ⟨?_, ?_, ?_, ?_, ?_, ?_, ?_, ?_, ?_, ?_, ?_⟩ <;> (first | rfl | (simp (maxDischargeDepth := 12) [State.burstAudit]; done) | (unfold State.burstAudit; (try dsimp only); repeat' (first | rfl | (simp (maxDischargeDepth := 12); done) | split)))

@[simp] theorem State_burstAudit_keeps1 (s : State) (c : Nat) :
    (State.burstAudit s c).dscs = s.dscs ∧ (State.burstAudit s c).hkcs = s.hkcs ∧ (State.burstAudit s c).tallies = s.tallies ∧
    (State.burstAudit s c).ledger = s.ledger ∧ (State.burstAudit s c).tiles = s.tiles ∧ (State.burstAudit s c).accts = s.accts ∧
    (State.burstAudit s c).limits = s.limits ∧ (State.burstAudit s c).pace = s.pace ∧ (State.burstAudit s c).therm = s.therm ∧
    (State.burstAudit s c).diodes = s.diodes ∧ (State.burstAudit s c).stopq = s.stopq := by
  refine ⟨?_, ?_, ?_, ?_, ?_, ?_, ?_, ?_, ?_, ?_, ?_⟩ <;> (first | rfl | (simp (maxDischargeDepth := 12) [State.burstAudit]; done) | (unfold State.burstAudit; (try dsimp only); repeat' (first | rfl | (simp (maxDischargeDepth := 12); done) | split)))

@[simp] theorem State_burstAudit_keeps2 (s : State) (c : Nat) :
    (State.burstAudit s c).warden = s.warden ∧ (State.burstAudit s c).policy = s.policy ∧ (State.burstAudit s c).rings = s.rings ∧
    (State.burstAudit s c).smb = s.smb ∧ (State.burstAudit s c).avs = s.avs ∧ (State.burstAudit s c).tap = s.tap ∧
    (State.burstAudit s c).pub = s.pub ∧ (State.burstAudit s c).freeCtr = s.freeCtr ∧ (State.burstAudit s c).pending = s.pending := by
  refine ⟨?_, ?_, ?_, ?_, ?_, ?_, ?_, ?_, ?_⟩ <;> (first | rfl | (simp (maxDischargeDepth := 12) [State.burstAudit]; done) | (unfold State.burstAudit; (try dsimp only); repeat' (first | rfl | (simp (maxDischargeDepth := 12); done) | split)))

@[simp] theorem State_errnPulse_keeps0 (s : State) :
    (State.errnPulse s).otp = s.otp ∧ (State.errnPulse s).start = s.start ∧ (State.errnPulse s).clk = s.clk ∧
    (State.errnPulse s).win = s.win ∧ (State.errnPulse s).cells = s.cells ∧ (State.errnPulse s).views = s.views ∧
    (State.errnPulse s).chains = s.chains ∧ (State.errnPulse s).creg = s.creg ∧ (State.errnPulse s).eng = s.eng ∧
    (State.errnPulse s).doms = s.doms ∧ (State.errnPulse s).lanes = s.lanes := by
  refine ⟨?_, ?_, ?_, ?_, ?_, ?_, ?_, ?_, ?_, ?_, ?_⟩ <;> (first | rfl | (simp (maxDischargeDepth := 12) [State.errnPulse]; done) | (unfold State.errnPulse; (try dsimp only); repeat' (first | rfl | (simp (maxDischargeDepth := 12); done) | split)))

@[simp] theorem State_errnPulse_keeps1 (s : State) :
    (State.errnPulse s).sense = s.sense ∧ (State.errnPulse s).dscs = s.dscs ∧ (State.errnPulse s).hkcs = s.hkcs ∧
    (State.errnPulse s).tallies = s.tallies ∧ (State.errnPulse s).ledger = s.ledger ∧ (State.errnPulse s).tiles = s.tiles ∧
    (State.errnPulse s).accts = s.accts ∧ (State.errnPulse s).limits = s.limits ∧ (State.errnPulse s).pace = s.pace ∧
    (State.errnPulse s).therm = s.therm ∧ (State.errnPulse s).diodes = s.diodes := by
  refine ⟨?_, ?_, ?_, ?_, ?_, ?_, ?_, ?_, ?_, ?_, ?_⟩ <;> (first | rfl | (simp (maxDischargeDepth := 12) [State.errnPulse]; done) | (unfold State.errnPulse; (try dsimp only); repeat' (first | rfl | (simp (maxDischargeDepth := 12); done) | split)))

@[simp] theorem State_errnPulse_keeps2 (s : State) :
    (State.errnPulse s).stopq = s.stopq ∧ (State.errnPulse s).warden = s.warden ∧ (State.errnPulse s).policy = s.policy ∧
    (State.errnPulse s).rings = s.rings ∧ (State.errnPulse s).smb = s.smb ∧ (State.errnPulse s).avs = s.avs ∧
    (State.errnPulse s).tap = s.tap ∧ (State.errnPulse s).pub = s.pub ∧ (State.errnPulse s).freeCtr = s.freeCtr ∧
    (State.errnPulse s).pending = s.pending := by
  refine ⟨?_, ?_, ?_, ?_, ?_, ?_, ?_, ?_, ?_, ?_⟩ <;> (first | rfl | (simp (maxDischargeDepth := 12) [State.errnPulse]; done) | (unfold State.errnPulse; (try dsimp only); repeat' (first | rfl | (simp (maxDischargeDepth := 12); done) | split)))

@[simp] theorem State_errnSettle_keeps0 (s : State) :
    (State.errnSettle s).otp = s.otp ∧ (State.errnSettle s).start = s.start ∧ (State.errnSettle s).clk = s.clk ∧
    (State.errnSettle s).win = s.win ∧ (State.errnSettle s).cells = s.cells ∧ (State.errnSettle s).views = s.views ∧
    (State.errnSettle s).chains = s.chains ∧ (State.errnSettle s).creg = s.creg ∧ (State.errnSettle s).eng = s.eng ∧
    (State.errnSettle s).doms = s.doms ∧ (State.errnSettle s).lanes = s.lanes := by
  refine ⟨?_, ?_, ?_, ?_, ?_, ?_, ?_, ?_, ?_, ?_, ?_⟩ <;> (first | rfl | (simp (maxDischargeDepth := 12) [State.errnSettle]; done) | (unfold State.errnSettle; (try dsimp only); repeat' (first | rfl | (simp (maxDischargeDepth := 12); done) | split)))

@[simp] theorem State_errnSettle_keeps1 (s : State) :
    (State.errnSettle s).sense = s.sense ∧ (State.errnSettle s).dscs = s.dscs ∧ (State.errnSettle s).hkcs = s.hkcs ∧
    (State.errnSettle s).tallies = s.tallies ∧ (State.errnSettle s).ledger = s.ledger ∧ (State.errnSettle s).tiles = s.tiles ∧
    (State.errnSettle s).accts = s.accts ∧ (State.errnSettle s).limits = s.limits ∧ (State.errnSettle s).pace = s.pace ∧
    (State.errnSettle s).therm = s.therm ∧ (State.errnSettle s).diodes = s.diodes := by
  refine ⟨?_, ?_, ?_, ?_, ?_, ?_, ?_, ?_, ?_, ?_, ?_⟩ <;> (first | rfl | (simp (maxDischargeDepth := 12) [State.errnSettle]; done) | (unfold State.errnSettle; (try dsimp only); repeat' (first | rfl | (simp (maxDischargeDepth := 12); done) | split)))

@[simp] theorem State_errnSettle_keeps2 (s : State) :
    (State.errnSettle s).stopq = s.stopq ∧ (State.errnSettle s).warden = s.warden ∧ (State.errnSettle s).policy = s.policy ∧
    (State.errnSettle s).rings = s.rings ∧ (State.errnSettle s).smb = s.smb ∧ (State.errnSettle s).avs = s.avs ∧
    (State.errnSettle s).tap = s.tap ∧ (State.errnSettle s).pub = s.pub ∧ (State.errnSettle s).freeCtr = s.freeCtr ∧
    (State.errnSettle s).pending = s.pending := by
  refine ⟨?_, ?_, ?_, ?_, ?_, ?_, ?_, ?_, ?_, ?_⟩ <;> (first | rfl | (simp (maxDischargeDepth := 12) [State.errnSettle]; done) | (unfold State.errnSettle; (try dsimp only); repeat' (first | rfl | (simp (maxDischargeDepth := 12); done) | split)))

@[simp] theorem State_reactI_keeps0 (s : State) (src : Nat) (obj : Nat) :
    (State.reactI s src obj).otp = s.otp ∧ (State.reactI s src obj).start = s.start ∧ (State.reactI s src obj).clk = s.clk ∧
    (State.reactI s src obj).win = s.win ∧ (State.reactI s src obj).cells = s.cells ∧ (State.reactI s src obj).views = s.views ∧
    (State.reactI s src obj).chains = s.chains ∧ (State.reactI s src obj).creg = s.creg ∧ (State.reactI s src obj).eng = s.eng ∧
    (State.reactI s src obj).doms = s.doms ∧ (State.reactI s src obj).lanes = s.lanes := by
  refine ⟨?_, ?_, ?_, ?_, ?_, ?_, ?_, ?_, ?_, ?_, ?_⟩ <;> (first | rfl | (simp (maxDischargeDepth := 12) [State.reactI]; done) | (unfold State.reactI; (try dsimp only); repeat' (first | rfl | (simp (maxDischargeDepth := 12); done) | split)))

@[simp] theorem State_reactI_keeps1 (s : State) (src : Nat) (obj : Nat) :
    (State.reactI s src obj).sense = s.sense ∧ (State.reactI s src obj).dscs = s.dscs ∧ (State.reactI s src obj).hkcs = s.hkcs ∧
    (State.reactI s src obj).tallies = s.tallies ∧ (State.reactI s src obj).ledger = s.ledger ∧ (State.reactI s src obj).tiles = s.tiles ∧
    (State.reactI s src obj).accts = s.accts ∧ (State.reactI s src obj).limits = s.limits ∧ (State.reactI s src obj).pace = s.pace ∧
    (State.reactI s src obj).therm = s.therm ∧ (State.reactI s src obj).diodes = s.diodes := by
  refine ⟨?_, ?_, ?_, ?_, ?_, ?_, ?_, ?_, ?_, ?_, ?_⟩ <;> (first | rfl | (simp (maxDischargeDepth := 12) [State.reactI]; done) | (unfold State.reactI; (try dsimp only); repeat' (first | rfl | (simp (maxDischargeDepth := 12); done) | split)))

@[simp] theorem State_reactI_keeps2 (s : State) (src : Nat) (obj : Nat) :
    (State.reactI s src obj).stopq = s.stopq ∧ (State.reactI s src obj).warden = s.warden ∧ (State.reactI s src obj).policy = s.policy ∧
    (State.reactI s src obj).smb = s.smb ∧ (State.reactI s src obj).avs = s.avs ∧ (State.reactI s src obj).tap = s.tap ∧
    (State.reactI s src obj).pub = s.pub ∧ (State.reactI s src obj).freeCtr = s.freeCtr ∧ (State.reactI s src obj).pending = s.pending := by
  refine ⟨?_, ?_, ?_, ?_, ?_, ?_, ?_, ?_, ?_⟩ <;> (first | rfl | (simp (maxDischargeDepth := 12) [State.reactI]; done) | (unfold State.reactI; (try dsimp only); repeat' (first | rfl | (simp (maxDischargeDepth := 12); done) | split)))

@[simp] theorem State_reactC_keeps0 (s : State) :
    (State.reactC s).otp = s.otp ∧ (State.reactC s).cells = s.cells ∧ (State.reactC s).views = s.views ∧
    (State.reactC s).chains = s.chains ∧ (State.reactC s).creg = s.creg ∧ (State.reactC s).eng = s.eng ∧
    (State.reactC s).lanes = s.lanes ∧ (State.reactC s).sense = s.sense ∧ (State.reactC s).dscs = s.dscs ∧
    (State.reactC s).hkcs = s.hkcs ∧ (State.reactC s).tallies = s.tallies := by
  refine ⟨?_, ?_, ?_, ?_, ?_, ?_, ?_, ?_, ?_, ?_, ?_⟩ <;> (first | rfl | (simp (maxDischargeDepth := 12) [State.reactC]; done) | (unfold State.reactC; (try dsimp only); repeat' (first | rfl | (simp (maxDischargeDepth := 12); done) | split)))

@[simp] theorem State_reactC_keeps1 (s : State) :
    (State.reactC s).tiles = s.tiles ∧ (State.reactC s).accts = s.accts ∧ (State.reactC s).limits = s.limits ∧
    (State.reactC s).pace = s.pace ∧ (State.reactC s).therm = s.therm ∧ (State.reactC s).diodes = s.diodes ∧
    (State.reactC s).policy = s.policy ∧ (State.reactC s).smb = s.smb ∧ (State.reactC s).avs = s.avs ∧ (State.reactC s).tap = s.tap ∧
    (State.reactC s).pub = s.pub := by
  refine ⟨?_, ?_, ?_, ?_, ?_, ?_, ?_, ?_, ?_, ?_, ?_⟩ <;> (first | rfl | (simp (maxDischargeDepth := 12) [State.reactC]; done) | (unfold State.reactC; (try dsimp only); repeat' (first | rfl | (simp (maxDischargeDepth := 12); done) | split)))

@[simp] theorem State_reactC_keeps2 (s : State) :
    (State.reactC s).freeCtr = s.freeCtr ∧ (State.reactC s).pending = s.pending := by
  refine ⟨?_, ?_⟩ <;> (first | rfl | (simp (maxDischargeDepth := 12) [State.reactC]; done) | (unfold State.reactC; (try dsimp only); repeat' (first | rfl | (simp (maxDischargeDepth := 12); done) | split)))

@[simp] theorem State_issue_keeps0 (s : State) (src : Nat) (obj : Nat) (new : Nat) :
    (State.issue s src obj new).otp = s.otp ∧ (State.issue s src obj new).cells = s.cells ∧ (State.issue s src obj new).smb = s.smb ∧
    (State.issue s src obj new).avs = s.avs := by
  refine ⟨?_, ?_, ?_, ?_⟩ <;> (first | rfl | (simp (maxDischargeDepth := 12) [State.issue]; done) | (unfold State.issue; (try dsimp only); repeat' (first | rfl | (simp (maxDischargeDepth := 12); done) | split)))

@[simp] theorem State_issue_keeps1 (s : State) (src : Nat) (obj : Nat) (new : Nat) :
    (State.issue s src obj new).tap = s.tap ∧ (State.issue s src obj new).freeCtr = s.freeCtr ∧
    (State.issue s src obj new).pending = s.pending := by
  refine ⟨?_, ?_, ?_⟩ <;> (first | rfl | (simp (maxDischargeDepth := 12) [State.issue]; done) | (unfold State.issue; (try dsimp only); repeat' (first | rfl | (simp (maxDischargeDepth := 12); done) | split)))

@[simp] theorem State_countRaise_keeps0 (s : State) (src : Nat) (obj : Nat) :
    (State.countRaise s src obj).otp = s.otp ∧ (State.countRaise s src obj).start = s.start ∧ (State.countRaise s src obj).clk = s.clk ∧
    (State.countRaise s src obj).win = s.win ∧ (State.countRaise s src obj).cells = s.cells ∧
    (State.countRaise s src obj).views = s.views ∧ (State.countRaise s src obj).chains = s.chains ∧
    (State.countRaise s src obj).creg = s.creg ∧ (State.countRaise s src obj).eng = s.eng ∧ (State.countRaise s src obj).doms = s.doms ∧
    (State.countRaise s src obj).lanes = s.lanes := by
  refine ⟨?_, ?_, ?_, ?_, ?_, ?_, ?_, ?_, ?_, ?_, ?_⟩ <;> (first | rfl | (simp (maxDischargeDepth := 12) [State.countRaise]; done) | (unfold State.countRaise; (try dsimp only); repeat' (first | rfl | (simp (maxDischargeDepth := 12); done) | split)))

@[simp] theorem State_countRaise_keeps1 (s : State) (src : Nat) (obj : Nat) :
    (State.countRaise s src obj).sense = s.sense ∧ (State.countRaise s src obj).dscs = s.dscs ∧
    (State.countRaise s src obj).hkcs = s.hkcs ∧ (State.countRaise s src obj).tallies = s.tallies ∧
    (State.countRaise s src obj).ledger = s.ledger ∧ (State.countRaise s src obj).tiles = s.tiles ∧
    (State.countRaise s src obj).accts = s.accts ∧ (State.countRaise s src obj).limits = s.limits ∧
    (State.countRaise s src obj).pace = s.pace ∧ (State.countRaise s src obj).therm = s.therm ∧
    (State.countRaise s src obj).diodes = s.diodes := by
  refine ⟨?_, ?_, ?_, ?_, ?_, ?_, ?_, ?_, ?_, ?_, ?_⟩ <;> (first | rfl | (simp (maxDischargeDepth := 12) [State.countRaise]; done) | (unfold State.countRaise; (try dsimp only); repeat' (first | rfl | (simp (maxDischargeDepth := 12); done) | split)))

@[simp] theorem State_countRaise_keeps2 (s : State) (src : Nat) (obj : Nat) :
    (State.countRaise s src obj).stopq = s.stopq ∧ (State.countRaise s src obj).warden = s.warden ∧
    (State.countRaise s src obj).policy = s.policy ∧ (State.countRaise s src obj).rings = s.rings ∧
    (State.countRaise s src obj).smb = s.smb ∧ (State.countRaise s src obj).avs = s.avs ∧ (State.countRaise s src obj).tap = s.tap ∧
    (State.countRaise s src obj).pub = s.pub ∧ (State.countRaise s src obj).freeCtr = s.freeCtr ∧
    (State.countRaise s src obj).pending = s.pending := by
  refine ⟨?_, ?_, ?_, ?_, ?_, ?_, ?_, ?_, ?_, ?_⟩ <;> (first | rfl | (simp (maxDischargeDepth := 12) [State.countRaise]; done) | (unfold State.countRaise; (try dsimp only); repeat' (first | rfl | (simp (maxDischargeDepth := 12); done) | split)))

@[simp] theorem State_repeatRaise_keeps0 (s : State) :
    (State.repeatRaise s).otp = s.otp ∧ (State.repeatRaise s).start = s.start ∧ (State.repeatRaise s).clk = s.clk ∧
    (State.repeatRaise s).win = s.win ∧ (State.repeatRaise s).cells = s.cells ∧ (State.repeatRaise s).views = s.views ∧
    (State.repeatRaise s).chains = s.chains ∧ (State.repeatRaise s).creg = s.creg ∧ (State.repeatRaise s).eng = s.eng ∧
    (State.repeatRaise s).doms = s.doms ∧ (State.repeatRaise s).lanes = s.lanes := by
  refine ⟨?_, ?_, ?_, ?_, ?_, ?_, ?_, ?_, ?_, ?_, ?_⟩ <;> (first | rfl | (simp (maxDischargeDepth := 12) [State.repeatRaise]; done) | (unfold State.repeatRaise; (try dsimp only); repeat' (first | rfl | (simp (maxDischargeDepth := 12); done) | split)))

@[simp] theorem State_repeatRaise_keeps1 (s : State) :
    (State.repeatRaise s).sense = s.sense ∧ (State.repeatRaise s).dscs = s.dscs ∧ (State.repeatRaise s).hkcs = s.hkcs ∧
    (State.repeatRaise s).tallies = s.tallies ∧ (State.repeatRaise s).ledger = s.ledger ∧ (State.repeatRaise s).tiles = s.tiles ∧
    (State.repeatRaise s).accts = s.accts ∧ (State.repeatRaise s).limits = s.limits ∧ (State.repeatRaise s).pace = s.pace ∧
    (State.repeatRaise s).therm = s.therm ∧ (State.repeatRaise s).diodes = s.diodes := by
  refine ⟨?_, ?_, ?_, ?_, ?_, ?_, ?_, ?_, ?_, ?_, ?_⟩ <;> (first | rfl | (simp (maxDischargeDepth := 12) [State.repeatRaise]; done) | (unfold State.repeatRaise; (try dsimp only); repeat' (first | rfl | (simp (maxDischargeDepth := 12); done) | split)))

@[simp] theorem State_repeatRaise_keeps2 (s : State) :
    (State.repeatRaise s).stopq = s.stopq ∧ (State.repeatRaise s).warden = s.warden ∧ (State.repeatRaise s).policy = s.policy ∧
    (State.repeatRaise s).rings = s.rings ∧ (State.repeatRaise s).smb = s.smb ∧ (State.repeatRaise s).avs = s.avs ∧
    (State.repeatRaise s).tap = s.tap ∧ (State.repeatRaise s).pub = s.pub ∧ (State.repeatRaise s).freeCtr = s.freeCtr ∧
    (State.repeatRaise s).pending = s.pending := by
  refine ⟨?_, ?_, ?_, ?_, ?_, ?_, ?_, ?_, ?_, ?_⟩ <;> (first | rfl | (simp (maxDischargeDepth := 12) [State.repeatRaise]; done) | (unfold State.repeatRaise; (try dsimp only); repeat' (first | rfl | (simp (maxDischargeDepth := 12); done) | split)))

@[simp] theorem State_openIncident_keeps0 (s : State) (src : Nat) (obj : Nat) (inj : Bool) :
    (State.openIncident s src obj inj).otp = s.otp ∧ (State.openIncident s src obj inj).start = s.start ∧
    (State.openIncident s src obj inj).clk = s.clk ∧ (State.openIncident s src obj inj).win = s.win ∧
    (State.openIncident s src obj inj).cells = s.cells ∧ (State.openIncident s src obj inj).views = s.views ∧
    (State.openIncident s src obj inj).chains = s.chains ∧ (State.openIncident s src obj inj).creg = s.creg ∧
    (State.openIncident s src obj inj).eng = s.eng ∧ (State.openIncident s src obj inj).doms = s.doms ∧
    (State.openIncident s src obj inj).lanes = s.lanes := by
  refine ⟨?_, ?_, ?_, ?_, ?_, ?_, ?_, ?_, ?_, ?_, ?_⟩ <;> (first | rfl | (simp (maxDischargeDepth := 12) [State.openIncident]; done) | (unfold State.openIncident; (try dsimp only); repeat' (first | rfl | (simp (maxDischargeDepth := 12); done) | split)))

@[simp] theorem State_openIncident_keeps1 (s : State) (src : Nat) (obj : Nat) (inj : Bool) :
    (State.openIncident s src obj inj).sense = s.sense ∧ (State.openIncident s src obj inj).dscs = s.dscs ∧
    (State.openIncident s src obj inj).hkcs = s.hkcs ∧ (State.openIncident s src obj inj).tallies = s.tallies ∧
    (State.openIncident s src obj inj).ledger = s.ledger ∧ (State.openIncident s src obj inj).tiles = s.tiles ∧
    (State.openIncident s src obj inj).accts = s.accts ∧ (State.openIncident s src obj inj).limits = s.limits ∧
    (State.openIncident s src obj inj).pace = s.pace ∧ (State.openIncident s src obj inj).therm = s.therm ∧
    (State.openIncident s src obj inj).diodes = s.diodes := by
  refine ⟨?_, ?_, ?_, ?_, ?_, ?_, ?_, ?_, ?_, ?_, ?_⟩ <;> (first | rfl | (simp (maxDischargeDepth := 12) [State.openIncident]; done) | (unfold State.openIncident; (try dsimp only); repeat' (first | rfl | (simp (maxDischargeDepth := 12); done) | split)))

@[simp] theorem State_openIncident_keeps2 (s : State) (src : Nat) (obj : Nat) (inj : Bool) :
    (State.openIncident s src obj inj).stopq = s.stopq ∧ (State.openIncident s src obj inj).warden = s.warden ∧
    (State.openIncident s src obj inj).policy = s.policy ∧ (State.openIncident s src obj inj).rings = s.rings ∧
    (State.openIncident s src obj inj).smb = s.smb ∧ (State.openIncident s src obj inj).avs = s.avs ∧
    (State.openIncident s src obj inj).tap = s.tap ∧ (State.openIncident s src obj inj).pub = s.pub ∧
    (State.openIncident s src obj inj).freeCtr = s.freeCtr ∧ (State.openIncident s src obj inj).pending = s.pending := by
  refine ⟨?_, ?_, ?_, ?_, ?_, ?_, ?_, ?_, ?_, ?_⟩ <;> (first | rfl | (simp (maxDischargeDepth := 12) [State.openIncident]; done) | (unfold State.openIncident; (try dsimp only); repeat' (first | rfl | (simp (maxDischargeDepth := 12); done) | split)))

@[simp] theorem State_mergeRaise_keeps0 (s : State) (src : Nat) (inj : Bool) :
    (State.mergeRaise s src inj).otp = s.otp ∧ (State.mergeRaise s src inj).start = s.start ∧ (State.mergeRaise s src inj).clk = s.clk ∧
    (State.mergeRaise s src inj).win = s.win ∧ (State.mergeRaise s src inj).cells = s.cells ∧
    (State.mergeRaise s src inj).views = s.views ∧ (State.mergeRaise s src inj).chains = s.chains ∧
    (State.mergeRaise s src inj).creg = s.creg ∧ (State.mergeRaise s src inj).eng = s.eng ∧ (State.mergeRaise s src inj).doms = s.doms ∧
    (State.mergeRaise s src inj).lanes = s.lanes := by
  refine ⟨?_, ?_, ?_, ?_, ?_, ?_, ?_, ?_, ?_, ?_, ?_⟩ <;> (first | rfl | (simp (maxDischargeDepth := 12) [State.mergeRaise]; done) | (unfold State.mergeRaise; (try dsimp only); repeat' (first | rfl | (simp (maxDischargeDepth := 12); done) | split)))

@[simp] theorem State_mergeRaise_keeps1 (s : State) (src : Nat) (inj : Bool) :
    (State.mergeRaise s src inj).sense = s.sense ∧ (State.mergeRaise s src inj).dscs = s.dscs ∧
    (State.mergeRaise s src inj).hkcs = s.hkcs ∧ (State.mergeRaise s src inj).tallies = s.tallies ∧
    (State.mergeRaise s src inj).ledger = s.ledger ∧ (State.mergeRaise s src inj).tiles = s.tiles ∧
    (State.mergeRaise s src inj).accts = s.accts ∧ (State.mergeRaise s src inj).limits = s.limits ∧
    (State.mergeRaise s src inj).pace = s.pace ∧ (State.mergeRaise s src inj).therm = s.therm ∧
    (State.mergeRaise s src inj).diodes = s.diodes := by
  refine ⟨?_, ?_, ?_, ?_, ?_, ?_, ?_, ?_, ?_, ?_, ?_⟩ <;> (first | rfl | (simp (maxDischargeDepth := 12) [State.mergeRaise]; done) | (unfold State.mergeRaise; (try dsimp only); repeat' (first | rfl | (simp (maxDischargeDepth := 12); done) | split)))

@[simp] theorem State_mergeRaise_keeps2 (s : State) (src : Nat) (inj : Bool) :
    (State.mergeRaise s src inj).stopq = s.stopq ∧ (State.mergeRaise s src inj).warden = s.warden ∧
    (State.mergeRaise s src inj).policy = s.policy ∧ (State.mergeRaise s src inj).rings = s.rings ∧
    (State.mergeRaise s src inj).smb = s.smb ∧ (State.mergeRaise s src inj).avs = s.avs ∧ (State.mergeRaise s src inj).tap = s.tap ∧
    (State.mergeRaise s src inj).pub = s.pub ∧ (State.mergeRaise s src inj).freeCtr = s.freeCtr ∧
    (State.mergeRaise s src inj).pending = s.pending := by
  refine ⟨?_, ?_, ?_, ?_, ?_, ?_, ?_, ?_, ?_, ?_⟩ <;> (first | rfl | (simp (maxDischargeDepth := 12) [State.mergeRaise]; done) | (unfold State.mergeRaise; (try dsimp only); repeat' (first | rfl | (simp (maxDischargeDepth := 12); done) | split)))

@[simp] theorem State_handleRaise_keeps0 (s : State) (src : Nat) (obj : Nat) (newSrc : Bool) :
    (State.handleRaise s src obj newSrc).otp = s.otp ∧ (State.handleRaise s src obj newSrc).cells = s.cells ∧
    (State.handleRaise s src obj newSrc).smb = s.smb ∧ (State.handleRaise s src obj newSrc).avs = s.avs := by
  refine ⟨?_, ?_, ?_, ?_⟩ <;> (first | rfl | (simp (maxDischargeDepth := 12) [State.handleRaise]; done) | (unfold State.handleRaise; (try dsimp only); repeat' (first | rfl | (simp (maxDischargeDepth := 12); done) | split)))

@[simp] theorem State_handleRaise_keeps1 (s : State) (src : Nat) (obj : Nat) (newSrc : Bool) :
    (State.handleRaise s src obj newSrc).tap = s.tap ∧ (State.handleRaise s src obj newSrc).freeCtr = s.freeCtr ∧
    (State.handleRaise s src obj newSrc).pending = s.pending := by
  refine ⟨?_, ?_, ?_⟩ <;> (first | rfl | (simp (maxDischargeDepth := 12) [State.handleRaise]; done) | (unfold State.handleRaise; (try dsimp only); repeat' (first | rfl | (simp (maxDischargeDepth := 12); done) | split)))

@[simp] theorem State_raise_keeps0 (s : State) (src : Nat) (obj : Nat) (inj : Bool) :
    (State.raise s src obj inj).otp = s.otp ∧ (State.raise s src obj inj).cells = s.cells ∧ (State.raise s src obj inj).smb = s.smb ∧
    (State.raise s src obj inj).avs = s.avs := by
  refine ⟨?_, ?_, ?_, ?_⟩ <;> (first | rfl | (simp (maxDischargeDepth := 12) [State.raise]; done) | (unfold State.raise; (try dsimp only); repeat' (first | rfl | (simp (maxDischargeDepth := 12); done) | split)))

@[simp] theorem State_raise_keeps1 (s : State) (src : Nat) (obj : Nat) (inj : Bool) :
    (State.raise s src obj inj).tap = s.tap ∧ (State.raise s src obj inj).freeCtr = s.freeCtr ∧
    (State.raise s src obj inj).pending = s.pending := by
  refine ⟨?_, ?_, ?_⟩ <;> (first | rfl | (simp (maxDischargeDepth := 12) [State.raise]; done) | (unfold State.raise; (try dsimp only); repeat' (first | rfl | (simp (maxDischargeDepth := 12); done) | split)))

@[simp] theorem State_concludeAudit_keeps0 (s : State) (src : Nat) (pass : Bool) (held : Bool) :
    (State.concludeAudit s src pass held).otp = s.otp ∧ (State.concludeAudit s src pass held).start = s.start ∧
    (State.concludeAudit s src pass held).clk = s.clk ∧ (State.concludeAudit s src pass held).win = s.win ∧
    (State.concludeAudit s src pass held).cells = s.cells ∧ (State.concludeAudit s src pass held).views = s.views ∧
    (State.concludeAudit s src pass held).chains = s.chains ∧ (State.concludeAudit s src pass held).creg = s.creg ∧
    (State.concludeAudit s src pass held).eng = s.eng ∧ (State.concludeAudit s src pass held).doms = s.doms ∧
    (State.concludeAudit s src pass held).lanes = s.lanes := by
  refine ⟨?_, ?_, ?_, ?_, ?_, ?_, ?_, ?_, ?_, ?_, ?_⟩ <;> (first | rfl | (simp (maxDischargeDepth := 12) [State.concludeAudit]; done) | (unfold State.concludeAudit; (try dsimp only); repeat' (first | rfl | (simp (maxDischargeDepth := 12); done) | split)))

@[simp] theorem State_concludeAudit_keeps1 (s : State) (src : Nat) (pass : Bool) (held : Bool) :
    (State.concludeAudit s src pass held).sense = s.sense ∧ (State.concludeAudit s src pass held).dscs = s.dscs ∧
    (State.concludeAudit s src pass held).hkcs = s.hkcs ∧ (State.concludeAudit s src pass held).tallies = s.tallies ∧
    (State.concludeAudit s src pass held).ledger = s.ledger ∧ (State.concludeAudit s src pass held).tiles = s.tiles ∧
    (State.concludeAudit s src pass held).accts = s.accts ∧ (State.concludeAudit s src pass held).limits = s.limits ∧
    (State.concludeAudit s src pass held).pace = s.pace ∧ (State.concludeAudit s src pass held).therm = s.therm ∧
    (State.concludeAudit s src pass held).diodes = s.diodes := by
  refine ⟨?_, ?_, ?_, ?_, ?_, ?_, ?_, ?_, ?_, ?_, ?_⟩ <;> (first | rfl | (simp (maxDischargeDepth := 12) [State.concludeAudit]; done) | (unfold State.concludeAudit; (try dsimp only); repeat' (first | rfl | (simp (maxDischargeDepth := 12); done) | split)))

@[simp] theorem State_concludeAudit_keeps2 (s : State) (src : Nat) (pass : Bool) (held : Bool) :
    (State.concludeAudit s src pass held).stopq = s.stopq ∧ (State.concludeAudit s src pass held).warden = s.warden ∧
    (State.concludeAudit s src pass held).policy = s.policy ∧ (State.concludeAudit s src pass held).rings = s.rings ∧
    (State.concludeAudit s src pass held).smb = s.smb ∧ (State.concludeAudit s src pass held).avs = s.avs ∧
    (State.concludeAudit s src pass held).tap = s.tap ∧ (State.concludeAudit s src pass held).pub = s.pub ∧
    (State.concludeAudit s src pass held).freeCtr = s.freeCtr ∧ (State.concludeAudit s src pass held).pending = s.pending := by
  refine ⟨?_, ?_, ?_, ?_, ?_, ?_, ?_, ?_, ?_, ?_⟩ <;> (first | rfl | (simp (maxDischargeDepth := 12) [State.concludeAudit]; done) | (unfold State.concludeAudit; (try dsimp only); repeat' (first | rfl | (simp (maxDischargeDepth := 12); done) | split)))

@[simp] theorem State_closeIncident_keeps0 (s : State) (overrun : Bool) :
    (State.closeIncident s overrun).otp = s.otp ∧ (State.closeIncident s overrun).start = s.start ∧
    (State.closeIncident s overrun).clk = s.clk ∧ (State.closeIncident s overrun).win = s.win ∧
    (State.closeIncident s overrun).cells = s.cells ∧ (State.closeIncident s overrun).views = s.views ∧
    (State.closeIncident s overrun).chains = s.chains ∧ (State.closeIncident s overrun).creg = s.creg ∧
    (State.closeIncident s overrun).eng = s.eng ∧ (State.closeIncident s overrun).doms = s.doms ∧
    (State.closeIncident s overrun).lanes = s.lanes := by
  refine ⟨?_, ?_, ?_, ?_, ?_, ?_, ?_, ?_, ?_, ?_, ?_⟩ <;> (first | rfl | (simp (maxDischargeDepth := 12) [State.closeIncident]; done) | (unfold State.closeIncident; (try dsimp only); repeat' (first | rfl | (simp (maxDischargeDepth := 12); done) | split)))

@[simp] theorem State_closeIncident_keeps1 (s : State) (overrun : Bool) :
    (State.closeIncident s overrun).sense = s.sense ∧ (State.closeIncident s overrun).dscs = s.dscs ∧
    (State.closeIncident s overrun).hkcs = s.hkcs ∧ (State.closeIncident s overrun).tallies = s.tallies ∧
    (State.closeIncident s overrun).ledger = s.ledger ∧ (State.closeIncident s overrun).tiles = s.tiles ∧
    (State.closeIncident s overrun).accts = s.accts ∧ (State.closeIncident s overrun).limits = s.limits ∧
    (State.closeIncident s overrun).pace = s.pace ∧ (State.closeIncident s overrun).therm = s.therm ∧
    (State.closeIncident s overrun).diodes = s.diodes := by
  refine ⟨?_, ?_, ?_, ?_, ?_, ?_, ?_, ?_, ?_, ?_, ?_⟩ <;> (first | rfl | (simp (maxDischargeDepth := 12) [State.closeIncident]; done) | (unfold State.closeIncident; (try dsimp only); repeat' (first | rfl | (simp (maxDischargeDepth := 12); done) | split)))

@[simp] theorem State_closeIncident_keeps2 (s : State) (overrun : Bool) :
    (State.closeIncident s overrun).stopq = s.stopq ∧ (State.closeIncident s overrun).policy = s.policy ∧
    (State.closeIncident s overrun).rings = s.rings ∧ (State.closeIncident s overrun).smb = s.smb ∧
    (State.closeIncident s overrun).avs = s.avs ∧ (State.closeIncident s overrun).tap = s.tap ∧
    (State.closeIncident s overrun).pub = s.pub ∧ (State.closeIncident s overrun).freeCtr = s.freeCtr ∧
    (State.closeIncident s overrun).pending = s.pending := by
  refine ⟨?_, ?_, ?_, ?_, ?_, ?_, ?_, ?_, ?_⟩ <;> (first | rfl | (simp (maxDischargeDepth := 12) [State.closeIncident]; done) | (unfold State.closeIncident; (try dsimp only); repeat' (first | rfl | (simp (maxDischargeDepth := 12); done) | split)))

@[simp] theorem State_winRefused_keeps0 (s : State) (code : Nat) (off : Nat) (write : Bool) :
    (State.winRefused s code off write).otp = s.otp ∧ (State.winRefused s code off write).start = s.start ∧
    (State.winRefused s code off write).clk = s.clk ∧ (State.winRefused s code off write).cells = s.cells ∧
    (State.winRefused s code off write).views = s.views ∧ (State.winRefused s code off write).chains = s.chains ∧
    (State.winRefused s code off write).creg = s.creg ∧ (State.winRefused s code off write).eng = s.eng ∧
    (State.winRefused s code off write).doms = s.doms ∧ (State.winRefused s code off write).lanes = s.lanes ∧
    (State.winRefused s code off write).sense = s.sense := by
  refine ⟨?_, ?_, ?_, ?_, ?_, ?_, ?_, ?_, ?_, ?_, ?_⟩ <;> (first | rfl | (simp (maxDischargeDepth := 12) [State.winRefused]; done) | (unfold State.winRefused; (try dsimp only); repeat' (first | rfl | (simp (maxDischargeDepth := 12); done) | split)))

@[simp] theorem State_winRefused_keeps1 (s : State) (code : Nat) (off : Nat) (write : Bool) :
    (State.winRefused s code off write).dscs = s.dscs ∧ (State.winRefused s code off write).hkcs = s.hkcs ∧
    (State.winRefused s code off write).tallies = s.tallies ∧ (State.winRefused s code off write).ledger = s.ledger ∧
    (State.winRefused s code off write).tiles = s.tiles ∧ (State.winRefused s code off write).accts = s.accts ∧
    (State.winRefused s code off write).limits = s.limits ∧ (State.winRefused s code off write).pace = s.pace ∧
    (State.winRefused s code off write).therm = s.therm ∧ (State.winRefused s code off write).diodes = s.diodes ∧
    (State.winRefused s code off write).stopq = s.stopq := by
  refine ⟨?_, ?_, ?_, ?_, ?_, ?_, ?_, ?_, ?_, ?_, ?_⟩ <;> (first | rfl | (simp (maxDischargeDepth := 12) [State.winRefused]; done) | (unfold State.winRefused; (try dsimp only); repeat' (first | rfl | (simp (maxDischargeDepth := 12); done) | split)))

@[simp] theorem State_winRefused_keeps2 (s : State) (code : Nat) (off : Nat) (write : Bool) :
    (State.winRefused s code off write).flt = s.flt ∧ (State.winRefused s code off write).warden = s.warden ∧
    (State.winRefused s code off write).policy = s.policy ∧ (State.winRefused s code off write).rings = s.rings ∧
    (State.winRefused s code off write).smb = s.smb ∧ (State.winRefused s code off write).avs = s.avs ∧
    (State.winRefused s code off write).tap = s.tap ∧ (State.winRefused s code off write).pub = s.pub ∧
    (State.winRefused s code off write).freeCtr = s.freeCtr ∧ (State.winRefused s code off write).pending = s.pending := by
  refine ⟨?_, ?_, ?_, ?_, ?_, ?_, ?_, ?_, ?_, ?_⟩ <;> (first | rfl | (simp (maxDischargeDepth := 12) [State.winRefused]; done) | (unfold State.winRefused; (try dsimp only); repeat' (first | rfl | (simp (maxDischargeDepth := 12); done) | split)))

end Sys2Proof.Machine
end

