-- ==== Sys2Proof/Laws/Quiet.lean ====
section
/-! SUPPORT. The end of a command that begins a stop sequence: the audits are abandoned, and nothing else changes. -/

namespace Sys2Proof.Machine

@[simp] theorem State.abandonAudits_keeps (s : State) :
    s.abandonAudits.otp = s.otp ∧ s.abandonAudits.start = s.start ∧ s.abandonAudits.clk = s.clk ∧ s.abandonAudits.win = s.win ∧
    s.abandonAudits.cells = s.cells ∧ s.abandonAudits.views = s.views ∧ s.abandonAudits.eng = s.eng ∧
    s.abandonAudits.doms = s.doms ∧ s.abandonAudits.sense = s.sense ∧ s.abandonAudits.hkcs = s.hkcs ∧
    s.abandonAudits.tallies = s.tallies ∧ s.abandonAudits.ledger = s.ledger ∧ s.abandonAudits.tiles = s.tiles ∧
    s.abandonAudits.accts = s.accts ∧ s.abandonAudits.limits = s.limits ∧ s.abandonAudits.pace = s.pace ∧
    s.abandonAudits.therm = s.therm ∧ s.abandonAudits.diodes = s.diodes ∧ s.abandonAudits.stopq = s.stopq ∧
    s.abandonAudits.warden = s.warden ∧ s.abandonAudits.policy = s.policy ∧ s.abandonAudits.rings = s.rings ∧
    s.abandonAudits.smb = s.smb ∧ s.abandonAudits.avs = s.avs ∧ s.abandonAudits.tap = s.tap ∧ s.abandonAudits.pub = s.pub ∧
    s.abandonAudits.freeCtr = s.freeCtr ∧ s.abandonAudits.pending = s.pending := by
  simp [State.abandonAudits]

@[simp] theorem State.abandonAudits_creg (s : State) : s.abandonAudits.creg = { s.creg with loopReq := 0 } := by
  simp [State.abandonAudits]

@[simp] theorem State.abandonAudits_flt_ctrl (s : State) : s.abandonAudits.flt.ctrl = s.flt.ctrl := by
  simp [State.abandonAudits]
@[simp] theorem State.abandonAudits_flt_st (s : State) : s.abandonAudits.flt.st = s.flt.st := by
  simp [State.abandonAudits]
@[simp] theorem State.abandonAudits_flt_nextInc (s : State) : s.abandonAudits.flt.nextInc = s.flt.nextInc := by
  simp [State.abandonAudits]
@[simp] theorem State.abandonAudits_flt_pend (s : State) : s.abandonAudits.flt.pend = s.flt.pend := by
  simp [State.abandonAudits]
@[simp] theorem State.abandonAudits_flt_pendObj (s : State) : s.abandonAudits.flt.pendObj = s.flt.pendObj := by
  simp [State.abandonAudits]
@[simp] theorem State.abandonAudits_flt_quiet (s : State) : s.abandonAudits.flt.quiet = s.flt.quiet := by
  simp [State.abandonAudits]
@[simp] theorem State.abandonAudits_flt_react (s : State) : s.abandonAudits.flt.react = s.flt.react := by
  simp [State.abandonAudits]
@[simp] theorem State.abandonAudits_flt_raised (s : State) : s.abandonAudits.flt.raised = s.flt.raised := by
  simp [State.abandonAudits]
@[simp] theorem State.abandonAudits_flt_trans (s : State) : s.abandonAudits.flt.trans = s.flt.trans := by
  simp [State.abandonAudits]
@[simp] theorem State.abandonAudits_flt_lasting (s : State) : s.abandonAudits.flt.lasting = s.flt.lasting := by
  simp [State.abandonAudits]
@[simp] theorem State.abandonAudits_flt_obj (s : State) : s.abandonAudits.flt.obj = s.flt.obj := by
  simp [State.abandonAudits]
@[simp] theorem State.abandonAudits_flt_shed (s : State) : s.abandonAudits.flt.shed = s.flt.shed := by
  simp [State.abandonAudits]
@[simp] theorem State.abandonAudits_flt_errnPulse (s : State) : s.abandonAudits.flt.errnPulse = s.flt.errnPulse := by
  simp [State.abandonAudits]
@[simp] theorem State.abandonAudits_flt_errnStop (s : State) : s.abandonAudits.flt.errnStop = s.flt.errnStop := by
  simp [State.abandonAudits]
@[simp] theorem State.abandonAudits_flt_errn (s : State) : s.abandonAudits.flt.errn = s.flt.errn := by
  simp [State.abandonAudits]
@[simp] theorem State.abandonAudits_flt_eventLostRun (s : State) : s.abandonAudits.flt.eventLostRun = s.flt.eventLostRun := by
  simp [State.abandonAudits]

/-- A command that begins a stop sequence and no run of lost events. -/
theorem closing_stop {s t : State} (h : t.flt.eventLostRun = s.flt.eventLostRun) (k : t.stopq.active = true) (j : s.stopq.active = false) :
    closing s t = t.abandonAudits.alertUpdate := by
  simp [closing, h, k, j]

end Sys2Proof.Machine
end

