-- ==== Sys2Proof/Laws/Closing.lean ====
section
/-! SUPPORT. What the end of a command leaves alone whatever it raises: EVENT_LOST resets no block and starts no audit. -/

set_option linter.unusedSimpArgs false

namespace Sys2Proof.Machine

@[simp] theorem State.errnSettle_keeps (s : State) :
    s.errnSettle.otp = s.otp ∧ s.errnSettle.start = s.start ∧ s.errnSettle.clk = s.clk ∧ s.errnSettle.win = s.win ∧
    s.errnSettle.cells = s.cells ∧ s.errnSettle.views = s.views ∧ s.errnSettle.creg = s.creg ∧ s.errnSettle.eng = s.eng ∧
    s.errnSettle.doms = s.doms ∧ s.errnSettle.sense = s.sense ∧ s.errnSettle.hkcs = s.hkcs ∧ s.errnSettle.tallies = s.tallies ∧
    s.errnSettle.ledger = s.ledger ∧ s.errnSettle.tiles = s.tiles ∧ s.errnSettle.accts = s.accts ∧ s.errnSettle.limits = s.limits ∧
    s.errnSettle.pace = s.pace ∧ s.errnSettle.therm = s.therm ∧ s.errnSettle.diodes = s.diodes ∧ s.errnSettle.stopq = s.stopq ∧
    s.errnSettle.warden = s.warden ∧ s.errnSettle.policy = s.policy ∧ s.errnSettle.rings = s.rings ∧ s.errnSettle.smb = s.smb ∧
    s.errnSettle.avs = s.avs ∧ s.errnSettle.tap = s.tap ∧ s.errnSettle.pub = s.pub ∧ s.errnSettle.freeCtr = s.freeCtr ∧
    s.errnSettle.pending = s.pending ∧ s.errnSettle.chains = s.chains ∧ s.errnSettle.lanes = s.lanes ∧ s.errnSettle.dscs = s.dscs := by
  simp [State.errnSettle]

@[simp] theorem State.issue_lost_otp (s : State) (obj new : Nat) : (s.issue 44 obj new).otp = s.otp := by
  unfold State.issue
  simp only [blockOf, Nat.reduceLeDiff, Nat.reduceEqDiff, false_and, and_false, or_false, false_or, if_false]
  repeat' (first | (simp; done) | split)
@[simp] theorem State.issue_lost_cells (s : State) (obj new : Nat) : (s.issue 44 obj new).cells = s.cells := by
  unfold State.issue
  simp only [blockOf, Nat.reduceLeDiff, Nat.reduceEqDiff, false_and, and_false, or_false, false_or, if_false]
  repeat' (first | (simp; done) | split)
@[simp] theorem State.issue_lost_views (s : State) (obj new : Nat) : (s.issue 44 obj new).views = s.views := by
  unfold State.issue
  simp only [blockOf, Nat.reduceLeDiff, Nat.reduceEqDiff, false_and, and_false, or_false, false_or, if_false]
  repeat' (first | (simp; done) | split)
@[simp] theorem State.issue_lost_creg (s : State) (obj new : Nat) : (s.issue 44 obj new).creg = s.creg := by
  unfold State.issue
  simp only [blockOf, Nat.reduceLeDiff, Nat.reduceEqDiff, false_and, and_false, or_false, false_or, if_false]
  repeat' (first | (simp; done) | split)
@[simp] theorem State.issue_lost_eng (s : State) (obj new : Nat) : (s.issue 44 obj new).eng = s.eng := by
  unfold State.issue
  simp only [blockOf, Nat.reduceLeDiff, Nat.reduceEqDiff, false_and, and_false, or_false, false_or, if_false]
  repeat' (first | (simp; done) | split)
@[simp] theorem State.issue_lost_sense (s : State) (obj new : Nat) : (s.issue 44 obj new).sense = s.sense := by
  unfold State.issue
  simp only [blockOf, Nat.reduceLeDiff, Nat.reduceEqDiff, false_and, and_false, or_false, false_or, if_false]
  repeat' (first | (simp; done) | split)
@[simp] theorem State.issue_lost_hkcs (s : State) (obj new : Nat) : (s.issue 44 obj new).hkcs = s.hkcs := by
  unfold State.issue
  simp only [blockOf, Nat.reduceLeDiff, Nat.reduceEqDiff, false_and, and_false, or_false, false_or, if_false]
  repeat' (first | (simp; done) | split)
@[simp] theorem State.issue_lost_tallies (s : State) (obj new : Nat) : (s.issue 44 obj new).tallies = s.tallies := by
  unfold State.issue
  simp only [blockOf, Nat.reduceLeDiff, Nat.reduceEqDiff, false_and, and_false, or_false, false_or, if_false]
  repeat' (first | (simp; done) | split)
@[simp] theorem State.issue_lost_tiles (s : State) (obj new : Nat) : (s.issue 44 obj new).tiles = s.tiles := by
  unfold State.issue
  simp only [blockOf, Nat.reduceLeDiff, Nat.reduceEqDiff, false_and, and_false, or_false, false_or, if_false]
  repeat' (first | (simp; done) | split)
@[simp] theorem State.issue_lost_accts (s : State) (obj new : Nat) : (s.issue 44 obj new).accts = s.accts := by
  unfold State.issue
  simp only [blockOf, Nat.reduceLeDiff, Nat.reduceEqDiff, false_and, and_false, or_false, false_or, if_false]
  repeat' (first | (simp; done) | split)
@[simp] theorem State.issue_lost_limits (s : State) (obj new : Nat) : (s.issue 44 obj new).limits = s.limits := by
  unfold State.issue
  simp only [blockOf, Nat.reduceLeDiff, Nat.reduceEqDiff, false_and, and_false, or_false, false_or, if_false]
  repeat' (first | (simp; done) | split)
@[simp] theorem State.issue_lost_pace (s : State) (obj new : Nat) : (s.issue 44 obj new).pace = s.pace := by
  unfold State.issue
  simp only [blockOf, Nat.reduceLeDiff, Nat.reduceEqDiff, false_and, and_false, or_false, false_or, if_false]
  repeat' (first | (simp; done) | split)
@[simp] theorem State.issue_lost_therm (s : State) (obj new : Nat) : (s.issue 44 obj new).therm = s.therm := by
  unfold State.issue
  simp only [blockOf, Nat.reduceLeDiff, Nat.reduceEqDiff, false_and, and_false, or_false, false_or, if_false]
  repeat' (first | (simp; done) | split)
@[simp] theorem State.issue_lost_diodes (s : State) (obj new : Nat) : (s.issue 44 obj new).diodes = s.diodes := by
  unfold State.issue
  simp only [blockOf, Nat.reduceLeDiff, Nat.reduceEqDiff, false_and, and_false, or_false, false_or, if_false]
  repeat' (first | (simp; done) | split)
@[simp] theorem State.issue_lost_policy (s : State) (obj new : Nat) : (s.issue 44 obj new).policy = s.policy := by
  unfold State.issue
  simp only [blockOf, Nat.reduceLeDiff, Nat.reduceEqDiff, false_and, and_false, or_false, false_or, if_false]
  repeat' (first | (simp; done) | split)
@[simp] theorem State.issue_lost_avs (s : State) (obj new : Nat) : (s.issue 44 obj new).avs = s.avs := by
  unfold State.issue
  simp only [blockOf, Nat.reduceLeDiff, Nat.reduceEqDiff, false_and, and_false, or_false, false_or, if_false]
  repeat' (first | (simp; done) | split)
@[simp] theorem State.issue_lost_tap (s : State) (obj new : Nat) : (s.issue 44 obj new).tap = s.tap := by
  unfold State.issue
  simp only [blockOf, Nat.reduceLeDiff, Nat.reduceEqDiff, false_and, and_false, or_false, false_or, if_false]
  repeat' (first | (simp; done) | split)
@[simp] theorem State.issue_lost_pub (s : State) (obj new : Nat) : (s.issue 44 obj new).pub = s.pub := by
  unfold State.issue
  simp only [blockOf, Nat.reduceLeDiff, Nat.reduceEqDiff, false_and, and_false, or_false, false_or, if_false]
  repeat' (first | (simp; done) | split)
@[simp] theorem State.issue_lost_freeCtr (s : State) (obj new : Nat) : (s.issue 44 obj new).freeCtr = s.freeCtr := by
  unfold State.issue
  simp only [blockOf, Nat.reduceLeDiff, Nat.reduceEqDiff, false_and, and_false, or_false, false_or, if_false]
  repeat' (first | (simp; done) | split)
@[simp] theorem State.issue_lost_pending (s : State) (obj new : Nat) : (s.issue 44 obj new).pending = s.pending := by
  unfold State.issue
  simp only [blockOf, Nat.reduceLeDiff, Nat.reduceEqDiff, false_and, and_false, or_false, false_or, if_false]
  repeat' (first | (simp; done) | split)

@[simp] theorem State.handleRaise_lost_otp (s : State) (obj : Nat) (b : Bool) : (s.handleRaise 44 obj b).otp = s.otp := by
  unfold State.handleRaise State.startAudit
  simp only [auditOf, Nat.reduceLeDiff, Nat.reduceEqDiff, false_and, and_false, or_false, false_or, if_false]
  repeat' (first | (simp; done) | split)
@[simp] theorem State.handleRaise_lost_cells (s : State) (obj : Nat) (b : Bool) : (s.handleRaise 44 obj b).cells = s.cells := by
  unfold State.handleRaise State.startAudit
  simp only [auditOf, Nat.reduceLeDiff, Nat.reduceEqDiff, false_and, and_false, or_false, false_or, if_false]
  repeat' (first | (simp; done) | split)
@[simp] theorem State.handleRaise_lost_views (s : State) (obj : Nat) (b : Bool) : (s.handleRaise 44 obj b).views = s.views := by
  unfold State.handleRaise State.startAudit
  simp only [auditOf, Nat.reduceLeDiff, Nat.reduceEqDiff, false_and, and_false, or_false, false_or, if_false]
  repeat' (first | (simp; done) | split)
@[simp] theorem State.handleRaise_lost_creg (s : State) (obj : Nat) (b : Bool) : (s.handleRaise 44 obj b).creg = s.creg := by
  unfold State.handleRaise State.startAudit
  simp only [auditOf, Nat.reduceLeDiff, Nat.reduceEqDiff, false_and, and_false, or_false, false_or, if_false]
  repeat' (first | (simp; done) | split)
@[simp] theorem State.handleRaise_lost_eng (s : State) (obj : Nat) (b : Bool) : (s.handleRaise 44 obj b).eng = s.eng := by
  unfold State.handleRaise State.startAudit
  simp only [auditOf, Nat.reduceLeDiff, Nat.reduceEqDiff, false_and, and_false, or_false, false_or, if_false]
  repeat' (first | (simp; done) | split)
@[simp] theorem State.handleRaise_lost_sense (s : State) (obj : Nat) (b : Bool) : (s.handleRaise 44 obj b).sense = s.sense := by
  unfold State.handleRaise State.startAudit
  simp only [auditOf, Nat.reduceLeDiff, Nat.reduceEqDiff, false_and, and_false, or_false, false_or, if_false]
  repeat' (first | (simp; done) | split)
@[simp] theorem State.handleRaise_lost_hkcs (s : State) (obj : Nat) (b : Bool) : (s.handleRaise 44 obj b).hkcs = s.hkcs := by
  unfold State.handleRaise State.startAudit
  simp only [auditOf, Nat.reduceLeDiff, Nat.reduceEqDiff, false_and, and_false, or_false, false_or, if_false]
  repeat' (first | (simp; done) | split)
@[simp] theorem State.handleRaise_lost_tallies (s : State) (obj : Nat) (b : Bool) : (s.handleRaise 44 obj b).tallies = s.tallies := by
  unfold State.handleRaise State.startAudit
  simp only [auditOf, Nat.reduceLeDiff, Nat.reduceEqDiff, false_and, and_false, or_false, false_or, if_false]
  repeat' (first | (simp; done) | split)
@[simp] theorem State.handleRaise_lost_tiles (s : State) (obj : Nat) (b : Bool) : (s.handleRaise 44 obj b).tiles = s.tiles := by
  unfold State.handleRaise State.startAudit
  simp only [auditOf, Nat.reduceLeDiff, Nat.reduceEqDiff, false_and, and_false, or_false, false_or, if_false]
  repeat' (first | (simp; done) | split)
@[simp] theorem State.handleRaise_lost_accts (s : State) (obj : Nat) (b : Bool) : (s.handleRaise 44 obj b).accts = s.accts := by
  unfold State.handleRaise State.startAudit
  simp only [auditOf, Nat.reduceLeDiff, Nat.reduceEqDiff, false_and, and_false, or_false, false_or, if_false]
  repeat' (first | (simp; done) | split)
@[simp] theorem State.handleRaise_lost_limits (s : State) (obj : Nat) (b : Bool) : (s.handleRaise 44 obj b).limits = s.limits := by
  unfold State.handleRaise State.startAudit
  simp only [auditOf, Nat.reduceLeDiff, Nat.reduceEqDiff, false_and, and_false, or_false, false_or, if_false]
  repeat' (first | (simp; done) | split)
@[simp] theorem State.handleRaise_lost_pace (s : State) (obj : Nat) (b : Bool) : (s.handleRaise 44 obj b).pace = s.pace := by
  unfold State.handleRaise State.startAudit
  simp only [auditOf, Nat.reduceLeDiff, Nat.reduceEqDiff, false_and, and_false, or_false, false_or, if_false]
  repeat' (first | (simp; done) | split)
@[simp] theorem State.handleRaise_lost_therm (s : State) (obj : Nat) (b : Bool) : (s.handleRaise 44 obj b).therm = s.therm := by
  unfold State.handleRaise State.startAudit
  simp only [auditOf, Nat.reduceLeDiff, Nat.reduceEqDiff, false_and, and_false, or_false, false_or, if_false]
  repeat' (first | (simp; done) | split)
@[simp] theorem State.handleRaise_lost_diodes (s : State) (obj : Nat) (b : Bool) : (s.handleRaise 44 obj b).diodes = s.diodes := by
  unfold State.handleRaise State.startAudit
  simp only [auditOf, Nat.reduceLeDiff, Nat.reduceEqDiff, false_and, and_false, or_false, false_or, if_false]
  repeat' (first | (simp; done) | split)
@[simp] theorem State.handleRaise_lost_policy (s : State) (obj : Nat) (b : Bool) : (s.handleRaise 44 obj b).policy = s.policy := by
  unfold State.handleRaise State.startAudit
  simp only [auditOf, Nat.reduceLeDiff, Nat.reduceEqDiff, false_and, and_false, or_false, false_or, if_false]
  repeat' (first | (simp; done) | split)
@[simp] theorem State.handleRaise_lost_avs (s : State) (obj : Nat) (b : Bool) : (s.handleRaise 44 obj b).avs = s.avs := by
  unfold State.handleRaise State.startAudit
  simp only [auditOf, Nat.reduceLeDiff, Nat.reduceEqDiff, false_and, and_false, or_false, false_or, if_false]
  repeat' (first | (simp; done) | split)
@[simp] theorem State.handleRaise_lost_tap (s : State) (obj : Nat) (b : Bool) : (s.handleRaise 44 obj b).tap = s.tap := by
  unfold State.handleRaise State.startAudit
  simp only [auditOf, Nat.reduceLeDiff, Nat.reduceEqDiff, false_and, and_false, or_false, false_or, if_false]
  repeat' (first | (simp; done) | split)
@[simp] theorem State.handleRaise_lost_pub (s : State) (obj : Nat) (b : Bool) : (s.handleRaise 44 obj b).pub = s.pub := by
  unfold State.handleRaise State.startAudit
  simp only [auditOf, Nat.reduceLeDiff, Nat.reduceEqDiff, false_and, and_false, or_false, false_or, if_false]
  repeat' (first | (simp; done) | split)
@[simp] theorem State.handleRaise_lost_freeCtr (s : State) (obj : Nat) (b : Bool) : (s.handleRaise 44 obj b).freeCtr = s.freeCtr := by
  unfold State.handleRaise State.startAudit
  simp only [auditOf, Nat.reduceLeDiff, Nat.reduceEqDiff, false_and, and_false, or_false, false_or, if_false]
  repeat' (first | (simp; done) | split)
@[simp] theorem State.handleRaise_lost_pending (s : State) (obj : Nat) (b : Bool) : (s.handleRaise 44 obj b).pending = s.pending := by
  unfold State.handleRaise State.startAudit
  simp only [auditOf, Nat.reduceLeDiff, Nat.reduceEqDiff, false_and, and_false, or_false, false_or, if_false]
  repeat' (first | (simp; done) | split)

@[simp] theorem State.raise_lost_otp (s : State) (obj : Nat) : (s.raise 44 obj).otp = s.otp := by
  unfold State.raise
  dsimp only
  repeat' (first | (simp; done) | split)
@[simp] theorem State.raise_lost_cells (s : State) (obj : Nat) : (s.raise 44 obj).cells = s.cells := by
  unfold State.raise
  dsimp only
  repeat' (first | (simp; done) | split)
@[simp] theorem State.raise_lost_views (s : State) (obj : Nat) : (s.raise 44 obj).views = s.views := by
  unfold State.raise
  dsimp only
  repeat' (first | (simp; done) | split)
@[simp] theorem State.raise_lost_creg (s : State) (obj : Nat) : (s.raise 44 obj).creg = s.creg := by
  unfold State.raise
  dsimp only
  repeat' (first | (simp; done) | split)
@[simp] theorem State.raise_lost_eng (s : State) (obj : Nat) : (s.raise 44 obj).eng = s.eng := by
  unfold State.raise
  dsimp only
  repeat' (first | (simp; done) | split)
@[simp] theorem State.raise_lost_sense (s : State) (obj : Nat) : (s.raise 44 obj).sense = s.sense := by
  unfold State.raise
  dsimp only
  repeat' (first | (simp; done) | split)
@[simp] theorem State.raise_lost_hkcs (s : State) (obj : Nat) : (s.raise 44 obj).hkcs = s.hkcs := by
  unfold State.raise
  dsimp only
  repeat' (first | (simp; done) | split)
@[simp] theorem State.raise_lost_tallies (s : State) (obj : Nat) : (s.raise 44 obj).tallies = s.tallies := by
  unfold State.raise
  dsimp only
  repeat' (first | (simp; done) | split)
@[simp] theorem State.raise_lost_tiles (s : State) (obj : Nat) : (s.raise 44 obj).tiles = s.tiles := by
  unfold State.raise
  dsimp only
  repeat' (first | (simp; done) | split)
@[simp] theorem State.raise_lost_accts (s : State) (obj : Nat) : (s.raise 44 obj).accts = s.accts := by
  unfold State.raise
  dsimp only
  repeat' (first | (simp; done) | split)
@[simp] theorem State.raise_lost_limits (s : State) (obj : Nat) : (s.raise 44 obj).limits = s.limits := by
  unfold State.raise
  dsimp only
  repeat' (first | (simp; done) | split)
@[simp] theorem State.raise_lost_pace (s : State) (obj : Nat) : (s.raise 44 obj).pace = s.pace := by
  unfold State.raise
  dsimp only
  repeat' (first | (simp; done) | split)
@[simp] theorem State.raise_lost_therm (s : State) (obj : Nat) : (s.raise 44 obj).therm = s.therm := by
  unfold State.raise
  dsimp only
  repeat' (first | (simp; done) | split)
@[simp] theorem State.raise_lost_diodes (s : State) (obj : Nat) : (s.raise 44 obj).diodes = s.diodes := by
  unfold State.raise
  dsimp only
  repeat' (first | (simp; done) | split)
@[simp] theorem State.raise_lost_policy (s : State) (obj : Nat) : (s.raise 44 obj).policy = s.policy := by
  unfold State.raise
  dsimp only
  repeat' (first | (simp; done) | split)
@[simp] theorem State.raise_lost_avs (s : State) (obj : Nat) : (s.raise 44 obj).avs = s.avs := by
  unfold State.raise
  dsimp only
  repeat' (first | (simp; done) | split)
@[simp] theorem State.raise_lost_tap (s : State) (obj : Nat) : (s.raise 44 obj).tap = s.tap := by
  unfold State.raise
  dsimp only
  repeat' (first | (simp; done) | split)
@[simp] theorem State.raise_lost_pub (s : State) (obj : Nat) : (s.raise 44 obj).pub = s.pub := by
  unfold State.raise
  dsimp only
  repeat' (first | (simp; done) | split)
@[simp] theorem State.raise_lost_freeCtr (s : State) (obj : Nat) : (s.raise 44 obj).freeCtr = s.freeCtr := by
  unfold State.raise
  dsimp only
  repeat' (first | (simp; done) | split)
@[simp] theorem State.raise_lost_pending (s : State) (obj : Nat) : (s.raise 44 obj).pending = s.pending := by
  unfold State.raise
  dsimp only
  repeat' (first | (simp; done) | split)

@[simp] theorem closing_otp (s t : State) : (closing s t).otp = t.otp := by
  unfold closing
  dsimp only
  repeat' (first | (simp; done) | split)
@[simp] theorem closing_cells (s t : State) : (closing s t).cells = t.cells := by
  unfold closing
  dsimp only
  repeat' (first | (simp; done) | split)
@[simp] theorem closing_views (s t : State) : (closing s t).views = t.views := by
  unfold closing
  dsimp only
  repeat' (first | (simp; done) | split)
@[simp] theorem closing_eng (s t : State) : (closing s t).eng = t.eng := by
  unfold closing
  dsimp only
  repeat' (first | (simp; done) | split)
@[simp] theorem closing_sense (s t : State) : (closing s t).sense = t.sense := by
  unfold closing
  dsimp only
  repeat' (first | (simp; done) | split)
@[simp] theorem closing_hkcs (s t : State) : (closing s t).hkcs = t.hkcs := by
  unfold closing
  dsimp only
  repeat' (first | (simp; done) | split)
@[simp] theorem closing_tallies (s t : State) : (closing s t).tallies = t.tallies := by
  unfold closing
  dsimp only
  repeat' (first | (simp; done) | split)
@[simp] theorem closing_tiles (s t : State) : (closing s t).tiles = t.tiles := by
  unfold closing
  dsimp only
  repeat' (first | (simp; done) | split)
@[simp] theorem closing_accts (s t : State) : (closing s t).accts = t.accts := by
  unfold closing
  dsimp only
  repeat' (first | (simp; done) | split)
@[simp] theorem closing_limits (s t : State) : (closing s t).limits = t.limits := by
  unfold closing
  dsimp only
  repeat' (first | (simp; done) | split)
@[simp] theorem closing_pace (s t : State) : (closing s t).pace = t.pace := by
  unfold closing
  dsimp only
  repeat' (first | (simp; done) | split)
@[simp] theorem closing_therm (s t : State) : (closing s t).therm = t.therm := by
  unfold closing
  dsimp only
  repeat' (first | (simp; done) | split)
@[simp] theorem closing_diodes (s t : State) : (closing s t).diodes = t.diodes := by
  unfold closing
  dsimp only
  repeat' (first | (simp; done) | split)
@[simp] theorem closing_policy (s t : State) : (closing s t).policy = t.policy := by
  unfold closing
  dsimp only
  repeat' (first | (simp; done) | split)
@[simp] theorem closing_avs (s t : State) : (closing s t).avs = t.avs := by
  unfold closing
  dsimp only
  repeat' (first | (simp; done) | split)
@[simp] theorem closing_tap (s t : State) : (closing s t).tap = t.tap := by
  unfold closing
  dsimp only
  repeat' (first | (simp; done) | split)
@[simp] theorem closing_pub (s t : State) : (closing s t).pub = t.pub := by
  unfold closing
  dsimp only
  repeat' (first | (simp; done) | split)
@[simp] theorem closing_freeCtr (s t : State) : (closing s t).freeCtr = t.freeCtr := by
  unfold closing
  dsimp only
  repeat' (first | (simp; done) | split)
@[simp] theorem closing_pending (s t : State) : (closing s t).pending = t.pending := by
  unfold closing
  dsimp only
  repeat' (first | (simp; done) | split)

end Sys2Proof.Machine
end

