-- ==== Sys2Proof/Laws/Raised.lean ====
section
/-! SUPPORT. What leaves flt.raised alone. -/

set_option linter.unusedSimpArgs false
set_option linter.unusedVariables false

namespace Sys2Proof.Machine

@[simp] theorem foldl_flt_raised {α : Type} (g : State → α → State) (l : List α) (s : State) (h : ∀ t a, (g t a).flt.raised = t.flt.raised) :
    (l.foldl g s).flt.raised = s.flt.raised := foldl_keeps (·.flt.raised) g l s h
@[simp] theorem forEach_flt_raised (g : State → Nat → State) (l : List Nat) (s : State) (h : ∀ t a, (g t a).flt.raised = t.flt.raised) :
    (s.forEach l g).flt.raised = s.flt.raised := foldl_keeps (·.flt.raised) g l s h

@[simp] theorem State_vaultPut_flt_raised (s : State) (a : Nat) (l : List Byte)  : (State.vaultPut s a l).flt.raised = s.flt.raised := by
  first | rfl | (simp (maxDischargeDepth := 12) [State.vaultPut]; done) | (unfold State.vaultPut; (try dsimp only); repeat' (first | rfl | (simp (maxDischargeDepth := 12); done) | split))

@[simp] theorem State_vaultPutWords_flt_raised (s : State) (a : Nat) (l : List Word)  : (State.vaultPutWords s a l).flt.raised = s.flt.raised := by
  first | rfl | (simp (maxDischargeDepth := 12) [State.vaultPutWords]; done) | (unfold State.vaultPutWords; (try dsimp only); repeat' (first | rfl | (simp (maxDischargeDepth := 12); done) | split))

@[simp] theorem State_vaultJob_flt_raised (s : State) (prio : Nat) (recNo : Nat) (addr : Nat) (l : List Word)  : (State.vaultJob s prio recNo addr l).flt.raised = s.flt.raised := by
  first | rfl | (simp (maxDischargeDepth := 12) [State.vaultJob]; done) | (unfold State.vaultJob; (try dsimp only); repeat' (first | rfl | (simp (maxDischargeDepth := 12); done) | split))

@[simp] theorem State_vaultFlush_flt_raised (s : State) (recNo : Nat)  : (State.vaultFlush s recNo).flt.raised = s.flt.raised := by
  first | rfl | (simp (maxDischargeDepth := 12) [State.vaultFlush]; done) | (unfold State.vaultFlush; (try dsimp only); repeat' (first | rfl | (simp (maxDischargeDepth := 12); done) | split))

@[simp] theorem State_writeStateBlock_flt_raised (s : State)  : (State.writeStateBlock s).flt.raised = s.flt.raised := by
  first | rfl | (simp (maxDischargeDepth := 12) [State.writeStateBlock]; done) | (unfold State.writeStateBlock; (try dsimp only); repeat' (first | rfl | (simp (maxDischargeDepth := 12); done) | split))

@[simp] theorem State_pushEvent_flt_raised (s : State) (e : Event)  : (State.pushEvent s e).flt.raised = s.flt.raised := by
  first | rfl | (simp (maxDischargeDepth := 12) [State.pushEvent]; done) | (unfold State.pushEvent; (try dsimp only); repeat' (first | rfl | (simp (maxDischargeDepth := 12); done) | split))

@[simp] theorem State_stopLatch_flt_raised (s : State) (causes : Nat) (abandon : Bool)  : (State.stopLatch s causes abandon).flt.raised = s.flt.raised := by
  first | rfl | (simp (maxDischargeDepth := 12) [State.stopLatch]; done) | (unfold State.stopLatch; (try dsimp only); repeat' (first | rfl | (simp (maxDischargeDepth := 12); done) | split))

@[simp] theorem State_stopAddCause_flt_raised (s : State) (causes : Nat)  : (State.stopAddCause s causes).flt.raised = s.flt.raised := by
  first | rfl | (simp (maxDischargeDepth := 12) [State.stopAddCause]; done) | (unfold State.stopAddCause; (try dsimp only); repeat' (first | rfl | (simp (maxDischargeDepth := 12); done) | split))

@[simp] theorem State_stopWriteSeal_flt_raised (s : State) (stage : Nat) (off : Nat)  : (State.stopWriteSeal s stage off).flt.raised = s.flt.raised := by
  first | rfl | (simp (maxDischargeDepth := 12) [State.stopWriteSeal]; done) | (unfold State.stopWriteSeal; (try dsimp only); repeat' (first | rfl | (simp (maxDischargeDepth := 12); done) | split))

@[simp] theorem State_quietRestart_flt_raised (s : State)  : (State.quietRestart s).flt.raised = s.flt.raised := by
  first | rfl | (simp (maxDischargeDepth := 12) [State.quietRestart]; done) | (unfold State.quietRestart; (try dsimp only); repeat' (first | rfl | (simp (maxDischargeDepth := 12); done) | split))

@[simp] theorem State_enterStopped_flt_raised (s : State)  : (State.enterStopped s).flt.raised = s.flt.raised := by
  first | rfl | (simp (maxDischargeDepth := 12) [State.enterStopped]; done) | (unfold State.enterStopped; (try dsimp only); repeat' (first | rfl | (simp (maxDischargeDepth := 12); done) | split))

@[simp] theorem State_sealAndStop_flt_raised (s : State) (stage : Nat) (off : Nat)  : (State.sealAndStop s stage off).flt.raised = s.flt.raised := by
  first | rfl | (simp (maxDischargeDepth := 12) [State.sealAndStop]; done) | (unfold State.sealAndStop; (try dsimp only); repeat' (first | rfl | (simp (maxDischargeDepth := 12); done) | split))

@[simp] theorem State_stopRecordOnly_flt_raised (s : State) (causes : Nat)  : (State.stopRecordOnly s causes).flt.raised = s.flt.raised := by
  first | rfl | (simp (maxDischargeDepth := 12) [State.stopRecordOnly]; done) | (unfold State.stopRecordOnly; (try dsimp only); repeat' (first | rfl | (simp (maxDischargeDepth := 12); done) | split))

@[simp] theorem State_abandonStart_flt_raised (s : State) (causes : Nat) (fail : Nat)  : (State.abandonStart s causes fail).flt.raised = s.flt.raised := by
  first | rfl | (simp (maxDischargeDepth := 12) [State.abandonStart]; done) | (unfold State.abandonStart; (try dsimp only); repeat' (first | rfl | (simp (maxDischargeDepth := 12); done) | split))

@[simp] theorem State_abandonBoot_flt_raised (s : State) (fail : Nat)  : (State.abandonBoot s fail).flt.raised = s.flt.raised := by
  first | rfl | (simp (maxDischargeDepth := 12) [State.abandonBoot]; done) | (unfold State.abandonBoot; (try dsimp only); repeat' (first | rfl | (simp (maxDischargeDepth := 12); done) | split))

@[simp] theorem State_stopCause_flt_raised (s : State) (causes : Nat)  : (State.stopCause s causes).flt.raised = s.flt.raised := by
  first | rfl | (simp (maxDischargeDepth := 12) [State.stopCause]; done) | (unfold State.stopCause; (try dsimp only); repeat' (first | rfl | (simp (maxDischargeDepth := 12); done) | split))

@[simp] theorem State_paceSend_flt_raised (s : State) (f : PaceTx)  : (State.paceSend s f).flt.raised = s.flt.raised := by
  first | rfl | (simp (maxDischargeDepth := 12) [State.paceSend]; done) | (unfold State.paceSend; (try dsimp only); repeat' (first | rfl | (simp (maxDischargeDepth := 12); done) | split))

@[simp] theorem State_newSeq_flt_raised (s : State) (old : Option Nat)  : (State.newSeq s old).2.flt.raised = s.flt.raised := by
  first | rfl | (simp (maxDischargeDepth := 12) [State.newSeq]; done) | (unfold State.newSeq; (try dsimp only); repeat' (first | rfl | (simp (maxDischargeDepth := 12); done) | split))

@[simp] theorem State_paceDiscover_flt_raised (s : State)  : (State.paceDiscover s).flt.raised = s.flt.raised := by
  first | rfl | (simp (maxDischargeDepth := 12) [State.paceDiscover]; done) | (unfold State.paceDiscover; (try dsimp only); repeat' (first | rfl | (simp (maxDischargeDepth := 12); done) | split))

@[simp] theorem State_paceJoin_flt_raised (s : State)  : (State.paceJoin s).flt.raised = s.flt.raised := by
  first | rfl | (simp (maxDischargeDepth := 12) [State.paceJoin]; done) | (unfold State.paceJoin; (try dsimp only); repeat' (first | rfl | (simp (maxDischargeDepth := 12); done) | split))

@[simp] theorem State_paceDown_flt_raised (s : State)  : (State.paceDown s).flt.raised = s.flt.raised := by
  first | rfl | (simp (maxDischargeDepth := 12) [State.paceDown]; done) | (unfold State.paceDown; (try dsimp only); repeat' (first | rfl | (simp (maxDischargeDepth := 12); done) | split))

@[simp] theorem State_paceBlockReset_flt_raised (s : State)  : (State.paceBlockReset s).flt.raised = s.flt.raised := by
  first | rfl | (simp (maxDischargeDepth := 12) [State.paceBlockReset]; done) | (unfold State.paceBlockReset; (try dsimp only); repeat' (first | rfl | (simp (maxDischargeDepth := 12); done) | split))

@[simp] theorem State_paceRelease_flt_raised (s : State) (relay : Bool) (group : Nat)  : (State.paceRelease s relay group).flt.raised = s.flt.raised := by
  first | rfl | (simp (maxDischargeDepth := 12) [State.paceRelease]; done) | (unfold State.paceRelease; (try dsimp only); repeat' (first | rfl | (simp (maxDischargeDepth := 12); done) | split))

@[simp] theorem State_paceLeave_flt_raised (s : State)  : (State.paceLeave s).flt.raised = s.flt.raised := by
  first | rfl | (simp (maxDischargeDepth := 12) [State.paceLeave]; done) | (unfold State.paceLeave; (try dsimp only); repeat' (first | rfl | (simp (maxDischargeDepth := 12); done) | split))

@[simp] theorem State_fastReset_flt_raised (s : State) (again : Bool)  : (State.fastReset s again).flt.raised = s.flt.raised := by
  first | rfl | (simp (maxDischargeDepth := 12) [State.fastReset]; done) | (unfold State.fastReset; (try dsimp only); repeat' (first | rfl | (simp (maxDischargeDepth := 12); done) | split))

@[simp] theorem State_coldReset_flt_raised (s : State)  : (State.coldReset s).flt.raised = s.flt.raised := by
  first | rfl | (simp (maxDischargeDepth := 12) [State.coldReset]; done) | (unfold State.coldReset; (try dsimp only); repeat' (first | rfl | (simp (maxDischargeDepth := 12); done) | split))

@[simp] theorem State_writeIncident_flt_raised (s : State) (dur : Nat)  : (State.writeIncident s dur).flt.raised = s.flt.raised := by
  first | rfl | (simp (maxDischargeDepth := 12) [State.writeIncident]; done) | (unfold State.writeIncident; (try dsimp only); repeat' (first | rfl | (simp (maxDischargeDepth := 12); done) | split))

@[simp] theorem State_pushTrap_flt_raised (s : State) (l : List (BitVec 64))  : (State.pushTrap s l).flt.raised = s.flt.raised := by
  first | rfl | (simp (maxDischargeDepth := 12) [State.pushTrap]; done) | (unfold State.pushTrap; (try dsimp only); repeat' (first | rfl | (simp (maxDischargeDepth := 12); done) | split))

@[simp] theorem State_suspendAudits_flt_raised (s : State)  : (State.suspendAudits s).flt.raised = s.flt.raised := by
  first | rfl | (simp (maxDischargeDepth := 12) [State.suspendAudits]; done) | (unfold State.suspendAudits; (try dsimp only); repeat' (first | rfl | (simp (maxDischargeDepth := 12); done) | split))

@[simp] theorem State_fsrAssert_flt_raised (s : State)  : (State.fsrAssert s).flt.raised = s.flt.raised := by
  first | rfl | (simp (maxDischargeDepth := 12) [State.fsrAssert]; done) | (unfold State.fsrAssert; (try dsimp only); repeat' (first | rfl | (simp (maxDischargeDepth := 12); done) | split))

@[simp] theorem State_dscBlockReset_flt_raised (s : State) (d : Nat)  : (State.dscBlockReset s d).flt.raised = s.flt.raised := by
  first | rfl | (simp (maxDischargeDepth := 12) [State.dscBlockReset]; done) | (unfold State.dscBlockReset; (try dsimp only); repeat' (first | rfl | (simp (maxDischargeDepth := 12); done) | split))

@[simp] theorem State_hkcBlockReset_flt_raised (s : State) (k : Nat)  : (State.hkcBlockReset s k).flt.raised = s.flt.raised := by
  first | rfl | (simp (maxDischargeDepth := 12) [State.hkcBlockReset]; done) | (unfold State.hkcBlockReset; (try dsimp only); repeat' (first | rfl | (simp (maxDischargeDepth := 12); done) | split))

@[simp] theorem State_policyBlockReset_flt_raised (s : State)  : (State.policyBlockReset s).flt.raised = s.flt.raised := by
  first | rfl | (simp (maxDischargeDepth := 12) [State.policyBlockReset]; done) | (unfold State.policyBlockReset; (try dsimp only); repeat' (first | rfl | (simp (maxDischargeDepth := 12); done) | split))

@[simp] theorem State_ringBlockReset_flt_raised (s : State)  : (State.ringBlockReset s).flt.raised = s.flt.raised := by
  first | rfl | (simp (maxDischargeDepth := 12) [State.ringBlockReset]; done) | (unfold State.ringBlockReset; (try dsimp only); repeat' (first | rfl | (simp (maxDischargeDepth := 12); done) | split))

@[simp] theorem State_blockReset_flt_raised (s : State) (b : Block) (obj : Nat)  : (State.blockReset s b obj).flt.raised = s.flt.raised := by
  first | rfl | (simp (maxDischargeDepth := 12) [State.blockReset]; done) | (unfold State.blockReset; (try dsimp only); repeat' (first | rfl | (simp (maxDischargeDepth := 12); done) | split))

@[simp] theorem State_blockReleased_flt_raised (s : State) (b : Block) (obj : Nat)  : (State.blockReleased s b obj).flt.raised = s.flt.raised := by
  first | rfl | (simp (maxDischargeDepth := 12) [State.blockReleased]; done) | (unfold State.blockReleased; (try dsimp only); repeat' (first | rfl | (simp (maxDischargeDepth := 12); done) | split))

@[simp] theorem State_holdAudit_flt_raised (s : State)  : (State.holdAudit s).flt.raised = s.flt.raised := by
  first | rfl | (simp (maxDischargeDepth := 12) [State.holdAudit]; done) | (unfold State.holdAudit; (try dsimp only); repeat' (first | rfl | (simp (maxDischargeDepth := 12); done) | split))

@[simp] theorem State_startAudit_flt_raised (s : State) (src : Nat) (obj : Nat)  : (State.startAudit s src obj).flt.raised = s.flt.raised := by
  first | rfl | (simp (maxDischargeDepth := 12) [State.startAudit]; done) | (unfold State.startAudit; (try dsimp only); repeat' (first | rfl | (simp (maxDischargeDepth := 12); done) | split))

@[simp] theorem State_errnPulse_flt_raised (s : State)  : (State.errnPulse s).flt.raised = s.flt.raised := by
  first | rfl | (simp (maxDischargeDepth := 12) [State.errnPulse]; done) | (unfold State.errnPulse; (try dsimp only); repeat' (first | rfl | (simp (maxDischargeDepth := 12); done) | split))

@[simp] theorem State_errnSettle_flt_raised (s : State)  : (State.errnSettle s).flt.raised = s.flt.raised := by
  first | rfl | (simp (maxDischargeDepth := 12) [State.errnSettle]; done) | (unfold State.errnSettle; (try dsimp only); repeat' (first | rfl | (simp (maxDischargeDepth := 12); done) | split))

@[simp] theorem State_reactI_flt_raised (s : State) (src : Nat) (obj : Nat)  : (State.reactI s src obj).flt.raised = s.flt.raised := by
  first | rfl | (simp (maxDischargeDepth := 12) [State.reactI]; done) | (unfold State.reactI; (try dsimp only); repeat' (first | rfl | (simp (maxDischargeDepth := 12); done) | split))

@[simp] theorem State_reactC_flt_raised (s : State)  : (State.reactC s).flt.raised = s.flt.raised := by
  first | rfl | (simp (maxDischargeDepth := 12) [State.reactC]; done) | (unfold State.reactC; (try dsimp only); repeat' (first | rfl | (simp (maxDischargeDepth := 12); done) | split))

@[simp] theorem State_issue_flt_raised (s : State) (src : Nat) (obj : Nat) (new : Nat)  : (State.issue s src obj new).flt.raised = s.flt.raised := by
  first | rfl | (simp (maxDischargeDepth := 12) [State.issue]; done) | (unfold State.issue; (try dsimp only); repeat' (first | rfl | (simp (maxDischargeDepth := 12); done) | split))

@[simp] theorem State_repeatRaise_flt_raised (s : State)  : (State.repeatRaise s).flt.raised = s.flt.raised := by
  first | rfl | (simp (maxDischargeDepth := 12) [State.repeatRaise]; done) | (unfold State.repeatRaise; (try dsimp only); repeat' (first | rfl | (simp (maxDischargeDepth := 12); done) | split))

@[simp] theorem State_openIncident_flt_raised (s : State) (src : Nat) (obj : Nat) (inj : Bool)  : (State.openIncident s src obj inj).flt.raised = s.flt.raised := by
  first | rfl | (simp (maxDischargeDepth := 12) [State.openIncident]; done) | (unfold State.openIncident; (try dsimp only); repeat' (first | rfl | (simp (maxDischargeDepth := 12); done) | split))

@[simp] theorem State_mergeRaise_flt_raised (s : State) (src : Nat) (inj : Bool)  : (State.mergeRaise s src inj).flt.raised = s.flt.raised := by
  first | rfl | (simp (maxDischargeDepth := 12) [State.mergeRaise]; done) | (unfold State.mergeRaise; (try dsimp only); repeat' (first | rfl | (simp (maxDischargeDepth := 12); done) | split))

@[simp] theorem State_handleRaise_flt_raised (s : State) (src : Nat) (obj : Nat) (newSrc : Bool)  : (State.handleRaise s src obj newSrc).flt.raised = s.flt.raised := by
  first | rfl | (simp (maxDischargeDepth := 12) [State.handleRaise]; done) | (unfold State.handleRaise; (try dsimp only); repeat' (first | rfl | (simp (maxDischargeDepth := 12); done) | split))

@[simp] theorem State_abandonAudits_flt_raised (s : State)  : (State.abandonAudits s).flt.raised = s.flt.raised := by
  first | rfl | (simp (maxDischargeDepth := 12) [State.abandonAudits]; done) | (unfold State.abandonAudits; (try dsimp only); repeat' (first | rfl | (simp (maxDischargeDepth := 12); done) | split))

@[simp] theorem State_concludeAudit_flt_raised (s : State) (src : Nat) (pass : Bool) (held : Bool)  : (State.concludeAudit s src pass held).flt.raised = s.flt.raised := by
  first | rfl | (simp (maxDischargeDepth := 12) [State.concludeAudit]; done) | (unfold State.concludeAudit; (try dsimp only); repeat' (first | rfl | (simp (maxDischargeDepth := 12); done) | split))

@[simp] theorem State_closeIncident_flt_raised (s : State) (overrun : Bool)  : (State.closeIncident s overrun).flt.raised = s.flt.raised := by
  first | rfl | (simp (maxDischargeDepth := 12) [State.closeIncident]; done) | (unfold State.closeIncident; (try dsimp only); repeat' (first | rfl | (simp (maxDischargeDepth := 12); done) | split))

@[simp] theorem State_winRefused_flt_raised (s : State) (code : Nat) (off : Nat) (write : Bool)  : (State.winRefused s code off write).flt.raised = s.flt.raised := by
  first | rfl | (simp (maxDischargeDepth := 12) [State.winRefused]; done) | (unfold State.winRefused; (try dsimp only); repeat' (first | rfl | (simp (maxDischargeDepth := 12); done) | split))

end Sys2Proof.Machine
end

