-- ==== Sys2Proof/Laws/SoftRaise.lean ====
section
/-! SUPPORT. A raise whose source has neither reaction C nor B: it counts, records and signals, and starts its audit, and nothing else. -/

set_option linter.unusedSimpArgs false

namespace Sys2Proof.Machine

/-! ### Bits of reaction sets -/

theorem bitAt_ofBits5 (p : Nat → Bool) (i : Nat) (h : i < 5) : bitAt (ofBits ((List.range 5).filter p)) i = p i := by
  have e : (List.range 5).filter p = [0, 1, 2, 3, 4].filter p := rfl
  rw [e]
  simp only [List.filter]
  have c : i = 0 ∨ i = 1 ∨ i = 2 ∨ i = 3 ∨ i = 4 := by omega
  rcases c with c | c | c | c | c <;> subst c <;>
    cases p 0 <;> cases p 1 <;> cases p 2 <;> cases p 3 <;> cases p 4 <;> rfl

theorem bitAt_clrBit (v i : Nat) : bitAt (clrBit v i) i = false := by
  unfold clrBit
  split
  · rename_i h
    simp only [bitAt, beq_iff_eq, beq_eq_false_iff_ne] at h ⊢
    have p : 0 < 2 ^ i := Nat.two_pow_pos i
    have d : (v - 2 ^ i) / 2 ^ i = v / 2 ^ i - 1 := by
      have := Nat.sub_mul_div v (2 ^ i) 1
      simpa using this
    rw [d]; omega
  · rename_i h; simpa using h

theorem bitAt_clrBit_2_3 (v : Nat) : bitAt (clrBit v 2) 3 = bitAt v 3 := by
  unfold clrBit
  split
  · rename_i h
    simp only [bitAt, beq_iff_eq] at h ⊢
    have : (v - 2 ^ 2) / 2 ^ 3 % 2 = v / 2 ^ 3 % 2 := by omega
    rw [this]
  · rfl

theorem bitAt_orBit_2_3 (v : Nat) : bitAt (orBit v 2) 3 = bitAt v 3 := by
  unfold orBit
  split
  · rfl
  · rename_i h
    simp only [bitAt, beq_iff_eq] at h ⊢
    have : (v + 2 ^ 2) / 2 ^ 3 % 2 = v / 2 ^ 3 % 2 := by omega
    rw [this]

/-- A raise of a source without B and C issues neither (R402). -/
theorem newReact_soft {s : State} {src : Nat} (obj : Nat) (h3 : bitAt (s.reactOf src) 3 = false) (h2 : bitAt (s.reactOf src) 2 = false) :
    bitAt (s.newReact src obj) 3 = false ∧ bitAt (s.newReact src obj) 2 = false := by
  have b3 : bitAt (reactNotIn (clrBit (s.reactOf src) 2) s.flt.inc.react) 3 = false := by
    rw [reactNotIn, bitAt_ofBits5 _ 3 (by omega), bitAt_clrBit_2_3, h3]; rfl
  have b2 : bitAt (reactNotIn (clrBit (s.reactOf src) 2) s.flt.inc.react) 2 = false := by
    rw [reactNotIn, bitAt_ofBits5 _ 2 (by omega), bitAt_clrBit]; rfl
  unfold State.newReact
  simp only [h2, Bool.false_and, Bool.false_eq_true, if_false]
  split
  · refine ⟨bitAt_clrBit _ 3, ?_⟩
    have c : clrBit (reactNotIn (clrBit (s.reactOf src) 2) s.flt.inc.react) 2 = reactNotIn (clrBit (s.reactOf src) 2) s.flt.inc.react := by
      unfold clrBit; rw [if_neg]; simpa [clrBit] using b2
    rw [c]
    have d : clrBit (reactNotIn (clrBit (s.reactOf src) 2) s.flt.inc.react) 3 = reactNotIn (clrBit (s.reactOf src) 2) s.flt.inc.react := by
      rw [show ∀ x, bitAt x 3 = false → clrBit x 3 = x from fun x hx => by unfold clrBit; simp [hx]]; exact b3
    rw [d]; exact b2
  · exact ⟨b3, b2⟩

/-! ### What such a raise leaves alone -/

theorem issue_soft {s : State} {new : Nat} (src obj : Nat) (h3 : bitAt new 3 = false) (h2 : bitAt new 2 = false) :
    (s.issue src obj new).otp = s.otp ∧ (s.issue src obj new).start = s.start ∧ (s.issue src obj new).clk = s.clk ∧
    (s.issue src obj new).win = s.win ∧ (s.issue src obj new).cells = s.cells ∧ (s.issue src obj new).views = s.views ∧
    (s.issue src obj new).creg = s.creg ∧ (s.issue src obj new).eng = s.eng ∧ (s.issue src obj new).doms = s.doms ∧
    (s.issue src obj new).sense = s.sense ∧ (s.issue src obj new).hkcs = s.hkcs ∧ (s.issue src obj new).tallies = s.tallies ∧
    (s.issue src obj new).ledger = s.ledger ∧ (s.issue src obj new).tiles = s.tiles ∧ (s.issue src obj new).accts = s.accts ∧
    (s.issue src obj new).limits = s.limits ∧ (s.issue src obj new).pace = s.pace ∧ (s.issue src obj new).therm = s.therm ∧
    (s.issue src obj new).diodes = s.diodes ∧ (s.issue src obj new).stopq = s.stopq ∧ (s.issue src obj new).policy = s.policy ∧
    (s.issue src obj new).smb = s.smb ∧ (s.issue src obj new).avs = s.avs ∧ (s.issue src obj new).tap = s.tap ∧
    (s.issue src obj new).pub = s.pub ∧ (s.issue src obj new).freeCtr = s.freeCtr ∧ (s.issue src obj new).pending = s.pending := by
  unfold State.issue
  simp only [h3, h2, Bool.false_eq_true, if_false]
  refine ⟨?_, ?_, ?_, ?_, ?_, ?_, ?_, ?_, ?_, ?_, ?_, ?_, ?_, ?_, ?_, ?_, ?_, ?_, ?_, ?_, ?_, ?_, ?_, ?_, ?_, ?_, ?_⟩ <;> (repeat' (first | (simp; done) | split))

/-- Everything a raise of a source with neither B nor C leaves alone. -/
structure SoftFrame (s t : State) : Prop where
  otp : t.otp = s.otp
  start : t.start = s.start
  clk : t.clk = s.clk
  win : t.win = s.win
  cells : t.cells = s.cells
  views : t.views = s.views
  creg : t.creg = s.creg
  eng : t.eng = s.eng
  doms : t.doms = s.doms
  sense : t.sense = s.sense
  hkcs : t.hkcs = s.hkcs
  tallies : t.tallies = s.tallies
  ledger : t.ledger = s.ledger
  tiles : t.tiles = s.tiles
  accts : t.accts = s.accts
  limits : t.limits = s.limits
  pace : t.pace = s.pace
  therm : t.therm = s.therm
  diodes : t.diodes = s.diodes
  stopq : t.stopq = s.stopq
  policy : t.policy = s.policy
  smb : t.smb = s.smb
  avs : t.avs = s.avs
  tap : t.tap = s.tap
  pub : t.pub = s.pub
  freeCtr : t.freeCtr = s.freeCtr
  pending : t.pending = s.pending

theorem SoftFrame.trans {a b c : State} (h : SoftFrame a b) (k : SoftFrame b c) : SoftFrame a c :=
  ⟨k.otp.trans h.otp, k.start.trans h.start, k.clk.trans h.clk, k.win.trans h.win, k.cells.trans h.cells, k.views.trans h.views, k.creg.trans h.creg, k.eng.trans h.eng, k.doms.trans h.doms, k.sense.trans h.sense, k.hkcs.trans h.hkcs, k.tallies.trans h.tallies, k.ledger.trans h.ledger, k.tiles.trans h.tiles, k.accts.trans h.accts, k.limits.trans h.limits, k.pace.trans h.pace, k.therm.trans h.therm, k.diodes.trans h.diodes, k.stopq.trans h.stopq, k.policy.trans h.policy, k.smb.trans h.smb, k.avs.trans h.avs, k.tap.trans h.tap, k.pub.trans h.pub, k.freeCtr.trans h.freeCtr, k.pending.trans h.pending⟩

theorem issue_frame {s : State} {new : Nat} (src obj : Nat) (h3 : bitAt new 3 = false) (h2 : bitAt new 2 = false) :
    SoftFrame s (s.issue src obj new) := by
  obtain ⟨a0, a1, a2, a3, a4, a5, a6, a7, a8, a9, a10, a11, a12, a13, a14, a15, a16, a17, a18, a19, a20, a21, a22, a23, a24, a25, a26⟩ := issue_soft (s := s) src obj h3 h2
  exact ⟨a0, a1, a2, a3, a4, a5, a6, a7, a8, a9, a10, a11, a12, a13, a14, a15, a16, a17, a18, a19, a20, a21, a22, a23, a24, a25, a26⟩

theorem startAudit_frame (s : State) (src obj : Nat) : SoftFrame s (s.startAudit src obj) := by
  constructor <;> simp

theorem handleRaise_frame {s : State} {src : Nat} (obj : Nat) (b : Bool) (h3 : bitAt (s.reactOf src) 3 = false)
    (h2 : bitAt (s.reactOf src) 2 = false) : SoftFrame s (s.handleRaise src obj b) := by
  obtain ⟨n3, n2⟩ := newReact_soft obj h3 h2
  unfold State.handleRaise
  dsimp only
  have f1 : ∀ x : State, SoftFrame s x → SoftFrame s (x.issue src obj (s.newReact src obj)) := fun x h => h.trans (issue_frame src obj n3 n2)
  have f2 : ∀ x : State, SoftFrame s x → SoftFrame s (x.startAudit src obj) := fun x h => h.trans (startAudit_frame x src obj)
  have f3 : ∀ x : State, SoftFrame s x → SoftFrame s x.writeStateBlock := fun x h => h.trans (by constructor <;> simp)
  have f4 : ∀ (x : State) l, SoftFrame s x → SoftFrame s (x.pushTrap l) := fun x l h => h.trans (by constructor <;> simp)
  have f0 : SoftFrame s { s with flt := { s.flt with inc := { s.flt.inc with react := orReact s.flt.inc.react (s.newReact src obj) } } } := by
    constructor <;> rfl
  repeat' (first | exact f0 | apply f3 | apply f2 | apply f1 | apply f4 | split)

/-- A raise of a source with neither reaction C nor B (R402, R405 to R407). -/
theorem raise_frame {s : State} {src : Nat} (obj : Nat) (inj : Bool) (h3 : bitAt (s.reactOf src) 3 = false)
    (h2 : bitAt (s.reactOf src) 2 = false) : SoftFrame s (s.raise src obj inj) := by
  unfold State.raise
  dsimp only
  have c : ∀ x : State, x.flt.react = s.flt.react → SoftFrame s x → ∀ b, SoftFrame s (x.handleRaise src obj b) := fun x e h b =>
    h.trans (handleRaise_frame obj b (by simpa [State.reactOf, e] using h3) (by simpa [State.reactOf, e] using h2))
  repeat' (first
    | (apply c <;> first | (simp [State.mergeRaise, State.openIncident, State.countRaise]; done) | (constructor <;> simp))
    | (constructor <;> simp; done)
    | split)

/-! ### The count of a raise, and its event (R405, R426, R469) -/

/-- A raise counts once for its source, whatever it does besides (R426). -/
theorem raise_raised (s : State) (src obj : Nat) (inj : Bool) :
    (s.raise src obj inj).flt.raised = s.flt.raised.modify 0 src (incSat 65535) := by
  unfold State.raise
  dsimp only
  repeat' (first | (simp [State.countRaise]; done) | split)

/-- The end of a command counts for no source but EVENT_LOST. -/
theorem closing_raised (s t : State) {k : Nat} (h : k ≠ 44) : (closing s t).flt.raised.get 0 k = t.flt.raised.get 0 k := by
  unfold closing
  dsimp only
  repeat' (first | (simp [raise_raised, h]; done) | split)

theorem pushEvent_room {s : State} (e : Event) (h : s.rings.eventOut.length < 64) : (s.pushEvent e).flt = s.flt := by
  simp [State.pushEvent, eventFifoDepth, h]

theorem issue_room {s : State} {new : Nat} (src obj : Nat) (h3 : bitAt new 3 = false) (h2 : bitAt new 2 = false)
    (h : s.rings.eventOut.length < 64) : (s.issue src obj new).flt.eventLostRun = s.flt.eventLostRun := by
  unfold State.issue State.reactI
  simp only [h3, h2, Bool.false_eq_true, if_false]
  repeat' (first
    | (simp [State.errnPulse, State.writeIncident, State.vaultJob, pushEvent_room _ h]; done)
    | split)

@[simp] theorem pushTrap_events (s : State) (l : List (BitVec 64)) : (s.pushTrap l).rings.eventOut = s.rings.eventOut := by
  unfold State.pushTrap; split <;> rfl

@[simp] theorem startAudit_lost (s : State) (src obj : Nat) : (s.startAudit src obj).flt.eventLostRun = s.flt.eventLostRun := by
  unfold State.startAudit State.holdAudit
  repeat' (first | rfl | (simp; done) | split)

theorem handleRaise_room {s : State} {src : Nat} (obj : Nat) (b : Bool) (h3 : bitAt (s.reactOf src) 3 = false)
    (h2 : bitAt (s.reactOf src) 2 = false) (h : s.rings.eventOut.length < 64) :
    (s.handleRaise src obj b).flt.eventLostRun = s.flt.eventLostRun := by
  obtain ⟨n3, n2⟩ := newReact_soft obj h3 h2
  unfold State.handleRaise
  dsimp only
  repeat' (first
    | (simp [issue_room src obj n3 n2, h]; done)
    | split)

/-- With a place for its event such a raise begins no run of lost events. -/
theorem raise_room {s : State} {src : Nat} (obj : Nat) (inj : Bool) (h3 : bitAt (s.reactOf src) 3 = false)
    (h2 : bitAt (s.reactOf src) 2 = false) (h : s.rings.eventOut.length < 64) :
    (s.raise src obj inj).flt.eventLostRun = s.flt.eventLostRun := by
  unfold State.raise
  dsimp only
  have c : ∀ x : State, x.flt.react = s.flt.react → x.rings = s.rings → x.flt.eventLostRun = s.flt.eventLostRun → ∀ b,
      (x.handleRaise src obj b).flt.eventLostRun = s.flt.eventLostRun := fun x e r l b =>
    (handleRaise_room obj b (by simpa [State.reactOf, e] using h3) (by simpa [State.reactOf, e] using h2) (by rw [r]; exact h)).trans l
  repeat' (first
    | (apply c <;> simp [State.mergeRaise, State.openIncident, State.countRaise]; done)
    | (simp [State.countRaise, State.repeatRaise]; done)
    | (unfold State.repeatRaise; split <;> simp [State.countRaise]; done)
    | split)

end Sys2Proof.Machine
end

