-- ==== Sys2Proof/Laws/ChainMarks.lean ====
section
/-! SUPPORT. What a raise and the end of a command do to the chains: no more than their audit marks. -/

set_option linter.unusedSimpArgs false

namespace Sys2Proof.Machine

/-! ### The chains at the end of a command -/

/-- Of a chain only its audit mark and the audit's frames still to send may change. -/
def Chain.Same (x y : Chain) : Prop := ∃ b r m n, y = { x with audit := b, auditReq := r, loopMain := m, loopResc := n }

theorem Chain.Same.refl (x : Chain) : x.Same x := ⟨x.audit, x.auditReq, x.loopMain, x.loopResc, rfl⟩
theorem Chain.Same.trans {x y z : Chain} (h : x.Same y) (k : y.Same z) : x.Same z := by
  obtain ⟨b, r, m, n, rfl⟩ := h; obtain ⟨c, d, p, q, rfl⟩ := k; exact ⟨c, d, p, q, rfl⟩

theorem chains_chain {s t : State} (h : t.chains = s.chains) (c : Nat) : (s.chain c).Same (t.chain c) := by
  simp [State.chain, h, Chain.Same.refl]

theorem updChain_same (s : State) (c i : Nat) (f : Chain → Chain) (h : ∀ x : Chain, x.Same (f x)) : (s.chain c).Same ((s.updChain i f).chain c) := by
  by_cases e : c = i
  · subst e; simpa using h (s.chain c)
  · simp [State.updChain_other _ _ _ _ e, Chain.Same.refl]

theorem abandonAudits_chain (s : State) (c : Nat) : (s.chain c).Same (s.abandonAudits.chain c) := by
  have go : ∀ (l : List Nat) (x : State), (x.chain c).Same ((l.foldl (fun s c => s.updChain c Chain.auditOver) x).chain c) := by
    intro l
    induction l with
    | nil => exact fun x => Chain.Same.refl _
    | cons a l ih => exact fun x => (updChain_same x c a Chain.auditOver fun y => ⟨_, _, _, _, rfl⟩).trans (ih _)
  unfold State.abandonAudits
  dsimp only
  exact go (List.range 8) _

theorem startAudit_chain (s : State) (src obj c : Nat) : (s.chain c).Same ((s.startAudit src obj).chain c) := by
  unfold State.startAudit State.holdAudit
  repeat' split
  all_goals first
    | exact Chain.Same.refl _
    | exact updChain_same _ c obj _ fun y => ⟨_, _, _, _, rfl⟩

theorem raise_lost_chains (s : State) (obj : Nat) (inj : Bool) : (s.raise 44 obj inj).chains = s.chains := by
  have i : ∀ (x : State) o n, (x.issue 44 o n).chains = x.chains := by
    intro x o n
    unfold State.issue
    simp only [blockOf, Nat.reduceLeDiff, Nat.reduceEqDiff, false_and, and_false, or_false, false_or, if_false]
    repeat' (first | (simp; done) | split)
  have a : ∀ (x : State) o, x.startAudit 44 o = x := by
    intro x o; unfold State.startAudit
    simp only [auditOf, Nat.reduceLeDiff, Nat.reduceEqDiff, false_and, and_false, or_false, false_or, if_false]
    repeat' (first | rfl | split)
  have h : ∀ (x : State) o b, (x.handleRaise 44 o b).chains = x.chains := by
    intro x o b
    unfold State.handleRaise
    dsimp only
    repeat' (first | (simp [a, i]; done) | split)
  unfold State.raise
  dsimp only
  repeat' (first | (simp [h]; done) | split)

/-- The end of a command changes no more of a chain than its audit mark. -/
theorem closing_chain (s t : State) (c : Nat) : (t.chain c).Same ((closing s t).chain c) := by
  have a : ∀ b : Bool, (t.chain c).Same ((if b then t.raise 44 0 else t).chain c) := by
    intro b; cases b
    · exact Chain.Same.refl _
    · exact chains_chain (raise_lost_chains t 0 false) c
  have b : ∀ (x : State) (b : Bool), (x.chain c).Same ((if b then x.abandonAudits else x).chain c) := by
    intro x b; cases b
    · exact Chain.Same.refl _
    · exact abandonAudits_chain x c
  exact (a _).trans (b _ _)

theorem handleRaise_chain {s : State} {src : Nat} (obj c : Nat) (b : Bool) (h3 : bitAt (s.reactOf src) 3 = false)
    (h2 : bitAt (s.reactOf src) 2 = false) : (s.chain c).Same ((s.handleRaise src obj b).chain c) := by
  obtain ⟨n3, n2⟩ := newReact_soft obj h3 h2
  have i : ∀ (x : State), x.chains = s.chains → (x.issue src obj (s.newReact src obj)).chains = s.chains := by
    intro x hx
    unfold State.issue
    simp only [n3, n2, Bool.false_eq_true, if_false]
    repeat' (first | (simp [hx]; done) | split)
  have a : ∀ (x : State) (p : Bool), x.chains = s.chains → (s.chain c).Same ((if p then x else x.startAudit src obj).chain c) := by
    intro x p hx
    cases p
    · exact (chains_chain hx c).trans (startAudit_chain x src obj c)
    · exact chains_chain hx c
  have w : ∀ (x : State) (p : Bool), (x.chain c).Same ((if p then x.writeStateBlock else x).chain c) := by
    intro x p
    cases p
    · exact Chain.Same.refl _
    · exact chains_chain (by simp) c
  unfold State.handleRaise
  exact (a _ _ (i _ (by dsimp only; split <;> simp))).trans (w _ _)

/-- Nor does a raise of a source with neither reaction C nor B. -/
theorem raise_chain {s : State} {src : Nat} (obj c : Nat) (inj : Bool) (h3 : bitAt (s.reactOf src) 3 = false)
    (h2 : bitAt (s.reactOf src) 2 = false) : (s.chain c).Same ((s.raise src obj inj).chain c) := by
  unfold State.raise
  dsimp only
  have k : ∀ x : State, x.flt.react = s.flt.react → x.chains = s.chains → ∀ b, (s.chain c).Same ((x.handleRaise src obj b).chain c) := fun x e r b =>
    (chains_chain r c).trans (handleRaise_chain obj c b (by simpa [State.reactOf, e] using h3) (by simpa [State.reactOf, e] using h2))
  repeat' split
  all_goals first
    | exact Chain.Same.refl _
    | (apply k <;> rfl)
    | exact chains_chain (by unfold State.repeatRaise; split <;> rfl) c

end Sys2Proof.Machine
end

