-- ==== Sys2Proof/Laws/FramesRingOps.lean ====
section
/-! SUPPORT. The fields of State that the operations of Machine/RingOps.lean leave alone. -/

set_option linter.unusedSimpArgs false
set_option linter.unusedVariables false

namespace Sys2Proof.Machine

@[simp] theorem State_pushCompl_keeps0 (s : State) (c : Compl) :
    (State.pushCompl s c).otp = s.otp ∧ (State.pushCompl s c).start = s.start ∧ (State.pushCompl s c).clk = s.clk ∧
    (State.pushCompl s c).win = s.win ∧ (State.pushCompl s c).cells = s.cells ∧ (State.pushCompl s c).views = s.views ∧
    (State.pushCompl s c).chains = s.chains ∧ (State.pushCompl s c).creg = s.creg ∧ (State.pushCompl s c).eng = s.eng ∧
    (State.pushCompl s c).doms = s.doms ∧ (State.pushCompl s c).lanes = s.lanes := by
  refine ⟨?_, ?_, ?_, ?_, ?_, ?_, ?_, ?_, ?_, ?_, ?_⟩ <;> (first | rfl | (simp (maxDischargeDepth := 12) [State.pushCompl]; done) | (unfold State.pushCompl; (try dsimp only); repeat' (first | rfl | (simp (maxDischargeDepth := 12); done) | split)))

@[simp] theorem State_pushCompl_keeps1 (s : State) (c : Compl) :
    (State.pushCompl s c).sense = s.sense ∧ (State.pushCompl s c).dscs = s.dscs ∧ (State.pushCompl s c).hkcs = s.hkcs ∧
    (State.pushCompl s c).tallies = s.tallies ∧ (State.pushCompl s c).ledger = s.ledger ∧ (State.pushCompl s c).tiles = s.tiles ∧
    (State.pushCompl s c).accts = s.accts ∧ (State.pushCompl s c).limits = s.limits ∧ (State.pushCompl s c).pace = s.pace ∧
    (State.pushCompl s c).therm = s.therm ∧ (State.pushCompl s c).diodes = s.diodes := by
  refine ⟨?_, ?_, ?_, ?_, ?_, ?_, ?_, ?_, ?_, ?_, ?_⟩ <;> (first | rfl | (simp (maxDischargeDepth := 12) [State.pushCompl]; done) | (unfold State.pushCompl; (try dsimp only); repeat' (first | rfl | (simp (maxDischargeDepth := 12); done) | split)))

@[simp] theorem State_pushCompl_keeps2 (s : State) (c : Compl) :
    (State.pushCompl s c).stopq = s.stopq ∧ (State.pushCompl s c).flt = s.flt ∧ (State.pushCompl s c).warden = s.warden ∧
    (State.pushCompl s c).policy = s.policy ∧ (State.pushCompl s c).smb = s.smb ∧ (State.pushCompl s c).avs = s.avs ∧
    (State.pushCompl s c).tap = s.tap ∧ (State.pushCompl s c).pub = s.pub ∧ (State.pushCompl s c).freeCtr = s.freeCtr ∧
    (State.pushCompl s c).pending = s.pending := by
  refine ⟨?_, ?_, ?_, ?_, ?_, ?_, ?_, ?_, ?_, ?_⟩ <;> (first | rfl | (simp (maxDischargeDepth := 12) [State.pushCompl]; done) | (unfold State.pushCompl; (try dsimp only); repeat' (first | rfl | (simp (maxDischargeDepth := 12); done) | split)))

@[simp] theorem State_complete_keeps0 (s : State) (x : CmdCtx) (opcode : Nat) (status : Nat) (data : Nat) :
    (State.complete s x opcode status data).otp = s.otp ∧ (State.complete s x opcode status data).start = s.start ∧
    (State.complete s x opcode status data).clk = s.clk ∧ (State.complete s x opcode status data).win = s.win ∧
    (State.complete s x opcode status data).cells = s.cells ∧ (State.complete s x opcode status data).views = s.views ∧
    (State.complete s x opcode status data).chains = s.chains ∧ (State.complete s x opcode status data).creg = s.creg ∧
    (State.complete s x opcode status data).eng = s.eng ∧ (State.complete s x opcode status data).doms = s.doms ∧
    (State.complete s x opcode status data).lanes = s.lanes := by
  refine ⟨?_, ?_, ?_, ?_, ?_, ?_, ?_, ?_, ?_, ?_, ?_⟩ <;> (first | rfl | (simp (maxDischargeDepth := 12) [State.complete]; done) | (unfold State.complete; (try dsimp only); repeat' (first | rfl | (simp (maxDischargeDepth := 12); done) | split)))

@[simp] theorem State_complete_keeps1 (s : State) (x : CmdCtx) (opcode : Nat) (status : Nat) (data : Nat) :
    (State.complete s x opcode status data).sense = s.sense ∧ (State.complete s x opcode status data).dscs = s.dscs ∧
    (State.complete s x opcode status data).hkcs = s.hkcs ∧ (State.complete s x opcode status data).tallies = s.tallies ∧
    (State.complete s x opcode status data).ledger = s.ledger ∧ (State.complete s x opcode status data).tiles = s.tiles ∧
    (State.complete s x opcode status data).accts = s.accts ∧ (State.complete s x opcode status data).limits = s.limits ∧
    (State.complete s x opcode status data).pace = s.pace ∧ (State.complete s x opcode status data).therm = s.therm ∧
    (State.complete s x opcode status data).diodes = s.diodes := by
  refine ⟨?_, ?_, ?_, ?_, ?_, ?_, ?_, ?_, ?_, ?_, ?_⟩ <;> (first | rfl | (simp (maxDischargeDepth := 12) [State.complete]; done) | (unfold State.complete; (try dsimp only); repeat' (first | rfl | (simp (maxDischargeDepth := 12); done) | split)))

@[simp] theorem State_complete_keeps2 (s : State) (x : CmdCtx) (opcode : Nat) (status : Nat) (data : Nat) :
    (State.complete s x opcode status data).stopq = s.stopq ∧ (State.complete s x opcode status data).flt = s.flt ∧
    (State.complete s x opcode status data).warden = s.warden ∧ (State.complete s x opcode status data).policy = s.policy ∧
    (State.complete s x opcode status data).smb = s.smb ∧ (State.complete s x opcode status data).avs = s.avs ∧
    (State.complete s x opcode status data).tap = s.tap ∧ (State.complete s x opcode status data).pub = s.pub ∧
    (State.complete s x opcode status data).freeCtr = s.freeCtr ∧ (State.complete s x opcode status data).pending = s.pending := by
  refine ⟨?_, ?_, ?_, ?_, ?_, ?_, ?_, ?_, ?_, ?_⟩ <;> (first | rfl | (simp (maxDischargeDepth := 12) [State.complete]; done) | (unfold State.complete; (try dsimp only); repeat' (first | rfl | (simp (maxDischargeDepth := 12); done) | split)))

@[simp] theorem State_addFlight_keeps0 (s : State) (x : CmdCtx) (opcode : Nat) (w : WaitFor) (data : Nat) :
    (State.addFlight s x opcode w data).otp = s.otp ∧ (State.addFlight s x opcode w data).start = s.start ∧
    (State.addFlight s x opcode w data).clk = s.clk ∧ (State.addFlight s x opcode w data).win = s.win ∧
    (State.addFlight s x opcode w data).cells = s.cells ∧ (State.addFlight s x opcode w data).views = s.views ∧
    (State.addFlight s x opcode w data).chains = s.chains ∧ (State.addFlight s x opcode w data).creg = s.creg ∧
    (State.addFlight s x opcode w data).eng = s.eng ∧ (State.addFlight s x opcode w data).doms = s.doms ∧
    (State.addFlight s x opcode w data).lanes = s.lanes := by
  refine ⟨?_, ?_, ?_, ?_, ?_, ?_, ?_, ?_, ?_, ?_, ?_⟩ <;> (first | rfl | (simp (maxDischargeDepth := 12) [State.addFlight]; done) | (unfold State.addFlight; (try dsimp only); repeat' (first | rfl | (simp (maxDischargeDepth := 12); done) | split)))

@[simp] theorem State_addFlight_keeps1 (s : State) (x : CmdCtx) (opcode : Nat) (w : WaitFor) (data : Nat) :
    (State.addFlight s x opcode w data).sense = s.sense ∧ (State.addFlight s x opcode w data).dscs = s.dscs ∧
    (State.addFlight s x opcode w data).hkcs = s.hkcs ∧ (State.addFlight s x opcode w data).tallies = s.tallies ∧
    (State.addFlight s x opcode w data).ledger = s.ledger ∧ (State.addFlight s x opcode w data).tiles = s.tiles ∧
    (State.addFlight s x opcode w data).accts = s.accts ∧ (State.addFlight s x opcode w data).limits = s.limits ∧
    (State.addFlight s x opcode w data).pace = s.pace ∧ (State.addFlight s x opcode w data).therm = s.therm ∧
    (State.addFlight s x opcode w data).diodes = s.diodes := by
  refine ⟨?_, ?_, ?_, ?_, ?_, ?_, ?_, ?_, ?_, ?_, ?_⟩ <;> (first | rfl | (simp (maxDischargeDepth := 12) [State.addFlight]; done) | (unfold State.addFlight; (try dsimp only); repeat' (first | rfl | (simp (maxDischargeDepth := 12); done) | split)))

@[simp] theorem State_addFlight_keeps2 (s : State) (x : CmdCtx) (opcode : Nat) (w : WaitFor) (data : Nat) :
    (State.addFlight s x opcode w data).stopq = s.stopq ∧ (State.addFlight s x opcode w data).flt = s.flt ∧
    (State.addFlight s x opcode w data).warden = s.warden ∧ (State.addFlight s x opcode w data).policy = s.policy ∧
    (State.addFlight s x opcode w data).smb = s.smb ∧ (State.addFlight s x opcode w data).avs = s.avs ∧
    (State.addFlight s x opcode w data).tap = s.tap ∧ (State.addFlight s x opcode w data).pub = s.pub ∧
    (State.addFlight s x opcode w data).freeCtr = s.freeCtr ∧ (State.addFlight s x opcode w data).pending = s.pending := by
  refine ⟨?_, ?_, ?_, ?_, ?_, ?_, ?_, ?_, ?_, ?_⟩ <;> (first | rfl | (simp (maxDischargeDepth := 12) [State.addFlight]; done) | (unfold State.addFlight; (try dsimp only); repeat' (first | rfl | (simp (maxDischargeDepth := 12); done) | split)))

@[simp] theorem State_flightData_keeps0 (s : State) (w : WaitFor) (data : Nat) :
    (State.flightData s w data).otp = s.otp ∧ (State.flightData s w data).start = s.start ∧ (State.flightData s w data).clk = s.clk ∧
    (State.flightData s w data).win = s.win ∧ (State.flightData s w data).cells = s.cells ∧ (State.flightData s w data).views = s.views ∧
    (State.flightData s w data).chains = s.chains ∧ (State.flightData s w data).creg = s.creg ∧ (State.flightData s w data).eng = s.eng ∧
    (State.flightData s w data).doms = s.doms ∧ (State.flightData s w data).lanes = s.lanes := by
  refine ⟨?_, ?_, ?_, ?_, ?_, ?_, ?_, ?_, ?_, ?_, ?_⟩ <;> (first | rfl | (simp (maxDischargeDepth := 12) [State.flightData]; done) | (unfold State.flightData; (try dsimp only); repeat' (first | rfl | (simp (maxDischargeDepth := 12); done) | split)))

@[simp] theorem State_flightData_keeps1 (s : State) (w : WaitFor) (data : Nat) :
    (State.flightData s w data).sense = s.sense ∧ (State.flightData s w data).dscs = s.dscs ∧ (State.flightData s w data).hkcs = s.hkcs ∧
    (State.flightData s w data).tallies = s.tallies ∧ (State.flightData s w data).ledger = s.ledger ∧
    (State.flightData s w data).tiles = s.tiles ∧ (State.flightData s w data).accts = s.accts ∧
    (State.flightData s w data).limits = s.limits ∧ (State.flightData s w data).pace = s.pace ∧
    (State.flightData s w data).therm = s.therm ∧ (State.flightData s w data).diodes = s.diodes := by
  refine ⟨?_, ?_, ?_, ?_, ?_, ?_, ?_, ?_, ?_, ?_, ?_⟩ <;> (first | rfl | (simp (maxDischargeDepth := 12) [State.flightData]; done) | (unfold State.flightData; (try dsimp only); repeat' (first | rfl | (simp (maxDischargeDepth := 12); done) | split)))

@[simp] theorem State_flightData_keeps2 (s : State) (w : WaitFor) (data : Nat) :
    (State.flightData s w data).stopq = s.stopq ∧ (State.flightData s w data).flt = s.flt ∧
    (State.flightData s w data).warden = s.warden ∧ (State.flightData s w data).policy = s.policy ∧
    (State.flightData s w data).smb = s.smb ∧ (State.flightData s w data).avs = s.avs ∧ (State.flightData s w data).tap = s.tap ∧
    (State.flightData s w data).pub = s.pub ∧ (State.flightData s w data).freeCtr = s.freeCtr ∧
    (State.flightData s w data).pending = s.pending := by
  refine ⟨?_, ?_, ?_, ?_, ?_, ?_, ?_, ?_, ?_, ?_⟩ <;> (first | rfl | (simp (maxDischargeDepth := 12) [State.flightData]; done) | (unfold State.flightData; (try dsimp only); repeat' (first | rfl | (simp (maxDischargeDepth := 12); done) | split)))

end Sys2Proof.Machine
end

