-- ==== Sys2Proof/Laws/FramesOrders.lean ====
section
/-! SUPPORT. The fields of State that the operations of Machine/Orders.lean leave alone. -/

set_option linter.unusedSimpArgs false
set_option linter.unusedVariables false

namespace Sys2Proof.Machine

@[simp] theorem State_queueOrder_keeps0 (s : State) (i : Nat) (op : Nat) (arg : Nat) (origin : Origin) :
    (State.queueOrder s i op arg origin).otp = s.otp ∧ (State.queueOrder s i op arg origin).start = s.start ∧
    (State.queueOrder s i op arg origin).clk = s.clk ∧ (State.queueOrder s i op arg origin).win = s.win ∧
    (State.queueOrder s i op arg origin).cells = s.cells ∧ (State.queueOrder s i op arg origin).views = s.views ∧
    (State.queueOrder s i op arg origin).creg = s.creg ∧ (State.queueOrder s i op arg origin).eng = s.eng ∧
    (State.queueOrder s i op arg origin).doms = s.doms ∧ (State.queueOrder s i op arg origin).lanes = s.lanes ∧
    (State.queueOrder s i op arg origin).sense = s.sense := by
  refine ⟨?_, ?_, ?_, ?_, ?_, ?_, ?_, ?_, ?_, ?_, ?_⟩ <;> (first | rfl | (simp (maxDischargeDepth := 12) [State.queueOrder]; done) | (unfold State.queueOrder; (try dsimp only); repeat' (first | rfl | (simp (maxDischargeDepth := 12); done) | split)))

@[simp] theorem State_queueOrder_keeps1 (s : State) (i : Nat) (op : Nat) (arg : Nat) (origin : Origin) :
    (State.queueOrder s i op arg origin).dscs = s.dscs ∧ (State.queueOrder s i op arg origin).hkcs = s.hkcs ∧
    (State.queueOrder s i op arg origin).tallies = s.tallies ∧ (State.queueOrder s i op arg origin).ledger = s.ledger ∧
    (State.queueOrder s i op arg origin).tiles = s.tiles ∧ (State.queueOrder s i op arg origin).accts = s.accts ∧
    (State.queueOrder s i op arg origin).limits = s.limits ∧ (State.queueOrder s i op arg origin).pace = s.pace ∧
    (State.queueOrder s i op arg origin).therm = s.therm ∧ (State.queueOrder s i op arg origin).diodes = s.diodes ∧
    (State.queueOrder s i op arg origin).stopq = s.stopq := by
  refine ⟨?_, ?_, ?_, ?_, ?_, ?_, ?_, ?_, ?_, ?_, ?_⟩ <;> (first | rfl | (simp (maxDischargeDepth := 12) [State.queueOrder]; done) | (unfold State.queueOrder; (try dsimp only); repeat' (first | rfl | (simp (maxDischargeDepth := 12); done) | split)))

@[simp] theorem State_queueOrder_keeps2 (s : State) (i : Nat) (op : Nat) (arg : Nat) (origin : Origin) :
    (State.queueOrder s i op arg origin).flt = s.flt ∧ (State.queueOrder s i op arg origin).warden = s.warden ∧
    (State.queueOrder s i op arg origin).policy = s.policy ∧ (State.queueOrder s i op arg origin).rings = s.rings ∧
    (State.queueOrder s i op arg origin).smb = s.smb ∧ (State.queueOrder s i op arg origin).avs = s.avs ∧
    (State.queueOrder s i op arg origin).tap = s.tap ∧ (State.queueOrder s i op arg origin).pub = s.pub ∧
    (State.queueOrder s i op arg origin).freeCtr = s.freeCtr ∧ (State.queueOrder s i op arg origin).pending = s.pending := by
  refine ⟨?_, ?_, ?_, ?_, ?_, ?_, ?_, ?_, ?_, ?_⟩ <;> (first | rfl | (simp (maxDischargeDepth := 12) [State.queueOrder]; done) | (unfold State.queueOrder; (try dsimp only); repeat' (first | rfl | (simp (maxDischargeDepth := 12); done) | split)))

@[simp] theorem State_queueRead_keeps0 (s : State) (i : Nat) (origin : Origin) :
    (State.queueRead s i origin).otp = s.otp ∧ (State.queueRead s i origin).start = s.start ∧ (State.queueRead s i origin).clk = s.clk ∧
    (State.queueRead s i origin).win = s.win ∧ (State.queueRead s i origin).cells = s.cells ∧
    (State.queueRead s i origin).views = s.views ∧ (State.queueRead s i origin).creg = s.creg ∧ (State.queueRead s i origin).eng = s.eng ∧
    (State.queueRead s i origin).doms = s.doms ∧ (State.queueRead s i origin).lanes = s.lanes ∧
    (State.queueRead s i origin).sense = s.sense := by
  refine ⟨?_, ?_, ?_, ?_, ?_, ?_, ?_, ?_, ?_, ?_, ?_⟩ <;> (first | rfl | (simp (maxDischargeDepth := 12) [State.queueRead]; done) | (unfold State.queueRead; (try dsimp only); repeat' (first | rfl | (simp (maxDischargeDepth := 12); done) | split)))

@[simp] theorem State_queueRead_keeps1 (s : State) (i : Nat) (origin : Origin) :
    (State.queueRead s i origin).dscs = s.dscs ∧ (State.queueRead s i origin).hkcs = s.hkcs ∧
    (State.queueRead s i origin).tallies = s.tallies ∧ (State.queueRead s i origin).ledger = s.ledger ∧
    (State.queueRead s i origin).tiles = s.tiles ∧ (State.queueRead s i origin).accts = s.accts ∧
    (State.queueRead s i origin).limits = s.limits ∧ (State.queueRead s i origin).pace = s.pace ∧
    (State.queueRead s i origin).therm = s.therm ∧ (State.queueRead s i origin).diodes = s.diodes ∧
    (State.queueRead s i origin).stopq = s.stopq := by
  refine ⟨?_, ?_, ?_, ?_, ?_, ?_, ?_, ?_, ?_, ?_, ?_⟩ <;> (first | rfl | (simp (maxDischargeDepth := 12) [State.queueRead]; done) | (unfold State.queueRead; (try dsimp only); repeat' (first | rfl | (simp (maxDischargeDepth := 12); done) | split)))

@[simp] theorem State_queueRead_keeps2 (s : State) (i : Nat) (origin : Origin) :
    (State.queueRead s i origin).flt = s.flt ∧ (State.queueRead s i origin).warden = s.warden ∧
    (State.queueRead s i origin).policy = s.policy ∧ (State.queueRead s i origin).rings = s.rings ∧
    (State.queueRead s i origin).smb = s.smb ∧ (State.queueRead s i origin).avs = s.avs ∧ (State.queueRead s i origin).tap = s.tap ∧
    (State.queueRead s i origin).pub = s.pub ∧ (State.queueRead s i origin).freeCtr = s.freeCtr ∧
    (State.queueRead s i origin).pending = s.pending := by
  refine ⟨?_, ?_, ?_, ?_, ?_, ?_, ?_, ?_, ?_, ?_⟩ <;> (first | rfl | (simp (maxDischargeDepth := 12) [State.queueRead]; done) | (unfold State.queueRead; (try dsimp only); repeat' (first | rfl | (simp (maxDischargeDepth := 12); done) | split)))

@[simp] theorem State_queueTrim_keeps0 (s : State) (i : Nat) :
    (State.queueTrim s i).otp = s.otp ∧ (State.queueTrim s i).start = s.start ∧ (State.queueTrim s i).clk = s.clk ∧
    (State.queueTrim s i).win = s.win ∧ (State.queueTrim s i).cells = s.cells ∧ (State.queueTrim s i).views = s.views ∧
    (State.queueTrim s i).creg = s.creg ∧ (State.queueTrim s i).eng = s.eng ∧ (State.queueTrim s i).doms = s.doms ∧
    (State.queueTrim s i).lanes = s.lanes ∧ (State.queueTrim s i).sense = s.sense := by
  refine ⟨?_, ?_, ?_, ?_, ?_, ?_, ?_, ?_, ?_, ?_, ?_⟩ <;> (first | rfl | (simp (maxDischargeDepth := 12) [State.queueTrim]; done) | (unfold State.queueTrim; (try dsimp only); repeat' (first | rfl | (simp (maxDischargeDepth := 12); done) | split)))

@[simp] theorem State_queueTrim_keeps1 (s : State) (i : Nat) :
    (State.queueTrim s i).dscs = s.dscs ∧ (State.queueTrim s i).hkcs = s.hkcs ∧ (State.queueTrim s i).tallies = s.tallies ∧
    (State.queueTrim s i).ledger = s.ledger ∧ (State.queueTrim s i).tiles = s.tiles ∧ (State.queueTrim s i).accts = s.accts ∧
    (State.queueTrim s i).limits = s.limits ∧ (State.queueTrim s i).pace = s.pace ∧ (State.queueTrim s i).therm = s.therm ∧
    (State.queueTrim s i).diodes = s.diodes ∧ (State.queueTrim s i).stopq = s.stopq := by
  refine ⟨?_, ?_, ?_, ?_, ?_, ?_, ?_, ?_, ?_, ?_, ?_⟩ <;> (first | rfl | (simp (maxDischargeDepth := 12) [State.queueTrim]; done) | (unfold State.queueTrim; (try dsimp only); repeat' (first | rfl | (simp (maxDischargeDepth := 12); done) | split)))

@[simp] theorem State_queueTrim_keeps2 (s : State) (i : Nat) :
    (State.queueTrim s i).flt = s.flt ∧ (State.queueTrim s i).warden = s.warden ∧ (State.queueTrim s i).policy = s.policy ∧
    (State.queueTrim s i).rings = s.rings ∧ (State.queueTrim s i).smb = s.smb ∧ (State.queueTrim s i).avs = s.avs ∧
    (State.queueTrim s i).tap = s.tap ∧ (State.queueTrim s i).pub = s.pub ∧ (State.queueTrim s i).freeCtr = s.freeCtr ∧
    (State.queueTrim s i).pending = s.pending := by
  refine ⟨?_, ?_, ?_, ?_, ?_, ?_, ?_, ?_, ?_, ?_⟩ <;> (first | rfl | (simp (maxDischargeDepth := 12) [State.queueTrim]; done) | (unfold State.queueTrim; (try dsimp only); repeat' (first | rfl | (simp (maxDischargeDepth := 12); done) | split)))

@[simp] theorem State_loanAccept_keeps0 (s : State) (i : Nat) (recalling : Bool) (cover : Bool) (origin : Origin) :
    (State.loanAccept s i recalling cover origin).otp = s.otp ∧ (State.loanAccept s i recalling cover origin).start = s.start ∧
    (State.loanAccept s i recalling cover origin).clk = s.clk ∧ (State.loanAccept s i recalling cover origin).win = s.win ∧
    (State.loanAccept s i recalling cover origin).cells = s.cells ∧ (State.loanAccept s i recalling cover origin).views = s.views ∧
    (State.loanAccept s i recalling cover origin).creg = s.creg ∧ (State.loanAccept s i recalling cover origin).eng = s.eng ∧
    (State.loanAccept s i recalling cover origin).doms = s.doms ∧ (State.loanAccept s i recalling cover origin).lanes = s.lanes ∧
    (State.loanAccept s i recalling cover origin).sense = s.sense := by
  refine ⟨?_, ?_, ?_, ?_, ?_, ?_, ?_, ?_, ?_, ?_, ?_⟩ <;> (first | rfl | (simp (maxDischargeDepth := 12) [State.loanAccept]; done) | (unfold State.loanAccept; (try dsimp only); repeat' (first | rfl | (simp (maxDischargeDepth := 12); done) | split)))

@[simp] theorem State_loanAccept_keeps1 (s : State) (i : Nat) (recalling : Bool) (cover : Bool) (origin : Origin) :
    (State.loanAccept s i recalling cover origin).dscs = s.dscs ∧ (State.loanAccept s i recalling cover origin).hkcs = s.hkcs ∧
    (State.loanAccept s i recalling cover origin).tallies = s.tallies ∧ (State.loanAccept s i recalling cover origin).ledger = s.ledger ∧
    (State.loanAccept s i recalling cover origin).tiles = s.tiles ∧ (State.loanAccept s i recalling cover origin).accts = s.accts ∧
    (State.loanAccept s i recalling cover origin).limits = s.limits ∧ (State.loanAccept s i recalling cover origin).pace = s.pace ∧
    (State.loanAccept s i recalling cover origin).therm = s.therm ∧ (State.loanAccept s i recalling cover origin).diodes = s.diodes ∧
    (State.loanAccept s i recalling cover origin).stopq = s.stopq := by
  refine ⟨?_, ?_, ?_, ?_, ?_, ?_, ?_, ?_, ?_, ?_, ?_⟩ <;> (first | rfl | (simp (maxDischargeDepth := 12) [State.loanAccept]; done) | (unfold State.loanAccept; (try dsimp only); repeat' (first | rfl | (simp (maxDischargeDepth := 12); done) | split)))

@[simp] theorem State_loanAccept_keeps2 (s : State) (i : Nat) (recalling : Bool) (cover : Bool) (origin : Origin) :
    (State.loanAccept s i recalling cover origin).flt = s.flt ∧ (State.loanAccept s i recalling cover origin).warden = s.warden ∧
    (State.loanAccept s i recalling cover origin).policy = s.policy ∧ (State.loanAccept s i recalling cover origin).rings = s.rings ∧
    (State.loanAccept s i recalling cover origin).smb = s.smb ∧ (State.loanAccept s i recalling cover origin).avs = s.avs ∧
    (State.loanAccept s i recalling cover origin).tap = s.tap ∧ (State.loanAccept s i recalling cover origin).pub = s.pub ∧
    (State.loanAccept s i recalling cover origin).freeCtr = s.freeCtr ∧ (State.loanAccept s i recalling cover origin).pending = s.pending := by
  refine ⟨?_, ?_, ?_, ?_, ?_, ?_, ?_, ?_, ?_, ?_⟩ <;> (first | rfl | (simp (maxDischargeDepth := 12) [State.loanAccept]; done) | (unfold State.loanAccept; (try dsimp only); repeat' (first | rfl | (simp (maxDischargeDepth := 12); done) | split)))

@[simp] theorem State_updLoan_keeps0 (s : State) (c : Nat) (f : Loan → Loan) :
    (State.updLoan s c f).otp = s.otp ∧ (State.updLoan s c f).start = s.start ∧ (State.updLoan s c f).clk = s.clk ∧
    (State.updLoan s c f).win = s.win ∧ (State.updLoan s c f).cells = s.cells ∧ (State.updLoan s c f).views = s.views ∧
    (State.updLoan s c f).creg = s.creg ∧ (State.updLoan s c f).eng = s.eng ∧ (State.updLoan s c f).doms = s.doms ∧
    (State.updLoan s c f).lanes = s.lanes ∧ (State.updLoan s c f).sense = s.sense := by
  refine ⟨?_, ?_, ?_, ?_, ?_, ?_, ?_, ?_, ?_, ?_, ?_⟩ <;> (first | rfl | (simp (maxDischargeDepth := 12) [State.updLoan]; done) | (unfold State.updLoan; (try dsimp only); repeat' (first | rfl | (simp (maxDischargeDepth := 12); done) | split)))

@[simp] theorem State_updLoan_keeps1 (s : State) (c : Nat) (f : Loan → Loan) :
    (State.updLoan s c f).dscs = s.dscs ∧ (State.updLoan s c f).hkcs = s.hkcs ∧ (State.updLoan s c f).tallies = s.tallies ∧
    (State.updLoan s c f).ledger = s.ledger ∧ (State.updLoan s c f).tiles = s.tiles ∧ (State.updLoan s c f).accts = s.accts ∧
    (State.updLoan s c f).limits = s.limits ∧ (State.updLoan s c f).pace = s.pace ∧ (State.updLoan s c f).therm = s.therm ∧
    (State.updLoan s c f).diodes = s.diodes ∧ (State.updLoan s c f).stopq = s.stopq := by
  refine ⟨?_, ?_, ?_, ?_, ?_, ?_, ?_, ?_, ?_, ?_, ?_⟩ <;> (first | rfl | (simp (maxDischargeDepth := 12) [State.updLoan]; done) | (unfold State.updLoan; (try dsimp only); repeat' (first | rfl | (simp (maxDischargeDepth := 12); done) | split)))

@[simp] theorem State_updLoan_keeps2 (s : State) (c : Nat) (f : Loan → Loan) :
    (State.updLoan s c f).flt = s.flt ∧ (State.updLoan s c f).warden = s.warden ∧ (State.updLoan s c f).policy = s.policy ∧
    (State.updLoan s c f).rings = s.rings ∧ (State.updLoan s c f).smb = s.smb ∧ (State.updLoan s c f).avs = s.avs ∧
    (State.updLoan s c f).tap = s.tap ∧ (State.updLoan s c f).pub = s.pub ∧ (State.updLoan s c f).freeCtr = s.freeCtr ∧
    (State.updLoan s c f).pending = s.pending := by
  refine ⟨?_, ?_, ?_, ?_, ?_, ?_, ?_, ?_, ?_, ?_⟩ <;> (first | rfl | (simp (maxDischargeDepth := 12) [State.updLoan]; done) | (unfold State.updLoan; (try dsimp only); repeat' (first | rfl | (simp (maxDischargeDepth := 12); done) | split)))

@[simp] theorem State_loanBegin_keeps0 (s : State) (c : Nat) (l : Loan) :
    (State.loanBegin s c l).otp = s.otp ∧ (State.loanBegin s c l).start = s.start ∧ (State.loanBegin s c l).clk = s.clk ∧
    (State.loanBegin s c l).win = s.win ∧ (State.loanBegin s c l).cells = s.cells ∧ (State.loanBegin s c l).creg = s.creg ∧
    (State.loanBegin s c l).eng = s.eng ∧ (State.loanBegin s c l).doms = s.doms ∧ (State.loanBegin s c l).lanes = s.lanes ∧
    (State.loanBegin s c l).sense = s.sense ∧ (State.loanBegin s c l).dscs = s.dscs := by
  refine ⟨?_, ?_, ?_, ?_, ?_, ?_, ?_, ?_, ?_, ?_, ?_⟩ <;> (first | rfl | (simp (maxDischargeDepth := 12) [State.loanBegin]; done) | (unfold State.loanBegin; (try dsimp only); repeat' (first | rfl | (simp (maxDischargeDepth := 12); done) | split)))

@[simp] theorem State_loanBegin_keeps1 (s : State) (c : Nat) (l : Loan) :
    (State.loanBegin s c l).hkcs = s.hkcs ∧ (State.loanBegin s c l).tallies = s.tallies ∧ (State.loanBegin s c l).ledger = s.ledger ∧
    (State.loanBegin s c l).tiles = s.tiles ∧ (State.loanBegin s c l).accts = s.accts ∧ (State.loanBegin s c l).limits = s.limits ∧
    (State.loanBegin s c l).pace = s.pace ∧ (State.loanBegin s c l).therm = s.therm ∧ (State.loanBegin s c l).diodes = s.diodes ∧
    (State.loanBegin s c l).stopq = s.stopq ∧ (State.loanBegin s c l).flt = s.flt := by
  refine ⟨?_, ?_, ?_, ?_, ?_, ?_, ?_, ?_, ?_, ?_, ?_⟩ <;> (first | rfl | (simp (maxDischargeDepth := 12) [State.loanBegin]; done) | (unfold State.loanBegin; (try dsimp only); repeat' (first | rfl | (simp (maxDischargeDepth := 12); done) | split)))

@[simp] theorem State_loanBegin_keeps2 (s : State) (c : Nat) (l : Loan) :
    (State.loanBegin s c l).warden = s.warden ∧ (State.loanBegin s c l).policy = s.policy ∧ (State.loanBegin s c l).rings = s.rings ∧
    (State.loanBegin s c l).smb = s.smb ∧ (State.loanBegin s c l).avs = s.avs ∧ (State.loanBegin s c l).tap = s.tap ∧
    (State.loanBegin s c l).pub = s.pub ∧ (State.loanBegin s c l).freeCtr = s.freeCtr ∧ (State.loanBegin s c l).pending = s.pending := by
  refine ⟨?_, ?_, ?_, ?_, ?_, ?_, ?_, ?_, ?_⟩ <;> (first | rfl | (simp (maxDischargeDepth := 12) [State.loanBegin]; done) | (unfold State.loanBegin; (try dsimp only); repeat' (first | rfl | (simp (maxDischargeDepth := 12); done) | split)))

@[simp] theorem State_loanAbandonFar_keeps0 (s : State) (c : Nat) (l : Loan) :
    (State.loanAbandonFar s c l).otp = s.otp ∧ (State.loanAbandonFar s c l).start = s.start ∧ (State.loanAbandonFar s c l).clk = s.clk ∧
    (State.loanAbandonFar s c l).win = s.win ∧ (State.loanAbandonFar s c l).cells = s.cells ∧
    (State.loanAbandonFar s c l).views = s.views ∧ (State.loanAbandonFar s c l).creg = s.creg ∧ (State.loanAbandonFar s c l).eng = s.eng ∧
    (State.loanAbandonFar s c l).doms = s.doms ∧ (State.loanAbandonFar s c l).lanes = s.lanes ∧
    (State.loanAbandonFar s c l).sense = s.sense := by
  refine ⟨?_, ?_, ?_, ?_, ?_, ?_, ?_, ?_, ?_, ?_, ?_⟩ <;> (first | rfl | (simp (maxDischargeDepth := 12) [State.loanAbandonFar]; done) | (unfold State.loanAbandonFar; (try dsimp only); repeat' (first | rfl | (simp (maxDischargeDepth := 12); done) | split)))

@[simp] theorem State_loanAbandonFar_keeps1 (s : State) (c : Nat) (l : Loan) :
    (State.loanAbandonFar s c l).dscs = s.dscs ∧ (State.loanAbandonFar s c l).hkcs = s.hkcs ∧
    (State.loanAbandonFar s c l).tallies = s.tallies ∧ (State.loanAbandonFar s c l).ledger = s.ledger ∧
    (State.loanAbandonFar s c l).tiles = s.tiles ∧ (State.loanAbandonFar s c l).accts = s.accts ∧
    (State.loanAbandonFar s c l).limits = s.limits ∧ (State.loanAbandonFar s c l).pace = s.pace ∧
    (State.loanAbandonFar s c l).therm = s.therm ∧ (State.loanAbandonFar s c l).diodes = s.diodes ∧
    (State.loanAbandonFar s c l).stopq = s.stopq := by
  refine ⟨?_, ?_, ?_, ?_, ?_, ?_, ?_, ?_, ?_, ?_, ?_⟩ <;> (first | rfl | (simp (maxDischargeDepth := 12) [State.loanAbandonFar]; done) | (unfold State.loanAbandonFar; (try dsimp only); repeat' (first | rfl | (simp (maxDischargeDepth := 12); done) | split)))

@[simp] theorem State_loanAbandonFar_keeps2 (s : State) (c : Nat) (l : Loan) :
    (State.loanAbandonFar s c l).flt = s.flt ∧ (State.loanAbandonFar s c l).warden = s.warden ∧
    (State.loanAbandonFar s c l).policy = s.policy ∧ (State.loanAbandonFar s c l).rings = s.rings ∧
    (State.loanAbandonFar s c l).smb = s.smb ∧ (State.loanAbandonFar s c l).avs = s.avs ∧ (State.loanAbandonFar s c l).tap = s.tap ∧
    (State.loanAbandonFar s c l).pub = s.pub ∧ (State.loanAbandonFar s c l).freeCtr = s.freeCtr ∧
    (State.loanAbandonFar s c l).pending = s.pending := by
  refine ⟨?_, ?_, ?_, ?_, ?_, ?_, ?_, ?_, ?_, ?_⟩ <;> (first | rfl | (simp (maxDischargeDepth := 12) [State.loanAbandonFar]; done) | (unfold State.loanAbandonFar; (try dsimp only); repeat' (first | rfl | (simp (maxDischargeDepth := 12); done) | split)))

@[simp] theorem State_loanJoin_keeps0 (s : State) (c : Nat) (l : Loan) :
    (State.loanJoin s c l).otp = s.otp ∧ (State.loanJoin s c l).start = s.start ∧ (State.loanJoin s c l).clk = s.clk ∧
    (State.loanJoin s c l).win = s.win ∧ (State.loanJoin s c l).cells = s.cells ∧ (State.loanJoin s c l).creg = s.creg ∧
    (State.loanJoin s c l).eng = s.eng ∧ (State.loanJoin s c l).doms = s.doms ∧ (State.loanJoin s c l).lanes = s.lanes ∧
    (State.loanJoin s c l).sense = s.sense ∧ (State.loanJoin s c l).dscs = s.dscs := by
  refine ⟨?_, ?_, ?_, ?_, ?_, ?_, ?_, ?_, ?_, ?_, ?_⟩ <;> (first | rfl | (simp (maxDischargeDepth := 12) [State.loanJoin]; done) | (unfold State.loanJoin; (try dsimp only); repeat' (first | rfl | (simp (maxDischargeDepth := 12); done) | split)))

@[simp] theorem State_loanJoin_keeps1 (s : State) (c : Nat) (l : Loan) :
    (State.loanJoin s c l).hkcs = s.hkcs ∧ (State.loanJoin s c l).tallies = s.tallies ∧ (State.loanJoin s c l).ledger = s.ledger ∧
    (State.loanJoin s c l).tiles = s.tiles ∧ (State.loanJoin s c l).accts = s.accts ∧ (State.loanJoin s c l).limits = s.limits ∧
    (State.loanJoin s c l).pace = s.pace ∧ (State.loanJoin s c l).therm = s.therm ∧ (State.loanJoin s c l).diodes = s.diodes ∧
    (State.loanJoin s c l).stopq = s.stopq ∧ (State.loanJoin s c l).flt = s.flt := by
  refine ⟨?_, ?_, ?_, ?_, ?_, ?_, ?_, ?_, ?_, ?_, ?_⟩ <;> (first | rfl | (simp (maxDischargeDepth := 12) [State.loanJoin]; done) | (unfold State.loanJoin; (try dsimp only); repeat' (first | rfl | (simp (maxDischargeDepth := 12); done) | split)))

@[simp] theorem State_loanJoin_keeps2 (s : State) (c : Nat) (l : Loan) :
    (State.loanJoin s c l).warden = s.warden ∧ (State.loanJoin s c l).policy = s.policy ∧ (State.loanJoin s c l).rings = s.rings ∧
    (State.loanJoin s c l).smb = s.smb ∧ (State.loanJoin s c l).avs = s.avs ∧ (State.loanJoin s c l).tap = s.tap ∧
    (State.loanJoin s c l).pub = s.pub ∧ (State.loanJoin s c l).freeCtr = s.freeCtr ∧ (State.loanJoin s c l).pending = s.pending := by
  refine ⟨?_, ?_, ?_, ?_, ?_, ?_, ?_, ?_, ?_⟩ <;> (first | rfl | (simp (maxDischargeDepth := 12) [State.loanJoin]; done) | (unfold State.loanJoin; (try dsimp only); repeat' (first | rfl | (simp (maxDischargeDepth := 12); done) | split)))

@[simp] theorem State_loanCommit_keeps0 (s : State) (c : Nat) :
    (State.loanCommit s c).otp = s.otp ∧ (State.loanCommit s c).start = s.start ∧ (State.loanCommit s c).clk = s.clk ∧
    (State.loanCommit s c).win = s.win ∧ (State.loanCommit s c).cells = s.cells ∧ (State.loanCommit s c).views = s.views ∧
    (State.loanCommit s c).creg = s.creg ∧ (State.loanCommit s c).eng = s.eng ∧ (State.loanCommit s c).doms = s.doms ∧
    (State.loanCommit s c).lanes = s.lanes ∧ (State.loanCommit s c).sense = s.sense := by
  refine ⟨?_, ?_, ?_, ?_, ?_, ?_, ?_, ?_, ?_, ?_, ?_⟩ <;> (first | rfl | (simp (maxDischargeDepth := 12) [State.loanCommit]; done) | (unfold State.loanCommit; (try dsimp only); repeat' (first | rfl | (simp (maxDischargeDepth := 12); done) | split)))

@[simp] theorem State_loanCommit_keeps1 (s : State) (c : Nat) :
    (State.loanCommit s c).dscs = s.dscs ∧ (State.loanCommit s c).hkcs = s.hkcs ∧ (State.loanCommit s c).tallies = s.tallies ∧
    (State.loanCommit s c).ledger = s.ledger ∧ (State.loanCommit s c).tiles = s.tiles ∧ (State.loanCommit s c).accts = s.accts ∧
    (State.loanCommit s c).limits = s.limits ∧ (State.loanCommit s c).pace = s.pace ∧ (State.loanCommit s c).therm = s.therm ∧
    (State.loanCommit s c).diodes = s.diodes ∧ (State.loanCommit s c).stopq = s.stopq := by
  refine ⟨?_, ?_, ?_, ?_, ?_, ?_, ?_, ?_, ?_, ?_, ?_⟩ <;> (first | rfl | (simp (maxDischargeDepth := 12) [State.loanCommit]; done) | (unfold State.loanCommit; (try dsimp only); repeat' (first | rfl | (simp (maxDischargeDepth := 12); done) | split)))

@[simp] theorem State_loanCommit_keeps2 (s : State) (c : Nat) :
    (State.loanCommit s c).flt = s.flt ∧ (State.loanCommit s c).warden = s.warden ∧ (State.loanCommit s c).policy = s.policy ∧
    (State.loanCommit s c).rings = s.rings ∧ (State.loanCommit s c).smb = s.smb ∧ (State.loanCommit s c).avs = s.avs ∧
    (State.loanCommit s c).tap = s.tap ∧ (State.loanCommit s c).pub = s.pub ∧ (State.loanCommit s c).freeCtr = s.freeCtr ∧
    (State.loanCommit s c).pending = s.pending := by
  refine ⟨?_, ?_, ?_, ?_, ?_, ?_, ?_, ?_, ?_, ?_⟩ <;> (first | rfl | (simp (maxDischargeDepth := 12) [State.loanCommit]; done) | (unfold State.loanCommit; (try dsimp only); repeat' (first | rfl | (simp (maxDischargeDepth := 12); done) | split)))

@[simp] theorem State_offOrder_keeps0 (s : State) (d : Nat) :
    (State.offOrder s d).otp = s.otp ∧ (State.offOrder s d).start = s.start ∧ (State.offOrder s d).clk = s.clk ∧
    (State.offOrder s d).win = s.win ∧ (State.offOrder s d).cells = s.cells ∧ (State.offOrder s d).views = s.views ∧
    (State.offOrder s d).chains = s.chains ∧ (State.offOrder s d).creg = s.creg ∧ (State.offOrder s d).eng = s.eng ∧
    (State.offOrder s d).lanes = s.lanes ∧ (State.offOrder s d).sense = s.sense := by
  refine ⟨?_, ?_, ?_, ?_, ?_, ?_, ?_, ?_, ?_, ?_, ?_⟩ <;> (first | rfl | (simp (maxDischargeDepth := 12) [State.offOrder]; done) | (unfold State.offOrder; (try dsimp only); repeat' (first | rfl | (simp (maxDischargeDepth := 12); done) | split)))

@[simp] theorem State_offOrder_keeps1 (s : State) (d : Nat) :
    (State.offOrder s d).dscs = s.dscs ∧ (State.offOrder s d).hkcs = s.hkcs ∧ (State.offOrder s d).tallies = s.tallies ∧
    (State.offOrder s d).ledger = s.ledger ∧ (State.offOrder s d).tiles = s.tiles ∧ (State.offOrder s d).accts = s.accts ∧
    (State.offOrder s d).limits = s.limits ∧ (State.offOrder s d).pace = s.pace ∧ (State.offOrder s d).therm = s.therm ∧
    (State.offOrder s d).diodes = s.diodes ∧ (State.offOrder s d).stopq = s.stopq := by
  refine ⟨?_, ?_, ?_, ?_, ?_, ?_, ?_, ?_, ?_, ?_, ?_⟩ <;> (first | rfl | (simp (maxDischargeDepth := 12) [State.offOrder]; done) | (unfold State.offOrder; (try dsimp only); repeat' (first | rfl | (simp (maxDischargeDepth := 12); done) | split)))

@[simp] theorem State_offOrder_keeps2 (s : State) (d : Nat) :
    (State.offOrder s d).flt = s.flt ∧ (State.offOrder s d).warden = s.warden ∧ (State.offOrder s d).policy = s.policy ∧
    (State.offOrder s d).rings = s.rings ∧ (State.offOrder s d).smb = s.smb ∧ (State.offOrder s d).avs = s.avs ∧
    (State.offOrder s d).tap = s.tap ∧ (State.offOrder s d).pub = s.pub ∧ (State.offOrder s d).freeCtr = s.freeCtr ∧
    (State.offOrder s d).pending = s.pending := by
  refine ⟨?_, ?_, ?_, ?_, ?_, ?_, ?_, ?_, ?_, ?_⟩ <;> (first | rfl | (simp (maxDischargeDepth := 12) [State.offOrder]; done) | (unfold State.offOrder; (try dsimp only); repeat' (first | rfl | (simp (maxDischargeDepth := 12); done) | split)))

@[simp] theorem State_updAudit_keeps0 (s : State) (i : Nat) (f : CAudit → CAudit) :
    (State.updAudit s i f).otp = s.otp ∧ (State.updAudit s i f).start = s.start ∧ (State.updAudit s i f).clk = s.clk ∧
    (State.updAudit s i f).win = s.win ∧ (State.updAudit s i f).cells = s.cells ∧ (State.updAudit s i f).views = s.views ∧
    (State.updAudit s i f).chains = s.chains ∧ (State.updAudit s i f).creg = s.creg ∧ (State.updAudit s i f).eng = s.eng ∧
    (State.updAudit s i f).doms = s.doms ∧ (State.updAudit s i f).lanes = s.lanes := by
  refine ⟨?_, ?_, ?_, ?_, ?_, ?_, ?_, ?_, ?_, ?_, ?_⟩ <;> (first | rfl | (simp (maxDischargeDepth := 12) [State.updAudit]; done) | (unfold State.updAudit; (try dsimp only); repeat' (first | rfl | (simp (maxDischargeDepth := 12); done) | split)))

@[simp] theorem State_updAudit_keeps1 (s : State) (i : Nat) (f : CAudit → CAudit) :
    (State.updAudit s i f).sense = s.sense ∧ (State.updAudit s i f).dscs = s.dscs ∧ (State.updAudit s i f).hkcs = s.hkcs ∧
    (State.updAudit s i f).tallies = s.tallies ∧ (State.updAudit s i f).ledger = s.ledger ∧ (State.updAudit s i f).tiles = s.tiles ∧
    (State.updAudit s i f).accts = s.accts ∧ (State.updAudit s i f).limits = s.limits ∧ (State.updAudit s i f).pace = s.pace ∧
    (State.updAudit s i f).therm = s.therm ∧ (State.updAudit s i f).diodes = s.diodes := by
  refine ⟨?_, ?_, ?_, ?_, ?_, ?_, ?_, ?_, ?_, ?_, ?_⟩ <;> (first | rfl | (simp (maxDischargeDepth := 12) [State.updAudit]; done) | (unfold State.updAudit; (try dsimp only); repeat' (first | rfl | (simp (maxDischargeDepth := 12); done) | split)))

@[simp] theorem State_updAudit_keeps2 (s : State) (i : Nat) (f : CAudit → CAudit) :
    (State.updAudit s i f).stopq = s.stopq ∧ (State.updAudit s i f).warden = s.warden ∧ (State.updAudit s i f).policy = s.policy ∧
    (State.updAudit s i f).rings = s.rings ∧ (State.updAudit s i f).smb = s.smb ∧ (State.updAudit s i f).avs = s.avs ∧
    (State.updAudit s i f).tap = s.tap ∧ (State.updAudit s i f).pub = s.pub ∧ (State.updAudit s i f).freeCtr = s.freeCtr ∧
    (State.updAudit s i f).pending = s.pending := by
  refine ⟨?_, ?_, ?_, ?_, ?_, ?_, ?_, ?_, ?_, ?_⟩ <;> (first | rfl | (simp (maxDischargeDepth := 12) [State.updAudit]; done) | (unfold State.updAudit; (try dsimp only); repeat' (first | rfl | (simp (maxDischargeDepth := 12); done) | split)))

@[simp] theorem State_dropAudit_keeps0 (s : State) (i : Nat) :
    (State.dropAudit s i).otp = s.otp ∧ (State.dropAudit s i).start = s.start ∧ (State.dropAudit s i).clk = s.clk ∧
    (State.dropAudit s i).win = s.win ∧ (State.dropAudit s i).cells = s.cells ∧ (State.dropAudit s i).views = s.views ∧
    (State.dropAudit s i).chains = s.chains ∧ (State.dropAudit s i).creg = s.creg ∧ (State.dropAudit s i).eng = s.eng ∧
    (State.dropAudit s i).doms = s.doms ∧ (State.dropAudit s i).lanes = s.lanes := by
  refine ⟨?_, ?_, ?_, ?_, ?_, ?_, ?_, ?_, ?_, ?_, ?_⟩ <;> (first | rfl | (simp (maxDischargeDepth := 12) [State.dropAudit]; done) | (unfold State.dropAudit; (try dsimp only); repeat' (first | rfl | (simp (maxDischargeDepth := 12); done) | split)))

@[simp] theorem State_dropAudit_keeps1 (s : State) (i : Nat) :
    (State.dropAudit s i).sense = s.sense ∧ (State.dropAudit s i).dscs = s.dscs ∧ (State.dropAudit s i).hkcs = s.hkcs ∧
    (State.dropAudit s i).tallies = s.tallies ∧ (State.dropAudit s i).ledger = s.ledger ∧ (State.dropAudit s i).tiles = s.tiles ∧
    (State.dropAudit s i).accts = s.accts ∧ (State.dropAudit s i).limits = s.limits ∧ (State.dropAudit s i).pace = s.pace ∧
    (State.dropAudit s i).therm = s.therm ∧ (State.dropAudit s i).diodes = s.diodes := by
  refine ⟨?_, ?_, ?_, ?_, ?_, ?_, ?_, ?_, ?_, ?_, ?_⟩ <;> (first | rfl | (simp (maxDischargeDepth := 12) [State.dropAudit]; done) | (unfold State.dropAudit; (try dsimp only); repeat' (first | rfl | (simp (maxDischargeDepth := 12); done) | split)))

@[simp] theorem State_dropAudit_keeps2 (s : State) (i : Nat) :
    (State.dropAudit s i).stopq = s.stopq ∧ (State.dropAudit s i).warden = s.warden ∧ (State.dropAudit s i).policy = s.policy ∧
    (State.dropAudit s i).rings = s.rings ∧ (State.dropAudit s i).smb = s.smb ∧ (State.dropAudit s i).avs = s.avs ∧
    (State.dropAudit s i).tap = s.tap ∧ (State.dropAudit s i).pub = s.pub ∧ (State.dropAudit s i).freeCtr = s.freeCtr ∧
    (State.dropAudit s i).pending = s.pending := by
  refine ⟨?_, ?_, ?_, ?_, ?_, ?_, ?_, ?_, ?_, ?_⟩ <;> (first | rfl | (simp (maxDischargeDepth := 12) [State.dropAudit]; done) | (unfold State.dropAudit; (try dsimp only); repeat' (first | rfl | (simp (maxDischargeDepth := 12); done) | split)))

@[simp] theorem State_auditTest_keeps0 (s : State) (i : Nat) :
    (State.auditTest s i).otp = s.otp ∧ (State.auditTest s i).start = s.start ∧ (State.auditTest s i).clk = s.clk ∧
    (State.auditTest s i).win = s.win ∧ (State.auditTest s i).cells = s.cells ∧ (State.auditTest s i).creg = s.creg ∧
    (State.auditTest s i).eng = s.eng ∧ (State.auditTest s i).doms = s.doms ∧ (State.auditTest s i).lanes = s.lanes ∧
    (State.auditTest s i).sense = s.sense ∧ (State.auditTest s i).dscs = s.dscs := by
  refine ⟨?_, ?_, ?_, ?_, ?_, ?_, ?_, ?_, ?_, ?_, ?_⟩ <;> (first | rfl | (simp (maxDischargeDepth := 12) [State.auditTest]; done) | (unfold State.auditTest; (try dsimp only); repeat' (first | rfl | (simp (maxDischargeDepth := 12); done) | split)))

@[simp] theorem State_auditTest_keeps1 (s : State) (i : Nat) :
    (State.auditTest s i).hkcs = s.hkcs ∧ (State.auditTest s i).tallies = s.tallies ∧ (State.auditTest s i).ledger = s.ledger ∧
    (State.auditTest s i).tiles = s.tiles ∧ (State.auditTest s i).accts = s.accts ∧ (State.auditTest s i).limits = s.limits ∧
    (State.auditTest s i).pace = s.pace ∧ (State.auditTest s i).therm = s.therm ∧ (State.auditTest s i).diodes = s.diodes ∧
    (State.auditTest s i).stopq = s.stopq ∧ (State.auditTest s i).warden = s.warden := by
  refine ⟨?_, ?_, ?_, ?_, ?_, ?_, ?_, ?_, ?_, ?_, ?_⟩ <;> (first | rfl | (simp (maxDischargeDepth := 12) [State.auditTest]; done) | (unfold State.auditTest; (try dsimp only); repeat' (first | rfl | (simp (maxDischargeDepth := 12); done) | split)))

@[simp] theorem State_auditTest_keeps2 (s : State) (i : Nat) :
    (State.auditTest s i).policy = s.policy ∧ (State.auditTest s i).rings = s.rings ∧ (State.auditTest s i).smb = s.smb ∧
    (State.auditTest s i).avs = s.avs ∧ (State.auditTest s i).tap = s.tap ∧ (State.auditTest s i).pub = s.pub ∧
    (State.auditTest s i).freeCtr = s.freeCtr ∧ (State.auditTest s i).pending = s.pending := by
  refine ⟨?_, ?_, ?_, ?_, ?_, ?_, ?_, ?_⟩ <;> (first | rfl | (simp (maxDischargeDepth := 12) [State.auditTest]; done) | (unfold State.auditTest; (try dsimp only); repeat' (first | rfl | (simp (maxDischargeDepth := 12); done) | split)))

@[simp] theorem State_auditLasting_keeps0 (s : State) (a : CAudit) :
    (State.auditLasting s a).otp = s.otp ∧ (State.auditLasting s a).start = s.start ∧ (State.auditLasting s a).clk = s.clk ∧
    (State.auditLasting s a).win = s.win ∧ (State.auditLasting s a).cells = s.cells ∧ (State.auditLasting s a).views = s.views ∧
    (State.auditLasting s a).chains = s.chains ∧ (State.auditLasting s a).creg = s.creg ∧ (State.auditLasting s a).eng = s.eng ∧
    (State.auditLasting s a).doms = s.doms ∧ (State.auditLasting s a).lanes = s.lanes := by
  refine ⟨?_, ?_, ?_, ?_, ?_, ?_, ?_, ?_, ?_, ?_, ?_⟩ <;> (first | rfl | (simp (maxDischargeDepth := 12) [State.auditLasting]; done) | (unfold State.auditLasting; (try dsimp only); repeat' (first | rfl | (simp (maxDischargeDepth := 12); done) | split)))

@[simp] theorem State_auditLasting_keeps1 (s : State) (a : CAudit) :
    (State.auditLasting s a).sense = s.sense ∧ (State.auditLasting s a).dscs = s.dscs ∧ (State.auditLasting s a).hkcs = s.hkcs ∧
    (State.auditLasting s a).tallies = s.tallies ∧ (State.auditLasting s a).ledger = s.ledger ∧ (State.auditLasting s a).tiles = s.tiles ∧
    (State.auditLasting s a).accts = s.accts ∧ (State.auditLasting s a).limits = s.limits ∧ (State.auditLasting s a).pace = s.pace ∧
    (State.auditLasting s a).therm = s.therm ∧ (State.auditLasting s a).diodes = s.diodes := by
  refine ⟨?_, ?_, ?_, ?_, ?_, ?_, ?_, ?_, ?_, ?_, ?_⟩ <;> (first | rfl | (simp (maxDischargeDepth := 12) [State.auditLasting]; done) | (unfold State.auditLasting; (try dsimp only); repeat' (first | rfl | (simp (maxDischargeDepth := 12); done) | split)))

@[simp] theorem State_auditLasting_keeps2 (s : State) (a : CAudit) :
    (State.auditLasting s a).stopq = s.stopq ∧ (State.auditLasting s a).policy = s.policy ∧ (State.auditLasting s a).rings = s.rings ∧
    (State.auditLasting s a).smb = s.smb ∧ (State.auditLasting s a).avs = s.avs ∧ (State.auditLasting s a).tap = s.tap ∧
    (State.auditLasting s a).pub = s.pub ∧ (State.auditLasting s a).freeCtr = s.freeCtr ∧ (State.auditLasting s a).pending = s.pending := by
  refine ⟨?_, ?_, ?_, ?_, ?_, ?_, ?_, ?_, ?_⟩ <;> (first | rfl | (simp (maxDischargeDepth := 12) [State.auditLasting]; done) | (unfold State.auditLasting; (try dsimp only); repeat' (first | rfl | (simp (maxDischargeDepth := 12); done) | split)))

@[simp] theorem State_coverDone_keeps0 (s : State) (k : Nat) :
    (State.coverDone s k).otp = s.otp ∧
    (State.coverDone s k).start = s.start ∧
    (State.coverDone s k).clk = s.clk ∧
    (State.coverDone s k).win = s.win ∧
    (State.coverDone s k).cells = s.cells ∧
    (State.coverDone s k).views = s.views ∧
    (State.coverDone s k).chains = s.chains ∧
    (State.coverDone s k).creg = s.creg ∧
    (State.coverDone s k).eng = s.eng ∧
    (State.coverDone s k).doms = s.doms ∧
    (State.coverDone s k).lanes = s.lanes := by
  refine ⟨?_, ?_, ?_, ?_, ?_, ?_, ?_, ?_, ?_, ?_, ?_⟩ <;> (first | rfl | (simp (maxDischargeDepth := 12) [State.coverDone]; done) | (unfold State.coverDone; (try dsimp only); repeat' (first | rfl | (simp (maxDischargeDepth := 12); done) | split)))

@[simp] theorem State_coverDone_keeps1 (s : State) (k : Nat) :
    (State.coverDone s k).sense = s.sense ∧
    (State.coverDone s k).dscs = s.dscs ∧
    (State.coverDone s k).hkcs = s.hkcs ∧
    (State.coverDone s k).tallies = s.tallies ∧
    (State.coverDone s k).ledger = s.ledger ∧
    (State.coverDone s k).tiles = s.tiles ∧
    (State.coverDone s k).accts = s.accts ∧
    (State.coverDone s k).limits = s.limits ∧
    (State.coverDone s k).pace = s.pace ∧
    (State.coverDone s k).therm = s.therm ∧
    (State.coverDone s k).diodes = s.diodes := by
  refine ⟨?_, ?_, ?_, ?_, ?_, ?_, ?_, ?_, ?_, ?_, ?_⟩ <;> (first | rfl | (simp (maxDischargeDepth := 12) [State.coverDone]; done) | (unfold State.coverDone; (try dsimp only); repeat' (first | rfl | (simp (maxDischargeDepth := 12); done) | split)))

@[simp] theorem State_coverDone_keeps2 (s : State) (k : Nat) :
    (State.coverDone s k).stopq = s.stopq ∧
    (State.coverDone s k).warden = s.warden ∧
    (State.coverDone s k).policy = s.policy ∧
    (State.coverDone s k).rings = s.rings ∧
    (State.coverDone s k).smb = s.smb ∧
    (State.coverDone s k).avs = s.avs ∧
    (State.coverDone s k).tap = s.tap ∧
    (State.coverDone s k).pub = s.pub ∧
    (State.coverDone s k).freeCtr = s.freeCtr ∧
    (State.coverDone s k).pending = s.pending := by
  refine ⟨?_, ?_, ?_, ?_, ?_, ?_, ?_, ?_, ?_, ?_⟩ <;> (first | rfl | (simp (maxDischargeDepth := 12) [State.coverDone]; done) | (unfold State.coverDone; (try dsimp only); repeat' (first | rfl | (simp (maxDischargeDepth := 12); done) | split)))

@[simp] theorem State_auditRecall_keeps0 (s : State) (k : Nat) :
    (State.auditRecall s k).otp = s.otp ∧
    (State.auditRecall s k).start = s.start ∧
    (State.auditRecall s k).clk = s.clk ∧
    (State.auditRecall s k).win = s.win ∧
    (State.auditRecall s k).cells = s.cells ∧
    (State.auditRecall s k).views = s.views ∧
    (State.auditRecall s k).creg = s.creg ∧
    (State.auditRecall s k).eng = s.eng ∧
    (State.auditRecall s k).doms = s.doms ∧
    (State.auditRecall s k).lanes = s.lanes ∧
    (State.auditRecall s k).sense = s.sense := by
  refine ⟨?_, ?_, ?_, ?_, ?_, ?_, ?_, ?_, ?_, ?_, ?_⟩ <;> (first | rfl | (simp (maxDischargeDepth := 12) [State.auditRecall]; done) | (unfold State.auditRecall; (try dsimp only); repeat' (first | rfl | (simp (maxDischargeDepth := 12); done) | split)))

@[simp] theorem State_auditRecall_keeps1 (s : State) (k : Nat) :
    (State.auditRecall s k).dscs = s.dscs ∧
    (State.auditRecall s k).hkcs = s.hkcs ∧
    (State.auditRecall s k).tallies = s.tallies ∧
    (State.auditRecall s k).ledger = s.ledger ∧
    (State.auditRecall s k).tiles = s.tiles ∧
    (State.auditRecall s k).accts = s.accts ∧
    (State.auditRecall s k).limits = s.limits ∧
    (State.auditRecall s k).pace = s.pace ∧
    (State.auditRecall s k).therm = s.therm ∧
    (State.auditRecall s k).diodes = s.diodes ∧
    (State.auditRecall s k).stopq = s.stopq := by
  refine ⟨?_, ?_, ?_, ?_, ?_, ?_, ?_, ?_, ?_, ?_, ?_⟩ <;> (first | rfl | (simp (maxDischargeDepth := 12) [State.auditRecall]; done) | (unfold State.auditRecall; (try dsimp only); repeat' (first | rfl | (simp (maxDischargeDepth := 12); done) | split)))

@[simp] theorem State_auditRecall_keeps2 (s : State) (k : Nat) :
    (State.auditRecall s k).warden = s.warden ∧
    (State.auditRecall s k).policy = s.policy ∧
    (State.auditRecall s k).rings = s.rings ∧
    (State.auditRecall s k).smb = s.smb ∧
    (State.auditRecall s k).avs = s.avs ∧
    (State.auditRecall s k).tap = s.tap ∧
    (State.auditRecall s k).pub = s.pub ∧
    (State.auditRecall s k).freeCtr = s.freeCtr ∧
    (State.auditRecall s k).pending = s.pending := by
  refine ⟨?_, ?_, ?_, ?_, ?_, ?_, ?_, ?_, ?_⟩ <;> (first | rfl | (simp (maxDischargeDepth := 12) [State.auditRecall]; done) | (unfold State.auditRecall; (try dsimp only); repeat' (first | rfl | (simp (maxDischargeDepth := 12); done) | split)))

@[simp] theorem State_auditRejoined_keeps0 (s : State) (a : CAudit) :
    (State.auditRejoined s a).otp = s.otp ∧
    (State.auditRejoined s a).start = s.start ∧
    (State.auditRejoined s a).clk = s.clk ∧
    (State.auditRejoined s a).win = s.win ∧
    (State.auditRejoined s a).cells = s.cells ∧
    (State.auditRejoined s a).views = s.views ∧
    (State.auditRejoined s a).creg = s.creg ∧
    (State.auditRejoined s a).eng = s.eng ∧
    (State.auditRejoined s a).doms = s.doms ∧
    (State.auditRejoined s a).lanes = s.lanes ∧
    (State.auditRejoined s a).sense = s.sense := by
  refine ⟨?_, ?_, ?_, ?_, ?_, ?_, ?_, ?_, ?_, ?_, ?_⟩ <;> (first | rfl | (simp (maxDischargeDepth := 12) [State.auditRejoined]; done) | (unfold State.auditRejoined; (try dsimp only); repeat' (first | rfl | (simp (maxDischargeDepth := 12); done) | split)))

@[simp] theorem State_auditRejoined_keeps1 (s : State) (a : CAudit) :
    (State.auditRejoined s a).dscs = s.dscs ∧
    (State.auditRejoined s a).hkcs = s.hkcs ∧
    (State.auditRejoined s a).tallies = s.tallies ∧
    (State.auditRejoined s a).ledger = s.ledger ∧
    (State.auditRejoined s a).tiles = s.tiles ∧
    (State.auditRejoined s a).accts = s.accts ∧
    (State.auditRejoined s a).limits = s.limits ∧
    (State.auditRejoined s a).pace = s.pace ∧
    (State.auditRejoined s a).therm = s.therm ∧
    (State.auditRejoined s a).diodes = s.diodes ∧
    (State.auditRejoined s a).stopq = s.stopq := by
  refine ⟨?_, ?_, ?_, ?_, ?_, ?_, ?_, ?_, ?_, ?_, ?_⟩ <;> (first | rfl | (simp (maxDischargeDepth := 12) [State.auditRejoined]; done) | (unfold State.auditRejoined; (try dsimp only); repeat' (first | rfl | (simp (maxDischargeDepth := 12); done) | split)))

@[simp] theorem State_auditRejoined_keeps2 (s : State) (a : CAudit) :
    (State.auditRejoined s a).warden = s.warden ∧
    (State.auditRejoined s a).policy = s.policy ∧
    (State.auditRejoined s a).rings = s.rings ∧
    (State.auditRejoined s a).smb = s.smb ∧
    (State.auditRejoined s a).avs = s.avs ∧
    (State.auditRejoined s a).tap = s.tap ∧
    (State.auditRejoined s a).pub = s.pub ∧
    (State.auditRejoined s a).freeCtr = s.freeCtr ∧
    (State.auditRejoined s a).pending = s.pending := by
  refine ⟨?_, ?_, ?_, ?_, ?_, ?_, ?_, ?_, ?_⟩ <;> (first | rfl | (simp (maxDischargeDepth := 12) [State.auditRejoined]; done) | (unfold State.auditRejoined; (try dsimp only); repeat' (first | rfl | (simp (maxDischargeDepth := 12); done) | split)))

@[simp] theorem State_auditReturn_keeps0 (s : State) (a : CAudit) :
    (State.auditReturn s a).otp = s.otp ∧ (State.auditReturn s a).start = s.start ∧ (State.auditReturn s a).clk = s.clk ∧
    (State.auditReturn s a).win = s.win ∧ (State.auditReturn s a).cells = s.cells ∧ (State.auditReturn s a).creg = s.creg ∧
    (State.auditReturn s a).eng = s.eng ∧ (State.auditReturn s a).doms = s.doms ∧ (State.auditReturn s a).lanes = s.lanes ∧
    (State.auditReturn s a).sense = s.sense ∧ (State.auditReturn s a).dscs = s.dscs := by
  refine ⟨?_, ?_, ?_, ?_, ?_, ?_, ?_, ?_, ?_, ?_, ?_⟩ <;> (first | rfl | (simp (maxDischargeDepth := 12) [State.auditReturn]; done) | (unfold State.auditReturn; (try dsimp only); repeat' (first | rfl | (simp (maxDischargeDepth := 12); done) | split)))

@[simp] theorem State_auditReturn_keeps1 (s : State) (a : CAudit) :
    (State.auditReturn s a).hkcs = s.hkcs ∧ (State.auditReturn s a).tallies = s.tallies ∧ (State.auditReturn s a).ledger = s.ledger ∧
    (State.auditReturn s a).tiles = s.tiles ∧ (State.auditReturn s a).accts = s.accts ∧ (State.auditReturn s a).limits = s.limits ∧
    (State.auditReturn s a).pace = s.pace ∧ (State.auditReturn s a).therm = s.therm ∧ (State.auditReturn s a).diodes = s.diodes ∧
    (State.auditReturn s a).stopq = s.stopq ∧ (State.auditReturn s a).warden = s.warden := by
  refine ⟨?_, ?_, ?_, ?_, ?_, ?_, ?_, ?_, ?_, ?_, ?_⟩ <;> (first | rfl | (simp (maxDischargeDepth := 12) [State.auditReturn]; done) | (unfold State.auditReturn; (try dsimp only); repeat' (first | rfl | (simp (maxDischargeDepth := 12); done) | split)))

@[simp] theorem State_auditReturn_keeps2 (s : State) (a : CAudit) :
    (State.auditReturn s a).policy = s.policy ∧ (State.auditReturn s a).rings = s.rings ∧ (State.auditReturn s a).smb = s.smb ∧
    (State.auditReturn s a).avs = s.avs ∧ (State.auditReturn s a).tap = s.tap ∧ (State.auditReturn s a).pub = s.pub ∧
    (State.auditReturn s a).freeCtr = s.freeCtr ∧ (State.auditReturn s a).pending = s.pending := by
  refine ⟨?_, ?_, ?_, ?_, ?_, ?_, ?_, ?_⟩ <;> (first | rfl | (simp (maxDischargeDepth := 12) [State.auditReturn]; done) | (unfold State.auditReturn; (try dsimp only); repeat' (first | rfl | (simp (maxDischargeDepth := 12); done) | split)))

@[simp] theorem State_auditRejoin_keeps0 (s : State) (a : CAudit) :
    (State.auditRejoin s a).otp = s.otp ∧
    (State.auditRejoin s a).start = s.start ∧
    (State.auditRejoin s a).clk = s.clk ∧
    (State.auditRejoin s a).win = s.win ∧
    (State.auditRejoin s a).cells = s.cells ∧
    (State.auditRejoin s a).creg = s.creg ∧
    (State.auditRejoin s a).eng = s.eng ∧
    (State.auditRejoin s a).doms = s.doms ∧
    (State.auditRejoin s a).lanes = s.lanes ∧
    (State.auditRejoin s a).sense = s.sense ∧
    (State.auditRejoin s a).dscs = s.dscs := by
  refine ⟨?_, ?_, ?_, ?_, ?_, ?_, ?_, ?_, ?_, ?_, ?_⟩ <;> (first | rfl | (simp (maxDischargeDepth := 12) [State.auditRejoin]; done) | (unfold State.auditRejoin; (try dsimp only); repeat' (first | rfl | (simp (maxDischargeDepth := 12); done) | split)))

@[simp] theorem State_auditRejoin_keeps1 (s : State) (a : CAudit) :
    (State.auditRejoin s a).hkcs = s.hkcs ∧
    (State.auditRejoin s a).tallies = s.tallies ∧
    (State.auditRejoin s a).ledger = s.ledger ∧
    (State.auditRejoin s a).tiles = s.tiles ∧
    (State.auditRejoin s a).accts = s.accts ∧
    (State.auditRejoin s a).limits = s.limits ∧
    (State.auditRejoin s a).pace = s.pace ∧
    (State.auditRejoin s a).therm = s.therm ∧
    (State.auditRejoin s a).diodes = s.diodes ∧
    (State.auditRejoin s a).stopq = s.stopq ∧
    (State.auditRejoin s a).warden = s.warden := by
  refine ⟨?_, ?_, ?_, ?_, ?_, ?_, ?_, ?_, ?_, ?_, ?_⟩ <;> (first | rfl | (simp (maxDischargeDepth := 12) [State.auditRejoin]; done) | (unfold State.auditRejoin; (try dsimp only); repeat' (first | rfl | (simp (maxDischargeDepth := 12); done) | split)))

@[simp] theorem State_auditRejoin_keeps2 (s : State) (a : CAudit) :
    (State.auditRejoin s a).policy = s.policy ∧
    (State.auditRejoin s a).rings = s.rings ∧
    (State.auditRejoin s a).smb = s.smb ∧
    (State.auditRejoin s a).avs = s.avs ∧
    (State.auditRejoin s a).tap = s.tap ∧
    (State.auditRejoin s a).pub = s.pub ∧
    (State.auditRejoin s a).freeCtr = s.freeCtr ∧
    (State.auditRejoin s a).pending = s.pending := by
  refine ⟨?_, ?_, ?_, ?_, ?_, ?_, ?_, ?_⟩ <;> (first | rfl | (simp (maxDischargeDepth := 12) [State.auditRejoin]; done) | (unfold State.auditRejoin; (try dsimp only); repeat' (first | rfl | (simp (maxDischargeDepth := 12); done) | split)))

@[simp] theorem State_auditReply_keeps0 (s : State) (o : Order) (r : Option (Nat × Nat)) :
    (State.auditReply s o r).otp = s.otp ∧ (State.auditReply s o r).start = s.start ∧ (State.auditReply s o r).clk = s.clk ∧
    (State.auditReply s o r).win = s.win ∧ (State.auditReply s o r).cells = s.cells ∧ (State.auditReply s o r).creg = s.creg ∧
    (State.auditReply s o r).eng = s.eng ∧ (State.auditReply s o r).doms = s.doms ∧ (State.auditReply s o r).lanes = s.lanes ∧
    (State.auditReply s o r).sense = s.sense ∧ (State.auditReply s o r).dscs = s.dscs := by
  refine ⟨?_, ?_, ?_, ?_, ?_, ?_, ?_, ?_, ?_, ?_, ?_⟩ <;> (first | rfl | (simp (maxDischargeDepth := 12) [State.auditReply]; done) | (unfold State.auditReply; (try dsimp only); repeat' (first | rfl | (simp (maxDischargeDepth := 12); done) | split)))

@[simp] theorem State_auditReply_keeps1 (s : State) (o : Order) (r : Option (Nat × Nat)) :
    (State.auditReply s o r).hkcs = s.hkcs ∧ (State.auditReply s o r).tallies = s.tallies ∧ (State.auditReply s o r).ledger = s.ledger ∧
    (State.auditReply s o r).tiles = s.tiles ∧ (State.auditReply s o r).accts = s.accts ∧ (State.auditReply s o r).limits = s.limits ∧
    (State.auditReply s o r).pace = s.pace ∧ (State.auditReply s o r).therm = s.therm ∧ (State.auditReply s o r).diodes = s.diodes ∧
    (State.auditReply s o r).stopq = s.stopq ∧ (State.auditReply s o r).warden = s.warden := by
  refine ⟨?_, ?_, ?_, ?_, ?_, ?_, ?_, ?_, ?_, ?_, ?_⟩ <;> (first | rfl | (simp (maxDischargeDepth := 12) [State.auditReply]; done) | (unfold State.auditReply; (try dsimp only); repeat' (first | rfl | (simp (maxDischargeDepth := 12); done) | split)))

@[simp] theorem State_auditReply_keeps2 (s : State) (o : Order) (r : Option (Nat × Nat)) :
    (State.auditReply s o r).policy = s.policy ∧ (State.auditReply s o r).rings = s.rings ∧ (State.auditReply s o r).smb = s.smb ∧
    (State.auditReply s o r).avs = s.avs ∧ (State.auditReply s o r).tap = s.tap ∧ (State.auditReply s o r).pub = s.pub ∧
    (State.auditReply s o r).freeCtr = s.freeCtr ∧ (State.auditReply s o r).pending = s.pending := by
  refine ⟨?_, ?_, ?_, ?_, ?_, ?_, ?_, ?_⟩ <;> (first | rfl | (simp (maxDischargeDepth := 12) [State.auditReply]; done) | (unfold State.auditReply; (try dsimp only); repeat' (first | rfl | (simp (maxDischargeDepth := 12); done) | split)))

@[simp] theorem State_adoptReply_keeps0 (s : State) (o : Order) (r : Option (Nat × Nat)) :
    (State.adoptReply s o r).otp = s.otp ∧ (State.adoptReply s o r).start = s.start ∧ (State.adoptReply s o r).clk = s.clk ∧
    (State.adoptReply s o r).win = s.win ∧ (State.adoptReply s o r).cells = s.cells ∧ (State.adoptReply s o r).chains = s.chains ∧
    (State.adoptReply s o r).creg = s.creg ∧ (State.adoptReply s o r).eng = s.eng ∧ (State.adoptReply s o r).doms = s.doms ∧
    (State.adoptReply s o r).lanes = s.lanes ∧ (State.adoptReply s o r).sense = s.sense := by
  refine ⟨?_, ?_, ?_, ?_, ?_, ?_, ?_, ?_, ?_, ?_, ?_⟩ <;> (first | rfl | (simp (maxDischargeDepth := 12) [State.adoptReply]; done) | (unfold State.adoptReply; (try dsimp only); repeat' (first | rfl | (simp (maxDischargeDepth := 12); done) | split)))

@[simp] theorem State_adoptReply_keeps1 (s : State) (o : Order) (r : Option (Nat × Nat)) :
    (State.adoptReply s o r).dscs = s.dscs ∧ (State.adoptReply s o r).hkcs = s.hkcs ∧ (State.adoptReply s o r).tallies = s.tallies ∧
    (State.adoptReply s o r).ledger = s.ledger ∧ (State.adoptReply s o r).tiles = s.tiles ∧ (State.adoptReply s o r).accts = s.accts ∧
    (State.adoptReply s o r).limits = s.limits ∧ (State.adoptReply s o r).pace = s.pace ∧ (State.adoptReply s o r).therm = s.therm ∧
    (State.adoptReply s o r).diodes = s.diodes ∧ (State.adoptReply s o r).stopq = s.stopq := by
  refine ⟨?_, ?_, ?_, ?_, ?_, ?_, ?_, ?_, ?_, ?_, ?_⟩ <;> (first | rfl | (simp (maxDischargeDepth := 12) [State.adoptReply]; done) | (unfold State.adoptReply; (try dsimp only); repeat' (first | rfl | (simp (maxDischargeDepth := 12); done) | split)))

@[simp] theorem State_adoptReply_keeps2 (s : State) (o : Order) (r : Option (Nat × Nat)) :
    (State.adoptReply s o r).flt = s.flt ∧ (State.adoptReply s o r).warden = s.warden ∧ (State.adoptReply s o r).policy = s.policy ∧
    (State.adoptReply s o r).rings = s.rings ∧ (State.adoptReply s o r).smb = s.smb ∧ (State.adoptReply s o r).avs = s.avs ∧
    (State.adoptReply s o r).tap = s.tap ∧ (State.adoptReply s o r).pub = s.pub ∧ (State.adoptReply s o r).freeCtr = s.freeCtr ∧
    (State.adoptReply s o r).pending = s.pending := by
  refine ⟨?_, ?_, ?_, ?_, ?_, ?_, ?_, ?_, ?_, ?_⟩ <;> (first | rfl | (simp (maxDischargeDepth := 12) [State.adoptReply]; done) | (unfold State.adoptReply; (try dsimp only); repeat' (first | rfl | (simp (maxDischargeDepth := 12); done) | split)))

@[simp] theorem State_queuePages_keeps0 (s : State) (l : List Nat) :
    (State.queuePages s l).otp = s.otp ∧ (State.queuePages s l).start = s.start ∧ (State.queuePages s l).clk = s.clk ∧
    (State.queuePages s l).win = s.win ∧ (State.queuePages s l).cells = s.cells ∧ (State.queuePages s l).views = s.views ∧
    (State.queuePages s l).creg = s.creg ∧ (State.queuePages s l).eng = s.eng ∧ (State.queuePages s l).doms = s.doms ∧
    (State.queuePages s l).lanes = s.lanes ∧ (State.queuePages s l).sense = s.sense := by
  refine ⟨?_, ?_, ?_, ?_, ?_, ?_, ?_, ?_, ?_, ?_, ?_⟩ <;> (first | rfl | (simp (maxDischargeDepth := 12) [State.queuePages]; done) | (unfold State.queuePages; (try dsimp only); repeat' (first | rfl | (simp (maxDischargeDepth := 12); done) | split)))

@[simp] theorem State_queuePages_keeps1 (s : State) (l : List Nat) :
    (State.queuePages s l).dscs = s.dscs ∧ (State.queuePages s l).hkcs = s.hkcs ∧ (State.queuePages s l).tallies = s.tallies ∧
    (State.queuePages s l).ledger = s.ledger ∧ (State.queuePages s l).tiles = s.tiles ∧ (State.queuePages s l).accts = s.accts ∧
    (State.queuePages s l).limits = s.limits ∧ (State.queuePages s l).pace = s.pace ∧ (State.queuePages s l).therm = s.therm ∧
    (State.queuePages s l).diodes = s.diodes ∧ (State.queuePages s l).stopq = s.stopq := by
  refine ⟨?_, ?_, ?_, ?_, ?_, ?_, ?_, ?_, ?_, ?_, ?_⟩ <;> (first | rfl | (simp (maxDischargeDepth := 12) [State.queuePages]; done) | (unfold State.queuePages; (try dsimp only); repeat' (first | rfl | (simp (maxDischargeDepth := 12); done) | split)))

@[simp] theorem State_queuePages_keeps2 (s : State) (l : List Nat) :
    (State.queuePages s l).flt = s.flt ∧ (State.queuePages s l).warden = s.warden ∧ (State.queuePages s l).policy = s.policy ∧
    (State.queuePages s l).rings = s.rings ∧ (State.queuePages s l).smb = s.smb ∧ (State.queuePages s l).avs = s.avs ∧
    (State.queuePages s l).tap = s.tap ∧ (State.queuePages s l).pub = s.pub ∧ (State.queuePages s l).freeCtr = s.freeCtr ∧
    (State.queuePages s l).pending = s.pending := by
  refine ⟨?_, ?_, ?_, ?_, ?_, ?_, ?_, ?_, ?_, ?_⟩ <;> (first | rfl | (simp (maxDischargeDepth := 12) [State.queuePages]; done) | (unfold State.queuePages; (try dsimp only); repeat' (first | rfl | (simp (maxDischargeDepth := 12); done) | split)))

end Sys2Proof.Machine
end

