-- ==== Sys2Proof/Laws/FramesCellFrames.lean ====
section
/-! SUPPORT. The fields of State that the operations of Machine/CellFrames.lean leave alone. -/

set_option linter.unusedSimpArgs false
set_option linter.unusedVariables false

namespace Sys2Proof.Machine

@[simp] theorem State_onChain_keeps0 (s : State) (c : Nat) (f : Nat → Cell → Cell) :
    (State.onChain s c f).otp = s.otp ∧ (State.onChain s c f).start = s.start ∧ (State.onChain s c f).clk = s.clk ∧
    (State.onChain s c f).win = s.win ∧ (State.onChain s c f).views = s.views ∧ (State.onChain s c f).chains = s.chains ∧
    (State.onChain s c f).creg = s.creg ∧ (State.onChain s c f).eng = s.eng ∧ (State.onChain s c f).doms = s.doms ∧
    (State.onChain s c f).lanes = s.lanes ∧ (State.onChain s c f).sense = s.sense := by
  refine ⟨?_, ?_, ?_, ?_, ?_, ?_, ?_, ?_, ?_, ?_, ?_⟩ <;> (first | rfl | (simp (maxDischargeDepth := 12) [State.onChain]; done) | (unfold State.onChain; (try dsimp only); repeat' (first | rfl | (simp (maxDischargeDepth := 12); done) | split)))

@[simp] theorem State_onChain_keeps1 (s : State) (c : Nat) (f : Nat → Cell → Cell) :
    (State.onChain s c f).dscs = s.dscs ∧ (State.onChain s c f).hkcs = s.hkcs ∧ (State.onChain s c f).tallies = s.tallies ∧
    (State.onChain s c f).ledger = s.ledger ∧ (State.onChain s c f).tiles = s.tiles ∧ (State.onChain s c f).accts = s.accts ∧
    (State.onChain s c f).limits = s.limits ∧ (State.onChain s c f).pace = s.pace ∧ (State.onChain s c f).therm = s.therm ∧
    (State.onChain s c f).diodes = s.diodes ∧ (State.onChain s c f).stopq = s.stopq := by
  refine ⟨?_, ?_, ?_, ?_, ?_, ?_, ?_, ?_, ?_, ?_, ?_⟩ <;> (first | rfl | (simp (maxDischargeDepth := 12) [State.onChain]; done) | (unfold State.onChain; (try dsimp only); repeat' (first | rfl | (simp (maxDischargeDepth := 12); done) | split)))

@[simp] theorem State_onChain_keeps2 (s : State) (c : Nat) (f : Nat → Cell → Cell) :
    (State.onChain s c f).flt = s.flt ∧ (State.onChain s c f).warden = s.warden ∧ (State.onChain s c f).policy = s.policy ∧
    (State.onChain s c f).rings = s.rings ∧ (State.onChain s c f).smb = s.smb ∧ (State.onChain s c f).avs = s.avs ∧
    (State.onChain s c f).tap = s.tap ∧ (State.onChain s c f).pub = s.pub ∧ (State.onChain s c f).freeCtr = s.freeCtr ∧
    (State.onChain s c f).pending = s.pending := by
  refine ⟨?_, ?_, ?_, ?_, ?_, ?_, ?_, ?_, ?_, ?_⟩ <;> (first | rfl | (simp (maxDischargeDepth := 12) [State.onChain]; done) | (unfold State.onChain; (try dsimp only); repeat' (first | rfl | (simp (maxDischargeDepth := 12); done) | split)))

@[simp] theorem State_meansDrawn_keeps0 (s : State) :
    (State.meansDrawn s).otp = s.otp ∧ (State.meansDrawn s).start = s.start ∧ (State.meansDrawn s).clk = s.clk ∧
    (State.meansDrawn s).win = s.win ∧ (State.meansDrawn s).cells = s.cells ∧ (State.meansDrawn s).views = s.views ∧
    (State.meansDrawn s).chains = s.chains ∧ (State.meansDrawn s).creg = s.creg ∧ (State.meansDrawn s).eng = s.eng ∧
    (State.meansDrawn s).doms = s.doms ∧ (State.meansDrawn s).lanes = s.lanes := by
  refine ⟨?_, ?_, ?_, ?_, ?_, ?_, ?_, ?_, ?_, ?_, ?_⟩ <;> (first | rfl | (simp (maxDischargeDepth := 12) [State.meansDrawn]; done) | (unfold State.meansDrawn; (try dsimp only); repeat' (first | rfl | (simp (maxDischargeDepth := 12); done) | split)))

@[simp] theorem State_meansDrawn_keeps1 (s : State) :
    (State.meansDrawn s).sense = s.sense ∧ (State.meansDrawn s).dscs = s.dscs ∧ (State.meansDrawn s).hkcs = s.hkcs ∧
    (State.meansDrawn s).tallies = s.tallies ∧ (State.meansDrawn s).ledger = s.ledger ∧ (State.meansDrawn s).tiles = s.tiles ∧
    (State.meansDrawn s).accts = s.accts ∧ (State.meansDrawn s).limits = s.limits ∧ (State.meansDrawn s).pace = s.pace ∧
    (State.meansDrawn s).therm = s.therm ∧ (State.meansDrawn s).diodes = s.diodes := by
  refine ⟨?_, ?_, ?_, ?_, ?_, ?_, ?_, ?_, ?_, ?_, ?_⟩ <;> (first | rfl | (simp (maxDischargeDepth := 12) [State.meansDrawn]; done) | (unfold State.meansDrawn; (try dsimp only); repeat' (first | rfl | (simp (maxDischargeDepth := 12); done) | split)))

@[simp] theorem State_meansDrawn_keeps2 (s : State) :
    (State.meansDrawn s).stopq = s.stopq ∧ (State.meansDrawn s).flt = s.flt ∧ (State.meansDrawn s).warden = s.warden ∧
    (State.meansDrawn s).policy = s.policy ∧ (State.meansDrawn s).rings = s.rings ∧ (State.meansDrawn s).smb = s.smb ∧
    (State.meansDrawn s).avs = s.avs ∧ (State.meansDrawn s).tap = s.tap ∧ (State.meansDrawn s).pub = s.pub ∧
    (State.meansDrawn s).pending = s.pending := by
  refine ⟨?_, ?_, ?_, ?_, ?_, ?_, ?_, ?_, ?_, ?_⟩ <;> (first | rfl | (simp (maxDischargeDepth := 12) [State.meansDrawn]; done) | (unfold State.meansDrawn; (try dsimp only); repeat' (first | rfl | (simp (maxDischargeDepth := 12); done) | split)))

@[simp] theorem State_checkedFrame_keeps0 (s : State) (c : ChainIx) (payload : BitVec 64) (f : Nat → Cell → Cell) :
    (State.checkedFrame s c payload f).otp = s.otp ∧ (State.checkedFrame s c payload f).start = s.start ∧
    (State.checkedFrame s c payload f).clk = s.clk ∧ (State.checkedFrame s c payload f).win = s.win ∧
    (State.checkedFrame s c payload f).views = s.views ∧ (State.checkedFrame s c payload f).chains = s.chains ∧
    (State.checkedFrame s c payload f).creg = s.creg ∧ (State.checkedFrame s c payload f).eng = s.eng ∧
    (State.checkedFrame s c payload f).doms = s.doms ∧ (State.checkedFrame s c payload f).lanes = s.lanes ∧
    (State.checkedFrame s c payload f).sense = s.sense := by
  refine ⟨?_, ?_, ?_, ?_, ?_, ?_, ?_, ?_, ?_, ?_, ?_⟩ <;> (first | rfl | (simp (maxDischargeDepth := 12) [State.checkedFrame]; done) | (unfold State.checkedFrame; (try dsimp only); repeat' (first | rfl | (simp (maxDischargeDepth := 12); done) | split)))

@[simp] theorem State_checkedFrame_keeps1 (s : State) (c : ChainIx) (payload : BitVec 64) (f : Nat → Cell → Cell) :
    (State.checkedFrame s c payload f).dscs = s.dscs ∧ (State.checkedFrame s c payload f).hkcs = s.hkcs ∧
    (State.checkedFrame s c payload f).tallies = s.tallies ∧ (State.checkedFrame s c payload f).ledger = s.ledger ∧
    (State.checkedFrame s c payload f).tiles = s.tiles ∧ (State.checkedFrame s c payload f).accts = s.accts ∧
    (State.checkedFrame s c payload f).limits = s.limits ∧ (State.checkedFrame s c payload f).pace = s.pace ∧
    (State.checkedFrame s c payload f).therm = s.therm ∧ (State.checkedFrame s c payload f).diodes = s.diodes ∧
    (State.checkedFrame s c payload f).stopq = s.stopq := by
  refine ⟨?_, ?_, ?_, ?_, ?_, ?_, ?_, ?_, ?_, ?_, ?_⟩ <;> (first | rfl | (simp (maxDischargeDepth := 12) [State.checkedFrame]; done) | (unfold State.checkedFrame; (try dsimp only); repeat' (first | rfl | (simp (maxDischargeDepth := 12); done) | split)))

@[simp] theorem State_checkedFrame_keeps2 (s : State) (c : ChainIx) (payload : BitVec 64) (f : Nat → Cell → Cell) :
    (State.checkedFrame s c payload f).flt = s.flt ∧ (State.checkedFrame s c payload f).warden = s.warden ∧
    (State.checkedFrame s c payload f).policy = s.policy ∧ (State.checkedFrame s c payload f).rings = s.rings ∧
    (State.checkedFrame s c payload f).smb = s.smb ∧ (State.checkedFrame s c payload f).avs = s.avs ∧
    (State.checkedFrame s c payload f).tap = s.tap ∧ (State.checkedFrame s c payload f).pub = s.pub ∧
    (State.checkedFrame s c payload f).pending = s.pending := by
  refine ⟨?_, ?_, ?_, ?_, ?_, ?_, ?_, ?_, ?_⟩ <;> (first | rfl | (simp (maxDischargeDepth := 12) [State.checkedFrame]; done) | (unfold State.checkedFrame; (try dsimp only); repeat' (first | rfl | (simp (maxDischargeDepth := 12); done) | split)))

@[simp] theorem State_reply_keeps0 (s : State) (c : ChainIx) (type : Nat) (p : Nat) :
    (State.reply s c type p).otp = s.otp ∧ (State.reply s c type p).start = s.start ∧ (State.reply s c type p).clk = s.clk ∧
    (State.reply s c type p).win = s.win ∧ (State.reply s c type p).cells = s.cells ∧ (State.reply s c type p).views = s.views ∧
    (State.reply s c type p).creg = s.creg ∧ (State.reply s c type p).eng = s.eng ∧ (State.reply s c type p).doms = s.doms ∧
    (State.reply s c type p).lanes = s.lanes ∧ (State.reply s c type p).sense = s.sense := by
  refine ⟨?_, ?_, ?_, ?_, ?_, ?_, ?_, ?_, ?_, ?_, ?_⟩ <;> (first | rfl | (simp (maxDischargeDepth := 12) [State.reply]; done) | (unfold State.reply; (try dsimp only); repeat' (first | rfl | (simp (maxDischargeDepth := 12); done) | split)))

@[simp] theorem State_reply_keeps1 (s : State) (c : ChainIx) (type : Nat) (p : Nat) :
    (State.reply s c type p).dscs = s.dscs ∧ (State.reply s c type p).hkcs = s.hkcs ∧ (State.reply s c type p).tallies = s.tallies ∧
    (State.reply s c type p).ledger = s.ledger ∧ (State.reply s c type p).tiles = s.tiles ∧ (State.reply s c type p).accts = s.accts ∧
    (State.reply s c type p).limits = s.limits ∧ (State.reply s c type p).pace = s.pace ∧ (State.reply s c type p).therm = s.therm ∧
    (State.reply s c type p).diodes = s.diodes ∧ (State.reply s c type p).stopq = s.stopq := by
  refine ⟨?_, ?_, ?_, ?_, ?_, ?_, ?_, ?_, ?_, ?_, ?_⟩ <;> (first | rfl | (simp (maxDischargeDepth := 12) [State.reply]; done) | (unfold State.reply; (try dsimp only); repeat' (first | rfl | (simp (maxDischargeDepth := 12); done) | split)))

@[simp] theorem State_reply_keeps2 (s : State) (c : ChainIx) (type : Nat) (p : Nat) :
    (State.reply s c type p).flt = s.flt ∧ (State.reply s c type p).warden = s.warden ∧ (State.reply s c type p).policy = s.policy ∧
    (State.reply s c type p).rings = s.rings ∧ (State.reply s c type p).smb = s.smb ∧ (State.reply s c type p).avs = s.avs ∧
    (State.reply s c type p).tap = s.tap ∧ (State.reply s c type p).pub = s.pub ∧ (State.reply s c type p).freeCtr = s.freeCtr ∧
    (State.reply s c type p).pending = s.pending := by
  refine ⟨?_, ?_, ?_, ?_, ?_, ?_, ?_, ?_, ?_, ?_⟩ <;> (first | rfl | (simp (maxDischargeDepth := 12) [State.reply]; done) | (unfold State.reply; (try dsimp only); repeat' (first | rfl | (simp (maxDischargeDepth := 12); done) | split)))

@[simp] theorem State_passFrame_keeps0 (s : State) (c : ChainIx) (frame : Nat) :
    (State.passFrame s c frame).otp = s.otp ∧ (State.passFrame s c frame).start = s.start ∧ (State.passFrame s c frame).clk = s.clk ∧
    (State.passFrame s c frame).win = s.win ∧ (State.passFrame s c frame).cells = s.cells ∧ (State.passFrame s c frame).views = s.views ∧
    (State.passFrame s c frame).creg = s.creg ∧ (State.passFrame s c frame).eng = s.eng ∧ (State.passFrame s c frame).doms = s.doms ∧
    (State.passFrame s c frame).lanes = s.lanes ∧ (State.passFrame s c frame).sense = s.sense := by
  refine ⟨?_, ?_, ?_, ?_, ?_, ?_, ?_, ?_, ?_, ?_, ?_⟩ <;> (first | rfl | (simp (maxDischargeDepth := 12) [State.passFrame]; done) | (unfold State.passFrame; (try dsimp only); repeat' (first | rfl | (simp (maxDischargeDepth := 12); done) | split)))

@[simp] theorem State_passFrame_keeps1 (s : State) (c : ChainIx) (frame : Nat) :
    (State.passFrame s c frame).dscs = s.dscs ∧ (State.passFrame s c frame).hkcs = s.hkcs ∧
    (State.passFrame s c frame).tallies = s.tallies ∧ (State.passFrame s c frame).ledger = s.ledger ∧
    (State.passFrame s c frame).tiles = s.tiles ∧ (State.passFrame s c frame).accts = s.accts ∧
    (State.passFrame s c frame).limits = s.limits ∧ (State.passFrame s c frame).pace = s.pace ∧
    (State.passFrame s c frame).therm = s.therm ∧ (State.passFrame s c frame).diodes = s.diodes ∧
    (State.passFrame s c frame).stopq = s.stopq := by
  refine ⟨?_, ?_, ?_, ?_, ?_, ?_, ?_, ?_, ?_, ?_, ?_⟩ <;> (first | rfl | (simp (maxDischargeDepth := 12) [State.passFrame]; done) | (unfold State.passFrame; (try dsimp only); repeat' (first | rfl | (simp (maxDischargeDepth := 12); done) | split)))

@[simp] theorem State_passFrame_keeps2 (s : State) (c : ChainIx) (frame : Nat) :
    (State.passFrame s c frame).flt = s.flt ∧ (State.passFrame s c frame).warden = s.warden ∧
    (State.passFrame s c frame).policy = s.policy ∧ (State.passFrame s c frame).rings = s.rings ∧
    (State.passFrame s c frame).smb = s.smb ∧ (State.passFrame s c frame).avs = s.avs ∧ (State.passFrame s c frame).tap = s.tap ∧
    (State.passFrame s c frame).pub = s.pub ∧ (State.passFrame s c frame).freeCtr = s.freeCtr ∧
    (State.passFrame s c frame).pending = s.pending := by
  refine ⟨?_, ?_, ?_, ?_, ?_, ?_, ?_, ?_, ?_, ?_⟩ <;> (first | rfl | (simp (maxDischargeDepth := 12) [State.passFrame]; done) | (unfold State.passFrame; (try dsimp only); repeat' (first | rfl | (simp (maxDischargeDepth := 12); done) | split)))

@[simp] theorem State_order_keeps0 (s : State) (c : ChainIx) (h : CmdHdr) (op : Nat) (act : Nat → Cell → Nat × Nat × Cell) :
    (State.order s c h op act).otp = s.otp ∧ (State.order s c h op act).start = s.start ∧ (State.order s c h op act).clk = s.clk ∧
    (State.order s c h op act).win = s.win ∧ (State.order s c h op act).views = s.views ∧ (State.order s c h op act).creg = s.creg ∧
    (State.order s c h op act).eng = s.eng ∧ (State.order s c h op act).doms = s.doms ∧ (State.order s c h op act).lanes = s.lanes ∧
    (State.order s c h op act).sense = s.sense ∧ (State.order s c h op act).dscs = s.dscs := by
  refine ⟨?_, ?_, ?_, ?_, ?_, ?_, ?_, ?_, ?_, ?_, ?_⟩ <;> (first | rfl | (simp (maxDischargeDepth := 12) [State.order]; done) | (unfold State.order; (try dsimp only); repeat' (first | rfl | (simp (maxDischargeDepth := 12); done) | split)))

@[simp] theorem State_order_keeps1 (s : State) (c : ChainIx) (h : CmdHdr) (op : Nat) (act : Nat → Cell → Nat × Nat × Cell) :
    (State.order s c h op act).hkcs = s.hkcs ∧ (State.order s c h op act).tallies = s.tallies ∧
    (State.order s c h op act).ledger = s.ledger ∧ (State.order s c h op act).tiles = s.tiles ∧
    (State.order s c h op act).accts = s.accts ∧ (State.order s c h op act).limits = s.limits ∧ (State.order s c h op act).pace = s.pace ∧
    (State.order s c h op act).therm = s.therm ∧ (State.order s c h op act).diodes = s.diodes ∧
    (State.order s c h op act).stopq = s.stopq ∧ (State.order s c h op act).flt = s.flt := by
  refine ⟨?_, ?_, ?_, ?_, ?_, ?_, ?_, ?_, ?_, ?_, ?_⟩ <;> (first | rfl | (simp (maxDischargeDepth := 12) [State.order]; done) | (unfold State.order; (try dsimp only); repeat' (first | rfl | (simp (maxDischargeDepth := 12); done) | split)))

@[simp] theorem State_order_keeps2 (s : State) (c : ChainIx) (h : CmdHdr) (op : Nat) (act : Nat → Cell → Nat × Nat × Cell) :
    (State.order s c h op act).warden = s.warden ∧ (State.order s c h op act).policy = s.policy ∧
    (State.order s c h op act).rings = s.rings ∧ (State.order s c h op act).smb = s.smb ∧ (State.order s c h op act).avs = s.avs ∧
    (State.order s c h op act).tap = s.tap ∧ (State.order s c h op act).pub = s.pub ∧ (State.order s c h op act).pending = s.pending := by
  refine ⟨?_, ?_, ?_, ?_, ?_, ?_, ?_, ?_⟩ <;> (first | rfl | (simp (maxDischargeDepth := 12) [State.order]; done) | (unfold State.order; (try dsimp only); repeat' (first | rfl | (simp (maxDischargeDepth := 12); done) | split)))

end Sys2Proof.Machine
end

