-- ==== Sys2Proof/Laws/FramesChains.lean ====
section
/-! SUPPORT. The fields of State that the operations of Machine/Chains.lean leave alone. -/

set_option linter.unusedSimpArgs false
set_option linter.unusedVariables false

namespace Sys2Proof.Machine

@[simp] theorem State_sendOrder_keeps0 (s : State) (c : Nat) (o : Order) :
    (State.sendOrder s c o).1.otp = s.otp ∧ (State.sendOrder s c o).1.start = s.start ∧ (State.sendOrder s c o).1.clk = s.clk ∧
    (State.sendOrder s c o).1.win = s.win ∧ (State.sendOrder s c o).1.cells = s.cells ∧ (State.sendOrder s c o).1.views = s.views ∧
    (State.sendOrder s c o).1.creg = s.creg ∧ (State.sendOrder s c o).1.eng = s.eng ∧ (State.sendOrder s c o).1.doms = s.doms ∧
    (State.sendOrder s c o).1.lanes = s.lanes ∧ (State.sendOrder s c o).1.sense = s.sense := by
  refine ⟨?_, ?_, ?_, ?_, ?_, ?_, ?_, ?_, ?_, ?_, ?_⟩ <;> (first | rfl | (simp (maxDischargeDepth := 12) [State.sendOrder]; done) | (unfold State.sendOrder; (try dsimp only); repeat' (first | rfl | (simp (maxDischargeDepth := 12); done) | split)))

@[simp] theorem State_sendOrder_keeps1 (s : State) (c : Nat) (o : Order) :
    (State.sendOrder s c o).1.dscs = s.dscs ∧ (State.sendOrder s c o).1.hkcs = s.hkcs ∧ (State.sendOrder s c o).1.tallies = s.tallies ∧
    (State.sendOrder s c o).1.ledger = s.ledger ∧ (State.sendOrder s c o).1.tiles = s.tiles ∧ (State.sendOrder s c o).1.accts = s.accts ∧
    (State.sendOrder s c o).1.limits = s.limits ∧ (State.sendOrder s c o).1.pace = s.pace ∧ (State.sendOrder s c o).1.therm = s.therm ∧
    (State.sendOrder s c o).1.diodes = s.diodes ∧ (State.sendOrder s c o).1.stopq = s.stopq := by
  refine ⟨?_, ?_, ?_, ?_, ?_, ?_, ?_, ?_, ?_, ?_, ?_⟩ <;> (first | rfl | (simp (maxDischargeDepth := 12) [State.sendOrder]; done) | (unfold State.sendOrder; (try dsimp only); repeat' (first | rfl | (simp (maxDischargeDepth := 12); done) | split)))

@[simp] theorem State_sendOrder_keeps2 (s : State) (c : Nat) (o : Order) :
    (State.sendOrder s c o).1.flt = s.flt ∧ (State.sendOrder s c o).1.warden = s.warden ∧ (State.sendOrder s c o).1.policy = s.policy ∧
    (State.sendOrder s c o).1.rings = s.rings ∧ (State.sendOrder s c o).1.smb = s.smb ∧ (State.sendOrder s c o).1.avs = s.avs ∧
    (State.sendOrder s c o).1.tap = s.tap ∧ (State.sendOrder s c o).1.pub = s.pub ∧ (State.sendOrder s c o).1.freeCtr = s.freeCtr ∧
    (State.sendOrder s c o).1.pending = s.pending := by
  refine ⟨?_, ?_, ?_, ?_, ?_, ?_, ?_, ?_, ?_, ?_⟩ <;> (first | rfl | (simp (maxDischargeDepth := 12) [State.sendOrder]; done) | (unfold State.sendOrder; (try dsimp only); repeat' (first | rfl | (simp (maxDischargeDepth := 12); done) | split)))

@[simp] theorem State_loanBoundary_keeps0 (s : State) (c : Nat) :
    (State.loanBoundary s c).otp = s.otp ∧ (State.loanBoundary s c).start = s.start ∧ (State.loanBoundary s c).clk = s.clk ∧
    (State.loanBoundary s c).win = s.win ∧ (State.loanBoundary s c).cells = s.cells ∧ (State.loanBoundary s c).creg = s.creg ∧
    (State.loanBoundary s c).eng = s.eng ∧ (State.loanBoundary s c).doms = s.doms ∧ (State.loanBoundary s c).lanes = s.lanes ∧
    (State.loanBoundary s c).sense = s.sense ∧ (State.loanBoundary s c).dscs = s.dscs := by
  refine ⟨?_, ?_, ?_, ?_, ?_, ?_, ?_, ?_, ?_, ?_, ?_⟩ <;> (first | rfl | (simp (maxDischargeDepth := 12) [State.loanBoundary]; done) | (unfold State.loanBoundary; (try dsimp only); repeat' (first | rfl | (simp (maxDischargeDepth := 12); done) | split)))

@[simp] theorem State_loanBoundary_keeps1 (s : State) (c : Nat) :
    (State.loanBoundary s c).hkcs = s.hkcs ∧ (State.loanBoundary s c).tallies = s.tallies ∧ (State.loanBoundary s c).ledger = s.ledger ∧
    (State.loanBoundary s c).tiles = s.tiles ∧ (State.loanBoundary s c).accts = s.accts ∧ (State.loanBoundary s c).limits = s.limits ∧
    (State.loanBoundary s c).pace = s.pace ∧ (State.loanBoundary s c).therm = s.therm ∧ (State.loanBoundary s c).diodes = s.diodes ∧
    (State.loanBoundary s c).stopq = s.stopq ∧ (State.loanBoundary s c).flt = s.flt := by
  refine ⟨?_, ?_, ?_, ?_, ?_, ?_, ?_, ?_, ?_, ?_, ?_⟩ <;> (first | rfl | (simp (maxDischargeDepth := 12) [State.loanBoundary]; done) | (unfold State.loanBoundary; (try dsimp only); repeat' (first | rfl | (simp (maxDischargeDepth := 12); done) | split)))

@[simp] theorem State_loanBoundary_keeps2 (s : State) (c : Nat) :
    (State.loanBoundary s c).warden = s.warden ∧ (State.loanBoundary s c).policy = s.policy ∧ (State.loanBoundary s c).rings = s.rings ∧
    (State.loanBoundary s c).smb = s.smb ∧ (State.loanBoundary s c).avs = s.avs ∧ (State.loanBoundary s c).tap = s.tap ∧
    (State.loanBoundary s c).pub = s.pub ∧ (State.loanBoundary s c).freeCtr = s.freeCtr ∧ (State.loanBoundary s c).pending = s.pending := by
  refine ⟨?_, ?_, ?_, ?_, ?_, ?_, ?_, ?_, ?_⟩ <;> (first | rfl | (simp (maxDischargeDepth := 12) [State.loanBoundary]; done) | (unfold State.loanBoundary; (try dsimp only); repeat' (first | rfl | (simp (maxDischargeDepth := 12); done) | split)))

@[simp] theorem State_writeCoefs_keeps0 (s : State) (c : Nat) (i : Nat) (addr : Nat) :
    (State.writeCoefs s c i addr).otp = s.otp ∧ (State.writeCoefs s c i addr).start = s.start ∧
    (State.writeCoefs s c i addr).clk = s.clk ∧ (State.writeCoefs s c i addr).win = s.win ∧
    (State.writeCoefs s c i addr).views = s.views ∧ (State.writeCoefs s c i addr).creg = s.creg ∧
    (State.writeCoefs s c i addr).eng = s.eng ∧ (State.writeCoefs s c i addr).doms = s.doms ∧
    (State.writeCoefs s c i addr).lanes = s.lanes ∧ (State.writeCoefs s c i addr).sense = s.sense ∧
    (State.writeCoefs s c i addr).dscs = s.dscs := by
  refine ⟨?_, ?_, ?_, ?_, ?_, ?_, ?_, ?_, ?_, ?_, ?_⟩ <;> (first | rfl | (simp (maxDischargeDepth := 12) [State.writeCoefs]; done) | (unfold State.writeCoefs; (try dsimp only); repeat' (first | rfl | (simp (maxDischargeDepth := 12); done) | split)))

@[simp] theorem State_writeCoefs_keeps1 (s : State) (c : Nat) (i : Nat) (addr : Nat) :
    (State.writeCoefs s c i addr).hkcs = s.hkcs ∧ (State.writeCoefs s c i addr).tallies = s.tallies ∧
    (State.writeCoefs s c i addr).ledger = s.ledger ∧ (State.writeCoefs s c i addr).tiles = s.tiles ∧
    (State.writeCoefs s c i addr).accts = s.accts ∧ (State.writeCoefs s c i addr).limits = s.limits ∧
    (State.writeCoefs s c i addr).pace = s.pace ∧ (State.writeCoefs s c i addr).therm = s.therm ∧
    (State.writeCoefs s c i addr).diodes = s.diodes ∧ (State.writeCoefs s c i addr).stopq = s.stopq ∧
    (State.writeCoefs s c i addr).flt = s.flt := by
  refine ⟨?_, ?_, ?_, ?_, ?_, ?_, ?_, ?_, ?_, ?_, ?_⟩ <;> (first | rfl | (simp (maxDischargeDepth := 12) [State.writeCoefs]; done) | (unfold State.writeCoefs; (try dsimp only); repeat' (first | rfl | (simp (maxDischargeDepth := 12); done) | split)))

@[simp] theorem State_writeCoefs_keeps2 (s : State) (c : Nat) (i : Nat) (addr : Nat) :
    (State.writeCoefs s c i addr).warden = s.warden ∧ (State.writeCoefs s c i addr).policy = s.policy ∧
    (State.writeCoefs s c i addr).rings = s.rings ∧ (State.writeCoefs s c i addr).smb = s.smb ∧
    (State.writeCoefs s c i addr).avs = s.avs ∧ (State.writeCoefs s c i addr).tap = s.tap ∧ (State.writeCoefs s c i addr).pub = s.pub ∧
    (State.writeCoefs s c i addr).freeCtr = s.freeCtr ∧ (State.writeCoefs s c i addr).pending = s.pending := by
  refine ⟨?_, ?_, ?_, ?_, ?_, ?_, ?_, ?_, ?_⟩ <;> (first | rfl | (simp (maxDischargeDepth := 12) [State.writeCoefs]; done) | (unfold State.writeCoefs; (try dsimp only); repeat' (first | rfl | (simp (maxDischargeDepth := 12); done) | split)))

@[simp] theorem State_repairMoves_keeps0 (s : State) (c : Nat) :
    (State.repairMoves s c).otp = s.otp ∧ (State.repairMoves s c).start = s.start ∧ (State.repairMoves s c).clk = s.clk ∧
    (State.repairMoves s c).win = s.win ∧ (State.repairMoves s c).views = s.views ∧ (State.repairMoves s c).creg = s.creg ∧
    (State.repairMoves s c).eng = s.eng ∧ (State.repairMoves s c).doms = s.doms ∧ (State.repairMoves s c).lanes = s.lanes ∧
    (State.repairMoves s c).sense = s.sense ∧ (State.repairMoves s c).dscs = s.dscs := by
  refine ⟨?_, ?_, ?_, ?_, ?_, ?_, ?_, ?_, ?_, ?_, ?_⟩ <;> (first | rfl | (simp (maxDischargeDepth := 12) [State.repairMoves]; done) | (unfold State.repairMoves; (try dsimp only); repeat' (first | rfl | (simp (maxDischargeDepth := 12); done) | split)))

@[simp] theorem State_repairMoves_keeps1 (s : State) (c : Nat) :
    (State.repairMoves s c).hkcs = s.hkcs ∧ (State.repairMoves s c).tallies = s.tallies ∧ (State.repairMoves s c).ledger = s.ledger ∧
    (State.repairMoves s c).tiles = s.tiles ∧ (State.repairMoves s c).accts = s.accts ∧ (State.repairMoves s c).limits = s.limits ∧
    (State.repairMoves s c).pace = s.pace ∧ (State.repairMoves s c).therm = s.therm ∧ (State.repairMoves s c).diodes = s.diodes ∧
    (State.repairMoves s c).stopq = s.stopq ∧ (State.repairMoves s c).flt = s.flt := by
  refine ⟨?_, ?_, ?_, ?_, ?_, ?_, ?_, ?_, ?_, ?_, ?_⟩ <;> (first | rfl | (simp (maxDischargeDepth := 12) [State.repairMoves]; done) | (unfold State.repairMoves; (try dsimp only); repeat' (first | rfl | (simp (maxDischargeDepth := 12); done) | split)))

@[simp] theorem State_repairMoves_keeps2 (s : State) (c : Nat) :
    (State.repairMoves s c).warden = s.warden ∧ (State.repairMoves s c).policy = s.policy ∧ (State.repairMoves s c).rings = s.rings ∧
    (State.repairMoves s c).smb = s.smb ∧ (State.repairMoves s c).avs = s.avs ∧ (State.repairMoves s c).tap = s.tap ∧
    (State.repairMoves s c).pub = s.pub ∧ (State.repairMoves s c).freeCtr = s.freeCtr ∧ (State.repairMoves s c).pending = s.pending := by
  refine ⟨?_, ?_, ?_, ?_, ?_, ?_, ?_, ?_, ?_⟩ <;> (first | rfl | (simp (maxDischargeDepth := 12) [State.repairMoves]; done) | (unfold State.repairMoves; (try dsimp only); repeat' (first | rfl | (simp (maxDischargeDepth := 12); done) | split)))

@[simp] theorem State_reportsLost_keeps0 (s : State) (c : Nat) (lo : Nat) (hi : Nat) :
    (State.reportsLost s c lo hi).otp = s.otp ∧ (State.reportsLost s c lo hi).start = s.start ∧
    (State.reportsLost s c lo hi).clk = s.clk ∧ (State.reportsLost s c lo hi).win = s.win ∧
    (State.reportsLost s c lo hi).views = s.views ∧ (State.reportsLost s c lo hi).chains = s.chains ∧
    (State.reportsLost s c lo hi).creg = s.creg ∧ (State.reportsLost s c lo hi).eng = s.eng ∧
    (State.reportsLost s c lo hi).doms = s.doms ∧ (State.reportsLost s c lo hi).lanes = s.lanes ∧
    (State.reportsLost s c lo hi).sense = s.sense := by
  refine ⟨?_, ?_, ?_, ?_, ?_, ?_, ?_, ?_, ?_, ?_, ?_⟩ <;> (first | rfl | (simp (maxDischargeDepth := 12) [State.reportsLost]; done) | (unfold State.reportsLost; (try dsimp only); repeat' (first | rfl | (simp (maxDischargeDepth := 12); done) | split)))

@[simp] theorem State_reportsLost_keeps1 (s : State) (c : Nat) (lo : Nat) (hi : Nat) :
    (State.reportsLost s c lo hi).dscs = s.dscs ∧ (State.reportsLost s c lo hi).hkcs = s.hkcs ∧
    (State.reportsLost s c lo hi).tallies = s.tallies ∧ (State.reportsLost s c lo hi).ledger = s.ledger ∧
    (State.reportsLost s c lo hi).tiles = s.tiles ∧ (State.reportsLost s c lo hi).accts = s.accts ∧
    (State.reportsLost s c lo hi).limits = s.limits ∧ (State.reportsLost s c lo hi).pace = s.pace ∧
    (State.reportsLost s c lo hi).therm = s.therm ∧ (State.reportsLost s c lo hi).diodes = s.diodes ∧
    (State.reportsLost s c lo hi).stopq = s.stopq := by
  refine ⟨?_, ?_, ?_, ?_, ?_, ?_, ?_, ?_, ?_, ?_, ?_⟩ <;> (first | rfl | (simp (maxDischargeDepth := 12) [State.reportsLost]; done) | (unfold State.reportsLost; (try dsimp only); repeat' (first | rfl | (simp (maxDischargeDepth := 12); done) | split)))

@[simp] theorem State_reportsLost_keeps2 (s : State) (c : Nat) (lo : Nat) (hi : Nat) :
    (State.reportsLost s c lo hi).flt = s.flt ∧ (State.reportsLost s c lo hi).warden = s.warden ∧
    (State.reportsLost s c lo hi).policy = s.policy ∧ (State.reportsLost s c lo hi).rings = s.rings ∧
    (State.reportsLost s c lo hi).smb = s.smb ∧ (State.reportsLost s c lo hi).avs = s.avs ∧ (State.reportsLost s c lo hi).tap = s.tap ∧
    (State.reportsLost s c lo hi).pub = s.pub ∧ (State.reportsLost s c lo hi).freeCtr = s.freeCtr ∧
    (State.reportsLost s c lo hi).pending = s.pending := by
  refine ⟨?_, ?_, ?_, ?_, ?_, ?_, ?_, ?_, ?_, ?_⟩ <;> (first | rfl | (simp (maxDischargeDepth := 12) [State.reportsLost]; done) | (unfold State.reportsLost; (try dsimp only); repeat' (first | rfl | (simp (maxDischargeDepth := 12); done) | split)))

end Sys2Proof.Machine
end

