-- ==== Sys2Proof/Laws/FramesSense.lean ====
section
/-! SUPPORT. The fields of State that the operations of Machine/Sense.lean leave alone. -/

set_option linter.unusedSimpArgs false
set_option linter.unusedVariables false

namespace Sys2Proof.Machine

@[simp] theorem State_tallyAdd_keeps0 (s : State) (conv : Nat) (t : Nat) (x : Int) (ovr : Bool) :
    (State.tallyAdd s conv t x ovr).otp = s.otp ∧ (State.tallyAdd s conv t x ovr).start = s.start ∧
    (State.tallyAdd s conv t x ovr).clk = s.clk ∧ (State.tallyAdd s conv t x ovr).win = s.win ∧
    (State.tallyAdd s conv t x ovr).cells = s.cells ∧ (State.tallyAdd s conv t x ovr).views = s.views ∧
    (State.tallyAdd s conv t x ovr).chains = s.chains ∧ (State.tallyAdd s conv t x ovr).creg = s.creg ∧
    (State.tallyAdd s conv t x ovr).eng = s.eng ∧ (State.tallyAdd s conv t x ovr).doms = s.doms ∧
    (State.tallyAdd s conv t x ovr).lanes = s.lanes := by
  refine ⟨?_, ?_, ?_, ?_, ?_, ?_, ?_, ?_, ?_, ?_, ?_⟩ <;> (first | rfl | (simp (maxDischargeDepth := 12) [State.tallyAdd]; done) | (unfold State.tallyAdd; (try dsimp only); repeat' (first | rfl | (simp (maxDischargeDepth := 12); done) | split)))

@[simp] theorem State_tallyAdd_keeps1 (s : State) (conv : Nat) (t : Nat) (x : Int) (ovr : Bool) :
    (State.tallyAdd s conv t x ovr).sense = s.sense ∧ (State.tallyAdd s conv t x ovr).dscs = s.dscs ∧
    (State.tallyAdd s conv t x ovr).hkcs = s.hkcs ∧ (State.tallyAdd s conv t x ovr).ledger = s.ledger ∧
    (State.tallyAdd s conv t x ovr).tiles = s.tiles ∧ (State.tallyAdd s conv t x ovr).accts = s.accts ∧
    (State.tallyAdd s conv t x ovr).limits = s.limits ∧ (State.tallyAdd s conv t x ovr).pace = s.pace ∧
    (State.tallyAdd s conv t x ovr).therm = s.therm ∧ (State.tallyAdd s conv t x ovr).diodes = s.diodes ∧
    (State.tallyAdd s conv t x ovr).stopq = s.stopq := by
  refine ⟨?_, ?_, ?_, ?_, ?_, ?_, ?_, ?_, ?_, ?_, ?_⟩ <;> (first | rfl | (simp (maxDischargeDepth := 12) [State.tallyAdd]; done) | (unfold State.tallyAdd; (try dsimp only); repeat' (first | rfl | (simp (maxDischargeDepth := 12); done) | split)))

@[simp] theorem State_tallyAdd_keeps2 (s : State) (conv : Nat) (t : Nat) (x : Int) (ovr : Bool) :
    (State.tallyAdd s conv t x ovr).flt = s.flt ∧ (State.tallyAdd s conv t x ovr).warden = s.warden ∧
    (State.tallyAdd s conv t x ovr).policy = s.policy ∧ (State.tallyAdd s conv t x ovr).rings = s.rings ∧
    (State.tallyAdd s conv t x ovr).smb = s.smb ∧ (State.tallyAdd s conv t x ovr).avs = s.avs ∧
    (State.tallyAdd s conv t x ovr).tap = s.tap ∧ (State.tallyAdd s conv t x ovr).pub = s.pub ∧
    (State.tallyAdd s conv t x ovr).freeCtr = s.freeCtr ∧ (State.tallyAdd s conv t x ovr).pending = s.pending := by
  refine ⟨?_, ?_, ?_, ?_, ?_, ?_, ?_, ?_, ?_, ?_⟩ <;> (first | rfl | (simp (maxDischargeDepth := 12) [State.tallyAdd]; done) | (unfold State.tallyAdd; (try dsimp only); repeat' (first | rfl | (simp (maxDischargeDepth := 12); done) | split)))

@[simp] theorem State_reconf_keeps0 (s : State) (conv : Nat) (ts : List Nat) :
    (State.reconf s conv ts).otp = s.otp ∧ (State.reconf s conv ts).start = s.start ∧ (State.reconf s conv ts).clk = s.clk ∧
    (State.reconf s conv ts).win = s.win ∧ (State.reconf s conv ts).cells = s.cells ∧ (State.reconf s conv ts).views = s.views ∧
    (State.reconf s conv ts).chains = s.chains ∧ (State.reconf s conv ts).creg = s.creg ∧ (State.reconf s conv ts).eng = s.eng ∧
    (State.reconf s conv ts).doms = s.doms ∧ (State.reconf s conv ts).lanes = s.lanes := by
  refine ⟨?_, ?_, ?_, ?_, ?_, ?_, ?_, ?_, ?_, ?_, ?_⟩ <;> (first | rfl | (simp (maxDischargeDepth := 12) [State.reconf]; done) | (unfold State.reconf; (try dsimp only); repeat' (first | rfl | (simp (maxDischargeDepth := 12); done) | split)))

@[simp] theorem State_reconf_keeps1 (s : State) (conv : Nat) (ts : List Nat) :
    (State.reconf s conv ts).sense = s.sense ∧ (State.reconf s conv ts).dscs = s.dscs ∧ (State.reconf s conv ts).hkcs = s.hkcs ∧
    (State.reconf s conv ts).ledger = s.ledger ∧ (State.reconf s conv ts).tiles = s.tiles ∧ (State.reconf s conv ts).accts = s.accts ∧
    (State.reconf s conv ts).limits = s.limits ∧ (State.reconf s conv ts).pace = s.pace ∧ (State.reconf s conv ts).therm = s.therm ∧
    (State.reconf s conv ts).diodes = s.diodes ∧ (State.reconf s conv ts).stopq = s.stopq := by
  refine ⟨?_, ?_, ?_, ?_, ?_, ?_, ?_, ?_, ?_, ?_, ?_⟩ <;> (first | rfl | (simp (maxDischargeDepth := 12) [State.reconf]; done) | (unfold State.reconf; (try dsimp only); repeat' (first | rfl | (simp (maxDischargeDepth := 12); done) | split)))

@[simp] theorem State_reconf_keeps2 (s : State) (conv : Nat) (ts : List Nat) :
    (State.reconf s conv ts).flt = s.flt ∧ (State.reconf s conv ts).warden = s.warden ∧ (State.reconf s conv ts).policy = s.policy ∧
    (State.reconf s conv ts).rings = s.rings ∧ (State.reconf s conv ts).smb = s.smb ∧ (State.reconf s conv ts).avs = s.avs ∧
    (State.reconf s conv ts).tap = s.tap ∧ (State.reconf s conv ts).pub = s.pub ∧ (State.reconf s conv ts).freeCtr = s.freeCtr ∧
    (State.reconf s conv ts).pending = s.pending := by
  refine ⟨?_, ?_, ?_, ?_, ?_, ?_, ?_, ?_, ?_, ?_⟩ <;> (first | rfl | (simp (maxDischargeDepth := 12) [State.reconf]; done) | (unfold State.reconf; (try dsimp only); repeat' (first | rfl | (simp (maxDischargeDepth := 12); done) | split)))

@[simp] theorem State_entryResult_keeps0 (s : State) (d : Nat) (smp : SenseSample) :
    (State.entryResult s d smp).otp = s.otp ∧ (State.entryResult s d smp).start = s.start ∧ (State.entryResult s d smp).clk = s.clk ∧
    (State.entryResult s d smp).win = s.win ∧ (State.entryResult s d smp).cells = s.cells ∧ (State.entryResult s d smp).views = s.views ∧
    (State.entryResult s d smp).chains = s.chains ∧ (State.entryResult s d smp).creg = s.creg ∧ (State.entryResult s d smp).eng = s.eng ∧
    (State.entryResult s d smp).doms = s.doms ∧ (State.entryResult s d smp).lanes = s.lanes := by
  refine ⟨?_, ?_, ?_, ?_, ?_, ?_, ?_, ?_, ?_, ?_, ?_⟩ <;> (first | rfl | (simp (maxDischargeDepth := 12) [State.entryResult]; done) | (unfold State.entryResult; (try dsimp only); repeat' (first | rfl | (simp (maxDischargeDepth := 12); done) | split)))

@[simp] theorem State_entryResult_keeps1 (s : State) (d : Nat) (smp : SenseSample) :
    (State.entryResult s d smp).sense = s.sense ∧ (State.entryResult s d smp).dscs = s.dscs ∧ (State.entryResult s d smp).hkcs = s.hkcs ∧
    (State.entryResult s d smp).ledger = s.ledger ∧ (State.entryResult s d smp).tiles = s.tiles ∧
    (State.entryResult s d smp).accts = s.accts ∧ (State.entryResult s d smp).limits = s.limits ∧
    (State.entryResult s d smp).pace = s.pace ∧ (State.entryResult s d smp).therm = s.therm ∧
    (State.entryResult s d smp).diodes = s.diodes ∧ (State.entryResult s d smp).stopq = s.stopq := by
  refine ⟨?_, ?_, ?_, ?_, ?_, ?_, ?_, ?_, ?_, ?_, ?_⟩ <;> (first | rfl | (simp (maxDischargeDepth := 12) [State.entryResult]; done) | (unfold State.entryResult; (try dsimp only); repeat' (first | rfl | (simp (maxDischargeDepth := 12); done) | split)))

@[simp] theorem State_entryResult_keeps2 (s : State) (d : Nat) (smp : SenseSample) :
    (State.entryResult s d smp).flt = s.flt ∧ (State.entryResult s d smp).warden = s.warden ∧
    (State.entryResult s d smp).policy = s.policy ∧ (State.entryResult s d smp).rings = s.rings ∧
    (State.entryResult s d smp).smb = s.smb ∧ (State.entryResult s d smp).avs = s.avs ∧ (State.entryResult s d smp).tap = s.tap ∧
    (State.entryResult s d smp).pub = s.pub ∧ (State.entryResult s d smp).freeCtr = s.freeCtr ∧
    (State.entryResult s d smp).pending = s.pending := by
  refine ⟨?_, ?_, ?_, ?_, ?_, ?_, ?_, ?_, ?_, ?_⟩ <;> (first | rfl | (simp (maxDischargeDepth := 12) [State.entryResult]; done) | (unfold State.entryResult; (try dsimp only); repeat' (first | rfl | (simp (maxDischargeDepth := 12); done) | split)))

@[simp] theorem State_tallyCaptureOp_keeps0 (s : State) (v : Word) :
    (State.tallyCaptureOp s v).otp = s.otp ∧ (State.tallyCaptureOp s v).start = s.start ∧ (State.tallyCaptureOp s v).clk = s.clk ∧
    (State.tallyCaptureOp s v).win = s.win ∧ (State.tallyCaptureOp s v).cells = s.cells ∧ (State.tallyCaptureOp s v).views = s.views ∧
    (State.tallyCaptureOp s v).chains = s.chains ∧ (State.tallyCaptureOp s v).creg = s.creg ∧ (State.tallyCaptureOp s v).eng = s.eng ∧
    (State.tallyCaptureOp s v).doms = s.doms ∧ (State.tallyCaptureOp s v).lanes = s.lanes := by
  refine ⟨?_, ?_, ?_, ?_, ?_, ?_, ?_, ?_, ?_, ?_, ?_⟩ <;> (first | rfl | (simp (maxDischargeDepth := 12) [State.tallyCaptureOp]; done) | (unfold State.tallyCaptureOp; (try dsimp only); repeat' (first | rfl | (simp (maxDischargeDepth := 12); done) | split)))

@[simp] theorem State_tallyCaptureOp_keeps1 (s : State) (v : Word) :
    (State.tallyCaptureOp s v).dscs = s.dscs ∧ (State.tallyCaptureOp s v).hkcs = s.hkcs ∧ (State.tallyCaptureOp s v).tallies = s.tallies ∧
    (State.tallyCaptureOp s v).ledger = s.ledger ∧ (State.tallyCaptureOp s v).tiles = s.tiles ∧
    (State.tallyCaptureOp s v).accts = s.accts ∧ (State.tallyCaptureOp s v).limits = s.limits ∧ (State.tallyCaptureOp s v).pace = s.pace ∧
    (State.tallyCaptureOp s v).therm = s.therm ∧ (State.tallyCaptureOp s v).diodes = s.diodes ∧ (State.tallyCaptureOp s v).stopq = s.stopq := by
  refine ⟨?_, ?_, ?_, ?_, ?_, ?_, ?_, ?_, ?_, ?_, ?_⟩ <;> (first | rfl | (simp (maxDischargeDepth := 12) [State.tallyCaptureOp]; done) | (unfold State.tallyCaptureOp; (try dsimp only); repeat' (first | rfl | (simp (maxDischargeDepth := 12); done) | split)))

@[simp] theorem State_tallyCaptureOp_keeps2 (s : State) (v : Word) :
    (State.tallyCaptureOp s v).flt = s.flt ∧ (State.tallyCaptureOp s v).warden = s.warden ∧ (State.tallyCaptureOp s v).policy = s.policy ∧
    (State.tallyCaptureOp s v).rings = s.rings ∧ (State.tallyCaptureOp s v).smb = s.smb ∧ (State.tallyCaptureOp s v).avs = s.avs ∧
    (State.tallyCaptureOp s v).tap = s.tap ∧ (State.tallyCaptureOp s v).pub = s.pub ∧ (State.tallyCaptureOp s v).freeCtr = s.freeCtr ∧
    (State.tallyCaptureOp s v).pending = s.pending := by
  refine ⟨?_, ?_, ?_, ?_, ?_, ?_, ?_, ?_, ?_, ?_⟩ <;> (first | rfl | (simp (maxDischargeDepth := 12) [State.tallyCaptureOp]; done) | (unfold State.tallyCaptureOp; (try dsimp only); repeat' (first | rfl | (simp (maxDischargeDepth := 12); done) | split)))

@[simp] theorem State_tallyClearOp_keeps0 (s : State) (conv : Nat) (mask : Nat) :
    (State.tallyClearOp s conv mask).otp = s.otp ∧ (State.tallyClearOp s conv mask).start = s.start ∧
    (State.tallyClearOp s conv mask).clk = s.clk ∧ (State.tallyClearOp s conv mask).win = s.win ∧
    (State.tallyClearOp s conv mask).cells = s.cells ∧ (State.tallyClearOp s conv mask).views = s.views ∧
    (State.tallyClearOp s conv mask).chains = s.chains ∧ (State.tallyClearOp s conv mask).creg = s.creg ∧
    (State.tallyClearOp s conv mask).eng = s.eng ∧ (State.tallyClearOp s conv mask).doms = s.doms ∧
    (State.tallyClearOp s conv mask).lanes = s.lanes := by
  refine ⟨?_, ?_, ?_, ?_, ?_, ?_, ?_, ?_, ?_, ?_, ?_⟩ <;> (first | rfl | (simp (maxDischargeDepth := 12) [State.tallyClearOp]; done) | (unfold State.tallyClearOp; (try dsimp only); repeat' (first | rfl | (simp (maxDischargeDepth := 12); done) | split)))

@[simp] theorem State_tallyClearOp_keeps1 (s : State) (conv : Nat) (mask : Nat) :
    (State.tallyClearOp s conv mask).sense = s.sense ∧ (State.tallyClearOp s conv mask).dscs = s.dscs ∧
    (State.tallyClearOp s conv mask).hkcs = s.hkcs ∧ (State.tallyClearOp s conv mask).ledger = s.ledger ∧
    (State.tallyClearOp s conv mask).tiles = s.tiles ∧ (State.tallyClearOp s conv mask).accts = s.accts ∧
    (State.tallyClearOp s conv mask).limits = s.limits ∧ (State.tallyClearOp s conv mask).pace = s.pace ∧
    (State.tallyClearOp s conv mask).therm = s.therm ∧ (State.tallyClearOp s conv mask).diodes = s.diodes ∧
    (State.tallyClearOp s conv mask).stopq = s.stopq := by
  refine ⟨?_, ?_, ?_, ?_, ?_, ?_, ?_, ?_, ?_, ?_, ?_⟩ <;> (first | rfl | (simp (maxDischargeDepth := 12) [State.tallyClearOp]; done) | (unfold State.tallyClearOp; (try dsimp only); repeat' (first | rfl | (simp (maxDischargeDepth := 12); done) | split)))

@[simp] theorem State_tallyClearOp_keeps2 (s : State) (conv : Nat) (mask : Nat) :
    (State.tallyClearOp s conv mask).flt = s.flt ∧ (State.tallyClearOp s conv mask).warden = s.warden ∧
    (State.tallyClearOp s conv mask).policy = s.policy ∧ (State.tallyClearOp s conv mask).rings = s.rings ∧
    (State.tallyClearOp s conv mask).smb = s.smb ∧ (State.tallyClearOp s conv mask).avs = s.avs ∧
    (State.tallyClearOp s conv mask).tap = s.tap ∧ (State.tallyClearOp s conv mask).pub = s.pub ∧
    (State.tallyClearOp s conv mask).freeCtr = s.freeCtr ∧ (State.tallyClearOp s conv mask).pending = s.pending := by
  refine ⟨?_, ?_, ?_, ?_, ?_, ?_, ?_, ?_, ?_, ?_⟩ <;> (first | rfl | (simp (maxDischargeDepth := 12) [State.tallyClearOp]; done) | (unfold State.tallyClearOp; (try dsimp only); repeat' (first | rfl | (simp (maxDischargeDepth := 12); done) | split)))

@[simp] theorem State_refSelectOp_keeps0 (s : State) (sel : Nat) :
    (State.refSelectOp s sel).otp = s.otp ∧ (State.refSelectOp s sel).start = s.start ∧ (State.refSelectOp s sel).clk = s.clk ∧
    (State.refSelectOp s sel).win = s.win ∧ (State.refSelectOp s sel).cells = s.cells ∧ (State.refSelectOp s sel).views = s.views ∧
    (State.refSelectOp s sel).chains = s.chains ∧ (State.refSelectOp s sel).creg = s.creg ∧ (State.refSelectOp s sel).eng = s.eng ∧
    (State.refSelectOp s sel).doms = s.doms ∧ (State.refSelectOp s sel).lanes = s.lanes := by
  refine ⟨?_, ?_, ?_, ?_, ?_, ?_, ?_, ?_, ?_, ?_, ?_⟩ <;> (first | rfl | (simp (maxDischargeDepth := 12) [State.refSelectOp]; done) | (unfold State.refSelectOp; (try dsimp only); repeat' (first | rfl | (simp (maxDischargeDepth := 12); done) | split)))

@[simp] theorem State_refSelectOp_keeps1 (s : State) (sel : Nat) :
    (State.refSelectOp s sel).dscs = s.dscs ∧ (State.refSelectOp s sel).hkcs = s.hkcs ∧ (State.refSelectOp s sel).tallies = s.tallies ∧
    (State.refSelectOp s sel).ledger = s.ledger ∧ (State.refSelectOp s sel).tiles = s.tiles ∧ (State.refSelectOp s sel).accts = s.accts ∧
    (State.refSelectOp s sel).limits = s.limits ∧ (State.refSelectOp s sel).pace = s.pace ∧ (State.refSelectOp s sel).therm = s.therm ∧
    (State.refSelectOp s sel).diodes = s.diodes ∧ (State.refSelectOp s sel).stopq = s.stopq := by
  refine ⟨?_, ?_, ?_, ?_, ?_, ?_, ?_, ?_, ?_, ?_, ?_⟩ <;> (first | rfl | (simp (maxDischargeDepth := 12) [State.refSelectOp]; done) | (unfold State.refSelectOp; (try dsimp only); repeat' (first | rfl | (simp (maxDischargeDepth := 12); done) | split)))

@[simp] theorem State_refSelectOp_keeps2 (s : State) (sel : Nat) :
    (State.refSelectOp s sel).flt = s.flt ∧ (State.refSelectOp s sel).warden = s.warden ∧ (State.refSelectOp s sel).policy = s.policy ∧
    (State.refSelectOp s sel).rings = s.rings ∧ (State.refSelectOp s sel).smb = s.smb ∧ (State.refSelectOp s sel).avs = s.avs ∧
    (State.refSelectOp s sel).tap = s.tap ∧ (State.refSelectOp s sel).pub = s.pub ∧ (State.refSelectOp s sel).freeCtr = s.freeCtr ∧
    (State.refSelectOp s sel).pending = s.pending := by
  refine ⟨?_, ?_, ?_, ?_, ?_, ?_, ?_, ?_, ?_, ?_⟩ <;> (first | rfl | (simp (maxDischargeDepth := 12) [State.refSelectOp]; done) | (unfold State.refSelectOp; (try dsimp only); repeat' (first | rfl | (simp (maxDischargeDepth := 12); done) | split)))

@[simp] theorem State_concludeList_keeps0 (s : State) (l : List (Nat × Nat)) (pass : Nat → Bool) :
    (State.concludeList s l pass).otp = s.otp ∧ (State.concludeList s l pass).start = s.start ∧
    (State.concludeList s l pass).clk = s.clk ∧ (State.concludeList s l pass).win = s.win ∧
    (State.concludeList s l pass).cells = s.cells ∧ (State.concludeList s l pass).views = s.views ∧
    (State.concludeList s l pass).chains = s.chains ∧ (State.concludeList s l pass).creg = s.creg ∧
    (State.concludeList s l pass).eng = s.eng ∧ (State.concludeList s l pass).doms = s.doms ∧
    (State.concludeList s l pass).lanes = s.lanes := by
  refine ⟨?_, ?_, ?_, ?_, ?_, ?_, ?_, ?_, ?_, ?_, ?_⟩ <;> (first | rfl | (simp (maxDischargeDepth := 12) [State.concludeList]; done) | (unfold State.concludeList; (try dsimp only); repeat' (first | rfl | (simp (maxDischargeDepth := 12); done) | split)))

@[simp] theorem State_concludeList_keeps1 (s : State) (l : List (Nat × Nat)) (pass : Nat → Bool) :
    (State.concludeList s l pass).sense = s.sense ∧ (State.concludeList s l pass).dscs = s.dscs ∧
    (State.concludeList s l pass).hkcs = s.hkcs ∧ (State.concludeList s l pass).tallies = s.tallies ∧
    (State.concludeList s l pass).ledger = s.ledger ∧ (State.concludeList s l pass).tiles = s.tiles ∧
    (State.concludeList s l pass).accts = s.accts ∧ (State.concludeList s l pass).limits = s.limits ∧
    (State.concludeList s l pass).pace = s.pace ∧ (State.concludeList s l pass).therm = s.therm ∧
    (State.concludeList s l pass).diodes = s.diodes := by
  refine ⟨?_, ?_, ?_, ?_, ?_, ?_, ?_, ?_, ?_, ?_, ?_⟩ <;> (first | rfl | (simp (maxDischargeDepth := 12) [State.concludeList]; done) | (unfold State.concludeList; (try dsimp only); repeat' (first | rfl | (simp (maxDischargeDepth := 12); done) | split)))

@[simp] theorem State_concludeList_keeps2 (s : State) (l : List (Nat × Nat)) (pass : Nat → Bool) :
    (State.concludeList s l pass).stopq = s.stopq ∧ (State.concludeList s l pass).warden = s.warden ∧
    (State.concludeList s l pass).policy = s.policy ∧ (State.concludeList s l pass).rings = s.rings ∧
    (State.concludeList s l pass).smb = s.smb ∧ (State.concludeList s l pass).avs = s.avs ∧ (State.concludeList s l pass).tap = s.tap ∧
    (State.concludeList s l pass).pub = s.pub ∧ (State.concludeList s l pass).freeCtr = s.freeCtr ∧
    (State.concludeList s l pass).pending = s.pending := by
  refine ⟨?_, ?_, ?_, ?_, ?_, ?_, ?_, ?_, ?_, ?_⟩ <;> (first | rfl | (simp (maxDischargeDepth := 12) [State.concludeList]; done) | (unfold State.concludeList; (try dsimp only); repeat' (first | rfl | (simp (maxDischargeDepth := 12); done) | split)))

@[simp] theorem State_roundClose_keeps0 (s : State) (epoch : Nat) :
    (State.roundClose s epoch).otp = s.otp ∧ (State.roundClose s epoch).start = s.start ∧ (State.roundClose s epoch).clk = s.clk ∧
    (State.roundClose s epoch).win = s.win ∧ (State.roundClose s epoch).cells = s.cells ∧ (State.roundClose s epoch).chains = s.chains ∧
    (State.roundClose s epoch).creg = s.creg ∧ (State.roundClose s epoch).eng = s.eng ∧ (State.roundClose s epoch).doms = s.doms ∧
    (State.roundClose s epoch).lanes = s.lanes ∧ (State.roundClose s epoch).dscs = s.dscs := by
  refine ⟨?_, ?_, ?_, ?_, ?_, ?_, ?_, ?_, ?_, ?_, ?_⟩ <;> (first | rfl | (simp (maxDischargeDepth := 12) [State.roundClose]; done) | (unfold State.roundClose; (try dsimp only); repeat' (first | rfl | (simp (maxDischargeDepth := 12); done) | split)))

@[simp] theorem State_roundClose_keeps1 (s : State) (epoch : Nat) :
    (State.roundClose s epoch).ledger = s.ledger ∧ (State.roundClose s epoch).tiles = s.tiles ∧
    (State.roundClose s epoch).accts = s.accts ∧ (State.roundClose s epoch).pace = s.pace ∧ (State.roundClose s epoch).stopq = s.stopq ∧
    (State.roundClose s epoch).flt = s.flt ∧ (State.roundClose s epoch).warden = s.warden ∧ (State.roundClose s epoch).policy = s.policy ∧
    (State.roundClose s epoch).rings = s.rings ∧ (State.roundClose s epoch).smb = s.smb ∧ (State.roundClose s epoch).avs = s.avs := by
  refine ⟨?_, ?_, ?_, ?_, ?_, ?_, ?_, ?_, ?_, ?_, ?_⟩ <;> (first | rfl | (simp (maxDischargeDepth := 12) [State.roundClose]; done) | (unfold State.roundClose; (try dsimp only); repeat' (first | rfl | (simp (maxDischargeDepth := 12); done) | split)))

@[simp] theorem State_roundClose_keeps2 (s : State) (epoch : Nat) :
    (State.roundClose s epoch).tap = s.tap ∧ (State.roundClose s epoch).freeCtr = s.freeCtr ∧
    (State.roundClose s epoch).pending = s.pending := by
  refine ⟨?_, ?_, ?_⟩ <;> (first | rfl | (simp (maxDischargeDepth := 12) [State.roundClose]; done) | (unfold State.roundClose; (try dsimp only); repeat' (first | rfl | (simp (maxDischargeDepth := 12); done) | split)))

@[simp] theorem State_crossEnd_keeps (s : State) (d : Nat) :
    (State.crossEnd s d).otp = s.otp ∧ (State.crossEnd s d).cells = s.cells ∧ (State.crossEnd s d).smb = s.smb ∧
    (State.crossEnd s d).avs = s.avs ∧ (State.crossEnd s d).tap = s.tap ∧ (State.crossEnd s d).freeCtr = s.freeCtr ∧
    (State.crossEnd s d).pending = s.pending := by
  refine ⟨?_, ?_, ?_, ?_, ?_, ?_, ?_⟩ <;> (first | rfl | (simp (maxDischargeDepth := 12) [State.crossEnd]; done) | (unfold State.crossEnd; (try dsimp only); repeat' (first | rfl | (simp (maxDischargeDepth := 12); done) | split)))

@[simp] theorem State_guardPoint_keeps0 (s : State) (d : Nat) (ch : Nat) (v : Int) :
    (State.guardPoint s d ch v).otp = s.otp ∧ (State.guardPoint s d ch v).start = s.start ∧ (State.guardPoint s d ch v).clk = s.clk ∧
    (State.guardPoint s d ch v).win = s.win ∧ (State.guardPoint s d ch v).cells = s.cells ∧ (State.guardPoint s d ch v).views = s.views ∧
    (State.guardPoint s d ch v).chains = s.chains ∧ (State.guardPoint s d ch v).creg = s.creg ∧ (State.guardPoint s d ch v).eng = s.eng ∧
    (State.guardPoint s d ch v).doms = s.doms ∧ (State.guardPoint s d ch v).lanes = s.lanes := by
  refine ⟨?_, ?_, ?_, ?_, ?_, ?_, ?_, ?_, ?_, ?_, ?_⟩ <;> (first | rfl | (simp (maxDischargeDepth := 12) [State.guardPoint]; done) | (unfold State.guardPoint; (try dsimp only); repeat' (first | rfl | (simp (maxDischargeDepth := 12); done) | split)))

@[simp] theorem State_guardPoint_keeps1 (s : State) (d : Nat) (ch : Nat) (v : Int) :
    (State.guardPoint s d ch v).sense = s.sense ∧ (State.guardPoint s d ch v).hkcs = s.hkcs ∧
    (State.guardPoint s d ch v).tallies = s.tallies ∧ (State.guardPoint s d ch v).ledger = s.ledger ∧
    (State.guardPoint s d ch v).tiles = s.tiles ∧ (State.guardPoint s d ch v).accts = s.accts ∧
    (State.guardPoint s d ch v).limits = s.limits ∧ (State.guardPoint s d ch v).pace = s.pace ∧
    (State.guardPoint s d ch v).therm = s.therm ∧ (State.guardPoint s d ch v).diodes = s.diodes ∧
    (State.guardPoint s d ch v).stopq = s.stopq := by
  refine ⟨?_, ?_, ?_, ?_, ?_, ?_, ?_, ?_, ?_, ?_, ?_⟩ <;> (first | rfl | (simp (maxDischargeDepth := 12) [State.guardPoint]; done) | (unfold State.guardPoint; (try dsimp only); repeat' (first | rfl | (simp (maxDischargeDepth := 12); done) | split)))

@[simp] theorem State_guardPoint_keeps2 (s : State) (d : Nat) (ch : Nat) (v : Int) :
    (State.guardPoint s d ch v).flt = s.flt ∧ (State.guardPoint s d ch v).warden = s.warden ∧
    (State.guardPoint s d ch v).policy = s.policy ∧ (State.guardPoint s d ch v).rings = s.rings ∧
    (State.guardPoint s d ch v).smb = s.smb ∧ (State.guardPoint s d ch v).avs = s.avs ∧ (State.guardPoint s d ch v).tap = s.tap ∧
    (State.guardPoint s d ch v).pub = s.pub ∧ (State.guardPoint s d ch v).freeCtr = s.freeCtr ∧
    (State.guardPoint s d ch v).pending = s.pending := by
  refine ⟨?_, ?_, ?_, ?_, ?_, ?_, ?_, ?_, ?_, ?_⟩ <;> (first | rfl | (simp (maxDischargeDepth := 12) [State.guardPoint]; done) | (unfold State.guardPoint; (try dsimp only); repeat' (first | rfl | (simp (maxDischargeDepth := 12); done) | split)))

@[simp] theorem State_strike_keeps (s : State) (d : Nat) (ch : Nat) :
    (State.strike s d ch).otp = s.otp ∧ (State.strike s d ch).cells = s.cells ∧ (State.strike s d ch).smb = s.smb ∧
    (State.strike s d ch).avs = s.avs ∧ (State.strike s d ch).tap = s.tap ∧ (State.strike s d ch).freeCtr = s.freeCtr ∧
    (State.strike s d ch).pending = s.pending := by
  refine ⟨?_, ?_, ?_, ?_, ?_, ?_, ?_⟩ <;> (first | rfl | (simp (maxDischargeDepth := 12) [State.strike]; done) | (unfold State.strike; (try dsimp only); repeat' (first | rfl | (simp (maxDischargeDepth := 12); done) | split)))

@[simp] theorem State_restoreOp_keeps0 (s : State) (point : Nat) :
    (State.restoreOp s point).otp = s.otp ∧ (State.restoreOp s point).start = s.start ∧ (State.restoreOp s point).clk = s.clk ∧
    (State.restoreOp s point).win = s.win ∧ (State.restoreOp s point).cells = s.cells ∧ (State.restoreOp s point).views = s.views ∧
    (State.restoreOp s point).chains = s.chains ∧ (State.restoreOp s point).creg = s.creg ∧ (State.restoreOp s point).eng = s.eng ∧
    (State.restoreOp s point).doms = s.doms ∧ (State.restoreOp s point).lanes = s.lanes := by
  refine ⟨?_, ?_, ?_, ?_, ?_, ?_, ?_, ?_, ?_, ?_, ?_⟩ <;> (first | rfl | (simp (maxDischargeDepth := 12) [State.restoreOp]; done) | (unfold State.restoreOp; (try dsimp only); repeat' (first | rfl | (simp (maxDischargeDepth := 12); done) | split)))

@[simp] theorem State_restoreOp_keeps1 (s : State) (point : Nat) :
    (State.restoreOp s point).dscs = s.dscs ∧ (State.restoreOp s point).hkcs = s.hkcs ∧ (State.restoreOp s point).tallies = s.tallies ∧
    (State.restoreOp s point).ledger = s.ledger ∧ (State.restoreOp s point).tiles = s.tiles ∧ (State.restoreOp s point).accts = s.accts ∧
    (State.restoreOp s point).limits = s.limits ∧ (State.restoreOp s point).pace = s.pace ∧ (State.restoreOp s point).therm = s.therm ∧
    (State.restoreOp s point).diodes = s.diodes ∧ (State.restoreOp s point).stopq = s.stopq := by
  refine ⟨?_, ?_, ?_, ?_, ?_, ?_, ?_, ?_, ?_, ?_, ?_⟩ <;> (first | rfl | (simp (maxDischargeDepth := 12) [State.restoreOp]; done) | (unfold State.restoreOp; (try dsimp only); repeat' (first | rfl | (simp (maxDischargeDepth := 12); done) | split)))

@[simp] theorem State_restoreOp_keeps2 (s : State) (point : Nat) :
    (State.restoreOp s point).flt = s.flt ∧ (State.restoreOp s point).warden = s.warden ∧ (State.restoreOp s point).policy = s.policy ∧
    (State.restoreOp s point).rings = s.rings ∧ (State.restoreOp s point).smb = s.smb ∧ (State.restoreOp s point).avs = s.avs ∧
    (State.restoreOp s point).tap = s.tap ∧ (State.restoreOp s point).pub = s.pub ∧ (State.restoreOp s point).freeCtr = s.freeCtr ∧
    (State.restoreOp s point).pending = s.pending := by
  refine ⟨?_, ?_, ?_, ?_, ?_, ?_, ?_, ?_, ?_, ?_⟩ <;> (first | rfl | (simp (maxDischargeDepth := 12) [State.restoreOp]; done) | (unfold State.restoreOp; (try dsimp only); repeat' (first | rfl | (simp (maxDischargeDepth := 12); done) | split)))

@[simp] theorem State_restoreCommit_keeps0 (s : State) :
    (State.restoreCommit s).otp = s.otp ∧ (State.restoreCommit s).start = s.start ∧ (State.restoreCommit s).clk = s.clk ∧
    (State.restoreCommit s).win = s.win ∧ (State.restoreCommit s).cells = s.cells ∧ (State.restoreCommit s).views = s.views ∧
    (State.restoreCommit s).chains = s.chains ∧ (State.restoreCommit s).creg = s.creg ∧ (State.restoreCommit s).eng = s.eng ∧
    (State.restoreCommit s).doms = s.doms ∧ (State.restoreCommit s).lanes = s.lanes := by
  refine ⟨?_, ?_, ?_, ?_, ?_, ?_, ?_, ?_, ?_, ?_, ?_⟩ <;> (first | rfl | (simp (maxDischargeDepth := 12) [State.restoreCommit]; done) | (unfold State.restoreCommit; (try dsimp only); repeat' (first | rfl | (simp (maxDischargeDepth := 12); done) | split)))

@[simp] theorem State_restoreCommit_keeps1 (s : State) :
    (State.restoreCommit s).dscs = s.dscs ∧ (State.restoreCommit s).hkcs = s.hkcs ∧ (State.restoreCommit s).ledger = s.ledger ∧
    (State.restoreCommit s).tiles = s.tiles ∧ (State.restoreCommit s).accts = s.accts ∧ (State.restoreCommit s).limits = s.limits ∧
    (State.restoreCommit s).pace = s.pace ∧ (State.restoreCommit s).therm = s.therm ∧ (State.restoreCommit s).diodes = s.diodes ∧
    (State.restoreCommit s).stopq = s.stopq ∧ (State.restoreCommit s).flt = s.flt := by
  refine ⟨?_, ?_, ?_, ?_, ?_, ?_, ?_, ?_, ?_, ?_, ?_⟩ <;> (first | rfl | (simp (maxDischargeDepth := 12) [State.restoreCommit]; done) | (unfold State.restoreCommit; (try dsimp only); repeat' (first | rfl | (simp (maxDischargeDepth := 12); done) | split)))

@[simp] theorem State_restoreCommit_keeps2 (s : State) :
    (State.restoreCommit s).policy = s.policy ∧ (State.restoreCommit s).rings = s.rings ∧ (State.restoreCommit s).smb = s.smb ∧
    (State.restoreCommit s).avs = s.avs ∧ (State.restoreCommit s).tap = s.tap ∧ (State.restoreCommit s).pub = s.pub ∧
    (State.restoreCommit s).freeCtr = s.freeCtr ∧ (State.restoreCommit s).pending = s.pending := by
  refine ⟨?_, ?_, ?_, ?_, ?_, ?_, ?_, ?_⟩ <;> (first | rfl | (simp (maxDischargeDepth := 12) [State.restoreCommit]; done) | (unfold State.restoreCommit; (try dsimp only); repeat' (first | rfl | (simp (maxDischargeDepth := 12); done) | split)))

end Sys2Proof.Machine
end

