-- ==== Sys2Proof/Laws/FramesEngine.lean ====
section
/-! SUPPORT. The fields of State that the operations of Machine/Engine.lean leave alone. -/

set_option linter.unusedSimpArgs false
set_option linter.unusedVariables false

namespace Sys2Proof.Machine

@[simp] theorem State_queueShareTrim_keeps0 (s : State) (i : Nat) :
    (State.queueShareTrim s i).otp = s.otp ∧ (State.queueShareTrim s i).start = s.start ∧ (State.queueShareTrim s i).clk = s.clk ∧
    (State.queueShareTrim s i).win = s.win ∧ (State.queueShareTrim s i).cells = s.cells ∧ (State.queueShareTrim s i).views = s.views ∧
    (State.queueShareTrim s i).creg = s.creg ∧ (State.queueShareTrim s i).eng = s.eng ∧ (State.queueShareTrim s i).doms = s.doms ∧
    (State.queueShareTrim s i).lanes = s.lanes ∧ (State.queueShareTrim s i).sense = s.sense := by
  refine ⟨?_, ?_, ?_, ?_, ?_, ?_, ?_, ?_, ?_, ?_, ?_⟩ <;> (first | rfl | (simp (maxDischargeDepth := 12) [State.queueShareTrim]; done) | (unfold State.queueShareTrim; (try dsimp only); repeat' (first | rfl | (simp (maxDischargeDepth := 12); done) | split)))

@[simp] theorem State_queueShareTrim_keeps1 (s : State) (i : Nat) :
    (State.queueShareTrim s i).dscs = s.dscs ∧ (State.queueShareTrim s i).hkcs = s.hkcs ∧ (State.queueShareTrim s i).tallies = s.tallies ∧
    (State.queueShareTrim s i).ledger = s.ledger ∧ (State.queueShareTrim s i).tiles = s.tiles ∧
    (State.queueShareTrim s i).accts = s.accts ∧ (State.queueShareTrim s i).limits = s.limits ∧ (State.queueShareTrim s i).pace = s.pace ∧
    (State.queueShareTrim s i).therm = s.therm ∧ (State.queueShareTrim s i).diodes = s.diodes ∧ (State.queueShareTrim s i).stopq = s.stopq := by
  refine ⟨?_, ?_, ?_, ?_, ?_, ?_, ?_, ?_, ?_, ?_, ?_⟩ <;> (first | rfl | (simp (maxDischargeDepth := 12) [State.queueShareTrim]; done) | (unfold State.queueShareTrim; (try dsimp only); repeat' (first | rfl | (simp (maxDischargeDepth := 12); done) | split)))

@[simp] theorem State_queueShareTrim_keeps2 (s : State) (i : Nat) :
    (State.queueShareTrim s i).flt = s.flt ∧ (State.queueShareTrim s i).warden = s.warden ∧ (State.queueShareTrim s i).policy = s.policy ∧
    (State.queueShareTrim s i).rings = s.rings ∧ (State.queueShareTrim s i).smb = s.smb ∧ (State.queueShareTrim s i).avs = s.avs ∧
    (State.queueShareTrim s i).tap = s.tap ∧ (State.queueShareTrim s i).pub = s.pub ∧ (State.queueShareTrim s i).freeCtr = s.freeCtr ∧
    (State.queueShareTrim s i).pending = s.pending := by
  refine ⟨?_, ?_, ?_, ?_, ?_, ?_, ?_, ?_, ?_, ?_⟩ <;> (first | rfl | (simp (maxDischargeDepth := 12) [State.queueShareTrim]; done) | (unfold State.queueShareTrim; (try dsimp only); repeat' (first | rfl | (simp (maxDischargeDepth := 12); done) | split)))

@[simp] theorem State_shareOne_keeps0 (s : State) (i : Nat) (p : Nat) (waited : Nat) (trim : Bool) :
    (State.shareOne s i p waited trim).otp = s.otp ∧ (State.shareOne s i p waited trim).start = s.start ∧
    (State.shareOne s i p waited trim).clk = s.clk ∧ (State.shareOne s i p waited trim).win = s.win ∧
    (State.shareOne s i p waited trim).cells = s.cells ∧ (State.shareOne s i p waited trim).creg = s.creg ∧
    (State.shareOne s i p waited trim).eng = s.eng ∧ (State.shareOne s i p waited trim).doms = s.doms ∧
    (State.shareOne s i p waited trim).lanes = s.lanes ∧ (State.shareOne s i p waited trim).sense = s.sense ∧
    (State.shareOne s i p waited trim).dscs = s.dscs := by
  refine ⟨?_, ?_, ?_, ?_, ?_, ?_, ?_, ?_, ?_, ?_, ?_⟩ <;> (first | rfl | (simp (maxDischargeDepth := 12) [State.shareOne]; done) | (unfold State.shareOne; (try dsimp only); repeat' (first | rfl | (simp (maxDischargeDepth := 12); done) | split)))

@[simp] theorem State_shareOne_keeps1 (s : State) (i : Nat) (p : Nat) (waited : Nat) (trim : Bool) :
    (State.shareOne s i p waited trim).hkcs = s.hkcs ∧ (State.shareOne s i p waited trim).tallies = s.tallies ∧
    (State.shareOne s i p waited trim).ledger = s.ledger ∧ (State.shareOne s i p waited trim).tiles = s.tiles ∧
    (State.shareOne s i p waited trim).accts = s.accts ∧ (State.shareOne s i p waited trim).limits = s.limits ∧
    (State.shareOne s i p waited trim).pace = s.pace ∧ (State.shareOne s i p waited trim).therm = s.therm ∧
    (State.shareOne s i p waited trim).diodes = s.diodes ∧ (State.shareOne s i p waited trim).stopq = s.stopq ∧
    (State.shareOne s i p waited trim).flt = s.flt := by
  refine ⟨?_, ?_, ?_, ?_, ?_, ?_, ?_, ?_, ?_, ?_, ?_⟩ <;> (first | rfl | (simp (maxDischargeDepth := 12) [State.shareOne]; done) | (unfold State.shareOne; (try dsimp only); repeat' (first | rfl | (simp (maxDischargeDepth := 12); done) | split)))

@[simp] theorem State_shareOne_keeps2 (s : State) (i : Nat) (p : Nat) (waited : Nat) (trim : Bool) :
    (State.shareOne s i p waited trim).warden = s.warden ∧ (State.shareOne s i p waited trim).policy = s.policy ∧
    (State.shareOne s i p waited trim).rings = s.rings ∧ (State.shareOne s i p waited trim).smb = s.smb ∧
    (State.shareOne s i p waited trim).avs = s.avs ∧ (State.shareOne s i p waited trim).tap = s.tap ∧
    (State.shareOne s i p waited trim).pub = s.pub ∧ (State.shareOne s i p waited trim).freeCtr = s.freeCtr ∧
    (State.shareOne s i p waited trim).pending = s.pending := by
  refine ⟨?_, ?_, ?_, ?_, ?_, ?_, ?_, ?_, ?_⟩ <;> (first | rfl | (simp (maxDischargeDepth := 12) [State.shareOne]; done) | (unfold State.shareOne; (try dsimp only); repeat' (first | rfl | (simp (maxDischargeDepth := 12); done) | split)))

@[simp] theorem State_shareNext_keeps0 (s : State) (k : Nat) (trim : Bool) :
    (State.shareNext s k trim).otp = s.otp ∧ (State.shareNext s k trim).start = s.start ∧ (State.shareNext s k trim).clk = s.clk ∧
    (State.shareNext s k trim).win = s.win ∧ (State.shareNext s k trim).cells = s.cells ∧ (State.shareNext s k trim).creg = s.creg ∧
    (State.shareNext s k trim).eng = s.eng ∧ (State.shareNext s k trim).doms = s.doms ∧ (State.shareNext s k trim).sense = s.sense ∧
    (State.shareNext s k trim).dscs = s.dscs ∧ (State.shareNext s k trim).hkcs = s.hkcs := by
  refine ⟨?_, ?_, ?_, ?_, ?_, ?_, ?_, ?_, ?_, ?_, ?_⟩ <;> (first | rfl | (simp (maxDischargeDepth := 12) [State.shareNext]; done) | (unfold State.shareNext; (try dsimp only); repeat' (first | rfl | (simp (maxDischargeDepth := 12); done) | split)))

@[simp] theorem State_shareNext_keeps1 (s : State) (k : Nat) (trim : Bool) :
    (State.shareNext s k trim).tallies = s.tallies ∧ (State.shareNext s k trim).ledger = s.ledger ∧
    (State.shareNext s k trim).tiles = s.tiles ∧ (State.shareNext s k trim).accts = s.accts ∧
    (State.shareNext s k trim).limits = s.limits ∧ (State.shareNext s k trim).pace = s.pace ∧ (State.shareNext s k trim).therm = s.therm ∧
    (State.shareNext s k trim).diodes = s.diodes ∧ (State.shareNext s k trim).stopq = s.stopq ∧ (State.shareNext s k trim).flt = s.flt ∧
    (State.shareNext s k trim).warden = s.warden := by
  refine ⟨?_, ?_, ?_, ?_, ?_, ?_, ?_, ?_, ?_, ?_, ?_⟩ <;> (first | rfl | (simp (maxDischargeDepth := 12) [State.shareNext]; done) | (unfold State.shareNext; (try dsimp only); repeat' (first | rfl | (simp (maxDischargeDepth := 12); done) | split)))

@[simp] theorem State_shareNext_keeps2 (s : State) (k : Nat) (trim : Bool) :
    (State.shareNext s k trim).policy = s.policy ∧ (State.shareNext s k trim).rings = s.rings ∧ (State.shareNext s k trim).smb = s.smb ∧
    (State.shareNext s k trim).avs = s.avs ∧ (State.shareNext s k trim).tap = s.tap ∧ (State.shareNext s k trim).pub = s.pub ∧
    (State.shareNext s k trim).freeCtr = s.freeCtr ∧ (State.shareNext s k trim).pending = s.pending := by
  refine ⟨?_, ?_, ?_, ?_, ?_, ?_, ?_, ?_⟩ <;> (first | rfl | (simp (maxDischargeDepth := 12) [State.shareNext]; done) | (unfold State.shareNext; (try dsimp only); repeat' (first | rfl | (simp (maxDischargeDepth := 12); done) | split)))

@[simp] theorem State_laneFreeze_keeps (s : State) (k : Nat) :
    (State.laneFreeze s k).otp = s.otp ∧ (State.laneFreeze s k).cells = s.cells ∧ (State.laneFreeze s k).smb = s.smb ∧
    (State.laneFreeze s k).avs = s.avs ∧ (State.laneFreeze s k).tap = s.tap ∧ (State.laneFreeze s k).freeCtr = s.freeCtr ∧
    (State.laneFreeze s k).pending = s.pending := by
  refine ⟨?_, ?_, ?_, ?_, ?_, ?_, ?_⟩ <;> (first | rfl | (simp (maxDischargeDepth := 12) [State.laneFreeze]; done) | (unfold State.laneFreeze; (try dsimp only); repeat' (first | rfl | (simp (maxDischargeDepth := 12); done) | split)))

@[simp] theorem State_laneAuditDone_keeps (s : State) (k : Nat) (pass : Bool) :
    (State.laneAuditDone s k pass).otp = s.otp ∧ (State.laneAuditDone s k pass).cells = s.cells ∧
    (State.laneAuditDone s k pass).smb = s.smb ∧ (State.laneAuditDone s k pass).avs = s.avs ∧ (State.laneAuditDone s k pass).tap = s.tap ∧
    (State.laneAuditDone s k pass).freeCtr = s.freeCtr ∧ (State.laneAuditDone s k pass).pending = s.pending := by
  refine ⟨?_, ?_, ?_, ?_, ?_, ?_, ?_⟩ <;> (first | rfl | (simp (maxDischargeDepth := 12) [State.laneAuditDone]; done) | (unfold State.laneAuditDone; (try dsimp only); repeat' (first | rfl | (simp (maxDischargeDepth := 12); done) | split)))

@[simp] theorem State_laneAuditOwn_keeps0 (s : State) (k : Nat) :
    (State.laneAuditOwn s k).otp = s.otp ∧ (State.laneAuditOwn s k).start = s.start ∧ (State.laneAuditOwn s k).clk = s.clk ∧
    (State.laneAuditOwn s k).win = s.win ∧ (State.laneAuditOwn s k).cells = s.cells ∧ (State.laneAuditOwn s k).views = s.views ∧
    (State.laneAuditOwn s k).chains = s.chains ∧ (State.laneAuditOwn s k).creg = s.creg ∧ (State.laneAuditOwn s k).eng = s.eng ∧
    (State.laneAuditOwn s k).doms = s.doms ∧ (State.laneAuditOwn s k).sense = s.sense := by
  refine ⟨?_, ?_, ?_, ?_, ?_, ?_, ?_, ?_, ?_, ?_, ?_⟩ <;> (first | rfl | (simp (maxDischargeDepth := 12) [State.laneAuditOwn]; done) | (unfold State.laneAuditOwn; (try dsimp only); repeat' (first | rfl | (simp (maxDischargeDepth := 12); done) | split)))

@[simp] theorem State_laneAuditOwn_keeps1 (s : State) (k : Nat) :
    (State.laneAuditOwn s k).dscs = s.dscs ∧ (State.laneAuditOwn s k).hkcs = s.hkcs ∧ (State.laneAuditOwn s k).tallies = s.tallies ∧
    (State.laneAuditOwn s k).ledger = s.ledger ∧ (State.laneAuditOwn s k).tiles = s.tiles ∧ (State.laneAuditOwn s k).accts = s.accts ∧
    (State.laneAuditOwn s k).limits = s.limits ∧ (State.laneAuditOwn s k).pace = s.pace ∧ (State.laneAuditOwn s k).therm = s.therm ∧
    (State.laneAuditOwn s k).diodes = s.diodes ∧ (State.laneAuditOwn s k).stopq = s.stopq := by
  refine ⟨?_, ?_, ?_, ?_, ?_, ?_, ?_, ?_, ?_, ?_, ?_⟩ <;> (first | rfl | (simp (maxDischargeDepth := 12) [State.laneAuditOwn]; done) | (unfold State.laneAuditOwn; (try dsimp only); repeat' (first | rfl | (simp (maxDischargeDepth := 12); done) | split)))

@[simp] theorem State_laneAuditOwn_keeps2 (s : State) (k : Nat) :
    (State.laneAuditOwn s k).warden = s.warden ∧ (State.laneAuditOwn s k).policy = s.policy ∧ (State.laneAuditOwn s k).rings = s.rings ∧
    (State.laneAuditOwn s k).smb = s.smb ∧ (State.laneAuditOwn s k).avs = s.avs ∧ (State.laneAuditOwn s k).tap = s.tap ∧
    (State.laneAuditOwn s k).pub = s.pub ∧ (State.laneAuditOwn s k).freeCtr = s.freeCtr ∧ (State.laneAuditOwn s k).pending = s.pending := by
  refine ⟨?_, ?_, ?_, ?_, ?_, ?_, ?_, ?_, ?_⟩ <;> (first | rfl | (simp (maxDischargeDepth := 12) [State.laneAuditOwn]; done) | (unfold State.laneAuditOwn; (try dsimp only); repeat' (first | rfl | (simp (maxDischargeDepth := 12); done) | split)))

@[simp] theorem State_laneMismatch_keeps (s : State) (k : Nat) (slot : Nat) :
    (State.laneMismatch s k slot).otp = s.otp ∧ (State.laneMismatch s k slot).cells = s.cells ∧
    (State.laneMismatch s k slot).smb = s.smb ∧ (State.laneMismatch s k slot).avs = s.avs ∧ (State.laneMismatch s k slot).tap = s.tap ∧
    (State.laneMismatch s k slot).freeCtr = s.freeCtr ∧ (State.laneMismatch s k slot).pending = s.pending := by
  refine ⟨?_, ?_, ?_, ?_, ?_, ?_, ?_⟩ <;> (first | rfl | (simp (maxDischargeDepth := 12) [State.laneMismatch]; done) | (unfold State.laneMismatch; (try dsimp only); repeat' (first | rfl | (simp (maxDischargeDepth := 12); done) | split)))

@[simp] theorem State_lawGo_keeps0 (s : State) (op : Nat) (d : Nat) :
    (State.lawGo s op d).otp = s.otp ∧ (State.lawGo s op d).start = s.start ∧ (State.lawGo s op d).clk = s.clk ∧
    (State.lawGo s op d).win = s.win ∧ (State.lawGo s op d).cells = s.cells ∧ (State.lawGo s op d).views = s.views ∧
    (State.lawGo s op d).chains = s.chains ∧ (State.lawGo s op d).creg = s.creg ∧ (State.lawGo s op d).doms = s.doms ∧
    (State.lawGo s op d).lanes = s.lanes ∧ (State.lawGo s op d).sense = s.sense := by
  refine ⟨?_, ?_, ?_, ?_, ?_, ?_, ?_, ?_, ?_, ?_, ?_⟩ <;> (first | rfl | (simp (maxDischargeDepth := 12) [State.lawGo]; done) | (unfold State.lawGo; (try dsimp only); repeat' (first | rfl | (simp (maxDischargeDepth := 12); done) | split)))

@[simp] theorem State_lawGo_keeps1 (s : State) (op : Nat) (d : Nat) :
    (State.lawGo s op d).dscs = s.dscs ∧ (State.lawGo s op d).hkcs = s.hkcs ∧ (State.lawGo s op d).tallies = s.tallies ∧
    (State.lawGo s op d).ledger = s.ledger ∧ (State.lawGo s op d).tiles = s.tiles ∧ (State.lawGo s op d).accts = s.accts ∧
    (State.lawGo s op d).limits = s.limits ∧ (State.lawGo s op d).pace = s.pace ∧ (State.lawGo s op d).therm = s.therm ∧
    (State.lawGo s op d).diodes = s.diodes ∧ (State.lawGo s op d).stopq = s.stopq := by
  refine ⟨?_, ?_, ?_, ?_, ?_, ?_, ?_, ?_, ?_, ?_, ?_⟩ <;> (first | rfl | (simp (maxDischargeDepth := 12) [State.lawGo]; done) | (unfold State.lawGo; (try dsimp only); repeat' (first | rfl | (simp (maxDischargeDepth := 12); done) | split)))

@[simp] theorem State_lawGo_keeps2 (s : State) (op : Nat) (d : Nat) :
    (State.lawGo s op d).flt = s.flt ∧ (State.lawGo s op d).warden = s.warden ∧ (State.lawGo s op d).policy = s.policy ∧
    (State.lawGo s op d).rings = s.rings ∧ (State.lawGo s op d).smb = s.smb ∧ (State.lawGo s op d).avs = s.avs ∧
    (State.lawGo s op d).tap = s.tap ∧ (State.lawGo s op d).pub = s.pub ∧ (State.lawGo s op d).freeCtr = s.freeCtr ∧
    (State.lawGo s op d).pending = s.pending := by
  refine ⟨?_, ?_, ?_, ?_, ?_, ?_, ?_, ?_, ?_, ?_⟩ <;> (first | rfl | (simp (maxDischargeDepth := 12) [State.lawGo]; done) | (unfold State.lawGo; (try dsimp only); repeat' (first | rfl | (simp (maxDischargeDepth := 12); done) | split)))

@[simp] theorem State_lawStart_keeps0 (s : State) (op : Nat) (d : Nat) :
    (State.lawStart s op d).otp = s.otp ∧ (State.lawStart s op d).start = s.start ∧ (State.lawStart s op d).clk = s.clk ∧
    (State.lawStart s op d).win = s.win ∧ (State.lawStart s op d).cells = s.cells ∧ (State.lawStart s op d).views = s.views ∧
    (State.lawStart s op d).chains = s.chains ∧ (State.lawStart s op d).creg = s.creg ∧ (State.lawStart s op d).doms = s.doms ∧
    (State.lawStart s op d).lanes = s.lanes ∧ (State.lawStart s op d).sense = s.sense := by
  refine ⟨?_, ?_, ?_, ?_, ?_, ?_, ?_, ?_, ?_, ?_, ?_⟩ <;> (first | rfl | (simp (maxDischargeDepth := 12) [State.lawStart]; done) | (unfold State.lawStart; (try dsimp only); repeat' (first | rfl | (simp (maxDischargeDepth := 12); done) | split)))

@[simp] theorem State_lawStart_keeps1 (s : State) (op : Nat) (d : Nat) :
    (State.lawStart s op d).dscs = s.dscs ∧ (State.lawStart s op d).hkcs = s.hkcs ∧ (State.lawStart s op d).tallies = s.tallies ∧
    (State.lawStart s op d).ledger = s.ledger ∧ (State.lawStart s op d).tiles = s.tiles ∧ (State.lawStart s op d).accts = s.accts ∧
    (State.lawStart s op d).limits = s.limits ∧ (State.lawStart s op d).pace = s.pace ∧ (State.lawStart s op d).therm = s.therm ∧
    (State.lawStart s op d).diodes = s.diodes ∧ (State.lawStart s op d).stopq = s.stopq := by
  refine ⟨?_, ?_, ?_, ?_, ?_, ?_, ?_, ?_, ?_, ?_, ?_⟩ <;> (first | rfl | (simp (maxDischargeDepth := 12) [State.lawStart]; done) | (unfold State.lawStart; (try dsimp only); repeat' (first | rfl | (simp (maxDischargeDepth := 12); done) | split)))

@[simp] theorem State_lawStart_keeps2 (s : State) (op : Nat) (d : Nat) :
    (State.lawStart s op d).flt = s.flt ∧ (State.lawStart s op d).warden = s.warden ∧ (State.lawStart s op d).policy = s.policy ∧
    (State.lawStart s op d).rings = s.rings ∧ (State.lawStart s op d).smb = s.smb ∧ (State.lawStart s op d).avs = s.avs ∧
    (State.lawStart s op d).tap = s.tap ∧ (State.lawStart s op d).pub = s.pub ∧ (State.lawStart s op d).freeCtr = s.freeCtr ∧
    (State.lawStart s op d).pending = s.pending := by
  refine ⟨?_, ?_, ?_, ?_, ?_, ?_, ?_, ?_, ?_, ?_⟩ <;> (first | rfl | (simp (maxDischargeDepth := 12) [State.lawStart]; done) | (unfold State.lawStart; (try dsimp only); repeat' (first | rfl | (simp (maxDischargeDepth := 12); done) | split)))

end Sys2Proof.Machine
end

