-- ==== Sys2Proof/Laws/FramesMeter.lean ====
section
/-! SUPPORT. The fields of State that the operations of Machine/Meter.lean leave alone. -/

set_option linter.unusedSimpArgs false
set_option linter.unusedVariables false

namespace Sys2Proof.Machine

@[simp] theorem State_unmetered_keeps0 (s : State) (n : Nat) :
    (State.unmetered s n).otp = s.otp ∧ (State.unmetered s n).start = s.start ∧ (State.unmetered s n).clk = s.clk ∧
    (State.unmetered s n).win = s.win ∧ (State.unmetered s n).cells = s.cells ∧ (State.unmetered s n).views = s.views ∧
    (State.unmetered s n).chains = s.chains ∧ (State.unmetered s n).creg = s.creg ∧ (State.unmetered s n).eng = s.eng ∧
    (State.unmetered s n).doms = s.doms ∧ (State.unmetered s n).lanes = s.lanes := by
  refine ⟨?_, ?_, ?_, ?_, ?_, ?_, ?_, ?_, ?_, ?_, ?_⟩ <;> (first | rfl | (simp (maxDischargeDepth := 12) [State.unmetered]; done) | (unfold State.unmetered; (try dsimp only); repeat' (first | rfl | (simp (maxDischargeDepth := 12); done) | split)))

@[simp] theorem State_unmetered_keeps1 (s : State) (n : Nat) :
    (State.unmetered s n).sense = s.sense ∧ (State.unmetered s n).dscs = s.dscs ∧ (State.unmetered s n).hkcs = s.hkcs ∧
    (State.unmetered s n).tallies = s.tallies ∧ (State.unmetered s n).ledger = s.ledger ∧ (State.unmetered s n).tiles = s.tiles ∧
    (State.unmetered s n).accts = s.accts ∧ (State.unmetered s n).pace = s.pace ∧ (State.unmetered s n).therm = s.therm ∧
    (State.unmetered s n).diodes = s.diodes ∧ (State.unmetered s n).stopq = s.stopq := by
  refine ⟨?_, ?_, ?_, ?_, ?_, ?_, ?_, ?_, ?_, ?_, ?_⟩ <;> (first | rfl | (simp (maxDischargeDepth := 12) [State.unmetered]; done) | (unfold State.unmetered; (try dsimp only); repeat' (first | rfl | (simp (maxDischargeDepth := 12); done) | split)))

@[simp] theorem State_unmetered_keeps2 (s : State) (n : Nat) :
    (State.unmetered s n).flt = s.flt ∧ (State.unmetered s n).warden = s.warden ∧ (State.unmetered s n).policy = s.policy ∧
    (State.unmetered s n).rings = s.rings ∧ (State.unmetered s n).smb = s.smb ∧ (State.unmetered s n).avs = s.avs ∧
    (State.unmetered s n).tap = s.tap ∧ (State.unmetered s n).pub = s.pub ∧ (State.unmetered s n).freeCtr = s.freeCtr ∧
    (State.unmetered s n).pending = s.pending := by
  refine ⟨?_, ?_, ?_, ?_, ?_, ?_, ?_, ?_, ?_, ?_⟩ <;> (first | rfl | (simp (maxDischargeDepth := 12) [State.unmetered]; done) | (unfold State.unmetered; (try dsimp only); repeat' (first | rfl | (simp (maxDischargeDepth := 12); done) | split)))

@[simp] theorem State_kInStep_keeps (s : State) (total : Rat) (mean : Rat) :
    (State.kInStep s total mean).otp = s.otp ∧ (State.kInStep s total mean).cells = s.cells ∧ (State.kInStep s total mean).smb = s.smb ∧
    (State.kInStep s total mean).avs = s.avs ∧ (State.kInStep s total mean).tap = s.tap ∧
    (State.kInStep s total mean).freeCtr = s.freeCtr ∧ (State.kInStep s total mean).pending = s.pending := by
  refine ⟨?_, ?_, ?_, ?_, ?_, ?_, ?_⟩ <;> (first | rfl | (simp (maxDischargeDepth := 12) [State.kInStep]; done) | (unfold State.kInStep; (try dsimp only); repeat' (first | rfl | (simp (maxDischargeDepth := 12); done) | split)))

@[simp] theorem State_kInRound_keeps0 (s : State) :
    (State.kInRound s).otp = s.otp ∧ (State.kInRound s).start = s.start ∧ (State.kInRound s).clk = s.clk ∧
    (State.kInRound s).win = s.win ∧ (State.kInRound s).cells = s.cells ∧ (State.kInRound s).views = s.views ∧
    (State.kInRound s).chains = s.chains ∧ (State.kInRound s).creg = s.creg ∧ (State.kInRound s).eng = s.eng ∧
    (State.kInRound s).doms = s.doms ∧ (State.kInRound s).lanes = s.lanes := by
  refine ⟨?_, ?_, ?_, ?_, ?_, ?_, ?_, ?_, ?_, ?_, ?_⟩ <;> (first | rfl | (simp (maxDischargeDepth := 12) [State.kInRound]; done) | (unfold State.kInRound; (try dsimp only); repeat' (first | rfl | (simp (maxDischargeDepth := 12); done) | split)))

@[simp] theorem State_kInRound_keeps1 (s : State) :
    (State.kInRound s).sense = s.sense ∧ (State.kInRound s).dscs = s.dscs ∧ (State.kInRound s).hkcs = s.hkcs ∧
    (State.kInRound s).tallies = s.tallies ∧ (State.kInRound s).ledger = s.ledger ∧ (State.kInRound s).tiles = s.tiles ∧
    (State.kInRound s).accts = s.accts ∧ (State.kInRound s).pace = s.pace ∧ (State.kInRound s).therm = s.therm ∧
    (State.kInRound s).diodes = s.diodes ∧ (State.kInRound s).stopq = s.stopq := by
  refine ⟨?_, ?_, ?_, ?_, ?_, ?_, ?_, ?_, ?_, ?_, ?_⟩ <;> (first | rfl | (simp (maxDischargeDepth := 12) [State.kInRound]; done) | (unfold State.kInRound; (try dsimp only); repeat' (first | rfl | (simp (maxDischargeDepth := 12); done) | split)))

@[simp] theorem State_kInRound_keeps2 (s : State) :
    (State.kInRound s).flt = s.flt ∧ (State.kInRound s).warden = s.warden ∧ (State.kInRound s).policy = s.policy ∧
    (State.kInRound s).rings = s.rings ∧ (State.kInRound s).smb = s.smb ∧ (State.kInRound s).avs = s.avs ∧
    (State.kInRound s).tap = s.tap ∧ (State.kInRound s).pub = s.pub ∧ (State.kInRound s).freeCtr = s.freeCtr ∧
    (State.kInRound s).pending = s.pending := by
  refine ⟨?_, ?_, ?_, ?_, ?_, ?_, ?_, ?_, ?_, ?_⟩ <;> (first | rfl | (simp (maxDischargeDepth := 12) [State.kInRound]; done) | (unfold State.kInRound; (try dsimp only); repeat' (first | rfl | (simp (maxDischargeDepth := 12); done) | split)))

end Sys2Proof.Machine
end

