-- ==== Sys2Proof/Laws/FramesHints.lean ====
section
/-! SUPPORT. The fields of State that the operations of Machine/Hints.lean leave alone. -/

set_option linter.unusedSimpArgs false
set_option linter.unusedVariables false

namespace Sys2Proof.Machine

@[simp] theorem State_takePackets_keeps0 (s : State) (n : Nat) (t : Nat) :
    (State.takePackets s n t).otp = s.otp ∧ (State.takePackets s n t).start = s.start ∧ (State.takePackets s n t).clk = s.clk ∧
    (State.takePackets s n t).win = s.win ∧ (State.takePackets s n t).cells = s.cells ∧ (State.takePackets s n t).views = s.views ∧
    (State.takePackets s n t).chains = s.chains ∧ (State.takePackets s n t).creg = s.creg ∧ (State.takePackets s n t).eng = s.eng ∧
    (State.takePackets s n t).doms = s.doms ∧ (State.takePackets s n t).lanes = s.lanes := by
  refine ⟨?_, ?_, ?_, ?_, ?_, ?_, ?_, ?_, ?_, ?_, ?_⟩ <;> (first | rfl | (simp (maxDischargeDepth := 12) [State.takePackets]; done) | (unfold State.takePackets; (try dsimp only); repeat' (first | rfl | (simp (maxDischargeDepth := 12); done) | split)))

@[simp] theorem State_takePackets_keeps1 (s : State) (n : Nat) (t : Nat) :
    (State.takePackets s n t).sense = s.sense ∧ (State.takePackets s n t).dscs = s.dscs ∧ (State.takePackets s n t).hkcs = s.hkcs ∧
    (State.takePackets s n t).tallies = s.tallies ∧ (State.takePackets s n t).accts = s.accts ∧
    (State.takePackets s n t).limits = s.limits ∧ (State.takePackets s n t).pace = s.pace ∧ (State.takePackets s n t).therm = s.therm ∧
    (State.takePackets s n t).diodes = s.diodes ∧ (State.takePackets s n t).stopq = s.stopq ∧ (State.takePackets s n t).flt = s.flt := by
  refine ⟨?_, ?_, ?_, ?_, ?_, ?_, ?_, ?_, ?_, ?_, ?_⟩ <;> (first | rfl | (simp (maxDischargeDepth := 12) [State.takePackets]; done) | (unfold State.takePackets; (try dsimp only); repeat' (first | rfl | (simp (maxDischargeDepth := 12); done) | split)))

@[simp] theorem State_takePackets_keeps2 (s : State) (n : Nat) (t : Nat) :
    (State.takePackets s n t).warden = s.warden ∧ (State.takePackets s n t).policy = s.policy ∧
    (State.takePackets s n t).rings = s.rings ∧ (State.takePackets s n t).smb = s.smb ∧ (State.takePackets s n t).avs = s.avs ∧
    (State.takePackets s n t).tap = s.tap ∧ (State.takePackets s n t).pub = s.pub ∧ (State.takePackets s n t).freeCtr = s.freeCtr ∧
    (State.takePackets s n t).pending = s.pending := by
  refine ⟨?_, ?_, ?_, ?_, ?_, ?_, ?_, ?_, ?_⟩ <;> (first | rfl | (simp (maxDischargeDepth := 12) [State.takePackets]; done) | (unfold State.takePackets; (try dsimp only); repeat' (first | rfl | (simp (maxDischargeDepth := 12); done) | split)))

@[simp] theorem State_hintCommit_keeps0 (s : State) (n : Nat) (t : Nat) :
    (State.hintCommit s n t).otp = s.otp ∧ (State.hintCommit s n t).start = s.start ∧ (State.hintCommit s n t).clk = s.clk ∧
    (State.hintCommit s n t).win = s.win ∧ (State.hintCommit s n t).cells = s.cells ∧ (State.hintCommit s n t).views = s.views ∧
    (State.hintCommit s n t).chains = s.chains ∧ (State.hintCommit s n t).creg = s.creg ∧ (State.hintCommit s n t).eng = s.eng ∧
    (State.hintCommit s n t).doms = s.doms ∧ (State.hintCommit s n t).lanes = s.lanes := by
  refine ⟨?_, ?_, ?_, ?_, ?_, ?_, ?_, ?_, ?_, ?_, ?_⟩ <;> (first | rfl | (simp (maxDischargeDepth := 12) [State.hintCommit]; done) | (unfold State.hintCommit; (try dsimp only); repeat' (first | rfl | (simp (maxDischargeDepth := 12); done) | split)))

@[simp] theorem State_hintCommit_keeps1 (s : State) (n : Nat) (t : Nat) :
    (State.hintCommit s n t).sense = s.sense ∧ (State.hintCommit s n t).dscs = s.dscs ∧ (State.hintCommit s n t).hkcs = s.hkcs ∧
    (State.hintCommit s n t).tallies = s.tallies ∧ (State.hintCommit s n t).accts = s.accts ∧ (State.hintCommit s n t).limits = s.limits ∧
    (State.hintCommit s n t).pace = s.pace ∧ (State.hintCommit s n t).therm = s.therm ∧ (State.hintCommit s n t).diodes = s.diodes ∧
    (State.hintCommit s n t).stopq = s.stopq ∧ (State.hintCommit s n t).flt = s.flt := by
  refine ⟨?_, ?_, ?_, ?_, ?_, ?_, ?_, ?_, ?_, ?_, ?_⟩ <;> (first | rfl | (simp (maxDischargeDepth := 12) [State.hintCommit]; done) | (unfold State.hintCommit; (try dsimp only); repeat' (first | rfl | (simp (maxDischargeDepth := 12); done) | split)))

@[simp] theorem State_hintCommit_keeps2 (s : State) (n : Nat) (t : Nat) :
    (State.hintCommit s n t).warden = s.warden ∧ (State.hintCommit s n t).policy = s.policy ∧ (State.hintCommit s n t).rings = s.rings ∧
    (State.hintCommit s n t).smb = s.smb ∧ (State.hintCommit s n t).avs = s.avs ∧ (State.hintCommit s n t).tap = s.tap ∧
    (State.hintCommit s n t).pub = s.pub ∧ (State.hintCommit s n t).freeCtr = s.freeCtr ∧ (State.hintCommit s n t).pending = s.pending := by
  refine ⟨?_, ?_, ?_, ?_, ?_, ?_, ?_, ?_, ?_⟩ <;> (first | rfl | (simp (maxDischargeDepth := 12) [State.hintCommit]; done) | (unfold State.hintCommit; (try dsimp only); repeat' (first | rfl | (simp (maxDischargeDepth := 12); done) | split)))

@[simp] theorem State_boostCommit_keeps0 (s : State) :
    (State.boostCommit s).otp = s.otp ∧ (State.boostCommit s).start = s.start ∧ (State.boostCommit s).clk = s.clk ∧
    (State.boostCommit s).win = s.win ∧ (State.boostCommit s).cells = s.cells ∧ (State.boostCommit s).views = s.views ∧
    (State.boostCommit s).chains = s.chains ∧ (State.boostCommit s).creg = s.creg ∧ (State.boostCommit s).eng = s.eng ∧
    (State.boostCommit s).doms = s.doms ∧ (State.boostCommit s).lanes = s.lanes := by
  refine ⟨?_, ?_, ?_, ?_, ?_, ?_, ?_, ?_, ?_, ?_, ?_⟩ <;> (first | rfl | (simp (maxDischargeDepth := 12) [State.boostCommit]; done) | (unfold State.boostCommit; (try dsimp only); repeat' (first | rfl | (simp (maxDischargeDepth := 12); done) | split)))

@[simp] theorem State_boostCommit_keeps1 (s : State) :
    (State.boostCommit s).sense = s.sense ∧ (State.boostCommit s).dscs = s.dscs ∧ (State.boostCommit s).hkcs = s.hkcs ∧
    (State.boostCommit s).tallies = s.tallies ∧ (State.boostCommit s).tiles = s.tiles ∧ (State.boostCommit s).accts = s.accts ∧
    (State.boostCommit s).limits = s.limits ∧ (State.boostCommit s).pace = s.pace ∧ (State.boostCommit s).therm = s.therm ∧
    (State.boostCommit s).diodes = s.diodes ∧ (State.boostCommit s).stopq = s.stopq := by
  refine ⟨?_, ?_, ?_, ?_, ?_, ?_, ?_, ?_, ?_, ?_, ?_⟩ <;> (first | rfl | (simp (maxDischargeDepth := 12) [State.boostCommit]; done) | (unfold State.boostCommit; (try dsimp only); repeat' (first | rfl | (simp (maxDischargeDepth := 12); done) | split)))

@[simp] theorem State_boostCommit_keeps2 (s : State) :
    (State.boostCommit s).flt = s.flt ∧ (State.boostCommit s).warden = s.warden ∧ (State.boostCommit s).policy = s.policy ∧
    (State.boostCommit s).rings = s.rings ∧ (State.boostCommit s).smb = s.smb ∧ (State.boostCommit s).tap = s.tap ∧
    (State.boostCommit s).pub = s.pub ∧ (State.boostCommit s).freeCtr = s.freeCtr ∧ (State.boostCommit s).pending = s.pending := by
  refine ⟨?_, ?_, ?_, ?_, ?_, ?_, ?_, ?_, ?_⟩ <;> (first | rfl | (simp (maxDischargeDepth := 12) [State.boostCommit]; done) | (unfold State.boostCommit; (try dsimp only); repeat' (first | rfl | (simp (maxDischargeDepth := 12); done) | split)))

end Sys2Proof.Machine
end

