-- ==== Sys2Proof/Laws/FramesLedger.lean ====
section
/-! SUPPORT. The fields of State that the operations of Machine/Ledger.lean leave alone. -/

set_option linter.unusedSimpArgs false
set_option linter.unusedVariables false

namespace Sys2Proof.Machine

@[simp] theorem State_cutoff1600_keeps0 (s : State) :
    (State.cutoff1600 s).otp = s.otp ∧ (State.cutoff1600 s).start = s.start ∧ (State.cutoff1600 s).clk = s.clk ∧
    (State.cutoff1600 s).win = s.win ∧ (State.cutoff1600 s).cells = s.cells ∧ (State.cutoff1600 s).views = s.views ∧
    (State.cutoff1600 s).chains = s.chains ∧ (State.cutoff1600 s).creg = s.creg ∧ (State.cutoff1600 s).eng = s.eng ∧
    (State.cutoff1600 s).doms = s.doms ∧ (State.cutoff1600 s).lanes = s.lanes := by
  refine ⟨?_, ?_, ?_, ?_, ?_, ?_, ?_, ?_, ?_, ?_, ?_⟩ <;> (first | rfl | (simp (maxDischargeDepth := 12) [State.cutoff1600]; done) | (unfold State.cutoff1600; (try dsimp only); repeat' (first | rfl | (simp (maxDischargeDepth := 12); done) | split)))

@[simp] theorem State_cutoff1600_keeps1 (s : State) :
    (State.cutoff1600 s).sense = s.sense ∧ (State.cutoff1600 s).dscs = s.dscs ∧ (State.cutoff1600 s).hkcs = s.hkcs ∧
    (State.cutoff1600 s).tallies = s.tallies ∧ (State.cutoff1600 s).accts = s.accts ∧ (State.cutoff1600 s).limits = s.limits ∧
    (State.cutoff1600 s).therm = s.therm ∧ (State.cutoff1600 s).stopq = s.stopq ∧ (State.cutoff1600 s).flt = s.flt ∧
    (State.cutoff1600 s).warden = s.warden ∧ (State.cutoff1600 s).policy = s.policy := by
  refine ⟨?_, ?_, ?_, ?_, ?_, ?_, ?_, ?_, ?_, ?_, ?_⟩ <;> (first | rfl | (simp (maxDischargeDepth := 12) [State.cutoff1600]; done) | (unfold State.cutoff1600; (try dsimp only); repeat' (first | rfl | (simp (maxDischargeDepth := 12); done) | split)))

@[simp] theorem State_cutoff1600_keeps2 (s : State) :
    (State.cutoff1600 s).rings = s.rings ∧ (State.cutoff1600 s).smb = s.smb ∧ (State.cutoff1600 s).avs = s.avs ∧
    (State.cutoff1600 s).tap = s.tap ∧ (State.cutoff1600 s).pub = s.pub ∧ (State.cutoff1600 s).freeCtr = s.freeCtr ∧
    (State.cutoff1600 s).pending = s.pending := by
  refine ⟨?_, ?_, ?_, ?_, ?_, ?_, ?_⟩ <;> (first | rfl | (simp (maxDischargeDepth := 12) [State.cutoff1600]; done) | (unfold State.cutoff1600; (try dsimp only); repeat' (first | rfl | (simp (maxDischargeDepth := 12); done) | split)))

@[simp] theorem State_accountSupport_keeps0 (s : State) (d : Nat) :
    (State.accountSupport s d).otp = s.otp ∧ (State.accountSupport s d).start = s.start ∧ (State.accountSupport s d).clk = s.clk ∧
    (State.accountSupport s d).win = s.win ∧ (State.accountSupport s d).cells = s.cells ∧ (State.accountSupport s d).views = s.views ∧
    (State.accountSupport s d).chains = s.chains ∧ (State.accountSupport s d).creg = s.creg ∧ (State.accountSupport s d).eng = s.eng ∧
    (State.accountSupport s d).doms = s.doms ∧ (State.accountSupport s d).lanes = s.lanes := by
  refine ⟨?_, ?_, ?_, ?_, ?_, ?_, ?_, ?_, ?_, ?_, ?_⟩ <;> (first | rfl | (simp (maxDischargeDepth := 12) [State.accountSupport]; done) | (unfold State.accountSupport; (try dsimp only); repeat' (first | rfl | (simp (maxDischargeDepth := 12); done) | split)))

@[simp] theorem State_accountSupport_keeps1 (s : State) (d : Nat) :
    (State.accountSupport s d).sense = s.sense ∧ (State.accountSupport s d).dscs = s.dscs ∧ (State.accountSupport s d).hkcs = s.hkcs ∧
    (State.accountSupport s d).tallies = s.tallies ∧ (State.accountSupport s d).ledger = s.ledger ∧
    (State.accountSupport s d).tiles = s.tiles ∧ (State.accountSupport s d).limits = s.limits ∧ (State.accountSupport s d).pace = s.pace ∧
    (State.accountSupport s d).therm = s.therm ∧ (State.accountSupport s d).diodes = s.diodes ∧ (State.accountSupport s d).stopq = s.stopq := by
  refine ⟨?_, ?_, ?_, ?_, ?_, ?_, ?_, ?_, ?_, ?_, ?_⟩ <;> (first | rfl | (simp (maxDischargeDepth := 12) [State.accountSupport]; done) | (unfold State.accountSupport; (try dsimp only); repeat' (first | rfl | (simp (maxDischargeDepth := 12); done) | split)))

@[simp] theorem State_accountSupport_keeps2 (s : State) (d : Nat) :
    (State.accountSupport s d).flt = s.flt ∧ (State.accountSupport s d).warden = s.warden ∧ (State.accountSupport s d).policy = s.policy ∧
    (State.accountSupport s d).rings = s.rings ∧ (State.accountSupport s d).smb = s.smb ∧ (State.accountSupport s d).avs = s.avs ∧
    (State.accountSupport s d).tap = s.tap ∧ (State.accountSupport s d).pub = s.pub ∧ (State.accountSupport s d).freeCtr = s.freeCtr ∧
    (State.accountSupport s d).pending = s.pending := by
  refine ⟨?_, ?_, ?_, ?_, ?_, ?_, ?_, ?_, ?_, ?_⟩ <;> (first | rfl | (simp (maxDischargeDepth := 12) [State.accountSupport]; done) | (unfold State.accountSupport; (try dsimp only); repeat' (first | rfl | (simp (maxDischargeDepth := 12); done) | split)))

@[simp] theorem State_accountMeans_keeps0 (s : State) (d : Nat) :
    (State.accountMeans s d).otp = s.otp ∧ (State.accountMeans s d).start = s.start ∧ (State.accountMeans s d).clk = s.clk ∧
    (State.accountMeans s d).win = s.win ∧ (State.accountMeans s d).cells = s.cells ∧ (State.accountMeans s d).views = s.views ∧
    (State.accountMeans s d).chains = s.chains ∧ (State.accountMeans s d).creg = s.creg ∧ (State.accountMeans s d).eng = s.eng ∧
    (State.accountMeans s d).doms = s.doms ∧ (State.accountMeans s d).lanes = s.lanes := by
  refine ⟨?_, ?_, ?_, ?_, ?_, ?_, ?_, ?_, ?_, ?_, ?_⟩ <;> (first | rfl | (simp (maxDischargeDepth := 12) [State.accountMeans]; done) | (unfold State.accountMeans; (try dsimp only); repeat' (first | rfl | (simp (maxDischargeDepth := 12); done) | split)))

@[simp] theorem State_accountMeans_keeps1 (s : State) (d : Nat) :
    (State.accountMeans s d).sense = s.sense ∧ (State.accountMeans s d).dscs = s.dscs ∧ (State.accountMeans s d).hkcs = s.hkcs ∧
    (State.accountMeans s d).tallies = s.tallies ∧ (State.accountMeans s d).ledger = s.ledger ∧ (State.accountMeans s d).tiles = s.tiles ∧
    (State.accountMeans s d).limits = s.limits ∧ (State.accountMeans s d).pace = s.pace ∧ (State.accountMeans s d).therm = s.therm ∧
    (State.accountMeans s d).diodes = s.diodes ∧ (State.accountMeans s d).stopq = s.stopq := by
  refine ⟨?_, ?_, ?_, ?_, ?_, ?_, ?_, ?_, ?_, ?_, ?_⟩ <;> (first | rfl | (simp (maxDischargeDepth := 12) [State.accountMeans]; done) | (unfold State.accountMeans; (try dsimp only); repeat' (first | rfl | (simp (maxDischargeDepth := 12); done) | split)))

@[simp] theorem State_accountMeans_keeps2 (s : State) (d : Nat) :
    (State.accountMeans s d).flt = s.flt ∧ (State.accountMeans s d).warden = s.warden ∧ (State.accountMeans s d).policy = s.policy ∧
    (State.accountMeans s d).rings = s.rings ∧ (State.accountMeans s d).smb = s.smb ∧ (State.accountMeans s d).avs = s.avs ∧
    (State.accountMeans s d).tap = s.tap ∧ (State.accountMeans s d).pub = s.pub ∧ (State.accountMeans s d).freeCtr = s.freeCtr ∧
    (State.accountMeans s d).pending = s.pending := by
  refine ⟨?_, ?_, ?_, ?_, ?_, ?_, ?_, ?_, ?_, ?_⟩ <;> (first | rfl | (simp (maxDischargeDepth := 12) [State.accountMeans]; done) | (unfold State.accountMeans; (try dsimp only); repeat' (first | rfl | (simp (maxDischargeDepth := 12); done) | split)))

@[simp] theorem State_floorMissCommit_keeps (s : State) :
    (State.floorMissCommit s).otp = s.otp ∧ (State.floorMissCommit s).cells = s.cells ∧ (State.floorMissCommit s).smb = s.smb ∧
    (State.floorMissCommit s).avs = s.avs ∧ (State.floorMissCommit s).tap = s.tap ∧ (State.floorMissCommit s).freeCtr = s.freeCtr ∧
    (State.floorMissCommit s).pending = s.pending := by
  refine ⟨?_, ?_, ?_, ?_, ?_, ?_, ?_⟩ <;> (first | rfl | (simp (maxDischargeDepth := 12) [State.floorMissCommit]; done) | (unfold State.floorMissCommit; (try dsimp only); repeat' (first | rfl | (simp (maxDischargeDepth := 12); done) | split)))

/-- It writes the limit meter's own record and, at a break of the fixed-frequency repeat, one event. -/
theorem State.fixedCommit_is (s : State) (rows : List QuotaRow) (qSymp : Nat) (enter : Bool) :
    ∃ l : Limits, State.fixedCommit s rows qSymp enter = { s with limits := l } ∨
      ∃ e, State.fixedCommit s rows qSymp enter = { s.pushEvent e with limits := l } := by
  have hp : ∀ (l : Limits) (v : Event), ({ s with limits := l } : State).pushEvent v = { s.pushEvent v with limits := l } := by
    intro l v
    unfold State.pushEvent
    dsimp only
    split <;> rfl
  unfold State.fixedCommit
  dsimp only
  split
  · split
    · exact ⟨_, Or.inr ⟨_, rfl⟩⟩
    · exact ⟨_, Or.inl rfl⟩
  · split
    · exact ⟨_, Or.inr ⟨_, hp _ _⟩⟩
    · exact ⟨_, Or.inl rfl⟩

@[simp] theorem State_fixedCommit_keeps0 (s : State) (rows : List QuotaRow) (qSymp : Nat) (enter : Bool) :
    (State.fixedCommit s rows qSymp enter).otp = s.otp ∧ (State.fixedCommit s rows qSymp enter).start = s.start ∧
    (State.fixedCommit s rows qSymp enter).clk = s.clk ∧ (State.fixedCommit s rows qSymp enter).win = s.win ∧
    (State.fixedCommit s rows qSymp enter).cells = s.cells ∧ (State.fixedCommit s rows qSymp enter).views = s.views ∧
    (State.fixedCommit s rows qSymp enter).chains = s.chains ∧ (State.fixedCommit s rows qSymp enter).creg = s.creg ∧
    (State.fixedCommit s rows qSymp enter).eng = s.eng ∧ (State.fixedCommit s rows qSymp enter).doms = s.doms ∧
    (State.fixedCommit s rows qSymp enter).lanes = s.lanes := by
  obtain ⟨l, e | ⟨v, e⟩⟩ := State.fixedCommit_is s rows qSymp enter <;> rw [e] <;> simp only [State_pushEvent_keeps, and_self]

@[simp] theorem State_fixedCommit_keeps1 (s : State) (rows : List QuotaRow) (qSymp : Nat) (enter : Bool) :
    (State.fixedCommit s rows qSymp enter).sense = s.sense ∧ (State.fixedCommit s rows qSymp enter).dscs = s.dscs ∧
    (State.fixedCommit s rows qSymp enter).hkcs = s.hkcs ∧ (State.fixedCommit s rows qSymp enter).tallies = s.tallies ∧
    (State.fixedCommit s rows qSymp enter).ledger = s.ledger ∧ (State.fixedCommit s rows qSymp enter).tiles = s.tiles ∧
    (State.fixedCommit s rows qSymp enter).accts = s.accts ∧ (State.fixedCommit s rows qSymp enter).pace = s.pace ∧
    (State.fixedCommit s rows qSymp enter).therm = s.therm ∧ (State.fixedCommit s rows qSymp enter).diodes = s.diodes ∧
    (State.fixedCommit s rows qSymp enter).stopq = s.stopq := by
  obtain ⟨l, e | ⟨v, e⟩⟩ := State.fixedCommit_is s rows qSymp enter <;> rw [e] <;> simp only [State_pushEvent_keeps, and_self]

@[simp] theorem State_fixedCommit_keeps2 (s : State) (rows : List QuotaRow) (qSymp : Nat) (enter : Bool) :
    (State.fixedCommit s rows qSymp enter).warden = s.warden ∧ (State.fixedCommit s rows qSymp enter).policy = s.policy ∧
    (State.fixedCommit s rows qSymp enter).smb = s.smb ∧ (State.fixedCommit s rows qSymp enter).avs = s.avs ∧
    (State.fixedCommit s rows qSymp enter).tap = s.tap ∧ (State.fixedCommit s rows qSymp enter).pub = s.pub ∧
    (State.fixedCommit s rows qSymp enter).freeCtr = s.freeCtr ∧ (State.fixedCommit s rows qSymp enter).pending = s.pending := by
  obtain ⟨l, e | ⟨v, e⟩⟩ := State.fixedCommit_is s rows qSymp enter <;> rw [e] <;> simp only [State_pushEvent_keeps, and_self]

@[simp] theorem State_sympCommit_keeps0 (s : State) (rows : List QuotaRow) (q : Nat) :
    (State.sympCommit s rows q).otp = s.otp ∧ (State.sympCommit s rows q).start = s.start ∧ (State.sympCommit s rows q).clk = s.clk ∧
    (State.sympCommit s rows q).win = s.win ∧ (State.sympCommit s rows q).cells = s.cells ∧ (State.sympCommit s rows q).views = s.views ∧
    (State.sympCommit s rows q).chains = s.chains ∧ (State.sympCommit s rows q).creg = s.creg ∧ (State.sympCommit s rows q).eng = s.eng ∧
    (State.sympCommit s rows q).doms = s.doms ∧ (State.sympCommit s rows q).lanes = s.lanes := by
  refine ⟨?_, ?_, ?_, ?_, ?_, ?_, ?_, ?_, ?_, ?_, ?_⟩ <;> (first | rfl | (simp (maxDischargeDepth := 12) [State.sympCommit]; done) | (unfold State.sympCommit; (try dsimp only); repeat' (first | rfl | (simp (maxDischargeDepth := 12); done) | split)))

@[simp] theorem State_sympCommit_keeps1 (s : State) (rows : List QuotaRow) (q : Nat) :
    (State.sympCommit s rows q).sense = s.sense ∧ (State.sympCommit s rows q).dscs = s.dscs ∧ (State.sympCommit s rows q).hkcs = s.hkcs ∧
    (State.sympCommit s rows q).tallies = s.tallies ∧ (State.sympCommit s rows q).ledger = s.ledger ∧
    (State.sympCommit s rows q).tiles = s.tiles ∧ (State.sympCommit s rows q).accts = s.accts ∧
    (State.sympCommit s rows q).limits = s.limits ∧ (State.sympCommit s rows q).therm = s.therm ∧
    (State.sympCommit s rows q).diodes = s.diodes ∧ (State.sympCommit s rows q).stopq = s.stopq := by
  refine ⟨?_, ?_, ?_, ?_, ?_, ?_, ?_, ?_, ?_, ?_, ?_⟩ <;> (first | rfl | (simp (maxDischargeDepth := 12) [State.sympCommit]; done) | (unfold State.sympCommit; (try dsimp only); repeat' (first | rfl | (simp (maxDischargeDepth := 12); done) | split)))

@[simp] theorem State_sympCommit_keeps2 (s : State) (rows : List QuotaRow) (q : Nat) :
    (State.sympCommit s rows q).warden = s.warden ∧ (State.sympCommit s rows q).policy = s.policy ∧
    (State.sympCommit s rows q).smb = s.smb ∧ (State.sympCommit s rows q).avs = s.avs ∧ (State.sympCommit s rows q).tap = s.tap ∧
    (State.sympCommit s rows q).pub = s.pub ∧ (State.sympCommit s rows q).freeCtr = s.freeCtr ∧
    (State.sympCommit s rows q).pending = s.pending := by
  refine ⟨?_, ?_, ?_, ?_, ?_, ?_, ?_, ?_⟩ <;> (first | rfl | (simp (maxDischargeDepth := 12) [State.sympCommit]; done) | (unfold State.sympCommit; (try dsimp only); repeat' (first | rfl | (simp (maxDischargeDepth := 12); done) | split)))

@[simp] theorem State_paceAged_keeps0 (s : State) (above : Nat) (below : Nat) :
    (State.paceAged s above below).otp = s.otp ∧ (State.paceAged s above below).start = s.start ∧
    (State.paceAged s above below).clk = s.clk ∧ (State.paceAged s above below).win = s.win ∧
    (State.paceAged s above below).cells = s.cells ∧ (State.paceAged s above below).views = s.views ∧
    (State.paceAged s above below).chains = s.chains ∧ (State.paceAged s above below).creg = s.creg ∧
    (State.paceAged s above below).eng = s.eng ∧ (State.paceAged s above below).doms = s.doms ∧
    (State.paceAged s above below).lanes = s.lanes := by
  refine ⟨?_, ?_, ?_, ?_, ?_, ?_, ?_, ?_, ?_, ?_, ?_⟩ <;> (first | rfl | (simp (maxDischargeDepth := 12) [State.paceAged]; done) | (unfold State.paceAged; (try dsimp only); repeat' (first | rfl | (simp (maxDischargeDepth := 12); done) | split)))

@[simp] theorem State_paceAged_keeps1 (s : State) (above : Nat) (below : Nat) :
    (State.paceAged s above below).sense = s.sense ∧ (State.paceAged s above below).dscs = s.dscs ∧
    (State.paceAged s above below).hkcs = s.hkcs ∧ (State.paceAged s above below).tallies = s.tallies ∧
    (State.paceAged s above below).ledger = s.ledger ∧ (State.paceAged s above below).tiles = s.tiles ∧
    (State.paceAged s above below).accts = s.accts ∧ (State.paceAged s above below).limits = s.limits ∧
    (State.paceAged s above below).therm = s.therm ∧ (State.paceAged s above below).diodes = s.diodes ∧
    (State.paceAged s above below).stopq = s.stopq := by
  refine ⟨?_, ?_, ?_, ?_, ?_, ?_, ?_, ?_, ?_, ?_, ?_⟩ <;> (first | rfl | (simp (maxDischargeDepth := 12) [State.paceAged]; done) | (unfold State.paceAged; (try dsimp only); repeat' (first | rfl | (simp (maxDischargeDepth := 12); done) | split)))

@[simp] theorem State_paceAged_keeps2 (s : State) (above : Nat) (below : Nat) :
    (State.paceAged s above below).flt = s.flt ∧ (State.paceAged s above below).warden = s.warden ∧
    (State.paceAged s above below).policy = s.policy ∧ (State.paceAged s above below).rings = s.rings ∧
    (State.paceAged s above below).smb = s.smb ∧ (State.paceAged s above below).avs = s.avs ∧ (State.paceAged s above below).tap = s.tap ∧
    (State.paceAged s above below).pub = s.pub ∧ (State.paceAged s above below).freeCtr = s.freeCtr ∧
    (State.paceAged s above below).pending = s.pending := by
  refine ⟨?_, ?_, ?_, ?_, ?_, ?_, ?_, ?_, ?_, ?_⟩ <;> (first | rfl | (simp (maxDischargeDepth := 12) [State.paceAged]; done) | (unfold State.paceAged; (try dsimp only); repeat' (first | rfl | (simp (maxDischargeDepth := 12); done) | split)))

@[simp] theorem State_paceRelayAgain_keeps0 (s : State) :
    (State.paceRelayAgain s).otp = s.otp ∧ (State.paceRelayAgain s).start = s.start ∧ (State.paceRelayAgain s).clk = s.clk ∧
    (State.paceRelayAgain s).win = s.win ∧ (State.paceRelayAgain s).cells = s.cells ∧ (State.paceRelayAgain s).views = s.views ∧
    (State.paceRelayAgain s).chains = s.chains ∧ (State.paceRelayAgain s).creg = s.creg ∧ (State.paceRelayAgain s).eng = s.eng ∧
    (State.paceRelayAgain s).doms = s.doms ∧ (State.paceRelayAgain s).lanes = s.lanes := by
  refine ⟨?_, ?_, ?_, ?_, ?_, ?_, ?_, ?_, ?_, ?_, ?_⟩ <;> (first | rfl | (simp (maxDischargeDepth := 12) [State.paceRelayAgain]; done) | (unfold State.paceRelayAgain; (try dsimp only); repeat' (first | rfl | (simp (maxDischargeDepth := 12); done) | split)))

@[simp] theorem State_paceRelayAgain_keeps1 (s : State) :
    (State.paceRelayAgain s).sense = s.sense ∧ (State.paceRelayAgain s).dscs = s.dscs ∧ (State.paceRelayAgain s).hkcs = s.hkcs ∧
    (State.paceRelayAgain s).tallies = s.tallies ∧ (State.paceRelayAgain s).ledger = s.ledger ∧ (State.paceRelayAgain s).tiles = s.tiles ∧
    (State.paceRelayAgain s).accts = s.accts ∧ (State.paceRelayAgain s).limits = s.limits ∧ (State.paceRelayAgain s).therm = s.therm ∧
    (State.paceRelayAgain s).diodes = s.diodes ∧ (State.paceRelayAgain s).stopq = s.stopq := by
  refine ⟨?_, ?_, ?_, ?_, ?_, ?_, ?_, ?_, ?_, ?_, ?_⟩ <;> (first | rfl | (simp (maxDischargeDepth := 12) [State.paceRelayAgain]; done) | (unfold State.paceRelayAgain; (try dsimp only); repeat' (first | rfl | (simp (maxDischargeDepth := 12); done) | split)))

@[simp] theorem State_paceRelayAgain_keeps2 (s : State) :
    (State.paceRelayAgain s).flt = s.flt ∧ (State.paceRelayAgain s).warden = s.warden ∧ (State.paceRelayAgain s).policy = s.policy ∧
    (State.paceRelayAgain s).rings = s.rings ∧ (State.paceRelayAgain s).smb = s.smb ∧ (State.paceRelayAgain s).avs = s.avs ∧
    (State.paceRelayAgain s).tap = s.tap ∧ (State.paceRelayAgain s).pub = s.pub ∧ (State.paceRelayAgain s).freeCtr = s.freeCtr ∧
    (State.paceRelayAgain s).pending = s.pending := by
  refine ⟨?_, ?_, ?_, ?_, ?_, ?_, ?_, ?_, ?_, ?_⟩ <;> (first | rfl | (simp (maxDischargeDepth := 12) [State.paceRelayAgain]; done) | (unfold State.paceRelayAgain; (try dsimp only); repeat' (first | rfl | (simp (maxDischargeDepth := 12); done) | split)))

@[simp] theorem State_paceSay_keeps0 (s : State) (q : Nat) (seq : Nat) :
    (State.paceSay s q seq).otp = s.otp ∧ (State.paceSay s q seq).start = s.start ∧ (State.paceSay s q seq).clk = s.clk ∧
    (State.paceSay s q seq).win = s.win ∧ (State.paceSay s q seq).cells = s.cells ∧ (State.paceSay s q seq).views = s.views ∧
    (State.paceSay s q seq).chains = s.chains ∧ (State.paceSay s q seq).creg = s.creg ∧ (State.paceSay s q seq).eng = s.eng ∧
    (State.paceSay s q seq).doms = s.doms ∧ (State.paceSay s q seq).lanes = s.lanes := by
  refine ⟨?_, ?_, ?_, ?_, ?_, ?_, ?_, ?_, ?_, ?_, ?_⟩ <;> (first | rfl | (simp (maxDischargeDepth := 12) [State.paceSay]; done) | (unfold State.paceSay; (try dsimp only); repeat' (first | rfl | (simp (maxDischargeDepth := 12); done) | split)))

@[simp] theorem State_paceSay_keeps1 (s : State) (q : Nat) (seq : Nat) :
    (State.paceSay s q seq).sense = s.sense ∧ (State.paceSay s q seq).dscs = s.dscs ∧ (State.paceSay s q seq).hkcs = s.hkcs ∧
    (State.paceSay s q seq).tallies = s.tallies ∧ (State.paceSay s q seq).ledger = s.ledger ∧ (State.paceSay s q seq).tiles = s.tiles ∧
    (State.paceSay s q seq).accts = s.accts ∧ (State.paceSay s q seq).limits = s.limits ∧ (State.paceSay s q seq).therm = s.therm ∧
    (State.paceSay s q seq).diodes = s.diodes ∧ (State.paceSay s q seq).stopq = s.stopq := by
  refine ⟨?_, ?_, ?_, ?_, ?_, ?_, ?_, ?_, ?_, ?_, ?_⟩ <;> (first | rfl | (simp (maxDischargeDepth := 12) [State.paceSay]; done) | (unfold State.paceSay; (try dsimp only); repeat' (first | rfl | (simp (maxDischargeDepth := 12); done) | split)))

@[simp] theorem State_paceSay_keeps2 (s : State) (q : Nat) (seq : Nat) :
    (State.paceSay s q seq).flt = s.flt ∧ (State.paceSay s q seq).warden = s.warden ∧ (State.paceSay s q seq).policy = s.policy ∧
    (State.paceSay s q seq).rings = s.rings ∧ (State.paceSay s q seq).smb = s.smb ∧ (State.paceSay s q seq).avs = s.avs ∧
    (State.paceSay s q seq).tap = s.tap ∧ (State.paceSay s q seq).pub = s.pub ∧ (State.paceSay s q seq).freeCtr = s.freeCtr ∧
    (State.paceSay s q seq).pending = s.pending := by
  refine ⟨?_, ?_, ?_, ?_, ?_, ?_, ?_, ?_, ?_, ?_⟩ <;> (first | rfl | (simp (maxDischargeDepth := 12) [State.paceSay]; done) | (unfold State.paceSay; (try dsimp only); repeat' (first | rfl | (simp (maxDischargeDepth := 12); done) | split)))

@[simp] theorem State_paceOwnQuota_keeps0 (s : State) (above : Nat) (below : Nat) (q : Nat) (resend : Bool) :
    (State.paceOwnQuota s above below q resend).otp = s.otp ∧ (State.paceOwnQuota s above below q resend).start = s.start ∧
    (State.paceOwnQuota s above below q resend).clk = s.clk ∧ (State.paceOwnQuota s above below q resend).win = s.win ∧
    (State.paceOwnQuota s above below q resend).cells = s.cells ∧ (State.paceOwnQuota s above below q resend).views = s.views ∧
    (State.paceOwnQuota s above below q resend).chains = s.chains ∧ (State.paceOwnQuota s above below q resend).creg = s.creg ∧
    (State.paceOwnQuota s above below q resend).eng = s.eng ∧ (State.paceOwnQuota s above below q resend).doms = s.doms ∧
    (State.paceOwnQuota s above below q resend).lanes = s.lanes := by
  refine ⟨?_, ?_, ?_, ?_, ?_, ?_, ?_, ?_, ?_, ?_, ?_⟩ <;> (first | rfl | (simp (maxDischargeDepth := 12) [State.paceOwnQuota]; done) | (unfold State.paceOwnQuota; (try dsimp only); repeat' (first | rfl | (simp (maxDischargeDepth := 12); done) | split)))

@[simp] theorem State_paceOwnQuota_keeps1 (s : State) (above : Nat) (below : Nat) (q : Nat) (resend : Bool) :
    (State.paceOwnQuota s above below q resend).sense = s.sense ∧ (State.paceOwnQuota s above below q resend).dscs = s.dscs ∧
    (State.paceOwnQuota s above below q resend).hkcs = s.hkcs ∧ (State.paceOwnQuota s above below q resend).tallies = s.tallies ∧
    (State.paceOwnQuota s above below q resend).ledger = s.ledger ∧ (State.paceOwnQuota s above below q resend).tiles = s.tiles ∧
    (State.paceOwnQuota s above below q resend).accts = s.accts ∧ (State.paceOwnQuota s above below q resend).limits = s.limits ∧
    (State.paceOwnQuota s above below q resend).therm = s.therm ∧ (State.paceOwnQuota s above below q resend).diodes = s.diodes ∧
    (State.paceOwnQuota s above below q resend).stopq = s.stopq := by
  refine ⟨?_, ?_, ?_, ?_, ?_, ?_, ?_, ?_, ?_, ?_, ?_⟩ <;> (first | rfl | (simp (maxDischargeDepth := 12) [State.paceOwnQuota]; done) | (unfold State.paceOwnQuota; (try dsimp only); repeat' (first | rfl | (simp (maxDischargeDepth := 12); done) | split)))

@[simp] theorem State_paceOwnQuota_keeps2 (s : State) (above : Nat) (below : Nat) (q : Nat) (resend : Bool) :
    (State.paceOwnQuota s above below q resend).flt = s.flt ∧ (State.paceOwnQuota s above below q resend).warden = s.warden ∧
    (State.paceOwnQuota s above below q resend).policy = s.policy ∧ (State.paceOwnQuota s above below q resend).rings = s.rings ∧
    (State.paceOwnQuota s above below q resend).smb = s.smb ∧ (State.paceOwnQuota s above below q resend).avs = s.avs ∧
    (State.paceOwnQuota s above below q resend).tap = s.tap ∧ (State.paceOwnQuota s above below q resend).pub = s.pub ∧
    (State.paceOwnQuota s above below q resend).pending = s.pending := by
  refine ⟨?_, ?_, ?_, ?_, ?_, ?_, ?_, ?_, ?_⟩ <;> (first | rfl | (simp (maxDischargeDepth := 12) [State.paceOwnQuota]; done) | (unfold State.paceOwnQuota; (try dsimp only); repeat' (first | rfl | (simp (maxDischargeDepth := 12); done) | split)))

@[simp] theorem State_paceJob_keeps0 (s : State) (qJob : Nat) :
    (State.paceJob s qJob).otp = s.otp ∧ (State.paceJob s qJob).start = s.start ∧ (State.paceJob s qJob).clk = s.clk ∧
    (State.paceJob s qJob).win = s.win ∧ (State.paceJob s qJob).cells = s.cells ∧ (State.paceJob s qJob).views = s.views ∧
    (State.paceJob s qJob).chains = s.chains ∧ (State.paceJob s qJob).creg = s.creg ∧ (State.paceJob s qJob).eng = s.eng ∧
    (State.paceJob s qJob).doms = s.doms ∧ (State.paceJob s qJob).lanes = s.lanes := by
  refine ⟨?_, ?_, ?_, ?_, ?_, ?_, ?_, ?_, ?_, ?_, ?_⟩ <;> (first | rfl | (simp (maxDischargeDepth := 12) [State.paceJob]; done) | (unfold State.paceJob; (try dsimp only); repeat' (first | rfl | (simp (maxDischargeDepth := 12); done) | split)))

@[simp] theorem State_paceJob_keeps1 (s : State) (qJob : Nat) :
    (State.paceJob s qJob).sense = s.sense ∧ (State.paceJob s qJob).dscs = s.dscs ∧ (State.paceJob s qJob).hkcs = s.hkcs ∧
    (State.paceJob s qJob).tallies = s.tallies ∧ (State.paceJob s qJob).ledger = s.ledger ∧ (State.paceJob s qJob).tiles = s.tiles ∧
    (State.paceJob s qJob).accts = s.accts ∧ (State.paceJob s qJob).limits = s.limits ∧ (State.paceJob s qJob).therm = s.therm ∧
    (State.paceJob s qJob).diodes = s.diodes ∧ (State.paceJob s qJob).stopq = s.stopq := by
  refine ⟨?_, ?_, ?_, ?_, ?_, ?_, ?_, ?_, ?_, ?_, ?_⟩ <;> (first | rfl | (simp (maxDischargeDepth := 12) [State.paceJob]; done) | (unfold State.paceJob; (try dsimp only); repeat' (first | rfl | (simp (maxDischargeDepth := 12); done) | split)))

@[simp] theorem State_paceJob_keeps2 (s : State) (qJob : Nat) :
    (State.paceJob s qJob).flt = s.flt ∧ (State.paceJob s qJob).warden = s.warden ∧ (State.paceJob s qJob).policy = s.policy ∧
    (State.paceJob s qJob).rings = s.rings ∧ (State.paceJob s qJob).smb = s.smb ∧ (State.paceJob s qJob).avs = s.avs ∧
    (State.paceJob s qJob).tap = s.tap ∧ (State.paceJob s qJob).pub = s.pub ∧ (State.paceJob s qJob).pending = s.pending := by
  refine ⟨?_, ?_, ?_, ?_, ?_, ?_, ?_, ?_, ?_⟩ <;> (first | rfl | (simp (maxDischargeDepth := 12) [State.paceJob]; done) | (unfold State.paceJob; (try dsimp only); repeat' (first | rfl | (simp (maxDischargeDepth := 12); done) | split)))

@[simp] theorem State_freezeOp_keeps0 (s : State) :
    (State.freezeOp s).otp = s.otp ∧ (State.freezeOp s).start = s.start ∧ (State.freezeOp s).clk = s.clk ∧
    (State.freezeOp s).win = s.win ∧ (State.freezeOp s).cells = s.cells ∧ (State.freezeOp s).views = s.views ∧
    (State.freezeOp s).chains = s.chains ∧ (State.freezeOp s).creg = s.creg ∧ (State.freezeOp s).eng = s.eng ∧
    (State.freezeOp s).doms = s.doms ∧ (State.freezeOp s).lanes = s.lanes := by
  refine ⟨?_, ?_, ?_, ?_, ?_, ?_, ?_, ?_, ?_, ?_, ?_⟩ <;> (first | rfl | (simp (maxDischargeDepth := 12) [State.freezeOp]; done) | (unfold State.freezeOp; (try dsimp only); repeat' (first | rfl | (simp (maxDischargeDepth := 12); done) | split)))

@[simp] theorem State_freezeOp_keeps1 (s : State) :
    (State.freezeOp s).sense = s.sense ∧ (State.freezeOp s).dscs = s.dscs ∧ (State.freezeOp s).hkcs = s.hkcs ∧
    (State.freezeOp s).tallies = s.tallies ∧ (State.freezeOp s).tiles = s.tiles ∧ (State.freezeOp s).accts = s.accts ∧
    (State.freezeOp s).limits = s.limits ∧ (State.freezeOp s).pace = s.pace ∧ (State.freezeOp s).therm = s.therm ∧
    (State.freezeOp s).diodes = s.diodes ∧ (State.freezeOp s).stopq = s.stopq := by
  refine ⟨?_, ?_, ?_, ?_, ?_, ?_, ?_, ?_, ?_, ?_, ?_⟩ <;> (first | rfl | (simp (maxDischargeDepth := 12) [State.freezeOp]; done) | (unfold State.freezeOp; (try dsimp only); repeat' (first | rfl | (simp (maxDischargeDepth := 12); done) | split)))

@[simp] theorem State_freezeOp_keeps2 (s : State) :
    (State.freezeOp s).flt = s.flt ∧ (State.freezeOp s).warden = s.warden ∧ (State.freezeOp s).policy = s.policy ∧
    (State.freezeOp s).rings = s.rings ∧ (State.freezeOp s).smb = s.smb ∧ (State.freezeOp s).avs = s.avs ∧
    (State.freezeOp s).tap = s.tap ∧ (State.freezeOp s).pub = s.pub ∧ (State.freezeOp s).freeCtr = s.freeCtr ∧
    (State.freezeOp s).pending = s.pending := by
  refine ⟨?_, ?_, ?_, ?_, ?_, ?_, ?_, ?_, ?_, ?_⟩ <;> (first | rfl | (simp (maxDischargeDepth := 12) [State.freezeOp]; done) | (unfold State.freezeOp; (try dsimp only); repeat' (first | rfl | (simp (maxDischargeDepth := 12); done) | split)))

@[simp] theorem State_unfreezeOp_keeps0 (s : State) :
    (State.unfreezeOp s).otp = s.otp ∧ (State.unfreezeOp s).start = s.start ∧ (State.unfreezeOp s).clk = s.clk ∧
    (State.unfreezeOp s).win = s.win ∧ (State.unfreezeOp s).cells = s.cells ∧ (State.unfreezeOp s).views = s.views ∧
    (State.unfreezeOp s).chains = s.chains ∧ (State.unfreezeOp s).creg = s.creg ∧ (State.unfreezeOp s).eng = s.eng ∧
    (State.unfreezeOp s).doms = s.doms ∧ (State.unfreezeOp s).lanes = s.lanes := by
  refine ⟨?_, ?_, ?_, ?_, ?_, ?_, ?_, ?_, ?_, ?_, ?_⟩ <;> (first | rfl | (simp (maxDischargeDepth := 12) [State.unfreezeOp]; done) | (unfold State.unfreezeOp; (try dsimp only); repeat' (first | rfl | (simp (maxDischargeDepth := 12); done) | split)))

@[simp] theorem State_unfreezeOp_keeps1 (s : State) :
    (State.unfreezeOp s).sense = s.sense ∧ (State.unfreezeOp s).dscs = s.dscs ∧ (State.unfreezeOp s).hkcs = s.hkcs ∧
    (State.unfreezeOp s).tallies = s.tallies ∧ (State.unfreezeOp s).tiles = s.tiles ∧ (State.unfreezeOp s).accts = s.accts ∧
    (State.unfreezeOp s).limits = s.limits ∧ (State.unfreezeOp s).pace = s.pace ∧ (State.unfreezeOp s).therm = s.therm ∧
    (State.unfreezeOp s).diodes = s.diodes ∧ (State.unfreezeOp s).stopq = s.stopq := by
  refine ⟨?_, ?_, ?_, ?_, ?_, ?_, ?_, ?_, ?_, ?_, ?_⟩ <;> (first | rfl | (simp (maxDischargeDepth := 12) [State.unfreezeOp]; done) | (unfold State.unfreezeOp; (try dsimp only); repeat' (first | rfl | (simp (maxDischargeDepth := 12); done) | split)))

@[simp] theorem State_unfreezeOp_keeps2 (s : State) :
    (State.unfreezeOp s).flt = s.flt ∧ (State.unfreezeOp s).warden = s.warden ∧ (State.unfreezeOp s).policy = s.policy ∧
    (State.unfreezeOp s).rings = s.rings ∧ (State.unfreezeOp s).smb = s.smb ∧ (State.unfreezeOp s).avs = s.avs ∧
    (State.unfreezeOp s).tap = s.tap ∧ (State.unfreezeOp s).pub = s.pub ∧ (State.unfreezeOp s).freeCtr = s.freeCtr ∧
    (State.unfreezeOp s).pending = s.pending := by
  refine ⟨?_, ?_, ?_, ?_, ?_, ?_, ?_, ?_, ?_, ?_⟩ <;> (first | rfl | (simp (maxDischargeDepth := 12) [State.unfreezeOp]; done) | (unfold State.unfreezeOp; (try dsimp only); repeat' (first | rfl | (simp (maxDischargeDepth := 12); done) | split)))

@[simp] theorem State_captureTile_keeps0 (s : State) (v : Word) :
    (State.captureTile s v).otp = s.otp ∧ (State.captureTile s v).start = s.start ∧ (State.captureTile s v).clk = s.clk ∧
    (State.captureTile s v).win = s.win ∧ (State.captureTile s v).cells = s.cells ∧ (State.captureTile s v).views = s.views ∧
    (State.captureTile s v).chains = s.chains ∧ (State.captureTile s v).creg = s.creg ∧ (State.captureTile s v).eng = s.eng ∧
    (State.captureTile s v).doms = s.doms ∧ (State.captureTile s v).lanes = s.lanes := by
  refine ⟨?_, ?_, ?_, ?_, ?_, ?_, ?_, ?_, ?_, ?_, ?_⟩ <;> (first | rfl | (simp (maxDischargeDepth := 12) [State.captureTile]; done) | (unfold State.captureTile; (try dsimp only); repeat' (first | rfl | (simp (maxDischargeDepth := 12); done) | split)))

@[simp] theorem State_captureTile_keeps1 (s : State) (v : Word) :
    (State.captureTile s v).sense = s.sense ∧ (State.captureTile s v).dscs = s.dscs ∧ (State.captureTile s v).hkcs = s.hkcs ∧
    (State.captureTile s v).tallies = s.tallies ∧ (State.captureTile s v).tiles = s.tiles ∧ (State.captureTile s v).accts = s.accts ∧
    (State.captureTile s v).limits = s.limits ∧ (State.captureTile s v).pace = s.pace ∧ (State.captureTile s v).therm = s.therm ∧
    (State.captureTile s v).diodes = s.diodes ∧ (State.captureTile s v).stopq = s.stopq := by
  refine ⟨?_, ?_, ?_, ?_, ?_, ?_, ?_, ?_, ?_, ?_, ?_⟩ <;> (first | rfl | (simp (maxDischargeDepth := 12) [State.captureTile]; done) | (unfold State.captureTile; (try dsimp only); repeat' (first | rfl | (simp (maxDischargeDepth := 12); done) | split)))

@[simp] theorem State_captureTile_keeps2 (s : State) (v : Word) :
    (State.captureTile s v).flt = s.flt ∧ (State.captureTile s v).warden = s.warden ∧ (State.captureTile s v).policy = s.policy ∧
    (State.captureTile s v).rings = s.rings ∧ (State.captureTile s v).smb = s.smb ∧ (State.captureTile s v).avs = s.avs ∧
    (State.captureTile s v).tap = s.tap ∧ (State.captureTile s v).pub = s.pub ∧ (State.captureTile s v).freeCtr = s.freeCtr ∧
    (State.captureTile s v).pending = s.pending := by
  refine ⟨?_, ?_, ?_, ?_, ?_, ?_, ?_, ?_, ?_, ?_⟩ <;> (first | rfl | (simp (maxDischargeDepth := 12) [State.captureTile]; done) | (unfold State.captureTile; (try dsimp only); repeat' (first | rfl | (simp (maxDischargeDepth := 12); done) | split)))

end Sys2Proof.Machine
end

