-- ==== Sys2Proof/Laws/FramesTelemetry.lean ====
section
/-! SUPPORT. The fields of State that the operations of Machine/Telemetry.lean leave alone. -/

set_option linter.unusedSimpArgs false
set_option linter.unusedVariables false

namespace Sys2Proof.Machine

@[simp] theorem State_recordTlm_keeps0 (s : State) (i : Nat) (p : Nat) (d : Nat) (l : Nat) :
    (State.recordTlm s i p d l).otp = s.otp ∧ (State.recordTlm s i p d l).start = s.start ∧ (State.recordTlm s i p d l).clk = s.clk ∧
    (State.recordTlm s i p d l).win = s.win ∧ (State.recordTlm s i p d l).cells = s.cells ∧
    (State.recordTlm s i p d l).chains = s.chains ∧ (State.recordTlm s i p d l).creg = s.creg ∧ (State.recordTlm s i p d l).eng = s.eng ∧
    (State.recordTlm s i p d l).doms = s.doms ∧ (State.recordTlm s i p d l).sense = s.sense ∧ (State.recordTlm s i p d l).dscs = s.dscs := by
  refine ⟨?_, ?_, ?_, ?_, ?_, ?_, ?_, ?_, ?_, ?_, ?_⟩ <;> (first | rfl | (simp (maxDischargeDepth := 12) [State.recordTlm]; done) | (unfold State.recordTlm; (try dsimp only); repeat' (first | rfl | (simp (maxDischargeDepth := 12); done) | split)))

@[simp] theorem State_recordTlm_keeps1 (s : State) (i : Nat) (p : Nat) (d : Nat) (l : Nat) :
    (State.recordTlm s i p d l).hkcs = s.hkcs ∧ (State.recordTlm s i p d l).tallies = s.tallies ∧
    (State.recordTlm s i p d l).ledger = s.ledger ∧ (State.recordTlm s i p d l).tiles = s.tiles ∧
    (State.recordTlm s i p d l).limits = s.limits ∧ (State.recordTlm s i p d l).pace = s.pace ∧
    (State.recordTlm s i p d l).therm = s.therm ∧ (State.recordTlm s i p d l).diodes = s.diodes ∧
    (State.recordTlm s i p d l).stopq = s.stopq ∧ (State.recordTlm s i p d l).flt = s.flt ∧ (State.recordTlm s i p d l).warden = s.warden := by
  refine ⟨?_, ?_, ?_, ?_, ?_, ?_, ?_, ?_, ?_, ?_, ?_⟩ <;> (first | rfl | (simp (maxDischargeDepth := 12) [State.recordTlm]; done) | (unfold State.recordTlm; (try dsimp only); repeat' (first | rfl | (simp (maxDischargeDepth := 12); done) | split)))

@[simp] theorem State_recordTlm_keeps2 (s : State) (i : Nat) (p : Nat) (d : Nat) (l : Nat) :
    (State.recordTlm s i p d l).policy = s.policy ∧ (State.recordTlm s i p d l).rings = s.rings ∧
    (State.recordTlm s i p d l).smb = s.smb ∧ (State.recordTlm s i p d l).avs = s.avs ∧ (State.recordTlm s i p d l).tap = s.tap ∧
    (State.recordTlm s i p d l).pub = s.pub ∧ (State.recordTlm s i p d l).freeCtr = s.freeCtr ∧
    (State.recordTlm s i p d l).pending = s.pending := by
  refine ⟨?_, ?_, ?_, ?_, ?_, ?_, ?_, ?_⟩ <;> (first | rfl | (simp (maxDischargeDepth := 12) [State.recordTlm]; done) | (unfold State.recordTlm; (try dsimp only); repeat' (first | rfl | (simp (maxDischargeDepth := 12); done) | split)))

@[simp] theorem State_calLatches_keeps0 (s : State) (e : Nat) (d : Nat) :
    (State.calLatches s e d).otp = s.otp ∧ (State.calLatches s e d).start = s.start ∧ (State.calLatches s e d).clk = s.clk ∧
    (State.calLatches s e d).win = s.win ∧ (State.calLatches s e d).cells = s.cells ∧ (State.calLatches s e d).views = s.views ∧
    (State.calLatches s e d).chains = s.chains ∧ (State.calLatches s e d).creg = s.creg ∧ (State.calLatches s e d).eng = s.eng ∧
    (State.calLatches s e d).lanes = s.lanes ∧ (State.calLatches s e d).sense = s.sense := by
  refine ⟨?_, ?_, ?_, ?_, ?_, ?_, ?_, ?_, ?_, ?_, ?_⟩ <;> (first | rfl | (simp (maxDischargeDepth := 12) [State.calLatches]; done) | (unfold State.calLatches; (try dsimp only); repeat' (first | rfl | (simp (maxDischargeDepth := 12); done) | split)))

@[simp] theorem State_calLatches_keeps1 (s : State) (e : Nat) (d : Nat) :
    (State.calLatches s e d).dscs = s.dscs ∧ (State.calLatches s e d).hkcs = s.hkcs ∧ (State.calLatches s e d).tallies = s.tallies ∧
    (State.calLatches s e d).ledger = s.ledger ∧ (State.calLatches s e d).tiles = s.tiles ∧ (State.calLatches s e d).limits = s.limits ∧
    (State.calLatches s e d).pace = s.pace ∧ (State.calLatches s e d).therm = s.therm ∧ (State.calLatches s e d).diodes = s.diodes ∧
    (State.calLatches s e d).stopq = s.stopq ∧ (State.calLatches s e d).flt = s.flt := by
  refine ⟨?_, ?_, ?_, ?_, ?_, ?_, ?_, ?_, ?_, ?_, ?_⟩ <;> (first | rfl | (simp (maxDischargeDepth := 12) [State.calLatches]; done) | (unfold State.calLatches; (try dsimp only); repeat' (first | rfl | (simp (maxDischargeDepth := 12); done) | split)))

@[simp] theorem State_calLatches_keeps2 (s : State) (e : Nat) (d : Nat) :
    (State.calLatches s e d).warden = s.warden ∧ (State.calLatches s e d).policy = s.policy ∧ (State.calLatches s e d).rings = s.rings ∧
    (State.calLatches s e d).smb = s.smb ∧ (State.calLatches s e d).avs = s.avs ∧ (State.calLatches s e d).tap = s.tap ∧
    (State.calLatches s e d).pub = s.pub ∧ (State.calLatches s e d).freeCtr = s.freeCtr ∧ (State.calLatches s e d).pending = s.pending := by
  refine ⟨?_, ?_, ?_, ?_, ?_, ?_, ?_, ?_, ?_⟩ <;> (first | rfl | (simp (maxDischargeDepth := 12) [State.calLatches]; done) | (unfold State.calLatches; (try dsimp only); repeat' (first | rfl | (simp (maxDischargeDepth := 12); done) | split)))

@[simp] theorem State_calCell_keeps (s : State) (i : Nat) (d : Nat) (m : Nat) (rho : Rat) :
    (State.calCell s i d m rho).otp = s.otp ∧ (State.calCell s i d m rho).cells = s.cells ∧ (State.calCell s i d m rho).smb = s.smb ∧
    (State.calCell s i d m rho).avs = s.avs ∧ (State.calCell s i d m rho).tap = s.tap ∧ (State.calCell s i d m rho).freeCtr = s.freeCtr ∧
    (State.calCell s i d m rho).pending = s.pending := by
  refine ⟨?_, ?_, ?_, ?_, ?_, ?_, ?_⟩ <;> (first | rfl | (simp (maxDischargeDepth := 12) [State.calCell]; done) | (unfold State.calCell; (try dsimp only); repeat' (first | rfl | (simp (maxDischargeDepth := 12); done) | split)))

@[simp] theorem State_calDomain_keeps (s : State) (m : Nat) (d : Nat) :
    (State.calDomain s m d).otp = s.otp ∧ (State.calDomain s m d).cells = s.cells ∧ (State.calDomain s m d).smb = s.smb ∧
    (State.calDomain s m d).avs = s.avs ∧ (State.calDomain s m d).tap = s.tap ∧ (State.calDomain s m d).freeCtr = s.freeCtr ∧
    (State.calDomain s m d).pending = s.pending := by
  refine ⟨?_, ?_, ?_, ?_, ?_, ?_, ?_⟩ <;> (first | rfl | (simp (maxDischargeDepth := 12) [State.calDomain]; done) | (unfold State.calDomain; (try dsimp only); repeat' (first | rfl | (simp (maxDischargeDepth := 12); done) | split)))

end Sys2Proof.Machine
end

