-- ==== Sys2Proof/Laws/FramesStartOps.lean ====
section
/-! SUPPORT. The fields of State that the operations of Machine/StartOps.lean leave alone. -/

set_option linter.unusedSimpArgs false
set_option linter.unusedVariables false

namespace Sys2Proof.Machine

@[simp] theorem State_wardenStop_keeps0 (s : State) (l : List Nat) :
    (State.wardenStop s l).otp = s.otp ∧ (State.wardenStop s l).start = s.start ∧ (State.wardenStop s l).clk = s.clk ∧
    (State.wardenStop s l).win = s.win ∧ (State.wardenStop s l).cells = s.cells ∧ (State.wardenStop s l).views = s.views ∧
    (State.wardenStop s l).creg = s.creg ∧ (State.wardenStop s l).eng = s.eng ∧ (State.wardenStop s l).doms = s.doms ∧
    (State.wardenStop s l).lanes = s.lanes ∧ (State.wardenStop s l).sense = s.sense := by
  refine ⟨?_, ?_, ?_, ?_, ?_, ?_, ?_, ?_, ?_, ?_, ?_⟩ <;> (first | rfl | (simp (maxDischargeDepth := 12) [State.wardenStop]; done) | (unfold State.wardenStop; (try dsimp only); repeat' (first | rfl | (simp (maxDischargeDepth := 12); done) | split)))

@[simp] theorem State_wardenStop_keeps1 (s : State) (l : List Nat) :
    (State.wardenStop s l).dscs = s.dscs ∧ (State.wardenStop s l).hkcs = s.hkcs ∧ (State.wardenStop s l).tallies = s.tallies ∧
    (State.wardenStop s l).ledger = s.ledger ∧ (State.wardenStop s l).tiles = s.tiles ∧ (State.wardenStop s l).accts = s.accts ∧
    (State.wardenStop s l).limits = s.limits ∧ (State.wardenStop s l).pace = s.pace ∧ (State.wardenStop s l).therm = s.therm ∧
    (State.wardenStop s l).diodes = s.diodes ∧ (State.wardenStop s l).stopq = s.stopq := by
  refine ⟨?_, ?_, ?_, ?_, ?_, ?_, ?_, ?_, ?_, ?_, ?_⟩ <;> (first | rfl | (simp (maxDischargeDepth := 12) [State.wardenStop]; done) | (unfold State.wardenStop; (try dsimp only); repeat' (first | rfl | (simp (maxDischargeDepth := 12); done) | split)))

@[simp] theorem State_wardenStop_keeps2 (s : State) (l : List Nat) :
    (State.wardenStop s l).flt = s.flt ∧ (State.wardenStop s l).warden = s.warden ∧ (State.wardenStop s l).policy = s.policy ∧
    (State.wardenStop s l).rings = s.rings ∧ (State.wardenStop s l).smb = s.smb ∧ (State.wardenStop s l).avs = s.avs ∧
    (State.wardenStop s l).tap = s.tap ∧ (State.wardenStop s l).pub = s.pub ∧ (State.wardenStop s l).freeCtr = s.freeCtr ∧
    (State.wardenStop s l).pending = s.pending := by
  refine ⟨?_, ?_, ?_, ?_, ?_, ?_, ?_, ?_, ?_, ?_⟩ <;> (first | rfl | (simp (maxDischargeDepth := 12) [State.wardenStop]; done) | (unfold State.wardenStop; (try dsimp only); repeat' (first | rfl | (simp (maxDischargeDepth := 12); done) | split)))

@[simp] theorem State_lowerBoot_keeps0 (s : State) :
    (State.lowerBoot s).otp = s.otp ∧ (State.lowerBoot s).clk = s.clk ∧ (State.lowerBoot s).win = s.win ∧
    (State.lowerBoot s).views = s.views ∧ (State.lowerBoot s).chains = s.chains ∧ (State.lowerBoot s).creg = s.creg ∧
    (State.lowerBoot s).eng = s.eng ∧ (State.lowerBoot s).doms = s.doms ∧ (State.lowerBoot s).lanes = s.lanes ∧
    (State.lowerBoot s).sense = s.sense ∧ (State.lowerBoot s).dscs = s.dscs := by
  refine ⟨?_, ?_, ?_, ?_, ?_, ?_, ?_, ?_, ?_, ?_, ?_⟩ <;> (first | rfl | (simp (maxDischargeDepth := 12) [State.lowerBoot]; done) | (unfold State.lowerBoot; (try dsimp only); repeat' (first | rfl | (simp (maxDischargeDepth := 12); done) | split)))

@[simp] theorem State_lowerBoot_keeps1 (s : State) :
    (State.lowerBoot s).hkcs = s.hkcs ∧ (State.lowerBoot s).tallies = s.tallies ∧ (State.lowerBoot s).ledger = s.ledger ∧
    (State.lowerBoot s).tiles = s.tiles ∧ (State.lowerBoot s).accts = s.accts ∧ (State.lowerBoot s).limits = s.limits ∧
    (State.lowerBoot s).pace = s.pace ∧ (State.lowerBoot s).therm = s.therm ∧ (State.lowerBoot s).diodes = s.diodes ∧
    (State.lowerBoot s).stopq = s.stopq ∧ (State.lowerBoot s).flt = s.flt := by
  refine ⟨?_, ?_, ?_, ?_, ?_, ?_, ?_, ?_, ?_, ?_, ?_⟩ <;> (first | rfl | (simp (maxDischargeDepth := 12) [State.lowerBoot]; done) | (unfold State.lowerBoot; (try dsimp only); repeat' (first | rfl | (simp (maxDischargeDepth := 12); done) | split)))

@[simp] theorem State_lowerBoot_keeps2 (s : State) :
    (State.lowerBoot s).warden = s.warden ∧ (State.lowerBoot s).policy = s.policy ∧ (State.lowerBoot s).rings = s.rings ∧
    (State.lowerBoot s).smb = s.smb ∧ (State.lowerBoot s).avs = s.avs ∧ (State.lowerBoot s).tap = s.tap ∧
    (State.lowerBoot s).pub = s.pub ∧ (State.lowerBoot s).freeCtr = s.freeCtr ∧ (State.lowerBoot s).pending = s.pending := by
  refine ⟨?_, ?_, ?_, ?_, ?_, ?_, ?_, ?_, ?_⟩ <;> (first | rfl | (simp (maxDischargeDepth := 12) [State.lowerBoot]; done) | (unfold State.lowerBoot; (try dsimp only); repeat' (first | rfl | (simp (maxDischargeDepth := 12); done) | split)))

@[simp] theorem State_rejoinBegin_keeps0 (s : State) (d : Nat) :
    (State.rejoinBegin s d).otp = s.otp ∧ (State.rejoinBegin s d).start = s.start ∧ (State.rejoinBegin s d).clk = s.clk ∧
    (State.rejoinBegin s d).win = s.win ∧ (State.rejoinBegin s d).cells = s.cells ∧ (State.rejoinBegin s d).creg = s.creg ∧
    (State.rejoinBegin s d).eng = s.eng ∧ (State.rejoinBegin s d).lanes = s.lanes ∧ (State.rejoinBegin s d).sense = s.sense ∧
    (State.rejoinBegin s d).dscs = s.dscs ∧ (State.rejoinBegin s d).hkcs = s.hkcs := by
  refine ⟨?_, ?_, ?_, ?_, ?_, ?_, ?_, ?_, ?_, ?_, ?_⟩ <;> (first | rfl | (simp (maxDischargeDepth := 12) [State.rejoinBegin]; done) | (unfold State.rejoinBegin; (try dsimp only); repeat' (first | rfl | (simp (maxDischargeDepth := 12); done) | split)))

@[simp] theorem State_rejoinBegin_keeps1 (s : State) (d : Nat) :
    (State.rejoinBegin s d).tallies = s.tallies ∧ (State.rejoinBegin s d).ledger = s.ledger ∧ (State.rejoinBegin s d).tiles = s.tiles ∧
    (State.rejoinBegin s d).accts = s.accts ∧ (State.rejoinBegin s d).limits = s.limits ∧ (State.rejoinBegin s d).pace = s.pace ∧
    (State.rejoinBegin s d).therm = s.therm ∧ (State.rejoinBegin s d).diodes = s.diodes ∧ (State.rejoinBegin s d).stopq = s.stopq ∧
    (State.rejoinBegin s d).flt = s.flt ∧ (State.rejoinBegin s d).warden = s.warden := by
  refine ⟨?_, ?_, ?_, ?_, ?_, ?_, ?_, ?_, ?_, ?_, ?_⟩ <;> (first | rfl | (simp (maxDischargeDepth := 12) [State.rejoinBegin]; done) | (unfold State.rejoinBegin; (try dsimp only); repeat' (first | rfl | (simp (maxDischargeDepth := 12); done) | split)))

@[simp] theorem State_rejoinBegin_keeps2 (s : State) (d : Nat) :
    (State.rejoinBegin s d).policy = s.policy ∧ (State.rejoinBegin s d).rings = s.rings ∧ (State.rejoinBegin s d).smb = s.smb ∧
    (State.rejoinBegin s d).avs = s.avs ∧ (State.rejoinBegin s d).tap = s.tap ∧ (State.rejoinBegin s d).pub = s.pub ∧
    (State.rejoinBegin s d).freeCtr = s.freeCtr ∧ (State.rejoinBegin s d).pending = s.pending := by
  refine ⟨?_, ?_, ?_, ?_, ?_, ?_, ?_, ?_⟩ <;> (first | rfl | (simp (maxDischargeDepth := 12) [State.rejoinBegin]; done) | (unfold State.rejoinBegin; (try dsimp only); repeat' (first | rfl | (simp (maxDischargeDepth := 12); done) | split)))

@[simp] theorem State_markStopped_keeps0 (s : State) (d : Nat) :
    (State.markStopped s d).otp = s.otp ∧ (State.markStopped s d).clk = s.clk ∧ (State.markStopped s d).win = s.win ∧
    (State.markStopped s d).cells = s.cells ∧ (State.markStopped s d).views = s.views ∧ (State.markStopped s d).chains = s.chains ∧
    (State.markStopped s d).creg = s.creg ∧ (State.markStopped s d).eng = s.eng ∧ (State.markStopped s d).doms = s.doms ∧
    (State.markStopped s d).lanes = s.lanes ∧ (State.markStopped s d).sense = s.sense := by
  refine ⟨?_, ?_, ?_, ?_, ?_, ?_, ?_, ?_, ?_, ?_, ?_⟩ <;> (first | rfl | (simp (maxDischargeDepth := 12) [State.markStopped]; done) | (unfold State.markStopped; (try dsimp only); repeat' (first | rfl | (simp (maxDischargeDepth := 12); done) | split)))

@[simp] theorem State_markStopped_keeps1 (s : State) (d : Nat) :
    (State.markStopped s d).dscs = s.dscs ∧ (State.markStopped s d).hkcs = s.hkcs ∧ (State.markStopped s d).tallies = s.tallies ∧
    (State.markStopped s d).ledger = s.ledger ∧ (State.markStopped s d).tiles = s.tiles ∧ (State.markStopped s d).accts = s.accts ∧
    (State.markStopped s d).limits = s.limits ∧ (State.markStopped s d).pace = s.pace ∧ (State.markStopped s d).therm = s.therm ∧
    (State.markStopped s d).diodes = s.diodes ∧ (State.markStopped s d).stopq = s.stopq := by
  refine ⟨?_, ?_, ?_, ?_, ?_, ?_, ?_, ?_, ?_, ?_, ?_⟩ <;> (first | rfl | (simp (maxDischargeDepth := 12) [State.markStopped]; done) | (unfold State.markStopped; (try dsimp only); repeat' (first | rfl | (simp (maxDischargeDepth := 12); done) | split)))

@[simp] theorem State_markStopped_keeps2 (s : State) (d : Nat) :
    (State.markStopped s d).flt = s.flt ∧ (State.markStopped s d).warden = s.warden ∧ (State.markStopped s d).policy = s.policy ∧
    (State.markStopped s d).rings = s.rings ∧ (State.markStopped s d).smb = s.smb ∧ (State.markStopped s d).avs = s.avs ∧
    (State.markStopped s d).tap = s.tap ∧ (State.markStopped s d).pub = s.pub ∧ (State.markStopped s d).freeCtr = s.freeCtr ∧
    (State.markStopped s d).pending = s.pending := by
  refine ⟨?_, ?_, ?_, ?_, ?_, ?_, ?_, ?_, ?_, ?_⟩ <;> (first | rfl | (simp (maxDischargeDepth := 12) [State.markStopped]; done) | (unfold State.markStopped; (try dsimp only); repeat' (first | rfl | (simp (maxDischargeDepth := 12); done) | split)))

@[simp] theorem State_restartAudits_keeps0 (s : State) :
    (State.restartAudits s).otp = s.otp ∧ (State.restartAudits s).start = s.start ∧ (State.restartAudits s).clk = s.clk ∧
    (State.restartAudits s).win = s.win ∧ (State.restartAudits s).cells = s.cells ∧ (State.restartAudits s).views = s.views ∧
    (State.restartAudits s).creg = s.creg ∧ (State.restartAudits s).eng = s.eng ∧ (State.restartAudits s).doms = s.doms ∧
    (State.restartAudits s).sense = s.sense ∧ (State.restartAudits s).hkcs = s.hkcs := by
  refine ⟨?_, ?_, ?_, ?_, ?_, ?_, ?_, ?_, ?_, ?_, ?_⟩ <;> (first | rfl | (simp (maxDischargeDepth := 12) [State.restartAudits]; done) | (unfold State.restartAudits; (try dsimp only); repeat' (first | rfl | (simp (maxDischargeDepth := 12); done) | split)))

@[simp] theorem State_restartAudits_keeps1 (s : State) :
    (State.restartAudits s).tallies = s.tallies ∧ (State.restartAudits s).ledger = s.ledger ∧ (State.restartAudits s).tiles = s.tiles ∧
    (State.restartAudits s).accts = s.accts ∧ (State.restartAudits s).limits = s.limits ∧ (State.restartAudits s).pace = s.pace ∧
    (State.restartAudits s).therm = s.therm ∧ (State.restartAudits s).diodes = s.diodes ∧ (State.restartAudits s).stopq = s.stopq ∧
    (State.restartAudits s).warden = s.warden ∧ (State.restartAudits s).policy = s.policy := by
  refine ⟨?_, ?_, ?_, ?_, ?_, ?_, ?_, ?_, ?_, ?_, ?_⟩ <;> (first | rfl | (simp (maxDischargeDepth := 12) [State.restartAudits]; done) | (unfold State.restartAudits; (try dsimp only); repeat' (first | rfl | (simp (maxDischargeDepth := 12); done) | split)))

@[simp] theorem State_restartAudits_keeps2 (s : State) :
    (State.restartAudits s).rings = s.rings ∧ (State.restartAudits s).smb = s.smb ∧ (State.restartAudits s).avs = s.avs ∧
    (State.restartAudits s).tap = s.tap ∧ (State.restartAudits s).pub = s.pub ∧ (State.restartAudits s).freeCtr = s.freeCtr ∧
    (State.restartAudits s).pending = s.pending := by
  refine ⟨?_, ?_, ?_, ?_, ?_, ?_, ?_⟩ <;> (first | rfl | (simp (maxDischargeDepth := 12) [State.restartAudits]; done) | (unfold State.restartAudits; (try dsimp only); repeat' (first | rfl | (simp (maxDischargeDepth := 12); done) | split)))

@[simp] theorem State_abandonSd14_keeps0 (s : State) :
    (State.abandonSd14 s).otp = s.otp ∧ (State.abandonSd14 s).clk = s.clk ∧ (State.abandonSd14 s).win = s.win ∧
    (State.abandonSd14 s).views = s.views ∧ (State.abandonSd14 s).creg = s.creg ∧ (State.abandonSd14 s).eng = s.eng ∧
    (State.abandonSd14 s).doms = s.doms ∧ (State.abandonSd14 s).lanes = s.lanes ∧ (State.abandonSd14 s).sense = s.sense ∧
    (State.abandonSd14 s).dscs = s.dscs ∧ (State.abandonSd14 s).hkcs = s.hkcs := by
  refine ⟨?_, ?_, ?_, ?_, ?_, ?_, ?_, ?_, ?_, ?_, ?_⟩ <;> (first | rfl | (simp (maxDischargeDepth := 12) [State.abandonSd14]; done) | (unfold State.abandonSd14; (try dsimp only); repeat' (first | rfl | (simp (maxDischargeDepth := 12); done) | split)))

@[simp] theorem State_abandonSd14_keeps1 (s : State) :
    (State.abandonSd14 s).tallies = s.tallies ∧ (State.abandonSd14 s).ledger = s.ledger ∧ (State.abandonSd14 s).tiles = s.tiles ∧
    (State.abandonSd14 s).accts = s.accts ∧ (State.abandonSd14 s).limits = s.limits ∧ (State.abandonSd14 s).pace = s.pace ∧
    (State.abandonSd14 s).therm = s.therm ∧ (State.abandonSd14 s).diodes = s.diodes ∧ (State.abandonSd14 s).stopq = s.stopq ∧
    (State.abandonSd14 s).flt = s.flt ∧ (State.abandonSd14 s).warden = s.warden := by
  refine ⟨?_, ?_, ?_, ?_, ?_, ?_, ?_, ?_, ?_, ?_, ?_⟩ <;> (first | rfl | (simp (maxDischargeDepth := 12) [State.abandonSd14]; done) | (unfold State.abandonSd14; (try dsimp only); repeat' (first | rfl | (simp (maxDischargeDepth := 12); done) | split)))

@[simp] theorem State_abandonSd14_keeps2 (s : State) :
    (State.abandonSd14 s).policy = s.policy ∧ (State.abandonSd14 s).rings = s.rings ∧ (State.abandonSd14 s).smb = s.smb ∧
    (State.abandonSd14 s).avs = s.avs ∧ (State.abandonSd14 s).tap = s.tap ∧ (State.abandonSd14 s).pub = s.pub ∧
    (State.abandonSd14 s).freeCtr = s.freeCtr ∧ (State.abandonSd14 s).pending = s.pending := by
  refine ⟨?_, ?_, ?_, ?_, ?_, ?_, ?_, ?_⟩ <;> (first | rfl | (simp (maxDischargeDepth := 12) [State.abandonSd14]; done) | (unfold State.abandonSd14; (try dsimp only); repeat' (first | rfl | (simp (maxDischargeDepth := 12); done) | split)))

@[simp] theorem State_abandonTo_keeps0 (s : State) (k : Nat) :
    (State.abandonTo s k).otp = s.otp ∧ (State.abandonTo s k).clk = s.clk ∧ (State.abandonTo s k).win = s.win ∧
    (State.abandonTo s k).views = s.views ∧ (State.abandonTo s k).creg = s.creg ∧ (State.abandonTo s k).eng = s.eng ∧
    (State.abandonTo s k).lanes = s.lanes ∧ (State.abandonTo s k).sense = s.sense ∧ (State.abandonTo s k).dscs = s.dscs ∧
    (State.abandonTo s k).hkcs = s.hkcs ∧ (State.abandonTo s k).tallies = s.tallies := by
  refine ⟨?_, ?_, ?_, ?_, ?_, ?_, ?_, ?_, ?_, ?_, ?_⟩ <;> (first | rfl | (simp (maxDischargeDepth := 12) [State.abandonTo]; done) | (unfold State.abandonTo; (try dsimp only); repeat' (first | rfl | (simp (maxDischargeDepth := 12); done) | split)))

@[simp] theorem State_abandonTo_keeps1 (s : State) (k : Nat) :
    (State.abandonTo s k).ledger = s.ledger ∧ (State.abandonTo s k).tiles = s.tiles ∧ (State.abandonTo s k).accts = s.accts ∧
    (State.abandonTo s k).limits = s.limits ∧ (State.abandonTo s k).pace = s.pace ∧ (State.abandonTo s k).therm = s.therm ∧
    (State.abandonTo s k).diodes = s.diodes ∧ (State.abandonTo s k).stopq = s.stopq ∧ (State.abandonTo s k).flt = s.flt ∧
    (State.abandonTo s k).warden = s.warden ∧ (State.abandonTo s k).policy = s.policy := by
  refine ⟨?_, ?_, ?_, ?_, ?_, ?_, ?_, ?_, ?_, ?_, ?_⟩ <;> (first | rfl | (simp (maxDischargeDepth := 12) [State.abandonTo]; done) | (unfold State.abandonTo; (try dsimp only); repeat' (first | rfl | (simp (maxDischargeDepth := 12); done) | split)))

@[simp] theorem State_abandonTo_keeps2 (s : State) (k : Nat) :
    (State.abandonTo s k).rings = s.rings ∧ (State.abandonTo s k).smb = s.smb ∧ (State.abandonTo s k).avs = s.avs ∧
    (State.abandonTo s k).tap = s.tap ∧ (State.abandonTo s k).pub = s.pub ∧ (State.abandonTo s k).freeCtr = s.freeCtr ∧
    (State.abandonTo s k).pending = s.pending := by
  refine ⟨?_, ?_, ?_, ?_, ?_, ?_, ?_⟩ <;> (first | rfl | (simp (maxDischargeDepth := 12) [State.abandonTo]; done) | (unfold State.abandonTo; (try dsimp only); repeat' (first | rfl | (simp (maxDischargeDepth := 12); done) | split)))

@[simp] theorem State_abandonBegin_keeps0 (s : State) :
    (State.abandonBegin s).otp = s.otp ∧ (State.abandonBegin s).clk = s.clk ∧ (State.abandonBegin s).win = s.win ∧
    (State.abandonBegin s).views = s.views ∧ (State.abandonBegin s).creg = s.creg ∧ (State.abandonBegin s).eng = s.eng ∧
    (State.abandonBegin s).lanes = s.lanes ∧ (State.abandonBegin s).sense = s.sense ∧ (State.abandonBegin s).dscs = s.dscs ∧
    (State.abandonBegin s).hkcs = s.hkcs ∧ (State.abandonBegin s).tallies = s.tallies := by
  refine ⟨?_, ?_, ?_, ?_, ?_, ?_, ?_, ?_, ?_, ?_, ?_⟩ <;> (first | rfl | (simp (maxDischargeDepth := 12) [State.abandonBegin]; done) | (unfold State.abandonBegin; (try dsimp only); repeat' (first | rfl | (simp (maxDischargeDepth := 12); done) | split)))

@[simp] theorem State_abandonBegin_keeps1 (s : State) :
    (State.abandonBegin s).ledger = s.ledger ∧ (State.abandonBegin s).tiles = s.tiles ∧ (State.abandonBegin s).accts = s.accts ∧
    (State.abandonBegin s).limits = s.limits ∧ (State.abandonBegin s).pace = s.pace ∧ (State.abandonBegin s).therm = s.therm ∧
    (State.abandonBegin s).diodes = s.diodes ∧ (State.abandonBegin s).stopq = s.stopq ∧ (State.abandonBegin s).flt = s.flt ∧
    (State.abandonBegin s).warden = s.warden ∧ (State.abandonBegin s).policy = s.policy := by
  refine ⟨?_, ?_, ?_, ?_, ?_, ?_, ?_, ?_, ?_, ?_, ?_⟩ <;> (first | rfl | (simp (maxDischargeDepth := 12) [State.abandonBegin]; done) | (unfold State.abandonBegin; (try dsimp only); repeat' (first | rfl | (simp (maxDischargeDepth := 12); done) | split)))

@[simp] theorem State_abandonBegin_keeps2 (s : State) :
    (State.abandonBegin s).rings = s.rings ∧ (State.abandonBegin s).smb = s.smb ∧ (State.abandonBegin s).avs = s.avs ∧
    (State.abandonBegin s).tap = s.tap ∧ (State.abandonBegin s).pub = s.pub ∧ (State.abandonBegin s).freeCtr = s.freeCtr ∧
    (State.abandonBegin s).pending = s.pending := by
  refine ⟨?_, ?_, ?_, ?_, ?_, ?_, ?_⟩ <;> (first | rfl | (simp (maxDischargeDepth := 12) [State.abandonBegin]; done) | (unfold State.abandonBegin; (try dsimp only); repeat' (first | rfl | (simp (maxDischargeDepth := 12); done) | split)))

@[simp] theorem State_abandonCommit_keeps0 (s : State) :
    (State.abandonCommit s).otp = s.otp ∧ (State.abandonCommit s).clk = s.clk ∧ (State.abandonCommit s).win = s.win ∧
    (State.abandonCommit s).views = s.views ∧ (State.abandonCommit s).creg = s.creg ∧ (State.abandonCommit s).eng = s.eng ∧
    (State.abandonCommit s).lanes = s.lanes ∧ (State.abandonCommit s).sense = s.sense ∧ (State.abandonCommit s).dscs = s.dscs ∧
    (State.abandonCommit s).hkcs = s.hkcs ∧ (State.abandonCommit s).tallies = s.tallies := by
  refine ⟨?_, ?_, ?_, ?_, ?_, ?_, ?_, ?_, ?_, ?_, ?_⟩ <;> (first | rfl | (simp (maxDischargeDepth := 12) [State.abandonCommit]; done) | (unfold State.abandonCommit; (try dsimp only); repeat' (first | rfl | (simp (maxDischargeDepth := 12); done) | split)))

@[simp] theorem State_abandonCommit_keeps1 (s : State) :
    (State.abandonCommit s).ledger = s.ledger ∧ (State.abandonCommit s).tiles = s.tiles ∧ (State.abandonCommit s).accts = s.accts ∧
    (State.abandonCommit s).limits = s.limits ∧ (State.abandonCommit s).pace = s.pace ∧ (State.abandonCommit s).therm = s.therm ∧
    (State.abandonCommit s).diodes = s.diodes ∧ (State.abandonCommit s).stopq = s.stopq ∧ (State.abandonCommit s).flt = s.flt ∧
    (State.abandonCommit s).warden = s.warden ∧ (State.abandonCommit s).policy = s.policy := by
  refine ⟨?_, ?_, ?_, ?_, ?_, ?_, ?_, ?_, ?_, ?_, ?_⟩ <;> (first | rfl | (simp (maxDischargeDepth := 12) [State.abandonCommit]; done) | (unfold State.abandonCommit; (try dsimp only); repeat' (first | rfl | (simp (maxDischargeDepth := 12); done) | split)))

@[simp] theorem State_abandonCommit_keeps2 (s : State) :
    (State.abandonCommit s).rings = s.rings ∧ (State.abandonCommit s).smb = s.smb ∧ (State.abandonCommit s).avs = s.avs ∧
    (State.abandonCommit s).tap = s.tap ∧ (State.abandonCommit s).pub = s.pub ∧ (State.abandonCommit s).freeCtr = s.freeCtr ∧
    (State.abandonCommit s).pending = s.pending := by
  refine ⟨?_, ?_, ?_, ?_, ?_, ?_, ?_⟩ <;> (first | rfl | (simp (maxDischargeDepth := 12) [State.abandonCommit]; done) | (unfold State.abandonCommit; (try dsimp only); repeat' (first | rfl | (simp (maxDischargeDepth := 12); done) | split)))

@[simp] theorem State_stopDomain_keeps0 (s : State) (d : Nat) :
    (State.stopDomain s d).otp = s.otp ∧ (State.stopDomain s d).start = s.start ∧ (State.stopDomain s d).clk = s.clk ∧
    (State.stopDomain s d).win = s.win ∧ (State.stopDomain s d).cells = s.cells ∧ (State.stopDomain s d).views = s.views ∧
    (State.stopDomain s d).creg = s.creg ∧ (State.stopDomain s d).eng = s.eng ∧ (State.stopDomain s d).lanes = s.lanes ∧
    (State.stopDomain s d).sense = s.sense ∧ (State.stopDomain s d).dscs = s.dscs := by
  refine ⟨?_, ?_, ?_, ?_, ?_, ?_, ?_, ?_, ?_, ?_, ?_⟩ <;> (first | rfl | (simp (maxDischargeDepth := 12) [State.stopDomain]; done) | (unfold State.stopDomain; (try dsimp only); repeat' (first | rfl | (simp (maxDischargeDepth := 12); done) | split)))

@[simp] theorem State_stopDomain_keeps1 (s : State) (d : Nat) :
    (State.stopDomain s d).hkcs = s.hkcs ∧ (State.stopDomain s d).tallies = s.tallies ∧ (State.stopDomain s d).ledger = s.ledger ∧
    (State.stopDomain s d).tiles = s.tiles ∧ (State.stopDomain s d).accts = s.accts ∧ (State.stopDomain s d).limits = s.limits ∧
    (State.stopDomain s d).pace = s.pace ∧ (State.stopDomain s d).therm = s.therm ∧ (State.stopDomain s d).diodes = s.diodes ∧
    (State.stopDomain s d).stopq = s.stopq ∧ (State.stopDomain s d).flt = s.flt := by
  refine ⟨?_, ?_, ?_, ?_, ?_, ?_, ?_, ?_, ?_, ?_, ?_⟩ <;> (first | rfl | (simp (maxDischargeDepth := 12) [State.stopDomain]; done) | (unfold State.stopDomain; (try dsimp only); repeat' (first | rfl | (simp (maxDischargeDepth := 12); done) | split)))

@[simp] theorem State_stopDomain_keeps2 (s : State) (d : Nat) :
    (State.stopDomain s d).warden = s.warden ∧ (State.stopDomain s d).policy = s.policy ∧ (State.stopDomain s d).rings = s.rings ∧
    (State.stopDomain s d).smb = s.smb ∧ (State.stopDomain s d).avs = s.avs ∧ (State.stopDomain s d).tap = s.tap ∧
    (State.stopDomain s d).pub = s.pub ∧ (State.stopDomain s d).freeCtr = s.freeCtr ∧ (State.stopDomain s d).pending = s.pending := by
  refine ⟨?_, ?_, ?_, ?_, ?_, ?_, ?_, ?_, ?_⟩ <;> (first | rfl | (simp (maxDischargeDepth := 12) [State.stopDomain]; done) | (unfold State.stopDomain; (try dsimp only); repeat' (first | rfl | (simp (maxDischargeDepth := 12); done) | split)))

@[simp] theorem State_stopStageBegin_keeps0 (s : State) (k : Nat) :
    (State.stopStageBegin s k).otp = s.otp ∧ (State.stopStageBegin s k).start = s.start ∧ (State.stopStageBegin s k).clk = s.clk ∧
    (State.stopStageBegin s k).win = s.win ∧ (State.stopStageBegin s k).cells = s.cells ∧ (State.stopStageBegin s k).views = s.views ∧
    (State.stopStageBegin s k).creg = s.creg ∧ (State.stopStageBegin s k).eng = s.eng ∧ (State.stopStageBegin s k).lanes = s.lanes ∧
    (State.stopStageBegin s k).sense = s.sense ∧ (State.stopStageBegin s k).dscs = s.dscs := by
  refine ⟨?_, ?_, ?_, ?_, ?_, ?_, ?_, ?_, ?_, ?_, ?_⟩ <;> (first | rfl | (simp (maxDischargeDepth := 12) [State.stopStageBegin]; done) | (unfold State.stopStageBegin; (try dsimp only); repeat' (first | rfl | (simp (maxDischargeDepth := 12); done) | split)))

@[simp] theorem State_stopStageBegin_keeps1 (s : State) (k : Nat) :
    (State.stopStageBegin s k).hkcs = s.hkcs ∧ (State.stopStageBegin s k).tallies = s.tallies ∧
    (State.stopStageBegin s k).ledger = s.ledger ∧ (State.stopStageBegin s k).tiles = s.tiles ∧
    (State.stopStageBegin s k).accts = s.accts ∧ (State.stopStageBegin s k).limits = s.limits ∧ (State.stopStageBegin s k).pace = s.pace ∧
    (State.stopStageBegin s k).therm = s.therm ∧ (State.stopStageBegin s k).diodes = s.diodes ∧ (State.stopStageBegin s k).flt = s.flt ∧
    (State.stopStageBegin s k).warden = s.warden := by
  refine ⟨?_, ?_, ?_, ?_, ?_, ?_, ?_, ?_, ?_, ?_, ?_⟩ <;> (first | rfl | (simp (maxDischargeDepth := 12) [State.stopStageBegin]; done) | (unfold State.stopStageBegin; (try dsimp only); repeat' (first | rfl | (simp (maxDischargeDepth := 12); done) | split)))

@[simp] theorem State_stopStageBegin_keeps2 (s : State) (k : Nat) :
    (State.stopStageBegin s k).rings = s.rings ∧ (State.stopStageBegin s k).smb = s.smb ∧ (State.stopStageBegin s k).avs = s.avs ∧
    (State.stopStageBegin s k).tap = s.tap ∧ (State.stopStageBegin s k).pub = s.pub ∧ (State.stopStageBegin s k).freeCtr = s.freeCtr ∧
    (State.stopStageBegin s k).pending = s.pending := by
  refine ⟨?_, ?_, ?_, ?_, ?_, ?_, ?_⟩ <;> (first | rfl | (simp (maxDischargeDepth := 12) [State.stopStageBegin]; done) | (unfold State.stopStageBegin; (try dsimp only); repeat' (first | rfl | (simp (maxDischargeDepth := 12); done) | split)))

@[simp] theorem State_stopAll_keeps0 (s : State) :
    (State.stopAll s).otp = s.otp ∧ (State.stopAll s).start = s.start ∧ (State.stopAll s).clk = s.clk ∧ (State.stopAll s).win = s.win ∧
    (State.stopAll s).cells = s.cells ∧ (State.stopAll s).views = s.views ∧ (State.stopAll s).creg = s.creg ∧
    (State.stopAll s).eng = s.eng ∧ (State.stopAll s).doms = s.doms ∧ (State.stopAll s).lanes = s.lanes ∧
    (State.stopAll s).sense = s.sense := by
  refine ⟨?_, ?_, ?_, ?_, ?_, ?_, ?_, ?_, ?_, ?_, ?_⟩ <;> (first | (simp (maxDischargeDepth := 12) [State.stopAll]; done) | (unfold State.stopAll; (try dsimp only); repeat' (first | rfl | (simp (maxDischargeDepth := 12); done) | split)))

@[simp] theorem State_stopAll_keeps1 (s : State) :
    (State.stopAll s).dscs = s.dscs ∧ (State.stopAll s).hkcs = s.hkcs ∧ (State.stopAll s).tallies = s.tallies ∧
    (State.stopAll s).ledger = s.ledger ∧ (State.stopAll s).tiles = s.tiles ∧ (State.stopAll s).accts = s.accts ∧
    (State.stopAll s).limits = s.limits ∧ (State.stopAll s).pace = s.pace ∧ (State.stopAll s).therm = s.therm ∧
    (State.stopAll s).diodes = s.diodes ∧ (State.stopAll s).stopq = s.stopq := by
  refine ⟨?_, ?_, ?_, ?_, ?_, ?_, ?_, ?_, ?_, ?_, ?_⟩ <;> (first | (simp (maxDischargeDepth := 12) [State.stopAll]; done) | (unfold State.stopAll; (try dsimp only); repeat' (first | rfl | (simp (maxDischargeDepth := 12); done) | split)))

@[simp] theorem State_stopAll_keeps2 (s : State) :
    (State.stopAll s).flt = s.flt ∧ (State.stopAll s).warden = s.warden ∧ (State.stopAll s).policy = s.policy ∧
    (State.stopAll s).rings = s.rings ∧ (State.stopAll s).smb = s.smb ∧ (State.stopAll s).avs = s.avs ∧ (State.stopAll s).tap = s.tap ∧
    (State.stopAll s).pub = s.pub ∧ (State.stopAll s).freeCtr = s.freeCtr ∧ (State.stopAll s).pending = s.pending := by
  refine ⟨?_, ?_, ?_, ?_, ?_, ?_, ?_, ?_, ?_, ?_⟩ <;> (first | (simp (maxDischargeDepth := 12) [State.stopAll]; done) | (unfold State.stopAll; (try dsimp only); repeat' (first | rfl | (simp (maxDischargeDepth := 12); done) | split)))

end Sys2Proof.Machine
end

