-- ==== Sys2Proof/Laws/FramesVoltageTable.lean ====
section
/-! SUPPORT. The fields of State that the operations of Machine/VoltageTable.lean leave alone. -/

set_option linter.unusedSimpArgs false
set_option linter.unusedVariables false

namespace Sys2Proof.Machine

@[simp] theorem State_vtWrite_keeps0 (s : State) (t : Tab Word) (chan : Option MboxChan) (clamped : Bool) :
    (State.vtWrite s t chan clamped).otp = s.otp ∧ (State.vtWrite s t chan clamped).start = s.start ∧
    (State.vtWrite s t chan clamped).clk = s.clk ∧ (State.vtWrite s t chan clamped).win = s.win ∧
    (State.vtWrite s t chan clamped).cells = s.cells ∧ (State.vtWrite s t chan clamped).views = s.views ∧
    (State.vtWrite s t chan clamped).chains = s.chains ∧ (State.vtWrite s t chan clamped).creg = s.creg ∧
    (State.vtWrite s t chan clamped).eng = s.eng ∧ (State.vtWrite s t chan clamped).doms = s.doms ∧
    (State.vtWrite s t chan clamped).lanes = s.lanes := by
  refine ⟨?_, ?_, ?_, ?_, ?_, ?_, ?_, ?_, ?_, ?_, ?_⟩ <;> (first | rfl | (simp (maxDischargeDepth := 12) [State.vtWrite]; done) | (unfold State.vtWrite; (try dsimp only); repeat' (first | rfl | (simp (maxDischargeDepth := 12); done) | split)))

@[simp] theorem State_vtWrite_keeps1 (s : State) (t : Tab Word) (chan : Option MboxChan) (clamped : Bool) :
    (State.vtWrite s t chan clamped).sense = s.sense ∧ (State.vtWrite s t chan clamped).dscs = s.dscs ∧
    (State.vtWrite s t chan clamped).hkcs = s.hkcs ∧ (State.vtWrite s t chan clamped).tallies = s.tallies ∧
    (State.vtWrite s t chan clamped).ledger = s.ledger ∧ (State.vtWrite s t chan clamped).tiles = s.tiles ∧
    (State.vtWrite s t chan clamped).accts = s.accts ∧ (State.vtWrite s t chan clamped).limits = s.limits ∧
    (State.vtWrite s t chan clamped).pace = s.pace ∧ (State.vtWrite s t chan clamped).therm = s.therm ∧
    (State.vtWrite s t chan clamped).diodes = s.diodes := by
  refine ⟨?_, ?_, ?_, ?_, ?_, ?_, ?_, ?_, ?_, ?_, ?_⟩ <;> (first | rfl | (simp (maxDischargeDepth := 12) [State.vtWrite]; done) | (unfold State.vtWrite; (try dsimp only); repeat' (first | rfl | (simp (maxDischargeDepth := 12); done) | split)))

@[simp] theorem State_vtWrite_keeps2 (s : State) (t : Tab Word) (chan : Option MboxChan) (clamped : Bool) :
    (State.vtWrite s t chan clamped).stopq = s.stopq ∧ (State.vtWrite s t chan clamped).flt = s.flt ∧
    (State.vtWrite s t chan clamped).policy = s.policy ∧ (State.vtWrite s t chan clamped).rings = s.rings ∧
    (State.vtWrite s t chan clamped).smb = s.smb ∧ (State.vtWrite s t chan clamped).avs = s.avs ∧
    (State.vtWrite s t chan clamped).tap = s.tap ∧ (State.vtWrite s t chan clamped).pub = s.pub ∧
    (State.vtWrite s t chan clamped).freeCtr = s.freeCtr ∧ (State.vtWrite s t chan clamped).pending = s.pending := by
  refine ⟨?_, ?_, ?_, ?_, ?_, ?_, ?_, ?_, ?_, ?_⟩ <;> (first | rfl | (simp (maxDischargeDepth := 12) [State.vtWrite]; done) | (unfold State.vtWrite; (try dsimp only); repeat' (first | rfl | (simp (maxDischargeDepth := 12); done) | split)))

end Sys2Proof.Machine
end

