-- ==== Sys2Proof/Laws/FramesAvs.lean ====
section
/-! SUPPORT. The fields of State that the operations of Machine/Avs.lean leave alone. -/

set_option linter.unusedSimpArgs false
set_option linter.unusedVariables false

namespace Sys2Proof.Machine

@[simp] theorem State_updLink_keeps0 (s : State) (k : Nat) (f : AvsLink → AvsLink) :
    (State.updLink s k f).otp = s.otp ∧ (State.updLink s k f).start = s.start ∧ (State.updLink s k f).clk = s.clk ∧
    (State.updLink s k f).win = s.win ∧ (State.updLink s k f).cells = s.cells ∧ (State.updLink s k f).views = s.views ∧
    (State.updLink s k f).chains = s.chains ∧ (State.updLink s k f).creg = s.creg ∧ (State.updLink s k f).eng = s.eng ∧
    (State.updLink s k f).doms = s.doms ∧ (State.updLink s k f).lanes = s.lanes := by
  refine ⟨?_, ?_, ?_, ?_, ?_, ?_, ?_, ?_, ?_, ?_, ?_⟩ <;> (first | rfl | (simp (maxDischargeDepth := 12) [State.updLink]; done) | (unfold State.updLink; (try dsimp only); repeat' (first | rfl | (simp (maxDischargeDepth := 12); done) | split)))

@[simp] theorem State_updLink_keeps1 (s : State) (k : Nat) (f : AvsLink → AvsLink) :
    (State.updLink s k f).sense = s.sense ∧ (State.updLink s k f).dscs = s.dscs ∧ (State.updLink s k f).hkcs = s.hkcs ∧
    (State.updLink s k f).tallies = s.tallies ∧ (State.updLink s k f).ledger = s.ledger ∧ (State.updLink s k f).tiles = s.tiles ∧
    (State.updLink s k f).accts = s.accts ∧ (State.updLink s k f).limits = s.limits ∧ (State.updLink s k f).pace = s.pace ∧
    (State.updLink s k f).therm = s.therm ∧ (State.updLink s k f).diodes = s.diodes := by
  refine ⟨?_, ?_, ?_, ?_, ?_, ?_, ?_, ?_, ?_, ?_, ?_⟩ <;> (first | rfl | (simp (maxDischargeDepth := 12) [State.updLink]; done) | (unfold State.updLink; (try dsimp only); repeat' (first | rfl | (simp (maxDischargeDepth := 12); done) | split)))

@[simp] theorem State_updLink_keeps2 (s : State) (k : Nat) (f : AvsLink → AvsLink) :
    (State.updLink s k f).stopq = s.stopq ∧ (State.updLink s k f).flt = s.flt ∧ (State.updLink s k f).warden = s.warden ∧
    (State.updLink s k f).policy = s.policy ∧ (State.updLink s k f).rings = s.rings ∧ (State.updLink s k f).smb = s.smb ∧
    (State.updLink s k f).tap = s.tap ∧ (State.updLink s k f).pub = s.pub ∧ (State.updLink s k f).freeCtr = s.freeCtr ∧
    (State.updLink s k f).pending = s.pending := by
  refine ⟨?_, ?_, ?_, ?_, ?_, ?_, ?_, ?_, ?_, ?_⟩ <;> (first | rfl | (simp (maxDischargeDepth := 12) [State.updLink]; done) | (unfold State.updLink; (try dsimp only); repeat' (first | rfl | (simp (maxDischargeDepth := 12); done) | split)))

@[simp] theorem State_avsSent_keeps0 (s : State) (k : Nat) (op : AvsOp) :
    (State.avsSent s k op).otp = s.otp ∧ (State.avsSent s k op).start = s.start ∧ (State.avsSent s k op).clk = s.clk ∧
    (State.avsSent s k op).win = s.win ∧ (State.avsSent s k op).cells = s.cells ∧ (State.avsSent s k op).views = s.views ∧
    (State.avsSent s k op).chains = s.chains ∧ (State.avsSent s k op).creg = s.creg ∧ (State.avsSent s k op).eng = s.eng ∧
    (State.avsSent s k op).doms = s.doms ∧ (State.avsSent s k op).lanes = s.lanes := by
  refine ⟨?_, ?_, ?_, ?_, ?_, ?_, ?_, ?_, ?_, ?_, ?_⟩ <;> (first | rfl | (simp (maxDischargeDepth := 12) [State.avsSent]; done) | (unfold State.avsSent; (try dsimp only); repeat' (first | rfl | (simp (maxDischargeDepth := 12); done) | split)))

@[simp] theorem State_avsSent_keeps1 (s : State) (k : Nat) (op : AvsOp) :
    (State.avsSent s k op).sense = s.sense ∧ (State.avsSent s k op).dscs = s.dscs ∧ (State.avsSent s k op).hkcs = s.hkcs ∧
    (State.avsSent s k op).tallies = s.tallies ∧ (State.avsSent s k op).ledger = s.ledger ∧ (State.avsSent s k op).tiles = s.tiles ∧
    (State.avsSent s k op).accts = s.accts ∧ (State.avsSent s k op).limits = s.limits ∧ (State.avsSent s k op).pace = s.pace ∧
    (State.avsSent s k op).therm = s.therm ∧ (State.avsSent s k op).diodes = s.diodes := by
  refine ⟨?_, ?_, ?_, ?_, ?_, ?_, ?_, ?_, ?_, ?_, ?_⟩ <;> (first | rfl | (simp (maxDischargeDepth := 12) [State.avsSent]; done) | (unfold State.avsSent; (try dsimp only); repeat' (first | rfl | (simp (maxDischargeDepth := 12); done) | split)))

@[simp] theorem State_avsSent_keeps2 (s : State) (k : Nat) (op : AvsOp) :
    (State.avsSent s k op).stopq = s.stopq ∧ (State.avsSent s k op).flt = s.flt ∧ (State.avsSent s k op).warden = s.warden ∧
    (State.avsSent s k op).policy = s.policy ∧ (State.avsSent s k op).rings = s.rings ∧ (State.avsSent s k op).smb = s.smb ∧
    (State.avsSent s k op).tap = s.tap ∧ (State.avsSent s k op).pub = s.pub ∧ (State.avsSent s k op).freeCtr = s.freeCtr ∧
    (State.avsSent s k op).pending = s.pending := by
  refine ⟨?_, ?_, ?_, ?_, ?_, ?_, ?_, ?_, ?_, ?_⟩ <;> (first | rfl | (simp (maxDischargeDepth := 12) [State.avsSent]; done) | (unfold State.avsSent; (try dsimp only); repeat' (first | rfl | (simp (maxDischargeDepth := 12); done) | split)))

@[simp] theorem State_avsIssue_keeps0 (s : State) (k : Nat) (op : AvsOp) (write : Bool) :
    (State.avsIssue s k op write).otp = s.otp ∧ (State.avsIssue s k op write).start = s.start ∧
    (State.avsIssue s k op write).clk = s.clk ∧ (State.avsIssue s k op write).win = s.win ∧
    (State.avsIssue s k op write).cells = s.cells ∧ (State.avsIssue s k op write).views = s.views ∧
    (State.avsIssue s k op write).chains = s.chains ∧ (State.avsIssue s k op write).creg = s.creg ∧
    (State.avsIssue s k op write).eng = s.eng ∧ (State.avsIssue s k op write).doms = s.doms ∧
    (State.avsIssue s k op write).lanes = s.lanes := by
  refine ⟨?_, ?_, ?_, ?_, ?_, ?_, ?_, ?_, ?_, ?_, ?_⟩ <;> (first | rfl | (simp (maxDischargeDepth := 12) [State.avsIssue]; done) | (unfold State.avsIssue; (try dsimp only); repeat' (first | rfl | (simp (maxDischargeDepth := 12); done) | split)))

@[simp] theorem State_avsIssue_keeps1 (s : State) (k : Nat) (op : AvsOp) (write : Bool) :
    (State.avsIssue s k op write).sense = s.sense ∧ (State.avsIssue s k op write).dscs = s.dscs ∧
    (State.avsIssue s k op write).hkcs = s.hkcs ∧ (State.avsIssue s k op write).tallies = s.tallies ∧
    (State.avsIssue s k op write).ledger = s.ledger ∧ (State.avsIssue s k op write).tiles = s.tiles ∧
    (State.avsIssue s k op write).accts = s.accts ∧ (State.avsIssue s k op write).limits = s.limits ∧
    (State.avsIssue s k op write).pace = s.pace ∧ (State.avsIssue s k op write).therm = s.therm ∧
    (State.avsIssue s k op write).diodes = s.diodes := by
  refine ⟨?_, ?_, ?_, ?_, ?_, ?_, ?_, ?_, ?_, ?_, ?_⟩ <;> (first | rfl | (simp (maxDischargeDepth := 12) [State.avsIssue]; done) | (unfold State.avsIssue; (try dsimp only); repeat' (first | rfl | (simp (maxDischargeDepth := 12); done) | split)))

@[simp] theorem State_avsIssue_keeps2 (s : State) (k : Nat) (op : AvsOp) (write : Bool) :
    (State.avsIssue s k op write).stopq = s.stopq ∧ (State.avsIssue s k op write).flt = s.flt ∧
    (State.avsIssue s k op write).warden = s.warden ∧ (State.avsIssue s k op write).policy = s.policy ∧
    (State.avsIssue s k op write).rings = s.rings ∧ (State.avsIssue s k op write).smb = s.smb ∧
    (State.avsIssue s k op write).tap = s.tap ∧ (State.avsIssue s k op write).pub = s.pub ∧
    (State.avsIssue s k op write).freeCtr = s.freeCtr ∧ (State.avsIssue s k op write).pending = s.pending := by
  refine ⟨?_, ?_, ?_, ?_, ?_, ?_, ?_, ?_, ?_, ?_⟩ <;> (first | rfl | (simp (maxDischargeDepth := 12) [State.avsIssue]; done) | (unfold State.avsIssue; (try dsimp only); repeat' (first | rfl | (simp (maxDischargeDepth := 12); done) | split)))

@[simp] theorem State_avsResponse_keeps0 (s : State) (k : Nat) (op : AvsOp) (alert : Bool) :
    (State.avsResponse s k op alert).otp = s.otp ∧ (State.avsResponse s k op alert).start = s.start ∧
    (State.avsResponse s k op alert).clk = s.clk ∧ (State.avsResponse s k op alert).win = s.win ∧
    (State.avsResponse s k op alert).cells = s.cells ∧ (State.avsResponse s k op alert).views = s.views ∧
    (State.avsResponse s k op alert).chains = s.chains ∧ (State.avsResponse s k op alert).creg = s.creg ∧
    (State.avsResponse s k op alert).eng = s.eng ∧ (State.avsResponse s k op alert).doms = s.doms ∧
    (State.avsResponse s k op alert).lanes = s.lanes := by
  refine ⟨?_, ?_, ?_, ?_, ?_, ?_, ?_, ?_, ?_, ?_, ?_⟩ <;> (first | rfl | (simp (maxDischargeDepth := 12) [State.avsResponse]; done) | (unfold State.avsResponse; (try dsimp only); repeat' (first | rfl | (simp (maxDischargeDepth := 12); done) | split)))

@[simp] theorem State_avsResponse_keeps1 (s : State) (k : Nat) (op : AvsOp) (alert : Bool) :
    (State.avsResponse s k op alert).sense = s.sense ∧ (State.avsResponse s k op alert).dscs = s.dscs ∧
    (State.avsResponse s k op alert).hkcs = s.hkcs ∧ (State.avsResponse s k op alert).tallies = s.tallies ∧
    (State.avsResponse s k op alert).ledger = s.ledger ∧ (State.avsResponse s k op alert).tiles = s.tiles ∧
    (State.avsResponse s k op alert).accts = s.accts ∧ (State.avsResponse s k op alert).limits = s.limits ∧
    (State.avsResponse s k op alert).pace = s.pace ∧ (State.avsResponse s k op alert).therm = s.therm ∧
    (State.avsResponse s k op alert).diodes = s.diodes := by
  refine ⟨?_, ?_, ?_, ?_, ?_, ?_, ?_, ?_, ?_, ?_, ?_⟩ <;> (first | rfl | (simp (maxDischargeDepth := 12) [State.avsResponse]; done) | (unfold State.avsResponse; (try dsimp only); repeat' (first | rfl | (simp (maxDischargeDepth := 12); done) | split)))

@[simp] theorem State_avsResponse_keeps2 (s : State) (k : Nat) (op : AvsOp) (alert : Bool) :
    (State.avsResponse s k op alert).stopq = s.stopq ∧ (State.avsResponse s k op alert).flt = s.flt ∧
    (State.avsResponse s k op alert).warden = s.warden ∧ (State.avsResponse s k op alert).policy = s.policy ∧
    (State.avsResponse s k op alert).rings = s.rings ∧ (State.avsResponse s k op alert).smb = s.smb ∧
    (State.avsResponse s k op alert).tap = s.tap ∧ (State.avsResponse s k op alert).pub = s.pub ∧
    (State.avsResponse s k op alert).freeCtr = s.freeCtr ∧ (State.avsResponse s k op alert).pending = s.pending := by
  refine ⟨?_, ?_, ?_, ?_, ?_, ?_, ?_, ?_, ?_, ?_⟩ <;> (first | rfl | (simp (maxDischargeDepth := 12) [State.avsResponse]; done) | (unfold State.avsResponse; (try dsimp only); repeat' (first | rfl | (simp (maxDischargeDepth := 12); done) | split)))

end Sys2Proof.Machine
end

