-- ==== Sys2Proof/Laws/FramesCommit.lean ====
section
/-! SUPPORT. The fields of State that the operations of Machine/Commit.lean leave alone. -/

set_option linter.unusedSimpArgs false
set_option linter.unusedVariables false

namespace Sys2Proof.Machine

@[simp] theorem State_setLedgCtrl_keeps0 (s : State) (v : Word) :
    (State.setLedgCtrl s v).otp = s.otp ∧ (State.setLedgCtrl s v).start = s.start ∧ (State.setLedgCtrl s v).clk = s.clk ∧
    (State.setLedgCtrl s v).win = s.win ∧ (State.setLedgCtrl s v).cells = s.cells ∧ (State.setLedgCtrl s v).views = s.views ∧
    (State.setLedgCtrl s v).chains = s.chains ∧ (State.setLedgCtrl s v).creg = s.creg ∧ (State.setLedgCtrl s v).eng = s.eng ∧
    (State.setLedgCtrl s v).doms = s.doms ∧ (State.setLedgCtrl s v).lanes = s.lanes := by
  refine ⟨?_, ?_, ?_, ?_, ?_, ?_, ?_, ?_, ?_, ?_, ?_⟩ <;> (first | rfl | (simp (maxDischargeDepth := 12) [State.setLedgCtrl]; done) | (unfold State.setLedgCtrl; (try dsimp only); repeat' (first | rfl | (simp (maxDischargeDepth := 12); done) | split)))

@[simp] theorem State_setLedgCtrl_keeps1 (s : State) (v : Word) :
    (State.setLedgCtrl s v).sense = s.sense ∧ (State.setLedgCtrl s v).dscs = s.dscs ∧ (State.setLedgCtrl s v).hkcs = s.hkcs ∧
    (State.setLedgCtrl s v).tallies = s.tallies ∧ (State.setLedgCtrl s v).tiles = s.tiles ∧ (State.setLedgCtrl s v).limits = s.limits ∧
    (State.setLedgCtrl s v).pace = s.pace ∧ (State.setLedgCtrl s v).therm = s.therm ∧ (State.setLedgCtrl s v).diodes = s.diodes ∧
    (State.setLedgCtrl s v).stopq = s.stopq ∧ (State.setLedgCtrl s v).flt = s.flt := by
  refine ⟨?_, ?_, ?_, ?_, ?_, ?_, ?_, ?_, ?_, ?_, ?_⟩ <;> (first | rfl | (simp (maxDischargeDepth := 12) [State.setLedgCtrl]; done) | (unfold State.setLedgCtrl; (try dsimp only); repeat' (first | rfl | (simp (maxDischargeDepth := 12); done) | split)))

@[simp] theorem State_setLedgCtrl_keeps2 (s : State) (v : Word) :
    (State.setLedgCtrl s v).warden = s.warden ∧ (State.setLedgCtrl s v).policy = s.policy ∧ (State.setLedgCtrl s v).rings = s.rings ∧
    (State.setLedgCtrl s v).smb = s.smb ∧ (State.setLedgCtrl s v).avs = s.avs ∧ (State.setLedgCtrl s v).tap = s.tap ∧
    (State.setLedgCtrl s v).pub = s.pub ∧ (State.setLedgCtrl s v).freeCtr = s.freeCtr ∧ (State.setLedgCtrl s v).pending = s.pending := by
  refine ⟨?_, ?_, ?_, ?_, ?_, ?_, ?_, ?_, ?_⟩ <;> (first | rfl | (simp (maxDischargeDepth := 12) [State.setLedgCtrl]; done) | (unfold State.setLedgCtrl; (try dsimp only); repeat' (first | rfl | (simp (maxDischargeDepth := 12); done) | split)))

@[simp] theorem State_setPaceCtrl_keeps0 (s : State) (v : Word) :
    (State.setPaceCtrl s v).otp = s.otp ∧ (State.setPaceCtrl s v).start = s.start ∧ (State.setPaceCtrl s v).clk = s.clk ∧
    (State.setPaceCtrl s v).win = s.win ∧ (State.setPaceCtrl s v).cells = s.cells ∧ (State.setPaceCtrl s v).views = s.views ∧
    (State.setPaceCtrl s v).chains = s.chains ∧ (State.setPaceCtrl s v).creg = s.creg ∧ (State.setPaceCtrl s v).eng = s.eng ∧
    (State.setPaceCtrl s v).doms = s.doms ∧ (State.setPaceCtrl s v).lanes = s.lanes := by
  refine ⟨?_, ?_, ?_, ?_, ?_, ?_, ?_, ?_, ?_, ?_, ?_⟩ <;> (first | rfl | (simp (maxDischargeDepth := 12) [State.setPaceCtrl]; done) | (unfold State.setPaceCtrl; (try dsimp only); repeat' (first | rfl | (simp (maxDischargeDepth := 12); done) | split)))

@[simp] theorem State_setPaceCtrl_keeps1 (s : State) (v : Word) :
    (State.setPaceCtrl s v).sense = s.sense ∧ (State.setPaceCtrl s v).dscs = s.dscs ∧ (State.setPaceCtrl s v).hkcs = s.hkcs ∧
    (State.setPaceCtrl s v).tallies = s.tallies ∧ (State.setPaceCtrl s v).ledger = s.ledger ∧ (State.setPaceCtrl s v).tiles = s.tiles ∧
    (State.setPaceCtrl s v).accts = s.accts ∧ (State.setPaceCtrl s v).limits = s.limits ∧ (State.setPaceCtrl s v).therm = s.therm ∧
    (State.setPaceCtrl s v).diodes = s.diodes ∧ (State.setPaceCtrl s v).stopq = s.stopq := by
  refine ⟨?_, ?_, ?_, ?_, ?_, ?_, ?_, ?_, ?_, ?_, ?_⟩ <;> (first | rfl | (simp (maxDischargeDepth := 12) [State.setPaceCtrl]; done) | (unfold State.setPaceCtrl; (try dsimp only); repeat' (first | rfl | (simp (maxDischargeDepth := 12); done) | split)))

@[simp] theorem State_setPaceCtrl_keeps2 (s : State) (v : Word) :
    (State.setPaceCtrl s v).flt = s.flt ∧ (State.setPaceCtrl s v).warden = s.warden ∧ (State.setPaceCtrl s v).policy = s.policy ∧
    (State.setPaceCtrl s v).rings = s.rings ∧ (State.setPaceCtrl s v).smb = s.smb ∧ (State.setPaceCtrl s v).avs = s.avs ∧
    (State.setPaceCtrl s v).tap = s.tap ∧ (State.setPaceCtrl s v).pub = s.pub ∧ (State.setPaceCtrl s v).freeCtr = s.freeCtr ∧
    (State.setPaceCtrl s v).pending = s.pending := by
  refine ⟨?_, ?_, ?_, ?_, ?_, ?_, ?_, ?_, ?_, ?_⟩ <;> (first | rfl | (simp (maxDischargeDepth := 12) [State.setPaceCtrl]; done) | (unfold State.setPaceCtrl; (try dsimp only); repeat' (first | rfl | (simp (maxDischargeDepth := 12); done) | split)))

@[simp] theorem State_setSnsCtrl_keeps0 (s : State) (v : Word) :
    (State.setSnsCtrl s v).otp = s.otp ∧ (State.setSnsCtrl s v).start = s.start ∧ (State.setSnsCtrl s v).clk = s.clk ∧
    (State.setSnsCtrl s v).win = s.win ∧ (State.setSnsCtrl s v).cells = s.cells ∧ (State.setSnsCtrl s v).views = s.views ∧
    (State.setSnsCtrl s v).chains = s.chains ∧ (State.setSnsCtrl s v).creg = s.creg ∧ (State.setSnsCtrl s v).eng = s.eng ∧
    (State.setSnsCtrl s v).doms = s.doms ∧ (State.setSnsCtrl s v).lanes = s.lanes := by
  refine ⟨?_, ?_, ?_, ?_, ?_, ?_, ?_, ?_, ?_, ?_, ?_⟩ <;> (first | rfl | (simp (maxDischargeDepth := 12) [State.setSnsCtrl]; done) | (unfold State.setSnsCtrl; (try dsimp only); repeat' (first | rfl | (simp (maxDischargeDepth := 12); done) | split)))

@[simp] theorem State_setSnsCtrl_keeps1 (s : State) (v : Word) :
    (State.setSnsCtrl s v).dscs = s.dscs ∧ (State.setSnsCtrl s v).hkcs = s.hkcs ∧ (State.setSnsCtrl s v).tallies = s.tallies ∧
    (State.setSnsCtrl s v).ledger = s.ledger ∧ (State.setSnsCtrl s v).tiles = s.tiles ∧ (State.setSnsCtrl s v).accts = s.accts ∧
    (State.setSnsCtrl s v).limits = s.limits ∧ (State.setSnsCtrl s v).pace = s.pace ∧ (State.setSnsCtrl s v).therm = s.therm ∧
    (State.setSnsCtrl s v).diodes = s.diodes ∧ (State.setSnsCtrl s v).stopq = s.stopq := by
  refine ⟨?_, ?_, ?_, ?_, ?_, ?_, ?_, ?_, ?_, ?_, ?_⟩ <;> (first | rfl | (simp (maxDischargeDepth := 12) [State.setSnsCtrl]; done) | (unfold State.setSnsCtrl; (try dsimp only); repeat' (first | rfl | (simp (maxDischargeDepth := 12); done) | split)))

@[simp] theorem State_setSnsCtrl_keeps2 (s : State) (v : Word) :
    (State.setSnsCtrl s v).flt = s.flt ∧ (State.setSnsCtrl s v).warden = s.warden ∧ (State.setSnsCtrl s v).policy = s.policy ∧
    (State.setSnsCtrl s v).rings = s.rings ∧ (State.setSnsCtrl s v).smb = s.smb ∧ (State.setSnsCtrl s v).avs = s.avs ∧
    (State.setSnsCtrl s v).tap = s.tap ∧ (State.setSnsCtrl s v).pub = s.pub ∧ (State.setSnsCtrl s v).freeCtr = s.freeCtr ∧
    (State.setSnsCtrl s v).pending = s.pending := by
  refine ⟨?_, ?_, ?_, ?_, ?_, ?_, ?_, ?_, ?_, ?_⟩ <;> (first | rfl | (simp (maxDischargeDepth := 12) [State.setSnsCtrl]; done) | (unfold State.setSnsCtrl; (try dsimp only); repeat' (first | rfl | (simp (maxDischargeDepth := 12); done) | split)))

@[simp] theorem State_setDscFb_keeps0 (s : State) (d : Nat) (v : Word) :
    (State.setDscFb s d v).otp = s.otp ∧ (State.setDscFb s d v).start = s.start ∧ (State.setDscFb s d v).clk = s.clk ∧
    (State.setDscFb s d v).win = s.win ∧ (State.setDscFb s d v).cells = s.cells ∧ (State.setDscFb s d v).views = s.views ∧
    (State.setDscFb s d v).chains = s.chains ∧ (State.setDscFb s d v).creg = s.creg ∧ (State.setDscFb s d v).eng = s.eng ∧
    (State.setDscFb s d v).lanes = s.lanes ∧ (State.setDscFb s d v).sense = s.sense := by
  refine ⟨?_, ?_, ?_, ?_, ?_, ?_, ?_, ?_, ?_, ?_, ?_⟩ <;> (first | rfl | (simp (maxDischargeDepth := 12) [State.setDscFb]; done) | (unfold State.setDscFb; (try dsimp only); repeat' (first | rfl | (simp (maxDischargeDepth := 12); done) | split)))

@[simp] theorem State_setDscFb_keeps1 (s : State) (d : Nat) (v : Word) :
    (State.setDscFb s d v).hkcs = s.hkcs ∧ (State.setDscFb s d v).ledger = s.ledger ∧ (State.setDscFb s d v).tiles = s.tiles ∧
    (State.setDscFb s d v).accts = s.accts ∧ (State.setDscFb s d v).limits = s.limits ∧ (State.setDscFb s d v).pace = s.pace ∧
    (State.setDscFb s d v).therm = s.therm ∧ (State.setDscFb s d v).diodes = s.diodes ∧ (State.setDscFb s d v).stopq = s.stopq ∧
    (State.setDscFb s d v).flt = s.flt ∧ (State.setDscFb s d v).warden = s.warden := by
  refine ⟨?_, ?_, ?_, ?_, ?_, ?_, ?_, ?_, ?_, ?_, ?_⟩ <;> (first | rfl | (simp (maxDischargeDepth := 12) [State.setDscFb]; done) | (unfold State.setDscFb; (try dsimp only); repeat' (first | rfl | (simp (maxDischargeDepth := 12); done) | split)))

@[simp] theorem State_setDscFb_keeps2 (s : State) (d : Nat) (v : Word) :
    (State.setDscFb s d v).policy = s.policy ∧ (State.setDscFb s d v).rings = s.rings ∧ (State.setDscFb s d v).smb = s.smb ∧
    (State.setDscFb s d v).avs = s.avs ∧ (State.setDscFb s d v).tap = s.tap ∧ (State.setDscFb s d v).pub = s.pub ∧
    (State.setDscFb s d v).freeCtr = s.freeCtr ∧ (State.setDscFb s d v).pending = s.pending := by
  refine ⟨?_, ?_, ?_, ?_, ?_, ?_, ?_, ?_⟩ <;> (first | rfl | (simp (maxDischargeDepth := 12) [State.setDscFb]; done) | (unfold State.setDscFb; (try dsimp only); repeat' (first | rfl | (simp (maxDischargeDepth := 12); done) | split)))

@[simp] theorem State_setSpEn_keeps0 (s : State) (d : Nat) (i : Nat) (v : Word) :
    (State.setSpEn s d i v).otp = s.otp ∧ (State.setSpEn s d i v).start = s.start ∧ (State.setSpEn s d i v).clk = s.clk ∧
    (State.setSpEn s d i v).win = s.win ∧ (State.setSpEn s d i v).cells = s.cells ∧ (State.setSpEn s d i v).views = s.views ∧
    (State.setSpEn s d i v).chains = s.chains ∧ (State.setSpEn s d i v).creg = s.creg ∧ (State.setSpEn s d i v).eng = s.eng ∧
    (State.setSpEn s d i v).lanes = s.lanes ∧ (State.setSpEn s d i v).sense = s.sense := by
  refine ⟨?_, ?_, ?_, ?_, ?_, ?_, ?_, ?_, ?_, ?_, ?_⟩ <;> (first | rfl | (simp (maxDischargeDepth := 12) [State.setSpEn]; done) | (unfold State.setSpEn; (try dsimp only); repeat' (first | rfl | (simp (maxDischargeDepth := 12); done) | split)))

@[simp] theorem State_setSpEn_keeps1 (s : State) (d : Nat) (i : Nat) (v : Word) :
    (State.setSpEn s d i v).hkcs = s.hkcs ∧ (State.setSpEn s d i v).ledger = s.ledger ∧ (State.setSpEn s d i v).tiles = s.tiles ∧
    (State.setSpEn s d i v).accts = s.accts ∧ (State.setSpEn s d i v).limits = s.limits ∧ (State.setSpEn s d i v).pace = s.pace ∧
    (State.setSpEn s d i v).therm = s.therm ∧ (State.setSpEn s d i v).diodes = s.diodes ∧ (State.setSpEn s d i v).stopq = s.stopq ∧
    (State.setSpEn s d i v).flt = s.flt ∧ (State.setSpEn s d i v).warden = s.warden := by
  refine ⟨?_, ?_, ?_, ?_, ?_, ?_, ?_, ?_, ?_, ?_, ?_⟩ <;> (first | rfl | (simp (maxDischargeDepth := 12) [State.setSpEn]; done) | (unfold State.setSpEn; (try dsimp only); repeat' (first | rfl | (simp (maxDischargeDepth := 12); done) | split)))

@[simp] theorem State_setSpEn_keeps2 (s : State) (d : Nat) (i : Nat) (v : Word) :
    (State.setSpEn s d i v).policy = s.policy ∧ (State.setSpEn s d i v).rings = s.rings ∧ (State.setSpEn s d i v).smb = s.smb ∧
    (State.setSpEn s d i v).avs = s.avs ∧ (State.setSpEn s d i v).tap = s.tap ∧ (State.setSpEn s d i v).pub = s.pub ∧
    (State.setSpEn s d i v).freeCtr = s.freeCtr ∧ (State.setSpEn s d i v).pending = s.pending := by
  refine ⟨?_, ?_, ?_, ?_, ?_, ?_, ?_, ?_⟩ <;> (first | rfl | (simp (maxDischargeDepth := 12) [State.setSpEn]; done) | (unfold State.setSpEn; (try dsimp only); repeat' (first | rfl | (simp (maxDischargeDepth := 12); done) | split)))

@[simp] theorem State_setLimCtrl_keeps0 (s : State) (v : Word) :
    (State.setLimCtrl s v).otp = s.otp ∧ (State.setLimCtrl s v).start = s.start ∧ (State.setLimCtrl s v).clk = s.clk ∧
    (State.setLimCtrl s v).win = s.win ∧ (State.setLimCtrl s v).cells = s.cells ∧ (State.setLimCtrl s v).views = s.views ∧
    (State.setLimCtrl s v).chains = s.chains ∧ (State.setLimCtrl s v).creg = s.creg ∧ (State.setLimCtrl s v).eng = s.eng ∧
    (State.setLimCtrl s v).doms = s.doms ∧ (State.setLimCtrl s v).lanes = s.lanes := by
  refine ⟨?_, ?_, ?_, ?_, ?_, ?_, ?_, ?_, ?_, ?_, ?_⟩ <;> (first | rfl | (simp (maxDischargeDepth := 12) [State.setLimCtrl]; done) | (unfold State.setLimCtrl; (try dsimp only); repeat' (first | rfl | (simp (maxDischargeDepth := 12); done) | split)))

@[simp] theorem State_setLimCtrl_keeps1 (s : State) (v : Word) :
    (State.setLimCtrl s v).sense = s.sense ∧ (State.setLimCtrl s v).dscs = s.dscs ∧ (State.setLimCtrl s v).hkcs = s.hkcs ∧
    (State.setLimCtrl s v).tallies = s.tallies ∧ (State.setLimCtrl s v).ledger = s.ledger ∧ (State.setLimCtrl s v).tiles = s.tiles ∧
    (State.setLimCtrl s v).accts = s.accts ∧ (State.setLimCtrl s v).pace = s.pace ∧ (State.setLimCtrl s v).therm = s.therm ∧
    (State.setLimCtrl s v).diodes = s.diodes ∧ (State.setLimCtrl s v).stopq = s.stopq := by
  refine ⟨?_, ?_, ?_, ?_, ?_, ?_, ?_, ?_, ?_, ?_, ?_⟩ <;> (first | rfl | (simp (maxDischargeDepth := 12) [State.setLimCtrl]; done) | (unfold State.setLimCtrl; (try dsimp only); repeat' (first | rfl | (simp (maxDischargeDepth := 12); done) | split)))

@[simp] theorem State_setLimCtrl_keeps2 (s : State) (v : Word) :
    (State.setLimCtrl s v).flt = s.flt ∧ (State.setLimCtrl s v).warden = s.warden ∧ (State.setLimCtrl s v).policy = s.policy ∧
    (State.setLimCtrl s v).rings = s.rings ∧ (State.setLimCtrl s v).smb = s.smb ∧ (State.setLimCtrl s v).avs = s.avs ∧
    (State.setLimCtrl s v).tap = s.tap ∧ (State.setLimCtrl s v).pub = s.pub ∧ (State.setLimCtrl s v).freeCtr = s.freeCtr ∧
    (State.setLimCtrl s v).pending = s.pending := by
  refine ⟨?_, ?_, ?_, ?_, ?_, ?_, ?_, ?_, ?_, ?_⟩ <;> (first | rfl | (simp (maxDischargeDepth := 12) [State.setLimCtrl]; done) | (unfold State.setLimCtrl; (try dsimp only); repeat' (first | rfl | (simp (maxDischargeDepth := 12); done) | split)))

@[simp] theorem State_applyVset_keeps0 (s : State) (d : Nat) (v : Word) (by_ : Stager) :
    (State.applyVset s d v by_).otp = s.otp ∧ (State.applyVset s d v by_).start = s.start ∧ (State.applyVset s d v by_).clk = s.clk ∧
    (State.applyVset s d v by_).win = s.win ∧ (State.applyVset s d v by_).cells = s.cells ∧ (State.applyVset s d v by_).views = s.views ∧
    (State.applyVset s d v by_).chains = s.chains ∧ (State.applyVset s d v by_).creg = s.creg ∧ (State.applyVset s d v by_).eng = s.eng ∧
    (State.applyVset s d v by_).lanes = s.lanes ∧ (State.applyVset s d v by_).sense = s.sense := by
  refine ⟨?_, ?_, ?_, ?_, ?_, ?_, ?_, ?_, ?_, ?_, ?_⟩ <;> (first | rfl | (simp (maxDischargeDepth := 12) [State.applyVset]; done) | (unfold State.applyVset; (try dsimp only); repeat' (first | rfl | (simp (maxDischargeDepth := 12); done) | split)))

@[simp] theorem State_applyVset_keeps1 (s : State) (d : Nat) (v : Word) (by_ : Stager) :
    (State.applyVset s d v by_).dscs = s.dscs ∧ (State.applyVset s d v by_).hkcs = s.hkcs ∧
    (State.applyVset s d v by_).tallies = s.tallies ∧ (State.applyVset s d v by_).ledger = s.ledger ∧
    (State.applyVset s d v by_).tiles = s.tiles ∧ (State.applyVset s d v by_).accts = s.accts ∧
    (State.applyVset s d v by_).limits = s.limits ∧ (State.applyVset s d v by_).pace = s.pace ∧
    (State.applyVset s d v by_).therm = s.therm ∧ (State.applyVset s d v by_).diodes = s.diodes ∧
    (State.applyVset s d v by_).stopq = s.stopq := by
  refine ⟨?_, ?_, ?_, ?_, ?_, ?_, ?_, ?_, ?_, ?_, ?_⟩ <;> (first | rfl | (simp (maxDischargeDepth := 12) [State.applyVset]; done) | (unfold State.applyVset; (try dsimp only); repeat' (first | rfl | (simp (maxDischargeDepth := 12); done) | split)))

@[simp] theorem State_applyVset_keeps2 (s : State) (d : Nat) (v : Word) (by_ : Stager) :
    (State.applyVset s d v by_).flt = s.flt ∧ (State.applyVset s d v by_).warden = s.warden ∧
    (State.applyVset s d v by_).rings = s.rings ∧ (State.applyVset s d v by_).smb = s.smb ∧ (State.applyVset s d v by_).avs = s.avs ∧
    (State.applyVset s d v by_).tap = s.tap ∧ (State.applyVset s d v by_).pub = s.pub ∧ (State.applyVset s d v by_).freeCtr = s.freeCtr ∧
    (State.applyVset s d v by_).pending = s.pending := by
  refine ⟨?_, ?_, ?_, ?_, ?_, ?_, ?_, ?_, ?_⟩ <;> (first | rfl | (simp (maxDischargeDepth := 12) [State.applyVset]; done) | (unfold State.applyVset; (try dsimp only); repeat' (first | rfl | (simp (maxDischargeDepth := 12); done) | split)))

@[simp] theorem State_hostWrite_keeps0 (s : State) (addr : Nat) (l : List Word) :
    (State.hostWrite s addr l).otp = s.otp ∧ (State.hostWrite s addr l).start = s.start ∧ (State.hostWrite s addr l).clk = s.clk ∧
    (State.hostWrite s addr l).win = s.win ∧ (State.hostWrite s addr l).cells = s.cells ∧ (State.hostWrite s addr l).views = s.views ∧
    (State.hostWrite s addr l).chains = s.chains ∧ (State.hostWrite s addr l).creg = s.creg ∧ (State.hostWrite s addr l).eng = s.eng ∧
    (State.hostWrite s addr l).doms = s.doms ∧ (State.hostWrite s addr l).lanes = s.lanes := by
  refine ⟨?_, ?_, ?_, ?_, ?_, ?_, ?_, ?_, ?_, ?_, ?_⟩ <;> (first | rfl | (simp (maxDischargeDepth := 12) [State.hostWrite]; done) | (unfold State.hostWrite; (try dsimp only); repeat' (first | rfl | (simp (maxDischargeDepth := 12); done) | split)))

@[simp] theorem State_hostWrite_keeps1 (s : State) (addr : Nat) (l : List Word) :
    (State.hostWrite s addr l).sense = s.sense ∧ (State.hostWrite s addr l).dscs = s.dscs ∧ (State.hostWrite s addr l).hkcs = s.hkcs ∧
    (State.hostWrite s addr l).tallies = s.tallies ∧ (State.hostWrite s addr l).ledger = s.ledger ∧
    (State.hostWrite s addr l).tiles = s.tiles ∧ (State.hostWrite s addr l).accts = s.accts ∧
    (State.hostWrite s addr l).limits = s.limits ∧ (State.hostWrite s addr l).pace = s.pace ∧ (State.hostWrite s addr l).therm = s.therm ∧
    (State.hostWrite s addr l).diodes = s.diodes := by
  refine ⟨?_, ?_, ?_, ?_, ?_, ?_, ?_, ?_, ?_, ?_, ?_⟩ <;> (first | rfl | (simp (maxDischargeDepth := 12) [State.hostWrite]; done) | (unfold State.hostWrite; (try dsimp only); repeat' (first | rfl | (simp (maxDischargeDepth := 12); done) | split)))

@[simp] theorem State_hostWrite_keeps2 (s : State) (addr : Nat) (l : List Word) :
    (State.hostWrite s addr l).stopq = s.stopq ∧ (State.hostWrite s addr l).flt = s.flt ∧ (State.hostWrite s addr l).warden = s.warden ∧
    (State.hostWrite s addr l).policy = s.policy ∧ (State.hostWrite s addr l).smb = s.smb ∧ (State.hostWrite s addr l).avs = s.avs ∧
    (State.hostWrite s addr l).tap = s.tap ∧ (State.hostWrite s addr l).pub = s.pub ∧ (State.hostWrite s addr l).freeCtr = s.freeCtr ∧
    (State.hostWrite s addr l).pending = s.pending := by
  refine ⟨?_, ?_, ?_, ?_, ?_, ?_, ?_, ?_, ?_, ?_⟩ <;> (first | rfl | (simp (maxDischargeDepth := 12) [State.hostWrite]; done) | (unfold State.hostWrite; (try dsimp only); repeat' (first | rfl | (simp (maxDischargeDepth := 12); done) | split)))

@[simp] theorem State_tlmMeter_keeps0 (s : State) (metered : Bool) :
    (State.tlmMeter s metered).otp = s.otp ∧ (State.tlmMeter s metered).start = s.start ∧ (State.tlmMeter s metered).clk = s.clk ∧
    (State.tlmMeter s metered).win = s.win ∧ (State.tlmMeter s metered).cells = s.cells ∧ (State.tlmMeter s metered).views = s.views ∧
    (State.tlmMeter s metered).chains = s.chains ∧ (State.tlmMeter s metered).creg = s.creg ∧ (State.tlmMeter s metered).eng = s.eng ∧
    (State.tlmMeter s metered).doms = s.doms ∧ (State.tlmMeter s metered).lanes = s.lanes := by
  refine ⟨?_, ?_, ?_, ?_, ?_, ?_, ?_, ?_, ?_, ?_, ?_⟩ <;> (first | rfl | (simp (maxDischargeDepth := 12) [State.tlmMeter]; done) | (unfold State.tlmMeter; (try dsimp only); repeat' (first | rfl | (simp (maxDischargeDepth := 12); done) | split)))

@[simp] theorem State_tlmMeter_keeps1 (s : State) (metered : Bool) :
    (State.tlmMeter s metered).sense = s.sense ∧ (State.tlmMeter s metered).dscs = s.dscs ∧ (State.tlmMeter s metered).hkcs = s.hkcs ∧
    (State.tlmMeter s metered).tallies = s.tallies ∧ (State.tlmMeter s metered).ledger = s.ledger ∧
    (State.tlmMeter s metered).tiles = s.tiles ∧ (State.tlmMeter s metered).accts = s.accts ∧
    (State.tlmMeter s metered).limits = s.limits ∧ (State.tlmMeter s metered).pace = s.pace ∧ (State.tlmMeter s metered).therm = s.therm ∧
    (State.tlmMeter s metered).diodes = s.diodes := by
  refine ⟨?_, ?_, ?_, ?_, ?_, ?_, ?_, ?_, ?_, ?_, ?_⟩ <;> (first | rfl | (simp (maxDischargeDepth := 12) [State.tlmMeter]; done) | (unfold State.tlmMeter; (try dsimp only); repeat' (first | rfl | (simp (maxDischargeDepth := 12); done) | split)))

@[simp] theorem State_tlmMeter_keeps2 (s : State) (metered : Bool) :
    (State.tlmMeter s metered).stopq = s.stopq ∧ (State.tlmMeter s metered).flt = s.flt ∧ (State.tlmMeter s metered).warden = s.warden ∧
    (State.tlmMeter s metered).policy = s.policy ∧ (State.tlmMeter s metered).smb = s.smb ∧ (State.tlmMeter s metered).avs = s.avs ∧
    (State.tlmMeter s metered).tap = s.tap ∧ (State.tlmMeter s metered).pub = s.pub ∧ (State.tlmMeter s metered).freeCtr = s.freeCtr ∧
    (State.tlmMeter s metered).pending = s.pending := by
  refine ⟨?_, ?_, ?_, ?_, ?_, ?_, ?_, ?_, ?_, ?_⟩ <;> (first | rfl | (simp (maxDischargeDepth := 12) [State.tlmMeter]; done) | (unfold State.tlmMeter; (try dsimp only); repeat' (first | rfl | (simp (maxDischargeDepth := 12); done) | split)))

@[simp] theorem State_tlmClose_keeps0 (s : State) :
    (State.tlmClose s).otp = s.otp ∧ (State.tlmClose s).start = s.start ∧ (State.tlmClose s).clk = s.clk ∧
    (State.tlmClose s).win = s.win ∧ (State.tlmClose s).cells = s.cells ∧ (State.tlmClose s).views = s.views ∧
    (State.tlmClose s).chains = s.chains ∧ (State.tlmClose s).creg = s.creg ∧ (State.tlmClose s).eng = s.eng ∧
    (State.tlmClose s).doms = s.doms ∧ (State.tlmClose s).lanes = s.lanes := by
  refine ⟨?_, ?_, ?_, ?_, ?_, ?_, ?_, ?_, ?_, ?_, ?_⟩ <;> (first | rfl | (simp (maxDischargeDepth := 12) [State.tlmClose]; done) | (unfold State.tlmClose; (try dsimp only); repeat' (first | rfl | (simp (maxDischargeDepth := 12); done) | split)))

@[simp] theorem State_tlmClose_keeps1 (s : State) :
    (State.tlmClose s).sense = s.sense ∧ (State.tlmClose s).dscs = s.dscs ∧ (State.tlmClose s).hkcs = s.hkcs ∧
    (State.tlmClose s).tallies = s.tallies ∧ (State.tlmClose s).ledger = s.ledger ∧ (State.tlmClose s).tiles = s.tiles ∧
    (State.tlmClose s).accts = s.accts ∧ (State.tlmClose s).limits = s.limits ∧ (State.tlmClose s).pace = s.pace ∧
    (State.tlmClose s).therm = s.therm ∧ (State.tlmClose s).diodes = s.diodes := by
  refine ⟨?_, ?_, ?_, ?_, ?_, ?_, ?_, ?_, ?_, ?_, ?_⟩ <;> (first | rfl | (simp (maxDischargeDepth := 12) [State.tlmClose]; done) | (unfold State.tlmClose; (try dsimp only); repeat' (first | rfl | (simp (maxDischargeDepth := 12); done) | split)))

@[simp] theorem State_tlmClose_keeps2 (s : State) :
    (State.tlmClose s).stopq = s.stopq ∧ (State.tlmClose s).flt = s.flt ∧ (State.tlmClose s).warden = s.warden ∧
    (State.tlmClose s).policy = s.policy ∧ (State.tlmClose s).smb = s.smb ∧ (State.tlmClose s).avs = s.avs ∧
    (State.tlmClose s).tap = s.tap ∧ (State.tlmClose s).pub = s.pub ∧ (State.tlmClose s).freeCtr = s.freeCtr ∧
    (State.tlmClose s).pending = s.pending := by
  refine ⟨?_, ?_, ?_, ?_, ?_, ?_, ?_, ?_, ?_, ?_⟩ <;> (first | rfl | (simp (maxDischargeDepth := 12) [State.tlmClose]; done) | (unfold State.tlmClose; (try dsimp only); repeat' (first | rfl | (simp (maxDischargeDepth := 12); done) | split)))

@[simp] theorem State_tlmMissed_keeps0 (s : State) :
    (State.tlmMissed s).otp = s.otp ∧ (State.tlmMissed s).start = s.start ∧ (State.tlmMissed s).clk = s.clk ∧
    (State.tlmMissed s).win = s.win ∧ (State.tlmMissed s).cells = s.cells ∧ (State.tlmMissed s).views = s.views ∧
    (State.tlmMissed s).chains = s.chains ∧ (State.tlmMissed s).creg = s.creg ∧ (State.tlmMissed s).eng = s.eng ∧
    (State.tlmMissed s).doms = s.doms ∧ (State.tlmMissed s).lanes = s.lanes := by
  refine ⟨?_, ?_, ?_, ?_, ?_, ?_, ?_, ?_, ?_, ?_, ?_⟩ <;> (first | rfl | (simp (maxDischargeDepth := 12) [State.tlmMissed]; done) | (unfold State.tlmMissed; (try dsimp only); repeat' (first | rfl | (simp (maxDischargeDepth := 12); done) | split)))

@[simp] theorem State_tlmMissed_keeps1 (s : State) :
    (State.tlmMissed s).sense = s.sense ∧ (State.tlmMissed s).dscs = s.dscs ∧ (State.tlmMissed s).hkcs = s.hkcs ∧
    (State.tlmMissed s).tallies = s.tallies ∧ (State.tlmMissed s).ledger = s.ledger ∧ (State.tlmMissed s).tiles = s.tiles ∧
    (State.tlmMissed s).limits = s.limits ∧ (State.tlmMissed s).pace = s.pace ∧ (State.tlmMissed s).therm = s.therm ∧
    (State.tlmMissed s).diodes = s.diodes ∧ (State.tlmMissed s).stopq = s.stopq := by
  refine ⟨?_, ?_, ?_, ?_, ?_, ?_, ?_, ?_, ?_, ?_, ?_⟩ <;> (first | rfl | (simp (maxDischargeDepth := 12) [State.tlmMissed]; done) | (unfold State.tlmMissed; (try dsimp only); repeat' (first | rfl | (simp (maxDischargeDepth := 12); done) | split)))

@[simp] theorem State_tlmMissed_keeps2 (s : State) :
    (State.tlmMissed s).flt = s.flt ∧ (State.tlmMissed s).warden = s.warden ∧ (State.tlmMissed s).policy = s.policy ∧
    (State.tlmMissed s).smb = s.smb ∧ (State.tlmMissed s).avs = s.avs ∧ (State.tlmMissed s).tap = s.tap ∧
    (State.tlmMissed s).pub = s.pub ∧ (State.tlmMissed s).freeCtr = s.freeCtr ∧ (State.tlmMissed s).pending = s.pending := by
  refine ⟨?_, ?_, ?_, ?_, ?_, ?_, ?_, ?_, ?_⟩ <;> (first | rfl | (simp (maxDischargeDepth := 12) [State.tlmMissed]; done) | (unfold State.tlmMissed; (try dsimp only); repeat' (first | rfl | (simp (maxDischargeDepth := 12); done) | split)))

@[simp] theorem State_openEpoch_keeps0 (s : State) :
    (State.openEpoch s).otp = s.otp ∧ (State.openEpoch s).start = s.start ∧ (State.openEpoch s).win = s.win ∧
    (State.openEpoch s).cells = s.cells ∧ (State.openEpoch s).views = s.views ∧ (State.openEpoch s).chains = s.chains ∧
    (State.openEpoch s).creg = s.creg ∧ (State.openEpoch s).eng = s.eng ∧ (State.openEpoch s).doms = s.doms ∧
    (State.openEpoch s).lanes = s.lanes ∧ (State.openEpoch s).sense = s.sense := by
  refine ⟨?_, ?_, ?_, ?_, ?_, ?_, ?_, ?_, ?_, ?_, ?_⟩ <;> (first | rfl | (simp (maxDischargeDepth := 12) [State.openEpoch]; done) | (unfold State.openEpoch; (try dsimp only); repeat' (first | rfl | (simp (maxDischargeDepth := 12); done) | split)))

@[simp] theorem State_openEpoch_keeps1 (s : State) :
    (State.openEpoch s).dscs = s.dscs ∧ (State.openEpoch s).hkcs = s.hkcs ∧ (State.openEpoch s).tallies = s.tallies ∧
    (State.openEpoch s).tiles = s.tiles ∧ (State.openEpoch s).pace = s.pace ∧ (State.openEpoch s).therm = s.therm ∧
    (State.openEpoch s).diodes = s.diodes ∧ (State.openEpoch s).stopq = s.stopq ∧ (State.openEpoch s).flt = s.flt ∧
    (State.openEpoch s).warden = s.warden ∧ (State.openEpoch s).policy = s.policy := by
  refine ⟨?_, ?_, ?_, ?_, ?_, ?_, ?_, ?_, ?_, ?_, ?_⟩ <;> (first | rfl | (simp (maxDischargeDepth := 12) [State.openEpoch]; done) | (unfold State.openEpoch; (try dsimp only); repeat' (first | rfl | (simp (maxDischargeDepth := 12); done) | split)))

@[simp] theorem State_openEpoch_keeps2 (s : State) :
    (State.openEpoch s).smb = s.smb ∧ (State.openEpoch s).avs = s.avs ∧ (State.openEpoch s).tap = s.tap ∧
    (State.openEpoch s).pub = s.pub ∧ (State.openEpoch s).freeCtr = s.freeCtr ∧ (State.openEpoch s).pending = s.pending := by
  refine ⟨?_, ?_, ?_, ?_, ?_, ?_⟩ <;> (first | rfl | (simp (maxDischargeDepth := 12) [State.openEpoch]; done) | (unfold State.openEpoch; (try dsimp only); repeat' (first | rfl | (simp (maxDischargeDepth := 12); done) | split)))

@[simp] theorem State_degradedRecall_keeps0 (s : State) (c : Nat) :
    (State.degradedRecall s c).otp = s.otp ∧ (State.degradedRecall s c).start = s.start ∧ (State.degradedRecall s c).clk = s.clk ∧
    (State.degradedRecall s c).win = s.win ∧ (State.degradedRecall s c).cells = s.cells ∧ (State.degradedRecall s c).views = s.views ∧
    (State.degradedRecall s c).creg = s.creg ∧ (State.degradedRecall s c).eng = s.eng ∧ (State.degradedRecall s c).doms = s.doms ∧
    (State.degradedRecall s c).lanes = s.lanes ∧ (State.degradedRecall s c).sense = s.sense := by
  refine ⟨?_, ?_, ?_, ?_, ?_, ?_, ?_, ?_, ?_, ?_, ?_⟩ <;> (first | rfl | (simp (maxDischargeDepth := 12) [State.degradedRecall]; done) | (unfold State.degradedRecall; (try dsimp only); repeat' (first | rfl | (simp (maxDischargeDepth := 12); done) | split)))

@[simp] theorem State_degradedRecall_keeps1 (s : State) (c : Nat) :
    (State.degradedRecall s c).dscs = s.dscs ∧ (State.degradedRecall s c).hkcs = s.hkcs ∧ (State.degradedRecall s c).tallies = s.tallies ∧
    (State.degradedRecall s c).ledger = s.ledger ∧ (State.degradedRecall s c).tiles = s.tiles ∧
    (State.degradedRecall s c).accts = s.accts ∧ (State.degradedRecall s c).limits = s.limits ∧ (State.degradedRecall s c).pace = s.pace ∧
    (State.degradedRecall s c).therm = s.therm ∧ (State.degradedRecall s c).diodes = s.diodes ∧ (State.degradedRecall s c).stopq = s.stopq := by
  refine ⟨?_, ?_, ?_, ?_, ?_, ?_, ?_, ?_, ?_, ?_, ?_⟩ <;> (first | rfl | (simp (maxDischargeDepth := 12) [State.degradedRecall]; done) | (unfold State.degradedRecall; (try dsimp only); repeat' (first | rfl | (simp (maxDischargeDepth := 12); done) | split)))

@[simp] theorem State_degradedRecall_keeps2 (s : State) (c : Nat) :
    (State.degradedRecall s c).flt = s.flt ∧ (State.degradedRecall s c).warden = s.warden ∧ (State.degradedRecall s c).policy = s.policy ∧
    (State.degradedRecall s c).rings = s.rings ∧ (State.degradedRecall s c).smb = s.smb ∧ (State.degradedRecall s c).avs = s.avs ∧
    (State.degradedRecall s c).tap = s.tap ∧ (State.degradedRecall s c).pub = s.pub ∧ (State.degradedRecall s c).freeCtr = s.freeCtr ∧
    (State.degradedRecall s c).pending = s.pending := by
  refine ⟨?_, ?_, ?_, ?_, ?_, ?_, ?_, ?_, ?_, ?_⟩ <;> (first | rfl | (simp (maxDischargeDepth := 12) [State.degradedRecall]; done) | (unfold State.degradedRecall; (try dsimp only); repeat' (first | rfl | (simp (maxDischargeDepth := 12); done) | split)))

end Sys2Proof.Machine
end

