-- ==== Sys2Proof/Laws/FramesStart.lean ====
section
/-! SUPPORT. The fields of State that the operations of Machine/Start.lean leave alone. -/

set_option linter.unusedSimpArgs false
set_option linter.unusedVariables false

namespace Sys2Proof.Machine

@[simp] theorem State_sealAtFall_keeps0 (s : State) :
    (State.sealAtFall s).otp = s.otp ∧ (State.sealAtFall s).start = s.start ∧ (State.sealAtFall s).clk = s.clk ∧
    (State.sealAtFall s).win = s.win ∧ (State.sealAtFall s).cells = s.cells ∧ (State.sealAtFall s).views = s.views ∧
    (State.sealAtFall s).chains = s.chains ∧ (State.sealAtFall s).creg = s.creg ∧ (State.sealAtFall s).eng = s.eng ∧
    (State.sealAtFall s).doms = s.doms ∧ (State.sealAtFall s).lanes = s.lanes := by
  refine ⟨?_, ?_, ?_, ?_, ?_, ?_, ?_, ?_, ?_, ?_, ?_⟩ <;> (first | rfl | (simp (maxDischargeDepth := 12) [State.sealAtFall]; done) | (unfold State.sealAtFall; (try dsimp only); repeat' (first | rfl | (simp (maxDischargeDepth := 12); done) | split)))

@[simp] theorem State_sealAtFall_keeps1 (s : State) :
    (State.sealAtFall s).sense = s.sense ∧ (State.sealAtFall s).dscs = s.dscs ∧ (State.sealAtFall s).hkcs = s.hkcs ∧
    (State.sealAtFall s).tallies = s.tallies ∧ (State.sealAtFall s).ledger = s.ledger ∧ (State.sealAtFall s).tiles = s.tiles ∧
    (State.sealAtFall s).accts = s.accts ∧ (State.sealAtFall s).limits = s.limits ∧ (State.sealAtFall s).pace = s.pace ∧
    (State.sealAtFall s).therm = s.therm ∧ (State.sealAtFall s).diodes = s.diodes := by
  refine ⟨?_, ?_, ?_, ?_, ?_, ?_, ?_, ?_, ?_, ?_, ?_⟩ <;> (first | rfl | (simp (maxDischargeDepth := 12) [State.sealAtFall]; done) | (unfold State.sealAtFall; (try dsimp only); repeat' (first | rfl | (simp (maxDischargeDepth := 12); done) | split)))

@[simp] theorem State_sealAtFall_keeps2 (s : State) :
    (State.sealAtFall s).flt = s.flt ∧ (State.sealAtFall s).policy = s.policy ∧ (State.sealAtFall s).rings = s.rings ∧
    (State.sealAtFall s).smb = s.smb ∧ (State.sealAtFall s).avs = s.avs ∧ (State.sealAtFall s).tap = s.tap ∧
    (State.sealAtFall s).pub = s.pub ∧ (State.sealAtFall s).freeCtr = s.freeCtr ∧ (State.sealAtFall s).pending = s.pending := by
  refine ⟨?_, ?_, ?_, ?_, ?_, ?_, ?_, ?_, ?_⟩ <;> (first | rfl | (simp (maxDischargeDepth := 12) [State.sealAtFall]; done) | (unfold State.sealAtFall; (try dsimp only); repeat' (first | rfl | (simp (maxDischargeDepth := 12); done) | split)))

@[simp] theorem State_backToWait_keeps0 (s : State) :
    (State.backToWait s).otp = s.otp ∧ (State.backToWait s).clk = s.clk ∧ (State.backToWait s).win = s.win ∧
    (State.backToWait s).cells = s.cells ∧ (State.backToWait s).views = s.views ∧ (State.backToWait s).chains = s.chains ∧
    (State.backToWait s).creg = s.creg ∧ (State.backToWait s).eng = s.eng ∧ (State.backToWait s).doms = s.doms ∧
    (State.backToWait s).lanes = s.lanes ∧ (State.backToWait s).sense = s.sense := by
  refine ⟨?_, ?_, ?_, ?_, ?_, ?_, ?_, ?_, ?_, ?_, ?_⟩ <;> (first | rfl | (simp (maxDischargeDepth := 12) [State.backToWait]; done) | (unfold State.backToWait; (try dsimp only); repeat' (first | rfl | (simp (maxDischargeDepth := 12); done) | split)))

@[simp] theorem State_backToWait_keeps1 (s : State) :
    (State.backToWait s).dscs = s.dscs ∧ (State.backToWait s).hkcs = s.hkcs ∧ (State.backToWait s).tallies = s.tallies ∧
    (State.backToWait s).ledger = s.ledger ∧ (State.backToWait s).tiles = s.tiles ∧ (State.backToWait s).accts = s.accts ∧
    (State.backToWait s).limits = s.limits ∧ (State.backToWait s).pace = s.pace ∧ (State.backToWait s).therm = s.therm ∧
    (State.backToWait s).diodes = s.diodes ∧ (State.backToWait s).stopq = s.stopq := by
  refine ⟨?_, ?_, ?_, ?_, ?_, ?_, ?_, ?_, ?_, ?_, ?_⟩ <;> (first | rfl | (simp (maxDischargeDepth := 12) [State.backToWait]; done) | (unfold State.backToWait; (try dsimp only); repeat' (first | rfl | (simp (maxDischargeDepth := 12); done) | split)))

@[simp] theorem State_backToWait_keeps2 (s : State) :
    (State.backToWait s).flt = s.flt ∧ (State.backToWait s).warden = s.warden ∧ (State.backToWait s).policy = s.policy ∧
    (State.backToWait s).rings = s.rings ∧ (State.backToWait s).smb = s.smb ∧ (State.backToWait s).avs = s.avs ∧
    (State.backToWait s).tap = s.tap ∧ (State.backToWait s).pub = s.pub ∧ (State.backToWait s).freeCtr = s.freeCtr ∧
    (State.backToWait s).pending = s.pending := by
  refine ⟨?_, ?_, ?_, ?_, ?_, ?_, ?_, ?_, ?_, ?_⟩ <;> (first | rfl | (simp (maxDischargeDepth := 12) [State.backToWait]; done) | (unfold State.backToWait; (try dsimp only); repeat' (first | rfl | (simp (maxDischargeDepth := 12); done) | split)))

@[simp] theorem State_beginStep4_keeps0 (s : State) :
    (State.beginStep4 s).otp = s.otp ∧ (State.beginStep4 s).clk = s.clk ∧ (State.beginStep4 s).win = s.win ∧
    (State.beginStep4 s).pace = s.pace ∧ (State.beginStep4 s).stopq = s.stopq ∧ (State.beginStep4 s).flt = s.flt ∧
    (State.beginStep4 s).rings = s.rings ∧ (State.beginStep4 s).smb = s.smb ∧ (State.beginStep4 s).avs = s.avs ∧
    (State.beginStep4 s).tap = s.tap ∧ (State.beginStep4 s).freeCtr = s.freeCtr := by
  refine ⟨?_, ?_, ?_, ?_, ?_, ?_, ?_, ?_, ?_, ?_, ?_⟩ <;> (first | rfl | (simp (maxDischargeDepth := 12) [State.beginStep4]; done) | (unfold State.beginStep4; (try dsimp only); repeat' (first | rfl | (simp (maxDischargeDepth := 12); done) | split)))

@[simp] theorem State_beginStep4_keeps1 (s : State) :
    (State.beginStep4 s).pending = s.pending := by
  first | rfl | (simp (maxDischargeDepth := 12) [State.beginStep4]; done) | (unfold State.beginStep4; (try dsimp only); repeat' (first | rfl | (simp (maxDischargeDepth := 12); done) | split))

@[simp] theorem State_tryStep4_keeps0 (s : State) :
    (State.tryStep4 s).otp = s.otp ∧ (State.tryStep4 s).clk = s.clk ∧ (State.tryStep4 s).win = s.win ∧ (State.tryStep4 s).pace = s.pace ∧
    (State.tryStep4 s).stopq = s.stopq ∧ (State.tryStep4 s).flt = s.flt ∧ (State.tryStep4 s).rings = s.rings ∧
    (State.tryStep4 s).smb = s.smb ∧ (State.tryStep4 s).avs = s.avs ∧ (State.tryStep4 s).tap = s.tap ∧
    (State.tryStep4 s).freeCtr = s.freeCtr := by
  refine ⟨?_, ?_, ?_, ?_, ?_, ?_, ?_, ?_, ?_, ?_, ?_⟩ <;> (first | rfl | (simp (maxDischargeDepth := 12) [State.tryStep4]; done) | (unfold State.tryStep4; (try dsimp only); repeat' (first | rfl | (simp (maxDischargeDepth := 12); done) | split)))

@[simp] theorem State_tryStep4_keeps1 (s : State) :
    (State.tryStep4 s).pending = s.pending := by
  first | rfl | (simp (maxDischargeDepth := 12) [State.tryStep4]; done) | (unfold State.tryStep4; (try dsimp only); repeat' (first | rfl | (simp (maxDischargeDepth := 12); done) | split))

@[simp] theorem State_sd13Start_keeps0 (s : State) :
    (State.sd13Start s).otp = s.otp ∧ (State.sd13Start s).start = s.start ∧ (State.sd13Start s).clk = s.clk ∧
    (State.sd13Start s).win = s.win ∧ (State.sd13Start s).cells = s.cells ∧ (State.sd13Start s).views = s.views ∧
    (State.sd13Start s).chains = s.chains ∧ (State.sd13Start s).creg = s.creg ∧ (State.sd13Start s).eng = s.eng ∧
    (State.sd13Start s).doms = s.doms ∧ (State.sd13Start s).lanes = s.lanes := by
  refine ⟨?_, ?_, ?_, ?_, ?_, ?_, ?_, ?_, ?_, ?_, ?_⟩ <;> (first | rfl | (simp (maxDischargeDepth := 12) [State.sd13Start]; done) | (unfold State.sd13Start; (try dsimp only); repeat' (first | rfl | (simp (maxDischargeDepth := 12); done) | split)))

@[simp] theorem State_sd13Start_keeps1 (s : State) :
    (State.sd13Start s).sense = s.sense ∧ (State.sd13Start s).dscs = s.dscs ∧ (State.sd13Start s).hkcs = s.hkcs ∧
    (State.sd13Start s).tallies = s.tallies ∧ (State.sd13Start s).ledger = s.ledger ∧ (State.sd13Start s).tiles = s.tiles ∧
    (State.sd13Start s).accts = s.accts ∧ (State.sd13Start s).limits = s.limits ∧ (State.sd13Start s).therm = s.therm ∧
    (State.sd13Start s).diodes = s.diodes ∧ (State.sd13Start s).stopq = s.stopq := by
  refine ⟨?_, ?_, ?_, ?_, ?_, ?_, ?_, ?_, ?_, ?_, ?_⟩ <;> (first | rfl | (simp (maxDischargeDepth := 12) [State.sd13Start]; done) | (unfold State.sd13Start; (try dsimp only); repeat' (first | rfl | (simp (maxDischargeDepth := 12); done) | split)))

@[simp] theorem State_sd13Start_keeps2 (s : State) :
    (State.sd13Start s).flt = s.flt ∧ (State.sd13Start s).warden = s.warden ∧ (State.sd13Start s).policy = s.policy ∧
    (State.sd13Start s).smb = s.smb ∧ (State.sd13Start s).avs = s.avs ∧ (State.sd13Start s).tap = s.tap ∧
    (State.sd13Start s).freeCtr = s.freeCtr ∧ (State.sd13Start s).pending = s.pending := by
  refine ⟨?_, ?_, ?_, ?_, ?_, ?_, ?_, ?_⟩ <;> (first | rfl | (simp (maxDischargeDepth := 12) [State.sd13Start]; done) | (unfold State.sd13Start; (try dsimp only); repeat' (first | rfl | (simp (maxDischargeDepth := 12); done) | split)))

@[simp] theorem State_recheckShed_keeps0 (s : State) :
    (State.recheckShed s).otp = s.otp ∧ (State.recheckShed s).start = s.start ∧ (State.recheckShed s).clk = s.clk ∧
    (State.recheckShed s).win = s.win ∧ (State.recheckShed s).cells = s.cells ∧ (State.recheckShed s).views = s.views ∧
    (State.recheckShed s).chains = s.chains ∧ (State.recheckShed s).creg = s.creg ∧ (State.recheckShed s).eng = s.eng ∧
    (State.recheckShed s).doms = s.doms ∧ (State.recheckShed s).lanes = s.lanes := by
  refine ⟨?_, ?_, ?_, ?_, ?_, ?_, ?_, ?_, ?_, ?_, ?_⟩ <;> (first | rfl | (simp (maxDischargeDepth := 12) [State.recheckShed]; done) | (unfold State.recheckShed; (try dsimp only); repeat' (first | rfl | (simp (maxDischargeDepth := 12); done) | split)))

@[simp] theorem State_recheckShed_keeps1 (s : State) :
    (State.recheckShed s).sense = s.sense ∧ (State.recheckShed s).dscs = s.dscs ∧ (State.recheckShed s).hkcs = s.hkcs ∧
    (State.recheckShed s).tallies = s.tallies ∧ (State.recheckShed s).ledger = s.ledger ∧ (State.recheckShed s).tiles = s.tiles ∧
    (State.recheckShed s).accts = s.accts ∧ (State.recheckShed s).limits = s.limits ∧ (State.recheckShed s).pace = s.pace ∧
    (State.recheckShed s).therm = s.therm ∧ (State.recheckShed s).diodes = s.diodes := by
  refine ⟨?_, ?_, ?_, ?_, ?_, ?_, ?_, ?_, ?_, ?_, ?_⟩ <;> (first | rfl | (simp (maxDischargeDepth := 12) [State.recheckShed]; done) | (unfold State.recheckShed; (try dsimp only); repeat' (first | rfl | (simp (maxDischargeDepth := 12); done) | split)))

@[simp] theorem State_recheckShed_keeps2 (s : State) :
    (State.recheckShed s).stopq = s.stopq ∧ (State.recheckShed s).warden = s.warden ∧ (State.recheckShed s).policy = s.policy ∧
    (State.recheckShed s).rings = s.rings ∧ (State.recheckShed s).smb = s.smb ∧ (State.recheckShed s).avs = s.avs ∧
    (State.recheckShed s).tap = s.tap ∧ (State.recheckShed s).pub = s.pub ∧ (State.recheckShed s).freeCtr = s.freeCtr ∧
    (State.recheckShed s).pending = s.pending := by
  refine ⟨?_, ?_, ?_, ?_, ?_, ?_, ?_, ?_, ?_, ?_⟩ <;> (first | rfl | (simp (maxDischargeDepth := 12) [State.recheckShed]; done) | (unfold State.recheckShed; (try dsimp only); repeat' (first | rfl | (simp (maxDischargeDepth := 12); done) | split)))

end Sys2Proof.Machine
end

