-- ==== Sys2Proof/Laws/FramesAdopt.lean ====
section
/-! SUPPORT. The fields of State that the operations of Machine/Adopt.lean leave alone. -/

set_option linter.unusedSimpArgs false
set_option linter.unusedVariables false

namespace Sys2Proof.Machine

@[simp] theorem State_rebuildChain_keeps0 (s : State) (c : Nat) :
    (State.rebuildChain s c).otp = s.otp ∧ (State.rebuildChain s c).start = s.start ∧ (State.rebuildChain s c).clk = s.clk ∧
    (State.rebuildChain s c).win = s.win ∧ (State.rebuildChain s c).cells = s.cells ∧ (State.rebuildChain s c).views = s.views ∧
    (State.rebuildChain s c).creg = s.creg ∧ (State.rebuildChain s c).eng = s.eng ∧ (State.rebuildChain s c).doms = s.doms ∧
    (State.rebuildChain s c).lanes = s.lanes ∧ (State.rebuildChain s c).sense = s.sense := by
  refine ⟨?_, ?_, ?_, ?_, ?_, ?_, ?_, ?_, ?_, ?_, ?_⟩ <;> (first | rfl | (simp (maxDischargeDepth := 12) [State.rebuildChain]; done) | (unfold State.rebuildChain; (try dsimp only); repeat' (first | rfl | (simp (maxDischargeDepth := 12); done) | split)))

@[simp] theorem State_rebuildChain_keeps1 (s : State) (c : Nat) :
    (State.rebuildChain s c).dscs = s.dscs ∧ (State.rebuildChain s c).hkcs = s.hkcs ∧ (State.rebuildChain s c).tallies = s.tallies ∧
    (State.rebuildChain s c).ledger = s.ledger ∧ (State.rebuildChain s c).tiles = s.tiles ∧ (State.rebuildChain s c).accts = s.accts ∧
    (State.rebuildChain s c).limits = s.limits ∧ (State.rebuildChain s c).pace = s.pace ∧ (State.rebuildChain s c).therm = s.therm ∧
    (State.rebuildChain s c).diodes = s.diodes ∧ (State.rebuildChain s c).stopq = s.stopq := by
  refine ⟨?_, ?_, ?_, ?_, ?_, ?_, ?_, ?_, ?_, ?_, ?_⟩ <;> (first | rfl | (simp (maxDischargeDepth := 12) [State.rebuildChain]; done) | (unfold State.rebuildChain; (try dsimp only); repeat' (first | rfl | (simp (maxDischargeDepth := 12); done) | split)))

@[simp] theorem State_rebuildChain_keeps2 (s : State) (c : Nat) :
    (State.rebuildChain s c).flt = s.flt ∧ (State.rebuildChain s c).warden = s.warden ∧ (State.rebuildChain s c).policy = s.policy ∧
    (State.rebuildChain s c).rings = s.rings ∧ (State.rebuildChain s c).smb = s.smb ∧ (State.rebuildChain s c).avs = s.avs ∧
    (State.rebuildChain s c).tap = s.tap ∧ (State.rebuildChain s c).pub = s.pub ∧ (State.rebuildChain s c).freeCtr = s.freeCtr ∧
    (State.rebuildChain s c).pending = s.pending := by
  refine ⟨?_, ?_, ?_, ?_, ?_, ?_, ?_, ?_, ?_, ?_⟩ <;> (first | rfl | (simp (maxDischargeDepth := 12) [State.rebuildChain]; done) | (unfold State.rebuildChain; (try dsimp only); repeat' (first | rfl | (simp (maxDischargeDepth := 12); done) | split)))

@[simp] theorem State_readCell_keeps0 (s : State) (i : Nat) :
    (State.readCell s i).otp = s.otp ∧ (State.readCell s i).start = s.start ∧ (State.readCell s i).clk = s.clk ∧
    (State.readCell s i).win = s.win ∧ (State.readCell s i).cells = s.cells ∧ (State.readCell s i).chains = s.chains ∧
    (State.readCell s i).creg = s.creg ∧ (State.readCell s i).eng = s.eng ∧ (State.readCell s i).doms = s.doms ∧
    (State.readCell s i).lanes = s.lanes ∧ (State.readCell s i).sense = s.sense := by
  refine ⟨?_, ?_, ?_, ?_, ?_, ?_, ?_, ?_, ?_, ?_, ?_⟩ <;> (first | rfl | (simp (maxDischargeDepth := 12) [State.readCell]; done) | (unfold State.readCell; (try dsimp only); repeat' (first | rfl | (simp (maxDischargeDepth := 12); done) | split)))

@[simp] theorem State_readCell_keeps1 (s : State) (i : Nat) :
    (State.readCell s i).dscs = s.dscs ∧ (State.readCell s i).hkcs = s.hkcs ∧ (State.readCell s i).tallies = s.tallies ∧
    (State.readCell s i).ledger = s.ledger ∧ (State.readCell s i).tiles = s.tiles ∧ (State.readCell s i).accts = s.accts ∧
    (State.readCell s i).limits = s.limits ∧ (State.readCell s i).pace = s.pace ∧ (State.readCell s i).therm = s.therm ∧
    (State.readCell s i).diodes = s.diodes ∧ (State.readCell s i).stopq = s.stopq := by
  refine ⟨?_, ?_, ?_, ?_, ?_, ?_, ?_, ?_, ?_, ?_, ?_⟩ <;> (first | rfl | (simp (maxDischargeDepth := 12) [State.readCell]; done) | (unfold State.readCell; (try dsimp only); repeat' (first | rfl | (simp (maxDischargeDepth := 12); done) | split)))

@[simp] theorem State_readCell_keeps2 (s : State) (i : Nat) :
    (State.readCell s i).flt = s.flt ∧ (State.readCell s i).warden = s.warden ∧ (State.readCell s i).policy = s.policy ∧
    (State.readCell s i).rings = s.rings ∧ (State.readCell s i).smb = s.smb ∧ (State.readCell s i).avs = s.avs ∧
    (State.readCell s i).tap = s.tap ∧ (State.readCell s i).pub = s.pub ∧ (State.readCell s i).freeCtr = s.freeCtr ∧
    (State.readCell s i).pending = s.pending := by
  refine ⟨?_, ?_, ?_, ?_, ?_, ?_, ?_, ?_, ?_, ?_⟩ <;> (first | rfl | (simp (maxDischargeDepth := 12) [State.readCell]; done) | (unfold State.readCell; (try dsimp only); repeat' (first | rfl | (simp (maxDischargeDepth := 12); done) | split)))

@[simp] theorem State_auditBitmaps_keeps0 (s : State) :
    (State.auditBitmaps s).otp = s.otp ∧ (State.auditBitmaps s).start = s.start ∧ (State.auditBitmaps s).clk = s.clk ∧
    (State.auditBitmaps s).win = s.win ∧ (State.auditBitmaps s).cells = s.cells ∧ (State.auditBitmaps s).views = s.views ∧
    (State.auditBitmaps s).chains = s.chains ∧ (State.auditBitmaps s).creg = s.creg ∧ (State.auditBitmaps s).eng = s.eng ∧
    (State.auditBitmaps s).doms = s.doms ∧ (State.auditBitmaps s).lanes = s.lanes := by
  refine ⟨?_, ?_, ?_, ?_, ?_, ?_, ?_, ?_, ?_, ?_, ?_⟩ <;> (first | rfl | (simp (maxDischargeDepth := 12) [State.auditBitmaps]; done) | (unfold State.auditBitmaps; (try dsimp only); repeat' (first | rfl | (simp (maxDischargeDepth := 12); done) | split)))

@[simp] theorem State_auditBitmaps_keeps1 (s : State) :
    (State.auditBitmaps s).sense = s.sense ∧ (State.auditBitmaps s).dscs = s.dscs ∧ (State.auditBitmaps s).hkcs = s.hkcs ∧
    (State.auditBitmaps s).tallies = s.tallies ∧ (State.auditBitmaps s).ledger = s.ledger ∧ (State.auditBitmaps s).tiles = s.tiles ∧
    (State.auditBitmaps s).accts = s.accts ∧ (State.auditBitmaps s).limits = s.limits ∧ (State.auditBitmaps s).pace = s.pace ∧
    (State.auditBitmaps s).therm = s.therm ∧ (State.auditBitmaps s).diodes = s.diodes := by
  refine ⟨?_, ?_, ?_, ?_, ?_, ?_, ?_, ?_, ?_, ?_, ?_⟩ <;> (first | rfl | (simp (maxDischargeDepth := 12) [State.auditBitmaps]; done) | (unfold State.auditBitmaps; (try dsimp only); repeat' (first | rfl | (simp (maxDischargeDepth := 12); done) | split)))

@[simp] theorem State_auditBitmaps_keeps2 (s : State) :
    (State.auditBitmaps s).stopq = s.stopq ∧ (State.auditBitmaps s).warden = s.warden ∧ (State.auditBitmaps s).policy = s.policy ∧
    (State.auditBitmaps s).rings = s.rings ∧ (State.auditBitmaps s).smb = s.smb ∧ (State.auditBitmaps s).avs = s.avs ∧
    (State.auditBitmaps s).tap = s.tap ∧ (State.auditBitmaps s).pub = s.pub ∧ (State.auditBitmaps s).freeCtr = s.freeCtr ∧
    (State.auditBitmaps s).pending = s.pending := by
  refine ⟨?_, ?_, ?_, ?_, ?_, ?_, ?_, ?_, ?_, ?_⟩ <;> (first | rfl | (simp (maxDischargeDepth := 12) [State.auditBitmaps]; done) | (unfold State.auditBitmaps; (try dsimp only); repeat' (first | rfl | (simp (maxDischargeDepth := 12); done) | split)))

end Sys2Proof.Machine
end

