-- ==== Sys2Proof/Laws/FramesWarden.lean ====
section
/-! SUPPORT. The fields of State that the operations of Machine/Warden.lean leave alone. -/

set_option linter.unusedSimpArgs false
set_option linter.unusedVariables false

namespace Sys2Proof.Machine

@[simp] theorem State_romFailed_keeps0 (s : State) :
    (State.romFailed s).otp = s.otp ∧ (State.romFailed s).clk = s.clk ∧ (State.romFailed s).win = s.win ∧
    (State.romFailed s).cells = s.cells ∧ (State.romFailed s).views = s.views ∧ (State.romFailed s).chains = s.chains ∧
    (State.romFailed s).creg = s.creg ∧ (State.romFailed s).eng = s.eng ∧ (State.romFailed s).doms = s.doms ∧
    (State.romFailed s).lanes = s.lanes ∧ (State.romFailed s).sense = s.sense := by
  refine ⟨?_, ?_, ?_, ?_, ?_, ?_, ?_, ?_, ?_, ?_, ?_⟩ <;> (first | rfl | (simp (maxDischargeDepth := 12) [State.romFailed]; done) | (unfold State.romFailed; (try dsimp only); repeat' (first | rfl | (simp (maxDischargeDepth := 12); done) | split)))

@[simp] theorem State_romFailed_keeps1 (s : State) :
    (State.romFailed s).dscs = s.dscs ∧ (State.romFailed s).hkcs = s.hkcs ∧ (State.romFailed s).tallies = s.tallies ∧
    (State.romFailed s).ledger = s.ledger ∧ (State.romFailed s).tiles = s.tiles ∧ (State.romFailed s).accts = s.accts ∧
    (State.romFailed s).limits = s.limits ∧ (State.romFailed s).pace = s.pace ∧ (State.romFailed s).therm = s.therm ∧
    (State.romFailed s).diodes = s.diodes ∧ (State.romFailed s).stopq = s.stopq := by
  refine ⟨?_, ?_, ?_, ?_, ?_, ?_, ?_, ?_, ?_, ?_, ?_⟩ <;> (first | rfl | (simp (maxDischargeDepth := 12) [State.romFailed]; done) | (unfold State.romFailed; (try dsimp only); repeat' (first | rfl | (simp (maxDischargeDepth := 12); done) | split)))

@[simp] theorem State_romFailed_keeps2 (s : State) :
    (State.romFailed s).warden = s.warden ∧ (State.romFailed s).policy = s.policy ∧ (State.romFailed s).rings = s.rings ∧
    (State.romFailed s).smb = s.smb ∧ (State.romFailed s).avs = s.avs ∧ (State.romFailed s).tap = s.tap ∧
    (State.romFailed s).pub = s.pub ∧ (State.romFailed s).freeCtr = s.freeCtr ∧ (State.romFailed s).pending = s.pending := by
  refine ⟨?_, ?_, ?_, ?_, ?_, ?_, ?_, ?_, ?_⟩ <;> (first | rfl | (simp (maxDischargeDepth := 12) [State.romFailed]; done) | (unfold State.romFailed; (try dsimp only); repeat' (first | rfl | (simp (maxDischargeDepth := 12); done) | split)))

@[simp] theorem State_loadStop_keeps0 (s : State) :
    (State.loadStop s).otp = s.otp ∧ (State.loadStop s).start = s.start ∧ (State.loadStop s).clk = s.clk ∧
    (State.loadStop s).win = s.win ∧ (State.loadStop s).cells = s.cells ∧ (State.loadStop s).views = s.views ∧
    (State.loadStop s).chains = s.chains ∧ (State.loadStop s).creg = s.creg ∧ (State.loadStop s).eng = s.eng ∧
    (State.loadStop s).doms = s.doms ∧ (State.loadStop s).lanes = s.lanes := by
  refine ⟨?_, ?_, ?_, ?_, ?_, ?_, ?_, ?_, ?_, ?_, ?_⟩ <;> (first | rfl | (simp (maxDischargeDepth := 12) [State.loadStop]; done) | (unfold State.loadStop; (try dsimp only); repeat' (first | rfl | (simp (maxDischargeDepth := 12); done) | split)))

@[simp] theorem State_loadStop_keeps1 (s : State) :
    (State.loadStop s).sense = s.sense ∧ (State.loadStop s).dscs = s.dscs ∧ (State.loadStop s).hkcs = s.hkcs ∧
    (State.loadStop s).tallies = s.tallies ∧ (State.loadStop s).ledger = s.ledger ∧ (State.loadStop s).tiles = s.tiles ∧
    (State.loadStop s).accts = s.accts ∧ (State.loadStop s).limits = s.limits ∧ (State.loadStop s).pace = s.pace ∧
    (State.loadStop s).therm = s.therm ∧ (State.loadStop s).diodes = s.diodes := by
  refine ⟨?_, ?_, ?_, ?_, ?_, ?_, ?_, ?_, ?_, ?_, ?_⟩ <;> (first | rfl | (simp (maxDischargeDepth := 12) [State.loadStop]; done) | (unfold State.loadStop; (try dsimp only); repeat' (first | rfl | (simp (maxDischargeDepth := 12); done) | split)))

@[simp] theorem State_loadStop_keeps2 (s : State) :
    (State.loadStop s).warden = s.warden ∧ (State.loadStop s).policy = s.policy ∧ (State.loadStop s).rings = s.rings ∧
    (State.loadStop s).smb = s.smb ∧ (State.loadStop s).avs = s.avs ∧ (State.loadStop s).tap = s.tap ∧ (State.loadStop s).pub = s.pub ∧
    (State.loadStop s).freeCtr = s.freeCtr ∧ (State.loadStop s).pending = s.pending := by
  refine ⟨?_, ?_, ?_, ?_, ?_, ?_, ?_, ?_, ?_⟩ <;> (first | rfl | (simp (maxDischargeDepth := 12) [State.loadStop]; done) | (unfold State.loadStop; (try dsimp only); repeat' (first | rfl | (simp (maxDischargeDepth := 12); done) | split)))

@[simp] theorem State_updMbox_keeps0 (s : State) (ch : MboxChan) (f : Mbox → Mbox) :
    (State.updMbox s ch f).otp = s.otp ∧ (State.updMbox s ch f).start = s.start ∧ (State.updMbox s ch f).clk = s.clk ∧
    (State.updMbox s ch f).win = s.win ∧ (State.updMbox s ch f).cells = s.cells ∧ (State.updMbox s ch f).views = s.views ∧
    (State.updMbox s ch f).chains = s.chains ∧ (State.updMbox s ch f).creg = s.creg ∧ (State.updMbox s ch f).eng = s.eng ∧
    (State.updMbox s ch f).doms = s.doms ∧ (State.updMbox s ch f).lanes = s.lanes := by
  refine ⟨?_, ?_, ?_, ?_, ?_, ?_, ?_, ?_, ?_, ?_, ?_⟩ <;> (first | rfl | (simp (maxDischargeDepth := 12) [State.updMbox]; done) | (unfold State.updMbox; (try dsimp only); repeat' (first | rfl | (simp (maxDischargeDepth := 12); done) | split)))

@[simp] theorem State_updMbox_keeps1 (s : State) (ch : MboxChan) (f : Mbox → Mbox) :
    (State.updMbox s ch f).sense = s.sense ∧ (State.updMbox s ch f).dscs = s.dscs ∧ (State.updMbox s ch f).hkcs = s.hkcs ∧
    (State.updMbox s ch f).tallies = s.tallies ∧ (State.updMbox s ch f).ledger = s.ledger ∧ (State.updMbox s ch f).tiles = s.tiles ∧
    (State.updMbox s ch f).accts = s.accts ∧ (State.updMbox s ch f).limits = s.limits ∧ (State.updMbox s ch f).pace = s.pace ∧
    (State.updMbox s ch f).therm = s.therm ∧ (State.updMbox s ch f).diodes = s.diodes := by
  refine ⟨?_, ?_, ?_, ?_, ?_, ?_, ?_, ?_, ?_, ?_, ?_⟩ <;> (first | rfl | (simp (maxDischargeDepth := 12) [State.updMbox]; done) | (unfold State.updMbox; (try dsimp only); repeat' (first | rfl | (simp (maxDischargeDepth := 12); done) | split)))

@[simp] theorem State_updMbox_keeps2 (s : State) (ch : MboxChan) (f : Mbox → Mbox) :
    (State.updMbox s ch f).stopq = s.stopq ∧ (State.updMbox s ch f).flt = s.flt ∧ (State.updMbox s ch f).policy = s.policy ∧
    (State.updMbox s ch f).rings = s.rings ∧ (State.updMbox s ch f).smb = s.smb ∧ (State.updMbox s ch f).avs = s.avs ∧
    (State.updMbox s ch f).tap = s.tap ∧ (State.updMbox s ch f).pub = s.pub ∧ (State.updMbox s ch f).freeCtr = s.freeCtr ∧
    (State.updMbox s ch f).pending = s.pending := by
  refine ⟨?_, ?_, ?_, ?_, ?_, ?_, ?_, ?_, ?_, ?_⟩ <;> (first | rfl | (simp (maxDischargeDepth := 12) [State.updMbox]; done) | (unfold State.updMbox; (try dsimp only); repeat' (first | rfl | (simp (maxDischargeDepth := 12); done) | split)))

@[simp] theorem State_mboxEnd_keeps0 (s : State) (ch : MboxChan) (status : Nat) :
    (State.mboxEnd s ch status).otp = s.otp ∧ (State.mboxEnd s ch status).start = s.start ∧ (State.mboxEnd s ch status).clk = s.clk ∧
    (State.mboxEnd s ch status).win = s.win ∧ (State.mboxEnd s ch status).cells = s.cells ∧ (State.mboxEnd s ch status).views = s.views ∧
    (State.mboxEnd s ch status).chains = s.chains ∧ (State.mboxEnd s ch status).creg = s.creg ∧ (State.mboxEnd s ch status).eng = s.eng ∧
    (State.mboxEnd s ch status).doms = s.doms ∧ (State.mboxEnd s ch status).lanes = s.lanes := by
  refine ⟨?_, ?_, ?_, ?_, ?_, ?_, ?_, ?_, ?_, ?_, ?_⟩ <;> (first | rfl | (simp (maxDischargeDepth := 12) [State.mboxEnd]; done) | (unfold State.mboxEnd; (try dsimp only); repeat' (first | rfl | (simp (maxDischargeDepth := 12); done) | split)))

@[simp] theorem State_mboxEnd_keeps1 (s : State) (ch : MboxChan) (status : Nat) :
    (State.mboxEnd s ch status).sense = s.sense ∧ (State.mboxEnd s ch status).dscs = s.dscs ∧ (State.mboxEnd s ch status).hkcs = s.hkcs ∧
    (State.mboxEnd s ch status).tallies = s.tallies ∧ (State.mboxEnd s ch status).ledger = s.ledger ∧
    (State.mboxEnd s ch status).tiles = s.tiles ∧ (State.mboxEnd s ch status).accts = s.accts ∧
    (State.mboxEnd s ch status).limits = s.limits ∧ (State.mboxEnd s ch status).pace = s.pace ∧
    (State.mboxEnd s ch status).therm = s.therm ∧ (State.mboxEnd s ch status).diodes = s.diodes := by
  refine ⟨?_, ?_, ?_, ?_, ?_, ?_, ?_, ?_, ?_, ?_, ?_⟩ <;> (first | rfl | (simp (maxDischargeDepth := 12) [State.mboxEnd]; done) | (unfold State.mboxEnd; (try dsimp only); repeat' (first | rfl | (simp (maxDischargeDepth := 12); done) | split)))

@[simp] theorem State_mboxEnd_keeps2 (s : State) (ch : MboxChan) (status : Nat) :
    (State.mboxEnd s ch status).stopq = s.stopq ∧ (State.mboxEnd s ch status).flt = s.flt ∧
    (State.mboxEnd s ch status).policy = s.policy ∧ (State.mboxEnd s ch status).rings = s.rings ∧
    (State.mboxEnd s ch status).smb = s.smb ∧ (State.mboxEnd s ch status).avs = s.avs ∧ (State.mboxEnd s ch status).tap = s.tap ∧
    (State.mboxEnd s ch status).pub = s.pub ∧ (State.mboxEnd s ch status).freeCtr = s.freeCtr ∧
    (State.mboxEnd s ch status).pending = s.pending := by
  refine ⟨?_, ?_, ?_, ?_, ?_, ?_, ?_, ?_, ?_, ?_⟩ <;> (first | rfl | (simp (maxDischargeDepth := 12) [State.mboxEnd]; done) | (unfold State.mboxEnd; (try dsimp only); repeat' (first | rfl | (simp (maxDischargeDepth := 12); done) | split)))

@[simp] theorem State_mboxResults_keeps0 (s : State) (ch : MboxChan) (res : List Word) :
    (State.mboxResults s ch res).otp = s.otp ∧ (State.mboxResults s ch res).start = s.start ∧ (State.mboxResults s ch res).clk = s.clk ∧
    (State.mboxResults s ch res).win = s.win ∧ (State.mboxResults s ch res).cells = s.cells ∧
    (State.mboxResults s ch res).views = s.views ∧ (State.mboxResults s ch res).chains = s.chains ∧
    (State.mboxResults s ch res).creg = s.creg ∧ (State.mboxResults s ch res).eng = s.eng ∧ (State.mboxResults s ch res).doms = s.doms ∧
    (State.mboxResults s ch res).lanes = s.lanes := by
  refine ⟨?_, ?_, ?_, ?_, ?_, ?_, ?_, ?_, ?_, ?_, ?_⟩ <;> (first | rfl | (simp (maxDischargeDepth := 12) [State.mboxResults]; done) | (unfold State.mboxResults; (try dsimp only); repeat' (first | rfl | (simp (maxDischargeDepth := 12); done) | split)))

@[simp] theorem State_mboxResults_keeps1 (s : State) (ch : MboxChan) (res : List Word) :
    (State.mboxResults s ch res).sense = s.sense ∧ (State.mboxResults s ch res).dscs = s.dscs ∧
    (State.mboxResults s ch res).hkcs = s.hkcs ∧ (State.mboxResults s ch res).tallies = s.tallies ∧
    (State.mboxResults s ch res).ledger = s.ledger ∧ (State.mboxResults s ch res).tiles = s.tiles ∧
    (State.mboxResults s ch res).accts = s.accts ∧ (State.mboxResults s ch res).limits = s.limits ∧
    (State.mboxResults s ch res).pace = s.pace ∧ (State.mboxResults s ch res).therm = s.therm ∧
    (State.mboxResults s ch res).diodes = s.diodes := by
  refine ⟨?_, ?_, ?_, ?_, ?_, ?_, ?_, ?_, ?_, ?_, ?_⟩ <;> (first | rfl | (simp (maxDischargeDepth := 12) [State.mboxResults]; done) | (unfold State.mboxResults; (try dsimp only); repeat' (first | rfl | (simp (maxDischargeDepth := 12); done) | split)))

@[simp] theorem State_mboxResults_keeps2 (s : State) (ch : MboxChan) (res : List Word) :
    (State.mboxResults s ch res).stopq = s.stopq ∧ (State.mboxResults s ch res).flt = s.flt ∧
    (State.mboxResults s ch res).policy = s.policy ∧ (State.mboxResults s ch res).rings = s.rings ∧
    (State.mboxResults s ch res).smb = s.smb ∧ (State.mboxResults s ch res).avs = s.avs ∧ (State.mboxResults s ch res).tap = s.tap ∧
    (State.mboxResults s ch res).pub = s.pub ∧ (State.mboxResults s ch res).freeCtr = s.freeCtr ∧
    (State.mboxResults s ch res).pending = s.pending := by
  refine ⟨?_, ?_, ?_, ?_, ?_, ?_, ?_, ?_, ?_, ?_⟩ <;> (first | rfl | (simp (maxDischargeDepth := 12) [State.mboxResults]; done) | (unfold State.mboxResults; (try dsimp only); repeat' (first | rfl | (simp (maxDischargeDepth := 12); done) | split)))

@[simp] theorem State_mbGetInfo_keeps0 (s : State) (ch : MboxChan) :
    (State.mbGetInfo s ch).otp = s.otp ∧ (State.mbGetInfo s ch).start = s.start ∧ (State.mbGetInfo s ch).clk = s.clk ∧
    (State.mbGetInfo s ch).win = s.win ∧ (State.mbGetInfo s ch).cells = s.cells ∧ (State.mbGetInfo s ch).views = s.views ∧
    (State.mbGetInfo s ch).chains = s.chains ∧ (State.mbGetInfo s ch).creg = s.creg ∧ (State.mbGetInfo s ch).eng = s.eng ∧
    (State.mbGetInfo s ch).doms = s.doms ∧ (State.mbGetInfo s ch).lanes = s.lanes := by
  refine ⟨?_, ?_, ?_, ?_, ?_, ?_, ?_, ?_, ?_, ?_, ?_⟩ <;> (first | rfl | (simp (maxDischargeDepth := 12) [State.mbGetInfo]; done) | (unfold State.mbGetInfo; (try dsimp only); repeat' (first | rfl | (simp (maxDischargeDepth := 12); done) | split)))

@[simp] theorem State_mbGetInfo_keeps1 (s : State) (ch : MboxChan) :
    (State.mbGetInfo s ch).sense = s.sense ∧ (State.mbGetInfo s ch).dscs = s.dscs ∧ (State.mbGetInfo s ch).hkcs = s.hkcs ∧
    (State.mbGetInfo s ch).tallies = s.tallies ∧ (State.mbGetInfo s ch).ledger = s.ledger ∧ (State.mbGetInfo s ch).tiles = s.tiles ∧
    (State.mbGetInfo s ch).accts = s.accts ∧ (State.mbGetInfo s ch).limits = s.limits ∧ (State.mbGetInfo s ch).pace = s.pace ∧
    (State.mbGetInfo s ch).therm = s.therm ∧ (State.mbGetInfo s ch).diodes = s.diodes := by
  refine ⟨?_, ?_, ?_, ?_, ?_, ?_, ?_, ?_, ?_, ?_, ?_⟩ <;> (first | rfl | (simp (maxDischargeDepth := 12) [State.mbGetInfo]; done) | (unfold State.mbGetInfo; (try dsimp only); repeat' (first | rfl | (simp (maxDischargeDepth := 12); done) | split)))

@[simp] theorem State_mbGetInfo_keeps2 (s : State) (ch : MboxChan) :
    (State.mbGetInfo s ch).stopq = s.stopq ∧ (State.mbGetInfo s ch).flt = s.flt ∧ (State.mbGetInfo s ch).policy = s.policy ∧
    (State.mbGetInfo s ch).rings = s.rings ∧ (State.mbGetInfo s ch).smb = s.smb ∧ (State.mbGetInfo s ch).avs = s.avs ∧
    (State.mbGetInfo s ch).tap = s.tap ∧ (State.mbGetInfo s ch).pub = s.pub ∧ (State.mbGetInfo s ch).freeCtr = s.freeCtr ∧
    (State.mbGetInfo s ch).pending = s.pending := by
  refine ⟨?_, ?_, ?_, ?_, ?_, ?_, ?_, ?_, ?_, ?_⟩ <;> (first | rfl | (simp (maxDischargeDepth := 12) [State.mbGetInfo]; done) | (unfold State.mbGetInfo; (try dsimp only); repeat' (first | rfl | (simp (maxDischargeDepth := 12); done) | split)))

@[simp] theorem State_mbPatchBegin_keeps0 (s : State) (ch : MboxChan) (len : Nat) :
    (State.mbPatchBegin s ch len).otp = s.otp ∧ (State.mbPatchBegin s ch len).start = s.start ∧
    (State.mbPatchBegin s ch len).clk = s.clk ∧ (State.mbPatchBegin s ch len).win = s.win ∧
    (State.mbPatchBegin s ch len).cells = s.cells ∧ (State.mbPatchBegin s ch len).views = s.views ∧
    (State.mbPatchBegin s ch len).chains = s.chains ∧ (State.mbPatchBegin s ch len).creg = s.creg ∧
    (State.mbPatchBegin s ch len).eng = s.eng ∧ (State.mbPatchBegin s ch len).doms = s.doms ∧
    (State.mbPatchBegin s ch len).lanes = s.lanes := by
  refine ⟨?_, ?_, ?_, ?_, ?_, ?_, ?_, ?_, ?_, ?_, ?_⟩ <;> (first | rfl | (simp (maxDischargeDepth := 12) [State.mbPatchBegin]; done) | (unfold State.mbPatchBegin; (try dsimp only); repeat' (first | rfl | (simp (maxDischargeDepth := 12); done) | split)))

@[simp] theorem State_mbPatchBegin_keeps1 (s : State) (ch : MboxChan) (len : Nat) :
    (State.mbPatchBegin s ch len).sense = s.sense ∧ (State.mbPatchBegin s ch len).dscs = s.dscs ∧
    (State.mbPatchBegin s ch len).hkcs = s.hkcs ∧ (State.mbPatchBegin s ch len).tallies = s.tallies ∧
    (State.mbPatchBegin s ch len).ledger = s.ledger ∧ (State.mbPatchBegin s ch len).tiles = s.tiles ∧
    (State.mbPatchBegin s ch len).accts = s.accts ∧ (State.mbPatchBegin s ch len).limits = s.limits ∧
    (State.mbPatchBegin s ch len).pace = s.pace ∧ (State.mbPatchBegin s ch len).therm = s.therm ∧
    (State.mbPatchBegin s ch len).diodes = s.diodes := by
  refine ⟨?_, ?_, ?_, ?_, ?_, ?_, ?_, ?_, ?_, ?_, ?_⟩ <;> (first | rfl | (simp (maxDischargeDepth := 12) [State.mbPatchBegin]; done) | (unfold State.mbPatchBegin; (try dsimp only); repeat' (first | rfl | (simp (maxDischargeDepth := 12); done) | split)))

@[simp] theorem State_mbPatchBegin_keeps2 (s : State) (ch : MboxChan) (len : Nat) :
    (State.mbPatchBegin s ch len).stopq = s.stopq ∧ (State.mbPatchBegin s ch len).flt = s.flt ∧
    (State.mbPatchBegin s ch len).policy = s.policy ∧ (State.mbPatchBegin s ch len).rings = s.rings ∧
    (State.mbPatchBegin s ch len).smb = s.smb ∧ (State.mbPatchBegin s ch len).avs = s.avs ∧ (State.mbPatchBegin s ch len).tap = s.tap ∧
    (State.mbPatchBegin s ch len).pub = s.pub ∧ (State.mbPatchBegin s ch len).freeCtr = s.freeCtr ∧
    (State.mbPatchBegin s ch len).pending = s.pending := by
  refine ⟨?_, ?_, ?_, ?_, ?_, ?_, ?_, ?_, ?_, ?_⟩ <;> (first | rfl | (simp (maxDischargeDepth := 12) [State.mbPatchBegin]; done) | (unfold State.mbPatchBegin; (try dsimp only); repeat' (first | rfl | (simp (maxDischargeDepth := 12); done) | split)))

@[simp] theorem State_mbPatchData_keeps0 (s : State) (ch : MboxChan) (off : Nat) (data : List Word) :
    (State.mbPatchData s ch off data).otp = s.otp ∧ (State.mbPatchData s ch off data).start = s.start ∧
    (State.mbPatchData s ch off data).clk = s.clk ∧ (State.mbPatchData s ch off data).win = s.win ∧
    (State.mbPatchData s ch off data).cells = s.cells ∧ (State.mbPatchData s ch off data).views = s.views ∧
    (State.mbPatchData s ch off data).chains = s.chains ∧ (State.mbPatchData s ch off data).creg = s.creg ∧
    (State.mbPatchData s ch off data).eng = s.eng ∧ (State.mbPatchData s ch off data).doms = s.doms ∧
    (State.mbPatchData s ch off data).lanes = s.lanes := by
  refine ⟨?_, ?_, ?_, ?_, ?_, ?_, ?_, ?_, ?_, ?_, ?_⟩ <;> (first | rfl | (simp (maxDischargeDepth := 12) [State.mbPatchData]; done) | (unfold State.mbPatchData; (try dsimp only); repeat' (first | rfl | (simp (maxDischargeDepth := 12); done) | split)))

@[simp] theorem State_mbPatchData_keeps1 (s : State) (ch : MboxChan) (off : Nat) (data : List Word) :
    (State.mbPatchData s ch off data).sense = s.sense ∧ (State.mbPatchData s ch off data).dscs = s.dscs ∧
    (State.mbPatchData s ch off data).hkcs = s.hkcs ∧ (State.mbPatchData s ch off data).tallies = s.tallies ∧
    (State.mbPatchData s ch off data).ledger = s.ledger ∧ (State.mbPatchData s ch off data).tiles = s.tiles ∧
    (State.mbPatchData s ch off data).accts = s.accts ∧ (State.mbPatchData s ch off data).limits = s.limits ∧
    (State.mbPatchData s ch off data).pace = s.pace ∧ (State.mbPatchData s ch off data).therm = s.therm ∧
    (State.mbPatchData s ch off data).diodes = s.diodes := by
  refine ⟨?_, ?_, ?_, ?_, ?_, ?_, ?_, ?_, ?_, ?_, ?_⟩ <;> (first | rfl | (simp (maxDischargeDepth := 12) [State.mbPatchData]; done) | (unfold State.mbPatchData; (try dsimp only); repeat' (first | rfl | (simp (maxDischargeDepth := 12); done) | split)))

@[simp] theorem State_mbPatchData_keeps2 (s : State) (ch : MboxChan) (off : Nat) (data : List Word) :
    (State.mbPatchData s ch off data).stopq = s.stopq ∧ (State.mbPatchData s ch off data).flt = s.flt ∧
    (State.mbPatchData s ch off data).policy = s.policy ∧ (State.mbPatchData s ch off data).rings = s.rings ∧
    (State.mbPatchData s ch off data).smb = s.smb ∧ (State.mbPatchData s ch off data).avs = s.avs ∧
    (State.mbPatchData s ch off data).tap = s.tap ∧ (State.mbPatchData s ch off data).pub = s.pub ∧
    (State.mbPatchData s ch off data).freeCtr = s.freeCtr ∧ (State.mbPatchData s ch off data).pending = s.pending := by
  refine ⟨?_, ?_, ?_, ?_, ?_, ?_, ?_, ?_, ?_, ?_⟩ <;> (first | rfl | (simp (maxDischargeDepth := 12) [State.mbPatchData]; done) | (unfold State.mbPatchData; (try dsimp only); repeat' (first | rfl | (simp (maxDischargeDepth := 12); done) | split)))

@[simp] theorem State_mbPatchCommit_keeps0 (s : State) (ch : MboxChan) (sigOk : Bool) :
    (State.mbPatchCommit s ch sigOk).otp = s.otp ∧ (State.mbPatchCommit s ch sigOk).start = s.start ∧
    (State.mbPatchCommit s ch sigOk).clk = s.clk ∧ (State.mbPatchCommit s ch sigOk).win = s.win ∧
    (State.mbPatchCommit s ch sigOk).cells = s.cells ∧ (State.mbPatchCommit s ch sigOk).views = s.views ∧
    (State.mbPatchCommit s ch sigOk).chains = s.chains ∧ (State.mbPatchCommit s ch sigOk).creg = s.creg ∧
    (State.mbPatchCommit s ch sigOk).eng = s.eng ∧ (State.mbPatchCommit s ch sigOk).doms = s.doms ∧
    (State.mbPatchCommit s ch sigOk).lanes = s.lanes := by
  refine ⟨?_, ?_, ?_, ?_, ?_, ?_, ?_, ?_, ?_, ?_, ?_⟩ <;> (first | rfl | (simp (maxDischargeDepth := 12) [State.mbPatchCommit]; done) | (unfold State.mbPatchCommit; (try dsimp only); repeat' (first | rfl | (simp (maxDischargeDepth := 12); done) | split)))

@[simp] theorem State_mbPatchCommit_keeps1 (s : State) (ch : MboxChan) (sigOk : Bool) :
    (State.mbPatchCommit s ch sigOk).sense = s.sense ∧ (State.mbPatchCommit s ch sigOk).dscs = s.dscs ∧
    (State.mbPatchCommit s ch sigOk).hkcs = s.hkcs ∧ (State.mbPatchCommit s ch sigOk).tallies = s.tallies ∧
    (State.mbPatchCommit s ch sigOk).ledger = s.ledger ∧ (State.mbPatchCommit s ch sigOk).tiles = s.tiles ∧
    (State.mbPatchCommit s ch sigOk).accts = s.accts ∧ (State.mbPatchCommit s ch sigOk).limits = s.limits ∧
    (State.mbPatchCommit s ch sigOk).pace = s.pace ∧ (State.mbPatchCommit s ch sigOk).therm = s.therm ∧
    (State.mbPatchCommit s ch sigOk).diodes = s.diodes := by
  refine ⟨?_, ?_, ?_, ?_, ?_, ?_, ?_, ?_, ?_, ?_, ?_⟩ <;> (first | rfl | (simp (maxDischargeDepth := 12) [State.mbPatchCommit]; done) | (unfold State.mbPatchCommit; (try dsimp only); repeat' (first | rfl | (simp (maxDischargeDepth := 12); done) | split)))

@[simp] theorem State_mbPatchCommit_keeps2 (s : State) (ch : MboxChan) (sigOk : Bool) :
    (State.mbPatchCommit s ch sigOk).stopq = s.stopq ∧ (State.mbPatchCommit s ch sigOk).flt = s.flt ∧
    (State.mbPatchCommit s ch sigOk).policy = s.policy ∧ (State.mbPatchCommit s ch sigOk).rings = s.rings ∧
    (State.mbPatchCommit s ch sigOk).smb = s.smb ∧ (State.mbPatchCommit s ch sigOk).avs = s.avs ∧
    (State.mbPatchCommit s ch sigOk).tap = s.tap ∧ (State.mbPatchCommit s ch sigOk).pub = s.pub ∧
    (State.mbPatchCommit s ch sigOk).freeCtr = s.freeCtr ∧ (State.mbPatchCommit s ch sigOk).pending = s.pending := by
  refine ⟨?_, ?_, ?_, ?_, ?_, ?_, ?_, ?_, ?_, ?_⟩ <;> (first | rfl | (simp (maxDischargeDepth := 12) [State.mbPatchCommit]; done) | (unfold State.mbPatchCommit; (try dsimp only); repeat' (first | rfl | (simp (maxDischargeDepth := 12); done) | split)))

@[simp] theorem State_mbVtRead_keeps0 (s : State) (ch : MboxChan) (which : Nat) (first : Nat) :
    (State.mbVtRead s ch which first).otp = s.otp ∧ (State.mbVtRead s ch which first).start = s.start ∧
    (State.mbVtRead s ch which first).clk = s.clk ∧ (State.mbVtRead s ch which first).win = s.win ∧
    (State.mbVtRead s ch which first).cells = s.cells ∧ (State.mbVtRead s ch which first).views = s.views ∧
    (State.mbVtRead s ch which first).chains = s.chains ∧ (State.mbVtRead s ch which first).creg = s.creg ∧
    (State.mbVtRead s ch which first).eng = s.eng ∧ (State.mbVtRead s ch which first).doms = s.doms ∧
    (State.mbVtRead s ch which first).lanes = s.lanes := by
  refine ⟨?_, ?_, ?_, ?_, ?_, ?_, ?_, ?_, ?_, ?_, ?_⟩ <;> (first | rfl | (simp (maxDischargeDepth := 12) [State.mbVtRead]; done) | (unfold State.mbVtRead; (try dsimp only); repeat' (first | rfl | (simp (maxDischargeDepth := 12); done) | split)))

@[simp] theorem State_mbVtRead_keeps1 (s : State) (ch : MboxChan) (which : Nat) (first : Nat) :
    (State.mbVtRead s ch which first).sense = s.sense ∧ (State.mbVtRead s ch which first).dscs = s.dscs ∧
    (State.mbVtRead s ch which first).hkcs = s.hkcs ∧ (State.mbVtRead s ch which first).tallies = s.tallies ∧
    (State.mbVtRead s ch which first).ledger = s.ledger ∧ (State.mbVtRead s ch which first).tiles = s.tiles ∧
    (State.mbVtRead s ch which first).accts = s.accts ∧ (State.mbVtRead s ch which first).limits = s.limits ∧
    (State.mbVtRead s ch which first).pace = s.pace ∧ (State.mbVtRead s ch which first).therm = s.therm ∧
    (State.mbVtRead s ch which first).diodes = s.diodes := by
  refine ⟨?_, ?_, ?_, ?_, ?_, ?_, ?_, ?_, ?_, ?_, ?_⟩ <;> (first | rfl | (simp (maxDischargeDepth := 12) [State.mbVtRead]; done) | (unfold State.mbVtRead; (try dsimp only); repeat' (first | rfl | (simp (maxDischargeDepth := 12); done) | split)))

@[simp] theorem State_mbVtRead_keeps2 (s : State) (ch : MboxChan) (which : Nat) (first : Nat) :
    (State.mbVtRead s ch which first).stopq = s.stopq ∧ (State.mbVtRead s ch which first).flt = s.flt ∧
    (State.mbVtRead s ch which first).policy = s.policy ∧ (State.mbVtRead s ch which first).rings = s.rings ∧
    (State.mbVtRead s ch which first).smb = s.smb ∧ (State.mbVtRead s ch which first).avs = s.avs ∧
    (State.mbVtRead s ch which first).tap = s.tap ∧ (State.mbVtRead s ch which first).pub = s.pub ∧
    (State.mbVtRead s ch which first).pending = s.pending := by
  refine ⟨?_, ?_, ?_, ?_, ?_, ?_, ?_, ?_, ?_⟩ <;> (first | rfl | (simp (maxDischargeDepth := 12) [State.mbVtRead]; done) | (unfold State.mbVtRead; (try dsimp only); repeat' (first | rfl | (simp (maxDischargeDepth := 12); done) | split)))

@[simp] theorem State_vtStageEntry_keeps0 (s : State) (i : Nat) (e : Word) :
    (State.vtStageEntry s i e).otp = s.otp ∧ (State.vtStageEntry s i e).start = s.start ∧ (State.vtStageEntry s i e).clk = s.clk ∧
    (State.vtStageEntry s i e).win = s.win ∧ (State.vtStageEntry s i e).cells = s.cells ∧ (State.vtStageEntry s i e).views = s.views ∧
    (State.vtStageEntry s i e).chains = s.chains ∧ (State.vtStageEntry s i e).creg = s.creg ∧ (State.vtStageEntry s i e).eng = s.eng ∧
    (State.vtStageEntry s i e).doms = s.doms ∧ (State.vtStageEntry s i e).lanes = s.lanes := by
  refine ⟨?_, ?_, ?_, ?_, ?_, ?_, ?_, ?_, ?_, ?_, ?_⟩ <;> (first | rfl | (simp (maxDischargeDepth := 12) [State.vtStageEntry]; done) | (unfold State.vtStageEntry; (try dsimp only); repeat' (first | rfl | (simp (maxDischargeDepth := 12); done) | split)))

@[simp] theorem State_vtStageEntry_keeps1 (s : State) (i : Nat) (e : Word) :
    (State.vtStageEntry s i e).sense = s.sense ∧ (State.vtStageEntry s i e).dscs = s.dscs ∧ (State.vtStageEntry s i e).hkcs = s.hkcs ∧
    (State.vtStageEntry s i e).tallies = s.tallies ∧ (State.vtStageEntry s i e).ledger = s.ledger ∧
    (State.vtStageEntry s i e).tiles = s.tiles ∧ (State.vtStageEntry s i e).accts = s.accts ∧
    (State.vtStageEntry s i e).limits = s.limits ∧ (State.vtStageEntry s i e).pace = s.pace ∧ (State.vtStageEntry s i e).therm = s.therm ∧
    (State.vtStageEntry s i e).diodes = s.diodes := by
  refine ⟨?_, ?_, ?_, ?_, ?_, ?_, ?_, ?_, ?_, ?_, ?_⟩ <;> (first | rfl | (simp (maxDischargeDepth := 12) [State.vtStageEntry]; done) | (unfold State.vtStageEntry; (try dsimp only); repeat' (first | rfl | (simp (maxDischargeDepth := 12); done) | split)))

@[simp] theorem State_vtStageEntry_keeps2 (s : State) (i : Nat) (e : Word) :
    (State.vtStageEntry s i e).stopq = s.stopq ∧ (State.vtStageEntry s i e).flt = s.flt ∧ (State.vtStageEntry s i e).policy = s.policy ∧
    (State.vtStageEntry s i e).rings = s.rings ∧ (State.vtStageEntry s i e).smb = s.smb ∧ (State.vtStageEntry s i e).avs = s.avs ∧
    (State.vtStageEntry s i e).tap = s.tap ∧ (State.vtStageEntry s i e).pub = s.pub ∧ (State.vtStageEntry s i e).freeCtr = s.freeCtr ∧
    (State.vtStageEntry s i e).pending = s.pending := by
  refine ⟨?_, ?_, ?_, ?_, ?_, ?_, ?_, ?_, ?_, ?_⟩ <;> (first | rfl | (simp (maxDischargeDepth := 12) [State.vtStageEntry]; done) | (unfold State.vtStageEntry; (try dsimp only); repeat' (first | rfl | (simp (maxDischargeDepth := 12); done) | split)))

@[simp] theorem State_mbVtStage_keeps0 (s : State) (ch : MboxChan) (i : Nat) (e : Word) :
    (State.mbVtStage s ch i e).otp = s.otp ∧ (State.mbVtStage s ch i e).start = s.start ∧ (State.mbVtStage s ch i e).clk = s.clk ∧
    (State.mbVtStage s ch i e).win = s.win ∧ (State.mbVtStage s ch i e).cells = s.cells ∧ (State.mbVtStage s ch i e).views = s.views ∧
    (State.mbVtStage s ch i e).chains = s.chains ∧ (State.mbVtStage s ch i e).creg = s.creg ∧ (State.mbVtStage s ch i e).eng = s.eng ∧
    (State.mbVtStage s ch i e).doms = s.doms ∧ (State.mbVtStage s ch i e).lanes = s.lanes := by
  refine ⟨?_, ?_, ?_, ?_, ?_, ?_, ?_, ?_, ?_, ?_, ?_⟩ <;> (first | rfl | (simp (maxDischargeDepth := 12) [State.mbVtStage]; done) | (unfold State.mbVtStage; (try dsimp only); repeat' (first | rfl | (simp (maxDischargeDepth := 12); done) | split)))

@[simp] theorem State_mbVtStage_keeps1 (s : State) (ch : MboxChan) (i : Nat) (e : Word) :
    (State.mbVtStage s ch i e).sense = s.sense ∧ (State.mbVtStage s ch i e).dscs = s.dscs ∧ (State.mbVtStage s ch i e).hkcs = s.hkcs ∧
    (State.mbVtStage s ch i e).tallies = s.tallies ∧ (State.mbVtStage s ch i e).ledger = s.ledger ∧
    (State.mbVtStage s ch i e).tiles = s.tiles ∧ (State.mbVtStage s ch i e).accts = s.accts ∧
    (State.mbVtStage s ch i e).limits = s.limits ∧ (State.mbVtStage s ch i e).pace = s.pace ∧ (State.mbVtStage s ch i e).therm = s.therm ∧
    (State.mbVtStage s ch i e).diodes = s.diodes := by
  refine ⟨?_, ?_, ?_, ?_, ?_, ?_, ?_, ?_, ?_, ?_, ?_⟩ <;> (first | rfl | (simp (maxDischargeDepth := 12) [State.mbVtStage]; done) | (unfold State.mbVtStage; (try dsimp only); repeat' (first | rfl | (simp (maxDischargeDepth := 12); done) | split)))

@[simp] theorem State_mbVtStage_keeps2 (s : State) (ch : MboxChan) (i : Nat) (e : Word) :
    (State.mbVtStage s ch i e).stopq = s.stopq ∧ (State.mbVtStage s ch i e).flt = s.flt ∧ (State.mbVtStage s ch i e).policy = s.policy ∧
    (State.mbVtStage s ch i e).rings = s.rings ∧ (State.mbVtStage s ch i e).smb = s.smb ∧ (State.mbVtStage s ch i e).avs = s.avs ∧
    (State.mbVtStage s ch i e).tap = s.tap ∧ (State.mbVtStage s ch i e).pub = s.pub ∧ (State.mbVtStage s ch i e).freeCtr = s.freeCtr ∧
    (State.mbVtStage s ch i e).pending = s.pending := by
  refine ⟨?_, ?_, ?_, ?_, ?_, ?_, ?_, ?_, ?_, ?_⟩ <;> (first | rfl | (simp (maxDischargeDepth := 12) [State.mbVtStage]; done) | (unfold State.mbVtStage; (try dsimp only); repeat' (first | rfl | (simp (maxDischargeDepth := 12); done) | split)))

@[simp] theorem State_vtApplyBegin_keeps0 (s : State) (chan : Option MboxChan) :
    (State.vtApplyBegin s chan).otp = s.otp ∧ (State.vtApplyBegin s chan).start = s.start ∧ (State.vtApplyBegin s chan).clk = s.clk ∧
    (State.vtApplyBegin s chan).win = s.win ∧ (State.vtApplyBegin s chan).cells = s.cells ∧ (State.vtApplyBegin s chan).views = s.views ∧
    (State.vtApplyBegin s chan).chains = s.chains ∧ (State.vtApplyBegin s chan).creg = s.creg ∧ (State.vtApplyBegin s chan).eng = s.eng ∧
    (State.vtApplyBegin s chan).doms = s.doms ∧ (State.vtApplyBegin s chan).lanes = s.lanes := by
  refine ⟨?_, ?_, ?_, ?_, ?_, ?_, ?_, ?_, ?_, ?_, ?_⟩ <;> (first | rfl | (simp (maxDischargeDepth := 12) [State.vtApplyBegin]; done) | (unfold State.vtApplyBegin; (try dsimp only); repeat' (first | rfl | (simp (maxDischargeDepth := 12); done) | split)))

@[simp] theorem State_vtApplyBegin_keeps1 (s : State) (chan : Option MboxChan) :
    (State.vtApplyBegin s chan).sense = s.sense ∧ (State.vtApplyBegin s chan).dscs = s.dscs ∧ (State.vtApplyBegin s chan).hkcs = s.hkcs ∧
    (State.vtApplyBegin s chan).tallies = s.tallies ∧ (State.vtApplyBegin s chan).ledger = s.ledger ∧
    (State.vtApplyBegin s chan).tiles = s.tiles ∧ (State.vtApplyBegin s chan).accts = s.accts ∧
    (State.vtApplyBegin s chan).limits = s.limits ∧ (State.vtApplyBegin s chan).pace = s.pace ∧
    (State.vtApplyBegin s chan).therm = s.therm ∧ (State.vtApplyBegin s chan).diodes = s.diodes := by
  refine ⟨?_, ?_, ?_, ?_, ?_, ?_, ?_, ?_, ?_, ?_, ?_⟩ <;> (first | rfl | (simp (maxDischargeDepth := 12) [State.vtApplyBegin]; done) | (unfold State.vtApplyBegin; (try dsimp only); repeat' (first | rfl | (simp (maxDischargeDepth := 12); done) | split)))

@[simp] theorem State_vtApplyBegin_keeps2 (s : State) (chan : Option MboxChan) :
    (State.vtApplyBegin s chan).stopq = s.stopq ∧ (State.vtApplyBegin s chan).flt = s.flt ∧
    (State.vtApplyBegin s chan).policy = s.policy ∧ (State.vtApplyBegin s chan).rings = s.rings ∧
    (State.vtApplyBegin s chan).smb = s.smb ∧ (State.vtApplyBegin s chan).avs = s.avs ∧ (State.vtApplyBegin s chan).tap = s.tap ∧
    (State.vtApplyBegin s chan).pub = s.pub ∧ (State.vtApplyBegin s chan).freeCtr = s.freeCtr ∧
    (State.vtApplyBegin s chan).pending = s.pending := by
  refine ⟨?_, ?_, ?_, ?_, ?_, ?_, ?_, ?_, ?_, ?_⟩ <;> (first | rfl | (simp (maxDischargeDepth := 12) [State.vtApplyBegin]; done) | (unfold State.vtApplyBegin; (try dsimp only); repeat' (first | rfl | (simp (maxDischargeDepth := 12); done) | split)))

@[simp] theorem State_vtRefuse_keeps0 (s : State) :
    (State.vtRefuse s).otp = s.otp ∧ (State.vtRefuse s).start = s.start ∧ (State.vtRefuse s).clk = s.clk ∧
    (State.vtRefuse s).win = s.win ∧ (State.vtRefuse s).cells = s.cells ∧ (State.vtRefuse s).views = s.views ∧
    (State.vtRefuse s).chains = s.chains ∧ (State.vtRefuse s).creg = s.creg ∧ (State.vtRefuse s).eng = s.eng ∧
    (State.vtRefuse s).doms = s.doms ∧ (State.vtRefuse s).lanes = s.lanes := by
  refine ⟨?_, ?_, ?_, ?_, ?_, ?_, ?_, ?_, ?_, ?_, ?_⟩ <;> (first | rfl | (simp (maxDischargeDepth := 12) [State.vtRefuse]; done) | (unfold State.vtRefuse; (try dsimp only); repeat' (first | rfl | (simp (maxDischargeDepth := 12); done) | split)))

@[simp] theorem State_vtRefuse_keeps1 (s : State) :
    (State.vtRefuse s).sense = s.sense ∧ (State.vtRefuse s).dscs = s.dscs ∧ (State.vtRefuse s).hkcs = s.hkcs ∧
    (State.vtRefuse s).tallies = s.tallies ∧ (State.vtRefuse s).ledger = s.ledger ∧ (State.vtRefuse s).tiles = s.tiles ∧
    (State.vtRefuse s).accts = s.accts ∧ (State.vtRefuse s).limits = s.limits ∧ (State.vtRefuse s).pace = s.pace ∧
    (State.vtRefuse s).therm = s.therm ∧ (State.vtRefuse s).diodes = s.diodes := by
  refine ⟨?_, ?_, ?_, ?_, ?_, ?_, ?_, ?_, ?_, ?_, ?_⟩ <;> (first | rfl | (simp (maxDischargeDepth := 12) [State.vtRefuse]; done) | (unfold State.vtRefuse; (try dsimp only); repeat' (first | rfl | (simp (maxDischargeDepth := 12); done) | split)))

@[simp] theorem State_vtRefuse_keeps2 (s : State) :
    (State.vtRefuse s).stopq = s.stopq ∧ (State.vtRefuse s).flt = s.flt ∧ (State.vtRefuse s).policy = s.policy ∧
    (State.vtRefuse s).rings = s.rings ∧ (State.vtRefuse s).smb = s.smb ∧ (State.vtRefuse s).avs = s.avs ∧
    (State.vtRefuse s).tap = s.tap ∧ (State.vtRefuse s).pub = s.pub ∧ (State.vtRefuse s).freeCtr = s.freeCtr ∧
    (State.vtRefuse s).pending = s.pending := by
  refine ⟨?_, ?_, ?_, ?_, ?_, ?_, ?_, ?_, ?_, ?_⟩ <;> (first | rfl | (simp (maxDischargeDepth := 12) [State.vtRefuse]; done) | (unfold State.vtRefuse; (try dsimp only); repeat' (first | rfl | (simp (maxDischargeDepth := 12); done) | split)))

@[simp] theorem State_mbVtApply_keeps0 (s : State) (ch : MboxChan) :
    (State.mbVtApply s ch).otp = s.otp ∧ (State.mbVtApply s ch).start = s.start ∧ (State.mbVtApply s ch).clk = s.clk ∧
    (State.mbVtApply s ch).win = s.win ∧ (State.mbVtApply s ch).cells = s.cells ∧ (State.mbVtApply s ch).views = s.views ∧
    (State.mbVtApply s ch).chains = s.chains ∧ (State.mbVtApply s ch).creg = s.creg ∧ (State.mbVtApply s ch).eng = s.eng ∧
    (State.mbVtApply s ch).doms = s.doms ∧ (State.mbVtApply s ch).lanes = s.lanes := by
  refine ⟨?_, ?_, ?_, ?_, ?_, ?_, ?_, ?_, ?_, ?_, ?_⟩ <;> (first | rfl | (simp (maxDischargeDepth := 12) [State.mbVtApply]; done) | (unfold State.mbVtApply; (try dsimp only); repeat' (first | rfl | (simp (maxDischargeDepth := 12); done) | split)))

@[simp] theorem State_mbVtApply_keeps1 (s : State) (ch : MboxChan) :
    (State.mbVtApply s ch).sense = s.sense ∧ (State.mbVtApply s ch).dscs = s.dscs ∧ (State.mbVtApply s ch).hkcs = s.hkcs ∧
    (State.mbVtApply s ch).tallies = s.tallies ∧ (State.mbVtApply s ch).ledger = s.ledger ∧ (State.mbVtApply s ch).tiles = s.tiles ∧
    (State.mbVtApply s ch).accts = s.accts ∧ (State.mbVtApply s ch).limits = s.limits ∧ (State.mbVtApply s ch).pace = s.pace ∧
    (State.mbVtApply s ch).therm = s.therm ∧ (State.mbVtApply s ch).diodes = s.diodes := by
  refine ⟨?_, ?_, ?_, ?_, ?_, ?_, ?_, ?_, ?_, ?_, ?_⟩ <;> (first | rfl | (simp (maxDischargeDepth := 12) [State.mbVtApply]; done) | (unfold State.mbVtApply; (try dsimp only); repeat' (first | rfl | (simp (maxDischargeDepth := 12); done) | split)))

@[simp] theorem State_mbVtApply_keeps2 (s : State) (ch : MboxChan) :
    (State.mbVtApply s ch).stopq = s.stopq ∧ (State.mbVtApply s ch).flt = s.flt ∧ (State.mbVtApply s ch).policy = s.policy ∧
    (State.mbVtApply s ch).rings = s.rings ∧ (State.mbVtApply s ch).smb = s.smb ∧ (State.mbVtApply s ch).avs = s.avs ∧
    (State.mbVtApply s ch).tap = s.tap ∧ (State.mbVtApply s ch).pub = s.pub ∧ (State.mbVtApply s ch).freeCtr = s.freeCtr ∧
    (State.mbVtApply s ch).pending = s.pending := by
  refine ⟨?_, ?_, ?_, ?_, ?_, ?_, ?_, ?_, ?_, ?_⟩ <;> (first | rfl | (simp (maxDischargeDepth := 12) [State.mbVtApply]; done) | (unfold State.mbVtApply; (try dsimp only); repeat' (first | rfl | (simp (maxDischargeDepth := 12); done) | split)))

@[simp] theorem State_mbVtCommit_keeps0 (s : State) (ch : MboxChan) :
    (State.mbVtCommit s ch).otp = s.otp ∧ (State.mbVtCommit s ch).start = s.start ∧ (State.mbVtCommit s ch).clk = s.clk ∧
    (State.mbVtCommit s ch).win = s.win ∧ (State.mbVtCommit s ch).cells = s.cells ∧ (State.mbVtCommit s ch).views = s.views ∧
    (State.mbVtCommit s ch).chains = s.chains ∧ (State.mbVtCommit s ch).creg = s.creg ∧ (State.mbVtCommit s ch).eng = s.eng ∧
    (State.mbVtCommit s ch).doms = s.doms ∧ (State.mbVtCommit s ch).lanes = s.lanes := by
  refine ⟨?_, ?_, ?_, ?_, ?_, ?_, ?_, ?_, ?_, ?_, ?_⟩ <;> (first | rfl | (simp (maxDischargeDepth := 12) [State.mbVtCommit]; done) | (unfold State.mbVtCommit; (try dsimp only); repeat' (first | rfl | (simp (maxDischargeDepth := 12); done) | split)))

@[simp] theorem State_mbVtCommit_keeps1 (s : State) (ch : MboxChan) :
    (State.mbVtCommit s ch).sense = s.sense ∧ (State.mbVtCommit s ch).dscs = s.dscs ∧ (State.mbVtCommit s ch).hkcs = s.hkcs ∧
    (State.mbVtCommit s ch).tallies = s.tallies ∧ (State.mbVtCommit s ch).ledger = s.ledger ∧ (State.mbVtCommit s ch).tiles = s.tiles ∧
    (State.mbVtCommit s ch).accts = s.accts ∧ (State.mbVtCommit s ch).limits = s.limits ∧ (State.mbVtCommit s ch).pace = s.pace ∧
    (State.mbVtCommit s ch).therm = s.therm ∧ (State.mbVtCommit s ch).diodes = s.diodes := by
  refine ⟨?_, ?_, ?_, ?_, ?_, ?_, ?_, ?_, ?_, ?_, ?_⟩ <;> (first | rfl | (simp (maxDischargeDepth := 12) [State.mbVtCommit]; done) | (unfold State.mbVtCommit; (try dsimp only); repeat' (first | rfl | (simp (maxDischargeDepth := 12); done) | split)))

@[simp] theorem State_mbVtCommit_keeps2 (s : State) (ch : MboxChan) :
    (State.mbVtCommit s ch).stopq = s.stopq ∧ (State.mbVtCommit s ch).flt = s.flt ∧ (State.mbVtCommit s ch).policy = s.policy ∧
    (State.mbVtCommit s ch).rings = s.rings ∧ (State.mbVtCommit s ch).smb = s.smb ∧ (State.mbVtCommit s ch).avs = s.avs ∧
    (State.mbVtCommit s ch).tap = s.tap ∧ (State.mbVtCommit s ch).pub = s.pub ∧ (State.mbVtCommit s ch).freeCtr = s.freeCtr ∧
    (State.mbVtCommit s ch).pending = s.pending := by
  refine ⟨?_, ?_, ?_, ?_, ?_, ?_, ?_, ?_, ?_, ?_⟩ <;> (first | rfl | (simp (maxDischargeDepth := 12) [State.mbVtCommit]; done) | (unfold State.mbVtCommit; (try dsimp only); repeat' (first | rfl | (simp (maxDischargeDepth := 12); done) | split)))

@[simp] theorem State_mbPolLoad_keeps0 (s : State) (ch : MboxChan) (len : Nat) (digest : List Word) :
    (State.mbPolLoad s ch len digest).otp = s.otp ∧ (State.mbPolLoad s ch len digest).start = s.start ∧
    (State.mbPolLoad s ch len digest).clk = s.clk ∧ (State.mbPolLoad s ch len digest).win = s.win ∧
    (State.mbPolLoad s ch len digest).cells = s.cells ∧ (State.mbPolLoad s ch len digest).views = s.views ∧
    (State.mbPolLoad s ch len digest).chains = s.chains ∧ (State.mbPolLoad s ch len digest).creg = s.creg ∧
    (State.mbPolLoad s ch len digest).eng = s.eng ∧ (State.mbPolLoad s ch len digest).doms = s.doms ∧
    (State.mbPolLoad s ch len digest).lanes = s.lanes := by
  refine ⟨?_, ?_, ?_, ?_, ?_, ?_, ?_, ?_, ?_, ?_, ?_⟩ <;> (first | rfl | (simp (maxDischargeDepth := 12) [State.mbPolLoad]; done) | (unfold State.mbPolLoad; (try dsimp only); repeat' (first | rfl | (simp (maxDischargeDepth := 12); done) | split)))

@[simp] theorem State_mbPolLoad_keeps1 (s : State) (ch : MboxChan) (len : Nat) (digest : List Word) :
    (State.mbPolLoad s ch len digest).sense = s.sense ∧ (State.mbPolLoad s ch len digest).dscs = s.dscs ∧
    (State.mbPolLoad s ch len digest).hkcs = s.hkcs ∧ (State.mbPolLoad s ch len digest).tallies = s.tallies ∧
    (State.mbPolLoad s ch len digest).ledger = s.ledger ∧ (State.mbPolLoad s ch len digest).tiles = s.tiles ∧
    (State.mbPolLoad s ch len digest).accts = s.accts ∧ (State.mbPolLoad s ch len digest).limits = s.limits ∧
    (State.mbPolLoad s ch len digest).pace = s.pace ∧ (State.mbPolLoad s ch len digest).therm = s.therm ∧
    (State.mbPolLoad s ch len digest).diodes = s.diodes := by
  refine ⟨?_, ?_, ?_, ?_, ?_, ?_, ?_, ?_, ?_, ?_, ?_⟩ <;> (first | rfl | (simp (maxDischargeDepth := 12) [State.mbPolLoad]; done) | (unfold State.mbPolLoad; (try dsimp only); repeat' (first | rfl | (simp (maxDischargeDepth := 12); done) | split)))

@[simp] theorem State_mbPolLoad_keeps2 (s : State) (ch : MboxChan) (len : Nat) (digest : List Word) :
    (State.mbPolLoad s ch len digest).stopq = s.stopq ∧ (State.mbPolLoad s ch len digest).flt = s.flt ∧
    (State.mbPolLoad s ch len digest).rings = s.rings ∧ (State.mbPolLoad s ch len digest).smb = s.smb ∧
    (State.mbPolLoad s ch len digest).avs = s.avs ∧ (State.mbPolLoad s ch len digest).tap = s.tap ∧
    (State.mbPolLoad s ch len digest).pub = s.pub ∧ (State.mbPolLoad s ch len digest).freeCtr = s.freeCtr ∧
    (State.mbPolLoad s ch len digest).pending = s.pending := by
  refine ⟨?_, ?_, ?_, ?_, ?_, ?_, ?_, ?_, ?_⟩ <;> (first | rfl | (simp (maxDischargeDepth := 12) [State.mbPolLoad]; done) | (unfold State.mbPolLoad; (try dsimp only); repeat' (first | rfl | (simp (maxDischargeDepth := 12); done) | split)))

@[simp] theorem State_mbPolStart_keeps0 (s : State) (ch : MboxChan) :
    (State.mbPolStart s ch).otp = s.otp ∧ (State.mbPolStart s ch).start = s.start ∧ (State.mbPolStart s ch).clk = s.clk ∧
    (State.mbPolStart s ch).win = s.win ∧ (State.mbPolStart s ch).cells = s.cells ∧ (State.mbPolStart s ch).views = s.views ∧
    (State.mbPolStart s ch).chains = s.chains ∧ (State.mbPolStart s ch).creg = s.creg ∧ (State.mbPolStart s ch).eng = s.eng ∧
    (State.mbPolStart s ch).doms = s.doms ∧ (State.mbPolStart s ch).lanes = s.lanes := by
  refine ⟨?_, ?_, ?_, ?_, ?_, ?_, ?_, ?_, ?_, ?_, ?_⟩ <;> (first | rfl | (simp (maxDischargeDepth := 12) [State.mbPolStart]; done) | (unfold State.mbPolStart; (try dsimp only); repeat' (first | rfl | (simp (maxDischargeDepth := 12); done) | split)))

@[simp] theorem State_mbPolStart_keeps1 (s : State) (ch : MboxChan) :
    (State.mbPolStart s ch).sense = s.sense ∧ (State.mbPolStart s ch).dscs = s.dscs ∧ (State.mbPolStart s ch).hkcs = s.hkcs ∧
    (State.mbPolStart s ch).tallies = s.tallies ∧ (State.mbPolStart s ch).ledger = s.ledger ∧ (State.mbPolStart s ch).tiles = s.tiles ∧
    (State.mbPolStart s ch).accts = s.accts ∧ (State.mbPolStart s ch).limits = s.limits ∧ (State.mbPolStart s ch).pace = s.pace ∧
    (State.mbPolStart s ch).therm = s.therm ∧ (State.mbPolStart s ch).diodes = s.diodes := by
  refine ⟨?_, ?_, ?_, ?_, ?_, ?_, ?_, ?_, ?_, ?_, ?_⟩ <;> (first | rfl | (simp (maxDischargeDepth := 12) [State.mbPolStart]; done) | (unfold State.mbPolStart; (try dsimp only); repeat' (first | rfl | (simp (maxDischargeDepth := 12); done) | split)))

@[simp] theorem State_mbPolStart_keeps2 (s : State) (ch : MboxChan) :
    (State.mbPolStart s ch).stopq = s.stopq ∧ (State.mbPolStart s ch).flt = s.flt ∧ (State.mbPolStart s ch).rings = s.rings ∧
    (State.mbPolStart s ch).smb = s.smb ∧ (State.mbPolStart s ch).avs = s.avs ∧ (State.mbPolStart s ch).tap = s.tap ∧
    (State.mbPolStart s ch).pub = s.pub ∧ (State.mbPolStart s ch).freeCtr = s.freeCtr ∧ (State.mbPolStart s ch).pending = s.pending := by
  refine ⟨?_, ?_, ?_, ?_, ?_, ?_, ?_, ?_, ?_⟩ <;> (first | rfl | (simp (maxDischargeDepth := 12) [State.mbPolStart]; done) | (unfold State.mbPolStart; (try dsimp only); repeat' (first | rfl | (simp (maxDischargeDepth := 12); done) | split)))

@[simp] theorem State_moveRecord_keeps0 (s : State) (j : VaultJob) :
    (State.moveRecord s j).otp = s.otp ∧ (State.moveRecord s j).start = s.start ∧ (State.moveRecord s j).clk = s.clk ∧
    (State.moveRecord s j).win = s.win ∧ (State.moveRecord s j).cells = s.cells ∧ (State.moveRecord s j).views = s.views ∧
    (State.moveRecord s j).chains = s.chains ∧ (State.moveRecord s j).creg = s.creg ∧ (State.moveRecord s j).eng = s.eng ∧
    (State.moveRecord s j).doms = s.doms ∧ (State.moveRecord s j).lanes = s.lanes := by
  refine ⟨?_, ?_, ?_, ?_, ?_, ?_, ?_, ?_, ?_, ?_, ?_⟩ <;> (first | rfl | (simp (maxDischargeDepth := 12) [State.moveRecord]; done) | (unfold State.moveRecord; (try dsimp only); repeat' (first | rfl | (simp (maxDischargeDepth := 12); done) | split)))

@[simp] theorem State_moveRecord_keeps1 (s : State) (j : VaultJob) :
    (State.moveRecord s j).sense = s.sense ∧ (State.moveRecord s j).dscs = s.dscs ∧ (State.moveRecord s j).hkcs = s.hkcs ∧
    (State.moveRecord s j).tallies = s.tallies ∧ (State.moveRecord s j).ledger = s.ledger ∧ (State.moveRecord s j).tiles = s.tiles ∧
    (State.moveRecord s j).accts = s.accts ∧ (State.moveRecord s j).limits = s.limits ∧ (State.moveRecord s j).pace = s.pace ∧
    (State.moveRecord s j).therm = s.therm ∧ (State.moveRecord s j).diodes = s.diodes := by
  refine ⟨?_, ?_, ?_, ?_, ?_, ?_, ?_, ?_, ?_, ?_, ?_⟩ <;> (first | rfl | (simp (maxDischargeDepth := 12) [State.moveRecord]; done) | (unfold State.moveRecord; (try dsimp only); repeat' (first | rfl | (simp (maxDischargeDepth := 12); done) | split)))

@[simp] theorem State_moveRecord_keeps2 (s : State) (j : VaultJob) :
    (State.moveRecord s j).flt = s.flt ∧ (State.moveRecord s j).policy = s.policy ∧ (State.moveRecord s j).rings = s.rings ∧
    (State.moveRecord s j).smb = s.smb ∧ (State.moveRecord s j).avs = s.avs ∧ (State.moveRecord s j).tap = s.tap ∧
    (State.moveRecord s j).pub = s.pub ∧ (State.moveRecord s j).freeCtr = s.freeCtr ∧ (State.moveRecord s j).pending = s.pending := by
  refine ⟨?_, ?_, ?_, ?_, ?_, ?_, ?_, ?_, ?_⟩ <;> (first | rfl | (simp (maxDischargeDepth := 12) [State.moveRecord]; done) | (unfold State.moveRecord; (try dsimp only); repeat' (first | rfl | (simp (maxDischargeDepth := 12); done) | split)))

end Sys2Proof.Machine
end

