-- ==== Sys2Proof/Laws/FramesPolicy.lean ====
section
/-! SUPPORT. The fields of State that the operations of Machine/Policy.lean leave alone. -/

set_option linter.unusedSimpArgs false
set_option linter.unusedVariables false

namespace Sys2Proof.Machine

@[simp] theorem State_ebsisReply_keeps0 (s : State) (kind : Nat) (r : EbsisReq) (status : Nat) (value : Option Nat) (epoch : Option Nat) :
    (State.ebsisReply s kind r status value epoch).otp = s.otp ∧ (State.ebsisReply s kind r status value epoch).start = s.start ∧
    (State.ebsisReply s kind r status value epoch).clk = s.clk ∧ (State.ebsisReply s kind r status value epoch).win = s.win ∧
    (State.ebsisReply s kind r status value epoch).cells = s.cells ∧ (State.ebsisReply s kind r status value epoch).views = s.views ∧
    (State.ebsisReply s kind r status value epoch).chains = s.chains ∧ (State.ebsisReply s kind r status value epoch).creg = s.creg ∧
    (State.ebsisReply s kind r status value epoch).eng = s.eng ∧ (State.ebsisReply s kind r status value epoch).doms = s.doms ∧
    (State.ebsisReply s kind r status value epoch).lanes = s.lanes := by
  refine ⟨?_, ?_, ?_, ?_, ?_, ?_, ?_, ?_, ?_, ?_, ?_⟩ <;> (first | rfl | (simp (maxDischargeDepth := 12) [State.ebsisReply]; done) | (unfold State.ebsisReply; (try dsimp only); repeat' (first | rfl | (simp (maxDischargeDepth := 12); done) | split)))

@[simp] theorem State_ebsisReply_keeps1 (s : State) (kind : Nat) (r : EbsisReq) (status : Nat) (value : Option Nat) (epoch : Option Nat) :
    (State.ebsisReply s kind r status value epoch).sense = s.sense ∧ (State.ebsisReply s kind r status value epoch).dscs = s.dscs ∧
    (State.ebsisReply s kind r status value epoch).hkcs = s.hkcs ∧ (State.ebsisReply s kind r status value epoch).tallies = s.tallies ∧
    (State.ebsisReply s kind r status value epoch).ledger = s.ledger ∧ (State.ebsisReply s kind r status value epoch).tiles = s.tiles ∧
    (State.ebsisReply s kind r status value epoch).accts = s.accts ∧ (State.ebsisReply s kind r status value epoch).limits = s.limits ∧
    (State.ebsisReply s kind r status value epoch).pace = s.pace ∧ (State.ebsisReply s kind r status value epoch).therm = s.therm ∧
    (State.ebsisReply s kind r status value epoch).diodes = s.diodes := by
  refine ⟨?_, ?_, ?_, ?_, ?_, ?_, ?_, ?_, ?_, ?_, ?_⟩ <;> (first | rfl | (simp (maxDischargeDepth := 12) [State.ebsisReply]; done) | (unfold State.ebsisReply; (try dsimp only); repeat' (first | rfl | (simp (maxDischargeDepth := 12); done) | split)))

@[simp] theorem State_ebsisReply_keeps2 (s : State) (kind : Nat) (r : EbsisReq) (status : Nat) (value : Option Nat) (epoch : Option Nat) :
    (State.ebsisReply s kind r status value epoch).stopq = s.stopq ∧ (State.ebsisReply s kind r status value epoch).flt = s.flt ∧
    (State.ebsisReply s kind r status value epoch).warden = s.warden ∧ (State.ebsisReply s kind r status value epoch).rings = s.rings ∧
    (State.ebsisReply s kind r status value epoch).smb = s.smb ∧ (State.ebsisReply s kind r status value epoch).avs = s.avs ∧
    (State.ebsisReply s kind r status value epoch).tap = s.tap ∧ (State.ebsisReply s kind r status value epoch).pub = s.pub ∧
    (State.ebsisReply s kind r status value epoch).pending = s.pending := by
  refine ⟨?_, ?_, ?_, ?_, ?_, ?_, ?_, ?_, ?_⟩ <;> (first | rfl | (simp (maxDischargeDepth := 12) [State.ebsisReply]; done) | (unfold State.ebsisReply; (try dsimp only); repeat' (first | rfl | (simp (maxDischargeDepth := 12); done) | split)))

@[simp] theorem State_ebsisRefuse_keeps0 (s : State) (kind : Nat) (r : EbsisReq) (status : Nat) :
    (State.ebsisRefuse s kind r status).otp = s.otp ∧ (State.ebsisRefuse s kind r status).start = s.start ∧
    (State.ebsisRefuse s kind r status).clk = s.clk ∧ (State.ebsisRefuse s kind r status).win = s.win ∧
    (State.ebsisRefuse s kind r status).cells = s.cells ∧ (State.ebsisRefuse s kind r status).views = s.views ∧
    (State.ebsisRefuse s kind r status).chains = s.chains ∧ (State.ebsisRefuse s kind r status).creg = s.creg ∧
    (State.ebsisRefuse s kind r status).eng = s.eng ∧ (State.ebsisRefuse s kind r status).doms = s.doms ∧
    (State.ebsisRefuse s kind r status).lanes = s.lanes := by
  refine ⟨?_, ?_, ?_, ?_, ?_, ?_, ?_, ?_, ?_, ?_, ?_⟩ <;> (first | rfl | (simp (maxDischargeDepth := 12) [State.ebsisRefuse]; done) | (unfold State.ebsisRefuse; (try dsimp only); repeat' (first | rfl | (simp (maxDischargeDepth := 12); done) | split)))

@[simp] theorem State_ebsisRefuse_keeps1 (s : State) (kind : Nat) (r : EbsisReq) (status : Nat) :
    (State.ebsisRefuse s kind r status).sense = s.sense ∧ (State.ebsisRefuse s kind r status).dscs = s.dscs ∧
    (State.ebsisRefuse s kind r status).hkcs = s.hkcs ∧ (State.ebsisRefuse s kind r status).tallies = s.tallies ∧
    (State.ebsisRefuse s kind r status).ledger = s.ledger ∧ (State.ebsisRefuse s kind r status).tiles = s.tiles ∧
    (State.ebsisRefuse s kind r status).accts = s.accts ∧ (State.ebsisRefuse s kind r status).limits = s.limits ∧
    (State.ebsisRefuse s kind r status).pace = s.pace ∧ (State.ebsisRefuse s kind r status).therm = s.therm ∧
    (State.ebsisRefuse s kind r status).diodes = s.diodes := by
  refine ⟨?_, ?_, ?_, ?_, ?_, ?_, ?_, ?_, ?_, ?_, ?_⟩ <;> (first | rfl | (simp (maxDischargeDepth := 12) [State.ebsisRefuse]; done) | (unfold State.ebsisRefuse; (try dsimp only); repeat' (first | rfl | (simp (maxDischargeDepth := 12); done) | split)))

@[simp] theorem State_ebsisRefuse_keeps2 (s : State) (kind : Nat) (r : EbsisReq) (status : Nat) :
    (State.ebsisRefuse s kind r status).stopq = s.stopq ∧ (State.ebsisRefuse s kind r status).flt = s.flt ∧
    (State.ebsisRefuse s kind r status).warden = s.warden ∧ (State.ebsisRefuse s kind r status).rings = s.rings ∧
    (State.ebsisRefuse s kind r status).smb = s.smb ∧ (State.ebsisRefuse s kind r status).avs = s.avs ∧
    (State.ebsisRefuse s kind r status).tap = s.tap ∧ (State.ebsisRefuse s kind r status).pub = s.pub ∧
    (State.ebsisRefuse s kind r status).pending = s.pending := by
  refine ⟨?_, ?_, ?_, ?_, ?_, ?_, ?_, ?_, ?_⟩ <;> (first | rfl | (simp (maxDischargeDepth := 12) [State.ebsisRefuse]; done) | (unfold State.ebsisRefuse; (try dsimp only); repeat' (first | rfl | (simp (maxDischargeDepth := 12); done) | split)))

@[simp] theorem State_ebMove_keeps0 (s : State) (kind : Nat) (recalling : Bool) (r : EbsisReq) :
    (State.ebMove s kind recalling r).otp = s.otp ∧ (State.ebMove s kind recalling r).start = s.start ∧
    (State.ebMove s kind recalling r).clk = s.clk ∧ (State.ebMove s kind recalling r).win = s.win ∧
    (State.ebMove s kind recalling r).cells = s.cells ∧ (State.ebMove s kind recalling r).views = s.views ∧
    (State.ebMove s kind recalling r).creg = s.creg ∧ (State.ebMove s kind recalling r).eng = s.eng ∧
    (State.ebMove s kind recalling r).doms = s.doms ∧ (State.ebMove s kind recalling r).lanes = s.lanes ∧
    (State.ebMove s kind recalling r).sense = s.sense := by
  refine ⟨?_, ?_, ?_, ?_, ?_, ?_, ?_, ?_, ?_, ?_, ?_⟩ <;> (first | rfl | (simp (maxDischargeDepth := 12) [State.ebMove]; done) | (unfold State.ebMove; (try dsimp only); repeat' (first | rfl | (simp (maxDischargeDepth := 12); done) | split)))

@[simp] theorem State_ebMove_keeps1 (s : State) (kind : Nat) (recalling : Bool) (r : EbsisReq) :
    (State.ebMove s kind recalling r).dscs = s.dscs ∧ (State.ebMove s kind recalling r).hkcs = s.hkcs ∧
    (State.ebMove s kind recalling r).tallies = s.tallies ∧ (State.ebMove s kind recalling r).ledger = s.ledger ∧
    (State.ebMove s kind recalling r).tiles = s.tiles ∧ (State.ebMove s kind recalling r).accts = s.accts ∧
    (State.ebMove s kind recalling r).limits = s.limits ∧ (State.ebMove s kind recalling r).pace = s.pace ∧
    (State.ebMove s kind recalling r).therm = s.therm ∧ (State.ebMove s kind recalling r).diodes = s.diodes ∧
    (State.ebMove s kind recalling r).stopq = s.stopq := by
  refine ⟨?_, ?_, ?_, ?_, ?_, ?_, ?_, ?_, ?_, ?_, ?_⟩ <;> (first | rfl | (simp (maxDischargeDepth := 12) [State.ebMove]; done) | (unfold State.ebMove; (try dsimp only); repeat' (first | rfl | (simp (maxDischargeDepth := 12); done) | split)))

@[simp] theorem State_ebMove_keeps2 (s : State) (kind : Nat) (recalling : Bool) (r : EbsisReq) :
    (State.ebMove s kind recalling r).flt = s.flt ∧ (State.ebMove s kind recalling r).warden = s.warden ∧
    (State.ebMove s kind recalling r).rings = s.rings ∧ (State.ebMove s kind recalling r).smb = s.smb ∧
    (State.ebMove s kind recalling r).avs = s.avs ∧ (State.ebMove s kind recalling r).tap = s.tap ∧
    (State.ebMove s kind recalling r).pub = s.pub ∧ (State.ebMove s kind recalling r).pending = s.pending := by
  refine ⟨?_, ?_, ?_, ?_, ?_, ?_, ?_, ?_⟩ <;> (first | rfl | (simp (maxDischargeDepth := 12) [State.ebMove]; done) | (unfold State.ebMove; (try dsimp only); repeat' (first | rfl | (simp (maxDischargeDepth := 12); done) | split)))

@[simp] theorem State_ebBeat_keeps0 (s : State) (r : EbsisReq) :
    (State.ebBeat s r).otp = s.otp ∧ (State.ebBeat s r).start = s.start ∧ (State.ebBeat s r).clk = s.clk ∧
    (State.ebBeat s r).win = s.win ∧ (State.ebBeat s r).cells = s.cells ∧ (State.ebBeat s r).views = s.views ∧
    (State.ebBeat s r).chains = s.chains ∧ (State.ebBeat s r).creg = s.creg ∧ (State.ebBeat s r).eng = s.eng ∧
    (State.ebBeat s r).doms = s.doms ∧ (State.ebBeat s r).lanes = s.lanes := by
  refine ⟨?_, ?_, ?_, ?_, ?_, ?_, ?_, ?_, ?_, ?_, ?_⟩ <;> (first | rfl | (simp (maxDischargeDepth := 12) [State.ebBeat]; done) | (unfold State.ebBeat; (try dsimp only); repeat' (first | rfl | (simp (maxDischargeDepth := 12); done) | split)))

@[simp] theorem State_ebBeat_keeps1 (s : State) (r : EbsisReq) :
    (State.ebBeat s r).sense = s.sense ∧ (State.ebBeat s r).dscs = s.dscs ∧ (State.ebBeat s r).hkcs = s.hkcs ∧
    (State.ebBeat s r).tallies = s.tallies ∧ (State.ebBeat s r).ledger = s.ledger ∧ (State.ebBeat s r).tiles = s.tiles ∧
    (State.ebBeat s r).accts = s.accts ∧ (State.ebBeat s r).limits = s.limits ∧ (State.ebBeat s r).pace = s.pace ∧
    (State.ebBeat s r).therm = s.therm ∧ (State.ebBeat s r).diodes = s.diodes := by
  refine ⟨?_, ?_, ?_, ?_, ?_, ?_, ?_, ?_, ?_, ?_, ?_⟩ <;> (first | rfl | (simp (maxDischargeDepth := 12) [State.ebBeat]; done) | (unfold State.ebBeat; (try dsimp only); repeat' (first | rfl | (simp (maxDischargeDepth := 12); done) | split)))

@[simp] theorem State_ebBeat_keeps2 (s : State) (r : EbsisReq) :
    (State.ebBeat s r).stopq = s.stopq ∧ (State.ebBeat s r).flt = s.flt ∧ (State.ebBeat s r).warden = s.warden ∧
    (State.ebBeat s r).rings = s.rings ∧ (State.ebBeat s r).smb = s.smb ∧ (State.ebBeat s r).avs = s.avs ∧
    (State.ebBeat s r).tap = s.tap ∧ (State.ebBeat s r).pub = s.pub ∧ (State.ebBeat s r).pending = s.pending := by
  refine ⟨?_, ?_, ?_, ?_, ?_, ?_, ?_, ?_, ?_⟩ <;> (first | rfl | (simp (maxDischargeDepth := 12) [State.ebBeat]; done) | (unfold State.ebBeat; (try dsimp only); repeat' (first | rfl | (simp (maxDischargeDepth := 12); done) | split)))

end Sys2Proof.Machine
end

