-- ==== Sys2Proof/Laws/FramesChecks.lean ====
section
/-! SUPPORT. The fields of State that the operations of Machine/Checks.lean leave alone. -/

set_option linter.unusedSimpArgs false
set_option linter.unusedVariables false

namespace Sys2Proof.Machine

@[simp] theorem State_cfgReject_keeps0 (s : State) (off : Nat) :
    (State.cfgReject s off).otp = s.otp ∧ (State.cfgReject s off).start = s.start ∧ (State.cfgReject s off).clk = s.clk ∧
    (State.cfgReject s off).win = s.win ∧ (State.cfgReject s off).cells = s.cells ∧ (State.cfgReject s off).views = s.views ∧
    (State.cfgReject s off).chains = s.chains ∧ (State.cfgReject s off).creg = s.creg ∧ (State.cfgReject s off).doms = s.doms ∧
    (State.cfgReject s off).lanes = s.lanes ∧ (State.cfgReject s off).dscs = s.dscs := by
  refine ⟨?_, ?_, ?_, ?_, ?_, ?_, ?_, ?_, ?_, ?_, ?_⟩ <;> (first | rfl | (simp (maxDischargeDepth := 12) [State.cfgReject]; done) | (unfold State.cfgReject; (try dsimp only); repeat' (first | rfl | (simp (maxDischargeDepth := 12); done) | split)))

@[simp] theorem State_cfgReject_keeps1 (s : State) (off : Nat) :
    (State.cfgReject s off).hkcs = s.hkcs ∧ (State.cfgReject s off).tallies = s.tallies ∧ (State.cfgReject s off).tiles = s.tiles ∧
    (State.cfgReject s off).accts = s.accts ∧ (State.cfgReject s off).limits = s.limits ∧ (State.cfgReject s off).pace = s.pace ∧
    (State.cfgReject s off).therm = s.therm ∧ (State.cfgReject s off).diodes = s.diodes ∧ (State.cfgReject s off).stopq = s.stopq ∧
    (State.cfgReject s off).warden = s.warden ∧ (State.cfgReject s off).policy = s.policy := by
  refine ⟨?_, ?_, ?_, ?_, ?_, ?_, ?_, ?_, ?_, ?_, ?_⟩ <;> (first | rfl | (simp (maxDischargeDepth := 12) [State.cfgReject]; done) | (unfold State.cfgReject; (try dsimp only); repeat' (first | rfl | (simp (maxDischargeDepth := 12); done) | split)))

@[simp] theorem State_cfgReject_keeps2 (s : State) (off : Nat) :
    (State.cfgReject s off).rings = s.rings ∧ (State.cfgReject s off).smb = s.smb ∧ (State.cfgReject s off).avs = s.avs ∧
    (State.cfgReject s off).tap = s.tap ∧ (State.cfgReject s off).pub = s.pub ∧ (State.cfgReject s off).freeCtr = s.freeCtr ∧
    (State.cfgReject s off).pending = s.pending := by
  refine ⟨?_, ?_, ?_, ?_, ?_, ?_, ?_⟩ <;> (first | rfl | (simp (maxDischargeDepth := 12) [State.cfgReject]; done) | (unfold State.cfgReject; (try dsimp only); repeat' (first | rfl | (simp (maxDischargeDepth := 12); done) | split)))

@[simp] theorem State_hostValue_keeps0 (s : State) (target : Nat) (v : Nat) :
    (State.hostValue s target v).otp = s.otp ∧ (State.hostValue s target v).start = s.start ∧ (State.hostValue s target v).clk = s.clk ∧
    (State.hostValue s target v).win = s.win ∧ (State.hostValue s target v).cells = s.cells ∧
    (State.hostValue s target v).views = s.views ∧ (State.hostValue s target v).chains = s.chains ∧
    (State.hostValue s target v).creg = s.creg ∧ (State.hostValue s target v).eng = s.eng ∧ (State.hostValue s target v).doms = s.doms ∧
    (State.hostValue s target v).lanes = s.lanes := by
  refine ⟨?_, ?_, ?_, ?_, ?_, ?_, ?_, ?_, ?_, ?_, ?_⟩ <;> (first | rfl | (simp (maxDischargeDepth := 12) [State.hostValue]; done) | (unfold State.hostValue; (try dsimp only); repeat' (first | rfl | (simp (maxDischargeDepth := 12); done) | split)))

@[simp] theorem State_hostValue_keeps1 (s : State) (target : Nat) (v : Nat) :
    (State.hostValue s target v).sense = s.sense ∧ (State.hostValue s target v).dscs = s.dscs ∧
    (State.hostValue s target v).hkcs = s.hkcs ∧ (State.hostValue s target v).tallies = s.tallies ∧
    (State.hostValue s target v).ledger = s.ledger ∧ (State.hostValue s target v).tiles = s.tiles ∧
    (State.hostValue s target v).accts = s.accts ∧ (State.hostValue s target v).limits = s.limits ∧
    (State.hostValue s target v).pace = s.pace ∧ (State.hostValue s target v).therm = s.therm ∧
    (State.hostValue s target v).diodes = s.diodes := by
  refine ⟨?_, ?_, ?_, ?_, ?_, ?_, ?_, ?_, ?_, ?_, ?_⟩ <;> (first | rfl | (simp (maxDischargeDepth := 12) [State.hostValue]; done) | (unfold State.hostValue; (try dsimp only); repeat' (first | rfl | (simp (maxDischargeDepth := 12); done) | split)))

@[simp] theorem State_hostValue_keeps2 (s : State) (target : Nat) (v : Nat) :
    (State.hostValue s target v).stopq = s.stopq ∧ (State.hostValue s target v).flt = s.flt ∧
    (State.hostValue s target v).warden = s.warden ∧ (State.hostValue s target v).rings = s.rings ∧
    (State.hostValue s target v).smb = s.smb ∧ (State.hostValue s target v).avs = s.avs ∧ (State.hostValue s target v).tap = s.tap ∧
    (State.hostValue s target v).pub = s.pub ∧ (State.hostValue s target v).freeCtr = s.freeCtr ∧
    (State.hostValue s target v).pending = s.pending := by
  refine ⟨?_, ?_, ?_, ?_, ?_, ?_, ?_, ?_, ?_, ?_⟩ <;> (first | rfl | (simp (maxDischargeDepth := 12) [State.hostValue]; done) | (unfold State.hostValue; (try dsimp only); repeat' (first | rfl | (simp (maxDischargeDepth := 12); done) | split)))

end Sys2Proof.Machine
end

