-- ==== Sys2Proof/Laws/FramesRingRegs.lean ====
section
/-! SUPPORT. The fields of State that the operations of Machine/RingRegs.lean leave alone. -/

set_option linter.unusedSimpArgs false
set_option linter.unusedVariables false

namespace Sys2Proof.Machine

@[simp] theorem State_updCr_keeps0 (s : State) (i : Nat) (f : Ring → Ring) :
    (State.updCr s i f).otp = s.otp ∧ (State.updCr s i f).start = s.start ∧ (State.updCr s i f).clk = s.clk ∧
    (State.updCr s i f).win = s.win ∧ (State.updCr s i f).cells = s.cells ∧ (State.updCr s i f).views = s.views ∧
    (State.updCr s i f).chains = s.chains ∧ (State.updCr s i f).creg = s.creg ∧ (State.updCr s i f).eng = s.eng ∧
    (State.updCr s i f).doms = s.doms ∧ (State.updCr s i f).lanes = s.lanes := by
  refine ⟨?_, ?_, ?_, ?_, ?_, ?_, ?_, ?_, ?_, ?_, ?_⟩ <;> (first | rfl | (simp (maxDischargeDepth := 12) [State.updCr]; done) | (unfold State.updCr; (try dsimp only); repeat' (first | rfl | (simp (maxDischargeDepth := 12); done) | split)))

@[simp] theorem State_updCr_keeps1 (s : State) (i : Nat) (f : Ring → Ring) :
    (State.updCr s i f).sense = s.sense ∧ (State.updCr s i f).dscs = s.dscs ∧ (State.updCr s i f).hkcs = s.hkcs ∧
    (State.updCr s i f).tallies = s.tallies ∧ (State.updCr s i f).ledger = s.ledger ∧ (State.updCr s i f).tiles = s.tiles ∧
    (State.updCr s i f).accts = s.accts ∧ (State.updCr s i f).limits = s.limits ∧ (State.updCr s i f).pace = s.pace ∧
    (State.updCr s i f).therm = s.therm ∧ (State.updCr s i f).diodes = s.diodes := by
  refine ⟨?_, ?_, ?_, ?_, ?_, ?_, ?_, ?_, ?_, ?_, ?_⟩ <;> (first | rfl | (simp (maxDischargeDepth := 12) [State.updCr]; done) | (unfold State.updCr; (try dsimp only); repeat' (first | rfl | (simp (maxDischargeDepth := 12); done) | split)))

@[simp] theorem State_updCr_keeps2 (s : State) (i : Nat) (f : Ring → Ring) :
    (State.updCr s i f).stopq = s.stopq ∧ (State.updCr s i f).flt = s.flt ∧ (State.updCr s i f).warden = s.warden ∧
    (State.updCr s i f).policy = s.policy ∧ (State.updCr s i f).smb = s.smb ∧ (State.updCr s i f).avs = s.avs ∧
    (State.updCr s i f).tap = s.tap ∧ (State.updCr s i f).pub = s.pub ∧ (State.updCr s i f).freeCtr = s.freeCtr ∧
    (State.updCr s i f).pending = s.pending := by
  refine ⟨?_, ?_, ?_, ?_, ?_, ?_, ?_, ?_, ?_, ?_⟩ <;> (first | rfl | (simp (maxDischargeDepth := 12) [State.updCr]; done) | (unfold State.updCr; (try dsimp only); repeat' (first | rfl | (simp (maxDischargeDepth := 12); done) | split)))

@[simp] theorem State_updPr_keeps0 (s : State) (p : Nat) (f : Ring → Ring) :
    (State.updPr s p f).otp = s.otp ∧ (State.updPr s p f).start = s.start ∧ (State.updPr s p f).clk = s.clk ∧
    (State.updPr s p f).win = s.win ∧ (State.updPr s p f).cells = s.cells ∧ (State.updPr s p f).views = s.views ∧
    (State.updPr s p f).chains = s.chains ∧ (State.updPr s p f).creg = s.creg ∧ (State.updPr s p f).eng = s.eng ∧
    (State.updPr s p f).doms = s.doms ∧ (State.updPr s p f).lanes = s.lanes := by
  refine ⟨?_, ?_, ?_, ?_, ?_, ?_, ?_, ?_, ?_, ?_, ?_⟩ <;> (first | rfl | (simp (maxDischargeDepth := 12) [State.updPr]; done) | (unfold State.updPr; (try dsimp only); repeat' (first | rfl | (simp (maxDischargeDepth := 12); done) | split)))

@[simp] theorem State_updPr_keeps1 (s : State) (p : Nat) (f : Ring → Ring) :
    (State.updPr s p f).sense = s.sense ∧ (State.updPr s p f).dscs = s.dscs ∧ (State.updPr s p f).hkcs = s.hkcs ∧
    (State.updPr s p f).tallies = s.tallies ∧ (State.updPr s p f).ledger = s.ledger ∧ (State.updPr s p f).tiles = s.tiles ∧
    (State.updPr s p f).accts = s.accts ∧ (State.updPr s p f).limits = s.limits ∧ (State.updPr s p f).pace = s.pace ∧
    (State.updPr s p f).therm = s.therm ∧ (State.updPr s p f).diodes = s.diodes := by
  refine ⟨?_, ?_, ?_, ?_, ?_, ?_, ?_, ?_, ?_, ?_, ?_⟩ <;> (first | rfl | (simp (maxDischargeDepth := 12) [State.updPr]; done) | (unfold State.updPr; (try dsimp only); repeat' (first | rfl | (simp (maxDischargeDepth := 12); done) | split)))

@[simp] theorem State_updPr_keeps2 (s : State) (p : Nat) (f : Ring → Ring) :
    (State.updPr s p f).stopq = s.stopq ∧ (State.updPr s p f).flt = s.flt ∧ (State.updPr s p f).warden = s.warden ∧
    (State.updPr s p f).policy = s.policy ∧ (State.updPr s p f).smb = s.smb ∧ (State.updPr s p f).avs = s.avs ∧
    (State.updPr s p f).tap = s.tap ∧ (State.updPr s p f).pub = s.pub ∧ (State.updPr s p f).freeCtr = s.freeCtr ∧
    (State.updPr s p f).pending = s.pending := by
  refine ⟨?_, ?_, ?_, ?_, ?_, ?_, ?_, ?_, ?_, ?_⟩ <;> (first | rfl | (simp (maxDischargeDepth := 12) [State.updPr]; done) | (unfold State.updPr; (try dsimp only); repeat' (first | rfl | (simp (maxDischargeDepth := 12); done) | split)))

@[simp] theorem State_setIntake_keeps0 (s : State) (i : Nat) (l : List Desc) :
    (State.setIntake s i l).otp = s.otp ∧ (State.setIntake s i l).start = s.start ∧ (State.setIntake s i l).clk = s.clk ∧
    (State.setIntake s i l).win = s.win ∧ (State.setIntake s i l).cells = s.cells ∧ (State.setIntake s i l).views = s.views ∧
    (State.setIntake s i l).chains = s.chains ∧ (State.setIntake s i l).creg = s.creg ∧ (State.setIntake s i l).eng = s.eng ∧
    (State.setIntake s i l).doms = s.doms ∧ (State.setIntake s i l).lanes = s.lanes := by
  refine ⟨?_, ?_, ?_, ?_, ?_, ?_, ?_, ?_, ?_, ?_, ?_⟩ <;> (first | rfl | (simp (maxDischargeDepth := 12) [State.setIntake]; done) | (unfold State.setIntake; (try dsimp only); repeat' (first | rfl | (simp (maxDischargeDepth := 12); done) | split)))

@[simp] theorem State_setIntake_keeps1 (s : State) (i : Nat) (l : List Desc) :
    (State.setIntake s i l).sense = s.sense ∧ (State.setIntake s i l).dscs = s.dscs ∧ (State.setIntake s i l).hkcs = s.hkcs ∧
    (State.setIntake s i l).tallies = s.tallies ∧ (State.setIntake s i l).ledger = s.ledger ∧ (State.setIntake s i l).tiles = s.tiles ∧
    (State.setIntake s i l).accts = s.accts ∧ (State.setIntake s i l).limits = s.limits ∧ (State.setIntake s i l).pace = s.pace ∧
    (State.setIntake s i l).therm = s.therm ∧ (State.setIntake s i l).diodes = s.diodes := by
  refine ⟨?_, ?_, ?_, ?_, ?_, ?_, ?_, ?_, ?_, ?_, ?_⟩ <;> (first | rfl | (simp (maxDischargeDepth := 12) [State.setIntake]; done) | (unfold State.setIntake; (try dsimp only); repeat' (first | rfl | (simp (maxDischargeDepth := 12); done) | split)))

@[simp] theorem State_setIntake_keeps2 (s : State) (i : Nat) (l : List Desc) :
    (State.setIntake s i l).stopq = s.stopq ∧ (State.setIntake s i l).flt = s.flt ∧ (State.setIntake s i l).warden = s.warden ∧
    (State.setIntake s i l).policy = s.policy ∧ (State.setIntake s i l).smb = s.smb ∧ (State.setIntake s i l).avs = s.avs ∧
    (State.setIntake s i l).tap = s.tap ∧ (State.setIntake s i l).pub = s.pub ∧ (State.setIntake s i l).freeCtr = s.freeCtr ∧
    (State.setIntake s i l).pending = s.pending := by
  refine ⟨?_, ?_, ?_, ?_, ?_, ?_, ?_, ?_, ?_, ?_⟩ <;> (first | rfl | (simp (maxDischargeDepth := 12) [State.setIntake]; done) | (unfold State.setIntake; (try dsimp only); repeat' (first | rfl | (simp (maxDischargeDepth := 12); done) | split)))

@[simp] theorem State_issueFetch_keeps0 (s : State) (i : Nat) :
    (State.issueFetch s i).otp = s.otp ∧ (State.issueFetch s i).start = s.start ∧ (State.issueFetch s i).clk = s.clk ∧
    (State.issueFetch s i).win = s.win ∧ (State.issueFetch s i).cells = s.cells ∧ (State.issueFetch s i).views = s.views ∧
    (State.issueFetch s i).chains = s.chains ∧ (State.issueFetch s i).creg = s.creg ∧ (State.issueFetch s i).eng = s.eng ∧
    (State.issueFetch s i).doms = s.doms ∧ (State.issueFetch s i).lanes = s.lanes := by
  refine ⟨?_, ?_, ?_, ?_, ?_, ?_, ?_, ?_, ?_, ?_, ?_⟩ <;> (first | rfl | (simp (maxDischargeDepth := 12) [State.issueFetch]; done) | (unfold State.issueFetch; (try dsimp only); repeat' (first | rfl | (simp (maxDischargeDepth := 12); done) | split)))

@[simp] theorem State_issueFetch_keeps1 (s : State) (i : Nat) :
    (State.issueFetch s i).sense = s.sense ∧ (State.issueFetch s i).dscs = s.dscs ∧ (State.issueFetch s i).hkcs = s.hkcs ∧
    (State.issueFetch s i).tallies = s.tallies ∧ (State.issueFetch s i).ledger = s.ledger ∧ (State.issueFetch s i).tiles = s.tiles ∧
    (State.issueFetch s i).accts = s.accts ∧ (State.issueFetch s i).limits = s.limits ∧ (State.issueFetch s i).pace = s.pace ∧
    (State.issueFetch s i).therm = s.therm ∧ (State.issueFetch s i).diodes = s.diodes := by
  refine ⟨?_, ?_, ?_, ?_, ?_, ?_, ?_, ?_, ?_, ?_, ?_⟩ <;> (first | rfl | (simp (maxDischargeDepth := 12) [State.issueFetch]; done) | (unfold State.issueFetch; (try dsimp only); repeat' (first | rfl | (simp (maxDischargeDepth := 12); done) | split)))

@[simp] theorem State_issueFetch_keeps2 (s : State) (i : Nat) :
    (State.issueFetch s i).stopq = s.stopq ∧ (State.issueFetch s i).flt = s.flt ∧ (State.issueFetch s i).warden = s.warden ∧
    (State.issueFetch s i).policy = s.policy ∧ (State.issueFetch s i).smb = s.smb ∧ (State.issueFetch s i).avs = s.avs ∧
    (State.issueFetch s i).tap = s.tap ∧ (State.issueFetch s i).pub = s.pub ∧ (State.issueFetch s i).freeCtr = s.freeCtr ∧
    (State.issueFetch s i).pending = s.pending := by
  refine ⟨?_, ?_, ?_, ?_, ?_, ?_, ?_, ?_, ?_, ?_⟩ <;> (first | rfl | (simp (maxDischargeDepth := 12) [State.issueFetch]; done) | (unfold State.issueFetch; (try dsimp only); repeat' (first | rfl | (simp (maxDischargeDepth := 12); done) | split)))

@[simp] theorem State_issueFetches_keeps0 (s : State) :
    (State.issueFetches s).otp = s.otp ∧ (State.issueFetches s).start = s.start ∧ (State.issueFetches s).clk = s.clk ∧
    (State.issueFetches s).win = s.win ∧ (State.issueFetches s).cells = s.cells ∧ (State.issueFetches s).views = s.views ∧
    (State.issueFetches s).chains = s.chains ∧ (State.issueFetches s).creg = s.creg ∧ (State.issueFetches s).eng = s.eng ∧
    (State.issueFetches s).doms = s.doms ∧ (State.issueFetches s).lanes = s.lanes := by
  refine ⟨?_, ?_, ?_, ?_, ?_, ?_, ?_, ?_, ?_, ?_, ?_⟩ <;> (first | rfl | (simp (maxDischargeDepth := 12) [State.issueFetches]; done) | (unfold State.issueFetches; (try dsimp only); repeat' (first | rfl | (simp (maxDischargeDepth := 12); done) | split)))

@[simp] theorem State_issueFetches_keeps1 (s : State) :
    (State.issueFetches s).sense = s.sense ∧ (State.issueFetches s).dscs = s.dscs ∧ (State.issueFetches s).hkcs = s.hkcs ∧
    (State.issueFetches s).tallies = s.tallies ∧ (State.issueFetches s).ledger = s.ledger ∧ (State.issueFetches s).tiles = s.tiles ∧
    (State.issueFetches s).accts = s.accts ∧ (State.issueFetches s).limits = s.limits ∧ (State.issueFetches s).pace = s.pace ∧
    (State.issueFetches s).therm = s.therm ∧ (State.issueFetches s).diodes = s.diodes := by
  refine ⟨?_, ?_, ?_, ?_, ?_, ?_, ?_, ?_, ?_, ?_, ?_⟩ <;> (first | rfl | (simp (maxDischargeDepth := 12) [State.issueFetches]; done) | (unfold State.issueFetches; (try dsimp only); repeat' (first | rfl | (simp (maxDischargeDepth := 12); done) | split)))

@[simp] theorem State_issueFetches_keeps2 (s : State) :
    (State.issueFetches s).stopq = s.stopq ∧ (State.issueFetches s).flt = s.flt ∧ (State.issueFetches s).warden = s.warden ∧
    (State.issueFetches s).policy = s.policy ∧ (State.issueFetches s).smb = s.smb ∧ (State.issueFetches s).avs = s.avs ∧
    (State.issueFetches s).tap = s.tap ∧ (State.issueFetches s).pub = s.pub ∧ (State.issueFetches s).freeCtr = s.freeCtr ∧
    (State.issueFetches s).pending = s.pending := by
  refine ⟨?_, ?_, ?_, ?_, ?_, ?_, ?_, ?_, ?_, ?_⟩ <;> (first | rfl | (simp (maxDischargeDepth := 12) [State.issueFetches]; done) | (unfold State.issueFetches; (try dsimp only); repeat' (first | rfl | (simp (maxDischargeDepth := 12); done) | split)))

@[simp] theorem State_updRing_keeps0 (s : State) (obj : Nat) (f : Ring → Ring) :
    (State.updRing s obj f).otp = s.otp ∧ (State.updRing s obj f).start = s.start ∧ (State.updRing s obj f).clk = s.clk ∧
    (State.updRing s obj f).win = s.win ∧ (State.updRing s obj f).cells = s.cells ∧ (State.updRing s obj f).views = s.views ∧
    (State.updRing s obj f).chains = s.chains ∧ (State.updRing s obj f).creg = s.creg ∧ (State.updRing s obj f).eng = s.eng ∧
    (State.updRing s obj f).doms = s.doms ∧ (State.updRing s obj f).lanes = s.lanes := by
  refine ⟨?_, ?_, ?_, ?_, ?_, ?_, ?_, ?_, ?_, ?_, ?_⟩ <;> (first | rfl | (simp (maxDischargeDepth := 12) [State.updRing]; done) | (unfold State.updRing; (try dsimp only); repeat' (first | rfl | (simp (maxDischargeDepth := 12); done) | split)))

@[simp] theorem State_updRing_keeps1 (s : State) (obj : Nat) (f : Ring → Ring) :
    (State.updRing s obj f).sense = s.sense ∧ (State.updRing s obj f).dscs = s.dscs ∧ (State.updRing s obj f).hkcs = s.hkcs ∧
    (State.updRing s obj f).tallies = s.tallies ∧ (State.updRing s obj f).ledger = s.ledger ∧ (State.updRing s obj f).tiles = s.tiles ∧
    (State.updRing s obj f).accts = s.accts ∧ (State.updRing s obj f).limits = s.limits ∧ (State.updRing s obj f).pace = s.pace ∧
    (State.updRing s obj f).therm = s.therm ∧ (State.updRing s obj f).diodes = s.diodes := by
  refine ⟨?_, ?_, ?_, ?_, ?_, ?_, ?_, ?_, ?_, ?_, ?_⟩ <;> (first | rfl | (simp (maxDischargeDepth := 12) [State.updRing]; done) | (unfold State.updRing; (try dsimp only); repeat' (first | rfl | (simp (maxDischargeDepth := 12); done) | split)))

@[simp] theorem State_updRing_keeps2 (s : State) (obj : Nat) (f : Ring → Ring) :
    (State.updRing s obj f).stopq = s.stopq ∧ (State.updRing s obj f).flt = s.flt ∧ (State.updRing s obj f).warden = s.warden ∧
    (State.updRing s obj f).policy = s.policy ∧ (State.updRing s obj f).smb = s.smb ∧ (State.updRing s obj f).avs = s.avs ∧
    (State.updRing s obj f).tap = s.tap ∧ (State.updRing s obj f).pub = s.pub ∧ (State.updRing s obj f).freeCtr = s.freeCtr ∧
    (State.updRing s obj f).pending = s.pending := by
  refine ⟨?_, ?_, ?_, ?_, ?_, ?_, ?_, ?_, ?_, ?_⟩ <;> (first | rfl | (simp (maxDischargeDepth := 12) [State.updRing]; done) | (unfold State.updRing; (try dsimp only); repeat' (first | rfl | (simp (maxDischargeDepth := 12); done) | split)))

@[simp] theorem State_ringCtrlWrite_keeps0 (s : State) (v : Word) :
    (State.ringCtrlWrite s v).otp = s.otp ∧ (State.ringCtrlWrite s v).start = s.start ∧ (State.ringCtrlWrite s v).clk = s.clk ∧
    (State.ringCtrlWrite s v).win = s.win ∧ (State.ringCtrlWrite s v).cells = s.cells ∧ (State.ringCtrlWrite s v).views = s.views ∧
    (State.ringCtrlWrite s v).chains = s.chains ∧ (State.ringCtrlWrite s v).creg = s.creg ∧ (State.ringCtrlWrite s v).eng = s.eng ∧
    (State.ringCtrlWrite s v).doms = s.doms ∧ (State.ringCtrlWrite s v).lanes = s.lanes := by
  refine ⟨?_, ?_, ?_, ?_, ?_, ?_, ?_, ?_, ?_, ?_, ?_⟩ <;> (first | rfl | (simp (maxDischargeDepth := 12) [State.ringCtrlWrite]; done) | (unfold State.ringCtrlWrite; (try dsimp only); repeat' (first | rfl | (simp (maxDischargeDepth := 12); done) | split)))

@[simp] theorem State_ringCtrlWrite_keeps1 (s : State) (v : Word) :
    (State.ringCtrlWrite s v).sense = s.sense ∧ (State.ringCtrlWrite s v).dscs = s.dscs ∧ (State.ringCtrlWrite s v).hkcs = s.hkcs ∧
    (State.ringCtrlWrite s v).tallies = s.tallies ∧ (State.ringCtrlWrite s v).ledger = s.ledger ∧
    (State.ringCtrlWrite s v).tiles = s.tiles ∧ (State.ringCtrlWrite s v).accts = s.accts ∧ (State.ringCtrlWrite s v).limits = s.limits ∧
    (State.ringCtrlWrite s v).pace = s.pace ∧ (State.ringCtrlWrite s v).therm = s.therm ∧ (State.ringCtrlWrite s v).diodes = s.diodes := by
  refine ⟨?_, ?_, ?_, ?_, ?_, ?_, ?_, ?_, ?_, ?_, ?_⟩ <;> (first | rfl | (simp (maxDischargeDepth := 12) [State.ringCtrlWrite]; done) | (unfold State.ringCtrlWrite; (try dsimp only); repeat' (first | rfl | (simp (maxDischargeDepth := 12); done) | split)))

@[simp] theorem State_ringCtrlWrite_keeps2 (s : State) (v : Word) :
    (State.ringCtrlWrite s v).stopq = s.stopq ∧ (State.ringCtrlWrite s v).warden = s.warden ∧
    (State.ringCtrlWrite s v).policy = s.policy ∧ (State.ringCtrlWrite s v).smb = s.smb ∧ (State.ringCtrlWrite s v).avs = s.avs ∧
    (State.ringCtrlWrite s v).tap = s.tap ∧ (State.ringCtrlWrite s v).pub = s.pub ∧ (State.ringCtrlWrite s v).freeCtr = s.freeCtr ∧
    (State.ringCtrlWrite s v).pending = s.pending := by
  refine ⟨?_, ?_, ?_, ?_, ?_, ?_, ?_, ?_, ?_⟩ <;> (first | rfl | (simp (maxDischargeDepth := 12) [State.ringCtrlWrite]; done) | (unfold State.ringCtrlWrite; (try dsimp only); repeat' (first | rfl | (simp (maxDischargeDepth := 12); done) | split)))

@[simp] theorem State_signalVec_keeps0 (s : State) (v : Nat) (now : Bool) :
    (State.signalVec s v now).otp = s.otp ∧ (State.signalVec s v now).start = s.start ∧ (State.signalVec s v now).clk = s.clk ∧
    (State.signalVec s v now).win = s.win ∧ (State.signalVec s v now).cells = s.cells ∧ (State.signalVec s v now).views = s.views ∧
    (State.signalVec s v now).chains = s.chains ∧ (State.signalVec s v now).creg = s.creg ∧ (State.signalVec s v now).eng = s.eng ∧
    (State.signalVec s v now).doms = s.doms ∧ (State.signalVec s v now).lanes = s.lanes := by
  refine ⟨?_, ?_, ?_, ?_, ?_, ?_, ?_, ?_, ?_, ?_, ?_⟩ <;> (first | rfl | (simp (maxDischargeDepth := 12) [State.signalVec]; done) | (unfold State.signalVec; (try dsimp only); repeat' (first | rfl | (simp (maxDischargeDepth := 12); done) | split)))

@[simp] theorem State_signalVec_keeps1 (s : State) (v : Nat) (now : Bool) :
    (State.signalVec s v now).sense = s.sense ∧ (State.signalVec s v now).dscs = s.dscs ∧ (State.signalVec s v now).hkcs = s.hkcs ∧
    (State.signalVec s v now).tallies = s.tallies ∧ (State.signalVec s v now).ledger = s.ledger ∧
    (State.signalVec s v now).tiles = s.tiles ∧ (State.signalVec s v now).accts = s.accts ∧ (State.signalVec s v now).limits = s.limits ∧
    (State.signalVec s v now).pace = s.pace ∧ (State.signalVec s v now).therm = s.therm ∧ (State.signalVec s v now).diodes = s.diodes := by
  refine ⟨?_, ?_, ?_, ?_, ?_, ?_, ?_, ?_, ?_, ?_, ?_⟩ <;> (first | rfl | (simp (maxDischargeDepth := 12) [State.signalVec]; done) | (unfold State.signalVec; (try dsimp only); repeat' (first | rfl | (simp (maxDischargeDepth := 12); done) | split)))

@[simp] theorem State_signalVec_keeps2 (s : State) (v : Nat) (now : Bool) :
    (State.signalVec s v now).stopq = s.stopq ∧ (State.signalVec s v now).flt = s.flt ∧ (State.signalVec s v now).warden = s.warden ∧
    (State.signalVec s v now).policy = s.policy ∧ (State.signalVec s v now).smb = s.smb ∧ (State.signalVec s v now).avs = s.avs ∧
    (State.signalVec s v now).tap = s.tap ∧ (State.signalVec s v now).pub = s.pub ∧ (State.signalVec s v now).freeCtr = s.freeCtr ∧
    (State.signalVec s v now).pending = s.pending := by
  refine ⟨?_, ?_, ?_, ?_, ?_, ?_, ?_, ?_, ?_, ?_⟩ <;> (first | rfl | (simp (maxDischargeDepth := 12) [State.signalVec]; done) | (unfold State.signalVec; (try dsimp only); repeat' (first | rfl | (simp (maxDischargeDepth := 12); done) | split)))

@[simp] theorem State_complRefill_keeps0 (s : State) :
    (State.complRefill s).otp = s.otp ∧ (State.complRefill s).start = s.start ∧ (State.complRefill s).clk = s.clk ∧
    (State.complRefill s).win = s.win ∧ (State.complRefill s).cells = s.cells ∧ (State.complRefill s).views = s.views ∧
    (State.complRefill s).chains = s.chains ∧ (State.complRefill s).creg = s.creg ∧ (State.complRefill s).eng = s.eng ∧
    (State.complRefill s).doms = s.doms ∧ (State.complRefill s).lanes = s.lanes := by
  refine ⟨?_, ?_, ?_, ?_, ?_, ?_, ?_, ?_, ?_, ?_, ?_⟩ <;> (first | rfl | (simp (maxDischargeDepth := 12) [State.complRefill]; done) | (unfold State.complRefill; (try dsimp only); repeat' (first | rfl | (simp (maxDischargeDepth := 12); done) | split)))

@[simp] theorem State_complRefill_keeps1 (s : State) :
    (State.complRefill s).sense = s.sense ∧ (State.complRefill s).dscs = s.dscs ∧ (State.complRefill s).hkcs = s.hkcs ∧
    (State.complRefill s).tallies = s.tallies ∧ (State.complRefill s).ledger = s.ledger ∧ (State.complRefill s).tiles = s.tiles ∧
    (State.complRefill s).accts = s.accts ∧ (State.complRefill s).limits = s.limits ∧ (State.complRefill s).pace = s.pace ∧
    (State.complRefill s).therm = s.therm ∧ (State.complRefill s).diodes = s.diodes := by
  refine ⟨?_, ?_, ?_, ?_, ?_, ?_, ?_, ?_, ?_, ?_, ?_⟩ <;> (first | rfl | (simp (maxDischargeDepth := 12) [State.complRefill]; done) | (unfold State.complRefill; (try dsimp only); repeat' (first | rfl | (simp (maxDischargeDepth := 12); done) | split)))

@[simp] theorem State_complRefill_keeps2 (s : State) :
    (State.complRefill s).stopq = s.stopq ∧ (State.complRefill s).flt = s.flt ∧ (State.complRefill s).warden = s.warden ∧
    (State.complRefill s).policy = s.policy ∧ (State.complRefill s).smb = s.smb ∧ (State.complRefill s).avs = s.avs ∧
    (State.complRefill s).tap = s.tap ∧ (State.complRefill s).pub = s.pub ∧ (State.complRefill s).freeCtr = s.freeCtr ∧
    (State.complRefill s).pending = s.pending := by
  refine ⟨?_, ?_, ?_, ?_, ?_, ?_, ?_, ?_, ?_, ?_⟩ <;> (first | rfl | (simp (maxDischargeDepth := 12) [State.complRefill]; done) | (unfold State.complRefill; (try dsimp only); repeat' (first | rfl | (simp (maxDischargeDepth := 12); done) | split)))

end Sys2Proof.Machine
end

