-- ==== Sys2Proof/Laws/FramesWindow.lean ====
section
/-! SUPPORT. The fields of State that the operations of Machine/Window.lean leave alone. -/

set_option linter.unusedSimpArgs false
set_option linter.unusedVariables false

namespace Sys2Proof.Machine

@[simp] theorem State_latchHi_keeps0 (s : State) (off : Nat) :
    (State.latchHi s off).otp = s.otp ∧ (State.latchHi s off).start = s.start ∧ (State.latchHi s off).win = s.win ∧
    (State.latchHi s off).cells = s.cells ∧ (State.latchHi s off).views = s.views ∧ (State.latchHi s off).chains = s.chains ∧
    (State.latchHi s off).creg = s.creg ∧ (State.latchHi s off).eng = s.eng ∧ (State.latchHi s off).doms = s.doms ∧
    (State.latchHi s off).lanes = s.lanes ∧ (State.latchHi s off).sense = s.sense := by
  refine ⟨?_, ?_, ?_, ?_, ?_, ?_, ?_, ?_, ?_, ?_, ?_⟩ <;> (first | rfl | (simp (maxDischargeDepth := 12) [State.latchHi]; done) | (unfold State.latchHi; (try dsimp only); repeat' (first | rfl | (simp (maxDischargeDepth := 12); done) | split)))

@[simp] theorem State_latchHi_keeps1 (s : State) (off : Nat) :
    (State.latchHi s off).dscs = s.dscs ∧ (State.latchHi s off).hkcs = s.hkcs ∧ (State.latchHi s off).tallies = s.tallies ∧
    (State.latchHi s off).tiles = s.tiles ∧ (State.latchHi s off).accts = s.accts ∧ (State.latchHi s off).limits = s.limits ∧
    (State.latchHi s off).therm = s.therm ∧ (State.latchHi s off).diodes = s.diodes ∧ (State.latchHi s off).stopq = s.stopq ∧
    (State.latchHi s off).flt = s.flt ∧ (State.latchHi s off).warden = s.warden := by
  refine ⟨?_, ?_, ?_, ?_, ?_, ?_, ?_, ?_, ?_, ?_, ?_⟩ <;> (first | rfl | (simp (maxDischargeDepth := 12) [State.latchHi]; done) | (unfold State.latchHi; (try dsimp only); repeat' (first | rfl | (simp (maxDischargeDepth := 12); done) | split)))

@[simp] theorem State_latchHi_keeps2 (s : State) (off : Nat) :
    (State.latchHi s off).policy = s.policy ∧ (State.latchHi s off).rings = s.rings ∧ (State.latchHi s off).smb = s.smb ∧
    (State.latchHi s off).avs = s.avs ∧ (State.latchHi s off).tap = s.tap ∧ (State.latchHi s off).pub = s.pub ∧
    (State.latchHi s off).freeCtr = s.freeCtr ∧ (State.latchHi s off).pending = s.pending := by
  refine ⟨?_, ?_, ?_, ?_, ?_, ?_, ?_, ?_⟩ <;> (first | rfl | (simp (maxDischargeDepth := 12) [State.latchHi]; done) | (unfold State.latchHi; (try dsimp only); repeat' (first | rfl | (simp (maxDischargeDepth := 12); done) | split)))

@[simp] theorem State_clearDscStat_keeps0 (s : State) (n : Nat) :
    (State.clearDscStat s n).otp = s.otp ∧ (State.clearDscStat s n).start = s.start ∧ (State.clearDscStat s n).clk = s.clk ∧
    (State.clearDscStat s n).win = s.win ∧ (State.clearDscStat s n).cells = s.cells ∧ (State.clearDscStat s n).views = s.views ∧
    (State.clearDscStat s n).chains = s.chains ∧ (State.clearDscStat s n).creg = s.creg ∧ (State.clearDscStat s n).eng = s.eng ∧
    (State.clearDscStat s n).doms = s.doms ∧ (State.clearDscStat s n).lanes = s.lanes := by
  refine ⟨?_, ?_, ?_, ?_, ?_, ?_, ?_, ?_, ?_, ?_, ?_⟩ <;> (first | rfl | (simp (maxDischargeDepth := 12) [State.clearDscStat]; done) | (unfold State.clearDscStat; (try dsimp only); repeat' (first | rfl | (simp (maxDischargeDepth := 12); done) | split)))

@[simp] theorem State_clearDscStat_keeps1 (s : State) (n : Nat) :
    (State.clearDscStat s n).sense = s.sense ∧ (State.clearDscStat s n).hkcs = s.hkcs ∧ (State.clearDscStat s n).tallies = s.tallies ∧
    (State.clearDscStat s n).tiles = s.tiles ∧ (State.clearDscStat s n).accts = s.accts ∧ (State.clearDscStat s n).limits = s.limits ∧
    (State.clearDscStat s n).pace = s.pace ∧ (State.clearDscStat s n).therm = s.therm ∧ (State.clearDscStat s n).diodes = s.diodes ∧
    (State.clearDscStat s n).stopq = s.stopq ∧ (State.clearDscStat s n).flt = s.flt := by
  refine ⟨?_, ?_, ?_, ?_, ?_, ?_, ?_, ?_, ?_, ?_, ?_⟩ <;> (first | rfl | (simp (maxDischargeDepth := 12) [State.clearDscStat]; done) | (unfold State.clearDscStat; (try dsimp only); repeat' (first | rfl | (simp (maxDischargeDepth := 12); done) | split)))

@[simp] theorem State_clearDscStat_keeps2 (s : State) (n : Nat) :
    (State.clearDscStat s n).warden = s.warden ∧ (State.clearDscStat s n).policy = s.policy ∧ (State.clearDscStat s n).rings = s.rings ∧
    (State.clearDscStat s n).smb = s.smb ∧ (State.clearDscStat s n).avs = s.avs ∧ (State.clearDscStat s n).tap = s.tap ∧
    (State.clearDscStat s n).freeCtr = s.freeCtr ∧ (State.clearDscStat s n).pending = s.pending := by
  refine ⟨?_, ?_, ?_, ?_, ?_, ?_, ?_, ?_⟩ <;> (first | rfl | (simp (maxDischargeDepth := 12) [State.clearDscStat]; done) | (unfold State.clearDscStat; (try dsimp only); repeat' (first | rfl | (simp (maxDischargeDepth := 12); done) | split)))

@[simp] theorem State_answer_keeps0 (s : State) (w : Word) (off : Nat) (size : Nat) :
    (State.answer s w off size).otp = s.otp ∧ (State.answer s w off size).start = s.start ∧ (State.answer s w off size).clk = s.clk ∧
    (State.answer s w off size).cells = s.cells ∧ (State.answer s w off size).views = s.views ∧
    (State.answer s w off size).chains = s.chains ∧ (State.answer s w off size).creg = s.creg ∧ (State.answer s w off size).eng = s.eng ∧
    (State.answer s w off size).doms = s.doms ∧ (State.answer s w off size).lanes = s.lanes ∧ (State.answer s w off size).sense = s.sense := by
  refine ⟨?_, ?_, ?_, ?_, ?_, ?_, ?_, ?_, ?_, ?_, ?_⟩ <;> (first | rfl | (simp (maxDischargeDepth := 12) [State.answer]; done) | (unfold State.answer; (try dsimp only); repeat' (first | rfl | (simp (maxDischargeDepth := 12); done) | split)))

@[simp] theorem State_answer_keeps1 (s : State) (w : Word) (off : Nat) (size : Nat) :
    (State.answer s w off size).dscs = s.dscs ∧ (State.answer s w off size).hkcs = s.hkcs ∧
    (State.answer s w off size).tallies = s.tallies ∧ (State.answer s w off size).ledger = s.ledger ∧
    (State.answer s w off size).tiles = s.tiles ∧ (State.answer s w off size).accts = s.accts ∧
    (State.answer s w off size).limits = s.limits ∧ (State.answer s w off size).pace = s.pace ∧
    (State.answer s w off size).therm = s.therm ∧ (State.answer s w off size).diodes = s.diodes ∧
    (State.answer s w off size).stopq = s.stopq := by
  refine ⟨?_, ?_, ?_, ?_, ?_, ?_, ?_, ?_, ?_, ?_, ?_⟩ <;> (first | rfl | (simp (maxDischargeDepth := 12) [State.answer]; done) | (unfold State.answer; (try dsimp only); repeat' (first | rfl | (simp (maxDischargeDepth := 12); done) | split)))

@[simp] theorem State_answer_keeps2 (s : State) (w : Word) (off : Nat) (size : Nat) :
    (State.answer s w off size).flt = s.flt ∧ (State.answer s w off size).warden = s.warden ∧
    (State.answer s w off size).policy = s.policy ∧ (State.answer s w off size).rings = s.rings ∧
    (State.answer s w off size).smb = s.smb ∧ (State.answer s w off size).avs = s.avs ∧ (State.answer s w off size).tap = s.tap ∧
    (State.answer s w off size).pub = s.pub ∧ (State.answer s w off size).freeCtr = s.freeCtr ∧
    (State.answer s w off size).pending = s.pending := by
  refine ⟨?_, ?_, ?_, ?_, ?_, ?_, ?_, ?_, ?_, ?_⟩ <;> (first | rfl | (simp (maxDischargeDepth := 12) [State.answer]; done) | (unfold State.answer; (try dsimp only); repeat' (first | rfl | (simp (maxDischargeDepth := 12); done) | split)))

@[simp] theorem State_fsrAsk_keeps (s : State) :
    (State.fsrAsk s).otp = s.otp ∧ (State.fsrAsk s).win = s.win ∧ (State.fsrAsk s).cells = s.cells ∧ (State.fsrAsk s).policy = s.policy ∧
    (State.fsrAsk s).smb = s.smb ∧ (State.fsrAsk s).avs = s.avs ∧ (State.fsrAsk s).tap = s.tap ∧ (State.fsrAsk s).freeCtr = s.freeCtr ∧
    (State.fsrAsk s).pending = s.pending := by
  refine ⟨?_, ?_, ?_, ?_, ?_, ?_, ?_, ?_, ?_⟩ <;> (first | rfl | (simp (maxDischargeDepth := 12) [State.fsrAsk]; done) | (unfold State.fsrAsk; (try dsimp only); repeat' (first | rfl | (simp (maxDischargeDepth := 12); done) | split)))

@[simp] theorem State_fsrWrite_keeps (s : State) (v : Word) :
    (State.fsrWrite s v).otp = s.otp ∧ (State.fsrWrite s v).win = s.win ∧ (State.fsrWrite s v).cells = s.cells ∧
    (State.fsrWrite s v).policy = s.policy ∧ (State.fsrWrite s v).smb = s.smb ∧ (State.fsrWrite s v).avs = s.avs ∧
    (State.fsrWrite s v).tap = s.tap ∧ (State.fsrWrite s v).freeCtr = s.freeCtr ∧ (State.fsrWrite s v).pending = s.pending := by
  refine ⟨?_, ?_, ?_, ?_, ?_, ?_, ?_, ?_, ?_⟩ <;> (first | rfl | (simp (maxDischargeDepth := 12) [State.fsrWrite]; done) | (unfold State.fsrWrite; (try dsimp only); repeat' (first | rfl | (simp (maxDischargeDepth := 12); done) | split)))

@[simp] theorem State_ledgerWrite_keeps0 (s : State) (off : Nat) (v : Word) :
    (State.ledgerWrite s off v).otp = s.otp ∧ (State.ledgerWrite s off v).start = s.start ∧ (State.ledgerWrite s off v).clk = s.clk ∧
    (State.ledgerWrite s off v).win = s.win ∧ (State.ledgerWrite s off v).cells = s.cells ∧ (State.ledgerWrite s off v).views = s.views ∧
    (State.ledgerWrite s off v).chains = s.chains ∧ (State.ledgerWrite s off v).creg = s.creg ∧ (State.ledgerWrite s off v).eng = s.eng ∧
    (State.ledgerWrite s off v).doms = s.doms ∧ (State.ledgerWrite s off v).lanes = s.lanes := by
  refine ⟨?_, ?_, ?_, ?_, ?_, ?_, ?_, ?_, ?_, ?_, ?_⟩ <;> (first | rfl | (simp (maxDischargeDepth := 12) [State.ledgerWrite]; done) | (unfold State.ledgerWrite; (try dsimp only); repeat' (first | rfl | (simp (maxDischargeDepth := 12); done) | split)))

@[simp] theorem State_ledgerWrite_keeps1 (s : State) (off : Nat) (v : Word) :
    (State.ledgerWrite s off v).sense = s.sense ∧ (State.ledgerWrite s off v).dscs = s.dscs ∧ (State.ledgerWrite s off v).hkcs = s.hkcs ∧
    (State.ledgerWrite s off v).tallies = s.tallies ∧ (State.ledgerWrite s off v).tiles = s.tiles ∧
    (State.ledgerWrite s off v).accts = s.accts ∧ (State.ledgerWrite s off v).limits = s.limits ∧
    (State.ledgerWrite s off v).pace = s.pace ∧ (State.ledgerWrite s off v).therm = s.therm ∧
    (State.ledgerWrite s off v).diodes = s.diodes ∧ (State.ledgerWrite s off v).stopq = s.stopq := by
  refine ⟨?_, ?_, ?_, ?_, ?_, ?_, ?_, ?_, ?_, ?_, ?_⟩ <;> (first | rfl | (simp (maxDischargeDepth := 12) [State.ledgerWrite]; done) | (unfold State.ledgerWrite; (try dsimp only); repeat' (first | rfl | (simp (maxDischargeDepth := 12); done) | split)))

@[simp] theorem State_ledgerWrite_keeps2 (s : State) (off : Nat) (v : Word) :
    (State.ledgerWrite s off v).flt = s.flt ∧ (State.ledgerWrite s off v).warden = s.warden ∧
    (State.ledgerWrite s off v).policy = s.policy ∧ (State.ledgerWrite s off v).rings = s.rings ∧
    (State.ledgerWrite s off v).smb = s.smb ∧ (State.ledgerWrite s off v).avs = s.avs ∧ (State.ledgerWrite s off v).tap = s.tap ∧
    (State.ledgerWrite s off v).pub = s.pub ∧ (State.ledgerWrite s off v).freeCtr = s.freeCtr ∧
    (State.ledgerWrite s off v).pending = s.pending := by
  refine ⟨?_, ?_, ?_, ?_, ?_, ?_, ?_, ?_, ?_, ?_⟩ <;> (first | rfl | (simp (maxDischargeDepth := 12) [State.ledgerWrite]; done) | (unfold State.ledgerWrite; (try dsimp only); repeat' (first | rfl | (simp (maxDischargeDepth := 12); done) | split)))

@[simp] theorem State_lawRegWrite_keeps0 (s : State) (off : Nat) (v : Word) :
    (State.lawRegWrite s off v).otp = s.otp ∧ (State.lawRegWrite s off v).start = s.start ∧ (State.lawRegWrite s off v).clk = s.clk ∧
    (State.lawRegWrite s off v).win = s.win ∧ (State.lawRegWrite s off v).cells = s.cells ∧ (State.lawRegWrite s off v).views = s.views ∧
    (State.lawRegWrite s off v).chains = s.chains ∧ (State.lawRegWrite s off v).creg = s.creg ∧
    (State.lawRegWrite s off v).doms = s.doms ∧ (State.lawRegWrite s off v).lanes = s.lanes ∧ (State.lawRegWrite s off v).sense = s.sense := by
  refine ⟨?_, ?_, ?_, ?_, ?_, ?_, ?_, ?_, ?_, ?_, ?_⟩ <;> (first | rfl | (simp (maxDischargeDepth := 12) [State.lawRegWrite]; done) | (unfold State.lawRegWrite; (try dsimp only); repeat' (first | rfl | (simp (maxDischargeDepth := 12); done) | split)))

@[simp] theorem State_lawRegWrite_keeps1 (s : State) (off : Nat) (v : Word) :
    (State.lawRegWrite s off v).dscs = s.dscs ∧ (State.lawRegWrite s off v).hkcs = s.hkcs ∧
    (State.lawRegWrite s off v).tallies = s.tallies ∧ (State.lawRegWrite s off v).ledger = s.ledger ∧
    (State.lawRegWrite s off v).tiles = s.tiles ∧ (State.lawRegWrite s off v).accts = s.accts ∧
    (State.lawRegWrite s off v).limits = s.limits ∧ (State.lawRegWrite s off v).pace = s.pace ∧
    (State.lawRegWrite s off v).therm = s.therm ∧ (State.lawRegWrite s off v).diodes = s.diodes ∧
    (State.lawRegWrite s off v).stopq = s.stopq := by
  refine ⟨?_, ?_, ?_, ?_, ?_, ?_, ?_, ?_, ?_, ?_, ?_⟩ <;> (first | rfl | (simp (maxDischargeDepth := 12) [State.lawRegWrite]; done) | (unfold State.lawRegWrite; (try dsimp only); repeat' (first | rfl | (simp (maxDischargeDepth := 12); done) | split)))

@[simp] theorem State_lawRegWrite_keeps2 (s : State) (off : Nat) (v : Word) :
    (State.lawRegWrite s off v).flt = s.flt ∧ (State.lawRegWrite s off v).warden = s.warden ∧
    (State.lawRegWrite s off v).policy = s.policy ∧ (State.lawRegWrite s off v).rings = s.rings ∧
    (State.lawRegWrite s off v).smb = s.smb ∧ (State.lawRegWrite s off v).avs = s.avs ∧ (State.lawRegWrite s off v).tap = s.tap ∧
    (State.lawRegWrite s off v).pub = s.pub ∧ (State.lawRegWrite s off v).freeCtr = s.freeCtr ∧
    (State.lawRegWrite s off v).pending = s.pending := by
  refine ⟨?_, ?_, ?_, ?_, ?_, ?_, ?_, ?_, ?_, ?_⟩ <;> (first | rfl | (simp (maxDischargeDepth := 12) [State.lawRegWrite]; done) | (unfold State.lawRegWrite; (try dsimp only); repeat' (first | rfl | (simp (maxDischargeDepth := 12); done) | split)))

@[simp] theorem State_updStaging_keeps0 (s : State) (f : SeqSet → SeqSet) :
    (State.updStaging s f).otp = s.otp ∧ (State.updStaging s f).start = s.start ∧ (State.updStaging s f).clk = s.clk ∧
    (State.updStaging s f).win = s.win ∧ (State.updStaging s f).cells = s.cells ∧ (State.updStaging s f).views = s.views ∧
    (State.updStaging s f).chains = s.chains ∧ (State.updStaging s f).creg = s.creg ∧ (State.updStaging s f).eng = s.eng ∧
    (State.updStaging s f).doms = s.doms ∧ (State.updStaging s f).lanes = s.lanes := by
  refine ⟨?_, ?_, ?_, ?_, ?_, ?_, ?_, ?_, ?_, ?_, ?_⟩ <;> (first | rfl | (simp (maxDischargeDepth := 12) [State.updStaging]; done) | (unfold State.updStaging; (try dsimp only); repeat' (first | rfl | (simp (maxDischargeDepth := 12); done) | split)))

@[simp] theorem State_updStaging_keeps1 (s : State) (f : SeqSet → SeqSet) :
    (State.updStaging s f).sense = s.sense ∧ (State.updStaging s f).hkcs = s.hkcs ∧ (State.updStaging s f).tallies = s.tallies ∧
    (State.updStaging s f).ledger = s.ledger ∧ (State.updStaging s f).tiles = s.tiles ∧ (State.updStaging s f).accts = s.accts ∧
    (State.updStaging s f).limits = s.limits ∧ (State.updStaging s f).pace = s.pace ∧ (State.updStaging s f).therm = s.therm ∧
    (State.updStaging s f).diodes = s.diodes ∧ (State.updStaging s f).stopq = s.stopq := by
  refine ⟨?_, ?_, ?_, ?_, ?_, ?_, ?_, ?_, ?_, ?_, ?_⟩ <;> (first | rfl | (simp (maxDischargeDepth := 12) [State.updStaging]; done) | (unfold State.updStaging; (try dsimp only); repeat' (first | rfl | (simp (maxDischargeDepth := 12); done) | split)))

@[simp] theorem State_updStaging_keeps2 (s : State) (f : SeqSet → SeqSet) :
    (State.updStaging s f).flt = s.flt ∧ (State.updStaging s f).warden = s.warden ∧ (State.updStaging s f).policy = s.policy ∧
    (State.updStaging s f).rings = s.rings ∧ (State.updStaging s f).smb = s.smb ∧ (State.updStaging s f).avs = s.avs ∧
    (State.updStaging s f).tap = s.tap ∧ (State.updStaging s f).pub = s.pub ∧ (State.updStaging s f).freeCtr = s.freeCtr ∧
    (State.updStaging s f).pending = s.pending := by
  refine ⟨?_, ?_, ?_, ?_, ?_, ?_, ?_, ?_, ?_, ?_⟩ <;> (first | rfl | (simp (maxDischargeDepth := 12) [State.updStaging]; done) | (unfold State.updStaging; (try dsimp only); repeat' (first | rfl | (simp (maxDischargeDepth := 12); done) | split)))

@[simp] theorem State_setReact_keeps0 (s : State) (src : Nat) (v : Nat) :
    (State.setReact s src v).otp = s.otp ∧ (State.setReact s src v).start = s.start ∧ (State.setReact s src v).clk = s.clk ∧
    (State.setReact s src v).win = s.win ∧ (State.setReact s src v).cells = s.cells ∧ (State.setReact s src v).views = s.views ∧
    (State.setReact s src v).chains = s.chains ∧ (State.setReact s src v).creg = s.creg ∧ (State.setReact s src v).eng = s.eng ∧
    (State.setReact s src v).doms = s.doms ∧ (State.setReact s src v).lanes = s.lanes := by
  refine ⟨?_, ?_, ?_, ?_, ?_, ?_, ?_, ?_, ?_, ?_, ?_⟩ <;> (first | rfl | (simp (maxDischargeDepth := 12) [State.setReact]; done) | (unfold State.setReact; (try dsimp only); repeat' (first | rfl | (simp (maxDischargeDepth := 12); done) | split)))

@[simp] theorem State_setReact_keeps1 (s : State) (src : Nat) (v : Nat) :
    (State.setReact s src v).sense = s.sense ∧ (State.setReact s src v).dscs = s.dscs ∧ (State.setReact s src v).hkcs = s.hkcs ∧
    (State.setReact s src v).tallies = s.tallies ∧ (State.setReact s src v).ledger = s.ledger ∧ (State.setReact s src v).tiles = s.tiles ∧
    (State.setReact s src v).accts = s.accts ∧ (State.setReact s src v).limits = s.limits ∧ (State.setReact s src v).pace = s.pace ∧
    (State.setReact s src v).therm = s.therm ∧ (State.setReact s src v).diodes = s.diodes := by
  refine ⟨?_, ?_, ?_, ?_, ?_, ?_, ?_, ?_, ?_, ?_, ?_⟩ <;> (first | rfl | (simp (maxDischargeDepth := 12) [State.setReact]; done) | (unfold State.setReact; (try dsimp only); repeat' (first | rfl | (simp (maxDischargeDepth := 12); done) | split)))

@[simp] theorem State_setReact_keeps2 (s : State) (src : Nat) (v : Nat) :
    (State.setReact s src v).stopq = s.stopq ∧ (State.setReact s src v).warden = s.warden ∧ (State.setReact s src v).policy = s.policy ∧
    (State.setReact s src v).rings = s.rings ∧ (State.setReact s src v).smb = s.smb ∧ (State.setReact s src v).avs = s.avs ∧
    (State.setReact s src v).tap = s.tap ∧ (State.setReact s src v).pub = s.pub ∧ (State.setReact s src v).freeCtr = s.freeCtr ∧
    (State.setReact s src v).pending = s.pending := by
  refine ⟨?_, ?_, ?_, ?_, ?_, ?_, ?_, ?_, ?_, ?_⟩ <;> (first | rfl | (simp (maxDischargeDepth := 12) [State.setReact]; done) | (unfold State.setReact; (try dsimp only); repeat' (first | rfl | (simp (maxDischargeDepth := 12); done) | split)))

@[simp] theorem State_clearPend_keeps0 (s : State) (mask : Nat) :
    (State.clearPend s mask).otp = s.otp ∧ (State.clearPend s mask).start = s.start ∧ (State.clearPend s mask).clk = s.clk ∧
    (State.clearPend s mask).win = s.win ∧ (State.clearPend s mask).cells = s.cells ∧ (State.clearPend s mask).views = s.views ∧
    (State.clearPend s mask).chains = s.chains ∧ (State.clearPend s mask).creg = s.creg ∧ (State.clearPend s mask).eng = s.eng ∧
    (State.clearPend s mask).doms = s.doms ∧ (State.clearPend s mask).lanes = s.lanes := by
  refine ⟨?_, ?_, ?_, ?_, ?_, ?_, ?_, ?_, ?_, ?_, ?_⟩ <;> (first | rfl | (simp (maxDischargeDepth := 12) [State.clearPend]; done) | (unfold State.clearPend; (try dsimp only); repeat' (first | rfl | (simp (maxDischargeDepth := 12); done) | split)))

@[simp] theorem State_clearPend_keeps1 (s : State) (mask : Nat) :
    (State.clearPend s mask).sense = s.sense ∧ (State.clearPend s mask).dscs = s.dscs ∧ (State.clearPend s mask).hkcs = s.hkcs ∧
    (State.clearPend s mask).tallies = s.tallies ∧ (State.clearPend s mask).ledger = s.ledger ∧ (State.clearPend s mask).tiles = s.tiles ∧
    (State.clearPend s mask).accts = s.accts ∧ (State.clearPend s mask).limits = s.limits ∧ (State.clearPend s mask).pace = s.pace ∧
    (State.clearPend s mask).therm = s.therm ∧ (State.clearPend s mask).diodes = s.diodes := by
  refine ⟨?_, ?_, ?_, ?_, ?_, ?_, ?_, ?_, ?_, ?_, ?_⟩ <;> (first | rfl | (simp (maxDischargeDepth := 12) [State.clearPend]; done) | (unfold State.clearPend; (try dsimp only); repeat' (first | rfl | (simp (maxDischargeDepth := 12); done) | split)))

@[simp] theorem State_clearPend_keeps2 (s : State) (mask : Nat) :
    (State.clearPend s mask).stopq = s.stopq ∧ (State.clearPend s mask).warden = s.warden ∧ (State.clearPend s mask).policy = s.policy ∧
    (State.clearPend s mask).rings = s.rings ∧ (State.clearPend s mask).smb = s.smb ∧ (State.clearPend s mask).avs = s.avs ∧
    (State.clearPend s mask).tap = s.tap ∧ (State.clearPend s mask).pub = s.pub ∧ (State.clearPend s mask).freeCtr = s.freeCtr ∧
    (State.clearPend s mask).pending = s.pending := by
  refine ⟨?_, ?_, ?_, ?_, ?_, ?_, ?_, ?_, ?_, ?_⟩ <;> (first | rfl | (simp (maxDischargeDepth := 12) [State.clearPend]; done) | (unfold State.clearPend; (try dsimp only); repeat' (first | rfl | (simp (maxDischargeDepth := 12); done) | split)))

@[simp] theorem State_ftWrite_keeps (s : State) (off : Nat) (v : Word) :
    (State.ftWrite s off v).otp = s.otp ∧ (State.ftWrite s off v).cells = s.cells ∧ (State.ftWrite s off v).smb = s.smb ∧
    (State.ftWrite s off v).avs = s.avs ∧ (State.ftWrite s off v).tap = s.tap ∧ (State.ftWrite s off v).freeCtr = s.freeCtr ∧
    (State.ftWrite s off v).pending = s.pending := by
  refine ⟨?_, ?_, ?_, ?_, ?_, ?_, ?_⟩ <;> (first | rfl | (simp (maxDischargeDepth := 12) [State.ftWrite]; done) | (unfold State.ftWrite; (try dsimp only); repeat' (first | rfl | (simp (maxDischargeDepth := 12); done) | split)))

end Sys2Proof.Machine
end

