-- ==== Sys2Proof/Laws/FramesHostCmds.lean ====
section
/-! SUPPORT. The fields of State that the operations of Machine/HostCmds.lean leave alone. -/

set_option linter.unusedSimpArgs false
set_option linter.unusedVariables false

namespace Sys2Proof.Machine

end Sys2Proof.Machine
end

