-- ==== Sys2Proof/Laws/FramesExecutor.lean ====
section
/-! SUPPORT. The fields of State that the operations of Machine/Executor.lean leave alone. -/

set_option linter.unusedSimpArgs false
set_option linter.unusedVariables false

namespace Sys2Proof.Machine

@[simp] theorem State_completeAll_keeps0 (s : State) (i : Nat) (l : List (Desc × Nat × Nat)) :
    (State.completeAll s i l).otp = s.otp ∧ (State.completeAll s i l).start = s.start ∧ (State.completeAll s i l).clk = s.clk ∧
    (State.completeAll s i l).win = s.win ∧ (State.completeAll s i l).cells = s.cells ∧ (State.completeAll s i l).views = s.views ∧
    (State.completeAll s i l).chains = s.chains ∧ (State.completeAll s i l).creg = s.creg ∧ (State.completeAll s i l).eng = s.eng ∧
    (State.completeAll s i l).doms = s.doms ∧ (State.completeAll s i l).lanes = s.lanes := by
  refine ⟨?_, ?_, ?_, ?_, ?_, ?_, ?_, ?_, ?_, ?_, ?_⟩ <;> (first | rfl | (simp (maxDischargeDepth := 12) [State.completeAll]; done) | (unfold State.completeAll; (try dsimp only); repeat' (first | rfl | (simp (maxDischargeDepth := 12); done) | split)))

@[simp] theorem State_completeAll_keeps1 (s : State) (i : Nat) (l : List (Desc × Nat × Nat)) :
    (State.completeAll s i l).sense = s.sense ∧ (State.completeAll s i l).dscs = s.dscs ∧ (State.completeAll s i l).hkcs = s.hkcs ∧
    (State.completeAll s i l).tallies = s.tallies ∧ (State.completeAll s i l).ledger = s.ledger ∧
    (State.completeAll s i l).tiles = s.tiles ∧ (State.completeAll s i l).accts = s.accts ∧ (State.completeAll s i l).limits = s.limits ∧
    (State.completeAll s i l).pace = s.pace ∧ (State.completeAll s i l).therm = s.therm ∧ (State.completeAll s i l).diodes = s.diodes := by
  refine ⟨?_, ?_, ?_, ?_, ?_, ?_, ?_, ?_, ?_, ?_, ?_⟩ <;> (first | rfl | (simp (maxDischargeDepth := 12) [State.completeAll]; done) | (unfold State.completeAll; (try dsimp only); repeat' (first | rfl | (simp (maxDischargeDepth := 12); done) | split)))

@[simp] theorem State_completeAll_keeps2 (s : State) (i : Nat) (l : List (Desc × Nat × Nat)) :
    (State.completeAll s i l).stopq = s.stopq ∧ (State.completeAll s i l).flt = s.flt ∧ (State.completeAll s i l).warden = s.warden ∧
    (State.completeAll s i l).policy = s.policy ∧ (State.completeAll s i l).smb = s.smb ∧ (State.completeAll s i l).avs = s.avs ∧
    (State.completeAll s i l).tap = s.tap ∧ (State.completeAll s i l).pub = s.pub ∧ (State.completeAll s i l).freeCtr = s.freeCtr ∧
    (State.completeAll s i l).pending = s.pending := by
  refine ⟨?_, ?_, ?_, ?_, ?_, ?_, ?_, ?_, ?_, ?_⟩ <;> (first | rfl | (simp (maxDischargeDepth := 12) [State.completeAll]; done) | (unfold State.completeAll; (try dsimp only); repeat' (first | rfl | (simp (maxDischargeDepth := 12); done) | split)))

end Sys2Proof.Machine
end

