-- ==== Sys2Proof/Laws/FramesFaultCmds.lean ====
section
/-! SUPPORT. The fields of State that the operations of Machine/FaultCmds.lean leave alone. -/

set_option linter.unusedSimpArgs false
set_option linter.unusedVariables false

namespace Sys2Proof.Machine

@[simp] theorem State_raiseNote_keeps0 (s : State) (src : Nat) (obj : Nat) :
    (State.raiseNote s src obj).otp = s.otp ∧ (State.raiseNote s src obj).start = s.start ∧ (State.raiseNote s src obj).clk = s.clk ∧
    (State.raiseNote s src obj).win = s.win ∧ (State.raiseNote s src obj).cells = s.cells ∧ (State.raiseNote s src obj).views = s.views ∧
    (State.raiseNote s src obj).chains = s.chains ∧ (State.raiseNote s src obj).creg = s.creg ∧ (State.raiseNote s src obj).eng = s.eng ∧
    (State.raiseNote s src obj).doms = s.doms ∧ (State.raiseNote s src obj).lanes = s.lanes := by
  refine ⟨?_, ?_, ?_, ?_, ?_, ?_, ?_, ?_, ?_, ?_, ?_⟩ <;> (first | rfl | (simp (maxDischargeDepth := 12) [State.raiseNote]; done) | (unfold State.raiseNote; (try dsimp only); repeat' (first | rfl | (simp (maxDischargeDepth := 12); done) | split)))

@[simp] theorem State_raiseNote_keeps1 (s : State) (src : Nat) (obj : Nat) :
    (State.raiseNote s src obj).sense = s.sense ∧ (State.raiseNote s src obj).hkcs = s.hkcs ∧
    (State.raiseNote s src obj).tallies = s.tallies ∧ (State.raiseNote s src obj).ledger = s.ledger ∧
    (State.raiseNote s src obj).tiles = s.tiles ∧ (State.raiseNote s src obj).accts = s.accts ∧
    (State.raiseNote s src obj).limits = s.limits ∧ (State.raiseNote s src obj).pace = s.pace ∧
    (State.raiseNote s src obj).therm = s.therm ∧ (State.raiseNote s src obj).diodes = s.diodes ∧
    (State.raiseNote s src obj).stopq = s.stopq := by
  refine ⟨?_, ?_, ?_, ?_, ?_, ?_, ?_, ?_, ?_, ?_, ?_⟩ <;> (first | rfl | (simp (maxDischargeDepth := 12) [State.raiseNote]; done) | (unfold State.raiseNote; (try dsimp only); repeat' (first | rfl | (simp (maxDischargeDepth := 12); done) | split)))

@[simp] theorem State_raiseNote_keeps2 (s : State) (src : Nat) (obj : Nat) :
    (State.raiseNote s src obj).flt = s.flt ∧ (State.raiseNote s src obj).warden = s.warden ∧
    (State.raiseNote s src obj).policy = s.policy ∧ (State.raiseNote s src obj).smb = s.smb ∧ (State.raiseNote s src obj).avs = s.avs ∧
    (State.raiseNote s src obj).tap = s.tap ∧ (State.raiseNote s src obj).pub = s.pub ∧ (State.raiseNote s src obj).freeCtr = s.freeCtr ∧
    (State.raiseNote s src obj).pending = s.pending := by
  refine ⟨?_, ?_, ?_, ?_, ?_, ?_, ?_, ?_, ?_⟩ <;> (first | rfl | (simp (maxDischargeDepth := 12) [State.raiseNote]; done) | (unfold State.raiseNote; (try dsimp only); repeat' (first | rfl | (simp (maxDischargeDepth := 12); done) | split)))

end Sys2Proof.Machine
end

