-- ==== Sys2Proof/Laws/FramesPace.lean ====
section
/-! SUPPORT. The fields of State that the operations of Machine/Pace.lean leave alone. -/

set_option linter.unusedSimpArgs false
set_option linter.unusedVariables false

namespace Sys2Proof.Machine

@[simp] theorem State_paceForward_keeps0 (s : State) (f : PaceTx) :
    (State.paceForward s f).otp = s.otp ∧ (State.paceForward s f).start = s.start ∧ (State.paceForward s f).clk = s.clk ∧
    (State.paceForward s f).win = s.win ∧ (State.paceForward s f).cells = s.cells ∧ (State.paceForward s f).views = s.views ∧
    (State.paceForward s f).chains = s.chains ∧ (State.paceForward s f).creg = s.creg ∧ (State.paceForward s f).eng = s.eng ∧
    (State.paceForward s f).doms = s.doms ∧ (State.paceForward s f).lanes = s.lanes := by
  refine ⟨?_, ?_, ?_, ?_, ?_, ?_, ?_, ?_, ?_, ?_, ?_⟩ <;> (first | rfl | (simp (maxDischargeDepth := 12) [State.paceForward]; done) | (unfold State.paceForward; (try dsimp only); repeat' (first | rfl | (simp (maxDischargeDepth := 12); done) | split)))

@[simp] theorem State_paceForward_keeps1 (s : State) (f : PaceTx) :
    (State.paceForward s f).sense = s.sense ∧ (State.paceForward s f).dscs = s.dscs ∧ (State.paceForward s f).hkcs = s.hkcs ∧
    (State.paceForward s f).tallies = s.tallies ∧ (State.paceForward s f).ledger = s.ledger ∧ (State.paceForward s f).tiles = s.tiles ∧
    (State.paceForward s f).accts = s.accts ∧ (State.paceForward s f).limits = s.limits ∧ (State.paceForward s f).therm = s.therm ∧
    (State.paceForward s f).diodes = s.diodes ∧ (State.paceForward s f).stopq = s.stopq := by
  refine ⟨?_, ?_, ?_, ?_, ?_, ?_, ?_, ?_, ?_, ?_, ?_⟩ <;> (first | rfl | (simp (maxDischargeDepth := 12) [State.paceForward]; done) | (unfold State.paceForward; (try dsimp only); repeat' (first | rfl | (simp (maxDischargeDepth := 12); done) | split)))

@[simp] theorem State_paceForward_keeps2 (s : State) (f : PaceTx) :
    (State.paceForward s f).flt = s.flt ∧ (State.paceForward s f).warden = s.warden ∧ (State.paceForward s f).policy = s.policy ∧
    (State.paceForward s f).rings = s.rings ∧ (State.paceForward s f).smb = s.smb ∧ (State.paceForward s f).avs = s.avs ∧
    (State.paceForward s f).tap = s.tap ∧ (State.paceForward s f).pub = s.pub ∧ (State.paceForward s f).freeCtr = s.freeCtr ∧
    (State.paceForward s f).pending = s.pending := by
  refine ⟨?_, ?_, ?_, ?_, ?_, ?_, ?_, ?_, ?_, ?_⟩ <;> (first | rfl | (simp (maxDischargeDepth := 12) [State.paceForward]; done) | (unfold State.paceForward; (try dsimp only); repeat' (first | rfl | (simp (maxDischargeDepth := 12); done) | split)))

@[simp] theorem State_paceUp_keeps0 (s : State) (n : Nat) :
    (State.paceUp s n).otp = s.otp ∧ (State.paceUp s n).start = s.start ∧ (State.paceUp s n).clk = s.clk ∧
    (State.paceUp s n).win = s.win ∧ (State.paceUp s n).cells = s.cells ∧ (State.paceUp s n).views = s.views ∧
    (State.paceUp s n).chains = s.chains ∧ (State.paceUp s n).creg = s.creg ∧ (State.paceUp s n).eng = s.eng ∧
    (State.paceUp s n).doms = s.doms ∧ (State.paceUp s n).lanes = s.lanes := by
  refine ⟨?_, ?_, ?_, ?_, ?_, ?_, ?_, ?_, ?_, ?_, ?_⟩ <;> (first | rfl | (simp (maxDischargeDepth := 12) [State.paceUp]; done) | (unfold State.paceUp; (try dsimp only); repeat' (first | rfl | (simp (maxDischargeDepth := 12); done) | split)))

@[simp] theorem State_paceUp_keeps1 (s : State) (n : Nat) :
    (State.paceUp s n).sense = s.sense ∧ (State.paceUp s n).dscs = s.dscs ∧ (State.paceUp s n).hkcs = s.hkcs ∧
    (State.paceUp s n).tallies = s.tallies ∧ (State.paceUp s n).ledger = s.ledger ∧ (State.paceUp s n).tiles = s.tiles ∧
    (State.paceUp s n).accts = s.accts ∧ (State.paceUp s n).limits = s.limits ∧ (State.paceUp s n).therm = s.therm ∧
    (State.paceUp s n).diodes = s.diodes ∧ (State.paceUp s n).stopq = s.stopq := by
  refine ⟨?_, ?_, ?_, ?_, ?_, ?_, ?_, ?_, ?_, ?_, ?_⟩ <;> (first | rfl | (simp (maxDischargeDepth := 12) [State.paceUp]; done) | (unfold State.paceUp; (try dsimp only); repeat' (first | rfl | (simp (maxDischargeDepth := 12); done) | split)))

@[simp] theorem State_paceUp_keeps2 (s : State) (n : Nat) :
    (State.paceUp s n).warden = s.warden ∧ (State.paceUp s n).policy = s.policy ∧ (State.paceUp s n).smb = s.smb ∧
    (State.paceUp s n).avs = s.avs ∧ (State.paceUp s n).tap = s.tap ∧ (State.paceUp s n).pub = s.pub ∧
    (State.paceUp s n).freeCtr = s.freeCtr ∧ (State.paceUp s n).pending = s.pending := by
  refine ⟨?_, ?_, ?_, ?_, ?_, ?_, ?_, ?_⟩ <;> (first | rfl | (simp (maxDischargeDepth := 12) [State.paceUp]; done) | (unfold State.paceUp; (try dsimp only); repeat' (first | rfl | (simp (maxDischargeDepth := 12); done) | split)))

@[simp] theorem State_paceResend_keeps0 (s : State) (relay : Bool) :
    (State.paceResend s relay).otp = s.otp ∧ (State.paceResend s relay).start = s.start ∧ (State.paceResend s relay).clk = s.clk ∧
    (State.paceResend s relay).win = s.win ∧ (State.paceResend s relay).cells = s.cells ∧ (State.paceResend s relay).views = s.views ∧
    (State.paceResend s relay).chains = s.chains ∧ (State.paceResend s relay).creg = s.creg ∧ (State.paceResend s relay).eng = s.eng ∧
    (State.paceResend s relay).doms = s.doms ∧ (State.paceResend s relay).lanes = s.lanes := by
  refine ⟨?_, ?_, ?_, ?_, ?_, ?_, ?_, ?_, ?_, ?_, ?_⟩ <;> (first | rfl | (simp (maxDischargeDepth := 12) [State.paceResend]; done) | (unfold State.paceResend; (try dsimp only); repeat' (first | rfl | (simp (maxDischargeDepth := 12); done) | split)))

@[simp] theorem State_paceResend_keeps1 (s : State) (relay : Bool) :
    (State.paceResend s relay).sense = s.sense ∧ (State.paceResend s relay).dscs = s.dscs ∧ (State.paceResend s relay).hkcs = s.hkcs ∧
    (State.paceResend s relay).tallies = s.tallies ∧ (State.paceResend s relay).ledger = s.ledger ∧
    (State.paceResend s relay).tiles = s.tiles ∧ (State.paceResend s relay).accts = s.accts ∧
    (State.paceResend s relay).limits = s.limits ∧ (State.paceResend s relay).therm = s.therm ∧
    (State.paceResend s relay).diodes = s.diodes ∧ (State.paceResend s relay).stopq = s.stopq := by
  refine ⟨?_, ?_, ?_, ?_, ?_, ?_, ?_, ?_, ?_, ?_, ?_⟩ <;> (first | rfl | (simp (maxDischargeDepth := 12) [State.paceResend]; done) | (unfold State.paceResend; (try dsimp only); repeat' (first | rfl | (simp (maxDischargeDepth := 12); done) | split)))

@[simp] theorem State_paceResend_keeps2 (s : State) (relay : Bool) :
    (State.paceResend s relay).flt = s.flt ∧ (State.paceResend s relay).warden = s.warden ∧ (State.paceResend s relay).policy = s.policy ∧
    (State.paceResend s relay).rings = s.rings ∧ (State.paceResend s relay).smb = s.smb ∧ (State.paceResend s relay).avs = s.avs ∧
    (State.paceResend s relay).tap = s.tap ∧ (State.paceResend s relay).pub = s.pub ∧ (State.paceResend s relay).freeCtr = s.freeCtr ∧
    (State.paceResend s relay).pending = s.pending := by
  refine ⟨?_, ?_, ?_, ?_, ?_, ?_, ?_, ?_, ?_, ?_⟩ <;> (first | rfl | (simp (maxDischargeDepth := 12) [State.paceResend]; done) | (unfold State.paceResend; (try dsimp only); repeat' (first | rfl | (simp (maxDischargeDepth := 12); done) | split)))

end Sys2Proof.Machine
end

