-- ==== Sys2Proof/Laws/FramesRing.lean ====
section
/-! SUPPORT. Completions and superseded commands change only the rings; staging also the staged values. -/

namespace Sys2Proof.Machine

@[simp] theorem State.pushCompl_keeps (s : State) (c : Compl) :
    (s.pushCompl c).otp = s.otp ∧ (s.pushCompl c).start = s.start ∧ (s.pushCompl c).clk = s.clk ∧ (s.pushCompl c).win = s.win ∧
    (s.pushCompl c).cells = s.cells ∧ (s.pushCompl c).views = s.views ∧ (s.pushCompl c).chains = s.chains ∧
    (s.pushCompl c).creg = s.creg ∧ (s.pushCompl c).eng = s.eng ∧ (s.pushCompl c).doms = s.doms ∧ (s.pushCompl c).lanes = s.lanes ∧
    (s.pushCompl c).sense = s.sense ∧ (s.pushCompl c).dscs = s.dscs ∧ (s.pushCompl c).hkcs = s.hkcs ∧
    (s.pushCompl c).tallies = s.tallies ∧ (s.pushCompl c).ledger = s.ledger ∧ (s.pushCompl c).tiles = s.tiles ∧
    (s.pushCompl c).accts = s.accts ∧ (s.pushCompl c).limits = s.limits ∧ (s.pushCompl c).pace = s.pace ∧
    (s.pushCompl c).therm = s.therm ∧ (s.pushCompl c).diodes = s.diodes ∧ (s.pushCompl c).stopq = s.stopq ∧ (s.pushCompl c).flt = s.flt ∧
    (s.pushCompl c).warden = s.warden ∧ (s.pushCompl c).policy = s.policy ∧ (s.pushCompl c).smb = s.smb ∧ (s.pushCompl c).avs = s.avs ∧
    (s.pushCompl c).tap = s.tap ∧ (s.pushCompl c).pub = s.pub ∧ (s.pushCompl c).freeCtr = s.freeCtr ∧ (s.pushCompl c).pending = s.pending := by
  unfold State.pushCompl; split <;> simp

@[simp] theorem State.complete_keeps (s : State) (x : CmdCtx) (op st d : Nat) :
    (s.complete x op st d).otp = s.otp ∧ (s.complete x op st d).start = s.start ∧ (s.complete x op st d).clk = s.clk ∧
    (s.complete x op st d).win = s.win ∧ (s.complete x op st d).cells = s.cells ∧ (s.complete x op st d).views = s.views ∧
    (s.complete x op st d).chains = s.chains ∧ (s.complete x op st d).creg = s.creg ∧ (s.complete x op st d).eng = s.eng ∧
    (s.complete x op st d).doms = s.doms ∧ (s.complete x op st d).lanes = s.lanes ∧ (s.complete x op st d).sense = s.sense ∧
    (s.complete x op st d).dscs = s.dscs ∧ (s.complete x op st d).hkcs = s.hkcs ∧ (s.complete x op st d).tallies = s.tallies ∧
    (s.complete x op st d).ledger = s.ledger ∧ (s.complete x op st d).tiles = s.tiles ∧ (s.complete x op st d).accts = s.accts ∧
    (s.complete x op st d).limits = s.limits ∧ (s.complete x op st d).pace = s.pace ∧ (s.complete x op st d).therm = s.therm ∧
    (s.complete x op st d).diodes = s.diodes ∧ (s.complete x op st d).stopq = s.stopq ∧ (s.complete x op st d).flt = s.flt ∧
    (s.complete x op st d).warden = s.warden ∧ (s.complete x op st d).policy = s.policy ∧ (s.complete x op st d).smb = s.smb ∧
    (s.complete x op st d).avs = s.avs ∧ (s.complete x op st d).tap = s.tap ∧ (s.complete x op st d).pub = s.pub ∧
    (s.complete x op st d).freeCtr = s.freeCtr ∧ (s.complete x op st d).pending = s.pending := by
  unfold State.complete; split <;> simp

@[simp] theorem State.addFlight_keeps (s : State) (x : CmdCtx) (op : Nat) (w : WaitFor) (d : Nat) :
    (s.addFlight x op w d).otp = s.otp ∧ (s.addFlight x op w d).start = s.start ∧ (s.addFlight x op w d).clk = s.clk ∧
    (s.addFlight x op w d).win = s.win ∧ (s.addFlight x op w d).cells = s.cells ∧ (s.addFlight x op w d).views = s.views ∧
    (s.addFlight x op w d).chains = s.chains ∧ (s.addFlight x op w d).creg = s.creg ∧ (s.addFlight x op w d).eng = s.eng ∧
    (s.addFlight x op w d).doms = s.doms ∧ (s.addFlight x op w d).lanes = s.lanes ∧ (s.addFlight x op w d).sense = s.sense ∧
    (s.addFlight x op w d).dscs = s.dscs ∧ (s.addFlight x op w d).hkcs = s.hkcs ∧ (s.addFlight x op w d).tallies = s.tallies ∧
    (s.addFlight x op w d).ledger = s.ledger ∧ (s.addFlight x op w d).tiles = s.tiles ∧ (s.addFlight x op w d).accts = s.accts ∧
    (s.addFlight x op w d).limits = s.limits ∧ (s.addFlight x op w d).pace = s.pace ∧ (s.addFlight x op w d).therm = s.therm ∧
    (s.addFlight x op w d).diodes = s.diodes ∧ (s.addFlight x op w d).stopq = s.stopq ∧ (s.addFlight x op w d).flt = s.flt ∧
    (s.addFlight x op w d).warden = s.warden ∧ (s.addFlight x op w d).policy = s.policy ∧ (s.addFlight x op w d).smb = s.smb ∧
    (s.addFlight x op w d).avs = s.avs ∧ (s.addFlight x op w d).tap = s.tap ∧ (s.addFlight x op w d).pub = s.pub ∧
    (s.addFlight x op w d).freeCtr = s.freeCtr ∧ (s.addFlight x op w d).pending = s.pending := by
  simp [State.addFlight]

@[simp] theorem State.finishWhere_otp (s : State) (p : Flight → Option (Nat × Nat)) : (s.finishWhere p).otp = s.otp :=
  foldl_keeps (·.otp) _ _ _ fun t f => by split <;> simp
@[simp] theorem State.finishWhere_start (s : State) (p : Flight → Option (Nat × Nat)) : (s.finishWhere p).start = s.start :=
  foldl_keeps (·.start) _ _ _ fun t f => by split <;> simp
@[simp] theorem State.finishWhere_clk (s : State) (p : Flight → Option (Nat × Nat)) : (s.finishWhere p).clk = s.clk :=
  foldl_keeps (·.clk) _ _ _ fun t f => by split <;> simp
@[simp] theorem State.finishWhere_win (s : State) (p : Flight → Option (Nat × Nat)) : (s.finishWhere p).win = s.win :=
  foldl_keeps (·.win) _ _ _ fun t f => by split <;> simp
@[simp] theorem State.finishWhere_cells (s : State) (p : Flight → Option (Nat × Nat)) : (s.finishWhere p).cells = s.cells :=
  foldl_keeps (·.cells) _ _ _ fun t f => by split <;> simp
@[simp] theorem State.finishWhere_views (s : State) (p : Flight → Option (Nat × Nat)) : (s.finishWhere p).views = s.views :=
  foldl_keeps (·.views) _ _ _ fun t f => by split <;> simp
@[simp] theorem State.finishWhere_chains (s : State) (p : Flight → Option (Nat × Nat)) : (s.finishWhere p).chains = s.chains :=
  foldl_keeps (·.chains) _ _ _ fun t f => by split <;> simp
@[simp] theorem State.finishWhere_creg (s : State) (p : Flight → Option (Nat × Nat)) : (s.finishWhere p).creg = s.creg :=
  foldl_keeps (·.creg) _ _ _ fun t f => by split <;> simp
@[simp] theorem State.finishWhere_eng (s : State) (p : Flight → Option (Nat × Nat)) : (s.finishWhere p).eng = s.eng :=
  foldl_keeps (·.eng) _ _ _ fun t f => by split <;> simp
@[simp] theorem State.finishWhere_doms (s : State) (p : Flight → Option (Nat × Nat)) : (s.finishWhere p).doms = s.doms :=
  foldl_keeps (·.doms) _ _ _ fun t f => by split <;> simp
@[simp] theorem State.finishWhere_lanes (s : State) (p : Flight → Option (Nat × Nat)) : (s.finishWhere p).lanes = s.lanes :=
  foldl_keeps (·.lanes) _ _ _ fun t f => by split <;> simp
@[simp] theorem State.finishWhere_sense (s : State) (p : Flight → Option (Nat × Nat)) : (s.finishWhere p).sense = s.sense :=
  foldl_keeps (·.sense) _ _ _ fun t f => by split <;> simp
@[simp] theorem State.finishWhere_dscs (s : State) (p : Flight → Option (Nat × Nat)) : (s.finishWhere p).dscs = s.dscs :=
  foldl_keeps (·.dscs) _ _ _ fun t f => by split <;> simp
@[simp] theorem State.finishWhere_hkcs (s : State) (p : Flight → Option (Nat × Nat)) : (s.finishWhere p).hkcs = s.hkcs :=
  foldl_keeps (·.hkcs) _ _ _ fun t f => by split <;> simp
@[simp] theorem State.finishWhere_tallies (s : State) (p : Flight → Option (Nat × Nat)) : (s.finishWhere p).tallies = s.tallies :=
  foldl_keeps (·.tallies) _ _ _ fun t f => by split <;> simp
@[simp] theorem State.finishWhere_ledger (s : State) (p : Flight → Option (Nat × Nat)) : (s.finishWhere p).ledger = s.ledger :=
  foldl_keeps (·.ledger) _ _ _ fun t f => by split <;> simp
@[simp] theorem State.finishWhere_tiles (s : State) (p : Flight → Option (Nat × Nat)) : (s.finishWhere p).tiles = s.tiles :=
  foldl_keeps (·.tiles) _ _ _ fun t f => by split <;> simp
@[simp] theorem State.finishWhere_accts (s : State) (p : Flight → Option (Nat × Nat)) : (s.finishWhere p).accts = s.accts :=
  foldl_keeps (·.accts) _ _ _ fun t f => by split <;> simp
@[simp] theorem State.finishWhere_limits (s : State) (p : Flight → Option (Nat × Nat)) : (s.finishWhere p).limits = s.limits :=
  foldl_keeps (·.limits) _ _ _ fun t f => by split <;> simp
@[simp] theorem State.finishWhere_pace (s : State) (p : Flight → Option (Nat × Nat)) : (s.finishWhere p).pace = s.pace :=
  foldl_keeps (·.pace) _ _ _ fun t f => by split <;> simp
@[simp] theorem State.finishWhere_therm (s : State) (p : Flight → Option (Nat × Nat)) : (s.finishWhere p).therm = s.therm :=
  foldl_keeps (·.therm) _ _ _ fun t f => by split <;> simp
@[simp] theorem State.finishWhere_diodes (s : State) (p : Flight → Option (Nat × Nat)) : (s.finishWhere p).diodes = s.diodes :=
  foldl_keeps (·.diodes) _ _ _ fun t f => by split <;> simp
@[simp] theorem State.finishWhere_stopq (s : State) (p : Flight → Option (Nat × Nat)) : (s.finishWhere p).stopq = s.stopq :=
  foldl_keeps (·.stopq) _ _ _ fun t f => by split <;> simp
@[simp] theorem State.finishWhere_flt (s : State) (p : Flight → Option (Nat × Nat)) : (s.finishWhere p).flt = s.flt :=
  foldl_keeps (·.flt) _ _ _ fun t f => by split <;> simp
@[simp] theorem State.finishWhere_warden (s : State) (p : Flight → Option (Nat × Nat)) : (s.finishWhere p).warden = s.warden :=
  foldl_keeps (·.warden) _ _ _ fun t f => by split <;> simp
@[simp] theorem State.finishWhere_policy (s : State) (p : Flight → Option (Nat × Nat)) : (s.finishWhere p).policy = s.policy :=
  foldl_keeps (·.policy) _ _ _ fun t f => by split <;> simp
@[simp] theorem State.finishWhere_smb (s : State) (p : Flight → Option (Nat × Nat)) : (s.finishWhere p).smb = s.smb :=
  foldl_keeps (·.smb) _ _ _ fun t f => by split <;> simp
@[simp] theorem State.finishWhere_avs (s : State) (p : Flight → Option (Nat × Nat)) : (s.finishWhere p).avs = s.avs :=
  foldl_keeps (·.avs) _ _ _ fun t f => by split <;> simp
@[simp] theorem State.finishWhere_tap (s : State) (p : Flight → Option (Nat × Nat)) : (s.finishWhere p).tap = s.tap :=
  foldl_keeps (·.tap) _ _ _ fun t f => by split <;> simp
@[simp] theorem State.finishWhere_pub (s : State) (p : Flight → Option (Nat × Nat)) : (s.finishWhere p).pub = s.pub :=
  foldl_keeps (·.pub) _ _ _ fun t f => by split <;> simp
@[simp] theorem State.finishWhere_freeCtr (s : State) (p : Flight → Option (Nat × Nat)) : (s.finishWhere p).freeCtr = s.freeCtr :=
  foldl_keeps (·.freeCtr) _ _ _ fun t f => by split <;> simp
@[simp] theorem State.finishWhere_pending (s : State) (p : Flight → Option (Nat × Nat)) : (s.finishWhere p).pending = s.pending :=
  foldl_keeps (·.pending) _ _ _ fun t f => by split <;> simp

@[simp] theorem State.finish_keeps (s : State) (w : WaitFor) (st d : Nat) :
    (s.finish w st d).otp = s.otp ∧ (s.finish w st d).start = s.start ∧ (s.finish w st d).clk = s.clk ∧ (s.finish w st d).win = s.win ∧
    (s.finish w st d).cells = s.cells ∧ (s.finish w st d).views = s.views ∧ (s.finish w st d).chains = s.chains ∧
    (s.finish w st d).creg = s.creg ∧ (s.finish w st d).eng = s.eng ∧ (s.finish w st d).doms = s.doms ∧
    (s.finish w st d).lanes = s.lanes ∧ (s.finish w st d).sense = s.sense ∧ (s.finish w st d).dscs = s.dscs ∧
    (s.finish w st d).hkcs = s.hkcs ∧ (s.finish w st d).tallies = s.tallies ∧ (s.finish w st d).ledger = s.ledger ∧
    (s.finish w st d).tiles = s.tiles ∧ (s.finish w st d).accts = s.accts ∧ (s.finish w st d).limits = s.limits ∧
    (s.finish w st d).pace = s.pace ∧ (s.finish w st d).therm = s.therm ∧ (s.finish w st d).diodes = s.diodes ∧
    (s.finish w st d).stopq = s.stopq ∧ (s.finish w st d).flt = s.flt ∧ (s.finish w st d).warden = s.warden ∧
    (s.finish w st d).policy = s.policy ∧ (s.finish w st d).smb = s.smb ∧ (s.finish w st d).avs = s.avs ∧ (s.finish w st d).tap = s.tap ∧
    (s.finish w st d).pub = s.pub ∧ (s.finish w st d).freeCtr = s.freeCtr ∧ (s.finish w st d).pending = s.pending := by
  simp [State.finish]

@[simp] theorem State.flightData_keeps (s : State) (w : WaitFor) (d : Nat) :
    (s.flightData w d).otp = s.otp ∧ (s.flightData w d).start = s.start ∧ (s.flightData w d).clk = s.clk ∧
    (s.flightData w d).win = s.win ∧ (s.flightData w d).cells = s.cells ∧ (s.flightData w d).views = s.views ∧
    (s.flightData w d).chains = s.chains ∧ (s.flightData w d).creg = s.creg ∧ (s.flightData w d).eng = s.eng ∧
    (s.flightData w d).doms = s.doms ∧ (s.flightData w d).lanes = s.lanes ∧ (s.flightData w d).sense = s.sense ∧
    (s.flightData w d).dscs = s.dscs ∧ (s.flightData w d).hkcs = s.hkcs ∧ (s.flightData w d).tallies = s.tallies ∧
    (s.flightData w d).ledger = s.ledger ∧ (s.flightData w d).tiles = s.tiles ∧ (s.flightData w d).accts = s.accts ∧
    (s.flightData w d).limits = s.limits ∧ (s.flightData w d).pace = s.pace ∧ (s.flightData w d).therm = s.therm ∧
    (s.flightData w d).diodes = s.diodes ∧ (s.flightData w d).stopq = s.stopq ∧ (s.flightData w d).flt = s.flt ∧
    (s.flightData w d).warden = s.warden ∧ (s.flightData w d).policy = s.policy ∧ (s.flightData w d).smb = s.smb ∧
    (s.flightData w d).avs = s.avs ∧ (s.flightData w d).tap = s.tap ∧ (s.flightData w d).pub = s.pub ∧
    (s.flightData w d).freeCtr = s.freeCtr ∧ (s.flightData w d).pending = s.pending := by
  simp [State.flightData]

@[simp] theorem State.supersede_keeps (s : State) (x : CmdCtx) :
    (s.supersede x).otp = s.otp ∧ (s.supersede x).start = s.start ∧ (s.supersede x).clk = s.clk ∧ (s.supersede x).win = s.win ∧
    (s.supersede x).cells = s.cells ∧ (s.supersede x).views = s.views ∧ (s.supersede x).chains = s.chains ∧
    (s.supersede x).creg = s.creg ∧ (s.supersede x).eng = s.eng ∧ (s.supersede x).doms = s.doms ∧ (s.supersede x).lanes = s.lanes ∧
    (s.supersede x).sense = s.sense ∧ (s.supersede x).dscs = s.dscs ∧ (s.supersede x).hkcs = s.hkcs ∧
    (s.supersede x).tallies = s.tallies ∧ (s.supersede x).ledger = s.ledger ∧ (s.supersede x).tiles = s.tiles ∧
    (s.supersede x).accts = s.accts ∧ (s.supersede x).limits = s.limits ∧ (s.supersede x).pace = s.pace ∧
    (s.supersede x).therm = s.therm ∧ (s.supersede x).diodes = s.diodes ∧ (s.supersede x).stopq = s.stopq ∧ (s.supersede x).flt = s.flt ∧
    (s.supersede x).warden = s.warden ∧ (s.supersede x).policy = s.policy ∧ (s.supersede x).smb = s.smb ∧ (s.supersede x).avs = s.avs ∧
    (s.supersede x).tap = s.tap ∧ (s.supersede x).pub = s.pub ∧ (s.supersede x).freeCtr = s.freeCtr ∧ (s.supersede x).pending = s.pending := by
  simp [State.supersede]

@[simp] theorem State.stage_keeps (s : State) (k : StageKey) (v : Word) (b : Stager) :
    (s.stage k v b).otp = s.otp ∧ (s.stage k v b).start = s.start ∧ (s.stage k v b).clk = s.clk ∧ (s.stage k v b).win = s.win ∧
    (s.stage k v b).cells = s.cells ∧ (s.stage k v b).views = s.views ∧ (s.stage k v b).chains = s.chains ∧
    (s.stage k v b).creg = s.creg ∧ (s.stage k v b).eng = s.eng ∧ (s.stage k v b).doms = s.doms ∧ (s.stage k v b).lanes = s.lanes ∧
    (s.stage k v b).sense = s.sense ∧ (s.stage k v b).dscs = s.dscs ∧ (s.stage k v b).hkcs = s.hkcs ∧
    (s.stage k v b).tallies = s.tallies ∧ (s.stage k v b).tiles = s.tiles ∧ (s.stage k v b).accts = s.accts ∧
    (s.stage k v b).limits = s.limits ∧ (s.stage k v b).pace = s.pace ∧ (s.stage k v b).therm = s.therm ∧
    (s.stage k v b).diodes = s.diodes ∧ (s.stage k v b).stopq = s.stopq ∧ (s.stage k v b).flt = s.flt ∧
    (s.stage k v b).warden = s.warden ∧ (s.stage k v b).policy = s.policy ∧ (s.stage k v b).smb = s.smb ∧ (s.stage k v b).avs = s.avs ∧
    (s.stage k v b).tap = s.tap ∧ (s.stage k v b).pub = s.pub ∧ (s.stage k v b).freeCtr = s.freeCtr ∧ (s.stage k v b).pending = s.pending := by
  unfold State.stage; dsimp only; split <;> (try split) <;> simp

end Sys2Proof.Machine
end

