-- ==== Sys2Proof/Laws/FramesSmbus.lean ====
section
/-! SUPPORT. The fields of State that the operations of Machine/Smbus.lean leave alone. -/

set_option linter.unusedSimpArgs false
set_option linter.unusedVariables false

namespace Sys2Proof.Machine

@[simp] theorem State_smbReply_keeps0 (s : State) (l : List Byte) :
    (State.smbReply s l).otp = s.otp ∧ (State.smbReply s l).start = s.start ∧ (State.smbReply s l).clk = s.clk ∧
    (State.smbReply s l).win = s.win ∧ (State.smbReply s l).cells = s.cells ∧ (State.smbReply s l).views = s.views ∧
    (State.smbReply s l).chains = s.chains ∧ (State.smbReply s l).creg = s.creg ∧ (State.smbReply s l).eng = s.eng ∧
    (State.smbReply s l).doms = s.doms ∧ (State.smbReply s l).lanes = s.lanes := by
  refine ⟨?_, ?_, ?_, ?_, ?_, ?_, ?_, ?_, ?_, ?_, ?_⟩ <;> (first | rfl | (simp (maxDischargeDepth := 12) [State.smbReply]; done) | (unfold State.smbReply; (try dsimp only); repeat' (first | rfl | (simp (maxDischargeDepth := 12); done) | split)))

@[simp] theorem State_smbReply_keeps1 (s : State) (l : List Byte) :
    (State.smbReply s l).sense = s.sense ∧ (State.smbReply s l).dscs = s.dscs ∧ (State.smbReply s l).hkcs = s.hkcs ∧
    (State.smbReply s l).tallies = s.tallies ∧ (State.smbReply s l).ledger = s.ledger ∧ (State.smbReply s l).tiles = s.tiles ∧
    (State.smbReply s l).accts = s.accts ∧ (State.smbReply s l).limits = s.limits ∧ (State.smbReply s l).pace = s.pace ∧
    (State.smbReply s l).therm = s.therm ∧ (State.smbReply s l).diodes = s.diodes := by
  refine ⟨?_, ?_, ?_, ?_, ?_, ?_, ?_, ?_, ?_, ?_, ?_⟩ <;> (first | rfl | (simp (maxDischargeDepth := 12) [State.smbReply]; done) | (unfold State.smbReply; (try dsimp only); repeat' (first | rfl | (simp (maxDischargeDepth := 12); done) | split)))

@[simp] theorem State_smbReply_keeps2 (s : State) (l : List Byte) :
    (State.smbReply s l).stopq = s.stopq ∧ (State.smbReply s l).flt = s.flt ∧ (State.smbReply s l).warden = s.warden ∧
    (State.smbReply s l).policy = s.policy ∧ (State.smbReply s l).rings = s.rings ∧ (State.smbReply s l).avs = s.avs ∧
    (State.smbReply s l).tap = s.tap ∧ (State.smbReply s l).pub = s.pub ∧ (State.smbReply s l).freeCtr = s.freeCtr ∧
    (State.smbReply s l).pending = s.pending := by
  refine ⟨?_, ?_, ?_, ?_, ?_, ?_, ?_, ?_, ?_, ?_⟩ <;> (first | rfl | (simp (maxDischargeDepth := 12) [State.smbReply]; done) | (unfold State.smbReply; (try dsimp only); repeat' (first | rfl | (simp (maxDischargeDepth := 12); done) | split)))

@[simp] theorem State_replyByte_keeps0 (s : State) (n : Nat) :
    (State.replyByte s n).otp = s.otp ∧ (State.replyByte s n).start = s.start ∧ (State.replyByte s n).clk = s.clk ∧
    (State.replyByte s n).win = s.win ∧ (State.replyByte s n).cells = s.cells ∧ (State.replyByte s n).views = s.views ∧
    (State.replyByte s n).chains = s.chains ∧ (State.replyByte s n).creg = s.creg ∧ (State.replyByte s n).eng = s.eng ∧
    (State.replyByte s n).doms = s.doms ∧ (State.replyByte s n).lanes = s.lanes := by
  refine ⟨?_, ?_, ?_, ?_, ?_, ?_, ?_, ?_, ?_, ?_, ?_⟩ <;> (first | rfl | (simp (maxDischargeDepth := 12) [State.replyByte]; done) | (unfold State.replyByte; (try dsimp only); repeat' (first | rfl | (simp (maxDischargeDepth := 12); done) | split)))

@[simp] theorem State_replyByte_keeps1 (s : State) (n : Nat) :
    (State.replyByte s n).sense = s.sense ∧ (State.replyByte s n).dscs = s.dscs ∧ (State.replyByte s n).hkcs = s.hkcs ∧
    (State.replyByte s n).tallies = s.tallies ∧ (State.replyByte s n).ledger = s.ledger ∧ (State.replyByte s n).tiles = s.tiles ∧
    (State.replyByte s n).accts = s.accts ∧ (State.replyByte s n).limits = s.limits ∧ (State.replyByte s n).pace = s.pace ∧
    (State.replyByte s n).therm = s.therm ∧ (State.replyByte s n).diodes = s.diodes := by
  refine ⟨?_, ?_, ?_, ?_, ?_, ?_, ?_, ?_, ?_, ?_, ?_⟩ <;> (first | rfl | (simp (maxDischargeDepth := 12) [State.replyByte]; done) | (unfold State.replyByte; (try dsimp only); repeat' (first | rfl | (simp (maxDischargeDepth := 12); done) | split)))

@[simp] theorem State_replyByte_keeps2 (s : State) (n : Nat) :
    (State.replyByte s n).stopq = s.stopq ∧ (State.replyByte s n).flt = s.flt ∧ (State.replyByte s n).warden = s.warden ∧
    (State.replyByte s n).policy = s.policy ∧ (State.replyByte s n).rings = s.rings ∧ (State.replyByte s n).avs = s.avs ∧
    (State.replyByte s n).tap = s.tap ∧ (State.replyByte s n).pub = s.pub ∧ (State.replyByte s n).freeCtr = s.freeCtr ∧
    (State.replyByte s n).pending = s.pending := by
  refine ⟨?_, ?_, ?_, ?_, ?_, ?_, ?_, ?_, ?_, ?_⟩ <;> (first | rfl | (simp (maxDischargeDepth := 12) [State.replyByte]; done) | (unfold State.replyByte; (try dsimp only); repeat' (first | rfl | (simp (maxDischargeDepth := 12); done) | split)))

@[simp] theorem State_replyWord_keeps0 (s : State) (n : Nat) :
    (State.replyWord s n).otp = s.otp ∧ (State.replyWord s n).start = s.start ∧ (State.replyWord s n).clk = s.clk ∧
    (State.replyWord s n).win = s.win ∧ (State.replyWord s n).cells = s.cells ∧ (State.replyWord s n).views = s.views ∧
    (State.replyWord s n).chains = s.chains ∧ (State.replyWord s n).creg = s.creg ∧ (State.replyWord s n).eng = s.eng ∧
    (State.replyWord s n).doms = s.doms ∧ (State.replyWord s n).lanes = s.lanes := by
  refine ⟨?_, ?_, ?_, ?_, ?_, ?_, ?_, ?_, ?_, ?_, ?_⟩ <;> (first | rfl | (simp (maxDischargeDepth := 12) [State.replyWord]; done) | (unfold State.replyWord; (try dsimp only); repeat' (first | rfl | (simp (maxDischargeDepth := 12); done) | split)))

@[simp] theorem State_replyWord_keeps1 (s : State) (n : Nat) :
    (State.replyWord s n).sense = s.sense ∧ (State.replyWord s n).dscs = s.dscs ∧ (State.replyWord s n).hkcs = s.hkcs ∧
    (State.replyWord s n).tallies = s.tallies ∧ (State.replyWord s n).ledger = s.ledger ∧ (State.replyWord s n).tiles = s.tiles ∧
    (State.replyWord s n).accts = s.accts ∧ (State.replyWord s n).limits = s.limits ∧ (State.replyWord s n).pace = s.pace ∧
    (State.replyWord s n).therm = s.therm ∧ (State.replyWord s n).diodes = s.diodes := by
  refine ⟨?_, ?_, ?_, ?_, ?_, ?_, ?_, ?_, ?_, ?_, ?_⟩ <;> (first | rfl | (simp (maxDischargeDepth := 12) [State.replyWord]; done) | (unfold State.replyWord; (try dsimp only); repeat' (first | rfl | (simp (maxDischargeDepth := 12); done) | split)))

@[simp] theorem State_replyWord_keeps2 (s : State) (n : Nat) :
    (State.replyWord s n).stopq = s.stopq ∧ (State.replyWord s n).flt = s.flt ∧ (State.replyWord s n).warden = s.warden ∧
    (State.replyWord s n).policy = s.policy ∧ (State.replyWord s n).rings = s.rings ∧ (State.replyWord s n).avs = s.avs ∧
    (State.replyWord s n).tap = s.tap ∧ (State.replyWord s n).pub = s.pub ∧ (State.replyWord s n).freeCtr = s.freeCtr ∧
    (State.replyWord s n).pending = s.pending := by
  refine ⟨?_, ?_, ?_, ?_, ?_, ?_, ?_, ?_, ?_, ?_⟩ <;> (first | rfl | (simp (maxDischargeDepth := 12) [State.replyWord]; done) | (unfold State.replyWord; (try dsimp only); repeat' (first | rfl | (simp (maxDischargeDepth := 12); done) | split)))

@[simp] theorem State_replyBlock_keeps0 (s : State) (l : List Byte) :
    (State.replyBlock s l).otp = s.otp ∧ (State.replyBlock s l).start = s.start ∧ (State.replyBlock s l).clk = s.clk ∧
    (State.replyBlock s l).win = s.win ∧ (State.replyBlock s l).cells = s.cells ∧ (State.replyBlock s l).views = s.views ∧
    (State.replyBlock s l).chains = s.chains ∧ (State.replyBlock s l).creg = s.creg ∧ (State.replyBlock s l).eng = s.eng ∧
    (State.replyBlock s l).doms = s.doms ∧ (State.replyBlock s l).lanes = s.lanes := by
  refine ⟨?_, ?_, ?_, ?_, ?_, ?_, ?_, ?_, ?_, ?_, ?_⟩ <;> (first | rfl | (simp (maxDischargeDepth := 12) [State.replyBlock]; done) | (unfold State.replyBlock; (try dsimp only); repeat' (first | rfl | (simp (maxDischargeDepth := 12); done) | split)))

@[simp] theorem State_replyBlock_keeps1 (s : State) (l : List Byte) :
    (State.replyBlock s l).sense = s.sense ∧ (State.replyBlock s l).dscs = s.dscs ∧ (State.replyBlock s l).hkcs = s.hkcs ∧
    (State.replyBlock s l).tallies = s.tallies ∧ (State.replyBlock s l).ledger = s.ledger ∧ (State.replyBlock s l).tiles = s.tiles ∧
    (State.replyBlock s l).accts = s.accts ∧ (State.replyBlock s l).limits = s.limits ∧ (State.replyBlock s l).pace = s.pace ∧
    (State.replyBlock s l).therm = s.therm ∧ (State.replyBlock s l).diodes = s.diodes := by
  refine ⟨?_, ?_, ?_, ?_, ?_, ?_, ?_, ?_, ?_, ?_, ?_⟩ <;> (first | rfl | (simp (maxDischargeDepth := 12) [State.replyBlock]; done) | (unfold State.replyBlock; (try dsimp only); repeat' (first | rfl | (simp (maxDischargeDepth := 12); done) | split)))

@[simp] theorem State_replyBlock_keeps2 (s : State) (l : List Byte) :
    (State.replyBlock s l).stopq = s.stopq ∧ (State.replyBlock s l).flt = s.flt ∧ (State.replyBlock s l).warden = s.warden ∧
    (State.replyBlock s l).policy = s.policy ∧ (State.replyBlock s l).rings = s.rings ∧ (State.replyBlock s l).avs = s.avs ∧
    (State.replyBlock s l).tap = s.tap ∧ (State.replyBlock s l).pub = s.pub ∧ (State.replyBlock s l).freeCtr = s.freeCtr ∧
    (State.replyBlock s l).pending = s.pending := by
  refine ⟨?_, ?_, ?_, ?_, ?_, ?_, ?_, ?_, ?_, ?_⟩ <;> (first | rfl | (simp (maxDischargeDepth := 12) [State.replyBlock]; done) | (unfold State.replyBlock; (try dsimp only); repeat' (first | rfl | (simp (maxDischargeDepth := 12); done) | split)))

@[simp] theorem State_cml_keeps0 (s : State) (b : Nat) :
    (State.cml s b).otp = s.otp ∧ (State.cml s b).start = s.start ∧ (State.cml s b).clk = s.clk ∧ (State.cml s b).win = s.win ∧
    (State.cml s b).cells = s.cells ∧ (State.cml s b).views = s.views ∧ (State.cml s b).chains = s.chains ∧
    (State.cml s b).creg = s.creg ∧ (State.cml s b).eng = s.eng ∧ (State.cml s b).doms = s.doms ∧ (State.cml s b).lanes = s.lanes := by
  refine ⟨?_, ?_, ?_, ?_, ?_, ?_, ?_, ?_, ?_, ?_, ?_⟩ <;> (first | rfl | (simp (maxDischargeDepth := 12) [State.cml]; done) | (unfold State.cml; (try dsimp only); repeat' (first | rfl | (simp (maxDischargeDepth := 12); done) | split)))

@[simp] theorem State_cml_keeps1 (s : State) (b : Nat) :
    (State.cml s b).sense = s.sense ∧ (State.cml s b).dscs = s.dscs ∧ (State.cml s b).hkcs = s.hkcs ∧
    (State.cml s b).tallies = s.tallies ∧ (State.cml s b).ledger = s.ledger ∧ (State.cml s b).tiles = s.tiles ∧
    (State.cml s b).accts = s.accts ∧ (State.cml s b).limits = s.limits ∧ (State.cml s b).pace = s.pace ∧
    (State.cml s b).therm = s.therm ∧ (State.cml s b).diodes = s.diodes := by
  refine ⟨?_, ?_, ?_, ?_, ?_, ?_, ?_, ?_, ?_, ?_, ?_⟩ <;> (first | rfl | (simp (maxDischargeDepth := 12) [State.cml]; done) | (unfold State.cml; (try dsimp only); repeat' (first | rfl | (simp (maxDischargeDepth := 12); done) | split)))

@[simp] theorem State_cml_keeps2 (s : State) (b : Nat) :
    (State.cml s b).stopq = s.stopq ∧ (State.cml s b).flt = s.flt ∧ (State.cml s b).warden = s.warden ∧
    (State.cml s b).policy = s.policy ∧ (State.cml s b).rings = s.rings ∧ (State.cml s b).avs = s.avs ∧ (State.cml s b).tap = s.tap ∧
    (State.cml s b).pub = s.pub ∧ (State.cml s b).freeCtr = s.freeCtr ∧ (State.cml s b).pending = s.pending := by
  refine ⟨?_, ?_, ?_, ?_, ?_, ?_, ?_, ?_, ?_, ?_⟩ <;> (first | rfl | (simp (maxDischargeDepth := 12) [State.cml]; done) | (unfold State.cml; (try dsimp only); repeat' (first | rfl | (simp (maxDischargeDepth := 12); done) | split)))

@[simp] theorem State_badData_keeps0 (s : State) :
    (State.badData s).otp = s.otp ∧ (State.badData s).start = s.start ∧ (State.badData s).clk = s.clk ∧ (State.badData s).win = s.win ∧
    (State.badData s).cells = s.cells ∧ (State.badData s).views = s.views ∧ (State.badData s).chains = s.chains ∧
    (State.badData s).creg = s.creg ∧ (State.badData s).eng = s.eng ∧ (State.badData s).doms = s.doms ∧ (State.badData s).lanes = s.lanes := by
  refine ⟨?_, ?_, ?_, ?_, ?_, ?_, ?_, ?_, ?_, ?_, ?_⟩ <;> (first | rfl | (simp (maxDischargeDepth := 12) [State.badData]; done) | (unfold State.badData; (try dsimp only); repeat' (first | rfl | (simp (maxDischargeDepth := 12); done) | split)))

@[simp] theorem State_badData_keeps1 (s : State) :
    (State.badData s).sense = s.sense ∧ (State.badData s).dscs = s.dscs ∧ (State.badData s).hkcs = s.hkcs ∧
    (State.badData s).tallies = s.tallies ∧ (State.badData s).ledger = s.ledger ∧ (State.badData s).tiles = s.tiles ∧
    (State.badData s).accts = s.accts ∧ (State.badData s).limits = s.limits ∧ (State.badData s).pace = s.pace ∧
    (State.badData s).therm = s.therm ∧ (State.badData s).diodes = s.diodes := by
  refine ⟨?_, ?_, ?_, ?_, ?_, ?_, ?_, ?_, ?_, ?_, ?_⟩ <;> (first | rfl | (simp (maxDischargeDepth := 12) [State.badData]; done) | (unfold State.badData; (try dsimp only); repeat' (first | rfl | (simp (maxDischargeDepth := 12); done) | split)))

@[simp] theorem State_badData_keeps2 (s : State) :
    (State.badData s).stopq = s.stopq ∧ (State.badData s).flt = s.flt ∧ (State.badData s).warden = s.warden ∧
    (State.badData s).policy = s.policy ∧ (State.badData s).rings = s.rings ∧ (State.badData s).avs = s.avs ∧
    (State.badData s).tap = s.tap ∧ (State.badData s).pub = s.pub ∧ (State.badData s).freeCtr = s.freeCtr ∧
    (State.badData s).pending = s.pending := by
  refine ⟨?_, ?_, ?_, ?_, ?_, ?_, ?_, ?_, ?_, ?_⟩ <;> (first | rfl | (simp (maxDischargeDepth := 12) [State.badData]; done) | (unfold State.badData; (try dsimp only); repeat' (first | rfl | (simp (maxDischargeDepth := 12); done) | split)))

@[simp] theorem State_replyLinear_keeps0 (s : State) (v : Option Rat) :
    (State.replyLinear s v).otp = s.otp ∧ (State.replyLinear s v).start = s.start ∧ (State.replyLinear s v).clk = s.clk ∧
    (State.replyLinear s v).win = s.win ∧ (State.replyLinear s v).cells = s.cells ∧ (State.replyLinear s v).views = s.views ∧
    (State.replyLinear s v).chains = s.chains ∧ (State.replyLinear s v).creg = s.creg ∧ (State.replyLinear s v).eng = s.eng ∧
    (State.replyLinear s v).doms = s.doms ∧ (State.replyLinear s v).lanes = s.lanes := by
  refine ⟨?_, ?_, ?_, ?_, ?_, ?_, ?_, ?_, ?_, ?_, ?_⟩ <;> (first | rfl | (simp (maxDischargeDepth := 12) [State.replyLinear]; done) | (unfold State.replyLinear; (try dsimp only); repeat' (first | rfl | (simp (maxDischargeDepth := 12); done) | split)))

@[simp] theorem State_replyLinear_keeps1 (s : State) (v : Option Rat) :
    (State.replyLinear s v).sense = s.sense ∧ (State.replyLinear s v).dscs = s.dscs ∧ (State.replyLinear s v).hkcs = s.hkcs ∧
    (State.replyLinear s v).tallies = s.tallies ∧ (State.replyLinear s v).ledger = s.ledger ∧ (State.replyLinear s v).tiles = s.tiles ∧
    (State.replyLinear s v).accts = s.accts ∧ (State.replyLinear s v).limits = s.limits ∧ (State.replyLinear s v).pace = s.pace ∧
    (State.replyLinear s v).therm = s.therm ∧ (State.replyLinear s v).diodes = s.diodes := by
  refine ⟨?_, ?_, ?_, ?_, ?_, ?_, ?_, ?_, ?_, ?_, ?_⟩ <;> (first | rfl | (simp (maxDischargeDepth := 12) [State.replyLinear]; done) | (unfold State.replyLinear; (try dsimp only); repeat' (first | rfl | (simp (maxDischargeDepth := 12); done) | split)))

@[simp] theorem State_replyLinear_keeps2 (s : State) (v : Option Rat) :
    (State.replyLinear s v).stopq = s.stopq ∧ (State.replyLinear s v).flt = s.flt ∧ (State.replyLinear s v).warden = s.warden ∧
    (State.replyLinear s v).policy = s.policy ∧ (State.replyLinear s v).rings = s.rings ∧ (State.replyLinear s v).avs = s.avs ∧
    (State.replyLinear s v).tap = s.tap ∧ (State.replyLinear s v).pub = s.pub ∧ (State.replyLinear s v).pending = s.pending := by
  refine ⟨?_, ?_, ?_, ?_, ?_, ?_, ?_, ?_, ?_⟩ <;> (first | rfl | (simp (maxDischargeDepth := 12) [State.replyLinear]; done) | (unfold State.replyLinear; (try dsimp only); repeat' (first | rfl | (simp (maxDischargeDepth := 12); done) | split)))

@[simp] theorem State_readChip_keeps0 (s : State) (v : Rat) :
    (State.readChip s v).otp = s.otp ∧ (State.readChip s v).start = s.start ∧ (State.readChip s v).clk = s.clk ∧
    (State.readChip s v).win = s.win ∧ (State.readChip s v).cells = s.cells ∧ (State.readChip s v).views = s.views ∧
    (State.readChip s v).chains = s.chains ∧ (State.readChip s v).creg = s.creg ∧ (State.readChip s v).eng = s.eng ∧
    (State.readChip s v).doms = s.doms ∧ (State.readChip s v).lanes = s.lanes := by
  refine ⟨?_, ?_, ?_, ?_, ?_, ?_, ?_, ?_, ?_, ?_, ?_⟩ <;> (first | rfl | (simp (maxDischargeDepth := 12) [State.readChip]; done) | (unfold State.readChip; (try dsimp only); repeat' (first | rfl | (simp (maxDischargeDepth := 12); done) | split)))

@[simp] theorem State_readChip_keeps1 (s : State) (v : Rat) :
    (State.readChip s v).sense = s.sense ∧ (State.readChip s v).dscs = s.dscs ∧ (State.readChip s v).hkcs = s.hkcs ∧
    (State.readChip s v).tallies = s.tallies ∧ (State.readChip s v).ledger = s.ledger ∧ (State.readChip s v).tiles = s.tiles ∧
    (State.readChip s v).accts = s.accts ∧ (State.readChip s v).limits = s.limits ∧ (State.readChip s v).pace = s.pace ∧
    (State.readChip s v).therm = s.therm ∧ (State.readChip s v).diodes = s.diodes := by
  refine ⟨?_, ?_, ?_, ?_, ?_, ?_, ?_, ?_, ?_, ?_, ?_⟩ <;> (first | rfl | (simp (maxDischargeDepth := 12) [State.readChip]; done) | (unfold State.readChip; (try dsimp only); repeat' (first | rfl | (simp (maxDischargeDepth := 12); done) | split)))

@[simp] theorem State_readChip_keeps2 (s : State) (v : Rat) :
    (State.readChip s v).stopq = s.stopq ∧ (State.readChip s v).flt = s.flt ∧ (State.readChip s v).warden = s.warden ∧
    (State.readChip s v).policy = s.policy ∧ (State.readChip s v).rings = s.rings ∧ (State.readChip s v).avs = s.avs ∧
    (State.readChip s v).tap = s.tap ∧ (State.readChip s v).pub = s.pub ∧ (State.readChip s v).freeCtr = s.freeCtr ∧
    (State.readChip s v).pending = s.pending := by
  refine ⟨?_, ?_, ?_, ?_, ?_, ?_, ?_, ?_, ?_, ?_⟩ <;> (first | rfl | (simp (maxDischargeDepth := 12) [State.readChip]; done) | (unfold State.readChip; (try dsimp only); repeat' (first | rfl | (simp (maxDischargeDepth := 12); done) | split)))

@[simp] theorem State_restart_keeps0 (s : State) :
    (State.restart s).otp = s.otp ∧ (State.restart s).clk = s.clk ∧ (State.restart s).win = s.win ∧ (State.restart s).cells = s.cells ∧
    (State.restart s).views = s.views ∧ (State.restart s).chains = s.chains ∧ (State.restart s).creg = s.creg ∧
    (State.restart s).eng = s.eng ∧ (State.restart s).doms = s.doms ∧ (State.restart s).lanes = s.lanes ∧
    (State.restart s).sense = s.sense := by
  refine ⟨?_, ?_, ?_, ?_, ?_, ?_, ?_, ?_, ?_, ?_, ?_⟩ <;> (first | rfl | (simp (maxDischargeDepth := 12) [State.restart]; done) | (unfold State.restart; (try dsimp only); repeat' (first | rfl | (simp (maxDischargeDepth := 12); done) | split)))

@[simp] theorem State_restart_keeps1 (s : State) :
    (State.restart s).dscs = s.dscs ∧ (State.restart s).hkcs = s.hkcs ∧ (State.restart s).tallies = s.tallies ∧
    (State.restart s).ledger = s.ledger ∧ (State.restart s).tiles = s.tiles ∧ (State.restart s).accts = s.accts ∧
    (State.restart s).limits = s.limits ∧ (State.restart s).pace = s.pace ∧ (State.restart s).therm = s.therm ∧
    (State.restart s).diodes = s.diodes ∧ (State.restart s).policy = s.policy := by
  refine ⟨?_, ?_, ?_, ?_, ?_, ?_, ?_, ?_, ?_, ?_, ?_⟩ <;> (first | rfl | (simp (maxDischargeDepth := 12) [State.restart]; done) | (unfold State.restart; (try dsimp only); repeat' (first | rfl | (simp (maxDischargeDepth := 12); done) | split)))

@[simp] theorem State_restart_keeps2 (s : State) :
    (State.restart s).rings = s.rings ∧ (State.restart s).smb = s.smb ∧ (State.restart s).avs = s.avs ∧ (State.restart s).tap = s.tap ∧
    (State.restart s).pub = s.pub ∧ (State.restart s).freeCtr = s.freeCtr ∧ (State.restart s).pending = s.pending := by
  refine ⟨?_, ?_, ?_, ?_, ?_, ?_, ?_⟩ <;> (first | rfl | (simp (maxDischargeDepth := 12) [State.restart]; done) | (unfold State.restart; (try dsimp only); repeat' (first | rfl | (simp (maxDischargeDepth := 12); done) | split)))

@[simp] theorem State_vaultBlock_keeps0 (s : State) :
    (State.vaultBlock s).2.otp = s.otp ∧ (State.vaultBlock s).2.start = s.start ∧ (State.vaultBlock s).2.clk = s.clk ∧
    (State.vaultBlock s).2.win = s.win ∧ (State.vaultBlock s).2.cells = s.cells ∧ (State.vaultBlock s).2.views = s.views ∧
    (State.vaultBlock s).2.chains = s.chains ∧ (State.vaultBlock s).2.creg = s.creg ∧ (State.vaultBlock s).2.eng = s.eng ∧
    (State.vaultBlock s).2.doms = s.doms ∧ (State.vaultBlock s).2.lanes = s.lanes := by
  refine ⟨?_, ?_, ?_, ?_, ?_, ?_, ?_, ?_, ?_, ?_, ?_⟩ <;> (first | rfl | (simp (maxDischargeDepth := 12) [State.vaultBlock]; done) | (unfold State.vaultBlock; (try dsimp only); repeat' (first | rfl | (simp (maxDischargeDepth := 12); done) | split)))

@[simp] theorem State_vaultBlock_keeps1 (s : State) :
    (State.vaultBlock s).2.sense = s.sense ∧ (State.vaultBlock s).2.dscs = s.dscs ∧ (State.vaultBlock s).2.hkcs = s.hkcs ∧
    (State.vaultBlock s).2.tallies = s.tallies ∧ (State.vaultBlock s).2.ledger = s.ledger ∧ (State.vaultBlock s).2.tiles = s.tiles ∧
    (State.vaultBlock s).2.accts = s.accts ∧ (State.vaultBlock s).2.limits = s.limits ∧ (State.vaultBlock s).2.pace = s.pace ∧
    (State.vaultBlock s).2.therm = s.therm ∧ (State.vaultBlock s).2.diodes = s.diodes := by
  refine ⟨?_, ?_, ?_, ?_, ?_, ?_, ?_, ?_, ?_, ?_, ?_⟩ <;> (first | rfl | (simp (maxDischargeDepth := 12) [State.vaultBlock]; done) | (unfold State.vaultBlock; (try dsimp only); repeat' (first | rfl | (simp (maxDischargeDepth := 12); done) | split)))

@[simp] theorem State_vaultBlock_keeps2 (s : State) :
    (State.vaultBlock s).2.stopq = s.stopq ∧ (State.vaultBlock s).2.flt = s.flt ∧ (State.vaultBlock s).2.warden = s.warden ∧
    (State.vaultBlock s).2.policy = s.policy ∧ (State.vaultBlock s).2.rings = s.rings ∧ (State.vaultBlock s).2.smb = s.smb ∧
    (State.vaultBlock s).2.avs = s.avs ∧ (State.vaultBlock s).2.tap = s.tap ∧ (State.vaultBlock s).2.pub = s.pub ∧
    (State.vaultBlock s).2.pending = s.pending := by
  refine ⟨?_, ?_, ?_, ?_, ?_, ?_, ?_, ?_, ?_, ?_⟩ <;> (first | rfl | (simp (maxDischargeDepth := 12) [State.vaultBlock]; done) | (unfold State.vaultBlock; (try dsimp only); repeat' (first | rfl | (simp (maxDischargeDepth := 12); done) | split)))

end Sys2Proof.Machine
end

