-- ==== Sys2Proof/Laws/FramesTestPort.lean ====
section
/-! SUPPORT. The fields of State that the operations of Machine/TestPort.lean leave alone. -/

set_option linter.unusedSimpArgs false
set_option linter.unusedVariables false

namespace Sys2Proof.Machine

@[simp] theorem State_capture_keeps0 (s : State) (therm : Bool) (errn : Bool) (alert : Bool) :
    (State.capture s therm errn alert).2.otp = s.otp ∧ (State.capture s therm errn alert).2.start = s.start ∧
    (State.capture s therm errn alert).2.clk = s.clk ∧ (State.capture s therm errn alert).2.win = s.win ∧
    (State.capture s therm errn alert).2.cells = s.cells ∧ (State.capture s therm errn alert).2.views = s.views ∧
    (State.capture s therm errn alert).2.chains = s.chains ∧ (State.capture s therm errn alert).2.creg = s.creg ∧
    (State.capture s therm errn alert).2.eng = s.eng ∧ (State.capture s therm errn alert).2.doms = s.doms ∧
    (State.capture s therm errn alert).2.lanes = s.lanes := by
  refine ⟨?_, ?_, ?_, ?_, ?_, ?_, ?_, ?_, ?_, ?_, ?_⟩ <;> (first | rfl | (simp (maxDischargeDepth := 12) [State.capture]; done) | (unfold State.capture; (try dsimp only); repeat' (first | rfl | (simp (maxDischargeDepth := 12); done) | split)))

@[simp] theorem State_capture_keeps1 (s : State) (therm : Bool) (errn : Bool) (alert : Bool) :
    (State.capture s therm errn alert).2.sense = s.sense ∧ (State.capture s therm errn alert).2.dscs = s.dscs ∧
    (State.capture s therm errn alert).2.hkcs = s.hkcs ∧ (State.capture s therm errn alert).2.tallies = s.tallies ∧
    (State.capture s therm errn alert).2.ledger = s.ledger ∧ (State.capture s therm errn alert).2.tiles = s.tiles ∧
    (State.capture s therm errn alert).2.accts = s.accts ∧ (State.capture s therm errn alert).2.limits = s.limits ∧
    (State.capture s therm errn alert).2.pace = s.pace ∧ (State.capture s therm errn alert).2.therm = s.therm ∧
    (State.capture s therm errn alert).2.diodes = s.diodes := by
  refine ⟨?_, ?_, ?_, ?_, ?_, ?_, ?_, ?_, ?_, ?_, ?_⟩ <;> (first | rfl | (simp (maxDischargeDepth := 12) [State.capture]; done) | (unfold State.capture; (try dsimp only); repeat' (first | rfl | (simp (maxDischargeDepth := 12); done) | split)))

@[simp] theorem State_capture_keeps2 (s : State) (therm : Bool) (errn : Bool) (alert : Bool) :
    (State.capture s therm errn alert).2.stopq = s.stopq ∧ (State.capture s therm errn alert).2.flt = s.flt ∧
    (State.capture s therm errn alert).2.warden = s.warden ∧ (State.capture s therm errn alert).2.policy = s.policy ∧
    (State.capture s therm errn alert).2.rings = s.rings ∧ (State.capture s therm errn alert).2.smb = s.smb ∧
    (State.capture s therm errn alert).2.avs = s.avs ∧ (State.capture s therm errn alert).2.tap = s.tap ∧
    (State.capture s therm errn alert).2.pub = s.pub ∧ (State.capture s therm errn alert).2.pending = s.pending := by
  refine ⟨?_, ?_, ?_, ?_, ?_, ?_, ?_, ?_, ?_, ?_⟩ <;> (first | rfl | (simp (maxDischargeDepth := 12) [State.capture]; done) | (unfold State.capture; (try dsimp only); repeat' (first | rfl | (simp (maxDischargeDepth := 12); done) | split)))

@[simp] theorem State_captureRun_keeps0 (s : State) :
    (State.captureRun s).2.otp = s.otp ∧ (State.captureRun s).2.start = s.start ∧ (State.captureRun s).2.clk = s.clk ∧
    (State.captureRun s).2.win = s.win ∧ (State.captureRun s).2.cells = s.cells ∧ (State.captureRun s).2.views = s.views ∧
    (State.captureRun s).2.chains = s.chains ∧ (State.captureRun s).2.creg = s.creg ∧ (State.captureRun s).2.eng = s.eng ∧
    (State.captureRun s).2.doms = s.doms ∧ (State.captureRun s).2.lanes = s.lanes := by
  refine ⟨?_, ?_, ?_, ?_, ?_, ?_, ?_, ?_, ?_, ?_, ?_⟩ <;> (first | rfl | (simp (maxDischargeDepth := 12) [State.captureRun]; done) | (unfold State.captureRun; (try dsimp only); repeat' (first | rfl | (simp (maxDischargeDepth := 12); done) | split)))

@[simp] theorem State_captureRun_keeps1 (s : State) :
    (State.captureRun s).2.sense = s.sense ∧ (State.captureRun s).2.dscs = s.dscs ∧ (State.captureRun s).2.hkcs = s.hkcs ∧
    (State.captureRun s).2.tallies = s.tallies ∧ (State.captureRun s).2.ledger = s.ledger ∧ (State.captureRun s).2.tiles = s.tiles ∧
    (State.captureRun s).2.accts = s.accts ∧ (State.captureRun s).2.limits = s.limits ∧ (State.captureRun s).2.pace = s.pace ∧
    (State.captureRun s).2.therm = s.therm ∧ (State.captureRun s).2.diodes = s.diodes := by
  refine ⟨?_, ?_, ?_, ?_, ?_, ?_, ?_, ?_, ?_, ?_, ?_⟩ <;> (first | rfl | (simp (maxDischargeDepth := 12) [State.captureRun]; done) | (unfold State.captureRun; (try dsimp only); repeat' (first | rfl | (simp (maxDischargeDepth := 12); done) | split)))

@[simp] theorem State_captureRun_keeps2 (s : State) :
    (State.captureRun s).2.stopq = s.stopq ∧ (State.captureRun s).2.flt = s.flt ∧ (State.captureRun s).2.warden = s.warden ∧
    (State.captureRun s).2.policy = s.policy ∧ (State.captureRun s).2.rings = s.rings ∧ (State.captureRun s).2.smb = s.smb ∧
    (State.captureRun s).2.avs = s.avs ∧ (State.captureRun s).2.tap = s.tap ∧ (State.captureRun s).2.pub = s.pub ∧
    (State.captureRun s).2.pending = s.pending := by
  refine ⟨?_, ?_, ?_, ?_, ?_, ?_, ?_, ?_, ?_, ?_⟩ <;> (first | rfl | (simp (maxDischargeDepth := 12) [State.captureRun]; done) | (unfold State.captureRun; (try dsimp only); repeat' (first | rfl | (simp (maxDischargeDepth := 12); done) | split)))

@[simp] theorem State_captureTest_keeps0 (s : State) :
    (State.captureTest s).2.otp = s.otp ∧ (State.captureTest s).2.start = s.start ∧ (State.captureTest s).2.clk = s.clk ∧
    (State.captureTest s).2.win = s.win ∧ (State.captureTest s).2.cells = s.cells ∧ (State.captureTest s).2.views = s.views ∧
    (State.captureTest s).2.chains = s.chains ∧ (State.captureTest s).2.creg = s.creg ∧ (State.captureTest s).2.eng = s.eng ∧
    (State.captureTest s).2.doms = s.doms ∧ (State.captureTest s).2.lanes = s.lanes := by
  refine ⟨?_, ?_, ?_, ?_, ?_, ?_, ?_, ?_, ?_, ?_, ?_⟩ <;> (first | rfl | (simp (maxDischargeDepth := 12) [State.captureTest]; done) | (unfold State.captureTest; (try dsimp only); repeat' (first | rfl | (simp (maxDischargeDepth := 12); done) | split)))

@[simp] theorem State_captureTest_keeps1 (s : State) :
    (State.captureTest s).2.sense = s.sense ∧ (State.captureTest s).2.dscs = s.dscs ∧ (State.captureTest s).2.hkcs = s.hkcs ∧
    (State.captureTest s).2.tallies = s.tallies ∧ (State.captureTest s).2.ledger = s.ledger ∧ (State.captureTest s).2.tiles = s.tiles ∧
    (State.captureTest s).2.accts = s.accts ∧ (State.captureTest s).2.limits = s.limits ∧ (State.captureTest s).2.pace = s.pace ∧
    (State.captureTest s).2.therm = s.therm ∧ (State.captureTest s).2.diodes = s.diodes := by
  refine ⟨?_, ?_, ?_, ?_, ?_, ?_, ?_, ?_, ?_, ?_, ?_⟩ <;> (first | rfl | (simp (maxDischargeDepth := 12) [State.captureTest]; done) | (unfold State.captureTest; (try dsimp only); repeat' (first | rfl | (simp (maxDischargeDepth := 12); done) | split)))

@[simp] theorem State_captureTest_keeps2 (s : State) :
    (State.captureTest s).2.stopq = s.stopq ∧ (State.captureTest s).2.flt = s.flt ∧ (State.captureTest s).2.warden = s.warden ∧
    (State.captureTest s).2.policy = s.policy ∧ (State.captureTest s).2.rings = s.rings ∧ (State.captureTest s).2.smb = s.smb ∧
    (State.captureTest s).2.avs = s.avs ∧ (State.captureTest s).2.tap = s.tap ∧ (State.captureTest s).2.pub = s.pub ∧
    (State.captureTest s).2.pending = s.pending := by
  refine ⟨?_, ?_, ?_, ?_, ?_, ?_, ?_, ?_, ?_, ?_⟩ <;> (first | rfl | (simp (maxDischargeDepth := 12) [State.captureTest]; done) | (unfold State.captureTest; (try dsimp only); repeat' (first | rfl | (simp (maxDischargeDepth := 12); done) | split)))

@[simp] theorem State_tapSelect_keeps (s : State) (ir : TapIr) (dr : Nat) :
    (State.tapSelect s ir dr).otp = s.otp ∧ (State.tapSelect s ir dr).clk = s.clk ∧ (State.tapSelect s ir dr).win = s.win ∧
    (State.tapSelect s ir dr).pace = s.pace ∧ (State.tapSelect s ir dr).stopq = s.stopq ∧ (State.tapSelect s ir dr).flt = s.flt ∧
    (State.tapSelect s ir dr).rings = s.rings ∧ (State.tapSelect s ir dr).smb = s.smb ∧ (State.tapSelect s ir dr).avs = s.avs ∧
    (State.tapSelect s ir dr).freeCtr = s.freeCtr ∧ (State.tapSelect s ir dr).pending = s.pending := by
  refine ⟨?_, ?_, ?_, ?_, ?_, ?_, ?_, ?_, ?_, ?_, ?_⟩ <;> (first | rfl | (simp (maxDischargeDepth := 12) [State.tapSelect]; done) | (unfold State.tapSelect; (try dsimp only); repeat' (first | rfl | (simp (maxDischargeDepth := 12); done) | split)))

@[simp] theorem State_tapBypass_keeps (s : State) :
    (State.tapBypass s).otp = s.otp ∧ (State.tapBypass s).clk = s.clk ∧ (State.tapBypass s).win = s.win ∧
    (State.tapBypass s).pace = s.pace ∧ (State.tapBypass s).stopq = s.stopq ∧ (State.tapBypass s).flt = s.flt ∧
    (State.tapBypass s).rings = s.rings ∧ (State.tapBypass s).smb = s.smb ∧ (State.tapBypass s).avs = s.avs ∧
    (State.tapBypass s).freeCtr = s.freeCtr ∧ (State.tapBypass s).pending = s.pending := by
  refine ⟨?_, ?_, ?_, ?_, ?_, ?_, ?_, ?_, ?_, ?_, ?_⟩ <;> (first | rfl | (simp (maxDischargeDepth := 12) [State.tapBypass]; done) | (unfold State.tapBypass; (try dsimp only); repeat' (first | rfl | (simp (maxDischargeDepth := 12); done) | split)))

end Sys2Proof.Machine
end

