-- ==== Sys2Proof/Laws/Loops.lean ====
section
/-! SUPPORT. Loops that change each listed thing once: the listed ones read as changed, the others as before. -/

namespace Sys2Proof.Machine

theorem forEach_updCell_other (g : Nat → Cell → Cell) (l : List Nat) (s : State) (i : Nat) (h : i ∉ l) :
    (s.forEach l fun s j => s.updCell j (g j)).cell i = s.cell i := by
  induction l generalizing s with
  | nil => rfl
  | cons j l ih =>
    have hj : i ≠ j := fun e => h (by simp [e])
    exact (ih _ fun m => h (List.mem_cons_of_mem _ m)).trans (State.updCell_other s j i (g j) hj)

theorem forEach_updCell_mem (g : Nat → Cell → Cell) (l : List Nat) (s : State) (i : Nat) (n : l.Nodup) (h : i ∈ l) :
    (s.forEach l fun s j => s.updCell j (g j)).cell i = g i (s.cell i) := by
  induction l generalizing s with
  | nil => simp at h
  | cons j l ih =>
    have hn := List.nodup_cons.1 n
    by_cases e : i = j
    · subst e
      exact (forEach_updCell_other g l _ i hn.1).trans (State.updCell_same s i (g i))
    · have hm : i ∈ l := (List.mem_cons.1 h).resolve_left e
      exact (ih _ hn.2 hm).trans (congrArg (g i) (State.updCell_other s j i (g j) e))

theorem forEach_updView_other (g : Nat → View → View) (l : List Nat) (s : State) (i : Nat) (h : i ∉ l) :
    (s.forEach l fun s j => s.updView j (g j)).view i = s.view i := by
  induction l generalizing s with
  | nil => rfl
  | cons j l ih =>
    have hj : i ≠ j := fun e => h (by simp [e])
    exact (ih _ fun m => h (List.mem_cons_of_mem _ m)).trans (State.updView_other s j i (g j) hj)

theorem forEach_updView_mem (g : Nat → View → View) (l : List Nat) (s : State) (i : Nat) (n : l.Nodup) (h : i ∈ l) :
    (s.forEach l fun s j => s.updView j (g j)).view i = g i (s.view i) := by
  induction l generalizing s with
  | nil => simp at h
  | cons j l ih =>
    have hn := List.nodup_cons.1 n
    by_cases e : i = j
    · subst e
      exact (forEach_updView_other g l _ i hn.1).trans (State.updView_same s i (g i))
    · have hm : i ∈ l := (List.mem_cons.1 h).resolve_left e
      exact (ih _ hn.2 hm).trans (congrArg (g i) (State.updView_other s j i (g j) e))

theorem forEach_updChain_other (g : Nat → Chain → Chain) (l : List Nat) (s : State) (i : Nat) (h : i ∉ l) :
    (s.forEach l fun s j => s.updChain j (g j)).chain i = s.chain i := by
  induction l generalizing s with
  | nil => rfl
  | cons j l ih =>
    have hj : i ≠ j := fun e => h (by simp [e])
    exact (ih _ fun m => h (List.mem_cons_of_mem _ m)).trans (State.updChain_other s j i (g j) hj)

theorem forEach_updChain_mem (g : Nat → Chain → Chain) (l : List Nat) (s : State) (i : Nat) (n : l.Nodup) (h : i ∈ l) :
    (s.forEach l fun s j => s.updChain j (g j)).chain i = g i (s.chain i) := by
  induction l generalizing s with
  | nil => simp at h
  | cons j l ih =>
    have hn := List.nodup_cons.1 n
    by_cases e : i = j
    · subst e
      exact (forEach_updChain_other g l _ i hn.1).trans (State.updChain_same s i (g i))
    · have hm : i ∈ l := (List.mem_cons.1 h).resolve_left e
      exact (ih _ hn.2 hm).trans (congrArg (g i) (State.updChain_other s j i (g j) e))

theorem forEach_updDom_other (g : Nat → Dom → Dom) (l : List Nat) (s : State) (i : Nat) (h : i ∉ l) :
    (s.forEach l fun s j => s.updDom j (g j)).dom i = s.dom i := by
  induction l generalizing s with
  | nil => rfl
  | cons j l ih =>
    have hj : i ≠ j := fun e => h (by simp [e])
    exact (ih _ fun m => h (List.mem_cons_of_mem _ m)).trans (State.updDom_other s j i (g j) hj)

theorem forEach_updDom_mem (g : Nat → Dom → Dom) (l : List Nat) (s : State) (i : Nat) (n : l.Nodup) (h : i ∈ l) :
    (s.forEach l fun s j => s.updDom j (g j)).dom i = g i (s.dom i) := by
  induction l generalizing s with
  | nil => simp at h
  | cons j l ih =>
    have hn := List.nodup_cons.1 n
    by_cases e : i = j
    · subst e
      exact (forEach_updDom_other g l _ i hn.1).trans (State.updDom_same s i (g i))
    · have hm : i ∈ l := (List.mem_cons.1 h).resolve_left e
      exact (ih _ hn.2 hm).trans (congrArg (g i) (State.updDom_other s j i (g j) e))

theorem forEach_updTile_other (g : Nat → Tile → Tile) (l : List Nat) (s : State) (i : Nat) (h : i ∉ l) :
    (s.forEach l fun s j => s.updTile j (g j)).tile i = s.tile i := by
  induction l generalizing s with
  | nil => rfl
  | cons j l ih =>
    have hj : i ≠ j := fun e => h (by simp [e])
    exact (ih _ fun m => h (List.mem_cons_of_mem _ m)).trans (State.updTile_other s j i (g j) hj)

theorem forEach_updTile_mem (g : Nat → Tile → Tile) (l : List Nat) (s : State) (i : Nat) (n : l.Nodup) (h : i ∈ l) :
    (s.forEach l fun s j => s.updTile j (g j)).tile i = g i (s.tile i) := by
  induction l generalizing s with
  | nil => simp at h
  | cons j l ih =>
    have hn := List.nodup_cons.1 n
    by_cases e : i = j
    · subst e
      exact (forEach_updTile_other g l _ i hn.1).trans (State.updTile_same s i (g i))
    · have hm : i ∈ l := (List.mem_cons.1 h).resolve_left e
      exact (ih _ hn.2 hm).trans (congrArg (g i) (State.updTile_other s j i (g j) e))

theorem forEach_updLane_other (g : Nat → Lane → Lane) (l : List Nat) (s : State) (i : Nat) (h : i ∉ l) :
    (s.forEach l fun s j => s.updLane j (g j)).lane i = s.lane i := by
  induction l generalizing s with
  | nil => rfl
  | cons j l ih =>
    have hj : i ≠ j := fun e => h (by simp [e])
    exact (ih _ fun m => h (List.mem_cons_of_mem _ m)).trans (State.updLane_other s j i (g j) hj)

theorem forEach_updLane_mem (g : Nat → Lane → Lane) (l : List Nat) (s : State) (i : Nat) (n : l.Nodup) (h : i ∈ l) :
    (s.forEach l fun s j => s.updLane j (g j)).lane i = g i (s.lane i) := by
  induction l generalizing s with
  | nil => simp at h
  | cons j l ih =>
    have hn := List.nodup_cons.1 n
    by_cases e : i = j
    · subst e
      exact (forEach_updLane_other g l _ i hn.1).trans (State.updLane_same s i (g i))
    · have hm : i ∈ l := (List.mem_cons.1 h).resolve_left e
      exact (ih _ hn.2 hm).trans (congrArg (g i) (State.updLane_other s j i (g j) e))

end Sys2Proof.Machine
end

