-- ==== Sys2Proof/Laws/Reacts.lean ====
section
/-! SUPPORT. What leaves flt.react alone. -/

set_option linter.unusedSimpArgs false
set_option linter.unusedVariables false

namespace Sys2Proof.Machine

@[simp] theorem foldl_flt_react {α : Type} (g : State → α → State) (l : List α) (s : State) (h : ∀ t a, (g t a).flt.react = t.flt.react) :
    (l.foldl g s).flt.react = s.flt.react := foldl_keeps (·.flt.react) g l s h
@[simp] theorem forEach_flt_react (g : State → Nat → State) (l : List Nat) (s : State) (h : ∀ t a, (g t a).flt.react = t.flt.react) :
    (s.forEach l g).flt.react = s.flt.react := foldl_keeps (·.flt.react) g l s h

@[simp] theorem State_vaultPut_flt_react (s : State) (a : Nat) (l : List Byte)  : (State.vaultPut s a l).flt.react = s.flt.react := by
  first | rfl | (simp (maxDischargeDepth := 12) [State.vaultPut]; done) | (unfold State.vaultPut; (try dsimp only); repeat' (first | rfl | (simp (maxDischargeDepth := 12); done) | (refine (foldl_keeps (fun z => z.flt.react) _ _ _ (fun t f => ?_)).trans ?_) | (refine (foldl_keeps_fst (fun z => z.flt.react) _ _ _ (fun t f => ?_)).trans ?_) | split))

@[simp] theorem State_vaultPutWords_flt_react (s : State) (a : Nat) (l : List Word)  : (State.vaultPutWords s a l).flt.react = s.flt.react := by
  first | rfl | (simp (maxDischargeDepth := 12) [State.vaultPutWords]; done) | (unfold State.vaultPutWords; (try dsimp only); repeat' (first | rfl | (simp (maxDischargeDepth := 12); done) | (refine (foldl_keeps (fun z => z.flt.react) _ _ _ (fun t f => ?_)).trans ?_) | (refine (foldl_keeps_fst (fun z => z.flt.react) _ _ _ (fun t f => ?_)).trans ?_) | split))

@[simp] theorem State_vaultJob_flt_react (s : State) (prio : Nat) (recNo : Nat) (addr : Nat) (l : List Word)  : (State.vaultJob s prio recNo addr l).flt.react = s.flt.react := by
  first | rfl | (simp (maxDischargeDepth := 12) [State.vaultJob]; done) | (unfold State.vaultJob; (try dsimp only); repeat' (first | rfl | (simp (maxDischargeDepth := 12); done) | (refine (foldl_keeps (fun z => z.flt.react) _ _ _ (fun t f => ?_)).trans ?_) | (refine (foldl_keeps_fst (fun z => z.flt.react) _ _ _ (fun t f => ?_)).trans ?_) | split))

@[simp] theorem State_vaultFlush_flt_react (s : State) (recNo : Nat)  : (State.vaultFlush s recNo).flt.react = s.flt.react := by
  first | rfl | (simp (maxDischargeDepth := 12) [State.vaultFlush]; done) | (unfold State.vaultFlush; (try dsimp only); repeat' (first | rfl | (simp (maxDischargeDepth := 12); done) | (refine (foldl_keeps (fun z => z.flt.react) _ _ _ (fun t f => ?_)).trans ?_) | (refine (foldl_keeps_fst (fun z => z.flt.react) _ _ _ (fun t f => ?_)).trans ?_) | split))

@[simp] theorem State_writeStateBlock_flt_react (s : State)  : (State.writeStateBlock s).flt.react = s.flt.react := by
  first | rfl | (simp (maxDischargeDepth := 12) [State.writeStateBlock]; done) | (unfold State.writeStateBlock; (try dsimp only); repeat' (first | rfl | (simp (maxDischargeDepth := 12); done) | (refine (foldl_keeps (fun z => z.flt.react) _ _ _ (fun t f => ?_)).trans ?_) | (refine (foldl_keeps_fst (fun z => z.flt.react) _ _ _ (fun t f => ?_)).trans ?_) | split))

@[simp] theorem State_pushEvent_flt_react (s : State) (e : Event)  : (State.pushEvent s e).flt.react = s.flt.react := by
  first | rfl | (simp (maxDischargeDepth := 12) [State.pushEvent]; done) | (unfold State.pushEvent; (try dsimp only); repeat' (first | rfl | (simp (maxDischargeDepth := 12); done) | (refine (foldl_keeps (fun z => z.flt.react) _ _ _ (fun t f => ?_)).trans ?_) | (refine (foldl_keeps_fst (fun z => z.flt.react) _ _ _ (fun t f => ?_)).trans ?_) | split))

@[simp] theorem State_stopLatch_flt_react (s : State) (causes : Nat) (abandon : Bool)  : (State.stopLatch s causes abandon).flt.react = s.flt.react := by
  first | rfl | (simp (maxDischargeDepth := 12) [State.stopLatch]; done) | (unfold State.stopLatch; (try dsimp only); repeat' (first | rfl | (simp (maxDischargeDepth := 12); done) | (refine (foldl_keeps (fun z => z.flt.react) _ _ _ (fun t f => ?_)).trans ?_) | (refine (foldl_keeps_fst (fun z => z.flt.react) _ _ _ (fun t f => ?_)).trans ?_) | split))

@[simp] theorem State_stopAddCause_flt_react (s : State) (causes : Nat)  : (State.stopAddCause s causes).flt.react = s.flt.react := by
  first | rfl | (simp (maxDischargeDepth := 12) [State.stopAddCause]; done) | (unfold State.stopAddCause; (try dsimp only); repeat' (first | rfl | (simp (maxDischargeDepth := 12); done) | (refine (foldl_keeps (fun z => z.flt.react) _ _ _ (fun t f => ?_)).trans ?_) | (refine (foldl_keeps_fst (fun z => z.flt.react) _ _ _ (fun t f => ?_)).trans ?_) | split))

@[simp] theorem State_stopWriteSeal_flt_react (s : State) (stage : Nat) (off : Nat)  : (State.stopWriteSeal s stage off).flt.react = s.flt.react := by
  first | rfl | (simp (maxDischargeDepth := 12) [State.stopWriteSeal]; done) | (unfold State.stopWriteSeal; (try dsimp only); repeat' (first | rfl | (simp (maxDischargeDepth := 12); done) | (refine (foldl_keeps (fun z => z.flt.react) _ _ _ (fun t f => ?_)).trans ?_) | (refine (foldl_keeps_fst (fun z => z.flt.react) _ _ _ (fun t f => ?_)).trans ?_) | split))

@[simp] theorem State_quietRestart_flt_react (s : State)  : (State.quietRestart s).flt.react = s.flt.react := by
  first | rfl | (simp (maxDischargeDepth := 12) [State.quietRestart]; done) | (unfold State.quietRestart; (try dsimp only); repeat' (first | rfl | (simp (maxDischargeDepth := 12); done) | (refine (foldl_keeps (fun z => z.flt.react) _ _ _ (fun t f => ?_)).trans ?_) | (refine (foldl_keeps_fst (fun z => z.flt.react) _ _ _ (fun t f => ?_)).trans ?_) | split))

@[simp] theorem State_enterStopped_flt_react (s : State)  : (State.enterStopped s).flt.react = s.flt.react := by
  first | rfl | (simp (maxDischargeDepth := 12) [State.enterStopped]; done) | (unfold State.enterStopped; (try dsimp only); repeat' (first | rfl | (simp (maxDischargeDepth := 12); done) | (refine (foldl_keeps (fun z => z.flt.react) _ _ _ (fun t f => ?_)).trans ?_) | (refine (foldl_keeps_fst (fun z => z.flt.react) _ _ _ (fun t f => ?_)).trans ?_) | split))

@[simp] theorem State_sealAndStop_flt_react (s : State) (stage : Nat) (off : Nat)  : (State.sealAndStop s stage off).flt.react = s.flt.react := by
  first | rfl | (simp (maxDischargeDepth := 12) [State.sealAndStop]; done) | (unfold State.sealAndStop; (try dsimp only); repeat' (first | rfl | (simp (maxDischargeDepth := 12); done) | (refine (foldl_keeps (fun z => z.flt.react) _ _ _ (fun t f => ?_)).trans ?_) | (refine (foldl_keeps_fst (fun z => z.flt.react) _ _ _ (fun t f => ?_)).trans ?_) | split))

@[simp] theorem State_stopRecordOnly_flt_react (s : State) (causes : Nat)  : (State.stopRecordOnly s causes).flt.react = s.flt.react := by
  first | rfl | (simp (maxDischargeDepth := 12) [State.stopRecordOnly]; done) | (unfold State.stopRecordOnly; (try dsimp only); repeat' (first | rfl | (simp (maxDischargeDepth := 12); done) | (refine (foldl_keeps (fun z => z.flt.react) _ _ _ (fun t f => ?_)).trans ?_) | (refine (foldl_keeps_fst (fun z => z.flt.react) _ _ _ (fun t f => ?_)).trans ?_) | split))

@[simp] theorem State_abandonStart_flt_react (s : State) (causes : Nat) (fail : Nat)  : (State.abandonStart s causes fail).flt.react = s.flt.react := by
  first | rfl | (simp (maxDischargeDepth := 12) [State.abandonStart]; done) | (unfold State.abandonStart; (try dsimp only); repeat' (first | rfl | (simp (maxDischargeDepth := 12); done) | (refine (foldl_keeps (fun z => z.flt.react) _ _ _ (fun t f => ?_)).trans ?_) | (refine (foldl_keeps_fst (fun z => z.flt.react) _ _ _ (fun t f => ?_)).trans ?_) | split))

@[simp] theorem State_abandonBoot_flt_react (s : State) (fail : Nat)  : (State.abandonBoot s fail).flt.react = s.flt.react := by
  first | rfl | (simp (maxDischargeDepth := 12) [State.abandonBoot]; done) | (unfold State.abandonBoot; (try dsimp only); repeat' (first | rfl | (simp (maxDischargeDepth := 12); done) | (refine (foldl_keeps (fun z => z.flt.react) _ _ _ (fun t f => ?_)).trans ?_) | (refine (foldl_keeps_fst (fun z => z.flt.react) _ _ _ (fun t f => ?_)).trans ?_) | split))

@[simp] theorem State_stopCause_flt_react (s : State) (causes : Nat)  : (State.stopCause s causes).flt.react = s.flt.react := by
  first | rfl | (simp (maxDischargeDepth := 12) [State.stopCause]; done) | (unfold State.stopCause; (try dsimp only); repeat' (first | rfl | (simp (maxDischargeDepth := 12); done) | (refine (foldl_keeps (fun z => z.flt.react) _ _ _ (fun t f => ?_)).trans ?_) | (refine (foldl_keeps_fst (fun z => z.flt.react) _ _ _ (fun t f => ?_)).trans ?_) | split))

@[simp] theorem State_paceSend_flt_react (s : State) (f : PaceTx)  : (State.paceSend s f).flt.react = s.flt.react := by
  first | rfl | (simp (maxDischargeDepth := 12) [State.paceSend]; done) | (unfold State.paceSend; (try dsimp only); repeat' (first | rfl | (simp (maxDischargeDepth := 12); done) | (refine (foldl_keeps (fun z => z.flt.react) _ _ _ (fun t f => ?_)).trans ?_) | (refine (foldl_keeps_fst (fun z => z.flt.react) _ _ _ (fun t f => ?_)).trans ?_) | split))

@[simp] theorem State_newSeq_flt_react (s : State) (old : Option Nat)  : (State.newSeq s old).2.flt.react = s.flt.react := by
  first | rfl | (simp (maxDischargeDepth := 12) [State.newSeq]; done) | (unfold State.newSeq; (try dsimp only); repeat' (first | rfl | (simp (maxDischargeDepth := 12); done) | (refine (foldl_keeps (fun z => z.flt.react) _ _ _ (fun t f => ?_)).trans ?_) | (refine (foldl_keeps_fst (fun z => z.flt.react) _ _ _ (fun t f => ?_)).trans ?_) | split))

@[simp] theorem State_paceDiscover_flt_react (s : State)  : (State.paceDiscover s).flt.react = s.flt.react := by
  first | rfl | (simp (maxDischargeDepth := 12) [State.paceDiscover]; done) | (unfold State.paceDiscover; (try dsimp only); repeat' (first | rfl | (simp (maxDischargeDepth := 12); done) | (refine (foldl_keeps (fun z => z.flt.react) _ _ _ (fun t f => ?_)).trans ?_) | (refine (foldl_keeps_fst (fun z => z.flt.react) _ _ _ (fun t f => ?_)).trans ?_) | split))

@[simp] theorem State_paceJoin_flt_react (s : State)  : (State.paceJoin s).flt.react = s.flt.react := by
  first | rfl | (simp (maxDischargeDepth := 12) [State.paceJoin]; done) | (unfold State.paceJoin; (try dsimp only); repeat' (first | rfl | (simp (maxDischargeDepth := 12); done) | (refine (foldl_keeps (fun z => z.flt.react) _ _ _ (fun t f => ?_)).trans ?_) | (refine (foldl_keeps_fst (fun z => z.flt.react) _ _ _ (fun t f => ?_)).trans ?_) | split))

@[simp] theorem State_paceDown_flt_react (s : State)  : (State.paceDown s).flt.react = s.flt.react := by
  first | rfl | (simp (maxDischargeDepth := 12) [State.paceDown]; done) | (unfold State.paceDown; (try dsimp only); repeat' (first | rfl | (simp (maxDischargeDepth := 12); done) | (refine (foldl_keeps (fun z => z.flt.react) _ _ _ (fun t f => ?_)).trans ?_) | (refine (foldl_keeps_fst (fun z => z.flt.react) _ _ _ (fun t f => ?_)).trans ?_) | split))

@[simp] theorem State_paceBlockReset_flt_react (s : State)  : (State.paceBlockReset s).flt.react = s.flt.react := by
  first | rfl | (simp (maxDischargeDepth := 12) [State.paceBlockReset]; done) | (unfold State.paceBlockReset; (try dsimp only); repeat' (first | rfl | (simp (maxDischargeDepth := 12); done) | (refine (foldl_keeps (fun z => z.flt.react) _ _ _ (fun t f => ?_)).trans ?_) | (refine (foldl_keeps_fst (fun z => z.flt.react) _ _ _ (fun t f => ?_)).trans ?_) | split))

@[simp] theorem State_paceRelease_flt_react (s : State) (relay : Bool) (group : Nat)  : (State.paceRelease s relay group).flt.react = s.flt.react := by
  first | rfl | (simp (maxDischargeDepth := 12) [State.paceRelease]; done) | (unfold State.paceRelease; (try dsimp only); repeat' (first | rfl | (simp (maxDischargeDepth := 12); done) | (refine (foldl_keeps (fun z => z.flt.react) _ _ _ (fun t f => ?_)).trans ?_) | (refine (foldl_keeps_fst (fun z => z.flt.react) _ _ _ (fun t f => ?_)).trans ?_) | split))

@[simp] theorem State_paceLeave_flt_react (s : State)  : (State.paceLeave s).flt.react = s.flt.react := by
  first | rfl | (simp (maxDischargeDepth := 12) [State.paceLeave]; done) | (unfold State.paceLeave; (try dsimp only); repeat' (first | rfl | (simp (maxDischargeDepth := 12); done) | (refine (foldl_keeps (fun z => z.flt.react) _ _ _ (fun t f => ?_)).trans ?_) | (refine (foldl_keeps_fst (fun z => z.flt.react) _ _ _ (fun t f => ?_)).trans ?_) | split))

@[simp] theorem State_fastReset_flt_react (s : State) (again : Bool)  : (State.fastReset s again).flt.react = s.flt.react := by
  first | rfl | (simp (maxDischargeDepth := 12) [State.fastReset]; done) | (unfold State.fastReset; (try dsimp only); repeat' (first | rfl | (simp (maxDischargeDepth := 12); done) | (refine (foldl_keeps (fun z => z.flt.react) _ _ _ (fun t f => ?_)).trans ?_) | (refine (foldl_keeps_fst (fun z => z.flt.react) _ _ _ (fun t f => ?_)).trans ?_) | split))

@[simp] theorem State_coldReset_flt_react (s : State)  : (State.coldReset s).flt.react = s.flt.react := by
  first | rfl | (simp (maxDischargeDepth := 12) [State.coldReset]; done) | (unfold State.coldReset; (try dsimp only); repeat' (first | rfl | (simp (maxDischargeDepth := 12); done) | (refine (foldl_keeps (fun z => z.flt.react) _ _ _ (fun t f => ?_)).trans ?_) | (refine (foldl_keeps_fst (fun z => z.flt.react) _ _ _ (fun t f => ?_)).trans ?_) | split))

@[simp] theorem State_writeIncident_flt_react (s : State) (dur : Nat)  : (State.writeIncident s dur).flt.react = s.flt.react := by
  first | rfl | (simp (maxDischargeDepth := 12) [State.writeIncident]; done) | (unfold State.writeIncident; (try dsimp only); repeat' (first | rfl | (simp (maxDischargeDepth := 12); done) | (refine (foldl_keeps (fun z => z.flt.react) _ _ _ (fun t f => ?_)).trans ?_) | (refine (foldl_keeps_fst (fun z => z.flt.react) _ _ _ (fun t f => ?_)).trans ?_) | split))

@[simp] theorem State_pushTrap_flt_react (s : State) (l : List (BitVec 64))  : (State.pushTrap s l).flt.react = s.flt.react := by
  first | rfl | (simp (maxDischargeDepth := 12) [State.pushTrap]; done) | (unfold State.pushTrap; (try dsimp only); repeat' (first | rfl | (simp (maxDischargeDepth := 12); done) | (refine (foldl_keeps (fun z => z.flt.react) _ _ _ (fun t f => ?_)).trans ?_) | (refine (foldl_keeps_fst (fun z => z.flt.react) _ _ _ (fun t f => ?_)).trans ?_) | split))

@[simp] theorem State_suspendAudits_flt_react (s : State)  : (State.suspendAudits s).flt.react = s.flt.react := by
  first | rfl | (simp (maxDischargeDepth := 12) [State.suspendAudits]; done) | (unfold State.suspendAudits; (try dsimp only); repeat' (first | rfl | (simp (maxDischargeDepth := 12); done) | (refine (foldl_keeps (fun z => z.flt.react) _ _ _ (fun t f => ?_)).trans ?_) | (refine (foldl_keeps_fst (fun z => z.flt.react) _ _ _ (fun t f => ?_)).trans ?_) | split))

@[simp] theorem State_fsrAssert_flt_react (s : State)  : (State.fsrAssert s).flt.react = s.flt.react := by
  first | rfl | (simp (maxDischargeDepth := 12) [State.fsrAssert]; done) | (unfold State.fsrAssert; (try dsimp only); repeat' (first | rfl | (simp (maxDischargeDepth := 12); done) | (refine (foldl_keeps (fun z => z.flt.react) _ _ _ (fun t f => ?_)).trans ?_) | (refine (foldl_keeps_fst (fun z => z.flt.react) _ _ _ (fun t f => ?_)).trans ?_) | split))

@[simp] theorem State_dscBlockReset_flt_react (s : State) (d : Nat)  : (State.dscBlockReset s d).flt.react = s.flt.react := by
  first | rfl | (simp (maxDischargeDepth := 12) [State.dscBlockReset]; done) | (unfold State.dscBlockReset; (try dsimp only); repeat' (first | rfl | (simp (maxDischargeDepth := 12); done) | (refine (foldl_keeps (fun z => z.flt.react) _ _ _ (fun t f => ?_)).trans ?_) | (refine (foldl_keeps_fst (fun z => z.flt.react) _ _ _ (fun t f => ?_)).trans ?_) | split))

@[simp] theorem State_hkcBlockReset_flt_react (s : State) (k : Nat)  : (State.hkcBlockReset s k).flt.react = s.flt.react := by
  first | rfl | (simp (maxDischargeDepth := 12) [State.hkcBlockReset]; done) | (unfold State.hkcBlockReset; (try dsimp only); repeat' (first | rfl | (simp (maxDischargeDepth := 12); done) | (refine (foldl_keeps (fun z => z.flt.react) _ _ _ (fun t f => ?_)).trans ?_) | (refine (foldl_keeps_fst (fun z => z.flt.react) _ _ _ (fun t f => ?_)).trans ?_) | split))

@[simp] theorem State_policyBlockReset_flt_react (s : State)  : (State.policyBlockReset s).flt.react = s.flt.react := by
  first | rfl | (simp (maxDischargeDepth := 12) [State.policyBlockReset]; done) | (unfold State.policyBlockReset; (try dsimp only); repeat' (first | rfl | (simp (maxDischargeDepth := 12); done) | (refine (foldl_keeps (fun z => z.flt.react) _ _ _ (fun t f => ?_)).trans ?_) | (refine (foldl_keeps_fst (fun z => z.flt.react) _ _ _ (fun t f => ?_)).trans ?_) | split))

@[simp] theorem State_ringBlockReset_flt_react (s : State)  : (State.ringBlockReset s).flt.react = s.flt.react := by
  first | rfl | (simp (maxDischargeDepth := 12) [State.ringBlockReset]; done) | (unfold State.ringBlockReset; (try dsimp only); repeat' (first | rfl | (simp (maxDischargeDepth := 12); done) | (refine (foldl_keeps (fun z => z.flt.react) _ _ _ (fun t f => ?_)).trans ?_) | (refine (foldl_keeps_fst (fun z => z.flt.react) _ _ _ (fun t f => ?_)).trans ?_) | split))

@[simp] theorem State_blockReset_flt_react (s : State) (b : Block) (obj : Nat)  : (State.blockReset s b obj).flt.react = s.flt.react := by
  first | rfl | (simp (maxDischargeDepth := 12) [State.blockReset]; done) | (unfold State.blockReset; (try dsimp only); repeat' (first | rfl | (simp (maxDischargeDepth := 12); done) | (refine (foldl_keeps (fun z => z.flt.react) _ _ _ (fun t f => ?_)).trans ?_) | (refine (foldl_keeps_fst (fun z => z.flt.react) _ _ _ (fun t f => ?_)).trans ?_) | split))

@[simp] theorem State_blockReleased_flt_react (s : State) (b : Block) (obj : Nat)  : (State.blockReleased s b obj).flt.react = s.flt.react := by
  first | rfl | (simp (maxDischargeDepth := 12) [State.blockReleased]; done) | (unfold State.blockReleased; (try dsimp only); repeat' (first | rfl | (simp (maxDischargeDepth := 12); done) | (refine (foldl_keeps (fun z => z.flt.react) _ _ _ (fun t f => ?_)).trans ?_) | (refine (foldl_keeps_fst (fun z => z.flt.react) _ _ _ (fun t f => ?_)).trans ?_) | split))

@[simp] theorem State_holdAudit_flt_react (s : State)  : (State.holdAudit s).flt.react = s.flt.react := by
  first | rfl | (simp (maxDischargeDepth := 12) [State.holdAudit]; done) | (unfold State.holdAudit; (try dsimp only); repeat' (first | rfl | (simp (maxDischargeDepth := 12); done) | (refine (foldl_keeps (fun z => z.flt.react) _ _ _ (fun t f => ?_)).trans ?_) | (refine (foldl_keeps_fst (fun z => z.flt.react) _ _ _ (fun t f => ?_)).trans ?_) | split))

@[simp] theorem State_startAudit_flt_react (s : State) (src : Nat) (obj : Nat)  : (State.startAudit s src obj).flt.react = s.flt.react := by
  first | rfl | (simp (maxDischargeDepth := 12) [State.startAudit]; done) | (unfold State.startAudit; (try dsimp only); repeat' (first | rfl | (simp (maxDischargeDepth := 12); done) | (refine (foldl_keeps (fun z => z.flt.react) _ _ _ (fun t f => ?_)).trans ?_) | (refine (foldl_keeps_fst (fun z => z.flt.react) _ _ _ (fun t f => ?_)).trans ?_) | split))

@[simp] theorem State_errnPulse_flt_react (s : State)  : (State.errnPulse s).flt.react = s.flt.react := by
  first | rfl | (simp (maxDischargeDepth := 12) [State.errnPulse]; done) | (unfold State.errnPulse; (try dsimp only); repeat' (first | rfl | (simp (maxDischargeDepth := 12); done) | (refine (foldl_keeps (fun z => z.flt.react) _ _ _ (fun t f => ?_)).trans ?_) | (refine (foldl_keeps_fst (fun z => z.flt.react) _ _ _ (fun t f => ?_)).trans ?_) | split))

@[simp] theorem State_errnSettle_flt_react (s : State)  : (State.errnSettle s).flt.react = s.flt.react := by
  first | rfl | (simp (maxDischargeDepth := 12) [State.errnSettle]; done) | (unfold State.errnSettle; (try dsimp only); repeat' (first | rfl | (simp (maxDischargeDepth := 12); done) | (refine (foldl_keeps (fun z => z.flt.react) _ _ _ (fun t f => ?_)).trans ?_) | (refine (foldl_keeps_fst (fun z => z.flt.react) _ _ _ (fun t f => ?_)).trans ?_) | split))

@[simp] theorem State_reactI_flt_react (s : State) (src : Nat) (obj : Nat)  : (State.reactI s src obj).flt.react = s.flt.react := by
  first | rfl | (simp (maxDischargeDepth := 12) [State.reactI]; done) | (unfold State.reactI; (try dsimp only); repeat' (first | rfl | (simp (maxDischargeDepth := 12); done) | (refine (foldl_keeps (fun z => z.flt.react) _ _ _ (fun t f => ?_)).trans ?_) | (refine (foldl_keeps_fst (fun z => z.flt.react) _ _ _ (fun t f => ?_)).trans ?_) | split))

@[simp] theorem State_reactC_flt_react (s : State)  : (State.reactC s).flt.react = s.flt.react := by
  first | rfl | (simp (maxDischargeDepth := 12) [State.reactC]; done) | (unfold State.reactC; (try dsimp only); repeat' (first | rfl | (simp (maxDischargeDepth := 12); done) | (refine (foldl_keeps (fun z => z.flt.react) _ _ _ (fun t f => ?_)).trans ?_) | (refine (foldl_keeps_fst (fun z => z.flt.react) _ _ _ (fun t f => ?_)).trans ?_) | split))

@[simp] theorem State_issue_flt_react (s : State) (src : Nat) (obj : Nat) (new : Nat)  : (State.issue s src obj new).flt.react = s.flt.react := by
  first | rfl | (simp (maxDischargeDepth := 12) [State.issue]; done) | (unfold State.issue; (try dsimp only); repeat' (first | rfl | (simp (maxDischargeDepth := 12); done) | (refine (foldl_keeps (fun z => z.flt.react) _ _ _ (fun t f => ?_)).trans ?_) | (refine (foldl_keeps_fst (fun z => z.flt.react) _ _ _ (fun t f => ?_)).trans ?_) | split))

@[simp] theorem State_countRaise_flt_react (s : State) (src : Nat) (obj : Nat)  : (State.countRaise s src obj).flt.react = s.flt.react := by
  first | rfl | (simp (maxDischargeDepth := 12) [State.countRaise]; done) | (unfold State.countRaise; (try dsimp only); repeat' (first | rfl | (simp (maxDischargeDepth := 12); done) | (refine (foldl_keeps (fun z => z.flt.react) _ _ _ (fun t f => ?_)).trans ?_) | (refine (foldl_keeps_fst (fun z => z.flt.react) _ _ _ (fun t f => ?_)).trans ?_) | split))

@[simp] theorem State_repeatRaise_flt_react (s : State)  : (State.repeatRaise s).flt.react = s.flt.react := by
  first | rfl | (simp (maxDischargeDepth := 12) [State.repeatRaise]; done) | (unfold State.repeatRaise; (try dsimp only); repeat' (first | rfl | (simp (maxDischargeDepth := 12); done) | (refine (foldl_keeps (fun z => z.flt.react) _ _ _ (fun t f => ?_)).trans ?_) | (refine (foldl_keeps_fst (fun z => z.flt.react) _ _ _ (fun t f => ?_)).trans ?_) | split))

@[simp] theorem State_openIncident_flt_react (s : State) (src : Nat) (obj : Nat) (inj : Bool)  : (State.openIncident s src obj inj).flt.react = s.flt.react := by
  first | rfl | (simp (maxDischargeDepth := 12) [State.openIncident]; done) | (unfold State.openIncident; (try dsimp only); repeat' (first | rfl | (simp (maxDischargeDepth := 12); done) | (refine (foldl_keeps (fun z => z.flt.react) _ _ _ (fun t f => ?_)).trans ?_) | (refine (foldl_keeps_fst (fun z => z.flt.react) _ _ _ (fun t f => ?_)).trans ?_) | split))

@[simp] theorem State_mergeRaise_flt_react (s : State) (src : Nat) (inj : Bool)  : (State.mergeRaise s src inj).flt.react = s.flt.react := by
  first | rfl | (simp (maxDischargeDepth := 12) [State.mergeRaise]; done) | (unfold State.mergeRaise; (try dsimp only); repeat' (first | rfl | (simp (maxDischargeDepth := 12); done) | (refine (foldl_keeps (fun z => z.flt.react) _ _ _ (fun t f => ?_)).trans ?_) | (refine (foldl_keeps_fst (fun z => z.flt.react) _ _ _ (fun t f => ?_)).trans ?_) | split))

@[simp] theorem State_handleRaise_flt_react (s : State) (src : Nat) (obj : Nat) (newSrc : Bool)  : (State.handleRaise s src obj newSrc).flt.react = s.flt.react := by
  first | rfl | (simp (maxDischargeDepth := 12) [State.handleRaise]; done) | (unfold State.handleRaise; (try dsimp only); repeat' (first | rfl | (simp (maxDischargeDepth := 12); done) | (refine (foldl_keeps (fun z => z.flt.react) _ _ _ (fun t f => ?_)).trans ?_) | (refine (foldl_keeps_fst (fun z => z.flt.react) _ _ _ (fun t f => ?_)).trans ?_) | split))

@[simp] theorem State_abandonAudits_flt_react (s : State)  : (State.abandonAudits s).flt.react = s.flt.react := by
  first | rfl | (simp (maxDischargeDepth := 12) [State.abandonAudits]; done) | (unfold State.abandonAudits; (try dsimp only); repeat' (first | rfl | (simp (maxDischargeDepth := 12); done) | (refine (foldl_keeps (fun z => z.flt.react) _ _ _ (fun t f => ?_)).trans ?_) | (refine (foldl_keeps_fst (fun z => z.flt.react) _ _ _ (fun t f => ?_)).trans ?_) | split))

@[simp] theorem State_raise_flt_react (s : State) (src : Nat) (obj : Nat) (inj : Bool)  : (State.raise s src obj inj).flt.react = s.flt.react := by
  first | rfl | (simp (maxDischargeDepth := 12) [State.raise]; done) | (unfold State.raise; (try dsimp only); repeat' (first | rfl | (simp (maxDischargeDepth := 12); done) | (refine (foldl_keeps (fun z => z.flt.react) _ _ _ (fun t f => ?_)).trans ?_) | (refine (foldl_keeps_fst (fun z => z.flt.react) _ _ _ (fun t f => ?_)).trans ?_) | split))

@[simp] theorem State_concludeAudit_flt_react (s : State) (src : Nat) (pass : Bool) (held : Bool)  : (State.concludeAudit s src pass held).flt.react = s.flt.react := by
  first | rfl | (simp (maxDischargeDepth := 12) [State.concludeAudit]; done) | (unfold State.concludeAudit; (try dsimp only); repeat' (first | rfl | (simp (maxDischargeDepth := 12); done) | (refine (foldl_keeps (fun z => z.flt.react) _ _ _ (fun t f => ?_)).trans ?_) | (refine (foldl_keeps_fst (fun z => z.flt.react) _ _ _ (fun t f => ?_)).trans ?_) | split))

@[simp] theorem State_closeIncident_flt_react (s : State) (overrun : Bool)  : (State.closeIncident s overrun).flt.react = s.flt.react := by
  first | rfl | (simp (maxDischargeDepth := 12) [State.closeIncident]; done) | (unfold State.closeIncident; (try dsimp only); repeat' (first | rfl | (simp (maxDischargeDepth := 12); done) | (refine (foldl_keeps (fun z => z.flt.react) _ _ _ (fun t f => ?_)).trans ?_) | (refine (foldl_keeps_fst (fun z => z.flt.react) _ _ _ (fun t f => ?_)).trans ?_) | split))

@[simp] theorem State_winRefused_flt_react (s : State) (code : Nat) (off : Nat) (write : Bool)  : (State.winRefused s code off write).flt.react = s.flt.react := by
  first | rfl | (simp (maxDischargeDepth := 12) [State.winRefused]; done) | (unfold State.winRefused; (try dsimp only); repeat' (first | rfl | (simp (maxDischargeDepth := 12); done) | (refine (foldl_keeps (fun z => z.flt.react) _ _ _ (fun t f => ?_)).trans ?_) | (refine (foldl_keeps_fst (fun z => z.flt.react) _ _ _ (fun t f => ?_)).trans ?_) | split))

end Sys2Proof.Machine
end

