-- ==== Sys2Proof/Laws/Kit.lean ====
section
/-! SUPPORT. What single operations of the commands do, each said once. -/

namespace Sys2Proof.Machine

/-! ### The fall of BOOT (R373) -/

@[simp] theorem State.lowerBoot_start (s : State) : s.lowerBoot.start = { s.start with boot := false } := by simp [State.lowerBoot]
@[simp] theorem State.lowerBoot_stopq (s : State) : s.lowerBoot.stopq = s.stopq := by simp [State.lowerBoot]
@[simp] theorem State.lowerBoot_flt (s : State) : s.lowerBoot.flt = s.flt := by simp [State.lowerBoot]
@[simp] theorem State.lowerBoot_doms (s : State) : s.lowerBoot.doms = s.doms := by simp [State.lowerBoot]
@[simp] theorem State.lowerBoot_clk (s : State) : s.lowerBoot.clk = s.clk := by simp [State.lowerBoot]

/-- A cell outside SD14's home cells is not touched. -/
theorem State.lowerBoot_cell_other (s : State) (i : Nat) (h : i ∉ bootCells) : s.lowerBoot.cell i = s.cell i :=
  forEach_updCell_other (fun _ c => if c.boot then { c with ramp := true } else c) bootCells _ i h

/-- A cell in its boot role ramps. -/
theorem State.lowerBoot_cell_mem (s : State) (i : Nat) (h : i ∈ bootCells) :
    s.lowerBoot.cell i = if (s.cell i).boot then { s.cell i with ramp := true } else s.cell i :=
  forEach_updCell_mem (fun _ c => if c.boot then { c with ramp := true } else c) bootCells _ i (by decide) h

@[simp] theorem State.abandonBoot_cell (s : State) (n i : Nat) : (s.abandonBoot n).cell i = s.cell i := rfl
@[simp] theorem State.abandonAudits_cell (s : State) (i : Nat) : s.abandonAudits.cell i = s.cell i := by
  simp [State.cell]

@[simp] theorem State.wakeWarden_watch (s : State) : s.wakeWarden.clk.watch = s.clk.watch := by
  unfold State.wakeWarden; split <;> (try split) <;> rfl

/-! ### The mailbox (R451) -/

/-- The state in which the warden serves a command of a ready channel. -/
def State.mboxTaken (s : State) (ch : MboxChan) (op : Nat) (tag : BitVec 8) (args data : List Word) : State :=
  (if ch == MboxChan.pmbus then s.wakeWarden else s).updMbox ch fun m => { m with
    busy := true
    op := op
    cmdTag := tag.toNat
    tag := tag.toNat
    args := if args.isEmpty then m.args else asTab ((args ++ [0, 0, 0, 0]).take 4)
    data := if data.isEmpty then m.data else asTab ((data ++ List.replicate 16 0).take 16)
    wait := none }

/-- With no command waiting the warden has no turn. -/
theorem State.mboxTurn_idle {s : State} (h : s.warden.mboxW.wait = none) (k : s.warden.mboxP.wait = none) : s.mboxTurn = s := by
  unfold State.mboxTurn
  split
  · rfl
  · simp [h, k]

theorem wardenUp_congr {s t : State} (h : t.start = s.start) : t.wardenUp = s.wardenUp := by simp [State.wardenUp, h]

@[simp] theorem State.updMbox_start (s : State) (ch : MboxChan) (f : Mbox → Mbox) : (s.updMbox ch f).start = s.start := by cases ch <;> rfl
@[simp] theorem State.updMbox_flt (s : State) (ch : MboxChan) (f : Mbox → Mbox) : (s.updMbox ch f).flt = s.flt := by cases ch <;> rfl
@[simp] theorem State.updMbox_stopq (s : State) (ch : MboxChan) (f : Mbox → Mbox) : (s.updMbox ch f).stopq = s.stopq := by cases ch <;> rfl
@[simp] theorem State.updMbox_policy (s : State) (ch : MboxChan) (f : Mbox → Mbox) : (s.updMbox ch f).policy = s.policy := by cases ch <;> rfl
@[simp] theorem State.updMbox_mbox (s : State) (ch : MboxChan) (f : Mbox → Mbox) : (s.updMbox ch f).mbox ch = f (s.mbox ch) := by
  cases ch <;> rfl
@[simp] theorem State.alertUpdate_mbox (s : State) (ch : MboxChan) : s.alertUpdate.mbox ch = s.mbox ch := by cases ch <;> rfl

@[simp] theorem State.updMbox_updMbox (s : State) (ch : MboxChan) (f g : Mbox → Mbox) :
    (s.updMbox ch f).updMbox ch g = s.updMbox ch fun m => g (f m) := by cases ch <;> rfl

/-- The warden takes the one command that waits. -/
theorem State.mboxTurn_one {s : State} {ch : MboxChan} {c : Instr} (h1 : s.wardenUp = true) (h2 : s.warden.mboxW.running = false)
    (h3 : s.warden.mboxP.running = false) (h4 : (s.mbox ch).wait = some c) (h5 : ch = .pmbus → s.warden.mboxW.wait = none) :
    s.mboxTurn = (s.updMbox ch fun m => { m with wait := none }).mboxRun c := by
  cases ch
  · simp only [State.mbox] at h4; simp [State.mboxTurn, h1, h2, h3, h4]
  · simp only [State.mbox] at h4; simp [State.mboxTurn, h1, h2, h3, h4, h5]

/-- A ready channel's command is run at once; the turn after it finds what the command left waiting. -/
theorem State.mboxCommand_ready {s : State} {ch : MboxChan} (h : s.MboxReady ch) (op : Nat) (tag : BitVec 8) (args data : List Word)
    (c : Instr) : s.mboxCommand ch op tag args data c = ((s.mboxTaken ch op tag args data).mboxRun c).mboxTurn := by
  obtain ⟨h1, h2, h3, h4, h5, h6⟩ := h
  have aon : s.start.aon = true := by
    simp only [State.wardenUp, Bool.and_eq_true] at h1; exact h1.1.1
  cases ch
  · have e : s.mboxCommand .window op tag args data c = (s.updMbox .window fun m => { m with
        busy := true, op := op, cmdTag := tag.toNat, tag := tag.toNat
        args := if args.isEmpty then m.args else asTab ((args ++ [0, 0, 0, 0]).take 4)
        data := if data.isEmpty then m.data else asTab ((data ++ List.replicate 16 0).take 16)
        wait := some c }).mboxTurns := by
      simp only at h6
      simp [State.mboxCommand, State.mbox, aon, h2, h6, show (MboxChan.window == MboxChan.pmbus) = false from rfl]
    rw [e, State.mboxTurns]
    refine congrArg State.mboxTurn ((State.mboxTurn_one (ch := .window) (c := c) ((wardenUp_congr (by simp)).trans h1)
      (by simp [State.updMbox, Mbox.running]) (by simp [State.updMbox, Mbox.running, h3]) (by simp) (by simp)).trans ?_)
    simp [State.mboxTaken, show (MboxChan.window == MboxChan.pmbus) = false from rfl]
  · have e : s.mboxCommand .pmbus op tag args data c = (s.wakeWarden.updMbox .pmbus fun m => { m with
        busy := true, op := op, cmdTag := tag.toNat, tag := tag.toNat
        args := if args.isEmpty then m.args else asTab ((args ++ [0, 0, 0, 0]).take 4)
        data := if data.isEmpty then m.data else asTab ((data ++ List.replicate 16 0).take 16)
        wait := some c }).mboxTurns := by
      simp only at h6
      simp [State.mboxCommand, State.mbox, aon, h3, h6, show (MboxChan.pmbus == MboxChan.window) = false from rfl]
    rw [e, State.mboxTurns]
    refine congrArg State.mboxTurn ((State.mboxTurn_one (ch := .pmbus) (c := c) ((wardenUp_congr (by simp)).trans h1)
      (by simp [State.updMbox, Mbox.running, h2]) (by simp [State.updMbox, Mbox.running]) (by simp) (by simp [State.updMbox, h4])).trans ?_)
    simp [State.mboxTaken]

@[simp] theorem State.mboxTaken_keeps (s : State) (ch : MboxChan) (op : Nat) (tag : BitVec 8) (a d : List Word) :
    (s.mboxTaken ch op tag a d).flt = s.flt ∧ (s.mboxTaken ch op tag a d).stopq = s.stopq ∧
    (s.mboxTaken ch op tag a d).policy = s.policy ∧ (s.mboxTaken ch op tag a d).ledger = s.ledger ∧
    (s.mboxTaken ch op tag a d).doms = s.doms ∧ (s.mboxTaken ch op tag a d).clk.watch = s.clk.watch ∧
    (s.mboxTaken ch op tag a d).otp = s.otp ∧ (s.mboxTaken ch op tag a d).rings = s.rings ∧
    (s.mboxTaken ch op tag a d).start = s.start ∧ (s.mboxTaken ch op tag a d).limits = s.limits ∧
    (s.mboxTaken ch op tag a d).win = s.win ∧ (s.mboxTaken ch op tag a d).freeCtr = s.freeCtr := by
  cases ch <;> simp [State.mboxTaken, State.updMbox, show (MboxChan.window == MboxChan.pmbus) = false from rfl] <;>
    (unfold State.wakeWarden; split <;> (try split) <;> simp)

/-- Of the warden only the channel changes. -/
@[simp] theorem State.mboxTaken_warden (s : State) (ch : MboxChan) (op : Nat) (tag : BitVec 8) (a d : List Word) :
    (s.mboxTaken ch op tag a d).warden.vault = s.warden.vault ∧ (s.mboxTaken ch op tag a d).warden.jobs = s.warden.jobs ∧
    (s.mboxTaken ch op tag a d).warden.version = s.warden.version ∧ (s.mboxTaken ch op tag a d).warden.svn = s.warden.svn ∧
    (s.mboxTaken ch op tag a d).warden.fillLen = s.warden.fillLen ∧ (s.mboxTaken ch op tag a d).warden.filled = s.warden.filled ∧
    (s.mboxTaken ch op tag a d).warden.slot = s.warden.slot ∧ (s.mboxTaken ch op tag a d).warden.vtSeq = s.warden.vtSeq ∧
    (s.mboxTaken ch op tag a d).warden.vtUse = s.warden.vtUse ∧ (s.mboxTaken ch op tag a d).warden.vtStaged = s.warden.vtStaged ∧
    (s.mboxTaken ch op tag a d).warden.updBusy = s.warden.updBusy ∧ (s.mboxTaken ch op tag a d).warden.vtTick = s.warden.vtTick ∧
    (s.mboxTaken ch op tag a d).warden.bOk = s.warden.bOk ∧ (s.mboxTaken ch op tag a d).warden.cOk = s.warden.cOk := by
  cases ch <;> simp [State.mboxTaken, State.updMbox, show (MboxChan.window == MboxChan.pmbus) = false from rfl]

/-- The channel of a command just taken. -/
@[simp] theorem State.mboxTaken_mbox (s : State) (ch : MboxChan) (op : Nat) (tag : BitVec 8) (a d : List Word) :
    ((s.mboxTaken ch op tag a d).mbox ch).tag = tag.toNat ∧ ((s.mboxTaken ch op tag a d).mbox ch).busy = true ∧
    ((s.mboxTaken ch op tag a d).mbox ch).op = op ∧ ((s.mboxTaken ch op tag a d).mbox ch).wait = none := by
  simp [State.mboxTaken]

/-- Neither channel has a command waiting once a ready channel's command was taken. -/
theorem State.mboxTaken_waits {s : State} {ch : MboxChan} (h : s.MboxReady ch) (op : Nat) (tag : BitVec 8) (a d : List Word) :
    (s.mboxTaken ch op tag a d).warden.mboxW.wait = none ∧ (s.mboxTaken ch op tag a d).warden.mboxP.wait = none := by
  obtain ⟨_, _, _, h4, h5, _⟩ := h
  cases ch <;> simp [State.mboxTaken, State.updMbox, h4, h5, show (MboxChan.window == MboxChan.pmbus) = false from rfl]

@[simp] theorem State.updMbox_waits (s : State) (ch : MboxChan) (f : Mbox → Mbox) (h : ∀ m, (f m).wait = none)
    (k : s.warden.mboxW.wait = none ∧ s.warden.mboxP.wait = none) :
    (s.updMbox ch f).warden.mboxW.wait = none ∧ (s.updMbox ch f).warden.mboxP.wait = none := by
  cases ch <;> simp [State.updMbox, h, k.1, k.2]

@[simp] theorem State.mboxEnd_keeps (s : State) (ch : MboxChan) (n : Nat) :
    (s.mboxEnd ch n).flt = s.flt ∧ (s.mboxEnd ch n).stopq = s.stopq ∧ (s.mboxEnd ch n).policy = s.policy ∧
    (s.mboxEnd ch n).start = s.start ∧ (s.mboxEnd ch n).ledger = s.ledger ∧ (s.mboxEnd ch n).doms = s.doms := by
  cases ch <;> exact ⟨rfl, rfl, rfl, rfl, rfl, rfl⟩

/-- A command of a ready channel that ends there: the whole next state. -/
theorem State.mbox_ends {s : State} {ch : MboxChan} (h : s.MboxReady ch) (op : Nat) (tag : BitVec 8) (a d : List Word) (c : Instr)
    (t : State) (n : Nat) (e : (s.mboxTaken ch op tag a d).mboxRun c = t.mboxEnd ch n)
    (k : t.warden.mboxW.wait = none ∧ t.warden.mboxP.wait = none) (f : t.flt.eventLostRun = s.flt.eventLostRun)
    (g : t.stopq.active = s.stopq.active) :
    settle s (s.mboxCommand ch op tag a d c) = .next (t.mboxEnd ch n).alertUpdate := by
  have w : (t.mboxEnd ch n).warden.mboxW.wait = none ∧ (t.mboxEnd ch n).warden.mboxP.wait = none :=
    State.updMbox_waits t ch (fun m => { m with busy := false, done := true, status := n, wait := none }) (fun _ => rfl) k
  rw [State.mboxCommand_ready h, e, State.mboxTurn_idle w.1 w.2]
  exact settle_quiet (by simp [f]) (by simp [g])

/-! ### Staging (R245) -/

theorem State.stage_waits (s : State) (key : StageKey) (v : Word) (b : Stager) : (s.stage key v b).Waits key v := by
  unfold State.stage State.Waits
  exact ⟨{ key := key, val := v, late := s.ledger.cutoff, by_ := b }, by simp, rfl, rfl⟩

@[simp] theorem State.stageLimit_keeps (s : State) (k v : Nat) (b : Stager) :
    (s.stageLimit k v b).policy = s.policy ∧ (s.stageLimit k v b).warden = s.warden ∧ (s.stageLimit k v b).flt = s.flt ∧
    (s.stageLimit k v b).stopq = s.stopq ∧ (s.stageLimit k v b).start = s.start := by
  unfold State.stageLimit; split <;> simp

/-- Dropping the policy's values empties its list of lowered limits (R450). -/
@[simp] theorem State.policyDrop_keeps (s : State) :
    s.policyDrop.policy = { s.policy with lowered := [] } ∧ s.policyDrop.warden = s.warden ∧ s.policyDrop.flt = s.flt ∧
    s.policyDrop.stopq = s.stopq ∧ s.policyDrop.start = s.start := by
  simp [State.policyDrop]

/-- Dropping the policy's values stages its treasury at 0 (R450). -/
theorem State.policyDrop_waits (s : State) : s.policyDrop.Waits .polTreas 0 := State.stage_waits _ _ _ _

/-! ### Host commands (R471, R472) -/

/-- A ready host command is refused with its status, or leaves the state of its effect. -/
theorem State.hostCmd_ready {s : State} {c : Instr} {x : CmdCtx} {op : Nat} (e : hostCtx c = some (x, op)) (h : s.HostReady x op) :
    s.hostCmd c = settle s (match s.hostRun c with
      | .ok t => t
      | .error (st, d) => s.complete x op st d) := by
  obtain ⟨h1, h2, h3, h4⟩ := h
  have w : s.serveWaits = s := by
    simp only [State.serveWaits, h4, List.foldl_nil]
    rw [← h4]
  simp only [State.hostCmd, h1, w, State.offer, e, h2, State.accept, h3, if_true, if_false, Bool.false_eq_true]
  all_goals (cases s.hostRun c <;> rfl)

end Sys2Proof.Machine
end

