-- ==== Sys2Proof/Laws/Ite.lean ====
section
/-! SUPPORT. A field of a conditional state is the conditional of the fields. -/

namespace Sys2Proof.Machine

@[simp] theorem State.ite_otp (c : Prop) [Decidable c] (a b : State) : (if c then a else b).otp = if c then a.otp else b.otp := by
  split <;> rfl
@[simp] theorem State.ite_start (c : Prop) [Decidable c] (a b : State) : (if c then a else b).start = if c then a.start else b.start := by
  split <;> rfl
@[simp] theorem State.ite_clk (c : Prop) [Decidable c] (a b : State) : (if c then a else b).clk = if c then a.clk else b.clk := by
  split <;> rfl
@[simp] theorem State.ite_win (c : Prop) [Decidable c] (a b : State) : (if c then a else b).win = if c then a.win else b.win := by
  split <;> rfl
@[simp] theorem State.ite_cells (c : Prop) [Decidable c] (a b : State) : (if c then a else b).cells = if c then a.cells else b.cells := by
  split <;> rfl
@[simp] theorem State.ite_views (c : Prop) [Decidable c] (a b : State) : (if c then a else b).views = if c then a.views else b.views := by
  split <;> rfl
@[simp] theorem State.ite_chains (c : Prop) [Decidable c] (a b : State) : (if c then a else b).chains = if c then a.chains else b.chains := by
  split <;> rfl
@[simp] theorem State.ite_creg (c : Prop) [Decidable c] (a b : State) : (if c then a else b).creg = if c then a.creg else b.creg := by
  split <;> rfl
@[simp] theorem State.ite_eng (c : Prop) [Decidable c] (a b : State) : (if c then a else b).eng = if c then a.eng else b.eng := by
  split <;> rfl
@[simp] theorem State.ite_doms (c : Prop) [Decidable c] (a b : State) : (if c then a else b).doms = if c then a.doms else b.doms := by
  split <;> rfl
@[simp] theorem State.ite_lanes (c : Prop) [Decidable c] (a b : State) : (if c then a else b).lanes = if c then a.lanes else b.lanes := by
  split <;> rfl
@[simp] theorem State.ite_sense (c : Prop) [Decidable c] (a b : State) : (if c then a else b).sense = if c then a.sense else b.sense := by
  split <;> rfl
@[simp] theorem State.ite_dscs (c : Prop) [Decidable c] (a b : State) : (if c then a else b).dscs = if c then a.dscs else b.dscs := by
  split <;> rfl
@[simp] theorem State.ite_hkcs (c : Prop) [Decidable c] (a b : State) : (if c then a else b).hkcs = if c then a.hkcs else b.hkcs := by
  split <;> rfl
@[simp] theorem State.ite_tallies (c : Prop) [Decidable c] (a b : State) : (if c then a else b).tallies = if c then a.tallies else b.tallies := by
  split <;> rfl
@[simp] theorem State.ite_ledger (c : Prop) [Decidable c] (a b : State) : (if c then a else b).ledger = if c then a.ledger else b.ledger := by
  split <;> rfl
@[simp] theorem State.ite_tiles (c : Prop) [Decidable c] (a b : State) : (if c then a else b).tiles = if c then a.tiles else b.tiles := by
  split <;> rfl
@[simp] theorem State.ite_accts (c : Prop) [Decidable c] (a b : State) : (if c then a else b).accts = if c then a.accts else b.accts := by
  split <;> rfl
@[simp] theorem State.ite_limits (c : Prop) [Decidable c] (a b : State) : (if c then a else b).limits = if c then a.limits else b.limits := by
  split <;> rfl
@[simp] theorem State.ite_pace (c : Prop) [Decidable c] (a b : State) : (if c then a else b).pace = if c then a.pace else b.pace := by
  split <;> rfl
@[simp] theorem State.ite_therm (c : Prop) [Decidable c] (a b : State) : (if c then a else b).therm = if c then a.therm else b.therm := by
  split <;> rfl
@[simp] theorem State.ite_diodes (c : Prop) [Decidable c] (a b : State) : (if c then a else b).diodes = if c then a.diodes else b.diodes := by
  split <;> rfl
@[simp] theorem State.ite_stopq (c : Prop) [Decidable c] (a b : State) : (if c then a else b).stopq = if c then a.stopq else b.stopq := by
  split <;> rfl
@[simp] theorem State.ite_flt (c : Prop) [Decidable c] (a b : State) : (if c then a else b).flt = if c then a.flt else b.flt := by
  split <;> rfl
@[simp] theorem State.ite_warden (c : Prop) [Decidable c] (a b : State) : (if c then a else b).warden = if c then a.warden else b.warden := by
  split <;> rfl
@[simp] theorem State.ite_policy (c : Prop) [Decidable c] (a b : State) : (if c then a else b).policy = if c then a.policy else b.policy := by
  split <;> rfl
@[simp] theorem State.ite_rings (c : Prop) [Decidable c] (a b : State) : (if c then a else b).rings = if c then a.rings else b.rings := by
  split <;> rfl
@[simp] theorem State.ite_smb (c : Prop) [Decidable c] (a b : State) : (if c then a else b).smb = if c then a.smb else b.smb := by
  split <;> rfl
@[simp] theorem State.ite_avs (c : Prop) [Decidable c] (a b : State) : (if c then a else b).avs = if c then a.avs else b.avs := by
  split <;> rfl
@[simp] theorem State.ite_tap (c : Prop) [Decidable c] (a b : State) : (if c then a else b).tap = if c then a.tap else b.tap := by
  split <;> rfl
@[simp] theorem State.ite_pub (c : Prop) [Decidable c] (a b : State) : (if c then a else b).pub = if c then a.pub else b.pub := by
  split <;> rfl
@[simp] theorem State.ite_freeCtr (c : Prop) [Decidable c] (a b : State) : (if c then a else b).freeCtr = if c then a.freeCtr else b.freeCtr := by
  split <;> rfl
@[simp] theorem State.ite_pending (c : Prop) [Decidable c] (a b : State) : (if c then a else b).pending = if c then a.pending else b.pending := by
  split <;> rfl

end Sys2Proof.Machine
end

