-- ==== Sys2Proof/Laws/LostRun.lean ====
section
/-! SUPPORT. What leaves flt.eventLostRun alone. -/

set_option linter.unusedSimpArgs false
set_option linter.unusedVariables false

namespace Sys2Proof.Machine

@[simp] theorem foldl_flt_eventLostRun {α : Type} (g : State → α → State) (l : List α) (s : State) (h : ∀ t a, (g t a).flt.eventLostRun = t.flt.eventLostRun) :
    (l.foldl g s).flt.eventLostRun = s.flt.eventLostRun := foldl_keeps (·.flt.eventLostRun) g l s h
@[simp] theorem forEach_flt_eventLostRun (g : State → Nat → State) (l : List Nat) (s : State) (h : ∀ t a, (g t a).flt.eventLostRun = t.flt.eventLostRun) :
    (s.forEach l g).flt.eventLostRun = s.flt.eventLostRun := foldl_keeps (·.flt.eventLostRun) g l s h

@[simp] theorem State_vaultPut_flt_eventLostRun (s : State) (a : Nat) (l : List Byte)  : (State.vaultPut s a l).flt.eventLostRun = s.flt.eventLostRun := by
  first | rfl | (simp (maxDischargeDepth := 12) [State.vaultPut]; done) | (unfold State.vaultPut; (try dsimp only); repeat' (first | rfl | (simp (maxDischargeDepth := 12); done) | (refine (foldl_keeps (fun z => z.flt.eventLostRun) _ _ _ (fun t f => ?_)).trans ?_) | (refine (foldl_keeps_fst (fun z => z.flt.eventLostRun) _ _ _ (fun t f => ?_)).trans ?_) | split))

@[simp] theorem State_vaultPutWords_flt_eventLostRun (s : State) (a : Nat) (l : List Word)  : (State.vaultPutWords s a l).flt.eventLostRun = s.flt.eventLostRun := by
  first | rfl | (simp (maxDischargeDepth := 12) [State.vaultPutWords]; done) | (unfold State.vaultPutWords; (try dsimp only); repeat' (first | rfl | (simp (maxDischargeDepth := 12); done) | (refine (foldl_keeps (fun z => z.flt.eventLostRun) _ _ _ (fun t f => ?_)).trans ?_) | (refine (foldl_keeps_fst (fun z => z.flt.eventLostRun) _ _ _ (fun t f => ?_)).trans ?_) | split))

@[simp] theorem State_vaultJob_flt_eventLostRun (s : State) (prio : Nat) (recNo : Nat) (addr : Nat) (l : List Word)  : (State.vaultJob s prio recNo addr l).flt.eventLostRun = s.flt.eventLostRun := by
  first | rfl | (simp (maxDischargeDepth := 12) [State.vaultJob]; done) | (unfold State.vaultJob; (try dsimp only); repeat' (first | rfl | (simp (maxDischargeDepth := 12); done) | (refine (foldl_keeps (fun z => z.flt.eventLostRun) _ _ _ (fun t f => ?_)).trans ?_) | (refine (foldl_keeps_fst (fun z => z.flt.eventLostRun) _ _ _ (fun t f => ?_)).trans ?_) | split))

@[simp] theorem State_vaultFlush_flt_eventLostRun (s : State) (recNo : Nat)  : (State.vaultFlush s recNo).flt.eventLostRun = s.flt.eventLostRun := by
  first | rfl | (simp (maxDischargeDepth := 12) [State.vaultFlush]; done) | (unfold State.vaultFlush; (try dsimp only); repeat' (first | rfl | (simp (maxDischargeDepth := 12); done) | (refine (foldl_keeps (fun z => z.flt.eventLostRun) _ _ _ (fun t f => ?_)).trans ?_) | (refine (foldl_keeps_fst (fun z => z.flt.eventLostRun) _ _ _ (fun t f => ?_)).trans ?_) | split))

@[simp] theorem State_writeStateBlock_flt_eventLostRun (s : State)  : (State.writeStateBlock s).flt.eventLostRun = s.flt.eventLostRun := by
  first | rfl | (simp (maxDischargeDepth := 12) [State.writeStateBlock]; done) | (unfold State.writeStateBlock; (try dsimp only); repeat' (first | rfl | (simp (maxDischargeDepth := 12); done) | (refine (foldl_keeps (fun z => z.flt.eventLostRun) _ _ _ (fun t f => ?_)).trans ?_) | (refine (foldl_keeps_fst (fun z => z.flt.eventLostRun) _ _ _ (fun t f => ?_)).trans ?_) | split))

@[simp] theorem State_publishDoms_flt_eventLostRun (s : State)  : (State.publishDoms s).flt.eventLostRun = s.flt.eventLostRun := by
  first | rfl | (simp (maxDischargeDepth := 12) [State.publishDoms]; done) | (unfold State.publishDoms; (try dsimp only); repeat' (first | rfl | (simp (maxDischargeDepth := 12); done) | (refine (foldl_keeps (fun z => z.flt.eventLostRun) _ _ _ (fun t f => ?_)).trans ?_) | (refine (foldl_keeps_fst (fun z => z.flt.eventLostRun) _ _ _ (fun t f => ?_)).trans ?_) | split))

@[simp] theorem State_stopLatch_flt_eventLostRun (s : State) (causes : Nat) (abandon : Bool)  : (State.stopLatch s causes abandon).flt.eventLostRun = s.flt.eventLostRun := by
  first | rfl | (simp (maxDischargeDepth := 12) [State.stopLatch]; done) | (unfold State.stopLatch; (try dsimp only); repeat' (first | rfl | (simp (maxDischargeDepth := 12); done) | (refine (foldl_keeps (fun z => z.flt.eventLostRun) _ _ _ (fun t f => ?_)).trans ?_) | (refine (foldl_keeps_fst (fun z => z.flt.eventLostRun) _ _ _ (fun t f => ?_)).trans ?_) | split))

@[simp] theorem State_stopAddCause_flt_eventLostRun (s : State) (causes : Nat)  : (State.stopAddCause s causes).flt.eventLostRun = s.flt.eventLostRun := by
  first | rfl | (simp (maxDischargeDepth := 12) [State.stopAddCause]; done) | (unfold State.stopAddCause; (try dsimp only); repeat' (first | rfl | (simp (maxDischargeDepth := 12); done) | (refine (foldl_keeps (fun z => z.flt.eventLostRun) _ _ _ (fun t f => ?_)).trans ?_) | (refine (foldl_keeps_fst (fun z => z.flt.eventLostRun) _ _ _ (fun t f => ?_)).trans ?_) | split))

@[simp] theorem State_stopWriteSeal_flt_eventLostRun (s : State) (stage : Nat) (off : Nat)  : (State.stopWriteSeal s stage off).flt.eventLostRun = s.flt.eventLostRun := by
  first | rfl | (simp (maxDischargeDepth := 12) [State.stopWriteSeal]; done) | (unfold State.stopWriteSeal; (try dsimp only); repeat' (first | rfl | (simp (maxDischargeDepth := 12); done) | (refine (foldl_keeps (fun z => z.flt.eventLostRun) _ _ _ (fun t f => ?_)).trans ?_) | (refine (foldl_keeps_fst (fun z => z.flt.eventLostRun) _ _ _ (fun t f => ?_)).trans ?_) | split))

@[simp] theorem State_quietRestart_flt_eventLostRun (s : State)  : (State.quietRestart s).flt.eventLostRun = s.flt.eventLostRun := by
  first | rfl | (simp (maxDischargeDepth := 12) [State.quietRestart]; done) | (unfold State.quietRestart; (try dsimp only); repeat' (first | rfl | (simp (maxDischargeDepth := 12); done) | (refine (foldl_keeps (fun z => z.flt.eventLostRun) _ _ _ (fun t f => ?_)).trans ?_) | (refine (foldl_keeps_fst (fun z => z.flt.eventLostRun) _ _ _ (fun t f => ?_)).trans ?_) | split))

@[simp] theorem State_enterStopped_flt_eventLostRun (s : State)  : (State.enterStopped s).flt.eventLostRun = s.flt.eventLostRun := by
  first | rfl | (simp (maxDischargeDepth := 12) [State.enterStopped]; done) | (unfold State.enterStopped; (try dsimp only); repeat' (first | rfl | (simp (maxDischargeDepth := 12); done) | (refine (foldl_keeps (fun z => z.flt.eventLostRun) _ _ _ (fun t f => ?_)).trans ?_) | (refine (foldl_keeps_fst (fun z => z.flt.eventLostRun) _ _ _ (fun t f => ?_)).trans ?_) | split))

@[simp] theorem State_sealAndStop_flt_eventLostRun (s : State) (stage : Nat) (off : Nat)  : (State.sealAndStop s stage off).flt.eventLostRun = s.flt.eventLostRun := by
  first | rfl | (simp (maxDischargeDepth := 12) [State.sealAndStop]; done) | (unfold State.sealAndStop; (try dsimp only); repeat' (first | rfl | (simp (maxDischargeDepth := 12); done) | (refine (foldl_keeps (fun z => z.flt.eventLostRun) _ _ _ (fun t f => ?_)).trans ?_) | (refine (foldl_keeps_fst (fun z => z.flt.eventLostRun) _ _ _ (fun t f => ?_)).trans ?_) | split))

@[simp] theorem State_stopRecordOnly_flt_eventLostRun (s : State) (causes : Nat)  : (State.stopRecordOnly s causes).flt.eventLostRun = s.flt.eventLostRun := by
  first | rfl | (simp (maxDischargeDepth := 12) [State.stopRecordOnly]; done) | (unfold State.stopRecordOnly; (try dsimp only); repeat' (first | rfl | (simp (maxDischargeDepth := 12); done) | (refine (foldl_keeps (fun z => z.flt.eventLostRun) _ _ _ (fun t f => ?_)).trans ?_) | (refine (foldl_keeps_fst (fun z => z.flt.eventLostRun) _ _ _ (fun t f => ?_)).trans ?_) | split))

@[simp] theorem State_abandonStart_flt_eventLostRun (s : State) (causes : Nat) (fail : Nat)  : (State.abandonStart s causes fail).flt.eventLostRun = s.flt.eventLostRun := by
  first | rfl | (simp (maxDischargeDepth := 12) [State.abandonStart]; done) | (unfold State.abandonStart; (try dsimp only); repeat' (first | rfl | (simp (maxDischargeDepth := 12); done) | (refine (foldl_keeps (fun z => z.flt.eventLostRun) _ _ _ (fun t f => ?_)).trans ?_) | (refine (foldl_keeps_fst (fun z => z.flt.eventLostRun) _ _ _ (fun t f => ?_)).trans ?_) | split))

@[simp] theorem State_abandonBoot_flt_eventLostRun (s : State) (fail : Nat)  : (State.abandonBoot s fail).flt.eventLostRun = s.flt.eventLostRun := by
  first | rfl | (simp (maxDischargeDepth := 12) [State.abandonBoot]; done) | (unfold State.abandonBoot; (try dsimp only); repeat' (first | rfl | (simp (maxDischargeDepth := 12); done) | (refine (foldl_keeps (fun z => z.flt.eventLostRun) _ _ _ (fun t f => ?_)).trans ?_) | (refine (foldl_keeps_fst (fun z => z.flt.eventLostRun) _ _ _ (fun t f => ?_)).trans ?_) | split))

@[simp] theorem State_stopCause_flt_eventLostRun (s : State) (causes : Nat)  : (State.stopCause s causes).flt.eventLostRun = s.flt.eventLostRun := by
  first | rfl | (simp (maxDischargeDepth := 12) [State.stopCause]; done) | (unfold State.stopCause; (try dsimp only); repeat' (first | rfl | (simp (maxDischargeDepth := 12); done) | (refine (foldl_keeps (fun z => z.flt.eventLostRun) _ _ _ (fun t f => ?_)).trans ?_) | (refine (foldl_keeps_fst (fun z => z.flt.eventLostRun) _ _ _ (fun t f => ?_)).trans ?_) | split))

@[simp] theorem State_paceSend_flt_eventLostRun (s : State) (f : PaceTx)  : (State.paceSend s f).flt.eventLostRun = s.flt.eventLostRun := by
  first | rfl | (simp (maxDischargeDepth := 12) [State.paceSend]; done) | (unfold State.paceSend; (try dsimp only); repeat' (first | rfl | (simp (maxDischargeDepth := 12); done) | (refine (foldl_keeps (fun z => z.flt.eventLostRun) _ _ _ (fun t f => ?_)).trans ?_) | (refine (foldl_keeps_fst (fun z => z.flt.eventLostRun) _ _ _ (fun t f => ?_)).trans ?_) | split))

@[simp] theorem State_newSeq_flt_eventLostRun (s : State) (old : Option Nat)  : (State.newSeq s old).2.flt.eventLostRun = s.flt.eventLostRun := by
  first | rfl | (simp (maxDischargeDepth := 12) [State.newSeq]; done) | (unfold State.newSeq; (try dsimp only); repeat' (first | rfl | (simp (maxDischargeDepth := 12); done) | (refine (foldl_keeps (fun z => z.flt.eventLostRun) _ _ _ (fun t f => ?_)).trans ?_) | (refine (foldl_keeps_fst (fun z => z.flt.eventLostRun) _ _ _ (fun t f => ?_)).trans ?_) | split))

@[simp] theorem State_paceDiscover_flt_eventLostRun (s : State)  : (State.paceDiscover s).flt.eventLostRun = s.flt.eventLostRun := by
  first | rfl | (simp (maxDischargeDepth := 12) [State.paceDiscover]; done) | (unfold State.paceDiscover; (try dsimp only); repeat' (first | rfl | (simp (maxDischargeDepth := 12); done) | (refine (foldl_keeps (fun z => z.flt.eventLostRun) _ _ _ (fun t f => ?_)).trans ?_) | (refine (foldl_keeps_fst (fun z => z.flt.eventLostRun) _ _ _ (fun t f => ?_)).trans ?_) | split))

@[simp] theorem State_paceJoin_flt_eventLostRun (s : State)  : (State.paceJoin s).flt.eventLostRun = s.flt.eventLostRun := by
  first | rfl | (simp (maxDischargeDepth := 12) [State.paceJoin]; done) | (unfold State.paceJoin; (try dsimp only); repeat' (first | rfl | (simp (maxDischargeDepth := 12); done) | (refine (foldl_keeps (fun z => z.flt.eventLostRun) _ _ _ (fun t f => ?_)).trans ?_) | (refine (foldl_keeps_fst (fun z => z.flt.eventLostRun) _ _ _ (fun t f => ?_)).trans ?_) | split))

@[simp] theorem State_paceBlockReset_flt_eventLostRun (s : State)  : (State.paceBlockReset s).flt.eventLostRun = s.flt.eventLostRun := by
  first | rfl | (simp (maxDischargeDepth := 12) [State.paceBlockReset]; done) | (unfold State.paceBlockReset; (try dsimp only); repeat' (first | rfl | (simp (maxDischargeDepth := 12); done) | (refine (foldl_keeps (fun z => z.flt.eventLostRun) _ _ _ (fun t f => ?_)).trans ?_) | (refine (foldl_keeps_fst (fun z => z.flt.eventLostRun) _ _ _ (fun t f => ?_)).trans ?_) | split))

@[simp] theorem State_paceRelease_flt_eventLostRun (s : State) (relay : Bool) (group : Nat)  : (State.paceRelease s relay group).flt.eventLostRun = s.flt.eventLostRun := by
  first | rfl | (simp (maxDischargeDepth := 12) [State.paceRelease]; done) | (unfold State.paceRelease; (try dsimp only); repeat' (first | rfl | (simp (maxDischargeDepth := 12); done) | (refine (foldl_keeps (fun z => z.flt.eventLostRun) _ _ _ (fun t f => ?_)).trans ?_) | (refine (foldl_keeps_fst (fun z => z.flt.eventLostRun) _ _ _ (fun t f => ?_)).trans ?_) | split))

@[simp] theorem State_paceLeave_flt_eventLostRun (s : State)  : (State.paceLeave s).flt.eventLostRun = s.flt.eventLostRun := by
  first | rfl | (simp (maxDischargeDepth := 12) [State.paceLeave]; done) | (unfold State.paceLeave; (try dsimp only); repeat' (first | rfl | (simp (maxDischargeDepth := 12); done) | (refine (foldl_keeps (fun z => z.flt.eventLostRun) _ _ _ (fun t f => ?_)).trans ?_) | (refine (foldl_keeps_fst (fun z => z.flt.eventLostRun) _ _ _ (fun t f => ?_)).trans ?_) | split))

@[simp] theorem State_fastReset_flt_eventLostRun (s : State) (again : Bool)  : (State.fastReset s again).flt.eventLostRun = s.flt.eventLostRun := by
  first | rfl | (simp (maxDischargeDepth := 12) [State.fastReset]; done) | (unfold State.fastReset; (try dsimp only); repeat' (first | rfl | (simp (maxDischargeDepth := 12); done) | (refine (foldl_keeps (fun z => z.flt.eventLostRun) _ _ _ (fun t f => ?_)).trans ?_) | (refine (foldl_keeps_fst (fun z => z.flt.eventLostRun) _ _ _ (fun t f => ?_)).trans ?_) | split))

@[simp] theorem State_coldReset_flt_eventLostRun (s : State)  : (State.coldReset s).flt.eventLostRun = s.flt.eventLostRun := by
  first | rfl | (simp (maxDischargeDepth := 12) [State.coldReset]; done) | (unfold State.coldReset; (try dsimp only); repeat' (first | rfl | (simp (maxDischargeDepth := 12); done) | (refine (foldl_keeps (fun z => z.flt.eventLostRun) _ _ _ (fun t f => ?_)).trans ?_) | (refine (foldl_keeps_fst (fun z => z.flt.eventLostRun) _ _ _ (fun t f => ?_)).trans ?_) | split))

@[simp] theorem State_writeIncident_flt_eventLostRun (s : State) (dur : Nat)  : (State.writeIncident s dur).flt.eventLostRun = s.flt.eventLostRun := by
  first | rfl | (simp (maxDischargeDepth := 12) [State.writeIncident]; done) | (unfold State.writeIncident; (try dsimp only); repeat' (first | rfl | (simp (maxDischargeDepth := 12); done) | (refine (foldl_keeps (fun z => z.flt.eventLostRun) _ _ _ (fun t f => ?_)).trans ?_) | (refine (foldl_keeps_fst (fun z => z.flt.eventLostRun) _ _ _ (fun t f => ?_)).trans ?_) | split))

@[simp] theorem State_pushTrap_flt_eventLostRun (s : State) (l : List (BitVec 64))  : (State.pushTrap s l).flt.eventLostRun = s.flt.eventLostRun := by
  first | rfl | (simp (maxDischargeDepth := 12) [State.pushTrap]; done) | (unfold State.pushTrap; (try dsimp only); repeat' (first | rfl | (simp (maxDischargeDepth := 12); done) | (refine (foldl_keeps (fun z => z.flt.eventLostRun) _ _ _ (fun t f => ?_)).trans ?_) | (refine (foldl_keeps_fst (fun z => z.flt.eventLostRun) _ _ _ (fun t f => ?_)).trans ?_) | split))

@[simp] theorem State_suspendAudits_flt_eventLostRun (s : State)  : (State.suspendAudits s).flt.eventLostRun = s.flt.eventLostRun := by
  first | rfl | (simp (maxDischargeDepth := 12) [State.suspendAudits]; done) | (unfold State.suspendAudits; (try dsimp only); repeat' (first | rfl | (simp (maxDischargeDepth := 12); done) | (refine (foldl_keeps (fun z => z.flt.eventLostRun) _ _ _ (fun t f => ?_)).trans ?_) | (refine (foldl_keeps_fst (fun z => z.flt.eventLostRun) _ _ _ (fun t f => ?_)).trans ?_) | split))

@[simp] theorem State_fsrAssert_flt_eventLostRun (s : State)  : (State.fsrAssert s).flt.eventLostRun = s.flt.eventLostRun := by
  first | rfl | (simp (maxDischargeDepth := 12) [State.fsrAssert]; done) | (unfold State.fsrAssert; (try dsimp only); repeat' (first | rfl | (simp (maxDischargeDepth := 12); done) | (refine (foldl_keeps (fun z => z.flt.eventLostRun) _ _ _ (fun t f => ?_)).trans ?_) | (refine (foldl_keeps_fst (fun z => z.flt.eventLostRun) _ _ _ (fun t f => ?_)).trans ?_) | split))

@[simp] theorem State_dscBlockReset_flt_eventLostRun (s : State) (d : Nat)  : (State.dscBlockReset s d).flt.eventLostRun = s.flt.eventLostRun := by
  first | rfl | (simp (maxDischargeDepth := 12) [State.dscBlockReset]; done) | (unfold State.dscBlockReset; (try dsimp only); repeat' (first | rfl | (simp (maxDischargeDepth := 12); done) | (refine (foldl_keeps (fun z => z.flt.eventLostRun) _ _ _ (fun t f => ?_)).trans ?_) | (refine (foldl_keeps_fst (fun z => z.flt.eventLostRun) _ _ _ (fun t f => ?_)).trans ?_) | split))

@[simp] theorem State_hkcBlockReset_flt_eventLostRun (s : State) (k : Nat)  : (State.hkcBlockReset s k).flt.eventLostRun = s.flt.eventLostRun := by
  first | rfl | (simp (maxDischargeDepth := 12) [State.hkcBlockReset]; done) | (unfold State.hkcBlockReset; (try dsimp only); repeat' (first | rfl | (simp (maxDischargeDepth := 12); done) | (refine (foldl_keeps (fun z => z.flt.eventLostRun) _ _ _ (fun t f => ?_)).trans ?_) | (refine (foldl_keeps_fst (fun z => z.flt.eventLostRun) _ _ _ (fun t f => ?_)).trans ?_) | split))

@[simp] theorem State_policyBlockReset_flt_eventLostRun (s : State)  : (State.policyBlockReset s).flt.eventLostRun = s.flt.eventLostRun := by
  first | rfl | (simp (maxDischargeDepth := 12) [State.policyBlockReset]; done) | (unfold State.policyBlockReset; (try dsimp only); repeat' (first | rfl | (simp (maxDischargeDepth := 12); done) | (refine (foldl_keeps (fun z => z.flt.eventLostRun) _ _ _ (fun t f => ?_)).trans ?_) | (refine (foldl_keeps_fst (fun z => z.flt.eventLostRun) _ _ _ (fun t f => ?_)).trans ?_) | split))

@[simp] theorem State_ringBlockReset_flt_eventLostRun (s : State)  : (State.ringBlockReset s).flt.eventLostRun = s.flt.eventLostRun := by
  first | rfl | (simp (maxDischargeDepth := 12) [State.ringBlockReset]; done) | (unfold State.ringBlockReset; (try dsimp only); repeat' (first | rfl | (simp (maxDischargeDepth := 12); done) | (refine (foldl_keeps (fun z => z.flt.eventLostRun) _ _ _ (fun t f => ?_)).trans ?_) | (refine (foldl_keeps_fst (fun z => z.flt.eventLostRun) _ _ _ (fun t f => ?_)).trans ?_) | split))

@[simp] theorem State_blockReset_flt_eventLostRun (s : State) (b : Block) (obj : Nat)  : (State.blockReset s b obj).flt.eventLostRun = s.flt.eventLostRun := by
  first | rfl | (simp (maxDischargeDepth := 12) [State.blockReset]; done) | (unfold State.blockReset; (try dsimp only); repeat' (first | rfl | (simp (maxDischargeDepth := 12); done) | (refine (foldl_keeps (fun z => z.flt.eventLostRun) _ _ _ (fun t f => ?_)).trans ?_) | (refine (foldl_keeps_fst (fun z => z.flt.eventLostRun) _ _ _ (fun t f => ?_)).trans ?_) | split))

@[simp] theorem State_blockReleased_flt_eventLostRun (s : State) (b : Block) (obj : Nat)  : (State.blockReleased s b obj).flt.eventLostRun = s.flt.eventLostRun := by
  first | rfl | (simp (maxDischargeDepth := 12) [State.blockReleased]; done) | (unfold State.blockReleased; (try dsimp only); repeat' (first | rfl | (simp (maxDischargeDepth := 12); done) | (refine (foldl_keeps (fun z => z.flt.eventLostRun) _ _ _ (fun t f => ?_)).trans ?_) | (refine (foldl_keeps_fst (fun z => z.flt.eventLostRun) _ _ _ (fun t f => ?_)).trans ?_) | split))

@[simp] theorem State_holdAudit_flt_eventLostRun (s : State)  : (State.holdAudit s).flt.eventLostRun = s.flt.eventLostRun := by
  first | rfl | (simp (maxDischargeDepth := 12) [State.holdAudit]; done) | (unfold State.holdAudit; (try dsimp only); repeat' (first | rfl | (simp (maxDischargeDepth := 12); done) | (refine (foldl_keeps (fun z => z.flt.eventLostRun) _ _ _ (fun t f => ?_)).trans ?_) | (refine (foldl_keeps_fst (fun z => z.flt.eventLostRun) _ _ _ (fun t f => ?_)).trans ?_) | split))

@[simp] theorem State_startAudit_flt_eventLostRun (s : State) (src : Nat) (obj : Nat)  : (State.startAudit s src obj).flt.eventLostRun = s.flt.eventLostRun := by
  first | rfl | (simp (maxDischargeDepth := 12) [State.startAudit]; done) | (unfold State.startAudit; (try dsimp only); repeat' (first | rfl | (simp (maxDischargeDepth := 12); done) | (refine (foldl_keeps (fun z => z.flt.eventLostRun) _ _ _ (fun t f => ?_)).trans ?_) | (refine (foldl_keeps_fst (fun z => z.flt.eventLostRun) _ _ _ (fun t f => ?_)).trans ?_) | split))

@[simp] theorem State_burstAudit_flt_eventLostRun (s : State) (c : Nat)  : (State.burstAudit s c).flt.eventLostRun = s.flt.eventLostRun := by
  first | rfl | (simp (maxDischargeDepth := 12) [State.burstAudit]; done) | (unfold State.burstAudit; (try dsimp only); repeat' (first | rfl | (simp (maxDischargeDepth := 12); done) | (refine (foldl_keeps (fun z => z.flt.eventLostRun) _ _ _ (fun t f => ?_)).trans ?_) | (refine (foldl_keeps_fst (fun z => z.flt.eventLostRun) _ _ _ (fun t f => ?_)).trans ?_) | split))

@[simp] theorem State_errnPulse_flt_eventLostRun (s : State)  : (State.errnPulse s).flt.eventLostRun = s.flt.eventLostRun := by
  first | rfl | (simp (maxDischargeDepth := 12) [State.errnPulse]; done) | (unfold State.errnPulse; (try dsimp only); repeat' (first | rfl | (simp (maxDischargeDepth := 12); done) | (refine (foldl_keeps (fun z => z.flt.eventLostRun) _ _ _ (fun t f => ?_)).trans ?_) | (refine (foldl_keeps_fst (fun z => z.flt.eventLostRun) _ _ _ (fun t f => ?_)).trans ?_) | split))

@[simp] theorem State_errnSettle_flt_eventLostRun (s : State)  : (State.errnSettle s).flt.eventLostRun = s.flt.eventLostRun := by
  first | rfl | (simp (maxDischargeDepth := 12) [State.errnSettle]; done) | (unfold State.errnSettle; (try dsimp only); repeat' (first | rfl | (simp (maxDischargeDepth := 12); done) | (refine (foldl_keeps (fun z => z.flt.eventLostRun) _ _ _ (fun t f => ?_)).trans ?_) | (refine (foldl_keeps_fst (fun z => z.flt.eventLostRun) _ _ _ (fun t f => ?_)).trans ?_) | split))

@[simp] theorem State_reactC_flt_eventLostRun (s : State)  : (State.reactC s).flt.eventLostRun = s.flt.eventLostRun := by
  first | rfl | (simp (maxDischargeDepth := 12) [State.reactC]; done) | (unfold State.reactC; (try dsimp only); repeat' (first | rfl | (simp (maxDischargeDepth := 12); done) | (refine (foldl_keeps (fun z => z.flt.eventLostRun) _ _ _ (fun t f => ?_)).trans ?_) | (refine (foldl_keeps_fst (fun z => z.flt.eventLostRun) _ _ _ (fun t f => ?_)).trans ?_) | split))

@[simp] theorem State_countRaise_flt_eventLostRun (s : State) (src : Nat) (obj : Nat)  : (State.countRaise s src obj).flt.eventLostRun = s.flt.eventLostRun := by
  first | rfl | (simp (maxDischargeDepth := 12) [State.countRaise]; done) | (unfold State.countRaise; (try dsimp only); repeat' (first | rfl | (simp (maxDischargeDepth := 12); done) | (refine (foldl_keeps (fun z => z.flt.eventLostRun) _ _ _ (fun t f => ?_)).trans ?_) | (refine (foldl_keeps_fst (fun z => z.flt.eventLostRun) _ _ _ (fun t f => ?_)).trans ?_) | split))

@[simp] theorem State_repeatRaise_flt_eventLostRun (s : State)  : (State.repeatRaise s).flt.eventLostRun = s.flt.eventLostRun := by
  first | rfl | (simp (maxDischargeDepth := 12) [State.repeatRaise]; done) | (unfold State.repeatRaise; (try dsimp only); repeat' (first | rfl | (simp (maxDischargeDepth := 12); done) | (refine (foldl_keeps (fun z => z.flt.eventLostRun) _ _ _ (fun t f => ?_)).trans ?_) | (refine (foldl_keeps_fst (fun z => z.flt.eventLostRun) _ _ _ (fun t f => ?_)).trans ?_) | split))

@[simp] theorem State_openIncident_flt_eventLostRun (s : State) (src : Nat) (obj : Nat) (inj : Bool)  : (State.openIncident s src obj inj).flt.eventLostRun = s.flt.eventLostRun := by
  first | rfl | (simp (maxDischargeDepth := 12) [State.openIncident]; done) | (unfold State.openIncident; (try dsimp only); repeat' (first | rfl | (simp (maxDischargeDepth := 12); done) | (refine (foldl_keeps (fun z => z.flt.eventLostRun) _ _ _ (fun t f => ?_)).trans ?_) | (refine (foldl_keeps_fst (fun z => z.flt.eventLostRun) _ _ _ (fun t f => ?_)).trans ?_) | split))

@[simp] theorem State_mergeRaise_flt_eventLostRun (s : State) (src : Nat) (inj : Bool)  : (State.mergeRaise s src inj).flt.eventLostRun = s.flt.eventLostRun := by
  first | rfl | (simp (maxDischargeDepth := 12) [State.mergeRaise]; done) | (unfold State.mergeRaise; (try dsimp only); repeat' (first | rfl | (simp (maxDischargeDepth := 12); done) | (refine (foldl_keeps (fun z => z.flt.eventLostRun) _ _ _ (fun t f => ?_)).trans ?_) | (refine (foldl_keeps_fst (fun z => z.flt.eventLostRun) _ _ _ (fun t f => ?_)).trans ?_) | split))

@[simp] theorem State_abandonAudits_flt_eventLostRun (s : State)  : (State.abandonAudits s).flt.eventLostRun = s.flt.eventLostRun := by
  first | rfl | (simp (maxDischargeDepth := 12) [State.abandonAudits]; done) | (unfold State.abandonAudits; (try dsimp only); repeat' (first | rfl | (simp (maxDischargeDepth := 12); done) | (refine (foldl_keeps (fun z => z.flt.eventLostRun) _ _ _ (fun t f => ?_)).trans ?_) | (refine (foldl_keeps_fst (fun z => z.flt.eventLostRun) _ _ _ (fun t f => ?_)).trans ?_) | split))

@[simp] theorem State_concludeAudit_flt_eventLostRun (s : State) (src : Nat) (pass : Bool) (held : Bool)  : (State.concludeAudit s src pass held).flt.eventLostRun = s.flt.eventLostRun := by
  first | rfl | (simp (maxDischargeDepth := 12) [State.concludeAudit]; done) | (unfold State.concludeAudit; (try dsimp only); repeat' (first | rfl | (simp (maxDischargeDepth := 12); done) | (refine (foldl_keeps (fun z => z.flt.eventLostRun) _ _ _ (fun t f => ?_)).trans ?_) | (refine (foldl_keeps_fst (fun z => z.flt.eventLostRun) _ _ _ (fun t f => ?_)).trans ?_) | split))

@[simp] theorem State_closeIncident_flt_eventLostRun (s : State) (overrun : Bool)  : (State.closeIncident s overrun).flt.eventLostRun = s.flt.eventLostRun := by
  first | rfl | (simp (maxDischargeDepth := 12) [State.closeIncident]; done) | (unfold State.closeIncident; (try dsimp only); repeat' (first | rfl | (simp (maxDischargeDepth := 12); done) | (refine (foldl_keeps (fun z => z.flt.eventLostRun) _ _ _ (fun t f => ?_)).trans ?_) | (refine (foldl_keeps_fst (fun z => z.flt.eventLostRun) _ _ _ (fun t f => ?_)).trans ?_) | split))

@[simp] theorem State_winRefused_flt_eventLostRun (s : State) (code : Nat) (off : Nat) (write : Bool)  : (State.winRefused s code off write).flt.eventLostRun = s.flt.eventLostRun := by
  first | rfl | (simp (maxDischargeDepth := 12) [State.winRefused]; done) | (unfold State.winRefused; (try dsimp only); repeat' (first | rfl | (simp (maxDischargeDepth := 12); done) | (refine (foldl_keeps (fun z => z.flt.eventLostRun) _ _ _ (fun t f => ?_)).trans ?_) | (refine (foldl_keeps_fst (fun z => z.flt.eventLostRun) _ _ _ (fun t f => ?_)).trans ?_) | split))

@[simp] theorem State_pushCompl_flt_eventLostRun (s : State) (c : Compl)  : (State.pushCompl s c).flt.eventLostRun = s.flt.eventLostRun := by
  first | rfl | (simp (maxDischargeDepth := 12) [State.pushCompl]; done) | (unfold State.pushCompl; (try dsimp only); repeat' (first | rfl | (simp (maxDischargeDepth := 12); done) | (refine (foldl_keeps (fun z => z.flt.eventLostRun) _ _ _ (fun t f => ?_)).trans ?_) | (refine (foldl_keeps_fst (fun z => z.flt.eventLostRun) _ _ _ (fun t f => ?_)).trans ?_) | split))

@[simp] theorem State_complete_flt_eventLostRun (s : State) (x : CmdCtx) (opcode : Nat) (status : Nat) (data : Nat)  : (State.complete s x opcode status data).flt.eventLostRun = s.flt.eventLostRun := by
  first | rfl | (simp (maxDischargeDepth := 12) [State.complete]; done) | (unfold State.complete; (try dsimp only); repeat' (first | rfl | (simp (maxDischargeDepth := 12); done) | (refine (foldl_keeps (fun z => z.flt.eventLostRun) _ _ _ (fun t f => ?_)).trans ?_) | (refine (foldl_keeps_fst (fun z => z.flt.eventLostRun) _ _ _ (fun t f => ?_)).trans ?_) | split))

@[simp] theorem State_addFlight_flt_eventLostRun (s : State) (x : CmdCtx) (opcode : Nat) (w : WaitFor) (data : Nat)  : (State.addFlight s x opcode w data).flt.eventLostRun = s.flt.eventLostRun := by
  first | rfl | (simp (maxDischargeDepth := 12) [State.addFlight]; done) | (unfold State.addFlight; (try dsimp only); repeat' (first | rfl | (simp (maxDischargeDepth := 12); done) | (refine (foldl_keeps (fun z => z.flt.eventLostRun) _ _ _ (fun t f => ?_)).trans ?_) | (refine (foldl_keeps_fst (fun z => z.flt.eventLostRun) _ _ _ (fun t f => ?_)).trans ?_) | split))

@[simp] theorem State_finishWhere_flt_eventLostRun (s : State) (p : Flight → Option (Nat × Nat))  : (State.finishWhere s p).flt.eventLostRun = s.flt.eventLostRun := by
  first | rfl | (simp (maxDischargeDepth := 12) [State.finishWhere]; done) | (unfold State.finishWhere; (try dsimp only); repeat' (first | rfl | (simp (maxDischargeDepth := 12); done) | (refine (foldl_keeps (fun z => z.flt.eventLostRun) _ _ _ (fun t f => ?_)).trans ?_) | (refine (foldl_keeps_fst (fun z => z.flt.eventLostRun) _ _ _ (fun t f => ?_)).trans ?_) | split))

@[simp] theorem State_finish_flt_eventLostRun (s : State) (w : WaitFor) (status : Nat) (data : Nat)  : (State.finish s w status data).flt.eventLostRun = s.flt.eventLostRun := by
  first | rfl | (simp (maxDischargeDepth := 12) [State.finish]; done) | (unfold State.finish; (try dsimp only); repeat' (first | rfl | (simp (maxDischargeDepth := 12); done) | (refine (foldl_keeps (fun z => z.flt.eventLostRun) _ _ _ (fun t f => ?_)).trans ?_) | (refine (foldl_keeps_fst (fun z => z.flt.eventLostRun) _ _ _ (fun t f => ?_)).trans ?_) | split))

@[simp] theorem State_flightData_flt_eventLostRun (s : State) (w : WaitFor) (data : Nat)  : (State.flightData s w data).flt.eventLostRun = s.flt.eventLostRun := by
  first | rfl | (simp (maxDischargeDepth := 12) [State.flightData]; done) | (unfold State.flightData; (try dsimp only); repeat' (first | rfl | (simp (maxDischargeDepth := 12); done) | (refine (foldl_keeps (fun z => z.flt.eventLostRun) _ _ _ (fun t f => ?_)).trans ?_) | (refine (foldl_keeps_fst (fun z => z.flt.eventLostRun) _ _ _ (fun t f => ?_)).trans ?_) | split))

@[simp] theorem State_supersede_flt_eventLostRun (s : State) (x : CmdCtx)  : (State.supersede s x).flt.eventLostRun = s.flt.eventLostRun := by
  first | rfl | (simp (maxDischargeDepth := 12) [State.supersede]; done) | (unfold State.supersede; (try dsimp only); repeat' (first | rfl | (simp (maxDischargeDepth := 12); done) | (refine (foldl_keeps (fun z => z.flt.eventLostRun) _ _ _ (fun t f => ?_)).trans ?_) | (refine (foldl_keeps_fst (fun z => z.flt.eventLostRun) _ _ _ (fun t f => ?_)).trans ?_) | split))

@[simp] theorem State_queueOrder_flt_eventLostRun (s : State) (i : Nat) (op : Nat) (arg : Nat) (origin : Origin)  : (State.queueOrder s i op arg origin).flt.eventLostRun = s.flt.eventLostRun := by
  first | rfl | (simp (maxDischargeDepth := 12) [State.queueOrder]; done) | (unfold State.queueOrder; (try dsimp only); repeat' (first | rfl | (simp (maxDischargeDepth := 12); done) | (refine (foldl_keeps (fun z => z.flt.eventLostRun) _ _ _ (fun t f => ?_)).trans ?_) | (refine (foldl_keeps_fst (fun z => z.flt.eventLostRun) _ _ _ (fun t f => ?_)).trans ?_) | split))

@[simp] theorem State_queueRead_flt_eventLostRun (s : State) (i : Nat) (origin : Origin)  : (State.queueRead s i origin).flt.eventLostRun = s.flt.eventLostRun := by
  first | rfl | (simp (maxDischargeDepth := 12) [State.queueRead]; done) | (unfold State.queueRead; (try dsimp only); repeat' (first | rfl | (simp (maxDischargeDepth := 12); done) | (refine (foldl_keeps (fun z => z.flt.eventLostRun) _ _ _ (fun t f => ?_)).trans ?_) | (refine (foldl_keeps_fst (fun z => z.flt.eventLostRun) _ _ _ (fun t f => ?_)).trans ?_) | split))

@[simp] theorem State_queueCfg_flt_eventLostRun (s : State) (d : Nat) (record : Bool)  : (State.queueCfg s d record).flt.eventLostRun = s.flt.eventLostRun := by
  first | rfl | (simp (maxDischargeDepth := 12) [State.queueCfg]; done) | (unfold State.queueCfg; (try dsimp only); repeat' (first | rfl | (simp (maxDischargeDepth := 12); done) | (refine (foldl_keeps (fun z => z.flt.eventLostRun) _ _ _ (fun t f => ?_)).trans ?_) | (refine (foldl_keeps_fst (fun z => z.flt.eventLostRun) _ _ _ (fun t f => ?_)).trans ?_) | split))

@[simp] theorem State_queueTrim_flt_eventLostRun (s : State) (i : Nat)  : (State.queueTrim s i).flt.eventLostRun = s.flt.eventLostRun := by
  first | rfl | (simp (maxDischargeDepth := 12) [State.queueTrim]; done) | (unfold State.queueTrim; (try dsimp only); repeat' (first | rfl | (simp (maxDischargeDepth := 12); done) | (refine (foldl_keeps (fun z => z.flt.eventLostRun) _ _ _ (fun t f => ?_)).trans ?_) | (refine (foldl_keeps_fst (fun z => z.flt.eventLostRun) _ _ _ (fun t f => ?_)).trans ?_) | split))

@[simp] theorem State_loanAccept_flt_eventLostRun (s : State) (i : Nat) (recalling : Bool) (cover : Bool) (origin : Origin)  : (State.loanAccept s i recalling cover origin).flt.eventLostRun = s.flt.eventLostRun := by
  first | rfl | (simp (maxDischargeDepth := 12) [State.loanAccept]; done) | (unfold State.loanAccept; (try dsimp only); repeat' (first | rfl | (simp (maxDischargeDepth := 12); done) | (refine (foldl_keeps (fun z => z.flt.eventLostRun) _ _ _ (fun t f => ?_)).trans ?_) | (refine (foldl_keeps_fst (fun z => z.flt.eventLostRun) _ _ _ (fun t f => ?_)).trans ?_) | split))

@[simp] theorem State_updLoan_flt_eventLostRun (s : State) (c : Nat) (f : Loan → Loan)  : (State.updLoan s c f).flt.eventLostRun = s.flt.eventLostRun := by
  first | rfl | (simp (maxDischargeDepth := 12) [State.updLoan]; done) | (unfold State.updLoan; (try dsimp only); repeat' (first | rfl | (simp (maxDischargeDepth := 12); done) | (refine (foldl_keeps (fun z => z.flt.eventLostRun) _ _ _ (fun t f => ?_)).trans ?_) | (refine (foldl_keeps_fst (fun z => z.flt.eventLostRun) _ _ _ (fun t f => ?_)).trans ?_) | split))

@[simp] theorem State_loanBegin_flt_eventLostRun (s : State) (c : Nat) (l : Loan)  : (State.loanBegin s c l).flt.eventLostRun = s.flt.eventLostRun := by
  first | rfl | (simp (maxDischargeDepth := 12) [State.loanBegin]; done) | (unfold State.loanBegin; (try dsimp only); repeat' (first | rfl | (simp (maxDischargeDepth := 12); done) | (refine (foldl_keeps (fun z => z.flt.eventLostRun) _ _ _ (fun t f => ?_)).trans ?_) | (refine (foldl_keeps_fst (fun z => z.flt.eventLostRun) _ _ _ (fun t f => ?_)).trans ?_) | split))

@[simp] theorem State_loanEnd_flt_eventLostRun (s : State) (c : Nat) (l : Loan) (status : Nat)  : (State.loanEnd s c l status).flt.eventLostRun = s.flt.eventLostRun := by
  first | rfl | (simp (maxDischargeDepth := 12) [State.loanEnd]; done) | (unfold State.loanEnd; (try dsimp only); repeat' (first | rfl | (simp (maxDischargeDepth := 12); done) | (refine (foldl_keeps (fun z => z.flt.eventLostRun) _ _ _ (fun t f => ?_)).trans ?_) | (refine (foldl_keeps_fst (fun z => z.flt.eventLostRun) _ _ _ (fun t f => ?_)).trans ?_) | split))

@[simp] theorem State_loanDropped_flt_eventLostRun (s : State) (c : Nat) (l : Loan)  : (State.loanDropped s c l).flt.eventLostRun = s.flt.eventLostRun := by
  first | rfl | (simp (maxDischargeDepth := 12) [State.loanDropped]; done) | (unfold State.loanDropped; (try dsimp only); repeat' (first | rfl | (simp (maxDischargeDepth := 12); done) | (refine (foldl_keeps (fun z => z.flt.eventLostRun) _ _ _ (fun t f => ?_)).trans ?_) | (refine (foldl_keeps_fst (fun z => z.flt.eventLostRun) _ _ _ (fun t f => ?_)).trans ?_) | split))

@[simp] theorem State_loanAborted_flt_eventLostRun (s : State) (c : Nat) (l : Loan)  : (State.loanAborted s c l).flt.eventLostRun = s.flt.eventLostRun := by
  first | rfl | (simp (maxDischargeDepth := 12) [State.loanAborted]; done) | (unfold State.loanAborted; (try dsimp only); repeat' (first | rfl | (simp (maxDischargeDepth := 12); done) | (refine (foldl_keeps (fun z => z.flt.eventLostRun) _ _ _ (fun t f => ?_)).trans ?_) | (refine (foldl_keeps_fst (fun z => z.flt.eventLostRun) _ _ _ (fun t f => ?_)).trans ?_) | split))

@[simp] theorem State_loanAbandonNear_flt_eventLostRun (s : State) (c : Nat) (l : Loan)  : (State.loanAbandonNear s c l).flt.eventLostRun = s.flt.eventLostRun := by
  first | rfl | (simp (maxDischargeDepth := 12) [State.loanAbandonNear]; done) | (unfold State.loanAbandonNear; (try dsimp only); repeat' (first | rfl | (simp (maxDischargeDepth := 12); done) | (refine (foldl_keeps (fun z => z.flt.eventLostRun) _ _ _ (fun t f => ?_)).trans ?_) | (refine (foldl_keeps_fst (fun z => z.flt.eventLostRun) _ _ _ (fun t f => ?_)).trans ?_) | split))

@[simp] theorem State_loanAbandonFar_flt_eventLostRun (s : State) (c : Nat) (l : Loan)  : (State.loanAbandonFar s c l).flt.eventLostRun = s.flt.eventLostRun := by
  first | rfl | (simp (maxDischargeDepth := 12) [State.loanAbandonFar]; done) | (unfold State.loanAbandonFar; (try dsimp only); repeat' (first | rfl | (simp (maxDischargeDepth := 12); done) | (refine (foldl_keeps (fun z => z.flt.eventLostRun) _ _ _ (fun t f => ?_)).trans ?_) | (refine (foldl_keeps_fst (fun z => z.flt.eventLostRun) _ _ _ (fun t f => ?_)).trans ?_) | split))

@[simp] theorem State_loanJoin_flt_eventLostRun (s : State) (c : Nat) (l : Loan)  : (State.loanJoin s c l).flt.eventLostRun = s.flt.eventLostRun := by
  first | rfl | (simp (maxDischargeDepth := 12) [State.loanJoin]; done) | (unfold State.loanJoin; (try dsimp only); repeat' (first | rfl | (simp (maxDischargeDepth := 12); done) | (refine (foldl_keeps (fun z => z.flt.eventLostRun) _ _ _ (fun t f => ?_)).trans ?_) | (refine (foldl_keeps_fst (fun z => z.flt.eventLostRun) _ _ _ (fun t f => ?_)).trans ?_) | split))

@[simp] theorem State_loanCommit_flt_eventLostRun (s : State) (c : Nat)  : (State.loanCommit s c).flt.eventLostRun = s.flt.eventLostRun := by
  first | rfl | (simp (maxDischargeDepth := 12) [State.loanCommit]; done) | (unfold State.loanCommit; (try dsimp only); repeat' (first | rfl | (simp (maxDischargeDepth := 12); done) | (refine (foldl_keeps (fun z => z.flt.eventLostRun) _ _ _ (fun t f => ?_)).trans ?_) | (refine (foldl_keeps_fst (fun z => z.flt.eventLostRun) _ _ _ (fun t f => ?_)).trans ?_) | split))

@[simp] theorem State_offOrder_flt_eventLostRun (s : State) (d : Nat)  : (State.offOrder s d).flt.eventLostRun = s.flt.eventLostRun := by
  first | rfl | (simp (maxDischargeDepth := 12) [State.offOrder]; done) | (unfold State.offOrder; (try dsimp only); repeat' (first | rfl | (simp (maxDischargeDepth := 12); done) | (refine (foldl_keeps (fun z => z.flt.eventLostRun) _ _ _ (fun t f => ?_)).trans ?_) | (refine (foldl_keeps_fst (fun z => z.flt.eventLostRun) _ _ _ (fun t f => ?_)).trans ?_) | split))

@[simp] theorem State_startCommit_flt_eventLostRun (s : State) (d : Nat)  : (State.startCommit s d).flt.eventLostRun = s.flt.eventLostRun := by
  first | rfl | (simp (maxDischargeDepth := 12) [State.startCommit]; done) | (unfold State.startCommit; (try dsimp only); repeat' (first | rfl | (simp (maxDischargeDepth := 12); done) | (refine (foldl_keeps (fun z => z.flt.eventLostRun) _ _ _ (fun t f => ?_)).trans ?_) | (refine (foldl_keeps_fst (fun z => z.flt.eventLostRun) _ _ _ (fun t f => ?_)).trans ?_) | split))

@[simp] theorem State_updAudit_flt_eventLostRun (s : State) (i : Nat) (f : CAudit → CAudit)  : (State.updAudit s i f).flt.eventLostRun = s.flt.eventLostRun := by
  first | rfl | (simp (maxDischargeDepth := 12) [State.updAudit]; done) | (unfold State.updAudit; (try dsimp only); repeat' (first | rfl | (simp (maxDischargeDepth := 12); done) | (refine (foldl_keeps (fun z => z.flt.eventLostRun) _ _ _ (fun t f => ?_)).trans ?_) | (refine (foldl_keeps_fst (fun z => z.flt.eventLostRun) _ _ _ (fun t f => ?_)).trans ?_) | split))

@[simp] theorem State_dropAudit_flt_eventLostRun (s : State) (i : Nat)  : (State.dropAudit s i).flt.eventLostRun = s.flt.eventLostRun := by
  first | rfl | (simp (maxDischargeDepth := 12) [State.dropAudit]; done) | (unfold State.dropAudit; (try dsimp only); repeat' (first | rfl | (simp (maxDischargeDepth := 12); done) | (refine (foldl_keeps (fun z => z.flt.eventLostRun) _ _ _ (fun t f => ?_)).trans ?_) | (refine (foldl_keeps_fst (fun z => z.flt.eventLostRun) _ _ _ (fun t f => ?_)).trans ?_) | split))

@[simp] theorem State_auditTest_flt_eventLostRun (s : State) (i : Nat)  : (State.auditTest s i).flt.eventLostRun = s.flt.eventLostRun := by
  first | rfl | (simp (maxDischargeDepth := 12) [State.auditTest]; done) | (unfold State.auditTest; (try dsimp only); repeat' (first | rfl | (simp (maxDischargeDepth := 12); done) | (refine (foldl_keeps (fun z => z.flt.eventLostRun) _ _ _ (fun t f => ?_)).trans ?_) | (refine (foldl_keeps_fst (fun z => z.flt.eventLostRun) _ _ _ (fun t f => ?_)).trans ?_) | split))

@[simp] theorem State_auditLasting_flt_eventLostRun (s : State) (a : CAudit)  : (State.auditLasting s a).flt.eventLostRun = s.flt.eventLostRun := by
  first | rfl | (simp (maxDischargeDepth := 12) [State.auditLasting]; done) | (unfold State.auditLasting; (try dsimp only); repeat' (first | rfl | (simp (maxDischargeDepth := 12); done) | (refine (foldl_keeps (fun z => z.flt.eventLostRun) _ _ _ (fun t f => ?_)).trans ?_) | (refine (foldl_keeps_fst (fun z => z.flt.eventLostRun) _ _ _ (fun t f => ?_)).trans ?_) | split))

@[simp] theorem State_coverDone_flt_eventLostRun (s : State) (k : Nat)  : (State.coverDone s k).flt.eventLostRun = s.flt.eventLostRun := by
  first | rfl | (simp (maxDischargeDepth := 12) [State.coverDone]; done) | (unfold State.coverDone; (try dsimp only); repeat' (first | rfl | (simp (maxDischargeDepth := 12); done) | (refine (foldl_keeps (fun z => z.flt.eventLostRun) _ _ _ (fun t f => ?_)).trans ?_) | (refine (foldl_keeps_fst (fun z => z.flt.eventLostRun) _ _ _ (fun t f => ?_)).trans ?_) | split))

@[simp] theorem State_auditRecall_flt_eventLostRun (s : State) (k : Nat)  : (State.auditRecall s k).flt.eventLostRun = s.flt.eventLostRun := by
  first | rfl | (simp (maxDischargeDepth := 12) [State.auditRecall]; done) | (unfold State.auditRecall; (try dsimp only); repeat' (first | rfl | (simp (maxDischargeDepth := 12); done) | (refine (foldl_keeps (fun z => z.flt.eventLostRun) _ _ _ (fun t f => ?_)).trans ?_) | (refine (foldl_keeps_fst (fun z => z.flt.eventLostRun) _ _ _ (fun t f => ?_)).trans ?_) | split))

@[simp] theorem State_auditRejoined_flt_eventLostRun (s : State) (a : CAudit)  : (State.auditRejoined s a).flt.eventLostRun = s.flt.eventLostRun := by
  first | rfl | (simp (maxDischargeDepth := 12) [State.auditRejoined]; done) | (unfold State.auditRejoined; (try dsimp only); repeat' (first | rfl | (simp (maxDischargeDepth := 12); done) | (refine (foldl_keeps (fun z => z.flt.eventLostRun) _ _ _ (fun t f => ?_)).trans ?_) | (refine (foldl_keeps_fst (fun z => z.flt.eventLostRun) _ _ _ (fun t f => ?_)).trans ?_) | split))

@[simp] theorem State_auditReturn_flt_eventLostRun (s : State) (a : CAudit)  : (State.auditReturn s a).flt.eventLostRun = s.flt.eventLostRun := by
  first | rfl | (simp (maxDischargeDepth := 12) [State.auditReturn]; done) | (unfold State.auditReturn; (try dsimp only); repeat' (first | rfl | (simp (maxDischargeDepth := 12); done) | (refine (foldl_keeps (fun z => z.flt.eventLostRun) _ _ _ (fun t f => ?_)).trans ?_) | (refine (foldl_keeps_fst (fun z => z.flt.eventLostRun) _ _ _ (fun t f => ?_)).trans ?_) | split))

@[simp] theorem State_auditTransient_flt_eventLostRun (s : State) (a : CAudit)  : (State.auditTransient s a).flt.eventLostRun = s.flt.eventLostRun := by
  first | rfl | (simp (maxDischargeDepth := 12) [State.auditTransient]; done) | (unfold State.auditTransient; (try dsimp only); repeat' (first | rfl | (simp (maxDischargeDepth := 12); done) | (refine (foldl_keeps (fun z => z.flt.eventLostRun) _ _ _ (fun t f => ?_)).trans ?_) | (refine (foldl_keeps_fst (fun z => z.flt.eventLostRun) _ _ _ (fun t f => ?_)).trans ?_) | split))

@[simp] theorem State_auditCommit_flt_eventLostRun (s : State) (a : CAudit)  : (State.auditCommit s a).flt.eventLostRun = s.flt.eventLostRun := by
  first | rfl | (simp (maxDischargeDepth := 12) [State.auditCommit]; done) | (unfold State.auditCommit; (try dsimp only); repeat' (first | rfl | (simp (maxDischargeDepth := 12); done) | (refine (foldl_keeps (fun z => z.flt.eventLostRun) _ _ _ (fun t f => ?_)).trans ?_) | (refine (foldl_keeps_fst (fun z => z.flt.eventLostRun) _ _ _ (fun t f => ?_)).trans ?_) | split))

@[simp] theorem State_auditRejoin_flt_eventLostRun (s : State) (a : CAudit)  : (State.auditRejoin s a).flt.eventLostRun = s.flt.eventLostRun := by
  first | rfl | (simp (maxDischargeDepth := 12) [State.auditRejoin]; done) | (unfold State.auditRejoin; (try dsimp only); repeat' (first | rfl | (simp (maxDischargeDepth := 12); done) | (refine (foldl_keeps (fun z => z.flt.eventLostRun) _ _ _ (fun t f => ?_)).trans ?_) | (refine (foldl_keeps_fst (fun z => z.flt.eventLostRun) _ _ _ (fun t f => ?_)).trans ?_) | split))

@[simp] theorem State_auditReply_flt_eventLostRun (s : State) (o : Order) (r : Option (Nat × Nat))  : (State.auditReply s o r).flt.eventLostRun = s.flt.eventLostRun := by
  first | rfl | (simp (maxDischargeDepth := 12) [State.auditReply]; done) | (unfold State.auditReply; (try dsimp only); repeat' (first | rfl | (simp (maxDischargeDepth := 12); done) | (refine (foldl_keeps (fun z => z.flt.eventLostRun) _ _ _ (fun t f => ?_)).trans ?_) | (refine (foldl_keeps_fst (fun z => z.flt.eventLostRun) _ _ _ (fun t f => ?_)).trans ?_) | split))

@[simp] theorem State_adoptReply_flt_eventLostRun (s : State) (o : Order) (r : Option (Nat × Nat))  : (State.adoptReply s o r).flt.eventLostRun = s.flt.eventLostRun := by
  first | rfl | (simp (maxDischargeDepth := 12) [State.adoptReply]; done) | (unfold State.adoptReply; (try dsimp only); repeat' (first | rfl | (simp (maxDischargeDepth := 12); done) | (refine (foldl_keeps (fun z => z.flt.eventLostRun) _ _ _ (fun t f => ?_)).trans ?_) | (refine (foldl_keeps_fst (fun z => z.flt.eventLostRun) _ _ _ (fun t f => ?_)).trans ?_) | split))

@[simp] theorem State_queuePages_flt_eventLostRun (s : State) (l : List Nat)  : (State.queuePages s l).flt.eventLostRun = s.flt.eventLostRun := by
  first | rfl | (simp (maxDischargeDepth := 12) [State.queuePages]; done) | (unfold State.queuePages; (try dsimp only); repeat' (first | rfl | (simp (maxDischargeDepth := 12); done) | (refine (foldl_keeps (fun z => z.flt.eventLostRun) _ _ _ (fun t f => ?_)).trans ?_) | (refine (foldl_keeps_fst (fun z => z.flt.eventLostRun) _ _ _ (fun t f => ?_)).trans ?_) | split))

@[simp] theorem State_onChain_flt_eventLostRun (s : State) (c : Nat) (f : Nat → Cell → Cell)  : (State.onChain s c f).flt.eventLostRun = s.flt.eventLostRun := by
  first | rfl | (simp (maxDischargeDepth := 12) [State.onChain]; done) | (unfold State.onChain; (try dsimp only); repeat' (first | rfl | (simp (maxDischargeDepth := 12); done) | (refine (foldl_keeps (fun z => z.flt.eventLostRun) _ _ _ (fun t f => ?_)).trans ?_) | (refine (foldl_keeps_fst (fun z => z.flt.eventLostRun) _ _ _ (fun t f => ?_)).trans ?_) | split))

@[simp] theorem State_meansDrawn_flt_eventLostRun (s : State)  : (State.meansDrawn s).flt.eventLostRun = s.flt.eventLostRun := by
  first | rfl | (simp (maxDischargeDepth := 12) [State.meansDrawn]; done) | (unfold State.meansDrawn; (try dsimp only); repeat' (first | rfl | (simp (maxDischargeDepth := 12); done) | (refine (foldl_keeps (fun z => z.flt.eventLostRun) _ _ _ (fun t f => ?_)).trans ?_) | (refine (foldl_keeps_fst (fun z => z.flt.eventLostRun) _ _ _ (fun t f => ?_)).trans ?_) | split))

@[simp] theorem State_checkedFrame_flt_eventLostRun (s : State) (c : ChainIx) (payload : BitVec 64) (f : Nat → Cell → Cell)  : (State.checkedFrame s c payload f).flt.eventLostRun = s.flt.eventLostRun := by
  first | rfl | (simp (maxDischargeDepth := 12) [State.checkedFrame]; done) | (unfold State.checkedFrame; (try dsimp only); repeat' (first | rfl | (simp (maxDischargeDepth := 12); done) | (refine (foldl_keeps (fun z => z.flt.eventLostRun) _ _ _ (fun t f => ?_)).trans ?_) | (refine (foldl_keeps_fst (fun z => z.flt.eventLostRun) _ _ _ (fun t f => ?_)).trans ?_) | split))

@[simp] theorem State_reply_flt_eventLostRun (s : State) (c : ChainIx) (type : Nat) (p : Nat)  : (State.reply s c type p).flt.eventLostRun = s.flt.eventLostRun := by
  first | rfl | (simp (maxDischargeDepth := 12) [State.reply]; done) | (unfold State.reply; (try dsimp only); repeat' (first | rfl | (simp (maxDischargeDepth := 12); done) | (refine (foldl_keeps (fun z => z.flt.eventLostRun) _ _ _ (fun t f => ?_)).trans ?_) | (refine (foldl_keeps_fst (fun z => z.flt.eventLostRun) _ _ _ (fun t f => ?_)).trans ?_) | split))

@[simp] theorem State_passFrame_flt_eventLostRun (s : State) (c : ChainIx) (frame : Nat)  : (State.passFrame s c frame).flt.eventLostRun = s.flt.eventLostRun := by
  first | rfl | (simp (maxDischargeDepth := 12) [State.passFrame]; done) | (unfold State.passFrame; (try dsimp only); repeat' (first | rfl | (simp (maxDischargeDepth := 12); done) | (refine (foldl_keeps (fun z => z.flt.eventLostRun) _ _ _ (fun t f => ?_)).trans ?_) | (refine (foldl_keeps_fst (fun z => z.flt.eventLostRun) _ _ _ (fun t f => ?_)).trans ?_) | split))

@[simp] theorem State_order_flt_eventLostRun (s : State) (c : ChainIx) (h : CmdHdr) (op : Nat) (act : Nat → Cell → Nat × Nat × Cell)  : (State.order s c h op act).flt.eventLostRun = s.flt.eventLostRun := by
  first | rfl | (simp (maxDischargeDepth := 12) [State.order]; done) | (unfold State.order; (try dsimp only); repeat' (first | rfl | (simp (maxDischargeDepth := 12); done) | (refine (foldl_keeps (fun z => z.flt.eventLostRun) _ _ _ (fun t f => ?_)).trans ?_) | (refine (foldl_keeps_fst (fun z => z.flt.eventLostRun) _ _ _ (fun t f => ?_)).trans ?_) | split))

@[simp] theorem State_sendOrder_flt_eventLostRun (s : State) (c : Nat) (o : Order)  : (State.sendOrder s c o).1.flt.eventLostRun = s.flt.eventLostRun := by
  first | rfl | (simp (maxDischargeDepth := 12) [State.sendOrder]; done) | (unfold State.sendOrder; (try dsimp only); repeat' (first | rfl | (simp (maxDischargeDepth := 12); done) | (refine (foldl_keeps (fun z => z.flt.eventLostRun) _ _ _ (fun t f => ?_)).trans ?_) | (refine (foldl_keeps_fst (fun z => z.flt.eventLostRun) _ _ _ (fun t f => ?_)).trans ?_) | split))

@[simp] theorem State_loanBoundary_flt_eventLostRun (s : State) (c : Nat)  : (State.loanBoundary s c).flt.eventLostRun = s.flt.eventLostRun := by
  first | rfl | (simp (maxDischargeDepth := 12) [State.loanBoundary]; done) | (unfold State.loanBoundary; (try dsimp only); repeat' (first | rfl | (simp (maxDischargeDepth := 12); done) | (refine (foldl_keeps (fun z => z.flt.eventLostRun) _ _ _ (fun t f => ?_)).trans ?_) | (refine (foldl_keeps_fst (fun z => z.flt.eventLostRun) _ _ _ (fun t f => ?_)).trans ?_) | split))

@[simp] theorem State_writeCoefs_flt_eventLostRun (s : State) (c : Nat) (i : Nat) (addr : Nat)  : (State.writeCoefs s c i addr).flt.eventLostRun = s.flt.eventLostRun := by
  first | rfl | (simp (maxDischargeDepth := 12) [State.writeCoefs]; done) | (unfold State.writeCoefs; (try dsimp only); repeat' (first | rfl | (simp (maxDischargeDepth := 12); done) | (refine (foldl_keeps (fun z => z.flt.eventLostRun) _ _ _ (fun t f => ?_)).trans ?_) | (refine (foldl_keeps_fst (fun z => z.flt.eventLostRun) _ _ _ (fun t f => ?_)).trans ?_) | split))

@[simp] theorem State_repairMoves_flt_eventLostRun (s : State) (c : Nat)  : (State.repairMoves s c).flt.eventLostRun = s.flt.eventLostRun := by
  first | rfl | (simp (maxDischargeDepth := 12) [State.repairMoves]; done) | (unfold State.repairMoves; (try dsimp only); repeat' (first | rfl | (simp (maxDischargeDepth := 12); done) | (refine (foldl_keeps (fun z => z.flt.eventLostRun) _ _ _ (fun t f => ?_)).trans ?_) | (refine (foldl_keeps_fst (fun z => z.flt.eventLostRun) _ _ _ (fun t f => ?_)).trans ?_) | split))

@[simp] theorem State_reportsLost_flt_eventLostRun (s : State) (c : Nat) (lo : Nat) (hi : Nat)  : (State.reportsLost s c lo hi).flt.eventLostRun = s.flt.eventLostRun := by
  first | rfl | (simp (maxDischargeDepth := 12) [State.reportsLost]; done) | (unfold State.reportsLost; (try dsimp only); repeat' (first | rfl | (simp (maxDischargeDepth := 12); done) | (refine (foldl_keeps (fun z => z.flt.eventLostRun) _ _ _ (fun t f => ?_)).trans ?_) | (refine (foldl_keeps_fst (fun z => z.flt.eventLostRun) _ _ _ (fun t f => ?_)).trans ?_) | split))

@[simp] theorem State_loopRequest_flt_eventLostRun (s : State) (mask : Nat)  : (State.loopRequest s mask).flt.eventLostRun = s.flt.eventLostRun := by
  first | rfl | (simp (maxDischargeDepth := 12) [State.loopRequest]; done) | (unfold State.loopRequest; (try dsimp only); repeat' (first | rfl | (simp (maxDischargeDepth := 12); done) | (refine (foldl_keeps (fun z => z.flt.eventLostRun) _ _ _ (fun t f => ?_)).trans ?_) | (refine (foldl_keeps_fst (fun z => z.flt.eventLostRun) _ _ _ (fun t f => ?_)).trans ?_) | split))

@[simp] theorem State_tallyAdd_flt_eventLostRun (s : State) (conv : Nat) (t : Nat) (x : Int) (ovr : Bool)  : (State.tallyAdd s conv t x ovr).flt.eventLostRun = s.flt.eventLostRun := by
  first | rfl | (simp (maxDischargeDepth := 12) [State.tallyAdd]; done) | (unfold State.tallyAdd; (try dsimp only); repeat' (first | rfl | (simp (maxDischargeDepth := 12); done) | (refine (foldl_keeps (fun z => z.flt.eventLostRun) _ _ _ (fun t f => ?_)).trans ?_) | (refine (foldl_keeps_fst (fun z => z.flt.eventLostRun) _ _ _ (fun t f => ?_)).trans ?_) | split))

@[simp] theorem State_reconf_flt_eventLostRun (s : State) (conv : Nat) (ts : List Nat)  : (State.reconf s conv ts).flt.eventLostRun = s.flt.eventLostRun := by
  first | rfl | (simp (maxDischargeDepth := 12) [State.reconf]; done) | (unfold State.reconf; (try dsimp only); repeat' (first | rfl | (simp (maxDischargeDepth := 12); done) | (refine (foldl_keeps (fun z => z.flt.eventLostRun) _ _ _ (fun t f => ?_)).trans ?_) | (refine (foldl_keeps_fst (fun z => z.flt.eventLostRun) _ _ _ (fun t f => ?_)).trans ?_) | split))

@[simp] theorem State_tallyCommit_flt_eventLostRun (s : State) (epoch : Nat)  : (State.tallyCommit s epoch).flt.eventLostRun = s.flt.eventLostRun := by
  first | rfl | (simp (maxDischargeDepth := 12) [State.tallyCommit]; done) | (unfold State.tallyCommit; (try dsimp only); repeat' (first | rfl | (simp (maxDischargeDepth := 12); done) | (refine (foldl_keeps (fun z => z.flt.eventLostRun) _ _ _ (fun t f => ?_)).trans ?_) | (refine (foldl_keeps_fst (fun z => z.flt.eventLostRun) _ _ _ (fun t f => ?_)).trans ?_) | split))

@[simp] theorem State_listsDone_flt_eventLostRun (s : State) (d : Nat)  : (State.listsDone s d).flt.eventLostRun = s.flt.eventLostRun := by
  first | rfl | (simp (maxDischargeDepth := 12) [State.listsDone]; done) | (unfold State.listsDone; (try dsimp only); repeat' (first | rfl | (simp (maxDischargeDepth := 12); done) | (refine (foldl_keeps (fun z => z.flt.eventLostRun) _ _ _ (fun t f => ?_)).trans ?_) | (refine (foldl_keeps_fst (fun z => z.flt.eventLostRun) _ _ _ (fun t f => ?_)).trans ?_) | split))

@[simp] theorem State_latchSense_flt_eventLostRun (s : State) (d : Nat) (smp : SenseSample)  : (State.latchSense s d smp).1.flt.eventLostRun = s.flt.eventLostRun := by
  first | rfl | (simp (maxDischargeDepth := 12) [State.latchSense]; done) | (unfold State.latchSense; (try dsimp only); repeat' (first | rfl | (simp (maxDischargeDepth := 12); done) | (refine (foldl_keeps (fun z => z.flt.eventLostRun) _ _ _ (fun t f => ?_)).trans ?_) | (refine (foldl_keeps_fst (fun z => z.flt.eventLostRun) _ _ _ (fun t f => ?_)).trans ?_) | split))

@[simp] theorem State_trigSource_flt_eventLostRun (s : State) (src : Nat)  : (State.trigSource s src).flt.eventLostRun = s.flt.eventLostRun := by
  first | rfl | (simp (maxDischargeDepth := 12) [State.trigSource]; done) | (unfold State.trigSource; (try dsimp only); repeat' (first | rfl | (simp (maxDischargeDepth := 12); done) | (refine (foldl_keeps (fun z => z.flt.eventLostRun) _ _ _ (fun t f => ?_)).trans ?_) | (refine (foldl_keeps_fst (fun z => z.flt.eventLostRun) _ _ _ (fun t f => ?_)).trans ?_) | split))

@[simp] theorem State_softTrig_flt_eventLostRun (s : State) (all : Bool) (inj : Bool) (conv : Nat)  : (State.softTrig s all inj conv).flt.eventLostRun = s.flt.eventLostRun := by
  first | rfl | (simp (maxDischargeDepth := 12) [State.softTrig]; done) | (unfold State.softTrig; (try dsimp only); repeat' (first | rfl | (simp (maxDischargeDepth := 12); done) | (refine (foldl_keeps (fun z => z.flt.eventLostRun) _ _ _ (fun t f => ?_)).trans ?_) | (refine (foldl_keeps_fst (fun z => z.flt.eventLostRun) _ _ _ (fun t f => ?_)).trans ?_) | split))

@[simp] theorem State_takeReg_flt_eventLostRun (s : State) (d : Nat)  : (State.takeReg s d).flt.eventLostRun = s.flt.eventLostRun := by
  first | rfl | (simp (maxDischargeDepth := 12) [State.takeReg]; done) | (unfold State.takeReg; (try dsimp only); repeat' (first | rfl | (simp (maxDischargeDepth := 12); done) | (refine (foldl_keeps (fun z => z.flt.eventLostRun) _ _ _ (fun t f => ?_)).trans ?_) | (refine (foldl_keeps_fst (fun z => z.flt.eventLostRun) _ _ _ (fun t f => ?_)).trans ?_) | split))

@[simp] theorem State_takeInj_flt_eventLostRun (s : State) (d : Nat)  : (State.takeInj s d).flt.eventLostRun = s.flt.eventLostRun := by
  first | rfl | (simp (maxDischargeDepth := 12) [State.takeInj]; done) | (unfold State.takeInj; (try dsimp only); repeat' (first | rfl | (simp (maxDischargeDepth := 12); done) | (refine (foldl_keeps (fun z => z.flt.eventLostRun) _ _ _ (fun t f => ?_)).trans ?_) | (refine (foldl_keeps_fst (fun z => z.flt.eventLostRun) _ _ _ (fun t f => ?_)).trans ?_) | split))

@[simp] theorem State_roundEnd_flt_eventLostRun (s : State) (d : Nat) (again : Bool)  : (State.roundEnd s d again).flt.eventLostRun = s.flt.eventLostRun := by
  first | rfl | (simp (maxDischargeDepth := 12) [State.roundEnd]; done) | (unfold State.roundEnd; (try dsimp only); repeat' (first | rfl | (simp (maxDischargeDepth := 12); done) | (refine (foldl_keeps (fun z => z.flt.eventLostRun) _ _ _ (fun t f => ?_)).trans ?_) | (refine (foldl_keeps_fst (fun z => z.flt.eventLostRun) _ _ _ (fun t f => ?_)).trans ?_) | split))

@[simp] theorem State_resumeA_flt_eventLostRun (s : State) (d : Nat) (resume : Option Nat)  : (State.resumeA s d resume).flt.eventLostRun = s.flt.eventLostRun := by
  first | rfl | (simp (maxDischargeDepth := 12) [State.resumeA]; done) | (unfold State.resumeA; (try dsimp only); repeat' (first | rfl | (simp (maxDischargeDepth := 12); done) | (refine (foldl_keeps (fun z => z.flt.eventLostRun) _ _ _ (fun t f => ?_)).trans ?_) | (refine (foldl_keeps_fst (fun z => z.flt.eventLostRun) _ _ _ (fun t f => ?_)).trans ?_) | split))

@[simp] theorem State_entryResult_flt_eventLostRun (s : State) (d : Nat) (smp : SenseSample)  : (State.entryResult s d smp).flt.eventLostRun = s.flt.eventLostRun := by
  first | rfl | (simp (maxDischargeDepth := 12) [State.entryResult]; done) | (unfold State.entryResult; (try dsimp only); repeat' (first | rfl | (simp (maxDischargeDepth := 12); done) | (refine (foldl_keeps (fun z => z.flt.eventLostRun) _ _ _ (fun t f => ?_)).trans ?_) | (refine (foldl_keeps_fst (fun z => z.flt.eventLostRun) _ _ _ (fun t f => ?_)).trans ?_) | split))

@[simp] theorem State_seqActivate_flt_eventLostRun (s : State) (d : Nat) (l : SeqSet)  : (State.seqActivate s d l).flt.eventLostRun = s.flt.eventLostRun := by
  first | rfl | (simp (maxDischargeDepth := 12) [State.seqActivate]; done) | (unfold State.seqActivate; (try dsimp only); repeat' (first | rfl | (simp (maxDischargeDepth := 12); done) | (refine (foldl_keeps (fun z => z.flt.eventLostRun) _ _ _ (fun t f => ?_)).trans ?_) | (refine (foldl_keeps_fst (fun z => z.flt.eventLostRun) _ _ _ (fun t f => ?_)).trans ?_) | split))

@[simp] theorem State_seqGo_flt_eventLostRun (s : State) (v : Word)  : (State.seqGo s v).flt.eventLostRun = s.flt.eventLostRun := by
  first | rfl | (simp (maxDischargeDepth := 12) [State.seqGo]; done) | (unfold State.seqGo; (try dsimp only); repeat' (first | rfl | (simp (maxDischargeDepth := 12); done) | (refine (foldl_keeps (fun z => z.flt.eventLostRun) _ _ _ (fun t f => ?_)).trans ?_) | (refine (foldl_keeps_fst (fun z => z.flt.eventLostRun) _ _ _ (fun t f => ?_)).trans ?_) | split))

@[simp] theorem State_tallyCaptureOp_flt_eventLostRun (s : State) (v : Word)  : (State.tallyCaptureOp s v).flt.eventLostRun = s.flt.eventLostRun := by
  first | rfl | (simp (maxDischargeDepth := 12) [State.tallyCaptureOp]; done) | (unfold State.tallyCaptureOp; (try dsimp only); repeat' (first | rfl | (simp (maxDischargeDepth := 12); done) | (refine (foldl_keeps (fun z => z.flt.eventLostRun) _ _ _ (fun t f => ?_)).trans ?_) | (refine (foldl_keeps_fst (fun z => z.flt.eventLostRun) _ _ _ (fun t f => ?_)).trans ?_) | split))

@[simp] theorem State_tallyClearOp_flt_eventLostRun (s : State) (conv : Nat) (mask : Nat)  : (State.tallyClearOp s conv mask).flt.eventLostRun = s.flt.eventLostRun := by
  first | rfl | (simp (maxDischargeDepth := 12) [State.tallyClearOp]; done) | (unfold State.tallyClearOp; (try dsimp only); repeat' (first | rfl | (simp (maxDischargeDepth := 12); done) | (refine (foldl_keeps (fun z => z.flt.eventLostRun) _ _ _ (fun t f => ?_)).trans ?_) | (refine (foldl_keeps_fst (fun z => z.flt.eventLostRun) _ _ _ (fun t f => ?_)).trans ?_) | split))

@[simp] theorem State_refSelectOp_flt_eventLostRun (s : State) (sel : Nat)  : (State.refSelectOp s sel).flt.eventLostRun = s.flt.eventLostRun := by
  first | rfl | (simp (maxDischargeDepth := 12) [State.refSelectOp]; done) | (unfold State.refSelectOp; (try dsimp only); repeat' (first | rfl | (simp (maxDischargeDepth := 12); done) | (refine (foldl_keeps (fun z => z.flt.eventLostRun) _ _ _ (fun t f => ?_)).trans ?_) | (refine (foldl_keeps_fst (fun z => z.flt.eventLostRun) _ _ _ (fun t f => ?_)).trans ?_) | split))

@[simp] theorem State_roundBegin_flt_eventLostRun (s : State)  : (State.roundBegin s).flt.eventLostRun = s.flt.eventLostRun := by
  first | rfl | (simp (maxDischargeDepth := 12) [State.roundBegin]; done) | (unfold State.roundBegin; (try dsimp only); repeat' (first | rfl | (simp (maxDischargeDepth := 12); done) | (refine (foldl_keeps (fun z => z.flt.eventLostRun) _ _ _ (fun t f => ?_)).trans ?_) | (refine (foldl_keeps_fst (fun z => z.flt.eventLostRun) _ _ _ (fun t f => ?_)).trans ?_) | split))

@[simp] theorem State_hkcVoid_flt_eventLostRun (s : State) (k : Nat)  : (State.hkcVoid s k).flt.eventLostRun = s.flt.eventLostRun := by
  first | rfl | (simp (maxDischargeDepth := 12) [State.hkcVoid]; done) | (unfold State.hkcVoid; (try dsimp only); repeat' (first | rfl | (simp (maxDischargeDepth := 12); done) | (refine (foldl_keeps (fun z => z.flt.eventLostRun) _ _ _ (fun t f => ?_)).trans ?_) | (refine (foldl_keeps_fst (fun z => z.flt.eventLostRun) _ _ _ (fun t f => ?_)).trans ?_) | split))

@[simp] theorem State_concludeList_flt_eventLostRun (s : State) (l : List (Nat × Nat)) (pass : Nat → Bool)  : (State.concludeList s l pass).flt.eventLostRun = s.flt.eventLostRun := by
  first | rfl | (simp (maxDischargeDepth := 12) [State.concludeList]; done) | (unfold State.concludeList; (try dsimp only); repeat' (first | rfl | (simp (maxDischargeDepth := 12); done) | (refine (foldl_keeps (fun z => z.flt.eventLostRun) _ _ _ (fun t f => ?_)).trans ?_) | (refine (foldl_keeps_fst (fun z => z.flt.eventLostRun) _ _ _ (fun t f => ?_)).trans ?_) | split))

@[simp] theorem State_refCommit_flt_eventLostRun (s : State)  : (State.refCommit s).flt.eventLostRun = s.flt.eventLostRun := by
  first | rfl | (simp (maxDischargeDepth := 12) [State.refCommit]; done) | (unfold State.refCommit; (try dsimp only); repeat' (first | rfl | (simp (maxDischargeDepth := 12); done) | (refine (foldl_keeps (fun z => z.flt.eventLostRun) _ _ _ (fun t f => ?_)).trans ?_) | (refine (foldl_keeps_fst (fun z => z.flt.eventLostRun) _ _ _ (fun t f => ?_)).trans ?_) | split))

@[simp] theorem State_roundClose_flt_eventLostRun (s : State) (epoch : Nat)  : (State.roundClose s epoch).flt.eventLostRun = s.flt.eventLostRun := by
  first | rfl | (simp (maxDischargeDepth := 12) [State.roundClose]; done) | (unfold State.roundClose; (try dsimp only); repeat' (first | rfl | (simp (maxDischargeDepth := 12); done) | (refine (foldl_keeps (fun z => z.flt.eventLostRun) _ _ _ (fun t f => ?_)).trans ?_) | (refine (foldl_keeps_fst (fun z => z.flt.eventLostRun) _ _ _ (fun t f => ?_)).trans ?_) | split))

@[simp] theorem State_guardPoint_flt_eventLostRun (s : State) (d : Nat) (ch : Nat) (v : Int)  : (State.guardPoint s d ch v).flt.eventLostRun = s.flt.eventLostRun := by
  first | rfl | (simp (maxDischargeDepth := 12) [State.guardPoint]; done) | (unfold State.guardPoint; (try dsimp only); repeat' (first | rfl | (simp (maxDischargeDepth := 12); done) | (refine (foldl_keeps (fun z => z.flt.eventLostRun) _ _ _ (fun t f => ?_)).trans ?_) | (refine (foldl_keeps_fst (fun z => z.flt.eventLostRun) _ _ _ (fun t f => ?_)).trans ?_) | split))

@[simp] theorem State_restoreOp_flt_eventLostRun (s : State) (point : Nat)  : (State.restoreOp s point).flt.eventLostRun = s.flt.eventLostRun := by
  first | rfl | (simp (maxDischargeDepth := 12) [State.restoreOp]; done) | (unfold State.restoreOp; (try dsimp only); repeat' (first | rfl | (simp (maxDischargeDepth := 12); done) | (refine (foldl_keeps (fun z => z.flt.eventLostRun) _ _ _ (fun t f => ?_)).trans ?_) | (refine (foldl_keeps_fst (fun z => z.flt.eventLostRun) _ _ _ (fun t f => ?_)).trans ?_) | split))

@[simp] theorem State_restoreCommit_flt_eventLostRun (s : State)  : (State.restoreCommit s).flt.eventLostRun = s.flt.eventLostRun := by
  first | rfl | (simp (maxDischargeDepth := 12) [State.restoreCommit]; done) | (unfold State.restoreCommit; (try dsimp only); repeat' (first | rfl | (simp (maxDischargeDepth := 12); done) | (refine (foldl_keeps (fun z => z.flt.eventLostRun) _ _ _ (fun t f => ?_)).trans ?_) | (refine (foldl_keeps_fst (fun z => z.flt.eventLostRun) _ _ _ (fun t f => ?_)).trans ?_) | split))

@[simp] theorem State_lawReplaced_flt_eventLostRun (s : State) (o : StagedLaw)  : (State.lawReplaced s o).flt.eventLostRun = s.flt.eventLostRun := by
  first | rfl | (simp (maxDischargeDepth := 12) [State.lawReplaced]; done) | (unfold State.lawReplaced; (try dsimp only); repeat' (first | rfl | (simp (maxDischargeDepth := 12); done) | (refine (foldl_keeps (fun z => z.flt.eventLostRun) _ _ _ (fun t f => ?_)).trans ?_) | (refine (foldl_keeps_fst (fun z => z.flt.eventLostRun) _ _ _ (fun t f => ?_)).trans ?_) | split))

@[simp] theorem State_stageLaw_flt_eventLostRun (s : State) (d : Nat) (l : List Word) (path : LawPath)  : (State.stageLaw s d l path).flt.eventLostRun = s.flt.eventLostRun := by
  first | rfl | (simp (maxDischargeDepth := 12) [State.stageLaw]; done) | (unfold State.stageLaw; (try dsimp only); repeat' (first | rfl | (simp (maxDischargeDepth := 12); done) | (refine (foldl_keeps (fun z => z.flt.eventLostRun) _ _ _ (fun t f => ?_)).trans ?_) | (refine (foldl_keeps_fst (fun z => z.flt.eventLostRun) _ _ _ (fun t f => ?_)).trans ?_) | split))

@[simp] theorem State_lawActivate_flt_eventLostRun (s : State) (d : Nat)  : (State.lawActivate s d).flt.eventLostRun = s.flt.eventLostRun := by
  first | rfl | (simp (maxDischargeDepth := 12) [State.lawActivate]; done) | (unfold State.lawActivate; (try dsimp only); repeat' (first | rfl | (simp (maxDischargeDepth := 12); done) | (refine (foldl_keeps (fun z => z.flt.eventLostRun) _ _ _ (fun t f => ?_)).trans ?_) | (refine (foldl_keeps_fst (fun z => z.flt.eventLostRun) _ _ _ (fun t f => ?_)).trans ?_) | split))

@[simp] theorem State_domIsOff_flt_eventLostRun (s : State) (d : Nat)  : (State.domIsOff s d).flt.eventLostRun = s.flt.eventLostRun := by
  first | rfl | (simp (maxDischargeDepth := 12) [State.domIsOff]; done) | (unfold State.domIsOff; (try dsimp only); repeat' (first | rfl | (simp (maxDischargeDepth := 12); done) | (refine (foldl_keeps (fun z => z.flt.eventLostRun) _ _ _ (fun t f => ?_)).trans ?_) | (refine (foldl_keeps_fst (fun z => z.flt.eventLostRun) _ _ _ (fun t f => ?_)).trans ?_) | split))

@[simp] theorem State_slotStop_flt_eventLostRun (s : State) (d : Nat)  : (State.slotStop s d).flt.eventLostRun = s.flt.eventLostRun := by
  first | rfl | (simp (maxDischargeDepth := 12) [State.slotStop]; done) | (unfold State.slotStop; (try dsimp only); repeat' (first | rfl | (simp (maxDischargeDepth := 12); done) | (refine (foldl_keeps (fun z => z.flt.eventLostRun) _ _ _ (fun t f => ?_)).trans ?_) | (refine (foldl_keeps_fst (fun z => z.flt.eventLostRun) _ _ _ (fun t f => ?_)).trans ?_) | split))

@[simp] theorem State_queueShareTrim_flt_eventLostRun (s : State) (i : Nat)  : (State.queueShareTrim s i).flt.eventLostRun = s.flt.eventLostRun := by
  first | rfl | (simp (maxDischargeDepth := 12) [State.queueShareTrim]; done) | (unfold State.queueShareTrim; (try dsimp only); repeat' (first | rfl | (simp (maxDischargeDepth := 12); done) | (refine (foldl_keeps (fun z => z.flt.eventLostRun) _ _ _ (fun t f => ?_)).trans ?_) | (refine (foldl_keeps_fst (fun z => z.flt.eventLostRun) _ _ _ (fun t f => ?_)).trans ?_) | split))

@[simp] theorem State_shareOne_flt_eventLostRun (s : State) (i : Nat) (p : Nat) (waited : Nat) (trim : Bool)  : (State.shareOne s i p waited trim).flt.eventLostRun = s.flt.eventLostRun := by
  first | rfl | (simp (maxDischargeDepth := 12) [State.shareOne]; done) | (unfold State.shareOne; (try dsimp only); repeat' (first | rfl | (simp (maxDischargeDepth := 12); done) | (refine (foldl_keeps (fun z => z.flt.eventLostRun) _ _ _ (fun t f => ?_)).trans ?_) | (refine (foldl_keeps_fst (fun z => z.flt.eventLostRun) _ _ _ (fun t f => ?_)).trans ?_) | split))

@[simp] theorem State_shareNext_flt_eventLostRun (s : State) (k : Nat) (trim : Bool)  : (State.shareNext s k trim).flt.eventLostRun = s.flt.eventLostRun := by
  first | rfl | (simp (maxDischargeDepth := 12) [State.shareNext]; done) | (unfold State.shareNext; (try dsimp only); repeat' (first | rfl | (simp (maxDischargeDepth := 12); done) | (refine (foldl_keeps (fun z => z.flt.eventLostRun) _ _ _ (fun t f => ?_)).trans ?_) | (refine (foldl_keeps_fst (fun z => z.flt.eventLostRun) _ _ _ (fun t f => ?_)).trans ?_) | split))

@[simp] theorem State_laneAuditOwn_flt_eventLostRun (s : State) (k : Nat)  : (State.laneAuditOwn s k).flt.eventLostRun = s.flt.eventLostRun := by
  first | rfl | (simp (maxDischargeDepth := 12) [State.laneAuditOwn]; done) | (unfold State.laneAuditOwn; (try dsimp only); repeat' (first | rfl | (simp (maxDischargeDepth := 12); done) | (refine (foldl_keeps (fun z => z.flt.eventLostRun) _ _ _ (fun t f => ?_)).trans ?_) | (refine (foldl_keeps_fst (fun z => z.flt.eventLostRun) _ _ _ (fun t f => ?_)).trans ?_) | split))

@[simp] theorem State_lawGo_flt_eventLostRun (s : State) (op : Nat) (d : Nat)  : (State.lawGo s op d).flt.eventLostRun = s.flt.eventLostRun := by
  first | rfl | (simp (maxDischargeDepth := 12) [State.lawGo]; done) | (unfold State.lawGo; (try dsimp only); repeat' (first | rfl | (simp (maxDischargeDepth := 12); done) | (refine (foldl_keeps (fun z => z.flt.eventLostRun) _ _ _ (fun t f => ?_)).trans ?_) | (refine (foldl_keeps_fst (fun z => z.flt.eventLostRun) _ _ _ (fun t f => ?_)).trans ?_) | split))

@[simp] theorem State_lawStart_flt_eventLostRun (s : State) (op : Nat) (d : Nat)  : (State.lawStart s op d).flt.eventLostRun = s.flt.eventLostRun := by
  first | rfl | (simp (maxDischargeDepth := 12) [State.lawStart]; done) | (unfold State.lawStart; (try dsimp only); repeat' (first | rfl | (simp (maxDischargeDepth := 12); done) | (refine (foldl_keeps (fun z => z.flt.eventLostRun) _ _ _ (fun t f => ?_)).trans ?_) | (refine (foldl_keeps_fst (fun z => z.flt.eventLostRun) _ _ _ (fun t f => ?_)).trans ?_) | split))

@[simp] theorem State_lawEnd_flt_eventLostRun (s : State)  : (State.lawEnd s).flt.eventLostRun = s.flt.eventLostRun := by
  first | rfl | (simp (maxDischargeDepth := 12) [State.lawEnd]; done) | (unfold State.lawEnd; (try dsimp only); repeat' (first | rfl | (simp (maxDischargeDepth := 12); done) | (refine (foldl_keeps (fun z => z.flt.eventLostRun) _ _ _ (fun t f => ?_)).trans ?_) | (refine (foldl_keeps_fst (fun z => z.flt.eventLostRun) _ _ _ (fun t f => ?_)).trans ?_) | split))

@[simp] theorem State_unmetered_flt_eventLostRun (s : State) (n : Nat)  : (State.unmetered s n).flt.eventLostRun = s.flt.eventLostRun := by
  first | rfl | (simp (maxDischargeDepth := 12) [State.unmetered]; done) | (unfold State.unmetered; (try dsimp only); repeat' (first | rfl | (simp (maxDischargeDepth := 12); done) | (refine (foldl_keeps (fun z => z.flt.eventLostRun) _ _ _ (fun t f => ?_)).trans ?_) | (refine (foldl_keeps_fst (fun z => z.flt.eventLostRun) _ _ _ (fun t f => ?_)).trans ?_) | split))

@[simp] theorem State_kInRound_flt_eventLostRun (s : State)  : (State.kInRound s).flt.eventLostRun = s.flt.eventLostRun := by
  first | rfl | (simp (maxDischargeDepth := 12) [State.kInRound]; done) | (unfold State.kInRound; (try dsimp only); repeat' (first | rfl | (simp (maxDischargeDepth := 12); done) | (refine (foldl_keeps (fun z => z.flt.eventLostRun) _ _ _ (fun t f => ?_)).trans ?_) | (refine (foldl_keeps_fst (fun z => z.flt.eventLostRun) _ _ _ (fun t f => ?_)).trans ?_) | split))

@[simp] theorem State_takePackets_flt_eventLostRun (s : State) (n : Nat) (t : Nat)  : (State.takePackets s n t).flt.eventLostRun = s.flt.eventLostRun := by
  first | rfl | (simp (maxDischargeDepth := 12) [State.takePackets]; done) | (unfold State.takePackets; (try dsimp only); repeat' (first | rfl | (simp (maxDischargeDepth := 12); done) | (refine (foldl_keeps (fun z => z.flt.eventLostRun) _ _ _ (fun t f => ?_)).trans ?_) | (refine (foldl_keeps_fst (fun z => z.flt.eventLostRun) _ _ _ (fun t f => ?_)).trans ?_) | split))

@[simp] theorem State_hintCommit_flt_eventLostRun (s : State) (n : Nat) (t : Nat)  : (State.hintCommit s n t).flt.eventLostRun = s.flt.eventLostRun := by
  first | rfl | (simp (maxDischargeDepth := 12) [State.hintCommit]; done) | (unfold State.hintCommit; (try dsimp only); repeat' (first | rfl | (simp (maxDischargeDepth := 12); done) | (refine (foldl_keeps (fun z => z.flt.eventLostRun) _ _ _ (fun t f => ?_)).trans ?_) | (refine (foldl_keeps_fst (fun z => z.flt.eventLostRun) _ _ _ (fun t f => ?_)).trans ?_) | split))

@[simp] theorem State_queueArm_flt_eventLostRun (s : State) (d : Nat) (arm : Bool) (mask : Nat)  : (State.queueArm s d arm mask).flt.eventLostRun = s.flt.eventLostRun := by
  first | rfl | (simp (maxDischargeDepth := 12) [State.queueArm]; done) | (unfold State.queueArm; (try dsimp only); repeat' (first | rfl | (simp (maxDischargeDepth := 12); done) | (refine (foldl_keeps (fun z => z.flt.eventLostRun) _ _ _ (fun t f => ?_)).trans ?_) | (refine (foldl_keeps_fst (fun z => z.flt.eventLostRun) _ _ _ (fun t f => ?_)).trans ?_) | split))

@[simp] theorem State_armCommit_flt_eventLostRun (s : State) (d : Nat)  : (State.armCommit s d).flt.eventLostRun = s.flt.eventLostRun := by
  first | rfl | (simp (maxDischargeDepth := 12) [State.armCommit]; done) | (unfold State.armCommit; (try dsimp only); repeat' (first | rfl | (simp (maxDischargeDepth := 12); done) | (refine (foldl_keeps (fun z => z.flt.eventLostRun) _ _ _ (fun t f => ?_)).trans ?_) | (refine (foldl_keeps_fst (fun z => z.flt.eventLostRun) _ _ _ (fun t f => ?_)).trans ?_) | split))

@[simp] theorem State_boostCommit_flt_eventLostRun (s : State)  : (State.boostCommit s).flt.eventLostRun = s.flt.eventLostRun := by
  first | rfl | (simp (maxDischargeDepth := 12) [State.boostCommit]; done) | (unfold State.boostCommit; (try dsimp only); repeat' (first | rfl | (simp (maxDischargeDepth := 12); done) | (refine (foldl_keeps (fun z => z.flt.eventLostRun) _ _ _ (fun t f => ?_)).trans ?_) | (refine (foldl_keeps_fst (fun z => z.flt.eventLostRun) _ _ _ (fun t f => ?_)).trans ?_) | split))

@[simp] theorem State_cutoff1600_flt_eventLostRun (s : State)  : (State.cutoff1600 s).flt.eventLostRun = s.flt.eventLostRun := by
  first | rfl | (simp (maxDischargeDepth := 12) [State.cutoff1600]; done) | (unfold State.cutoff1600; (try dsimp only); repeat' (first | rfl | (simp (maxDischargeDepth := 12); done) | (refine (foldl_keeps (fun z => z.flt.eventLostRun) _ _ _ (fun t f => ?_)).trans ?_) | (refine (foldl_keeps_fst (fun z => z.flt.eventLostRun) _ _ _ (fun t f => ?_)).trans ?_) | split))

@[simp] theorem State_accountTile_flt_eventLostRun (s : State) (d : Nat)  : (State.accountTile s d).flt.eventLostRun = s.flt.eventLostRun := by
  first | rfl | (simp (maxDischargeDepth := 12) [State.accountTile]; done) | (unfold State.accountTile; (try dsimp only); repeat' (first | rfl | (simp (maxDischargeDepth := 12); done) | (refine (foldl_keeps (fun z => z.flt.eventLostRun) _ _ _ (fun t f => ?_)).trans ?_) | (refine (foldl_keeps_fst (fun z => z.flt.eventLostRun) _ _ _ (fun t f => ?_)).trans ?_) | split))

@[simp] theorem State_accountSupport_flt_eventLostRun (s : State) (d : Nat)  : (State.accountSupport s d).flt.eventLostRun = s.flt.eventLostRun := by
  first | rfl | (simp (maxDischargeDepth := 12) [State.accountSupport]; done) | (unfold State.accountSupport; (try dsimp only); repeat' (first | rfl | (simp (maxDischargeDepth := 12); done) | (refine (foldl_keeps (fun z => z.flt.eventLostRun) _ _ _ (fun t f => ?_)).trans ?_) | (refine (foldl_keeps_fst (fun z => z.flt.eventLostRun) _ _ _ (fun t f => ?_)).trans ?_) | split))

@[simp] theorem State_accountMeans_flt_eventLostRun (s : State) (d : Nat)  : (State.accountMeans s d).flt.eventLostRun = s.flt.eventLostRun := by
  first | rfl | (simp (maxDischargeDepth := 12) [State.accountMeans]; done) | (unfold State.accountMeans; (try dsimp only); repeat' (first | rfl | (simp (maxDischargeDepth := 12); done) | (refine (foldl_keeps (fun z => z.flt.eventLostRun) _ _ _ (fun t f => ?_)).trans ?_) | (refine (foldl_keeps_fst (fun z => z.flt.eventLostRun) _ _ _ (fun t f => ?_)).trans ?_) | split))

@[simp] theorem State_account_flt_eventLostRun (s : State)  : (State.account s).flt.eventLostRun = s.flt.eventLostRun := by
  first | rfl | (simp (maxDischargeDepth := 12) [State.account]; done) | (unfold State.account; (try dsimp only); repeat' (first | rfl | (simp (maxDischargeDepth := 12); done) | (refine (foldl_keeps (fun z => z.flt.eventLostRun) _ _ _ (fun t f => ?_)).trans ?_) | (refine (foldl_keeps_fst (fun z => z.flt.eventLostRun) _ _ _ (fun t f => ?_)).trans ?_) | split))

@[simp] theorem State_paceAged_flt_eventLostRun (s : State) (above : Nat) (below : Nat)  : (State.paceAged s above below).flt.eventLostRun = s.flt.eventLostRun := by
  first | rfl | (simp (maxDischargeDepth := 12) [State.paceAged]; done) | (unfold State.paceAged; (try dsimp only); repeat' (first | rfl | (simp (maxDischargeDepth := 12); done) | (refine (foldl_keeps (fun z => z.flt.eventLostRun) _ _ _ (fun t f => ?_)).trans ?_) | (refine (foldl_keeps_fst (fun z => z.flt.eventLostRun) _ _ _ (fun t f => ?_)).trans ?_) | split))

@[simp] theorem State_paceRelayAgain_flt_eventLostRun (s : State)  : (State.paceRelayAgain s).flt.eventLostRun = s.flt.eventLostRun := by
  first | rfl | (simp (maxDischargeDepth := 12) [State.paceRelayAgain]; done) | (unfold State.paceRelayAgain; (try dsimp only); repeat' (first | rfl | (simp (maxDischargeDepth := 12); done) | (refine (foldl_keeps (fun z => z.flt.eventLostRun) _ _ _ (fun t f => ?_)).trans ?_) | (refine (foldl_keeps_fst (fun z => z.flt.eventLostRun) _ _ _ (fun t f => ?_)).trans ?_) | split))

@[simp] theorem State_paceSay_flt_eventLostRun (s : State) (q : Nat) (seq : Nat)  : (State.paceSay s q seq).flt.eventLostRun = s.flt.eventLostRun := by
  first | rfl | (simp (maxDischargeDepth := 12) [State.paceSay]; done) | (unfold State.paceSay; (try dsimp only); repeat' (first | rfl | (simp (maxDischargeDepth := 12); done) | (refine (foldl_keeps (fun z => z.flt.eventLostRun) _ _ _ (fun t f => ?_)).trans ?_) | (refine (foldl_keeps_fst (fun z => z.flt.eventLostRun) _ _ _ (fun t f => ?_)).trans ?_) | split))

@[simp] theorem State_paceOwnQuota_flt_eventLostRun (s : State) (above : Nat) (below : Nat) (q : Nat) (resend : Bool)  : (State.paceOwnQuota s above below q resend).flt.eventLostRun = s.flt.eventLostRun := by
  first | rfl | (simp (maxDischargeDepth := 12) [State.paceOwnQuota]; done) | (unfold State.paceOwnQuota; (try dsimp only); repeat' (first | rfl | (simp (maxDischargeDepth := 12); done) | (refine (foldl_keeps (fun z => z.flt.eventLostRun) _ _ _ (fun t f => ?_)).trans ?_) | (refine (foldl_keeps_fst (fun z => z.flt.eventLostRun) _ _ _ (fun t f => ?_)).trans ?_) | split))

@[simp] theorem State_paceJob_flt_eventLostRun (s : State) (qJob : Nat)  : (State.paceJob s qJob).flt.eventLostRun = s.flt.eventLostRun := by
  first | rfl | (simp (maxDischargeDepth := 12) [State.paceJob]; done) | (unfold State.paceJob; (try dsimp only); repeat' (first | rfl | (simp (maxDischargeDepth := 12); done) | (refine (foldl_keeps (fun z => z.flt.eventLostRun) _ _ _ (fun t f => ?_)).trans ?_) | (refine (foldl_keeps_fst (fun z => z.flt.eventLostRun) _ _ _ (fun t f => ?_)).trans ?_) | split))

@[simp] theorem State_freezeOp_flt_eventLostRun (s : State)  : (State.freezeOp s).flt.eventLostRun = s.flt.eventLostRun := by
  first | rfl | (simp (maxDischargeDepth := 12) [State.freezeOp]; done) | (unfold State.freezeOp; (try dsimp only); repeat' (first | rfl | (simp (maxDischargeDepth := 12); done) | (refine (foldl_keeps (fun z => z.flt.eventLostRun) _ _ _ (fun t f => ?_)).trans ?_) | (refine (foldl_keeps_fst (fun z => z.flt.eventLostRun) _ _ _ (fun t f => ?_)).trans ?_) | split))

@[simp] theorem State_unfreezeOp_flt_eventLostRun (s : State)  : (State.unfreezeOp s).flt.eventLostRun = s.flt.eventLostRun := by
  first | rfl | (simp (maxDischargeDepth := 12) [State.unfreezeOp]; done) | (unfold State.unfreezeOp; (try dsimp only); repeat' (first | rfl | (simp (maxDischargeDepth := 12); done) | (refine (foldl_keeps (fun z => z.flt.eventLostRun) _ _ _ (fun t f => ?_)).trans ?_) | (refine (foldl_keeps_fst (fun z => z.flt.eventLostRun) _ _ _ (fun t f => ?_)).trans ?_) | split))

@[simp] theorem State_captureTile_flt_eventLostRun (s : State) (v : Word)  : (State.captureTile s v).flt.eventLostRun = s.flt.eventLostRun := by
  first | rfl | (simp (maxDischargeDepth := 12) [State.captureTile]; done) | (unfold State.captureTile; (try dsimp only); repeat' (first | rfl | (simp (maxDischargeDepth := 12); done) | (refine (foldl_keeps (fun z => z.flt.eventLostRun) _ _ _ (fun t f => ?_)).trans ?_) | (refine (foldl_keeps_fst (fun z => z.flt.eventLostRun) _ _ _ (fun t f => ?_)).trans ?_) | split))

@[simp] theorem State_recordTlm_flt_eventLostRun (s : State) (i : Nat) (p : Nat) (d : Nat) (l : Nat)  : (State.recordTlm s i p d l).flt.eventLostRun = s.flt.eventLostRun := by
  first | rfl | (simp (maxDischargeDepth := 12) [State.recordTlm]; done) | (unfold State.recordTlm; (try dsimp only); repeat' (first | rfl | (simp (maxDischargeDepth := 12); done) | (refine (foldl_keeps (fun z => z.flt.eventLostRun) _ _ _ (fun t f => ?_)).trans ?_) | (refine (foldl_keeps_fst (fun z => z.flt.eventLostRun) _ _ _ (fun t f => ?_)).trans ?_) | split))

@[simp] theorem State_calLatches_flt_eventLostRun (s : State) (e : Nat) (d : Nat)  : (State.calLatches s e d).flt.eventLostRun = s.flt.eventLostRun := by
  first | rfl | (simp (maxDischargeDepth := 12) [State.calLatches]; done) | (unfold State.calLatches; (try dsimp only); repeat' (first | rfl | (simp (maxDischargeDepth := 12); done) | (refine (foldl_keeps (fun z => z.flt.eventLostRun) _ _ _ (fun t f => ?_)).trans ?_) | (refine (foldl_keeps_fst (fun z => z.flt.eventLostRun) _ _ _ (fun t f => ?_)).trans ?_) | split))

@[simp] theorem State_wardenStop_flt_eventLostRun (s : State) (l : List Nat)  : (State.wardenStop s l).flt.eventLostRun = s.flt.eventLostRun := by
  first | rfl | (simp (maxDischargeDepth := 12) [State.wardenStop]; done) | (unfold State.wardenStop; (try dsimp only); repeat' (first | rfl | (simp (maxDischargeDepth := 12); done) | (refine (foldl_keeps (fun z => z.flt.eventLostRun) _ _ _ (fun t f => ?_)).trans ?_) | (refine (foldl_keeps_fst (fun z => z.flt.eventLostRun) _ _ _ (fun t f => ?_)).trans ?_) | split))

@[simp] theorem State_lowerBoot_flt_eventLostRun (s : State)  : (State.lowerBoot s).flt.eventLostRun = s.flt.eventLostRun := by
  first | rfl | (simp (maxDischargeDepth := 12) [State.lowerBoot]; done) | (unfold State.lowerBoot; (try dsimp only); repeat' (first | rfl | (simp (maxDischargeDepth := 12); done) | (refine (foldl_keeps (fun z => z.flt.eventLostRun) _ _ _ (fun t f => ?_)).trans ?_) | (refine (foldl_keeps_fst (fun z => z.flt.eventLostRun) _ _ _ (fun t f => ?_)).trans ?_) | split))

@[simp] theorem State_rejoinBegin_flt_eventLostRun (s : State) (d : Nat)  : (State.rejoinBegin s d).flt.eventLostRun = s.flt.eventLostRun := by
  first | rfl | (simp (maxDischargeDepth := 12) [State.rejoinBegin]; done) | (unfold State.rejoinBegin; (try dsimp only); repeat' (first | rfl | (simp (maxDischargeDepth := 12); done) | (refine (foldl_keeps (fun z => z.flt.eventLostRun) _ _ _ (fun t f => ?_)).trans ?_) | (refine (foldl_keeps_fst (fun z => z.flt.eventLostRun) _ _ _ (fun t f => ?_)).trans ?_) | split))

@[simp] theorem State_markStopped_flt_eventLostRun (s : State) (d : Nat)  : (State.markStopped s d).flt.eventLostRun = s.flt.eventLostRun := by
  first | rfl | (simp (maxDischargeDepth := 12) [State.markStopped]; done) | (unfold State.markStopped; (try dsimp only); repeat' (first | rfl | (simp (maxDischargeDepth := 12); done) | (refine (foldl_keeps (fun z => z.flt.eventLostRun) _ _ _ (fun t f => ?_)).trans ?_) | (refine (foldl_keeps_fst (fun z => z.flt.eventLostRun) _ _ _ (fun t f => ?_)).trans ?_) | split))

@[simp] theorem State_adoptDomain_flt_eventLostRun (s : State) (d : Nat)  : (State.adoptDomain s d).flt.eventLostRun = s.flt.eventLostRun := by
  first | rfl | (simp (maxDischargeDepth := 12) [State.adoptDomain]; done) | (unfold State.adoptDomain; (try dsimp only); repeat' (first | rfl | (simp (maxDischargeDepth := 12); done) | (refine (foldl_keeps (fun z => z.flt.eventLostRun) _ _ _ (fun t f => ?_)).trans ?_) | (refine (foldl_keeps_fst (fun z => z.flt.eventLostRun) _ _ _ (fun t f => ?_)).trans ?_) | split))

@[simp] theorem State_adoptFinish_flt_eventLostRun (s : State) (d : Nat)  : (State.adoptFinish s d).flt.eventLostRun = s.flt.eventLostRun := by
  first | rfl | (simp (maxDischargeDepth := 12) [State.adoptFinish]; done) | (unfold State.adoptFinish; (try dsimp only); repeat' (first | rfl | (simp (maxDischargeDepth := 12); done) | (refine (foldl_keeps (fun z => z.flt.eventLostRun) _ _ _ (fun t f => ?_)).trans ?_) | (refine (foldl_keeps_fst (fun z => z.flt.eventLostRun) _ _ _ (fun t f => ?_)).trans ?_) | split))

@[simp] theorem State_rejoinCommit_flt_eventLostRun (s : State) (d : Nat)  : (State.rejoinCommit s d).flt.eventLostRun = s.flt.eventLostRun := by
  first | rfl | (simp (maxDischargeDepth := 12) [State.rejoinCommit]; done) | (unfold State.rejoinCommit; (try dsimp only); repeat' (first | rfl | (simp (maxDischargeDepth := 12); done) | (refine (foldl_keeps (fun z => z.flt.eventLostRun) _ _ _ (fun t f => ?_)).trans ?_) | (refine (foldl_keeps_fst (fun z => z.flt.eventLostRun) _ _ _ (fun t f => ?_)).trans ?_) | split))

@[simp] theorem State_stoppedOff_flt_eventLostRun (s : State) (d : Nat)  : (State.stoppedOff s d).flt.eventLostRun = s.flt.eventLostRun := by
  first | rfl | (simp (maxDischargeDepth := 12) [State.stoppedOff]; done) | (unfold State.stoppedOff; (try dsimp only); repeat' (first | rfl | (simp (maxDischargeDepth := 12); done) | (refine (foldl_keeps (fun z => z.flt.eventLostRun) _ _ _ (fun t f => ?_)).trans ?_) | (refine (foldl_keeps_fst (fun z => z.flt.eventLostRun) _ _ _ (fun t f => ?_)).trans ?_) | split))

@[simp] theorem State_loanAfterReset_flt_eventLostRun (s : State)  : (State.loanAfterReset s).flt.eventLostRun = s.flt.eventLostRun := by
  first | rfl | (simp (maxDischargeDepth := 12) [State.loanAfterReset]; done) | (unfold State.loanAfterReset; (try dsimp only); repeat' (first | rfl | (simp (maxDischargeDepth := 12); done) | (refine (foldl_keeps (fun z => z.flt.eventLostRun) _ _ _ (fun t f => ?_)).trans ?_) | (refine (foldl_keeps_fst (fun z => z.flt.eventLostRun) _ _ _ (fun t f => ?_)).trans ?_) | split))

@[simp] theorem State_coversAfterReset_flt_eventLostRun (s : State)  : (State.coversAfterReset s).flt.eventLostRun = s.flt.eventLostRun := by
  first | rfl | (simp (maxDischargeDepth := 12) [State.coversAfterReset]; done) | (unfold State.coversAfterReset; (try dsimp only); repeat' (first | rfl | (simp (maxDischargeDepth := 12); done) | (refine (foldl_keeps (fun z => z.flt.eventLostRun) _ _ _ (fun t f => ?_)).trans ?_) | (refine (foldl_keeps_fst (fun z => z.flt.eventLostRun) _ _ _ (fun t f => ?_)).trans ?_) | split))

@[simp] theorem State_restartAudits_flt_eventLostRun (s : State)  : (State.restartAudits s).flt.eventLostRun = s.flt.eventLostRun := by
  first | rfl | (simp (maxDischargeDepth := 12) [State.restartAudits]; done) | (unfold State.restartAudits; (try dsimp only); repeat' (first | rfl | (simp (maxDischargeDepth := 12); done) | (refine (foldl_keeps (fun z => z.flt.eventLostRun) _ _ _ (fun t f => ?_)).trans ?_) | (refine (foldl_keeps_fst (fun z => z.flt.eventLostRun) _ _ _ (fun t f => ?_)).trans ?_) | split))

@[simp] theorem State_abandonSd14_flt_eventLostRun (s : State)  : (State.abandonSd14 s).flt.eventLostRun = s.flt.eventLostRun := by
  first | rfl | (simp (maxDischargeDepth := 12) [State.abandonSd14]; done) | (unfold State.abandonSd14; (try dsimp only); repeat' (first | rfl | (simp (maxDischargeDepth := 12); done) | (refine (foldl_keeps (fun z => z.flt.eventLostRun) _ _ _ (fun t f => ?_)).trans ?_) | (refine (foldl_keeps_fst (fun z => z.flt.eventLostRun) _ _ _ (fun t f => ?_)).trans ?_) | split))

@[simp] theorem State_abandonTo_flt_eventLostRun (s : State) (k : Nat)  : (State.abandonTo s k).flt.eventLostRun = s.flt.eventLostRun := by
  first | rfl | (simp (maxDischargeDepth := 12) [State.abandonTo]; done) | (unfold State.abandonTo; (try dsimp only); repeat' (first | rfl | (simp (maxDischargeDepth := 12); done) | (refine (foldl_keeps (fun z => z.flt.eventLostRun) _ _ _ (fun t f => ?_)).trans ?_) | (refine (foldl_keeps_fst (fun z => z.flt.eventLostRun) _ _ _ (fun t f => ?_)).trans ?_) | split))

@[simp] theorem State_abandonBegin_flt_eventLostRun (s : State)  : (State.abandonBegin s).flt.eventLostRun = s.flt.eventLostRun := by
  first | rfl | (simp (maxDischargeDepth := 12) [State.abandonBegin]; done) | (unfold State.abandonBegin; (try dsimp only); repeat' (first | rfl | (simp (maxDischargeDepth := 12); done) | (refine (foldl_keeps (fun z => z.flt.eventLostRun) _ _ _ (fun t f => ?_)).trans ?_) | (refine (foldl_keeps_fst (fun z => z.flt.eventLostRun) _ _ _ (fun t f => ?_)).trans ?_) | split))

@[simp] theorem State_abandonCommit_flt_eventLostRun (s : State)  : (State.abandonCommit s).flt.eventLostRun = s.flt.eventLostRun := by
  first | rfl | (simp (maxDischargeDepth := 12) [State.abandonCommit]; done) | (unfold State.abandonCommit; (try dsimp only); repeat' (first | rfl | (simp (maxDischargeDepth := 12); done) | (refine (foldl_keeps (fun z => z.flt.eventLostRun) _ _ _ (fun t f => ?_)).trans ?_) | (refine (foldl_keeps_fst (fun z => z.flt.eventLostRun) _ _ _ (fun t f => ?_)).trans ?_) | split))

@[simp] theorem State_stopLoan_flt_eventLostRun (s : State) (c : Nat)  : (State.stopLoan s c).flt.eventLostRun = s.flt.eventLostRun := by
  first | rfl | (simp (maxDischargeDepth := 12) [State.stopLoan]; done) | (unfold State.stopLoan; (try dsimp only); repeat' (first | rfl | (simp (maxDischargeDepth := 12); done) | (refine (foldl_keeps (fun z => z.flt.eventLostRun) _ _ _ (fun t f => ?_)).trans ?_) | (refine (foldl_keeps_fst (fun z => z.flt.eventLostRun) _ _ _ (fun t f => ?_)).trans ?_) | split))

@[simp] theorem State_stopDomain_flt_eventLostRun (s : State) (d : Nat)  : (State.stopDomain s d).flt.eventLostRun = s.flt.eventLostRun := by
  first | rfl | (simp (maxDischargeDepth := 12) [State.stopDomain]; done) | (unfold State.stopDomain; (try dsimp only); repeat' (first | rfl | (simp (maxDischargeDepth := 12); done) | (refine (foldl_keeps (fun z => z.flt.eventLostRun) _ _ _ (fun t f => ?_)).trans ?_) | (refine (foldl_keeps_fst (fun z => z.flt.eventLostRun) _ _ _ (fun t f => ?_)).trans ?_) | split))

@[simp] theorem State_stopStageBegin_flt_eventLostRun (s : State) (k : Nat)  : (State.stopStageBegin s k).flt.eventLostRun = s.flt.eventLostRun := by
  first | rfl | (simp (maxDischargeDepth := 12) [State.stopStageBegin]; done) | (unfold State.stopStageBegin; (try dsimp only); repeat' (first | rfl | (simp (maxDischargeDepth := 12); done) | (refine (foldl_keeps (fun z => z.flt.eventLostRun) _ _ _ (fun t f => ?_)).trans ?_) | (refine (foldl_keeps_fst (fun z => z.flt.eventLostRun) _ _ _ (fun t f => ?_)).trans ?_) | split))

@[simp] theorem State_stopAll_flt_eventLostRun (s : State)  : (State.stopAll s).flt.eventLostRun = s.flt.eventLostRun := by
  simp (maxDischargeDepth := 12) [State.stopAll]

@[simp] theorem State_vtWrite_flt_eventLostRun (s : State) (t : Tab Word) (chan : Option MboxChan) (clamped : Bool)  : (State.vtWrite s t chan clamped).flt.eventLostRun = s.flt.eventLostRun := by
  first | rfl | (simp (maxDischargeDepth := 12) [State.vtWrite]; done) | (unfold State.vtWrite; (try dsimp only); repeat' (first | rfl | (simp (maxDischargeDepth := 12); done) | (refine (foldl_keeps (fun z => z.flt.eventLostRun) _ _ _ (fun t f => ?_)).trans ?_) | (refine (foldl_keeps_fst (fun z => z.flt.eventLostRun) _ _ _ (fun t f => ?_)).trans ?_) | split))

@[simp] theorem State_updLink_flt_eventLostRun (s : State) (k : Nat) (f : AvsLink → AvsLink)  : (State.updLink s k f).flt.eventLostRun = s.flt.eventLostRun := by
  first | rfl | (simp (maxDischargeDepth := 12) [State.updLink]; done) | (unfold State.updLink; (try dsimp only); repeat' (first | rfl | (simp (maxDischargeDepth := 12); done) | (refine (foldl_keeps (fun z => z.flt.eventLostRun) _ _ _ (fun t f => ?_)).trans ?_) | (refine (foldl_keeps_fst (fun z => z.flt.eventLostRun) _ _ _ (fun t f => ?_)).trans ?_) | split))

@[simp] theorem State_avsSent_flt_eventLostRun (s : State) (k : Nat) (op : AvsOp)  : (State.avsSent s k op).flt.eventLostRun = s.flt.eventLostRun := by
  first | rfl | (simp (maxDischargeDepth := 12) [State.avsSent]; done) | (unfold State.avsSent; (try dsimp only); repeat' (first | rfl | (simp (maxDischargeDepth := 12); done) | (refine (foldl_keeps (fun z => z.flt.eventLostRun) _ _ _ (fun t f => ?_)).trans ?_) | (refine (foldl_keeps_fst (fun z => z.flt.eventLostRun) _ _ _ (fun t f => ?_)).trans ?_) | split))

@[simp] theorem State_avsIssue_flt_eventLostRun (s : State) (k : Nat) (op : AvsOp) (write : Bool)  : (State.avsIssue s k op write).flt.eventLostRun = s.flt.eventLostRun := by
  first | rfl | (simp (maxDischargeDepth := 12) [State.avsIssue]; done) | (unfold State.avsIssue; (try dsimp only); repeat' (first | rfl | (simp (maxDischargeDepth := 12); done) | (refine (foldl_keeps (fun z => z.flt.eventLostRun) _ _ _ (fun t f => ?_)).trans ?_) | (refine (foldl_keeps_fst (fun z => z.flt.eventLostRun) _ _ _ (fun t f => ?_)).trans ?_) | split))

@[simp] theorem State_avsResponse_flt_eventLostRun (s : State) (k : Nat) (op : AvsOp) (alert : Bool)  : (State.avsResponse s k op alert).flt.eventLostRun = s.flt.eventLostRun := by
  first | rfl | (simp (maxDischargeDepth := 12) [State.avsResponse]; done) | (unfold State.avsResponse; (try dsimp only); repeat' (first | rfl | (simp (maxDischargeDepth := 12); done) | (refine (foldl_keeps (fun z => z.flt.eventLostRun) _ _ _ (fun t f => ?_)).trans ?_) | (refine (foldl_keeps_fst (fun z => z.flt.eventLostRun) _ _ _ (fun t f => ?_)).trans ?_) | split))

@[simp] theorem State_stage_flt_eventLostRun (s : State) (key : StageKey) (v : Word) (by_ : Stager)  : (State.stage s key v by_).flt.eventLostRun = s.flt.eventLostRun := by
  first | rfl | (simp (maxDischargeDepth := 12) [State.stage]; done) | (unfold State.stage; (try dsimp only); repeat' (first | rfl | (simp (maxDischargeDepth := 12); done) | (refine (foldl_keeps (fun z => z.flt.eventLostRun) _ _ _ (fun t f => ?_)).trans ?_) | (refine (foldl_keeps_fst (fun z => z.flt.eventLostRun) _ _ _ (fun t f => ?_)).trans ?_) | split))

@[simp] theorem State_setLedgCtrl_flt_eventLostRun (s : State) (v : Word)  : (State.setLedgCtrl s v).flt.eventLostRun = s.flt.eventLostRun := by
  first | rfl | (simp (maxDischargeDepth := 12) [State.setLedgCtrl]; done) | (unfold State.setLedgCtrl; (try dsimp only); repeat' (first | rfl | (simp (maxDischargeDepth := 12); done) | (refine (foldl_keeps (fun z => z.flt.eventLostRun) _ _ _ (fun t f => ?_)).trans ?_) | (refine (foldl_keeps_fst (fun z => z.flt.eventLostRun) _ _ _ (fun t f => ?_)).trans ?_) | split))

@[simp] theorem State_setPaceCtrl_flt_eventLostRun (s : State) (v : Word)  : (State.setPaceCtrl s v).flt.eventLostRun = s.flt.eventLostRun := by
  first | rfl | (simp (maxDischargeDepth := 12) [State.setPaceCtrl]; done) | (unfold State.setPaceCtrl; (try dsimp only); repeat' (first | rfl | (simp (maxDischargeDepth := 12); done) | (refine (foldl_keeps (fun z => z.flt.eventLostRun) _ _ _ (fun t f => ?_)).trans ?_) | (refine (foldl_keeps_fst (fun z => z.flt.eventLostRun) _ _ _ (fun t f => ?_)).trans ?_) | split))

@[simp] theorem State_setSnsCtrl_flt_eventLostRun (s : State) (v : Word)  : (State.setSnsCtrl s v).flt.eventLostRun = s.flt.eventLostRun := by
  first | rfl | (simp (maxDischargeDepth := 12) [State.setSnsCtrl]; done) | (unfold State.setSnsCtrl; (try dsimp only); repeat' (first | rfl | (simp (maxDischargeDepth := 12); done) | (refine (foldl_keeps (fun z => z.flt.eventLostRun) _ _ _ (fun t f => ?_)).trans ?_) | (refine (foldl_keeps_fst (fun z => z.flt.eventLostRun) _ _ _ (fun t f => ?_)).trans ?_) | split))

@[simp] theorem State_setDscFb_flt_eventLostRun (s : State) (d : Nat) (v : Word)  : (State.setDscFb s d v).flt.eventLostRun = s.flt.eventLostRun := by
  first | rfl | (simp (maxDischargeDepth := 12) [State.setDscFb]; done) | (unfold State.setDscFb; (try dsimp only); repeat' (first | rfl | (simp (maxDischargeDepth := 12); done) | (refine (foldl_keeps (fun z => z.flt.eventLostRun) _ _ _ (fun t f => ?_)).trans ?_) | (refine (foldl_keeps_fst (fun z => z.flt.eventLostRun) _ _ _ (fun t f => ?_)).trans ?_) | split))

@[simp] theorem State_setDscAux_flt_eventLostRun (s : State) (d : Nat) (v : Word)  : (State.setDscAux s d v).flt.eventLostRun = s.flt.eventLostRun := by
  first | rfl | (simp (maxDischargeDepth := 12) [State.setDscAux]; done) | (unfold State.setDscAux; (try dsimp only); repeat' (first | rfl | (simp (maxDischargeDepth := 12); done) | (refine (foldl_keeps (fun z => z.flt.eventLostRun) _ _ _ (fun t f => ?_)).trans ?_) | (refine (foldl_keeps_fst (fun z => z.flt.eventLostRun) _ _ _ (fun t f => ?_)).trans ?_) | split))

@[simp] theorem State_setSpEn_flt_eventLostRun (s : State) (d : Nat) (i : Nat) (v : Word)  : (State.setSpEn s d i v).flt.eventLostRun = s.flt.eventLostRun := by
  first | rfl | (simp (maxDischargeDepth := 12) [State.setSpEn]; done) | (unfold State.setSpEn; (try dsimp only); repeat' (first | rfl | (simp (maxDischargeDepth := 12); done) | (refine (foldl_keeps (fun z => z.flt.eventLostRun) _ _ _ (fun t f => ?_)).trans ?_) | (refine (foldl_keeps_fst (fun z => z.flt.eventLostRun) _ _ _ (fun t f => ?_)).trans ?_) | split))

@[simp] theorem State_setCellDom_flt_eventLostRun (s : State) (d : Nat) (v : Word)  : (State.setCellDom s d v).flt.eventLostRun = s.flt.eventLostRun := by
  first | rfl | (simp (maxDischargeDepth := 12) [State.setCellDom]; done) | (unfold State.setCellDom; (try dsimp only); repeat' (first | rfl | (simp (maxDischargeDepth := 12); done) | (refine (foldl_keeps (fun z => z.flt.eventLostRun) _ _ _ (fun t f => ?_)).trans ?_) | (refine (foldl_keeps_fst (fun z => z.flt.eventLostRun) _ _ _ (fun t f => ?_)).trans ?_) | split))

@[simp] theorem State_setCellGlb_flt_eventLostRun (s : State) (v : Word)  : (State.setCellGlb s v).flt.eventLostRun = s.flt.eventLostRun := by
  first | rfl | (simp (maxDischargeDepth := 12) [State.setCellGlb]; done) | (unfold State.setCellGlb; (try dsimp only); repeat' (first | rfl | (simp (maxDischargeDepth := 12); done) | (refine (foldl_keeps (fun z => z.flt.eventLostRun) _ _ _ (fun t f => ?_)).trans ?_) | (refine (foldl_keeps_fst (fun z => z.flt.eventLostRun) _ _ _ (fun t f => ?_)).trans ?_) | split))

@[simp] theorem State_setLimCtrl_flt_eventLostRun (s : State) (v : Word)  : (State.setLimCtrl s v).flt.eventLostRun = s.flt.eventLostRun := by
  first | rfl | (simp (maxDischargeDepth := 12) [State.setLimCtrl]; done) | (unfold State.setLimCtrl; (try dsimp only); repeat' (first | rfl | (simp (maxDischargeDepth := 12); done) | (refine (foldl_keeps (fun z => z.flt.eventLostRun) _ _ _ (fun t f => ?_)).trans ?_) | (refine (foldl_keeps_fst (fun z => z.flt.eventLostRun) _ _ _ (fun t f => ?_)).trans ?_) | split))

@[simp] theorem State_applyVset_flt_eventLostRun (s : State) (d : Nat) (v : Word) (by_ : Stager)  : (State.applyVset s d v by_).flt.eventLostRun = s.flt.eventLostRun := by
  first | rfl | (simp (maxDischargeDepth := 12) [State.applyVset]; done) | (unfold State.applyVset; (try dsimp only); repeat' (first | rfl | (simp (maxDischargeDepth := 12); done) | (refine (foldl_keeps (fun z => z.flt.eventLostRun) _ _ _ (fun t f => ?_)).trans ?_) | (refine (foldl_keeps_fst (fun z => z.flt.eventLostRun) _ _ _ (fun t f => ?_)).trans ?_) | split))

@[simp] theorem State_commitVset_flt_eventLostRun (s : State) (held : Bool) (e : Staged)  : (State.commitVset s held e).flt.eventLostRun = s.flt.eventLostRun := by
  first | rfl | (simp (maxDischargeDepth := 12) [State.commitVset]; done) | (unfold State.commitVset; (try dsimp only); repeat' (first | rfl | (simp (maxDischargeDepth := 12); done) | (refine (foldl_keeps (fun z => z.flt.eventLostRun) _ _ _ (fun t f => ?_)).trans ?_) | (refine (foldl_keeps_fst (fun z => z.flt.eventLostRun) _ _ _ (fun t f => ?_)).trans ?_) | split))

@[simp] theorem State_hostWrite_flt_eventLostRun (s : State) (addr : Nat) (l : List Word)  : (State.hostWrite s addr l).flt.eventLostRun = s.flt.eventLostRun := by
  first | rfl | (simp (maxDischargeDepth := 12) [State.hostWrite]; done) | (unfold State.hostWrite; (try dsimp only); repeat' (first | rfl | (simp (maxDischargeDepth := 12); done) | (refine (foldl_keeps (fun z => z.flt.eventLostRun) _ _ _ (fun t f => ?_)).trans ?_) | (refine (foldl_keeps_fst (fun z => z.flt.eventLostRun) _ _ _ (fun t f => ?_)).trans ?_) | split))

@[simp] theorem State_tlmAccount_flt_eventLostRun (s : State)  : (State.tlmAccount s).flt.eventLostRun = s.flt.eventLostRun := by
  first | rfl | (simp (maxDischargeDepth := 12) [State.tlmAccount]; done) | (unfold State.tlmAccount; (try dsimp only); repeat' (first | rfl | (simp (maxDischargeDepth := 12); done) | (refine (foldl_keeps (fun z => z.flt.eventLostRun) _ _ _ (fun t f => ?_)).trans ?_) | (refine (foldl_keeps_fst (fun z => z.flt.eventLostRun) _ _ _ (fun t f => ?_)).trans ?_) | split))

@[simp] theorem State_tlmMeter_flt_eventLostRun (s : State) (metered : Bool)  : (State.tlmMeter s metered).flt.eventLostRun = s.flt.eventLostRun := by
  first | rfl | (simp (maxDischargeDepth := 12) [State.tlmMeter]; done) | (unfold State.tlmMeter; (try dsimp only); repeat' (first | rfl | (simp (maxDischargeDepth := 12); done) | (refine (foldl_keeps (fun z => z.flt.eventLostRun) _ _ _ (fun t f => ?_)).trans ?_) | (refine (foldl_keeps_fst (fun z => z.flt.eventLostRun) _ _ _ (fun t f => ?_)).trans ?_) | split))

@[simp] theorem State_tlmClose_flt_eventLostRun (s : State)  : (State.tlmClose s).flt.eventLostRun = s.flt.eventLostRun := by
  first | rfl | (simp (maxDischargeDepth := 12) [State.tlmClose]; done) | (unfold State.tlmClose; (try dsimp only); repeat' (first | rfl | (simp (maxDischargeDepth := 12); done) | (refine (foldl_keeps (fun z => z.flt.eventLostRun) _ _ _ (fun t f => ?_)).trans ?_) | (refine (foldl_keeps_fst (fun z => z.flt.eventLostRun) _ _ _ (fun t f => ?_)).trans ?_) | split))

@[simp] theorem State_tlmRecord_flt_eventLostRun (s : State) (epoch : Nat)  : (State.tlmRecord s epoch).flt.eventLostRun = s.flt.eventLostRun := by
  first | rfl | (simp (maxDischargeDepth := 12) [State.tlmRecord]; done) | (unfold State.tlmRecord; (try dsimp only); repeat' (first | rfl | (simp (maxDischargeDepth := 12); done) | (refine (foldl_keeps (fun z => z.flt.eventLostRun) _ _ _ (fun t f => ?_)).trans ?_) | (refine (foldl_keeps_fst (fun z => z.flt.eventLostRun) _ _ _ (fun t f => ?_)).trans ?_) | split))

@[simp] theorem State_tlmMissed_flt_eventLostRun (s : State)  : (State.tlmMissed s).flt.eventLostRun = s.flt.eventLostRun := by
  first | rfl | (simp (maxDischargeDepth := 12) [State.tlmMissed]; done) | (unfold State.tlmMissed; (try dsimp only); repeat' (first | rfl | (simp (maxDischargeDepth := 12); done) | (refine (foldl_keeps (fun z => z.flt.eventLostRun) _ _ _ (fun t f => ?_)).trans ?_) | (refine (foldl_keeps_fst (fun z => z.flt.eventLostRun) _ _ _ (fun t f => ?_)).trans ?_) | split))

@[simp] theorem State_openEpoch_flt_eventLostRun (s : State)  : (State.openEpoch s).flt.eventLostRun = s.flt.eventLostRun := by
  first | rfl | (simp (maxDischargeDepth := 12) [State.openEpoch]; done) | (unfold State.openEpoch; (try dsimp only); repeat' (first | rfl | (simp (maxDischargeDepth := 12); done) | (refine (foldl_keeps (fun z => z.flt.eventLostRun) _ _ _ (fun t f => ?_)).trans ?_) | (refine (foldl_keeps_fst (fun z => z.flt.eventLostRun) _ _ _ (fun t f => ?_)).trans ?_) | split))

@[simp] theorem State_hintEffects_flt_eventLostRun (s : State)  : (State.hintEffects s).flt.eventLostRun = s.flt.eventLostRun := by
  first | rfl | (simp (maxDischargeDepth := 12) [State.hintEffects]; done) | (unfold State.hintEffects; (try dsimp only); repeat' (first | rfl | (simp (maxDischargeDepth := 12); done) | (refine (foldl_keeps (fun z => z.flt.eventLostRun) _ _ _ (fun t f => ?_)).trans ?_) | (refine (foldl_keeps_fst (fun z => z.flt.eventLostRun) _ _ _ (fun t f => ?_)).trans ?_) | split))

@[simp] theorem State_degradedRecall_flt_eventLostRun (s : State) (c : Nat)  : (State.degradedRecall s c).flt.eventLostRun = s.flt.eventLostRun := by
  first | rfl | (simp (maxDischargeDepth := 12) [State.degradedRecall]; done) | (unfold State.degradedRecall; (try dsimp only); repeat' (first | rfl | (simp (maxDischargeDepth := 12); done) | (refine (foldl_keeps (fun z => z.flt.eventLostRun) _ _ _ (fun t f => ?_)).trans ?_) | (refine (foldl_keeps_fst (fun z => z.flt.eventLostRun) _ _ _ (fun t f => ?_)).trans ?_) | split))

@[simp] theorem State_auditTurn_flt_eventLostRun (t : State) (cell : Nat)  : (State.auditTurn t cell).flt.eventLostRun = t.flt.eventLostRun := by
  first | rfl | (simp (maxDischargeDepth := 12) [State.auditTurn]; done) | (unfold State.auditTurn; (try dsimp only); repeat' (first | rfl | (simp (maxDischargeDepth := 12); done) | (refine (foldl_keeps (fun z => z.flt.eventLostRun) _ _ _ (fun t f => ?_)).trans ?_) | (refine (foldl_keeps_fst (fun z => z.flt.eventLostRun) _ _ _ (fun t f => ?_)).trans ?_) | split))

@[simp] theorem State_tallyCaptures_flt_eventLostRun (s : State) (n : Nat)  : (State.tallyCaptures s n).flt.eventLostRun = s.flt.eventLostRun := by
  first | rfl | (simp (maxDischargeDepth := 12) [State.tallyCaptures]; done) | (unfold State.tallyCaptures; (try dsimp only); repeat' (first | rfl | (simp (maxDischargeDepth := 12); done) | (refine (foldl_keeps (fun z => z.flt.eventLostRun) _ _ _ (fun t f => ?_)).trans ?_) | (refine (foldl_keeps_fst (fun z => z.flt.eventLostRun) _ _ _ (fun t f => ?_)).trans ?_) | split))

@[simp] theorem State_finishCommit_flt_eventLostRun (s : State) (laws : List (Nat × CmdCtx × Nat))  : (State.finishCommit s laws).flt.eventLostRun = s.flt.eventLostRun := by
  first | rfl | (simp (maxDischargeDepth := 12) [State.finishCommit]; done) | (unfold State.finishCommit; (try dsimp only); repeat' (first | rfl | (simp (maxDischargeDepth := 12); done) | (refine (foldl_keeps (fun z => z.flt.eventLostRun) _ _ _ (fun t f => ?_)).trans ?_) | (refine (foldl_keeps_fst (fun z => z.flt.eventLostRun) _ _ _ (fun t f => ?_)).trans ?_) | split))

@[simp] theorem State_publish_flt_eventLostRun (s : State)  : (State.publish s).flt.eventLostRun = s.flt.eventLostRun := by
  first | rfl | (simp (maxDischargeDepth := 12) [State.publish]; done) | (unfold State.publish; (try dsimp only); repeat' (first | rfl | (simp (maxDischargeDepth := 12); done) | (refine (foldl_keeps (fun z => z.flt.eventLostRun) _ _ _ (fun t f => ?_)).trans ?_) | (refine (foldl_keeps_fst (fun z => z.flt.eventLostRun) _ _ _ (fun t f => ?_)).trans ?_) | split))

@[simp] theorem State_sealAtFall_flt_eventLostRun (s : State)  : (State.sealAtFall s).flt.eventLostRun = s.flt.eventLostRun := by
  first | rfl | (simp (maxDischargeDepth := 12) [State.sealAtFall]; done) | (unfold State.sealAtFall; (try dsimp only); repeat' (first | rfl | (simp (maxDischargeDepth := 12); done) | (refine (foldl_keeps (fun z => z.flt.eventLostRun) _ _ _ (fun t f => ?_)).trans ?_) | (refine (foldl_keeps_fst (fun z => z.flt.eventLostRun) _ _ _ (fun t f => ?_)).trans ?_) | split))

@[simp] theorem State_backToWait_flt_eventLostRun (s : State)  : (State.backToWait s).flt.eventLostRun = s.flt.eventLostRun := by
  first | rfl | (simp (maxDischargeDepth := 12) [State.backToWait]; done) | (unfold State.backToWait; (try dsimp only); repeat' (first | rfl | (simp (maxDischargeDepth := 12); done) | (refine (foldl_keeps (fun z => z.flt.eventLostRun) _ _ _ (fun t f => ?_)).trans ?_) | (refine (foldl_keeps_fst (fun z => z.flt.eventLostRun) _ _ _ (fun t f => ?_)).trans ?_) | split))

@[simp] theorem State_beginStep4_flt_eventLostRun (s : State)  : (State.beginStep4 s).flt.eventLostRun = s.flt.eventLostRun := by
  first | rfl | (simp (maxDischargeDepth := 12) [State.beginStep4]; done) | (unfold State.beginStep4; (try dsimp only); repeat' (first | rfl | (simp (maxDischargeDepth := 12); done) | (refine (foldl_keeps (fun z => z.flt.eventLostRun) _ _ _ (fun t f => ?_)).trans ?_) | (refine (foldl_keeps_fst (fun z => z.flt.eventLostRun) _ _ _ (fun t f => ?_)).trans ?_) | split))

@[simp] theorem State_tryStep4_flt_eventLostRun (s : State)  : (State.tryStep4 s).flt.eventLostRun = s.flt.eventLostRun := by
  first | rfl | (simp (maxDischargeDepth := 12) [State.tryStep4]; done) | (unfold State.tryStep4; (try dsimp only); repeat' (first | rfl | (simp (maxDischargeDepth := 12); done) | (refine (foldl_keeps (fun z => z.flt.eventLostRun) _ _ _ (fun t f => ?_)).trans ?_) | (refine (foldl_keeps_fst (fun z => z.flt.eventLostRun) _ _ _ (fun t f => ?_)).trans ?_) | split))

@[simp] theorem State_enumerate_flt_eventLostRun (s : State)  : (State.enumerate s).flt.eventLostRun = s.flt.eventLostRun := by
  first | rfl | (simp (maxDischargeDepth := 12) [State.enumerate]; done) | (unfold State.enumerate; (try dsimp only); repeat' (first | rfl | (simp (maxDischargeDepth := 12); done) | (refine (foldl_keeps (fun z => z.flt.eventLostRun) _ _ _ (fun t f => ?_)).trans ?_) | (refine (foldl_keeps_fst (fun z => z.flt.eventLostRun) _ _ _ (fun t f => ?_)).trans ?_) | split))

@[simp] theorem State_loadLaws_flt_eventLostRun (s : State)  : (State.loadLaws s).flt.eventLostRun = s.flt.eventLostRun := by
  first | rfl | (simp (maxDischargeDepth := 12) [State.loadLaws]; done) | (unfold State.loadLaws; (try dsimp only); repeat' (first | rfl | (simp (maxDischargeDepth := 12); done) | (refine (foldl_keeps (fun z => z.flt.eventLostRun) _ _ _ (fun t f => ?_)).trans ?_) | (refine (foldl_keeps_fst (fun z => z.flt.eventLostRun) _ _ _ (fun t f => ?_)).trans ?_) | split))

@[simp] theorem State_sd13Start_flt_eventLostRun (s : State)  : (State.sd13Start s).flt.eventLostRun = s.flt.eventLostRun := by
  first | rfl | (simp (maxDischargeDepth := 12) [State.sd13Start]; done) | (unfold State.sd13Start; (try dsimp only); repeat' (first | rfl | (simp (maxDischargeDepth := 12); done) | (refine (foldl_keeps (fun z => z.flt.eventLostRun) _ _ _ (fun t f => ?_)).trans ?_) | (refine (foldl_keeps_fst (fun z => z.flt.eventLostRun) _ _ _ (fun t f => ?_)).trans ?_) | split))

@[simp] theorem State_recheckShed_flt_eventLostRun (s : State)  : (State.recheckShed s).flt.eventLostRun = s.flt.eventLostRun := by
  first | rfl | (simp (maxDischargeDepth := 12) [State.recheckShed]; done) | (unfold State.recheckShed; (try dsimp only); repeat' (first | rfl | (simp (maxDischargeDepth := 12); done) | (refine (foldl_keeps (fun z => z.flt.eventLostRun) _ _ _ (fun t f => ?_)).trans ?_) | (refine (foldl_keeps_fst (fun z => z.flt.eventLostRun) _ _ _ (fun t f => ?_)).trans ?_) | split))

@[simp] theorem State_rebuildChain_flt_eventLostRun (s : State) (c : Nat)  : (State.rebuildChain s c).flt.eventLostRun = s.flt.eventLostRun := by
  first | rfl | (simp (maxDischargeDepth := 12) [State.rebuildChain]; done) | (unfold State.rebuildChain; (try dsimp only); repeat' (first | rfl | (simp (maxDischargeDepth := 12); done) | (refine (foldl_keeps (fun z => z.flt.eventLostRun) _ _ _ (fun t f => ?_)).trans ?_) | (refine (foldl_keeps_fst (fun z => z.flt.eventLostRun) _ _ _ (fun t f => ?_)).trans ?_) | split))

@[simp] theorem State_readCell_flt_eventLostRun (s : State) (i : Nat)  : (State.readCell s i).flt.eventLostRun = s.flt.eventLostRun := by
  first | rfl | (simp (maxDischargeDepth := 12) [State.readCell]; done) | (unfold State.readCell; (try dsimp only); repeat' (first | rfl | (simp (maxDischargeDepth := 12); done) | (refine (foldl_keeps (fun z => z.flt.eventLostRun) _ _ _ (fun t f => ?_)).trans ?_) | (refine (foldl_keeps_fst (fun z => z.flt.eventLostRun) _ _ _ (fun t f => ?_)).trans ?_) | split))

@[simp] theorem State_auditBitmaps_flt_eventLostRun (s : State)  : (State.auditBitmaps s).flt.eventLostRun = s.flt.eventLostRun := by
  first | rfl | (simp (maxDischargeDepth := 12) [State.auditBitmaps]; done) | (unfold State.auditBitmaps; (try dsimp only); repeat' (first | rfl | (simp (maxDischargeDepth := 12); done) | (refine (foldl_keeps (fun z => z.flt.eventLostRun) _ _ _ (fun t f => ?_)).trans ?_) | (refine (foldl_keeps_fst (fun z => z.flt.eventLostRun) _ _ _ (fun t f => ?_)).trans ?_) | split))

@[simp] theorem State_romFailed_flt_eventLostRun (s : State)  : (State.romFailed s).flt.eventLostRun = s.flt.eventLostRun := by
  first | rfl | (simp (maxDischargeDepth := 12) [State.romFailed]; done) | (unfold State.romFailed; (try dsimp only); repeat' (first | rfl | (simp (maxDischargeDepth := 12); done) | (refine (foldl_keeps (fun z => z.flt.eventLostRun) _ _ _ (fun t f => ?_)).trans ?_) | (refine (foldl_keeps_fst (fun z => z.flt.eventLostRun) _ _ _ (fun t f => ?_)).trans ?_) | split))

@[simp] theorem State_loadBlock_flt_eventLostRun (s : State) (k : Nat)  : (State.loadBlock s k).flt.eventLostRun = s.flt.eventLostRun := by
  first | rfl | (simp (maxDischargeDepth := 12) [State.loadBlock]; done) | (unfold State.loadBlock; (try dsimp only); repeat' (first | rfl | (simp (maxDischargeDepth := 12); done) | (refine (foldl_keeps (fun z => z.flt.eventLostRun) _ _ _ (fun t f => ?_)).trans ?_) | (refine (foldl_keeps_fst (fun z => z.flt.eventLostRun) _ _ _ (fun t f => ?_)).trans ?_) | split))

@[simp] theorem State_sealLost_flt_eventLostRun (s : State) (slot : Nat)  : (State.sealLost s slot).flt.eventLostRun = s.flt.eventLostRun := by
  first | rfl | (simp (maxDischargeDepth := 12) [State.sealLost]; done) | (unfold State.sealLost; (try dsimp only); repeat' (first | rfl | (simp (maxDischargeDepth := 12); done) | (refine (foldl_keeps (fun z => z.flt.eventLostRun) _ _ _ (fun t f => ?_)).trans ?_) | (refine (foldl_keeps_fst (fun z => z.flt.eventLostRun) _ _ _ (fun t f => ?_)).trans ?_) | split))

@[simp] theorem State_loadStop_flt_eventLostRun (s : State)  : (State.loadStop s).flt.eventLostRun = s.flt.eventLostRun := by
  first | rfl | (simp (maxDischargeDepth := 12) [State.loadStop]; done) | (unfold State.loadStop; (try dsimp only); repeat' (first | rfl | (simp (maxDischargeDepth := 12); done) | (refine (foldl_keeps (fun z => z.flt.eventLostRun) _ _ _ (fun t f => ?_)).trans ?_) | (refine (foldl_keeps_fst (fun z => z.flt.eventLostRun) _ _ _ (fun t f => ?_)).trans ?_) | split))

@[simp] theorem State_updMbox_flt_eventLostRun (s : State) (ch : MboxChan) (f : Mbox → Mbox)  : (State.updMbox s ch f).flt.eventLostRun = s.flt.eventLostRun := by
  first | rfl | (simp (maxDischargeDepth := 12) [State.updMbox]; done) | (unfold State.updMbox; (try dsimp only); repeat' (first | rfl | (simp (maxDischargeDepth := 12); done) | (refine (foldl_keeps (fun z => z.flt.eventLostRun) _ _ _ (fun t f => ?_)).trans ?_) | (refine (foldl_keeps_fst (fun z => z.flt.eventLostRun) _ _ _ (fun t f => ?_)).trans ?_) | split))

@[simp] theorem State_mboxEnd_flt_eventLostRun (s : State) (ch : MboxChan) (status : Nat)  : (State.mboxEnd s ch status).flt.eventLostRun = s.flt.eventLostRun := by
  first | rfl | (simp (maxDischargeDepth := 12) [State.mboxEnd]; done) | (unfold State.mboxEnd; (try dsimp only); repeat' (first | rfl | (simp (maxDischargeDepth := 12); done) | (refine (foldl_keeps (fun z => z.flt.eventLostRun) _ _ _ (fun t f => ?_)).trans ?_) | (refine (foldl_keeps_fst (fun z => z.flt.eventLostRun) _ _ _ (fun t f => ?_)).trans ?_) | split))

@[simp] theorem State_mboxResults_flt_eventLostRun (s : State) (ch : MboxChan) (res : List Word)  : (State.mboxResults s ch res).flt.eventLostRun = s.flt.eventLostRun := by
  first | rfl | (simp (maxDischargeDepth := 12) [State.mboxResults]; done) | (unfold State.mboxResults; (try dsimp only); repeat' (first | rfl | (simp (maxDischargeDepth := 12); done) | (refine (foldl_keeps (fun z => z.flt.eventLostRun) _ _ _ (fun t f => ?_)).trans ?_) | (refine (foldl_keeps_fst (fun z => z.flt.eventLostRun) _ _ _ (fun t f => ?_)).trans ?_) | split))

@[simp] theorem State_mbGetInfo_flt_eventLostRun (s : State) (ch : MboxChan)  : (State.mbGetInfo s ch).flt.eventLostRun = s.flt.eventLostRun := by
  first | rfl | (simp (maxDischargeDepth := 12) [State.mbGetInfo]; done) | (unfold State.mbGetInfo; (try dsimp only); repeat' (first | rfl | (simp (maxDischargeDepth := 12); done) | (refine (foldl_keeps (fun z => z.flt.eventLostRun) _ _ _ (fun t f => ?_)).trans ?_) | (refine (foldl_keeps_fst (fun z => z.flt.eventLostRun) _ _ _ (fun t f => ?_)).trans ?_) | split))

@[simp] theorem State_mbPatchBegin_flt_eventLostRun (s : State) (ch : MboxChan) (len : Nat)  : (State.mbPatchBegin s ch len).flt.eventLostRun = s.flt.eventLostRun := by
  first | rfl | (simp (maxDischargeDepth := 12) [State.mbPatchBegin]; done) | (unfold State.mbPatchBegin; (try dsimp only); repeat' (first | rfl | (simp (maxDischargeDepth := 12); done) | (refine (foldl_keeps (fun z => z.flt.eventLostRun) _ _ _ (fun t f => ?_)).trans ?_) | (refine (foldl_keeps_fst (fun z => z.flt.eventLostRun) _ _ _ (fun t f => ?_)).trans ?_) | split))

@[simp] theorem State_mbPatchData_flt_eventLostRun (s : State) (ch : MboxChan) (off : Nat) (data : List Word)  : (State.mbPatchData s ch off data).flt.eventLostRun = s.flt.eventLostRun := by
  first | rfl | (simp (maxDischargeDepth := 12) [State.mbPatchData]; done) | (unfold State.mbPatchData; (try dsimp only); repeat' (first | rfl | (simp (maxDischargeDepth := 12); done) | (refine (foldl_keeps (fun z => z.flt.eventLostRun) _ _ _ (fun t f => ?_)).trans ?_) | (refine (foldl_keeps_fst (fun z => z.flt.eventLostRun) _ _ _ (fun t f => ?_)).trans ?_) | split))

@[simp] theorem State_mbPatchCommit_flt_eventLostRun (s : State) (ch : MboxChan) (sigOk : Bool)  : (State.mbPatchCommit s ch sigOk).flt.eventLostRun = s.flt.eventLostRun := by
  first | rfl | (simp (maxDischargeDepth := 12) [State.mbPatchCommit]; done) | (unfold State.mbPatchCommit; (try dsimp only); repeat' (first | rfl | (simp (maxDischargeDepth := 12); done) | (refine (foldl_keeps (fun z => z.flt.eventLostRun) _ _ _ (fun t f => ?_)).trans ?_) | (refine (foldl_keeps_fst (fun z => z.flt.eventLostRun) _ _ _ (fun t f => ?_)).trans ?_) | split))

@[simp] theorem State_mbVtRead_flt_eventLostRun (s : State) (ch : MboxChan) (which : Nat) (first : Nat)  : (State.mbVtRead s ch which first).flt.eventLostRun = s.flt.eventLostRun := by
  first | rfl | (simp (maxDischargeDepth := 12) [State.mbVtRead]; done) | (unfold State.mbVtRead; (try dsimp only); repeat' (first | rfl | (simp (maxDischargeDepth := 12); done) | (refine (foldl_keeps (fun z => z.flt.eventLostRun) _ _ _ (fun t f => ?_)).trans ?_) | (refine (foldl_keeps_fst (fun z => z.flt.eventLostRun) _ _ _ (fun t f => ?_)).trans ?_) | split))

@[simp] theorem State_vtStageEntry_flt_eventLostRun (s : State) (i : Nat) (e : Word)  : (State.vtStageEntry s i e).flt.eventLostRun = s.flt.eventLostRun := by
  first | rfl | (simp (maxDischargeDepth := 12) [State.vtStageEntry]; done) | (unfold State.vtStageEntry; (try dsimp only); repeat' (first | rfl | (simp (maxDischargeDepth := 12); done) | (refine (foldl_keeps (fun z => z.flt.eventLostRun) _ _ _ (fun t f => ?_)).trans ?_) | (refine (foldl_keeps_fst (fun z => z.flt.eventLostRun) _ _ _ (fun t f => ?_)).trans ?_) | split))

@[simp] theorem State_mbVtStage_flt_eventLostRun (s : State) (ch : MboxChan) (i : Nat) (e : Word)  : (State.mbVtStage s ch i e).flt.eventLostRun = s.flt.eventLostRun := by
  first | rfl | (simp (maxDischargeDepth := 12) [State.mbVtStage]; done) | (unfold State.mbVtStage; (try dsimp only); repeat' (first | rfl | (simp (maxDischargeDepth := 12); done) | (refine (foldl_keeps (fun z => z.flt.eventLostRun) _ _ _ (fun t f => ?_)).trans ?_) | (refine (foldl_keeps_fst (fun z => z.flt.eventLostRun) _ _ _ (fun t f => ?_)).trans ?_) | split))

@[simp] theorem State_vtApplyBegin_flt_eventLostRun (s : State) (chan : Option MboxChan)  : (State.vtApplyBegin s chan).flt.eventLostRun = s.flt.eventLostRun := by
  first | rfl | (simp (maxDischargeDepth := 12) [State.vtApplyBegin]; done) | (unfold State.vtApplyBegin; (try dsimp only); repeat' (first | rfl | (simp (maxDischargeDepth := 12); done) | (refine (foldl_keeps (fun z => z.flt.eventLostRun) _ _ _ (fun t f => ?_)).trans ?_) | (refine (foldl_keeps_fst (fun z => z.flt.eventLostRun) _ _ _ (fun t f => ?_)).trans ?_) | split))

@[simp] theorem State_vtRefuse_flt_eventLostRun (s : State)  : (State.vtRefuse s).flt.eventLostRun = s.flt.eventLostRun := by
  first | rfl | (simp (maxDischargeDepth := 12) [State.vtRefuse]; done) | (unfold State.vtRefuse; (try dsimp only); repeat' (first | rfl | (simp (maxDischargeDepth := 12); done) | (refine (foldl_keeps (fun z => z.flt.eventLostRun) _ _ _ (fun t f => ?_)).trans ?_) | (refine (foldl_keeps_fst (fun z => z.flt.eventLostRun) _ _ _ (fun t f => ?_)).trans ?_) | split))

@[simp] theorem State_mbVtApply_flt_eventLostRun (s : State) (ch : MboxChan)  : (State.mbVtApply s ch).flt.eventLostRun = s.flt.eventLostRun := by
  first | rfl | (simp (maxDischargeDepth := 12) [State.mbVtApply]; done) | (unfold State.mbVtApply; (try dsimp only); repeat' (first | rfl | (simp (maxDischargeDepth := 12); done) | (refine (foldl_keeps (fun z => z.flt.eventLostRun) _ _ _ (fun t f => ?_)).trans ?_) | (refine (foldl_keeps_fst (fun z => z.flt.eventLostRun) _ _ _ (fun t f => ?_)).trans ?_) | split))

@[simp] theorem State_mbVtCommit_flt_eventLostRun (s : State) (ch : MboxChan)  : (State.mbVtCommit s ch).flt.eventLostRun = s.flt.eventLostRun := by
  first | rfl | (simp (maxDischargeDepth := 12) [State.mbVtCommit]; done) | (unfold State.mbVtCommit; (try dsimp only); repeat' (first | rfl | (simp (maxDischargeDepth := 12); done) | (refine (foldl_keeps (fun z => z.flt.eventLostRun) _ _ _ (fun t f => ?_)).trans ?_) | (refine (foldl_keeps_fst (fun z => z.flt.eventLostRun) _ _ _ (fun t f => ?_)).trans ?_) | split))

@[simp] theorem State_mbPolLoad_flt_eventLostRun (s : State) (ch : MboxChan) (len : Nat) (digest : List Word)  : (State.mbPolLoad s ch len digest).flt.eventLostRun = s.flt.eventLostRun := by
  first | rfl | (simp (maxDischargeDepth := 12) [State.mbPolLoad]; done) | (unfold State.mbPolLoad; (try dsimp only); repeat' (first | rfl | (simp (maxDischargeDepth := 12); done) | (refine (foldl_keeps (fun z => z.flt.eventLostRun) _ _ _ (fun t f => ?_)).trans ?_) | (refine (foldl_keeps_fst (fun z => z.flt.eventLostRun) _ _ _ (fun t f => ?_)).trans ?_) | split))

@[simp] theorem State_mbPolStart_flt_eventLostRun (s : State) (ch : MboxChan)  : (State.mbPolStart s ch).flt.eventLostRun = s.flt.eventLostRun := by
  first | rfl | (simp (maxDischargeDepth := 12) [State.mbPolStart]; done) | (unfold State.mbPolStart; (try dsimp only); repeat' (first | rfl | (simp (maxDischargeDepth := 12); done) | (refine (foldl_keeps (fun z => z.flt.eventLostRun) _ _ _ (fun t f => ?_)).trans ?_) | (refine (foldl_keeps_fst (fun z => z.flt.eventLostRun) _ _ _ (fun t f => ?_)).trans ?_) | split))

@[simp] theorem State_stageLimit_flt_eventLostRun (s : State) (target : Nat) (v : Nat) (by_ : Stager)  : (State.stageLimit s target v by_).flt.eventLostRun = s.flt.eventLostRun := by
  first | rfl | (simp (maxDischargeDepth := 12) [State.stageLimit]; done) | (unfold State.stageLimit; (try dsimp only); repeat' (first | rfl | (simp (maxDischargeDepth := 12); done) | (refine (foldl_keeps (fun z => z.flt.eventLostRun) _ _ _ (fun t f => ?_)).trans ?_) | (refine (foldl_keeps_fst (fun z => z.flt.eventLostRun) _ _ _ (fun t f => ?_)).trans ?_) | split))

@[simp] theorem State_policyDrop_flt_eventLostRun (s : State)  : (State.policyDrop s).flt.eventLostRun = s.flt.eventLostRun := by
  first | rfl | (simp (maxDischargeDepth := 12) [State.policyDrop]; done) | (unfold State.policyDrop; (try dsimp only); repeat' (first | rfl | (simp (maxDischargeDepth := 12); done) | (refine (foldl_keeps (fun z => z.flt.eventLostRun) _ _ _ (fun t f => ?_)).trans ?_) | (refine (foldl_keeps_fst (fun z => z.flt.eventLostRun) _ _ _ (fun t f => ?_)).trans ?_) | split))

@[simp] theorem State_mbPolStop_flt_eventLostRun (s : State) (ch : MboxChan)  : (State.mbPolStop s ch).flt.eventLostRun = s.flt.eventLostRun := by
  first | rfl | (simp (maxDischargeDepth := 12) [State.mbPolStop]; done) | (unfold State.mbPolStop; (try dsimp only); repeat' (first | rfl | (simp (maxDischargeDepth := 12); done) | (refine (foldl_keeps (fun z => z.flt.eventLostRun) _ _ _ (fun t f => ?_)).trans ?_) | (refine (foldl_keeps_fst (fun z => z.flt.eventLostRun) _ _ _ (fun t f => ?_)).trans ?_) | split))

@[simp] theorem State_mbPolClear_flt_eventLostRun (s : State) (ch : MboxChan)  : (State.mbPolClear s ch).flt.eventLostRun = s.flt.eventLostRun := by
  first | rfl | (simp (maxDischargeDepth := 12) [State.mbPolClear]; done) | (unfold State.mbPolClear; (try dsimp only); repeat' (first | rfl | (simp (maxDischargeDepth := 12); done) | (refine (foldl_keeps (fun z => z.flt.eventLostRun) _ _ _ (fun t f => ?_)).trans ?_) | (refine (foldl_keeps_fst (fun z => z.flt.eventLostRun) _ _ _ (fun t f => ?_)).trans ?_) | split))

@[simp] theorem State_mboxRun_flt_eventLostRun (s : State) (c : Instr)  : (State.mboxRun s c).flt.eventLostRun = s.flt.eventLostRun := by
  first | rfl | (simp (maxDischargeDepth := 12) [State.mboxRun]; done) | (unfold State.mboxRun; (try dsimp only); repeat' (first | rfl | (simp (maxDischargeDepth := 12); done) | (refine (foldl_keeps (fun z => z.flt.eventLostRun) _ _ _ (fun t f => ?_)).trans ?_) | (refine (foldl_keeps_fst (fun z => z.flt.eventLostRun) _ _ _ (fun t f => ?_)).trans ?_) | split))

@[simp] theorem State_mboxTurn_flt_eventLostRun (s : State)  : (State.mboxTurn s).flt.eventLostRun = s.flt.eventLostRun := by
  first | rfl | (simp (maxDischargeDepth := 12) [State.mboxTurn]; done) | (unfold State.mboxTurn; (try dsimp only); repeat' (first | rfl | (simp (maxDischargeDepth := 12); done) | (refine (foldl_keeps (fun z => z.flt.eventLostRun) _ _ _ (fun t f => ?_)).trans ?_) | (refine (foldl_keeps_fst (fun z => z.flt.eventLostRun) _ _ _ (fun t f => ?_)).trans ?_) | split))

@[simp] theorem State_mboxTurns_flt_eventLostRun (s : State)  : (State.mboxTurns s).flt.eventLostRun = s.flt.eventLostRun := by
  first | rfl | (simp (maxDischargeDepth := 12) [State.mboxTurns]; done) | (unfold State.mboxTurns; (try dsimp only); repeat' (first | rfl | (simp (maxDischargeDepth := 12); done) | (refine (foldl_keeps (fun z => z.flt.eventLostRun) _ _ _ (fun t f => ?_)).trans ?_) | (refine (foldl_keeps_fst (fun z => z.flt.eventLostRun) _ _ _ (fun t f => ?_)).trans ?_) | split))

@[simp] theorem State_mboxCommand_flt_eventLostRun (s : State) (ch : MboxChan) (op : Nat) (tag : BitVec 8) (args : List Word) (data : List Word) (c : Instr)  : (State.mboxCommand s ch op tag args data c).flt.eventLostRun = s.flt.eventLostRun := by
  first | rfl | (simp (maxDischargeDepth := 12) [State.mboxCommand]; done) | (unfold State.mboxCommand; (try dsimp only); repeat' (first | rfl | (simp (maxDischargeDepth := 12); done) | (refine (foldl_keeps (fun z => z.flt.eventLostRun) _ _ _ (fun t f => ?_)).trans ?_) | (refine (foldl_keeps_fst (fun z => z.flt.eventLostRun) _ _ _ (fun t f => ?_)).trans ?_) | split))

@[simp] theorem State_mboxWrote_flt_eventLostRun (s : State) (op : Nat) (status : Nat)  : (State.mboxWrote s op status).flt.eventLostRun = s.flt.eventLostRun := by
  first | rfl | (simp (maxDischargeDepth := 12) [State.mboxWrote]; done) | (unfold State.mboxWrote; (try dsimp only); repeat' (first | rfl | (simp (maxDischargeDepth := 12); done) | (refine (foldl_keeps (fun z => z.flt.eventLostRun) _ _ _ (fun t f => ?_)).trans ?_) | (refine (foldl_keeps_fst (fun z => z.flt.eventLostRun) _ _ _ (fun t f => ?_)).trans ?_) | split))

@[simp] theorem State_vtEnd_flt_eventLostRun (s : State) (status : Nat)  : (State.vtEnd s status).flt.eventLostRun = s.flt.eventLostRun := by
  first | rfl | (simp (maxDischargeDepth := 12) [State.vtEnd]; done) | (unfold State.vtEnd; (try dsimp only); repeat' (first | rfl | (simp (maxDischargeDepth := 12); done) | (refine (foldl_keeps (fun z => z.flt.eventLostRun) _ _ _ (fun t f => ?_)).trans ?_) | (refine (foldl_keeps_fst (fun z => z.flt.eventLostRun) _ _ _ (fun t f => ?_)).trans ?_) | split))

@[simp] theorem State_jobDone_flt_eventLostRun (s : State) (j : VaultJob)  : (State.jobDone s j).flt.eventLostRun = s.flt.eventLostRun := by
  first | rfl | (simp (maxDischargeDepth := 12) [State.jobDone]; done) | (unfold State.jobDone; (try dsimp only); repeat' (first | rfl | (simp (maxDischargeDepth := 12); done) | (refine (foldl_keeps (fun z => z.flt.eventLostRun) _ _ _ (fun t f => ?_)).trans ?_) | (refine (foldl_keeps_fst (fun z => z.flt.eventLostRun) _ _ _ (fun t f => ?_)).trans ?_) | split))

@[simp] theorem State_moveRecord_flt_eventLostRun (s : State) (j : VaultJob)  : (State.moveRecord s j).flt.eventLostRun = s.flt.eventLostRun := by
  first | rfl | (simp (maxDischargeDepth := 12) [State.moveRecord]; done) | (unfold State.moveRecord; (try dsimp only); repeat' (first | rfl | (simp (maxDischargeDepth := 12); done) | (refine (foldl_keeps (fun z => z.flt.eventLostRun) _ _ _ (fun t f => ?_)).trans ?_) | (refine (foldl_keeps_fst (fun z => z.flt.eventLostRun) _ _ _ (fun t f => ?_)).trans ?_) | split))

@[simp] theorem State_ebsisReply_flt_eventLostRun (s : State) (kind : Nat) (r : EbsisReq) (status : Nat) (value : Option Nat) (epoch : Option Nat)  : (State.ebsisReply s kind r status value epoch).flt.eventLostRun = s.flt.eventLostRun := by
  first | rfl | (simp (maxDischargeDepth := 12) [State.ebsisReply]; done) | (unfold State.ebsisReply; (try dsimp only); repeat' (first | rfl | (simp (maxDischargeDepth := 12); done) | (refine (foldl_keeps (fun z => z.flt.eventLostRun) _ _ _ (fun t f => ?_)).trans ?_) | (refine (foldl_keeps_fst (fun z => z.flt.eventLostRun) _ _ _ (fun t f => ?_)).trans ?_) | split))

@[simp] theorem State_ebsisRefuse_flt_eventLostRun (s : State) (kind : Nat) (r : EbsisReq) (status : Nat)  : (State.ebsisRefuse s kind r status).flt.eventLostRun = s.flt.eventLostRun := by
  first | rfl | (simp (maxDischargeDepth := 12) [State.ebsisRefuse]; done) | (unfold State.ebsisRefuse; (try dsimp only); repeat' (first | rfl | (simp (maxDischargeDepth := 12); done) | (refine (foldl_keeps (fun z => z.flt.eventLostRun) _ _ _ (fun t f => ?_)).trans ?_) | (refine (foldl_keeps_fst (fun z => z.flt.eventLostRun) _ _ _ (fun t f => ?_)).trans ?_) | split))

@[simp] theorem State_ebMove_flt_eventLostRun (s : State) (kind : Nat) (recalling : Bool) (r : EbsisReq)  : (State.ebMove s kind recalling r).flt.eventLostRun = s.flt.eventLostRun := by
  first | rfl | (simp (maxDischargeDepth := 12) [State.ebMove]; done) | (unfold State.ebMove; (try dsimp only); repeat' (first | rfl | (simp (maxDischargeDepth := 12); done) | (refine (foldl_keeps (fun z => z.flt.eventLostRun) _ _ _ (fun t f => ?_)).trans ?_) | (refine (foldl_keeps_fst (fun z => z.flt.eventLostRun) _ _ _ (fun t f => ?_)).trans ?_) | split))

@[simp] theorem State_ebAge_flt_eventLostRun (s : State) (r : EbsisReq)  : (State.ebAge s r).flt.eventLostRun = s.flt.eventLostRun := by
  first | rfl | (simp (maxDischargeDepth := 12) [State.ebAge]; done) | (unfold State.ebAge; (try dsimp only); repeat' (first | rfl | (simp (maxDischargeDepth := 12); done) | (refine (foldl_keeps (fun z => z.flt.eventLostRun) _ _ _ (fun t f => ?_)).trans ?_) | (refine (foldl_keeps_fst (fun z => z.flt.eventLostRun) _ _ _ (fun t f => ?_)).trans ?_) | split))

@[simp] theorem State_ebBeat_flt_eventLostRun (s : State) (r : EbsisReq)  : (State.ebBeat s r).flt.eventLostRun = s.flt.eventLostRun := by
  first | rfl | (simp (maxDischargeDepth := 12) [State.ebBeat]; done) | (unfold State.ebBeat; (try dsimp only); repeat' (first | rfl | (simp (maxDischargeDepth := 12); done) | (refine (foldl_keeps (fun z => z.flt.eventLostRun) _ _ _ (fun t f => ?_)).trans ?_) | (refine (foldl_keeps_fst (fun z => z.flt.eventLostRun) _ _ _ (fun t f => ?_)).trans ?_) | split))

@[simp] theorem State_cfgReject_flt_eventLostRun (s : State) (off : Nat)  : (State.cfgReject s off).flt.eventLostRun = s.flt.eventLostRun := by
  first | rfl | (simp (maxDischargeDepth := 12) [State.cfgReject]; done) | (unfold State.cfgReject; (try dsimp only); repeat' (first | rfl | (simp (maxDischargeDepth := 12); done) | (refine (foldl_keeps (fun z => z.flt.eventLostRun) _ _ _ (fun t f => ?_)).trans ?_) | (refine (foldl_keeps_fst (fun z => z.flt.eventLostRun) _ _ _ (fun t f => ?_)).trans ?_) | split))

@[simp] theorem State_hostValue_flt_eventLostRun (s : State) (target : Nat) (v : Nat)  : (State.hostValue s target v).flt.eventLostRun = s.flt.eventLostRun := by
  first | rfl | (simp (maxDischargeDepth := 12) [State.hostValue]; done) | (unfold State.hostValue; (try dsimp only); repeat' (first | rfl | (simp (maxDischargeDepth := 12); done) | (refine (foldl_keeps (fun z => z.flt.eventLostRun) _ _ _ (fun t f => ?_)).trans ?_) | (refine (foldl_keeps_fst (fun z => z.flt.eventLostRun) _ _ _ (fun t f => ?_)).trans ?_) | split))

@[simp] theorem State_hostLimits_flt_eventLostRun (s : State) (off : Nat) (v : Word)  : (State.hostLimits s off v).flt.eventLostRun = s.flt.eventLostRun := by
  first | rfl | (simp (maxDischargeDepth := 12) [State.hostLimits]; done) | (unfold State.hostLimits; (try dsimp only); repeat' (first | rfl | (simp (maxDischargeDepth := 12); done) | (refine (foldl_keeps (fun z => z.flt.eventLostRun) _ _ _ (fun t f => ?_)).trans ?_) | (refine (foldl_keeps_fst (fun z => z.flt.eventLostRun) _ _ _ (fun t f => ?_)).trans ?_) | split))

@[simp] theorem State_hostStage_flt_eventLostRun (s : State) (off : Nat) (v : Word) (by_ : Stager)  : (State.hostStage s off v by_).flt.eventLostRun = s.flt.eventLostRun := by
  first | rfl | (simp (maxDischargeDepth := 12) [State.hostStage]; done) | (unfold State.hostStage; (try dsimp only); repeat' (first | rfl | (simp (maxDischargeDepth := 12); done) | (refine (foldl_keeps (fun z => z.flt.eventLostRun) _ _ _ (fun t f => ?_)).trans ?_) | (refine (foldl_keeps_fst (fun z => z.flt.eventLostRun) _ _ _ (fun t f => ?_)).trans ?_) | split))

@[simp] theorem State_thermStage_flt_eventLostRun (s : State) (lim : Bool) (v : Word) (by_ : Stager)  : (State.thermStage s lim v by_).flt.eventLostRun = s.flt.eventLostRun := by
  first | rfl | (simp (maxDischargeDepth := 12) [State.thermStage]; done) | (unfold State.thermStage; (try dsimp only); repeat' (first | rfl | (simp (maxDischargeDepth := 12); done) | (refine (foldl_keeps (fun z => z.flt.eventLostRun) _ _ _ (fun t f => ?_)).trans ?_) | (refine (foldl_keeps_fst (fun z => z.flt.eventLostRun) _ _ _ (fun t f => ?_)).trans ?_) | split))

@[simp] theorem State_updCr_flt_eventLostRun (s : State) (i : Nat) (f : Ring → Ring)  : (State.updCr s i f).flt.eventLostRun = s.flt.eventLostRun := by
  first | rfl | (simp (maxDischargeDepth := 12) [State.updCr]; done) | (unfold State.updCr; (try dsimp only); repeat' (first | rfl | (simp (maxDischargeDepth := 12); done) | (refine (foldl_keeps (fun z => z.flt.eventLostRun) _ _ _ (fun t f => ?_)).trans ?_) | (refine (foldl_keeps_fst (fun z => z.flt.eventLostRun) _ _ _ (fun t f => ?_)).trans ?_) | split))

@[simp] theorem State_updPr_flt_eventLostRun (s : State) (p : Nat) (f : Ring → Ring)  : (State.updPr s p f).flt.eventLostRun = s.flt.eventLostRun := by
  first | rfl | (simp (maxDischargeDepth := 12) [State.updPr]; done) | (unfold State.updPr; (try dsimp only); repeat' (first | rfl | (simp (maxDischargeDepth := 12); done) | (refine (foldl_keeps (fun z => z.flt.eventLostRun) _ _ _ (fun t f => ?_)).trans ?_) | (refine (foldl_keeps_fst (fun z => z.flt.eventLostRun) _ _ _ (fun t f => ?_)).trans ?_) | split))

@[simp] theorem State_setIntake_flt_eventLostRun (s : State) (i : Nat) (l : List Desc)  : (State.setIntake s i l).flt.eventLostRun = s.flt.eventLostRun := by
  first | rfl | (simp (maxDischargeDepth := 12) [State.setIntake]; done) | (unfold State.setIntake; (try dsimp only); repeat' (first | rfl | (simp (maxDischargeDepth := 12); done) | (refine (foldl_keeps (fun z => z.flt.eventLostRun) _ _ _ (fun t f => ?_)).trans ?_) | (refine (foldl_keeps_fst (fun z => z.flt.eventLostRun) _ _ _ (fun t f => ?_)).trans ?_) | split))

@[simp] theorem State_issueFetch_flt_eventLostRun (s : State) (i : Nat)  : (State.issueFetch s i).flt.eventLostRun = s.flt.eventLostRun := by
  first | rfl | (simp (maxDischargeDepth := 12) [State.issueFetch]; done) | (unfold State.issueFetch; (try dsimp only); repeat' (first | rfl | (simp (maxDischargeDepth := 12); done) | (refine (foldl_keeps (fun z => z.flt.eventLostRun) _ _ _ (fun t f => ?_)).trans ?_) | (refine (foldl_keeps_fst (fun z => z.flt.eventLostRun) _ _ _ (fun t f => ?_)).trans ?_) | split))

@[simp] theorem State_issueFetches_flt_eventLostRun (s : State)  : (State.issueFetches s).flt.eventLostRun = s.flt.eventLostRun := by
  first | rfl | (simp (maxDischargeDepth := 12) [State.issueFetches]; done) | (unfold State.issueFetches; (try dsimp only); repeat' (first | rfl | (simp (maxDischargeDepth := 12); done) | (refine (foldl_keeps (fun z => z.flt.eventLostRun) _ _ _ (fun t f => ?_)).trans ?_) | (refine (foldl_keeps_fst (fun z => z.flt.eventLostRun) _ _ _ (fun t f => ?_)).trans ?_) | split))

@[simp] theorem State_flushRing_flt_eventLostRun (s : State) (i : Nat)  : (State.flushRing s i).flt.eventLostRun = s.flt.eventLostRun := by
  first | rfl | (simp (maxDischargeDepth := 12) [State.flushRing]; done) | (unfold State.flushRing; (try dsimp only); repeat' (first | rfl | (simp (maxDischargeDepth := 12); done) | (refine (foldl_keeps (fun z => z.flt.eventLostRun) _ _ _ (fun t f => ?_)).trans ?_) | (refine (foldl_keeps_fst (fun z => z.flt.eventLostRun) _ _ _ (fun t f => ?_)).trans ?_) | split))

@[simp] theorem State_ringOff_flt_eventLostRun (s : State) (obj : Nat) (stopped : Bool)  : (State.ringOff s obj stopped).flt.eventLostRun = s.flt.eventLostRun := by
  first | rfl | (simp (maxDischargeDepth := 12) [State.ringOff]; done) | (unfold State.ringOff; (try dsimp only); repeat' (first | rfl | (simp (maxDischargeDepth := 12); done) | (refine (foldl_keeps (fun z => z.flt.eventLostRun) _ _ _ (fun t f => ?_)).trans ?_) | (refine (foldl_keeps_fst (fun z => z.flt.eventLostRun) _ _ _ (fun t f => ?_)).trans ?_) | split))

@[simp] theorem State_updRing_flt_eventLostRun (s : State) (obj : Nat) (f : Ring → Ring)  : (State.updRing s obj f).flt.eventLostRun = s.flt.eventLostRun := by
  first | rfl | (simp (maxDischargeDepth := 12) [State.updRing]; done) | (unfold State.updRing; (try dsimp only); repeat' (first | rfl | (simp (maxDischargeDepth := 12); done) | (refine (foldl_keeps (fun z => z.flt.eventLostRun) _ _ _ (fun t f => ?_)).trans ?_) | (refine (foldl_keeps_fst (fun z => z.flt.eventLostRun) _ _ _ (fun t f => ?_)).trans ?_) | split))

@[simp] theorem State_ringCtrlWrite_flt_eventLostRun (s : State) (v : Word)  : (State.ringCtrlWrite s v).flt.eventLostRun = s.flt.eventLostRun := by
  first | rfl | (simp (maxDischargeDepth := 12) [State.ringCtrlWrite]; done) | (unfold State.ringCtrlWrite; (try dsimp only); repeat' (first | rfl | (simp (maxDischargeDepth := 12); done) | (refine (foldl_keeps (fun z => z.flt.eventLostRun) _ _ _ (fun t f => ?_)).trans ?_) | (refine (foldl_keeps_fst (fun z => z.flt.eventLostRun) _ _ _ (fun t f => ?_)).trans ?_) | split))

@[simp] theorem State_signalVec_flt_eventLostRun (s : State) (v : Nat) (now : Bool)  : (State.signalVec s v now).flt.eventLostRun = s.flt.eventLostRun := by
  first | rfl | (simp (maxDischargeDepth := 12) [State.signalVec]; done) | (unfold State.signalVec; (try dsimp only); repeat' (first | rfl | (simp (maxDischargeDepth := 12); done) | (refine (foldl_keeps (fun z => z.flt.eventLostRun) _ _ _ (fun t f => ?_)).trans ?_) | (refine (foldl_keeps_fst (fun z => z.flt.eventLostRun) _ _ _ (fun t f => ?_)).trans ?_) | split))

@[simp] theorem State_writeEntry_flt_eventLostRun (s : State) (addr : Nat) (k : Nat) (l : List Word)  : (State.writeEntry s addr k l).flt.eventLostRun = s.flt.eventLostRun := by
  first | rfl | (simp (maxDischargeDepth := 12) [State.writeEntry]; done) | (unfold State.writeEntry; (try dsimp only); repeat' (first | rfl | (simp (maxDischargeDepth := 12); done) | (refine (foldl_keeps (fun z => z.flt.eventLostRun) _ _ _ (fun t f => ?_)).trans ?_) | (refine (foldl_keeps_fst (fun z => z.flt.eventLostRun) _ _ _ (fun t f => ?_)).trans ?_) | split))

@[simp] theorem State_produce_flt_eventLostRun (s : State) (p : Nat) (k : Nat) (f : Nat → List Word)  : (State.produce s p k f).flt.eventLostRun = s.flt.eventLostRun := by
  first | rfl | (simp (maxDischargeDepth := 12) [State.produce]; done) | (unfold State.produce; (try dsimp only); repeat' (first | rfl | (simp (maxDischargeDepth := 12); done) | (refine (foldl_keeps (fun z => z.flt.eventLostRun) _ _ _ (fun t f => ?_)).trans ?_) | (refine (foldl_keeps_fst (fun z => z.flt.eventLostRun) _ _ _ (fun t f => ?_)).trans ?_) | split))

@[simp] theorem State_complRefill_flt_eventLostRun (s : State)  : (State.complRefill s).flt.eventLostRun = s.flt.eventLostRun := by
  first | rfl | (simp (maxDischargeDepth := 12) [State.complRefill]; done) | (unfold State.complRefill; (try dsimp only); repeat' (first | rfl | (simp (maxDischargeDepth := 12); done) | (refine (foldl_keeps (fun z => z.flt.eventLostRun) _ _ _ (fun t f => ?_)).trans ?_) | (refine (foldl_keeps_fst (fun z => z.flt.eventLostRun) _ _ _ (fun t f => ?_)).trans ?_) | split))

@[simp] theorem State_writeCompl_flt_eventLostRun (s : State) (room : Bool)  : (State.writeCompl s room).flt.eventLostRun = s.flt.eventLostRun := by
  first | rfl | (simp (maxDischargeDepth := 12) [State.writeCompl]; done) | (unfold State.writeCompl; (try dsimp only); repeat' (first | rfl | (simp (maxDischargeDepth := 12); done) | (refine (foldl_keeps (fun z => z.flt.eventLostRun) _ _ _ (fun t f => ?_)).trans ?_) | (refine (foldl_keeps_fst (fun z => z.flt.eventLostRun) _ _ _ (fun t f => ?_)).trans ?_) | split))

@[simp] theorem State_writeTlm_flt_eventLostRun (s : State) (room : Bool)  : (State.writeTlm s room).flt.eventLostRun = s.flt.eventLostRun := by
  first | rfl | (simp (maxDischargeDepth := 12) [State.writeTlm]; done) | (unfold State.writeTlm; (try dsimp only); repeat' (first | rfl | (simp (maxDischargeDepth := 12); done) | (refine (foldl_keeps (fun z => z.flt.eventLostRun) _ _ _ (fun t f => ?_)).trans ?_) | (refine (foldl_keeps_fst (fun z => z.flt.eventLostRun) _ _ _ (fun t f => ?_)).trans ?_) | split))

@[simp] theorem State_latchHi_flt_eventLostRun (s : State) (off : Nat)  : (State.latchHi s off).flt.eventLostRun = s.flt.eventLostRun := by
  first | rfl | (simp (maxDischargeDepth := 12) [State.latchHi]; done) | (unfold State.latchHi; (try dsimp only); repeat' (first | rfl | (simp (maxDischargeDepth := 12); done) | (refine (foldl_keeps (fun z => z.flt.eventLostRun) _ _ _ (fun t f => ?_)).trans ?_) | (refine (foldl_keeps_fst (fun z => z.flt.eventLostRun) _ _ _ (fun t f => ?_)).trans ?_) | split))

@[simp] theorem State_clearDscStat_flt_eventLostRun (s : State) (n : Nat)  : (State.clearDscStat s n).flt.eventLostRun = s.flt.eventLostRun := by
  first | rfl | (simp (maxDischargeDepth := 12) [State.clearDscStat]; done) | (unfold State.clearDscStat; (try dsimp only); repeat' (first | rfl | (simp (maxDischargeDepth := 12); done) | (refine (foldl_keeps (fun z => z.flt.eventLostRun) _ _ _ (fun t f => ?_)).trans ?_) | (refine (foldl_keeps_fst (fun z => z.flt.eventLostRun) _ _ _ (fun t f => ?_)).trans ?_) | split))

@[simp] theorem State_clearRc_flt_eventLostRun (s : State) (off : Nat)  : (State.clearRc s off).flt.eventLostRun = s.flt.eventLostRun := by
  first | rfl | (simp (maxDischargeDepth := 12) [State.clearRc]; done) | (unfold State.clearRc; (try dsimp only); repeat' (first | rfl | (simp (maxDischargeDepth := 12); done) | (refine (foldl_keeps (fun z => z.flt.eventLostRun) _ _ _ (fun t f => ?_)).trans ?_) | (refine (foldl_keeps_fst (fun z => z.flt.eventLostRun) _ _ _ (fun t f => ?_)).trans ?_) | split))

@[simp] theorem State_answer_flt_eventLostRun (s : State) (w : Word) (off : Nat) (size : Nat)  : (State.answer s w off size).flt.eventLostRun = s.flt.eventLostRun := by
  first | rfl | (simp (maxDischargeDepth := 12) [State.answer]; done) | (unfold State.answer; (try dsimp only); repeat' (first | rfl | (simp (maxDischargeDepth := 12); done) | (refine (foldl_keeps (fun z => z.flt.eventLostRun) _ _ _ (fun t f => ?_)).trans ?_) | (refine (foldl_keeps_fst (fun z => z.flt.eventLostRun) _ _ _ (fun t f => ?_)).trans ?_) | split))

@[simp] theorem State_readNow_flt_eventLostRun (s : State) (off : Nat) (size : Nat)  : (State.readNow s off size).flt.eventLostRun = s.flt.eventLostRun := by
  first | rfl | (simp (maxDischargeDepth := 12) [State.readNow]; done) | (unfold State.readNow; (try dsimp only); repeat' (first | rfl | (simp (maxDischargeDepth := 12); done) | (refine (foldl_keeps (fun z => z.flt.eventLostRun) _ _ _ (fun t f => ?_)).trans ?_) | (refine (foldl_keeps_fst (fun z => z.flt.eventLostRun) _ _ _ (fun t f => ?_)).trans ?_) | split))

@[simp] theorem State_unstage_flt_eventLostRun (s : State) (key : StageKey)  : (State.unstage s key).flt.eventLostRun = s.flt.eventLostRun := by
  first | rfl | (simp (maxDischargeDepth := 12) [State.unstage]; done) | (unfold State.unstage; (try dsimp only); repeat' (first | rfl | (simp (maxDischargeDepth := 12); done) | (refine (foldl_keeps (fun z => z.flt.eventLostRun) _ _ _ (fun t f => ?_)).trans ?_) | (refine (foldl_keeps_fst (fun z => z.flt.eventLostRun) _ _ _ (fun t f => ?_)).trans ?_) | split))

@[simp] theorem State_stagedWrite_flt_eventLostRun (s : State) (off : Nat) (v : Word)  : (State.stagedWrite s off v).flt.eventLostRun = s.flt.eventLostRun := by
  first | rfl | (simp (maxDischargeDepth := 12) [State.stagedWrite]; done) | (unfold State.stagedWrite; (try dsimp only); repeat' (first | rfl | (simp (maxDischargeDepth := 12); done) | (refine (foldl_keeps (fun z => z.flt.eventLostRun) _ _ _ (fun t f => ?_)).trans ?_) | (refine (foldl_keeps_fst (fun z => z.flt.eventLostRun) _ _ _ (fun t f => ?_)).trans ?_) | split))

@[simp] theorem State_fsrAsk_flt_eventLostRun (s : State)  : (State.fsrAsk s).flt.eventLostRun = s.flt.eventLostRun := by
  first | rfl | (simp (maxDischargeDepth := 12) [State.fsrAsk]; done) | (unfold State.fsrAsk; (try dsimp only); repeat' (first | rfl | (simp (maxDischargeDepth := 12); done) | (refine (foldl_keeps (fun z => z.flt.eventLostRun) _ _ _ (fun t f => ?_)).trans ?_) | (refine (foldl_keeps_fst (fun z => z.flt.eventLostRun) _ _ _ (fun t f => ?_)).trans ?_) | split))

@[simp] theorem State_fsrWrite_flt_eventLostRun (s : State) (v : Word)  : (State.fsrWrite s v).flt.eventLostRun = s.flt.eventLostRun := by
  first | rfl | (simp (maxDischargeDepth := 12) [State.fsrWrite]; done) | (unfold State.fsrWrite; (try dsimp only); repeat' (first | rfl | (simp (maxDischargeDepth := 12); done) | (refine (foldl_keeps (fun z => z.flt.eventLostRun) _ _ _ (fun t f => ?_)).trans ?_) | (refine (foldl_keeps_fst (fun z => z.flt.eventLostRun) _ _ _ (fun t f => ?_)).trans ?_) | split))

@[simp] theorem State_ledgerWrite_flt_eventLostRun (s : State) (off : Nat) (v : Word)  : (State.ledgerWrite s off v).flt.eventLostRun = s.flt.eventLostRun := by
  first | rfl | (simp (maxDischargeDepth := 12) [State.ledgerWrite]; done) | (unfold State.ledgerWrite; (try dsimp only); repeat' (first | rfl | (simp (maxDischargeDepth := 12); done) | (refine (foldl_keeps (fun z => z.flt.eventLostRun) _ _ _ (fun t f => ?_)).trans ?_) | (refine (foldl_keeps_fst (fun z => z.flt.eventLostRun) _ _ _ (fun t f => ?_)).trans ?_) | split))

@[simp] theorem State_lawRegWrite_flt_eventLostRun (s : State) (off : Nat) (v : Word)  : (State.lawRegWrite s off v).flt.eventLostRun = s.flt.eventLostRun := by
  first | rfl | (simp (maxDischargeDepth := 12) [State.lawRegWrite]; done) | (unfold State.lawRegWrite; (try dsimp only); repeat' (first | rfl | (simp (maxDischargeDepth := 12); done) | (refine (foldl_keeps (fun z => z.flt.eventLostRun) _ _ _ (fun t f => ?_)).trans ?_) | (refine (foldl_keeps_fst (fun z => z.flt.eventLostRun) _ _ _ (fun t f => ?_)).trans ?_) | split))

@[simp] theorem State_engineWrite_flt_eventLostRun (s : State) (off : Nat) (v : Word)  : (State.engineWrite s off v).flt.eventLostRun = s.flt.eventLostRun := by
  first | rfl | (simp (maxDischargeDepth := 12) [State.engineWrite]; done) | (unfold State.engineWrite; (try dsimp only); repeat' (first | rfl | (simp (maxDischargeDepth := 12); done) | (refine (foldl_keeps (fun z => z.flt.eventLostRun) _ _ _ (fun t f => ?_)).trans ?_) | (refine (foldl_keeps_fst (fun z => z.flt.eventLostRun) _ _ _ (fun t f => ?_)).trans ?_) | split))

@[simp] theorem State_updStaging_flt_eventLostRun (s : State) (f : SeqSet → SeqSet)  : (State.updStaging s f).flt.eventLostRun = s.flt.eventLostRun := by
  first | rfl | (simp (maxDischargeDepth := 12) [State.updStaging]; done) | (unfold State.updStaging; (try dsimp only); repeat' (first | rfl | (simp (maxDischargeDepth := 12); done) | (refine (foldl_keeps (fun z => z.flt.eventLostRun) _ _ _ (fun t f => ?_)).trans ?_) | (refine (foldl_keeps_fst (fun z => z.flt.eventLostRun) _ _ _ (fun t f => ?_)).trans ?_) | split))

@[simp] theorem State_seqCtrlWrite_flt_eventLostRun (s : State) (v : Word)  : (State.seqCtrlWrite s v).flt.eventLostRun = s.flt.eventLostRun := by
  first | rfl | (simp (maxDischargeDepth := 12) [State.seqCtrlWrite]; done) | (unfold State.seqCtrlWrite; (try dsimp only); repeat' (first | rfl | (simp (maxDischargeDepth := 12); done) | (refine (foldl_keeps (fun z => z.flt.eventLostRun) _ _ _ (fun t f => ?_)).trans ?_) | (refine (foldl_keeps_fst (fun z => z.flt.eventLostRun) _ _ _ (fun t f => ?_)).trans ?_) | split))

@[simp] theorem State_spEnWrite_flt_eventLostRun (s : State) (i : Nat) (v0 : Word)  : (State.spEnWrite s i v0).flt.eventLostRun = s.flt.eventLostRun := by
  first | rfl | (simp (maxDischargeDepth := 12) [State.spEnWrite]; done) | (unfold State.spEnWrite; (try dsimp only); repeat' (first | rfl | (simp (maxDischargeDepth := 12); done) | (refine (foldl_keeps (fun z => z.flt.eventLostRun) _ _ _ (fun t f => ?_)).trans ?_) | (refine (foldl_keeps_fst (fun z => z.flt.eventLostRun) _ _ _ (fun t f => ?_)).trans ?_) | split))

@[simp] theorem State_senseWrite_flt_eventLostRun (s : State) (off : Nat) (v : Word)  : (State.senseWrite s off v).flt.eventLostRun = s.flt.eventLostRun := by
  first | rfl | (simp (maxDischargeDepth := 12) [State.senseWrite]; done) | (unfold State.senseWrite; (try dsimp only); repeat' (first | rfl | (simp (maxDischargeDepth := 12); done) | (refine (foldl_keeps (fun z => z.flt.eventLostRun) _ _ _ (fun t f => ?_)).trans ?_) | (refine (foldl_keeps_fst (fun z => z.flt.eventLostRun) _ _ _ (fun t f => ?_)).trans ?_) | split))

@[simp] theorem State_setReact_flt_eventLostRun (s : State) (src : Nat) (v : Nat)  : (State.setReact s src v).flt.eventLostRun = s.flt.eventLostRun := by
  first | rfl | (simp (maxDischargeDepth := 12) [State.setReact]; done) | (unfold State.setReact; (try dsimp only); repeat' (first | rfl | (simp (maxDischargeDepth := 12); done) | (refine (foldl_keeps (fun z => z.flt.eventLostRun) _ _ _ (fun t f => ?_)).trans ?_) | (refine (foldl_keeps_fst (fun z => z.flt.eventLostRun) _ _ _ (fun t f => ?_)).trans ?_) | split))

@[simp] theorem State_clearPend_flt_eventLostRun (s : State) (mask : Nat)  : (State.clearPend s mask).flt.eventLostRun = s.flt.eventLostRun := by
  first | rfl | (simp (maxDischargeDepth := 12) [State.clearPend]; done) | (unfold State.clearPend; (try dsimp only); repeat' (first | rfl | (simp (maxDischargeDepth := 12); done) | (refine (foldl_keeps (fun z => z.flt.eventLostRun) _ _ _ (fun t f => ?_)).trans ?_) | (refine (foldl_keeps_fst (fun z => z.flt.eventLostRun) _ _ _ (fun t f => ?_)).trans ?_) | split))

@[simp] theorem State_chainWrite_flt_eventLostRun (s : State) (off : Nat) (v : Word)  : (State.chainWrite s off v).flt.eventLostRun = s.flt.eventLostRun := by
  first | rfl | (simp (maxDischargeDepth := 12) [State.chainWrite]; done) | (unfold State.chainWrite; (try dsimp only); repeat' (first | rfl | (simp (maxDischargeDepth := 12); done) | (refine (foldl_keeps (fun z => z.flt.eventLostRun) _ _ _ (fun t f => ?_)).trans ?_) | (refine (foldl_keeps_fst (fun z => z.flt.eventLostRun) _ _ _ (fun t f => ?_)).trans ?_) | split))

@[simp] theorem State_mboxCmdWrite_flt_eventLostRun (s : State) (v : Word)  : (State.mboxCmdWrite s v).flt.eventLostRun = s.flt.eventLostRun := by
  first | rfl | (simp (maxDischargeDepth := 12) [State.mboxCmdWrite]; done) | (unfold State.mboxCmdWrite; (try dsimp only); repeat' (first | rfl | (simp (maxDischargeDepth := 12); done) | (refine (foldl_keeps (fun z => z.flt.eventLostRun) _ _ _ (fun t f => ?_)).trans ?_) | (refine (foldl_keeps_fst (fun z => z.flt.eventLostRun) _ _ _ (fun t f => ?_)).trans ?_) | split))

@[simp] theorem State_avsCtrlWrite_flt_eventLostRun (s : State) (v : Word)  : (State.avsCtrlWrite s v).flt.eventLostRun = s.flt.eventLostRun := by
  first | rfl | (simp (maxDischargeDepth := 12) [State.avsCtrlWrite]; done) | (unfold State.avsCtrlWrite; (try dsimp only); repeat' (first | rfl | (simp (maxDischargeDepth := 12); done) | (refine (foldl_keeps (fun z => z.flt.eventLostRun) _ _ _ (fun t f => ?_)).trans ?_) | (refine (foldl_keeps_fst (fun z => z.flt.eventLostRun) _ _ _ (fun t f => ?_)).trans ?_) | split))

@[simp] theorem State_wardenWrite_flt_eventLostRun (s : State) (off : Nat) (v : Word)  : (State.wardenWrite s off v).flt.eventLostRun = s.flt.eventLostRun := by
  first | rfl | (simp (maxDischargeDepth := 12) [State.wardenWrite]; done) | (unfold State.wardenWrite; (try dsimp only); repeat' (first | rfl | (simp (maxDischargeDepth := 12); done) | (refine (foldl_keeps (fun z => z.flt.eventLostRun) _ _ _ (fun t f => ?_)).trans ?_) | (refine (foldl_keeps_fst (fun z => z.flt.eventLostRun) _ _ _ (fun t f => ?_)).trans ?_) | split))

@[simp] theorem State_stageImages_flt_eventLostRun (s : State) (x : CmdCtx) (l : List (Nat × Word))  : (State.stageImages s x l).flt.eventLostRun = s.flt.eventLostRun := by
  first | rfl | (simp (maxDischargeDepth := 12) [State.stageImages]; done) | (unfold State.stageImages; (try dsimp only); repeat' (first | rfl | (simp (maxDischargeDepth := 12); done) | (refine (foldl_keeps (fun z => z.flt.eventLostRun) _ _ _ (fun t f => ?_)).trans ?_) | (refine (foldl_keeps_fst (fun z => z.flt.eventLostRun) _ _ _ (fun t f => ?_)).trans ?_) | split))

@[simp] theorem State_stageLimitImage_flt_eventLostRun (s : State) (x : CmdCtx) (b : Nat) (v : Word)  : (State.stageLimitImage s x b v).flt.eventLostRun = s.flt.eventLostRun := by
  first | rfl | (simp (maxDischargeDepth := 12) [State.stageLimitImage]; done) | (unfold State.stageLimitImage; (try dsimp only); repeat' (first | rfl | (simp (maxDischargeDepth := 12); done) | (refine (foldl_keeps (fun z => z.flt.eventLostRun) _ _ _ (fun t f => ?_)).trans ?_) | (refine (foldl_keeps_fst (fun z => z.flt.eventLostRun) _ _ _ (fun t f => ?_)).trans ?_) | split))

@[simp] theorem State_askAgain_flt_eventLostRun (s : State)  : (State.askAgain s).flt.eventLostRun = s.flt.eventLostRun := by
  first | rfl | (simp (maxDischargeDepth := 12) [State.askAgain]; done) | (unfold State.askAgain; (try dsimp only); repeat' (first | rfl | (simp (maxDischargeDepth := 12); done) | (refine (foldl_keeps (fun z => z.flt.eventLostRun) _ _ _ (fun t f => ?_)).trans ?_) | (refine (foldl_keeps_fst (fun z => z.flt.eventLostRun) _ _ _ (fun t f => ?_)).trans ?_) | split))

@[simp] theorem State_completeAll_flt_eventLostRun (s : State) (i : Nat) (l : List (Desc × Nat × Nat))  : (State.completeAll s i l).flt.eventLostRun = s.flt.eventLostRun := by
  first | rfl | (simp (maxDischargeDepth := 12) [State.completeAll]; done) | (unfold State.completeAll; (try dsimp only); repeat' (first | rfl | (simp (maxDischargeDepth := 12); done) | (refine (foldl_keeps (fun z => z.flt.eventLostRun) _ _ _ (fun t f => ?_)).trans ?_) | (refine (foldl_keeps_fst (fun z => z.flt.eventLostRun) _ _ _ (fun t f => ?_)).trans ?_) | split))

@[simp] theorem State_raiseNote_flt_eventLostRun (s : State) (src : Nat) (obj : Nat)  : (State.raiseNote s src obj).flt.eventLostRun = s.flt.eventLostRun := by
  first | rfl | (simp (maxDischargeDepth := 12) [State.raiseNote]; done) | (unfold State.raiseNote; (try dsimp only); repeat' (first | rfl | (simp (maxDischargeDepth := 12); done) | (refine (foldl_keeps (fun z => z.flt.eventLostRun) _ _ _ (fun t f => ?_)).trans ?_) | (refine (foldl_keeps_fst (fun z => z.flt.eventLostRun) _ _ _ (fun t f => ?_)).trans ?_) | split))

@[simp] theorem State_paceForward_flt_eventLostRun (s : State) (f : PaceTx)  : (State.paceForward s f).flt.eventLostRun = s.flt.eventLostRun := by
  first | rfl | (simp (maxDischargeDepth := 12) [State.paceForward]; done) | (unfold State.paceForward; (try dsimp only); repeat' (first | rfl | (simp (maxDischargeDepth := 12); done) | (refine (foldl_keeps (fun z => z.flt.eventLostRun) _ _ _ (fun t f => ?_)).trans ?_) | (refine (foldl_keeps_fst (fun z => z.flt.eventLostRun) _ _ _ (fun t f => ?_)).trans ?_) | split))

@[simp] theorem State_paceResend_flt_eventLostRun (s : State) (relay : Bool)  : (State.paceResend s relay).flt.eventLostRun = s.flt.eventLostRun := by
  first | rfl | (simp (maxDischargeDepth := 12) [State.paceResend]; done) | (unfold State.paceResend; (try dsimp only); repeat' (first | rfl | (simp (maxDischargeDepth := 12); done) | (refine (foldl_keeps (fun z => z.flt.eventLostRun) _ _ _ (fun t f => ?_)).trans ?_) | (refine (foldl_keeps_fst (fun z => z.flt.eventLostRun) _ _ _ (fun t f => ?_)).trans ?_) | split))

@[simp] theorem State_smbReply_flt_eventLostRun (s : State) (l : List Byte)  : (State.smbReply s l).flt.eventLostRun = s.flt.eventLostRun := by
  first | rfl | (simp (maxDischargeDepth := 12) [State.smbReply]; done) | (unfold State.smbReply; (try dsimp only); repeat' (first | rfl | (simp (maxDischargeDepth := 12); done) | (refine (foldl_keeps (fun z => z.flt.eventLostRun) _ _ _ (fun t f => ?_)).trans ?_) | (refine (foldl_keeps_fst (fun z => z.flt.eventLostRun) _ _ _ (fun t f => ?_)).trans ?_) | split))

@[simp] theorem State_replyByte_flt_eventLostRun (s : State) (n : Nat)  : (State.replyByte s n).flt.eventLostRun = s.flt.eventLostRun := by
  first | rfl | (simp (maxDischargeDepth := 12) [State.replyByte]; done) | (unfold State.replyByte; (try dsimp only); repeat' (first | rfl | (simp (maxDischargeDepth := 12); done) | (refine (foldl_keeps (fun z => z.flt.eventLostRun) _ _ _ (fun t f => ?_)).trans ?_) | (refine (foldl_keeps_fst (fun z => z.flt.eventLostRun) _ _ _ (fun t f => ?_)).trans ?_) | split))

@[simp] theorem State_replyWord_flt_eventLostRun (s : State) (n : Nat)  : (State.replyWord s n).flt.eventLostRun = s.flt.eventLostRun := by
  first | rfl | (simp (maxDischargeDepth := 12) [State.replyWord]; done) | (unfold State.replyWord; (try dsimp only); repeat' (first | rfl | (simp (maxDischargeDepth := 12); done) | (refine (foldl_keeps (fun z => z.flt.eventLostRun) _ _ _ (fun t f => ?_)).trans ?_) | (refine (foldl_keeps_fst (fun z => z.flt.eventLostRun) _ _ _ (fun t f => ?_)).trans ?_) | split))

@[simp] theorem State_replyBlock_flt_eventLostRun (s : State) (l : List Byte)  : (State.replyBlock s l).flt.eventLostRun = s.flt.eventLostRun := by
  first | rfl | (simp (maxDischargeDepth := 12) [State.replyBlock]; done) | (unfold State.replyBlock; (try dsimp only); repeat' (first | rfl | (simp (maxDischargeDepth := 12); done) | (refine (foldl_keeps (fun z => z.flt.eventLostRun) _ _ _ (fun t f => ?_)).trans ?_) | (refine (foldl_keeps_fst (fun z => z.flt.eventLostRun) _ _ _ (fun t f => ?_)).trans ?_) | split))

@[simp] theorem State_cml_flt_eventLostRun (s : State) (b : Nat)  : (State.cml s b).flt.eventLostRun = s.flt.eventLostRun := by
  first | rfl | (simp (maxDischargeDepth := 12) [State.cml]; done) | (unfold State.cml; (try dsimp only); repeat' (first | rfl | (simp (maxDischargeDepth := 12); done) | (refine (foldl_keeps (fun z => z.flt.eventLostRun) _ _ _ (fun t f => ?_)).trans ?_) | (refine (foldl_keeps_fst (fun z => z.flt.eventLostRun) _ _ _ (fun t f => ?_)).trans ?_) | split))

@[simp] theorem State_badData_flt_eventLostRun (s : State)  : (State.badData s).flt.eventLostRun = s.flt.eventLostRun := by
  first | rfl | (simp (maxDischargeDepth := 12) [State.badData]; done) | (unfold State.badData; (try dsimp only); repeat' (first | rfl | (simp (maxDischargeDepth := 12); done) | (refine (foldl_keeps (fun z => z.flt.eventLostRun) _ _ _ (fun t f => ?_)).trans ?_) | (refine (foldl_keeps_fst (fun z => z.flt.eventLostRun) _ _ _ (fun t f => ?_)).trans ?_) | split))

@[simp] theorem State_replyLinear_flt_eventLostRun (s : State) (v : Option Rat)  : (State.replyLinear s v).flt.eventLostRun = s.flt.eventLostRun := by
  first | rfl | (simp (maxDischargeDepth := 12) [State.replyLinear]; done) | (unfold State.replyLinear; (try dsimp only); repeat' (first | rfl | (simp (maxDischargeDepth := 12); done) | (refine (foldl_keeps (fun z => z.flt.eventLostRun) _ _ _ (fun t f => ?_)).trans ?_) | (refine (foldl_keeps_fst (fun z => z.flt.eventLostRun) _ _ _ (fun t f => ?_)).trans ?_) | split))

@[simp] theorem State_readChip_flt_eventLostRun (s : State) (v : Rat)  : (State.readChip s v).flt.eventLostRun = s.flt.eventLostRun := by
  first | rfl | (simp (maxDischargeDepth := 12) [State.readChip]; done) | (unfold State.readChip; (try dsimp only); repeat' (first | rfl | (simp (maxDischargeDepth := 12); done) | (refine (foldl_keeps (fun z => z.flt.eventLostRun) _ _ _ (fun t f => ?_)).trans ?_) | (refine (foldl_keeps_fst (fun z => z.flt.eventLostRun) _ _ _ (fun t f => ?_)).trans ?_) | split))

@[simp] theorem State_restart_flt_eventLostRun (s : State)  : (State.restart s).flt.eventLostRun = s.flt.eventLostRun := by
  first | rfl | (simp (maxDischargeDepth := 12) [State.restart]; done) | (unfold State.restart; (try dsimp only); repeat' (first | rfl | (simp (maxDischargeDepth := 12); done) | (refine (foldl_keeps (fun z => z.flt.eventLostRun) _ _ _ (fun t f => ?_)).trans ?_) | (refine (foldl_keeps_fst (fun z => z.flt.eventLostRun) _ _ _ (fun t f => ?_)).trans ?_) | split))

@[simp] theorem State_vaultBlock_flt_eventLostRun (s : State)  : (State.vaultBlock s).2.flt.eventLostRun = s.flt.eventLostRun := by
  first | rfl | (simp (maxDischargeDepth := 12) [State.vaultBlock]; done) | (unfold State.vaultBlock; (try dsimp only); repeat' (first | rfl | (simp (maxDischargeDepth := 12); done) | (refine (foldl_keeps (fun z => z.flt.eventLostRun) _ _ _ (fun t f => ?_)).trans ?_) | (refine (foldl_keeps_fst (fun z => z.flt.eventLostRun) _ _ _ (fun t f => ?_)).trans ?_) | split))

@[simp] theorem State_capture_flt_eventLostRun (s : State) (therm : Bool) (errn : Bool) (alert : Bool)  : (State.capture s therm errn alert).2.flt.eventLostRun = s.flt.eventLostRun := by
  first | rfl | (simp (maxDischargeDepth := 12) [State.capture]; done) | (unfold State.capture; (try dsimp only); repeat' (first | rfl | (simp (maxDischargeDepth := 12); done) | (refine (foldl_keeps (fun z => z.flt.eventLostRun) _ _ _ (fun t f => ?_)).trans ?_) | (refine (foldl_keeps_fst (fun z => z.flt.eventLostRun) _ _ _ (fun t f => ?_)).trans ?_) | split))

@[simp] theorem State_captureRun_flt_eventLostRun (s : State)  : (State.captureRun s).2.flt.eventLostRun = s.flt.eventLostRun := by
  first | rfl | (simp (maxDischargeDepth := 12) [State.captureRun]; done) | (unfold State.captureRun; (try dsimp only); repeat' (first | rfl | (simp (maxDischargeDepth := 12); done) | (refine (foldl_keeps (fun z => z.flt.eventLostRun) _ _ _ (fun t f => ?_)).trans ?_) | (refine (foldl_keeps_fst (fun z => z.flt.eventLostRun) _ _ _ (fun t f => ?_)).trans ?_) | split))

@[simp] theorem State_captureTest_flt_eventLostRun (s : State)  : (State.captureTest s).2.flt.eventLostRun = s.flt.eventLostRun := by
  first | rfl | (simp (maxDischargeDepth := 12) [State.captureTest]; done) | (unfold State.captureTest; (try dsimp only); repeat' (first | rfl | (simp (maxDischargeDepth := 12); done) | (refine (foldl_keeps (fun z => z.flt.eventLostRun) _ _ _ (fun t f => ?_)).trans ?_) | (refine (foldl_keeps_fst (fun z => z.flt.eventLostRun) _ _ _ (fun t f => ?_)).trans ?_) | split))

@[simp] theorem State_tapSelect_flt_eventLostRun (s : State) (ir : TapIr) (dr : Nat)  : (State.tapSelect s ir dr).flt.eventLostRun = s.flt.eventLostRun := by
  first | rfl | (simp (maxDischargeDepth := 12) [State.tapSelect]; done) | (unfold State.tapSelect; (try dsimp only); repeat' (first | rfl | (simp (maxDischargeDepth := 12); done) | (refine (foldl_keeps (fun z => z.flt.eventLostRun) _ _ _ (fun t f => ?_)).trans ?_) | (refine (foldl_keeps_fst (fun z => z.flt.eventLostRun) _ _ _ (fun t f => ?_)).trans ?_) | split))

@[simp] theorem State_tapBypass_flt_eventLostRun (s : State)  : (State.tapBypass s).flt.eventLostRun = s.flt.eventLostRun := by
  first | rfl | (simp (maxDischargeDepth := 12) [State.tapBypass]; done) | (unfold State.tapBypass; (try dsimp only); repeat' (first | rfl | (simp (maxDischargeDepth := 12); done) | (refine (foldl_keeps (fun z => z.flt.eventLostRun) _ _ _ (fun t f => ?_)).trans ?_) | (refine (foldl_keeps_fst (fun z => z.flt.eventLostRun) _ _ _ (fun t f => ?_)).trans ?_) | split))

end Sys2Proof.Machine
end

