-- ==== Sys2Proof/Laws/Orders.lean ====
section
/-! SUPPORT. What a frame does to the cells it reaches, and how an order ends (R111, R115, R124). -/

namespace Sys2Proof.Machine

@[simp] theorem State.setCell_same (s : State) (i : Nat) (c : Cell) : (s.setCell i c).cell i = c := by
  simp [State.setCell, State.cell]
theorem State.setCell_other (s : State) (i j : Nat) (c : Cell) (h : j ≠ i) : (s.setCell i c).cell j = s.cell j := by
  simp [State.setCell, State.cell, h]

/-- A frame to a chain: each addressed cell that it reaches takes it, and no other. -/
theorem State.onChain_cell (s : State) (c : Nat) (f : Nat → Cell → Cell) (i : Nat) :
    (s.onChain c f).cell i =
      if chainOf i = c ∧ (s.cell i).addr.isSome ∧ s.reaches c (posOf i) then f i (s.cell i) else s.cell i := by
  unfold State.onChain State.cell
  dsimp only
  induction s.cells with
  | nil => simp
  | cons e t ih =>
    by_cases h : e.1 = i
    · subst h
      by_cases k : chainOf e.1 = c ∧ e.2.addr.isSome = true ∧ s.reaches c (posOf e.1) = true
      · simp only [List.map_cons, k, and_self, if_true, Tab.get]
      · simp only [List.map_cons, if_neg k, Tab.get, if_true]
    · have e1 : ∀ v : Cell, Tab.get ({} : Cell) ((e.1, v) :: t) i = Tab.get {} t i := fun v => by simp [Tab.get, h]
      have e2 : ∀ v : Cell, ∀ u : Tab Cell, Tab.get ({} : Cell) ((e.1, v) :: u) i = Tab.get {} u i := fun v u => by simp [Tab.get, h]
      have e3 : Tab.get ({} : Cell) (e :: t) i = Tab.get {} t i := e1 e.2
      rw [e3, ← ih, List.map_cons]
      split
      · exact e2 _ _
      · exact e2 e.2 _

@[simp] theorem State.meansDrawn_cell (s : State) (i : Nat) : s.meansDrawn.cell i = s.cell i := rfl
@[simp] theorem State.meansDrawn_chain (s : State) (c : Nat) : s.meansDrawn.chain c = s.chain c := rfl
@[simp] theorem State.meansDrawn_setCell_chain (s : State) (i : Nat) (x : Cell) (c : Nat) : (s.setCell i x).chain c = s.chain c := rfl

/-- A checked frame: an addressed cell that it reaches and whose generation it carries takes it (R124). -/
theorem State.checkedFrame_hit {s : State} {c : ChainIx} {p : BitVec 64} {i : Nat} (f : Nat → Cell → Cell) (h : s.FrameReaches c p i) :
    (s.checkedFrame c p f).cell i = f i (s.cell i) := by
  obtain ⟨_, a, b, d, e⟩ := h
  simp only [State.checkedFrame, State.meansDrawn_cell, State.onChain_cell, a, b, d, and_self, if_true, genCheck, e]

/-- A checked frame leaves a cell it does not reach, or whose generation it does not carry and that is not its next (R124). -/
theorem State.checkedFrame_miss {s : State} {c : ChainIx} {p : BitVec 64} {i : Nat} (f : Nat → Cell → Cell)
    (h : chainOf i ≠ c.val ∨ (s.cell i).addr = none ∨ (bits p.toNat 63 56 ≠ (s.cell i).gen ∧ bits p.toNat 63 56 ≠ genNext (s.cell i).gen)) :
    (s.checkedFrame c p f).cell i = s.cell i := by
  simp only [State.checkedFrame, State.meansDrawn_cell, State.onChain_cell]
  split
  · rename_i k
    rcases h with h | h | h
    · exact absurd k.1 h
    · simp [h] at k
    · simp [genCheck, h.1, h.2]
  · rfl

@[simp] theorem State.checkedFrame_rest (s : State) (c : ChainIx) (p : BitVec 64) (f : Nat → Cell → Cell) :
    (s.checkedFrame c p f).doms = s.doms ∧ (s.checkedFrame c p f).views = s.views ∧ (s.checkedFrame c p f).chains = s.chains ∧
    (s.checkedFrame c p f).flt = s.flt ∧ (s.checkedFrame c p f).stopq = s.stopq := by
  unfold State.checkedFrame State.onChain State.meansDrawn
  exact ⟨rfl, rfl, rfl, rfl, rfl⟩

/-- An order that is executed: what `act` gives is stored and answered (R111, R115). -/
theorem State.order_fresh {s : State} {c : ChainIx} {h : CmdHdr} {i : Nat} (op : Nat) (act : Nat → Cell → Nat × Nat × Cell)
    (r : s.OrderReaches c h i) :
    s.order c h op act =
      (s.meansDrawn.setCell i { (act i (s.cell i)).2.2 with
        seq := some h.seq.toNat
        status := (act i (s.cell i)).1
        data := (act i (s.cell i)).2.1 }).reply c 7
      (rspOf (act i (s.cell i)).2.2.gen h.addr.toNat op h.seq.toNat (act i (s.cell i)).1 (act i (s.cell i)).2.1) := by
  obtain ⟨_, b, d, e⟩ := r
  simp only [State.order, b, if_neg d, genCheck, e, if_true]

/-- An executed order is answered, and only its cell changes. -/
theorem State.order_answered {s : State} {c : ChainIx} {h : CmdHdr} {i : Nat} {op : Nat} {act : Nat → Cell → Nat × Nat × Cell}
    (r : s.OrderReaches c h i) : s.Answered (s.order c h op act) c h op i (act i (s.cell i)).1 (act i (s.cell i)).2.1 := by
  rw [State.order_fresh op act r]
  refine ⟨?_, ?_, ?_, ?_, fun j hj => ?_, rfl, rfl⟩ <;> simp [State.reply, State.setCell_same]
  simp [State.setCell_other _ _ _ _ hj]

/-- The cell after an executed order. -/
theorem State.order_cell {s : State} {c : ChainIx} {h : CmdHdr} {i : Nat} {op : Nat} {act : Nat → Cell → Nat × Nat × Cell}
    (r : s.OrderReaches c h i) : (s.order c h op act).cell i = { (act i (s.cell i)).2.2 with
        seq := some h.seq.toNat
        status := (act i (s.cell i)).1
        data := (act i (s.cell i)).2.1 } := by
  rw [State.order_fresh op act r]
  simp [State.reply, State.setCell_same]

/-- An order whose SEQ the cell has executed is answered as before and changes no cell (R115). -/
theorem State.order_repeat {s : State} {c : ChainIx} {h : CmdHdr} {i : Nat} (op : Nat) (act : Nat → Cell → Nat × Nat × Cell)
    (b : s.cellByAddr c h.addr.toNat = some i) (d : (s.cell i).seq = some h.seq.toNat) :
    s.order c h op act = s.reply c 7 (rspOf (s.cell i).gen h.addr.toNat op h.seq.toNat (s.cell i).status (s.cell i).data) := by
  simp only [State.order, b, if_pos d]

/-- An order with a generation that is neither the cell's nor its next is answered STALE and changes no cell (R124). -/
theorem State.order_stale {s : State} {c : ChainIx} {h : CmdHdr} {i : Nat} (op : Nat) (act : Nat → Cell → Nat × Nat × Cell)
    (b : s.cellByAddr c h.addr.toNat = some i) (d : (s.cell i).seq ≠ some h.seq.toNat)
    (e : h.gen.toNat ≠ (s.cell i).gen) (f : h.gen.toNat ≠ genNext (s.cell i).gen) :
    s.order c h op act = s.meansDrawn.reply c 7 (rspOf (s.cell i).gen h.addr.toNat op h.seq.toNat 1 0) := by
  simp only [State.order, b, if_neg d, genCheck, if_neg e, f, and_false, if_false]

end Sys2Proof.Machine
end

