-- ==== Sys2Proof/Laws/Pending.lean ====
section
/-! SUPPORT. The pending sources change by a raise alone: what leaves flt.pend alone, and what a raise makes of it (R405). -/

set_option linter.unusedSimpArgs false
set_option linter.unusedVariables false

namespace Sys2Proof.Machine

@[simp] theorem foldl_flt_pend {α : Type} (g : State → α → State) (l : List α) (s : State) (h : ∀ t a, (g t a).flt.pend = t.flt.pend) :
    (l.foldl g s).flt.pend = s.flt.pend := foldl_keeps (·.flt.pend) g l s h
@[simp] theorem forEach_flt_pend (g : State → Nat → State) (l : List Nat) (s : State) (h : ∀ t a, (g t a).flt.pend = t.flt.pend) :
    (s.forEach l g).flt.pend = s.flt.pend := foldl_keeps (·.flt.pend) g l s h

@[simp] theorem State_vaultPut_flt_pend (s : State) (a : Nat) (l : List Byte)  : (State.vaultPut s a l).flt.pend = s.flt.pend := by
  first | rfl | (simp (maxDischargeDepth := 12) [State.vaultPut]; done) | (unfold State.vaultPut; (try dsimp only); repeat' (first | rfl | (simp (maxDischargeDepth := 12); done) | (refine (foldl_keeps (fun z => z.flt.pend) _ _ _ (fun t f => ?_)).trans ?_) | (refine (foldl_keeps_fst (fun z => z.flt.pend) _ _ _ (fun t f => ?_)).trans ?_) | split))

@[simp] theorem State_vaultPutWords_flt_pend (s : State) (a : Nat) (l : List Word)  : (State.vaultPutWords s a l).flt.pend = s.flt.pend := by
  first | rfl | (simp (maxDischargeDepth := 12) [State.vaultPutWords]; done) | (unfold State.vaultPutWords; (try dsimp only); repeat' (first | rfl | (simp (maxDischargeDepth := 12); done) | (refine (foldl_keeps (fun z => z.flt.pend) _ _ _ (fun t f => ?_)).trans ?_) | (refine (foldl_keeps_fst (fun z => z.flt.pend) _ _ _ (fun t f => ?_)).trans ?_) | split))

@[simp] theorem State_vaultJob_flt_pend (s : State) (prio : Nat) (recNo : Nat) (addr : Nat) (l : List Word)  : (State.vaultJob s prio recNo addr l).flt.pend = s.flt.pend := by
  first | rfl | (simp (maxDischargeDepth := 12) [State.vaultJob]; done) | (unfold State.vaultJob; (try dsimp only); repeat' (first | rfl | (simp (maxDischargeDepth := 12); done) | (refine (foldl_keeps (fun z => z.flt.pend) _ _ _ (fun t f => ?_)).trans ?_) | (refine (foldl_keeps_fst (fun z => z.flt.pend) _ _ _ (fun t f => ?_)).trans ?_) | split))

@[simp] theorem State_vaultFlush_flt_pend (s : State) (recNo : Nat)  : (State.vaultFlush s recNo).flt.pend = s.flt.pend := by
  first | rfl | (simp (maxDischargeDepth := 12) [State.vaultFlush]; done) | (unfold State.vaultFlush; (try dsimp only); repeat' (first | rfl | (simp (maxDischargeDepth := 12); done) | (refine (foldl_keeps (fun z => z.flt.pend) _ _ _ (fun t f => ?_)).trans ?_) | (refine (foldl_keeps_fst (fun z => z.flt.pend) _ _ _ (fun t f => ?_)).trans ?_) | split))

@[simp] theorem State_writeStateBlock_flt_pend (s : State)  : (State.writeStateBlock s).flt.pend = s.flt.pend := by
  first | rfl | (simp (maxDischargeDepth := 12) [State.writeStateBlock]; done) | (unfold State.writeStateBlock; (try dsimp only); repeat' (first | rfl | (simp (maxDischargeDepth := 12); done) | (refine (foldl_keeps (fun z => z.flt.pend) _ _ _ (fun t f => ?_)).trans ?_) | (refine (foldl_keeps_fst (fun z => z.flt.pend) _ _ _ (fun t f => ?_)).trans ?_) | split))

@[simp] theorem State_pushEvent_flt_pend (s : State) (e : Event)  : (State.pushEvent s e).flt.pend = s.flt.pend := by
  first | rfl | (simp (maxDischargeDepth := 12) [State.pushEvent]; done) | (unfold State.pushEvent; (try dsimp only); repeat' (first | rfl | (simp (maxDischargeDepth := 12); done) | (refine (foldl_keeps (fun z => z.flt.pend) _ _ _ (fun t f => ?_)).trans ?_) | (refine (foldl_keeps_fst (fun z => z.flt.pend) _ _ _ (fun t f => ?_)).trans ?_) | split))

@[simp] theorem State_publishDoms_flt_pend (s : State)  : (State.publishDoms s).flt.pend = s.flt.pend := by
  first | rfl | (simp (maxDischargeDepth := 12) [State.publishDoms]; done) | (unfold State.publishDoms; (try dsimp only); repeat' (first | rfl | (simp (maxDischargeDepth := 12); done) | (refine (foldl_keeps (fun z => z.flt.pend) _ _ _ (fun t f => ?_)).trans ?_) | (refine (foldl_keeps_fst (fun z => z.flt.pend) _ _ _ (fun t f => ?_)).trans ?_) | split))

@[simp] theorem State_stopLatch_flt_pend (s : State) (causes : Nat) (abandon : Bool)  : (State.stopLatch s causes abandon).flt.pend = s.flt.pend := by
  first | rfl | (simp (maxDischargeDepth := 12) [State.stopLatch]; done) | (unfold State.stopLatch; (try dsimp only); repeat' (first | rfl | (simp (maxDischargeDepth := 12); done) | (refine (foldl_keeps (fun z => z.flt.pend) _ _ _ (fun t f => ?_)).trans ?_) | (refine (foldl_keeps_fst (fun z => z.flt.pend) _ _ _ (fun t f => ?_)).trans ?_) | split))

@[simp] theorem State_stopAddCause_flt_pend (s : State) (causes : Nat)  : (State.stopAddCause s causes).flt.pend = s.flt.pend := by
  first | rfl | (simp (maxDischargeDepth := 12) [State.stopAddCause]; done) | (unfold State.stopAddCause; (try dsimp only); repeat' (first | rfl | (simp (maxDischargeDepth := 12); done) | (refine (foldl_keeps (fun z => z.flt.pend) _ _ _ (fun t f => ?_)).trans ?_) | (refine (foldl_keeps_fst (fun z => z.flt.pend) _ _ _ (fun t f => ?_)).trans ?_) | split))

@[simp] theorem State_stopWriteSeal_flt_pend (s : State) (stage : Nat) (off : Nat)  : (State.stopWriteSeal s stage off).flt.pend = s.flt.pend := by
  first | rfl | (simp (maxDischargeDepth := 12) [State.stopWriteSeal]; done) | (unfold State.stopWriteSeal; (try dsimp only); repeat' (first | rfl | (simp (maxDischargeDepth := 12); done) | (refine (foldl_keeps (fun z => z.flt.pend) _ _ _ (fun t f => ?_)).trans ?_) | (refine (foldl_keeps_fst (fun z => z.flt.pend) _ _ _ (fun t f => ?_)).trans ?_) | split))

@[simp] theorem State_quietRestart_flt_pend (s : State)  : (State.quietRestart s).flt.pend = s.flt.pend := by
  first | rfl | (simp (maxDischargeDepth := 12) [State.quietRestart]; done) | (unfold State.quietRestart; (try dsimp only); repeat' (first | rfl | (simp (maxDischargeDepth := 12); done) | (refine (foldl_keeps (fun z => z.flt.pend) _ _ _ (fun t f => ?_)).trans ?_) | (refine (foldl_keeps_fst (fun z => z.flt.pend) _ _ _ (fun t f => ?_)).trans ?_) | split))

@[simp] theorem State_enterStopped_flt_pend (s : State)  : (State.enterStopped s).flt.pend = s.flt.pend := by
  first | rfl | (simp (maxDischargeDepth := 12) [State.enterStopped]; done) | (unfold State.enterStopped; (try dsimp only); repeat' (first | rfl | (simp (maxDischargeDepth := 12); done) | (refine (foldl_keeps (fun z => z.flt.pend) _ _ _ (fun t f => ?_)).trans ?_) | (refine (foldl_keeps_fst (fun z => z.flt.pend) _ _ _ (fun t f => ?_)).trans ?_) | split))

@[simp] theorem State_sealAndStop_flt_pend (s : State) (stage : Nat) (off : Nat)  : (State.sealAndStop s stage off).flt.pend = s.flt.pend := by
  first | rfl | (simp (maxDischargeDepth := 12) [State.sealAndStop]; done) | (unfold State.sealAndStop; (try dsimp only); repeat' (first | rfl | (simp (maxDischargeDepth := 12); done) | (refine (foldl_keeps (fun z => z.flt.pend) _ _ _ (fun t f => ?_)).trans ?_) | (refine (foldl_keeps_fst (fun z => z.flt.pend) _ _ _ (fun t f => ?_)).trans ?_) | split))

@[simp] theorem State_stopRecordOnly_flt_pend (s : State) (causes : Nat)  : (State.stopRecordOnly s causes).flt.pend = s.flt.pend := by
  first | rfl | (simp (maxDischargeDepth := 12) [State.stopRecordOnly]; done) | (unfold State.stopRecordOnly; (try dsimp only); repeat' (first | rfl | (simp (maxDischargeDepth := 12); done) | (refine (foldl_keeps (fun z => z.flt.pend) _ _ _ (fun t f => ?_)).trans ?_) | (refine (foldl_keeps_fst (fun z => z.flt.pend) _ _ _ (fun t f => ?_)).trans ?_) | split))

@[simp] theorem State_abandonStart_flt_pend (s : State) (causes : Nat) (fail : Nat)  : (State.abandonStart s causes fail).flt.pend = s.flt.pend := by
  first | rfl | (simp (maxDischargeDepth := 12) [State.abandonStart]; done) | (unfold State.abandonStart; (try dsimp only); repeat' (first | rfl | (simp (maxDischargeDepth := 12); done) | (refine (foldl_keeps (fun z => z.flt.pend) _ _ _ (fun t f => ?_)).trans ?_) | (refine (foldl_keeps_fst (fun z => z.flt.pend) _ _ _ (fun t f => ?_)).trans ?_) | split))

@[simp] theorem State_abandonBoot_flt_pend (s : State) (fail : Nat)  : (State.abandonBoot s fail).flt.pend = s.flt.pend := by
  first | rfl | (simp (maxDischargeDepth := 12) [State.abandonBoot]; done) | (unfold State.abandonBoot; (try dsimp only); repeat' (first | rfl | (simp (maxDischargeDepth := 12); done) | (refine (foldl_keeps (fun z => z.flt.pend) _ _ _ (fun t f => ?_)).trans ?_) | (refine (foldl_keeps_fst (fun z => z.flt.pend) _ _ _ (fun t f => ?_)).trans ?_) | split))

@[simp] theorem State_stopCause_flt_pend (s : State) (causes : Nat)  : (State.stopCause s causes).flt.pend = s.flt.pend := by
  first | rfl | (simp (maxDischargeDepth := 12) [State.stopCause]; done) | (unfold State.stopCause; (try dsimp only); repeat' (first | rfl | (simp (maxDischargeDepth := 12); done) | (refine (foldl_keeps (fun z => z.flt.pend) _ _ _ (fun t f => ?_)).trans ?_) | (refine (foldl_keeps_fst (fun z => z.flt.pend) _ _ _ (fun t f => ?_)).trans ?_) | split))

@[simp] theorem State_paceSend_flt_pend (s : State) (f : PaceTx)  : (State.paceSend s f).flt.pend = s.flt.pend := by
  first | rfl | (simp (maxDischargeDepth := 12) [State.paceSend]; done) | (unfold State.paceSend; (try dsimp only); repeat' (first | rfl | (simp (maxDischargeDepth := 12); done) | (refine (foldl_keeps (fun z => z.flt.pend) _ _ _ (fun t f => ?_)).trans ?_) | (refine (foldl_keeps_fst (fun z => z.flt.pend) _ _ _ (fun t f => ?_)).trans ?_) | split))

@[simp] theorem State_newSeq_flt_pend (s : State) (old : Option Nat)  : (State.newSeq s old).2.flt.pend = s.flt.pend := by
  first | rfl | (simp (maxDischargeDepth := 12) [State.newSeq]; done) | (unfold State.newSeq; (try dsimp only); repeat' (first | rfl | (simp (maxDischargeDepth := 12); done) | (refine (foldl_keeps (fun z => z.flt.pend) _ _ _ (fun t f => ?_)).trans ?_) | (refine (foldl_keeps_fst (fun z => z.flt.pend) _ _ _ (fun t f => ?_)).trans ?_) | split))

@[simp] theorem State_paceDiscover_flt_pend (s : State)  : (State.paceDiscover s).flt.pend = s.flt.pend := by
  first | rfl | (simp (maxDischargeDepth := 12) [State.paceDiscover]; done) | (unfold State.paceDiscover; (try dsimp only); repeat' (first | rfl | (simp (maxDischargeDepth := 12); done) | (refine (foldl_keeps (fun z => z.flt.pend) _ _ _ (fun t f => ?_)).trans ?_) | (refine (foldl_keeps_fst (fun z => z.flt.pend) _ _ _ (fun t f => ?_)).trans ?_) | split))

@[simp] theorem State_paceJoin_flt_pend (s : State)  : (State.paceJoin s).flt.pend = s.flt.pend := by
  first | rfl | (simp (maxDischargeDepth := 12) [State.paceJoin]; done) | (unfold State.paceJoin; (try dsimp only); repeat' (first | rfl | (simp (maxDischargeDepth := 12); done) | (refine (foldl_keeps (fun z => z.flt.pend) _ _ _ (fun t f => ?_)).trans ?_) | (refine (foldl_keeps_fst (fun z => z.flt.pend) _ _ _ (fun t f => ?_)).trans ?_) | split))

@[simp] theorem State_paceDown_flt_pend (s : State)  : (State.paceDown s).flt.pend = s.flt.pend := by
  first | rfl | (simp (maxDischargeDepth := 12) [State.paceDown]; done) | (unfold State.paceDown; (try dsimp only); repeat' (first | rfl | (simp (maxDischargeDepth := 12); done) | (refine (foldl_keeps (fun z => z.flt.pend) _ _ _ (fun t f => ?_)).trans ?_) | (refine (foldl_keeps_fst (fun z => z.flt.pend) _ _ _ (fun t f => ?_)).trans ?_) | split))

@[simp] theorem State_paceBlockReset_flt_pend (s : State)  : (State.paceBlockReset s).flt.pend = s.flt.pend := by
  first | rfl | (simp (maxDischargeDepth := 12) [State.paceBlockReset]; done) | (unfold State.paceBlockReset; (try dsimp only); repeat' (first | rfl | (simp (maxDischargeDepth := 12); done) | (refine (foldl_keeps (fun z => z.flt.pend) _ _ _ (fun t f => ?_)).trans ?_) | (refine (foldl_keeps_fst (fun z => z.flt.pend) _ _ _ (fun t f => ?_)).trans ?_) | split))

@[simp] theorem State_paceRelease_flt_pend (s : State) (relay : Bool) (group : Nat)  : (State.paceRelease s relay group).flt.pend = s.flt.pend := by
  first | rfl | (simp (maxDischargeDepth := 12) [State.paceRelease]; done) | (unfold State.paceRelease; (try dsimp only); repeat' (first | rfl | (simp (maxDischargeDepth := 12); done) | (refine (foldl_keeps (fun z => z.flt.pend) _ _ _ (fun t f => ?_)).trans ?_) | (refine (foldl_keeps_fst (fun z => z.flt.pend) _ _ _ (fun t f => ?_)).trans ?_) | split))

@[simp] theorem State_paceLeave_flt_pend (s : State)  : (State.paceLeave s).flt.pend = s.flt.pend := by
  first | rfl | (simp (maxDischargeDepth := 12) [State.paceLeave]; done) | (unfold State.paceLeave; (try dsimp only); repeat' (first | rfl | (simp (maxDischargeDepth := 12); done) | (refine (foldl_keeps (fun z => z.flt.pend) _ _ _ (fun t f => ?_)).trans ?_) | (refine (foldl_keeps_fst (fun z => z.flt.pend) _ _ _ (fun t f => ?_)).trans ?_) | split))

@[simp] theorem State_fastReset_flt_pend (s : State) (again : Bool)  : (State.fastReset s again).flt.pend = s.flt.pend := by
  first | rfl | (simp (maxDischargeDepth := 12) [State.fastReset]; done) | (unfold State.fastReset; (try dsimp only); repeat' (first | rfl | (simp (maxDischargeDepth := 12); done) | (refine (foldl_keeps (fun z => z.flt.pend) _ _ _ (fun t f => ?_)).trans ?_) | (refine (foldl_keeps_fst (fun z => z.flt.pend) _ _ _ (fun t f => ?_)).trans ?_) | split))

@[simp] theorem State_coldReset_flt_pend (s : State)  : (State.coldReset s).flt.pend = s.flt.pend := by
  first | rfl | (simp (maxDischargeDepth := 12) [State.coldReset]; done) | (unfold State.coldReset; (try dsimp only); repeat' (first | rfl | (simp (maxDischargeDepth := 12); done) | (refine (foldl_keeps (fun z => z.flt.pend) _ _ _ (fun t f => ?_)).trans ?_) | (refine (foldl_keeps_fst (fun z => z.flt.pend) _ _ _ (fun t f => ?_)).trans ?_) | split))

@[simp] theorem State_writeIncident_flt_pend (s : State) (dur : Nat)  : (State.writeIncident s dur).flt.pend = s.flt.pend := by
  first | rfl | (simp (maxDischargeDepth := 12) [State.writeIncident]; done) | (unfold State.writeIncident; (try dsimp only); repeat' (first | rfl | (simp (maxDischargeDepth := 12); done) | (refine (foldl_keeps (fun z => z.flt.pend) _ _ _ (fun t f => ?_)).trans ?_) | (refine (foldl_keeps_fst (fun z => z.flt.pend) _ _ _ (fun t f => ?_)).trans ?_) | split))

@[simp] theorem State_pushTrap_flt_pend (s : State) (l : List (BitVec 64))  : (State.pushTrap s l).flt.pend = s.flt.pend := by
  first | rfl | (simp (maxDischargeDepth := 12) [State.pushTrap]; done) | (unfold State.pushTrap; (try dsimp only); repeat' (first | rfl | (simp (maxDischargeDepth := 12); done) | (refine (foldl_keeps (fun z => z.flt.pend) _ _ _ (fun t f => ?_)).trans ?_) | (refine (foldl_keeps_fst (fun z => z.flt.pend) _ _ _ (fun t f => ?_)).trans ?_) | split))

@[simp] theorem State_suspendAudits_flt_pend (s : State)  : (State.suspendAudits s).flt.pend = s.flt.pend := by
  first | rfl | (simp (maxDischargeDepth := 12) [State.suspendAudits]; done) | (unfold State.suspendAudits; (try dsimp only); repeat' (first | rfl | (simp (maxDischargeDepth := 12); done) | (refine (foldl_keeps (fun z => z.flt.pend) _ _ _ (fun t f => ?_)).trans ?_) | (refine (foldl_keeps_fst (fun z => z.flt.pend) _ _ _ (fun t f => ?_)).trans ?_) | split))

@[simp] theorem State_fsrAssert_flt_pend (s : State)  : (State.fsrAssert s).flt.pend = s.flt.pend := by
  first | rfl | (simp (maxDischargeDepth := 12) [State.fsrAssert]; done) | (unfold State.fsrAssert; (try dsimp only); repeat' (first | rfl | (simp (maxDischargeDepth := 12); done) | (refine (foldl_keeps (fun z => z.flt.pend) _ _ _ (fun t f => ?_)).trans ?_) | (refine (foldl_keeps_fst (fun z => z.flt.pend) _ _ _ (fun t f => ?_)).trans ?_) | split))

@[simp] theorem State_dscBlockReset_flt_pend (s : State) (d : Nat)  : (State.dscBlockReset s d).flt.pend = s.flt.pend := by
  first | rfl | (simp (maxDischargeDepth := 12) [State.dscBlockReset]; done) | (unfold State.dscBlockReset; (try dsimp only); repeat' (first | rfl | (simp (maxDischargeDepth := 12); done) | (refine (foldl_keeps (fun z => z.flt.pend) _ _ _ (fun t f => ?_)).trans ?_) | (refine (foldl_keeps_fst (fun z => z.flt.pend) _ _ _ (fun t f => ?_)).trans ?_) | split))

@[simp] theorem State_hkcBlockReset_flt_pend (s : State) (k : Nat)  : (State.hkcBlockReset s k).flt.pend = s.flt.pend := by
  first | rfl | (simp (maxDischargeDepth := 12) [State.hkcBlockReset]; done) | (unfold State.hkcBlockReset; (try dsimp only); repeat' (first | rfl | (simp (maxDischargeDepth := 12); done) | (refine (foldl_keeps (fun z => z.flt.pend) _ _ _ (fun t f => ?_)).trans ?_) | (refine (foldl_keeps_fst (fun z => z.flt.pend) _ _ _ (fun t f => ?_)).trans ?_) | split))

@[simp] theorem State_policyBlockReset_flt_pend (s : State)  : (State.policyBlockReset s).flt.pend = s.flt.pend := by
  first | rfl | (simp (maxDischargeDepth := 12) [State.policyBlockReset]; done) | (unfold State.policyBlockReset; (try dsimp only); repeat' (first | rfl | (simp (maxDischargeDepth := 12); done) | (refine (foldl_keeps (fun z => z.flt.pend) _ _ _ (fun t f => ?_)).trans ?_) | (refine (foldl_keeps_fst (fun z => z.flt.pend) _ _ _ (fun t f => ?_)).trans ?_) | split))

@[simp] theorem State_ringBlockReset_flt_pend (s : State)  : (State.ringBlockReset s).flt.pend = s.flt.pend := by
  first | rfl | (simp (maxDischargeDepth := 12) [State.ringBlockReset]; done) | (unfold State.ringBlockReset; (try dsimp only); repeat' (first | rfl | (simp (maxDischargeDepth := 12); done) | (refine (foldl_keeps (fun z => z.flt.pend) _ _ _ (fun t f => ?_)).trans ?_) | (refine (foldl_keeps_fst (fun z => z.flt.pend) _ _ _ (fun t f => ?_)).trans ?_) | split))

@[simp] theorem State_blockReset_flt_pend (s : State) (b : Block) (obj : Nat)  : (State.blockReset s b obj).flt.pend = s.flt.pend := by
  first | rfl | (simp (maxDischargeDepth := 12) [State.blockReset]; done) | (unfold State.blockReset; (try dsimp only); repeat' (first | rfl | (simp (maxDischargeDepth := 12); done) | (refine (foldl_keeps (fun z => z.flt.pend) _ _ _ (fun t f => ?_)).trans ?_) | (refine (foldl_keeps_fst (fun z => z.flt.pend) _ _ _ (fun t f => ?_)).trans ?_) | split))

@[simp] theorem State_blockReleased_flt_pend (s : State) (b : Block) (obj : Nat)  : (State.blockReleased s b obj).flt.pend = s.flt.pend := by
  first | rfl | (simp (maxDischargeDepth := 12) [State.blockReleased]; done) | (unfold State.blockReleased; (try dsimp only); repeat' (first | rfl | (simp (maxDischargeDepth := 12); done) | (refine (foldl_keeps (fun z => z.flt.pend) _ _ _ (fun t f => ?_)).trans ?_) | (refine (foldl_keeps_fst (fun z => z.flt.pend) _ _ _ (fun t f => ?_)).trans ?_) | split))

@[simp] theorem State_holdAudit_flt_pend (s : State)  : (State.holdAudit s).flt.pend = s.flt.pend := by
  first | rfl | (simp (maxDischargeDepth := 12) [State.holdAudit]; done) | (unfold State.holdAudit; (try dsimp only); repeat' (first | rfl | (simp (maxDischargeDepth := 12); done) | (refine (foldl_keeps (fun z => z.flt.pend) _ _ _ (fun t f => ?_)).trans ?_) | (refine (foldl_keeps_fst (fun z => z.flt.pend) _ _ _ (fun t f => ?_)).trans ?_) | split))

@[simp] theorem State_startAudit_flt_pend (s : State) (src : Nat) (obj : Nat)  : (State.startAudit s src obj).flt.pend = s.flt.pend := by
  first | rfl | (simp (maxDischargeDepth := 12) [State.startAudit]; done) | (unfold State.startAudit; (try dsimp only); repeat' (first | rfl | (simp (maxDischargeDepth := 12); done) | (refine (foldl_keeps (fun z => z.flt.pend) _ _ _ (fun t f => ?_)).trans ?_) | (refine (foldl_keeps_fst (fun z => z.flt.pend) _ _ _ (fun t f => ?_)).trans ?_) | split))

@[simp] theorem State_burstAudit_flt_pend (s : State) (c : Nat)  : (State.burstAudit s c).flt.pend = s.flt.pend := by
  first | rfl | (simp (maxDischargeDepth := 12) [State.burstAudit]; done) | (unfold State.burstAudit; (try dsimp only); repeat' (first | rfl | (simp (maxDischargeDepth := 12); done) | (refine (foldl_keeps (fun z => z.flt.pend) _ _ _ (fun t f => ?_)).trans ?_) | (refine (foldl_keeps_fst (fun z => z.flt.pend) _ _ _ (fun t f => ?_)).trans ?_) | split))

@[simp] theorem State_errnPulse_flt_pend (s : State)  : (State.errnPulse s).flt.pend = s.flt.pend := by
  first | rfl | (simp (maxDischargeDepth := 12) [State.errnPulse]; done) | (unfold State.errnPulse; (try dsimp only); repeat' (first | rfl | (simp (maxDischargeDepth := 12); done) | (refine (foldl_keeps (fun z => z.flt.pend) _ _ _ (fun t f => ?_)).trans ?_) | (refine (foldl_keeps_fst (fun z => z.flt.pend) _ _ _ (fun t f => ?_)).trans ?_) | split))

@[simp] theorem State_errnSettle_flt_pend (s : State)  : (State.errnSettle s).flt.pend = s.flt.pend := by
  first | rfl | (simp (maxDischargeDepth := 12) [State.errnSettle]; done) | (unfold State.errnSettle; (try dsimp only); repeat' (first | rfl | (simp (maxDischargeDepth := 12); done) | (refine (foldl_keeps (fun z => z.flt.pend) _ _ _ (fun t f => ?_)).trans ?_) | (refine (foldl_keeps_fst (fun z => z.flt.pend) _ _ _ (fun t f => ?_)).trans ?_) | split))

@[simp] theorem State_reactI_flt_pend (s : State) (src : Nat) (obj : Nat)  : (State.reactI s src obj).flt.pend = s.flt.pend := by
  first | rfl | (simp (maxDischargeDepth := 12) [State.reactI]; done) | (unfold State.reactI; (try dsimp only); repeat' (first | rfl | (simp (maxDischargeDepth := 12); done) | (refine (foldl_keeps (fun z => z.flt.pend) _ _ _ (fun t f => ?_)).trans ?_) | (refine (foldl_keeps_fst (fun z => z.flt.pend) _ _ _ (fun t f => ?_)).trans ?_) | split))

@[simp] theorem State_reactC_flt_pend (s : State)  : (State.reactC s).flt.pend = s.flt.pend := by
  first | rfl | (simp (maxDischargeDepth := 12) [State.reactC]; done) | (unfold State.reactC; (try dsimp only); repeat' (first | rfl | (simp (maxDischargeDepth := 12); done) | (refine (foldl_keeps (fun z => z.flt.pend) _ _ _ (fun t f => ?_)).trans ?_) | (refine (foldl_keeps_fst (fun z => z.flt.pend) _ _ _ (fun t f => ?_)).trans ?_) | split))

@[simp] theorem State_issue_flt_pend (s : State) (src : Nat) (obj : Nat) (new : Nat)  : (State.issue s src obj new).flt.pend = s.flt.pend := by
  first | rfl | (simp (maxDischargeDepth := 12) [State.issue]; done) | (unfold State.issue; (try dsimp only); repeat' (first | rfl | (simp (maxDischargeDepth := 12); done) | (refine (foldl_keeps (fun z => z.flt.pend) _ _ _ (fun t f => ?_)).trans ?_) | (refine (foldl_keeps_fst (fun z => z.flt.pend) _ _ _ (fun t f => ?_)).trans ?_) | split))

@[simp] theorem State_countRaise_flt_pend (s : State) (src : Nat) (obj : Nat)  : (State.countRaise s src obj).flt.pend = s.flt.pend := by
  first | rfl | (simp (maxDischargeDepth := 12) [State.countRaise]; done) | (unfold State.countRaise; (try dsimp only); repeat' (first | rfl | (simp (maxDischargeDepth := 12); done) | (refine (foldl_keeps (fun z => z.flt.pend) _ _ _ (fun t f => ?_)).trans ?_) | (refine (foldl_keeps_fst (fun z => z.flt.pend) _ _ _ (fun t f => ?_)).trans ?_) | split))

@[simp] theorem State_repeatRaise_flt_pend (s : State)  : (State.repeatRaise s).flt.pend = s.flt.pend := by
  first | rfl | (simp (maxDischargeDepth := 12) [State.repeatRaise]; done) | (unfold State.repeatRaise; (try dsimp only); repeat' (first | rfl | (simp (maxDischargeDepth := 12); done) | (refine (foldl_keeps (fun z => z.flt.pend) _ _ _ (fun t f => ?_)).trans ?_) | (refine (foldl_keeps_fst (fun z => z.flt.pend) _ _ _ (fun t f => ?_)).trans ?_) | split))

@[simp] theorem State_openIncident_flt_pend (s : State) (src : Nat) (obj : Nat) (inj : Bool)  : (State.openIncident s src obj inj).flt.pend = s.flt.pend := by
  first | rfl | (simp (maxDischargeDepth := 12) [State.openIncident]; done) | (unfold State.openIncident; (try dsimp only); repeat' (first | rfl | (simp (maxDischargeDepth := 12); done) | (refine (foldl_keeps (fun z => z.flt.pend) _ _ _ (fun t f => ?_)).trans ?_) | (refine (foldl_keeps_fst (fun z => z.flt.pend) _ _ _ (fun t f => ?_)).trans ?_) | split))

@[simp] theorem State_mergeRaise_flt_pend (s : State) (src : Nat) (inj : Bool)  : (State.mergeRaise s src inj).flt.pend = s.flt.pend := by
  first | rfl | (simp (maxDischargeDepth := 12) [State.mergeRaise]; done) | (unfold State.mergeRaise; (try dsimp only); repeat' (first | rfl | (simp (maxDischargeDepth := 12); done) | (refine (foldl_keeps (fun z => z.flt.pend) _ _ _ (fun t f => ?_)).trans ?_) | (refine (foldl_keeps_fst (fun z => z.flt.pend) _ _ _ (fun t f => ?_)).trans ?_) | split))

@[simp] theorem State_handleRaise_flt_pend (s : State) (src : Nat) (obj : Nat) (newSrc : Bool)  : (State.handleRaise s src obj newSrc).flt.pend = s.flt.pend := by
  first | rfl | (simp (maxDischargeDepth := 12) [State.handleRaise]; done) | (unfold State.handleRaise; (try dsimp only); repeat' (first | rfl | (simp (maxDischargeDepth := 12); done) | (refine (foldl_keeps (fun z => z.flt.pend) _ _ _ (fun t f => ?_)).trans ?_) | (refine (foldl_keeps_fst (fun z => z.flt.pend) _ _ _ (fun t f => ?_)).trans ?_) | split))

@[simp] theorem State_abandonAudits_flt_pend (s : State)  : (State.abandonAudits s).flt.pend = s.flt.pend := by
  first | rfl | (simp (maxDischargeDepth := 12) [State.abandonAudits]; done) | (unfold State.abandonAudits; (try dsimp only); repeat' (first | rfl | (simp (maxDischargeDepth := 12); done) | (refine (foldl_keeps (fun z => z.flt.pend) _ _ _ (fun t f => ?_)).trans ?_) | (refine (foldl_keeps_fst (fun z => z.flt.pend) _ _ _ (fun t f => ?_)).trans ?_) | split))

@[simp] theorem State_concludeAudit_flt_pend (s : State) (src : Nat) (pass : Bool) (held : Bool)  : (State.concludeAudit s src pass held).flt.pend = s.flt.pend := by
  first | rfl | (simp (maxDischargeDepth := 12) [State.concludeAudit]; done) | (unfold State.concludeAudit; (try dsimp only); repeat' (first | rfl | (simp (maxDischargeDepth := 12); done) | (refine (foldl_keeps (fun z => z.flt.pend) _ _ _ (fun t f => ?_)).trans ?_) | (refine (foldl_keeps_fst (fun z => z.flt.pend) _ _ _ (fun t f => ?_)).trans ?_) | split))

@[simp] theorem State_closeIncident_flt_pend (s : State) (overrun : Bool)  : (State.closeIncident s overrun).flt.pend = s.flt.pend := by
  first | rfl | (simp (maxDischargeDepth := 12) [State.closeIncident]; done) | (unfold State.closeIncident; (try dsimp only); repeat' (first | rfl | (simp (maxDischargeDepth := 12); done) | (refine (foldl_keeps (fun z => z.flt.pend) _ _ _ (fun t f => ?_)).trans ?_) | (refine (foldl_keeps_fst (fun z => z.flt.pend) _ _ _ (fun t f => ?_)).trans ?_) | split))

@[simp] theorem State_winRefused_flt_pend (s : State) (code : Nat) (off : Nat) (write : Bool)  : (State.winRefused s code off write).flt.pend = s.flt.pend := by
  first | rfl | (simp (maxDischargeDepth := 12) [State.winRefused]; done) | (unfold State.winRefused; (try dsimp only); repeat' (first | rfl | (simp (maxDischargeDepth := 12); done) | (refine (foldl_keeps (fun z => z.flt.pend) _ _ _ (fun t f => ?_)).trans ?_) | (refine (foldl_keeps_fst (fun z => z.flt.pend) _ _ _ (fun t f => ?_)).trans ?_) | split))

@[simp] theorem State.countRaise_pend (s : State) (src obj : Nat) : (s.countRaise src obj).flt.pend = s.flt.pend := rfl

/-- The pending sources after a raise that POWER_LOST does not hide (R405, R406). -/
theorem State.raise_pend (s : State) (src obj : Nat) (inj : Bool) (h : (decide (src ≤ 8) && s.isPending 13) = false) :
    (s.raise src obj inj).flt.pend = if s.isPending src = true then s.flt.pend else orBit s.flt.pend src := by
  unfold State.raise
  dsimp only
  rw [h]
  repeat' split
  all_goals simp_all

/-- A raise that POWER_LOST does not hide leaves its source pending, and every source that was. -/
theorem State.raise_pending (s : State) (src obj : Nat) (inj : Bool) (h : (decide (src ≤ 8) && s.isPending 13) = false) :
    (s.raise src obj inj).isPending src = true ∧ ∀ k, s.isPending k = true → (s.raise src obj inj).isPending k = true := by
  have e := State.raise_pend s src obj inj h
  unfold State.isPending at *
  rw [e]
  split
  · next a => exact ⟨a, fun _ h => h⟩
  · simp only [bitAt_orBit]
    exact ⟨by simp, fun k h => by simp [h]⟩

/-- The end of a command leaves pending what was. -/
theorem closing_pending_sources (s t : State) (k : Nat) (h : t.isPending k = true) : (closing s t).isPending k = true := by
  have a : ∀ b : Bool, (if b then t.raise 44 0 else t).isPending k = true := by
    intro b; cases b
    · exact h
    · exact (State.raise_pending t 44 0 false rfl).2 k h
  have b : ∀ (x : State) (b : Bool), x.isPending k = true → (if b then x.abandonAudits else x).isPending k = true := by
    intro x b hx; cases b
    · exact hx
    · simpa [State.isPending] using hx
  exact b _ _ (a _)

end Sys2Proof.Machine
end

