-- ==== Sys2Proof/Laws/Soft.lean ====
section
/-! SUPPORT. What the end of a command leaves alone where EVENT_LOST neither stops domains nor the controller, and raises under the
default reactions (R399, R407). -/

namespace Sys2Proof.Machine

/-- The end of a command, with EVENT_LOST free of reactions B and C. -/
theorem closing_soft {s t : State} (h3 : bitAt (t.reactOf 44) 3 = false) (h2 : bitAt (t.reactOf 44) 2 = false) :
    (closing s t).start = t.start ∧ (closing s t).clk = t.clk ∧ (closing s t).doms = t.doms ∧ (closing s t).stopq = t.stopq ∧
    (closing s t).ledger = t.ledger := by
  have a : ∀ b : Bool, SoftFrame t (if b then t.raise 44 0 else t) := by
    intro b; cases b
    · constructor <;> rfl
    · exact raise_frame 0 false h3 h2
  unfold closing
  dsimp only
  generalize hx : (if (t.flt.eventLostRun && !s.flt.eventLostRun) = true then t.raise 44 0 else t) = x
  have k : SoftFrame t x := by subst hx; exact a _
  obtain ⟨_, b1, b2, _, _, _, _, _, b3, _, _, _, b5, _, _, _, _, _, _, b4, _, _, _, _, _, _, _⟩ := k
  split <;> simp [b1, b2, b3, b4, b5]

/-- The default reactions of every source but those that stop a domain or the controller are soft (R407). -/
theorem default_soft {s : State} (h : s.flt.react = []) (src : Nat) (h3 : bitAt (defaultReact src) 3 = false)
    (h2 : bitAt (defaultReact src) 2 = false) : bitAt (s.reactOf src) 3 = false ∧ bitAt (s.reactOf src) 2 = false := by
  simp [State.reactOf, h, h3, h2]

theorem closing_default {s t : State} (h : t.flt.react = []) :
    (closing s t).start = t.start ∧ (closing s t).clk = t.clk ∧ (closing s t).doms = t.doms ∧ (closing s t).stopq = t.stopq ∧
    (closing s t).ledger = t.ledger :=
  closing_soft (default_soft h 44 (by decide) (by decide)).1 (default_soft h 44 (by decide) (by decide)).2

/-! ### The warden under a soft raise: only its queue of vault writes may change -/

/-- The warden is the same but for its queue of vault writes and the time of its last state block. -/
def WardenSame (s t : State) : Prop := ∃ j b, t.warden = { s.warden with jobs := j, blockTick := b }

theorem WardenSame.refl {s t : State} (h : t.warden = s.warden) : WardenSame s t := ⟨s.warden.jobs, s.warden.blockTick, h⟩
theorem WardenSame.trans {a b c : State} (h : WardenSame a b) (k : WardenSame b c) : WardenSame a c := by
  obtain ⟨i, b, h⟩ := h; obtain ⟨j, c, k⟩ := k; exact ⟨j, c, by rw [k, h]⟩

theorem writeIncident_warden (s : State) (d : Nat) : WardenSame s (s.writeIncident d) := ⟨_, _, rfl⟩
theorem writeStateBlock_warden (s : State) : WardenSame s s.writeStateBlock := ⟨_, _, rfl⟩

theorem issue_warden {s : State} {new : Nat} (src obj : Nat) (h3 : bitAt new 3 = false) (h2 : bitAt new 2 = false) :
    WardenSame s (s.issue src obj new) := by
  unfold State.issue
  simp only [h3, h2, Bool.false_eq_true, if_false]
  have a : WardenSame s (if bitAt new 0 = true then s.reactI src obj else s) := by
    refine WardenSame.refl ?_; split
    · unfold State.reactI; split <;> simp
    · rfl
  have b : ∀ x : State, WardenSame x (if bitAt new 1 = true then x.writeIncident 0xFFFFFFFF else x) := by
    intro x; split
    · exact writeIncident_warden x _
    · exact WardenSame.refl rfl
  have c : ∀ x : State, WardenSame x (if bitAt new 4 = true then x.errnPulse else x) := by
    intro x; refine WardenSame.refl ?_; split <;> rfl
  exact (a.trans (b _)).trans (c _)

theorem handleRaise_warden {s : State} {src : Nat} (obj : Nat) (b : Bool) (h3 : bitAt (s.reactOf src) 3 = false)
    (h2 : bitAt (s.reactOf src) 2 = false) : WardenSame s (s.handleRaise src obj b) := by
  obtain ⟨n3, n2⟩ := newReact_soft obj h3 h2
  unfold State.handleRaise
  dsimp only
  have f1 : ∀ x : State, WardenSame s x → WardenSame s (x.issue src obj (s.newReact src obj)) := fun x h => h.trans (issue_warden src obj n3 n2)
  have f2 : ∀ x : State, WardenSame s x → WardenSame s (x.startAudit src obj) := fun x h => h.trans (WardenSame.refl (by simp))
  have f3 : ∀ x : State, WardenSame s x → WardenSame s x.writeStateBlock := fun x h => h.trans (writeStateBlock_warden x)
  have f4 : ∀ (x : State) l, WardenSame s x → WardenSame s (x.pushTrap l) := fun x l h => h.trans (WardenSame.refl (by simp))
  have f0 : WardenSame s { s with flt := { s.flt with inc := { s.flt.inc with react := orReact s.flt.inc.react (s.newReact src obj) } } } :=
    WardenSame.refl rfl
  repeat' (first | exact f0 | apply f3 | apply f2 | apply f1 | apply f4 | split)

/-- A raise with neither reaction C nor B queues vault writes and leaves the warden otherwise alone. -/
theorem raise_warden {s : State} {src : Nat} (obj : Nat) (inj : Bool) (h3 : bitAt (s.reactOf src) 3 = false)
    (h2 : bitAt (s.reactOf src) 2 = false) : WardenSame s (s.raise src obj inj) := by
  unfold State.raise
  dsimp only
  have c : ∀ x : State, x.flt.react = s.flt.react → x.warden = s.warden → ∀ b, WardenSame s (x.handleRaise src obj b) := fun x e h b =>
    (WardenSame.refl h).trans (handleRaise_warden obj b (by simpa [State.reactOf, e] using h3) (by simpa [State.reactOf, e] using h2))
  repeat' (first
    | (apply c <;> first | (simp [State.mergeRaise, State.openIncident, State.countRaise]; done) | rfl)
    | (refine WardenSame.refl ?_; simp; done)
    | split)

/-- So does the end of a command. -/
theorem closing_warden {s t : State} (h3 : bitAt (t.reactOf 44) 3 = false) (h2 : bitAt (t.reactOf 44) 2 = false) :
    WardenSame t (closing s t) := by
  unfold closing
  dsimp only
  have a : ∀ b : Bool, WardenSame t (if b then t.raise 44 0 else t) := by
    intro b; cases b
    · exact WardenSame.refl rfl
    · exact raise_warden 0 false h3 h2
  have b : ∀ (x : State) (b : Bool), WardenSame x ((if b then x.abandonAudits else x).alertUpdate) := by
    intro x b; refine WardenSame.refl ?_; cases b <;> simp
  exact (a _).trans (b _ _)

end Sys2Proof.Machine
end

