-- ==== Sys2Proof/Laws/SoftRings.lean ====
section
/-! SUPPORT. A raise with neither reaction C nor B posts events and leaves the rings otherwise alone. -/

namespace Sys2Proof.Machine

/-- The rings' registers and FIFOs are the same but for the event FIFO and the trap FIFO. -/
def RingsSame (s t : State) : Prop :=
  ∃ e p x y, t.rings = { s.rings with eventOut := e, eseq := p, trap := x, trapWait := y }

theorem RingsSame.refl {s t : State} (h : t.rings = s.rings) : RingsSame s t :=
  ⟨s.rings.eventOut, s.rings.eseq, s.rings.trap, s.rings.trapWait, h⟩
theorem RingsSame.trans {a b c : State} (h : RingsSame a b) (k : RingsSame b c) : RingsSame a c := by
  obtain ⟨i, p, x, y, h⟩ := h; obtain ⟨j, q, z, w, k⟩ := k; exact ⟨j, q, z, w, by rw [k, h]⟩

theorem RingsSame.ite {c : Prop} [Decidable c] {s a b : State} (h : RingsSame s a) (k : RingsSame s b) :
    RingsSame s (if c then a else b) := by
  split
  · exact h
  · exact k

theorem pushEvent_rings (s : State) (e : Event) : RingsSame s (s.pushEvent e) := by
  unfold State.pushEvent
  dsimp only
  split <;> exact ⟨_, _, s.rings.trap, s.rings.trapWait, rfl⟩

theorem pushTrap_rings (s : State) (l : List (BitVec 64)) : RingsSame s (s.pushTrap l) := by
  unfold State.pushTrap
  split <;> exact ⟨s.rings.eventOut, s.rings.eseq, _, _, rfl⟩

theorem startAudit_rings (s : State) (src obj : Nat) : (s.startAudit src obj).rings = s.rings := by
  have h : ∀ x : State, x.holdAudit.rings = x.rings := fun x => by unfold State.holdAudit; (repeat' split) <;> rfl
  unfold State.startAudit
  dsimp only
  repeat' (first | rfl | (rw [h]; rfl) | (rw [h]; simp; done) | (simp; done) | split)

theorem writeIncident_rings (s : State) (d : Nat) : RingsSame s (s.writeIncident d) := RingsSame.refl rfl
theorem writeStateBlock_rings (s : State) : RingsSame s s.writeStateBlock := RingsSame.refl rfl

theorem issue_rings {s : State} {new : Nat} (src obj : Nat) (h3 : bitAt new 3 = false) (h2 : bitAt new 2 = false) :
    RingsSame s (s.issue src obj new) := by
  unfold State.issue
  simp only [h3, h2, Bool.false_eq_true, if_false]
  have a : RingsSame s (if bitAt new 0 = true then s.reactI src obj else s) := by
    split
    · unfold State.reactI; split
      · exact RingsSame.refl rfl
      · exact pushEvent_rings _ _
    · exact RingsSame.refl rfl
  have b : ∀ x : State, RingsSame x (if bitAt new 1 = true then x.writeIncident 0xFFFFFFFF else x) := by
    intro x; split
    · exact writeIncident_rings x _
    · exact RingsSame.refl rfl
  have c : ∀ x : State, RingsSame x (if bitAt new 4 = true then x.errnPulse else x) := by
    intro x; refine RingsSame.refl ?_; split <;> rfl
  exact (a.trans (b _)).trans (c _)

theorem handleRaise_rings {s : State} {src : Nat} (obj : Nat) (b : Bool) (h3 : bitAt (s.reactOf src) 3 = false)
    (h2 : bitAt (s.reactOf src) 2 = false) : RingsSame s (s.handleRaise src obj b) := by
  obtain ⟨n3, n2⟩ := newReact_soft obj h3 h2
  unfold State.handleRaise
  dsimp only
  have f1 : ∀ x : State, RingsSame s x → RingsSame s (x.issue src obj (s.newReact src obj)) := fun x h => h.trans (issue_rings src obj n3 n2)
  have f2 : ∀ x : State, RingsSame s x → RingsSame s (x.startAudit src obj) := fun x h => h.trans (RingsSame.refl (startAudit_rings x src obj))
  have f3 : ∀ x : State, RingsSame s x → RingsSame s x.writeStateBlock := fun x h => h.trans (writeStateBlock_rings x)
  have f4 : ∀ (x : State) l, RingsSame s x → RingsSame s (x.pushTrap l) := fun x l h => h.trans (pushTrap_rings x l)
  have f0 : RingsSame s { s with flt := { s.flt with inc := { s.flt.inc with react := orReact s.flt.inc.react (s.newReact src obj) } } } :=
    RingsSame.refl rfl
  refine RingsSame.ite (f3 _ ?_) ?_ <;> refine RingsSame.ite ?_ (f2 _ ?_) <;> exact f1 _ (RingsSame.ite (f4 _ _ f0) f0)

/-- A raise with neither reaction C nor B queues vault writes and leaves the warden otherwise alone. -/
theorem raise_rings {s : State} {src : Nat} (obj : Nat) (inj : Bool) (h3 : bitAt (s.reactOf src) 3 = false)
    (h2 : bitAt (s.reactOf src) 2 = false) : RingsSame s (s.raise src obj inj) := by
  unfold State.raise
  dsimp only
  have c : ∀ x : State, x.flt.react = s.flt.react → x.rings = s.rings → ∀ b, RingsSame s (x.handleRaise src obj b) := fun x e h b =>
    (RingsSame.refl h).trans (handleRaise_rings obj b (by simpa [State.reactOf, e] using h3) (by simpa [State.reactOf, e] using h2))
  repeat' (first
    | (apply c <;> first | (simp [State.mergeRaise, State.openIncident, State.countRaise]; done) | rfl)
    | (refine RingsSame.refl ?_; simp; done)
    | split)

/-- So does the end of a command. -/
theorem closing_rings {s t : State} (h3 : bitAt (t.reactOf 44) 3 = false) (h2 : bitAt (t.reactOf 44) 2 = false) :
    RingsSame t (closing s t) := by
  unfold closing
  dsimp only
  have a : ∀ b : Bool, RingsSame t (if b then t.raise 44 0 else t) := by
    intro b; cases b
    · exact RingsSame.refl rfl
    · exact raise_rings 0 false h3 h2
  have b : ∀ (x : State) (b : Bool), RingsSame x ((if b then x.abandonAudits else x).alertUpdate) := by
    intro x b; refine RingsSame.refl ?_; cases b <;> simp
  exact (a _).trans (b _ _)

end Sys2Proof.Machine
end

