-- ==== Sys2Proof/Laws/SoftEnd.lean ====
section
/-! SUPPORT. A raise with neither reaction C nor B, and the end of its command: what both together leave alone. -/

namespace Sys2Proof.Machine

/-- What a raise without reactions B and C and the end of a command leave alone: all but the rings, the fault logic, the warden's
queue, the status registers of the SMBus, and the marks of audits on chains, lanes and converters. -/
structure SoftEnd (s t : State) : Prop where
  start : t.start = s.start
  clk : t.clk = s.clk
  win : t.win = s.win
  cells : t.cells = s.cells
  views : t.views = s.views
  creg : { t.creg with loopReq := 0 } = { s.creg with loopReq := 0 }
  eng : t.eng = s.eng
  doms : t.doms = s.doms
  sense : t.sense = s.sense
  hkcs : t.hkcs = s.hkcs
  tallies : t.tallies = s.tallies
  ledger : t.ledger = s.ledger
  tiles : t.tiles = s.tiles
  accts : t.accts = s.accts
  limits : t.limits = s.limits
  pace : t.pace = s.pace
  therm : t.therm = s.therm
  diodes : t.diodes = s.diodes
  stopq : t.stopq = s.stopq
  policy : t.policy = s.policy
  avs : t.avs = s.avs
  tap : t.tap = s.tap

theorem SoftFrame.soft {s t : State} (h : SoftFrame s t) : SoftEnd s t :=
  ⟨h.start, h.clk, h.win, h.cells, h.views, congrArg (fun c => { c with loopReq := 0 }) h.creg, h.eng, h.doms, h.sense, h.hkcs, h.tallies, h.ledger, h.tiles, h.accts, h.limits,
    h.pace, h.therm, h.diodes, h.stopq, h.policy, h.avs, h.tap⟩

theorem SoftEnd.trans {a b c : State} (h : SoftEnd a b) (k : SoftEnd b c) : SoftEnd a c :=
  ⟨k.start.trans h.start, k.clk.trans h.clk, k.win.trans h.win, k.cells.trans h.cells, k.views.trans h.views, k.creg.trans h.creg,
    k.eng.trans h.eng, k.doms.trans h.doms, k.sense.trans h.sense, k.hkcs.trans h.hkcs, k.tallies.trans h.tallies,
    k.ledger.trans h.ledger, k.tiles.trans h.tiles, k.accts.trans h.accts, k.limits.trans h.limits, k.pace.trans h.pace,
    k.therm.trans h.therm, k.diodes.trans h.diodes, k.stopq.trans h.stopq, k.policy.trans h.policy, k.avs.trans h.avs, k.tap.trans h.tap⟩

theorem alertUpdate_end (s : State) : SoftEnd s s.alertUpdate := by constructor <;> simp

theorem abandonAudits_end (s : State) : SoftEnd s s.abandonAudits := by constructor <;> simp

/-- The end of a command, with EVENT_LOST free of reactions B and C. -/
theorem closing_end {s t : State} (h3 : bitAt (t.reactOf 44) 3 = false) (h2 : bitAt (t.reactOf 44) 2 = false) :
    SoftEnd t (closing s t) := by
  have a : ∀ b : Bool, SoftEnd t (if b then t.raise 44 0 else t) := by
    intro b; cases b
    · constructor <;> rfl
    · exact (raise_frame 0 false h3 h2).soft
  unfold closing
  dsimp only
  have b : ∀ (x : State) (b : Bool), SoftEnd x (if b then x.abandonAudits else x) := by
    intro x b; cases b
    · constructor <;> rfl
    · exact abandonAudits_end x
  exact ((a _).trans (b _ _)).trans (alertUpdate_end _)

/-- A raise with neither B nor C, and the end of its command. -/
theorem raise_end {s t : State} {src : Nat} (obj : Nat) (inj : Bool) (h3 : bitAt (t.reactOf src) 3 = false)
    (h2 : bitAt (t.reactOf src) 2 = false) (k3 : bitAt (t.reactOf 44) 3 = false) (k2 : bitAt (t.reactOf 44) 2 = false) :
    SoftEnd t (closing s (t.raise src obj inj)) :=
  (raise_frame obj inj h3 h2).soft.trans
    (closing_end (by simpa [State.reactOf] using k3) (by simpa [State.reactOf] using k2))

/-- Such a raise counts once for its source (R426). -/
theorem raise_end_raised {s t : State} {src : Nat} (obj : Nat) (inj : Bool) (h : src ≠ 44) :
    (closing s (t.raise src obj inj)).flt.raised.get 0 src = incSat 65535 (t.flt.raised.get 0 src) := by
  rw [closing_raised _ _ h, raise_raised]; simp

end Sys2Proof.Machine
end

