-- ==== Sys2Proof/Laws/StopActive.lean ====
section
/-! SUPPORT. What leaves stopq.active alone. -/

set_option linter.unusedSimpArgs false
set_option linter.unusedVariables false

namespace Sys2Proof.Machine

@[simp] theorem foldl_stopq_active {α : Type} (g : State → α → State) (l : List α) (s : State) (h : ∀ t a, (g t a).stopq.active = t.stopq.active) :
    (l.foldl g s).stopq.active = s.stopq.active := foldl_keeps (·.stopq.active) g l s h
@[simp] theorem forEach_stopq_active (g : State → Nat → State) (l : List Nat) (s : State) (h : ∀ t a, (g t a).stopq.active = t.stopq.active) :
    (s.forEach l g).stopq.active = s.stopq.active := foldl_keeps (·.stopq.active) g l s h

@[simp] theorem State_vaultPut_stopq_active (s : State) (a : Nat) (l : List Byte)  : (State.vaultPut s a l).stopq.active = s.stopq.active := by
  first | rfl | (simp (maxDischargeDepth := 12) [State.vaultPut]; done) | (unfold State.vaultPut; (try dsimp only); repeat' (first | rfl | (simp (maxDischargeDepth := 12); done) | (refine (foldl_keeps (fun z => z.stopq.active) _ _ _ (fun t f => ?_)).trans ?_) | (refine (foldl_keeps_fst (fun z => z.stopq.active) _ _ _ (fun t f => ?_)).trans ?_) | split))

@[simp] theorem State_vaultPutWords_stopq_active (s : State) (a : Nat) (l : List Word)  : (State.vaultPutWords s a l).stopq.active = s.stopq.active := by
  first | rfl | (simp (maxDischargeDepth := 12) [State.vaultPutWords]; done) | (unfold State.vaultPutWords; (try dsimp only); repeat' (first | rfl | (simp (maxDischargeDepth := 12); done) | (refine (foldl_keeps (fun z => z.stopq.active) _ _ _ (fun t f => ?_)).trans ?_) | (refine (foldl_keeps_fst (fun z => z.stopq.active) _ _ _ (fun t f => ?_)).trans ?_) | split))

@[simp] theorem State_vaultJob_stopq_active (s : State) (prio : Nat) (recNo : Nat) (addr : Nat) (l : List Word)  : (State.vaultJob s prio recNo addr l).stopq.active = s.stopq.active := by
  first | rfl | (simp (maxDischargeDepth := 12) [State.vaultJob]; done) | (unfold State.vaultJob; (try dsimp only); repeat' (first | rfl | (simp (maxDischargeDepth := 12); done) | (refine (foldl_keeps (fun z => z.stopq.active) _ _ _ (fun t f => ?_)).trans ?_) | (refine (foldl_keeps_fst (fun z => z.stopq.active) _ _ _ (fun t f => ?_)).trans ?_) | split))

@[simp] theorem State_vaultFlush_stopq_active (s : State) (recNo : Nat)  : (State.vaultFlush s recNo).stopq.active = s.stopq.active := by
  first | rfl | (simp (maxDischargeDepth := 12) [State.vaultFlush]; done) | (unfold State.vaultFlush; (try dsimp only); repeat' (first | rfl | (simp (maxDischargeDepth := 12); done) | (refine (foldl_keeps (fun z => z.stopq.active) _ _ _ (fun t f => ?_)).trans ?_) | (refine (foldl_keeps_fst (fun z => z.stopq.active) _ _ _ (fun t f => ?_)).trans ?_) | split))

@[simp] theorem State_writeStateBlock_stopq_active (s : State)  : (State.writeStateBlock s).stopq.active = s.stopq.active := by
  first | rfl | (simp (maxDischargeDepth := 12) [State.writeStateBlock]; done) | (unfold State.writeStateBlock; (try dsimp only); repeat' (first | rfl | (simp (maxDischargeDepth := 12); done) | (refine (foldl_keeps (fun z => z.stopq.active) _ _ _ (fun t f => ?_)).trans ?_) | (refine (foldl_keeps_fst (fun z => z.stopq.active) _ _ _ (fun t f => ?_)).trans ?_) | split))

@[simp] theorem State_pushEvent_stopq_active (s : State) (e : Event)  : (State.pushEvent s e).stopq.active = s.stopq.active := by
  first | rfl | (simp (maxDischargeDepth := 12) [State.pushEvent]; done) | (unfold State.pushEvent; (try dsimp only); repeat' (first | rfl | (simp (maxDischargeDepth := 12); done) | (refine (foldl_keeps (fun z => z.stopq.active) _ _ _ (fun t f => ?_)).trans ?_) | (refine (foldl_keeps_fst (fun z => z.stopq.active) _ _ _ (fun t f => ?_)).trans ?_) | split))

@[simp] theorem State_publishDoms_stopq_active (s : State)  : (State.publishDoms s).stopq.active = s.stopq.active := by
  first | rfl | (simp (maxDischargeDepth := 12) [State.publishDoms]; done) | (unfold State.publishDoms; (try dsimp only); repeat' (first | rfl | (simp (maxDischargeDepth := 12); done) | (refine (foldl_keeps (fun z => z.stopq.active) _ _ _ (fun t f => ?_)).trans ?_) | (refine (foldl_keeps_fst (fun z => z.stopq.active) _ _ _ (fun t f => ?_)).trans ?_) | split))

@[simp] theorem State_stopAddCause_stopq_active (s : State) (causes : Nat)  : (State.stopAddCause s causes).stopq.active = s.stopq.active := by
  first | rfl | (simp (maxDischargeDepth := 12) [State.stopAddCause]; done) | (unfold State.stopAddCause; (try dsimp only); repeat' (first | rfl | (simp (maxDischargeDepth := 12); done) | (refine (foldl_keeps (fun z => z.stopq.active) _ _ _ (fun t f => ?_)).trans ?_) | (refine (foldl_keeps_fst (fun z => z.stopq.active) _ _ _ (fun t f => ?_)).trans ?_) | split))

@[simp] theorem State_quietRestart_stopq_active (s : State)  : (State.quietRestart s).stopq.active = s.stopq.active := by
  first | rfl | (simp (maxDischargeDepth := 12) [State.quietRestart]; done) | (unfold State.quietRestart; (try dsimp only); repeat' (first | rfl | (simp (maxDischargeDepth := 12); done) | (refine (foldl_keeps (fun z => z.stopq.active) _ _ _ (fun t f => ?_)).trans ?_) | (refine (foldl_keeps_fst (fun z => z.stopq.active) _ _ _ (fun t f => ?_)).trans ?_) | split))

@[simp] theorem State_enterStopped_stopq_active (s : State)  : (State.enterStopped s).stopq.active = s.stopq.active := by
  first | rfl | (simp (maxDischargeDepth := 12) [State.enterStopped]; done) | (unfold State.enterStopped; (try dsimp only); repeat' (first | rfl | (simp (maxDischargeDepth := 12); done) | (refine (foldl_keeps (fun z => z.stopq.active) _ _ _ (fun t f => ?_)).trans ?_) | (refine (foldl_keeps_fst (fun z => z.stopq.active) _ _ _ (fun t f => ?_)).trans ?_) | split))

@[simp] theorem State_paceSend_stopq_active (s : State) (f : PaceTx)  : (State.paceSend s f).stopq.active = s.stopq.active := by
  first | rfl | (simp (maxDischargeDepth := 12) [State.paceSend]; done) | (unfold State.paceSend; (try dsimp only); repeat' (first | rfl | (simp (maxDischargeDepth := 12); done) | (refine (foldl_keeps (fun z => z.stopq.active) _ _ _ (fun t f => ?_)).trans ?_) | (refine (foldl_keeps_fst (fun z => z.stopq.active) _ _ _ (fun t f => ?_)).trans ?_) | split))

@[simp] theorem State_newSeq_stopq_active (s : State) (old : Option Nat)  : (State.newSeq s old).2.stopq.active = s.stopq.active := by
  first | rfl | (simp (maxDischargeDepth := 12) [State.newSeq]; done) | (unfold State.newSeq; (try dsimp only); repeat' (first | rfl | (simp (maxDischargeDepth := 12); done) | (refine (foldl_keeps (fun z => z.stopq.active) _ _ _ (fun t f => ?_)).trans ?_) | (refine (foldl_keeps_fst (fun z => z.stopq.active) _ _ _ (fun t f => ?_)).trans ?_) | split))

@[simp] theorem State_paceDiscover_stopq_active (s : State)  : (State.paceDiscover s).stopq.active = s.stopq.active := by
  first | rfl | (simp (maxDischargeDepth := 12) [State.paceDiscover]; done) | (unfold State.paceDiscover; (try dsimp only); repeat' (first | rfl | (simp (maxDischargeDepth := 12); done) | (refine (foldl_keeps (fun z => z.stopq.active) _ _ _ (fun t f => ?_)).trans ?_) | (refine (foldl_keeps_fst (fun z => z.stopq.active) _ _ _ (fun t f => ?_)).trans ?_) | split))

@[simp] theorem State_paceJoin_stopq_active (s : State)  : (State.paceJoin s).stopq.active = s.stopq.active := by
  first | rfl | (simp (maxDischargeDepth := 12) [State.paceJoin]; done) | (unfold State.paceJoin; (try dsimp only); repeat' (first | rfl | (simp (maxDischargeDepth := 12); done) | (refine (foldl_keeps (fun z => z.stopq.active) _ _ _ (fun t f => ?_)).trans ?_) | (refine (foldl_keeps_fst (fun z => z.stopq.active) _ _ _ (fun t f => ?_)).trans ?_) | split))

@[simp] theorem State_paceDown_stopq_active (s : State)  : (State.paceDown s).stopq.active = s.stopq.active := by
  first | rfl | (simp (maxDischargeDepth := 12) [State.paceDown]; done) | (unfold State.paceDown; (try dsimp only); repeat' (first | rfl | (simp (maxDischargeDepth := 12); done) | (refine (foldl_keeps (fun z => z.stopq.active) _ _ _ (fun t f => ?_)).trans ?_) | (refine (foldl_keeps_fst (fun z => z.stopq.active) _ _ _ (fun t f => ?_)).trans ?_) | split))

@[simp] theorem State_paceBlockReset_stopq_active (s : State)  : (State.paceBlockReset s).stopq.active = s.stopq.active := by
  first | rfl | (simp (maxDischargeDepth := 12) [State.paceBlockReset]; done) | (unfold State.paceBlockReset; (try dsimp only); repeat' (first | rfl | (simp (maxDischargeDepth := 12); done) | (refine (foldl_keeps (fun z => z.stopq.active) _ _ _ (fun t f => ?_)).trans ?_) | (refine (foldl_keeps_fst (fun z => z.stopq.active) _ _ _ (fun t f => ?_)).trans ?_) | split))

@[simp] theorem State_paceRelease_stopq_active (s : State) (relay : Bool) (group : Nat)  : (State.paceRelease s relay group).stopq.active = s.stopq.active := by
  first | rfl | (simp (maxDischargeDepth := 12) [State.paceRelease]; done) | (unfold State.paceRelease; (try dsimp only); repeat' (first | rfl | (simp (maxDischargeDepth := 12); done) | (refine (foldl_keeps (fun z => z.stopq.active) _ _ _ (fun t f => ?_)).trans ?_) | (refine (foldl_keeps_fst (fun z => z.stopq.active) _ _ _ (fun t f => ?_)).trans ?_) | split))

@[simp] theorem State_paceLeave_stopq_active (s : State)  : (State.paceLeave s).stopq.active = s.stopq.active := by
  first | rfl | (simp (maxDischargeDepth := 12) [State.paceLeave]; done) | (unfold State.paceLeave; (try dsimp only); repeat' (first | rfl | (simp (maxDischargeDepth := 12); done) | (refine (foldl_keeps (fun z => z.stopq.active) _ _ _ (fun t f => ?_)).trans ?_) | (refine (foldl_keeps_fst (fun z => z.stopq.active) _ _ _ (fun t f => ?_)).trans ?_) | split))

@[simp] theorem State_fastReset_stopq_active (s : State) (again : Bool)  : (State.fastReset s again).stopq.active = s.stopq.active := by
  first | rfl | (simp (maxDischargeDepth := 12) [State.fastReset]; done) | (unfold State.fastReset; (try dsimp only); repeat' (first | rfl | (simp (maxDischargeDepth := 12); done) | (refine (foldl_keeps (fun z => z.stopq.active) _ _ _ (fun t f => ?_)).trans ?_) | (refine (foldl_keeps_fst (fun z => z.stopq.active) _ _ _ (fun t f => ?_)).trans ?_) | split))

@[simp] theorem State_coldReset_stopq_active (s : State)  : (State.coldReset s).stopq.active = s.stopq.active := by
  first | rfl | (simp (maxDischargeDepth := 12) [State.coldReset]; done) | (unfold State.coldReset; (try dsimp only); repeat' (first | rfl | (simp (maxDischargeDepth := 12); done) | (refine (foldl_keeps (fun z => z.stopq.active) _ _ _ (fun t f => ?_)).trans ?_) | (refine (foldl_keeps_fst (fun z => z.stopq.active) _ _ _ (fun t f => ?_)).trans ?_) | split))

@[simp] theorem State_writeIncident_stopq_active (s : State) (dur : Nat)  : (State.writeIncident s dur).stopq.active = s.stopq.active := by
  first | rfl | (simp (maxDischargeDepth := 12) [State.writeIncident]; done) | (unfold State.writeIncident; (try dsimp only); repeat' (first | rfl | (simp (maxDischargeDepth := 12); done) | (refine (foldl_keeps (fun z => z.stopq.active) _ _ _ (fun t f => ?_)).trans ?_) | (refine (foldl_keeps_fst (fun z => z.stopq.active) _ _ _ (fun t f => ?_)).trans ?_) | split))

@[simp] theorem State_pushTrap_stopq_active (s : State) (l : List (BitVec 64))  : (State.pushTrap s l).stopq.active = s.stopq.active := by
  first | rfl | (simp (maxDischargeDepth := 12) [State.pushTrap]; done) | (unfold State.pushTrap; (try dsimp only); repeat' (first | rfl | (simp (maxDischargeDepth := 12); done) | (refine (foldl_keeps (fun z => z.stopq.active) _ _ _ (fun t f => ?_)).trans ?_) | (refine (foldl_keeps_fst (fun z => z.stopq.active) _ _ _ (fun t f => ?_)).trans ?_) | split))

@[simp] theorem State_suspendAudits_stopq_active (s : State)  : (State.suspendAudits s).stopq.active = s.stopq.active := by
  first | rfl | (simp (maxDischargeDepth := 12) [State.suspendAudits]; done) | (unfold State.suspendAudits; (try dsimp only); repeat' (first | rfl | (simp (maxDischargeDepth := 12); done) | (refine (foldl_keeps (fun z => z.stopq.active) _ _ _ (fun t f => ?_)).trans ?_) | (refine (foldl_keeps_fst (fun z => z.stopq.active) _ _ _ (fun t f => ?_)).trans ?_) | split))

@[simp] theorem State_dscBlockReset_stopq_active (s : State) (d : Nat)  : (State.dscBlockReset s d).stopq.active = s.stopq.active := by
  first | rfl | (simp (maxDischargeDepth := 12) [State.dscBlockReset]; done) | (unfold State.dscBlockReset; (try dsimp only); repeat' (first | rfl | (simp (maxDischargeDepth := 12); done) | (refine (foldl_keeps (fun z => z.stopq.active) _ _ _ (fun t f => ?_)).trans ?_) | (refine (foldl_keeps_fst (fun z => z.stopq.active) _ _ _ (fun t f => ?_)).trans ?_) | split))

@[simp] theorem State_hkcBlockReset_stopq_active (s : State) (k : Nat)  : (State.hkcBlockReset s k).stopq.active = s.stopq.active := by
  first | rfl | (simp (maxDischargeDepth := 12) [State.hkcBlockReset]; done) | (unfold State.hkcBlockReset; (try dsimp only); repeat' (first | rfl | (simp (maxDischargeDepth := 12); done) | (refine (foldl_keeps (fun z => z.stopq.active) _ _ _ (fun t f => ?_)).trans ?_) | (refine (foldl_keeps_fst (fun z => z.stopq.active) _ _ _ (fun t f => ?_)).trans ?_) | split))

@[simp] theorem State_policyBlockReset_stopq_active (s : State)  : (State.policyBlockReset s).stopq.active = s.stopq.active := by
  first | rfl | (simp (maxDischargeDepth := 12) [State.policyBlockReset]; done) | (unfold State.policyBlockReset; (try dsimp only); repeat' (first | rfl | (simp (maxDischargeDepth := 12); done) | (refine (foldl_keeps (fun z => z.stopq.active) _ _ _ (fun t f => ?_)).trans ?_) | (refine (foldl_keeps_fst (fun z => z.stopq.active) _ _ _ (fun t f => ?_)).trans ?_) | split))

@[simp] theorem State_ringBlockReset_stopq_active (s : State)  : (State.ringBlockReset s).stopq.active = s.stopq.active := by
  first | rfl | (simp (maxDischargeDepth := 12) [State.ringBlockReset]; done) | (unfold State.ringBlockReset; (try dsimp only); repeat' (first | rfl | (simp (maxDischargeDepth := 12); done) | (refine (foldl_keeps (fun z => z.stopq.active) _ _ _ (fun t f => ?_)).trans ?_) | (refine (foldl_keeps_fst (fun z => z.stopq.active) _ _ _ (fun t f => ?_)).trans ?_) | split))

@[simp] theorem State_blockReleased_stopq_active (s : State) (b : Block) (obj : Nat)  : (State.blockReleased s b obj).stopq.active = s.stopq.active := by
  first | rfl | (simp (maxDischargeDepth := 12) [State.blockReleased]; done) | (unfold State.blockReleased; (try dsimp only); repeat' (first | rfl | (simp (maxDischargeDepth := 12); done) | (refine (foldl_keeps (fun z => z.stopq.active) _ _ _ (fun t f => ?_)).trans ?_) | (refine (foldl_keeps_fst (fun z => z.stopq.active) _ _ _ (fun t f => ?_)).trans ?_) | split))

@[simp] theorem State_holdAudit_stopq_active (s : State)  : (State.holdAudit s).stopq.active = s.stopq.active := by
  first | rfl | (simp (maxDischargeDepth := 12) [State.holdAudit]; done) | (unfold State.holdAudit; (try dsimp only); repeat' (first | rfl | (simp (maxDischargeDepth := 12); done) | (refine (foldl_keeps (fun z => z.stopq.active) _ _ _ (fun t f => ?_)).trans ?_) | (refine (foldl_keeps_fst (fun z => z.stopq.active) _ _ _ (fun t f => ?_)).trans ?_) | split))

@[simp] theorem State_startAudit_stopq_active (s : State) (src : Nat) (obj : Nat)  : (State.startAudit s src obj).stopq.active = s.stopq.active := by
  first | rfl | (simp (maxDischargeDepth := 12) [State.startAudit]; done) | (unfold State.startAudit; (try dsimp only); repeat' (first | rfl | (simp (maxDischargeDepth := 12); done) | (refine (foldl_keeps (fun z => z.stopq.active) _ _ _ (fun t f => ?_)).trans ?_) | (refine (foldl_keeps_fst (fun z => z.stopq.active) _ _ _ (fun t f => ?_)).trans ?_) | split))

@[simp] theorem State_burstAudit_stopq_active (s : State) (c : Nat)  : (State.burstAudit s c).stopq.active = s.stopq.active := by
  first | rfl | (simp (maxDischargeDepth := 12) [State.burstAudit]; done) | (unfold State.burstAudit; (try dsimp only); repeat' (first | rfl | (simp (maxDischargeDepth := 12); done) | (refine (foldl_keeps (fun z => z.stopq.active) _ _ _ (fun t f => ?_)).trans ?_) | (refine (foldl_keeps_fst (fun z => z.stopq.active) _ _ _ (fun t f => ?_)).trans ?_) | split))

@[simp] theorem State_errnPulse_stopq_active (s : State)  : (State.errnPulse s).stopq.active = s.stopq.active := by
  first | rfl | (simp (maxDischargeDepth := 12) [State.errnPulse]; done) | (unfold State.errnPulse; (try dsimp only); repeat' (first | rfl | (simp (maxDischargeDepth := 12); done) | (refine (foldl_keeps (fun z => z.stopq.active) _ _ _ (fun t f => ?_)).trans ?_) | (refine (foldl_keeps_fst (fun z => z.stopq.active) _ _ _ (fun t f => ?_)).trans ?_) | split))

@[simp] theorem State_errnSettle_stopq_active (s : State)  : (State.errnSettle s).stopq.active = s.stopq.active := by
  first | rfl | (simp (maxDischargeDepth := 12) [State.errnSettle]; done) | (unfold State.errnSettle; (try dsimp only); repeat' (first | rfl | (simp (maxDischargeDepth := 12); done) | (refine (foldl_keeps (fun z => z.stopq.active) _ _ _ (fun t f => ?_)).trans ?_) | (refine (foldl_keeps_fst (fun z => z.stopq.active) _ _ _ (fun t f => ?_)).trans ?_) | split))

@[simp] theorem State_reactI_stopq_active (s : State) (src : Nat) (obj : Nat)  : (State.reactI s src obj).stopq.active = s.stopq.active := by
  first | rfl | (simp (maxDischargeDepth := 12) [State.reactI]; done) | (unfold State.reactI; (try dsimp only); repeat' (first | rfl | (simp (maxDischargeDepth := 12); done) | (refine (foldl_keeps (fun z => z.stopq.active) _ _ _ (fun t f => ?_)).trans ?_) | (refine (foldl_keeps_fst (fun z => z.stopq.active) _ _ _ (fun t f => ?_)).trans ?_) | split))

@[simp] theorem State_countRaise_stopq_active (s : State) (src : Nat) (obj : Nat)  : (State.countRaise s src obj).stopq.active = s.stopq.active := by
  first | rfl | (simp (maxDischargeDepth := 12) [State.countRaise]; done) | (unfold State.countRaise; (try dsimp only); repeat' (first | rfl | (simp (maxDischargeDepth := 12); done) | (refine (foldl_keeps (fun z => z.stopq.active) _ _ _ (fun t f => ?_)).trans ?_) | (refine (foldl_keeps_fst (fun z => z.stopq.active) _ _ _ (fun t f => ?_)).trans ?_) | split))

@[simp] theorem State_repeatRaise_stopq_active (s : State)  : (State.repeatRaise s).stopq.active = s.stopq.active := by
  first | rfl | (simp (maxDischargeDepth := 12) [State.repeatRaise]; done) | (unfold State.repeatRaise; (try dsimp only); repeat' (first | rfl | (simp (maxDischargeDepth := 12); done) | (refine (foldl_keeps (fun z => z.stopq.active) _ _ _ (fun t f => ?_)).trans ?_) | (refine (foldl_keeps_fst (fun z => z.stopq.active) _ _ _ (fun t f => ?_)).trans ?_) | split))

@[simp] theorem State_openIncident_stopq_active (s : State) (src : Nat) (obj : Nat) (inj : Bool)  : (State.openIncident s src obj inj).stopq.active = s.stopq.active := by
  first | rfl | (simp (maxDischargeDepth := 12) [State.openIncident]; done) | (unfold State.openIncident; (try dsimp only); repeat' (first | rfl | (simp (maxDischargeDepth := 12); done) | (refine (foldl_keeps (fun z => z.stopq.active) _ _ _ (fun t f => ?_)).trans ?_) | (refine (foldl_keeps_fst (fun z => z.stopq.active) _ _ _ (fun t f => ?_)).trans ?_) | split))

@[simp] theorem State_mergeRaise_stopq_active (s : State) (src : Nat) (inj : Bool)  : (State.mergeRaise s src inj).stopq.active = s.stopq.active := by
  first | rfl | (simp (maxDischargeDepth := 12) [State.mergeRaise]; done) | (unfold State.mergeRaise; (try dsimp only); repeat' (first | rfl | (simp (maxDischargeDepth := 12); done) | (refine (foldl_keeps (fun z => z.stopq.active) _ _ _ (fun t f => ?_)).trans ?_) | (refine (foldl_keeps_fst (fun z => z.stopq.active) _ _ _ (fun t f => ?_)).trans ?_) | split))

@[simp] theorem State_abandonAudits_stopq_active (s : State)  : (State.abandonAudits s).stopq.active = s.stopq.active := by
  first | rfl | (simp (maxDischargeDepth := 12) [State.abandonAudits]; done) | (unfold State.abandonAudits; (try dsimp only); repeat' (first | rfl | (simp (maxDischargeDepth := 12); done) | (refine (foldl_keeps (fun z => z.stopq.active) _ _ _ (fun t f => ?_)).trans ?_) | (refine (foldl_keeps_fst (fun z => z.stopq.active) _ _ _ (fun t f => ?_)).trans ?_) | split))

@[simp] theorem State_concludeAudit_stopq_active (s : State) (src : Nat) (pass : Bool) (held : Bool)  : (State.concludeAudit s src pass held).stopq.active = s.stopq.active := by
  first | rfl | (simp (maxDischargeDepth := 12) [State.concludeAudit]; done) | (unfold State.concludeAudit; (try dsimp only); repeat' (first | rfl | (simp (maxDischargeDepth := 12); done) | (refine (foldl_keeps (fun z => z.stopq.active) _ _ _ (fun t f => ?_)).trans ?_) | (refine (foldl_keeps_fst (fun z => z.stopq.active) _ _ _ (fun t f => ?_)).trans ?_) | split))

@[simp] theorem State_closeIncident_stopq_active (s : State) (overrun : Bool)  : (State.closeIncident s overrun).stopq.active = s.stopq.active := by
  first | rfl | (simp (maxDischargeDepth := 12) [State.closeIncident]; done) | (unfold State.closeIncident; (try dsimp only); repeat' (first | rfl | (simp (maxDischargeDepth := 12); done) | (refine (foldl_keeps (fun z => z.stopq.active) _ _ _ (fun t f => ?_)).trans ?_) | (refine (foldl_keeps_fst (fun z => z.stopq.active) _ _ _ (fun t f => ?_)).trans ?_) | split))

@[simp] theorem State_winRefused_stopq_active (s : State) (code : Nat) (off : Nat) (write : Bool)  : (State.winRefused s code off write).stopq.active = s.stopq.active := by
  first | rfl | (simp (maxDischargeDepth := 12) [State.winRefused]; done) | (unfold State.winRefused; (try dsimp only); repeat' (first | rfl | (simp (maxDischargeDepth := 12); done) | (refine (foldl_keeps (fun z => z.stopq.active) _ _ _ (fun t f => ?_)).trans ?_) | (refine (foldl_keeps_fst (fun z => z.stopq.active) _ _ _ (fun t f => ?_)).trans ?_) | split))

@[simp] theorem State_pushCompl_stopq_active (s : State) (c : Compl)  : (State.pushCompl s c).stopq.active = s.stopq.active := by
  first | rfl | (simp (maxDischargeDepth := 12) [State.pushCompl]; done) | (unfold State.pushCompl; (try dsimp only); repeat' (first | rfl | (simp (maxDischargeDepth := 12); done) | (refine (foldl_keeps (fun z => z.stopq.active) _ _ _ (fun t f => ?_)).trans ?_) | (refine (foldl_keeps_fst (fun z => z.stopq.active) _ _ _ (fun t f => ?_)).trans ?_) | split))

@[simp] theorem State_complete_stopq_active (s : State) (x : CmdCtx) (opcode : Nat) (status : Nat) (data : Nat)  : (State.complete s x opcode status data).stopq.active = s.stopq.active := by
  first | rfl | (simp (maxDischargeDepth := 12) [State.complete]; done) | (unfold State.complete; (try dsimp only); repeat' (first | rfl | (simp (maxDischargeDepth := 12); done) | (refine (foldl_keeps (fun z => z.stopq.active) _ _ _ (fun t f => ?_)).trans ?_) | (refine (foldl_keeps_fst (fun z => z.stopq.active) _ _ _ (fun t f => ?_)).trans ?_) | split))

@[simp] theorem State_addFlight_stopq_active (s : State) (x : CmdCtx) (opcode : Nat) (w : WaitFor) (data : Nat)  : (State.addFlight s x opcode w data).stopq.active = s.stopq.active := by
  first | rfl | (simp (maxDischargeDepth := 12) [State.addFlight]; done) | (unfold State.addFlight; (try dsimp only); repeat' (first | rfl | (simp (maxDischargeDepth := 12); done) | (refine (foldl_keeps (fun z => z.stopq.active) _ _ _ (fun t f => ?_)).trans ?_) | (refine (foldl_keeps_fst (fun z => z.stopq.active) _ _ _ (fun t f => ?_)).trans ?_) | split))

@[simp] theorem State_finishWhere_stopq_active (s : State) (p : Flight → Option (Nat × Nat))  : (State.finishWhere s p).stopq.active = s.stopq.active := by
  first | rfl | (simp (maxDischargeDepth := 12) [State.finishWhere]; done) | (unfold State.finishWhere; (try dsimp only); repeat' (first | rfl | (simp (maxDischargeDepth := 12); done) | (refine (foldl_keeps (fun z => z.stopq.active) _ _ _ (fun t f => ?_)).trans ?_) | (refine (foldl_keeps_fst (fun z => z.stopq.active) _ _ _ (fun t f => ?_)).trans ?_) | split))

@[simp] theorem State_finish_stopq_active (s : State) (w : WaitFor) (status : Nat) (data : Nat)  : (State.finish s w status data).stopq.active = s.stopq.active := by
  first | rfl | (simp (maxDischargeDepth := 12) [State.finish]; done) | (unfold State.finish; (try dsimp only); repeat' (first | rfl | (simp (maxDischargeDepth := 12); done) | (refine (foldl_keeps (fun z => z.stopq.active) _ _ _ (fun t f => ?_)).trans ?_) | (refine (foldl_keeps_fst (fun z => z.stopq.active) _ _ _ (fun t f => ?_)).trans ?_) | split))

@[simp] theorem State_flightData_stopq_active (s : State) (w : WaitFor) (data : Nat)  : (State.flightData s w data).stopq.active = s.stopq.active := by
  first | rfl | (simp (maxDischargeDepth := 12) [State.flightData]; done) | (unfold State.flightData; (try dsimp only); repeat' (first | rfl | (simp (maxDischargeDepth := 12); done) | (refine (foldl_keeps (fun z => z.stopq.active) _ _ _ (fun t f => ?_)).trans ?_) | (refine (foldl_keeps_fst (fun z => z.stopq.active) _ _ _ (fun t f => ?_)).trans ?_) | split))

@[simp] theorem State_supersede_stopq_active (s : State) (x : CmdCtx)  : (State.supersede s x).stopq.active = s.stopq.active := by
  first | rfl | (simp (maxDischargeDepth := 12) [State.supersede]; done) | (unfold State.supersede; (try dsimp only); repeat' (first | rfl | (simp (maxDischargeDepth := 12); done) | (refine (foldl_keeps (fun z => z.stopq.active) _ _ _ (fun t f => ?_)).trans ?_) | (refine (foldl_keeps_fst (fun z => z.stopq.active) _ _ _ (fun t f => ?_)).trans ?_) | split))

@[simp] theorem State_queueOrder_stopq_active (s : State) (i : Nat) (op : Nat) (arg : Nat) (origin : Origin)  : (State.queueOrder s i op arg origin).stopq.active = s.stopq.active := by
  first | rfl | (simp (maxDischargeDepth := 12) [State.queueOrder]; done) | (unfold State.queueOrder; (try dsimp only); repeat' (first | rfl | (simp (maxDischargeDepth := 12); done) | (refine (foldl_keeps (fun z => z.stopq.active) _ _ _ (fun t f => ?_)).trans ?_) | (refine (foldl_keeps_fst (fun z => z.stopq.active) _ _ _ (fun t f => ?_)).trans ?_) | split))

@[simp] theorem State_queueRead_stopq_active (s : State) (i : Nat) (origin : Origin)  : (State.queueRead s i origin).stopq.active = s.stopq.active := by
  first | rfl | (simp (maxDischargeDepth := 12) [State.queueRead]; done) | (unfold State.queueRead; (try dsimp only); repeat' (first | rfl | (simp (maxDischargeDepth := 12); done) | (refine (foldl_keeps (fun z => z.stopq.active) _ _ _ (fun t f => ?_)).trans ?_) | (refine (foldl_keeps_fst (fun z => z.stopq.active) _ _ _ (fun t f => ?_)).trans ?_) | split))

@[simp] theorem State_queueCfg_stopq_active (s : State) (d : Nat) (record : Bool)  : (State.queueCfg s d record).stopq.active = s.stopq.active := by
  first | rfl | (simp (maxDischargeDepth := 12) [State.queueCfg]; done) | (unfold State.queueCfg; (try dsimp only); repeat' (first | rfl | (simp (maxDischargeDepth := 12); done) | (refine (foldl_keeps (fun z => z.stopq.active) _ _ _ (fun t f => ?_)).trans ?_) | (refine (foldl_keeps_fst (fun z => z.stopq.active) _ _ _ (fun t f => ?_)).trans ?_) | split))

@[simp] theorem State_queueTrim_stopq_active (s : State) (i : Nat)  : (State.queueTrim s i).stopq.active = s.stopq.active := by
  first | rfl | (simp (maxDischargeDepth := 12) [State.queueTrim]; done) | (unfold State.queueTrim; (try dsimp only); repeat' (first | rfl | (simp (maxDischargeDepth := 12); done) | (refine (foldl_keeps (fun z => z.stopq.active) _ _ _ (fun t f => ?_)).trans ?_) | (refine (foldl_keeps_fst (fun z => z.stopq.active) _ _ _ (fun t f => ?_)).trans ?_) | split))

@[simp] theorem State_loanAccept_stopq_active (s : State) (i : Nat) (recalling : Bool) (cover : Bool) (origin : Origin)  : (State.loanAccept s i recalling cover origin).stopq.active = s.stopq.active := by
  first | rfl | (simp (maxDischargeDepth := 12) [State.loanAccept]; done) | (unfold State.loanAccept; (try dsimp only); repeat' (first | rfl | (simp (maxDischargeDepth := 12); done) | (refine (foldl_keeps (fun z => z.stopq.active) _ _ _ (fun t f => ?_)).trans ?_) | (refine (foldl_keeps_fst (fun z => z.stopq.active) _ _ _ (fun t f => ?_)).trans ?_) | split))

@[simp] theorem State_updLoan_stopq_active (s : State) (c : Nat) (f : Loan → Loan)  : (State.updLoan s c f).stopq.active = s.stopq.active := by
  first | rfl | (simp (maxDischargeDepth := 12) [State.updLoan]; done) | (unfold State.updLoan; (try dsimp only); repeat' (first | rfl | (simp (maxDischargeDepth := 12); done) | (refine (foldl_keeps (fun z => z.stopq.active) _ _ _ (fun t f => ?_)).trans ?_) | (refine (foldl_keeps_fst (fun z => z.stopq.active) _ _ _ (fun t f => ?_)).trans ?_) | split))

@[simp] theorem State_loanBegin_stopq_active (s : State) (c : Nat) (l : Loan)  : (State.loanBegin s c l).stopq.active = s.stopq.active := by
  first | rfl | (simp (maxDischargeDepth := 12) [State.loanBegin]; done) | (unfold State.loanBegin; (try dsimp only); repeat' (first | rfl | (simp (maxDischargeDepth := 12); done) | (refine (foldl_keeps (fun z => z.stopq.active) _ _ _ (fun t f => ?_)).trans ?_) | (refine (foldl_keeps_fst (fun z => z.stopq.active) _ _ _ (fun t f => ?_)).trans ?_) | split))

@[simp] theorem State_loanEnd_stopq_active (s : State) (c : Nat) (l : Loan) (status : Nat)  : (State.loanEnd s c l status).stopq.active = s.stopq.active := by
  first | rfl | (simp (maxDischargeDepth := 12) [State.loanEnd]; done) | (unfold State.loanEnd; (try dsimp only); repeat' (first | rfl | (simp (maxDischargeDepth := 12); done) | (refine (foldl_keeps (fun z => z.stopq.active) _ _ _ (fun t f => ?_)).trans ?_) | (refine (foldl_keeps_fst (fun z => z.stopq.active) _ _ _ (fun t f => ?_)).trans ?_) | split))

@[simp] theorem State_loanDropped_stopq_active (s : State) (c : Nat) (l : Loan)  : (State.loanDropped s c l).stopq.active = s.stopq.active := by
  first | rfl | (simp (maxDischargeDepth := 12) [State.loanDropped]; done) | (unfold State.loanDropped; (try dsimp only); repeat' (first | rfl | (simp (maxDischargeDepth := 12); done) | (refine (foldl_keeps (fun z => z.stopq.active) _ _ _ (fun t f => ?_)).trans ?_) | (refine (foldl_keeps_fst (fun z => z.stopq.active) _ _ _ (fun t f => ?_)).trans ?_) | split))

@[simp] theorem State_loanAborted_stopq_active (s : State) (c : Nat) (l : Loan)  : (State.loanAborted s c l).stopq.active = s.stopq.active := by
  first | rfl | (simp (maxDischargeDepth := 12) [State.loanAborted]; done) | (unfold State.loanAborted; (try dsimp only); repeat' (first | rfl | (simp (maxDischargeDepth := 12); done) | (refine (foldl_keeps (fun z => z.stopq.active) _ _ _ (fun t f => ?_)).trans ?_) | (refine (foldl_keeps_fst (fun z => z.stopq.active) _ _ _ (fun t f => ?_)).trans ?_) | split))

@[simp] theorem State_loanAbandonNear_stopq_active (s : State) (c : Nat) (l : Loan)  : (State.loanAbandonNear s c l).stopq.active = s.stopq.active := by
  first | rfl | (simp (maxDischargeDepth := 12) [State.loanAbandonNear]; done) | (unfold State.loanAbandonNear; (try dsimp only); repeat' (first | rfl | (simp (maxDischargeDepth := 12); done) | (refine (foldl_keeps (fun z => z.stopq.active) _ _ _ (fun t f => ?_)).trans ?_) | (refine (foldl_keeps_fst (fun z => z.stopq.active) _ _ _ (fun t f => ?_)).trans ?_) | split))

@[simp] theorem State_loanAbandonFar_stopq_active (s : State) (c : Nat) (l : Loan)  : (State.loanAbandonFar s c l).stopq.active = s.stopq.active := by
  first | rfl | (simp (maxDischargeDepth := 12) [State.loanAbandonFar]; done) | (unfold State.loanAbandonFar; (try dsimp only); repeat' (first | rfl | (simp (maxDischargeDepth := 12); done) | (refine (foldl_keeps (fun z => z.stopq.active) _ _ _ (fun t f => ?_)).trans ?_) | (refine (foldl_keeps_fst (fun z => z.stopq.active) _ _ _ (fun t f => ?_)).trans ?_) | split))

@[simp] theorem State_loanJoin_stopq_active (s : State) (c : Nat) (l : Loan)  : (State.loanJoin s c l).stopq.active = s.stopq.active := by
  first | rfl | (simp (maxDischargeDepth := 12) [State.loanJoin]; done) | (unfold State.loanJoin; (try dsimp only); repeat' (first | rfl | (simp (maxDischargeDepth := 12); done) | (refine (foldl_keeps (fun z => z.stopq.active) _ _ _ (fun t f => ?_)).trans ?_) | (refine (foldl_keeps_fst (fun z => z.stopq.active) _ _ _ (fun t f => ?_)).trans ?_) | split))

@[simp] theorem State_loanCommit_stopq_active (s : State) (c : Nat)  : (State.loanCommit s c).stopq.active = s.stopq.active := by
  first | rfl | (simp (maxDischargeDepth := 12) [State.loanCommit]; done) | (unfold State.loanCommit; (try dsimp only); repeat' (first | rfl | (simp (maxDischargeDepth := 12); done) | (refine (foldl_keeps (fun z => z.stopq.active) _ _ _ (fun t f => ?_)).trans ?_) | (refine (foldl_keeps_fst (fun z => z.stopq.active) _ _ _ (fun t f => ?_)).trans ?_) | split))

@[simp] theorem State_offOrder_stopq_active (s : State) (d : Nat)  : (State.offOrder s d).stopq.active = s.stopq.active := by
  first | rfl | (simp (maxDischargeDepth := 12) [State.offOrder]; done) | (unfold State.offOrder; (try dsimp only); repeat' (first | rfl | (simp (maxDischargeDepth := 12); done) | (refine (foldl_keeps (fun z => z.stopq.active) _ _ _ (fun t f => ?_)).trans ?_) | (refine (foldl_keeps_fst (fun z => z.stopq.active) _ _ _ (fun t f => ?_)).trans ?_) | split))

@[simp] theorem State_startCommit_stopq_active (s : State) (d : Nat)  : (State.startCommit s d).stopq.active = s.stopq.active := by
  first | rfl | (simp (maxDischargeDepth := 12) [State.startCommit]; done) | (unfold State.startCommit; (try dsimp only); repeat' (first | rfl | (simp (maxDischargeDepth := 12); done) | (refine (foldl_keeps (fun z => z.stopq.active) _ _ _ (fun t f => ?_)).trans ?_) | (refine (foldl_keeps_fst (fun z => z.stopq.active) _ _ _ (fun t f => ?_)).trans ?_) | split))

@[simp] theorem State_updAudit_stopq_active (s : State) (i : Nat) (f : CAudit → CAudit)  : (State.updAudit s i f).stopq.active = s.stopq.active := by
  first | rfl | (simp (maxDischargeDepth := 12) [State.updAudit]; done) | (unfold State.updAudit; (try dsimp only); repeat' (first | rfl | (simp (maxDischargeDepth := 12); done) | (refine (foldl_keeps (fun z => z.stopq.active) _ _ _ (fun t f => ?_)).trans ?_) | (refine (foldl_keeps_fst (fun z => z.stopq.active) _ _ _ (fun t f => ?_)).trans ?_) | split))

@[simp] theorem State_dropAudit_stopq_active (s : State) (i : Nat)  : (State.dropAudit s i).stopq.active = s.stopq.active := by
  first | rfl | (simp (maxDischargeDepth := 12) [State.dropAudit]; done) | (unfold State.dropAudit; (try dsimp only); repeat' (first | rfl | (simp (maxDischargeDepth := 12); done) | (refine (foldl_keeps (fun z => z.stopq.active) _ _ _ (fun t f => ?_)).trans ?_) | (refine (foldl_keeps_fst (fun z => z.stopq.active) _ _ _ (fun t f => ?_)).trans ?_) | split))

@[simp] theorem State_auditTest_stopq_active (s : State) (i : Nat)  : (State.auditTest s i).stopq.active = s.stopq.active := by
  first | rfl | (simp (maxDischargeDepth := 12) [State.auditTest]; done) | (unfold State.auditTest; (try dsimp only); repeat' (first | rfl | (simp (maxDischargeDepth := 12); done) | (refine (foldl_keeps (fun z => z.stopq.active) _ _ _ (fun t f => ?_)).trans ?_) | (refine (foldl_keeps_fst (fun z => z.stopq.active) _ _ _ (fun t f => ?_)).trans ?_) | split))

@[simp] theorem State_auditLasting_stopq_active (s : State) (a : CAudit)  : (State.auditLasting s a).stopq.active = s.stopq.active := by
  first | rfl | (simp (maxDischargeDepth := 12) [State.auditLasting]; done) | (unfold State.auditLasting; (try dsimp only); repeat' (first | rfl | (simp (maxDischargeDepth := 12); done) | (refine (foldl_keeps (fun z => z.stopq.active) _ _ _ (fun t f => ?_)).trans ?_) | (refine (foldl_keeps_fst (fun z => z.stopq.active) _ _ _ (fun t f => ?_)).trans ?_) | split))

@[simp] theorem State_coverDone_stopq_active (s : State) (k : Nat)  : (State.coverDone s k).stopq.active = s.stopq.active := by
  first | rfl | (simp (maxDischargeDepth := 12) [State.coverDone]; done) | (unfold State.coverDone; (try dsimp only); repeat' (first | rfl | (simp (maxDischargeDepth := 12); done) | (refine (foldl_keeps (fun z => z.stopq.active) _ _ _ (fun t f => ?_)).trans ?_) | (refine (foldl_keeps_fst (fun z => z.stopq.active) _ _ _ (fun t f => ?_)).trans ?_) | split))

@[simp] theorem State_auditRecall_stopq_active (s : State) (k : Nat)  : (State.auditRecall s k).stopq.active = s.stopq.active := by
  first | rfl | (simp (maxDischargeDepth := 12) [State.auditRecall]; done) | (unfold State.auditRecall; (try dsimp only); repeat' (first | rfl | (simp (maxDischargeDepth := 12); done) | (refine (foldl_keeps (fun z => z.stopq.active) _ _ _ (fun t f => ?_)).trans ?_) | (refine (foldl_keeps_fst (fun z => z.stopq.active) _ _ _ (fun t f => ?_)).trans ?_) | split))

@[simp] theorem State_auditRejoined_stopq_active (s : State) (a : CAudit)  : (State.auditRejoined s a).stopq.active = s.stopq.active := by
  first | rfl | (simp (maxDischargeDepth := 12) [State.auditRejoined]; done) | (unfold State.auditRejoined; (try dsimp only); repeat' (first | rfl | (simp (maxDischargeDepth := 12); done) | (refine (foldl_keeps (fun z => z.stopq.active) _ _ _ (fun t f => ?_)).trans ?_) | (refine (foldl_keeps_fst (fun z => z.stopq.active) _ _ _ (fun t f => ?_)).trans ?_) | split))

@[simp] theorem State_auditReturn_stopq_active (s : State) (a : CAudit)  : (State.auditReturn s a).stopq.active = s.stopq.active := by
  first | rfl | (simp (maxDischargeDepth := 12) [State.auditReturn]; done) | (unfold State.auditReturn; (try dsimp only); repeat' (first | rfl | (simp (maxDischargeDepth := 12); done) | (refine (foldl_keeps (fun z => z.stopq.active) _ _ _ (fun t f => ?_)).trans ?_) | (refine (foldl_keeps_fst (fun z => z.stopq.active) _ _ _ (fun t f => ?_)).trans ?_) | split))

@[simp] theorem State_auditTransient_stopq_active (s : State) (a : CAudit)  : (State.auditTransient s a).stopq.active = s.stopq.active := by
  first | rfl | (simp (maxDischargeDepth := 12) [State.auditTransient]; done) | (unfold State.auditTransient; (try dsimp only); repeat' (first | rfl | (simp (maxDischargeDepth := 12); done) | (refine (foldl_keeps (fun z => z.stopq.active) _ _ _ (fun t f => ?_)).trans ?_) | (refine (foldl_keeps_fst (fun z => z.stopq.active) _ _ _ (fun t f => ?_)).trans ?_) | split))

@[simp] theorem State_auditCommit_stopq_active (s : State) (a : CAudit)  : (State.auditCommit s a).stopq.active = s.stopq.active := by
  first | rfl | (simp (maxDischargeDepth := 12) [State.auditCommit]; done) | (unfold State.auditCommit; (try dsimp only); repeat' (first | rfl | (simp (maxDischargeDepth := 12); done) | (refine (foldl_keeps (fun z => z.stopq.active) _ _ _ (fun t f => ?_)).trans ?_) | (refine (foldl_keeps_fst (fun z => z.stopq.active) _ _ _ (fun t f => ?_)).trans ?_) | split))

@[simp] theorem State_auditRejoin_stopq_active (s : State) (a : CAudit)  : (State.auditRejoin s a).stopq.active = s.stopq.active := by
  first | rfl | (simp (maxDischargeDepth := 12) [State.auditRejoin]; done) | (unfold State.auditRejoin; (try dsimp only); repeat' (first | rfl | (simp (maxDischargeDepth := 12); done) | (refine (foldl_keeps (fun z => z.stopq.active) _ _ _ (fun t f => ?_)).trans ?_) | (refine (foldl_keeps_fst (fun z => z.stopq.active) _ _ _ (fun t f => ?_)).trans ?_) | split))

@[simp] theorem State_auditReply_stopq_active (s : State) (o : Order) (r : Option (Nat × Nat))  : (State.auditReply s o r).stopq.active = s.stopq.active := by
  first | rfl | (simp (maxDischargeDepth := 12) [State.auditReply]; done) | (unfold State.auditReply; (try dsimp only); repeat' (first | rfl | (simp (maxDischargeDepth := 12); done) | (refine (foldl_keeps (fun z => z.stopq.active) _ _ _ (fun t f => ?_)).trans ?_) | (refine (foldl_keeps_fst (fun z => z.stopq.active) _ _ _ (fun t f => ?_)).trans ?_) | split))

@[simp] theorem State_adoptReply_stopq_active (s : State) (o : Order) (r : Option (Nat × Nat))  : (State.adoptReply s o r).stopq.active = s.stopq.active := by
  first | rfl | (simp (maxDischargeDepth := 12) [State.adoptReply]; done) | (unfold State.adoptReply; (try dsimp only); repeat' (first | rfl | (simp (maxDischargeDepth := 12); done) | (refine (foldl_keeps (fun z => z.stopq.active) _ _ _ (fun t f => ?_)).trans ?_) | (refine (foldl_keeps_fst (fun z => z.stopq.active) _ _ _ (fun t f => ?_)).trans ?_) | split))

@[simp] theorem State_queuePages_stopq_active (s : State) (l : List Nat)  : (State.queuePages s l).stopq.active = s.stopq.active := by
  first | rfl | (simp (maxDischargeDepth := 12) [State.queuePages]; done) | (unfold State.queuePages; (try dsimp only); repeat' (first | rfl | (simp (maxDischargeDepth := 12); done) | (refine (foldl_keeps (fun z => z.stopq.active) _ _ _ (fun t f => ?_)).trans ?_) | (refine (foldl_keeps_fst (fun z => z.stopq.active) _ _ _ (fun t f => ?_)).trans ?_) | split))

@[simp] theorem State_onChain_stopq_active (s : State) (c : Nat) (f : Nat → Cell → Cell)  : (State.onChain s c f).stopq.active = s.stopq.active := by
  first | rfl | (simp (maxDischargeDepth := 12) [State.onChain]; done) | (unfold State.onChain; (try dsimp only); repeat' (first | rfl | (simp (maxDischargeDepth := 12); done) | (refine (foldl_keeps (fun z => z.stopq.active) _ _ _ (fun t f => ?_)).trans ?_) | (refine (foldl_keeps_fst (fun z => z.stopq.active) _ _ _ (fun t f => ?_)).trans ?_) | split))

@[simp] theorem State_meansDrawn_stopq_active (s : State)  : (State.meansDrawn s).stopq.active = s.stopq.active := by
  first | rfl | (simp (maxDischargeDepth := 12) [State.meansDrawn]; done) | (unfold State.meansDrawn; (try dsimp only); repeat' (first | rfl | (simp (maxDischargeDepth := 12); done) | (refine (foldl_keeps (fun z => z.stopq.active) _ _ _ (fun t f => ?_)).trans ?_) | (refine (foldl_keeps_fst (fun z => z.stopq.active) _ _ _ (fun t f => ?_)).trans ?_) | split))

@[simp] theorem State_checkedFrame_stopq_active (s : State) (c : ChainIx) (payload : BitVec 64) (f : Nat → Cell → Cell)  : (State.checkedFrame s c payload f).stopq.active = s.stopq.active := by
  first | rfl | (simp (maxDischargeDepth := 12) [State.checkedFrame]; done) | (unfold State.checkedFrame; (try dsimp only); repeat' (first | rfl | (simp (maxDischargeDepth := 12); done) | (refine (foldl_keeps (fun z => z.stopq.active) _ _ _ (fun t f => ?_)).trans ?_) | (refine (foldl_keeps_fst (fun z => z.stopq.active) _ _ _ (fun t f => ?_)).trans ?_) | split))

@[simp] theorem State_reply_stopq_active (s : State) (c : ChainIx) (type : Nat) (p : Nat)  : (State.reply s c type p).stopq.active = s.stopq.active := by
  first | rfl | (simp (maxDischargeDepth := 12) [State.reply]; done) | (unfold State.reply; (try dsimp only); repeat' (first | rfl | (simp (maxDischargeDepth := 12); done) | (refine (foldl_keeps (fun z => z.stopq.active) _ _ _ (fun t f => ?_)).trans ?_) | (refine (foldl_keeps_fst (fun z => z.stopq.active) _ _ _ (fun t f => ?_)).trans ?_) | split))

@[simp] theorem State_passFrame_stopq_active (s : State) (c : ChainIx) (frame : Nat)  : (State.passFrame s c frame).stopq.active = s.stopq.active := by
  first | rfl | (simp (maxDischargeDepth := 12) [State.passFrame]; done) | (unfold State.passFrame; (try dsimp only); repeat' (first | rfl | (simp (maxDischargeDepth := 12); done) | (refine (foldl_keeps (fun z => z.stopq.active) _ _ _ (fun t f => ?_)).trans ?_) | (refine (foldl_keeps_fst (fun z => z.stopq.active) _ _ _ (fun t f => ?_)).trans ?_) | split))

@[simp] theorem State_order_stopq_active (s : State) (c : ChainIx) (h : CmdHdr) (op : Nat) (act : Nat → Cell → Nat × Nat × Cell)  : (State.order s c h op act).stopq.active = s.stopq.active := by
  first | rfl | (simp (maxDischargeDepth := 12) [State.order]; done) | (unfold State.order; (try dsimp only); repeat' (first | rfl | (simp (maxDischargeDepth := 12); done) | (refine (foldl_keeps (fun z => z.stopq.active) _ _ _ (fun t f => ?_)).trans ?_) | (refine (foldl_keeps_fst (fun z => z.stopq.active) _ _ _ (fun t f => ?_)).trans ?_) | split))

@[simp] theorem State_sendOrder_stopq_active (s : State) (c : Nat) (o : Order)  : (State.sendOrder s c o).1.stopq.active = s.stopq.active := by
  first | rfl | (simp (maxDischargeDepth := 12) [State.sendOrder]; done) | (unfold State.sendOrder; (try dsimp only); repeat' (first | rfl | (simp (maxDischargeDepth := 12); done) | (refine (foldl_keeps (fun z => z.stopq.active) _ _ _ (fun t f => ?_)).trans ?_) | (refine (foldl_keeps_fst (fun z => z.stopq.active) _ _ _ (fun t f => ?_)).trans ?_) | split))

@[simp] theorem State_loanBoundary_stopq_active (s : State) (c : Nat)  : (State.loanBoundary s c).stopq.active = s.stopq.active := by
  first | rfl | (simp (maxDischargeDepth := 12) [State.loanBoundary]; done) | (unfold State.loanBoundary; (try dsimp only); repeat' (first | rfl | (simp (maxDischargeDepth := 12); done) | (refine (foldl_keeps (fun z => z.stopq.active) _ _ _ (fun t f => ?_)).trans ?_) | (refine (foldl_keeps_fst (fun z => z.stopq.active) _ _ _ (fun t f => ?_)).trans ?_) | split))

@[simp] theorem State_writeCoefs_stopq_active (s : State) (c : Nat) (i : Nat) (addr : Nat)  : (State.writeCoefs s c i addr).stopq.active = s.stopq.active := by
  first | rfl | (simp (maxDischargeDepth := 12) [State.writeCoefs]; done) | (unfold State.writeCoefs; (try dsimp only); repeat' (first | rfl | (simp (maxDischargeDepth := 12); done) | (refine (foldl_keeps (fun z => z.stopq.active) _ _ _ (fun t f => ?_)).trans ?_) | (refine (foldl_keeps_fst (fun z => z.stopq.active) _ _ _ (fun t f => ?_)).trans ?_) | split))

@[simp] theorem State_repairMoves_stopq_active (s : State) (c : Nat)  : (State.repairMoves s c).stopq.active = s.stopq.active := by
  first | rfl | (simp (maxDischargeDepth := 12) [State.repairMoves]; done) | (unfold State.repairMoves; (try dsimp only); repeat' (first | rfl | (simp (maxDischargeDepth := 12); done) | (refine (foldl_keeps (fun z => z.stopq.active) _ _ _ (fun t f => ?_)).trans ?_) | (refine (foldl_keeps_fst (fun z => z.stopq.active) _ _ _ (fun t f => ?_)).trans ?_) | split))

@[simp] theorem State_reportsLost_stopq_active (s : State) (c : Nat) (lo : Nat) (hi : Nat)  : (State.reportsLost s c lo hi).stopq.active = s.stopq.active := by
  first | rfl | (simp (maxDischargeDepth := 12) [State.reportsLost]; done) | (unfold State.reportsLost; (try dsimp only); repeat' (first | rfl | (simp (maxDischargeDepth := 12); done) | (refine (foldl_keeps (fun z => z.stopq.active) _ _ _ (fun t f => ?_)).trans ?_) | (refine (foldl_keeps_fst (fun z => z.stopq.active) _ _ _ (fun t f => ?_)).trans ?_) | split))

@[simp] theorem State_loopRequest_stopq_active (s : State) (mask : Nat)  : (State.loopRequest s mask).stopq.active = s.stopq.active := by
  first | rfl | (simp (maxDischargeDepth := 12) [State.loopRequest]; done) | (unfold State.loopRequest; (try dsimp only); repeat' (first | rfl | (simp (maxDischargeDepth := 12); done) | (refine (foldl_keeps (fun z => z.stopq.active) _ _ _ (fun t f => ?_)).trans ?_) | (refine (foldl_keeps_fst (fun z => z.stopq.active) _ _ _ (fun t f => ?_)).trans ?_) | split))

@[simp] theorem State_tallyAdd_stopq_active (s : State) (conv : Nat) (t : Nat) (x : Int) (ovr : Bool)  : (State.tallyAdd s conv t x ovr).stopq.active = s.stopq.active := by
  first | rfl | (simp (maxDischargeDepth := 12) [State.tallyAdd]; done) | (unfold State.tallyAdd; (try dsimp only); repeat' (first | rfl | (simp (maxDischargeDepth := 12); done) | (refine (foldl_keeps (fun z => z.stopq.active) _ _ _ (fun t f => ?_)).trans ?_) | (refine (foldl_keeps_fst (fun z => z.stopq.active) _ _ _ (fun t f => ?_)).trans ?_) | split))

@[simp] theorem State_reconf_stopq_active (s : State) (conv : Nat) (ts : List Nat)  : (State.reconf s conv ts).stopq.active = s.stopq.active := by
  first | rfl | (simp (maxDischargeDepth := 12) [State.reconf]; done) | (unfold State.reconf; (try dsimp only); repeat' (first | rfl | (simp (maxDischargeDepth := 12); done) | (refine (foldl_keeps (fun z => z.stopq.active) _ _ _ (fun t f => ?_)).trans ?_) | (refine (foldl_keeps_fst (fun z => z.stopq.active) _ _ _ (fun t f => ?_)).trans ?_) | split))

@[simp] theorem State_tallyCommit_stopq_active (s : State) (epoch : Nat)  : (State.tallyCommit s epoch).stopq.active = s.stopq.active := by
  first | rfl | (simp (maxDischargeDepth := 12) [State.tallyCommit]; done) | (unfold State.tallyCommit; (try dsimp only); repeat' (first | rfl | (simp (maxDischargeDepth := 12); done) | (refine (foldl_keeps (fun z => z.stopq.active) _ _ _ (fun t f => ?_)).trans ?_) | (refine (foldl_keeps_fst (fun z => z.stopq.active) _ _ _ (fun t f => ?_)).trans ?_) | split))

@[simp] theorem State_listsDone_stopq_active (s : State) (d : Nat)  : (State.listsDone s d).stopq.active = s.stopq.active := by
  first | rfl | (simp (maxDischargeDepth := 12) [State.listsDone]; done) | (unfold State.listsDone; (try dsimp only); repeat' (first | rfl | (simp (maxDischargeDepth := 12); done) | (refine (foldl_keeps (fun z => z.stopq.active) _ _ _ (fun t f => ?_)).trans ?_) | (refine (foldl_keeps_fst (fun z => z.stopq.active) _ _ _ (fun t f => ?_)).trans ?_) | split))

@[simp] theorem State_latchSense_stopq_active (s : State) (d : Nat) (smp : SenseSample)  : (State.latchSense s d smp).1.stopq.active = s.stopq.active := by
  first | rfl | (simp (maxDischargeDepth := 12) [State.latchSense]; done) | (unfold State.latchSense; (try dsimp only); repeat' (first | rfl | (simp (maxDischargeDepth := 12); done) | (refine (foldl_keeps (fun z => z.stopq.active) _ _ _ (fun t f => ?_)).trans ?_) | (refine (foldl_keeps_fst (fun z => z.stopq.active) _ _ _ (fun t f => ?_)).trans ?_) | split))

@[simp] theorem State_trigSource_stopq_active (s : State) (src : Nat)  : (State.trigSource s src).stopq.active = s.stopq.active := by
  first | rfl | (simp (maxDischargeDepth := 12) [State.trigSource]; done) | (unfold State.trigSource; (try dsimp only); repeat' (first | rfl | (simp (maxDischargeDepth := 12); done) | (refine (foldl_keeps (fun z => z.stopq.active) _ _ _ (fun t f => ?_)).trans ?_) | (refine (foldl_keeps_fst (fun z => z.stopq.active) _ _ _ (fun t f => ?_)).trans ?_) | split))

@[simp] theorem State_softTrig_stopq_active (s : State) (all : Bool) (inj : Bool) (conv : Nat)  : (State.softTrig s all inj conv).stopq.active = s.stopq.active := by
  first | rfl | (simp (maxDischargeDepth := 12) [State.softTrig]; done) | (unfold State.softTrig; (try dsimp only); repeat' (first | rfl | (simp (maxDischargeDepth := 12); done) | (refine (foldl_keeps (fun z => z.stopq.active) _ _ _ (fun t f => ?_)).trans ?_) | (refine (foldl_keeps_fst (fun z => z.stopq.active) _ _ _ (fun t f => ?_)).trans ?_) | split))

@[simp] theorem State_takeReg_stopq_active (s : State) (d : Nat)  : (State.takeReg s d).stopq.active = s.stopq.active := by
  first | rfl | (simp (maxDischargeDepth := 12) [State.takeReg]; done) | (unfold State.takeReg; (try dsimp only); repeat' (first | rfl | (simp (maxDischargeDepth := 12); done) | (refine (foldl_keeps (fun z => z.stopq.active) _ _ _ (fun t f => ?_)).trans ?_) | (refine (foldl_keeps_fst (fun z => z.stopq.active) _ _ _ (fun t f => ?_)).trans ?_) | split))

@[simp] theorem State_takeInj_stopq_active (s : State) (d : Nat)  : (State.takeInj s d).stopq.active = s.stopq.active := by
  first | rfl | (simp (maxDischargeDepth := 12) [State.takeInj]; done) | (unfold State.takeInj; (try dsimp only); repeat' (first | rfl | (simp (maxDischargeDepth := 12); done) | (refine (foldl_keeps (fun z => z.stopq.active) _ _ _ (fun t f => ?_)).trans ?_) | (refine (foldl_keeps_fst (fun z => z.stopq.active) _ _ _ (fun t f => ?_)).trans ?_) | split))

@[simp] theorem State_roundEnd_stopq_active (s : State) (d : Nat) (again : Bool)  : (State.roundEnd s d again).stopq.active = s.stopq.active := by
  first | rfl | (simp (maxDischargeDepth := 12) [State.roundEnd]; done) | (unfold State.roundEnd; (try dsimp only); repeat' (first | rfl | (simp (maxDischargeDepth := 12); done) | (refine (foldl_keeps (fun z => z.stopq.active) _ _ _ (fun t f => ?_)).trans ?_) | (refine (foldl_keeps_fst (fun z => z.stopq.active) _ _ _ (fun t f => ?_)).trans ?_) | split))

@[simp] theorem State_resumeA_stopq_active (s : State) (d : Nat) (resume : Option Nat)  : (State.resumeA s d resume).stopq.active = s.stopq.active := by
  first | rfl | (simp (maxDischargeDepth := 12) [State.resumeA]; done) | (unfold State.resumeA; (try dsimp only); repeat' (first | rfl | (simp (maxDischargeDepth := 12); done) | (refine (foldl_keeps (fun z => z.stopq.active) _ _ _ (fun t f => ?_)).trans ?_) | (refine (foldl_keeps_fst (fun z => z.stopq.active) _ _ _ (fun t f => ?_)).trans ?_) | split))

@[simp] theorem State_entryResult_stopq_active (s : State) (d : Nat) (smp : SenseSample)  : (State.entryResult s d smp).stopq.active = s.stopq.active := by
  first | rfl | (simp (maxDischargeDepth := 12) [State.entryResult]; done) | (unfold State.entryResult; (try dsimp only); repeat' (first | rfl | (simp (maxDischargeDepth := 12); done) | (refine (foldl_keeps (fun z => z.stopq.active) _ _ _ (fun t f => ?_)).trans ?_) | (refine (foldl_keeps_fst (fun z => z.stopq.active) _ _ _ (fun t f => ?_)).trans ?_) | split))

@[simp] theorem State_seqActivate_stopq_active (s : State) (d : Nat) (l : SeqSet)  : (State.seqActivate s d l).stopq.active = s.stopq.active := by
  first | rfl | (simp (maxDischargeDepth := 12) [State.seqActivate]; done) | (unfold State.seqActivate; (try dsimp only); repeat' (first | rfl | (simp (maxDischargeDepth := 12); done) | (refine (foldl_keeps (fun z => z.stopq.active) _ _ _ (fun t f => ?_)).trans ?_) | (refine (foldl_keeps_fst (fun z => z.stopq.active) _ _ _ (fun t f => ?_)).trans ?_) | split))

@[simp] theorem State_seqGo_stopq_active (s : State) (v : Word)  : (State.seqGo s v).stopq.active = s.stopq.active := by
  first | rfl | (simp (maxDischargeDepth := 12) [State.seqGo]; done) | (unfold State.seqGo; (try dsimp only); repeat' (first | rfl | (simp (maxDischargeDepth := 12); done) | (refine (foldl_keeps (fun z => z.stopq.active) _ _ _ (fun t f => ?_)).trans ?_) | (refine (foldl_keeps_fst (fun z => z.stopq.active) _ _ _ (fun t f => ?_)).trans ?_) | split))

@[simp] theorem State_tallyCaptureOp_stopq_active (s : State) (v : Word)  : (State.tallyCaptureOp s v).stopq.active = s.stopq.active := by
  first | rfl | (simp (maxDischargeDepth := 12) [State.tallyCaptureOp]; done) | (unfold State.tallyCaptureOp; (try dsimp only); repeat' (first | rfl | (simp (maxDischargeDepth := 12); done) | (refine (foldl_keeps (fun z => z.stopq.active) _ _ _ (fun t f => ?_)).trans ?_) | (refine (foldl_keeps_fst (fun z => z.stopq.active) _ _ _ (fun t f => ?_)).trans ?_) | split))

@[simp] theorem State_tallyClearOp_stopq_active (s : State) (conv : Nat) (mask : Nat)  : (State.tallyClearOp s conv mask).stopq.active = s.stopq.active := by
  first | rfl | (simp (maxDischargeDepth := 12) [State.tallyClearOp]; done) | (unfold State.tallyClearOp; (try dsimp only); repeat' (first | rfl | (simp (maxDischargeDepth := 12); done) | (refine (foldl_keeps (fun z => z.stopq.active) _ _ _ (fun t f => ?_)).trans ?_) | (refine (foldl_keeps_fst (fun z => z.stopq.active) _ _ _ (fun t f => ?_)).trans ?_) | split))

@[simp] theorem State_refSelectOp_stopq_active (s : State) (sel : Nat)  : (State.refSelectOp s sel).stopq.active = s.stopq.active := by
  first | rfl | (simp (maxDischargeDepth := 12) [State.refSelectOp]; done) | (unfold State.refSelectOp; (try dsimp only); repeat' (first | rfl | (simp (maxDischargeDepth := 12); done) | (refine (foldl_keeps (fun z => z.stopq.active) _ _ _ (fun t f => ?_)).trans ?_) | (refine (foldl_keeps_fst (fun z => z.stopq.active) _ _ _ (fun t f => ?_)).trans ?_) | split))

@[simp] theorem State_roundBegin_stopq_active (s : State)  : (State.roundBegin s).stopq.active = s.stopq.active := by
  first | rfl | (simp (maxDischargeDepth := 12) [State.roundBegin]; done) | (unfold State.roundBegin; (try dsimp only); repeat' (first | rfl | (simp (maxDischargeDepth := 12); done) | (refine (foldl_keeps (fun z => z.stopq.active) _ _ _ (fun t f => ?_)).trans ?_) | (refine (foldl_keeps_fst (fun z => z.stopq.active) _ _ _ (fun t f => ?_)).trans ?_) | split))

@[simp] theorem State_hkcVoid_stopq_active (s : State) (k : Nat)  : (State.hkcVoid s k).stopq.active = s.stopq.active := by
  first | rfl | (simp (maxDischargeDepth := 12) [State.hkcVoid]; done) | (unfold State.hkcVoid; (try dsimp only); repeat' (first | rfl | (simp (maxDischargeDepth := 12); done) | (refine (foldl_keeps (fun z => z.stopq.active) _ _ _ (fun t f => ?_)).trans ?_) | (refine (foldl_keeps_fst (fun z => z.stopq.active) _ _ _ (fun t f => ?_)).trans ?_) | split))

@[simp] theorem State_concludeList_stopq_active (s : State) (l : List (Nat × Nat)) (pass : Nat → Bool)  : (State.concludeList s l pass).stopq.active = s.stopq.active := by
  first | rfl | (simp (maxDischargeDepth := 12) [State.concludeList]; done) | (unfold State.concludeList; (try dsimp only); repeat' (first | rfl | (simp (maxDischargeDepth := 12); done) | (refine (foldl_keeps (fun z => z.stopq.active) _ _ _ (fun t f => ?_)).trans ?_) | (refine (foldl_keeps_fst (fun z => z.stopq.active) _ _ _ (fun t f => ?_)).trans ?_) | split))

@[simp] theorem State_refCommit_stopq_active (s : State)  : (State.refCommit s).stopq.active = s.stopq.active := by
  first | rfl | (simp (maxDischargeDepth := 12) [State.refCommit]; done) | (unfold State.refCommit; (try dsimp only); repeat' (first | rfl | (simp (maxDischargeDepth := 12); done) | (refine (foldl_keeps (fun z => z.stopq.active) _ _ _ (fun t f => ?_)).trans ?_) | (refine (foldl_keeps_fst (fun z => z.stopq.active) _ _ _ (fun t f => ?_)).trans ?_) | split))

@[simp] theorem State_roundClose_stopq_active (s : State) (epoch : Nat)  : (State.roundClose s epoch).stopq.active = s.stopq.active := by
  first | rfl | (simp (maxDischargeDepth := 12) [State.roundClose]; done) | (unfold State.roundClose; (try dsimp only); repeat' (first | rfl | (simp (maxDischargeDepth := 12); done) | (refine (foldl_keeps (fun z => z.stopq.active) _ _ _ (fun t f => ?_)).trans ?_) | (refine (foldl_keeps_fst (fun z => z.stopq.active) _ _ _ (fun t f => ?_)).trans ?_) | split))

@[simp] theorem State_guardPoint_stopq_active (s : State) (d : Nat) (ch : Nat) (v : Int)  : (State.guardPoint s d ch v).stopq.active = s.stopq.active := by
  first | rfl | (simp (maxDischargeDepth := 12) [State.guardPoint]; done) | (unfold State.guardPoint; (try dsimp only); repeat' (first | rfl | (simp (maxDischargeDepth := 12); done) | (refine (foldl_keeps (fun z => z.stopq.active) _ _ _ (fun t f => ?_)).trans ?_) | (refine (foldl_keeps_fst (fun z => z.stopq.active) _ _ _ (fun t f => ?_)).trans ?_) | split))

@[simp] theorem State_restoreOp_stopq_active (s : State) (point : Nat)  : (State.restoreOp s point).stopq.active = s.stopq.active := by
  first | rfl | (simp (maxDischargeDepth := 12) [State.restoreOp]; done) | (unfold State.restoreOp; (try dsimp only); repeat' (first | rfl | (simp (maxDischargeDepth := 12); done) | (refine (foldl_keeps (fun z => z.stopq.active) _ _ _ (fun t f => ?_)).trans ?_) | (refine (foldl_keeps_fst (fun z => z.stopq.active) _ _ _ (fun t f => ?_)).trans ?_) | split))

@[simp] theorem State_restoreCommit_stopq_active (s : State)  : (State.restoreCommit s).stopq.active = s.stopq.active := by
  first | rfl | (simp (maxDischargeDepth := 12) [State.restoreCommit]; done) | (unfold State.restoreCommit; (try dsimp only); repeat' (first | rfl | (simp (maxDischargeDepth := 12); done) | (refine (foldl_keeps (fun z => z.stopq.active) _ _ _ (fun t f => ?_)).trans ?_) | (refine (foldl_keeps_fst (fun z => z.stopq.active) _ _ _ (fun t f => ?_)).trans ?_) | split))

@[simp] theorem State_lawReplaced_stopq_active (s : State) (o : StagedLaw)  : (State.lawReplaced s o).stopq.active = s.stopq.active := by
  first | rfl | (simp (maxDischargeDepth := 12) [State.lawReplaced]; done) | (unfold State.lawReplaced; (try dsimp only); repeat' (first | rfl | (simp (maxDischargeDepth := 12); done) | (refine (foldl_keeps (fun z => z.stopq.active) _ _ _ (fun t f => ?_)).trans ?_) | (refine (foldl_keeps_fst (fun z => z.stopq.active) _ _ _ (fun t f => ?_)).trans ?_) | split))

@[simp] theorem State_stageLaw_stopq_active (s : State) (d : Nat) (l : List Word) (path : LawPath)  : (State.stageLaw s d l path).stopq.active = s.stopq.active := by
  first | rfl | (simp (maxDischargeDepth := 12) [State.stageLaw]; done) | (unfold State.stageLaw; (try dsimp only); repeat' (first | rfl | (simp (maxDischargeDepth := 12); done) | (refine (foldl_keeps (fun z => z.stopq.active) _ _ _ (fun t f => ?_)).trans ?_) | (refine (foldl_keeps_fst (fun z => z.stopq.active) _ _ _ (fun t f => ?_)).trans ?_) | split))

@[simp] theorem State_lawActivate_stopq_active (s : State) (d : Nat)  : (State.lawActivate s d).stopq.active = s.stopq.active := by
  first | rfl | (simp (maxDischargeDepth := 12) [State.lawActivate]; done) | (unfold State.lawActivate; (try dsimp only); repeat' (first | rfl | (simp (maxDischargeDepth := 12); done) | (refine (foldl_keeps (fun z => z.stopq.active) _ _ _ (fun t f => ?_)).trans ?_) | (refine (foldl_keeps_fst (fun z => z.stopq.active) _ _ _ (fun t f => ?_)).trans ?_) | split))

@[simp] theorem State_domRunning_stopq_active (s : State) (d : Nat)  : (State.domRunning s d).stopq.active = s.stopq.active := by
  first | rfl | (simp (maxDischargeDepth := 12) [State.domRunning]; done) | (unfold State.domRunning; (try dsimp only); repeat' (first | rfl | (simp (maxDischargeDepth := 12); done) | (refine (foldl_keeps (fun z => z.stopq.active) _ _ _ (fun t f => ?_)).trans ?_) | (refine (foldl_keeps_fst (fun z => z.stopq.active) _ _ _ (fun t f => ?_)).trans ?_) | split))

@[simp] theorem State_domIsOff_stopq_active (s : State) (d : Nat)  : (State.domIsOff s d).stopq.active = s.stopq.active := by
  first | rfl | (simp (maxDischargeDepth := 12) [State.domIsOff]; done) | (unfold State.domIsOff; (try dsimp only); repeat' (first | rfl | (simp (maxDischargeDepth := 12); done) | (refine (foldl_keeps (fun z => z.stopq.active) _ _ _ (fun t f => ?_)).trans ?_) | (refine (foldl_keeps_fst (fun z => z.stopq.active) _ _ _ (fun t f => ?_)).trans ?_) | split))

@[simp] theorem State_slotStart_stopq_active (s : State) (d : Nat) (v : Option Int)  : (State.slotStart s d v).stopq.active = s.stopq.active := by
  first | rfl | (simp (maxDischargeDepth := 12) [State.slotStart]; done) | (unfold State.slotStart; (try dsimp only); repeat' (first | rfl | (simp (maxDischargeDepth := 12); done) | (refine (foldl_keeps (fun z => z.stopq.active) _ _ _ (fun t f => ?_)).trans ?_) | (refine (foldl_keeps_fst (fun z => z.stopq.active) _ _ _ (fun t f => ?_)).trans ?_) | split))

@[simp] theorem State_slotStop_stopq_active (s : State) (d : Nat)  : (State.slotStop s d).stopq.active = s.stopq.active := by
  first | rfl | (simp (maxDischargeDepth := 12) [State.slotStop]; done) | (unfold State.slotStop; (try dsimp only); repeat' (first | rfl | (simp (maxDischargeDepth := 12); done) | (refine (foldl_keeps (fun z => z.stopq.active) _ _ _ (fun t f => ?_)).trans ?_) | (refine (foldl_keeps_fst (fun z => z.stopq.active) _ _ _ (fun t f => ?_)).trans ?_) | split))

@[simp] theorem State_slot_stopq_active (s : State) (d : Nat) (v : Option Int) (i : Option Int)  : (State.slot s d v i).stopq.active = s.stopq.active := by
  first | rfl | (simp (maxDischargeDepth := 12) [State.slot]; done) | (unfold State.slot; (try dsimp only); repeat' (first | rfl | (simp (maxDischargeDepth := 12); done) | (refine (foldl_keeps (fun z => z.stopq.active) _ _ _ (fun t f => ?_)).trans ?_) | (refine (foldl_keeps_fst (fun z => z.stopq.active) _ _ _ (fun t f => ?_)).trans ?_) | split))

@[simp] theorem State_queueShareTrim_stopq_active (s : State) (i : Nat)  : (State.queueShareTrim s i).stopq.active = s.stopq.active := by
  first | rfl | (simp (maxDischargeDepth := 12) [State.queueShareTrim]; done) | (unfold State.queueShareTrim; (try dsimp only); repeat' (first | rfl | (simp (maxDischargeDepth := 12); done) | (refine (foldl_keeps (fun z => z.stopq.active) _ _ _ (fun t f => ?_)).trans ?_) | (refine (foldl_keeps_fst (fun z => z.stopq.active) _ _ _ (fun t f => ?_)).trans ?_) | split))

@[simp] theorem State_shareOne_stopq_active (s : State) (i : Nat) (p : Nat) (waited : Nat) (trim : Bool)  : (State.shareOne s i p waited trim).stopq.active = s.stopq.active := by
  first | rfl | (simp (maxDischargeDepth := 12) [State.shareOne]; done) | (unfold State.shareOne; (try dsimp only); repeat' (first | rfl | (simp (maxDischargeDepth := 12); done) | (refine (foldl_keeps (fun z => z.stopq.active) _ _ _ (fun t f => ?_)).trans ?_) | (refine (foldl_keeps_fst (fun z => z.stopq.active) _ _ _ (fun t f => ?_)).trans ?_) | split))

@[simp] theorem State_shareNext_stopq_active (s : State) (k : Nat) (trim : Bool)  : (State.shareNext s k trim).stopq.active = s.stopq.active := by
  first | rfl | (simp (maxDischargeDepth := 12) [State.shareNext]; done) | (unfold State.shareNext; (try dsimp only); repeat' (first | rfl | (simp (maxDischargeDepth := 12); done) | (refine (foldl_keeps (fun z => z.stopq.active) _ _ _ (fun t f => ?_)).trans ?_) | (refine (foldl_keeps_fst (fun z => z.stopq.active) _ _ _ (fun t f => ?_)).trans ?_) | split))

@[simp] theorem State_laneAuditOwn_stopq_active (s : State) (k : Nat)  : (State.laneAuditOwn s k).stopq.active = s.stopq.active := by
  first | rfl | (simp (maxDischargeDepth := 12) [State.laneAuditOwn]; done) | (unfold State.laneAuditOwn; (try dsimp only); repeat' (first | rfl | (simp (maxDischargeDepth := 12); done) | (refine (foldl_keeps (fun z => z.stopq.active) _ _ _ (fun t f => ?_)).trans ?_) | (refine (foldl_keeps_fst (fun z => z.stopq.active) _ _ _ (fun t f => ?_)).trans ?_) | split))

@[simp] theorem State_lawGo_stopq_active (s : State) (op : Nat) (d : Nat)  : (State.lawGo s op d).stopq.active = s.stopq.active := by
  first | rfl | (simp (maxDischargeDepth := 12) [State.lawGo]; done) | (unfold State.lawGo; (try dsimp only); repeat' (first | rfl | (simp (maxDischargeDepth := 12); done) | (refine (foldl_keeps (fun z => z.stopq.active) _ _ _ (fun t f => ?_)).trans ?_) | (refine (foldl_keeps_fst (fun z => z.stopq.active) _ _ _ (fun t f => ?_)).trans ?_) | split))

@[simp] theorem State_lawStart_stopq_active (s : State) (op : Nat) (d : Nat)  : (State.lawStart s op d).stopq.active = s.stopq.active := by
  first | rfl | (simp (maxDischargeDepth := 12) [State.lawStart]; done) | (unfold State.lawStart; (try dsimp only); repeat' (first | rfl | (simp (maxDischargeDepth := 12); done) | (refine (foldl_keeps (fun z => z.stopq.active) _ _ _ (fun t f => ?_)).trans ?_) | (refine (foldl_keeps_fst (fun z => z.stopq.active) _ _ _ (fun t f => ?_)).trans ?_) | split))

@[simp] theorem State_lawEnd_stopq_active (s : State)  : (State.lawEnd s).stopq.active = s.stopq.active := by
  first | rfl | (simp (maxDischargeDepth := 12) [State.lawEnd]; done) | (unfold State.lawEnd; (try dsimp only); repeat' (first | rfl | (simp (maxDischargeDepth := 12); done) | (refine (foldl_keeps (fun z => z.stopq.active) _ _ _ (fun t f => ?_)).trans ?_) | (refine (foldl_keeps_fst (fun z => z.stopq.active) _ _ _ (fun t f => ?_)).trans ?_) | split))

@[simp] theorem State_unmetered_stopq_active (s : State) (n : Nat)  : (State.unmetered s n).stopq.active = s.stopq.active := by
  first | rfl | (simp (maxDischargeDepth := 12) [State.unmetered]; done) | (unfold State.unmetered; (try dsimp only); repeat' (first | rfl | (simp (maxDischargeDepth := 12); done) | (refine (foldl_keeps (fun z => z.stopq.active) _ _ _ (fun t f => ?_)).trans ?_) | (refine (foldl_keeps_fst (fun z => z.stopq.active) _ _ _ (fun t f => ?_)).trans ?_) | split))

@[simp] theorem State_kInRound_stopq_active (s : State)  : (State.kInRound s).stopq.active = s.stopq.active := by
  first | rfl | (simp (maxDischargeDepth := 12) [State.kInRound]; done) | (unfold State.kInRound; (try dsimp only); repeat' (first | rfl | (simp (maxDischargeDepth := 12); done) | (refine (foldl_keeps (fun z => z.stopq.active) _ _ _ (fun t f => ?_)).trans ?_) | (refine (foldl_keeps_fst (fun z => z.stopq.active) _ _ _ (fun t f => ?_)).trans ?_) | split))

@[simp] theorem State_takePackets_stopq_active (s : State) (n : Nat) (t : Nat)  : (State.takePackets s n t).stopq.active = s.stopq.active := by
  first | rfl | (simp (maxDischargeDepth := 12) [State.takePackets]; done) | (unfold State.takePackets; (try dsimp only); repeat' (first | rfl | (simp (maxDischargeDepth := 12); done) | (refine (foldl_keeps (fun z => z.stopq.active) _ _ _ (fun t f => ?_)).trans ?_) | (refine (foldl_keeps_fst (fun z => z.stopq.active) _ _ _ (fun t f => ?_)).trans ?_) | split))

@[simp] theorem State_hintCommit_stopq_active (s : State) (n : Nat) (t : Nat)  : (State.hintCommit s n t).stopq.active = s.stopq.active := by
  first | rfl | (simp (maxDischargeDepth := 12) [State.hintCommit]; done) | (unfold State.hintCommit; (try dsimp only); repeat' (first | rfl | (simp (maxDischargeDepth := 12); done) | (refine (foldl_keeps (fun z => z.stopq.active) _ _ _ (fun t f => ?_)).trans ?_) | (refine (foldl_keeps_fst (fun z => z.stopq.active) _ _ _ (fun t f => ?_)).trans ?_) | split))

@[simp] theorem State_queueArm_stopq_active (s : State) (d : Nat) (arm : Bool) (mask : Nat)  : (State.queueArm s d arm mask).stopq.active = s.stopq.active := by
  first | rfl | (simp (maxDischargeDepth := 12) [State.queueArm]; done) | (unfold State.queueArm; (try dsimp only); repeat' (first | rfl | (simp (maxDischargeDepth := 12); done) | (refine (foldl_keeps (fun z => z.stopq.active) _ _ _ (fun t f => ?_)).trans ?_) | (refine (foldl_keeps_fst (fun z => z.stopq.active) _ _ _ (fun t f => ?_)).trans ?_) | split))

@[simp] theorem State_armCommit_stopq_active (s : State) (d : Nat)  : (State.armCommit s d).stopq.active = s.stopq.active := by
  first | rfl | (simp (maxDischargeDepth := 12) [State.armCommit]; done) | (unfold State.armCommit; (try dsimp only); repeat' (first | rfl | (simp (maxDischargeDepth := 12); done) | (refine (foldl_keeps (fun z => z.stopq.active) _ _ _ (fun t f => ?_)).trans ?_) | (refine (foldl_keeps_fst (fun z => z.stopq.active) _ _ _ (fun t f => ?_)).trans ?_) | split))

@[simp] theorem State_boostCommit_stopq_active (s : State)  : (State.boostCommit s).stopq.active = s.stopq.active := by
  first | rfl | (simp (maxDischargeDepth := 12) [State.boostCommit]; done) | (unfold State.boostCommit; (try dsimp only); repeat' (first | rfl | (simp (maxDischargeDepth := 12); done) | (refine (foldl_keeps (fun z => z.stopq.active) _ _ _ (fun t f => ?_)).trans ?_) | (refine (foldl_keeps_fst (fun z => z.stopq.active) _ _ _ (fun t f => ?_)).trans ?_) | split))

@[simp] theorem State_cutoff1600_stopq_active (s : State)  : (State.cutoff1600 s).stopq.active = s.stopq.active := by
  first | rfl | (simp (maxDischargeDepth := 12) [State.cutoff1600]; done) | (unfold State.cutoff1600; (try dsimp only); repeat' (first | rfl | (simp (maxDischargeDepth := 12); done) | (refine (foldl_keeps (fun z => z.stopq.active) _ _ _ (fun t f => ?_)).trans ?_) | (refine (foldl_keeps_fst (fun z => z.stopq.active) _ _ _ (fun t f => ?_)).trans ?_) | split))

@[simp] theorem State_accountTile_stopq_active (s : State) (d : Nat)  : (State.accountTile s d).stopq.active = s.stopq.active := by
  first | rfl | (simp (maxDischargeDepth := 12) [State.accountTile]; done) | (unfold State.accountTile; (try dsimp only); repeat' (first | rfl | (simp (maxDischargeDepth := 12); done) | (refine (foldl_keeps (fun z => z.stopq.active) _ _ _ (fun t f => ?_)).trans ?_) | (refine (foldl_keeps_fst (fun z => z.stopq.active) _ _ _ (fun t f => ?_)).trans ?_) | split))

@[simp] theorem State_accountSupport_stopq_active (s : State) (d : Nat)  : (State.accountSupport s d).stopq.active = s.stopq.active := by
  first | rfl | (simp (maxDischargeDepth := 12) [State.accountSupport]; done) | (unfold State.accountSupport; (try dsimp only); repeat' (first | rfl | (simp (maxDischargeDepth := 12); done) | (refine (foldl_keeps (fun z => z.stopq.active) _ _ _ (fun t f => ?_)).trans ?_) | (refine (foldl_keeps_fst (fun z => z.stopq.active) _ _ _ (fun t f => ?_)).trans ?_) | split))

@[simp] theorem State_accountMeans_stopq_active (s : State) (d : Nat)  : (State.accountMeans s d).stopq.active = s.stopq.active := by
  first | rfl | (simp (maxDischargeDepth := 12) [State.accountMeans]; done) | (unfold State.accountMeans; (try dsimp only); repeat' (first | rfl | (simp (maxDischargeDepth := 12); done) | (refine (foldl_keeps (fun z => z.stopq.active) _ _ _ (fun t f => ?_)).trans ?_) | (refine (foldl_keeps_fst (fun z => z.stopq.active) _ _ _ (fun t f => ?_)).trans ?_) | split))

@[simp] theorem State_account_stopq_active (s : State)  : (State.account s).stopq.active = s.stopq.active := by
  first | rfl | (simp (maxDischargeDepth := 12) [State.account]; done) | (unfold State.account; (try dsimp only); repeat' (first | rfl | (simp (maxDischargeDepth := 12); done) | (refine (foldl_keeps (fun z => z.stopq.active) _ _ _ (fun t f => ?_)).trans ?_) | (refine (foldl_keeps_fst (fun z => z.stopq.active) _ _ _ (fun t f => ?_)).trans ?_) | split))

@[simp] theorem State_fixedCommit_stopq_active (s : State) (rows : List QuotaRow) (qSymp : Nat) (enter : Bool)  : (State.fixedCommit s rows qSymp enter).stopq.active = s.stopq.active := by
  first | rfl | (simp (maxDischargeDepth := 12) [State.fixedCommit]; done) | (unfold State.fixedCommit; (try dsimp only); repeat' (first | rfl | (simp (maxDischargeDepth := 12); done) | (refine (foldl_keeps (fun z => z.stopq.active) _ _ _ (fun t f => ?_)).trans ?_) | (refine (foldl_keeps_fst (fun z => z.stopq.active) _ _ _ (fun t f => ?_)).trans ?_) | split))

@[simp] theorem State_sympCommit_stopq_active (s : State) (rows : List QuotaRow) (q : Nat)  : (State.sympCommit s rows q).stopq.active = s.stopq.active := by
  first | rfl | (simp (maxDischargeDepth := 12) [State.sympCommit]; done) | (unfold State.sympCommit; (try dsimp only); repeat' (first | rfl | (simp (maxDischargeDepth := 12); done) | (refine (foldl_keeps (fun z => z.stopq.active) _ _ _ (fun t f => ?_)).trans ?_) | (refine (foldl_keeps_fst (fun z => z.stopq.active) _ _ _ (fun t f => ?_)).trans ?_) | split))

@[simp] theorem State_paceAged_stopq_active (s : State) (above : Nat) (below : Nat)  : (State.paceAged s above below).stopq.active = s.stopq.active := by
  first | rfl | (simp (maxDischargeDepth := 12) [State.paceAged]; done) | (unfold State.paceAged; (try dsimp only); repeat' (first | rfl | (simp (maxDischargeDepth := 12); done) | (refine (foldl_keeps (fun z => z.stopq.active) _ _ _ (fun t f => ?_)).trans ?_) | (refine (foldl_keeps_fst (fun z => z.stopq.active) _ _ _ (fun t f => ?_)).trans ?_) | split))

@[simp] theorem State_paceRelayAgain_stopq_active (s : State)  : (State.paceRelayAgain s).stopq.active = s.stopq.active := by
  first | rfl | (simp (maxDischargeDepth := 12) [State.paceRelayAgain]; done) | (unfold State.paceRelayAgain; (try dsimp only); repeat' (first | rfl | (simp (maxDischargeDepth := 12); done) | (refine (foldl_keeps (fun z => z.stopq.active) _ _ _ (fun t f => ?_)).trans ?_) | (refine (foldl_keeps_fst (fun z => z.stopq.active) _ _ _ (fun t f => ?_)).trans ?_) | split))

@[simp] theorem State_paceSay_stopq_active (s : State) (q : Nat) (seq : Nat)  : (State.paceSay s q seq).stopq.active = s.stopq.active := by
  first | rfl | (simp (maxDischargeDepth := 12) [State.paceSay]; done) | (unfold State.paceSay; (try dsimp only); repeat' (first | rfl | (simp (maxDischargeDepth := 12); done) | (refine (foldl_keeps (fun z => z.stopq.active) _ _ _ (fun t f => ?_)).trans ?_) | (refine (foldl_keeps_fst (fun z => z.stopq.active) _ _ _ (fun t f => ?_)).trans ?_) | split))

@[simp] theorem State_paceOwnQuota_stopq_active (s : State) (above : Nat) (below : Nat) (q : Nat) (resend : Bool)  : (State.paceOwnQuota s above below q resend).stopq.active = s.stopq.active := by
  first | rfl | (simp (maxDischargeDepth := 12) [State.paceOwnQuota]; done) | (unfold State.paceOwnQuota; (try dsimp only); repeat' (first | rfl | (simp (maxDischargeDepth := 12); done) | (refine (foldl_keeps (fun z => z.stopq.active) _ _ _ (fun t f => ?_)).trans ?_) | (refine (foldl_keeps_fst (fun z => z.stopq.active) _ _ _ (fun t f => ?_)).trans ?_) | split))

@[simp] theorem State_paceJob_stopq_active (s : State) (qJob : Nat)  : (State.paceJob s qJob).stopq.active = s.stopq.active := by
  first | rfl | (simp (maxDischargeDepth := 12) [State.paceJob]; done) | (unfold State.paceJob; (try dsimp only); repeat' (first | rfl | (simp (maxDischargeDepth := 12); done) | (refine (foldl_keeps (fun z => z.stopq.active) _ _ _ (fun t f => ?_)).trans ?_) | (refine (foldl_keeps_fst (fun z => z.stopq.active) _ _ _ (fun t f => ?_)).trans ?_) | split))

@[simp] theorem State_freezeOp_stopq_active (s : State)  : (State.freezeOp s).stopq.active = s.stopq.active := by
  first | rfl | (simp (maxDischargeDepth := 12) [State.freezeOp]; done) | (unfold State.freezeOp; (try dsimp only); repeat' (first | rfl | (simp (maxDischargeDepth := 12); done) | (refine (foldl_keeps (fun z => z.stopq.active) _ _ _ (fun t f => ?_)).trans ?_) | (refine (foldl_keeps_fst (fun z => z.stopq.active) _ _ _ (fun t f => ?_)).trans ?_) | split))

@[simp] theorem State_unfreezeOp_stopq_active (s : State)  : (State.unfreezeOp s).stopq.active = s.stopq.active := by
  first | rfl | (simp (maxDischargeDepth := 12) [State.unfreezeOp]; done) | (unfold State.unfreezeOp; (try dsimp only); repeat' (first | rfl | (simp (maxDischargeDepth := 12); done) | (refine (foldl_keeps (fun z => z.stopq.active) _ _ _ (fun t f => ?_)).trans ?_) | (refine (foldl_keeps_fst (fun z => z.stopq.active) _ _ _ (fun t f => ?_)).trans ?_) | split))

@[simp] theorem State_captureTile_stopq_active (s : State) (v : Word)  : (State.captureTile s v).stopq.active = s.stopq.active := by
  first | rfl | (simp (maxDischargeDepth := 12) [State.captureTile]; done) | (unfold State.captureTile; (try dsimp only); repeat' (first | rfl | (simp (maxDischargeDepth := 12); done) | (refine (foldl_keeps (fun z => z.stopq.active) _ _ _ (fun t f => ?_)).trans ?_) | (refine (foldl_keeps_fst (fun z => z.stopq.active) _ _ _ (fun t f => ?_)).trans ?_) | split))

@[simp] theorem State_recordTlm_stopq_active (s : State) (i : Nat) (p : Nat) (d : Nat) (l : Nat)  : (State.recordTlm s i p d l).stopq.active = s.stopq.active := by
  first | rfl | (simp (maxDischargeDepth := 12) [State.recordTlm]; done) | (unfold State.recordTlm; (try dsimp only); repeat' (first | rfl | (simp (maxDischargeDepth := 12); done) | (refine (foldl_keeps (fun z => z.stopq.active) _ _ _ (fun t f => ?_)).trans ?_) | (refine (foldl_keeps_fst (fun z => z.stopq.active) _ _ _ (fun t f => ?_)).trans ?_) | split))

@[simp] theorem State_calLatches_stopq_active (s : State) (e : Nat) (d : Nat)  : (State.calLatches s e d).stopq.active = s.stopq.active := by
  first | rfl | (simp (maxDischargeDepth := 12) [State.calLatches]; done) | (unfold State.calLatches; (try dsimp only); repeat' (first | rfl | (simp (maxDischargeDepth := 12); done) | (refine (foldl_keeps (fun z => z.stopq.active) _ _ _ (fun t f => ?_)).trans ?_) | (refine (foldl_keeps_fst (fun z => z.stopq.active) _ _ _ (fun t f => ?_)).trans ?_) | split))

@[simp] theorem State_wardenStop_stopq_active (s : State) (l : List Nat)  : (State.wardenStop s l).stopq.active = s.stopq.active := by
  first | rfl | (simp (maxDischargeDepth := 12) [State.wardenStop]; done) | (unfold State.wardenStop; (try dsimp only); repeat' (first | rfl | (simp (maxDischargeDepth := 12); done) | (refine (foldl_keeps (fun z => z.stopq.active) _ _ _ (fun t f => ?_)).trans ?_) | (refine (foldl_keeps_fst (fun z => z.stopq.active) _ _ _ (fun t f => ?_)).trans ?_) | split))

@[simp] theorem State_lowerBoot_stopq_active (s : State)  : (State.lowerBoot s).stopq.active = s.stopq.active := by
  first | rfl | (simp (maxDischargeDepth := 12) [State.lowerBoot]; done) | (unfold State.lowerBoot; (try dsimp only); repeat' (first | rfl | (simp (maxDischargeDepth := 12); done) | (refine (foldl_keeps (fun z => z.stopq.active) _ _ _ (fun t f => ?_)).trans ?_) | (refine (foldl_keeps_fst (fun z => z.stopq.active) _ _ _ (fun t f => ?_)).trans ?_) | split))

@[simp] theorem State_rejoinBegin_stopq_active (s : State) (d : Nat)  : (State.rejoinBegin s d).stopq.active = s.stopq.active := by
  first | rfl | (simp (maxDischargeDepth := 12) [State.rejoinBegin]; done) | (unfold State.rejoinBegin; (try dsimp only); repeat' (first | rfl | (simp (maxDischargeDepth := 12); done) | (refine (foldl_keeps (fun z => z.stopq.active) _ _ _ (fun t f => ?_)).trans ?_) | (refine (foldl_keeps_fst (fun z => z.stopq.active) _ _ _ (fun t f => ?_)).trans ?_) | split))

@[simp] theorem State_markStopped_stopq_active (s : State) (d : Nat)  : (State.markStopped s d).stopq.active = s.stopq.active := by
  first | rfl | (simp (maxDischargeDepth := 12) [State.markStopped]; done) | (unfold State.markStopped; (try dsimp only); repeat' (first | rfl | (simp (maxDischargeDepth := 12); done) | (refine (foldl_keeps (fun z => z.stopq.active) _ _ _ (fun t f => ?_)).trans ?_) | (refine (foldl_keeps_fst (fun z => z.stopq.active) _ _ _ (fun t f => ?_)).trans ?_) | split))

@[simp] theorem State_adoptDomain_stopq_active (s : State) (d : Nat)  : (State.adoptDomain s d).stopq.active = s.stopq.active := by
  first | rfl | (simp (maxDischargeDepth := 12) [State.adoptDomain]; done) | (unfold State.adoptDomain; (try dsimp only); repeat' (first | rfl | (simp (maxDischargeDepth := 12); done) | (refine (foldl_keeps (fun z => z.stopq.active) _ _ _ (fun t f => ?_)).trans ?_) | (refine (foldl_keeps_fst (fun z => z.stopq.active) _ _ _ (fun t f => ?_)).trans ?_) | split))

@[simp] theorem State_adoptFinish_stopq_active (s : State) (d : Nat)  : (State.adoptFinish s d).stopq.active = s.stopq.active := by
  first | rfl | (simp (maxDischargeDepth := 12) [State.adoptFinish]; done) | (unfold State.adoptFinish; (try dsimp only); repeat' (first | rfl | (simp (maxDischargeDepth := 12); done) | (refine (foldl_keeps (fun z => z.stopq.active) _ _ _ (fun t f => ?_)).trans ?_) | (refine (foldl_keeps_fst (fun z => z.stopq.active) _ _ _ (fun t f => ?_)).trans ?_) | split))

@[simp] theorem State_rejoinCommit_stopq_active (s : State) (d : Nat)  : (State.rejoinCommit s d).stopq.active = s.stopq.active := by
  first | rfl | (simp (maxDischargeDepth := 12) [State.rejoinCommit]; done) | (unfold State.rejoinCommit; (try dsimp only); repeat' (first | rfl | (simp (maxDischargeDepth := 12); done) | (refine (foldl_keeps (fun z => z.stopq.active) _ _ _ (fun t f => ?_)).trans ?_) | (refine (foldl_keeps_fst (fun z => z.stopq.active) _ _ _ (fun t f => ?_)).trans ?_) | split))

@[simp] theorem State_stoppedOff_stopq_active (s : State) (d : Nat)  : (State.stoppedOff s d).stopq.active = s.stopq.active := by
  first | rfl | (simp (maxDischargeDepth := 12) [State.stoppedOff]; done) | (unfold State.stoppedOff; (try dsimp only); repeat' (first | rfl | (simp (maxDischargeDepth := 12); done) | (refine (foldl_keeps (fun z => z.stopq.active) _ _ _ (fun t f => ?_)).trans ?_) | (refine (foldl_keeps_fst (fun z => z.stopq.active) _ _ _ (fun t f => ?_)).trans ?_) | split))

@[simp] theorem State_loanAfterReset_stopq_active (s : State)  : (State.loanAfterReset s).stopq.active = s.stopq.active := by
  first | rfl | (simp (maxDischargeDepth := 12) [State.loanAfterReset]; done) | (unfold State.loanAfterReset; (try dsimp only); repeat' (first | rfl | (simp (maxDischargeDepth := 12); done) | (refine (foldl_keeps (fun z => z.stopq.active) _ _ _ (fun t f => ?_)).trans ?_) | (refine (foldl_keeps_fst (fun z => z.stopq.active) _ _ _ (fun t f => ?_)).trans ?_) | split))

@[simp] theorem State_coversAfterReset_stopq_active (s : State)  : (State.coversAfterReset s).stopq.active = s.stopq.active := by
  first | rfl | (simp (maxDischargeDepth := 12) [State.coversAfterReset]; done) | (unfold State.coversAfterReset; (try dsimp only); repeat' (first | rfl | (simp (maxDischargeDepth := 12); done) | (refine (foldl_keeps (fun z => z.stopq.active) _ _ _ (fun t f => ?_)).trans ?_) | (refine (foldl_keeps_fst (fun z => z.stopq.active) _ _ _ (fun t f => ?_)).trans ?_) | split))

@[simp] theorem State_restartAudits_stopq_active (s : State)  : (State.restartAudits s).stopq.active = s.stopq.active := by
  first | rfl | (simp (maxDischargeDepth := 12) [State.restartAudits]; done) | (unfold State.restartAudits; (try dsimp only); repeat' (first | rfl | (simp (maxDischargeDepth := 12); done) | (refine (foldl_keeps (fun z => z.stopq.active) _ _ _ (fun t f => ?_)).trans ?_) | (refine (foldl_keeps_fst (fun z => z.stopq.active) _ _ _ (fun t f => ?_)).trans ?_) | split))

@[simp] theorem State_abandonSd14_stopq_active (s : State)  : (State.abandonSd14 s).stopq.active = s.stopq.active := by
  first | rfl | (simp (maxDischargeDepth := 12) [State.abandonSd14]; done) | (unfold State.abandonSd14; (try dsimp only); repeat' (first | rfl | (simp (maxDischargeDepth := 12); done) | (refine (foldl_keeps (fun z => z.stopq.active) _ _ _ (fun t f => ?_)).trans ?_) | (refine (foldl_keeps_fst (fun z => z.stopq.active) _ _ _ (fun t f => ?_)).trans ?_) | split))

@[simp] theorem State_abandonTo_stopq_active (s : State) (k : Nat)  : (State.abandonTo s k).stopq.active = s.stopq.active := by
  first | rfl | (simp (maxDischargeDepth := 12) [State.abandonTo]; done) | (unfold State.abandonTo; (try dsimp only); repeat' (first | rfl | (simp (maxDischargeDepth := 12); done) | (refine (foldl_keeps (fun z => z.stopq.active) _ _ _ (fun t f => ?_)).trans ?_) | (refine (foldl_keeps_fst (fun z => z.stopq.active) _ _ _ (fun t f => ?_)).trans ?_) | split))

@[simp] theorem State_abandonBegin_stopq_active (s : State)  : (State.abandonBegin s).stopq.active = s.stopq.active := by
  first | rfl | (simp (maxDischargeDepth := 12) [State.abandonBegin]; done) | (unfold State.abandonBegin; (try dsimp only); repeat' (first | rfl | (simp (maxDischargeDepth := 12); done) | (refine (foldl_keeps (fun z => z.stopq.active) _ _ _ (fun t f => ?_)).trans ?_) | (refine (foldl_keeps_fst (fun z => z.stopq.active) _ _ _ (fun t f => ?_)).trans ?_) | split))

@[simp] theorem State_abandonCommit_stopq_active (s : State)  : (State.abandonCommit s).stopq.active = s.stopq.active := by
  first | rfl | (simp (maxDischargeDepth := 12) [State.abandonCommit]; done) | (unfold State.abandonCommit; (try dsimp only); repeat' (first | rfl | (simp (maxDischargeDepth := 12); done) | (refine (foldl_keeps (fun z => z.stopq.active) _ _ _ (fun t f => ?_)).trans ?_) | (refine (foldl_keeps_fst (fun z => z.stopq.active) _ _ _ (fun t f => ?_)).trans ?_) | split))

@[simp] theorem State_stopLoan_stopq_active (s : State) (c : Nat)  : (State.stopLoan s c).stopq.active = s.stopq.active := by
  first | rfl | (simp (maxDischargeDepth := 12) [State.stopLoan]; done) | (unfold State.stopLoan; (try dsimp only); repeat' (first | rfl | (simp (maxDischargeDepth := 12); done) | (refine (foldl_keeps (fun z => z.stopq.active) _ _ _ (fun t f => ?_)).trans ?_) | (refine (foldl_keeps_fst (fun z => z.stopq.active) _ _ _ (fun t f => ?_)).trans ?_) | split))

@[simp] theorem State_stopDomain_stopq_active (s : State) (d : Nat)  : (State.stopDomain s d).stopq.active = s.stopq.active := by
  first | rfl | (simp (maxDischargeDepth := 12) [State.stopDomain]; done) | (unfold State.stopDomain; (try dsimp only); repeat' (first | rfl | (simp (maxDischargeDepth := 12); done) | (refine (foldl_keeps (fun z => z.stopq.active) _ _ _ (fun t f => ?_)).trans ?_) | (refine (foldl_keeps_fst (fun z => z.stopq.active) _ _ _ (fun t f => ?_)).trans ?_) | split))

@[simp] theorem State_stopStageBegin_stopq_active (s : State) (k : Nat)  : (State.stopStageBegin s k).stopq.active = s.stopq.active := by
  first | rfl | (simp (maxDischargeDepth := 12) [State.stopStageBegin]; done) | (unfold State.stopStageBegin; (try dsimp only); repeat' (first | rfl | (simp (maxDischargeDepth := 12); done) | (refine (foldl_keeps (fun z => z.stopq.active) _ _ _ (fun t f => ?_)).trans ?_) | (refine (foldl_keeps_fst (fun z => z.stopq.active) _ _ _ (fun t f => ?_)).trans ?_) | split))

@[simp] theorem State_stopAll_stopq_active (s : State)  : (State.stopAll s).stopq.active = s.stopq.active := by
  simp (maxDischargeDepth := 12) [State.stopAll]

@[simp] theorem State_vtWrite_stopq_active (s : State) (t : Tab Word) (chan : Option MboxChan) (clamped : Bool)  : (State.vtWrite s t chan clamped).stopq.active = s.stopq.active := by
  first | rfl | (simp (maxDischargeDepth := 12) [State.vtWrite]; done) | (unfold State.vtWrite; (try dsimp only); repeat' (first | rfl | (simp (maxDischargeDepth := 12); done) | (refine (foldl_keeps (fun z => z.stopq.active) _ _ _ (fun t f => ?_)).trans ?_) | (refine (foldl_keeps_fst (fun z => z.stopq.active) _ _ _ (fun t f => ?_)).trans ?_) | split))

@[simp] theorem State_updLink_stopq_active (s : State) (k : Nat) (f : AvsLink → AvsLink)  : (State.updLink s k f).stopq.active = s.stopq.active := by
  first | rfl | (simp (maxDischargeDepth := 12) [State.updLink]; done) | (unfold State.updLink; (try dsimp only); repeat' (first | rfl | (simp (maxDischargeDepth := 12); done) | (refine (foldl_keeps (fun z => z.stopq.active) _ _ _ (fun t f => ?_)).trans ?_) | (refine (foldl_keeps_fst (fun z => z.stopq.active) _ _ _ (fun t f => ?_)).trans ?_) | split))

@[simp] theorem State_avsSent_stopq_active (s : State) (k : Nat) (op : AvsOp)  : (State.avsSent s k op).stopq.active = s.stopq.active := by
  first | rfl | (simp (maxDischargeDepth := 12) [State.avsSent]; done) | (unfold State.avsSent; (try dsimp only); repeat' (first | rfl | (simp (maxDischargeDepth := 12); done) | (refine (foldl_keeps (fun z => z.stopq.active) _ _ _ (fun t f => ?_)).trans ?_) | (refine (foldl_keeps_fst (fun z => z.stopq.active) _ _ _ (fun t f => ?_)).trans ?_) | split))

@[simp] theorem State_avsIssue_stopq_active (s : State) (k : Nat) (op : AvsOp) (write : Bool)  : (State.avsIssue s k op write).stopq.active = s.stopq.active := by
  first | rfl | (simp (maxDischargeDepth := 12) [State.avsIssue]; done) | (unfold State.avsIssue; (try dsimp only); repeat' (first | rfl | (simp (maxDischargeDepth := 12); done) | (refine (foldl_keeps (fun z => z.stopq.active) _ _ _ (fun t f => ?_)).trans ?_) | (refine (foldl_keeps_fst (fun z => z.stopq.active) _ _ _ (fun t f => ?_)).trans ?_) | split))

@[simp] theorem State_avsResponse_stopq_active (s : State) (k : Nat) (op : AvsOp) (alert : Bool)  : (State.avsResponse s k op alert).stopq.active = s.stopq.active := by
  first | rfl | (simp (maxDischargeDepth := 12) [State.avsResponse]; done) | (unfold State.avsResponse; (try dsimp only); repeat' (first | rfl | (simp (maxDischargeDepth := 12); done) | (refine (foldl_keeps (fun z => z.stopq.active) _ _ _ (fun t f => ?_)).trans ?_) | (refine (foldl_keeps_fst (fun z => z.stopq.active) _ _ _ (fun t f => ?_)).trans ?_) | split))

@[simp] theorem State_stage_stopq_active (s : State) (key : StageKey) (v : Word) (by_ : Stager)  : (State.stage s key v by_).stopq.active = s.stopq.active := by
  first | rfl | (simp (maxDischargeDepth := 12) [State.stage]; done) | (unfold State.stage; (try dsimp only); repeat' (first | rfl | (simp (maxDischargeDepth := 12); done) | (refine (foldl_keeps (fun z => z.stopq.active) _ _ _ (fun t f => ?_)).trans ?_) | (refine (foldl_keeps_fst (fun z => z.stopq.active) _ _ _ (fun t f => ?_)).trans ?_) | split))

@[simp] theorem State_setLedgCtrl_stopq_active (s : State) (v : Word)  : (State.setLedgCtrl s v).stopq.active = s.stopq.active := by
  first | rfl | (simp (maxDischargeDepth := 12) [State.setLedgCtrl]; done) | (unfold State.setLedgCtrl; (try dsimp only); repeat' (first | rfl | (simp (maxDischargeDepth := 12); done) | (refine (foldl_keeps (fun z => z.stopq.active) _ _ _ (fun t f => ?_)).trans ?_) | (refine (foldl_keeps_fst (fun z => z.stopq.active) _ _ _ (fun t f => ?_)).trans ?_) | split))

@[simp] theorem State_setPaceCtrl_stopq_active (s : State) (v : Word)  : (State.setPaceCtrl s v).stopq.active = s.stopq.active := by
  first | rfl | (simp (maxDischargeDepth := 12) [State.setPaceCtrl]; done) | (unfold State.setPaceCtrl; (try dsimp only); repeat' (first | rfl | (simp (maxDischargeDepth := 12); done) | (refine (foldl_keeps (fun z => z.stopq.active) _ _ _ (fun t f => ?_)).trans ?_) | (refine (foldl_keeps_fst (fun z => z.stopq.active) _ _ _ (fun t f => ?_)).trans ?_) | split))

@[simp] theorem State_setSnsCtrl_stopq_active (s : State) (v : Word)  : (State.setSnsCtrl s v).stopq.active = s.stopq.active := by
  first | rfl | (simp (maxDischargeDepth := 12) [State.setSnsCtrl]; done) | (unfold State.setSnsCtrl; (try dsimp only); repeat' (first | rfl | (simp (maxDischargeDepth := 12); done) | (refine (foldl_keeps (fun z => z.stopq.active) _ _ _ (fun t f => ?_)).trans ?_) | (refine (foldl_keeps_fst (fun z => z.stopq.active) _ _ _ (fun t f => ?_)).trans ?_) | split))

@[simp] theorem State_setDscFb_stopq_active (s : State) (d : Nat) (v : Word)  : (State.setDscFb s d v).stopq.active = s.stopq.active := by
  first | rfl | (simp (maxDischargeDepth := 12) [State.setDscFb]; done) | (unfold State.setDscFb; (try dsimp only); repeat' (first | rfl | (simp (maxDischargeDepth := 12); done) | (refine (foldl_keeps (fun z => z.stopq.active) _ _ _ (fun t f => ?_)).trans ?_) | (refine (foldl_keeps_fst (fun z => z.stopq.active) _ _ _ (fun t f => ?_)).trans ?_) | split))

@[simp] theorem State_setDscAux_stopq_active (s : State) (d : Nat) (v : Word)  : (State.setDscAux s d v).stopq.active = s.stopq.active := by
  first | rfl | (simp (maxDischargeDepth := 12) [State.setDscAux]; done) | (unfold State.setDscAux; (try dsimp only); repeat' (first | rfl | (simp (maxDischargeDepth := 12); done) | (refine (foldl_keeps (fun z => z.stopq.active) _ _ _ (fun t f => ?_)).trans ?_) | (refine (foldl_keeps_fst (fun z => z.stopq.active) _ _ _ (fun t f => ?_)).trans ?_) | split))

@[simp] theorem State_setSpEn_stopq_active (s : State) (d : Nat) (i : Nat) (v : Word)  : (State.setSpEn s d i v).stopq.active = s.stopq.active := by
  first | rfl | (simp (maxDischargeDepth := 12) [State.setSpEn]; done) | (unfold State.setSpEn; (try dsimp only); repeat' (first | rfl | (simp (maxDischargeDepth := 12); done) | (refine (foldl_keeps (fun z => z.stopq.active) _ _ _ (fun t f => ?_)).trans ?_) | (refine (foldl_keeps_fst (fun z => z.stopq.active) _ _ _ (fun t f => ?_)).trans ?_) | split))

@[simp] theorem State_setCellDom_stopq_active (s : State) (d : Nat) (v : Word)  : (State.setCellDom s d v).stopq.active = s.stopq.active := by
  first | rfl | (simp (maxDischargeDepth := 12) [State.setCellDom]; done) | (unfold State.setCellDom; (try dsimp only); repeat' (first | rfl | (simp (maxDischargeDepth := 12); done) | (refine (foldl_keeps (fun z => z.stopq.active) _ _ _ (fun t f => ?_)).trans ?_) | (refine (foldl_keeps_fst (fun z => z.stopq.active) _ _ _ (fun t f => ?_)).trans ?_) | split))

@[simp] theorem State_setCellGlb_stopq_active (s : State) (v : Word)  : (State.setCellGlb s v).stopq.active = s.stopq.active := by
  first | rfl | (simp (maxDischargeDepth := 12) [State.setCellGlb]; done) | (unfold State.setCellGlb; (try dsimp only); repeat' (first | rfl | (simp (maxDischargeDepth := 12); done) | (refine (foldl_keeps (fun z => z.stopq.active) _ _ _ (fun t f => ?_)).trans ?_) | (refine (foldl_keeps_fst (fun z => z.stopq.active) _ _ _ (fun t f => ?_)).trans ?_) | split))

@[simp] theorem State_setLimCtrl_stopq_active (s : State) (v : Word)  : (State.setLimCtrl s v).stopq.active = s.stopq.active := by
  first | rfl | (simp (maxDischargeDepth := 12) [State.setLimCtrl]; done) | (unfold State.setLimCtrl; (try dsimp only); repeat' (first | rfl | (simp (maxDischargeDepth := 12); done) | (refine (foldl_keeps (fun z => z.stopq.active) _ _ _ (fun t f => ?_)).trans ?_) | (refine (foldl_keeps_fst (fun z => z.stopq.active) _ _ _ (fun t f => ?_)).trans ?_) | split))

@[simp] theorem State_applyVset_stopq_active (s : State) (d : Nat) (v : Word) (by_ : Stager)  : (State.applyVset s d v by_).stopq.active = s.stopq.active := by
  first | rfl | (simp (maxDischargeDepth := 12) [State.applyVset]; done) | (unfold State.applyVset; (try dsimp only); repeat' (first | rfl | (simp (maxDischargeDepth := 12); done) | (refine (foldl_keeps (fun z => z.stopq.active) _ _ _ (fun t f => ?_)).trans ?_) | (refine (foldl_keeps_fst (fun z => z.stopq.active) _ _ _ (fun t f => ?_)).trans ?_) | split))

@[simp] theorem State_commitVset_stopq_active (s : State) (held : Bool) (e : Staged)  : (State.commitVset s held e).stopq.active = s.stopq.active := by
  first | rfl | (simp (maxDischargeDepth := 12) [State.commitVset]; done) | (unfold State.commitVset; (try dsimp only); repeat' (first | rfl | (simp (maxDischargeDepth := 12); done) | (refine (foldl_keeps (fun z => z.stopq.active) _ _ _ (fun t f => ?_)).trans ?_) | (refine (foldl_keeps_fst (fun z => z.stopq.active) _ _ _ (fun t f => ?_)).trans ?_) | split))

@[simp] theorem State_hostWrite_stopq_active (s : State) (addr : Nat) (l : List Word)  : (State.hostWrite s addr l).stopq.active = s.stopq.active := by
  first | rfl | (simp (maxDischargeDepth := 12) [State.hostWrite]; done) | (unfold State.hostWrite; (try dsimp only); repeat' (first | rfl | (simp (maxDischargeDepth := 12); done) | (refine (foldl_keeps (fun z => z.stopq.active) _ _ _ (fun t f => ?_)).trans ?_) | (refine (foldl_keeps_fst (fun z => z.stopq.active) _ _ _ (fun t f => ?_)).trans ?_) | split))

@[simp] theorem State_tlmAccount_stopq_active (s : State)  : (State.tlmAccount s).stopq.active = s.stopq.active := by
  first | rfl | (simp (maxDischargeDepth := 12) [State.tlmAccount]; done) | (unfold State.tlmAccount; (try dsimp only); repeat' (first | rfl | (simp (maxDischargeDepth := 12); done) | (refine (foldl_keeps (fun z => z.stopq.active) _ _ _ (fun t f => ?_)).trans ?_) | (refine (foldl_keeps_fst (fun z => z.stopq.active) _ _ _ (fun t f => ?_)).trans ?_) | split))

@[simp] theorem State_tlmMeter_stopq_active (s : State) (metered : Bool)  : (State.tlmMeter s metered).stopq.active = s.stopq.active := by
  first | rfl | (simp (maxDischargeDepth := 12) [State.tlmMeter]; done) | (unfold State.tlmMeter; (try dsimp only); repeat' (first | rfl | (simp (maxDischargeDepth := 12); done) | (refine (foldl_keeps (fun z => z.stopq.active) _ _ _ (fun t f => ?_)).trans ?_) | (refine (foldl_keeps_fst (fun z => z.stopq.active) _ _ _ (fun t f => ?_)).trans ?_) | split))

@[simp] theorem State_tlmClose_stopq_active (s : State)  : (State.tlmClose s).stopq.active = s.stopq.active := by
  first | rfl | (simp (maxDischargeDepth := 12) [State.tlmClose]; done) | (unfold State.tlmClose; (try dsimp only); repeat' (first | rfl | (simp (maxDischargeDepth := 12); done) | (refine (foldl_keeps (fun z => z.stopq.active) _ _ _ (fun t f => ?_)).trans ?_) | (refine (foldl_keeps_fst (fun z => z.stopq.active) _ _ _ (fun t f => ?_)).trans ?_) | split))

@[simp] theorem State_tlmRecord_stopq_active (s : State) (epoch : Nat)  : (State.tlmRecord s epoch).stopq.active = s.stopq.active := by
  first | rfl | (simp (maxDischargeDepth := 12) [State.tlmRecord]; done) | (unfold State.tlmRecord; (try dsimp only); repeat' (first | rfl | (simp (maxDischargeDepth := 12); done) | (refine (foldl_keeps (fun z => z.stopq.active) _ _ _ (fun t f => ?_)).trans ?_) | (refine (foldl_keeps_fst (fun z => z.stopq.active) _ _ _ (fun t f => ?_)).trans ?_) | split))

@[simp] theorem State_tlmMissed_stopq_active (s : State)  : (State.tlmMissed s).stopq.active = s.stopq.active := by
  first | rfl | (simp (maxDischargeDepth := 12) [State.tlmMissed]; done) | (unfold State.tlmMissed; (try dsimp only); repeat' (first | rfl | (simp (maxDischargeDepth := 12); done) | (refine (foldl_keeps (fun z => z.stopq.active) _ _ _ (fun t f => ?_)).trans ?_) | (refine (foldl_keeps_fst (fun z => z.stopq.active) _ _ _ (fun t f => ?_)).trans ?_) | split))

@[simp] theorem State_openEpoch_stopq_active (s : State)  : (State.openEpoch s).stopq.active = s.stopq.active := by
  first | rfl | (simp (maxDischargeDepth := 12) [State.openEpoch]; done) | (unfold State.openEpoch; (try dsimp only); repeat' (first | rfl | (simp (maxDischargeDepth := 12); done) | (refine (foldl_keeps (fun z => z.stopq.active) _ _ _ (fun t f => ?_)).trans ?_) | (refine (foldl_keeps_fst (fun z => z.stopq.active) _ _ _ (fun t f => ?_)).trans ?_) | split))

@[simp] theorem State_hintEffects_stopq_active (s : State)  : (State.hintEffects s).stopq.active = s.stopq.active := by
  first | rfl | (simp (maxDischargeDepth := 12) [State.hintEffects]; done) | (unfold State.hintEffects; (try dsimp only); repeat' (first | rfl | (simp (maxDischargeDepth := 12); done) | (refine (foldl_keeps (fun z => z.stopq.active) _ _ _ (fun t f => ?_)).trans ?_) | (refine (foldl_keeps_fst (fun z => z.stopq.active) _ _ _ (fun t f => ?_)).trans ?_) | split))

@[simp] theorem State_degradedRecall_stopq_active (s : State) (c : Nat)  : (State.degradedRecall s c).stopq.active = s.stopq.active := by
  first | rfl | (simp (maxDischargeDepth := 12) [State.degradedRecall]; done) | (unfold State.degradedRecall; (try dsimp only); repeat' (first | rfl | (simp (maxDischargeDepth := 12); done) | (refine (foldl_keeps (fun z => z.stopq.active) _ _ _ (fun t f => ?_)).trans ?_) | (refine (foldl_keeps_fst (fun z => z.stopq.active) _ _ _ (fun t f => ?_)).trans ?_) | split))

@[simp] theorem State_auditTurn_stopq_active (t : State) (cell : Nat)  : (State.auditTurn t cell).stopq.active = t.stopq.active := by
  first | rfl | (simp (maxDischargeDepth := 12) [State.auditTurn]; done) | (unfold State.auditTurn; (try dsimp only); repeat' (first | rfl | (simp (maxDischargeDepth := 12); done) | (refine (foldl_keeps (fun z => z.stopq.active) _ _ _ (fun t f => ?_)).trans ?_) | (refine (foldl_keeps_fst (fun z => z.stopq.active) _ _ _ (fun t f => ?_)).trans ?_) | split))

@[simp] theorem State_tallyCaptures_stopq_active (s : State) (n : Nat)  : (State.tallyCaptures s n).stopq.active = s.stopq.active := by
  first | rfl | (simp (maxDischargeDepth := 12) [State.tallyCaptures]; done) | (unfold State.tallyCaptures; (try dsimp only); repeat' (first | rfl | (simp (maxDischargeDepth := 12); done) | (refine (foldl_keeps (fun z => z.stopq.active) _ _ _ (fun t f => ?_)).trans ?_) | (refine (foldl_keeps_fst (fun z => z.stopq.active) _ _ _ (fun t f => ?_)).trans ?_) | split))

@[simp] theorem State_finishCommit_stopq_active (s : State) (laws : List (Nat × CmdCtx × Nat))  : (State.finishCommit s laws).stopq.active = s.stopq.active := by
  first | rfl | (simp (maxDischargeDepth := 12) [State.finishCommit]; done) | (unfold State.finishCommit; (try dsimp only); repeat' (first | rfl | (simp (maxDischargeDepth := 12); done) | (refine (foldl_keeps (fun z => z.stopq.active) _ _ _ (fun t f => ?_)).trans ?_) | (refine (foldl_keeps_fst (fun z => z.stopq.active) _ _ _ (fun t f => ?_)).trans ?_) | split))

@[simp] theorem State_publish_stopq_active (s : State)  : (State.publish s).stopq.active = s.stopq.active := by
  first | rfl | (simp (maxDischargeDepth := 12) [State.publish]; done) | (unfold State.publish; (try dsimp only); repeat' (first | rfl | (simp (maxDischargeDepth := 12); done) | (refine (foldl_keeps (fun z => z.stopq.active) _ _ _ (fun t f => ?_)).trans ?_) | (refine (foldl_keeps_fst (fun z => z.stopq.active) _ _ _ (fun t f => ?_)).trans ?_) | split))

@[simp] theorem State_backToWait_stopq_active (s : State)  : (State.backToWait s).stopq.active = s.stopq.active := by
  first | rfl | (simp (maxDischargeDepth := 12) [State.backToWait]; done) | (unfold State.backToWait; (try dsimp only); repeat' (first | rfl | (simp (maxDischargeDepth := 12); done) | (refine (foldl_keeps (fun z => z.stopq.active) _ _ _ (fun t f => ?_)).trans ?_) | (refine (foldl_keeps_fst (fun z => z.stopq.active) _ _ _ (fun t f => ?_)).trans ?_) | split))

@[simp] theorem State_beginStep4_stopq_active (s : State)  : (State.beginStep4 s).stopq.active = s.stopq.active := by
  first | rfl | (simp (maxDischargeDepth := 12) [State.beginStep4]; done) | (unfold State.beginStep4; (try dsimp only); repeat' (first | rfl | (simp (maxDischargeDepth := 12); done) | (refine (foldl_keeps (fun z => z.stopq.active) _ _ _ (fun t f => ?_)).trans ?_) | (refine (foldl_keeps_fst (fun z => z.stopq.active) _ _ _ (fun t f => ?_)).trans ?_) | split))

@[simp] theorem State_tryStep4_stopq_active (s : State)  : (State.tryStep4 s).stopq.active = s.stopq.active := by
  first | rfl | (simp (maxDischargeDepth := 12) [State.tryStep4]; done) | (unfold State.tryStep4; (try dsimp only); repeat' (first | rfl | (simp (maxDischargeDepth := 12); done) | (refine (foldl_keeps (fun z => z.stopq.active) _ _ _ (fun t f => ?_)).trans ?_) | (refine (foldl_keeps_fst (fun z => z.stopq.active) _ _ _ (fun t f => ?_)).trans ?_) | split))

@[simp] theorem State_enumerate_stopq_active (s : State)  : (State.enumerate s).stopq.active = s.stopq.active := by
  first | rfl | (simp (maxDischargeDepth := 12) [State.enumerate]; done) | (unfold State.enumerate; (try dsimp only); repeat' (first | rfl | (simp (maxDischargeDepth := 12); done) | (refine (foldl_keeps (fun z => z.stopq.active) _ _ _ (fun t f => ?_)).trans ?_) | (refine (foldl_keeps_fst (fun z => z.stopq.active) _ _ _ (fun t f => ?_)).trans ?_) | split))

@[simp] theorem State_loadLaws_stopq_active (s : State)  : (State.loadLaws s).stopq.active = s.stopq.active := by
  first | rfl | (simp (maxDischargeDepth := 12) [State.loadLaws]; done) | (unfold State.loadLaws; (try dsimp only); repeat' (first | rfl | (simp (maxDischargeDepth := 12); done) | (refine (foldl_keeps (fun z => z.stopq.active) _ _ _ (fun t f => ?_)).trans ?_) | (refine (foldl_keeps_fst (fun z => z.stopq.active) _ _ _ (fun t f => ?_)).trans ?_) | split))

@[simp] theorem State_sd13Start_stopq_active (s : State)  : (State.sd13Start s).stopq.active = s.stopq.active := by
  first | rfl | (simp (maxDischargeDepth := 12) [State.sd13Start]; done) | (unfold State.sd13Start; (try dsimp only); repeat' (first | rfl | (simp (maxDischargeDepth := 12); done) | (refine (foldl_keeps (fun z => z.stopq.active) _ _ _ (fun t f => ?_)).trans ?_) | (refine (foldl_keeps_fst (fun z => z.stopq.active) _ _ _ (fun t f => ?_)).trans ?_) | split))

@[simp] theorem State_recheckShed_stopq_active (s : State)  : (State.recheckShed s).stopq.active = s.stopq.active := by
  first | rfl | (simp (maxDischargeDepth := 12) [State.recheckShed]; done) | (unfold State.recheckShed; (try dsimp only); repeat' (first | rfl | (simp (maxDischargeDepth := 12); done) | (refine (foldl_keeps (fun z => z.stopq.active) _ _ _ (fun t f => ?_)).trans ?_) | (refine (foldl_keeps_fst (fun z => z.stopq.active) _ _ _ (fun t f => ?_)).trans ?_) | split))

@[simp] theorem State_rebuildChain_stopq_active (s : State) (c : Nat)  : (State.rebuildChain s c).stopq.active = s.stopq.active := by
  first | rfl | (simp (maxDischargeDepth := 12) [State.rebuildChain]; done) | (unfold State.rebuildChain; (try dsimp only); repeat' (first | rfl | (simp (maxDischargeDepth := 12); done) | (refine (foldl_keeps (fun z => z.stopq.active) _ _ _ (fun t f => ?_)).trans ?_) | (refine (foldl_keeps_fst (fun z => z.stopq.active) _ _ _ (fun t f => ?_)).trans ?_) | split))

@[simp] theorem State_readCell_stopq_active (s : State) (i : Nat)  : (State.readCell s i).stopq.active = s.stopq.active := by
  first | rfl | (simp (maxDischargeDepth := 12) [State.readCell]; done) | (unfold State.readCell; (try dsimp only); repeat' (first | rfl | (simp (maxDischargeDepth := 12); done) | (refine (foldl_keeps (fun z => z.stopq.active) _ _ _ (fun t f => ?_)).trans ?_) | (refine (foldl_keeps_fst (fun z => z.stopq.active) _ _ _ (fun t f => ?_)).trans ?_) | split))

@[simp] theorem State_auditBitmaps_stopq_active (s : State)  : (State.auditBitmaps s).stopq.active = s.stopq.active := by
  first | rfl | (simp (maxDischargeDepth := 12) [State.auditBitmaps]; done) | (unfold State.auditBitmaps; (try dsimp only); repeat' (first | rfl | (simp (maxDischargeDepth := 12); done) | (refine (foldl_keeps (fun z => z.stopq.active) _ _ _ (fun t f => ?_)).trans ?_) | (refine (foldl_keeps_fst (fun z => z.stopq.active) _ _ _ (fun t f => ?_)).trans ?_) | split))

@[simp] theorem State_romFailed_stopq_active (s : State)  : (State.romFailed s).stopq.active = s.stopq.active := by
  first | rfl | (simp (maxDischargeDepth := 12) [State.romFailed]; done) | (unfold State.romFailed; (try dsimp only); repeat' (first | rfl | (simp (maxDischargeDepth := 12); done) | (refine (foldl_keeps (fun z => z.stopq.active) _ _ _ (fun t f => ?_)).trans ?_) | (refine (foldl_keeps_fst (fun z => z.stopq.active) _ _ _ (fun t f => ?_)).trans ?_) | split))

@[simp] theorem State_loadBlock_stopq_active (s : State) (k : Nat)  : (State.loadBlock s k).stopq.active = s.stopq.active := by
  first | rfl | (simp (maxDischargeDepth := 12) [State.loadBlock]; done) | (unfold State.loadBlock; (try dsimp only); repeat' (first | rfl | (simp (maxDischargeDepth := 12); done) | (refine (foldl_keeps (fun z => z.stopq.active) _ _ _ (fun t f => ?_)).trans ?_) | (refine (foldl_keeps_fst (fun z => z.stopq.active) _ _ _ (fun t f => ?_)).trans ?_) | split))

@[simp] theorem State_sealLost_stopq_active (s : State) (slot : Nat)  : (State.sealLost s slot).stopq.active = s.stopq.active := by
  first | rfl | (simp (maxDischargeDepth := 12) [State.sealLost]; done) | (unfold State.sealLost; (try dsimp only); repeat' (first | rfl | (simp (maxDischargeDepth := 12); done) | (refine (foldl_keeps (fun z => z.stopq.active) _ _ _ (fun t f => ?_)).trans ?_) | (refine (foldl_keeps_fst (fun z => z.stopq.active) _ _ _ (fun t f => ?_)).trans ?_) | split))

@[simp] theorem State_loadStop_stopq_active (s : State)  : (State.loadStop s).stopq.active = s.stopq.active := by
  first | rfl | (simp (maxDischargeDepth := 12) [State.loadStop]; done) | (unfold State.loadStop; (try dsimp only); repeat' (first | rfl | (simp (maxDischargeDepth := 12); done) | (refine (foldl_keeps (fun z => z.stopq.active) _ _ _ (fun t f => ?_)).trans ?_) | (refine (foldl_keeps_fst (fun z => z.stopq.active) _ _ _ (fun t f => ?_)).trans ?_) | split))

@[simp] theorem State_updMbox_stopq_active (s : State) (ch : MboxChan) (f : Mbox → Mbox)  : (State.updMbox s ch f).stopq.active = s.stopq.active := by
  first | rfl | (simp (maxDischargeDepth := 12) [State.updMbox]; done) | (unfold State.updMbox; (try dsimp only); repeat' (first | rfl | (simp (maxDischargeDepth := 12); done) | (refine (foldl_keeps (fun z => z.stopq.active) _ _ _ (fun t f => ?_)).trans ?_) | (refine (foldl_keeps_fst (fun z => z.stopq.active) _ _ _ (fun t f => ?_)).trans ?_) | split))

@[simp] theorem State_mboxEnd_stopq_active (s : State) (ch : MboxChan) (status : Nat)  : (State.mboxEnd s ch status).stopq.active = s.stopq.active := by
  first | rfl | (simp (maxDischargeDepth := 12) [State.mboxEnd]; done) | (unfold State.mboxEnd; (try dsimp only); repeat' (first | rfl | (simp (maxDischargeDepth := 12); done) | (refine (foldl_keeps (fun z => z.stopq.active) _ _ _ (fun t f => ?_)).trans ?_) | (refine (foldl_keeps_fst (fun z => z.stopq.active) _ _ _ (fun t f => ?_)).trans ?_) | split))

@[simp] theorem State_mboxResults_stopq_active (s : State) (ch : MboxChan) (res : List Word)  : (State.mboxResults s ch res).stopq.active = s.stopq.active := by
  first | rfl | (simp (maxDischargeDepth := 12) [State.mboxResults]; done) | (unfold State.mboxResults; (try dsimp only); repeat' (first | rfl | (simp (maxDischargeDepth := 12); done) | (refine (foldl_keeps (fun z => z.stopq.active) _ _ _ (fun t f => ?_)).trans ?_) | (refine (foldl_keeps_fst (fun z => z.stopq.active) _ _ _ (fun t f => ?_)).trans ?_) | split))

@[simp] theorem State_mbGetInfo_stopq_active (s : State) (ch : MboxChan)  : (State.mbGetInfo s ch).stopq.active = s.stopq.active := by
  first | rfl | (simp (maxDischargeDepth := 12) [State.mbGetInfo]; done) | (unfold State.mbGetInfo; (try dsimp only); repeat' (first | rfl | (simp (maxDischargeDepth := 12); done) | (refine (foldl_keeps (fun z => z.stopq.active) _ _ _ (fun t f => ?_)).trans ?_) | (refine (foldl_keeps_fst (fun z => z.stopq.active) _ _ _ (fun t f => ?_)).trans ?_) | split))

@[simp] theorem State_mbPatchBegin_stopq_active (s : State) (ch : MboxChan) (len : Nat)  : (State.mbPatchBegin s ch len).stopq.active = s.stopq.active := by
  first | rfl | (simp (maxDischargeDepth := 12) [State.mbPatchBegin]; done) | (unfold State.mbPatchBegin; (try dsimp only); repeat' (first | rfl | (simp (maxDischargeDepth := 12); done) | (refine (foldl_keeps (fun z => z.stopq.active) _ _ _ (fun t f => ?_)).trans ?_) | (refine (foldl_keeps_fst (fun z => z.stopq.active) _ _ _ (fun t f => ?_)).trans ?_) | split))

@[simp] theorem State_mbPatchData_stopq_active (s : State) (ch : MboxChan) (off : Nat) (data : List Word)  : (State.mbPatchData s ch off data).stopq.active = s.stopq.active := by
  first | rfl | (simp (maxDischargeDepth := 12) [State.mbPatchData]; done) | (unfold State.mbPatchData; (try dsimp only); repeat' (first | rfl | (simp (maxDischargeDepth := 12); done) | (refine (foldl_keeps (fun z => z.stopq.active) _ _ _ (fun t f => ?_)).trans ?_) | (refine (foldl_keeps_fst (fun z => z.stopq.active) _ _ _ (fun t f => ?_)).trans ?_) | split))

@[simp] theorem State_mbPatchCommit_stopq_active (s : State) (ch : MboxChan) (sigOk : Bool)  : (State.mbPatchCommit s ch sigOk).stopq.active = s.stopq.active := by
  first | rfl | (simp (maxDischargeDepth := 12) [State.mbPatchCommit]; done) | (unfold State.mbPatchCommit; (try dsimp only); repeat' (first | rfl | (simp (maxDischargeDepth := 12); done) | (refine (foldl_keeps (fun z => z.stopq.active) _ _ _ (fun t f => ?_)).trans ?_) | (refine (foldl_keeps_fst (fun z => z.stopq.active) _ _ _ (fun t f => ?_)).trans ?_) | split))

@[simp] theorem State_mbVtRead_stopq_active (s : State) (ch : MboxChan) (which : Nat) (first : Nat)  : (State.mbVtRead s ch which first).stopq.active = s.stopq.active := by
  first | rfl | (simp (maxDischargeDepth := 12) [State.mbVtRead]; done) | (unfold State.mbVtRead; (try dsimp only); repeat' (first | rfl | (simp (maxDischargeDepth := 12); done) | (refine (foldl_keeps (fun z => z.stopq.active) _ _ _ (fun t f => ?_)).trans ?_) | (refine (foldl_keeps_fst (fun z => z.stopq.active) _ _ _ (fun t f => ?_)).trans ?_) | split))

@[simp] theorem State_vtStageEntry_stopq_active (s : State) (i : Nat) (e : Word)  : (State.vtStageEntry s i e).stopq.active = s.stopq.active := by
  first | rfl | (simp (maxDischargeDepth := 12) [State.vtStageEntry]; done) | (unfold State.vtStageEntry; (try dsimp only); repeat' (first | rfl | (simp (maxDischargeDepth := 12); done) | (refine (foldl_keeps (fun z => z.stopq.active) _ _ _ (fun t f => ?_)).trans ?_) | (refine (foldl_keeps_fst (fun z => z.stopq.active) _ _ _ (fun t f => ?_)).trans ?_) | split))

@[simp] theorem State_mbVtStage_stopq_active (s : State) (ch : MboxChan) (i : Nat) (e : Word)  : (State.mbVtStage s ch i e).stopq.active = s.stopq.active := by
  first | rfl | (simp (maxDischargeDepth := 12) [State.mbVtStage]; done) | (unfold State.mbVtStage; (try dsimp only); repeat' (first | rfl | (simp (maxDischargeDepth := 12); done) | (refine (foldl_keeps (fun z => z.stopq.active) _ _ _ (fun t f => ?_)).trans ?_) | (refine (foldl_keeps_fst (fun z => z.stopq.active) _ _ _ (fun t f => ?_)).trans ?_) | split))

@[simp] theorem State_vtApplyBegin_stopq_active (s : State) (chan : Option MboxChan)  : (State.vtApplyBegin s chan).stopq.active = s.stopq.active := by
  first | rfl | (simp (maxDischargeDepth := 12) [State.vtApplyBegin]; done) | (unfold State.vtApplyBegin; (try dsimp only); repeat' (first | rfl | (simp (maxDischargeDepth := 12); done) | (refine (foldl_keeps (fun z => z.stopq.active) _ _ _ (fun t f => ?_)).trans ?_) | (refine (foldl_keeps_fst (fun z => z.stopq.active) _ _ _ (fun t f => ?_)).trans ?_) | split))

@[simp] theorem State_vtRefuse_stopq_active (s : State)  : (State.vtRefuse s).stopq.active = s.stopq.active := by
  first | rfl | (simp (maxDischargeDepth := 12) [State.vtRefuse]; done) | (unfold State.vtRefuse; (try dsimp only); repeat' (first | rfl | (simp (maxDischargeDepth := 12); done) | (refine (foldl_keeps (fun z => z.stopq.active) _ _ _ (fun t f => ?_)).trans ?_) | (refine (foldl_keeps_fst (fun z => z.stopq.active) _ _ _ (fun t f => ?_)).trans ?_) | split))

@[simp] theorem State_mbVtApply_stopq_active (s : State) (ch : MboxChan)  : (State.mbVtApply s ch).stopq.active = s.stopq.active := by
  first | rfl | (simp (maxDischargeDepth := 12) [State.mbVtApply]; done) | (unfold State.mbVtApply; (try dsimp only); repeat' (first | rfl | (simp (maxDischargeDepth := 12); done) | (refine (foldl_keeps (fun z => z.stopq.active) _ _ _ (fun t f => ?_)).trans ?_) | (refine (foldl_keeps_fst (fun z => z.stopq.active) _ _ _ (fun t f => ?_)).trans ?_) | split))

@[simp] theorem State_mbVtCommit_stopq_active (s : State) (ch : MboxChan)  : (State.mbVtCommit s ch).stopq.active = s.stopq.active := by
  first | rfl | (simp (maxDischargeDepth := 12) [State.mbVtCommit]; done) | (unfold State.mbVtCommit; (try dsimp only); repeat' (first | rfl | (simp (maxDischargeDepth := 12); done) | (refine (foldl_keeps (fun z => z.stopq.active) _ _ _ (fun t f => ?_)).trans ?_) | (refine (foldl_keeps_fst (fun z => z.stopq.active) _ _ _ (fun t f => ?_)).trans ?_) | split))

@[simp] theorem State_mbPolLoad_stopq_active (s : State) (ch : MboxChan) (len : Nat) (digest : List Word)  : (State.mbPolLoad s ch len digest).stopq.active = s.stopq.active := by
  first | rfl | (simp (maxDischargeDepth := 12) [State.mbPolLoad]; done) | (unfold State.mbPolLoad; (try dsimp only); repeat' (first | rfl | (simp (maxDischargeDepth := 12); done) | (refine (foldl_keeps (fun z => z.stopq.active) _ _ _ (fun t f => ?_)).trans ?_) | (refine (foldl_keeps_fst (fun z => z.stopq.active) _ _ _ (fun t f => ?_)).trans ?_) | split))

@[simp] theorem State_mbPolStart_stopq_active (s : State) (ch : MboxChan)  : (State.mbPolStart s ch).stopq.active = s.stopq.active := by
  first | rfl | (simp (maxDischargeDepth := 12) [State.mbPolStart]; done) | (unfold State.mbPolStart; (try dsimp only); repeat' (first | rfl | (simp (maxDischargeDepth := 12); done) | (refine (foldl_keeps (fun z => z.stopq.active) _ _ _ (fun t f => ?_)).trans ?_) | (refine (foldl_keeps_fst (fun z => z.stopq.active) _ _ _ (fun t f => ?_)).trans ?_) | split))

@[simp] theorem State_stageLimit_stopq_active (s : State) (target : Nat) (v : Nat) (by_ : Stager)  : (State.stageLimit s target v by_).stopq.active = s.stopq.active := by
  first | rfl | (simp (maxDischargeDepth := 12) [State.stageLimit]; done) | (unfold State.stageLimit; (try dsimp only); repeat' (first | rfl | (simp (maxDischargeDepth := 12); done) | (refine (foldl_keeps (fun z => z.stopq.active) _ _ _ (fun t f => ?_)).trans ?_) | (refine (foldl_keeps_fst (fun z => z.stopq.active) _ _ _ (fun t f => ?_)).trans ?_) | split))

@[simp] theorem State_policyDrop_stopq_active (s : State)  : (State.policyDrop s).stopq.active = s.stopq.active := by
  first | rfl | (simp (maxDischargeDepth := 12) [State.policyDrop]; done) | (unfold State.policyDrop; (try dsimp only); repeat' (first | rfl | (simp (maxDischargeDepth := 12); done) | (refine (foldl_keeps (fun z => z.stopq.active) _ _ _ (fun t f => ?_)).trans ?_) | (refine (foldl_keeps_fst (fun z => z.stopq.active) _ _ _ (fun t f => ?_)).trans ?_) | split))

@[simp] theorem State_mbPolStop_stopq_active (s : State) (ch : MboxChan)  : (State.mbPolStop s ch).stopq.active = s.stopq.active := by
  first | rfl | (simp (maxDischargeDepth := 12) [State.mbPolStop]; done) | (unfold State.mbPolStop; (try dsimp only); repeat' (first | rfl | (simp (maxDischargeDepth := 12); done) | (refine (foldl_keeps (fun z => z.stopq.active) _ _ _ (fun t f => ?_)).trans ?_) | (refine (foldl_keeps_fst (fun z => z.stopq.active) _ _ _ (fun t f => ?_)).trans ?_) | split))

@[simp] theorem State_mbPolClear_stopq_active (s : State) (ch : MboxChan)  : (State.mbPolClear s ch).stopq.active = s.stopq.active := by
  first | rfl | (simp (maxDischargeDepth := 12) [State.mbPolClear]; done) | (unfold State.mbPolClear; (try dsimp only); repeat' (first | rfl | (simp (maxDischargeDepth := 12); done) | (refine (foldl_keeps (fun z => z.stopq.active) _ _ _ (fun t f => ?_)).trans ?_) | (refine (foldl_keeps_fst (fun z => z.stopq.active) _ _ _ (fun t f => ?_)).trans ?_) | split))

@[simp] theorem State_mboxRun_stopq_active (s : State) (c : Instr)  : (State.mboxRun s c).stopq.active = s.stopq.active := by
  first | rfl | (simp (maxDischargeDepth := 12) [State.mboxRun]; done) | (unfold State.mboxRun; (try dsimp only); repeat' (first | rfl | (simp (maxDischargeDepth := 12); done) | (refine (foldl_keeps (fun z => z.stopq.active) _ _ _ (fun t f => ?_)).trans ?_) | (refine (foldl_keeps_fst (fun z => z.stopq.active) _ _ _ (fun t f => ?_)).trans ?_) | split))

@[simp] theorem State_mboxTurn_stopq_active (s : State)  : (State.mboxTurn s).stopq.active = s.stopq.active := by
  first | rfl | (simp (maxDischargeDepth := 12) [State.mboxTurn]; done) | (unfold State.mboxTurn; (try dsimp only); repeat' (first | rfl | (simp (maxDischargeDepth := 12); done) | (refine (foldl_keeps (fun z => z.stopq.active) _ _ _ (fun t f => ?_)).trans ?_) | (refine (foldl_keeps_fst (fun z => z.stopq.active) _ _ _ (fun t f => ?_)).trans ?_) | split))

@[simp] theorem State_mboxTurns_stopq_active (s : State)  : (State.mboxTurns s).stopq.active = s.stopq.active := by
  first | rfl | (simp (maxDischargeDepth := 12) [State.mboxTurns]; done) | (unfold State.mboxTurns; (try dsimp only); repeat' (first | rfl | (simp (maxDischargeDepth := 12); done) | (refine (foldl_keeps (fun z => z.stopq.active) _ _ _ (fun t f => ?_)).trans ?_) | (refine (foldl_keeps_fst (fun z => z.stopq.active) _ _ _ (fun t f => ?_)).trans ?_) | split))

@[simp] theorem State_mboxCommand_stopq_active (s : State) (ch : MboxChan) (op : Nat) (tag : BitVec 8) (args : List Word) (data : List Word) (c : Instr)  : (State.mboxCommand s ch op tag args data c).stopq.active = s.stopq.active := by
  first | rfl | (simp (maxDischargeDepth := 12) [State.mboxCommand]; done) | (unfold State.mboxCommand; (try dsimp only); repeat' (first | rfl | (simp (maxDischargeDepth := 12); done) | (refine (foldl_keeps (fun z => z.stopq.active) _ _ _ (fun t f => ?_)).trans ?_) | (refine (foldl_keeps_fst (fun z => z.stopq.active) _ _ _ (fun t f => ?_)).trans ?_) | split))

@[simp] theorem State_mboxWrote_stopq_active (s : State) (op : Nat) (status : Nat)  : (State.mboxWrote s op status).stopq.active = s.stopq.active := by
  first | rfl | (simp (maxDischargeDepth := 12) [State.mboxWrote]; done) | (unfold State.mboxWrote; (try dsimp only); repeat' (first | rfl | (simp (maxDischargeDepth := 12); done) | (refine (foldl_keeps (fun z => z.stopq.active) _ _ _ (fun t f => ?_)).trans ?_) | (refine (foldl_keeps_fst (fun z => z.stopq.active) _ _ _ (fun t f => ?_)).trans ?_) | split))

@[simp] theorem State_vtEnd_stopq_active (s : State) (status : Nat)  : (State.vtEnd s status).stopq.active = s.stopq.active := by
  first | rfl | (simp (maxDischargeDepth := 12) [State.vtEnd]; done) | (unfold State.vtEnd; (try dsimp only); repeat' (first | rfl | (simp (maxDischargeDepth := 12); done) | (refine (foldl_keeps (fun z => z.stopq.active) _ _ _ (fun t f => ?_)).trans ?_) | (refine (foldl_keeps_fst (fun z => z.stopq.active) _ _ _ (fun t f => ?_)).trans ?_) | split))

@[simp] theorem State_jobDone_stopq_active (s : State) (j : VaultJob)  : (State.jobDone s j).stopq.active = s.stopq.active := by
  first | rfl | (simp (maxDischargeDepth := 12) [State.jobDone]; done) | (unfold State.jobDone; (try dsimp only); repeat' (first | rfl | (simp (maxDischargeDepth := 12); done) | (refine (foldl_keeps (fun z => z.stopq.active) _ _ _ (fun t f => ?_)).trans ?_) | (refine (foldl_keeps_fst (fun z => z.stopq.active) _ _ _ (fun t f => ?_)).trans ?_) | split))

@[simp] theorem State_ebsisReply_stopq_active (s : State) (kind : Nat) (r : EbsisReq) (status : Nat) (value : Option Nat) (epoch : Option Nat)  : (State.ebsisReply s kind r status value epoch).stopq.active = s.stopq.active := by
  first | rfl | (simp (maxDischargeDepth := 12) [State.ebsisReply]; done) | (unfold State.ebsisReply; (try dsimp only); repeat' (first | rfl | (simp (maxDischargeDepth := 12); done) | (refine (foldl_keeps (fun z => z.stopq.active) _ _ _ (fun t f => ?_)).trans ?_) | (refine (foldl_keeps_fst (fun z => z.stopq.active) _ _ _ (fun t f => ?_)).trans ?_) | split))

@[simp] theorem State_ebsisRefuse_stopq_active (s : State) (kind : Nat) (r : EbsisReq) (status : Nat)  : (State.ebsisRefuse s kind r status).stopq.active = s.stopq.active := by
  first | rfl | (simp (maxDischargeDepth := 12) [State.ebsisRefuse]; done) | (unfold State.ebsisRefuse; (try dsimp only); repeat' (first | rfl | (simp (maxDischargeDepth := 12); done) | (refine (foldl_keeps (fun z => z.stopq.active) _ _ _ (fun t f => ?_)).trans ?_) | (refine (foldl_keeps_fst (fun z => z.stopq.active) _ _ _ (fun t f => ?_)).trans ?_) | split))

@[simp] theorem State_ebMove_stopq_active (s : State) (kind : Nat) (recalling : Bool) (r : EbsisReq)  : (State.ebMove s kind recalling r).stopq.active = s.stopq.active := by
  first | rfl | (simp (maxDischargeDepth := 12) [State.ebMove]; done) | (unfold State.ebMove; (try dsimp only); repeat' (first | rfl | (simp (maxDischargeDepth := 12); done) | (refine (foldl_keeps (fun z => z.stopq.active) _ _ _ (fun t f => ?_)).trans ?_) | (refine (foldl_keeps_fst (fun z => z.stopq.active) _ _ _ (fun t f => ?_)).trans ?_) | split))

@[simp] theorem State_ebAge_stopq_active (s : State) (r : EbsisReq)  : (State.ebAge s r).stopq.active = s.stopq.active := by
  first | rfl | (simp (maxDischargeDepth := 12) [State.ebAge]; done) | (unfold State.ebAge; (try dsimp only); repeat' (first | rfl | (simp (maxDischargeDepth := 12); done) | (refine (foldl_keeps (fun z => z.stopq.active) _ _ _ (fun t f => ?_)).trans ?_) | (refine (foldl_keeps_fst (fun z => z.stopq.active) _ _ _ (fun t f => ?_)).trans ?_) | split))

@[simp] theorem State_ebBeat_stopq_active (s : State) (r : EbsisReq)  : (State.ebBeat s r).stopq.active = s.stopq.active := by
  first | rfl | (simp (maxDischargeDepth := 12) [State.ebBeat]; done) | (unfold State.ebBeat; (try dsimp only); repeat' (first | rfl | (simp (maxDischargeDepth := 12); done) | (refine (foldl_keeps (fun z => z.stopq.active) _ _ _ (fun t f => ?_)).trans ?_) | (refine (foldl_keeps_fst (fun z => z.stopq.active) _ _ _ (fun t f => ?_)).trans ?_) | split))

@[simp] theorem State_cfgReject_stopq_active (s : State) (off : Nat)  : (State.cfgReject s off).stopq.active = s.stopq.active := by
  first | rfl | (simp (maxDischargeDepth := 12) [State.cfgReject]; done) | (unfold State.cfgReject; (try dsimp only); repeat' (first | rfl | (simp (maxDischargeDepth := 12); done) | (refine (foldl_keeps (fun z => z.stopq.active) _ _ _ (fun t f => ?_)).trans ?_) | (refine (foldl_keeps_fst (fun z => z.stopq.active) _ _ _ (fun t f => ?_)).trans ?_) | split))

@[simp] theorem State_hostValue_stopq_active (s : State) (target : Nat) (v : Nat)  : (State.hostValue s target v).stopq.active = s.stopq.active := by
  first | rfl | (simp (maxDischargeDepth := 12) [State.hostValue]; done) | (unfold State.hostValue; (try dsimp only); repeat' (first | rfl | (simp (maxDischargeDepth := 12); done) | (refine (foldl_keeps (fun z => z.stopq.active) _ _ _ (fun t f => ?_)).trans ?_) | (refine (foldl_keeps_fst (fun z => z.stopq.active) _ _ _ (fun t f => ?_)).trans ?_) | split))

@[simp] theorem State_hostLimits_stopq_active (s : State) (off : Nat) (v : Word)  : (State.hostLimits s off v).stopq.active = s.stopq.active := by
  first | rfl | (simp (maxDischargeDepth := 12) [State.hostLimits]; done) | (unfold State.hostLimits; (try dsimp only); repeat' (first | rfl | (simp (maxDischargeDepth := 12); done) | (refine (foldl_keeps (fun z => z.stopq.active) _ _ _ (fun t f => ?_)).trans ?_) | (refine (foldl_keeps_fst (fun z => z.stopq.active) _ _ _ (fun t f => ?_)).trans ?_) | split))

@[simp] theorem State_hostStage_stopq_active (s : State) (off : Nat) (v : Word) (by_ : Stager)  : (State.hostStage s off v by_).stopq.active = s.stopq.active := by
  first | rfl | (simp (maxDischargeDepth := 12) [State.hostStage]; done) | (unfold State.hostStage; (try dsimp only); repeat' (first | rfl | (simp (maxDischargeDepth := 12); done) | (refine (foldl_keeps (fun z => z.stopq.active) _ _ _ (fun t f => ?_)).trans ?_) | (refine (foldl_keeps_fst (fun z => z.stopq.active) _ _ _ (fun t f => ?_)).trans ?_) | split))

@[simp] theorem State_thermStage_stopq_active (s : State) (lim : Bool) (v : Word) (by_ : Stager)  : (State.thermStage s lim v by_).stopq.active = s.stopq.active := by
  first | rfl | (simp (maxDischargeDepth := 12) [State.thermStage]; done) | (unfold State.thermStage; (try dsimp only); repeat' (first | rfl | (simp (maxDischargeDepth := 12); done) | (refine (foldl_keeps (fun z => z.stopq.active) _ _ _ (fun t f => ?_)).trans ?_) | (refine (foldl_keeps_fst (fun z => z.stopq.active) _ _ _ (fun t f => ?_)).trans ?_) | split))

@[simp] theorem State_updCr_stopq_active (s : State) (i : Nat) (f : Ring → Ring)  : (State.updCr s i f).stopq.active = s.stopq.active := by
  first | rfl | (simp (maxDischargeDepth := 12) [State.updCr]; done) | (unfold State.updCr; (try dsimp only); repeat' (first | rfl | (simp (maxDischargeDepth := 12); done) | (refine (foldl_keeps (fun z => z.stopq.active) _ _ _ (fun t f => ?_)).trans ?_) | (refine (foldl_keeps_fst (fun z => z.stopq.active) _ _ _ (fun t f => ?_)).trans ?_) | split))

@[simp] theorem State_updPr_stopq_active (s : State) (p : Nat) (f : Ring → Ring)  : (State.updPr s p f).stopq.active = s.stopq.active := by
  first | rfl | (simp (maxDischargeDepth := 12) [State.updPr]; done) | (unfold State.updPr; (try dsimp only); repeat' (first | rfl | (simp (maxDischargeDepth := 12); done) | (refine (foldl_keeps (fun z => z.stopq.active) _ _ _ (fun t f => ?_)).trans ?_) | (refine (foldl_keeps_fst (fun z => z.stopq.active) _ _ _ (fun t f => ?_)).trans ?_) | split))

@[simp] theorem State_setIntake_stopq_active (s : State) (i : Nat) (l : List Desc)  : (State.setIntake s i l).stopq.active = s.stopq.active := by
  first | rfl | (simp (maxDischargeDepth := 12) [State.setIntake]; done) | (unfold State.setIntake; (try dsimp only); repeat' (first | rfl | (simp (maxDischargeDepth := 12); done) | (refine (foldl_keeps (fun z => z.stopq.active) _ _ _ (fun t f => ?_)).trans ?_) | (refine (foldl_keeps_fst (fun z => z.stopq.active) _ _ _ (fun t f => ?_)).trans ?_) | split))

@[simp] theorem State_issueFetch_stopq_active (s : State) (i : Nat)  : (State.issueFetch s i).stopq.active = s.stopq.active := by
  first | rfl | (simp (maxDischargeDepth := 12) [State.issueFetch]; done) | (unfold State.issueFetch; (try dsimp only); repeat' (first | rfl | (simp (maxDischargeDepth := 12); done) | (refine (foldl_keeps (fun z => z.stopq.active) _ _ _ (fun t f => ?_)).trans ?_) | (refine (foldl_keeps_fst (fun z => z.stopq.active) _ _ _ (fun t f => ?_)).trans ?_) | split))

@[simp] theorem State_issueFetches_stopq_active (s : State)  : (State.issueFetches s).stopq.active = s.stopq.active := by
  first | rfl | (simp (maxDischargeDepth := 12) [State.issueFetches]; done) | (unfold State.issueFetches; (try dsimp only); repeat' (first | rfl | (simp (maxDischargeDepth := 12); done) | (refine (foldl_keeps (fun z => z.stopq.active) _ _ _ (fun t f => ?_)).trans ?_) | (refine (foldl_keeps_fst (fun z => z.stopq.active) _ _ _ (fun t f => ?_)).trans ?_) | split))

@[simp] theorem State_flushRing_stopq_active (s : State) (i : Nat)  : (State.flushRing s i).stopq.active = s.stopq.active := by
  first | rfl | (simp (maxDischargeDepth := 12) [State.flushRing]; done) | (unfold State.flushRing; (try dsimp only); repeat' (first | rfl | (simp (maxDischargeDepth := 12); done) | (refine (foldl_keeps (fun z => z.stopq.active) _ _ _ (fun t f => ?_)).trans ?_) | (refine (foldl_keeps_fst (fun z => z.stopq.active) _ _ _ (fun t f => ?_)).trans ?_) | split))

@[simp] theorem State_ringOff_stopq_active (s : State) (obj : Nat) (stopped : Bool)  : (State.ringOff s obj stopped).stopq.active = s.stopq.active := by
  first | rfl | (simp (maxDischargeDepth := 12) [State.ringOff]; done) | (unfold State.ringOff; (try dsimp only); repeat' (first | rfl | (simp (maxDischargeDepth := 12); done) | (refine (foldl_keeps (fun z => z.stopq.active) _ _ _ (fun t f => ?_)).trans ?_) | (refine (foldl_keeps_fst (fun z => z.stopq.active) _ _ _ (fun t f => ?_)).trans ?_) | split))

@[simp] theorem State_updRing_stopq_active (s : State) (obj : Nat) (f : Ring → Ring)  : (State.updRing s obj f).stopq.active = s.stopq.active := by
  first | rfl | (simp (maxDischargeDepth := 12) [State.updRing]; done) | (unfold State.updRing; (try dsimp only); repeat' (first | rfl | (simp (maxDischargeDepth := 12); done) | (refine (foldl_keeps (fun z => z.stopq.active) _ _ _ (fun t f => ?_)).trans ?_) | (refine (foldl_keeps_fst (fun z => z.stopq.active) _ _ _ (fun t f => ?_)).trans ?_) | split))

@[simp] theorem State_ringCtrlWrite_stopq_active (s : State) (v : Word)  : (State.ringCtrlWrite s v).stopq.active = s.stopq.active := by
  first | rfl | (simp (maxDischargeDepth := 12) [State.ringCtrlWrite]; done) | (unfold State.ringCtrlWrite; (try dsimp only); repeat' (first | rfl | (simp (maxDischargeDepth := 12); done) | (refine (foldl_keeps (fun z => z.stopq.active) _ _ _ (fun t f => ?_)).trans ?_) | (refine (foldl_keeps_fst (fun z => z.stopq.active) _ _ _ (fun t f => ?_)).trans ?_) | split))

@[simp] theorem State_signalVec_stopq_active (s : State) (v : Nat) (now : Bool)  : (State.signalVec s v now).stopq.active = s.stopq.active := by
  first | rfl | (simp (maxDischargeDepth := 12) [State.signalVec]; done) | (unfold State.signalVec; (try dsimp only); repeat' (first | rfl | (simp (maxDischargeDepth := 12); done) | (refine (foldl_keeps (fun z => z.stopq.active) _ _ _ (fun t f => ?_)).trans ?_) | (refine (foldl_keeps_fst (fun z => z.stopq.active) _ _ _ (fun t f => ?_)).trans ?_) | split))

@[simp] theorem State_writeEntry_stopq_active (s : State) (addr : Nat) (k : Nat) (l : List Word)  : (State.writeEntry s addr k l).stopq.active = s.stopq.active := by
  first | rfl | (simp (maxDischargeDepth := 12) [State.writeEntry]; done) | (unfold State.writeEntry; (try dsimp only); repeat' (first | rfl | (simp (maxDischargeDepth := 12); done) | (refine (foldl_keeps (fun z => z.stopq.active) _ _ _ (fun t f => ?_)).trans ?_) | (refine (foldl_keeps_fst (fun z => z.stopq.active) _ _ _ (fun t f => ?_)).trans ?_) | split))

@[simp] theorem State_produce_stopq_active (s : State) (p : Nat) (k : Nat) (f : Nat → List Word)  : (State.produce s p k f).stopq.active = s.stopq.active := by
  first | rfl | (simp (maxDischargeDepth := 12) [State.produce]; done) | (unfold State.produce; (try dsimp only); repeat' (first | rfl | (simp (maxDischargeDepth := 12); done) | (refine (foldl_keeps (fun z => z.stopq.active) _ _ _ (fun t f => ?_)).trans ?_) | (refine (foldl_keeps_fst (fun z => z.stopq.active) _ _ _ (fun t f => ?_)).trans ?_) | split))

@[simp] theorem State_complRefill_stopq_active (s : State)  : (State.complRefill s).stopq.active = s.stopq.active := by
  first | rfl | (simp (maxDischargeDepth := 12) [State.complRefill]; done) | (unfold State.complRefill; (try dsimp only); repeat' (first | rfl | (simp (maxDischargeDepth := 12); done) | (refine (foldl_keeps (fun z => z.stopq.active) _ _ _ (fun t f => ?_)).trans ?_) | (refine (foldl_keeps_fst (fun z => z.stopq.active) _ _ _ (fun t f => ?_)).trans ?_) | split))

@[simp] theorem State_writeCompl_stopq_active (s : State) (room : Bool)  : (State.writeCompl s room).stopq.active = s.stopq.active := by
  first | rfl | (simp (maxDischargeDepth := 12) [State.writeCompl]; done) | (unfold State.writeCompl; (try dsimp only); repeat' (first | rfl | (simp (maxDischargeDepth := 12); done) | (refine (foldl_keeps (fun z => z.stopq.active) _ _ _ (fun t f => ?_)).trans ?_) | (refine (foldl_keeps_fst (fun z => z.stopq.active) _ _ _ (fun t f => ?_)).trans ?_) | split))

@[simp] theorem State_writeTlm_stopq_active (s : State) (room : Bool)  : (State.writeTlm s room).stopq.active = s.stopq.active := by
  first | rfl | (simp (maxDischargeDepth := 12) [State.writeTlm]; done) | (unfold State.writeTlm; (try dsimp only); repeat' (first | rfl | (simp (maxDischargeDepth := 12); done) | (refine (foldl_keeps (fun z => z.stopq.active) _ _ _ (fun t f => ?_)).trans ?_) | (refine (foldl_keeps_fst (fun z => z.stopq.active) _ _ _ (fun t f => ?_)).trans ?_) | split))

@[simp] theorem State_writeEvent_stopq_active (s : State) (room : Bool)  : (State.writeEvent s room).stopq.active = s.stopq.active := by
  first | rfl | (simp (maxDischargeDepth := 12) [State.writeEvent]; done) | (unfold State.writeEvent; (try dsimp only); repeat' (first | rfl | (simp (maxDischargeDepth := 12); done) | (refine (foldl_keeps (fun z => z.stopq.active) _ _ _ (fun t f => ?_)).trans ?_) | (refine (foldl_keeps_fst (fun z => z.stopq.active) _ _ _ (fun t f => ?_)).trans ?_) | split))

@[simp] theorem State_latchHi_stopq_active (s : State) (off : Nat)  : (State.latchHi s off).stopq.active = s.stopq.active := by
  first | rfl | (simp (maxDischargeDepth := 12) [State.latchHi]; done) | (unfold State.latchHi; (try dsimp only); repeat' (first | rfl | (simp (maxDischargeDepth := 12); done) | (refine (foldl_keeps (fun z => z.stopq.active) _ _ _ (fun t f => ?_)).trans ?_) | (refine (foldl_keeps_fst (fun z => z.stopq.active) _ _ _ (fun t f => ?_)).trans ?_) | split))

@[simp] theorem State_clearDscStat_stopq_active (s : State) (n : Nat)  : (State.clearDscStat s n).stopq.active = s.stopq.active := by
  first | rfl | (simp (maxDischargeDepth := 12) [State.clearDscStat]; done) | (unfold State.clearDscStat; (try dsimp only); repeat' (first | rfl | (simp (maxDischargeDepth := 12); done) | (refine (foldl_keeps (fun z => z.stopq.active) _ _ _ (fun t f => ?_)).trans ?_) | (refine (foldl_keeps_fst (fun z => z.stopq.active) _ _ _ (fun t f => ?_)).trans ?_) | split))

@[simp] theorem State_clearRc_stopq_active (s : State) (off : Nat)  : (State.clearRc s off).stopq.active = s.stopq.active := by
  first | rfl | (simp (maxDischargeDepth := 12) [State.clearRc]; done) | (unfold State.clearRc; (try dsimp only); repeat' (first | rfl | (simp (maxDischargeDepth := 12); done) | (refine (foldl_keeps (fun z => z.stopq.active) _ _ _ (fun t f => ?_)).trans ?_) | (refine (foldl_keeps_fst (fun z => z.stopq.active) _ _ _ (fun t f => ?_)).trans ?_) | split))

@[simp] theorem State_answer_stopq_active (s : State) (w : Word) (off : Nat) (size : Nat)  : (State.answer s w off size).stopq.active = s.stopq.active := by
  first | rfl | (simp (maxDischargeDepth := 12) [State.answer]; done) | (unfold State.answer; (try dsimp only); repeat' (first | rfl | (simp (maxDischargeDepth := 12); done) | (refine (foldl_keeps (fun z => z.stopq.active) _ _ _ (fun t f => ?_)).trans ?_) | (refine (foldl_keeps_fst (fun z => z.stopq.active) _ _ _ (fun t f => ?_)).trans ?_) | split))

@[simp] theorem State_readNow_stopq_active (s : State) (off : Nat) (size : Nat)  : (State.readNow s off size).stopq.active = s.stopq.active := by
  first | rfl | (simp (maxDischargeDepth := 12) [State.readNow]; done) | (unfold State.readNow; (try dsimp only); repeat' (first | rfl | (simp (maxDischargeDepth := 12); done) | (refine (foldl_keeps (fun z => z.stopq.active) _ _ _ (fun t f => ?_)).trans ?_) | (refine (foldl_keeps_fst (fun z => z.stopq.active) _ _ _ (fun t f => ?_)).trans ?_) | split))

@[simp] theorem State_unstage_stopq_active (s : State) (key : StageKey)  : (State.unstage s key).stopq.active = s.stopq.active := by
  first | rfl | (simp (maxDischargeDepth := 12) [State.unstage]; done) | (unfold State.unstage; (try dsimp only); repeat' (first | rfl | (simp (maxDischargeDepth := 12); done) | (refine (foldl_keeps (fun z => z.stopq.active) _ _ _ (fun t f => ?_)).trans ?_) | (refine (foldl_keeps_fst (fun z => z.stopq.active) _ _ _ (fun t f => ?_)).trans ?_) | split))

@[simp] theorem State_stagedWrite_stopq_active (s : State) (off : Nat) (v : Word)  : (State.stagedWrite s off v).stopq.active = s.stopq.active := by
  first | rfl | (simp (maxDischargeDepth := 12) [State.stagedWrite]; done) | (unfold State.stagedWrite; (try dsimp only); repeat' (first | rfl | (simp (maxDischargeDepth := 12); done) | (refine (foldl_keeps (fun z => z.stopq.active) _ _ _ (fun t f => ?_)).trans ?_) | (refine (foldl_keeps_fst (fun z => z.stopq.active) _ _ _ (fun t f => ?_)).trans ?_) | split))

@[simp] theorem State_ledgerWrite_stopq_active (s : State) (off : Nat) (v : Word)  : (State.ledgerWrite s off v).stopq.active = s.stopq.active := by
  first | rfl | (simp (maxDischargeDepth := 12) [State.ledgerWrite]; done) | (unfold State.ledgerWrite; (try dsimp only); repeat' (first | rfl | (simp (maxDischargeDepth := 12); done) | (refine (foldl_keeps (fun z => z.stopq.active) _ _ _ (fun t f => ?_)).trans ?_) | (refine (foldl_keeps_fst (fun z => z.stopq.active) _ _ _ (fun t f => ?_)).trans ?_) | split))

@[simp] theorem State_lawRegWrite_stopq_active (s : State) (off : Nat) (v : Word)  : (State.lawRegWrite s off v).stopq.active = s.stopq.active := by
  first | rfl | (simp (maxDischargeDepth := 12) [State.lawRegWrite]; done) | (unfold State.lawRegWrite; (try dsimp only); repeat' (first | rfl | (simp (maxDischargeDepth := 12); done) | (refine (foldl_keeps (fun z => z.stopq.active) _ _ _ (fun t f => ?_)).trans ?_) | (refine (foldl_keeps_fst (fun z => z.stopq.active) _ _ _ (fun t f => ?_)).trans ?_) | split))

@[simp] theorem State_engineWrite_stopq_active (s : State) (off : Nat) (v : Word)  : (State.engineWrite s off v).stopq.active = s.stopq.active := by
  first | rfl | (simp (maxDischargeDepth := 12) [State.engineWrite]; done) | (unfold State.engineWrite; (try dsimp only); repeat' (first | rfl | (simp (maxDischargeDepth := 12); done) | (refine (foldl_keeps (fun z => z.stopq.active) _ _ _ (fun t f => ?_)).trans ?_) | (refine (foldl_keeps_fst (fun z => z.stopq.active) _ _ _ (fun t f => ?_)).trans ?_) | split))

@[simp] theorem State_updStaging_stopq_active (s : State) (f : SeqSet → SeqSet)  : (State.updStaging s f).stopq.active = s.stopq.active := by
  first | rfl | (simp (maxDischargeDepth := 12) [State.updStaging]; done) | (unfold State.updStaging; (try dsimp only); repeat' (first | rfl | (simp (maxDischargeDepth := 12); done) | (refine (foldl_keeps (fun z => z.stopq.active) _ _ _ (fun t f => ?_)).trans ?_) | (refine (foldl_keeps_fst (fun z => z.stopq.active) _ _ _ (fun t f => ?_)).trans ?_) | split))

@[simp] theorem State_seqCtrlWrite_stopq_active (s : State) (v : Word)  : (State.seqCtrlWrite s v).stopq.active = s.stopq.active := by
  first | rfl | (simp (maxDischargeDepth := 12) [State.seqCtrlWrite]; done) | (unfold State.seqCtrlWrite; (try dsimp only); repeat' (first | rfl | (simp (maxDischargeDepth := 12); done) | (refine (foldl_keeps (fun z => z.stopq.active) _ _ _ (fun t f => ?_)).trans ?_) | (refine (foldl_keeps_fst (fun z => z.stopq.active) _ _ _ (fun t f => ?_)).trans ?_) | split))

@[simp] theorem State_spEnWrite_stopq_active (s : State) (i : Nat) (v0 : Word)  : (State.spEnWrite s i v0).stopq.active = s.stopq.active := by
  first | rfl | (simp (maxDischargeDepth := 12) [State.spEnWrite]; done) | (unfold State.spEnWrite; (try dsimp only); repeat' (first | rfl | (simp (maxDischargeDepth := 12); done) | (refine (foldl_keeps (fun z => z.stopq.active) _ _ _ (fun t f => ?_)).trans ?_) | (refine (foldl_keeps_fst (fun z => z.stopq.active) _ _ _ (fun t f => ?_)).trans ?_) | split))

@[simp] theorem State_senseWrite_stopq_active (s : State) (off : Nat) (v : Word)  : (State.senseWrite s off v).stopq.active = s.stopq.active := by
  first | rfl | (simp (maxDischargeDepth := 12) [State.senseWrite]; done) | (unfold State.senseWrite; (try dsimp only); repeat' (first | rfl | (simp (maxDischargeDepth := 12); done) | (refine (foldl_keeps (fun z => z.stopq.active) _ _ _ (fun t f => ?_)).trans ?_) | (refine (foldl_keeps_fst (fun z => z.stopq.active) _ _ _ (fun t f => ?_)).trans ?_) | split))

@[simp] theorem State_setReact_stopq_active (s : State) (src : Nat) (v : Nat)  : (State.setReact s src v).stopq.active = s.stopq.active := by
  first | rfl | (simp (maxDischargeDepth := 12) [State.setReact]; done) | (unfold State.setReact; (try dsimp only); repeat' (first | rfl | (simp (maxDischargeDepth := 12); done) | (refine (foldl_keeps (fun z => z.stopq.active) _ _ _ (fun t f => ?_)).trans ?_) | (refine (foldl_keeps_fst (fun z => z.stopq.active) _ _ _ (fun t f => ?_)).trans ?_) | split))

@[simp] theorem State_clearPend_stopq_active (s : State) (mask : Nat)  : (State.clearPend s mask).stopq.active = s.stopq.active := by
  first | rfl | (simp (maxDischargeDepth := 12) [State.clearPend]; done) | (unfold State.clearPend; (try dsimp only); repeat' (first | rfl | (simp (maxDischargeDepth := 12); done) | (refine (foldl_keeps (fun z => z.stopq.active) _ _ _ (fun t f => ?_)).trans ?_) | (refine (foldl_keeps_fst (fun z => z.stopq.active) _ _ _ (fun t f => ?_)).trans ?_) | split))

@[simp] theorem State_chainWrite_stopq_active (s : State) (off : Nat) (v : Word)  : (State.chainWrite s off v).stopq.active = s.stopq.active := by
  first | rfl | (simp (maxDischargeDepth := 12) [State.chainWrite]; done) | (unfold State.chainWrite; (try dsimp only); repeat' (first | rfl | (simp (maxDischargeDepth := 12); done) | (refine (foldl_keeps (fun z => z.stopq.active) _ _ _ (fun t f => ?_)).trans ?_) | (refine (foldl_keeps_fst (fun z => z.stopq.active) _ _ _ (fun t f => ?_)).trans ?_) | split))

@[simp] theorem State_mboxCmdWrite_stopq_active (s : State) (v : Word)  : (State.mboxCmdWrite s v).stopq.active = s.stopq.active := by
  first | rfl | (simp (maxDischargeDepth := 12) [State.mboxCmdWrite]; done) | (unfold State.mboxCmdWrite; (try dsimp only); repeat' (first | rfl | (simp (maxDischargeDepth := 12); done) | (refine (foldl_keeps (fun z => z.stopq.active) _ _ _ (fun t f => ?_)).trans ?_) | (refine (foldl_keeps_fst (fun z => z.stopq.active) _ _ _ (fun t f => ?_)).trans ?_) | split))

@[simp] theorem State_avsCtrlWrite_stopq_active (s : State) (v : Word)  : (State.avsCtrlWrite s v).stopq.active = s.stopq.active := by
  first | rfl | (simp (maxDischargeDepth := 12) [State.avsCtrlWrite]; done) | (unfold State.avsCtrlWrite; (try dsimp only); repeat' (first | rfl | (simp (maxDischargeDepth := 12); done) | (refine (foldl_keeps (fun z => z.stopq.active) _ _ _ (fun t f => ?_)).trans ?_) | (refine (foldl_keeps_fst (fun z => z.stopq.active) _ _ _ (fun t f => ?_)).trans ?_) | split))

@[simp] theorem State_wardenWrite_stopq_active (s : State) (off : Nat) (v : Word)  : (State.wardenWrite s off v).stopq.active = s.stopq.active := by
  first | rfl | (simp (maxDischargeDepth := 12) [State.wardenWrite]; done) | (unfold State.wardenWrite; (try dsimp only); repeat' (first | rfl | (simp (maxDischargeDepth := 12); done) | (refine (foldl_keeps (fun z => z.stopq.active) _ _ _ (fun t f => ?_)).trans ?_) | (refine (foldl_keeps_fst (fun z => z.stopq.active) _ _ _ (fun t f => ?_)).trans ?_) | split))

@[simp] theorem State_stageImages_stopq_active (s : State) (x : CmdCtx) (l : List (Nat × Word))  : (State.stageImages s x l).stopq.active = s.stopq.active := by
  first | rfl | (simp (maxDischargeDepth := 12) [State.stageImages]; done) | (unfold State.stageImages; (try dsimp only); repeat' (first | rfl | (simp (maxDischargeDepth := 12); done) | (refine (foldl_keeps (fun z => z.stopq.active) _ _ _ (fun t f => ?_)).trans ?_) | (refine (foldl_keeps_fst (fun z => z.stopq.active) _ _ _ (fun t f => ?_)).trans ?_) | split))

@[simp] theorem State_stageLimitImage_stopq_active (s : State) (x : CmdCtx) (b : Nat) (v : Word)  : (State.stageLimitImage s x b v).stopq.active = s.stopq.active := by
  first | rfl | (simp (maxDischargeDepth := 12) [State.stageLimitImage]; done) | (unfold State.stageLimitImage; (try dsimp only); repeat' (first | rfl | (simp (maxDischargeDepth := 12); done) | (refine (foldl_keeps (fun z => z.stopq.active) _ _ _ (fun t f => ?_)).trans ?_) | (refine (foldl_keeps_fst (fun z => z.stopq.active) _ _ _ (fun t f => ?_)).trans ?_) | split))

@[simp] theorem State_askAgain_stopq_active (s : State)  : (State.askAgain s).stopq.active = s.stopq.active := by
  first | rfl | (simp (maxDischargeDepth := 12) [State.askAgain]; done) | (unfold State.askAgain; (try dsimp only); repeat' (first | rfl | (simp (maxDischargeDepth := 12); done) | (refine (foldl_keeps (fun z => z.stopq.active) _ _ _ (fun t f => ?_)).trans ?_) | (refine (foldl_keeps_fst (fun z => z.stopq.active) _ _ _ (fun t f => ?_)).trans ?_) | split))

@[simp] theorem State_completeAll_stopq_active (s : State) (i : Nat) (l : List (Desc × Nat × Nat))  : (State.completeAll s i l).stopq.active = s.stopq.active := by
  first | rfl | (simp (maxDischargeDepth := 12) [State.completeAll]; done) | (unfold State.completeAll; (try dsimp only); repeat' (first | rfl | (simp (maxDischargeDepth := 12); done) | (refine (foldl_keeps (fun z => z.stopq.active) _ _ _ (fun t f => ?_)).trans ?_) | (refine (foldl_keeps_fst (fun z => z.stopq.active) _ _ _ (fun t f => ?_)).trans ?_) | split))

@[simp] theorem State_raiseNote_stopq_active (s : State) (src : Nat) (obj : Nat)  : (State.raiseNote s src obj).stopq.active = s.stopq.active := by
  first | rfl | (simp (maxDischargeDepth := 12) [State.raiseNote]; done) | (unfold State.raiseNote; (try dsimp only); repeat' (first | rfl | (simp (maxDischargeDepth := 12); done) | (refine (foldl_keeps (fun z => z.stopq.active) _ _ _ (fun t f => ?_)).trans ?_) | (refine (foldl_keeps_fst (fun z => z.stopq.active) _ _ _ (fun t f => ?_)).trans ?_) | split))

@[simp] theorem State_paceForward_stopq_active (s : State) (f : PaceTx)  : (State.paceForward s f).stopq.active = s.stopq.active := by
  first | rfl | (simp (maxDischargeDepth := 12) [State.paceForward]; done) | (unfold State.paceForward; (try dsimp only); repeat' (first | rfl | (simp (maxDischargeDepth := 12); done) | (refine (foldl_keeps (fun z => z.stopq.active) _ _ _ (fun t f => ?_)).trans ?_) | (refine (foldl_keeps_fst (fun z => z.stopq.active) _ _ _ (fun t f => ?_)).trans ?_) | split))

@[simp] theorem State_paceUp_stopq_active (s : State) (n : Nat)  : (State.paceUp s n).stopq.active = s.stopq.active := by
  first | rfl | (simp (maxDischargeDepth := 12) [State.paceUp]; done) | (unfold State.paceUp; (try dsimp only); repeat' (first | rfl | (simp (maxDischargeDepth := 12); done) | (refine (foldl_keeps (fun z => z.stopq.active) _ _ _ (fun t f => ?_)).trans ?_) | (refine (foldl_keeps_fst (fun z => z.stopq.active) _ _ _ (fun t f => ?_)).trans ?_) | split))

@[simp] theorem State_paceResend_stopq_active (s : State) (relay : Bool)  : (State.paceResend s relay).stopq.active = s.stopq.active := by
  first | rfl | (simp (maxDischargeDepth := 12) [State.paceResend]; done) | (unfold State.paceResend; (try dsimp only); repeat' (first | rfl | (simp (maxDischargeDepth := 12); done) | (refine (foldl_keeps (fun z => z.stopq.active) _ _ _ (fun t f => ?_)).trans ?_) | (refine (foldl_keeps_fst (fun z => z.stopq.active) _ _ _ (fun t f => ?_)).trans ?_) | split))

@[simp] theorem State_smbReply_stopq_active (s : State) (l : List Byte)  : (State.smbReply s l).stopq.active = s.stopq.active := by
  first | rfl | (simp (maxDischargeDepth := 12) [State.smbReply]; done) | (unfold State.smbReply; (try dsimp only); repeat' (first | rfl | (simp (maxDischargeDepth := 12); done) | (refine (foldl_keeps (fun z => z.stopq.active) _ _ _ (fun t f => ?_)).trans ?_) | (refine (foldl_keeps_fst (fun z => z.stopq.active) _ _ _ (fun t f => ?_)).trans ?_) | split))

@[simp] theorem State_replyByte_stopq_active (s : State) (n : Nat)  : (State.replyByte s n).stopq.active = s.stopq.active := by
  first | rfl | (simp (maxDischargeDepth := 12) [State.replyByte]; done) | (unfold State.replyByte; (try dsimp only); repeat' (first | rfl | (simp (maxDischargeDepth := 12); done) | (refine (foldl_keeps (fun z => z.stopq.active) _ _ _ (fun t f => ?_)).trans ?_) | (refine (foldl_keeps_fst (fun z => z.stopq.active) _ _ _ (fun t f => ?_)).trans ?_) | split))

@[simp] theorem State_replyWord_stopq_active (s : State) (n : Nat)  : (State.replyWord s n).stopq.active = s.stopq.active := by
  first | rfl | (simp (maxDischargeDepth := 12) [State.replyWord]; done) | (unfold State.replyWord; (try dsimp only); repeat' (first | rfl | (simp (maxDischargeDepth := 12); done) | (refine (foldl_keeps (fun z => z.stopq.active) _ _ _ (fun t f => ?_)).trans ?_) | (refine (foldl_keeps_fst (fun z => z.stopq.active) _ _ _ (fun t f => ?_)).trans ?_) | split))

@[simp] theorem State_replyBlock_stopq_active (s : State) (l : List Byte)  : (State.replyBlock s l).stopq.active = s.stopq.active := by
  first | rfl | (simp (maxDischargeDepth := 12) [State.replyBlock]; done) | (unfold State.replyBlock; (try dsimp only); repeat' (first | rfl | (simp (maxDischargeDepth := 12); done) | (refine (foldl_keeps (fun z => z.stopq.active) _ _ _ (fun t f => ?_)).trans ?_) | (refine (foldl_keeps_fst (fun z => z.stopq.active) _ _ _ (fun t f => ?_)).trans ?_) | split))

@[simp] theorem State_cml_stopq_active (s : State) (b : Nat)  : (State.cml s b).stopq.active = s.stopq.active := by
  first | rfl | (simp (maxDischargeDepth := 12) [State.cml]; done) | (unfold State.cml; (try dsimp only); repeat' (first | rfl | (simp (maxDischargeDepth := 12); done) | (refine (foldl_keeps (fun z => z.stopq.active) _ _ _ (fun t f => ?_)).trans ?_) | (refine (foldl_keeps_fst (fun z => z.stopq.active) _ _ _ (fun t f => ?_)).trans ?_) | split))

@[simp] theorem State_badData_stopq_active (s : State)  : (State.badData s).stopq.active = s.stopq.active := by
  first | rfl | (simp (maxDischargeDepth := 12) [State.badData]; done) | (unfold State.badData; (try dsimp only); repeat' (first | rfl | (simp (maxDischargeDepth := 12); done) | (refine (foldl_keeps (fun z => z.stopq.active) _ _ _ (fun t f => ?_)).trans ?_) | (refine (foldl_keeps_fst (fun z => z.stopq.active) _ _ _ (fun t f => ?_)).trans ?_) | split))

@[simp] theorem State_replyLinear_stopq_active (s : State) (v : Option Rat)  : (State.replyLinear s v).stopq.active = s.stopq.active := by
  first | rfl | (simp (maxDischargeDepth := 12) [State.replyLinear]; done) | (unfold State.replyLinear; (try dsimp only); repeat' (first | rfl | (simp (maxDischargeDepth := 12); done) | (refine (foldl_keeps (fun z => z.stopq.active) _ _ _ (fun t f => ?_)).trans ?_) | (refine (foldl_keeps_fst (fun z => z.stopq.active) _ _ _ (fun t f => ?_)).trans ?_) | split))

@[simp] theorem State_readChip_stopq_active (s : State) (v : Rat)  : (State.readChip s v).stopq.active = s.stopq.active := by
  first | rfl | (simp (maxDischargeDepth := 12) [State.readChip]; done) | (unfold State.readChip; (try dsimp only); repeat' (first | rfl | (simp (maxDischargeDepth := 12); done) | (refine (foldl_keeps (fun z => z.stopq.active) _ _ _ (fun t f => ?_)).trans ?_) | (refine (foldl_keeps_fst (fun z => z.stopq.active) _ _ _ (fun t f => ?_)).trans ?_) | split))

@[simp] theorem State_restart_stopq_active (s : State)  : (State.restart s).stopq.active = s.stopq.active := by
  first | rfl | (simp (maxDischargeDepth := 12) [State.restart]; done) | (unfold State.restart; (try dsimp only); repeat' (first | rfl | (simp (maxDischargeDepth := 12); done) | (refine (foldl_keeps (fun z => z.stopq.active) _ _ _ (fun t f => ?_)).trans ?_) | (refine (foldl_keeps_fst (fun z => z.stopq.active) _ _ _ (fun t f => ?_)).trans ?_) | split))

@[simp] theorem State_vaultBlock_stopq_active (s : State)  : (State.vaultBlock s).2.stopq.active = s.stopq.active := by
  first | rfl | (simp (maxDischargeDepth := 12) [State.vaultBlock]; done) | (unfold State.vaultBlock; (try dsimp only); repeat' (first | rfl | (simp (maxDischargeDepth := 12); done) | (refine (foldl_keeps (fun z => z.stopq.active) _ _ _ (fun t f => ?_)).trans ?_) | (refine (foldl_keeps_fst (fun z => z.stopq.active) _ _ _ (fun t f => ?_)).trans ?_) | split))

@[simp] theorem State_capture_stopq_active (s : State) (therm : Bool) (errn : Bool) (alert : Bool)  : (State.capture s therm errn alert).2.stopq.active = s.stopq.active := by
  first | rfl | (simp (maxDischargeDepth := 12) [State.capture]; done) | (unfold State.capture; (try dsimp only); repeat' (first | rfl | (simp (maxDischargeDepth := 12); done) | (refine (foldl_keeps (fun z => z.stopq.active) _ _ _ (fun t f => ?_)).trans ?_) | (refine (foldl_keeps_fst (fun z => z.stopq.active) _ _ _ (fun t f => ?_)).trans ?_) | split))

@[simp] theorem State_captureRun_stopq_active (s : State)  : (State.captureRun s).2.stopq.active = s.stopq.active := by
  first | rfl | (simp (maxDischargeDepth := 12) [State.captureRun]; done) | (unfold State.captureRun; (try dsimp only); repeat' (first | rfl | (simp (maxDischargeDepth := 12); done) | (refine (foldl_keeps (fun z => z.stopq.active) _ _ _ (fun t f => ?_)).trans ?_) | (refine (foldl_keeps_fst (fun z => z.stopq.active) _ _ _ (fun t f => ?_)).trans ?_) | split))

@[simp] theorem State_captureTest_stopq_active (s : State)  : (State.captureTest s).2.stopq.active = s.stopq.active := by
  first | rfl | (simp (maxDischargeDepth := 12) [State.captureTest]; done) | (unfold State.captureTest; (try dsimp only); repeat' (first | rfl | (simp (maxDischargeDepth := 12); done) | (refine (foldl_keeps (fun z => z.stopq.active) _ _ _ (fun t f => ?_)).trans ?_) | (refine (foldl_keeps_fst (fun z => z.stopq.active) _ _ _ (fun t f => ?_)).trans ?_) | split))

@[simp] theorem State_tapSelect_stopq_active (s : State) (ir : TapIr) (dr : Nat)  : (State.tapSelect s ir dr).stopq.active = s.stopq.active := by
  first | rfl | (simp (maxDischargeDepth := 12) [State.tapSelect]; done) | (unfold State.tapSelect; (try dsimp only); repeat' (first | rfl | (simp (maxDischargeDepth := 12); done) | (refine (foldl_keeps (fun z => z.stopq.active) _ _ _ (fun t f => ?_)).trans ?_) | (refine (foldl_keeps_fst (fun z => z.stopq.active) _ _ _ (fun t f => ?_)).trans ?_) | split))

@[simp] theorem State_tapBypass_stopq_active (s : State)  : (State.tapBypass s).stopq.active = s.stopq.active := by
  first | rfl | (simp (maxDischargeDepth := 12) [State.tapBypass]; done) | (unfold State.tapBypass; (try dsimp only); repeat' (first | rfl | (simp (maxDischargeDepth := 12); done) | (refine (foldl_keeps (fun z => z.stopq.active) _ _ _ (fun t f => ?_)).trans ?_) | (refine (foldl_keeps_fst (fun z => z.stopq.active) _ _ _ (fun t f => ?_)).trans ?_) | split))

end Sys2Proof.Machine
end

