-- ==== Sys2Proof/Laws/Tray.lean ====
section
/-! SUPPORT. What a transaction on the tray buses does that changes only the SMBus target's registers. -/

namespace Sys2Proof.Machine

/-- The wake of the warden clock changes nothing but that clock. -/
theorem State.wakeWarden_only (s : State) : s.wakeWarden = { s with clk := s.wakeWarden.clk } := by
  unfold State.wakeWarden; split <;> (try split) <;> rfl

@[simp] theorem State.wakeWarden_smb (s : State) : s.wakeWarden.smb = s.smb := by rw [State.wakeWarden_only]
@[simp] theorem State.wakeWarden_otp (s : State) : s.wakeWarden.otp = s.otp := by rw [State.wakeWarden_only]
@[simp] theorem State.wakeWarden_start (s : State) : s.wakeWarden.start = s.start := by rw [State.wakeWarden_only]

/-- A command that only changes the target's registers: the whole next state, and when ALERT_N is low in it (R501). -/
theorem State.tray_next (s : State) (m : Smb) : ∃ t, settle s { s.wakeWarden with smb := m } = .next t ∧ s.SmbOnly t m ∧
    t.smb.alert = (m.alert || ((List.range 16).any (fun i => bitAt (State.alertBits { s with smb := m }) i && !bitAt m.seen i) && m.valid)) := by
  have e : ({ s.wakeWarden with smb := m } : State) = { s with clk := s.wakeWarden.clk, smb := m } := by
    conv => lhs; rw [State.wakeWarden_only s]
  rw [e]
  exact ⟨_, settle_quiet rfl rfl, rfl, rfl⟩

/-- A transaction at the assigned address that only changes the target's registers. -/
theorem State.pmbus_only {s : State} {f : State → State} (m : Smb) (h : s.smbAnswers = true)
    (e : f s.wakeWarden = { s.wakeWarden with smb := m }) : ∃ t, s.pmbus f = .next t ∧ s.SmbOnly t m := by
  obtain ⟨t, a, b, _⟩ := State.tray_next s m
  refine ⟨t, ?_, b⟩
  simp only [State.pmbus, h, if_true, e]
  exact a

/-- A write at the assigned address whose PEC is not wrong. -/
theorem State.pmWrite_only {s : State} {f : State → State} {pec : Pec} (m : Smb) (h : s.smbAnswers = true) (p : pec ≠ .bad)
    (e : f s.wakeWarden = { s.wakeWarden with smb := m }) : ∃ t, s.pmWrite pec f = .next t ∧ s.SmbOnly t m := by
  unfold State.pmWrite
  refine State.pmbus_only m h ?_
  cases pec
  · exact e
  · exact e
  · exact absurd rfl p

/-- The bytes of a number whose low m bytes spell L and whose other bytes spell H. -/
theorem natBytes_split (m n H L : Nat) (h : L < 256 ^ m) : natBytes (m + n) (H * 256 ^ m + L) = natBytes m L ++ natBytes n H := by
  apply List.ext_getElem
  · simp [natBytes]
  intro i a b
  simp only [natBytes, List.length_map, List.length_range] at a
  simp only [natBytes, List.getElem_append, List.length_map, List.length_range, List.getElem_map, List.getElem_range]
  split
  · next k =>
    apply BitVec.eq_of_toNat_eq
    simp only [BitVec.toNat_ofNat]
    obtain ⟨j, rfl⟩ := Nat.exists_eq_add_of_lt k
    have e : H * 256 ^ (i + j + 1) = 256 ^ i * (H * 256 ^ j * 256) := by
      rw [Nat.pow_succ, Nat.pow_add]
      simp only [Nat.mul_comm, Nat.mul_left_comm]
    rw [e, Nat.mul_add_div (Nat.pow_pos (by decide))]
    omega
  · next k =>
    obtain ⟨j, rfl⟩ := Nat.exists_eq_add_of_le (Nat.le_of_not_lt k)
    rw [Nat.add_sub_cancel_left]
    have e : (H * 256 ^ m + L) / 256 ^ m = H := by
      rw [Nat.mul_comm, Nat.mul_add_div (Nat.pow_pos (by decide)), Nat.div_eq_of_lt h, Nat.add_zero]
    rw [Nat.pow_add, ← Nat.div_div_eq_div_mul, e]

end Sys2Proof.Machine
end

