-- ==== Sys2Proof/Laws/Window.lean ====
section
/-! SUPPORT. An access of the register window that is carried out at once (R13, R520, R521). -/

namespace Sys2Proof.Machine

theorem State.hostAccess_now {s : State} (h : s.WindowReady) (a : Held) : s.hostAccess a = s.access a := by
  obtain ⟨u, e, f⟩ := h
  simp [State.hostAccess, u, e, f]

theorem State.hostWriteReg_now {s : State} (h : s.WindowReady) (off : Nat) (v : Word) (k : off % 4 = 0) :
    s.hostWriteReg off v = s.writeNow off v := by
  simp only [State.hostWriteReg, k, if_true, State.hostAccess_now h]; rfl

/-- A host value of a limit register changes the policy's record of host limits alone (R459). -/
theorem State.hostLimits_eq (s : State) (off : Nat) (v : Word) : ∃ p, s.hostLimits off v = { s with policy := p } := by
  have go : ∀ (g : State → Nat → State), (∀ p a, ∃ q, g { s with policy := p } a = { s with policy := q }) →
      ∀ (l : List Nat) (x : State), (∃ p, x = { s with policy := p }) → ∃ p, x.forEach l g = { s with policy := p } := by
    intro g hg l
    induction l with
    | nil => exact fun x h => h
    | cons a l ih =>
      intro x h
      refine ih _ ?_
      obtain ⟨p, rfl⟩ := h
      exact hg p a
  unfold State.hostLimits
  dsimp only
  generalize hx : s.forEach (List.range 8) _ = x
  obtain ⟨p, rfl⟩ : ∃ p, x = { s with policy := p } := by
    rw [← hx]
    refine go _ (fun p a => ?_) _ s ⟨s.policy, rfl⟩
    cases q : limitField a with
    | none => exact ⟨p, by simp only⟩
    | some e =>
      obtain ⟨o, hi, lo⟩ := e
      by_cases k : o = off
      · exact ⟨_, by simp only [if_pos k]; rfl⟩
      · exact ⟨p, by simp only [if_neg k]⟩
  split
  · exact ⟨_, rfl⟩
  · exact ⟨p, rfl⟩

/-- A host value that is staged waits for the next commit; besides, only the policy's record of it changes (R245, R459). -/
theorem State.hostStage_eq (s : State) (off : Nat) (v : Word) (b : Stager) :
    ∃ p, s.hostStage off v b = { s.stage (.reg off) v b with policy := p } := State.hostLimits_eq _ off v

/-- The end of such an access where it raises no lost event and begins no stop sequence. -/
theorem settle_access {s t : State} (h : t.flt.eventLostRun = s.flt.eventLostRun) (k : t.stopq.active = s.stopq.active) :
    settle s t = .next t.alertUpdate := settle_quiet h k

end Sys2Proof.Machine
end

