-- ==== Sys2Proof/WellFormed.lean ====
section
/-! DEFINITION. Well-formed commands: what the rows' rules fix about operands beyond their types (R13, R103, R112, R314, R446, R451, R452,
R473, R475, R478).  The machine gives every command a meaning, well-formed or not; the host of a part delivers well-formed ones. -/

namespace Sys2Proof

/-- A field of a number. -/
def bitsOf (n hi lo : Nat) : Nat := n / 2 ^ lo % 2 ^ (hi - lo + 1)

/-- Bytes of one access to the register window. -/
def accessSize (n : Nat) : Bool := decide (1 ≤ n) && decide (n ≤ 8)

/-- A command whose operands are such as its row can carry. -/
def wellFormed (i : Instr) : Bool :=
  match i with
  | .wardenBootEnd _ _ _ _ mv => decide (mv.length = 4)  -- warden boot: the read-back of the four feed converters
  | .rcFieldRead _ n => accessSize n  -- an access is of 1 to 8 bytes
  | .writeNotWhole off n => accessSize n && !(n == 4 && off.toNat % 4 == 0)  -- a write that is whole is no such row
  | .unassignedAccess off _ => decide (off.toNat < 0x8000)  -- the factory range has a row of its own
  | .ftLockedAccess off _ => decide (0x8000 ≤ off.toNat)  -- only the factory range
  | .reservedFrame _ f => decide (14 ≤ bitsOf f.toNat 79 76)  -- TYPE is one that R103 does not list
  | .chainBreak _ j1 j2 _ => decide (j1.val ≤ j2.val)  -- the sound part of a chain ends before the part beyond the break
  | .patchData _ _ _ l => decide (l.length = 16)  -- 64 bytes of DATA
  | .polLoad _ _ _ _ l => decide (l.length = 4)  -- the first 16 bytes of the digest
  | .mboxUnknownOp _ _ op => !(decide (1 ≤ op.toNat) && decide (op.toNat ≤ 12))  -- an opcode that R452 does not list
  | .descriptorFetched _ l => decide (l.length % 16 = 0) && decide (16 ≤ l.length) && decide (l.length ≤ 64)  -- 1 to 4 descriptors of 16 words
  | .commandAccept l => decide (l.length ≤ 4)  -- a chain has at most 4 members
  | .stageLaw _ _ _ h => !h.ok || decide (h.words.length = 16)  -- a record of 64 bytes
  | .setBudget _ _ _ l => decide (l.length = 12)  -- A3 to A14
  | .setClassWeights _ _ _ l => decide (l.length = 14)  -- A2 to A15
  | .setLimits _ _ l => decide (l.length = 7)  -- A2 to A8
  | .setSequence _ _ _ _ _ h => !h.ok || decide (h.words.length = 36)  -- a list of 144 bytes
  | .setSense _ _ _ l => decide (l.length = 8)  -- A2 to A9
  | .unknownOpcode _ op => decide (0x17 < op.toNat)  -- an opcode that R478 does not list
  | .mfrMboxCmd _ _ _ a d => decide (a.length = 4) && (match d with | some l => decide (l.length = 16) | none => true)  -- 18 or 82 bytes
  | .paceReservedFrame p => !(decide (1 ≤ bitsOf p.toNat 55 52) && decide (bitsOf p.toNat 55 52 ≤ 7))  -- TYPE is one that R314 does not list
  | .unknownKind k _ => !(decide (1 ≤ k.toNat) && decide (k.toNat ≤ 9))  -- a KIND that R446 does not list
  | .reservedOp _ _ op => !(decide (1 ≤ op.toNat) && decide (op.toNat ≤ 8))  -- an OP that R112 does not list
  | .aonPowerUp _ | .aonPowerFall | .pwrOkRise | .pwrOkFall | .staggerEnd | .aonUpEnd | .reconcileEnd | .cellRstEnd | .bootFall
  | .sd14Good | .sd14Timeout | .pllLock | .pllLockTimeout | .pllLoss | .tokenCycle _ _ | .tokenTimeout _ | .rosterRepair _
  | .referenceCheckEnd | .refTimeout _ | .stageBegin | .stageEnd | .ready | .startAbandon | .registerWrite _ _ | .splitLoRead _
  | .l0Cycle _ _ _ | .profileStep _ | .coarseAdcUpdate _ _ _ | .droopCrossing _ | .reserveEnd _ | .reserveRearm _ | .overshootTrip _
  | .bleedBudgetSpent _ | .lightLoadWindow _ _ | .burstStart _ | .burstStop _ _ | .ocLimitSet _ _ | .ocLimitClear _ | .ovlSet _
  | .cellsyncLoss _ | .cellsyncRegain _ | .measureEnd _ | .riseToRun _ | .fallToRun _ | .fallTimeout _ | .contactLost _
  | .holdLimitReached _ | .zeroReached _ | .selftestComplete _ _ | .rampToZeroDone _ | .mcastMark _ _ | .mcast _ _ | .cfgFrame _ _
  | .armFrame _ _ | .trimFrame _ _ | .tlmPoll _ _ | .enumToken _ _ | .enumAck _ _ | .enumQuery _ _ | .enumClear _ _ | .enumMove _ _
  | .loopFrame _ _ | .pathFrame _ _ | .start _ _ _ | .stop _ _ | .zero _ _ | .loanSw _ _ _ _ | .adopt _ _ | .selftest _ _
  | .readState _ _ _ | .setCoef _ _ _ _ | .urgSend _ | .l2Period _ | .rspReceived _ _ | .cmdResend _ _ | .tlmReceived _ _ _
  | .urgReceived _ _ | .crcBurst _ _ | .loopbackAuditEnd _ _ | .loopReq _ | .queueAgeDrop _ | .cfgRefresh _ _ | .loanStart _
  | .loanComplete _ | .recallStart _ | .laneSlot _ _ | .engSat _ | .fbLost _ | .sharingStep _ | .sharingPayloadDrop _ | .laneSwap
  | .laneMismatch _ _ | .laneAuditEnd _ _ | .lawStage _ | .lawCopyActive _ | .lawCopyStaged _ | .lawOpRefused _ | .lawOpDone
  | .snsTrigRegular _ _ | .snsTrigInjected _ _ | .senseTimerTick | .csPhaseEvent | .entryDone _ _ | .seqGo _ | .tallyCapture _
  | .tallyClear _ | .refSelect _ | .hkcRoundStart | .hkcConversion _ _ _ | .hkcCheckSlot _ | .diodeEval _ | .thermSensor _
  | .guardReading _ _ | .openWireTestEnd _ _ _ _ | .spRestore _ | .dscAuditStepEnd _ _ _ _ | .epochCommit | .counterRecord _ _
  | .lateRecordCutoff | .hintWord _ _ _ | .hintPortRoom _ | .hintExpired _ | .hintEnd _ | .vinBoostEnd | .tileSilent _ | .estResid _
  | .calBlockUpdate | .freeze | .unfreeze | .freezeTimeout | .tileCapture _ | .kInUpdate | .survey _ | .count _ | .size _ | .live _
  | .quota _ _ _ _ _ | .release _ _ _ _ | .leave _ _ | .paceCrcDrop _ _ | .paceDiscovery | .paceDiscoveryRetry | .paceLiveSend
  | .paceLockLoss | .paceLockGain | .paceSilence | .paceSolo | .paceEntryExpire _ _ _ | .paceRefresh | .compTrip _ | .compClear _
  | .flowOkFall | .flowOkRise | .flowOkGlitch | .stopSequence | .stopStage | .recordOpenWritten | .sd14OffSeen | .quietPeriodEnd
  | .fastSideReset | .fsrRelease | .restoreDone | .rosterRebuild _ | .adoptReadDone | .adoptRestart | .fsrRequest | .commitStall
  | .sd14RailFault | .faultRaise _ _ | .errnPulseEnd | .incidentClose | .incidentOverrun | .faultQuietEnd | .selftestTimeout _
  | .auditDeferLimit _ | .fltCntClear | .faultInject _ _ | .wardenWatchdog _ _ _ _ | .getInfo _ _ | .patchBegin _ _ _
  | .patchCommit _ _ _ | .vtRead _ _ _ _ | .vtStage _ _ _ _ | .vtApply _ _ | .vtCommit _ _ | .polStart _ _ | .polStop _ _ | .polClear _ _
  | .setVset _ | .setTreas _ | .setClass _ | .setCap _ | .loan _ | .recalling _ | .setLimit _ | .age _ | .heartbeat _ | .policyWatchdog
  | .policyTrap | .vaultWordWrite _ | .crDoorbell _ _ | .prDoorbell _ _ | .nop _ | .setDomainVoltage _ _ _ | .domainOn _ _
  | .domainOff _ _ | .readLaw _ _ _ _ _ | .loanCell _ _ _ | .recallCell _ _ | .readCell _ _ _ | .snapshot _ _ | .readTally _ _ _ _ _ _
  | .senseTrigger _ _ | .setCellCfg _ _ _ | .faultAck _ _ _ _ | .fixedFreq _ _ | .paceGroup _ _ _ _ | .paceRelay _ _ _
  | .vaultRead _ _ _ _ _ | .dropPacket _ _ _ | .setReaction _ _ _ | .hostEntryWrite _ | .telemetryRecord | .intHoldEnd | .ringEnable _ _
  | .ringDisable _ _ | .ringArm | .hostMemError _ _ | .prepareToArp | .resetDevice | .getUdid | .assignAddress _ _ | .smbusTimeout
  | .alertResponse | .page _ _ | .clearFaults _ | .capability | .voutMode | .statusByte | .statusWord | .statusTemperature | .statusCml
  | .statusMfrSpecific | .readVin | .readIin | .readVout | .readIout | .readTemperature1 | .readPout | .readPin | .pmbusRevision | .mfrId
  | .mfrModel | .mfrRevision | .mfrSerial | .mfrRestart _ _ | .mfrErrn _ _ | .mfrFault | .mfrStart | .mfrVaultAddr _ _ | .mfrVaultData
  | .mfrMboxStat | .mfrRegAddr _ _ | .mfrRegData | .pmbusInvalidCommand _ | .avsTrimWrite | .avsVoltageRead _ _ _ | .avsCurrentRead _ _ _
  | .avsTempRead _ _ _ | .avsStatusRead _ _ _ | .avsTransactionFail _ | .avsRetry _ | .wardenWake | .wardenSleep | .wardenAlarm
  | .tapReset | .extest | .idcode | .samplePreload | .clamp | .highz | .ftAccess | .bypass | .tapLeave | .ovlClear _ => true

end Sys2Proof
end

