-- ==== Sys2Proof/Tests/Slice0.lean ====
section
/-! SUPPORT. The tests: ill-formed commands refused, small facts worked by hand from the rules, and for every statement with hypotheses a
state and operands that meet them. -/

namespace Sys2Proof.Tests

open Sys2Proof Sys2Proof.Machine

/-- The AON domain powered, PWR_OK and FLOW_OK high, at a step of start-up. -/
def atStep (x : Step_) : State :=
  { State.reset with start := { State.reset.start with aon := true, pwrOk := true, flowOk := true, step := x } }

/-- The controller in READY: the control clock locked, SD11 and SD13 in RUN. -/
def running : State :=
  { State.reset with
    start := { State.reset.start with aon := true, pwrOk := true, flowOk := true, step := .ready, ready := true }
    clk := { State.reset.clk with pllOn := true, lock := true, everLock := true, csync := true, warden := true }
    rings := { State.reset.rings with armed := true }
    doms := Tab.ofFn [43, 45] fun _ => { st := .run } }

/-- The same with the management bus up: a valid address, PMB_EN set. -/
def onSmbus : State :=
  { running with
    smb := { running.smb with valid := true }
    win := { running.win with gctrl := 1 } }

theorem running_window : running.MboxReady .window :=
  ⟨by decide, by decide, by decide, by decide, by decide, (by decide : running.windowUp = true)⟩

theorem onSmbus_pmbus : onSmbus.MboxReady .pmbus :=
  ⟨by decide, by decide, by decide, by decide, by decide,
    (by decide : onSmbus.traysUp = true ∧ onSmbus.smb.valid = true ∧ wbit onSmbus.win.gctrl 0 = true)⟩

theorem running_access : running.WindowReady := ⟨by decide, by decide, by decide⟩

/-- A command's context: ring 0, no flags. -/
def x0 : CmdCtx := { ring := 0, index := 0, tag := 0, fence := false, link := false, intr := false, quiet := false }

/-- An Ebsis request of zeros. -/
def r0 : EbsisReq := { seq := 0, target := 0, value := 0, value2 := 0, word3 := 0 }

/-- An order's header of zeros. -/
def h0 : CmdHdr := { gen := 0, addr := 0, seq := 0 }

/-- A host command of ring 0 is accepted at once in `running`, whatever its opcode. -/
theorem running_host (op : Nat) : running.HostReady x0 op := by
  have a : ∀ s : State, s.adopting = false → s.clk.fsReset = false → s.rings.complOut = [] → s.rings.complWait = [] → s.rings.waitLog = [] →
      s.rings.flights = [] → s.mustWait x0 op = false := by
    intro s h1 h2 h3 h4 h5 h6
    simp [State.mustWait, State.complFull, h1, h2, h3, h4, h5, h6, x0, complDepth]
  refine ⟨by decide, a running (by decide) rfl rfl rfl rfl rfl, ?_, rfl⟩
  have b : ∀ s : State, s.start.ready = true → s.stopq.active = false → s.stateRefused op = false := by
    intro s h1 h2; simp [State.stateRefused, h1, h2]
  exact b running rfl rfl


/-- `running` with group 5 set and the pace logic as given. -/
def paceRun (p : Pace) : State := { running with pace := { p with ctrl := 0xE0051090 } }

/-- `running` with cell 0 as given. -/
def cellOf (x : Cell) : State := { running with cells := [(0, x)] }

/-! ### Well-formed commands: each check refuses an ill-formed one -/

theorem test_boot_refuses_three_readbacks : wellFormed (.wardenBootEnd true true true 0 [1700, 1700, 1700]) = false := by decide
theorem test_rcFieldRead_refuses_nine_bytes : wellFormed (.rcFieldRead 0x100 9) = false := by decide
theorem test_writeNotWhole_refuses_whole : wellFormed (.writeNotWhole 0x104 4) = false := by decide
theorem test_writeNotWhole_takes_byte : wellFormed (.writeNotWhole 0x104 1) = true := by decide
theorem test_unassigned_refuses_factory_range : wellFormed (.unassignedAccess 0x8000 true) = false := by decide
theorem test_ftLocked_refuses_other_ranges : wellFormed (.ftLockedAccess 0x7FFC true) = false := by decide
theorem test_chainBreak_refuses_crossed_parts : wellFormed (.chainBreak 0 20 10 0) = false := by decide
theorem test_patchData_refuses_short : wellFormed (.patchData .window 1 0 [1, 2, 3]) = false := by decide
theorem test_polLoad_refuses_short_digest : wellFormed (.polLoad .window 1 0 64 [1]) = false := by decide
theorem test_mboxUnknownOp_refuses_known : wellFormed (.mboxUnknownOp .window 1 12) = false := by decide
theorem test_descriptorFetched_refuses_half : wellFormed (.descriptorFetched 0 (List.replicate 8 0)) = false := by decide
theorem test_unknownOpcode_refuses_listed : wellFormed (.unknownOpcode x0 0x17) = false := by decide
theorem test_paceReservedFrame_refuses_quota : wellFormed (.paceReservedFrame (BitVec.ofNat 56 (5 * 2 ^ 52))) = false := by decide
theorem test_unknownKind_refuses_listed : wellFormed (.unknownKind 9 r0) = false := by decide
theorem test_reservedOp_refuses_listed : wellFormed (.reservedOp 0 h0 8) = false := by decide
theorem test_reservedFrame_refuses_listed : wellFormed (.reservedFrame 0 0) = false := by decide
theorem test_stageLaw_refuses_short_record : wellFormed (.stageLaw x0 0 0 { words := [1], ok := true }) = false := by decide
theorem test_setBudget_refuses_short : wellFormed (.setBudget x0 true 0 [1]) = false := by decide
theorem test_setClassWeights_refuses_short : wellFormed (.setClassWeights x0 0 1 [1]) = false := by decide
theorem test_setLimits_refuses_short : wellFormed (.setLimits x0 1 [1]) = false := by decide
theorem test_setSequence_refuses_short_list : wellFormed (.setSequence x0 0 1 0 0 { words := [1], ok := true }) = false := by decide
theorem test_setSense_refuses_short : wellFormed (.setSense x0 0 1 [1]) = false := by decide
theorem test_mfrMboxCmd_refuses_short_data : wellFormed (.mfrMboxCmd .good 1 1 [0, 0, 0, 0] (some [1])) = false := by decide
theorem test_commandAccept_refuses_five : wellFormed (.commandAccept (List.replicate 5 { words := [], ok := true })) = false := by decide

/-! ### Codes and checks, worked by hand from the rules -/

/-- The check value of CRC-32 of the manual's polynomial over one zero byte. -/
theorem test_crc32_check : crc32 [0x00] = 0xD202EF8D := by decide
/-- R4: a half rounds to the even neighbour, both ways. -/
theorem test_divEven_halves : divEven 5 2 = 2 ∧ divEven 7 2 = 4 ∧ divEven (-5) 2 = -2 := by decide
/-- R8: SD13 is domain 45, TD31 domain 31. -/
theorem test_domains : sd 13 = 45 ∧ isTD 31 = true ∧ isTD 32 = false := by decide
/-- R403: CELL_OC at object 0; its default reactions are I and B. -/
theorem test_reset_reacts : State.reset.reactOf 44 = defaultReact 44 := by decide
/-- R20: the AON domain comes up and its slot is latched (R31). -/
theorem test_aon_up : (match exec (.aonPowerUp 5) State.reset with | .next t => t.start.aon && t.start.slot == 5 | _ => false) = true := by decide
/-- R531: one tick of the watch clock on an empty queue. -/
theorem test_watch_tick : (match step running with | .next t => t.clk.watch | _ => 7) = 1 := by decide

/-! ### StepRunsFrontCommand -/

/-- A queue with one command in front of another. -/
theorem witness_StepRunsFrontCommand : ∃ (c : Instr) (rest : List Instr) (s : State), s.pending = c :: rest :=
  ⟨.pwrOkRise, [.pwrOkFall], { State.reset with pending := [.pwrOkRise, .pwrOkFall] }, rfl⟩

/-! ### PowerAndStagger -/

theorem met_PowerAndStagger :
    (∃ s : State, s.start.aon = false) ∧
    (∃ s : State, s.start.aon = true ∧ s.stopq.active = false) ∧
    (∃ s : State, s.start.aon = true ∧ s.start.pwrOk = false ∧ s.start.step = .waitPwr) ∧
    (∃ s : State, s.start.aon = true ∧ s.start.pwrOk = true ∧ s.stopq.active = false ∧ s.start.step = .stagger) ∧
    (∃ s : State, s.start.aon = true ∧ s.start.pwrOk = true ∧ s.stopq.active = false ∧ s.start.ready = true ∧ s.start.step = .ready) ∧
    (∃ s : State, s.start.step = .stagger ∧ s.start.restartWait = false) ∧
    (∃ s : State, s.start.step = .stagger ∧ s.start.restartWait = true) ∧
    (∃ s : State, s.start.step = .aonUp) :=
  ⟨⟨State.reset, by decide⟩, ⟨atStep .aonUp, by decide⟩,
    ⟨{ State.reset with start := { State.reset.start with aon := true } }, by decide⟩, ⟨atStep .stagger, by decide⟩,
    ⟨running, by decide⟩, ⟨atStep .stagger, by decide⟩,
    ⟨{ atStep .stagger with start := { (atStep .stagger).start with restartWait := true } }, by decide⟩, ⟨atStep .aonUp, by decide⟩⟩

/-! ### BootstrapAndPll -/

/-- A state of the bootstrap with boot cell `bootCells[0]` as the power-on reset leaves it. -/
theorem witness_BootstrapAndPll :
    (∃ s : State, ∃ i, s.start.cellRst = true ∧ i ∈ bootCells ∧ (s.cell i).mode = .off ∧ (s.cell i).addr = none ∧ (s.cell i).bootUsed = false) ∧
    (∃ s : State, ∃ i, i ∉ bootCells ∧ s.start.cellRst = true ∧ (s.cell i).mode = .off) ∧
    (∃ s : State, ∃ i, s.start.boot = true ∧ i ∈ bootCells ∧ (s.cell i).boot = true) ∧
    (∃ s : State, s.start.step = .bootstrap ∧ s.start.boot = true ∧ s.stopq.active = false) ∧
    (∃ s : State, s.clk.pllOn = true ∧ s.clk.lock = false ∧ s.start.step = .pllLock ∧ s.stopq.active = false) ∧
    (∃ s : State, s.clk.pllOn = true ∧ s.clk.lock = false ∧ s.start.step ≠ .pllLock) ∧
    (∃ s : State, s.clk.lock = true ∧ s.stopq.active = true ∧ 4 ≤ s.stopq.stage) ∧
    (∃ s : State, s.clk.lock = true ∧ s.stopq.active = false) :=
  ⟨⟨{ atStep .bootstrap with start := { (atStep .bootstrap).start with cellRst := true } }, bootCells.headD 0, by decide⟩,
    ⟨{ atStep .bootstrap with start := { (atStep .bootstrap).start with cellRst := true } }, 0, by decide⟩,
    ⟨{ atStep .bootstrap with start := { (atStep .bootstrap).start with boot := true }, cells := [(bootCells.headD 0, { boot := true })] },
      bootCells.headD 0, by decide⟩,
    ⟨{ atStep .bootstrap with start := { (atStep .bootstrap).start with boot := true } }, by decide⟩,
    ⟨{ atStep .pllLock with clk := { (atStep .pllLock).clk with pllOn := true } }, by decide⟩,
    ⟨{ atStep .ready with clk := { (atStep .ready).clk with pllOn := true } }, by decide⟩,
    ⟨{ running with stopq := { running.stopq with active := true, stage := 4 } }, by decide⟩, ⟨running, by decide⟩⟩

/-! ### StagingAndReady -/

/-- Staging with stage 3 done, and every home cell of the next stage's domains holding its address. -/
def stagingOn : State :=
  { running with
    start := { running.start with step := .staging, stage := 3, stageDue := true }
    chains := Tab.ofFn (List.range 8) fun c => { taken := (((stageDoms 4).flatMap homeCells).filter fun i => chainOf i == c).map fun i => (posOf i, posOf i) } }

theorem witness_StagingAndReady :
    (∃ s : State, s.start.step = .reference ∧ s.sense.refRdy = false ∧ s.stopq.active = false ∧
      ∀ src, src = 23 ∨ src = 44 → bitAt (s.reactOf src) 3 = false ∧ bitAt (s.reactOf src) 2 = false) ∧
    (∃ s : State, s.start.step = .staging ∧ s.start.stageDue = true ∧ s.start.stage ≠ 0 ∧ s.start.stage < 12 ∧ s.stopq.active = false ∧ s.fastUp = true ∧
      ∀ d, d ∈ stageDoms (s.start.stage + 1) → s.absentOf d = []) ∧
    (∃ s : State, s.start.step = .staging ∧ s.start.stage ≠ 0 ∧ s.start.stageDue = false ∧ s.start.staged12 = false ∧ 100 ≤ s.start.stageCommits ∧
      s.stopq.active = false ∧ (∀ d, d ∈ stageDoms s.start.stage → (s.dom d).st ≠ .start) ∧
      (s.start.stage = 1 → (s.dom (sd 14)).st ≠ .hold ∧ (s.dom (sd 14)).st ≠ .adopt)) ∧
    (∃ s : State, s.start.step = .staging ∧ s.start.staged12 = true ∧ s.stopq.active = false ∧ s.start.patchEvent = false ∧ s.pace.lock = false ∧
      s.rings.eventOut.length < 64) ∧
    (∃ s : State, s.start.abandonDue = true ∧ s.stopq.active = true ∧ s.fastUp = true ∧ s.start.stage ≠ 0) :=
  ⟨⟨atStep .reference, by decide, by decide, by decide, fun src h => by rcases h with h | h <;> subst h <;> decide⟩,
    ⟨stagingOn, by decide, by decide, by decide, by decide, by decide, by decide, by decide⟩,
    ⟨{ running with start := { running.start with step := .staging, stage := 12, stageCommits := 100 } }, by decide, by decide, by decide, by decide, by decide, by decide,
      by decide, by decide⟩,
    ⟨{ running with start := { running.start with step := .staging, staged12 := true } }, by decide⟩,
    ⟨{ running with start := { running.start with abandonDue := true, stage := 3 }, stopq := { running.stopq with active := true } }, by decide⟩⟩

/-! ### ChainMastersKeepTheirRings -/

/-- `running` with chain 0 as given. -/
def ring0 (x : Chain) : State := { running with chains := Tab.ofFn [0] fun _ => x }

/-- Chain 0 in its enumeration, with step `enumeration` of the start. -/
def enumerating (x : Chain) : State :=
  { ring0 x with start := { running.start with step := .enumeration, boot := true } }

theorem witness_ChainMasters :
    (∃ s : State, s.fastRuns = true ∧ s.cellsUp = true ∧ (s.chain 0).st = .enumerating ∧ (s.chain 0).enumDone = false ∧ (s.cell (cellAt 0 0)).addr = none) ∧
    (∃ s : State, s.fastRuns = true ∧ (s.chain 0).st = .enumerating ∧ (s.chain 0).enumDone = false ∧ (s.chain 0).enumRescue = false) ∧
    (∃ s : State, s.fastRuns = true ∧ (s.chain 0).st = .enumerating ∧ (s.chain 0).enumDone = false ∧ (s.chain 0).enumRescue = true) ∧
    (∃ s : State, s.fastRuns = true ∧ s.start.step = .enumeration ∧ (s.chain 0).st = .enumerating ∧ (s.chain 0).enumRescue = false ∧
      (s.chain 0).taken = (List.range 288).map fun p => (p, p)) ∧
    (∃ s : State, s.fastRuns = true ∧ (s.chain 0).st = .running ∧ (∀ src, src = 11 ∨ src = 12 → bitAt (s.reactOf src) 3 = false ∧ bitAt (s.reactOf src) 2 = false)) ∧
    (∃ (s : State) (o : Order) (l : List Order), s.fastRuns = true ∧ (s.chain 0).onRing = o :: l ∧ o.resends < 3) ∧
    (∃ (s : State) (d : DomIx), s.fastRuns = true ∧ (s.servedDoms 0).contains d.val = true) ∧
    (∃ (s : State) (n : BitVec 16), s.fastRuns = true ∧ (s.chain 0).st = .running ∧ (s.chain 0).crcEpoch + n.toNat < 8) ∧
    (∃ (s : State) (n : BitVec 16), s.fastRuns = true ∧ (s.chain 0).st = .running ∧ 8 ≤ (s.chain 0).crcEpoch + n.toNat ∧
      bitAt (s.reactOf 10) 3 = false ∧ bitAt (s.reactOf 10) 2 = false) ∧
    (∃ s : State, s.fastRuns = true ∧ (s.chain 0).audit = true ∧ (s.chain 0).st = .degraded) :=
  ⟨⟨enumerating { st := .enumerating }, by decide⟩, ⟨enumerating { st := .enumerating }, by decide⟩,
    ⟨enumerating { st := .enumerating, enumRescue := true }, by decide⟩,
    ⟨enumerating { st := .enumerating, taken := (List.range 288).map fun p => (p, p) }, by decide, by decide, by decide, by decide, rfl⟩,
    ⟨ring0 { st := .running }, by decide, by decide, fun src h => by rcases h with h | h <;> subst h <;> decide⟩,
    ⟨ring0 { st := .running, onRing := [{ addr := 0, op := 6, origin := .warden, role := none }] }, _, [], by decide, rfl, by decide⟩,
    ⟨ring0 { st := .running }, 0, by decide⟩, ⟨ring0 { st := .running }, 7, by decide⟩, ⟨ring0 { st := .running }, 8, by decide⟩,
    ⟨ring0 { st := .degraded, audit := true }, by decide⟩⟩

/-! ### RepliesLoansAndCellAudits -/

/-- A loan of cell 3 at the given step. -/
def loanAt (st : LoanStep) (r : Bool) : Loan := { cell := 3, recalling := r, home := 3, host := 4, step := st, origin := .ring 0 0 }

/-- `running` with a loan in chain 0. -/
def lending (l : Loan) : State := { running with chains := Tab.ofFn [0] fun _ => { st := .running, loan := some l } }

/-- `running` with a cell audit. -/
def auditing (a : CAudit) : State := { running with flt := { running.flt with audits := [a] } }

theorem witness_RepliesLoansAndCellAudits :
    (∃ (s : State) (p : BitVec 64) (o : Order), s.fastRuns = true ∧ (s.chain 0).onRing.find? (rspMatches p.toNat) = some o ∧ o.origin = .ring 0 0 ∧ o.op ≠ 4 ∧
      bits p.toNat 35 32 = 0) ∧
    (∃ (s : State) (p : BitVec 64), s.fastRuns = true ∧ chainOf (bits p.toNat 55 44) = 0 ∧ bits p.toNat 43 40 = 1) ∧
    (∃ (s : State) (p : BitVec 64), s.fastRuns = true ∧ chainOf (bits p.toNat 55 44) = 0 ∧ bits p.toNat 43 40 = 3 ∧
      ∃ a, a ∈ s.flt.audits ∧ a.cell = bits p.toNat 55 44 ∧ a.st = .testing) ∧
    (∃ s : State, s.fastRuns = true ∧ (∀ o, o ∈ (s.chain 0).wardenQ ++ (s.chain 0).cmdQ → 16 < o.age → o.origin = .warden) ∧
      ∃ o, o ∈ (s.chain 0).wardenQ ∧ 16 < o.age) ∧
    (∃ (s : State) (l : Loan), s.fastRuns = true ∧ (s.chain 0).loan = some l ∧ l.step = .accepted ∧ l.recalling = false) ∧
    (∃ (s : State) (l : Loan), s.fastRuns = true ∧ (s.chain 0).loan = some l ∧ l.step = .accepted ∧ l.recalling = true) ∧
    (∃ (s : State) (l : Loan), s.fastRuns = true ∧ (s.chain 0).loan = some l ∧ l.step = .joined ∧ 6 ≤ l.commits ∧ s.flt.audits = []) ∧
    (∃ (s : State) (a : CAudit), s.flt.audits.find? (fun a => a.cell == 3) = some a ∧ a.st = .testing) ∧
    (∃ (s : State) (a : CAudit), s.flt.audits.find? (fun a => a.cell == 3) = some a ∧ a.st = .waiting ∧ a.limit = false ∧ 500 ≤ a.deferred) :=
  ⟨⟨{ running with chains := Tab.ofFn [0] fun _ => { st := .running, onRing := [{ addr := 0, op := 6, origin := .ring 0 0, role := none }] } },
      0x0000060000000000, _, by decide, rfl, rfl, by decide, by decide⟩,
    ⟨running, 0x0000010000000000, by decide, by decide, by decide⟩,
    ⟨auditing { cell := 0, src := 0, st := .testing }, 0x0000030000000000, by decide, by decide, by decide, { cell := 0, src := 0, st := .testing },
      List.mem_singleton.2 rfl, by decide, rfl⟩,
    ⟨{ running with chains := Tab.ofFn [0] fun _ => { st := .running, wardenQ := [{ addr := 0, op := 6, origin := .warden, role := none, age := 17 }] } }, by decide,
      fun o h _ => by rw [List.mem_singleton.1 h], _, List.mem_singleton.2 rfl, by decide⟩,
    ⟨lending (loanAt .accepted false), _, by decide, rfl, rfl, rfl⟩, ⟨lending (loanAt .accepted true), _, by decide, rfl, rfl, rfl⟩,
    ⟨lending { loanAt .joined false with commits := 6 }, _, by decide, rfl, rfl, by decide, by decide⟩,
    ⟨auditing { cell := 3, src := 0, st := .testing }, _, rfl, rfl⟩,
    ⟨auditing { cell := 3, src := 0, deferred := 500 }, _, rfl, rfl, rfl, by decide⟩⟩

/-! ### WardenBootAndReconcile -/

/-- The headers of copies B and C of the voltage table, entries of zeros, and no CRC yet. -/
def vtHeaders : List Host.Cell :=
  [(0x11000, 0x01), (0x11002, 0x54), (0x11003, 0x56), (0x11004, 0x01), (0x11008, 0x30), (0x11009, 0x01),
   (0x12000, 0x01), (0x12002, 0x54), (0x12003, 0x56), (0x12004, 0x01), (0x12008, 0x30), (0x12009, 0x01)]

/-- The four bytes of a word. -/
def bytes4 (w : Word) : List Byte := [w.setWidth 8, (w >>> 8).setWidth 8, (w >>> 16).setWidth 8, (w >>> 24).setWidth 8]

/-- Both copies with their CRCs. -/
def vtVault : List Host.Cell :=
  Memory.writeBytes (Memory.writeBytes vtHeaders 0x11500 (bytes4 (crc32 (Memory.readBytes vtHeaders 0x11000 0x500)))) 0x12500
    (bytes4 (crc32 (Memory.readBytes vtHeaders 0x12000 0x500)))

theorem vtVault_out (a : Nat) (h : a < 0x11500 ∨ (0x11504 ≤ a ∧ a < 0x12500) ∨ 0x12504 ≤ a) : Memory.read vtVault a = Memory.read vtHeaders a := by
  unfold vtVault
  rw [Memory.read_writeBytes_other _ _ (by simp [bytes4]; omega), Memory.read_writeBytes_other _ _ (by simp [bytes4]; omega)]

theorem bytes4_nat (w : Word) : BitVec.ofNat 32 (bytesNat (bytes4 w)) = w := by
  apply BitVec.eq_of_toNat_eq
  simp [bytesNat, bytes4, Nat.shiftRight_eq_div_pow]
  omega

/-- What the vault holds of copy B or C: the header's words and its own CRC. -/
theorem vtVault_words (c : Bool) :
    (∀ k, k < 320 → BitVec.ofNat 32 (bytesNat (Memory.readBytes vtVault (vtCopyAddr c + 4 * k) 4)) =
      BitVec.ofNat 32 (bytesNat (Memory.readBytes vtHeaders (vtCopyAddr c + 4 * k) 4))) ∧
    BitVec.ofNat 32 (bytesNat (Memory.readBytes vtVault (vtCopyAddr c + 0x500) 4)) = crc32 (Memory.readBytes vtVault (vtCopyAddr c) 0x500) := by
  have o : ∀ a n, a + n ≤ 0x500 → Memory.readBytes vtVault (vtCopyAddr c + a) n = Memory.readBytes vtHeaders (vtCopyAddr c + a) n := by
    intro a n h
    refine List.map_congr_left fun i hi => vtVault_out _ ?_
    have := List.mem_range.1 hi
    cases c <;> simp [vtCopyAddr] <;> omega
  refine ⟨fun k hk => by rw [o _ _ (by omega)], ?_⟩
  rw [show Memory.readBytes vtVault (vtCopyAddr c) 0x500 = _ from o 0 0x500 (by omega)]
  have q : ∀ w : Word, ∀ a, (∀ k, k < 4 → Memory.read vtVault (a + k) = (bytes4 w).getD k 0) → BitVec.ofNat 32 (bytesNat (Memory.readBytes vtVault a 4)) = w := by
    intro w a h
    have : Memory.readBytes vtVault a 4 = bytes4 w := by
      simp only [Memory.readBytes, show List.range 4 = [0, 1, 2, 3] from rfl, List.map_cons, List.map_nil, h 0 (by omega), h 1 (by omega), h 2 (by omega), h 3 (by omega)]
      rfl
    rw [this, bytes4_nat]
  have w0 : Memory.wf vtHeaders = true := by decide
  refine q _ _ fun k hk => ?_
  cases c
  · show Memory.read vtVault (0x11500 + k) = _
    unfold vtVault
    rw [Memory.read_writeBytes_other _ _ (by simp [bytes4]; omega), Memory.read_writeBytes_in _ w0 (by simpa [bytes4] using hk)]
    rfl
  · show Memory.read vtVault (0x12500 + k) = _
    unfold vtVault
    rw [Memory.read_writeBytes_in _ (Memory.wf_writeBytes _ _ w0) (by simpa [bytes4] using hk)]
    rfl

/-- RECONCILE with that vault. -/
def reconciling (flow : Bool) : State :=
  { atStep .reconcile with
    start := { (atStep .reconcile).start with flowOk := flow }
    warden := { State.reset.warden with vault := vtVault }
    otp := { State.reset.otp with vtA := [] } }

/-- The words of the tables as the headers alone give them. -/
theorem reconciling_word (f c : Bool) (k : Nat) (h : k < 320) :
    (reconciling f).vtCopyWord c k = BitVec.ofNat 32 (bytesNat (Memory.readBytes vtHeaders (vtCopyAddr c + 4 * k) 4)) :=
  (vtVault_words c).1 k h

theorem headers_zero : ∀ c, ∀ k, 3 ≤ k → k < 320 → BitVec.ofNat 32 (bytesNat (Memory.readBytes vtHeaders (vtCopyAddr c + 4 * k) 4)) = (0 : Word) := by
  have a : ∀ k, k < 320 → 3 ≤ k → ∀ c : Bool, BitVec.ofNat 32 (bytesNat (Memory.readBytes vtHeaders (vtCopyAddr c + 4 * k) 4)) = (0 : Word) := by
    decide +kernel
  exact fun c k h j => a k j h c

theorem reconciling_zero (f c : Bool) (i : Nat) (h : i < vtEntries) : (reconciling f).vtCopy c i = 0 := by
  have h' : i < 304 := h
  unfold State.vtCopy
  rw [reconciling_word f c _ (by omega), headers_zero c _ (by omega) (by omega)]

theorem reconciling_intact (f c : Bool) : (reconciling f).vtIntact c = true := by
  have z : ∀ k, 3 ≤ k → k < 320 → (reconciling f).vtCopyWord c k = 0 := fun k a b => by
    rw [reconciling_word f c k b, headers_zero c k a b]
  have h0 : (reconciling f).vtCopyWord c 0 = 0x56540001 := by rw [reconciling_word f c 0 (by omega)]; cases c <;> decide
  have h2 : (reconciling f).vtCopyWord c 2 = 304 := by rw [reconciling_word f c 2 (by omega)]; cases c <;> decide
  have cr : crc32 ((reconciling f).vaultBytes (vtCopyAddr c) 0x500) = (reconciling f).vaultWord (vtCopyAddr c + 0x500) := (vtVault_words c).2.symm
  have va : ∀ i, (reconciling f).vtA i = 0 := fun i => by simp [State.vtA, reconciling]
  have en : ∀ i, i < 304 → vtReservedOk i 0 = true ∧ vtInBand i 0 0 = true := by decide +kernel
  have orr : ∀ t : Nat → Word, (∀ i, i < vtEntries → t i = 0) → ∀ d, d < 32 → vtOrdered t d = true := by
    intro t ht d hd
    have hp : ∀ k, k < 8 → t (48 + 8 * d + k) = 0 := fun k hk => ht _ (by show _ < 304; omega)
    simp only [vtOrdered, show List.range 7 = [0, 1, 2, 3, 4, 5, 6] from rfl, List.all_cons, List.all_nil, ht d (by show _ < 304; omega),
      hp 0 (by omega), hp 1 (by omega), hp 2 (by omega), hp 3 (by omega), hp 4 (by omega), hp 5 (by omega), hp 6 (by omega), hp 7 (by omega)]
    decide
  simp only [State.vtIntact, h0, h2, cr, va, beq_self_eq_true, Bool.true_and, Bool.and_eq_true, List.all_eq_true, List.mem_range, beq_iff_eq]
  refine ⟨⟨⟨⟨⟨fun k hk => z _ (by omega) (by omega), trivial⟩, fun i hi => ?_⟩, fun d hd => ?_⟩, ?_⟩, ?_⟩
  · rw [reconciling_zero f c i hi]; exact en i hi
  · exact orr _ (fun i hi => reconciling_zero f c i hi) d (by revert d; decide)
  · exact reconciling_zero f c _ (by decide)
  · exact reconciling_zero f c _ (by decide)

theorem reconciling_copies (f : Bool) : (reconciling f).vtCopySeq false = (reconciling f).vtCopySeq true ∧
    ∀ i, i < vtEntries → (reconciling f).vtCopy false i = (reconciling f).vtCopy true i := by
  refine ⟨?_, fun i hi => by rw [reconciling_zero f _ i hi, reconciling_zero f _ i hi]⟩
  unfold State.vtCopySeq
  rw [reconciling_word f _ 1 (by omega), reconciling_word f _ 1 (by omega)]; decide

theorem witness_WardenBootAndReconcile :
    (∃ s : State, s.start.step = .wardenBoot ∧ s.start.romFail = false ∧ s.flt.react = [] ∧ (∀ k, s.stopOpenValid k = false) ∧ s.stateBlockLatest = none ∧
      s.patchWord s.activeSlot 0 = 0 ∧ s.warden.mboxW.wait = none ∧ s.warden.mboxP.wait = none) ∧
    (∃ s : State, s.start.step = .reconcile ∧ s.start.reconciled = false ∧ s.start.flowOk = false ∧ s.vtIntact false = true ∧ s.vtIntact true = true ∧
      s.vtCopySeq false = s.vtCopySeq true ∧ ∀ i, i < vtEntries → s.vtCopy false i = s.vtCopy true i) ∧
    (∃ s : State, s.start.step = .reconcile ∧ s.start.reconciled = false ∧ s.start.flowOk = true ∧ s.start.pwrOk = true ∧ s.tapHeld = false ∧
      s.vtIntact false = true ∧ s.vtIntact true = true ∧ s.vtCopySeq false = s.vtCopySeq true ∧ ∀ i, i < vtEntries → s.vtCopy false i = s.vtCopy true i) ∧
    (∃ s : State, s.wardenUp = true ∧ s.rings.eventOut.length < 64 ∧ s.patchWord s.warden.bootSlot 0 = 0) ∧
    (true && false) = false := by
  have e : ∀ s : State, s.warden.vault = [] → (∀ a, s.vaultWord a = 0) ∧ ∀ k, s.stopOpenValid k = false := by
    intro s h
    have v : ∀ a, s.vaultWord a = 0 := fun a => by
      simp only [State.vaultWord, State.vaultBytes, h]; rfl
    exact ⟨v, fun k => by simp [State.stopOpenValid, v]⟩
  refine ⟨⟨atStep .wardenBoot, by decide, by decide, by decide, (e _ rfl).2, by decide, (e _ rfl).1 _, by decide, by decide⟩,
    ⟨reconciling false, by decide, by decide, by decide, ?_⟩, ⟨reconciling true, by decide, by decide, by decide, by decide, by decide, ?_⟩,
    ⟨running, by decide, by decide, (e _ rfl).1 _⟩, rfl⟩
  · exact ⟨reconciling_intact _ _, reconciling_intact _ _, reconciling_copies _⟩
  · exact ⟨reconciling_intact _ _, reconciling_intact _ _, reconciling_copies _⟩

/-! ### IdleStepTicksWatch -/

/-- An empty queue, the AON domain and the warden clock on. -/
theorem witness_IdleStepTicksWatch : running.pending = [] ∧ (running.start.aon && running.clk.warden) = true := ⟨rfl, rfl⟩

/-! ### EveryCommandKeeps -/

/-- A command with a next state from a state in the invariant. -/
theorem witness_EveryCommandKeeps : State.reset.Inv ∧ ∃ t, exec .pwrOkRise State.reset = .next t := ⟨rfl, _, rfl⟩

/-! ### EveryStepKeepsInv -/

/-- The invariant holds at reset, and the step from reset answers a next state. -/
theorem witness_EveryStepKeepsInv : State.reset.Inv ∧ ∃ t, step State.reset = .next t := ⟨rfl, _, rfl⟩

/-! ### MailboxCommandsEnd -/

/-- `running` with the policy core in a state. -/
def withPolicy (p : PolSt) : State := { running with policy := { running.policy with st := p } }

theorem withPolicy_window (p : PolSt) : (withPolicy p).MboxReady .window :=
  ⟨rfl, rfl, rfl, rfl, rfl, (by decide : running.windowUp = true)⟩

theorem met_MailboxCommandsEnd :
    (∃ s : State, s.MboxReady .window) ∧ (∃ s : State, s.MboxReady .pmbus) ∧
    (∃ len : Word, 256 ≤ len.toNat ∧ len.toNat ≤ 32768 ∧ len.toNat % 8 = 0) ∧
    (∃ which : Word, which.toNat ≤ 3) ∧
    (∃ entry w : Word, vtStageOk entry.toNat w = true) ∧
    (∃ (s : State) (len : Word), s.MboxReady .window ∧ len.toNat ≤ 524288 ∧ s.policy.st ≠ .running ∧ s.domOn (sd 11) = true) ∧
    (∃ s : State, s.MboxReady .window ∧ s.policy.st ≠ .empty ∧ s.domOn (sd 13) = true) ∧
    (∃ s : State, s.MboxReady .window ∧ s.policy.st = .running) ∧
    (∃ op : BitVec 8, op = 0 ∨ 12 < op.toNat) ∧ (∃ op : BitVec 8, op ≠ 0 ∧ 12 < op.toNat) :=
  ⟨⟨running, running_window⟩, ⟨onSmbus, onSmbus_pmbus⟩, ⟨32768, by decide⟩, ⟨3, by decide⟩,
    ⟨303, 0, by decide⟩, ⟨running, 524288, running_window, by decide, by decide, by decide⟩,
    ⟨withPolicy .loaded, withPolicy_window _, by decide, by decide⟩, ⟨withPolicy .running, withPolicy_window _, by decide⟩,
    ⟨0, by decide⟩, ⟨13, by decide⟩⟩

/-! ### VaultWritesAreQueuedAndStored -/

/-- `running` with a patch image of one piece begun. -/
def patching : State := { running with warden := { running.warden with fillLen := some 256 } }

/-- `running` with one job of two words in the vault's queue. -/
def writing : State := { running with warden := { running.warden with jobs := [{ prio := 3, recNo := 0, addr := 0x17000, words := [1, 2] }] } }

/-- `patching` with a whole image in the slot: header words of R440. -/
def patched : State :=
  { patching with
    otp := { running.otp with minSvn := 0 }
    warden := { patching.warden with
      filled := [0, 64, 128, 192]
      vault := Memory.writeBytes [] (patchSlotAddr 1) (wordsBytes [0x50544348, 7, 1, 8, 1, 0, 0, 0]) } }

theorem patched_window : patched.MboxReady .window :=
  ⟨by decide, by decide, by decide, by decide, by decide, (by decide : patched.windowUp = true)⟩

theorem patching_window : patching.MboxReady .window :=
  ⟨by decide, by decide, by decide, by decide, by decide, (by decide : patching.windowUp = true)⟩

theorem met_VaultWritesAreQueuedAndStored :
    (∃ (s : State) (off : Word) (len : Nat), s.MboxReady .window ∧ s.warden.fillLen = some len ∧ off.toNat % 64 = 0 ∧ off.toNat < len) ∧
    (∃ (s : State) (len : Nat), s.MboxReady .window ∧ s.warden.fillLen = some len ∧ s.warden.patchFull len = true ∧
      s.patchValid (1 - s.warden.slot) true = true) ∧
    (∃ s : State, s.MboxReady .window ∧ s.vtMayWrite true = true) ∧
    (∃ s : State, s.MboxReady .window ∧ s.vtMayWrite false = true) ∧
    (∃ (s : State) (j : VaultJob), s.Inv ∧ s.warden.jobs = [j] ∧ j.words = [1, 2] ∧ s.start.aon = true ∧ j.tries < 2 ∧
      (s.stopq.active = true → j.prio < 4)) :=
  ⟨⟨patching, 192, 256, patching_window, by decide, by decide, by decide⟩, ⟨patched, 256, patched_window, by decide, by decide, by decide⟩,
    ⟨running, running_window, by decide⟩,
    ⟨running, running_window, by decide⟩,
    ⟨writing, { prio := 3, recNo := 0, addr := 0x17000, words := [1, 2] }, rfl, rfl, rfl, rfl, by decide, by decide⟩⟩

/-! ### WindowAccesses -/

theorem witness_WindowAccesses :
    (running.WindowReady ∧ running.ledger.staged = [] ∧ running.ledger.frozen = false ∧ 50000 ≤ (50000 : Word).toNat ∧ (2500000 : Word).toNat ≤ 2500000) ∧
    ((0x1C : BitVec 16).toNat % 4 = 0 ∧ assigned (0x1C : BitVec 16).toNat = true ∧ (0x404 : BitVec 16).toNat % 4 = 0 ∧ assigned (0x404 : BitVec 16).toNat = true) ∧
    ((0x15 : BitVec 16).toNat % 4 ≠ 0) ∧
    (assigned ((0x20 : BitVec 16).toNat / 4 * 4) = false ∧ (0x20 : BitVec 16).toNat < 0x8000) ∧
    (∃ s : State, s.WindowReady ∧ s.otp.ftLocked = true) ∧
    (∃ s : State, s.WindowReady ∧ s.start.ready = false) ∧
    (∃ s : State, s.windowUp = false) ∧ (∃ s : State, s.windowUp = true ∧ s.fastUp = false) :=
  ⟨⟨running_access, by decide, by decide, by decide, by decide⟩, by decide, by decide, by decide,
    ⟨{ running with otp := { running.otp with ftLocked := true } }, ⟨by decide, by decide, by decide⟩, by decide⟩,
    ⟨{ running with start := { running.start with ready := false } }, ⟨by decide, by decide, by decide⟩, by decide⟩,
    ⟨State.reset, by decide⟩, ⟨{ running with clk := { running.clk with fsReset := true } }, by decide⟩⟩

/-! ### LawAndSenseRequests -/

theorem witness_LawAndSenseRequests :
    (running.WindowReady ∧ running.eng.lawGo = false ∧ (running.dsc 5).trigSrc = 0) ∧
    (∃ s : State, s.WindowReady ∧ s.eng.lawGo = true) ∧
    (fld (65 <<< 16 : Word) 22 16 > 64 ∧ fld (9 <<< 8 : Word) 11 8 > 8) ∧
    (∃ s : State, s.WindowReady ∧ fld (0 : Word) 22 16 = 0 ∧ fld (0 : Word) 11 8 = 0 ∧ seqOk (fld s.sense.seqSel 5 0)
      { (s.dsc (fld s.sense.seqSel 5 0)).staging.full with len := fld (0 : Word) 22 16, injLen := fld (0 : Word) 11 8 } = false) ∧
    (fld (0x00010370 : Word) 9 4 < 56 ∧ wbit (0x00010370 : Word) 16 = true) ∧
    (∃ s : State, s.WindowReady ∧ (5 : BitVec 13).toNat ∈ s.sense.struck) ∧ (5 : BitVec 13).toNat ∉ running.sense.struck ∧
    (∃ s : State, s.WindowReady ∧ bitAt (3 : BitVec 8).toNat 0 = true ∧ (s.chain 0).st = .running ∧ bitAt (3 : BitVec 8).toNat 2 = false ∧
      (s.chain 1).st = .down) :=
  ⟨⟨running_access, by decide, by decide⟩,
    ⟨{ running with eng := { running.eng with lawGo := true } }, ⟨by decide, by decide, by decide⟩, rfl⟩, by decide,
    ⟨{ running with dscs := Tab.ofFn [0] fun _ => { staging := { mask := 0x1FFFFF } } }, ⟨by decide, by decide, by decide⟩, by decide⟩, by decide,
    ⟨{ running with sense := { running.sense with struck := [5] } }, ⟨by decide, by decide, by decide⟩, by decide⟩, by decide,
    ⟨{ running with chains := Tab.ofFn [0] fun _ => { st := .running } }, ⟨by decide, by decide, by decide⟩, by decide⟩⟩

/-! ### HostRings -/

/-- `running` with ring `i` enabled with four entries, and the ring logic armed. -/
def ringed (cr pr : Tab Ring) : State := { running with rings := { running.rings with armed := true, cr := cr, pr := pr } }

theorem witness_HostRings :
    (∃ s : State, s.WindowReady ∧ idxDiff (3 : BitVec 16).toNat (s.cr 0).tail ≤ (s.cr 0).entries - (s.cr 0).held) ∧
    (∃ s : State, s.WindowReady ∧ idxDiff (2 : BitVec 16).toNat (s.pr 0).head ≤ (s.pr 0).held) ∧
    (∃ v : Word, wbit v 31 = true ∧ (running.ringObj 0).en = false ∧ sizeOk 0 (fld v 3 0) = true) ∧
    (∃ (s : State) (v : Word), s.WindowReady ∧ wbit v 31 = false ∧ (s.ringObj 5).en = true ∧ fld v 3 0 = (s.ringObj 5).size ∧ s.rings.waitLog = [] ∧ s.intake 5 = []) ∧
    (∃ s : State, s.ringsOn = true ∧ (s.cr 0).en = true ∧ idxDiff (s.cr 0).fetchTo (s.cr 0).head ≠ 0) ∧
    (∃ (s : State) (c : Compl), s.ringsOn = true ∧ s.rings.armed = true ∧ (s.pr 0).en = true ∧ (s.pr 0).room = true ∧ s.rings.complOut = [c] ∧
      s.rings.complWait = []) ∧
    (∃ (s : State) (w : List Word), s.ringsOn = true ∧ s.rings.armed = true ∧ (s.pr 1).en = true ∧ s.rings.tlmOut = [w] ∧ (s.pr 1).room = true) ∧
    (∃ (s : State) (w : List Word), s.ringsOn = true ∧ s.rings.armed = true ∧ (s.pr 1).en = true ∧ s.rings.tlmOut = [w] ∧ (s.pr 1).room = false) ∧
    (∃ (s : State) (e : Event), s.ringsOn = true ∧ s.rings.armed = true ∧ (s.pr 2).en = true ∧ (s.pr 2).room = true ∧ s.rings.eventOut = [e]) ∧
    (∃ (s : State) (m : TlmMeter), s.fastRuns = true ∧ s.rings.tlmLast = some m ∧ s.ledger.epoch % 500 ≥ 2 ∧ s.ringsOn = true ∧ s.rings.tlmOut.length < 2) ∧
    (∃ s : State, s.rings.holdOff = [0] ∧ s.rings.vecPend.contains 0 = false) ∧
    (∃ s : State, s.rings.holdOff = [0] ∧ s.rings.vecPend.contains 0 = true ∧ s.vecEn 0 = true) ∧
    (∃ s : State, s.ringsOn = true ∧ (s.ringObj 0).en = true ∧ s.Soft 42) :=
  ⟨⟨ringed (Tab.ofFn [0] fun _ => { en := true, size := 4 }) [], ⟨by decide, by decide, by decide⟩, by decide⟩,
    ⟨ringed [] (Tab.ofFn [0] fun _ => { en := true, size := 4, tail := 2 }), ⟨by decide, by decide, by decide⟩, by decide⟩,
    ⟨0x80000006, by decide⟩,
    ⟨ringed [] (Tab.ofFn [1] fun _ => { en := true, size := 4 }), 4, ⟨by decide, by decide, by decide⟩, by decide⟩,
    ⟨ringed (Tab.ofFn [0] fun _ => { en := true, size := 4, fetchTo := 1, tail := 1 }) [], by decide⟩,
    ⟨{ ringed [] (Tab.ofFn [0] fun _ => { en := true, size := 4 }) with
        rings := { (ringed [] (Tab.ofFn [0] fun _ => { en := true, size := 4 })).rings with complOut := [{ opcode := 0, ring := 0, tag := 0, index := 0, status := 0, epoch := 0, data := 0, intr := false }] } }, _, by decide, rfl, by decide, by decide, rfl, rfl⟩,
    ⟨{ ringed [] (Tab.ofFn [1] fun _ => { en := true, size := 4 }) with
        rings := { (ringed [] (Tab.ofFn [1] fun _ => { en := true, size := 4 })).rings with tlmOut := [[]] } }, [], by decide⟩,
    ⟨{ ringed [] (Tab.ofFn [1] fun _ => { en := true, size := 4, tail := 16 }) with
        rings := { (ringed [] (Tab.ofFn [1] fun _ => { en := true, size := 4, tail := 16 })).rings with tlmOut := [[]] } }, [], by decide⟩,
    ⟨{ ringed [] (Tab.ofFn [2] fun _ => { en := true, size := 4 }) with
        rings := { (ringed [] (Tab.ofFn [2] fun _ => { en := true, size := 4 })).rings with eventOut := [evDomain 0 0 0] } }, _, by decide, rfl, by decide, by decide, rfl⟩,
    ⟨{ running with rings := { running.rings with tlmLast := some { n := 500, flags := 0, restart := false, pin := 0, pout := 0, iout := 0, pG := 0, treas := 0 } }, ledger := { running.ledger with epoch := 2 } }, _, by decide, rfl, by decide⟩,
    ⟨{ running with rings := { running.rings with holdOff := [0] } }, rfl, by decide⟩,
    ⟨{ running with rings := { running.rings with holdOff := [0], vecPend := [0], ctrl := 0x00000A0F } }, rfl, by decide, by decide⟩,
    ⟨ringed (Tab.ofFn [0] fun _ => { en := true, size := 4 }) [], by decide, by decide, by decide, by decide, by decide, by decide⟩⟩

/-! ### RegulationSlots -/

/-- `running` with domain 0 in RUN and what a held latch reads. -/
def inRun (x : Dom) : State := { running with doms := (0, x) :: running.doms, sense := { running.sense with refRdy := true } }

/-- A law record domain 0 takes: PID with KI, every code at least 1. -/
def lawOk0 : Tab Word := [(1, 0x01010101), (2, 0xEA607080), (3, 0x00010000), (7, 1)]

/-- The law buffer under way for domain 0, of a chip whose profile maxima are the highest. -/
def lawGoing (buf : Tab Word) : State :=
  { running with
    eng := { running.eng with lawGo := true, lawBuf := buf }
    otp := { running.otp with profMax := List.replicate 48 (255, 255, 255, 255) } }

theorem witness_RegulationSlots :
    (∃ (s : State) (smp : SenseSample), s.fastRuns = true ∧ (s.latchSense 0 smp).2 = (some 51200, some 1000) ∧ (s.dom 0).st = .run) ∧
    (∃ (s : State) (smp : SenseSample), s.fastRuns = true ∧ (s.latchSense 0 smp).2.1 = none ∧ (s.latchSense 0 smp).2.2 = none ∧ (s.dom 0).st = .run) ∧
    (∃ s : State, s.fastRuns = true ∧ (s.dom 0).satCnt ≥ lawSatLim (s.dom 0).law + 2 ∧ (s.dom 0).satRaised = false ∧ s.Soft 14) ∧
    (∃ s : State, s.fastRuns = true ∧ (s.dom 0).st = .fbhold ∧ (s.dom 0).fbCnt ≥ 16 ∧ (s.dom 0).fbRaised = false ∧ s.Soft 15) ∧
    (∃ (s : State) (i p : Nat), s.fastRuns = true ∧ (s.lane 0).wait = [(i, p, 0)] ∧ s.shareIncludes i p = true ∧ s.role i = some 0 ∧ lawKsh (s.dom 0).law = 0) ∧
    (∃ s : State, s.fastRuns = true ∧ (s.lane 0).st ≠ .audit ∧ s.Soft 16) ∧
    (∃ s : State, s.fastRuns = true ∧ (s.lane 0).st = .audit) ∧
    (∃ s : State, s.fastRuns = true ∧ s.eng.lawGo = true ∧ s.eng.lawOp = 0 ∧ s.lawReason s.eng.lawDom s.lawBuffer = 0 ∧ (s.dom s.eng.lawDom).staged = none) ∧
    (∃ s : State, s.fastRuns = true ∧ s.eng.lawGo = true ∧ s.eng.lawOp = 0 ∧ s.lawReason s.eng.lawDom s.lawBuffer ≠ 0) :=
  ⟨⟨inRun { st := .run, holdFb := true, lastFb := (some 51200, some 1000) }, { points := [], mirror := [], other := [] }, by decide, by decide, by decide⟩,
    ⟨inRun { st := .run, holdFb := true, lastFb := (none, none) }, { points := [], mirror := [], other := [] }, by decide, by decide, by decide, by decide⟩,
    ⟨inRun { st := .run, satCnt := 2 }, by decide, by decide, by decide, by decide, by decide, by decide, by decide⟩,
    ⟨inRun { st := .fbhold, fbCnt := 16 }, by decide, by decide, by decide, by decide, by decide, by decide, by decide, by decide⟩,
    ⟨{ inRun { st := .run } with lanes := Tab.ofFn [0] fun _ => { wait := [((homeCells 0).headD 0, 3 <<< 25, 0)] } }, (homeCells 0).headD 0, 3 <<< 25, by decide⟩,
    ⟨running, by decide, by decide, by decide, by decide, by decide, by decide⟩,
    ⟨{ running with lanes := Tab.ofFn [0] fun _ => { st := .audit } }, by decide⟩,
    ⟨lawGoing lawOk0, by decide⟩, ⟨lawGoing [], by decide⟩⟩

/-! ### TelemetryAndCalibration -/

/-- `running` with the cell at position 0 of chain 0 under address 0 and generation 1, in contact. -/
def polled (x : Cell) : State :=
  { running with
    chains := Tab.ofFn [0] fun _ => { st := .running, gen := 1, taken := [(0, 0)] }
    cells := [(0, { x with addr := some 0, gen := 1 })] }

theorem witness_TelemetryAndCalibration :
    (∃ (s : State) (p : Nat), s.cellsUp = true ∧ s.cellByAddr 0 (0 : BitVec 12).toNat = some 0 ∧ (s.cell 0).partialTlm = some p) ∧
    (∃ (s : State) (p : Nat), s.cellsUp = true ∧ s.cellByAddr 0 (0 : BitVec 12).toNat = some 0 ∧ (s.cell 0).partialTlm = none ∧ (s.cell 0).fullTlm = some p) ∧
    (∃ s : State, s.cellsUp = true ∧ s.cellByAddr 0 (0 : BitVec 12).toNat = some 0 ∧ (s.cell 0).partialTlm = none ∧ (s.cell 0).fullTlm = none) ∧
    (∃ (s : State) (p : BitVec 64), s.fastRuns = true ∧ s.contact (cellAt 0 0) = true ∧ s.credit 0 (cellAt 0 0) p.toNat = none) ∧
    (∃ (s : State) (p : BitVec 64) (d : Nat), s.fastRuns = true ∧ s.contact (cellAt 0 0) = true ∧ s.credit 0 (cellAt 0 0) p.toNat = some (d, 0) ∧
      bitAt p.toNat 0 = false ∧ bitAt p.toNat 1 = false ∧ bitAt p.toNat 2 = false ∧ bitAt p.toNat 4 = false ∧ bitAt p.toNat 5 = false ∧ bitAt p.toNat 6 = false) ∧
    (∃ s : State, s.fastRuns = true ∧ s.ledger.epoch ≥ 24 ∧ s.ledger.epoch % 16 = 8 ∧ wbit s.ledger.ctrl 15 = false) ∧
    (∃ (s : State) (m : Rat), s.fastRuns = true ∧ s.limits.pvMean = some m ∧ m ≠ 0 ∧ s.limits.kBad = false ∧
      (List.range 4).all (fun k => s.limits.ioutRd.any (·.1 == k)) = true ∧
      ((((sumN ((List.range 4).map fun k => s.limits.ioutRd.get 0 k) : Rat) / 100 / m) - 1).abs ≤ 1 / 10)) :=
  ⟨⟨polled { partialTlm := some 5 }, 5, by decide, by decide, rfl⟩, ⟨polled { fullTlm := some 5 }, 5, by decide, by decide, rfl, rfl⟩,
    ⟨polled {}, by decide, by decide, rfl, rfl⟩, ⟨polled {}, 0, by decide⟩, ⟨polled {}, 0x0100000000000000, (running.serving 0), by decide⟩,
    ⟨{ running with ledger := { running.ledger with epoch := 24, ctrl := 0 } }, by decide⟩,
    ⟨{ running with limits := { running.limits with pvMean := some 4, ioutRd := Tab.ofFn (List.range 4) fun _ => 100 } }, 4, by decide, rfl, by decide,
      by decide, by decide, by decide +kernel⟩⟩

/-! ### SenseCommands -/

/-- `running` with converter 0 as given. -/
def dsc0 (x : Dsc) : State := { running with dscs := Tab.ofFn [0] fun _ => x }

/-- A round under way, each HKC with the results a good internal reference gives. -/
def roundDone : State :=
  { running with
    sense := { running.sense with roundOn := true }
    hkcs := Tab.ofFn (List.range 8) fun _ => { inRound := true, res := [(143, some 4800), (145, some 4800)] } }

/-- `running` with diode 0 as given. -/
def diode0 (x : Diode) : State := { running with diodes := Tab.ofFn [0] fun _ => x }

/-- No reading at all. -/
def noSample : SenseSample := { points := [], mirror := [], other := [] }

theorem witness_SenseCommands :
    (∃ s : State, s.fastRuns = true ∧ s.sense.timerOn = true ∧ (s.dsc 0).trigSrc = 1) ∧
    (∃ (s : State) (p : Nat) (e : DscEntry), s.fastRuns = true ∧ (s.dsc 0).am = .regular p ∧ (s.dsc 0).entry = some e ∧ (s.dsc 0).auxEdge = false ∧
      p + 1 < (s.dsc 0).round.length) ∧
    (running.fastRuns = true ∧ (1 : BitVec 2) ≠ 3) ∧
    (∃ s : State, s.fastRuns = true ∧ s.ledger.running = true ∧ s.ledger.epoch % 500 = 0 ∧ s.sense.roundOn = false) ∧
    (∃ (ch : Fin 152) (n : Nat), (roundDone.hkc 0).inRound = true ∧ roundDone.sense.roundOn = true ∧ diodeOf 0 ch = some n ∧ n < 1024) ∧
    (roundDone.fastRuns = true ∧ roundDone.sense.refPend = none ∧ ∀ k, k < 8 →
      (roundDone.hkc k).inRound = true ∧ bitAt (255 : BitVec 8).toNat k = true ∧ roundDone.rowPasses roundDone.sense.refAct k = true) ∧
    (∃ (s : State) (x : Int), s.fastRuns = true ∧ (s.diode 0).fresh = true ∧ (s.diode 0).cur = some x ∧ x < s.tTrip ∧ (s.diode 0).rate = none ∧ x ≥ s.tThrot) ∧
    (∃ (s : State) (x : Int), s.fastRuns = true ∧ (s.diode 0).fresh = true ∧ (s.diode 0).cur = some x ∧ x < s.tTrip ∧ (s.diode 0).rate = none ∧ x < s.tThrot - 128 ∧
      s.warnRate ≤ s.throtRate) ∧
    (∃ s : State, s.fastRuns = true ∧ (s.diode 0).badRun ≥ 3 ∧ (s.diode 0).badSet = false ∧ s.Soft 32) ∧
    (∃ s : State, s.fastRuns = true ∧ (s.dsc 0).gFail = false ∧ (s.dsc 0).audit ≠ some 4 ∧ s.guardNext 0 < 128) ∧
    (∃ s : State, s.fastRuns = true ∧ (s.dsc 0).gFail = false ∧ (s.dsc 0).audit ≠ some 4 ∧ s.guardNext 0 = 128) ∧
    (∃ s : State, s.fastRuns = true ∧ (s.dsc 0).gFail = false ∧ (s.dsc 0).audit ≠ some 4 ∧ s.guardNext 0 = 129 ∧
      false = ((s.dsc 0).crossBad || s.crossFails 0 129 (s.chanResult 0 129 gFilter noSample).1)) ∧
    (∃ s : State, s.fastRuns = true ∧ (s.dsc 0).gFail = false ∧ (s.dsc 0).audit ≠ some 4 ∧ s.guardNext 0 = 129 ∧
      ((s.dsc 0).crossBad || s.crossFails 0 129 (s.chanResult 0 129 gFilter noSample).1) = true ∧ (s.dsc 0).crossRun ≥ 1) ∧
    (∃ s : State, s.fastRuns = true ∧ (s.dsc 0).gFail = false ∧ (s.dsc 0).audit ≠ some 4 ∧ (s.dsc 0).suspects.head? = some 0 ∧
      s.sense.restoreReq.contains (pointIndex 0 0) = false ∧
      (0 : Int) = (fineV (roundEven (s.refScale 0 * gFilter []))).1 - (fineV (roundEven (s.refScale 0 * gFilter []))).1 ∧
      (0 : Int) < 64 * (fld s.sense.plaus 15 8 : Nat) ∧ (0 : Int) < 64 * (fld s.sense.plaus 20 16 : Nat)) ∧
    (∃ s : State, s.fastRuns = true ∧ (s.dsc 0).gFail = false ∧ (s.dsc 0).audit ≠ some 4 ∧ (s.dsc 0).suspects.head? = some 0 ∧
      s.sense.restoreReq.contains (pointIndex 0 0) = false ∧
      (fineV (roundEven (s.refScale 0 * gFilter []))).1 - (fineV (roundEven (s.refScale 0 * gFilter []))).1 ≥ 64 * (fld s.sense.plaus 15 8 : Nat) ∧ s.Soft 19) ∧
    (∃ s : State, s.fastRuns = true ∧ (s.dsc 0).audit = some 3) :=
  ⟨⟨{ dsc0 { aux := 1 <<< 18 } with sense := { running.sense with timerOn := true } }, by decide⟩,
    ⟨dsc0 { aux := 2 <<< 10, active := { mask := 3 }, am := .regular 0, entry := some (.begin 0 0 2 0) }, 0, .begin 0 0 2 0, by decide, rfl, rfl, rfl, by decide⟩, by decide,
    ⟨{ running with ledger := { running.ledger with running := true } }, by decide⟩, ⟨0, 0, by decide⟩, ⟨by decide, by decide, by decide⟩,
    ⟨diode0 { fresh := true, cur := some (running.tThrot), rate := none }, running.tThrot, by decide, rfl, rfl, by decide, rfl, by decide⟩,
    ⟨diode0 { fresh := true, cur := some 0, rate := none }, 0, by decide, rfl, rfl, by decide, rfl, by decide, by decide⟩,
    ⟨diode0 { badRun := 3 }, by decide, by decide, by decide, by decide, by decide, by decide, by decide⟩,
    ⟨running, by decide⟩, ⟨dsc0 { guardAt := 128 }, by decide⟩, ⟨dsc0 { guardAt := 129 }, by decide, rfl, by decide, by decide, rfl⟩,
    ⟨dsc0 { guardAt := 129, crossBad := true, crossRun := 1 }, by decide, rfl, by decide, by decide, rfl, by decide⟩,
    ⟨dsc0 { suspects := [0] }, by decide, rfl, by decide, rfl, by decide, (Int.sub_self _).symm, by decide, by decide⟩,
    ⟨{ dsc0 { suspects := [0] } with sense := { running.sense with plaus := 0 } }, by decide, rfl, by decide, rfl, by decide,
      Int.le_of_eq (by rw [Int.sub_self]; decide), by decide, by decide, by decide, by decide⟩,
    ⟨dsc0 { audit := some 3 }, by decide⟩⟩

/-! ### CellCycleAndProfile -/

theorem witness_CellCycleAndProfile :
    (∃ s : State, s.cellsUp = true ∧ switching (s.cell 0) = true ∧ (s.cell 0).mode = .run ∧ windowCode (-40) ≤ -32 ∧ (s.cell 0).phases = .burst ∧ (s.cell 0).burstOn = false) ∧
    (∃ s : State, s.cellsUp = true ∧ switching (s.cell 0) = true ∧ (s.cell 0).mode = .hold ∧ (s.cell 0).phases = .four) ∧
    (∃ s : State, s.cellsUp = true ∧ switching (s.cell 0) = false) ∧
    (∃ s : State, s.cellsUp = true ∧ generating (s.cell 0) = true ∧ (s.cell 0).trimNext = none ∧ (s.cell 0).cfgNext = none ∧ (s.cell 0).cfg.vMax ≠ 0 ∧
      (s.cell 0).cfg.aMax ≠ 0 ∧ (s.cell 0).cfg.jMax ≠ 0 ∧ (s.cell 0).p = 192000 * (cellTarget (s.cell 0) : Int) ∧ (s.cell 0).v = 0 ∧ (s.cell 0).a = 0) ∧
    (∃ s : State, s.cellsUp = true ∧ cellArm (s.cell 0) ≠ .disarmed ∧ (s.cell 0).rsvReady = true) ∧
    (∃ s : State, s.cellsUp = true ∧ cellArm (s.cell 0) = .disarmed) :=
  ⟨⟨cellOf { mode := .run, phases := .burst }, by decide⟩, ⟨cellOf { mode := .hold, holdFrom := .run }, by decide⟩, ⟨cellOf {}, by decide⟩,
    ⟨cellOf { mode := .run, tgt := 51200, p := 192000 * 51200, cfg := { vMax := 47, aMax := 255, jMax := 100 } }, by decide⟩,
    ⟨cellOf { mode := .run, cfg := { rsvDroop := 20, rsvEn := true }, rsvReady := true }, by decide⟩, ⟨cellOf {}, by decide⟩⟩

/-! ### CellLoadAndProtection -/

theorem witness_CellLoadAndProtection :
    (∃ s : State, s.cellsUp = true ∧ bleedArmed (s.cell 0) = true ∧ (s.cell 0).bleedSpent = false) ∧
    (∃ s : State, s.cellsUp = true ∧ (s.cell 0).mode = .run ∧ (s.cell 0).hintArm = true) ∧
    (∃ s : State, s.cellsUp = true ∧ (s.cell 0).mode = .run ∧ (s.cell 0).hintArm = false ∧ (s.cell 0).phases = .four ∧ (s.cell 0).cfg.shedEn = true ∧
      (s.cell 0).freshWindow = false) ∧
    (∃ s : State, s.cellsUp = true ∧ (s.cell 0).mode = .run ∧ (s.cell 0).hintArm = false ∧ (s.cell 0).phases = .one ∧ (s.cell 0).cfg.shedEn = true ∧
      (s.cell 0).cfg.burstEn = true ∧ (s.cell 0).v = 0) ∧
    (∃ s : State, s.cellsUp = true ∧ (s.cell 0).mode ≠ .run ∧ (s.cell 0).mode ≠ .hold) ∧
    (∃ s : State, s.cellsUp = true ∧ (s.cell 0).phases = .burst) ∧ (∃ s : State, s.cellsUp = true ∧ (s.cell 0).phases ≠ .burst) :=
  ⟨⟨cellOf { mode := .rise }, by decide⟩, ⟨cellOf { mode := .run, hintArm := true }, by decide⟩, ⟨cellOf { mode := .run, cfg := { shedEn := true } }, by decide⟩,
    ⟨cellOf { mode := .run, phases := .one, cfg := { shedEn := true, burstEn := true } }, by decide⟩, ⟨cellOf {}, by decide⟩,
    ⟨cellOf { mode := .run, phases := .burst }, by decide⟩, ⟨cellOf {}, by decide⟩⟩

/-! ### CellStateChanges -/

theorem witness_CellStateChanges :
    (∃ s : State, s.cellsUp = true ∧ (s.cell 0).mode = .measure ∧ (s.cell 0).ramp = false ∧ measuredP (s.cell 0) ≤ 70400 ∧ (s.cell 0).boot = false) ∧
    (∃ s : State, s.cellsUp = true ∧ (s.cell 0).mode = .measure ∧ (s.cell 0).ramp = false ∧ measuredP (s.cell 0) ≤ 70400 ∧ (s.cell 0).boot = true) ∧
    (∃ s : State, s.cellsUp = true ∧ (s.cell 0).mode = .measure ∧ (s.cell 0).ramp = false ∧ 70400 < measuredP (s.cell 0)) ∧
    (∃ s : State, s.cellsUp = true ∧ (s.cell 0).mode = .rise ∧ (s.cell 0).ramp = false) ∧
    (∃ s : State, s.cellsUp = true ∧ (s.cell 0).mode = .fall ∧ (s.cell 0).ramp = false) ∧
    (∃ s : State, s.cellsUp = true ∧ (s.cell 0).mode = .hold ∧ (s.cell 0).ramp = false ∧ (s.cell 0).holdCyc ≥ 160000 * (s.cell 0).holdLim) ∧
    (∃ s : State, s.cellsUp = true ∧ (s.cell 0).mode = .hold ∧ (s.cell 0).holdCyc < 160000 * (s.cell 0).holdLim) ∧
    (∃ s : State, s.cellsUp = true ∧ steering (s.cell 0) = true) ∧ (∃ s : State, s.cellsUp = true ∧ (s.cell 0).mode = .test) ∧
    (∃ s : State, s.cellsUp = true ∧ (s.cell 0).ramp = true) :=
  ⟨⟨cellOf { mode := .measure }, by decide⟩, ⟨cellOf { mode := .measure, boot := true }, by decide⟩, ⟨cellOf { mode := .measure, vCoarse := 255 }, by decide⟩,
    ⟨cellOf { mode := .rise }, by decide⟩, ⟨cellOf { mode := .fall }, by decide⟩, ⟨cellOf { mode := .hold, holdCyc := 160000, holdLim := 1 }, by decide⟩,
    ⟨cellOf { mode := .hold, holdLim := 1 }, by decide⟩, ⟨cellOf { mode := .zero }, by decide⟩, ⟨cellOf { mode := .test }, by decide⟩, ⟨cellOf { ramp := true }, by decide⟩⟩

/-! ### FramesToCells -/

theorem witness_FramesToCells :
    (∃ (s : State) (c : ChainIx) (p : BitVec 64) (i v : Nat), s.cellsUp = true ∧ s.FrameReaches c p i ∧ (s.cell i).mode = .run ∧
      mcastEntry p.toNat (cellDom i (s.cell i)) = some v ∧ bits p.toNat 51 50 = 0) ∧
    (∃ (s : State) (c : ChainIx) (p : BitVec 64) (i : Nat), s.cellsUp = true ∧ s.FrameReaches c p i ∧ (s.cell i).mode = .hold) ∧
    (∃ (s : State) (c : ChainIx) (p : BitVec 64) (i : Nat), s.cellsUp = true ∧ s.FrameReaches c p i ∧ (s.cell i).mode = .run ∧
      mcastEntry p.toNat (cellDom i (s.cell i)) = none ∧ (s.cell i).marks = 15 ∧ (s.cell i).ramp = false) ∧
    (∃ (s : State) (c : ChainIx) (p : BitVec 64) (i : Nat), s.cellsUp = true ∧ s.FrameReaches c p i ∧ (s.cell i).mode ≠ .hold ∧ bits p.toNat 55 50 = 63) ∧
    (∃ (s : State) (c : ChainIx) (p : BitVec 64) (i : Nat), s.cellsUp = true ∧ s.FrameReaches c p i ∧ (s.cell i).mode ≠ .hold ∧
      bits p.toNat 55 50 = cellDom i (s.cell i) ∧ bits p.toNat 55 50 ≠ 63 ∧ armSelects (bits p.toNat 31 0) i (s.cell i) = true) ∧
    (∃ (s : State) (c : ChainIx) (p : BitVec 64) (i k : Nat), s.cellsUp = true ∧ s.FrameReaches c p i ∧ (s.cell i).mode ≠ .hold ∧
      (s.cell i).addr = some (bits p.toNat 55 44 + k) ∧ k < min 5 (bits p.toNat 43 40)) ∧
    (∃ (s : State) (c : ChainIx) (p : BitVec 64), s.cellsUp = true ∧ s.cellByAddr c (bits p.toNat 55 44) = some 0) ∧
    (∃ (s : State) (i : CellIx), s.cellsUp = true ∧ (s.cell i).addr = some 0 ∧ (s.cell i).urg = [(1, 2)] ∧
      s.reaches (chainOf i) (posOf i) = true ∧ 0 < s.urgFree i) ∧
    (∃ (s : State) (i : CellIx), s.cellsUp = true ∧ (s.cell i).addr = some 300 ∧ (s.cell i).urg = [(1, 2)] ∧ s.reaches (chainOf i) (posOf i) = false) ∧
    (∃ (s : State) (i : CellIx), (s.cell i).urg = []) :=
  ⟨⟨cellOf { addr := some 0, mode := .run }, 0, BitVec.ofNat 64 (packN [(45, 45, 1), (44, 39, 3), (38, 23, 500)]), 0, 500, by unfold State.FrameReaches; decide⟩,
   ⟨cellOf { addr := some 0, mode := .hold }, 0, 0, 0, by unfold State.FrameReaches; decide⟩,
   ⟨cellOf { addr := some 0, mode := .run, marks := 15 }, 0, 0, 0, by unfold State.FrameReaches; decide⟩,
   ⟨cellOf { addr := some 0, mode := .run }, 0, BitVec.ofNat 64 (packN [(55, 50, 63)]), 0, by unfold State.FrameReaches; decide⟩,
   ⟨cellOf { addr := some 0, mode := .run }, 0, BitVec.ofNat 64 (packN [(55, 50, 3), (31, 0, 0xFFFFFFFF)]), 0, by unfold State.FrameReaches; decide⟩,
   ⟨cellOf { addr := some 4, mode := .run }, 0, BitVec.ofNat 64 (packN [(43, 40, 5)]), 0, 4, by unfold State.FrameReaches; decide⟩,
   ⟨cellOf { addr := some 0 }, 0, 0, by decide⟩,
   ⟨{ cellOf { addr := some 0, urg := [(1, 2)] } with chains := [(0, { urgSlots := 1 })] }, 0, by decide⟩,
   ⟨{ cellOf { addr := some 300, urg := [(1, 2)] } with chains := [(0, { j1 := 0 })] }, 0, by decide⟩,
   ⟨cellOf {}, 0, by decide⟩⟩

/-! ### EnumerationFrames -/

theorem witness_EnumerationFrames :
    (∃ (s : State) (c : ChainIx), s.cellsUp = true ∧ s.firstUnaddressed c = some 0) ∧
    (∃ (s : State) (c : ChainIx), s.cellsUp = true ∧ s.firstUnaddressed c = none) ∧
    (∃ (s : State) (c : ChainIx) (p : BitVec 64) (i : Nat), s.cellsUp = true ∧ s.cellByAddr c (bits p.toNat 55 44) = some i ∧ (s.cell i).mode = .off) ∧
    (∃ (s : State) (c : ChainIx) (p : BitVec 64) (i : Nat), s.cellsUp = true ∧ s.cellByAddr c (bits p.toNat 55 44) = some i ∧ (s.cell i).mode ≠ .off) :=
  ⟨⟨running, 0, by decide, by decide⟩,
   ⟨{ running with cells := Tab.ofFn (List.range 288) fun i => { addr := some i } }, 0, by decide, by decide +kernel⟩,
   ⟨cellOf { addr := some 0 }, 0, 0, 0, by decide⟩, ⟨cellOf { addr := some 0, mode := .run }, 0, 0, 0, by decide⟩⟩

/-! ### OrdersToOneCell -/

theorem witness_OrdersToOneCell :
    (∀ m : CellMode, ∃ (s : State) (c : ChainIx) (h : CmdHdr) (i : Nat), s.OrderReaches c h i ∧ (s.cell i).mode = m ∧
      (s.cell i).ramp = false ∧ (s.cell i).sync = true ∧ (s.cell i).boot = false ∧ (s.cell i).kNext = [] ∧ (swingNo i).isSome = true) ∧
    (∃ (s : State) (c : ChainIx) (h : CmdHdr) (i : Nat), s.OrderReaches c h i ∧ (s.cell i).mode = .off ∧ (s.cell i).sync = false) ∧
    (∃ (s : State) (c : ChainIx) (h : CmdHdr) (i : Nat), s.OrderReaches c h i ∧ (s.cell i).mode ≠ .hold ∧ (swingNo i).isNone = true ∧
      selOf 0 ≠ some .home) ∧ selOf 1 = some .home ∧ selOf 3 = none ∧
    (∃ (s : State) (c : ChainIx) (h : CmdHdr) (i : Nat), s.cellsUp = true ∧ s.cellByAddr c h.addr.toNat = some i ∧ (s.cell i).seq = some h.seq.toNat) := by
  refine ⟨fun m => ⟨{ running with cells := [(7, { addr := some 0, sync := true, mode := m })] }, 0, h0, 7, ?_⟩, ⟨cellOf { addr := some 0, sync := false }, 0, h0, 0, ?_⟩,
    ⟨{ running with cells := [(1, { addr := some 0 })] }, 0, h0, 1, ?_⟩, by decide, by decide, ⟨cellOf { addr := some 0, seq := some 0 }, 0, h0, 0, by decide⟩⟩
  · cases m <;> unfold State.OrderReaches <;> decide
  · unfold State.OrderReaches; decide
  · unfold State.OrderReaches; decide

/-! ### HostCommandsAtOnce -/

theorem witness_HostCommandsAtOnce :
    (∀ op, running.HostReady x0 op) ∧ reactOk 0 0 = true ∧ (0x3F &&& 0x3FFFFFC0 : Word) = 0 ∧ fld (0x2F : Word) 5 0 < 48 ∧
    (∃ s : State, s.HostReady x0 0x14 ∧ s.pace.st = .up ∧ s.paceGroup ≠ 0 ∧ s.pace.relay = none) ∧
    (∃ s : State, s.HostReady x0 0x14 ∧ s.pace.st = .up ∧ s.paceGroup ≠ 0 ∧ s.pace.relay = some (5, 7, 0)) ∧
    (∃ s : State, ∃ l : List Word, s.HostReady x0 0x05 ∧ (s.dom 0).law = l ∧ l.length = 16) :=
  ⟨running_host, by decide, by decide, by decide,
    ⟨{ running with pace := { running.pace with st := .up, ctrl := 0xE0011090 } }, running_host 0x14, rfl, by decide, rfl⟩,
    ⟨{ running with pace := { running.pace with st := .up, ctrl := 0xE0011090, relay := some (5, 7, 0) } }, running_host 0x14, rfl, by decide, rfl⟩,
    ⟨{ running with doms := (0, { law := List.replicate 16 0 }) :: running.doms }, List.replicate 16 0,
      ⟨by decide, (running_host 0x05).2.1, (running_host 0x05).2.2.1, rfl⟩, rfl, by simp⟩⟩

/-! ### HostCommandsStaged -/

/-- A record of one integrator for TD0 at the lowest target of its range. -/
def law0 : List Word :=
  [0, 0x01010101, 0x70807080, 0x00010000, 0, 0, 0, 1, 0, 0, 0, 0, 0, 0, 0, 0]

theorem law0_ok (s : State) (h : s.otp.profMax = [(255, 255, 255, 255)]) : s.lawReason 0 law0 = 0 := by
  have : s.lawFaults 0 law0 = [] := by
    simp only [State.lawFaults, h]
    decide
  simp only [State.lawReason, this]
  decide

theorem witness_HostCommandsStaged :
    (∀ op, running.HostReady x0 op) ∧
    ((vRange 0).1 ≤ 1800 ∧ 1800 ≤ (vRange 0).2 ∧ running.vMin 0 ≤ 1800 ∧ denied 0 = false ∧ running.limits.fixed = false) ∧
    (running.dom 0).st = .off ∧ (running.lane 0).out = false ∧ (isTD 0 = true ∧ ∀ e, e < 32 → (running.dom e).st = .off) ∧
    (∃ s : State, s.HostReady x0 0x04 ∧ law0.length = 16 ∧ s.lawReason 0 law0 = 0) ∧
    ((∀ c, c ∈ ([0, 0] : List Word).take 12 → c &&& 0x60F00000 = 0) ∧ running.imageOk 0x414 0x0016E360 = true ∧ capImages [0, 0] = []) ∧
    (∃ w : Word, running.imageOk 0x420 w = true) ∧ (∃ w : Word, running.imageOk 0x1504 w = true) ∧ (∃ w : Word, running.imageOk 0xD00 w = true) ∧
    (∃ w : Word, running.imageOk 0xB00 w = true) ∧ running.fixReady = true :=
  ⟨running_host, by decide, by decide, by decide, by decide,
    ⟨{ running with otp := { running.otp with profMax := [(255, 255, 255, 255)] } },
      ⟨by decide, (running_host 0x04).2.1, (running_host 0x04).2.2.1, rfl⟩, by decide, law0_ok _ rfl⟩,
    ⟨by intro c hc; simp at hc; subst hc; rfl, by decide, by decide⟩, ⟨running.readReg 0x420, by decide⟩, ⟨running.readReg 0x1504, by decide⟩, ⟨running.readReg 0xD00, by decide⟩,
    ⟨running.readReg 0xB00, by decide⟩, by decide⟩

/-! ### HostLoansReadsLists -/

/-- `running` with the tile domains in RUN, every cell in contact and one swing cell of TD5 read in RUN, at home or lent. -/
def loanRun (lent : Bool) : State :=
  { running with
    doms := Tab.ofFn ([43, 45] ++ List.range 32) fun _ => { st := .run }
    views := [(swingCell 5 0, { runOk := true, lent := lent })]
    chains := Tab.ofFn (List.range 8) fun _ => { st := .running, taken := [(posOf (swingCell 5 0), 0)] } }

theorem loanRun_host (b : Bool) (op : Nat) : (loanRun b).HostReady x0 op := by
  have a : ∀ s : State, s.adopting = false → s.clk.fsReset = false → s.rings.complOut = [] → s.rings.complWait = [] → s.rings.waitLog = [] →
      s.rings.flights = [] → s.mustWait x0 op = false := by
    intro s h1 h2 h3 h4 h5 h6
    simp [State.mustWait, State.complFull, h1, h2, h3, h4, h5, h6, x0, complDepth]
  have c : ∀ s : State, s.start.ready = true → s.stopq.active = false → s.stateRefused op = false := by
    intro s h1 h2; simp [State.stateRefused, h1, h2]
  refine ⟨?_, a _ rfl rfl rfl rfl rfl rfl, c _ rfl rfl, rfl⟩
  cases b <;> decide

/-- A list of one entry for the regular sequence. -/
def oneEntry : List Word := List.replicate 4 0 ++ [0x00000200]

theorem met_HostLoansReadsLists :
    ((loanRun false).HostReady x0 0x09 ∧ swingCell 5 0 < 2304 ∧ facing (swingCell 5 0) < 48 ∧
      (loanRun false).loanCheck (swingCell 5 0) (some (facing (swingCell 5 0))) = stOk ∧
      (loanRun true).loanCheck (swingCell 5 0) (some (facing (swingCell 5 0))) ≠ stOk) ∧
    ((loanRun true).HostReady x0 0x0A ∧ (loanRun true).recallCheck (swingCell 5 0) = stOk ∧ (loanRun false).recallCheck (swingCell 5 0) ≠ stOk) ∧
    ((loanRun false).HostReady x0 0x0B ∧ (loanRun false).contact (swingCell 5 0) = true ∧ running.contact (swingCell 5 0) = false) ∧
    (running.HostReady x0 0x0C ∧ (64#64).toNat % 64 = 0 ∧ (65#64).toNat % 64 ≠ 0 ∧ 2304 ≤ (2304#12).toNat) ∧
    (running.HostReady x0 0x0E ∧ (32#6).toNat < 48 ∧ (1#7).toNat ≤ 64 ∧ (0#4).toNat ≤ 8 ∧
      seqOk 32 (seqList (running.dsc 32).staging 1 0 oneEntry) = true ∧ (running.dsc 32).am = .idle ∧
      seqOk 32 (seqList (running.dsc 32).staging 1 0 []) = false) ∧
    (∃ s : State, (s.dsc 32).inRound = true) :=
  ⟨⟨loanRun_host _ _, by decide, by decide, by decide, by decide⟩, ⟨loanRun_host _ _, by decide, by decide⟩,
    ⟨loanRun_host _ _, by decide, by decide⟩, ⟨running_host _, by decide, by decide, by decide⟩,
    ⟨running_host _, by decide, by decide, by decide, by decide, by decide, by decide⟩,
    ⟨{ running with dscs := [(32, { am := .regular 0 })] }, by decide⟩⟩

/-! ### SmbusAddressing -/

theorem onSmbus_up : onSmbus.traysUp = true ∧ onSmbus.smbAnswers = true := by decide

theorem met_SmbusAddressing :
    (∃ s : State, s.traysUp = true ∧ s.start.slot < 64 ∧ s.smb.alert = false) ∧
    (∃ (s : State) (u : BitVec 128), s.traysUp = true ∧ u = BitVec.ofNat 128 (bytesNat s.udid.reverse)) ∧
    (∃ (s : State) (u : BitVec 128), s.traysUp = true ∧ u ≠ BitVec.ofNat 128 (bytesNat s.udid.reverse)) ∧
    (∃ s : State, s.smbAnswers = true ∧ s.smb.alert = true ∧ s.smb.seen = s.alertBits) :=
  ⟨⟨onSmbus, by decide⟩, ⟨onSmbus, _, by decide, rfl⟩,
    ⟨onSmbus, BitVec.ofNat 128 (bytesNat onSmbus.udid.reverse) + 1, by decide, fun h => by
      generalize BitVec.ofNat 128 (bytesNat onSmbus.udid.reverse) = y at h
      bv_omega⟩,
    ⟨{ onSmbus with smb := { onSmbus.smb with alert := true, seen := onSmbus.alertBits } }, by decide, rfl, rfl⟩⟩

/-! ### PmbusCommands -/

theorem met_PmbusCommands :
    (∃ s : State, s.smbAnswers = true) ∧ Pec.good ≠ .bad ∧ (0x01 : Byte).toNat ∉ pmbusCodes ∧ pmbusCodes.length = 31 ∧
    (∃ s : State, s.smbAnswers = true ∧ wbit s.win.gctrl 0 = false) ∧
    (∃ s : State, s.smbAnswers = true ∧ wbit s.win.gctrl 1 = false) :=
  ⟨⟨onSmbus, by decide⟩, by decide, by decide, by decide, ⟨{ onSmbus with win := { onSmbus.win with gctrl := 0 } }, by decide⟩,
    ⟨onSmbus, by decide⟩⟩

/-! ### PmbusStatus -/

theorem witness_PmbusStatus : onSmbus.smbAnswers = true := by decide

/-! ### PmbusReadings -/

theorem witness_PmbusReadings :
    onSmbus.smbAnswers = true ∧ onSmbus.pageDom = none ∧
    (∃ s : State, s.smbAnswers = true ∧ s.pageDom = some 3) ∧
    (∃ (s : State) (x : Rat), s.smbAnswers = true ∧ s.pageDom = some 3 ∧ ((s.hottest (domDiodes 3)).map fun (x : Int) => (x : Rat) / 64) = some x) ∧
(∃ x : Rat, (linMant x (Int.ofNat 0 - 10)).natAbs ≤ 1023) :=
  ⟨by decide, by decide, ⟨{ onSmbus with smb := { onSmbus.smb with page := 3 } }, by decide⟩,
    ⟨{ onSmbus with smb := { onSmbus.smb with page := 3 }, diodes := [((domDiodes 3).headD 0, { round := some 3200 })] }, _, by decide, by decide, rfl⟩,
    ⟨0, by simp [linMant, roundEven]; decide⟩⟩

/-! ### PmbusRestartVaultMailbox -/

/-- A controller that waits for a restart, its quiet period complete (R361). -/
def restartable : State :=
  { onSmbus with
    start := { onSmbus.start with step := .waitRestart, ready := false }
    stopq := { onSmbus.stopq with exists_ := true, active := false, quietOk := true } }

theorem met_PmbusRestartVaultMailbox :
    (restartable.smbAnswers = true ∧ restartable.restartOk = true) ∧ (onSmbus.smbAnswers = true ∧ onSmbus.restartOk = false) ∧
    onSmbus.smb.vaultAddr + 32 ≤ 0x40000 ∧
    (∃ s : State, s.smbAnswers = true ∧ wbit s.win.gctrl 0 = false) ∧
    (onSmbus.smbAnswers = true ∧ wbit onSmbus.win.gctrl 0 = true ∧ onSmbus.warden.mboxP.busy = false ∧ wbit onSmbus.win.gctrl 1 = false) ∧
    (∃ s : State, s.smbAnswers = true ∧ wbit s.win.gctrl 0 = true ∧ s.warden.mboxP.busy = true) ∧
    (∃ s : State, s.smbAnswers = true ∧ wbit s.win.gctrl 1 = true) :=
  ⟨by decide, by decide, by decide, ⟨{ onSmbus with win := { onSmbus.win with gctrl := 0 } }, by decide⟩, by decide,
    ⟨{ onSmbus with warden := { onSmbus.warden with mboxP := { onSmbus.warden.mboxP with busy := true } } }, by decide⟩,
    ⟨{ onSmbus with win := { onSmbus.win with gctrl := 3 } }, by decide⟩⟩

/-! ### AvsLinks -/

theorem met_AvsLinks :
    (onSmbus.traysUp = true ∧ (onSmbus.link 0).fails < 2) ∧ (∃ s : State, s.traysUp = true ∧ 2 ≤ (s.link 1).fails) ∧
    (∃ s : State, s.traysUp = true ∧ 0 < (s.link 1).fails) :=
  ⟨by decide, ⟨onSmbus.updLink 1 fun l => { l with fails := 2 }, by decide⟩, ⟨onSmbus.updLink 1 fun l => { l with fails := 1 }, by decide⟩⟩

/-! ### TestPortAndWardenClock -/

theorem met_TestPort :
    (running.start.aon = true ∧ running.tapHeld = false ∧ running.tapAllowed = false) ∧
    ((atStep .waitRestart).start.aon = true ∧ (atStep .waitRestart).tapHeld = false ∧ (atStep .waitRestart).tapAllowed = true ∧
      (atStep .waitRestart).stopped = true ∧ (atStep .waitRestart).clk.lock = false ∧ (atStep .waitRestart).wardenIdle = true ∧
      (atStep .waitRestart).traysUp = true) ∧
    (∃ s : State, s.start.aon = true ∧ s.tapHeld = false ∧ s.tapAllowed = true ∧ s.otp.ftLocked = false) ∧
    (∃ s : State, s.start.aon = true ∧ s.tapHeld = false ∧ s.otp.ftLocked = true) ∧
    (∃ s : State, s.start.aon = true ∧ s.tapHeld = true ∧ s.start.step ≠ .reconcile) :=
  ⟨by decide, by decide, ⟨{ atStep .waitRestart with otp := { State.reset.otp with ftLocked := false } }, rfl, by decide, by decide, rfl⟩,
    ⟨{ atStep .waitRestart with otp := { State.reset.otp with ftLocked := true } }, rfl, by decide, rfl⟩,
    ⟨{ atStep .waitRestart with tap := { State.reset.tap with ir := .highz } }, by decide⟩⟩

/-! ### PolicyRequestsApplied -/

/-- `running` with the policy core running, every permission given, TD0 and its neighbours in RUN and two swing cells of TD0 in RUN, the second
on loan; TD0 gives back current. -/
def policing : State :=
  { running with
    policy := { running.policy with st := .running, ctrl := 0x000A00FE, hostLim := [(0, 500), (1, 500), (2, 500), (3, 500), (4, 500), (5, 500), (6, 500), (7, 500)] }
    doms := Tab.ofFn [0, 1, 2, 3, 4, 43, 45] fun _ => { st := .run }
    accts := [(0, { iRep := -1000 })]
    views := [(swingCell 0 0, { runOk := true }), (swingCell 0 1, { runOk := true, lent := true })] }

/-- A request of the policy core. -/
def rq (target : BitVec 16) (value value2 : Word) : EbsisReq := { r0 with target := target, value := value, value2 := value2 }

theorem policing_ready : policing.EbsisReady ∧ policing.start.ready = true ∧ policing.stopq.active = false ∧ policing.trapOpen = false ∧
    (∀ b, 1 ≤ b → b ≤ 7 → policing.perm b = true) := by
  refine ⟨⟨by decide, by decide, by decide⟩, rfl, rfl, by decide, ?_⟩
  intro b h1 h2
  have : b = 1 ∨ b = 2 ∨ b = 3 ∨ b = 4 ∨ b = 5 ∨ b = 6 ∨ b = 7 := by omega
  rcases this with rfl | rfl | rfl | rfl | rfl | rfl | rfl <;> decide

theorem met_PolicyRequestsApplied :
    ((rq 3 3000 0).word3 = 0 ∧ (rq 3 3000 0).target.toNat < 48 ∧ (rq 3 3000 0).value.toNat < 4096 ∧ (policing.dom 3).st = .run ∧
      policing.limits.fixed = false) ∧
    ((rq 15 255 65535).target.toNat < 16 ∧ (rq 15 255 65535).value.toNat < 256 ∧ (rq 15 255 65535).value2.toNat < 65536) ∧
    ((rq 31 0xFFFFF 0).target.toNat < 32 ∧ (rq 31 0xFFFFF 0).value.toNat < 2 ^ 20) ∧
    (limitField (rq 7 0 0).target.toNat = some (0x540, 11, 0) ∧ policing.hostLimit (rq 7 0 0).target.toNat ≠ 0) ∧
    vtStageOk (rq 0 0 0).target.toNat (rq 0 0 0).value = true :=
  ⟨by decide, by decide, by decide, by decide, by decide⟩

theorem met_PolicyLoan : swingCell 0 0 < 2304 ∧ policing.loanCheck (swingCell 0 0) none = stOk := by
  refine ⟨by decide, ?_⟩
  have m : ¬ policing.meanCurrent (homeDom (swingCell 0 0)) > 1000 * (((policing.roleCells (homeDom (swingCell 0 0))).length : Int) - 1) := by
    rw [show policing.meanCurrent (homeDom (swingCell 0 0)) = -1000 from by decide]
    omega
  unfold State.loanCheck
  simp only [m, decide_false, Bool.or_false]
  decide

theorem met_PolicyRecall : swingCell 0 1 < 2304 ∧ policing.recallCheck (swingCell 0 1) = stOk := by decide

/-! ### PolicyRefusalsAndFaults -/

/-- `running` with the policy core running, no permission, and no reaction of POLICY_FAULT. -/
def policingBare : State := { running with
    policy := { running.policy with st := .running, ctrl := 0x000A0000 }
    flt := { running.flt with react := [(41, 0)] } }

theorem met_PolicyRefusals :
    (policingBare.EbsisReady ∧ policingBare.perm 6 = false ∧ r0.word3 = 0 ∧ (r0.target == 0 && r0.value2 == 0) = true) ∧
    (∃ r : EbsisReq, (r.target == 0 && r.value2 == 0) = false) ∧
    (∃ s : State, s.EbsisReady ∧ s.perm 6 = true ∧ s.start.ready = false) ∧
    (∃ s : State, s.policyUp = true ∧ s.clk.fsReset = true) ∧
    (policingBare.policyUp = true ∧ policingBare.stopped = false ∧ policingBare.Soft 41 ∧ policingBare.policy.faults = []) ∧
    (∃ s : State, s.policyUp = true ∧ s.Soft 41 ∧ 3 ≤ ((s.policy.faults.filter fun x => decide (s.clk.watch < x + 4000000)) ++ [s.clk.watch]).length) ∧
    running.policyUp = false :=
  ⟨⟨⟨by decide, by decide, by decide⟩, by decide, by decide, by decide⟩, ⟨{ r0 with target := 1 }, by decide⟩,
    ⟨{ policingBare with
        start := { policingBare.start with ready := false }, policy := { policingBare.policy with ctrl := 0x000A0040 } },
      ⟨by decide, by decide, by decide⟩, by decide, by decide⟩,
    ⟨{ policingBare with clk := { policingBare.clk with fsReset := true } }, by decide, by decide⟩,
    ⟨by decide, by decide, ⟨by decide, by decide, by decide, by decide⟩, by decide⟩,
    ⟨{ policingBare with policy := { policingBare.policy with faults := [0, 0] } }, by decide, ⟨by decide, by decide, by decide, by decide⟩, by decide⟩,
    by decide⟩

/-! ### FaultCollector -/

theorem running_windowReady : running.WindowReady := ⟨by decide, by decide, by decide⟩

theorem met_FaultCollector :
    (running.start.aon = true ∧ running.stopped = false ∧ running.Soft 28 ∧ (decide (28 ≤ 8) && running.isPending 13) = false) ∧
    (∃ s : State, s.start.aon = true ∧ s.stopped = false ∧ s.Soft 41 ∧ (s.policy.faults.filter fun x => decide (s.clk.watch < x + 4000000)).length < 2) ∧
    (∃ s : State, s.WindowReady ∧ s.otp.ftLocked = false ∧ s.Soft 28) ∧
    (∃ s : State, s.WindowReady ∧ s.otp.ftLocked = true) ∧
    (∃ s : State, s.incidentDone = true) ∧ running.incidentDone = false ∧
    (∃ s : State, s.flt.st = .recovering ∧ s.flt.quiet.isSome = true ∧ s.rings.eventOut.length < 64) ∧
    (∃ s : State, s.flt.clrBusy = true) :=
  ⟨⟨by decide, by decide, ⟨by decide, by decide, by decide, by decide⟩, by decide⟩,
    ⟨{ running with flt := { running.flt with react := [(41, 0)] } }, by decide, by decide, ⟨by decide, by decide, by decide, by decide⟩, by decide⟩,
    ⟨{ running with otp := { running.otp with ftLocked := false } }, ⟨by decide, by decide, by decide⟩, rfl, ⟨by decide, by decide, by decide, by decide⟩⟩,
    ⟨{ running with otp := { running.otp with ftLocked := true } }, ⟨by decide, by decide, by decide⟩, rfl⟩,
    ⟨{ running with flt := { running.flt with inc := { running.flt.inc with open_ := true } } }, by decide⟩, by decide,
    ⟨{ running with flt := { running.flt with st := .recovering, quiet := some 0 } }, by decide⟩,
    ⟨{ running with flt := { running.flt with clrBusy := true } }, by decide⟩⟩

/-! ### HintsAndRecords -/

/-- `running` with tile 0 as given. -/
def tileRun (x : Tile) : State := { running with tiles := [(0, x)] }

/-- A hint of zeros in a given state. -/
def hintIn (st : HintSt) (e : Bool) : Tile :=
  { hint := some { tag := 0, s := 0, st := st, expired := e, begins := 0, dur := 1, pExp := 0, pBase := 0, arrive := 0 } }

theorem met_HintsAndRecords :
    (running.fastRuns = true ∧ (running.tile 0).held = none) ∧
    ((tileRun { held := some (0, true) }).fastRuns = true ∧ ((tileRun { held := some (0, true) }).tile 0).held = some (0, true)) ∧
    (running.ledger.recCut = false ∧ ((tileRun { unpowered := false }).tile 0).unpowered = false ∧ ((tileRun { unpowered := false }).tile 0).arrived = none) ∧
    ((tileRun { unpowered := true }).tile 0).unpowered = true ∧
    ((tileRun { arrived := some 0 }).tile 0).arrived = some 0 ∧
    (∃ s : State, s.fastRuns = true ∧ s.ledger.recCut = false ∧ s.ledger.running = true) ∧
    (∃ s : State, s.fastRuns = true ∧ 16 ≤ (s.tile 0).lateRun ∧ (s.tile 0).silent = false ∧ s.Soft 25) ∧
    (∃ s : State, s.fastRuns = true ∧ 16 ≤ (s.acct 0).clampRun ∧ (s.acct 0).resRaised = false ∧ s.Soft 26) ∧
    (∃ (s : State) (h : Hint), s.fastRuns = true ∧ (s.tile 0).hint = some h ∧ h.expired = true ∧ s.rings.eventOut.length < 64) ∧
    (∃ (s : State) (h : Hint), s.fastRuns = true ∧ (s.tile 0).hint = some h ∧ h.st = .ended ∧ h.expired = false) ∧
    (∃ s : State, s.fastRuns = true ∧ s.ledger.vinBoost = true ∧ s.ledger.boostEnd = some 0) ∧
    (∃ s : State, s.fastRuns = true ∧ s.ledger.frozen = true ∧ 512 ≤ s.ledger.freezeN) :=
  ⟨⟨by decide, by decide⟩, ⟨by decide, by decide⟩, ⟨by decide, by decide, by decide⟩, by decide, rfl,
    ⟨{ running with ledger := { running.ledger with running := true } }, by decide, by decide, by decide⟩,
    ⟨tileRun { lateRun := 16 }, by decide, by decide, by decide, ⟨by decide, by decide, by decide, by decide⟩⟩,
    ⟨{ running with accts := [(0, { clampRun := 16 })] }, by decide, by decide, by decide, ⟨by decide, by decide, by decide, by decide⟩⟩,
    ⟨tileRun (hintIn .active true), _, by decide, rfl, by decide, by decide⟩,
    ⟨tileRun (hintIn .ended false), _, by decide, rfl, by decide, by decide⟩,
    ⟨{ running with ledger := { running.ledger with vinBoost := true, boostEnd := some 0 } }, by decide, by decide, by decide⟩,
    ⟨{ running with ledger := { running.ledger with frozen := true, freezeN := 512 } }, by decide, by decide, by decide⟩⟩

/-! ### PaceFrames -/

/-- No sixteen-bit value is the only one. -/
theorem other_crc (x : Nat) : ∃ crc : BitVec 16, crc.toNat ≠ x := by
  by_cases h : x = 0
  · exact ⟨1, by simp [h]⟩
  · exact ⟨0, by simpa using fun z => h z.symm⟩

theorem met_PaceFrames :
    (paceRun {}).paceTakesPart = true ∧
    ((paceRun { st := .discovering, leader := true }).paceTakesPart = true ∧ (paceRun { st := .discovering, leader := true }).pace.st = .discovering ∧
      (paceRun { st := .discovering, leader := true }).pace.leader = true ∧ 1 ≤ (64#7).toNat ∧ (64#7).toNat ≤ 64) ∧
    ((paceRun { st := .discovering }).paceTakesPart = true ∧ (paceRun { st := .discovering }).pace.leader = false ∧
      1 ≤ (63#7).toNat ∧ (63#7).toNat ≤ 63 ∧ (paceRun { st := .discovering }).rings.eventOut.length < 64) ∧
    ((paceRun { st := .up, pos := 63 }).pace.st = .up ∧ (paceRun { st := .up, pos := 63 }).pace.pos = (63#6).toNat) ∧
    ((paceRun { st := .up }).paceTakesPart = true ∧ (paceRun { st := .up }).pace.pos ≠ (63#6).toNat ∧ (paceRun { st := .up }).paceGroup = (5#8).toNat ∧
      (5#8) ≠ 0 ∧ (1#6) ≠ 0) ∧
    (∀ e ∈ ([] : List PaceEntry), e.is 3 false = false) ∧
    (∃ e ∈ [({ origin := 3, relay := false, q := 1, seq := 1 } : PaceEntry)], e.is 3 false = true) ∧
    ((paceRun { st := .up }).paceOn = true ∧ (paceRun { st := .up }).paceHolds (6#8).toNat = false) ∧
    ((paceRun { st := .up }).pace.leader = false ∧ (paceRun { st := .up }).pace.st ≠ .discovering) ∧
    (running.paceTakesPart = true ∧ ({ running with start := { running.start with ready := false } } : State).paceTakesPart = false) ∧
    ((paceRun { st := .up, leader := true }).paceTakesPart = true ∧ (paceRun { st := .up, leader := true }).pace.leader = true) ∧
    (0#56).toNat / 2 ^ 52 = 0 ∧ 8 ≤ (0x80000000000000#56).toNat / 2 ^ 52 ∧
    (∃ crc : BitVec 16, crc.toNat ≠ crc16 ((natBytes 7 (0#56).toNat).reverse)) := by
  refine ⟨by decide, by decide, by decide, by decide, by decide, by decide, by decide, by decide, by decide, by decide, by decide, by decide, by decide, other_crc _⟩

/-! ### PaceEvents -/

theorem met_PaceEvents :
    ((paceRun { lock := true }).paceTakesPart = true ∧ (paceRun { lock := true }).pace.lock = true ∧ (paceRun { lock := true }).pace.st ≠ .up) ∧
    ((paceRun { st := .discovering }).paceTakesPart = true ∧ (paceRun { st := .discovering }).pace.st = .discovering) ∧
    (∃ s : State, s.paceTakesPart = false) ∧
    (∃ (l : List PaceEntry) (e : PaceEntry), largestEntry l = some e) ∧
    ((paceRun { st := .up, leader := true }).paceOn = true ∧ (paceRun { st := .up, leader := true }).pace.leader = true ∧
      (paceRun { st := .up }).Soft 31) ∧
    ((paceRun {}).paceOn = true ∧ (paceRun {}).start.ready = true ∧ (paceRun {}).pace.lock = false ∧ (paceRun {}).pace.st ≠ .solo ∧
      (paceRun {}).pace.st ≠ .up ∧ (paceRun {}).rings.eventOut.length < 64) ∧
    (paceRun { st := .solo }).pace.st = .solo ∧
    ((paceRun { entries := [{ origin := 3, relay := true, q := 1, seq := 1 }] }).pace.entries.find? (·.expiring false (3#6).toNat true)).isSome = true ∧
    ((paceRun { entries := [{ origin := 3, relay := true, q := 1, seq := 1, carried := true }] }).pace.entries.find? (·.expiring true (0#6).toNat false)).isSome = true ∧
    ((paceRun { st := .up, bcast := some (1, 2, 3) }).paceGroup ≠ 0 ∧ (paceRun { st := .up, bcast := some (1, 2, 3) }).paceSendEn = true ∧
      (paceRun { st := .up, bcast := some (1, 2, 3) }).pace.relay = none) ∧
    ((paceRun { st := .up, relay := some (1, 2, 3) }).pace.relay = some (1, 2, 3) ∧ (paceRun { st := .up, relay := some (1, 2, 3) }).pace.bcast = none) :=
  ⟨by decide, by decide, ⟨State.reset, by decide⟩, ⟨[{ origin := 3, relay := true, q := 1, seq := 1 }], _, rfl⟩,
    ⟨by decide, by decide, ⟨by decide, by decide, by decide, by decide⟩⟩, by decide, by decide, by decide, by decide, by decide, by decide⟩

/-! ### StopSequence -/

/-- `running` with the stop logic as given. -/
def stopRun (q : Stop) : State := { running with stopq := q }

/-- A stopped controller with the stop logic as given. -/
def stoppedWith (flow : Bool) (q : Stop) : State :=
  { atStep .stopped with start := { (atStep .stopped).start with flowOk := flow }, stopq := q }

theorem met_StopSequence :
    (running.start.aon = true ∧ (63 : Fin 64).val ∉ running.stopq.tripped ∧ running.start.ready = true ∧ running.stopq.active = false ∧
      running.start.flowOk = true ∧ running.start.step = .ready) ∧
    ((stopRun { active := true }).start.aon = true ∧ (stopRun { active := true }).stopq.active = true ∧
      (63 : Fin 64).val ∉ (stopRun { active := true }).stopq.tripped ∧ (stopRun { active := true }).start.flowOk = true) ∧
    ((stoppedWith true {}).start.aon = true ∧ (stoppedWith true {}).stopq.active = false ∧ (stoppedWith true {}).start.step = .stopped ∧
      (stoppedWith true {}).start.ready = false ∧ (63 : Fin 64).val ∉ (stoppedWith true {}).stopq.tripped) ∧
    ((63 : Fin 64).val ∈ (stopRun { tripped := [63] }).stopq.tripped ∧ (stopRun { tripped := [63] }).stopped = false) ∧
    ((63 : Fin 64).val ∈ (stoppedWith true { tripped := [63] }).stopq.tripped ∧ (stoppedWith true { tripped := [63] }).stopped = true) ∧
    ((stoppedWith false {}).start.aon = true ∧ (stoppedWith false {}).start.flowOk = false ∧ (stoppedWith false {}).stopped = true) ∧
    (∃ s : State, s.start.aon = true ∧ s.start.flowOk = false ∧ s.start.step ≠ .reconcile ∧ s.stopped = false) ∧
    ((stopRun { active := true, pending := true }).stopq.pending = true ∧ (stopRun { active := true, pending := true }).fastUp = true) ∧
    ((stopRun { active := true, commits := some 79, stage := 3 }).stopq.commits = some 79 ∧ (stopRun { active := true, commits := some 79, stage := 3 }).fastUp = true ∧
      (stopRun { active := true, commits := some 79, stage := 3 }).stopq.stage < 4 ∧ [1, 27, 53, 79].getD 3 0 ≤ 79) ∧
    ((stopRun { active := true, commits := some 53, stage := 2 }).stopq.commits = some 53 ∧ 43 ∈ allDoms ∧ stopStageOf 43 = 3 ∧
      ((stopRun { active := true, commits := some 53, stage := 2 }).dom 43).st ∉ [EngSt.off, .frozen, .hold, .stop]) ∧
    (stopRun { active := true }).stopq.openDone = false ∧
    ((stopRun { active := true, stage := 4 }).stopq.active = true ∧ (stopRun { active := true, stage := 4 }).stopq.abandon = false) ∧
    (stopRun { quiet := some 0 }).stopq.quiet = some 0 := by
  refine ⟨by decide, by decide, by decide, by decide, by decide, by decide, ⟨{ atStep .pllLock with start := { (atStep .pllLock).start with flowOk := false } }, by decide⟩,
    by decide, by decide, by decide, by decide, by decide, by decide⟩

/-! ### FastReset -/

/-- The fast side in reset or being restored, an adoption at a step. -/
def fsrState (restoring : Bool) (step : Nat) : State :=
  { running with
    clk := { running.clk with fsReset := true, restoring := restoring }
    start := { running.start with adoptStep := step } }

/-- An adoption at a step, the fast side out of reset. -/
def adoptAt (step : Nat) : State := { running with start := { running.start with adoptStep := step } }

/-- `running` with SD0 waiting to start again, its home cells on their chains. -/
def waitRestart : State :=
  { running with
    doms := Tab.ofFn [43, 45, 32] fun d => if d = 32 then { restart := true } else { st := .run }
    chains := Tab.ofFn (List.range 8) fun c => { taken := ((homeCells 32).filter fun i => chainOf i == c).map fun i => (posOf i, posOf i) } }

/-- `running` with a cell of SD14 in contact. -/
def reachSd14 : State :=
  { running with chains := Tab.ofFn (List.range 8) fun _ => { st := .running, taken := [(posOf ((homeCells 46).headD 0), 0)] } }

theorem met_FastReset :
    (running.start.aon = true ∧ running.anyStarted = true ∧ running.clk.everLock = true ∧ running.clk.fsReset = false ∧
      running.stopq.active = false ∧ running.start.ready = true) ∧
    ((fsrState false 1).clk.fsReset = true ∧ (fsrState false 1).clk.restoring = false) ∧
    ((fsrState true 3).clk.restoring = true ∧ (fsrState true 3).clk.lock = true ∧ (fsrState true 3).win.held = []) ∧
    ((adoptAt 4).fastUp = true ∧ (adoptAt 4).start.adoptStep = 4) ∧
    ((adoptAt 5).fastUp = true ∧ (adoptAt 5).start.adoptStep = 5 ∧ (adoptAt 5).stopq.active = false) ∧
    (waitRestart.start.ready = true ∧ waitRestart.fastUp = true ∧ waitRestart.adopting = false ∧ waitRestart.start.restarting = none ∧
      waitRestart.restartable = [32] ∧ 32 ≠ sd 13) ∧
    (waitRestart.absentOf 32).length ≤ shedAllowed 32 ∧
    (running.fastUp = true ∧ running.anyStarted = true) ∧
    (∃ (s : State) (i : Nat), s.start.aon = true ∧ s.anyStarted = true ∧ s.stopq.active = false ∧ i ∈ bootCells ∧ s.contact i = true) := by
  refine ⟨by decide, by decide, by decide, by decide, by decide, by decide, by decide, by decide, ⟨reachSd14, (homeCells 46).headD 0, by decide, by decide, by decide, by decide, by decide⟩⟩

/-! ### CommitAndAccept -/

/-- `running` with a NOP offered by ring 0. -/
def nopOffered : State :=
  { running with rings := { running.rings with intake := [(0, [{ words := List.replicate 16 0, index := 0 }])] } }

theorem met_CommitAndAccept :
    (running.fastUp = true ∧ running.clk.everLock = true) ∧
    (running.hostOn = true ∧ running.rings.waitLog = [] ∧ running.nextRing = none) ∧
    (nopOffered.hostOn = true ∧ nopOffered.nextRing = some 0 ∧ nopOffered.rings.complOut.length < complDepth ∧ nopOffered.rings.complWait = []) ∧
    (∃ d, nopOffered.intake 0 = d :: [] ∧ (descCtx 0 d).link = false ∧ descOp d = 0 ∧ descClean 0 d.words = true ∧ nopOffered.stateRefused 0 = false) :=
  ⟨by decide, by decide, by decide, ⟨_, rfl, by decide, by decide, by decide, by decide⟩⟩

/-! ### StartNeedsCellsync -/

/-- Cell 0 of chain 0 with an address, in OFF without lock, reached by an order of its generation. -/
def cellOff : State :=
  { running with
    cells := [(0, { addr := some 0, gen := 1 })]
    chains := Tab.ofFn [0] fun _ => { st := .running, gen := 1, taken := [(0, 0)] } }

theorem witness_StartNeedsCellsync :
    cellOff.OrderReaches 0 { gen := 1, addr := 0, seq := 1 } 0 ∧ (cellOff.cell 0).mode = .off ∧ (cellOff.cell 0).sync = false :=
  ⟨⟨by decide, by decide, by decide, by decide⟩, by decide, by decide⟩

/-! ### ArmWithoutReserve -/

/-- Cell 0 in RUN with its reserve disabled. -/
def noReserve : State :=
  { running with
    cells := [(0, { addr := some 0, gen := 1, mode := .run, cfg := { rsvEn := false } })]
    chains := Tab.ofFn [0] fun _ => { st := .running, gen := 1, taken := [(0, 0)] } }

/-- An ARM payload of generation 1 for TD3, the home of cell 0, ARM set, every tile. -/
def armAll : BitVec 64 := BitVec.ofNat 64 (2 ^ 56 + 3 * 2 ^ 50 + 2 ^ 49 + 0xFFFFFFFF)

theorem witness_ArmWithoutReserve :
    noReserve.FrameReaches 0 armAll 0 ∧ (noReserve.cell 0).mode = .run ∧ (noReserve.cell 0).cfg.rsvEn = false ∧
    bits armAll.toNat 55 50 = cellDom 0 (noReserve.cell 0) ∧ armSelects (bits armAll.toNat 31 0) 0 (noReserve.cell 0) = true ∧
    bitAt armAll.toNat 49 = true :=
  ⟨⟨by decide, by decide, by decide, by decide, by decide⟩, by decide, by decide, by decide, by decide, by decide⟩

/-! ### DroopWithoutCharge -/

/-- Cell 0 in RUN, armed at its base threshold, its capacitor low. -/
def uncharged : State := { running with cells := [(0, { mode := .run, rsvReady := false })] }

theorem witness_DroopWithoutCharge :
    uncharged.cellsUp = true ∧ cellArm (uncharged.cell 0) ≠ .disarmed ∧ (uncharged.cell 0).rsvReady = false := by decide

/-! ### ScratchStoresOnly -/

theorem witness_ScratchStoresOnly : running.WindowReady := ⟨by decide, by decide, by decide⟩

/-! ### IdentificationRegister -/

theorem witness_IdentificationRegister : running.start.aon = true ∧ running.tapHeld = false := by decide

end Sys2Proof.Tests
end

section
/-! SUPPORT. The end of a command that raises nothing, that posts one event, and that makes one soft raise. -/

namespace Sys2Proof.Machine

theorem settle_kept {s t : State} (f : t.flt = s.flt) (q : t.stopq = s.stopq) : settle s t = .next t.alertUpdate :=
  settle_quiet (by rw [f]) (by rw [q])

theorem State.fast_runs {s : State} (t : State) (h : s.fastRuns = true) : s.fast t = settle s t := by
  simp [State.fast, h]

/-- A command of the fast side that leaves the fault logic and the stop logic alone. -/
theorem State.fast_kept {s t : State} (h : s.fastRuns = true) (f : t.flt = s.flt) (q : t.stopq = s.stopq) :
    s.fast t = .next t.alertUpdate := (State.fast_runs t h).trans (settle_kept f q)

/-- An event that finds room is the last of its FIFO, and nothing else changes but ESEQ (R485). -/
theorem pushEvent_fits {s : State} (e : Event) (h : s.rings.eventOut.length < 64) :
    s.pushEvent e = { s with rings := { s.rings with
      eseq := (s.rings.eseq + 1) % 65536
      eventOut := s.rings.eventOut ++ [{ e with epoch := s.ledger.epoch, eseq := s.rings.eseq }] } } := by
  simp [State.pushEvent, eventFifoDepth, h]

/-- A command that posts one event into a FIFO with room raises nothing at its end. -/
theorem settle_event {s x : State} (e : Event) (h : x.rings.eventOut.length < 64) (f : x.flt = s.flt) (q : x.stopq = s.stopq) :
    ∃ t, settle s (x.pushEvent e) = .next t ∧
      t.rings.eventOut = x.rings.eventOut ++ [{ e with epoch := x.ledger.epoch, eseq := x.rings.eseq }] ∧
      t = { x with rings := t.rings, smb := t.smb } := by
  rw [pushEvent_fits e h]
  exact ⟨_, settle_kept f q, rfl, rfl⟩

/-- A command that makes a soft raise: its source is pending, and all that a soft raise keeps stands as in the state it was made in. -/
theorem settle_raise {s x : State} {src : Nat} (obj : Nat) (h : s.Soft src) (r : x.flt.react = s.flt.react) (n : 8 < src) :
    ∃ t, settle s (x.raise src obj) = .next t ∧ t.isPending src = true ∧ SoftEnd x t := by
  obtain ⟨h3, h2, k3, k2⟩ := h
  have e : ∀ k, x.reactOf k = s.reactOf k := fun k => by simp [State.reactOf, r]
  have p := (State.raise_pending x src obj false (by simp [Nat.not_le.2 n])).1
  exact ⟨_, rfl, closing_pending_sources _ _ _ p,
    raise_end obj false (by rw [e, h3]) (by rw [e, h2]) (by rw [e, k3]) (by rw [e, k2])⟩

end Sys2Proof.Machine
end

section
/-! PROOF. AON power, PWR_OK and the stagger (R20, R21, R29, R31, R357, R370). -/

namespace Sys2Proof.Machine

/-! ### PWR_OK (R29, R357) -/

/-- Without a record in progress the fall of AON power finishes none. -/
theorem State.sealAtFall_idle {s : State} (h : s.stopq.active = false) : s.sealAtFall = s := by simp [State.sealAtFall, h]

/-- While PWR_OK is awaited nothing wakes the warden clock (R514). -/
theorem State.wakeWarden_waitPwr {s : State} (h : s.start.step = .waitPwr) : s.wakeWarden = s := by simp [State.wakeWarden, h]

/-- The state in which the warden learns that PWR_OK is low. -/
def State.pwrLow (s : State) : State := { s.wakeWarden with start := { s.start with pwrOk := false } }

@[simp] theorem State.pwrLow_keeps (s : State) :
    s.pwrLow.start = { s.start with pwrOk := false } ∧ s.pwrLow.stopq = s.stopq ∧ s.pwrLow.flt = s.flt ∧
    s.pwrLow.warden = s.warden ∧ s.pwrLow.cells = s.cells := by simp [State.pwrLow]

/-- PWR_OK falls while no record is in progress: a stop cause once a domain has started, else back to waiting. -/
theorem execPwrOkFall_idle {s : State} (a : s.start.aon = true) (p : s.start.pwrOk = true) (q : s.stopq.active = false) :
    execPwrOkFall s = settle s (if s.pwrLow.anyStarted then s.pwrLow.stopCause causePwr else s.pwrLow.backToWait) := by
  simp [execPwrOkFall, a, p, q, State.pwrLow]

theorem State.backToWait_of {s : State} (h : s.start.step = .stagger ∨ s.start.step = .aonUp ∨ s.start.step = .wardenBoot ∨
    s.start.step = .reconcile) :
    s.anyStarted = false ∧ s.backToWait = { s with start := { s.start with step := .waitPwr, reconciled := false } } := by
  rcases h with h | h | h | h <;> simp [State.anyStarted, State.backToWait, h]

theorem execPwrOkFall_waits {s : State} (a : s.start.aon = true) (p : s.start.pwrOk = true) (q : s.stopq.active = false)
    (h : s.start.step = .stagger ∨ s.start.step = .aonUp ∨ s.start.step = .wardenBoot ∨ s.start.step = .reconcile) :
    execPwrOkFall s =
      .next { s.pwrLow with start := { s.start with pwrOk := false, step := .waitPwr, reconciled := false } }.alertUpdate := by
  obtain ⟨n, b⟩ := State.backToWait_of (s := s.pwrLow) (by simpa using h)
  rw [execPwrOkFall_idle a p q, n, if_neg Bool.false_ne_true, b, settle_kept] <;> simp

/-- In READY the fall of PWR_OK opens a stop record with cause PWR. -/
theorem execPwrOkFall_ready {s : State} (a : s.start.aon = true) (p : s.start.pwrOk = true) (q : s.stopq.active = false)
    (r : s.start.ready = true) (h : s.start.step = .ready) :
    execPwrOkFall s = .next (s.pwrLow.stopLatch causePwr false).abandonAudits.alertUpdate := by
  have n : s.pwrLow.anyStarted = true := by simp [State.anyStarted, h]
  have c : s.pwrLow.stopCause causePwr = s.pwrLow.stopLatch causePwr false := by simp [State.stopCause, q, r]
  rw [execPwrOkFall_idle a p q, n, if_pos rfl, c, settle, closing_stop _ _ q]
  · simp [State.stopLatch]
  · simp [State.stopLatch]

/-- Settles O2: AON power and the stagger by their equations, PWR_OK by the warden's answer in each step of start-up. -/
theorem powerAndStagger : Obligations.PowerAndStagger := by
  unfold Obligations.PowerAndStagger
  refine ⟨fun s slot h => ?_, fun s a q => ?_, fun s a p w => ?_, fun s a p q h => ?_, fun s a p q r h => ?_, fun s h r => ?_,
    fun s h r => ?_, fun s h => ?_⟩
  · show execAonPowerUp slot s = _
    simp [execAonPowerUp, h]
  · show execAonPowerFall s = _
    simp [execAonPowerFall, a, State.sealAtFall_idle q]
  · show execPwrOkRise s = _
    simp [execPwrOkRise, a, p, w, State.wakeWarden_waitPwr w]
  · exact ⟨_, execPwrOkFall_waits a p q h, by simp⟩
  · exact ⟨_, execPwrOkFall_ready a p q r h, by simp [State.stopLatch, causePwr]⟩
  · show execStaggerEnd s = _
    simp [execStaggerEnd, h, r]
  · refine ⟨_, (if_neg fun n => n h : execStaggerEnd s = _), ?_⟩
    simp [r]
  · show execAonUpEnd s = _
    simp [execAonUpEnd, h]

end Sys2Proof.Machine
end

section
/-! PROOF. Hint words, counter records, and what ends hints, boosts and freezes (R38 to R40, R249 to R276). -/

namespace Sys2Proof.Machine

/-! ### Commands that change one tile (R38, R39, R40, R272) -/

/-- One tile is as given, and besides only what ALERT_N follows has changed. -/
def State.TileOnly (s t : State) (i : Nat) (x : Tile) : Prop :=
  t = { s with tiles := t.tiles, smb := t.smb } ∧ t.tile i = x ∧ ∀ j, j ≠ i → t.tile j = s.tile j

theorem State.fast_updTile {s : State} (h : s.fastRuns = true) (i : Nat) (f : Tile → Tile) :
    ∃ t, s.fast (s.updTile i f) = .next t ∧ s.TileOnly t i (f (s.tile i)) :=
  ⟨_, State.fast_kept h rfl rfl, rfl, by simp, fun j k => by simp [k]⟩

/-- A free port takes the word: into the drop of R491, into the FIFO, or at the port of a full one (R39). -/
theorem execHintWord_free {s : State} (i : TileIx) (w : BitVec 64) (last : Bool) (h : s.fastRuns = true) (k : (s.tile i).held = none) :
    ∃ t, execHintWord i w last s = .next t ∧ s.TileOnly t i
      (if (s.tile i).dropping = true then { s.tile i with dropping := !last }
        else if 8 ≤ (s.tile i).fifo.length then { s.tile i with held := some (w, last) }
        else { s.tile i with fifo := (s.tile i).fifo ++ [(w, last)] }) := by
  have push := State.fast_updTile h i (Tile.pushHint w last)
  have hold := State.fast_updTile h i fun x => { x with held := some (w, last) }
  unfold execHintWord
  by_cases d : (s.tile i).dropping = true
  · simpa [k, d, Tile.pushHint] using push
  by_cases l : 8 ≤ (s.tile i).fifo.length
  · simpa [k, d, l, hintFifoDepth] using hold
  · simpa [k, d, l, hintFifoDepth, Tile.pushHint] using push

theorem execHintPortRoom_held {s : State} (i : TileIx) {w : BitVec 64} {last : Bool} (h : s.fastRuns = true)
    (k : (s.tile i).held = some (w, last)) (l : (s.tile i).fifo.length < 8) (d : (s.tile i).dropping = false) :
    ∃ t, execHintPortRoom i s = .next t ∧
      s.TileOnly t i { s.tile i with held := none, fifo := (s.tile i).fifo ++ [(w, last)] } := by
  have e : execHintPortRoom i s = s.fast (s.updTile i fun x => ({ x with held := none }).pushHint w last) := by
    simp only [execHintPortRoom, k, hintFifoDepth, l, decide_true, Bool.true_or, if_true]
  have p : ({ s.tile i with held := none } : Tile).pushHint w last =
      { s.tile i with held := none, fifo := (s.tile i).fifo ++ [(w, last)] } := by simp [Tile.pushHint, d]
  rw [e, ← p]
  exact State.fast_updTile h i _

theorem execCounterRecord_taken {s : State} (i : TileIx) (r : BitVec 512) (h : s.fastRuns = true) (c : s.ledger.recCut = false)
    (u : (s.tile i).unpowered = false) :
    ∃ t, execCounterRecord i r s = .next t ∧ s.TileOnly t i { s.tile i with arrived := some r } := by
  simpa [execCounterRecord, c, u] using State.fast_updTile h i fun x => { x with arrived := some r }

theorem execHintEnd_ended {s : State} (i : TileIx) {x : Hint} (h : s.fastRuns = true) (k : (s.tile i).hint = some x)
    (e : x.st = .ended) (n : x.expired = false) :
    ∃ t, execHintEnd i s = .next t ∧ s.TileOnly t i { s.tile i with hint := none } := by
  simpa [execHintEnd, k, e, n] using State.fast_updTile h i fun x => { x with hint := none }

/-! ### The cut-off and the estimator (R40, R254, R255) -/

theorem State.cutoff1600_tile (s : State) {i : Nat} (h : i < 1024) : s.cutoff1600.tile i = s.estimate i := by
  simp only [State.cutoff1600, State.tile]
  exact Tab.get_ofFn _ _ _ _ (List.mem_range.2 h)

theorem execLateRecordCutoff_open {s : State} (h : s.fastRuns = true) (c : s.ledger.recCut = false) (r : s.ledger.running = true) :
    execLateRecordCutoff s = .next s.cutoff1600.alertUpdate := by
  rw [execLateRecordCutoff, if_neg (by simp [c, r])]
  exact State.fast_kept h rfl rfl

theorem State.estimate_late {s : State} {i : Nat} (u : (s.tile i).unpowered = false) (a : (s.tile i).arrived = none) :
    (s.estimate i).lastRec = (s.tile i).lastRec ∧ (s.estimate i).lateNew = true ∧
      (s.estimate i).lateRun = incSat 65535 (s.tile i).lateRun := by
  simp [State.estimate, u, a]

theorem State.estimate_arrived {s : State} {i : Nat} {r : BitVec 512} (u : (s.tile i).unpowered = false)
    (a : (s.tile i).arrived = some r) :
    (s.estimate i).lastRec = r ∧ (s.estimate i).lateNew = false ∧ (s.estimate i).lateRun = 0 ∧ (s.estimate i).silent = false ∧
      (s.estimate i).pNew = (if recSaturated r = true then s.otp.pTileMax else min (s.pDyn r + s.pStat i) s.otp.pTileMax) := by
  simp [State.estimate, u, a]

/-! ### Sources raised once (R254, R259) -/

theorem execTileSilent_raises {s : State} (i : TileIx) (h : s.fastRuns = true) (l : 16 ≤ (s.tile i).lateRun)
    (q : (s.tile i).silent = false) (soft : s.Soft 25) :
    ∃ t, execTileSilent i s = .next t ∧ t.isPending 25 = true ∧ (t.tile i).silent = true ∧ t.cells = s.cells ∧ t.doms = s.doms := by
  obtain ⟨t, e, p, k⟩ := settle_raise (x := s.updTile i fun x => { x with silent := true }) i soft rfl (by decide)
  refine ⟨t, ?_, p, ?_, k.cells, k.doms⟩
  · rw [execTileSilent, if_pos ⟨l, q⟩, State.fast_runs _ h, e]
  · simp [State.tile, k.tiles, State.updTile]

theorem execEstResid_raises {s : State} (d : DomIx) (h : s.fastRuns = true) (l : 16 ≤ (s.acct d).clampRun)
    (q : (s.acct d).resRaised = false) (soft : s.Soft 26) :
    ∃ t, execEstResid d s = .next t ∧ t.isPending 26 = true ∧ (t.acct d).resRaised = true ∧ t.cells = s.cells ∧ t.doms = s.doms := by
  obtain ⟨t, e, p, k⟩ := settle_raise (x := s.updAcct d fun a => { a with resRaised := true }) d soft rfl (by decide)
  refine ⟨t, ?_, p, ?_, k.cells, k.doms⟩
  · rw [execEstResid, if_pos ⟨l, q⟩, State.fast_runs _ h, e]
  · simp [State.acct, k.accts, State.updAcct]

/-! ### What ends a hint, a boost and a freeze (R249, R272, R275) -/

/-- The state of an expired hint's tile and count, before its event. -/
def State.hintCounted (s : State) (i : Nat) : State :=
  { s.updTile i fun x => { x with hint := none } with ledger := { s.ledger with expired := incSat 255 s.ledger.expired } }

theorem State.hintCounted_hint (s : State) (i : Nat) : ((s.hintCounted i).tile i).hint = none := by
  simp [State.hintCounted, State.tile, State.updTile]

theorem execHintExpired_counts {s : State} (i : TileIx) {x : Hint} (h : s.fastRuns = true) (k : (s.tile i).hint = some x)
    (e : x.expired = true) :
    execHintExpired i s = settle s ((s.hintCounted i).pushEvent (evHintExpired i x.tag x.s)) := by
  rw [← State.fast_runs _ h]
  simp [execHintExpired, k, e, State.hintCounted]

theorem execVinBoostEnd_due {s : State} (h : s.fastRuns = true) (b : s.ledger.vinBoost = true) (e : s.ledger.boostEnd = some 0) :
    execVinBoostEnd s = .next { s with
      ledger := { s.ledger with vinBoost := false, boostEnd := none }
      avs := { s.avs with boost := false } }.alertUpdate := by
  rw [execVinBoostEnd, if_pos ⟨b, e⟩]
  exact State.fast_kept h rfl rfl

theorem execFreezeTimeout_due {s : State} (h : s.fastRuns = true) (f : s.ledger.frozen = true) (n : 512 ≤ s.ledger.freezeN) :
    execFreezeTimeout s =
      .next { s with ledger := { s.ledger with frozen := false, freezeTo := true, views := [], viewRecs := [] } }.alertUpdate := by
  rw [execFreezeTimeout, if_pos (by simp [f, n])]
  exact State.fast_kept h rfl rfl

/-- Settles O39: a command of a tile changes that tile alone, the two raises are soft, and what ends by its time changes the ledger and
posts at most one event. -/
theorem hintsAndRecords : Obligations.HintsAndRecords := by
  unfold Obligations.HintsAndRecords
  refine ⟨fun s i w last h k => execHintWord_free i w last h k, fun s i w last k => ?_,
    fun s i w last h k l d => execHintPortRoom_held i h k l d, fun s i r h c u => execCounterRecord_taken i r h c u,
    fun s i r h => ?_, fun s h c r => ?_, fun s i u a => State.estimate_late u a, fun s i r u a => State.estimate_arrived u a,
    fun s i h l q soft => execTileSilent_raises i h l q soft, fun s d h l q soft => execEstResid_raises d h l q soft,
    fun s i x h k e r => ?_, fun s i x h k e n => execHintEnd_ended i h k e n, fun s h b e => ?_, fun s h f n => ?_, fun s h => ?_⟩
  · show execHintWord i w last s = _
    simp [execHintWord, Option.isSome_iff_ne_none.2 k]
  · show execCounterRecord i r s = _
    rcases h with h | h <;> simp [execCounterRecord, h]
  · exact ⟨_, execLateRecordCutoff_open h c r, rfl, rfl, fun i k => (State.alertUpdate_tile _ i).trans (s.cutoff1600_tile k), rfl, rfl, rfl⟩
  · obtain ⟨t, settles, event, rest⟩ := settle_event (s := s) (x := s.hintCounted i) (evHintExpired i x.tag x.s) r rfl rfl
    refine ⟨t, (execHintExpired_counts i h k e).trans settles, ?_⟩
    have tile : t.tile i = (s.hintCounted i).tile i := by rw [rest]; rfl
    exact ⟨tile ▸ s.hintCounted_hint i, by rw [rest]; rfl, event, by rw [rest]; rfl, by rw [rest]; rfl⟩
  · exact ⟨_, execVinBoostEnd_due h b e, rfl, rfl⟩
  · exact ⟨_, execFreezeTimeout_due h f n, rfl⟩
  · show execFreezeTimeout s = _
    rcases h with f | n
    · simp [execFreezeTimeout, f]
    · simp [execFreezeTimeout, Nat.not_le.2 n]

end Sys2Proof.Machine
end

section
/-! PROOF. The pace link's own events (R35, R316 to R318, R320, R321, R326, R482). -/

namespace Sys2Proof.Machine

/-! ### The largest held entry (R326) -/

/-- Of the best entry so far and the next one, the larger, the earlier of equals. -/
def largerEntry (b : Option PaceEntry) (e : PaceEntry) : Option PaceEntry :=
  match b with
  | none => some e
  | some x => if x.q < e.q then some e else some x

theorem largestEntry_eq_foldl (l : List PaceEntry) : largestEntry l = l.foldl largerEntry none := rfl

theorem largerEntry_spec (b : Option PaceEntry) (e : PaceEntry) :
    ∃ m, largerEntry b e = some m ∧ (m = e ∨ b = some m) ∧ e.q ≤ m.q ∧ ∀ y, b = some y → y.q ≤ m.q := by
  cases b with
  | none => exact ⟨e, rfl, .inl rfl, Nat.le_refl _, by simp⟩
  | some x =>
    by_cases h : x.q < e.q
    · exact ⟨e, if_pos h, .inl rfl, Nat.le_refl _, by simpa using Nat.le_of_lt h⟩
    · exact ⟨x, if_neg h, .inr rfl, Nat.le_of_not_lt h, by simp⟩

theorem foldl_largerEntry {e : PaceEntry} (l : List PaceEntry) (b : Option PaceEntry) (h : l.foldl largerEntry b = some e) :
    (e ∈ l ∨ b = some e) ∧ (∀ x ∈ l, x.q ≤ e.q) ∧ ∀ y, b = some y → y.q ≤ e.q := by
  induction l generalizing b with
  | nil => simp_all
  | cons a l ih =>
    obtain ⟨m, hm, from_, ha, hb⟩ := largerEntry_spec b a
    rw [List.foldl_cons, hm] at h
    obtain ⟨mem, rest, first⟩ := ih (some m) h
    have me : m.q ≤ e.q := first m rfl
    refine ⟨?_, List.forall_mem_cons.2 ⟨Nat.le_trans ha me, rest⟩, fun y hy => Nat.le_trans (hb y hy) me⟩
    rcases mem with mem | eq
    · exact .inl (List.mem_cons_of_mem a mem)
    · obtain rfl := Option.some.inj eq
      exact from_.imp (fun eq => List.mem_cons.2 (.inl eq)) id

theorem largestEntry_spec {l : List PaceEntry} {e : PaceEntry} (h : largestEntry l = some e) : e ∈ l ∧ ∀ x ∈ l, x.q ≤ e.q := by
  rw [largestEntry_eq_foldl] at h
  obtain ⟨mem, le, -⟩ := foldl_largerEntry l none h
  exact ⟨mem.resolve_right (by simp), le⟩

/-! ### Commands that change the pace link alone (R316 to R318, R482) -/

/-- A command whose end finds only the pace link changed changes besides only what ALERT_N follows. -/
theorem next_of_pace {s : State} {p : Pace} {o : Out} (e : o = settle s { s with pace := p }) :
    ∃ t, o = .next t ∧ t = { s with pace := p, smb := t.smb } :=
  ⟨_, e.trans (settle_kept rfl rfl), rfl⟩

theorem execPaceDiscovery_begins {s : State} (h : s.paceTakesPart = true) (k : s.pace.lock = true) (u : s.pace.st ≠ .up) :
    execPaceDiscovery s = settle s s.paceDiscover := by
  simp [execPaceDiscovery, h, k, u]

theorem execPaceDiscoveryRetry_begins {s : State} (h : s.paceTakesPart = true) (d : s.pace.st = .discovering) :
    execPaceDiscoveryRetry s = settle s s.paceDiscover := by
  simp [execPaceDiscoveryRetry, h, d]

theorem execPaceLockGain_begins {s : State} (h : s.paceTakesPart = true) :
    execPaceLockGain s = settle s { s with pace := { s.pace with lock := true } }.paceDiscover := if_pos h

theorem execPaceLockGain_apart {s : State} (h : s.paceTakesPart = false) :
    execPaceLockGain s = settle s { s with pace := { s.pace with lock := true } } := if_neg (by simpa using h)

theorem execPaceLiveSend_leads {s : State} (o : s.paceOn = true) (u : s.pace.st = .up) (d : s.pace.leader = true) :
    execPaceLiveSend s = settle s { s with pace := { s.pace with liveAge := 0, tx := .live s.pace.pos :: s.pace.tx } } := by
  simp [execPaceLiveSend, o, u, d, State.paceSend]

theorem State.paceResend_none {s : State} {relay : Bool} (h : (if relay then s.pace.relay else s.pace.bcast) = none) :
    s.paceResend relay = s := by
  simp [State.paceResend, h]

theorem State.paceResend_own {s : State} {q seq n : Nat} (h : s.pace.bcast = some (q, seq, n)) :
    s.paceResend false = { s with pace := { s.pace with
      bcast := some (q, seq, 0)
      tx := .quota s.pace.pos false s.paceGroup q seq :: s.pace.tx } } := by
  simp [State.paceResend, h, State.paceSend]

theorem State.paceResend_relayed {s : State} {q seq n : Nat} (h : s.pace.relay = some (q, seq, n)) :
    s.paceResend true = { s with pace := { s.pace with
      relay := some (q, seq, 0)
      entries := takeQuota s.pace.entries s.pace.pos true q seq
      tx := .quota s.pace.pos true s.paceGroup q seq :: s.pace.tx } } := by
  simp [State.paceResend, h, State.paceSend]

theorem execPaceRefresh_up {s : State} (o : s.paceOn = true) (u : s.pace.st = .up) (g : s.paceGroup ≠ 0) :
    execPaceRefresh s = settle s ((if s.paceSendEn then s.paceResend false else s).paceResend true) := by
  simp [execPaceRefresh, o, u, g]

/-- With SEND_EN and no relayed QUOTA in force a refresh sends the own one. -/
theorem execPaceRefresh_own {s : State} {q seq n : Nat} (o : s.paceOn = true) (u : s.pace.st = .up) (g : s.paceGroup ≠ 0)
    (own : s.pace.bcast = some (q, seq, n)) (none_ : s.pace.relay = none) (en : s.paceSendEn = true) :
    execPaceRefresh s = settle s { s with pace := { s.pace with
      bcast := some (q, seq, 0)
      tx := .quota s.pace.pos false s.paceGroup q seq :: s.pace.tx } } := by
  rw [execPaceRefresh_up o u g, if_pos en, State.paceResend_own own, State.paceResend_none (by simpa using none_)]

/-- Without an own QUOTA to send a refresh sends the relayed one. -/
theorem execPaceRefresh_relayed {s : State} {q seq n : Nat} (o : s.paceOn = true) (u : s.pace.st = .up) (g : s.paceGroup ≠ 0)
    (relayed : s.pace.relay = some (q, seq, n)) (noOwn : s.pace.bcast = none ∨ s.paceSendEn = false) :
    execPaceRefresh s = settle s { s with pace := { s.pace with
      relay := some (q, seq, 0)
      entries := takeQuota s.pace.entries s.pace.pos true q seq
      tx := .quota s.pace.pos true s.paceGroup q seq :: s.pace.tx } } := by
  have first : (if s.paceSendEn then s.paceResend false else s) = s := by
    rcases noOwn with own | en
    · rw [State.paceResend_none (s := s) (relay := false) own, ite_self]
    · rw [en, if_neg Bool.false_ne_true]
  rw [execPaceRefresh_up o u g, first, State.paceResend_relayed relayed]

/-! ### Loss of the ring (R317) -/

theorem State.paceDown_pace (s : State) : s.paceDown.pace = { s.pace with
    st := .down
    leader := false
    sentSurvey := false
    downCnt := incSat 255 s.pace.downCnt } := by
  simp [State.paceDown]

/-- A ring declared down, with PACE_DOWN free of reactions B and C: the cells, the domains and the tiles keep what they hold. -/
theorem settle_paceDown {s x : State} (soft : s.Soft 31) (r : x.flt.react = s.flt.react) :
    ∃ t, settle s (x.paceDown.raise 31 0) = .next t ∧ t.isPending 31 = true ∧ t.pace = x.paceDown.pace ∧
      t.cells = x.cells ∧ t.doms = x.doms ∧ t.tiles = x.tiles := by
  obtain ⟨t, e, p, k⟩ := settle_raise (x := x.paceDown) 0 soft (by simpa using r) (by decide)
  exact ⟨t, e, p, k.pace, by simp [k.cells], by simp [k.doms], by simp [k.tiles]⟩

theorem execPaceLockLoss_up {s : State} (o : s.paceOn = true) (u : s.pace.st = .up) :
    execPaceLockLoss s = settle s ({ s with pace := { s.pace with lock := false } }.paceDown.raise 31 0) := by
  simp [execPaceLockLoss, o, u]

theorem execPaceLockLoss_notUp {s : State} (h : s.paceOn = false ∨ s.pace.st ≠ .up) :
    execPaceLockLoss s = settle s { s with pace := { s.pace with lock := false } } := by
  rcases h with h | h <;> simp [execPaceLockLoss, h]

theorem execPaceSilence_up {s : State} (o : s.paceOn = true) (u : s.pace.st = .up) :
    execPaceSilence s = settle s (s.paceDown.raise 31 0) := by
  simp [execPaceSilence, o, u]

/-! ### Solo and expiry (R35, R318, R321, R326) -/

theorem execPaceSolo_silent {s : State} (o : s.paceOn = true) (r : s.start.ready = true) (l : s.pace.lock = false)
    (n : s.pace.st ≠ .solo) (u : s.pace.st ≠ .up) :
    execPaceSolo s =
      settle s ({ s with pace := { s.pace with st := .solo, leader := false } }.pushEvent (evPace 0 0 0 false false)) := by
  simp [execPaceSolo, o, r, l, n, u]

/-- The pace link without the entries that an expiry names, and with the expiry counted. -/
def State.paceExpired (s : State) (carried : Bool) (origin : Nat) (relay : Bool) : State :=
  { s with pace := { s.pace with
    entries := s.pace.entries.filter fun e => !(e.expiring carried origin relay)
    expireCnt := incSat 255 s.pace.expireCnt } }

theorem PaceEntry.is_iff (e : PaceEntry) (o : Nat) (r : Bool) : e.is o r = true ↔ e.carried = false ∧ e.origin = o ∧ e.relay = r := by
  simp [PaceEntry.is, and_assoc]

theorem State.mem_paceExpired (s : State) (carried : Bool) (o : Nat) (r : Bool) (x : PaceEntry) :
    x ∈ (s.paceExpired carried o r).pace.entries ↔ x ∈ s.pace.entries ∧ (if carried = true then x.carried = false
      else ¬ (x.carried = false ∧ x.origin = o ∧ x.relay = r)) := by
  cases carried
  · simp only [State.paceExpired, PaceEntry.expiring, List.mem_filter, Bool.false_eq_true, if_false, Bool.not_eq_true',
      Bool.eq_false_iff (b := PaceEntry.is _ _ _), ne_eq, PaceEntry.is_iff]
  · simp [State.paceExpired, PaceEntry.expiring]

theorem execPaceEntryExpire_found {s : State} {carried : Bool} {o : BitVec 6} {r : Bool} {e : PaceEntry}
    (h : s.pace.entries.find? (·.expiring carried o.toNat r) = some e) :
    execPaceEntryExpire carried o r s =
      settle s ((s.paceExpired carried o.toNat r).pushEvent (evPace 4 e.origin e.q e.relay e.carried)) := by
  simp only [execPaceEntryExpire, h]
  rfl

/-- Settles O41: each command is the end of one change of the pace link, with one event or the soft raise of PACE_DOWN where its rule posts
one; the largest entry comes of an induction over the held entries. -/
theorem paceEvents : Obligations.PaceEvents := by
  unfold Obligations.PaceEvents
  refine ⟨?_, fun s h => next_of_pace (execPaceLockGain_apart h), fun l e h => ?_,
    fun s o u d => next_of_pace (execPaceLiveSend_leads o u d), fun s c o u soft h => ?_,
    fun s h => next_of_pace (execPaceLockLoss_notUp h), fun s o r l n u room => ?_, fun s h => ⟨?_, by simp [State.qSympOf, h]⟩,
    fun s carried o r e h room => ?_, fun s q seq n o u g =>
      ⟨fun own none_ en => next_of_pace (execPaceRefresh_own o u g own none_ en),
        fun relayed noOwn => next_of_pace (execPaceRefresh_relayed o u g relayed noOwn)⟩⟩
  · rintro s p h rfl
    exact ⟨fun l u => next_of_pace (execPaceDiscovery_begins h l u), fun d => next_of_pace (execPaceDiscoveryRetry_begins h d),
      next_of_pace (execPaceLockGain_begins h)⟩
  · obtain ⟨mem, le⟩ := largestEntry_spec h
    exact ⟨mem, le, by simp [carryLargest, h]⟩
  · rcases h with rfl | rfl
    · obtain ⟨t, e, p, pace, keeps⟩ := settle_paceDown (x := { s with pace := { s.pace with lock := false } }) soft rfl
      exact ⟨t, (execPaceLockLoss_up o u).trans e, p, by simpa [State.paceDown_pace, incSat] using pace, keeps⟩
    · obtain ⟨t, e, p, pace, keeps⟩ := settle_paceDown (x := s) soft rfl
      have ne : (Instr.paceSilence != Instr.paceLockLoss) = true := rfl
      exact ⟨t, (execPaceSilence_up o u).trans e, p, by simpa [State.paceDown_pace, incSat, ne] using pace, keeps⟩
  · obtain ⟨t, settles, event, rest⟩ := settle_event (s := s)
      (x := { s with pace := { s.pace with st := .solo, leader := false } }) (evPace 0 0 0 false false) room rfl rfl
    exact ⟨t, (execPaceSolo_silent o r l n u).trans settles, event, rest⟩
  · show execPaceSolo s = _
    simp [execPaceSolo, h]
  · obtain ⟨t, settles, event, rest⟩ := settle_event (s := s) (x := s.paceExpired carried o.toNat r)
      (evPace 4 e.origin e.q e.relay e.carried) room rfl rfl
    refine ⟨t, (execPaceEntryExpire_found h).trans settles, event, ?_⟩
    have pace : t.pace = (s.paceExpired carried o.toNat r).pace := by rw [rest]
    rw [pace]
    exact ⟨s.mem_paceExpired carried o.toNat r, rest⟩

end Sys2Proof.Machine
end

section
/-! SUPPORT. A cell's own event, and what a droop crossing makes of a cell (R60, R61, R63, R70). -/

namespace Sys2Proof.Machine

theorem State.cellEvent_up {s : State} (i : CellIx) (f : Cell → Cell) (h : s.cellsUp = true) :
    s.cellEvent i f = .next (s.updCell i f) := if_pos h

/-- An event whose effect on the cell as it stands is that of another function. -/
theorem State.cellEvent_eq {s : State} {i : CellIx} {f g : Cell → Cell} (h : s.cellsUp = true) (e : f (s.cell i) = g (s.cell i)) :
    s.cellEvent i f = .next (s.updCell i g) := by
  rw [State.cellEvent_up i f h, State.updCell, e, State.updCell]

/-- An event puts into the cell what its function makes of the cell. -/
theorem State.cellEvent_puts {s : State} {i : CellIx} {f : Cell → Cell} {P : Cell → Prop} (h : s.cellsUp = true)
    (p : P (f (s.cell i))) : ∃ c, s.cellEvent i f = .next (s.updCell i fun _ => c) ∧ P c :=
  ⟨f (s.cell i), State.cellEvent_up i f h, p⟩

theorem State.cellEvent_keeps {s : State} {i : CellIx} {f : Cell → Cell} (h : s.cellsUp = true) (e : f (s.cell i) = s.cell i) :
    ∃ t, s.cellEvent i f = .next t ∧ t.cell i = s.cell i :=
  ⟨_, State.cellEvent_up i f h, (s.updCell_same i f).trans e⟩

/-- A disarmed droop comparator changes nothing (R63). -/
theorem droop_disarmed {c : Cell} (h : cellArm c = .disarmed) : droop c = c := if_pos h

/-- A droop crossing without charge is counted and brings back four phases (R61, R70). -/
theorem droop_uncharged {c : Cell} (h : cellArm c ≠ .disarmed) (r : c.rsvReady = false) :
    droop c = readd { c with win := { c.win with droopMax := max c.win.droopMax (min 31 (tDroop c)) } } := by
  simp [droop, h, readd, r]

/-- With charge it also fires the reserve (R60, R61). -/
theorem droop_charged {c : Cell} (h : cellArm c ≠ .disarmed) (r : c.rsvReady = true) :
    droop c = { readd c with
      rsvReady := false
      rsvFire := true
      rsvUv := c.rsvUv - 1200000
      win := { c.win with
        droopMax := max c.win.droopMax (min 31 (tDroop c))
        rsvCount := min 15 (c.win.rsvCount + 1) } } := by
  simp [droop, h, readd, r]

end Sys2Proof.Machine
end

section
/-! PROOF. One compensator cycle, one profile step and the reserve of a cell (R48 to R71). -/

namespace Sys2Proof.Machine

/-! ### The compensator cycle (R48, R51, R62, R70, R85) -/

/-- The compensator's output over one sample, before the anti-windup (R51). -/
def loopOut (code : Int) (c : Cell) : Int := c.u + c.k0 * -code + c.k1 * c.e1 + c.k2 * c.e2

theorem compensate_switching (code : Int) {c : Cell} (h : switching c = true) :
    compensate code c = { c with
      e1 := -code
      e2 := c.e1
      u := if dutyCode (dNom c + loopOut code c) = 0 ∨ dutyCode (dNom c + loopOut code c) = 4032
        then 4096 * (dutyCode (dNom c + loopOut code c) : Int) - dNom c else loopOut code c
      duty := c.dutyNext
      dutyNext := dutyCode (dNom c + loopOut code c)
      dither := (c.dither + 1) % 4
      pulse := if c.phases = .burst ∧ !c.burstOn then 0 else pulseSteps c.dutyNext ((c.dither + 1) % 4) } := if_pos h

theorem compensate_idle (code : Int) {c : Cell} (h : switching c = false) :
    compensate code c = { c with e1 := -code, e2 := c.e1, pulse := 0 } := if_neg (by simp [h])

/-- Whether or not it forms a duty, the compensator shifts the error line and leaves all but its own pipe alone. -/
theorem compensate_keeps (code : Int) (c : Cell) :
    (compensate code c).e1 = -code ∧ (compensate code c).e2 = c.e1 ∧ (compensate code c).p = c.p ∧ (compensate code c).v = c.v ∧
    (compensate code c).a = c.a ∧ (compensate code c).mode = c.mode ∧ (compensate code c).sampleCode = c.sampleCode ∧
    (compensate code c).rsvUv = c.rsvUv ∧ (compensate code c).bleedHist = c.bleedHist ∧
    (compensate code c).bleedOn = c.bleedOn ∧ (compensate code c).holdCyc = c.holdCyc := by
  unfold compensate
  dsimp only
  split <;> exact ⟨rfl, rfl, rfl, rfl, rfl, rfl, rfl, rfl, rfl, rfl, rfl⟩

/-- The phases return where a sample or a peak limit asks for it, in RUN and HOLD (R70). -/
def readdDue (due : Bool) (c : Cell) : Cell := if due && (c.mode == .run || c.mode == .hold) then readd c else c

/-- One more cycle of a HOLD (R85). -/
def countHold (c : Cell) : Cell := if c.mode = .hold then { c with holdCyc := c.holdCyc + 1 } else c

theorem l0Step_eq (out : Int) (lim : Nat) (c : Cell) :
    l0Step out lim c = countHold (pumpStep (bleedStep out (readdDue (decide (windowCode out ≤ -32) || decide (lim ≠ 0))
      (compensate (windowCode out) (sampleWin (windowCode out) c))))) := rfl

theorem readdDue_keeps (due : Bool) (c : Cell) :
    (readdDue due c).p = c.p ∧ (readdDue due c).v = c.v ∧ (readdDue due c).a = c.a ∧ (readdDue due c).mode = c.mode ∧
    (readdDue due c).sampleCode = c.sampleCode ∧ (readdDue due c).e1 = c.e1 ∧ (readdDue due c).e2 = c.e2 ∧
    (readdDue due c).u = c.u ∧ (readdDue due c).duty = c.duty ∧ (readdDue due c).dutyNext = c.dutyNext ∧
    (readdDue due c).dither = c.dither ∧ (readdDue due c).pulse = c.pulse ∧ (readdDue due c).rsvUv = c.rsvUv ∧
    (readdDue due c).bleedHist = c.bleedHist ∧ (readdDue due c).bleedOn = c.bleedOn ∧ (readdDue due c).holdCyc = c.holdCyc := by
  unfold readdDue
  split <;> exact ⟨rfl, rfl, rfl, rfl, rfl, rfl, rfl, rfl, rfl, rfl, rfl, rfl, rfl, rfl, rfl, rfl⟩

theorem readdDue_four {due : Bool} {c : Cell} (d : due = true) (m : c.mode = .run ∨ c.mode = .hold) :
    (readdDue due c).phases = .four := by
  rcases m with m | m <;> simp [readdDue, d, m, readd]

theorem countHold_keeps (c : Cell) :
    (countHold c).p = c.p ∧ (countHold c).v = c.v ∧ (countHold c).a = c.a ∧ (countHold c).mode = c.mode ∧
    (countHold c).sampleCode = c.sampleCode ∧ (countHold c).e1 = c.e1 ∧ (countHold c).e2 = c.e2 ∧ (countHold c).u = c.u ∧
    (countHold c).duty = c.duty ∧ (countHold c).dutyNext = c.dutyNext ∧ (countHold c).dither = c.dither ∧
    (countHold c).pulse = c.pulse ∧ (countHold c).rsvUv = c.rsvUv ∧ (countHold c).bleedHist = c.bleedHist ∧
    (countHold c).bleedSpent = c.bleedSpent ∧ (countHold c).bleedOn = c.bleedOn ∧ (countHold c).ovr = c.ovr ∧
    (countHold c).phases = c.phases := by
  unfold countHold
  split <;> exact ⟨rfl, rfl, rfl, rfl, rfl, rfl, rfl, rfl, rfl, rfl, rfl, rfl, rfl, rfl, rfl, rfl, rfl, rfl⟩

theorem countHold_hold {c : Cell} (h : c.mode = .hold) : (countHold c).holdCyc = c.holdCyc + 1 := by
  simp [countHold, h]

/-- What every cycle does to a cell, whatever its state (R49, R60, R62, R85). -/
theorem l0Step_always (out : Int) (lim : Nat) (c : Cell) :
    (l0Step out lim c).p = c.p ∧ (l0Step out lim c).v = c.v ∧ (l0Step out lim c).a = c.a ∧ (l0Step out lim c).mode = c.mode ∧
    (l0Step out lim c).sampleCode = windowCode out ∧ (l0Step out lim c).e1 = -windowCode out ∧ (l0Step out lim c).e2 = c.e1 ∧
    (l0Step out lim c).rsvUv = min 2400000 (c.rsvUv + 18750) ∧
    (l0Step out lim c).bleedHist = (c.bleedHist <<< 1) ||| (if c.bleedOn then 1 else 0) := by
  simp [l0Step_eq, countHold_keeps, readdDue_keeps, compensate_keeps, pumpStep, bleedStep, bleedGate, sampleWin]

/-- The bleed's budget and gate at the end of a cycle (R62). -/
theorem l0Step_bleed (out : Int) (lim : Nat) (c : Cell) :
    (l0Step out lim c).bleedSpent = decide (cyclesOn (l0Step out lim c).bleedHist ≥ 32) ∧
    (l0Step out lim c).bleedOn = ((l0Step out lim c).ovr && !(l0Step out lim c).bleedSpent) := by
  simp only [l0Step_eq, countHold_keeps]
  exact ⟨rfl, rfl⟩

theorem l0Step_hold (out : Int) (lim : Nat) {c : Cell} (h : c.mode = .hold) : (l0Step out lim c).holdCyc = c.holdCyc + 1 := by
  rw [l0Step_eq, countHold_hold] <;>
    simp [readdDue_keeps, compensate_keeps, pumpStep, bleedStep, bleedGate, sampleWin, h]

theorem l0Step_four {out : Int} {lim : Nat} {c : Cell} (m : c.mode = .run ∨ c.mode = .hold) (d : windowCode out ≤ -32 ∨ lim ≠ 0) :
    (l0Step out lim c).phases = .four := by
  have four := readdDue_four (due := decide (windowCode out ≤ -32) || decide (lim ≠ 0)) (by simpa using d)
    (c := compensate (windowCode out) (sampleWin (windowCode out) c)) (by simpa [compensate_keeps, sampleWin] using m)
  simpa [l0Step_eq, countHold_keeps, pumpStep, bleedStep, bleedGate] using four

/-- The duty pipe after a cycle is what the compensator made of it. -/
theorem l0Step_pipe (out : Int) (lim : Nat) (c : Cell) :
    (l0Step out lim c).duty = (compensate (windowCode out) (sampleWin (windowCode out) c)).duty ∧
    (l0Step out lim c).dutyNext = (compensate (windowCode out) (sampleWin (windowCode out) c)).dutyNext ∧
    (l0Step out lim c).dither = (compensate (windowCode out) (sampleWin (windowCode out) c)).dither ∧
    (l0Step out lim c).u = (compensate (windowCode out) (sampleWin (windowCode out) c)).u ∧
    (l0Step out lim c).pulse = (compensate (windowCode out) (sampleWin (windowCode out) c)).pulse := by
  simp [l0Step_eq, countHold_keeps, readdDue_keeps, pumpStep, bleedStep, bleedGate]

/-- A switching cell's duty moves up its pipe and a new one is formed; without clipping the output is kept as it is (R48, R51). -/
theorem l0Step_switching (out : Int) (lim : Nat) {c : Cell} (h : switching c = true) :
    (l0Step out lim c).duty = c.dutyNext ∧ (l0Step out lim c).dither = (c.dither + 1) % 4 ∧
    (l0Step out lim c).dutyNext = dutyCode (dNom c + loopOut (windowCode out) c) ∧
    (0 < (l0Step out lim c).dutyNext → (l0Step out lim c).dutyNext < 4032 → (l0Step out lim c).u = loopOut (windowCode out) c) ∧
    (l0Step out lim c).pulse =
      if c.phases = .burst ∧ c.burstOn = false then 0 else pulseSteps c.dutyNext ((c.dither + 1) % 4) := by
  obtain ⟨duty, dutyNext, dither, u, pulse⟩ := l0Step_pipe out lim c
  rw [compensate_switching (windowCode out) (c := sampleWin (windowCode out) c) h] at duty dutyNext dither u pulse
  refine ⟨duty, dither, dutyNext, fun lo hi => ?_, by simpa [sampleWin] using pulse⟩
  rw [dutyNext] at lo hi
  exact u.trans (if_neg (not_or.2 ⟨Nat.ne_of_gt lo, Nat.ne_of_lt hi⟩))

theorem l0Step_idle (out : Int) (lim : Nat) {c : Cell} (h : switching c = false) :
    (l0Step out lim c).duty = c.duty ∧ (l0Step out lim c).dutyNext = c.dutyNext ∧ (l0Step out lim c).u = c.u ∧
    (l0Step out lim c).pulse = 0 := by
  obtain ⟨duty, dutyNext, -, u, pulse⟩ := l0Step_pipe out lim c
  rw [compensate_idle (windowCode out) (c := sampleWin (windowCode out) c) h] at duty dutyNext u pulse
  exact ⟨duty, dutyNext, u, pulse⟩

/-! ### The profile step (R54, R57, R58) -/

theorem generate_keeps (c : Cell) :
    (generate c).trim = c.trim ∧ (generate c).trimNext = c.trimNext ∧ (generate c).cfg = c.cfg ∧
    (generate c).cfgNext = c.cfgNext ∧ (generate c).mode = c.mode := by
  unfold generate
  dsimp only
  split
  · split <;> exact ⟨rfl, rfl, rfl, rfl, rfl⟩
  · exact ⟨rfl, rfl, rfl, rfl, rfl⟩

/-- Position, velocity and acceleration of a motion as they stand in a cell. -/
def Motion.parts (m : Motion) : Int × Int × Int := (m.p, m.v, m.a)

/-- With set-up limits that let it move, a running generator takes one profile step toward the target. -/
theorem generate_motion {c : Cell} (g : generating c = true) (v : c.cfg.vMax ≠ 0) (a : c.cfg.aMax ≠ 0) (j : c.cfg.jMax ≠ 0) :
    { p := (generate c).p, v := (generate c).v, a := (generate c).a : Motion } =
      profileStep (motionLimits c.cfg.vMax c.cfg.aMax c.cfg.jMax) (cellTarget c) { p := c.p, v := c.v, a := c.a } := by
  rw [generate, if_pos (by simp [g, v, a, j])]
  dsimp only
  split <;> rfl

/-- Without a set-up that waits, taking what was received leaves target, limits and motion as they are. -/
theorem takeReceived_idle {c : Cell} (t : c.trimNext = none) (f : c.cfgNext = none) :
    cellTarget (takeReceived c) = cellTarget c ∧ generating (takeReceived c) = generating c ∧ (takeReceived c).cfg = c.cfg ∧
    (takeReceived c).p = c.p ∧ (takeReceived c).v = c.v ∧ (takeReceived c).a = c.a := by
  have trim : (takeReceived c).trim = c.trim := by simp [takeReceived, bleedGate, t]
  have cfg : (takeReceived c).cfg = c.cfg := by simp [takeReceived, bleedGate, f]
  refine ⟨?_, rfl, cfg, rfl, rfl, rfl⟩
  rw [cellTarget, trim]
  rfl

/-- A profile step is one jerk, integrated exactly, unless it lands within the snap of the target (R57). -/
theorem profileStep_jerk (l : MotionLimits) (t : Nat) (m : Motion) : ∃ j : Int, profileStep l t m =
    if (192000 * (t : Int) - (m.step j).p).natAbs < 192000 ∧ (m.step j).v.natAbs < 51200 ∧ (m.step j).a.natAbs < 5120
    then { p := 192000 * (t : Int), v := 0, a := 0 } else m.step j := by
  refine ⟨planJerk l { m with p := m.p - t * pStep }, ?_⟩
  rw [profileStep, Int.mul_comm 192000 (t : Int)]
  rfl

/-- A motion at rest on its target stays there. -/
theorem profileStep_rest (l : MotionLimits) (t : Nat) :
    profileStep l t { p := 192000 * (t : Int), v := 0, a := 0 } = { p := 192000 * (t : Int), v := 0, a := 0 } := by
  have jerk : planJerk l { p := 192000 * (t : Int) - t * pStep, v := 0, a := 0 } = 0 := by
    rw [planJerk, if_pos]
    simp [pStep, Int.mul_comm]
  rw [profileStep]
  dsimp only
  rw [jerk]
  simp [Motion.step, pStep, Int.mul_comm]

/-- Settles O20: the cycle by what it does to the compensator, the bleed and the pump, the profile step by its jerk, the reserve by its
charge. -/
theorem cellCycleAndProfile : Obligations.CellCycleAndProfile := by
  unfold Obligations.CellCycleAndProfile
  refine ⟨fun s i out lim h => State.cellEvent_puts h ?_, fun s i h => State.cellEvent_puts h ?_, fun s i h g t f v a j => ?_,
    fun s i vout vin h => State.cellEvent_up i _ h, fun s i h a => State.cellEvent_puts h ?_,
    fun s i h a => State.cellEvent_keeps h (droop_disarmed a), fun s i h => State.cellEvent_up i _ h,
    fun s i h => State.cellEvent_up i _ h⟩
  · obtain ⟨p, v, a, mode, code, e1, e2, rsv, hist⟩ := l0Step_always out lim.toNat (s.cell i)
    obtain ⟨spent, on⟩ := l0Step_bleed out lim.toNat (s.cell i)
    refine ⟨p, v, a, mode, code, e1, e2, rsv, hist, spent, on, l0Step_hold out _, fun sw => ?_, l0Step_idle out _,
      fun m d => l0Step_four m (d.imp id fun n e => n (BitVec.eq_of_toNat_eq e))⟩
    obtain ⟨duty, dither, dutyNext, u, pulse⟩ := l0Step_switching out lim.toNat sw
    exact ⟨duty, dither, ⟨dutyNext, u⟩, pulse⟩
  · simp only [generate_keeps]
    exact ⟨rfl, rfl, rfl, rfl, rfl⟩
  · obtain ⟨target, gen, cfg, p, v', a'⟩ := takeReceived_idle t f
    have motion := generate_motion (c := takeReceived (s.cell i)) (gen.trans g) (by rwa [cfg]) (by rwa [cfg]) (by rwa [cfg])
    rw [target, cfg, p, v', a'] at motion
    obtain ⟨j, step⟩ := profileStep_jerk (motionLimits (s.cell i).cfg.vMax (s.cell i).cfg.aMax (s.cell i).cfg.jMax)
      (cellTarget (s.cell i)) { p := (s.cell i).p, v := (s.cell i).v, a := (s.cell i).a }
    refine ⟨_, j, State.cellEvent_up i _ h, ?_, fun ep ev ea => ?_⟩
    · exact (congrArg Motion.parts (motion.trans step)).trans (apply_ite Motion.parts _ _ _)
    · rw [ep, ev, ea, profileStep_rest] at motion
      obtain ⟨rp, rv, ra⟩ := Motion.mk.inj motion
      exact ⟨rp.trans ep.symm, rv, ra⟩
  · by_cases r : (s.cell i).rsvReady = true
    · rw [droop_charged a r]
      simp [readd, r]
    · rw [droop_uncharged a (by simpa using r)]
      simp [readd, r]

/-- Settles O47: without charge the crossing is counted and brings back four phases, and the reserve stays as it is. -/
theorem droopWithoutCharge : Obligations.DroopWithoutCharge := by
  unfold Obligations.DroopWithoutCharge
  intro s i h a r
  refine ⟨_, State.cellEvent_up i droop h, ?_⟩
  rw [State.updCell_same, droop_uncharged a r]
  exact ⟨rfl, rfl, r, rfl, rfl, fun j n => State.updCell_other s i j droop n⟩

end Sys2Proof.Machine
end

section
/-! PROOF. The bleed, the light-load measure, bursts, over-current, overload and CELLSYNC of a cell (R46, R62 to R72, R79 to R81). -/

namespace Sys2Proof.Machine

/-! ### The light-load measure (R65, R69, R70) -/

theorem lightLoad_hint (amp : Int) {c : Cell} (h : c.hintArm = true) : lightLoad amp c = .four := if_pos h

/-- Fewer phases return to four with a high measure, hint or not. -/
theorem lightLoad_high {amp : Int} {c : Cell} (p : c.phases ≠ .four) (a : 144 < amp) : lightLoad amp c = .four := by
  unfold lightLoad
  split
  · rfl
  · exact if_pos ⟨p, .inr a⟩

theorem lightLoad_four (amp : Int) {c : Cell} (h : c.hintArm = false) (p : c.phases = .four) (e : c.cfg.shedEn = true) :
    lightLoad amp c = if amp < 96 ∧ c.freshWindow = false then .two else .four := by
  simp [lightLoad, h, p, e]

theorem lightLoad_one {amp : Int} {c : Cell} (h : c.hintArm = false) (p : c.phases = .one) (e : c.cfg.shedEn = true) (a : amp ≤ 144) :
    lightLoad amp c = if amp < 24 ∧ c.cfg.burstEn = true ∧ c.v = 0 then .burst else .one := by
  simp [lightLoad, h, p, e, Int.not_lt.2 a, and_assoc]

/-- The light-load mode after a full window: by the measure in RUN and HOLD, as it was elsewhere. -/
def windowPhases (amp : Int) (c : Cell) : Phases := if c.mode = .run ∨ c.mode = .hold then lightLoad amp c else c.phases

theorem windowPhases_run (amp : Int) {c : Cell} (m : c.mode = .run) : windowPhases amp c = lightLoad amp c := if_pos (.inl m)

theorem windowPhases_other (amp : Int) {c : Cell} (r : c.mode ≠ .run) (h : c.mode ≠ .hold) : windowPhases amp c = c.phases :=
  if_neg (not_or.2 ⟨r, h⟩)

/-- A cell at the end of a full 1 µs window (R65, R90). -/
def endWindow (amp : Int) (c : Cell) : Cell :=
  { c with
    iUs := amp
    freshWindow := false
    phases := windowPhases amp c
    burstOn := c.burstOn && windowPhases amp c == .burst
    win := { c.win with ioutSum := c.win.ioutSum + amp, ioutN := c.win.ioutN + 1 } }

theorem execLightLoadWindow_eq (i : CellIx) (amp : Int) (s : State) : execLightLoadWindow i amp s = s.cellEvent i (endWindow amp) := rfl

/-- Settles O21: each event is one function of the cell; the light-load measure by the cases of its mode. -/
theorem cellLoadAndProtection : Obligations.CellLoadAndProtection := by
  unfold Obligations.CellLoadAndProtection
  refine ⟨fun s i h => State.cellEvent_eq h ?_, fun s i h => State.cellEvent_puts h ?_, fun s i amp h => ?_,
    fun s i h => State.cellEvent_up i _ h, fun s i short h b => State.cellEvent_eq h (if_pos b),
    fun s i short h b => State.cellEvent_keeps h (if_neg b), fun s i ph h => State.cellEvent_up i _ h,
    fun s i h => State.cellEvent_up i _ h, fun s i h => State.cellEvent_up i _ h, fun s i h => State.cellEvent_up i _ h,
    fun s i h => State.cellEvent_up i _ h, fun s i h => State.cellEvent_up i _ h⟩
  · simp [bleedGate, bleedArmed]
  · exact ⟨by simp [bleedGate], rfl, rfl, by simp [bleedGate], rfl, fun spent => if_pos spent⟩
  · refine ⟨_, (execLightLoadWindow_eq i amp s).trans (State.cellEvent_up i _ h), rfl, rfl, rfl, rfl, rfl, fun m k => ?_,
      fun m p a => ?_, fun m k p e => ?_, fun m k p e a => ?_, fun r k => windowPhases_other amp r k, fun b => ?_, rfl, rfl⟩
    · exact (windowPhases_run amp m).trans (lightLoad_hint amp k)
    · exact (windowPhases_run amp m).trans (lightLoad_high p a)
    · exact (windowPhases_run amp m).trans (lightLoad_four amp k p e)
    · exact (windowPhases_run amp m).trans (lightLoad_one k p e a)
    · have n : windowPhases amp (s.cell i) ≠ .burst := b
      simp [endWindow, n]

end Sys2Proof.Machine
end

section
/-! PROOF. The changes of a cell's state that come about in the cell (R74 to R78, R83 to R85, R87, R92). -/

namespace Sys2Proof.Machine

/-- The direction MEASURE takes toward the target: upward where what it measured does not exceed it (R75). -/
def measuredUp (c : Cell) : Bool := decide (measuredP c ≤ cellTarget c)

/-- MEASURE above 1.1 V ends in OFF (R78). -/
theorem measured_high {c : Cell} (m : c.mode = .measure) (r : c.ramp = false) (p : 70400 < measuredP c) : measured c = prebiasOff c := by
  simp [measured, m, r, p]

/-- A cell at rest on what MEASURE has measured, with the nominal duty for it (R75). -/
def atMeasured (c : Cell) : Cell :=
  { c with
    p := 192000 * (measuredP c : Int)
    v := 0
    a := 0
    u := 0
    duty := dutyCode (dNom { c with p := 192000 * (measuredP c : Int), v := 0, a := 0, u := 0 })
    dutyNext := dutyCode (dNom { c with p := 192000 * (measuredP c : Int), v := 0, a := 0, u := 0 }) }

/-- MEASURE up to 1.1 V goes on by the side of the target, a boot cell to HOLD as from there (R75, R373). -/
theorem measured_low {c : Cell} (m : c.mode = .measure) (r : c.ramp = false) (p : measuredP c ≤ 70400) :
    measured c = if c.boot then enterHold (if measuredUp c then .rise else .fall) (atMeasured c)
      else { atMeasured c with mode := if measuredUp c then .rise else .fall } :=
  (if_pos ⟨m, by simp [r]⟩).trans (if_neg (Nat.not_lt.2 p))

/-- A cell that gives up on its pre-bias is OFF, with one urgent report (R74, R78, R116). -/
theorem prebiasOff_is (c : Cell) :
    (prebiasOff c).mode = .off ∧ (prebiasOff c).p = 0 ∧ (prebiasOff c).prebias = true ∧ (prebiasOff c).bleedOn = false ∧
    (prebiasOff c).urg = c.urg ++ [(2, c.vCoarse % 4096)] := ⟨rfl, rfl, rfl, rfl, rfl⟩

/-- A cell that follows a target and loses contact holds what it does (R83, R84). -/
theorem loseContact_following {c : Cell} (r : c.ramp = false) (m : c.mode = .rise ∨ c.mode = .fall ∨ c.mode = .run) :
    loseContact c = { c with
      mode := .hold
      holdFrom := c.mode
      armHeld := cellArm c
      bleedHeld := bleedArmed c
      holdCyc := 0
      marks := 0
      tgtNext := none } := by
  rcases m with m | m | m <;> simp [loseContact, r, m, enterHold, cellArm, armOf, bleedArmed]

theorem loseContact_still {c : Cell} (m : c.mode = .hold ∨ c.mode = .off ∨ c.mode = .zero) : loseContact c = c := by
  rcases m with m | m | m <;> simp [loseContact, m]

/-- Settles O22: each change by the function of the cell that makes it, in the state it starts from. -/
theorem cellStateChanges : Obligations.CellStateChanges := by
  unfold Obligations.CellStateChanges
  refine ⟨fun s i h m r p => State.cellEvent_puts h ?_, fun s i h m r p => State.cellEvent_puts h ?_,
    fun s i h m r => State.cellEvent_eq h (by simp [m, r]), fun s i h m r => State.cellEvent_puts h ?_,
    fun s i h m => State.cellEvent_puts h ?_, fun s i h r m => State.cellEvent_puts h ?_,
    fun s i h m => State.cellEvent_keeps h (loseContact_still m), fun s i h m r n => State.cellEvent_eq h (if_pos ⟨m, by simp [r], n⟩),
    fun s i h m n => State.cellEvent_eq h (if_neg fun k => Nat.not_le.2 n k.2.2), fun s i h z => State.cellEvent_eq h (if_pos z),
    fun s i b h m => State.cellEvent_puts h ?_, fun s i h r => State.cellEvent_puts h ?_⟩
  · rw [measured_low m r p]
    cases (s.cell i).boot <;> exact ⟨rfl, rfl, rfl, rfl, rfl, rfl, rfl, by simp [atMeasured, enterHold, measuredUp]⟩
  · rw [measured_high m r p]
    exact prebiasOff_is _
  · rw [if_neg (by simp [r]), if_pos m]
    exact ⟨rfl, rfl, rfl, rfl, rfl, rfl, rfl⟩
  · rw [if_pos m]
    obtain ⟨mode, p, prebias, -, urg⟩ := prebiasOff_is (s.cell i)
    exact ⟨mode, p, prebias, urg⟩
  · rw [loseContact_following r m]
    exact ⟨rfl, rfl, rfl, rfl, rfl, rfl, rfl, rfl⟩
  · rw [if_pos m]
    exact ⟨rfl, rfl, rfl⟩
  · rw [if_pos r]
    exact ⟨rfl, rfl, rfl, rfl, rfl⟩

end Sys2Proof.Machine
end

section
/-! SUPPORT. What a frame on a ring, and an order to one cell, leave behind where the cells are supplied (R111, R115, R124). -/

namespace Sys2Proof.Machine

theorem State.frame_up {s : State} (t : State) (h : s.cellsUp = true) : s.frame t = .next t := if_pos h

/-- An executed order: what its action gives is answered and stored, and its cell is as the action leaves it. -/
theorem State.order_next {s : State} {c : ChainIx} {h : CmdHdr} {i op st d : Nat} {act : Nat → Cell → Nat × Nat × Cell} {y : Cell}
    (r : s.OrderReaches c h i) (a : act i (s.cell i) = (st, d, y)) :
    ∃ t, s.frame (s.order c h op act) = .next t ∧ s.Answered t c h op i st d ∧
      t.cell i = { y with seq := some h.seq.toNat, status := st, data := d } := by
  have answered := State.order_answered (op := op) (act := act) r
  have cell := State.order_cell (op := op) (act := act) r
  rw [a] at answered cell
  exact ⟨_, State.frame_up _ r.1, answered, cell⟩

/-! ### The actions (R74, R82, R84, R86 to R88, R92, R112) -/

theorem notInHold_hold (act : Nat → Cell → Nat × Nat × Cell) (i : Nat) {c : Cell} (m : c.mode = .hold) :
    notInHold act i c = (2, 0, c) := by
  simp [notInHold, refusedInHold, m]

theorem notInHold_other (act : Nat → Cell → Nat × Nat × Cell) (i : Nat) {c : Cell} (m : c.mode ≠ .hold) :
    notInHold act i c = act i c := by
  simp [notInHold, refusedInHold, m]

theorem actStart_locked (v i : Nat) {c : Cell} (m : c.mode = .off) (k : c.sync = true) :
    notInHold (actStart v) i c = (0, 0, enterMeasure v c) := by
  simp [notInHold_other, actStart, m, k]

theorem actStart_unlocked (v i : Nat) {c : Cell} (m : c.mode = .off) (k : c.sync = false) :
    notInHold (actStart v) i c = (3, 0, c) := by
  simp [notInHold_other, actStart, m, k]

theorem actStop_ramps (i : Nat) {c : Cell} (t : c.mode ≠ .test) (o : c.mode ≠ .off) : actStop i c = (0, 0, { c with ramp := true }) := by
  simp [actStop, t, o]

theorem actStop_test (i : Nat) {c : Cell} (t : c.mode = .test) : actStop i c = (2, 0, c) := if_pos t

theorem actZero_run (i : Nat) {c : Cell} (m : c.mode = .run) (r : c.ramp = false) :
    notInHold actZero i c = (0, 0, bleedGate { c with mode := .zero, zeroDone := false }) := by
  simp [notInHold_other, actZero, m, r]

theorem actLoanSw_off {v i : Nat} (g : Nat) (fv fi : BitVec 64) {c : Cell} {x : Sel} (m : c.mode = .off) (w : (swingNo i).isSome = true)
    (k : selOf v = some x) : notInHold (actLoanSw v g fv fi) i c =
      (0, 0, { takeGen g fv fi c with sel := x, trim := 0, trimNext := none, tgtNext := none }) := by
  simp [notInHold_other, actLoanSw, m, k, Option.isSome_iff_ne_none.1 w]

theorem actLoanSw_bad {v i : Nat} (g : Nat) (fv fi : BitVec 64) {c : Cell} (m : c.mode ≠ .hold)
    (k : selOf v = none ∨ ((swingNo i).isNone = true ∧ selOf v ≠ some .home)) : notInHold (actLoanSw v g fv fi) i c = (4, 0, c) := by
  rw [notInHold_other _ _ m, actLoanSw]
  cases x : selOf v with
  | none => rfl
  | some y =>
    obtain ⟨w, n⟩ := k.resolve_left (by simp [x])
    exact if_pos ⟨w, fun e => n (by rw [x, e])⟩

/-- Taking a generation changes only the window, the payload it leaves and the generation (R89, R124). -/
theorem takeGen_keeps (g : Nat) (fv fi : BitVec 64) (c : Cell) :
    (takeGen g fv fi c).gen = g ∧ (takeGen g fv fi c).mode = c.mode := by
  unfold takeGen
  split
  · exact ⟨‹_›, rfl⟩
  · exact ⟨rfl, rfl⟩

theorem actAdopt_hold (i : Nat) {c : Cell} (m : c.mode = .hold) (r : c.ramp = false) (k : c.kNext = []) :
    actAdopt i c = (0, 0, { c with mode := .run, boot := false, kNext := [], marks := 0 }) := by
  simp [actAdopt, m, r, k]

theorem actAdopt_other (i : Nat) {c : Cell} (m : c.mode ≠ .hold) : actAdopt i c = (2, 0, c) := if_neg fun k => m k.1

theorem actSelftest_begins (i : Nat) {c : Cell} (m : c.mode = .off ∨ c.mode = .run) (r : c.ramp = false) :
    notInHold actSelftest i c = (0, 0, bleedGate { c with mode := .test, zeroDone := c.mode == .off }) := by
  have hold : c.mode ≠ .hold := by rcases m with m | m <;> simp [m]
  have zero : (c.mode == .zero) = false := by rcases m with m | m <;> rw [m] <;> rfl
  rw [notInHold_other _ _ hold, actSelftest, if_pos ⟨m.imp id .inr, by simp [r]⟩, zero, Bool.false_and, Bool.or_false]

theorem actReadState_bad {n : Nat} (i : Nat) (c : Cell) (h : n = 3) : actReadState n i c = (4, 0, c) := if_pos h

theorem actReadState_page {n : Nat} (i : Nat) (c : Cell) (h : n ≠ 3) : actReadState n i c = (0, statePage n c, c) := if_neg h

theorem actSetCoef_atOnce (v i : Nat) {c : Cell} (m : c.mode ≠ .hold) (b : c.boot = false) :
    actSetCoef 1 v i c = (0, 0, { c with k1 := sext 16 v }) := by
  simp [actSetCoef, m, b, setCoefOf]

/-- The action of an OP that R112 does not list. -/
def actReserved (_ : Nat) (c : Cell) : Nat × Nat × Cell := if c.mode = .hold then (2, 0, c) else (4, 0, c)

theorem actReserved_eq (i : Nat) (c : Cell) : actReserved i c = (if c.mode = .hold then 2 else 4, 0, c) := by
  unfold actReserved
  split <;> rfl

theorem execReservedOp_unlisted {c : ChainIx} {h : CmdHdr} {op : BitVec 4} {s : State} (k : op = 0 ∨ 8 < op.toNat) :
    execReservedOp c h op s = s.frame (s.order c h op.toNat actReserved) := by
  refine if_neg ?_
  rcases k with rfl | k
  · simp
  · omega

end Sys2Proof.Machine
end

section
/-! PROOF. Orders to one cell (R51, R74, R75, R82, R84, R86 to R88, R92, R112, R114, R115). -/

namespace Sys2Proof.Machine

/-- Settles O25: each order by its action in the state the rule names; a repeated SEQ by the stored answer. -/
theorem ordersToOneCell : Obligations.OrdersToOneCell := by
  unfold Obligations.OrdersToOneCell
  refine ⟨fun s c h i v r m => ?_, fun s c h i r t o => ?_, fun s c h i r m n => ?_, fun s c h i sel g x r m w k => ?_,
    fun s c h i sel g r m k => ?_, fun s c h i r m n k => ?_, fun s c h i r m => ?_, fun s c h i r m n => ?_,
    fun s c h i pg r => ?_, fun s c h i v r m b => ?_, fun s c h i op r k => ?_, fun s c h i v r m => ?_,
    fun s c h i sel g r m => ?_, fun s c h i r m => ?_, fun s c h i up a q => ?_⟩
  · cases k : (s.cell i).sync with
    | true =>
      obtain ⟨t, e, answered, cell⟩ := State.order_next (op := 1) r (actStart_locked v.toNat i m k)
      refine ⟨t, e, ?_⟩
      rw [if_pos rfl, cell]
      exact ⟨answered, rfl, rfl, rfl, rfl, rfl⟩
    | false =>
      obtain ⟨t, e, answered, cell⟩ := State.order_next (op := 1) r (actStart_unlocked v.toNat i m k)
      refine ⟨t, e, ?_⟩
      rw [if_neg Bool.false_ne_true, cell]
      exact ⟨answered, m⟩
  · obtain ⟨t, e, answered, cell⟩ := State.order_next (op := 2) r (actStop_ramps i t o)
    exact ⟨t, e, answered, by simp [cell]⟩
  · obtain ⟨t, e, answered, cell⟩ := State.order_next (op := 3) r (actZero_run i m n)
    exact ⟨t, e, answered, by rw [cell]; exact ⟨rfl, rfl⟩⟩
  · obtain ⟨t, e, answered, cell⟩ := State.order_next (op := 4) r (actLoanSw_off g.toNat _ _ m w k)
    exact ⟨t, e, answered, by simp [cell, takeGen_keeps, m]⟩
  · obtain ⟨t, e, answered, cell⟩ := State.order_next (op := 4) r (actLoanSw_bad g.toNat _ _ m k)
    exact ⟨t, e, answered, by simp [cell]⟩
  · obtain ⟨t, e, answered, cell⟩ := State.order_next (op := 5) r (actAdopt_hold i m n k)
    exact ⟨t, e, answered, by simp [cell]⟩
  · obtain ⟨t, e, answered, cell⟩ := State.order_next (op := 5) r (actAdopt_other i m)
    exact ⟨t, e, answered, by simp [cell]⟩
  · obtain ⟨t, e, answered, cell⟩ := State.order_next (op := 6) r (actSelftest_begins i m n)
    exact ⟨t, e, answered, by rw [cell]; exact ⟨rfl, rfl⟩⟩
  · by_cases k : pg = 3
    · obtain ⟨t, e, answered, cell⟩ := State.order_next (op := 7) r (actReadState_bad i (s.cell i) (congrArg BitVec.toNat k))
      exact ⟨t, e, by rwa [if_pos k], by simp [cell]⟩
    · have n : pg.toNat ≠ 3 := fun e => k (BitVec.eq_of_toNat_eq e)
      obtain ⟨t, e, answered, cell⟩ := State.order_next (op := 7) r (actReadState_page i _ n)
      exact ⟨t, e, by rwa [if_neg k], by simp [cell]⟩
  · obtain ⟨t, e, answered, cell⟩ := State.order_next (op := 8) r (actSetCoef_atOnce v.toNat i m b)
    exact ⟨t, e, answered, by simp [cell]⟩
  · obtain ⟨t, e, answered, cell⟩ := State.order_next (op := op.toNat) r (actReserved_eq i (s.cell i))
    exact ⟨t, (execReservedOp_unlisted k).trans e, by rw [cell], answered⟩
  · obtain ⟨t, et, at_, ct⟩ := State.order_next (op := 1) r (notInHold_hold (actStart v.toNat) i m)
    obtain ⟨u, eu, au, cu⟩ := State.order_next (op := 3) r (notInHold_hold actZero i m)
    obtain ⟨w, ew, aw, cw⟩ := State.order_next (op := 6) r (notInHold_hold actSelftest i m)
    exact ⟨t, u, w, et, eu, ew, at_, au, aw, by simp [ct, m], by simp [cu, m], by simp [cw, m]⟩
  · obtain ⟨t, e, answered, cell⟩ := State.order_next (op := 4) r
      (notInHold_hold (actLoanSw sel.toNat g.toNat (s.freeMeans 2304).1 (s.freeMeans 2304).2) i m)
    exact ⟨t, e, answered, by simp [cell, m]⟩
  · obtain ⟨t, e, answered, cell⟩ := State.order_next (op := 2) r (actStop_test i m)
    exact ⟨t, e, answered, by simp [cell, m]⟩
  · refine ⟨_, State.frame_up _ up, ?_⟩
    rw [State.order_repeat 2 actStop a q]
    simp [State.reply]

/-- Settles O45: START without lock is answered SYNC and stores its answer alone; the loss of lock changes the lock and its mark. -/
theorem startNeedsCellsync : Obligations.StartNeedsCellsync := by
  unfold Obligations.StartNeedsCellsync
  refine ⟨fun s c h v i r m k => State.order_next r (actStart_unlocked v.toNat i m k),
    fun s i h => ⟨_, State.cellEvent_up i _ h, State.updCell_same s i _, fun j n => State.updCell_other s i j _ n⟩⟩

end Sys2Proof.Machine
end

section
/-! PROOF. Frames at the cells they reach (R54, R63, R64, R83, R84, R93, R103, R107 to R110, R116, R122, R124, R134). -/

namespace Sys2Proof.Machine

/-! ### Multicasts and marks (R54, R83, R104, R107) -/

theorem takeMcast_entry {p i v : Nat} {c : Cell} (m : c.mode ≠ .hold) (k : mcastEntry p (cellDom i c) = some v) :
    takeMcast p i c = { c with winTag := bits p 55 52, tgtNext := some v, marks := 0 } := by
  simp [takeMcast, k, m]

theorem takeMcast_hold {p i : Nat} {c : Cell} (m : c.mode = .hold) : takeMcast p i c = { c with winTag := bits p 55 52 } := by
  unfold takeMcast
  cases mcastEntry p (cellDom i c) <;> simp [m]

theorem takeMcast_none {p i : Nat} {c : Cell} (k : mcastEntry p (cellDom i c) = none) :
    takeMcast p i c = { c with winTag := bits p 55 52 } := by
  simp [takeMcast, k]

theorem markCell_fresh (c : Cell) :
    markCell true c = { c with tgt := c.tgtNext.getD c.tgt, tgtNext := none, marks := 0 } := by
  simp [markCell]

/-- The 16th mark without a valid multicast puts a cell in RUN in HOLD (R83). -/
theorem markCell_loses {c : Cell} (m : c.mode = .run) (n : 15 ≤ c.marks) (r : c.ramp = false) :
    (markCell false c).mode = .hold ∧ (markCell false c).holdFrom = .run ∧ (markCell false c).sel = c.sel := by
  have k : c.marks + 1 ≥ 16 := Nat.succ_le_succ n
  simp [markCell, m, k, loseContact, r, enterHold]

/-- Closing a window changes the window and the payload it leaves alone (R90). -/
theorem closeWindow_keeps (fv fi : BitVec 64) (c : Cell) :
    (closeWindow fv fi c).tgt = c.tgt ∧ (closeWindow fv fi c).tgtNext = c.tgtNext ∧ (closeWindow fv fi c).marks = c.marks ∧
    (closeWindow fv fi c).mode = c.mode ∧ (closeWindow fv fi c).ramp = c.ramp ∧ (closeWindow fv fi c).sel = c.sel := by
  unfold closeWindow
  split <;> exact ⟨rfl, rfl, rfl, rfl, rfl, rfl⟩

/-- The full window of a cell ends at the mark that opens an epoch of its poll (R90, R117). -/
def markWindow (p : Nat) (fv fi : BitVec 64) (c : Cell) : Cell :=
  if bits p 51 50 = 0 ∧ bits p 53 52 = posOf (c.addr.getD 0) % 4 then closeWindow fv fi { c with winTag := bits p 55 52 } else c

theorem markWindow_keeps (p : Nat) (fv fi : BitVec 64) (c : Cell) :
    (markWindow p fv fi c).tgt = c.tgt ∧ (markWindow p fv fi c).tgtNext = c.tgtNext ∧ (markWindow p fv fi c).marks = c.marks ∧
    (markWindow p fv fi c).mode = c.mode ∧ (markWindow p fv fi c).ramp = c.ramp ∧ (markWindow p fv fi c).sel = c.sel := by
  unfold markWindow
  split
  · exact closeWindow_keeps _ _ _
  · exact ⟨rfl, rfl, rfl, rfl, rfl, rfl⟩

theorem cellDom_congr {i : Nat} {c d : Cell} (h : c.sel = d.sel) : cellDom i c = cellDom i d := by
  rw [cellDom, cellDom, h]

/-- A mark in the cell's generation: the window, then the boundary, then the entries it carries. -/
theorem takeMark_taken {p i : Nat} {fv fi : BitVec 64} {c : Cell} (g : bits p 63 56 = c.gen) :
    takeMark p fv fi i c =
      takeMcast p i (markCell ((mcastEntry p (cellDom i c)).isSome && c.mode != .hold) (markWindow p fv fi c)) := by
  simp [takeMark, genCheck, g, markWindow]

theorem takeMark_entry {p i v : Nat} {fv fi : BitVec 64} {c : Cell} (g : bits p 63 56 = c.gen) (m : c.mode = .run)
    (k : mcastEntry p (cellDom i c) = some v) :
    takeMark p fv fi i c = { markWindow p fv fi c with
      winTag := bits p 55 52
      tgt := c.tgtNext.getD c.tgt
      tgtNext := some v
      marks := 0 } := by
  obtain ⟨tgt, tgtNext, -, mode, -, sel⟩ := markWindow_keeps p fv fi c
  rw [takeMark_taken g, k, m, show ((some v).isSome && CellMode.run != .hold) = true from rfl, markCell_fresh, takeMcast_entry (v := v)]
  · rw [tgt, tgtNext]
  · simp [mode, m]
  · rw [← k]
    exact congrArg _ (cellDom_congr sel)

theorem takeMark_loses {p i : Nat} {fv fi : BitVec 64} {c : Cell} (g : bits p 63 56 = c.gen) (m : c.mode = .run)
    (k : mcastEntry p (cellDom i c) = none) (n : 15 ≤ c.marks) (r : c.ramp = false) :
    (takeMark p fv fi i c).mode = .hold ∧ (takeMark p fv fi i c).holdFrom = .run := by
  obtain ⟨-, -, marks, mode, ramp, sel⟩ := markWindow_keeps p fv fi c
  obtain ⟨hold, from_, sel'⟩ := markCell_loses (c := markWindow p fv fi c) (mode.trans m) (by rwa [marks]) (ramp.trans r)
  rw [takeMark_taken g, k, Option.isSome_none, Bool.false_and, takeMcast_none]
  · exact ⟨hold, from_⟩
  · rw [← k]
    exact congrArg _ (cellDom_congr (sel'.trans sel))

/-! ### Set-up, arming, trims (R63, R64, R93, R108 to R110) -/

theorem takeCfg_hold {p i : Nat} {c : Cell} (m : c.mode = .hold) : takeCfg p i c = c := if_pos m

theorem takeCfg_global {p i : Nat} {c : Cell} (m : c.mode ≠ .hold) (d : bits p 55 50 = 63) :
    takeCfg p i c = { c with glbNext := some (bits p 49 44, bits p 43 40) } := by
  simp [takeCfg, m, d]

theorem takeCfg_own {p i : Nat} {c : Cell} (m : c.mode ≠ .hold) (n : bits p 55 50 ≠ 63) (d : bits p 55 50 = cellDom i c) :
    takeCfg p i c = { c with cfgNext := some (cfgOf p) } := by
  rw [takeCfg, if_neg m, if_neg n, if_pos d]

theorem takeCfg_foreign {p i : Nat} {c : Cell} (n : bits p 55 50 ≠ 63) (d : bits p 55 50 ≠ cellDom i c) : takeCfg p i c = c := by
  simp [takeCfg, n, d]

theorem takeArm_selected {p i : Nat} {c : Cell} (m : c.mode ≠ .hold) (d : bits p 55 50 = cellDom i c)
    (a : armSelects (bits p 31 0) i c = true) :
    takeArm p i c = if bitAt p 49 then readd { c with hintArm := true } else { c with hintArm := false } := by
  simp [takeArm, m, d, a]

theorem takeArm_ignored {p i : Nat} {c : Cell} (h : c.mode = .hold ∨ bits p 55 50 ≠ cellDom i c) : takeArm p i c = c :=
  if_pos (h.imp id .inl)

theorem takeTrim_own {p a k : Nat} {c : Cell} (m : c.mode ≠ .hold) (e : c.addr = some a) (b : a = bits p 55 44 + k)
    (n : k < min 5 (bits p 43 40)) :
    takeTrim p c = { c with trimNext := some (sext 8 (bits p (39 - 8 * k) (32 - 8 * k))) } := by
  subst b
  have lo : ¬ bits p 55 44 + k < bits p 55 44 := by omega
  have hi : ¬ bits p 55 44 + k ≥ bits p 55 44 + min 5 (bits p 43 40) := by omega
  simp only [takeTrim, e, m, lo, hi, or_self, if_false, Nat.add_sub_cancel_left]

theorem takeTrim_hold {p : Nat} {c : Cell} (m : c.mode = .hold) : takeTrim p c = c := by
  unfold takeTrim
  cases c.addr <;> simp [m]

/-! ### Reach (R124, R134) -/

/-- A frame to a chain leaves a cell of another chain, and a cell without an address, as it was. -/
theorem State.onChain_miss {s : State} {c i : Nat} (f : Nat → Cell → Cell) (h : chainOf i ≠ c ∨ (s.cell i).addr = none) :
    (s.onChain c f).cell i = s.cell i := by
  rw [State.onChain_cell, if_neg]
  rintro ⟨k, a, -⟩
  rcases h with h | h
  · exact h k
  · simp [h] at a

theorem State.onChain_hit {s : State} {c : ChainIx} {p : BitVec 64} {i : Nat} (f : Nat → Cell → Cell) (h : s.FrameReaches c p i) :
    (s.onChain c f).cell i = f i (s.cell i) := by
  obtain ⟨-, chain, addr, reach, -⟩ := h
  rw [State.onChain_cell, if_pos ⟨chain, addr, reach⟩]

/-! ### Urgent slots (R116, R135) -/

/-- The URG frame of a report (R116). -/
def urgFrame (x : Cell) (a code detail : Nat) : Nat :=
  frameBits 0xA (packN [(63, 56, x.gen), (55, 44, a), (43, 40, code), (39, 36, x.winTag), (35, 0, detail)])

theorem execUrgSend_sends {s : State} {i : CellIx} {a code detail : Nat} {l : List (Nat × Nat)} (h : s.cellsUp = true)
    (ad : (s.cell i).addr = some a) (u : (s.cell i).urg = (code, detail) :: l) (r : s.reaches (chainOf i) (posOf i) = true)
    (f : 0 < s.urgFree i) :
    execUrgSend i s = .next ((s.setCell i { s.cell i with urg := l }).updChain (chainOf i) fun x => { x with
      urg := some (urgFrame (s.cell i) a code detail)
      urgSlots := if s.onSeg2 i then x.urgSlots else x.urgSlots - 1
      urgSlots2 := if s.onSeg2 i then x.urgSlots2 - 1 else x.urgSlots2 }) := by
  simp [execUrgSend, ad, u, h, r, f, urgFrame]

theorem execUrgSend_lost {s : State} {i : CellIx} {a code detail : Nat} {l : List (Nat × Nat)} (h : s.cellsUp = true)
    (ad : (s.cell i).addr = some a) (u : (s.cell i).urg = (code, detail) :: l) (r : s.reaches (chainOf i) (posOf i) = false) :
    execUrgSend i s = .next (s.setCell i { s.cell i with urg := l }) := by
  simp [execUrgSend, ad, u, h, r]

theorem execUrgSend_empty {s : State} {i : CellIx} (u : (s.cell i).urg = []) : execUrgSend i s = .next s := by
  unfold execUrgSend
  dsimp only
  rw [u]
  cases (s.cell i).addr <;> rfl

/-- A frame that takes a slot of the cell's segment leaves one fewer (R116, R135). -/
theorem State.urgFree_taken {s : State} {i : Nat} {f : Chain → Chain} (st : ∀ x, (f x).st = x.st) (j2 : ∀ x, (f x).j2 = x.j2)
    (one : ∀ x, (f x).urgSlots = if s.onSeg2 i then x.urgSlots else x.urgSlots - 1)
    (two : ∀ x, (f x).urgSlots2 = if s.onSeg2 i then x.urgSlots2 - 1 else x.urgSlots2) :
    (s.updChain (chainOf i) f).urgFree i = s.urgFree i - 1 := by
  have seg : (s.updChain (chainOf i) f).onSeg2 i = s.onSeg2 i := by simp [State.onSeg2, st, j2]
  rw [State.urgFree, State.urgFree, seg, State.updChain_same, one, two]
  cases s.onSeg2 i <;> rfl

/-- Settles O23: a checked frame acts on each cell it reaches by its own rule and on no other; a mark acts as window, boundary and
entries; an urgent report takes one free slot. -/
theorem framesToCells : Obligations.FramesToCells := by
  unfold Obligations.FramesToCells
  refine ⟨fun s c p h => ?_, fun s c p h => ?_, fun s c p h => ?_, fun s c p h => ?_, fun s c p h => ?_, fun s c p h => ?_,
    fun s c p i h a => ?_, fun s c f h => ?_, fun s i a code detail l h ad u => ⟨fun r f => ?_, execUrgSend_lost h ad u⟩,
    fun s i u => execUrgSend_empty u⟩
  · refine ⟨_, State.frame_up _ h, (s.checkedFrame_rest c p _).1, (s.checkedFrame_rest c p _).2.2.1, fun i v r m k => ?_,
      fun i r m => ?_, fun i n => State.checkedFrame_miss _ n⟩
    · rw [State.checkedFrame_hit _ r, takeMcast_entry m k]
    · rw [State.checkedFrame_hit _ r, takeMcast_hold m]
  · refine ⟨_, State.frame_up _ h, rfl, rfl, fun i v r m k => ?_, fun i r m k n q => ?_,
      fun i n => (State.meansDrawn_cell _ i).trans (State.onChain_miss _ n)⟩
    · rw [State.meansDrawn_cell, State.onChain_hit _ r, takeMark_entry r.2.2.2.2 m k]
      rfl
    · rw [State.meansDrawn_cell, State.onChain_hit _ r]
      exact takeMark_loses r.2.2.2.2 m k n q
  · refine ⟨_, State.frame_up _ h, (s.checkedFrame_rest c p _).1, fun i r m => ?_, fun i r m d => ?_, fun i r m n d => ?_,
      fun i r n d => ?_⟩
    · rw [State.checkedFrame_hit _ r, takeCfg_hold m]
    · rw [State.checkedFrame_hit _ r, takeCfg_global m d]
    · rw [State.checkedFrame_hit _ r, takeCfg_own m n d]
    · rw [State.checkedFrame_hit _ r, takeCfg_foreign n d]
  · refine ⟨_, State.frame_up _ h, (s.checkedFrame_rest c p _).1, fun i r m d a => ?_, fun i r n => ?_⟩
    · rw [State.checkedFrame_hit _ r, takeArm_selected m d a]
      rfl
    · rw [State.checkedFrame_hit _ r, takeArm_ignored n]
  · refine ⟨_, State.frame_up _ h, (s.checkedFrame_rest c p _).1, fun i a k r m e b n => ?_, fun i r m => ?_⟩
    · rw [State.checkedFrame_hit _ r, takeTrim_own m e b n]
    · rw [State.checkedFrame_hit _ r, takeTrim_hold m]
  · refine ⟨_, State.frame_up _ h, (s.checkedFrame_rest c p _).1, fun i r => State.checkedFrame_hit _ r,
      fun i n => State.checkedFrame_miss _ (n.imp id .inl)⟩
  · have e : execLoopFrame c p s = .next (s.updChain c fun ch => { ch with turned := some (posOf i) }) := by
      simp [execLoopFrame, a, State.frame_up _ h]
    exact ⟨_, e, by simp, rfl⟩
  · exact ⟨_, State.frame_up _ h, by simp [State.passFrame], rfl, rfl⟩
  · refine ⟨_, execUrgSend_sends h ad u r f, ?_, ?_, by simp [urgFrame]⟩
    · exact State.setCell_same s i _
    · exact State.urgFree_taken (s := s.setCell i { s.cell i with urg := l }) (fun _ => rfl) (fun _ => rfl) (fun _ => rfl) fun _ => rfl

/-- Settles O46: the order brings four phases back, but without RSV_EN the arm state stays disarmed, so a droop changes nothing. -/
theorem armWithoutReserve : Obligations.ArmWithoutReserve := by
  unfold Obligations.ArmWithoutReserve
  intro s c p i r m e d a b
  have cell : (s.checkedFrame c p (takeArm p.toNat)).cell i = readd { s.cell i with hintArm := true } := by
    rw [State.checkedFrame_hit _ r, takeArm_selected (by simp [m]) d a, if_pos b]
  have arm : cellArm ((s.checkedFrame c p (takeArm p.toNat)).cell i) = .disarmed := by
    simp [cell, readd, cellArm, m, armOf, e]
  refine ⟨_, State.frame_up _ r.1, ?_, ?_, arm, State.cellEvent_keeps r.1 (droop_disarmed arm)⟩
  · rw [cell]; rfl
  · rw [cell]; rfl

end Sys2Proof.Machine
end

section
/-! PROOF. Polled cells, credited payloads, the calibration block and the input meter's round (R89, R90, R117, R132, R261, R295). -/

namespace Sys2Proof.Machine

/-! ### Polls (R89, R90, R117) -/

theorem pollReply_partial {x : Cell} {p : Nat} (fv fi : BitVec 64) (h : x.partialTlm = some p) :
    pollReply fv fi x = (p, reported p { x with partialTlm := none }) := by
  simp [pollReply, h]

theorem pollReply_full {x : Cell} {p : Nat} (fv fi : BitVec 64) (h : x.partialTlm = none) (f : x.fullTlm = some p) :
    pollReply fv fi x = (p, reported p { x with fullTlm := none }) := by
  simp [pollReply, h, f]

theorem pollReply_soFar {x : Cell} (fv fi : BitVec 64) (h : x.partialTlm = none) (f : x.fullTlm = none) :
    pollReply fv fi x = (cellTlm x ((x.winTag + 15) % 16) false fv fi,
      reported (cellTlm x ((x.winTag + 15) % 16) false fv fi) { x with win := freshWin x }) := by
  simp [pollReply, h, f]

/-- The polled cell's reply goes out on its chain, and no other cell changes. -/
theorem execTlmPoll_answers {s : State} {c : ChainIx} {addr : BitVec 12} {i p : Nat} {y : Cell} (h : s.cellsUp = true)
    (a : s.cellByAddr c addr.toNat = some i) (r : pollReply (s.freeMeans 0).1 (s.freeMeans 0).2 (s.cell i) = (p, y)) :
    ∃ t, execTlmPoll c addr s = .next t ∧ (t.chain c).tlm = some (frameBits 9 p) ∧ t.cell i = y ∧
      (∀ j, j ≠ i → t.cell j = s.cell j) ∧ t.views = s.views := by
  have exec : execTlmPoll c addr s =
      .next ({ s.setCell i y with freeCtr := s.freeCtr + 2 }.updChain c fun ch => { ch with tlm := some (frameBits 9 p) }) := by
    simp [execTlmPoll, h, a, r]
  refine ⟨_, exec, ?_, ?_, fun j n => ?_, rfl⟩
  · rw [State.updChain_same]
  · exact State.setCell_same s i y
  · exact State.setCell_other s i j y n

/-! ### Payloads (R117, R132) -/

theorem execTlmReceived_dropped {s : State} {c : ChainIx} {pos : PosIx} {p : BitVec 64} (k : s.contact (cellAt c pos) = true)
    (r : s.credit c (cellAt c pos) p.toNat = none) :
    execTlmReceived c pos p s = s.fast (s.updChain c fun x => { x with tlmDrop := incSat 255 x.tlmDrop }) := by
  simp [execTlmReceived, k, r]

theorem execTlmReceived_credited {s : State} {c : ChainIx} {pos : PosIx} {p : BitVec 64} {d l : Nat}
    (k : s.contact (cellAt c pos) = true) (r : s.credit c (cellAt c pos) p.toNat = some (d, l)) :
    ∃ oc, execTlmReceived c pos p s = s.fast ((s.recordTlm (cellAt c pos) p.toNat d l).tlmRaises (cellAt c pos) p.toNat d oc) := by
  simp only [execTlmReceived, k, r, Bool.not_true, Bool.false_eq_true, if_false]
  exact ⟨_, rfl⟩

/-- The controller's record of a payload, read field by field. -/
theorem State.recordTlm_view (s : State) (i p d l : Nat) :
    ((s.recordTlm i p d l).view i).tlm = some p ∧ ((s.recordTlm i p d l).view i).offOk = (bits p 27 25 == 0) ∧
    ((s.recordTlm i p d l).view i).ovlRun = (if bitAt p 5 then incSat 15 (s.view i).ovlRun else 0) ∧
    ((s.recordTlm i p d l).view i).syncRun = (if bitAt p 4 then incSat 15 (s.view i).syncRun else 0) ∧
    ((s.recordTlm i p d l).view i).clipRun =
      (if !bitAt p 0 then (if bitAt p 2 then incSat 15 (s.view i).clipRun else 0) else (s.view i).clipRun) := by
  unfold State.recordTlm
  dsimp only
  split <;> simp

/-- No other cell's record changes, and the cell's latest reading waits, last, in the sharing of its lane. -/
theorem State.recordTlm_rest (s : State) (i p d l : Nat) :
    (∀ j, j ≠ i → (s.recordTlm i p d l).view j = s.view j) ∧
    ((s.recordTlm i p d l).lane (laneOf d)).wait = (s.lane (laneOf d)).wait ++ [(i, p, 0)] ∧
    (s.recordTlm i p d l).flt = s.flt ∧ (s.recordTlm i p d l).stopq = s.stopq := by
  unfold State.recordTlm
  dsimp only
  split <;> simp +contextual

/-- A payload without a flag, in a cell without a run of flagged windows, raises nothing and asks for no page. -/
theorem State.tlmRaises_flagless {s : State} {i p : Nat} (d : Nat) (oc : Bool) (b1 : bitAt p 1 = false) (b4 : bitAt p 4 = false)
    (b6 : bitAt p 6 = false) (ovl : (s.view i).ovlRun = 0) (sync : (s.view i).syncRun = 0) (clip : (s.view i).clipRun = 0) :
    s.tlmRaises i p d oc = s := by
  simp [State.tlmRaises, b1, b4, b6, ovl, sync, clip]

/-! ### The calibration block (R261) -/

/-- A cell's record without the payloads credited up to block m. -/
def View.calDropped (m : Nat) (v : View) : View := { v with block := v.block.filter fun x => decide (x.last / 16 > m) }

/-- The data of the calibration up to block m go. -/
def State.calDropped (s : State) (m : Nat) : State :=
  { s with
    views := s.views.map fun (v : Nat × View) => (v.1, v.2.calDropped m)
    accts := s.accts.map fun (a : Nat × DomAcct) => (a.1, { a.2 with blocks := a.2.blocks.filter fun b => decide (b.number > m) }) }

theorem State.calDropped_view (s : State) (m i : Nat) : (s.calDropped m).view i = (s.view i).calDropped m :=
  Tab.get_map ({} : View) s.views (View.calDropped m) i

/-- At the commit that opens epoch 16 m + 24 block m is evaluated where CAL_EN is set, and its data go. -/
theorem execCalBlockUpdate_due {s : State} (a : s.ledger.epoch ≥ 24) (b : s.ledger.epoch % 16 = 8) :
    execCalBlockUpdate s = s.fast ((if wbit s.ledger.ctrl 15 then s.forEach allDoms (fun x d => x.calDomain ((s.ledger.epoch - 24) / 16) d)
      else s).calDropped ((s.ledger.epoch - 24) / 16)) := by
  have due : ¬ (s.ledger.epoch < 24 ∨ s.ledger.epoch % 16 ≠ 8) := by omega
  exact if_neg due

/-! ### The input meter (R295) -/

/-- The sum of a round's four current readings, in A. -/
def State.roundCurrent (s : State) : Rat := (sumN ((List.range 4).map fun k => s.limits.ioutRd.get 0 k) : Rat) / 100

/-- A complete round within a tenth of the meter's mean moves k_in by a sixteenth of the distance, and its readings go. -/
theorem execKInUpdate_within {s : State} {m : Rat} (pv : s.limits.pvMean = some m) (nz : m ≠ 0) (good : s.limits.kBad = false)
    (all : (List.range 4).all (fun k => s.limits.ioutRd.any (·.1 == k)) = true) (near : (s.roundCurrent / m - 1).abs ≤ 1 / 10) :
    execKInUpdate s = s.fast { s with limits := { s.limits with
      kIn := max (9 / 10) (min (11 / 10) (s.limits.kIn + s.limits.kIn * (s.roundCurrent / m - 1) / 16))
      meterBad := 0
      meterRaised := false
      pvMean := none
      ioutRd := [] } } := by
  have step : s.kInStep s.roundCurrent m = { s with limits := { s.limits with
      kIn := max (9 / 10) (min (11 / 10) (s.limits.kIn + s.limits.kIn * (s.roundCurrent / m - 1) / 16))
      meterBad := 0
      meterRaised := false } } := if_pos near
  have round : execKInUpdate s = s.fast { s.kInStep s.roundCurrent m with
      limits := { (s.kInStep s.roundCurrent m).limits with pvMean := none, ioutRd := [] } } := by
    simp only [execKInUpdate, pv, good, all]
    exact if_neg (by simp [nz])
  rw [round, step]

/-- Settles O18: a poll by the cell's reply, a payload by its record, the two updates by the one state each leads to. -/
theorem telemetryAndCalibration : Obligations.TelemetryAndCalibration := by
  unfold Obligations.TelemetryAndCalibration
  refine ⟨fun s c addr i p h a e => execTlmPoll_answers h a (pollReply_partial _ _ e),
    fun s c addr i p h a e f => execTlmPoll_answers h a (pollReply_full _ _ e f), fun s c addr i h a e f => ?_,
    fun s c pos p h k r => ?_, fun s c pos p d l h k r b0 b1 b2 b4 b5 b6 => ?_, fun s u h a b e flt stopq => ?_,
    fun s m h pv nz good all near => ?_⟩
  · obtain ⟨t, exec, tlm, cell, rest⟩ := execTlmPoll_answers h a (pollReply_soFar _ _ e f)
    exact ⟨t, _, exec, tlm, rfl, cell, rest⟩
  · exact ⟨_, (execTlmReceived_dropped k r).trans (State.fast_kept h rfl rfl), by simp, rfl, rfl⟩
  · obtain ⟨oc, exec⟩ := execTlmReceived_credited k r
    obtain ⟨tlm, offOk, ovl, sync, clip⟩ := s.recordTlm_view (cellAt c pos) p.toNat d l
    obtain ⟨others, wait, flt, stopq⟩ := s.recordTlm_rest (cellAt c pos) p.toNat d l
    rw [b5, if_neg Bool.false_ne_true] at ovl
    rw [b4, if_neg Bool.false_ne_true] at sync
    simp only [b0, b2, Bool.not_false, if_true, Bool.false_eq_true, if_false] at clip
    rw [State.tlmRaises_flagless d oc b1 b4 b6 ovl sync clip, State.fast_kept h flt stopq] at exec
    exact ⟨_, exec, tlm, offOk, ovl, wait, others, flt⟩
  · have exec := execCalBlockUpdate_due a b
    rw [← e] at exec
    exact ⟨_, exec.trans (State.fast_kept (t := u.calDropped _) h flt stopq), fun i => u.calDropped_view _ i, rfl⟩
  · exact ⟨_, (execKInUpdate_within pv nz good all near).trans (State.fast_kept h rfl rfl), rfl, rfl⟩

end Sys2Proof.Machine
end

section
/-! PROOF. Enumeration frames at the cells of a chain (R118, R119, R121 to R123, R374). -/

namespace Sys2Proof.Machine

/-! ### Frames passed and answered (R102, R103, R119) -/

@[simp] theorem State.passFrame_passed (s : State) (c : ChainIx) (f : Nat) : ((s.passFrame c f).chain c).passed = some f := by
  simp [State.passFrame]

@[simp] theorem State.reply_rsp (s : State) (c : ChainIx) (type p : Nat) :
    ((s.reply c type p).chain c).rsp = some (frameBits type p) := by
  simp [State.reply]

@[simp] theorem State.reply_cell (s : State) (c : ChainIx) (type p i : Nat) : (s.reply c type p).cell i = s.cell i := rfl

/-- A frame that every cell passes comes back as it went out, and changes no cell (R103). -/
theorem State.frame_passes {s : State} (c : ChainIx) (f : Nat) (h : s.cellsUp = true) :
    ∃ t, s.frame (s.passFrame c f) = .next t ∧ t.cells = s.cells ∧ (t.chain c).passed = some f :=
  ⟨_, State.frame_up _ h, by simp, by simp⟩

/-! ### TOKEN, QUERY, CLEAR and MOVE (R119, R121, R122) -/

section
variable {s : State} {c : ChainIx} {p : BitVec 64} {i : Nat}

theorem execEnumToken_taken (f : s.firstUnaddressed c = some i) : execEnumToken c p s =
    s.frame ((s.updCell i (takeAddress (bits p.toNat 55 44) (bits p.toNat 63 56))).reply c 0xB
      (enumAckOf p.toNat (bits p.toNat 39 0))) := by
  simp only [execEnumToken, f]

theorem execEnumToken_passed (f : s.firstUnaddressed c = none) :
    execEnumToken c p s = s.frame (s.passFrame c (frameBits 0xB p.toNat)) := by
  simp only [execEnumToken, f]

theorem execEnumQuery_answered (a : s.cellByAddr c (bits p.toNat 55 44) = some i) : execEnumQuery c p s =
    s.frame (s.reply c 0xB (enumAckOf p.toNat (packN [(39, 32, (s.cell i).gen), (31, 29, modeCode (s.cell i)),
      (28, 27, selCode (s.cell i).sel), (26, 26, b2n ((s.cell i).mode == .hold))]))) := by
  simp only [execEnumQuery, a]

theorem execEnumClear_off (a : s.cellByAddr c (bits p.toNat 55 44) = some i) (m : (s.cell i).mode = .off) :
    execEnumClear c p s = s.frame (s.updCell i fun x => { x with addr := none, gen := 0 }) := by
  simp only [execEnumClear, a, if_pos m]

theorem execEnumMove_off (a : s.cellByAddr c (bits p.toNat 55 44) = some i) (m : (s.cell i).mode = .off) :
    execEnumMove c p s = s.frame ((s.updCell i fun x => { x with addr := some (bits p.toNat 11 0) }).reply c 0xB
      (enumAckOf p.toNat (bits p.toNat 39 0))) := by
  simp only [execEnumMove, a, if_pos m]

/-- Outside OFF both CLEAR and MOVE are passed (R119, R121). -/
theorem execEnum_passed (a : s.cellByAddr c (bits p.toNat 55 44) = some i) (m : (s.cell i).mode ≠ .off) :
    execEnumClear c p s = s.frame (s.passFrame c (frameBits 0xB p.toNat)) ∧
    execEnumMove c p s = s.frame (s.passFrame c (frameBits 0xB p.toNat)) := by
  simp only [execEnumClear, execEnumMove, a, if_neg m, and_self]

end

/-- Settles O24: TOKEN by the first cell without an address, the other frames by the cell they address and its MODE. -/
theorem enumerationFrames : Obligations.EnumerationFrames := by
  unfold Obligations.EnumerationFrames
  refine ⟨fun s c p i h f => ?_, fun s c p h f => ?_, fun s c p h => State.frame_passes c _ h, fun s c p i h a => ?_,
    fun s c p i h a m => ?_, fun s c p i h a m => ?_, fun s c p i h a m => ?_⟩
  · exact ⟨_, (execEnumToken_taken f).trans (State.frame_up _ h), (State.reply_cell _ _ _ _ _).trans (State.updCell_same _ _ _),
      fun j n => (State.reply_cell _ _ _ _ _).trans (State.updCell_other _ _ _ _ n), by simp, by simp⟩
  · obtain ⟨t, exec, rest⟩ := State.frame_passes c (frameBits 0xB p.toNat) h
    exact ⟨t, (execEnumToken_passed f).trans exec, rest⟩
  · exact ⟨_, (execEnumQuery_answered a).trans (State.frame_up _ h), by simp, by simp⟩
  · exact ⟨_, (execEnumClear_off a m).trans (State.frame_up _ h), State.updCell_same _ _ _, fun j => State.updCell_other _ _ _ _, rfl⟩
  · exact ⟨_, (execEnumMove_off a m).trans (State.frame_up _ h), (State.reply_cell _ _ _ _ _).trans (State.updCell_same _ _ _),
      fun j n => (State.reply_cell _ _ _ _ _).trans (State.updCell_other _ _ _ _ n), by simp⟩
  · obtain ⟨t, exec, cells, passed⟩ := State.frame_passes c (frameBits 0xB p.toNat) h
    obtain ⟨clear, move⟩ := execEnum_passed a m
    exact ⟨t, t, clear.trans exec, move.trans exec, cells, cells, passed, passed⟩

end Sys2Proof.Machine
end

section
/-! PROOF. The state at reset (R138, R184, R279, R283, R286, R329, R331, R337, R363, R364, R424). -/

namespace Sys2Proof.Machine

/-- Settles O11: the vault is erased and no domain is listed, so that each reads as its kind's reset value; the registers stand so. -/
theorem resetState : Obligations.ResetState := by
  unfold Obligations.ResetState
  refine ⟨?erased, ?waiting, ?domains, ?supply, ?registers⟩
  case erased => rfl
  case waiting => rfl
  case domains => exact fun d => congrArg Dom.st (Tab.get_nil _ d)
  case supply => rfl
  case registers => exact ⟨rfl, rfl, rfl, rfl, rfl, rfl, rfl, rfl, rfl, rfl, rfl⟩

end Sys2Proof.Machine
end

section
/-! SUPPORT. The commands in flight once some have finished, the loan of a chain as orders are queued, and the audits of a cell. -/

namespace Sys2Proof.Machine

/-- A command of the fast side that begins no run of lost events and no stop sequence ends with the check of ALERT_N alone. -/
theorem State.fast_quiet {s t : State} (h : s.fastRuns = true) (f : t.flt.eventLostRun = s.flt.eventLostRun)
    (q : t.stopq.active = s.stopq.active) : s.fast t = .next t.alertUpdate := (State.fast_runs t h).trans (settle_quiet f q)

/-! ### Commands in flight (R472) -/

@[simp] theorem State.complete_flights (s : State) (x : CmdCtx) (op st d : Nat) :
    (s.complete x op st d).rings.flights = s.rings.flights := by
  unfold State.complete State.pushCompl
  repeat' split
  all_goals rfl

/-- The commands that a test answers leave, the others stay in their order. -/
theorem State.finishWhere_flights (s : State) (p : Flight → Option (Nat × Nat)) :
    (s.finishWhere p).rings.flights = s.rings.flights.filter fun f => (p f).isNone :=
  foldl_keeps (·.rings.flights) _ _ _ fun t f => by split <;> simp

theorem State.finishWhere_unanswered {s : State} {p : Flight → Option (Nat × Nat)} {f : Flight}
    (h : f ∈ (s.finishWhere p).rings.flights) : p f = none := by
  rw [State.finishWhere_flights] at h
  exact Option.isNone_iff_eq_none.1 (List.mem_filter.1 h).2

theorem State.finish_waits {s : State} {w : WaitFor} {st d : Nat} {f : Flight} (h : f ∈ (s.finish w st d).rings.flights) :
    f.waits ≠ w := fun e => absurd (State.finishWhere_unanswered h) (by simp [e])

@[simp] theorem State.finishWhere_chain (s : State) (p : Flight → Option (Nat × Nat)) (c : Nat) : (s.finishWhere p).chain c = s.chain c := by
  simp [State.chain]

@[simp] theorem State.finish_chain (s : State) (w : WaitFor) (st d c : Nat) : (s.finish w st d).chain c = s.chain c := by
  simp [State.finish]

/-! ### Loans and queued orders (R126, R128) -/

@[simp] theorem State.queueOrder_loan (s : State) (i op arg : Nat) (o : Origin) (c : Nat) :
    ((s.queueOrder i op arg o).chain c).loan = (s.chain c).loan := by
  by_cases h : c = chainOf i
  · simp only [State.queueOrder, h, State.updChain_same]
    split <;> rfl
  · simp only [State.queueOrder, State.updChain_other _ _ _ _ h]

@[simp] theorem State.updLoan_loan (s : State) (c : Nat) (f : Loan → Loan) :
    ((s.updLoan c f).chain c).loan = (s.chain c).loan.map f := by
  simp [State.updLoan]

/-! ### Cell audits (R413, R414) -/

theorem mem_insertSorted (i : Nat) (l : List Nat) : i ∈ insertSorted i l := by
  induction l with
  | nil => simp [insertSorted]
  | cons k t ih =>
    unfold insertSorted
    split
    · simp
    · split
      · simp [*]
      · simp [ih]

/-- An audit that concludes lasting puts its cell into the shed map (R414). -/
theorem State.auditLasting_shed (s : State) (a : CAudit) : a.cell ∈ (s.auditLasting a).flt.shed := by
  simp [State.auditLasting, mem_insertSorted]

end Sys2Proof.Machine
end

section
/-! PROOF. Replies, urgent reports, aged orders, loans and cell audits (R115, R116, R126, R128, R130, R413, R414). -/

namespace Sys2Proof.Machine

section
variable {s : State} {c : ChainIx} {p : BitVec 64}

/-! ### Replies and reports (R115, R116, R126) -/

/-- Only an answered LOAN_SW advances the generation of its chain (R125). -/
theorem State.genAdvance_other {o : Order} (n : o.op ≠ 4) : s.genAdvance c o = s := if_neg fun k => n k.1

theorem execRspReceived_ok {o : Order} (m : (s.chain c).onRing.find? (rspMatches p.toNat) = some o) (n : o.op ≠ 4)
    (ok : bits p.toNat 35 32 = 0) : execRspReceived c p s =
      s.fast ((s.updChain c fun x => { x with onRing := x.onRing.erase o }).orderResult o (some (0, bits p.toNat 31 0))) := by
  simp only [execRspReceived, m, ok, if_true, State.genAdvance_other n, Nat.zero_ne_one, if_false]

/-- The OK reply to the order of a READ_CELL finishes that command with its data (R478). -/
theorem State.orderResult_read {o : Order} {g x : Nat} (d : Nat) (h : o.origin = .ring g x) : s.orderResult o (some (0, d)) =
    s.finishWhere fun f => if f.x.ring.val == g && f.x.index.toNat == x then some (stOk, d) else none := by
  simp only [State.orderResult, h]

theorem execUrgReceived_overcurrent (i : chainOf (bits p.toNat 55 44) = c.val) (k : bits p.toNat 43 40 = 1) :
    execUrgReceived c p s = s.fast (s.raise 0 (bits p.toNat 55 44)) := by
  simp only [execUrgReceived, i, k, ne_eq, not_true, if_false]

/-- A self-test report as the audit of its cell takes it (R414). -/
def takeBitmap (b : Nat) (a : CAudit) : CAudit := if a.st = .testing then { a with st := .reported b } else a

theorem execUrgReceived_selftest (i : chainOf (bits p.toNat 55 44) = c.val) (k : bits p.toNat 43 40 = 3) :
    execUrgReceived c p s = s.fast (s.updAudit (bits p.toNat 55 44) (takeBitmap (bits p.toNat 7 0))) := by
  simp only [execUrgReceived, i, k, ne_eq, not_true, if_false]
  rfl

/-- Orders of the warden that go back STALE are counted, and nothing follows from them (R126, R142). -/
theorem foldl_orderStale_warden (l : List Order) (h : ∀ o ∈ l, o.origin = .warden) (s : State) :
    ∃ n, l.foldl (fun s o => s.orderStale o) s = { s with creg := { s.creg with staleCnt := n } } := by
  induction l generalizing s with
  | nil => exact ⟨s.creg.staleCnt, rfl⟩
  | cons o l ih =>
    have one : s.orderStale o = { s with creg := { s.creg with staleCnt := incSat 255 s.creg.staleCnt } } := by
      simp only [State.orderStale, State.orderResult, h o List.mem_cons_self]
      split
      · simp_all
      · rfl
    obtain ⟨n, rest⟩ := ih (fun y m => h y (List.mem_cons_of_mem _ m)) (s.orderStale o)
    exact ⟨n, by rw [List.foldl_cons, rest, one]⟩

/-- A chain without its orders of more than 16 epochs. -/
def Chain.withoutAged (x : Chain) : Chain := { x with
  wardenQ := x.wardenQ.filter fun o => !decide (o.age > 16)
  cmdQ := x.cmdQ.filter fun o => !decide (o.age > 16) }

theorem execQueueAgeDrop_warden (h : ∀ o, o ∈ (s.chain c).wardenQ ++ (s.chain c).cmdQ → 16 < o.age → o.origin = .warden) :
    ∃ n, execQueueAgeDrop c s = s.fast { s.updChain c Chain.withoutAged with creg := { s.creg with staleCnt := n } } := by
  have old : ∀ o ∈ (s.chain c).wardenQ.filter (fun o => decide (o.age > 16)) ++ (s.chain c).cmdQ.filter (fun o => decide (o.age > 16)),
      o.origin = .warden := by
    intro o m
    rw [← List.filter_append, List.mem_filter, decide_eq_true_eq] at m
    exact h o m.1 m.2
  obtain ⟨n, all⟩ := foldl_orderStale_warden _ old (s.updChain c Chain.withoutAged)
  exact ⟨n, congrArg s.fast all⟩

/-! ### The start and the end of a loan (R128, R130) -/

section
variable {l : Loan}

theorem execLoanStart_accepted (a : (s.chain c).loan = some l) (b : l.step = .accepted) (r : l.recalling = false) :
    execLoanStart c s = s.fast (s.loanBegin c l) := by
  simp [execLoanStart, a, b, r]

theorem execRecallStart_accepted (a : (s.chain c).loan = some l) (b : l.step = .accepted) (r : l.recalling = true) :
    execRecallStart c s = s.fast (s.loanBegin c l) := by
  simp [execRecallStart, a, b, r]

/-- At its commit E a loan sends ZERO, a recall of R130 LOAN_SW alone. -/
theorem State.loanBegin_loan (a : (s.chain c).loan = some l) : ((s.loanBegin c l).chain c).loan =
    some { l with step := if l.recalling && s.recallDirect l.cell then .direct else .zeroSent, commits := 0 } := by
  unfold State.loanBegin
  dsimp only
  split <;> simp [*]

/-- The cell leaves its role, and the controller's view of no other cell changes. -/
theorem State.loanBegin_view (c : Nat) (l : Loan) (i : Nat) :
    (s.loanBegin c l).view i = (s.updView l.cell fun v => { v with moving := true, runOk := false, offOk := false }).view i := by
  refine congrArg (fun t => Tab.get ({} : View) t i) ?_
  unfold State.loanBegin
  dsimp only
  split <;> simp

/-- The loan's place in its chain is free, its command is answered, and its target is armed again (R478). -/
def State.loanReleased (s : State) (c : Nat) (l : Loan) : State :=
  (s.loanEnd c l stOk).updAcct l.target fun a => { a with rearm := true }

theorem execLoanComplete_joined (a : (s.chain c).loan = some l) (j : l.step = .joined) (n : 6 ≤ l.commits) (e : s.flt.audits = []) :
    execLoanComplete c s =
      s.fast (if l.cover && l.recalling then (s.loanReleased c l).coverDone l.cell else s.loanReleased c l) := by
  have due : ¬ l.commits < 6 := Nat.not_lt.2 n
  simp only [execLoanComplete, a, j, due]
  simp [State.loanReleased, State.loanEnd, e]

theorem State.loanReleased_loan (s : State) (c : Nat) (l : Loan) : ((s.loanReleased c l).chain c).loan = none := by
  simp [State.loanReleased, State.loanEnd]

theorem State.loanReleased_rearm (s : State) (c : Nat) (l : Loan) : ((s.loanReleased c l).acct l.target).rearm = true := by
  simp [State.loanReleased]

theorem State.loanReleased_flights {f : Flight} (h : f ∈ (s.loanReleased c l).rings.flights) : f.waits ≠ .loan l.cell :=
  State.finish_waits h

end

end

/-! ### Cell audits out of time (R413, R414) -/

section
variable {s : State} {i : CellIx} {a : CAudit}

/-- What becomes of an audit that concluded without a report: a swing cell is isolated once it shows OFF (R414). -/
def State.auditUnreported (s : State) (i : Nat) : State :=
  if (swingNo i).isSome then s.updAudit i fun x => { x with st := .stopping, counted := true } else s.dropAudit i

/-- The audit alone changes, and the stop of its cell may be asked for: no cell, no domain and no shed map. -/
@[simp] theorem State.auditUnreported_keeps (s : State) (i : Nat) : (s.auditUnreported i).cells = s.cells ∧
    (s.auditUnreported i).doms = s.doms ∧ (s.auditUnreported i).flt.shed = s.flt.shed ∧
    (s.auditUnreported i).flt.eventLostRun = s.flt.eventLostRun ∧ (s.auditUnreported i).stopq.active = s.stopq.active := by
  unfold State.auditUnreported
  split <;> exact ⟨rfl, rfl, rfl, rfl, rfl⟩

theorem execSelftestTimeout_testing (f : s.flt.audits.find? (fun a => a.cell == i.val) = some a) (t : a.st = .testing) :
    execSelftestTimeout i s = settle s (((s.queueOrder i 2 0 .audit).auditLasting a).auditUnreported i) := by
  simp only [execSelftestTimeout, f, t, ne_eq, not_true, if_false, State.auditUnreported]

/-- The audit counted as deferred: it holds its incident no longer (R413). -/
def Faults.auditDeferred (f : Faults) (a : CAudit) (l : List CAudit) : Faults := { f with
  audits := l
  shedDefer := incSat 255 f.shedDefer
  inc := if f.inc.open_ && !a.counted then { f.inc with audits := f.inc.audits - 1 } else f.inc }

theorem execAuditDeferLimit_due (f : s.flt.audits.find? (fun a => a.cell == i.val) = some a) (w : a.st = .waiting) (l : a.limit = false)
    (n : 500 ≤ a.deferred) : execAuditDeferLimit i s = settle s { s with
      flt := s.flt.auditDeferred a (s.updAudit i fun x => { x with counted := true, limit := true }).flt.audits } := by
  have due : ¬ a.deferred < 500 := Nat.not_lt.2 n
  simp only [execAuditDeferLimit, f, w, l, due]
  rfl

end

/-- Settles O6: a reply by its originator, a report by its audit or its raise, a loan by its mark in the chain, an audit by its conclusion. -/
theorem repliesLoansAndCellAudits : Obligations.RepliesLoansAndCellAudits := by
  unfold Obligations.RepliesLoansAndCellAudits
  refine ⟨fun s c p o g x h m r n ok => ?reply, fun s c p h i k => ?overcurrent, fun s c p h i k => ?selftest, fun s c h w => ?aged,
    fun s c l h a b r => ?loan, fun s c l h a b r => ?recallOf, fun s c l h a j n e => ?complete, fun s i a f t => ?timeout,
    fun s i a f w l n => ?deferred⟩
  case reply =>
    have exec := execRspReceived_ok m n ok
    rw [State.orderResult_read _ r] at exec
    refine ⟨_, exec.trans (State.fast_kept h (by simp) (by simp)), by simp, fun y my hy => ?_, by simp⟩
    exact absurd (State.finishWhere_unanswered my) (by simp [hy])
  case overcurrent =>
    refine ⟨_, (execUrgReceived_overcurrent i k).trans (State.fast_runs _ h), ?_, by simp⟩
    rw [closing_raised _ _ (by decide), raise_raised, Tab.get_modify_same]
  case selftest =>
    refine ⟨_, (execUrgReceived_selftest i k).trans (State.fast_quiet h (by simp) (by simp)), fun a m e t => ?_, fun a m e => ?_, by simp⟩
    · exact List.mem_map.2 ⟨a, m, by simp [e, takeBitmap, t]⟩
    · exact List.mem_map.2 ⟨a, m, if_neg e⟩
  case aged =>
    obtain ⟨n, exec⟩ := execQueueAgeDrop_warden w
    have queues : (s.updChain c Chain.withoutAged).chain c = (s.chain c).withoutAged := State.updChain_same _ _ _
    exact ⟨_, exec.trans (State.fast_kept h rfl rfl), congrArg Chain.wardenQ queues, congrArg Chain.cmdQ queues, rfl⟩
  case loan =>
    refine ⟨_, (execLoanStart_accepted a b r).trans (State.fast_kept h (by simp) (by simp)), ?_, ?_, ?_, fun i ne => ?_, by simp⟩
    · simp [State.loanBegin_view]
    · simp [State.loanBegin_view]
    · simp [State.loanBegin_loan a, r]
    · simp [State.loanBegin_view, ne]
  case recallOf =>
    refine ⟨_, (execRecallStart_accepted a b r).trans (State.fast_kept h (by simp) (by simp)), ?_, ?_, fun i ne => ?_, by simp⟩
    · simp [State.loanBegin_view]
    · simp [State.loanBegin_loan a, r]
    · simp [State.loanBegin_view, ne]
  case complete =>
    refine ⟨_, (execLoanComplete_joined a j n e).trans (State.fast_quiet h ?_ ?_), ?_, ?_, fun f mf => ?_, ?_⟩
    · split <;> simp [State.loanReleased]
    · split <;> simp [State.loanReleased]
    · exact (congrArg Chain.loan (congrArg (fun t => Tab.get ({} : Chain) t c) (by split <;> simp))).trans (s.loanReleased_loan c l)
    · exact (congrArg DomAcct.rearm (congrArg (fun t => Tab.get ({} : DomAcct) t l.target) (by split <;> simp))).trans (s.loanReleased_rearm c l)
    · refine State.loanReleased_flights (s := s) (c := c) ?_
      split at mf <;> simpa using mf
    · split <;> simp [State.loanReleased, State.loanEnd]
  case timeout =>
    have cell : a.cell = i.val := by simpa using List.find?_some f
    refine ⟨_, (execSelftestTimeout_testing f t).trans (settle_quiet (by simp) (by simp)), ?_, by simp, by simp⟩
    simpa [cell] using State.auditLasting_shed (s.queueOrder i 2 0 .audit) a
  case deferred =>
    refine ⟨_, (execAuditDeferLimit_due f w l n).trans (settle_quiet rfl rfl), rfl, ?_, rfl, rfl⟩
    simp only [Faults.auditDeferred, Bool.and_eq_true, Bool.not_eq_true']
    exact apply_ite Incident.audits _ _ _

end Sys2Proof.Machine
end

section
/-! SUPPORT. How a ready host command ends: refused it completes with its status, accepted it waits for what finishes it (R471 to R476). -/

namespace Sys2Proof.Machine

/-- The check of ALERT_N changes the SMBus target alone. -/
theorem State.alertUpdate_eq (s : State) : s.alertUpdate = { s with smb := s.alertUpdate.smb } := rfl

/-- A ready command's completion has a place. -/
theorem State.HostReady.room {s : State} {x : CmdCtx} {op : Nat} (h : s.HostReady x op) :
    s.rings.complOut.length < complDepth ∧ s.rings.complWait = [] := by
  obtain ⟨_, wait, _, _⟩ := h
  simp only [State.mustWait, State.complFull, Bool.or_eq_false_iff, decide_eq_false_iff_not, Nat.not_le, Bool.not_eq_false',
    List.isEmpty_iff] at wait
  exact wait.1.1.1.1

theorem State.complete_completed {s : State} {x : CmdCtx} {op : Nat} (st d : Nat) (h : s.HostReady x op) :
    s.Completed (s.complete x op st d) x op st d := by
  unfold State.Completed State.complete
  split
  · rfl
  · simp [State.pushCompl, h.room]

theorem State.complete_eq (s : State) (x : CmdCtx) (op st d : Nat) :
    s.complete x op st d = { s with rings := (s.complete x op st d).rings } := by
  unfold State.complete State.pushCompl
  repeat' split
  all_goals rfl

/-- A ready command that is refused completes with its status, and nothing else changes. -/
theorem State.hostCmd_refused {s : State} {c : Instr} {x : CmdCtx} {op st : Nat} (e : hostCtx c = some (x, op)) (h : s.HostReady x op)
    (r : s.hostRun c = refuse st) :
    ∃ t, s.hostCmd c = .next t ∧ s.Completed t x op st 0 ∧ t = { s with rings := t.rings, smb := t.smb } := by
  have exec : s.hostCmd c = settle s (s.complete x op st 0) := by rw [State.hostCmd_ready e h, r]; rfl
  refine ⟨_, exec.trans (settle_kept (by simp) (by simp)), State.complete_completed st 0 h, ?_⟩
  rw [State.alertUpdate_eq, State.complete_eq]

/-- A ready command that is accepted leaves the state of its effect. -/
theorem State.hostCmd_accepted {s t : State} {c : Instr} {x : CmdCtx} {op : Nat} (e : hostCtx c = some (x, op)) (h : s.HostReady x op)
    (r : s.hostRun c = .ok t) (f : t.flt.eventLostRun = s.flt.eventLostRun) (q : t.stopq.active = s.stopq.active) :
    s.hostCmd c = .next t.alertUpdate := by
  rw [State.hostCmd_ready e h, r]
  exact settle_quiet f q

theorem State.addFlight_inFlight (s : State) (x : CmdCtx) (op : Nat) (w : WaitFor) (d : Nat) : (s.addFlight x op w d).InFlight x op w d :=
  ⟨_, rfl⟩

theorem State.loanAccept_loan (s : State) (i : Nat) (back cover : Bool) (origin : Origin) :
    ((s.loanAccept i back cover origin).chain (chainOf i)).loan = some {
      cell := i, recalling := back, home := homeDom i, host := facing i, step := .accepted, origin := origin, cover := cover } := by
  simp [State.loanAccept]

end Sys2Proof.Machine
end

section
/-! PROOF. Loans, recalls, reads, snapshots and sequence lists ordered by host software (R114, R127, R209, R250, R478). -/

namespace Sys2Proof.Machine

/-! ### The verdicts (R127, R478) -/

section
variable {s : State} {x : CmdCtx} {i d : Nat}

theorem State.runLoanCell_allowed (hi : i < 2304) (hd : d < 48) (k : s.loanCheck i (some d) = stOk) : s.runLoanCell x i d =
    .ok ((s.loanAccept i false false (.ring x.ring x.index.toNat)).addFlight x 0x09 (.loan i)) := by
  simp [State.runLoanCell, noDomain, Nat.not_le.2 hi, Nat.not_le.2 hd, k]

theorem State.runLoanCell_refused (hi : i < 2304) (hd : d < 48) (k : s.loanCheck i (some d) ≠ stOk) :
    s.runLoanCell x i d = refuse (s.loanCheck i (some d)) := by
  simp [State.runLoanCell, noDomain, Nat.not_le.2 hi, Nat.not_le.2 hd, k]

theorem State.runRecallCell_allowed (hi : i < 2304) (k : s.recallCheck i = stOk) : s.runRecallCell x i =
    .ok ((s.loanAccept i true false (.ring x.ring x.index.toNat)).addFlight x 0x0A (.loan i)) := by
  simp [State.runRecallCell, Nat.not_le.2 hi, k]

theorem State.runRecallCell_refused (hi : i < 2304) (k : s.recallCheck i ≠ stOk) : s.runRecallCell x i = refuse (s.recallCheck i) := by
  simp [State.runRecallCell, Nat.not_le.2 hi, k]

theorem State.runReadCell_inContact {p : Nat} (hi : i < 2304) (k : s.contact i = true) : s.runReadCell x i p =
    .ok ((s.queueOrder i 7 p (.ring x.ring x.index.toNat)).addFlight x 0x0B (.rsp i p)) := by
  simp [State.runReadCell, Nat.not_le.2 hi, k]

theorem State.runReadCell_lost {p : Nat} (hi : i < 2304) (k : s.contact i = false) : s.runReadCell x i p = refuse stChain := by
  simp [State.runReadCell, Nat.not_le.2 hi, k]

/-- No command reaches a cell past the last. -/
theorem State.runCell_bad {p : Nat} (hi : 2304 ≤ i) :
    s.runLoanCell x i d = refuse stBad ∧ s.runRecallCell x i = refuse stBad ∧ s.runReadCell x i p = refuse stBad := by
  simp [State.runLoanCell, State.runRecallCell, State.runReadCell, hi]

/-- An order that is not the warden's waits last among the commands of its chain (R106). -/
theorem State.queueOrder_cmdQ (s : State) (i op arg : Nat) {o : Origin} (h : o ≠ .warden) :
    ((s.queueOrder i op arg o).chain (chainOf i)).cmdQ =
      (s.chain (chainOf i)).cmdQ ++ [{ addr := i, op := op, arg := arg, origin := o, role := s.role i }] := by
  simp only [State.queueOrder, State.updChain_same, if_neg h]

end

/-! ### Sequence lists (R209, R481) -/

section
variable {s : State} {d : Nat} {l : SeqSet}

@[simp] theorem State.reconf_dsc (s : State) (k : Nat) (ts : List Nat) (d : Nat) : (s.reconf k ts).dsc d = s.dsc d := by
  simp [State.dsc]

@[simp] theorem State.finish_dsc (s : State) (w : WaitFor) (st x d : Nat) : (s.finish w st x).dsc d = s.dsc d := by
  simp [State.dsc]

@[simp] theorem State.addFlight_dsc (s : State) (x : CmdCtx) (op : Nat) (w : WaitFor) (d : Nat) : (s.addFlight x op w).dsc d = s.dsc d := by
  simp [State.dsc]

@[simp] theorem State.listsDone_dsc (s : State) (k d : Nat) : (s.listsDone k).dsc d = s.dsc d := by
  unfold State.listsDone State.dsc
  split <;> simp

theorem State.takeReg_dsc (h : (s.dsc d).nextReg = some l) : (s.takeReg d).dsc d =
    { s.dsc d with active := { (s.dsc d).active with len := l.len, mask := l.mask, reg := l.reg }, nextReg := none } := by
  simp [State.takeReg, h]

theorem State.takeInj_dsc (h : (s.dsc d).nextInj = some l) : (s.takeInj d).dsc d =
    { s.dsc d with active := { (s.dsc d).active with injLen := l.injLen, inj := l.inj }, nextInj := none } := by
  simp [State.takeInj, h]

/-- The lists as they wait for what is in progress. -/
def State.listsWait (s : State) (d : Nat) (l : SeqSet) : State := s.updDsc d fun x => { x with nextReg := some l, nextInj := some l }

theorem State.seqActivate_idle (m : (s.dsc d).am = .idle) : s.seqActivate d l = (((s.listsWait d l).takeReg d).takeInj d).listsDone d := by
  simp [State.seqActivate, State.listsWait, Dsc.inRound, m]

/-- On an idle converter both lists are active at once (R209). -/
theorem State.seqActivate_idle_active (m : (s.dsc d).am = .idle) : ((s.seqActivate d l).dsc d).active =
    { (s.dsc d).active with len := l.len, mask := l.mask, reg := l.reg, injLen := l.injLen, inj := l.inj } := by
  have reg := State.takeReg_dsc (s := s.listsWait d l) (d := d) (l := l) (by simp [State.listsWait])
  have inj := State.takeInj_dsc (s := (s.listsWait d l).takeReg d) (d := d) (l := l) (by rw [reg]; simp [State.listsWait])
  rw [State.seqActivate_idle m, State.listsDone_dsc, inj, reg]

/-- A list that becomes active changes the converter and its tallies. -/
@[simp] theorem State.takeReg_keeps (s : State) (d : Nat) :
    (s.takeReg d).cells = s.cells ∧ (s.takeReg d).doms = s.doms ∧ (s.takeReg d).rings = s.rings := by
  unfold State.takeReg
  split <;> simp

@[simp] theorem State.takeInj_keeps (s : State) (d : Nat) :
    (s.takeInj d).cells = s.cells ∧ (s.takeInj d).doms = s.doms ∧ (s.takeInj d).rings = s.rings := by
  unfold State.takeInj
  split <;> simp

@[simp] theorem State.listsDone_keeps (s : State) (d : Nat) : (s.listsDone d).cells = s.cells ∧ (s.listsDone d).doms = s.doms := by
  unfold State.listsDone
  split <;> simp

@[simp] theorem State.seqActivate_keeps (s : State) (d : Nat) (l : SeqSet) :
    (s.seqActivate d l).cells = s.cells ∧ (s.seqActivate d l).doms = s.doms := by
  simp [State.seqActivate, State.ite_cells, State.ite_doms]

theorem State.listsDone_waits (h : (s.dsc d).nextReg = some l) : s.listsDone d = s := by
  simp [State.listsDone, h]

/-- The injected list never waits for a regular round: the regular list and the one in force stay. -/
theorem State.takeInj_regular (s : State) (d : Nat) : ((s.takeInj d).dsc d).nextReg = (s.dsc d).nextReg ∧
    ((s.takeInj d).dsc d).active.reg = (s.dsc d).active.reg := by
  unfold State.takeInj
  split <;> simp

/-- In a round the regular list waits for its end, and no SET_SEQUENCE completes (R209, R481). -/
theorem State.seqActivate_inRound (r : (s.dsc d).inRound = true) : ((s.seqActivate d l).dsc d).nextReg = some l ∧
    ((s.seqActivate d l).dsc d).active.reg = (s.dsc d).active.reg ∧ (s.seqActivate d l).rings = s.rings := by
  have waits : ((s.listsWait d l).dsc d).nextReg = some l ∧ ((s.listsWait d l).dsc d).active.reg = (s.dsc d).active.reg := by
    simp [State.listsWait]
  have injected := (s.listsWait d l).takeInj_regular d
  rw [waits.1, waits.2] at injected
  obtain e | e : s.seqActivate d l = (s.listsWait d l).listsDone d ∨ s.seqActivate d l = ((s.listsWait d l).takeInj d).listsDone d := by
    simp only [State.seqActivate, r, if_true, State.listsWait]
    split
    · exact .inl rfl
    · exact .inr rfl
  · rw [e, State.listsDone_waits waits.1]
    exact ⟨waits.1, waits.2, rfl⟩
  · rw [e, State.listsDone_waits injected.1]
    exact ⟨injected.1, injected.2, (State.takeInj_keeps _ _).2.2⟩

end

/-! ### SNAPSHOT and SET_SEQUENCE (R114, R250, R476, R478) -/

section
variable {s : State} {x : CmdCtx} {d n j : Nat} {l : List Word}

theorem State.runSnapshot_aligned {a : Nat} (h : a % 64 = 0) : s.runSnapshot x a = .ok (s.addFlight x 0x0C (.snapshot a)) := by
  simp [State.runSnapshot, h]

theorem State.runSnapshot_misaligned {a : Nat} (h : a % 64 ≠ 0) : s.runSnapshot x a = refuse stBad := by
  simp [State.runSnapshot, h]

/-- What SET_SEQUENCE leaves before its lists go to the converter: an earlier one is superseded, the list staged, the command in flight. -/
def State.listsStaged (s : State) (x : CmdCtx) (d : Nat) (q : SeqSet) : State :=
  ((s.finish (.lists d) stSuperseded 0).updDsc d fun y => { y with staging := q }).addFlight x 0x0E (.lists d)

theorem State.runSetSequence_ok {q : SeqSet} (e : q = seqList (s.dsc d).staging n j l) (hd : d < 48) (hn : n ≤ 64) (hj : j ≤ 8)
    (k : seqOk d q = true) : s.runSetSequence x d n j { words := l, ok := true } = .ok ((s.listsStaged x d q).seqActivate d q) := by
  subst e
  simp [State.runSetSequence, noDomain, Nat.not_le.2 hd, Nat.not_lt.2 hn, Nat.not_lt.2 hj, k, State.listsStaged]

theorem State.runSetSequence_bad
    (h : 48 ≤ d ∨ 64 < n ∨ 8 < j ∨ seqOk d (seqList (s.dsc d).staging n j l) = false) :
    s.runSetSequence x d n j { words := l, ok := true } = refuse stBad := by
  obtain h | h | h | h := h <;> simp [State.runSetSequence, noDomain, h]

/-- Staging leaves the converter's mode and the lists in force. -/
theorem State.listsStaged_dsc (s : State) (x : CmdCtx) (d : Nat) (q : SeqSet) :
    (s.listsStaged x d q).dsc d = { s.dsc d with staging := q } := by
  simp [State.listsStaged]

theorem State.listsStaged_inFlight (s : State) (x : CmdCtx) (d : Nat) (q : SeqSet) :
    (s.listsStaged x d q).InFlight x 0x0E (.lists d) 0 := State.addFlight_inFlight _ _ _ _ _

@[simp] theorem State.listsStaged_keeps (s : State) (x : CmdCtx) (d : Nat) (q : SeqSet) :
    (s.listsStaged x d q).cells = s.cells ∧ (s.listsStaged x d q).doms = s.doms ∧
    (s.listsStaged x d q).flt.eventLostRun = s.flt.eventLostRun ∧ (s.listsStaged x d q).stopq.active = s.stopq.active := by
  simp [State.listsStaged]

/-- SET_SEQUENCE with lists that pass every check hands them to the converter. -/
theorem execSetSequence_ok {x : CmdCtx} {d : BitVec 6} {n : BitVec 7} {j : BitVec 4} {q : SeqSet} (a : Word64) (h : s.HostReady x 0x0E)
    (e : q = seqList (s.dsc d.toNat).staging n.toNat j.toNat l) (hd : d.toNat < 48) (hn : n.toNat ≤ 64) (hj : j.toNat ≤ 8)
    (k : seqOk d.toNat q = true) : exec (.setSequence x d n j a { words := l, ok := true }) s =
      .next ((s.listsStaged x d.toNat q).seqActivate d.toNat q).alertUpdate :=
  State.hostCmd_accepted (c := .setSequence x d n j a { words := l, ok := true }) rfl h (State.runSetSequence_ok e hd hn hj k)
    (by simp) (by simp)

end

/-- Settles O28: each verdict of R127 and R478, as a ready command ends with it. -/
theorem hostLoansReadsLists : Obligations.HostLoansReadsLists := by
  unfold Obligations.HostLoansReadsLists
  refine ⟨fun s x i d h hi hd => ⟨fun k => ?loan, fun k => ?loanRefused⟩, fun s x i h hi => ⟨fun k => ?recalled, fun k => ?recallRefused⟩,
    fun s x i p h hi => ⟨fun k => ?read, fun k => ?lost⟩, fun s x a h => ⟨fun k => ?snapshot, fun k => ?misaligned⟩,
    fun s x i d p hi => ?noCell, fun s x d n j a l q h e hd hn hj k => ⟨fun m => ?idle, fun r => ?inRound⟩,
    fun s x d n j a l h k => ?badList⟩
  case loan =>
    exact ⟨_, State.hostCmd_accepted (c := .loanCell x i d) rfl h (State.runLoanCell_allowed hi hd k) (by simp) (by simp),
      State.addFlight_inFlight _ _ _ _ _, State.loanAccept_loan _ _ _ _ _, by simp, by simp⟩
  case loanRefused => exact State.hostCmd_refused (c := .loanCell x i d) rfl h (State.runLoanCell_refused hi hd k)
  case recalled =>
    exact ⟨_, State.hostCmd_accepted (c := .recallCell x i) rfl h (State.runRecallCell_allowed hi k) (by simp) (by simp),
      State.addFlight_inFlight _ _ _ _ _, State.loanAccept_loan _ _ _ _ _, by simp, by simp⟩
  case recallRefused => exact State.hostCmd_refused (c := .recallCell x i) rfl h (State.runRecallCell_refused hi k)
  case read =>
    exact ⟨_, State.hostCmd_accepted (c := .readCell x i p) rfl h (State.runReadCell_inContact hi k) (by simp) (by simp),
      State.addFlight_inFlight _ _ _ _ _, State.queueOrder_cmdQ _ _ _ _ (by simp), by simp, by simp⟩
  case lost => exact State.hostCmd_refused (c := .readCell x i p) rfl h (State.runReadCell_lost hi k)
  case snapshot =>
    exact ⟨_, State.hostCmd_accepted (c := .snapshot x a) rfl h (State.runSnapshot_aligned k) (by simp) (by simp),
      State.addFlight_inFlight _ _ _ _ _, rfl⟩
  case misaligned => exact State.hostCmd_refused (c := .snapshot x a) rfl h (State.runSnapshot_misaligned k)
  case noCell =>
    obtain ⟨loan, back, read⟩ := State.runCell_bad hi
    refine ⟨fun h => ?_, fun h => ?_, fun h => ?_⟩
    · obtain ⟨t, exec, done, -⟩ := State.hostCmd_refused (c := .loanCell x i d) rfl h loan
      exact ⟨t, exec, done⟩
    · obtain ⟨t, exec, done, -⟩ := State.hostCmd_refused (c := .recallCell x i) rfl h back
      exact ⟨t, exec, done⟩
    · obtain ⟨t, exec, done, -⟩ := State.hostCmd_refused (c := .readCell x i p) rfl h read
      exact ⟨t, exec, done⟩
  case idle =>
    have staged := State.listsStaged_dsc s x d.toNat q
    have active := State.seqActivate_idle_active (s := s.listsStaged x d.toNat q) (d := d.toNat) (l := q) (by rw [staged]; exact m)
    rw [staged] at active
    exact ⟨_, execSetSequence_ok a h e hd hn hj k, active, by simp, by simp⟩
  case inRound =>
    have staged := State.listsStaged_dsc s x d.toNat q
    obtain ⟨next, reg, rings⟩ := State.seqActivate_inRound (s := s.listsStaged x d.toNat q) (d := d.toNat) (l := q) (by rw [staged]; exact r)
    rw [staged] at reg
    obtain ⟨before, flight⟩ := State.listsStaged_inFlight s x d.toNat q
    exact ⟨_, execSetSequence_ok a h e hd hn hj k, next, reg, ⟨before, (congrArg (·.flights) rings).trans flight⟩, by simp, by simp⟩
  case badList =>
    exact State.hostCmd_refused (c := .setSequence x d n j a { words := l, ok := true }) rfl h (State.runSetSequence_bad k)

end Sys2Proof.Machine
end

section
/-! SUPPORT. The reply to a request of the policy core, and the end of a request that is applied (R444 to R449). -/

namespace Sys2Proof.Machine

/-! ### Replies (R445, R448) -/

/-- What a field (hi, lo, value) adds to the number built of it. -/
def fieldVal (f : Nat × Nat × Nat) : Nat := f.2.2 % 2 ^ (f.1 + 1 - f.2.1) * 2 ^ f.2.1

theorem packN_five (a b c d e : Nat × Nat × Nat) :
    packN [a, b, c, d, e] = 0 + fieldVal a + fieldVal b + fieldVal c + fieldVal d + fieldVal e := rfl

theorem fieldVal_fits {hi lo v : Nat} (h : v < 2 ^ (hi + 1 - lo)) : fieldVal (hi, lo, v) = v * 2 ^ lo :=
  congrArg (· * 2 ^ lo) (Nat.mod_eq_of_lt h)

theorem fieldVal_eq (hi lo v : Nat) : fieldVal (hi, lo, v) = v % 2 ^ (hi + 1 - lo) * 2 ^ lo := rfl

/-- The words of a reply as one number. -/
theorem packN_reply {kind seq st : Nat} (v e : Nat) (k : kind < 256) (q : seq < 256) (n : st < 16) :
    packN [(31, 24, kind), (23, 16, seq), (15, 12, st), (63, 32, v), (95, 64, e)] =
      e % 2 ^ 32 * 2 ^ 64 + v % 2 ^ 32 * 2 ^ 32 + kind * 2 ^ 24 + seq * 2 ^ 16 + st * 2 ^ 12 := by
  have order : ∀ a b c d f : Nat, 0 + a + b + c + d + f = f + d + a + b + c := by omega
  rw [packN_five, fieldVal_fits k, fieldVal_fits q, fieldVal_fits n, fieldVal_eq, fieldVal_eq, order]

/-- The reply just given is the last of its queue; what it leaves open is a free value. -/
theorem State.ebsisReply_replied (s : State) {kind st : Nat} (r : EbsisReq) (v e : Option Nat) (k : kind < 256) (n : st < 16) :
    (s.ebsisReply kind r st v e).Replied kind r st (v.getD (s.draw.1.toNat % 2 ^ 32) % 2 ^ 32) (e.getD (s.draw.1.toNat / 2 ^ 32) % 2 ^ 32) := by
  have last : ∀ (q : List (BitVec 128)) (x : BitVec 128), ((q ++ [x]).drop ((q ++ [x]).length - replyDepth)).getLast? = some x := by
    intro q x
    rw [List.getLast?_drop, if_neg (Nat.not_le.2 (Nat.sub_lt (by simp) (by decide)))]
    simp
  refine (last _ _).trans ?_
  rw [packN_reply _ _ k r.seq.isLt n]
  rfl

/-! ### The gate, and a request applied (R445, R446, R448, R449) -/

/-- A ready policy core's request is served as its kind says. -/
theorem State.ebsis_ready {s : State} (h : s.EbsisReady) (kind : Nat) (r : EbsisReq) : s.ebsis kind r = s.ebServe kind r := by
  obtain ⟨up, adopting, reset⟩ := h
  simp [State.ebsis, up, adopting, reset]

/-- The chip's state and the permission allow a request of this bit of UL_POL_CTRL. -/
structure State.Allows (s : State) (r : EbsisReq) (b : Nat) : Prop where
  ready : s.start.ready = true
  noStop : s.stopq.active = false
  word3 : r.word3 = 0
  perm : s.perm b = true

theorem State.Allows.gate {s : State} {r : EbsisReq} {b : Nat} {form : Bool} (h : s.Allows r b) (f : form = true) :
    s.ebsisGate r form b = none := by
  simp [State.ebsisGate, f, h.ready, h.noStop, h.word3, h.perm]

/-- A request applied answers with the value applied and the epoch at which it takes effect, CLAMPED where that is not the value asked for. -/
theorem State.ebsisDone_replied (s u : State) {kind st w : Nat} (r : EbsisReq) {v a : Nat} {c : Bool} (k : kind < 256)
    (status : (if c || v != a then 1 else 0) = st) (value : a % 2 ^ 32 = w) :
    (s.ebsisDone u kind r v a c).alertUpdate.Replied kind r st w s.nextEpoch := by
  have epoch : s.nextEpoch % 2 ^ 32 = s.nextEpoch := Nat.mod_eq_of_lt (Nat.mod_lt _ (by decide))
  have reply := State.ebsisReply_replied u (st := st) r (some a) (some s.nextEpoch) k (by rw [← status]; split <;> decide)
  simp only [Option.getD_some, epoch, value] at reply
  rw [← status] at reply ⊢
  exact reply

/-- Where the clamp alone decides the status. -/
theorem State.ebsisDone_replied_value (s u : State) {kind w : Nat} (r : EbsisReq) {v a : Nat} (k : kind < 256) (value : a % 2 ^ 32 = w) :
    (s.ebsisDone u kind r v a false).alertUpdate.Replied kind r (if a = v then 0 else 1) w s.nextEpoch := by
  refine State.ebsisDone_replied s u r k ?_ value
  by_cases e : a = v
  · simp [e]
  · simp [e, Ne.symm e]

/-- What a request staged still waits once it is answered. -/
theorem State.ebsisDone_waits {s u : State} {kind : Nat} {r : EbsisReq} {v a : Nat} {c : Bool} {key : StageKey} {x : Word}
    (h : u.Waits key x) : (s.ebsisDone u kind r v a c).alertUpdate.Waits key x := h

theorem State.ebsisDone_lowered {s u : State} {kind : Nat} {r : EbsisReq} {v a : Nat} {c : Bool} :
    (s.ebsisDone u kind r v a c).alertUpdate.policy.lowered = u.policy.lowered := rfl

/-- A request that is served and begins no run of lost events and no stop sequence leaves what its service does. -/
theorem State.settle_ebsis {s u : State} {kind : Nat} {r : EbsisReq} (h : s.EbsisReady) (e : s.ebServe kind r = u)
    (f : u.flt.eventLostRun = s.flt.eventLostRun) (q : u.stopq.active = s.stopq.active) : settle s (s.ebsis kind r) = .next u.alertUpdate := by
  rw [State.ebsis_ready h, e]
  exact settle_quiet f q

theorem State.settle_applied {s u : State} {kind : Nat} {r : EbsisReq} {v a : Nat} {c : Bool} (h : s.EbsisReady)
    (e : s.ebServe kind r = s.ebsisDone u kind r v a c) (f : u.flt.eventLostRun = s.flt.eventLostRun)
    (q : u.stopq.active = s.stopq.active) : settle s (s.ebsis kind r) = .next (s.ebsisDone u kind r v a c).alertUpdate :=
  State.settle_ebsis h e f q

end Sys2Proof.Machine
end

section
/-! PROOF. The requests of the policy core that are applied (R127, R436, R445 to R448). -/

namespace Sys2Proof.Machine

section
variable {s : State} {r : EbsisReq}

/-! ### What each request does once allowed (R446) -/

/-- The voltage that a SET_VSET is clamped to. -/
def State.vsetApplied (s : State) (d v : Nat) : Nat :=
  clampN (max (s.vMin d) (s.hostVset d - s.vdn)) (min (s.hostVset d + s.vup) (vRange d).2) v

theorem State.ebVset_applied (h : s.Allows r 7) (v2 : r.value2 = 0) (d : r.target.toNat < 48) (n13 : r.target.toNat ≠ 45)
    (n14 : r.target.toNat ≠ 46) (v : r.value.toNat < 4096) (run : (s.dom r.target.toNat).st = .run)
    (free : r.target.toNat < 32 → s.limits.fixed = false) : s.ebVset r =
      s.ebsisDone (s.stage (.vset r.target.toNat) (BitVec.ofNat 32 (s.vsetApplied r.target.toNat r.value.toNat)) .ebsis) 1 r r.value.toNat
        (s.vsetApplied r.target.toNat r.value.toNat) false := by
  have taken : (isTD r.target.toNat && s.limits.fixed) = false := by
    by_cases t : r.target.toNat < 32
    · simp [free t]
    · simp [isTD, t]
  have gate := h.gate (form := decide (r.target.toNat < 48) && r.target.toNat != sd 13 && r.target.toNat != sd 14 &&
    decide (r.value.toNat < 4096) && r.value2 == 0) (by simp [d, v, v2, sd, n13, n14])
  simp only [State.ebVset, gate, taken, run]
  rfl

/-- The treasury that a SET_TREAS is clamped to; 0 withdraws the policy's. -/
def State.treasApplied (s : State) (v : Nat) : Nat := if v = 0 then 0 else clampN 50000 s.ledger.treasury.toNat v

theorem State.ebTreas_applied (h : s.Allows r 6) (v2 : r.value2 = 0) (t : r.target = 0) (trap : s.trapOpen = false) : s.ebTreas r =
    s.ebsisDone (s.stage .polTreas (BitVec.ofNat 32 (s.treasApplied r.value.toNat)) .ebsis) 2 r r.value.toNat
      (s.treasApplied r.value.toNat) false := by
  have gate := h.gate (form := r.target == 0 && r.value2 == 0) (by simp [t, v2])
  simp only [State.ebTreas, gate, trap]
  rfl

theorem word_toNat_eq_zero {v : Word} : v.toNat = 0 ↔ v = 0 := BitVec.toNat_inj (y := 0)

theorem State.treasApplied_fits (s : State) (v : BitVec 32) : s.treasApplied v.toNat % 2 ^ 32 = s.treasApplied v.toNat := by
  refine Nat.mod_eq_of_lt ?_
  simp only [State.treasApplied, clampN]
  split <;> omega

theorem State.ebClass_applied (h : s.Allows r 5) (c : r.target.toNat < 16) (p : r.value.toNat < 256) (f : r.value2.toNat < 65536) :
    s.ebClass r = s.ebsisDone (s.stage (.reg (0x420 + 4 * r.target.toNat))
      (pack [(31, 24, r.value.toNat), (15, 0, min r.value2.toNat s.otp.pTileMax)]) .ebsis) 3 r r.value.toNat r.value.toNat
        (min r.value2.toNat s.otp.pTileMax != r.value2.toNat) := by
  have gate := h.gate (form := decide (r.target.toNat < 16) && decide (r.value.toNat < 256) && decide (r.value2.toNat < 65536))
    (by simp [c, p, f])
  simp only [State.ebClass, gate]

/-- The cap that a SET_CAP is clamped to; 0 is none. -/
def State.capApplied (s : State) (d v : Nat) : Nat :=
  if s.policy.hostLim.get 0 (capTarget d) = 0 then v
  else if v = 0 then s.policy.hostLim.get 0 (capTarget d) else min v (s.policy.hostLim.get 0 (capTarget d))

theorem State.ebCap_applied (h : s.Allows r 4) (d : r.target.toNat < 32) (v : r.value.toNat < 2 ^ 20) (v2 : r.value2 = 0)
    (trap : s.trapOpen = false) : s.ebCap r =
      s.ebsisDone (s.stage (.reg (0x460 + 4 * r.target.toNat)) (pack [(19, 0, s.capApplied r.target.toNat r.value.toNat)]) .ebsis) 4 r
        r.value.toNat (s.capApplied r.target.toNat r.value.toNat) false := by
  have gate := h.gate (form := decide (r.target.toNat < 32) && decide (r.value.toNat < 2 ^ 20) && r.value2 == 0)
    (by rw [decide_eq_true d, decide_eq_true v, v2]; rfl)
  simp only [State.ebCap, gate, trap]
  rfl

/-- A loan or recall that R127 does not refuse is accepted. -/
theorem State.ebMove_applied {kind : Nat} {back : Bool} (h : s.Allows r 3) (v : r.value = 0) (v2 : r.value2 = 0) (i : r.target.toNat < 2304)
    (k : (if back then s.recallCheck r.target.toNat else s.loanCheck r.target.toNat none) = stOk) :
    s.ebMove kind back r = s.ebsisDone (s.loanAccept r.target.toNat back false .warden) kind r 0 0 false := by
  have gate := h.gate (form := decide (r.target.toNat < 2304) && r.value == 0 && r.value2 == 0) (by simp [i, v, v2])
  simp only [State.ebMove, gate, k]
  rfl

/-- The limit that a SET_LIMIT is clamped to where the host's value is not 0. -/
def State.limitApplied (s : State) (t v : Nat) : Nat := clampN (limitLow t) (s.hostLimit t) v

/-- The limit staged, and noted as lowered where it is not the host's (R450). -/
def State.limitStaged (s : State) (t a : Nat) : State :=
  let u := s.stageLimit t (BitVec.ofNat 32 a).toNat .ebsis
  let rest := u.policy.lowered.filter fun e => e.1 != t
  { u with policy := { u.policy with lowered := if a = s.hostLimit t then rest else rest ++ [(t, a)] } }

theorem State.ebLimitSet_applied {f : Nat × Nat × Nat} (h : s.Allows r 2) (v2 : r.value2 = 0) (trap : s.trapOpen = false)
    (l : limitField r.target.toNat = some f) (host : s.hostLimit r.target.toNat ≠ 0) : s.ebLimitSet r =
      s.ebsisDone (s.limitStaged r.target.toNat (s.limitApplied r.target.toNat r.value.toNat)) 7 r r.value.toNat
        (s.limitApplied r.target.toNat r.value.toNat) false := by
  have gate := h.gate (form := (limitField r.target.toNat).isSome && r.value2 == 0) (by simp [l, v2])
  have bounded : (limitIsCur r.target.toNat && s.hostLimit r.target.toNat == 0) = false := by simp [host]
  simp only [State.ebLimitSet, gate, trap, bounded]
  rfl

theorem State.limitStaged_lowered (s : State) (t a : Nat) : (t, a) ∈ (s.limitStaged t a).policy.lowered ↔ a ≠ s.hostLimit t := by
  by_cases e : a = s.hostLimit t <;> simp [State.limitStaged, e]

theorem State.limitStaged_waits {off hi lo : Nat} (a : Nat) {t : Nat} (l : limitField t = some (off, hi, lo)) :
    (s.limitStaged t a).Waits (.reg off) (putFld (s.regNext off) hi lo (a % 2 ^ 32)) := by
  have staged : s.stageLimit t (BitVec.ofNat 32 a).toNat .ebsis =
      s.stage (.reg off) (putFld (s.regNext off) hi lo (a % 2 ^ 32)) .ebsis := by simp only [State.stageLimit, l, BitVec.toNat_ofNat]
  have waits := s.stage_waits (.reg off) (putFld (s.regNext off) hi lo (a % 2 ^ 32)) .ebsis
  rw [← staged] at waits
  exact waits

theorem State.ebAge_staged (h : s.Allows r 1) (v2 : r.value2 = 0) (ok : vtStageOk r.target.toNat r.value = true) :
    s.ebAge r = (s.vtStageEntry r.target.toNat r.value).ebsisReply 8 r ebOk (some r.value.toNat) none := by
  have gate := h.gate (form := vtStageOk r.target.toNat r.value && decide (r.value2.toNat < 2)) (by simp [ok, v2])
  simp only [State.ebAge, gate]
  rw [if_pos v2]

theorem State.ebBeat_ok (w : r.word3 = 0) (t : r.target = 0) (v : r.value = 0) (v2 : r.value2 = 0) :
    s.ebBeat r = s.ebsisReply 9 r ebOk (some 0) none := by
  simp [State.ebBeat, w, t, v, v2]

end

/-- Settles O36: each request passes its gate, stages its clamped value, and answers with it. -/
theorem policyRequestsApplied : Obligations.PolicyRequestsApplied := by
  unfold Obligations.PolicyRequestsApplied
  refine ⟨fun s r h rd q w p v2 d n13 n14 v run free => ?vset, fun s r h rd q w p v2 t trap => ?treas,
    fun s r h rd q w p c pr f => ?tileClass, fun s r h rd q w p d v v2 trap => ?cap,
    fun s r off hi lo h rd q w p v2 trap l host => ?limit, fun s r h rd q w p v v2 i k => ?loan,
    fun s r h rd q w p v v2 i k => ?recalled, fun s r h rd q w p v2 ok => ?age, fun s r h w t v v2 => ?beat⟩
  case vset =>
    exact ⟨_, s.vsetApplied r.target.toNat r.value.toNat,
      State.settle_applied h (State.ebVset_applied ⟨rd, q, w, p⟩ v2 d n13 n14 v run free) (by simp) (by simp),
      State.ebsisDone_waits (State.stage_waits _ _ _ _), State.ebsisDone_replied_value _ _ _ (by decide) rfl, rfl⟩
  case treas =>
    refine ⟨_, s.treasApplied r.value.toNat,
      State.settle_applied h (State.ebTreas_applied ⟨rd, q, w, p⟩ v2 t trap) (by simp) (by simp),
      State.ebsisDone_waits (State.stage_waits _ _ _ _),
      State.ebsisDone_replied_value _ _ _ (by decide) (State.treasApplied_fits _ _), ?_⟩
    simp only [State.treasApplied, clampN, word_toNat_eq_zero]
  case tileClass =>
    have status : (if (min r.value2.toNat s.otp.pTileMax != r.value2.toNat || r.value.toNat != r.value.toNat) = true then 1 else 0) =
        if r.value2.toNat ≤ s.otp.pTileMax then 0 else 1 := by
      by_cases le : r.value2.toNat ≤ s.otp.pTileMax
      · simp [le]
      · have less : min r.value2.toNat s.otp.pTileMax ≠ r.value2.toNat := fun e => le (e ▸ Nat.min_le_right _ _)
        simp [less, le]
    exact ⟨_, State.settle_applied h (State.ebClass_applied ⟨rd, q, w, p⟩ c pr f) (by simp) (by simp),
      State.ebsisDone_waits (State.stage_waits _ _ _ _),
      State.ebsisDone_replied _ _ _ (by decide) status (Nat.mod_eq_of_lt r.value.isLt)⟩
  case cap =>
    refine ⟨_, s.capApplied r.target.toNat r.value.toNat,
      State.settle_applied h (State.ebCap_applied ⟨rd, q, w, p⟩ d v v2 trap) (by simp) (by simp),
      State.ebsisDone_waits (State.stage_waits _ _ _ _), State.ebsisDone_replied_value _ _ _ (by decide) rfl, ?_⟩
    simp only [State.capApplied, capTarget, word_toNat_eq_zero]
  case limit =>
    refine ⟨_, s.limitApplied r.target.toNat r.value.toNat,
      State.settle_applied h (State.ebLimitSet_applied ⟨rd, q, w, p⟩ v2 trap l host) (by simp [State.limitStaged]) (by simp [State.limitStaged]),
      State.ebsisDone_waits (State.limitStaged_waits _ l), State.ebsisDone_replied_value _ _ _ (by decide) rfl, rfl, ?_⟩
    rw [State.ebsisDone_lowered]
    exact State.limitStaged_lowered s r.target.toNat (s.limitApplied r.target.toNat r.value.toNat)
  case loan =>
    exact ⟨_, State.settle_applied h (State.ebMove_applied (kind := 5) (back := false) ⟨rd, q, w, p⟩ v v2 i k) (by simp) (by simp),
      rfl, State.ebsisDone_replied s _ r (v := 0) (a := 0) (by decide) rfl rfl⟩
  case recalled =>
    exact ⟨_, State.settle_applied h (State.ebMove_applied (kind := 6) (back := true) ⟨rd, q, w, p⟩ v v2 i k) (by simp) (by simp),
      rfl, State.ebsisDone_replied s _ r (v := 0) (a := 0) (by decide) rfl rfl⟩
  case age =>
    have replied := State.ebsisReply_replied (s.vtStageEntry r.target.toNat r.value) (kind := 8) (st := ebOk) r (some r.value.toNat) none
      (by decide) (by decide)
    rw [Option.getD_some, Nat.mod_eq_of_lt r.value.isLt] at replied
    exact ⟨_, _, State.settle_ebsis h (State.ebAge_staged ⟨rd, q, w, p⟩ v2 ok) (by simp) (by simp), rfl, rfl, rfl, replied⟩
  case beat =>
    have replied := State.ebsisReply_replied s (kind := 9) (st := ebOk) r (some 0) none (by decide) (by decide)
    rw [Option.getD_some, Nat.zero_mod] at replied
    exact ⟨_, _, State.settle_ebsis h (State.ebBeat_ok w t v v2) (by simp) (by simp), replied, rfl, rfl, rfl⟩

end Sys2Proof.Machine
end

section
/-! SUPPORT. What a field put into a word leaves, and what a value that is staged leaves (R158, R245, R363, R472). -/

namespace Sys2Proof.Machine

/-! ### A field put into a word -/

/-- A field put into a word leaves the bits above it and the bits below it. -/
theorem putFld_outside (w : Word) {hi lo : Nat} (v : Nat) (h : lo ≤ hi) (k : hi < 32) :
    (putFld w hi lo v).toNat / 2 ^ (hi + 1) = w.toNat / 2 ^ (hi + 1) ∧ (putFld w hi lo v).toNat % 2 ^ lo = w.toNat % 2 ^ lo := by
  have width : 2 ^ (hi + 1) = 2 ^ lo * 2 ^ (hi + 1 - lo) := by rw [← Nat.pow_add]; congr 1; omega
  have word : 2 ^ 32 = 2 ^ (hi + 1) * 2 ^ (31 - hi) := by rw [← Nat.pow_add]; congr 1; omega
  have above : w.toNat / 2 ^ (hi + 1) < 2 ^ (31 - hi) := Nat.div_lt_of_lt_mul (word ▸ w.isLt)
  have put : v % 2 ^ (hi + 1 - lo) < 2 ^ (hi + 1 - lo) := Nat.mod_lt _ (Nat.two_pow_pos _)
  have below : w.toNat % 2 ^ lo < 2 ^ lo := Nat.mod_lt _ (Nat.two_pow_pos _)
  have parts := Nat.div_add_mod w.toNat (2 ^ lo)
  have upper := Nat.div_add_mod (w.toNat / 2 ^ lo) (2 ^ (hi + 1 - lo))
  rw [Nat.div_div_eq_div_mul, ← width] at upper
  simp only [putFld, fld, bits, BitVec.toNat_ofNat]
  generalize w.toNat / 2 ^ (hi + 1) = a at *
  generalize w.toNat / 2 ^ lo % 2 ^ (hi + 1 - lo) = m at *
  generalize w.toNat % 2 ^ lo = r at *
  generalize v % 2 ^ (hi + 1 - lo) = u at *
  have low : 2 ^ lo * u + r < 2 ^ (hi + 1) := by
    have step := Nat.mul_le_mul_left (2 ^ lo) put
    rw [← width, Nat.mul_succ] at step
    omega
  have value : w.toNat - m * 2 ^ lo + u * 2 ^ lo = 2 ^ (hi + 1) * a + (2 ^ lo * u + r) := by
    rw [← parts, ← upper, Nat.mul_add, ← Nat.mul_assoc, ← width, Nat.mul_comm m, Nat.mul_comm u]
    omega
  have fits : 2 ^ (hi + 1) * a + (2 ^ lo * u + r) < 2 ^ 32 := by
    have step := Nat.mul_le_mul_left (2 ^ (hi + 1)) above
    rw [← word, Nat.mul_succ] at step
    omega
  rw [value, Nat.mod_eq_of_lt fits]
  constructor
  · rw [Nat.mul_add_div (Nat.two_pow_pos _), Nat.div_eq_of_lt low, Nat.add_zero]
  · rw [width, Nat.mul_assoc, ← Nat.add_assoc, ← Nat.mul_add, Nat.mul_add_mod, Nat.mod_eq_of_lt below]

/-- A field below the one put in reads as before. -/
theorem fld_putFld_below (w : Word) {hi lo i j : Nat} (v : Nat) (h : lo ≤ hi) (k : hi < 32) (b : i < lo) (o : j ≤ i) :
    fld (putFld w hi lo v) i j = fld w i j := by
  have width : 2 ^ (i + 1) = 2 ^ j * 2 ^ (i + 1 - j) := by rw [← Nat.pow_add]; congr 1; omega
  have cut : ∀ x : Nat, x / 2 ^ j % 2 ^ (i + 1 - j) = x % 2 ^ lo % 2 ^ (i + 1) / 2 ^ j := fun x => by
    rw [Nat.mod_mod_of_dvd _ (Nat.pow_dvd_pow 2 b), width, Nat.mod_mul_right_div_self]
  simp only [fld, bits, cut, (putFld_outside w v h k).2]

/-- A bit above the field put in reads as before. -/
theorem wbit_putFld_above (w : Word) {hi lo i : Nat} (v : Nat) (h : lo ≤ hi) (k : hi < 32) (a : hi < i) :
    wbit (putFld w hi lo v) i = wbit w i := by
  have cut : ∀ x : Nat, x / 2 ^ i = x / 2 ^ (hi + 1) / 2 ^ (i - (hi + 1)) := fun x => by
    rw [Nat.div_div_eq_div_mul, ← Nat.pow_add, show hi + 1 + (i - (hi + 1)) = i by omega]
  simp only [wbit, bitAt, cut, (putFld_outside w v h k).1]

/-! ### Staged values (R245, R363, R472) -/

/-- Staging changes of the ledger the list of what waits alone. -/
@[simp] theorem State.stage_ledger (s : State) (key : StageKey) (v : Word) (b : Stager) :
    (s.stage key v b).ledger = { s.ledger with
      staged := (s.ledger.staged.filter fun e => !(e.key == key)) ++ [{ key := key, val := v, late := s.ledger.cutoff, by_ := b }] } := by
  unfold State.stage
  dsimp only
  split
  · split <;> simp
  · rfl

theorem State.hostStage_waits (s : State) (off : Nat) (v : Word) (b : Stager) : (s.hostStage off v b).Waits (.reg off) v := by
  obtain ⟨p, e⟩ := s.hostStage_eq off v b
  rw [e]
  exact State.stage_waits _ _ _ _

/-- A register's staged value leaves what it is to set in force. -/
@[simp] theorem State.hostStage_keeps (s : State) (off : Nat) (v : Word) (b : Stager) :
    (s.hostStage off v b).doms = s.doms ∧ (s.hostStage off v b).cells = s.cells ∧ (s.hostStage off v b).eng = s.eng ∧
    (s.hostStage off v b).dscs = s.dscs ∧ (s.hostStage off v b).pace = s.pace ∧
    (s.hostStage off v b).ledger.treasury = s.ledger.treasury ∧ (s.hostStage off v b).ledger.cls = s.ledger.cls := by
  obtain ⟨p, e⟩ := s.hostStage_eq off v b
  simp [e]

/-- A staged UL_THERM_LIM waits for its round, and the one in force stays. -/
theorem State.thermStage_lim (s : State) (v : Word) (b : Stager) :
    (s.thermStage true v b).therm.limNext = some (v, b) ∧ (s.thermStage true v b).therm.lim = s.therm.lim := by
  simp only [State.thermStage, ↓reduceIte, true_and]
  split <;> simp

/-- What waits as a command goes in flight waits when it has ended. -/
theorem State.Waits.accepted {s : State} {key : StageKey} {v : Word} (h : s.Waits key v) (x : CmdCtx) (op : Nat) (w : WaitFor) (d : Nat) :
    (s.addFlight x op w d).alertUpdate.Waits key v := h

/-! ### Staged records (R158) -/

@[simp] theorem State.lawReplaced_doms (s : State) (o : StagedLaw) : (s.lawReplaced o).doms = s.doms := by
  unfold State.lawReplaced
  split <;> simp

/-- Staging a record changes its domain's staged record alone. -/
theorem State.stageLaw_doms (s : State) (d : Nat) (l : List Word) (path : LawPath) :
    (s.stageLaw d l path).doms =
      (s.updDom d fun x => { x with staged := some { image := l, path := path, late := s.ledger.cutoff } }).doms := by
  unfold State.stageLaw State.updDom
  dsimp only
  split <;> simp

theorem State.stageLaw_dom (s : State) (d : Nat) (l : List Word) (path : LawPath) :
    (s.stageLaw d l path).dom d = { s.dom d with staged := some { image := l, path := path, late := s.ledger.cutoff } } := by
  rw [State.dom, State.stageLaw_doms, ← State.dom, State.updDom_same]

theorem State.stageLaw_dom_other (s : State) {d e : Nat} (l : List Word) (path : LawPath) (h : e ≠ d) :
    (s.stageLaw d l path).dom e = s.dom e := by
  rw [State.dom, State.stageLaw_doms, ← State.dom, State.updDom_other _ _ _ _ h]

end Sys2Proof.Machine
end

section
/-! PROOF. Host commands whose values wait for a commit, a record's slot or a round (R157, R158, R173, R245, R310, R364, R472, R478,
R479). -/

namespace Sys2Proof.Machine

section
variable {s : State} {x : CmdCtx} {d : Nat}

/-! ### The verdicts -/

theorem State.stageImages_one (off : Nat) (v : Word) : s.stageImages x [(off, v)] = s.hostStage off v (.command x) := by
  rw [State.stageImages, List.foldl_cons, List.foldl_nil]

theorem State.runSetDomainVoltage_ok {v : Nat} (hd : d < 48) (n : denied d = false) (lo : (vRange d).1 ≤ v) (hi : v ≤ (vRange d).2)
    (m : s.vMin d ≤ v) (f : isTD d = false ∨ s.limits.fixed = false) : s.runSetDomainVoltage x d v =
      .ok ((s.stage (.vset d) (BitVec.ofNat 32 v) (.command x)).addFlight x 0x01 (.commit s.ledger.cutoff) v) := by
  have free : (isTD d && s.limits.fixed) = false := Bool.and_eq_false_iff.2 f
  simp [State.runSetDomainVoltage, noDomain, Nat.not_le.2 hd, n, Nat.not_lt.2 lo, Nat.not_lt.2 hi, Nat.not_lt.2 m, free, State.atCommit]

theorem State.runDomainOn_ok (hd : d < 48) (n : denied d = false) (off : (s.dom d).st = .off) (lane : (s.lane (laneOf d)).out = false) :
    s.runDomainOn x d = .ok ((s.stage (.power d) 1 (.command x)).addFlight x 0x02 (.domRun d)) := by
  simp [State.runDomainOn, noDomain, Nat.not_le.2 hd, n, off, lane]

theorem State.runDomainOff_ok (hd : d < 48) (n : denied d = false) (n11 : d ≠ sd 11)
    (t : isTD d = true ∨ ∀ e, e < 32 → (s.dom e).st = .off) :
    s.runDomainOff x d = .ok ((s.stage (.power d) 0 (.command x)).addFlight x 0x03 (.domOff d)) := by
  have allOff : (!isTD d && tds.any fun e => (s.dom e).st != .off) = false := by
    obtain t | t := t
    · simp [t]
    · have none : (tds.any fun e => (s.dom e).st != .off) = false :=
        List.any_eq_false.2 fun e m => by simp [t e (List.mem_range.1 m)]
      simp [none]
  simp [State.runDomainOff, noDomain, Nat.not_le.2 hd, n, n11, allOff]

theorem State.runStageLaw_ok {a : Nat} {l : List Word} (aligned : a % 64 = 0) (n : denied d = false) (len : l.length = 16)
    (k : s.lawReason d l = 0) : s.runStageLaw x d a { words := l, ok := true } =
      .ok ((s.stageLaw d l (.command x)).addFlight x 0x04 (.law d) (lawTag l * 65536)) := by
  have whole : (l ++ List.replicate 16 0).take 16 = l := by rw [← len, List.take_left]
  simp only [State.runStageLaw, whole, aligned, n, k]
  rfl

theorem State.runSetBudget_treasury {w : Word} {caps : List Word} (reserved : ∀ c, c ∈ caps.take 12 → c &&& 0x60F00000 = 0)
    (k : s.imageOk 0x414 w = true) (none : capImages caps = []) : s.runSetBudget x true w caps =
      .ok ((s.hostStage 0x414 w (.command x)).addFlight x 0x06 (.commit s.ledger.cutoff)) := by
  have clean : ((caps.take 12).any fun c => c &&& 0x60F00000 != 0) = false := List.any_eq_false.2 fun c m => by
    rw [reserved c m]; decide
  simp only [State.runSetBudget, clean, k, none]
  rfl

theorem State.runSetClassWeights_one {f : Nat} {l : List Word} (hf : f < 16) (k : s.imageOk (0x420 + 4 * f) (l.getD 0 0) = true) :
    s.runSetClassWeights x f 1 l =
      .ok ((s.hostStage (0x420 + 4 * f) (l.getD 0 0) (.command x)).addFlight x 0x07 (.commit s.ledger.cutoff)) := by
  have range : decide (f + 1 > 16) = false := decide_eq_false (Nat.not_lt.2 hf)
  simp only [State.runSetClassWeights, List.range_one, List.map_cons, List.map_nil, List.any_cons, List.any_nil, Nat.add_zero, k, range]
  rfl

theorem State.runSetLimits_thermLim {l : List Word} (k : s.imageOk 0x1504 (l.getD 6 0) = true) : s.runSetLimits x 0x40 l =
    .ok ((s.thermStage true (l.getD 6 0) (.command x)).addFlight x 0x08 .round) := by
  have named : setBits 7 0x40 = [6] := by decide
  have ok : s.imageOk (limitsReg 6) (l.getD 6 0) = true := k
  simp only [State.runSetLimits, named, List.map_cons, List.map_nil, List.all_cons, List.all_nil, if_neg (show ¬ 6 = 0 by decide), ok]
  rfl

theorem State.runSetSense_cfg {l : List Word} (hd : d < 48) (k : s.imageOk (0xD00 + 4 * d) (l.getD 1 0) = true) :
    s.runSetSense x d 0x02 l =
      .ok ((s.hostStage (0xD00 + 4 * d) (l.getD 1 0) (.command x)).addFlight x 0x0F (.commit s.ledger.cutoff)) := by
  have named : bitAt 2 0 = false ∧ bitAt 2 1 = true ∧ bitAt 2 2 = false ∧ bitAt 2 3 = false ∧ bitAt 2 4 = false ∧ bitAt 2 5 = false ∧
      bitAt 2 6 = false ∧ bitAt 2 7 = false := by decide
  have words : List.range 4 = [0, 1, 2, 3] := rfl
  have reg : senseReg d 1 = 0xD00 + 4 * d := rfl
  simp only [State.runSetSense, noDomain, decide_eq_false (Nat.not_le.2 hd), words, List.any_cons, List.any_nil, List.filter_cons,
    List.filter_nil, List.map_cons, List.map_nil, Nat.zero_add, Nat.reduceAdd, named, reg, k, Bool.false_and, Bool.and_false,
    Bool.or_false, Bool.not_true, Bool.false_eq_true, ↓reduceIte, State.stageImages_one, State.forEach, List.foldl_nil, State.atCommit]

theorem State.runSetCellCfg_domain {v : Word} (hd : d < 48) (n : denied d = false) (k : s.imageOk (0xB00 + 4 * d) v = true) :
    s.runSetCellCfg x d v = .ok ((s.hostStage (0xB00 + 4 * d) v (.command x)).addFlight x 0x11 (.commit s.ledger.cutoff)) := by
  have one : d ≠ 63 := by omega
  simp [State.runSetCellCfg, one, n, noDomain, Nat.not_le.2 hd, k, State.stageImages_one, State.atCommit]

theorem State.runFixedFreq_ok {enter : Bool} (h : enter = false ∨ s.fixReady = true) : s.runFixedFreq x enter =
    .ok ((s.stage .fixed (if enter then 1 else 0) (.command x)).addFlight x 0x13 (.commit s.ledger.cutoff)) := by
  have ready : (enter && !s.fixReady) = false := by obtain h | h := h <;> simp [h]
  simp only [State.runFixedFreq, ready]
  cases enter <;> rfl

/-! ### The group form of PACE_CTL (R320, R482) -/

/-- UL_PACE_CTRL as it will stand after the next commit, with the fields that the group form names. -/
def State.paceImage (s : State) (g : Nat) (apply send : Bool) : Word :=
  putFld (putFld (putFld (s.regNext 0x1600) 23 16 g) 30 30 (b2n apply)) 29 29 (b2n send)

theorem State.runPaceGroup_eq {g : Nat} {apply send : Bool} : s.runPaceGroup x g apply send =
    .ok ((s.hostStage 0x1600 (s.paceImage g apply send) (.command x)).addFlight x 0x14 (.commit s.ledger.cutoff)) := by
  simp only [State.runPaceGroup, State.paceImage, State.stageImages_one, State.atCommit]

theorem b2n_odd (b : Bool) : (b2n b % 2 == 1) = b := by cases b <;> rfl

theorem State.paceImage_fields {g : Nat} (hg : g < 256) (apply send : Bool) : fld (s.paceImage g apply send) 23 16 = g ∧
    wbit (s.paceImage g apply send) 30 = apply ∧ wbit (s.paceImage g apply send) 29 = send := by
  unfold State.paceImage
  refine ⟨?_, ?_, ?_⟩
  · rw [fld_putFld_below, fld_putFld_below, fld_putFld]
    · exact Nat.mod_eq_of_lt hg
    all_goals decide
  · rw [wbit_putFld_above, wbit_putFld, b2n_odd] <;> decide
  · rw [wbit_putFld, b2n_odd]; decide

end

/-- Settles O27: each verdict once its checks hold, as a ready command ends with it; what it stages waits, and what is in force stays. -/
theorem hostCommandsStaged : Obligations.HostCommandsStaged := by
  unfold Obligations.HostCommandsStaged
  refine ⟨fun s x d v h hd n lo hi m f => ?voltage, fun s x d h hd n off lane => ?on, fun s x d h hd n n11 t => ?off,
    fun s x d a l h aligned n len k => ?law, fun s x w caps h reserved k none => ?budget, fun s x f l h k => ?weights,
    fun s x l h k => ?limits, fun s x d l h hd k => ?sense, fun s x d v h hd n k => ?cellCfg, fun s x enter h k => ?fixed,
    fun s x g apply send h => ?group⟩
  case voltage =>
    exact ⟨_, State.hostCmd_accepted (c := .setDomainVoltage x d v) rfl h (State.runSetDomainVoltage_ok hd n lo hi m f)
        (by simp) (by simp),
      (State.stage_waits _ _ _ _).accepted _ _ _ _, State.addFlight_inFlight _ _ _ _ _, by simp, by simp, by simp⟩
  case on =>
    exact ⟨_, State.hostCmd_accepted (c := .domainOn x d) rfl h (State.runDomainOn_ok hd n off lane) (by simp) (by simp),
      (State.stage_waits _ _ _ _).accepted _ _ _ _, State.addFlight_inFlight _ _ _ _ _, by simp, by simp⟩
  case off =>
    exact ⟨_, State.hostCmd_accepted (c := .domainOff x d) rfl h (State.runDomainOff_ok hd n n11 t) (by simp) (by simp),
      (State.stage_waits _ _ _ _).accepted _ _ _ _, State.addFlight_inFlight _ _ _ _ _, by simp, by simp⟩
  case law =>
    have staged := s.stageLaw_dom d.toNat l (.command x)
    exact ⟨_, State.hostCmd_accepted (c := .stageLaw x d a { words := l, ok := true }) rfl h (State.runStageLaw_ok aligned n len k)
        (by simp) (by simp),
      congrArg (·.staged) staged, congrArg (·.law) staged, State.addFlight_inFlight _ _ _ _ _,
      fun e other => s.stageLaw_dom_other l (.command x) other⟩
  case budget =>
    exact ⟨_, State.hostCmd_accepted (c := .setBudget x true w caps) rfl h (State.runSetBudget_treasury reserved k none)
        (by simp) (by simp),
      (State.hostStage_waits _ _ _ _).accepted _ _ _ _, State.addFlight_inFlight _ _ _ _ _, by simp, by simp⟩
  case weights =>
    exact ⟨_, State.hostCmd_accepted (c := .setClassWeights x f 1 l) rfl h (State.runSetClassWeights_one f.isLt k) (by simp) (by simp),
      (State.hostStage_waits _ _ _ _).accepted _ _ _ _, State.addFlight_inFlight _ _ _ _ _, by simp⟩
  case limits =>
    obtain ⟨next, lim⟩ := s.thermStage_lim (l.getD 6 0) (.command x)
    exact ⟨_, State.hostCmd_accepted (c := .setLimits x 0x40 l) rfl h (State.runSetLimits_thermLim k) (by simp) (by simp),
      next, lim, State.addFlight_inFlight _ _ _ _ _⟩
  case sense =>
    exact ⟨_, State.hostCmd_accepted (c := .setSense x d 0x02 l) rfl h (State.runSetSense_cfg hd k) (by simp) (by simp),
      (State.hostStage_waits _ _ _ _).accepted _ _ _ _, State.addFlight_inFlight _ _ _ _ _, by simp⟩
  case cellCfg =>
    exact ⟨_, State.hostCmd_accepted (c := .setCellCfg x d v) rfl h (State.runSetCellCfg_domain hd n k) (by simp) (by simp),
      (State.hostStage_waits _ _ _ _).accepted _ _ _ _, State.addFlight_inFlight _ _ _ _ _, by simp, by simp⟩
  case fixed =>
    exact ⟨_, State.hostCmd_accepted (c := .fixedFreq x enter) rfl h (State.runFixedFreq_ok k) (by simp) (by simp),
      (State.stage_waits _ _ _ _).accepted _ _ _ _, State.addFlight_inFlight _ _ _ _ _, by simp⟩
  case group =>
    obtain ⟨group, applied, sent⟩ := s.paceImage_fields g.isLt apply send
    exact ⟨_, s.paceImage g.toNat apply send,
      State.hostCmd_accepted (c := .paceGroup x g apply send) rfl h State.runPaceGroup_eq (by simp) (by simp),
      (State.hostStage_waits _ _ _ _).accepted _ _ _ _, group, applied, sent, State.addFlight_inFlight _ _ _ _ _, by simp⟩

end Sys2Proof.Machine
end

section
/-! SUPPORT. Loops whose rounds change one part of the state change that part alone; loops whose rounds agree on what is listed agree. -/

namespace Sys2Proof.Machine

theorem forEach_within {α : Type} (put : State → α → State) (again : ∀ t v w, put (put t v) w = put t w) (same : ∀ t, ∃ v, put t v = t)
    (g : State → Nat → State) (l : List Nat) (h : ∀ t a, ∃ v, g t a = put t v) (s : State) : ∃ v, s.forEach l g = put s v := by
  induction l generalizing s with
  | nil =>
    obtain ⟨v, e⟩ := same s
    exact ⟨v, e.symm⟩
  | cons a l ih =>
    obtain ⟨v, first⟩ := h s a
    obtain ⟨w, rest⟩ := ih (g s a)
    exact ⟨w, rest.trans (by rw [first, again])⟩

theorem forEach_congr {g f : State → Nat → State} {l : List Nat} (h : ∀ t a, a ∈ l → g t a = f t a) (s : State) :
    s.forEach l g = s.forEach l f := by
  induction l generalizing s with
  | nil => rfl
  | cons a l ih =>
    show (g s a).forEach l g = (f s a).forEach l f
    rw [h s a (List.mem_cons_self ..), ih fun t b m => h t b (List.mem_cons_of_mem _ m)]

end Sys2Proof.Machine
end

section
/-! PROOF. Triggers, entries, the reference, the housekeeping round, the diodes, the guard and the audits of the sense converters (R205,
R208, R217, R218, R220 to R229, R344, R348). -/

namespace Sys2Proof.Machine

/-! ### Triggers and entries (R205, R208) -/

/-- A trigger source reaches the DSCs that name it, and no other. -/
theorem State.trigSource_dsc (s : State) (src : Nat) {d : Nat} (h : d < 48) :
    (s.trigSource src).dsc d = if (s.dsc d).trigSrc = src then (s.dsc d).trigRegular else s.dsc d := by
  refine forEach_at_mem State.dsc _ (fun _ y => if y.trigSrc = src then y.trigRegular else y) (fun t a b ne => ?_) (fun t a => ?_)
    allDoms s d List.nodup_range (List.mem_range.2 h)
  · split <;> simp [ne]
  · split <;> simp

/-- Triggers change converters alone. -/
theorem State.trigSource_eq (s : State) (src : Nat) : ∃ v, s.trigSource src = { s with dscs := v } := by
  refine forEach_within (fun z v => { z with dscs := v }) (fun _ _ _ => rfl) (fun z => ⟨z.dscs, rfl⟩) _ _ (fun t d => ?_) s
  split <;> exact ⟨_, rfl⟩

/-- A trigger source's command completes, with the tallies as they were. -/
theorem State.fast_trigSource {s : State} (src : Nat) (h : s.fastRuns = true) :
    s.fast (s.trigSource src) = .next (s.trigSource src).alertUpdate ∧ (s.trigSource src).tallies = s.tallies := by
  obtain ⟨v, e⟩ := s.trigSource_eq src
  rw [e]
  exact ⟨State.fast_kept h rfl rfl, rfl⟩

/-- A regular entry that is not the last enters its tally, and the next begins. -/
theorem execEntryDone_regular {s : State} {d : DomIx} {p : Nat} {e : DscEntry} (smp : SenseSample) (am : (s.dsc d).am = .regular p)
    (entry : (s.dsc d).entry = some e) (edge : (s.dsc d).auxEdge = false) (more : p + 1 < (s.dsc d).round.length) :
    execEntryDone d smp s = s.fast ((s.tallyAdd d e.tally (s.chanResult d e.ch (aFilter e.aux) smp).1
      (s.chanResult d e.ch (aFilter e.aux) smp).2).updDsc d (·.go (.regular (p + 1)))) := by
  simp [execEntryDone, am, State.entryResult, entry, edge, Nat.not_le.2 more]

@[simp] theorem State.tallyAdd_dsc (s : State) (conv t : Nat) (x : Int) (ovr : Bool) (d : Nat) :
    (s.tallyAdd conv t x ovr).dsc d = s.dsc d := rfl

/-! ### The housekeeping round (R217, R218, R220 to R222) -/

@[simp] theorem State.reconf_hkc (s : State) (conv : Nat) (ts : List Nat) (k : Nat) : (s.reconf conv ts).hkc k = s.hkc k := by
  simp [State.hkc]

@[simp] theorem State.blockReleased_hkc (s : State) (b : Block) (obj k : Nat) : (s.blockReleased b obj).hkc k = s.hkc k := rfl

/-- An HKC takes part in the round that begins. -/
def State.hkcOpened (s : State) (k : Nat) : State :=
  let p := [s.sense.picks.get 0xFFFFFFFF (2 * k), s.sense.picks.get 0xFFFFFFFF (2 * k + 1)]
  let old := (s.hkc k).picks
  let changed := (List.range 8).filter fun t => fld (p.getD (t / 4) 0) (8 * (t % 4) + 7) (8 * (t % 4))
      != fld (old.getD (t / 4) 0xFFFFFFFF) (8 * (t % 4) + 7) (8 * (t % 4))
  ((s.updHkc k fun x => { x with inRound := true, prev := x.res, res := [], picks := p }).blockReleased .hkc k).reconf (hkcConv k)
    (changed.map (8 + ·))

theorem State.hkcsOpened_hkc (s : State) {k : Nat} (h : k < 8) :
    let x := (s.forEach (List.range 8) State.hkcOpened).hkc k
    (x.inRound, x.res, x.prev) = (true, [], (s.hkc k).res) := by
  refine forEach_at_mem (fun t j => ((t.hkc j).inRound, (t.hkc j).res, (t.hkc j).prev)) State.hkcOpened (fun _ y => (true, [], y.2.1))
    (fun t a b ne => ?_) (fun t a => ?_) _ s k List.nodup_range (List.mem_range.2 h)
  · have other : (t.hkcOpened a).hkc b = t.hkc b := by simp [State.hkcOpened, ne]
    simp only [other]
  · simp only [State.hkcOpened, State.reconf_hkc, State.blockReleased_hkc, State.updHkc_same]

/-- Of the HKCs a round's beginning makes no more: images that take effect and commands that finish leave them alone. -/
theorem State.roundBegin_hkcs (s : State) : s.roundBegin.hkcs = (s.forEach (List.range 8) State.hkcOpened).hkcs := by
  unfold State.roundBegin
  dsimp only
  repeat' split
  all_goals simp
  all_goals rfl

/-- Every HKC takes part in a round that begins, with no result yet, and keeps those of the round before. -/
theorem State.roundBegin_hkc (s : State) {k : Nat} (h : k < 8) :
    (s.roundBegin.hkc k).inRound = true ∧ (s.roundBegin.hkc k).res = [] ∧ (s.roundBegin.hkc k).prev = (s.hkc k).res := by
  have same : s.roundBegin.hkc k = (s.forEach (List.range 8) State.hkcOpened).hkc k := by simp only [State.hkc, s.roundBegin_hkcs]
  simpa [same] using s.hkcsOpened_hkc h

/-- The thermal images that waited for the round are in force. -/
theorem State.roundBegin_therm (s : State) :
    s.roundBegin.sense.roundOn = true ∧ s.roundBegin.therm.rate = (s.therm.rateNext.map (·.1)).getD s.therm.rate ∧
    s.roundBegin.therm.lim = (s.therm.limNext.map (·.1)).getD s.therm.lim := by
  unfold State.roundBegin
  dsimp only
  repeat' split
  all_goals simp

/-- A channel of a diode is among the first 140. -/
theorem diodeOf_lt {k ch n : Nat} (h : diodeOf k ch = some n) : ch < 140 := by
  unfold diodeOf at h
  split at h
  · omega
  · split at h
    · omega
    · split at h
      · assumption
      · cases h

/-- The tallies that take a conversion of a channel. -/
def Hkc.tallies (x : Hkc) (ch : Nat) : List Nat := (hkcTally ch).toList ++ x.pickTallies ch

/-- A valid conversion enters its tallies, an invalid one none. -/
def State.conversionTallied (s : State) (k : Nat) (c : Option (Int × Bool)) (ts : List Nat) : State :=
  match c with
  | some (v, o) => s.forEach ts fun s t => s.tallyAdd (hkcConv k) t v o
  | none => s

/-- What a conversion of the channel of diode n leaves. -/
def State.diodeConverted (s : State) (k ch n : Nat) (c : Option (Int × Bool)) : State :=
  let s1 := s.updHkc k fun y => { y with res := y.res.set ch (c.map (·.1)) }
  let s2 := (s1.conversionTallied k c ((s.hkc k).tallies ch)).updDiode n (takeDiode (c.map (·.1)))
  if n < 1024 then s2.updTile n (takeTileDiode (c.map (·.1))) else s2

/-- Tallies apart, tallying a conversion changes nothing. -/
theorem State.conversionTallied_eq (s : State) (k : Nat) (c : Option (Int × Bool)) (ts : List Nat) :
    ∃ v, s.conversionTallied k c ts = { s with tallies := v } := by
  cases c with
  | none => exact ⟨s.tallies, rfl⟩
  | some r =>
    exact forEach_within (fun z v => { z with tallies := v }) (fun _ _ _ => rfl) (fun z => ⟨z.tallies, rfl⟩) _ _
      (fun _ _ => ⟨_, rfl⟩) s

theorem execHkcConversion_diode {s : State} {k : HkcIx} {ch : Fin 152} {n : Nat} (raw : Option Int) (part : (s.hkc k).inRound = true)
    (on : s.sense.roundOn = true) (h : diodeOf k ch = some n) :
    execHkcConversion k ch raw s = s.fast (s.diodeConverted k ch n (hkcCode ch raw)) := by
  have lt := diodeOf_lt h
  have quiet : ¬(ch.val = 140 ∨ ch.val = 141) ∧ ¬ch.val = 142 := by omega
  simp only [execHkcConversion, part, on, h, quiet, State.diodeConverted, Hkc.tallies]
  cases hkcCode ch raw with
  | none => simp [State.conversionTallied]
  | some r => cases hkcTally ch <;> simp [State.conversionTallied]

/-- The conversion is stored, and its diode and that diode's tile take it. -/
theorem State.diodeConverted_reads (s : State) (k ch n : Nat) (c : Option (Int × Bool)) :
    ((s.diodeConverted k ch n c).hkc k).res = (s.hkc k).res.set ch (c.map (·.1)) ∧
    (s.diodeConverted k ch n c).diode n = takeDiode (c.map (·.1)) (s.diode n) ∧
    (∀ j, j ≠ n → (s.diodeConverted k ch n c).diode j = s.diode j) ∧
    (n < 1024 → (s.diodeConverted k ch n c).tile n = takeTileDiode (c.map (·.1)) (s.tile n)) ∧
    (s.diodeConverted k ch n c).flt = s.flt ∧ (s.diodeConverted k ch n c).stopq = s.stopq := by
  have stored := congrArg (·.res) (State.updHkc_same s k fun y => { y with res := y.res.set ch (c.map (·.1)) })
  have taken := State.updDiode_same s n (takeDiode (c.map (·.1)))
  have others := fun j ne => State.updDiode_other s n j (takeDiode (c.map (·.1))) ne
  obtain ⟨v, tallied⟩ := State.conversionTallied_eq (s.updHkc k fun y => { y with res := y.res.set ch (c.map (·.1)) })
    k c ((s.hkc k).tallies ch)
  simp only [State.diodeConverted, tallied]
  split
  · exact ⟨stored, taken, others, fun _ => State.updTile_same s n _, rfl, rfl⟩
  case isFalse beyond => exact ⟨stored, taken, others, fun lt => absurd lt beyond, rfl, rfl⟩

/-! ### The check slot (R218, R222, R412) -/

theorem State.rowPasses_congr {s t : State} {k : Nat} (src : Nat) (r : (t.hkc k).res = (s.hkc k).res) (p : (t.hkc k).prev = (s.hkc k).prev) :
    t.rowPasses src k = s.rowPasses src k := by
  simp only [State.rowPasses, State.hkcRes, State.hkcPrev, r, p]

/-- Every HKC found good by its own tests. -/
def State.hkcsGood (s : State) : State := s.forEach (List.range 8) fun s k => s.updHkc k fun x => { x with fail := false }

theorem State.hkcsGood_hkc (s : State) {k : Nat} (h : k < 8) : s.hkcsGood.hkc k = { s.hkc k with fail := false } :=
  forEach_at_mem State.hkc _ (fun _ x => { x with fail := false }) (fun t a b ne => by simp [ne]) (fun t a => by simp) _ s k
    List.nodup_range (List.mem_range.2 h)

theorem State.hkcsGood_keeps (s : State) :
    s.hkcsGood.sense = s.sense ∧ s.hkcsGood.flt = s.flt ∧ s.hkcsGood.stopq = s.stopq := by
  obtain ⟨v, e⟩ : ∃ v, s.hkcsGood = { s with hkcs := v } :=
    forEach_within (fun z v => { z with hkcs := v }) (fun _ _ _ => rfl) (fun z => ⟨z.hkcs, rfl⟩) _ _ (fun _ _ => ⟨_, rfl⟩) s
  rw [e]
  exact ⟨rfl, rfl, rfl⟩

/-- No audit waits for a check slot any more, and the reference is ready. -/
def State.slotPassed (s : State) : State :=
  { s with sense := { s.sense with refRdy := true }, flt := { s.flt with hkcAud := [], refAud := [] } }

/-- A check slot that all eight rows pass concludes every audit that waits for it, and does nothing else. -/
theorem execHkcCheckSlot_pass {s : State} {own : BitVec 8} (on : s.sense.roundOn = true) (idle : s.sense.refPend = none)
    (rows : ∀ k, k < 8 → (s.hkc k).inRound = true ∧ bitAt own.toNat k = true ∧ s.rowPasses s.sense.refAct k = true) :
    execHkcCheckSlot own s = s.fast ((s.hkcsGood.slotPassed.concludeList s.flt.hkcAud (bitAt own.toNat ·)).concludeList
      s.flt.refAud fun _ => true) := by
  have all : (List.range 8).filter (fun k => (s.hkc k).inRound) = List.range 8 :=
    List.filter_eq_self.2 fun k m => (rows k (List.mem_range.1 m)).1
  have good : (s.forEach (List.range 8) fun s k => if bitAt own.toNat k then s.updHkc k fun x => { x with fail := false } else s.hkcVoid k) =
      s.hkcsGood := forEach_congr (fun t k m => if_pos (rows k (List.mem_range.1 m)).2.1) s
  have none : (List.range 8).filter (fun k => !s.hkcsGood.rowPasses s.sense.refAct k) = [] := by
    refine List.filter_eq_nil_iff.2 fun k m => ?_
    have hk := List.mem_range.1 m
    have same := s.hkcsGood_hkc hk
    rw [State.rowPasses_congr (s := s) _ (by rw [same]) (by rw [same]), (rows k hk).2.2]
    simp
  obtain ⟨sense, flt, _⟩ := s.hkcsGood_keeps
  have failed : (List.range 8).filter (fun k => !bitAt own.toNat k) = [] :=
    List.filter_eq_nil_iff.2 fun k m => by simp [(rows k (List.mem_range.1 m)).2.1]
  simp only [execHkcCheckSlot, on, all, good, sense, flt, none, failed]
  simp [idle, on, State.forEach, State.slotPassed, sense, flt]

@[simp] theorem State.concludeList_auds (s : State) (l : List (Nat × Nat)) (pass : Nat → Bool) :
    (s.concludeList l pass).flt.hkcAud = s.flt.hkcAud ∧ (s.concludeList l pass).flt.refAud = s.flt.refAud :=
  ⟨foldl_keeps (·.flt.hkcAud) _ _ _ fun t e => by unfold State.concludeAudit; dsimp only; split <;> rfl,
    foldl_keeps (·.flt.refAud) _ _ _ fun t e => by unfold State.concludeAudit; dsimp only; split <;> rfl⟩

/-! ### Diodes (R344, R348) -/

/-- The throttle level that a reading and its rate make of a level. -/
def State.levelAfter (s : State) (x : Int) (rate : Option Int) (l : Nat) : Nat :=
  if (rate.isSome && decide (rate.getD 0 ≥ s.throtRate)) || decide (x ≥ s.tThrot) then min s.thermMax (l + s.thermStep)
  else if (!rate.isSome || decide (rate.getD 0 < s.warnRate)) && decide (x < s.tThrot - 128) then l - s.thermStep else l

/-- A diode whose reading was evaluated with no rate at the warning. -/
def State.diodeEvaluated (s : State) (x : Int) (rate : Option Int) (y : Diode) : Diode :=
  { y with level := s.levelAfter x rate y.level, warnRun := false, fresh := false }

section
variable {s : State} {x : Int} {rate : Option Int}

theorem State.levelAfter_hot (h : x ≥ s.tThrot) (l : Nat) : s.levelAfter x rate l = min s.thermMax (l + s.thermStep) := by
  simp [State.levelAfter, h]

theorem State.levelAfter_cool (h : x < s.tThrot - 128) (order : s.warnRate ≤ s.throtRate) (slow : ∀ r, rate = some r → r < s.warnRate)
    (l : Nat) : s.levelAfter x rate l = l - s.thermStep := by
  have cold : ¬ x ≥ s.tThrot := by omega
  cases rate with
  | none => simp [State.levelAfter, h, cold]
  | some r =>
    have below := slow r rfl
    have slower : ¬ r ≥ s.throtRate := by omega
    simp [State.levelAfter, h, cold, below, slower]

/-- A reading below every trip threshold, with no rate at the warning: the diode's level and the supervisor's own counts change alone. -/
theorem State.evalDiode_quiet {n : Nat} (trip : x < s.tTrip) (slow : ∀ r, rate = some r → r < s.tripRate ∧ r < s.warnRate) :
    ∃ therm, s.evalDiode n x rate = { s.updDiode n (s.diodeEvaluated x rate) with therm := therm } := by
  have warn : (rate.isSome && decide (rate.getD 0 ≥ s.warnRate)) = false := by
    cases rate with
    | none => rfl
    | some r => simpa using (slow r rfl).2
  have fast : (rate.isSome && decide (rate.getD 0 ≥ s.tripRate)) = false := by
    cases rate with
    | none => rfl
    | some r => simpa using (slow r rfl).1
  simp only [State.evalDiode, warn, fast, if_neg (Int.not_le.2 trip)]
  exact ⟨_, rfl⟩

end

/-- Three rounds in a row without a valid reading mark the diode and raise THERM_SENSOR. -/
theorem execThermSensor_raises {s : State} {n : DiodeIx} (bad : (s.diode n).badRun ≥ 3) (new : (s.diode n).badSet = false) :
    execThermSensor n s = s.fast ((s.updDiode n fun x => { x with badSet := true }).raise 32 n) := by
  simp [execThermSensor, bad, new]

/-! ### The guard (R223 to R225, R228) -/

/-- Judging a point's reading leaves the readings themselves. -/
theorem State.guardPoint_reading (s : State) (d ch : Nat) (v : Int) : ((s.guardPoint d ch v).dsc d).reading = (s.dsc d).reading := by
  unfold State.guardPoint
  dsimp only
  repeat' split
  all_goals simp

/-- And it leaves every other converter. -/
theorem State.guardPoint_dsc_other (s : State) {d j : Nat} (ch : Nat) (v : Int) (h : j ≠ d) : (s.guardPoint d ch v).dsc j = s.dsc j := by
  unfold State.guardPoint
  dsimp only
  repeat' split
  all_goals simp [h]

section
variable {s : State} {d : DomIx} {smp : SenseSample}

/-- The comparison of a channel's conversion joins those of its guard cycle. -/
def State.guardCompared (s : State) (d ch : Nat) (v : Int) : State :=
  s.updDsc d fun y => { y with crossBad := y.crossBad || s.crossFails d ch v }

/-- M_G in service reads the next channel: a point is stored and judged, the average is compared, and the current ends the cycle. -/
theorem execGuardReading_runs (service : (s.dsc d).gFail = false) (free : (s.dsc d).audit ≠ some 4) {ch : Nat} {v : Int}
    (next : s.guardNext d = ch) (e : (s.chanResult d ch gFilter smp).1 = v) : execGuardReading d smp s = s.fast (
      if ch = 129 then ((s.guardCompared d ch v).crossEnd d).updDsc d fun y => { y with guardAt := 0 }
      else if ch = 128 then (s.guardCompared d ch v).updDsc d fun y => { y with guardAt := 129 }
      else ((s.guardCompared d ch v).updDsc d fun y => { y with reading := y.reading.set ch v }).guardPoint d ch v) := by
  subst next e
  simp [execGuardReading, service, free, State.guardCompared]

end

/-- The end of a guard cycle that fails no second time in a row. -/
theorem State.crossEnd_quiet {s : State} {d : Nat} (h : (s.dsc d).crossBad = false ∨ (s.dsc d).crossRun = 0) :
    ∃ f, s.crossEnd d = s.updDsc d f ∧
      f (s.dsc d) = { s.dsc d with crossBad := false, crossRun := if (s.dsc d).crossBad then 1 else 0 } := by
  cases bad : (s.dsc d).crossBad with
  | false => exact ⟨fun y => { y with crossRun := 0 }, by simp [State.crossEnd, bad], by simp [bad]⟩
  | true =>
    have first : (s.dsc d).crossRun = 0 := h.resolve_left (by simp [bad])
    exact ⟨fun y => { y with crossBad := false, crossRun := 1 }, by simp [State.crossEnd, bad, first], by simp⟩

/-- A second failing cycle in a row counts a mismatch and raises DSC_MISMATCH. -/
theorem State.crossEnd_mismatch {s : State} {d : Nat} (bad : (s.dsc d).crossBad = true) (run : (s.dsc d).crossRun ≥ 1) :
    s.crossEnd d = (s.updDsc d fun y => { y with crossBad := false, crossRun := 0, mismCnt := incSat 15 y.mismCnt }).raise 21 d := by
  simp [State.crossEnd, bad, run]

/-! ### Open-wire tests (R225, R226) -/

/-- A point of a converter is suspect no longer, and no second test of it is due. -/
def Dsc.suspectCleared (ch : Nat) (y : Dsc) : Dsc :=
  { y with
    suspects := y.suspects.filter (· != ch)
    retest := if y.retest = some ch then none else y.retest }

/-- Nor does a test wait that UL_SP_RESTORE asked for. -/
def State.suspectCleared (s : State) (d ch : Nat) : State :=
  let t := s.updDsc d (Dsc.suspectCleared ch)
  { t with sense := { t.sense with restoreReq := t.sense.restoreReq.filter (· != pointIndex d ch) } }

/-- Of the fault logic, the stop logic and the struck map nothing changes. -/
@[simp] theorem State.suspectCleared_keeps (s : State) (d ch : Nat) : (s.suspectCleared d ch).flt = s.flt ∧
    (s.suspectCleared d ch).stopq = s.stopq ∧ (s.suspectCleared d ch).sense.struck = s.sense.struck := ⟨rfl, rfl, rfl⟩

theorem State.suspectCleared_suspects (s : State) (d ch : Nat) :
    ((s.suspectCleared d ch).dsc d).suspects = (s.dsc d).suspects.filter (· != ch) :=
  congrArg (·.suspects) (State.updDsc_same s d (Dsc.suspectCleared ch))

theorem State.suspectCleared_dsc_other (s : State) {d j : Nat} (ch : Nat) (h : j ≠ d) : (s.suspectCleared d ch).dsc j = s.dsc j :=
  State.updDsc_other s d j (Dsc.suspectCleared ch) h

section
variable {s : State} {d : DomIx} {ch : Fin 128} {up down : List Int} {x : Int} (service : (s.dsc d).gFail = false)
  (free : (s.dsc d).audit ≠ some 4) (first : (s.dsc d).suspects.head? = some ch.val)
  (unasked : s.sense.restoreReq.contains (pointIndex d ch) = false)
  (e : x = (fineV (roundEven (s.refScale d * gFilter up))).1 - (fineV (roundEven (s.refScale d * gFilter down))).1)
include service free first unasked e

/-- The test of the suspect found first shows an intact point: it is suspect no longer and stays untested for a while. -/
theorem execOpenWireTestEnd_intact (closed : x < 64 * (fld s.sense.plaus 15 8 : Nat)) (intact : x < 64 * (fld s.sense.plaus 20 16 : Nat)) :
    execOpenWireTestEnd d ch up down s = s.fast ((s.suspectCleared d ch).updDsc d fun y => { y with
      quietPts := y.quietPts.set ch (64, y.reading.get 0 ch) }) := by
  have own : pointIndex d ch ∉ s.sense.restoreReq := by simpa using unasked
  simp [execOpenWireTestEnd, service, free, first, own, ← e, Int.not_le.2 closed, intact]
  rfl

/-- The test of the suspect found first shows an open wire: the point is struck. -/
theorem execOpenWireTestEnd_open (opened : x ≥ 64 * (fld s.sense.plaus 15 8 : Nat)) :
    execOpenWireTestEnd d ch up down s = s.fast ((s.suspectCleared d ch).strike d ch) := by
  have own : pointIndex d ch ∉ s.sense.restoreReq := by simpa using unasked
  simp [execOpenWireTestEnd, service, free, first, own, ← e, opened]
  rfl

end

/-- What striking a point leaves before its raise: the point in the map, its reading dropped, its domain's tallies marked, the map written. -/
def State.pointStruck (s : State) (d ch : Nat) : State :=
  let s1 := { s with sense := { s.sense with struck := insertSorted (pointIndex d ch) s.sense.struck } }
  let s2 := s1.updDsc d fun x => { x with
    reading := x.reading.filter fun e => e.1 != ch
    second := if x.second = some ch then none else x.second }
  (s2.reconf d fbTallies).writeStateBlock

@[simp] theorem State.pointStruck_keeps (s : State) (d ch : Nat) : (s.pointStruck d ch).flt.react = s.flt.react ∧
    (s.pointStruck d ch).flt.raised = s.flt.raised ∧ (s.pointStruck d ch).sense.struck = insertSorted (pointIndex d ch) s.sense.struck := by
  simp [State.pointStruck]

theorem State.strike_eq (s : State) (d ch : Nat) : s.strike d ch = (s.pointStruck d ch).raise 19 (pointIndex d ch) := rfl

/-! ### Audits (R229) -/

/-- A step of an audit before its last notes whether it failed, and the next begins. -/
theorem execDscAuditStepEnd_step {s : State} {d : DomIx} {zero mid : Int × Int} {inj : Int} {k : Nat} (audit : (s.dsc d).audit = some k)
    (h : k < 4) : execDscAuditStepEnd d zero mid inj s = s.fast (s.updDsc d fun x => { x with
      audit := some (k + 1)
      auditBad := (s.dsc d).auditBad ++ (if auditPass k zero mid inj then [] else [k]) }) := by
  simp [execDscAuditStepEnd, audit, h]

/-- Settles O19: each command by what it does to the converters, the round or the diodes, the raises by the soft frame. -/
theorem senseCommands : Obligations.SenseCommands := by
  unfold Obligations.SenseCommands
  refine ⟨fun s h on => ?tick, fun s h => ?phase, fun s d smp p e h am entry edge more => ?entry, fun s sel h ne => ?ref,
    fun s h => ?ref3, fun s h run ep off => ?round, fun s k ch raw n h part on di => ?conversion, fun s own h on idle rows => ?slot,
    fun s n x h fresh cur trip slow => ?eval, fun s n h bad new soft => ?sensor,
    fun s d smp h service free point => ?point, fun s d smp h service free average => ?average,
    fun s d smp bad h service free current eb quiet => ?cycle, fun s d smp h service free current bad run => ?mismatch,
    fun s d ch up down x h service free first unasked e closed intact => ?intact,
    fun s d ch up down h service free first unasked opened soft => ?struck, fun s d zero mid inj k h audit lt => ?audit⟩
  case tick =>
    obtain ⟨run, tallies⟩ := State.fast_trigSource 1 h
    exact ⟨_, (if_pos on).trans run, tallies, fun d hd => s.trigSource_dsc 1 hd⟩
  case phase =>
    obtain ⟨run, tallies⟩ := State.fast_trigSource 3 h
    exact ⟨_, run, tallies, fun d hd => s.trigSource_dsc 3 hd⟩
  case entry =>
    exact ⟨_, (execEntryDone_regular smp am entry edge more).trans (State.fast_kept h (by simp) (by simp)),
      by simp, fun j ne => by simp [ne], by simp⟩
  case ref =>
    have three : sel.toNat ≠ 3 := fun e => ne (BitVec.eq_of_toNat_eq e)
    exact ⟨_, State.fast_kept h (by simp) (by simp), by simp [State.refSelectOp, three]⟩
  case ref3 => exact ⟨_, State.fast_kept h (by simp) (by simp), rfl⟩
  case round =>
    obtain ⟨on, rate, lim⟩ := s.roundBegin_therm
    have runs : execHkcRoundStart s = s.fast s.roundBegin := if_pos ⟨run, ep, by simp [off]⟩
    exact ⟨_, runs.trans (State.fast_quiet h (by simp) (by simp)), on, fun k hk => s.roundBegin_hkc hk, rate, lim⟩
  case conversion =>
    obtain ⟨stored, taken, others, tile, flt, stopq⟩ := s.diodeConverted_reads k ch n (hkcCode ch raw)
    exact ⟨_, (execHkcConversion_diode raw part on di).trans (State.fast_kept h flt stopq), stored, taken, others, tile, flt⟩
  case slot =>
    obtain ⟨_, flt, stopq⟩ := s.hkcsGood_keeps
    refine ⟨_, (execHkcCheckSlot_pass on idle rows).trans (State.fast_quiet h ?_ ?_), ?_, ?_, ?_, fun k hk => ?_⟩
    · simp [State.slotPassed, flt]
    · simp [State.slotPassed, stopq]
    · simp [State.slotPassed]
    · simp [State.slotPassed]
    · simp [State.slotPassed]
    · have same : ((((s.hkcsGood.slotPassed.concludeList s.flt.hkcAud (bitAt own.toNat ·)).concludeList
        s.flt.refAud fun _ => true).alertUpdate).hkc k) = s.hkcsGood.hkc k := by simp [State.hkc, State.slotPassed]
      rw [same, s.hkcsGood_hkc hk]
  case eval =>
    obtain ⟨therm, quiet⟩ := State.evalDiode_quiet (n := n) trip slow
    have runs : execDiodeEval n s = s.fast (s.evalDiode n x (s.diode n).rate) := by simp [execDiodeEval, fresh, cur]
    rw [quiet] at runs
    have read := State.updDiode_same s n (s.diodeEvaluated x (s.diode n).rate)
    exact ⟨_, runs.trans (State.fast_kept h rfl rfl), congrArg (·.fresh) read,
      fun hot => (congrArg (·.level) read).trans (State.levelAfter_hot hot _),
      fun cool order => (congrArg (·.level) read).trans (State.levelAfter_cool cool order (fun r e => (slow r e).2) _),
      fun j ne => State.updDiode_other s n j (s.diodeEvaluated x (s.diode n).rate) ne, rfl⟩
  case sensor =>
    obtain ⟨h3, h2, k3, k2⟩ := soft
    have frame := raise_end (s := s) (t := s.updDiode n fun x => { x with badSet := true }) n false h3 h2 k3 k2
    have diodes := fun j : Nat => congrArg (fun l : Tab Diode => Tab.get {} l j) frame.diodes
    exact ⟨_, (execThermSensor_raises bad new).trans (State.fast_runs _ h), (diodes n).trans (State.updDiode_same _ _ _),
      raise_end_raised n false (by decide), fun j ne => (diodes j).trans (State.updDiode_other _ _ _ _ ne)⟩
  case point =>
    have runs := (execGuardReading_runs service free (smp := smp) rfl rfl).trans
      (congrArg s.fast ((if_neg (by omega)).trans (if_neg (by omega))))
    refine ⟨_, runs.trans (State.fast_kept h (by simp [State.guardCompared]) (by simp [State.guardCompared])), ?_, fun j ne => ?_,
      by simp [State.guardCompared], by simp [State.guardCompared]⟩
    · simp [State.guardPoint_reading, State.guardCompared]
    · simp [State.guardPoint_dsc_other, State.guardCompared, ne]
  case average =>
    have runs := execGuardReading_runs service free average (smp := smp) rfl
    exact ⟨_, runs.trans (State.fast_kept h rfl rfl), by simp [State.guardCompared], fun j ne => by simp [State.guardCompared, ne], rfl, rfl⟩
  case cycle =>
    have runs := execGuardReading_runs service free current (smp := smp) rfl
    have compared : ((s.guardCompared d 129 (s.chanResult d 129 gFilter smp).1).dsc d) = { s.dsc d with crossBad := bad } := by
      rw [eb]
      simp [State.guardCompared]
    obtain ⟨f, ended, e⟩ := State.crossEnd_quiet (s := s.guardCompared d 129 (s.chanResult d 129 gFilter smp).1) (d := d)
      (by rw [compared]; exact quiet)
    rw [if_pos rfl, ended] at runs
    rw [compared] at e
    refine ⟨_, runs.trans (State.fast_kept h rfl rfl), ?_, fun j ne => ?_, rfl, rfl⟩
    · simp [compared, e]
    · simp [State.guardCompared, ne]
  case mismatch =>
    have runs := execGuardReading_runs service free current (smp := smp) rfl
    have compared : ((s.guardCompared d 129 (s.chanResult d 129 gFilter smp).1).dsc d) = { s.dsc d with crossBad := true } := by
      rw [← bad]
      simp [State.guardCompared]
    rw [if_pos rfl, State.crossEnd_mismatch (by rw [compared]) (by rw [compared]; exact run)] at runs
    refine ⟨_, runs.trans (State.fast_runs _ h), (closing_raised _ _ (by decide)).trans ?_⟩
    simp [raise_raised, State.guardCompared]
  case intact =>
    exact ⟨_, (execOpenWireTestEnd_intact service free first unasked e closed intact).trans (State.fast_kept h rfl rfl),
      by simp [State.suspectCleared_suspects], rfl, fun j ne => by simp [State.suspectCleared_dsc_other, ne]⟩
  case struck =>
    obtain ⟨h3, h2, k3, k2⟩ := soft
    have runs := (execOpenWireTestEnd_open service free first unasked rfl opened).trans (State.fast_runs _ h)
    have frame := raise_end (s := s) (t := (s.suspectCleared d ch).pointStruck d ch) (src := 19) (pointIndex d ch) false
      (by simpa [State.reactOf] using h3) (by simpa [State.reactOf] using h2) (by simpa [State.reactOf] using k3)
      (by simpa [State.reactOf] using k2)
    exact ⟨_, runs, (congrArg (·.struck) frame.sense).trans (by simp), (raise_end_raised _ false (by decide)).trans (by simp)⟩
  case audit =>
    exact ⟨_, (execDscAuditStepEnd_step audit lt).trans (State.fast_kept h (by simp) (by simp)), by simp, fun j ne => by simp [ne]⟩

end Sys2Proof.Machine
end

section
/-! PROOF. Host commands that finish as they are accepted (R216, R320, R403, R411, R426, R476 to R482). -/

namespace Sys2Proof.Machine

/-! ### The completion of such a command (R471, R475, R476) -/

/-- The command has had its effect and its completion is still to come: what the completion rests on, and what the end of a command looks
at, is as it was. -/
structure State.BeforeCompletion (s u : State) : Prop where
  complOut : u.rings.complOut = s.rings.complOut
  complWait : u.rings.complWait = s.rings.complWait
  ledger : u.ledger = s.ledger
  lost : u.flt.eventLostRun = s.flt.eventLostRun
  active : u.stopq.active = s.stopq.active

/-- A ready command that completes OK at once leaves its effect, its completion, and the check of ALERT_N. -/
theorem State.hostCmd_completes {s u : State} {c : Instr} {x : CmdCtx} {op d : Nat} (e : hostCtx c = some (x, op)) (h : s.HostReady x op)
    (r : s.hostRun c = .ok (u.complete x op stOk d)) (k : s.BeforeCompletion u) :
    ∃ t, s.hostCmd c = .next t ∧ s.Completed t x op stOk d ∧
      ∃ l m, t = { u with rings := { u.rings with complOut := l }, smb := m } := by
  have room : u.rings.complOut.length < complDepth ∧ u.rings.complWait = [] := by
    rw [k.complOut, k.complWait]
    exact h.room
  have epoch : u.epochLo = s.epochLo := by rw [State.epochLo, k.ledger, State.epochLo]
  have posted : u.complete x op stOk d = { u with rings := { u.rings with complOut := (u.complete x op stOk d).rings.complOut } } := by
    simp only [State.complete, State.pushCompl, if_pos room]
    split <;> rfl
  refine ⟨_, State.hostCmd_accepted e h r (by simp [k.lost]) (by simp [k.active]), ?_,
    (u.complete x op stOk d).rings.complOut, (u.complete x op stOk d).alertUpdate.smb,
    congrArg (fun z : State => { z with smb := (u.complete x op stOk d).alertUpdate.smb }) posted⟩
  simp only [State.Completed, State.complete, State.pushCompl, if_pos room, epoch]
  split <;> simp [k.complOut]

section
variable {s : State} {x : CmdCtx}

/-! ### Reads into host memory (R216, R476, R478) -/

theorem State.hostWrite_before (s : State) (a : Nat) (l : List Word) : s.BeforeCompletion (s.hostWrite a l) := by
  constructor <;> rfl

theorem State.runReadLaw_ok {d a : Nat} {staged : Bool} {l : List Word} (hd : d < 48)
    (k : (if staged then (s.dom d).staged.map (·.image) else some (s.dom d).law) = some l) (len : l.length = 16) :
    s.runReadLaw x d staged a true = .ok ((s.hostWrite a l).complete x 0x05 stOk (lawTag l * 65536)) := by
  have whole : (l ++ List.replicate 16 0).take 16 = l := by rw [← len, List.take_left]
  have named : noDomain d = false := by simp [noDomain, hd]
  simp only [State.runReadLaw, named, k, whole]
  rfl

theorem State.runReadTally_ok {conv mask a : Nat} (h : conv < 56) : s.runReadTally x conv mask false a true =
    .ok ((s.hostWrite a ((setBits 16 mask).flatMap fun k => tallyWords (s.tally conv k).done)).complete x 0x0D stOk
      (setBits 16 mask).length) := by
  simp [State.runReadTally, Nat.not_le.2 h]

theorem State.runVaultRead_ok {off len a : Nat} (o8 : off % 8 = 0) (l8 : len % 8 = 0) (lo : 8 ≤ len) (hi : len ≤ 4096)
    (fits : off + len ≤ 0x40000) : s.runVaultRead x off len a true =
      .ok ((s.hostWrite a (bytesWords (len / 4) (s.vaultBytes off len))).complete x 0x15 stOk (crc32 (s.vaultBytes off len)).toNat) := by
  simp [State.runVaultRead, o8, l8, Nat.not_lt.2 lo, Nat.not_lt.2 hi, Nat.not_lt.2 fits]

/-! ### Triggers (R205, R233) -/

theorem trigTargets_nodup (all : Bool) (conv : Nat) : (trigTargets all conv).Nodup := by
  unfold trigTargets
  split
  · exact List.nodup_range
  · split <;> simp

/-- A trigger by software reaches the converters it names: an injected one whatever their TRIG_SRC, a regular one where it is 0. -/
theorem State.softTrig_dsc_mem {all inj : Bool} {conv d : Nat} (m : d ∈ trigTargets all conv) : (s.softTrig all inj conv).dsc d =
    if inj then (s.dsc d).trigInjected else if (s.dsc d).trigSrc = 0 then (s.dsc d).trigRegular else s.dsc d := by
  refine forEach_at_mem State.dsc _ (fun _ y => if inj then y.trigInjected else if y.trigSrc = 0 then y.trigRegular else y)
    (fun t a b ne => ?_) (fun t a => ?_) _ s d (trigTargets_nodup all conv) m
  · repeat' split
    all_goals simp [ne]
  · repeat' split
    all_goals simp

theorem State.softTrig_dsc_other {all inj : Bool} {conv d : Nat} (m : d ∉ trigTargets all conv) :
    (s.softTrig all inj conv).dsc d = s.dsc d := by
  refine forEach_at_other State.dsc _ (fun t a b ne => ?_) _ s d m
  repeat' split
  all_goals simp [ne]

/-- Triggers change converters alone. -/
theorem State.softTrig_before (s : State) (all inj : Bool) (conv : Nat) : s.BeforeCompletion (s.softTrig all inj conv) := by
  obtain ⟨v, e⟩ : ∃ v, s.softTrig all inj conv = { s with dscs := v } := by
    refine forEach_within (fun z v => { z with dscs := v }) (fun _ _ _ => rfl) (fun z => ⟨z.dscs, rfl⟩) _ _ (fun t d => ?_) s
    repeat' split
    all_goals exact ⟨_, rfl⟩
  rw [e]
  exact ⟨rfl, rfl, rfl, rfl, rfl⟩

theorem State.runSenseTrigger_ok {v : Word} (reserved : v &&& 0x3FFFFFC0 = 0) (named : wbit v 31 = true ∨ fld v 5 0 < 48) :
    s.runSenseTrigger x v = .ok ((s.softTrig (wbit v 31) (wbit v 30) (fld v 5 0)).complete x 0x10 stOk 0) := by
  have clean : ¬ (v &&& 0x3FFFFFC0 ≠ 0 ∨ (wbit v 31 = false ∧ fld v 5 0 ≥ 48)) := by
    rintro (bad | ⟨one, past⟩)
    · exact bad reserved
    · obtain all | hd := named
      · simp [all] at one
      · omega
  rw [State.runSenseTrigger, if_neg clean]

/-! ### FAULT_ACK and SET_REACTION (R403, R411, R426) -/

/-- What FAULT_ACK leaves: the pending bits it names cleared, and ERRN_HOLD as HOLD has it, where it has it. -/
def State.faultAcked (s : State) (mask : Nat) (hold : BitVec 2) : State :=
  if hold.toNat ≥ 2 then (s.clearPend mask).setErrnHold (hold.toNat % 2 == 1) else s.clearPend mask

theorem State.clearPend_eq (s : State) (mask : Nat) : ∃ p, s.clearPend mask = { s with flt := { s.flt with pend := p } } ∧
    ∀ k, k < 45 → bitAt p k = (bitAt s.flt.pend k && !bitAt mask k) :=
  ⟨_, rfl, fun k h => by rw [setBits, List.filter_filter, bitAt_ofBits_range 45 _ k h, Bool.and_comm]⟩

theorem State.errnSettle_eq (s : State) : ∃ e, s.errnSettle = { s with flt := { s.flt with errn := e } } := ⟨_, rfl⟩

theorem State.setErrnHold_eq (s : State) (b : Bool) : ∃ w e, s.setErrnHold b = { s with flt := { s.flt with ctrl := w, errn := e } } ∧
    wbit w 31 = b := by
  obtain ⟨w, written, set⟩ : ∃ w, w = putFld s.flt.ctrl 31 31 (b2n b) ∧
      s.setErrnHold b = State.errnSettle { s with flt := { s.flt with ctrl := w } } := ⟨_, rfl, rfl⟩
  obtain ⟨e, settled⟩ := State.errnSettle_eq { s with flt := { s.flt with ctrl := w } }
  have bit : wbit (putFld s.flt.ctrl 31 31 (b2n b)) 31 = b := (wbit_putFld _ 31 _ (by decide)).trans (by cases b <;> rfl)
  exact ⟨w, e, set.trans settled, written ▸ bit⟩

/-- Of the fault logic FAULT_ACK changes the pending bits, UL_FLT_CTRL and ERR_N, and of the rest nothing. -/
theorem State.faultAcked_eq (s : State) (mask : Nat) (hold : BitVec 2) : ∃ p w e,
    s.faultAcked mask hold = { s with flt := { s.flt with pend := p, ctrl := w, errn := e } } ∧
    (∀ k, k < 45 → bitAt p k = (bitAt s.flt.pend k && !bitAt mask k)) ∧
    (2 ≤ hold.toNat → wbit w 31 = decide (hold.toNat = 3)) ∧ (hold.toNat < 2 → w = s.flt.ctrl) := by
  obtain ⟨p, cleared, pend⟩ := s.clearPend_eq mask
  rw [State.faultAcked, cleared]
  by_cases set : 2 ≤ hold.toNat
  · obtain ⟨w, e, held, bit⟩ := State.setErrnHold_eq { s with flt := { s.flt with pend := p } } (hold.toNat % 2 == 1)
    have three : hold.toNat = 2 ∨ hold.toNat = 3 := by omega
    rw [if_pos set, held]
    refine ⟨p, w, e, rfl, pend, fun _ => bit.trans ?_, fun lt => absurd set (Nat.not_le.2 lt)⟩
    obtain two | three := three <;> simp [*]
  · rw [if_neg set]
    exact ⟨p, s.flt.ctrl, s.flt.errn, rfl, pend, fun le => absurd le set, fun _ => rfl⟩

theorem State.runFaultAck_ok {c0 c1 : Word} {hold : BitVec 2} (h : c1.toNat ≤ 0x1FFF) : s.runFaultAck x c0 c1 hold =
    .ok ((s.faultAcked (c0.toNat + 2 ^ 32 * c1.toNat) hold).complete x 0x12 stOk
      (fltCode (s.faultAcked (c0.toNat + 2 ^ 32 * c1.toNat) hold).flt.st)) := by
  rw [State.runFaultAck, if_neg (Nat.not_lt.2 h)]
  simp only [State.faultAcked]

theorem State.setReact_before (s : State) (src v : Nat) : s.BeforeCompletion (s.setReact src v) := by constructor <;> rfl

theorem State.setReact_same (s : State) (src v : Nat) : (s.setReact src v).reactOf src = v := Tab.get_set_same _ _ _ _

theorem State.setReact_other (s : State) {src k : Nat} (v : Nat) (h : k ≠ src) : (s.setReact src v).reactOf k = s.reactOf k :=
  Tab.get_set_other _ _ _ _ _ h

theorem State.runSetReaction_ok {src v : Nat} (h : reactOk src v = true) :
    s.runSetReaction x src v = .ok ((s.setReact src v).complete x 0x17 stOk v) := by
  simp [State.runSetReaction, h]

/-! ### DROP_PACKET (R270, R478) -/

/-- The tiles a DROP_PACKET names. -/
def dropTiles (tile : Nat) (all : Bool) : List Nat := if all then List.range 1024 else [tile]

/-- What it leaves: each tile it names without the packet in progress. -/
def State.packetsDropped (s : State) (l : List Nat) : State := s.forEach l fun s t => s.updTile t Tile.dropPacket

theorem State.packetsDropped_before (s : State) (l : List Nat) : s.BeforeCompletion (s.packetsDropped l) := by
  obtain ⟨v, e⟩ : ∃ v, s.packetsDropped l = { s with tiles := v } :=
    forEach_within (fun z v => { z with tiles := v }) (fun _ _ _ => rfl) (fun z => ⟨z.tiles, rfl⟩) _ _ (fun _ _ => ⟨_, rfl⟩) s
  rw [e]
  exact ⟨rfl, rfl, rfl, rfl, rfl⟩

theorem State.packetsDropped_mem (s : State) {l : List Nat} {k : Nat} (n : l.Nodup) (m : k ∈ l) :
    (s.packetsDropped l).tile k = (s.tile k).dropPacket := forEach_updTile_mem (fun _ => Tile.dropPacket) l s k n m

theorem State.packetsDropped_other (s : State) {l : List Nat} {k : Nat} (m : k ∉ l) : (s.packetsDropped l).tile k = s.tile k :=
  forEach_updTile_other (fun _ => Tile.dropPacket) l s k m

/-- The words dropped, which DATA gives. -/
def State.wordsDropped (s : State) (l : List Nat) : Nat :=
  sumN (l.map fun t => (s.tile t).fifo.length - ((s.packetsDropped l).tile t).fifo.length)

theorem State.runDropPacket_ok (tile : Nat) (all : Bool) : s.runDropPacket x tile all =
    .ok ((s.packetsDropped (dropTiles tile all)).complete x 0x16 stOk (s.wordsDropped (dropTiles tile all))) := rfl

theorem State.wordsDropped_one (s : State) (tile : Nat) :
    s.wordsDropped [tile] = (s.tile tile).fifo.length - (s.tile tile).dropPacket.fifo.length := by
  simp [State.wordsDropped, s.packetsDropped_mem (l := [tile]), sumN]

/-! ### The relay form of PACE_CTL (R320, R482) -/

/-- A new SEQ is a byte and is not the one in force. -/
theorem State.newSeq_fresh (s : State) (old : Option Nat) : (s.newSeq old).1 < 256 ∧ ∀ o, old = some o → (s.newSeq old).1 ≠ o := by
  unfold State.newSeq
  cases old with
  | none => exact ⟨Nat.mod_lt _ (by decide), by simp⟩
  | some o =>
    dsimp only
    refine ⟨?_, fun _ e => ?_⟩
    · split <;> omega
    · cases e
      split <;> omega

/-- What a relayed quota leaves: its QUOTA frame sent, and the quota in force under a SEQ. -/
def State.relaySent (s : State) (q seq : Nat) : State :=
  let s2 := (s.newSeq (s.pace.relay.map fun b => b.2.1)).2.paceSend (.quota s.pace.pos true s.paceGroup q seq)
  { s2 with pace := { s2.pace with relay := some (q, seq, 0), entries := takeQuota s2.pace.entries s.pace.pos true q seq } }

variable {q : Nat} (hq : q ≠ 0) (up : s.pace.st = .up) (group : s.paceGroup ≠ 0)
include hq up group

theorem State.runPaceRelay_send : s.runPaceRelay x q false =
    .ok ((s.relaySent q (s.newSeq (s.pace.relay.map fun b => b.2.1)).1).complete x 0x14 stOk
      (s.newSeq (s.pace.relay.map fun b => b.2.1)).1) := by
  simp [State.runPaceRelay, hq, up, group, State.relaySent]

theorem State.runPaceRelay_release {q0 seq n : Nat} (k : s.pace.relay = some (q0, seq, n)) :
    s.runPaceRelay x q true = .ok ((s.paceRelease true s.paceGroup).complete x 0x14 stOk seq) := by
  simp [State.runPaceRelay, hq, up, group, k]

theorem State.runPaceRelay_nothing (k : s.pace.relay = none) :
    s.runPaceRelay x q true = .ok (s.draw.2.complete x 0x14 stOk (s.draw.1.toNat % 256)) := by
  simp [State.runPaceRelay, hq, up, group, k]

end

theorem State.relaySent_before (s : State) (q seq : Nat) : s.BeforeCompletion (s.relaySent q seq) := by constructor <;> rfl

theorem State.paceRelease_relay {s : State} {q seq n : Nat} (group : Nat) (k : s.pace.relay = some (q, seq, n)) :
    (s.paceRelease true group).pace.tx = .release s.pace.pos true group seq :: s.pace.tx ∧ (s.paceRelease true group).pace.relay = none := by
  simp [State.paceRelease, k, State.paceSend]

/-- Settles O26: each command's effect leaves what its completion rests on, so that a ready command completes as it is accepted; an unknown
opcode is refused. -/
theorem hostCommandsAtOnce : Obligations.HostCommandsAtOnce := by
  unfold Obligations.HostCommandsAtOnce
  refine ⟨fun s x h => ?nop, fun s x d staged addr l h hd k len => ?law, fun s x conv mask addr h hc => ?tally,
    fun s x off len addr h o8 l8 lo hi fits => ?vault, fun s x v h reserved named => ?trigger, fun s x c0 c1 hold h hc => ?ack,
    fun s x src react h ok => ?reaction, fun s x tile all h => ?drop,
    fun s x q h hq up group => ⟨?send, fun q0 seq n k => ?release, fun k => ?nothing⟩, fun s x op past h => ?unknown⟩
  case nop =>
    obtain ⟨_, run, done, _, _, rfl⟩ := State.hostCmd_completes (c := .nop x) rfl h rfl ⟨rfl, rfl, rfl, rfl, rfl⟩
    exact ⟨_, run, done, rfl, rfl, rfl, rfl⟩
  case law =>
    obtain ⟨_, run, done, _, _, rfl⟩ := State.hostCmd_completes (c := .readLaw x d staged addr true) rfl h
      (State.runReadLaw_ok hd k len) (s.hostWrite_before _ _)
    exact ⟨_, run, done, rfl, rfl, rfl⟩
  case tally =>
    obtain ⟨_, run, done, _, _, rfl⟩ := State.hostCmd_completes (c := .readTally x conv mask false addr true) rfl h
      (State.runReadTally_ok hc) (s.hostWrite_before _ _)
    exact ⟨_, run, done, rfl, rfl⟩
  case vault =>
    obtain ⟨_, run, done, _, _, rfl⟩ := State.hostCmd_completes (c := .vaultRead x off len addr true) rfl h
      (State.runVaultRead_ok o8 l8 lo hi fits) (s.hostWrite_before _ _)
    exact ⟨_, run, done, rfl, rfl⟩
  case trigger =>
    obtain ⟨_, run, done, _, _, rfl⟩ := State.hostCmd_completes (c := .senseTrigger x v) rfl h
      (State.runSenseTrigger_ok reserved named) (s.softTrig_before _ _ _)
    exact ⟨_, run, done, fun d m inj => (State.softTrig_dsc_mem m).trans (by rw [if_pos inj]),
      fun d m inj src => (State.softTrig_dsc_mem m).trans (by simp [inj, src]), fun d m => State.softTrig_dsc_other m⟩
  case ack =>
    obtain ⟨p, w, e, acked, pend, held, kept⟩ := s.faultAcked_eq (c0.toNat + 2 ^ 32 * c1.toNat) hold
    have verdict := State.runFaultAck_ok (x := x) (s := s) (c0 := c0) (hold := hold) hc
    rw [acked] at verdict
    obtain ⟨_, run, done, _, _, rfl⟩ := State.hostCmd_completes (c := .faultAck x c0 c1 hold) rfl h verdict ⟨rfl, rfl, rfl, rfl, rfl⟩
    exact ⟨_, run, done, pend, held, kept⟩
  case reaction =>
    obtain ⟨_, run, done, _, _, rfl⟩ := State.hostCmd_completes (c := .setReaction x src react) rfl h
      (State.runSetReaction_ok ok) (s.setReact_before _ _)
    exact ⟨_, run, done, s.setReact_same _ _, fun k ne => s.setReact_other _ ne⟩
  case drop =>
    obtain ⟨_, run, done, _, _, rfl⟩ := State.hostCmd_completes (c := .dropPacket x tile all) rfl h
      (State.runDropPacket_ok tile.toNat all) (s.packetsDropped_before _)
    refine ⟨_, _, run, done, fun k hk named => ?_, fun k ne one => ?_, fun one => ?_⟩
    · refine s.packetsDropped_mem ?_ ?_
      · cases all <;> simp [dropTiles, List.nodup_range]
      · cases all <;> simp_all [dropTiles]
    · exact s.packetsDropped_other (by simp [dropTiles, one, ne])
    · rw [one]; exact s.wordsDropped_one _
  case send =>
    obtain ⟨small, fresh⟩ := s.newSeq_fresh (s.pace.relay.map fun b => b.2.1)
    have hq' : q.toNat ≠ 0 := fun e => hq (BitVec.eq_of_toNat_eq e)
    obtain ⟨_, run, done, _, _, rfl⟩ := State.hostCmd_completes (c := .paceRelay x q false) rfl h
      (State.runPaceRelay_send hq' up group) (s.relaySent_before _ _)
    exact ⟨_, _, run, done, small, rfl, rfl, fun b k => fresh _ (by rw [k]; rfl)⟩
  case release =>
    have hq' : q.toNat ≠ 0 := fun e => hq (BitVec.eq_of_toNat_eq e)
    obtain ⟨sent, gone⟩ := State.paceRelease_relay s.paceGroup k
    obtain ⟨_, run, done, _, _, rfl⟩ := State.hostCmd_completes (c := .paceRelay x q true) rfl h
      (State.runPaceRelay_release hq' up group k) (by constructor <;> simp)
    exact ⟨_, run, done, sent, gone⟩
  case nothing =>
    have hq' : q.toNat ≠ 0 := fun e => hq (BitVec.eq_of_toNat_eq e)
    obtain ⟨_, run, done, _, _, rfl⟩ := State.hostCmd_completes (c := .paceRelay x q true) rfl h
      (State.runPaceRelay_nothing hq' up group k) ⟨rfl, rfl, rfl, rfl, rfl⟩
    exact ⟨_, _, run, done, rfl⟩
  case unknown =>
    obtain ⟨t, run, done, frame⟩ := State.hostCmd_refused (c := .unknownOpcode x op) rfl h rfl
    exact ⟨t, (if_neg (Nat.not_le.2 past)).trans run, done, congrArg (·.doms) frame, congrArg (·.ledger) frame⟩

end Sys2Proof.Machine
end

section
/-! PROOF. The frames of the pace ring at the chip they reach (R312 to R316, R319, R321, R326, R328). -/

namespace Sys2Proof.Machine

/-! ### Forwarding, and the chip's own position (R313 to R315) -/

theorem State.paceTakesPart_iff (s : State) :
    s.paceTakesPart = true ↔ s.paceOn = true ∧ s.paceEn = true ∧ s.start.ready = true := by
  simp [State.paceTakesPart, and_assoc]

/-- A command that forwards a frame while SD13 is on changes the line alone. -/
theorem next_of_forward {s : State} {o : Out} {f : PaceTx} (on : s.paceOn = true) (e : o = settle s (s.paceForward f)) :
    ∃ t, o = .next t ∧ t = { s with pace := { s.pace with tx := f :: s.pace.tx }, smb := t.smb } :=
  next_of_pace (e.trans (congrArg (settle s) (if_pos on)))

theorem State.paceOwn_iff (s : State) (o : Nat) : s.paceOwn o = true ↔ s.pace.st = .up ∧ s.pace.pos = o := by
  simp [State.paceOwn]

theorem State.paceOwn_foreign {s : State} {o : Nat} (h : ¬ (s.pace.st = .up ∧ s.pace.pos = o)) : s.paceOwn o = false := by
  rwa [← Bool.not_eq_true, s.paceOwn_iff]

theorem State.paceHolds_own {s : State} {g : BitVec 8} (h : s.paceTakesPart = true) (u : s.pace.st = .up)
    (e : s.paceGroup = g.toNat) (n : g ≠ 0) : s.paceHolds g.toNat = true := by
  have : g.toNat ≠ 0 := fun z => n (BitVec.eq_of_toNat_eq z)
  simp [State.paceHolds, h, u, e, this]

/-! ### Discovery (R316) -/

/-- A chip that takes part joins every discovery that it has not sent its SURVEY in. -/
theorem State.paceJoin_takesPart {s : State} (h : s.paceTakesPart = true) :
    s.paceJoin = { s with pace := if s.pace.st = .discovering ∧ s.pace.sentSurvey = true then s.pace else s.paceDiscover.pace } := by
  obtain ⟨-, en, -⟩ := s.paceTakesPart_iff.1 h
  have dis : s.paceDiscover = { s with pace := s.paceDiscover.pace } := rfl
  unfold State.paceJoin
  cases st : s.pace.st
  case discovering => cases sent : s.pace.sentSurvey <;> simp [← dis]
  all_goals simp [en, ← dis]

/-- What a SURVEY makes of the pace link once the chip has joined: its own makes it the leader, a lower serial goes on, a higher one
is dropped. -/
def Pace.surveyed (p : Pace) (own serial : Nat) : Pace :=
  if serial = own then { p with leader := true, pos := 0, tx := .count 1 :: p.tx }
  else if serial < own then { p with tx := .survey serial :: p.tx } else p

theorem execSurvey_takesPart {s : State} (serial : BitVec 48) (h : s.paceTakesPart = true) :
    execSurvey serial s = settle s { s with pace := s.paceJoin.pace.surveyed s.serial serial.toNat } := by
  rw [s.paceJoin_takesPart h]
  simp only [execSurvey, h, Bool.not_true, Bool.false_eq_true, if_false, s.paceJoin_takesPart h, Pace.surveyed]
  by_cases own : serial.toNat = s.serial
  · simp only [if_pos own]
    rfl
  · simp only [if_neg own]
    split <;> rfl

theorem execSurvey_apart {s : State} (serial : BitVec 48) (h : s.paceTakesPart = false) :
    execSurvey serial s = settle s (s.paceForward (.survey serial.toNat)) := by
  simp [execSurvey, h]

theorem execCount_leads {s : State} {n : BitVec 7} (h : s.paceTakesPart = true) (d : s.pace.st = .discovering)
    (l : s.pace.leader = true) (lo : 1 ≤ n.toNat) (hi : n.toNat ≤ 64) :
    execCount n s = settle s { s with pace := { s.pace with size := n.toNat, tx := .size n.toNat :: s.pace.tx } } := by
  simp [execCount, h, d, l, lo, hi, State.paceSend]

theorem execCount_follows {s : State} {n : BitVec 7} (h : s.paceTakesPart = true) (d : s.pace.st = .discovering)
    (l : s.pace.leader = false) (lo : 1 ≤ n.toNat) (hi : n.toNat ≤ 63) :
    execCount n s = settle s { s with pace := { s.pace with pos := n.toNat, tx := .count (n.toNat + 1) :: s.pace.tx } } := by
  simp [execCount, h, d, l, lo, hi, State.paceSend]

theorem execCount_removed {s : State} (n : BitVec 7) (h : s.paceTakesPart = true) (l : s.pace.leader = true)
    (d : s.pace.st ≠ .discovering) : execCount n s = .next s := by
  simp [execCount, h, l, d]

theorem execCount_forwards {s : State} (n : BitVec 7)
    (h : s.paceTakesPart = false ∨ (s.pace.leader = false ∧ s.pace.st ≠ .discovering)) :
    execCount n s = settle s (s.paceForward (.count n.toNat)) := by
  rcases h with h | ⟨l, d⟩
  · simp [execCount, h]
  · simp [execCount, l, d]

/-! ### SIZE (R316 step 5, R326) -/

/-- The pace link that is up in a ring of `n` chips, its line as given. -/
def State.paceRinged (s : State) (n : Nat) (tx : List PaceTx) : State :=
  { s with pace := { s.pace with
    st := .up
    size := n
    liveAge := 0
    entries := s.pace.entries.filter (·.carried)
    resend := s.pace.bcast.isSome || s.pace.relay.isSome
    tx := tx } }

/-- The line and the event FIFO are apart. -/
theorem State.pushEvent_paceSend (s : State) (e : Event) (f : PaceTx) :
    (s.pushEvent e).paceSend f = (s.paceSend f).pushEvent e := by
  by_cases room : s.rings.eventOut.length < eventFifoDepth <;> simp [State.pushEvent, room, State.paceSend]

theorem State.paceUp_paceSend (s : State) (n : Nat) (f : PaceTx) :
    (s.paceUp n).paceSend f =
      (s.paceRinged n (f :: s.pace.tx)).pushEvent (evPace 1 0 0 false false (s.pace.pos + n * 2 ^ 8)) :=
  State.pushEvent_paceSend _ _ _

/-- In discovery the leader takes the size it has sent, a member that of the frame, which it passes on. -/
theorem execSize_discovering {s : State} {n : BitVec 7} {z : Nat} (h : s.paceTakesPart = true) (d : s.pace.st = .discovering)
    (k : s.pace.leader = true ∨ (1 ≤ n.toNat ∧ n.toNat ≤ 64)) (hz : z = if s.pace.leader = true then s.pace.size else n.toNat) :
    execSize n s = settle s
      ((s.paceRinged z (if s.pace.leader = true then s.pace.tx else .size n.toNat :: s.pace.tx)).pushEvent
        (evPace 1 0 0 false false (s.pace.pos + z * 2 ^ 8))) := by
  subst hz
  cases l : s.pace.leader
  case true =>
    simp only [execSize, h, d, l, if_true, Bool.not_true, Bool.false_eq_true, if_false]
    rfl
  case false =>
    have range : 1 ≤ n.toNat ∧ n.toNat ≤ 64 := k.resolve_left (by simp [l])
    simp [execSize, h, d, l, range, State.paceUp_paceSend]

theorem execSize_removed {s : State} (n : BitVec 7) (h : s.paceTakesPart = true) (l : s.pace.leader = true)
    (d : s.pace.st ≠ .discovering) : execSize n s = .next s := by
  simp [execSize, h, l, d]

theorem execSize_forwards {s : State} (n : BitVec 7)
    (h : s.paceTakesPart = false ∨ (s.pace.leader = false ∧ s.pace.st ≠ .discovering)) :
    execSize n s = settle s (s.paceForward (.size n.toNat)) := by
  rcases h with h | ⟨l, d⟩
  · simp [execSize, h]
  · simp [execSize, l, d]

/-! ### Frames with an ORIGIN (R315, R319, R321, R328) -/

section
variable {s : State} {o : BitVec 6}

theorem execLive_own (h : s.paceOwn o.toNat = true) : execLive o s = .next s := if_pos h

theorem execLive_foreign (h : s.paceOwn o.toNat = false) : execLive o s = settle s (s.paceForward (.live o.toNat)) := by
  simp [execLive, h]

theorem execQuota_own (r : Bool) (g : BitVec 8) (q : BitVec 6) (seq : BitVec 8) (h : s.paceOwn o.toNat = true) :
    execQuota o r g q seq s = .next s := if_pos h

theorem execQuota_forwards (r : Bool) {g : BitVec 8} (q : BitVec 6) (seq : BitVec 8) (h : s.paceOwn o.toNat = false)
    (k : s.paceHolds g.toNat = false) :
    execQuota o r g q seq s = settle s (s.paceForward (.quota o.toNat r g.toNat q.toNat seq.toNat)) := by
  simp [execQuota, h, k]

theorem execQuota_held (r : Bool) {g : BitVec 8} {q : BitVec 6} (seq : BitVec 8) (on : s.paceOn = true)
    (h : s.paceOwn o.toNat = false) (k : s.paceHolds g.toNat = true) (n : q ≠ 0) :
    execQuota o r g q seq s = settle s { s with pace := { s.pace with
      entries := takeQuota s.pace.entries o.toNat r q.toNat seq.toNat
      tx := .quota o.toNat r g.toNat q.toNat seq.toNat :: s.pace.tx } } := by
  have : q.toNat ≠ 0 := fun z => n (BitVec.eq_of_toNat_eq z)
  simp [execQuota, h, k, this, State.paceForward, on, State.paceSend]

theorem execRelease_own (r : Bool) (g seq : BitVec 8) (h : s.paceOwn o.toNat = true) : execRelease o r g seq s = .next s :=
  if_pos h

theorem execRelease_forwards (r : Bool) {g : BitVec 8} (seq : BitVec 8) (h : s.paceOwn o.toNat = false)
    (k : s.paceHolds g.toNat = false) :
    execRelease o r g seq s = settle s (s.paceForward (.release o.toNat r g.toNat seq.toNat)) := by
  simp [execRelease, h, k]

theorem execRelease_held (r : Bool) {g : BitVec 8} (seq : BitVec 8) (on : s.paceOn = true) (h : s.paceOwn o.toNat = false)
    (k : s.paceHolds g.toNat = true) :
    execRelease o r g seq s = settle s { s with pace := { s.pace with
      entries := s.pace.entries.filter fun e => !(e.is o.toNat r && e.seq == seq.toNat)
      tx := .release o.toNat r g.toNat seq.toNat :: s.pace.tx } } := by
  simp [execRelease, h, k, State.paceForward, on, State.paceSend]

theorem execLeave_own (g : BitVec 8) (h : s.paceOwn o.toNat = true) : execLeave o g s = .next s := if_pos h

theorem execLeave_forwards {g : BitVec 8} (h : s.paceOwn o.toNat = false) (k : s.paceHolds g.toNat = false) :
    execLeave o g s = settle s (s.paceForward (.leave o.toNat g.toNat)) := by
  simp [execLeave, h, k]

/-- The pace link after a peer has left: its entries are gone, the carried one stays, and LEAVE has gone on. -/
def State.peerLeft (s : State) (o g : Nat) : State :=
  { s with pace := { s.pace with
    entries := s.pace.entries.filter fun e => e.carried || e.origin != o
    tx := .leave o g :: s.pace.tx } }

theorem execLeave_held {g : BitVec 8} (on : s.paceOn = true) (h : s.paceOwn o.toNat = false) (k : s.paceHolds g.toNat = true) :
    execLeave o g s = settle s ((s.peerLeft o.toNat g.toNat).pushEvent (evPace 5 o.toNat 0 false false)) := by
  simp [execLeave, h, k, State.paceForward, on, State.paceSend, State.peerLeft]

end

/-! ### The held entries under a QUOTA (R321) -/

theorem takeQuota_new {l : List PaceEntry} {o : Nat} {r : Bool} (q seq : Nat) (h : ∀ e ∈ l, e.is o r = false)
    (room : (l.filter fun e => !e.carried).length < 64) :
    takeQuota l o r q seq = l ++ [{ origin := o, relay := r, q := q, seq := seq }] := by
  have no : l.any (·.is o r) = false := List.any_eq_false.2 fun e m => by simp [h e m]
  rw [takeQuota, no, if_neg Bool.false_ne_true, if_pos room]

theorem takeQuota_known {l : List PaceEntry} {o : Nat} {r : Bool} (q seq : Nat) (h : ∃ e ∈ l, e.is o r = true) :
    takeQuota l o r q seq = l.map fun e => if e.is o r then
      (if e.seq ≠ seq ∨ e.q < q then { e with q := q, seq := seq, age := 0 } else { e with age := 0 }) else e :=
  if_pos (List.any_eq_true.2 h)

/-! ### Reserved frames and frames with a wrong CRC (R312 to R314) -/

/-- A payload whose TYPE is 0 or above 7 has a type that R314 does not list. -/
theorem execPaceReservedFrame_forwards {s : State} {p : BitVec 56} (h : p.toNat / 2 ^ 52 = 0 ∨ 8 ≤ p.toNat / 2 ^ 52) :
    execPaceReservedFrame p s = settle s (s.paceForward (.raw p.toNat)) := by
  have type : bits p.toNat 55 52 = p.toNat / 2 ^ 52 := Nat.mod_eq_of_lt (by omega)
  have reserved : ¬ (1 ≤ p.toNat / 2 ^ 52 ∧ p.toNat / 2 ^ 52 ≤ 7) := by omega
  rw [execPaceReservedFrame, type, ← Bool.decide_and, if_neg (by simpa using reserved)]

theorem execPaceCrcDrop_counts {s : State} {p : BitVec 56} {crc : BitVec 16} (on : s.paceOn = true)
    (h : crc.toNat ≠ crc16 ((natBytes 7 p.toNat).reverse)) :
    execPaceCrcDrop p crc s = settle s { s with pace := { s.pace with crcCnt := incSat 65535 s.pace.crcCnt } } := by
  have wrong : crc.toNat ≠ paceCrc p.toNat := h
  simp [execPaceCrcDrop, on, wrong]

/-- Settles O40: each frame is the end of one change of the pace link, with one event where its rule posts one; where it has no
part, the chip forwards the frame. -/
theorem paceFrames : Obligations.PaceFrames := by
  unfold Obligations.PaceFrames
  refine ⟨fun s serial h => ?survey, fun s n h d => ⟨fun l lo hi => next_of_pace (execCount_leads h d l lo hi),
      fun l lo hi => next_of_pace (execCount_follows h d l lo hi)⟩, fun s n h d room k => ?size, fun s o r g q seq u p => ?own,
    fun s o r g q seq h u p e n => ?group, fun l o r q seq h room => takeQuota_new q seq h room,
    fun l o r q seq h => takeQuota_known q seq h,
    fun s o r g q seq serial n f c on p h => next_of_forward on ?forward,
    fun s n h l d => ⟨execCount_removed n h l d, execSize_removed n h l d⟩,
    fun s p on h => next_of_forward on (execPaceReservedFrame_forwards h),
    fun s p crc on h => next_of_pace (execPaceCrcDrop_counts on h)⟩
  case survey =>
    obtain ⟨t, run, frame⟩ := next_of_pace (execSurvey_takesPart serial h)
    have pace : t.pace = s.paceJoin.pace.surveyed s.serial serial.toNat := by rw [frame]
    exact ⟨t, s.paceJoin.pace, run, by rw [pace]; exact frame, congrArg (·.pace) (s.paceJoin_takesPart h), pace⟩
  case size =>
    obtain ⟨z, hz⟩ : ∃ z, z = if s.pace.leader = true then s.pace.size else n.toNat := ⟨_, rfl⟩
    obtain ⟨t, settles, event, rest⟩ := settle_event (s := s)
      (x := s.paceRinged z (if s.pace.leader = true then s.pace.tx else .size n.toNat :: s.pace.tx))
      (evPace 1 0 0 false false (s.pace.pos + z * 2 ^ 8)) room rfl rfl
    exact ⟨t, z, (execSize_discovering h d k hz).trans settles, hz, event, rest⟩
  case own =>
    have own : s.paceOwn o.toNat = true := (s.paceOwn_iff _).2 ⟨u, p⟩
    exact ⟨execLive_own own, execQuota_own r g q seq own, execRelease_own r g seq own, execLeave_own g own⟩
  case group =>
    obtain ⟨on, -, -⟩ := s.paceTakesPart_iff.1 h
    have foreign : s.paceOwn o.toNat = false := State.paceOwn_foreign fun own => p own.2
    have holds : s.paceHolds g.toNat = true := State.paceHolds_own h u e n
    refine ⟨next_of_forward on (execLive_foreign foreign), fun hq => next_of_pace (execQuota_held r seq on foreign holds hq),
      next_of_pace (execRelease_held r seq on foreign holds), fun room => ?_⟩
    obtain ⟨t, settles, event, rest⟩ := settle_event (s := s) (x := s.peerLeft o.toNat g.toNat)
      (evPace 5 o.toNat 0 false false) room rfl rfl
    exact ⟨t, (execLeave_held on foreign holds).trans settles, event, rest⟩
  case forward =>
    have foreign : s.paceOwn o.toNat = false := State.paceOwn_foreign p
    rcases h with ⟨rfl, rfl⟩ | ⟨k, ⟨rfl, rfl⟩ | ⟨rfl, rfl⟩ | ⟨rfl, rfl⟩⟩ | ⟨k, rfl, rfl⟩ | ⟨k, ⟨rfl, rfl⟩ | ⟨rfl, rfl⟩⟩
    · exact execLive_foreign foreign
    · exact execQuota_forwards r q seq foreign k
    · exact execRelease_forwards r seq foreign k
    · exact execLeave_forwards foreign k
    · exact execSurvey_apart serial k
    · exact execCount_forwards n k
    · exact execSize_forwards n k

end Sys2Proof.Machine
end

section
/-! PROOF. Reference, stages, READY and the abandonment of start-up (R158, R171, R370, R371, R377, R381, R383, R384, R565). -/

namespace Sys2Proof.Machine

/-! ### A loop that meets each domain once, under what its rounds keep -/

/-- Where each round keeps `inv` and changes only what it names, the loop keeps `inv`, and what it names is related to what it was as
its own round relates it. -/
theorem forEach_each {β : Type} (inv : State → Prop) (p : State → Nat → β) (rel : Nat → β → β → Prop) {g : State → Nat → State}
    {l : List Nat} (n : l.Nodup) (round : ∀ t a, a ∈ l → inv t →
      inv (g t a) ∧ (∀ b, b ≠ a → p (g t a) b = p t b) ∧ rel a (p t a) (p (g t a) a)) {s : State} (h : inv s) :
    inv (s.forEach l g) ∧ (∀ b, b ∉ l → p (s.forEach l g) b = p s b) ∧ ∀ b, b ∈ l → rel b (p s b) (p (s.forEach l g) b) := by
  induction l generalizing s with
  | nil => exact ⟨h, fun _ _ => rfl, fun b m => absurd m List.not_mem_nil⟩
  | cons a l ih =>
    obtain ⟨fresh, nodup⟩ := List.nodup_cons.1 n
    obtain ⟨kept, others, own⟩ := round s a List.mem_cons_self h
    obtain ⟨invEnd, restEnd, listEnd⟩ := ih nodup (fun t b m => round t b (List.mem_cons_of_mem _ m)) kept
    refine ⟨invEnd, fun b m => ?_, fun b m => ?_⟩
    · exact (restEnd b fun k => m (List.mem_cons_of_mem _ k)).trans (others b fun e => m (e ▸ List.mem_cons_self))
    · by_cases e : b = a
      · subst e
        show rel b (p s b) (p ((g s b).forEach l g) b)
        rw [restEnd b fresh]
        exact own
      · have := listEnd b ((List.mem_cons.1 m).resolve_left e)
        rwa [others b e] at this

theorem stageDoms_nodup (k : Nat) : (stageDoms k).Nodup := List.nodup_range.filter _

/-- What neither the staging of a law nor the start of a domain with all its cells changes. -/
structure State.StartKept (s t : State) : Prop where
  otp : t.otp = s.otp
  start : t.start = s.start
  cells : t.cells = s.cells
  chains : t.chains = s.chains
  lanes : t.lanes = s.lanes
  sense : t.sense = s.sense
  ledger : t.ledger = s.ledger
  stopq : t.stopq = s.stopq
  flt : t.flt = s.flt
  warden : t.warden = s.warden

theorem State.StartKept.refl (s : State) : s.StartKept s := by constructor <;> rfl

theorem State.StartKept.trans {a b c : State} (h : a.StartKept b) (k : b.StartKept c) : a.StartKept c :=
  ⟨k.otp.trans h.otp, k.start.trans h.start, k.cells.trans h.cells, k.chains.trans h.chains, k.lanes.trans h.lanes,
    k.sense.trans h.sense, k.ledger.trans h.ledger, k.stopq.trans h.stopq, k.flt.trans h.flt, k.warden.trans h.warden⟩

/-! ### The law records of the warden (R157, R158, R370 step 7) -/

theorem State.lawReplaced_kept (s : State) (o : StagedLaw) : s.StartKept (s.lawReplaced o) := by
  unfold State.lawReplaced
  split <;> constructor <;> simp

theorem State.stageLaw_kept (s : State) (d : Nat) (l : List Word) (path : LawPath) : s.StartKept (s.stageLaw d l path) := by
  unfold State.stageLaw
  cases (s.dom d).staged with
  | none => constructor <;> rfl
  | some o => exact (s.lawReplaced_kept o).trans (by constructor <;> rfl)

/-- Each domain's record is staged where it passes its check. -/
theorem State.loadLaws_staged (s : State) : ∃ t, s.loadLaws = t ∧ s.StartKept t ∧ ∀ d, d ∈ allDoms → t.dom d =
    if s.lawFaults d (s.otp.law.getD d []) = []
    then { s.dom d with staged := some { image := s.otp.law.getD d [], path := .warden, late := s.ledger.cutoff } }
    else s.dom d := by
  have loop := forEach_each s.StartKept State.dom (fun d x y => y = if s.lawFaults d (s.otp.law.getD d []) = []
    then { x with staged := some { image := s.otp.law.getD d [], path := .warden, late := s.ledger.cutoff } } else x)
    (g := fun t d => if t.lawFaults d (t.otp.law.getD d []) = [] then t.stageLaw d (t.otp.law.getD d []) .warden else t)
    (l := allDoms) List.nodup_range (fun t d _ k => ?_) (.refl s)
  · obtain ⟨kept, -, each⟩ := loop
    exact ⟨_, rfl, kept, each⟩
  · have faults : ∀ l, t.lawFaults d l = s.lawFaults d l := fun l => by simp only [State.lawFaults, k.otp]
    rw [faults, k.otp]
    split
    · exact ⟨k.trans (t.stageLaw_kept _ _ _), fun b ne => t.stageLaw_dom_other _ _ ne, by rw [t.stageLaw_dom, k.ledger]⟩
    · exact ⟨k, fun _ _ => rfl, rfl⟩

/-! ### The start of a stage's domains (R174, R183, R376, R377) -/

theorem State.StartKept.absentOf {s t : State} (h : s.StartKept t) (d : Nat) : t.absentOf d = s.absentOf d := by
  simp only [State.absentOf, State.absent, State.chain, h.flt, h.chains]

theorem State.StartKept.lane {s t : State} (h : s.StartKept t) (k : Nat) : t.lane k = s.lane k := by
  simp only [State.lane, h.lanes]

theorem State.StartKept.vStart {s t : State} (h : s.StartKept t) (d : Nat) : t.vStart d = s.vStart d := by
  simp only [State.vStart, h.warden]

theorem forEach_updView_dom (s : State) (l : List Nat) (f : Nat → View → View) (b : Nat) :
    (s.forEach l fun t i => t.updView i (f i)).dom b = s.dom b :=
  forEach_same (State.dom · b) (fun t i => t.updView i (f i)) l (fun _ _ _ => rfl) s

/-- A start with every home cell present is not given up: the domain is in START, and its V_SET is as it was. -/
theorem State.domStart_whole {s : State} {d : Nat} (h : s.absentOf d = []) : s.StartKept (s.domStart d) ∧
    (∀ b, b ≠ d → (s.domStart d).dom b = s.dom b) ∧ ((s.domStart d).dom d).st = .start ∧
    ((s.domStart d).dom d).vset = (s.dom d).vset := by
  have allowed : ¬ ([] : List Nat).length > shedAllowed d := Nat.not_lt.2 (Nat.zero_le _)
  simp only [State.domStart, h, if_neg allowed]
  exact ⟨by constructor <;> simp, fun b ne => by simp [forEach_updView_dom, ne], by simp, by simp [forEach_updView_dom]⟩

/-- SD13's blocks start apart from its domain. -/
theorem State.sd13Start_kept (s : State) : s.StartKept s.sd13Start := by constructor <;> rfl

/-- A domain on a lane in use begins at its own V_SET or at its V_START. -/
theorem State.beginDomain_whole {s : State} {d : Nat} (h : s.absentOf d = []) (lane : (s.lane (laneOf d)).out = false) :
    s.StartKept (s.beginDomain d) ∧ (∀ b, b ≠ d → (s.beginDomain d).dom b = s.dom b) ∧ ((s.beginDomain d).dom d).st = .start ∧
    ((s.beginDomain d).dom d).vset = if (s.dom d).vsetOwn then (s.dom d).vset else s.vStart d := by
  obtain ⟨x, sd13, kept, doms⟩ : ∃ x, x = (if d = sd 13 then s.sd13Start else s) ∧ s.StartKept x ∧ x.dom = s.dom := by
    refine ⟨_, rfl, ?_⟩
    split
    · exact ⟨s.sd13Start_kept, rfl⟩
    · exact ⟨.refl s, rfl⟩
  obtain ⟨y, set, keptSet⟩ : ∃ y, y = x.updDom d (fun z => { z with vset := if z.vsetOwn then z.vset else s.vStart d }) ∧
      s.StartKept y := ⟨_, rfl, kept.trans (by constructor <;> rfl)⟩
  have begun : s.beginDomain d = y.domStart d := by simp [State.beginDomain, lane, set, sd13]
  obtain ⟨keptStart, others, st, vset⟩ := State.domStart_whole ((keptSet.absentOf d).trans h)
  rw [begun]
  refine ⟨keptSet.trans keptStart, fun b ne => (others b ne).trans ?_, st, vset.trans ?_⟩
  · rw [set, State.updDom_other _ _ _ _ ne, doms]
  · rw [set, State.updDom_same, doms]

/-- The domains of a stage, each with all its home cells, begin where their lane is in use, and are left alone elsewhere. -/
theorem State.beginStage_whole {s : State} {l : List Nat} (n : l.Nodup) (idle : s.stopq.active = false)
    (h : ∀ d, d ∈ l → s.absentOf d = []) :
    ∃ t, l.foldl (fun t d => if t.stopq.active then t else t.beginDomain d) s = t ∧ s.StartKept t ∧
      ∀ d, d ∈ l →
        ((s.lane (laneOf d)).out = false →
          (t.dom d).st = .start ∧ (t.dom d).vset = if (s.dom d).vsetOwn then (s.dom d).vset else s.vStart d) ∧
        ((s.lane (laneOf d)).out = true → t.dom d = s.dom d) := by
  have loop := forEach_each s.StartKept State.dom
    (fun d x y => ((s.lane (laneOf d)).out = false → y.st = .start ∧ y.vset = if x.vsetOwn then x.vset else s.vStart d) ∧
      ((s.lane (laneOf d)).out = true → y = x))
    (g := fun t d => if t.stopq.active then t else t.beginDomain d) n (fun t d m k => ?_) (.refl s)
  · obtain ⟨kept, -, each⟩ := loop
    exact ⟨_, rfl, kept, each⟩
  · rw [k.stopq, idle, if_neg Bool.false_ne_true]
    cases lane : (s.lane (laneOf d)).out with
    | true =>
      have left : t.beginDomain d = t := by simp [State.beginDomain, k.lane, lane]
      rw [left]
      exact ⟨k, fun _ _ => rfl, nofun, fun _ => rfl⟩
    | false =>
      obtain ⟨begun, others, st, vset⟩ := State.beginDomain_whole ((k.absentOf d).trans (h d m))
        ((congrArg Lane.out (k.lane _)).trans lane)
      exact ⟨k.trans begun, others, fun _ => ⟨st, by rw [vset, k.vStart]⟩, nofun⟩

theorem execStageBegin_begins {s : State} (h : s.start.step = .staging) (due : s.start.stageDue = true) (started : s.start.stage ≠ 0)
    (more : s.start.stage < 12) (idle : s.stopq.active = false) (up : s.fastUp = true) :
    execStageBegin s = settle s ((stageDoms (s.start.stage + 1)).foldl (fun t d => if t.stopq.active then t else t.beginDomain d)
      { s with start := { s.start with stage := s.start.stage + 1, stageDue := false, stageCommits := 0 } }) := by
  simp [execStageBegin, h, due, started, Nat.not_lt.2 more, idle, up]

/-- A stage with no domain left in START gives none up. -/
theorem execStageEnd_done {s : State} (h : s.start.step = .staging) (started : s.start.stage ≠ 0) (notDue : s.start.stageDue = false)
    (open12 : s.start.staged12 = false) (commits : 100 ≤ s.start.stageCommits) (idle : s.stopq.active = false)
    (left : ∀ d, d ∈ stageDoms s.start.stage → (s.dom d).st ≠ .start)
    (sd14 : s.start.stage = 1 → (s.dom (sd 14)).st ≠ .hold ∧ (s.dom (sd 14)).st ≠ .adopt) :
    execStageEnd s = settle s { s with start :=
      if s.start.stage = 12 then { s.start with staged12 := true } else { s.start with stageDue := true } } := by
  have late : (stageDoms s.start.stage).filter (fun d => (s.dom d).st == .start) = [] :=
    List.filter_eq_nil_iff.2 fun d m => by simpa using left d m
  have adopted : (s.start.stage == 1 && ((s.dom (sd 14)).st == .hold || (s.dom (sd 14)).st == .adopt)) = false := by
    simpa using sd14
  simp only [execStageEnd, late, adopted]
  simp [h, started, notDue, open12, Nat.not_lt.2 commits, idle]
  split <;> rfl

/-! ### The time-out of the reference (R219, R383) -/

theorem State.abandonStart_opens (s : State) (causes fail : Nat) :
    (s.abandonStart causes fail).start.fail = fail ∧ (s.abandonStart causes fail).start.abandonDue = true ∧
    (s.abandonStart causes fail).stopq.active = true ∧ (s.abandonStart causes fail).stopq.abandon = true ∧
    (s.abandonStart causes fail).stopq.cause = orCause causes causeStart := by
  simp [State.abandonStart, State.stopLatch]

/-- The raise of source 23 is soft, so start-up is abandoned from the state the time-out met, and the end of the command leaves the record
it opens alone. -/
theorem execRefTimeout_abandons {s : State} (row : HkcIx) (h : s.start.step = .reference) (notReady : s.sense.refRdy = false)
    (idle : s.stopq.active = false) (soft : bitAt (s.reactOf 23) 3 = false ∧ bitAt (s.reactOf 23) 2 = false)
    (lost : bitAt (s.reactOf 44) 3 = false ∧ bitAt (s.reactOf 44) 2 = false) :
    ∃ t, execRefTimeout row s = .next t ∧ t.sense = { s.sense with refFail := true } ∧
      t.flt.raised.get 0 23 = incSat 65535 (s.flt.raised.get 0 23) ∧ t.start.fail = 5 ∧ t.start.abandonDue = true ∧
      t.stopq.active = true ∧ t.stopq.abandon = true ∧ t.stopq.cause = 0x60 ∧ t.cells = s.cells ∧ t.doms = s.doms := by
  obtain ⟨x, run, sense, flt, cells, doms⟩ : ∃ x : State,
      execRefTimeout row s = settle s ((x.raise 23 row).abandonStart causeFault 5) ∧
      x.sense = { s.sense with refFail := true } ∧ x.flt = s.flt ∧ x.cells = s.cells ∧ x.doms = s.doms :=
    ⟨_, if_neg (by simp [h, notReady, idle]), rfl, rfl, rfl, rfl⟩
  have frame := raise_frame (s := x) (src := 23) row false (by simpa [State.reactOf, flt] using soft.1)
    (by simpa [State.reactOf, flt] using soft.2)
  have closed := closing_end (s := s) (t := (x.raise 23 row).abandonStart causeFault 5)
    (by simpa [State.reactOf, flt] using lost.1) (by simpa [State.reactOf, flt] using lost.2)
  refine ⟨_, run, ?_⟩
  obtain ⟨fail, due, active, abandon, cause⟩ := (x.raise 23 row).abandonStart_opens causeFault 5
  rw [closed.sense, closed.start, closed.stopq, closed.cells, closed.doms, closing_raised _ _ (by decide)]
  refine ⟨?_, ?_, fail, due, active, abandon, cause.trans (by decide), ?_, ?_⟩
  · simp [frame.sense, sense]
  · simp [raise_raised, flt]
  · simp [cells]
  · simp [frame.doms, doms]

/-! ### READY (R384) -/

/-- READY, as its event finds it. -/
def State.readied (s : State) : State :=
  { s with
    start := { s.start with
      step := .ready
      ready := true
      readyUs := min 65535 (ticksUs (s.clk.watch - s.start.trigger))
      stage := 0
      patchEvent := false }
    limits := { s.limits with govOn := true, pG := s.limits.pinLast }
    flt := if s.flt.recoverAtReady then
        { s.flt with recoverAtReady := false, quiet := if s.flt.st = FltSt.recovering then some s.clk.watch else s.flt.quiet }
      else s.flt }

theorem State.readied_lost (s : State) : s.readied.flt.eventLostRun = s.flt.eventLostRun := by
  unfold State.readied
  dsimp only
  split <;> rfl

/-- Without a patch's event and without lock on the pace ring, READY posts its event and asks for the audits of shed cells. -/
theorem execReady_posts {s : State} (h : s.start.step = .staging) (done : s.start.staged12 = true) (idle : s.stopq.active = false)
    (patch : s.start.patchEvent = false) (lock : s.pace.lock = false) (room : s.rings.eventOut.length < 64) :
    ∃ x : State, execReady s = settle s x ∧ x.flt.eventLostRun = s.flt.eventLostRun ∧ x.stopq.active = s.stopq.active ∧
      x.start.step = .ready ∧ x.start.ready = true ∧ x.start.stage = 0 ∧
      x.start.readyUs = min 65535 (ticksUs (s.clk.watch - s.start.trigger)) ∧
      x.limits = { s.limits with govOn := true, pG := s.limits.pinLast } ∧
      x.rings.eventOut.length = s.rings.eventOut.length + 1 := by
  refine ⟨(s.readied.pushEvent (evReady s.readied.start.readyUs s.start.miss.toNat)).recheckShed, ?_, ?_⟩
  · simp [execReady, State.readied, h, done, idle, patch, lock]
  · have posted := pushEvent_fits (s := s.readied) (evReady s.readied.start.readyUs s.start.miss.toNat) room
    rw [posted]
    exact ⟨s.readied_lost, by simp [State.readied]⟩

/-! ### The abandonment (R565) -/

/-- The off order takes a domain in RUN to STOP, and no other domain anywhere. -/
theorem State.offOrder_dom (s : State) (d : Nat) :
    (∀ b, b ≠ d → (s.offOrder d).dom b = s.dom b) ∧ ((s.dom d).st = .run → ((s.offOrder d).dom d).st = .stop) := by
  unfold State.offOrder
  refine ⟨fun b ne => ?_, fun run => by simp [run]⟩
  split <;> simp [ne]

/-- An abandonment that has a stage to bring down gives its domains their off orders. -/
theorem State.abandonTo_stage {s : State} {k : Nat} (h : k ≠ 0) :
    (s.abandonTo k).start = { s.start with abandonStage := k, abandonDue := false, stageDue := false } ∧
    ∀ d, d ∈ stageDoms k → (s.dom d).st = .run → ((s.abandonTo k).dom d).st = .stop := by
  rw [State.abandonTo]
  simp only [if_neg h]
  refine ⟨by simp, fun d m run => ?_⟩
  obtain ⟨-, -, each⟩ := forEach_each (fun _ => True) State.dom (fun _ x y => x.st = .run → y.st = .stop) (stageDoms_nodup k)
    (fun t d _ _ => ⟨trivial, t.offOrder_dom d⟩) (s := { s with start := _ }) trivial
  exact each d m run

/-- Settles O4: the law records and the domains of a stage by loops that meet each once, the time-out by its soft raise and the record it
opens, the end of a stage with no domain left to give up, READY by its event, the abandonment by its off orders. -/
theorem stagingAndReady : Obligations.StagingAndReady := by
  unfold Obligations.StagingAndReady
  refine ⟨fun s h idle => ?reference, fun row s h notReady idle soft => ?timeout, fun s h due started more idle up whole => ?begin,
    fun s h started notDue open12 commits idle left sd14 => ?stageEnd, fun s h done idle patch lock room => ?ready,
    fun s due active up started => ?abandon⟩
  case reference =>
    obtain ⟨x, loaded, kept, laws⟩ := s.loadLaws_staged
    have run : execReferenceCheckEnd s = settle s { x with
        sense := { x.sense with refRdy := true }
        start := { x.start with step := .staging, stage := 0, stageDue := true } } := by
      simp [execReferenceCheckEnd, h, idle, loaded]
    refine ⟨_, run.trans (settle_kept kept.flt kept.stopq), ?_, ?_, kept.cells, laws⟩
    · simp [kept.sense]
    · simp [kept.start]
  case timeout =>
    exact execRefTimeout_abandons row h notReady idle (soft 23 (.inl rfl)) (soft 44 (.inr rfl))
  case begin =>
    obtain ⟨t, loop, kept, each⟩ := State.beginStage_whole
      (s := { s with start := { s.start with stage := s.start.stage + 1, stageDue := false, stageCommits := 0 } })
      (stageDoms_nodup (s.start.stage + 1)) idle whole
    have run := execStageBegin_begins h due started more idle up
    rw [loop] at run
    exact ⟨_, run.trans (settle_kept kept.flt kept.stopq), by simp [kept.start], by simp [kept.start],
      fun d m => (each d m).1, fun d m => (each d m).2⟩
  case stageEnd =>
    exact ⟨_, (execStageEnd_done h started notDue open12 commits idle left sd14).trans (settle_kept rfl rfl), rfl, rfl⟩
  case ready =>
    obtain ⟨x, posts, lost, active, rest⟩ := execReady_posts h done idle patch lock room
    exact ⟨_, posts.trans (settle_quiet lost active), rest⟩
  case abandon =>
    obtain ⟨start, stop⟩ := State.abandonTo_stage (s := s) started
    have begun : execStartAbandon s = settle s (s.abandonTo s.start.stage) := by
      simp [execStartAbandon, due, active, up, State.abandonBegin]
    refine ⟨_, begun.trans (settle_quiet (by simp) (by simp)), by simp [start], ?_, by simp⟩
    simpa using stop

end Sys2Proof.Machine
end

section
/-! PROOF. Raises and injections, the end of an ERR_N pulse, the close of an incident, the end of its quiet period and the clear of the
counts (R405, R406, R411, R417, R418, R423, R424, R426, R450, R545). -/

namespace Sys2Proof.Machine

/-! ### A raise with neither reaction C nor B (R405, R406, R426) -/

/-- A command that ends with one soft raise that POWER_LOST does not hide: the source is pending and counted once more. -/
theorem settle_raise_counted {s x : State} {src : Nat} (obj : Nat) (inj : Bool) (soft : s.Soft src) (f : x.flt = s.flt) (n : src ≠ 44)
    (shown : (decide (src ≤ 8) && s.isPending 13) = false) :
    ∃ t, settle s (x.raise src obj inj) = .next t ∧ t.isPending src = true ∧
      t.flt.raised.get 0 src = incSat 65535 (s.flt.raised.get 0 src) ∧ SoftEnd x t := by
  obtain ⟨h3, h2, k3, k2⟩ := soft
  have react : ∀ k, x.reactOf k = s.reactOf k := fun k => by simp [State.reactOf, f]
  have pending := (x.raise_pending src obj inj (by simpa [State.isPending, f] using shown)).1
  refine ⟨_, rfl, closing_pending_sources _ _ _ pending, ?_, ?_⟩
  · rw [raise_end_raised obj inj n, f]
  · exact raise_end obj inj (by rw [react, h3]) (by rw [react, h2]) (by rw [react, k3]) (by rw [react, k2])

/-! ### A source's own raise (R237, R399, R450, R489) -/

/-- What a source notes of its condition lies in its converter or in the rings. -/
theorem State.raiseNote_keeps (s : State) (src obj : Nat) :
    (s.raiseNote src obj).flt = s.flt ∧ (s.raiseNote src obj).cells = s.cells ∧ (s.raiseNote src obj).doms = s.doms ∧
    (s.raiseNote src obj).ledger = s.ledger ∧ (s.raiseNote src obj).stopq = s.stopq := by
  unfold State.raiseNote
  split
  · exact ⟨rfl, rfl, rfl, rfl, rfl⟩
  · split
    · exact ⟨rfl, rfl, rfl, rfl, rfl⟩
    · split <;> exact ⟨rfl, rfl, rfl, rfl, rfl⟩

theorem execFaultRaise_notes {s : State} {src : SrcIx} (obj : BitVec 16) (on : s.start.aon = true) (up : s.stopped = false)
    (other : src.val ≠ 41) : execFaultRaise src obj s = settle s ((s.raiseNote src obj.toNat).raise src obj.toNat) := by
  simp [execFaultRaise, on, up, other]

theorem execFaultRaise_policy {s : State} {src : SrcIx} (obj : BitVec 16) (on : s.start.aon = true) (up : s.stopped = false)
    (own : src.val = 41) : execFaultRaise src obj s = settle s (s.policyFault obj.toNat) := by
  simp [execFaultRaise, on, up, own]

/-- The times of the policy faults of the latest second, the present one last (R450). -/
def State.recentFaults (s : State) : List Nat := (s.policy.faults.filter fun x => decide (s.clk.watch < x + secondTicks)) ++ [s.clk.watch]

/-- A policy fault as the policy core's record has it, before its raise. -/
def State.policyNoted (s : State) : State :=
  { s with policy := { s.policy with faultCnt := incSat 255 s.policy.faultCnt, faults := s.recentFaults } }

/-- A policy fault that is no third within a second of a running core is its record and its raise. -/
theorem State.policyFault_raises {s : State} (obj : Nat) (soft : s.Soft 41)
    (few : s.policy.st ≠ .running ∨ s.recentFaults.length < 3) : s.policyFault obj = s.policyNoted.raise 41 obj := by
  obtain ⟨h3, h2, -⟩ := soft
  have policy : (s.policyNoted.raise 41 obj).policy = s.policyNoted.policy := (raise_frame (s := s.policyNoted) obj false h3 h2).policy
  refine if_neg fun ⟨third, running⟩ => ?_
  rcases few with idle | few
  · exact idle ((congrArg Policy.st policy).symm.trans running)
  · exact Nat.not_lt.2 third few

/-! ### An injection through UL_FT_INJ (R423, R545) -/

/-- UL_FT_INJ with GO. -/
def injectWord (src obj : Nat) : Word := pack [(31, 31, 1), (21, 16, src), (15, 0, obj)]

theorem injectWord_toNat {src obj : Nat} (k : src < 64) (o : obj < 65536) :
    (injectWord src obj).toNat = 2 ^ 31 + (src * 65536 + obj) := by
  have fields : packN [(31, 31, 1), (21, 16, src), (15, 0, obj)] = 0 + fieldVal (31, 31, 1) + fieldVal (21, 16, src) + fieldVal (15, 0, obj) := rfl
  rw [injectWord, pack, fields, fieldVal_fits (by decide), fieldVal_fits k, fieldVal_fits o, BitVec.toNat_ofNat, Nat.mod_eq_of_lt] <;> omega

/-- The fields of that word, and what the register keeps of it. -/
theorem injectWord_fields {src obj : Nat} (k : src < 64) (o : obj < 65536) :
    wbit (injectWord src obj) 31 = true ∧ fld (injectWord src obj) 21 16 = src ∧ fld (injectWord src obj) 15 0 = obj ∧
    injectWord src obj &&& 0x003FFFFF#32 = BitVec.ofNat 32 (src * 65536 + obj) := by
  have value := injectWord_toNat k o
  refine ⟨?_, ?_, ?_, BitVec.eq_of_toNat_eq ?_⟩
  · simp only [wbit, bitAt, value, beq_iff_eq]; omega
  · simp only [fld, bits, value]; omega
  · simp only [fld, bits, value]; omega
  · have low : (0x003FFFFF#32).toNat = 2 ^ 22 - 1 := rfl
    rw [BitVec.toNat_and, low, Nat.and_two_pow_sub_one_eq_mod, value, BitVec.toNat_ofNat]
    omega

/-- The state in which an injection is raised: UL_FT_INJ holds its source and object. -/
def State.injectNoted (s : State) (src obj : Nat) : State := { s with win := { s.win with ftInj := BitVec.ofNat 32 (src * 65536 + obj) } }

theorem execFaultInject_open {s : State} (src : SrcIx) (obj : BitVec 16) (h : s.WindowReady) (unlocked : s.otp.ftLocked = false) :
    execFaultInject src obj s = settle s ((s.injectNoted src obj.toNat).raise src obj.toNat true) := by
  have written : execFaultInject src obj s = settle s (s.ftWrite 0x8040 (injectWord src obj.toNat)) := by
    rw [execFaultInject, State.hostWriteReg_now h 0x8040 _ rfl]
    simp only [State.writeNow, unlocked]
    rfl
  obtain ⟨go, source, object, kept⟩ := injectWord_fields (src := src) (obj := obj.toNat) (by omega) (by omega)
  rw [written]
  simp [State.ftWrite, State.injectNoted, go, source, object, kept]

theorem execFaultInject_locked {s : State} (src : SrcIx) (obj : BitVec 16) (h : s.WindowReady) (locked : s.otp.ftLocked = true) :
    execFaultInject src obj s = .next (s.winRefused 3 0x8040 true).alertUpdate := by
  rw [execFaultInject, State.hostWriteReg_now h 0x8040 _ rfl]
  simp only [State.writeNow, locked]
  exact settle_kept rfl rfl

/-! ### The close of an incident, and the end of its quiet period (R405, R417, R418) -/

/-- A closed incident leaves the collector recovering, its quiet period begun. -/
theorem State.closeIncident_flt (s : State) (late : Bool) :
    (s.closeIncident late).flt.st = .recovering ∧ (s.closeIncident late).flt.quiet = some s.clk.watch ∧
    (s.closeIncident late).flt.inc.open_ = false ∧ (s.closeIncident late).flt.inc.overrun = late ∧
    (s.closeIncident late).flt.inc.seq = s.flt.inc.seq := by
  simp [State.closeIncident]

theorem settle_closeIncident (s : State) (late : Bool) : settle s (s.closeIncident late) = .next (s.closeIncident late).alertUpdate :=
  settle_quiet (by simp) (by simp)

/-- The collector as the end of the quiet period leaves it. -/
def State.recovered (s : State) : State :=
  { s with flt := { s.flt with st := .normal, quiet := none, recovCnt := incSat 65535 s.flt.recovCnt } }

theorem execFaultQuietEnd_recovers {s : State} (st : s.flt.st = .recovering) (quiet : s.flt.quiet.isSome = true) :
    execFaultQuietEnd s =
      settle s ((s.recovered.pushEvent (evRecover s.recovered.flt.recovCnt s.flt.inc.seq)).writeStateBlock) := by
  simp [execFaultQuietEnd, st, quiet, State.recovered]

/-- Settles O38: raises and injections by the soft raise that counts once, the rest by what each command writes into the collector. -/
theorem faultCollector : Obligations.FaultCollector := by
  unfold Obligations.FaultCollector
  refine ⟨fun s src obj on up soft n shown few => ?raised, fun s src obj h unlocked soft n shown => ?injected,
    fun s src obj h locked => ?discarded, fun s => ?pulse, fun s late c when => ?closed, fun s more => if_neg (by simp [more]),
    fun s st quiet room => ?quietEnd, fun s busy => ?cleared⟩
  case raised =>
    by_cases own : src.val = 41
    · have noThird : s.policy.st ≠ .running ∨ s.recentFaults.length < 3 :=
        (few own).imp_right fun lt => by rw [State.recentFaults, List.length_append]; exact Nat.succ_lt_succ lt
      have raises : s.policyFault obj.toNat = s.policyNoted.raise src obj.toNat := by
        rw [own]; exact State.policyFault_raises _ (own ▸ soft) noThird
      obtain ⟨t, run, pending, counted, frame⟩ := settle_raise_counted (x := s.policyNoted) obj.toNat false soft rfl n shown
      exact ⟨t, (execFaultRaise_policy obj on up own).trans (raises ▸ run), pending, counted,
        frame.cells, frame.doms, frame.ledger, frame.stopq⟩
    · obtain ⟨flt, cells, doms, ledger, stopq⟩ := s.raiseNote_keeps src obj.toNat
      obtain ⟨t, run, pending, counted, frame⟩ := settle_raise_counted obj.toNat false soft flt n shown
      exact ⟨t, (execFaultRaise_notes obj on up own).trans run, pending, counted,
        frame.cells.trans cells, frame.doms.trans doms, frame.ledger.trans ledger, frame.stopq.trans stopq⟩
  case injected =>
    obtain ⟨t, run, pending, counted, frame⟩ := settle_raise_counted (x := s.injectNoted src obj.toNat) obj.toNat true soft rfl n shown
    exact ⟨t, (execFaultInject_open src obj h unlocked).trans run, pending, counted,
      congrArg Win.ftInj frame.win, frame.cells, frame.doms, frame.ledger⟩
  case discarded =>
    exact ⟨_, execFaultInject_locked src obj h locked, rfl, rfl, rfl, rfl, rfl⟩
  case pulse =>
    exact ⟨_, settle_quiet rfl rfl, rfl, rfl⟩
  case closed =>
    have run : exec c s = settle s (s.closeIncident late) := by
      rcases when with ⟨rfl, rfl, done⟩ | ⟨rfl, rfl, opened⟩
      · exact if_pos done
      · exact if_pos opened
    obtain ⟨st, quiet, shut, overrun, seq⟩ := s.closeIncident_flt late
    exact ⟨_, run.trans (settle_closeIncident s late), st, quiet, shut, overrun, seq, by simp⟩
  case quietEnd =>
    refine ⟨_, (execFaultQuietEnd_recovers st quiet).trans (settle_quiet ?_ ?_), ?_⟩ <;>
      rw [pushEvent_fits (s := s.recovered) _ room]
    · simp [State.recovered]
    · simp [State.recovered]
    · simp [State.recovered, incSat]
  case cleared =>
    refine ⟨_, (if_pos busy).trans (settle_quiet ?_ ?_), ?_⟩ <;> simp

end Sys2Proof.Machine
end

section
/-! PROOF. What every command and every step keep: the fuses, the queue and the vault's canonical form (R453, R456, R536, R537). -/

namespace Sys2Proof.Machine

/-! ### Every command (R453, R456, R536, R537) -/

/-- Each command by its own lemma. AON_POWER_UP, AON_POWER_FALL and EPOCH_COMMIT set the count of commits, so that theirs is `Steady`; that of
every other command is the stronger `Kept`. -/
theorem steady_exec (c : Instr) (s : State) : OutSteady s (exec c s) := by
  cases c
  case aonPowerUp slot => exact steady_execAonPowerUp slot s
  case aonPowerFall => exact steady_execAonPowerFall s
  case epochCommit => exact steady_execEpochCommit s
  all_goals
    refine OutKept.steady ?_
    simp [exec]

theorem Steady.of_exec {c : Instr} {s t : State} (run : exec c s = .next t) : Steady s t := by
  have h := steady_exec c s
  rwa [run] at h

/-- Settles O9: a command that answers a next state is `Steady`, and the invariant is the canonical form that `Steady` speaks of. -/
theorem everyCommandKeeps : Obligations.EveryCommandKeeps := by
  unfold Obligations.EveryCommandKeeps
  intro c s t run
  obtain ⟨otp, pending, vault⟩ := Steady.of_exec run
  exact ⟨otp, pending, vault⟩

/-! ### Every step (R453, R456) -/

/-- A step with a next state is one tick of the watch clock, with nothing waiting, or the front command on the state without it. -/
theorem step_cases {s t : State} (run : step s = .next t) :
    (s.pending = [] ∧ t = watchTick s) ∨
    (∃ c rest, s.pending = c :: rest ∧ exec c { s with pending := rest } = .next t) := by
  unfold step at run
  split at run
  next idle =>
    injection run with tick
    exact .inl ⟨idle, tick.symm⟩
  next c rest waiting => exact .inr ⟨c, rest, waiting, run⟩

/-- Settles O10: the tick keeps all three, its queue being empty; the front command runs on the rest of the queue, and is `Steady`. -/
theorem everyStepKeepsInv : Obligations.EveryStepKeepsInv := by
  unfold Obligations.EveryStepKeepsInv
  intro s t inv run
  obtain ⟨idle, rfl⟩ | ⟨c, rest, waiting, ran⟩ := step_cases run
  · obtain ⟨otp, pending, vault⟩ := (kept_watchTick s).steady
    exact ⟨vault inv, otp, by rw [pending, idle]; rfl⟩
  · obtain ⟨otp, pending, vault⟩ := Steady.of_exec ran
    exact ⟨vault inv, otp, by rw [pending, waiting]; rfl⟩

end Sys2Proof.Machine
end

section
/-! SUPPORT. A transaction on the SMBus target whose effect does not depend on the clocks: the START wakes the warden clock, and the rest is
the target's registers (R496, R499, R514). -/

namespace Sys2Proof.Machine

/-- What a transaction writes into the target's registers, whatever the clocks are, is all it leaves but the woken clock. -/
theorem State.pmbus_writes {s : State} {f : State → State} (m : Smb) (h : s.smbAnswers = true)
    (e : ∀ c, f { s with clk := c } = { s with clk := c, smb := m }) : ∃ t, s.pmbus f = .next t ∧ s.SmbOnly t m :=
  State.pmbus_only m h (by rw [State.wakeWarden_only s]; exact e _)

/-- The same of a write whose PEC is not wrong. -/
theorem State.pmWrite_writes {s : State} {f : State → State} {pec : Pec} (m : Smb) (h : s.smbAnswers = true) (p : pec ≠ .bad)
    (e : ∀ c, f { s with clk := c } = { s with clk := c, smb := m }) : ∃ t, s.pmWrite pec f = .next t ∧ s.SmbOnly t m :=
  State.pmWrite_only m h p (by rw [State.wakeWarden_only s]; exact e _)

/-- A read that answers these bytes. -/
theorem State.pmbus_reply {s : State} {f : State → State} (l : List Byte) (h : s.smbAnswers = true)
    (e : ∀ c, f { s with clk := c } = { s with clk := c, smb := { s.smb with reply := l } }) :
    ∃ t, s.pmbus f = .next t ∧ s.SmbOnly t { s.smb with reply := l } :=
  State.pmbus_writes _ h e

/-- A transaction that sets a bit of STATUS_CML and does nothing else. -/
theorem State.pmbus_cml {s : State} {f : State → State} (b : Nat) (h : s.smbAnswers = true)
    (e : ∀ c, f { s with clk := c } = ({ s with clk := c } : State).cml b) :
    ∃ t, s.pmbus f = .next t ∧ s.SmbOnly t { s.smb with cml := orBit s.smb.cml b } :=
  State.pmbus_writes _ h e

/-- A write with a wrong PEC sets bit 5 of STATUS_CML, is counted, and does nothing else (R499, R508). -/
theorem State.pmbus_badPec {s : State} (h : s.smbAnswers = true) :
    ∃ t, s.pmbus State.badPec = .next t ∧
      s.SmbOnly t { s.smb with cml := orBit s.smb.cml 5, pecErr := if s.smb.pecErr < 255 then s.smb.pecErr + 1 else 255 } :=
  State.pmbus_writes _ h fun _ => rfl

/-- A transaction that raises nothing and begins no stop sequence ends with the check of ALERT_N alone. -/
theorem State.pmbus_runs {s : State} {f : State → State} (h : s.smbAnswers = true)
    (lost : ∀ c, (f { s with clk := c }).flt.eventLostRun = s.flt.eventLostRun)
    (active : ∀ c, (f { s with clk := c }).stopq.active = s.stopq.active) :
    s.pmbus f = .next (f { s with clk := s.wakeWarden.clk }).alertUpdate := by
  simp only [State.pmbus, h, if_true]
  rw [State.wakeWarden_only s]
  exact settle_quiet (lost _) (active _)

/-- A write whose PEC is not wrong is a transaction. -/
theorem State.pmWrite_eq {s : State} {pec : Pec} (f : State → State) (p : pec ≠ .bad) : s.pmWrite pec f = s.pmbus f := by
  cases pec with
  | absent => rfl
  | good => rfl
  | bad => exact absurd rfl p

/-- Two transactions that agree whatever the clocks are. -/
theorem State.pmbus_congr {s : State} {f g : State → State} (e : ∀ c, f { s with clk := c } = g { s with clk := c }) : s.pmbus f = s.pmbus g := by
  rw [State.pmbus, State.pmbus, State.wakeWarden_only s, e]

theorem State.pageDom_clk (s : State) (c : Clk) : ({ s with clk := c } : State).pageDom = s.pageDom := rfl

theorem State.hottest_clk (s : State) (c : Clk) (l : List Nat) : ({ s with clk := c } : State).hottest l = s.hottest l := rfl

/-- The wake sets one bit of the clocks, or none (R514). -/
theorem State.wakeWarden_clk_only (s : State) : ∃ b, s.wakeWarden.clk = { s.clk with warden := b } := by
  unfold State.wakeWarden
  split
  · exact ⟨_, rfl⟩
  · exact ⟨_, rfl⟩
  · split
    · exact ⟨_, rfl⟩
    · exact ⟨_, rfl⟩

end Sys2Proof.Machine
end

section
/-! PROOF. Pages, faults, fixed values, identity blocks, addresses and wrong writes over PMBus (R498 to R500, R539, R540). -/

namespace Sys2Proof.Machine

/-- PAGE takes the domains' numbers and 0xFF (R498). -/
theorem execPage_write {s : State} {pec : Pec} (v : Byte) (h : s.smbAnswers = true) (p : pec ≠ .bad) :
    ∃ t, execPage pec (some v) s = .next t ∧
      s.SmbOnly t (if v.toNat ≤ 0x2F ∨ v = 0xFF then { s.smb with page := v } else { s.smb with cml := orBit s.smb.cml 6 }) := by
  refine State.pmWrite_writes _ h p fun c => ?_
  have same : (v.toNat < 48 ∨ v = 0xFF) ↔ (v.toNat ≤ 0x2F ∨ v = 0xFF) := or_congr_left Nat.lt_succ_iff
  by_cases k : v.toNat ≤ 0x2F ∨ v = 0xFF
  · exact (if_pos (same.2 k)).trans (by rw [if_pos k])
  · exact (if_neg (mt same.1 k)).trans (by rw [if_neg k]; rfl)

/-- MFR_VAULT_ADDR takes a multiple of 8 within the vault (R498). -/
theorem execMfrVaultAddr_write {s : State} {pec : Pec} (off : Word) (h : s.smbAnswers = true) (p : pec ≠ .bad) :
    ∃ t, execMfrVaultAddr pec off s = .next t ∧
      s.SmbOnly t (if off.toNat % 8 = 0 ∧ off.toNat < 0x40000 then { s.smb with vaultAddr := off.toNat }
        else { s.smb with cml := orBit s.smb.cml 6 }) := by
  refine State.pmWrite_writes _ h p fun c => ?_
  have refused : (off.toNat % 8 ≠ 0 ∨ off.toNat ≥ 0x40000) ↔ ¬ (off.toNat % 8 = 0 ∧ off.toNat < 0x40000) := by omega
  by_cases k : off.toNat % 8 = 0 ∧ off.toNat < 0x40000
  · exact (if_neg fun n => refused.1 n k).trans (by rw [if_pos k])
  · exact (if_pos (refused.2 k)).trans (by rw [if_neg k]; rfl)

/-- MFR_REG_ADDR counts as not listed while PMB_REG_EN is 0 (R540). -/
theorem execMfrRegAddr_write {s : State} {pec : Pec} (off : BitVec 16) (h : s.smbAnswers = true) (p : pec ≠ .bad) :
    ∃ t, execMfrRegAddr pec off s = .next t ∧
      s.SmbOnly t (if wbit s.win.gctrl 1 = true then { s.smb with regAddr := off.toNat } else { s.smb with cml := orBit s.smb.cml 7 }) := by
  refine State.pmWrite_writes _ h p fun c => ?_
  by_cases k : wbit s.win.gctrl 1 = true
  · exact (if_pos k).trans (by rw [if_pos k])
  · exact (if_neg k).trans (by rw [if_neg k]; rfl)

/-- The codes that count as not listed (R498, R540). -/
theorem State.pmbusUnlisted_of {s : State} {code : Byte}
    (h : code.toNat ∉ [0x00, 0x03, 0x19, 0x20, 0x78, 0x79, 0x7D, 0x7E, 0x80, 0x88, 0x89, 0x8B, 0x8C, 0x8D, 0x96, 0x97, 0x98, 0x99, 0x9A, 0x9B, 0x9E,
      0xD0, 0xD1, 0xD2, 0xD3, 0xD4, 0xD5, 0xD6, 0xD7, 0xD8, 0xD9] ∨ (wbit s.win.gctrl 0 = false ∧ code = 0xD6) ∨
      (wbit s.win.gctrl 1 = false ∧ (code = 0xD8 ∨ code = 0xD9))) : s.pmbusUnlisted code.toNat = true := by
  rcases h with h | ⟨off, rfl⟩ | ⟨off, rfl | rfl⟩
  · have unlisted : pmbusCodes.contains code.toNat = false := by simpa [pmbusCodes, List.range_succ] using h
    simp only [State.pmbusUnlisted, unlisted, Bool.not_false, Bool.true_or]
  · simp [State.pmbusUnlisted, State.pmbMbox, off]
  · simp [State.pmbusUnlisted, State.pmbReg, off]
  · simp [State.pmbusUnlisted, State.pmbReg, off]

/-- Settles O30: every command by what it writes into the target's registers. -/
theorem pmbusCommands : Obligations.PmbusCommands := by
  unfold Obligations.PmbusCommands
  refine ⟨fun s pec h => ?_, fun s pec v h p => execPage_write v h p, fun s pec h p => ?_, fun s h => ?_, fun s h => ?_, fun s h => ?_,
    fun s h => ?_, fun s h => ?_, fun s h => ?_, fun s h => ?_, fun s h => ?_, fun s pec off h p => execMfrVaultAddr_write off h p,
    fun s pec off h p => execMfrRegAddr_write off h p, fun s v vault off h c hc => ?_, fun s data h => ?_, fun s code h k => ?_⟩
  case refine_1 =>
    show ∃ t, s.pmbus (fun s => s.smbReply [s.smb.page]) = .next t ∧ _
    exact State.pmbus_reply _ h fun _ => rfl
  case refine_2 =>
    show ∃ t, execClearFaults pec s = .next t ∧ _
    exact State.pmWrite_writes _ h p fun _ => rfl
  case refine_3 =>
    show ∃ t, execCapability s = .next t ∧ _
    exact State.pmbus_reply _ h fun _ => rfl
  case refine_4 =>
    show ∃ t, execVoutMode s = .next t ∧ _
    exact State.pmbus_reply _ h fun _ => rfl
  case refine_5 =>
    show ∃ t, execPmbusRevision s = .next t ∧ _
    exact State.pmbus_reply _ h fun _ => rfl
  case refine_6 =>
    show ∃ t, execMfrId s = .next t ∧ _
    exact State.pmbus_reply _ h fun _ => rfl
  case refine_7 =>
    show ∃ t, execMfrModel s = .next t ∧ _
    exact State.pmbus_reply _ h fun _ => rfl
  case refine_8 =>
    show ∃ t, execMfrRevision s = .next t ∧ _
    exact State.pmbus_reply _ h fun _ => rfl
  case refine_9 =>
    obtain ⟨t, run, only⟩ := State.pmbus_reply (f := fun s => s.replyBlock (natBytes 6 s.serial)) (6 :: natBytes 6 s.serial) h fun _ => rfl
    exact ⟨t, _, run, only, rfl⟩
  case refine_10 =>
    show ∃ t, execStatusCml s = .next t ∧ _
    exact State.pmbus_reply _ h fun _ => rfl
  case refine_11 =>
    rcases hc with rfl | rfl | rfl | rfl | rfl <;> exact State.pmbus_badPec h
  case refine_12 =>
    show ∃ t, execMfrRestart .bad data s = .next t ∧ _
    exact State.pmbus_writes _ h fun _ => rfl
  case refine_13 =>
    obtain ⟨t, run, only⟩ := State.pmbus_cml (f := fun s => s.cml 7) 7 h fun _ => rfl
    exact ⟨t, (if_pos (State.pmbusUnlisted_of k)).trans run, only⟩

end Sys2Proof.Machine
end

section
/-! SUPPORT. Numbers built of single bits: which bits they have, how far they reach, and how two of them add. -/

namespace Sys2Proof.Machine

/-- The fields of a number built of single bits. -/
def bitFields (l : List (Nat × Bool)) : List (Nat × Nat × Nat) := l.map fun e => (e.1, e.1, b2n e.2)

/-- The bits listed, on top of a number that has none of them. -/
theorem testBit_foldl_bits (k : Nat) (l : List (Nat × Bool)) (n : (l.map Prod.fst).Nodup) (a : Nat)
    (free : ∀ e, e ∈ l → a.testBit e.1 = false) :
    ((bitFields l).foldl (fun acc f => acc + f.2.2 % 2 ^ (f.1 + 1 - f.2.1) * 2 ^ f.2.1) a).testBit k =
      (a.testBit k || l.any fun e => e.1 == k && e.2) := by
  induction l generalizing a with
  | nil => simp [bitFields]
  | cons e l ih =>
    obtain ⟨i, b⟩ := e
    obtain ⟨fresh, n⟩ := List.nodup_cons.1 n
    have step : ∀ j, (a + b2n b % 2 ^ (i + 1 - i) * 2 ^ i).testBit j = (a.testBit j || (i == j && b)) := by
      intro j
      cases b with
      | false => simp [b2n]
      | true =>
        have one : b2n true % 2 ^ (i + 1 - i) * 2 ^ i = 2 ^ i := by simp [b2n]
        rw [one, testBit_add_pow (free (i, true) (List.mem_cons_self ..)), Bool.and_true]
        by_cases q : i = j
        · simp [q]
        · simp [q, Ne.symm q]
    refine (ih n _ fun e m => ?_).trans ?_
    · have apart : i ≠ e.1 := fun q => fresh (List.mem_map.2 ⟨e, m, q.symm⟩)
      rw [step, free e (List.mem_cons_of_mem _ m)]
      simp [apart]
    · rw [step, List.any_cons, Bool.or_assoc]

/-- A number built of single bits has just those that are set. -/
theorem testBit_packN_bits {l : List (Nat × Bool)} (n : (l.map Prod.fst).Nodup) (k : Nat) :
    (packN (bitFields l)).testBit k = l.any fun e => e.1 == k && e.2 :=
  (testBit_foldl_bits k l n 0 fun e _ => Nat.zero_testBit e.1).trans (by simp)

/-- It lies below every power of two that no listed bit reaches. -/
theorem packN_bits_lt {l : List (Nat × Bool)} {w : Nat} (n : (l.map Prod.fst).Nodup) (h : ∀ e, e ∈ l → e.1 < w) :
    packN (bitFields l) < 2 ^ w := by
  refine Nat.lt_pow_two_of_testBit _ fun i hi => ?_
  rw [testBit_packN_bits n, List.any_eq_false]
  intro e m
  have := h e m
  simp only [Bool.and_eq_true, beq_iff_eq, not_and]
  omega

/-- The fields of two lists add. -/
theorem packN_append (l m : List (Nat × Nat × Nat)) : packN l + packN m = packN (l ++ m) := by
  have shift : ∀ (m : List (Nat × Nat × Nat)) (a : Nat), a + packN m =
      m.foldl (fun acc f => acc + f.2.2 % 2 ^ (f.1 + 1 - f.2.1) * 2 ^ f.2.1) a := by
    intro m
    induction m with
    | nil => exact fun a => rfl
    | cons f m ih =>
      intro a
      rw [List.foldl_cons, ← ih, packN, List.foldl_cons, ← ih, Nat.zero_add, Nat.add_assoc]
  rw [shift, packN, packN, List.foldl_append]

/-- The bits of a number are those of a list. -/
theorem map_bitAt_eq {v : Nat} {p : Nat → Bool} (h : ∀ k, v.testBit k = p k) (l : List Nat) : l.map (bitAt v) = l.map p :=
  List.map_congr_left fun k _ => (bitAt_eq_testBit v k).trans (h k)

end Sys2Proof.Machine
end

section
/-! PROOF. The four status commands, bit by bit (R499). -/

namespace Sys2Proof.Machine

/-! ### The bits of each status -/

/-- STATUS_TEMPERATURE's bits. -/
def State.temperatureBits (s : State) : List (Nat × Bool) :=
  [(7, s.stopq.exists_ && !s.stopq.cleared && (bitAt s.stopq.cause 2 || bitAt s.stopq.cause 3 || bitAt s.stopq.cause 4)),
    (6, wbit (s.readPub 0x1510) 1 || wbit (s.readPub 0x1510) 0)]

/-- STATUS_MFR_SPECIFIC's bits. -/
def State.mfrBits (s : State) : List (Nat × Bool) :=
  [(7, !(s.flt.st == .normal)), (6, s.stopped), (5, s.smb.restRej), (4, s.stopq.quiet.isSome || s.flt.quiet.isSome),
    (3, s.warden.mboxP.done), (1, s.smb.noClk), (0, s.stopq.thermTrip)]

/-- STATUS_WORD's bits from 15 down to 11. -/
def State.highBits (s : State) : List (Nat × Bool) :=
  [(15, s.isPending 14 || s.isPending 15 || s.isPending 19), (14, s.isPending 30), (13, s.isPending 33 || s.isPending 34 || s.isPending 29),
    (12, decide (s.statusMfr ≠ 0)), (11, !s.start.ready)]

/-- STATUS_BYTE's bits. -/
def State.byteBits (s : State) : List (Nat × Bool) :=
  [(7, s.warden.mboxP.busy || s.warden.mboxW.busy), (6, !s.start.ready), (4, s.isPending 30), (3, s.isPending 33),
    (2, decide (s.statusTemperature ≠ 0)), (1, decide (s.smb.cml ≠ 0)), (0, decide (s.statusHigh / 2 ^ 12 ≠ 0))]

theorem State.statusTemperature_eq (s : State) : s.statusTemperature = packN (bitFields s.temperatureBits) := rfl
theorem State.statusMfr_eq (s : State) : s.statusMfr = packN (bitFields s.mfrBits) := rfl
theorem State.statusByte_eq (s : State) : s.statusByte = packN (bitFields s.byteBits) := rfl

/-- STATUS_WORD has the bits of its two halves. -/
theorem State.statusWord_eq (s : State) : s.statusWord = packN (bitFields (s.highBits ++ s.byteBits)) := by
  rw [bitFields, List.map_append]
  exact packN_append _ _

/-- Bit 0 of STATUS_BYTE: one of the bits 15 to 12 of STATUS_WORD. -/
theorem State.statusHigh_none (s : State) : decide (s.statusHigh / 2 ^ 12 ≠ 0) =
    ((s.isPending 14 || s.isPending 15 || s.isPending 19) || s.isPending 30 ||
      (s.isPending 33 || s.isPending 34 || s.isPending 29) || decide (s.statusMfr ≠ 0)) := by
  have table : ∀ a b c d e : Bool,
      decide (packN (bitFields [(15, a), (14, b), (13, c), (12, d), (11, e)]) / 2 ^ 12 ≠ 0) = (a || b || c || d) := by decide
  exact table _ _ _ _ _

theorem State.statusTemperature_bits (s : State) :
    s.statusTemperature < 2 ^ 8 ∧ ∀ k, s.statusTemperature.testBit k = s.temperatureBits.any fun e => e.1 == k && e.2 := by
  rw [State.statusTemperature_eq]
  exact ⟨packN_bits_lt (by simp [State.temperatureBits]) (by simp [State.temperatureBits]), testBit_packN_bits (by simp [State.temperatureBits])⟩

theorem State.statusMfr_bits (s : State) :
    s.statusMfr < 2 ^ 8 ∧ ∀ k, s.statusMfr.testBit k = s.mfrBits.any fun e => e.1 == k && e.2 := by
  rw [State.statusMfr_eq]
  exact ⟨packN_bits_lt (by simp [State.mfrBits]) (by simp [State.mfrBits]), testBit_packN_bits (by simp [State.mfrBits])⟩

theorem State.statusWord_bits (s : State) :
    s.statusWord < 2 ^ 16 ∧ ∀ k, s.statusWord.testBit k = (s.highBits ++ s.byteBits).any fun e => e.1 == k && e.2 := by
  rw [State.statusWord_eq]
  exact ⟨packN_bits_lt (by simp [State.byteBits, State.highBits]) (by simp [State.byteBits, State.highBits]),
    testBit_packN_bits (by simp [State.byteBits, State.highBits])⟩

theorem State.statusByte_lt (s : State) : s.statusByte < 2 ^ 8 := by
  rw [State.statusByte_eq]
  exact packN_bits_lt (by simp [State.byteBits]) (by simp [State.byteBits])

/-- STATUS_WORD carries STATUS_BYTE below its own bits. -/
theorem State.statusWord_low (s : State) : s.statusWord % 2 ^ 8 = s.statusByte := by
  have high : s.statusHigh % 2 ^ 8 = 0 := by
    simp [State.statusHigh, packN, b2n]
    omega
  rw [State.statusWord, Nat.add_mod, high, Nat.zero_add, Nat.mod_mod, Nat.mod_eq_of_lt s.statusByte_lt]

/-! ### The commands -/

theorem byte_toNat {n : Nat} (h : n < 2 ^ 8) : (byte n).toNat = n := Nat.mod_eq_of_lt h

/-- Settles O31: each status is a number built of single bits, and each bit of it is the one listed. -/
theorem pmbusStatus : Obligations.PmbusStatus := by
  unfold Obligations.PmbusStatus
  refine ⟨fun s h => ?_, fun s h => ?_, fun s h => ?_, fun s h => ?_, fun s => ?_⟩
  case refine_1 =>
    obtain ⟨t, run, only⟩ := State.pmbus_reply (f := fun s => s.replyByte s.statusTemperature) [byte s.statusTemperature] h fun _ => rfl
    refine ⟨t, _, run, only, ?_⟩
    obtain ⟨small, bits⟩ := s.statusTemperature_bits
    rw [byte_toNat small, map_bitAt_eq bits]
    simp [State.temperatureBits, List.range_succ]
  case refine_2 =>
    obtain ⟨t, run, only⟩ := State.pmbus_reply (f := fun s => s.replyByte s.statusMfr) [byte s.statusMfr] h fun _ => rfl
    refine ⟨t, _, run, only, ?_⟩
    obtain ⟨small, bits⟩ := s.statusMfr_bits
    rw [byte_toNat small, map_bitAt_eq bits]
    simp [State.mfrBits, List.range_succ]
  case refine_3 =>
    obtain ⟨t, run, only⟩ := State.pmbus_reply (f := fun s => s.replyByte s.statusByte) [byte s.statusByte] h fun _ => rfl
    exact ⟨t, _, run, only, rfl, s.statusByte_lt⟩
  case refine_4 =>
    obtain ⟨t, run, only⟩ := State.pmbus_reply (f := fun s => s.replyWord s.statusWord) (natBytes 2 s.statusWord) h fun _ => rfl
    have two : natBytes 2 s.statusWord = [BitVec.ofNat 8 s.statusWord, BitVec.ofNat 8 (s.statusWord / 256)] := by
      simp [natBytes, List.range_succ]
    exact ⟨t, run, two ▸ only, s.statusWord_bits.1⟩
  case refine_5 =>
    refine ⟨?_, s.statusWord_low⟩
    rw [map_bitAt_eq s.statusWord_bits.2]
    simp only [State.byteBits, State.statusHigh_none]
    simp [State.highBits, List.range_succ, State.isPending]

end Sys2Proof.Machine
end

section
/-! PROOF. Readings, fault and start-up blocks over PMBus, and the LINEAR11 format (R498, R502). -/

namespace Sys2Proof.Machine

/-! ### LINEAR11 (R498) -/

/-- The exponent of a value is the first whose mantissa fits. -/
theorem linear11_of_first {x : Rat} {k : Nat} (h : k < 13) (fits : (linMant x (Int.ofNat k - 10)).natAbs ≤ 1023)
    (first : ∀ j, j < k → 1023 < (linMant x (Int.ofNat j - 10)).natAbs) :
    linear11 x = BitVec.ofNat 16 (toCode 5 (Int.ofNat k - 10) * 2 ^ 11 + toCode 11 (linMant x (Int.ofNat k - 10))) := by
  have found : ((List.range 13).filter fun j => decide ((linMant x (Int.ofNat j - 10)).natAbs ≤ 1023)).head? = some k := by
    rw [List.head?_filter, List.find?_range_eq_some]
    exact ⟨by simpa using fits, by simpa using h, fun j hj => by simpa using first j hj⟩
  have inside : clampI (-1023) 1023 (linMant x (Int.ofNat k - 10)) = linMant x (Int.ofNat k - 10) := by
    unfold clampI
    omega
  obtain ⟨rest, list⟩ := List.head?_eq_some_iff.1 found
  unfold linear11
  simp only [list, inside]

/-- The two fields of a LINEAR11 word. -/
theorem fld_linear11_word {a b : Nat} (ha : a < 2 ^ 5) (hb : b < 2 ^ 11) :
    fld (BitVec.setWidth 32 (BitVec.ofNat 16 (a * 2 ^ 11 + b))) 15 11 = a ∧
    fld (BitVec.setWidth 32 (BitVec.ofNat 16 (a * 2 ^ 11 + b))) 10 0 = b := by
  simp only [fld, bits, BitVec.toNat_setWidth, BitVec.toNat_ofNat]
  omega

theorem toCode_lt (n : Nat) (x : Int) : toCode n x < 2 ^ n := by
  have pos : (0 : Int) < (2 ^ n : Nat) := by exact_mod_cast Nat.two_pow_pos n
  have low := Int.emod_nonneg x (Int.ne_of_gt pos)
  have high := Int.emod_lt_of_pos x pos
  unfold toCode
  omega

/-! ### Readings (R498, R502) -/

/-- A chip reading on the chip page. -/
theorem State.pmbus_readChip {s : State} {f : State → Rat} {x : Rat} (h : s.smbAnswers = true) (p : s.pageDom = none)
    (same : ∀ c, f { s with clk := c } = x) :
    ∃ t, s.pmbus (fun s => s.readChip (f s)) = .next t ∧ s.SmbOnly t { s.smb with reply := natBytes 2 (linear11 x).toNat } := by
  refine State.pmbus_reply _ h fun c => ?_
  simp only [same, State.readChip, State.pageDom_clk, p, Option.isNone_none, if_true]
  rfl

/-- A chip reading on a domain's page is invalid data. -/
theorem State.pmbus_readChip_domain {s : State} (f : State → Rat) (h : s.smbAnswers = true) (p : s.pageDom ≠ none) :
    ∃ t, s.pmbus (fun s => s.readChip (f s)) = .next t ∧ s.SmbOnly t { s.smb with cml := orBit s.smb.cml 6, reply := [] } := by
  refine State.pmbus_writes _ h fun c => ?_
  have domain : s.pageDom.isNone = false := Option.isNone_eq_false_iff.2 (Option.isSome_iff_ne_none.2 p)
  simp only [State.readChip, State.pageDom_clk, domain, Bool.false_eq_true, if_false]
  rfl

/-- READ_IIN sums the four converters. -/
theorem State.linkCurrents (s : State) : sumN ((List.range 4).map fun k => fld (s.link k).vi 15 0) =
    fld (s.link 0).vi 15 0 + fld (s.link 1).vi 15 0 + fld (s.link 2).vi 15 0 + fld (s.link 3).vi 15 0 := by
  simp [sumN, List.range_succ]

/-- The wake of the warden clock does not look at the count of free values. -/
theorem State.wakeWarden_clk_freeCtr (s : State) (n : Nat) : ({ s with freeCtr := n } : State).wakeWarden.clk = s.wakeWarden.clk := by
  unfold State.wakeWarden
  dsimp only
  generalize s.start.step = step
  cases step <;> cases s.start.aon <;> rfl

/-- A transaction that draws a free value and otherwise writes the target's registers. -/
theorem State.pmbus_draws {s : State} {f : State → State} (m : Smb) (h : s.smbAnswers = true)
    (e : ∀ c, f { s with clk := c } = { s with clk := c, smb := m, freeCtr := s.freeCtr + 1 }) :
    ∃ t, s.pmbus f = .next t ∧ ({ s with freeCtr := s.freeCtr + 1 } : State).SmbOnly t m := by
  have run : s.pmbus f = settle s (f s.wakeWarden) := if_pos h
  rw [run, State.wakeWarden_only s, e]
  refine ⟨_, settle_kept rfl rfl, ?_⟩
  unfold State.SmbOnly
  rw [State.wakeWarden_clk_freeCtr s (s.freeCtr + 1)]
  rfl

/-- A domain without a valid diode answers a free word (notes/assumptions/4.md). -/
theorem execReadTemperature1_open {s : State} {d : Nat} (h : s.smbAnswers = true) (p : s.pageDom = some d) (n : s.hottest (domDiodes d) = none) :
    ∃ t w, execReadTemperature1 s = .next t ∧
      ({ s with freeCtr := s.freeCtr + 1 } : State).SmbOnly t { s.smb with reply := natBytes 2 w } := by
  obtain ⟨t, run, only⟩ : ∃ t, execReadTemperature1 s = .next t ∧ ({ s with freeCtr := s.freeCtr + 1 } : State).SmbOnly t
      { s.smb with reply := natBytes 2 ((Config.freeValue s.freeCtr).toNat % 65536) } :=
    State.pmbus_draws _ h fun c => by
      simp only [State.pageDom_clk, State.hottest_clk, p, n]
      rfl
  exact ⟨t, _, run, only⟩

/-- The words of UL_FLT_STAT, UL_FLT_INC and the pending sources do not look at the clocks. -/
theorem State.readReg_fault_clk (s : State) (c : Clk) :
    [0x1004, 0x1008, 0x100C, 0x1010].map ({ s with clk := c } : State).readReg = [0x1004, 0x1008, 0x100C, 0x1010].map s.readReg := by
  simp [State.readReg, State.faultRegs]

/-- Those of UL_START_STAT and UL_START_TIME look at the watch clock alone. -/
theorem State.readReg_start_clk (s : State) {c : Clk} (h : c.watch = s.clk.watch) :
    [0x280, 0x284].map ({ s with clk := c } : State).readReg = [0x280, 0x284].map s.readReg := by
  simp [State.readReg, State.startRegs, State.msLeft, h]

/-- A block of the words of some registers. -/
theorem State.pmbus_registers {s : State} {l : List Nat} (h : s.smbAnswers = true)
    (same : l.map ({ s with clk := s.wakeWarden.clk } : State).readReg = l.map s.readReg) :
    ∃ t, s.pmbus (fun s => s.replyBlock (wordsBytes (l.map s.readReg))) = .next t ∧
      s.SmbOnly t { s.smb with reply := byte (wordsBytes (l.map s.readReg)).length :: wordsBytes (l.map s.readReg) } := by
  refine State.pmbus_only _ h ?_
  rw [State.wakeWarden_only s, same]
  rfl

theorem wordsBytes_length (l : List Word) : (wordsBytes l).length = 4 * l.length := by
  induction l with
  | nil => rfl
  | cons w l ih =>
    rw [wordsBytes, List.flatMap_cons, List.length_append, ← wordsBytes, ih, List.length_cons, Nat.mul_succ, Nat.add_comm]
    rfl

/-- Settles O32: each command by its page, and the format by the first exponent that fits. -/
theorem pmbusReadings : Obligations.PmbusReadings := by
  unfold Obligations.PmbusReadings
  refine ⟨fun s h p c v hc => ?_, fun s d h p c v hc x hx => ?_, fun s d h p n => execReadTemperature1_open h p n, fun s d h p => ?_,
    fun s h c hc => ?_, fun s h => ?_, fun s h => ?_, fun x k h fits first => ?_⟩
  case refine_1 =>
    rcases hc with ⟨rfl, rfl⟩ | ⟨rfl, rfl⟩ | ⟨rfl, rfl⟩ | ⟨rfl, rfl⟩ | ⟨rfl, rfl⟩ | ⟨rfl, rfl⟩
    · exact State.pmbus_readChip (f := fun s => s.rings.pubVin / 1000) h p fun _ => rfl
    · exact State.pmbus_readChip (f := fun s => s.rings.pubPin / 1000) h p fun _ => rfl
    · show ∃ t, execReadIout s = .next t ∧ _
      exact State.pmbus_reply _ h fun c => by simp only [State.pageDom_clk, p]; rfl
    · show ∃ t, execReadPout s = .next t ∧ _
      exact State.pmbus_reply _ h fun c => by simp only [State.pageDom_clk, p]; rfl
    · show ∃ t, execReadTemperature1 s = .next t ∧ _
      exact State.pmbus_reply _ h fun c => by simp only [State.pageDom_clk, p]; rfl
    · rw [← State.linkCurrents]
      exact State.pmbus_readChip (f := fun s => (sumN ((List.range 4).map fun k => fld (s.link k).vi 15 0) : Rat) / 100) h p fun _ => rfl
  case refine_2 =>
    subst hx
    rcases hc with ⟨rfl, v⟩ | ⟨rfl, v⟩ | ⟨rfl, v⟩
    · obtain rfl := Option.some.inj v
      show ∃ t, execReadIout s = .next t ∧ _
      exact State.pmbus_reply _ h fun c => by simp only [State.pageDom_clk, p]; rfl
    · obtain rfl := Option.some.inj v
      show ∃ t, execReadPout s = .next t ∧ _
      exact State.pmbus_reply _ h fun c => by simp only [State.pageDom_clk, p]; rfl
    · show ∃ t, execReadTemperature1 s = .next t ∧ _
      exact State.pmbus_reply _ h fun c => by simp only [State.pageDom_clk, State.hottest_clk, p, ← v]; rfl
  case refine_3 =>
    show ∃ t, execReadVout s = .next t ∧ _
    exact State.pmbus_reply _ h fun c => by simp only [State.pageDom_clk, p]; rfl
  case refine_4 =>
    rcases hc with ⟨p, rfl⟩ | ⟨p, rfl | rfl | rfl⟩
    · show ∃ t, execReadVout s = .next t ∧ _
      exact State.pmbus_writes _ h fun c => by simp only [State.pageDom_clk, p]; rfl
    · exact State.pmbus_readChip_domain (fun s => s.rings.pubVin / 1000) h p
    · exact State.pmbus_readChip_domain (fun s => (sumN ((List.range 4).map fun k => fld (s.link k).vi 15 0) : Rat) / 100) h p
    · exact State.pmbus_readChip_domain (fun s => s.rings.pubPin / 1000) h p
  case refine_5 =>
    have block := State.pmbus_registers h (s.readReg_fault_clk _)
    rwa [wordsBytes_length] at block
  case refine_6 =>
    have block := State.pmbus_registers h (s.readReg_start_clk s.wakeWarden_watch)
    rwa [wordsBytes_length] at block
  case refine_7 =>
    obtain ⟨exponent, mantissa⟩ := fld_linear11_word (toCode_lt 5 (Int.ofNat k - 10)) (toCode_lt 11 (linMant x (Int.ofNat k - 10)))
    rw [linear11_of_first h fits first]
    exact ⟨exponent, mantissa⟩

end Sys2Proof.Machine
end

section
/-! PROOF. Restart, the ERR_N hold, vault reads, the mailbox channel and register reads over PMBus (R361, R411, R451, R498, R500). -/

namespace Sys2Proof.Machine

/-! ### Restart (R361, R500) -/

/-- Once its PEC is right and its data is 0xA5, R361 decides MFR_RESTART. -/
theorem execMfrRestart_checked {s : State} : execMfrRestart .good 0xA5 s =
    s.pmbus fun s => if s.restartOk then s.restart else { s with smb := { s.smb with restRej := true } } := by
  simp [execMfrRestart]

/-- A restart accepted (R361): CLEARED is written, THERMTRIP_N is released, and the stagger runs, or waits for PWR_OK. -/
theorem execMfrRestart_accepted {s : State} (h : s.smbAnswers = true) (ok : s.restartOk = true) :
    ∃ t, execMfrRestart .good 0xA5 s = .next t ∧ t.stopq.cleared = true ∧ t.stopq.thermTrip = false ∧ t.stopq.quietOk = false ∧
      t.start.restartWait = true ∧ t.start.step = (if s.start.pwrOk = true then .stagger else .waitPwr) ∧
      t.smb.restRej = s.smb.restRej ∧ t.warden.vault = (s.vaultPutWords (stopRecAddr s.stopq.slot + 0x44) [1]).warden.vault := by
  have run : execMfrRestart .good 0xA5 s = s.pmbus State.restart := by
    rw [execMfrRestart_checked]
    exact State.pmbus_congr fun _ => if_pos ok
  exact ⟨_, run.trans (State.pmbus_runs (f := State.restart) h (fun _ => rfl) fun _ => rfl), rfl, rfl, rfl, rfl, rfl, rfl, rfl⟩

/-! ### The ERR_N hold (R411) -/

/-- A write of ERRN_HOLD changes the hold and ERR_N, which stays low while it is low and held. -/
theorem State.setErrnHold_level (s : State) (b : Bool) : ∃ w, wbit w 31 = b ∧
    s.setErrnHold b = { s with flt := { s.flt with ctrl := w, errn := s.flt.errnPulse || s.flt.errnStop || (s.flt.errn && b) } } := by
  have bit : wbit (putFld s.flt.ctrl 31 31 (b2n b)) 31 = b := (wbit_putFld _ 31 _ (by decide)).trans (b2n_odd b)
  have settled : ∀ w, wbit w 31 = b → State.errnSettle { s with flt := { s.flt with ctrl := w } } =
      { s with flt := { s.flt with ctrl := w, errn := s.flt.errnPulse || s.flt.errnStop || (s.flt.errn && b) } } := by
    rintro w rfl
    rfl
  exact ⟨_, bit, settled _ bit⟩

theorem execMfrErrn_write {s : State} (v : Byte) (h : s.smbAnswers = true) :
    ∃ t, execMfrErrn .good (some v) s = .next t ∧ t.errnHold = (v.toNat % 2 == 1) ∧
      t.flt.errn = (s.flt.errnPulse || s.flt.errnStop || (s.flt.errn && (v.toNat % 2 == 1))) ∧
      t.cells = s.cells ∧ t.doms = s.doms ∧ t.warden = s.warden := by
  have run : execMfrErrn .good (some v) s = s.pmbus fun s => s.setErrnHold (v.toNat % 2 == 1) := by
    simp [execMfrErrn, State.pmWrite]
  have begun : execMfrErrn .good (some v) s = settle s (s.wakeWarden.setErrnHold (v.toNat % 2 == 1)) := run.trans (if_pos h)
  obtain ⟨w, bit, held⟩ := State.setErrnHold_level { s with clk := s.wakeWarden.clk } (v.toNat % 2 == 1)
  rw [begun, State.wakeWarden_only s, held]
  exact ⟨_, settle_quiet rfl rfl, bit, rfl, rfl, rfl, rfl⟩

/-- A flag at a place of its own. -/
theorem mul_b2n (n : Nat) (b : Bool) : n * b2n b = if b = true then n else 0 := by cases b <;> simp [b2n]

theorem b2n_wbit (w : Word) (i : Nat) : b2n (wbit w i) = fld w i i := by
  have two := Nat.mod_lt (w.toNat / 2 ^ i) (show 0 < 2 by decide)
  simp only [b2n, wbit, bitAt, fld, bits, Nat.add_sub_cancel_left, Nat.pow_one, beq_iff_eq]
  split <;> omega

/-! ### Vault reads (R498) -/

/-- A block that ends within the vault draws no free value. -/
theorem State.vaultBlock_within {s : State} (k : s.smb.vaultAddr + 32 ≤ 0x40000) :
    s.vaultBlock = (Memory.readBytes s.warden.vault s.smb.vaultAddr 32, s) := by
  have whole : min 32 (0x40000 - s.smb.vaultAddr) = 32 := by omega
  have len : (Memory.readBytes s.warden.vault s.smb.vaultAddr 32).length = 32 := by simp [Memory.readBytes]
  unfold State.vaultBlock
  simp only [whole, k, if_true, State.vaultBytes, List.take_left' len]

/-! ### The mailbox channel (R451) -/

/-- Four arguments, and sixteen words of data where there are any. -/
theorem mboxForm_ok {args : List Word} {data : Option (List Word)} (a : args.length = 4) (d : ∀ l, data = some l → l.length = 16) :
    ¬ (args.length ≠ 4 ∨ (data.isSome ∧ (data.getD []).length ≠ 16)) := by
  cases data with
  | none => simp [a]
  | some l => simp [a, d l rfl]

/-- The channel takes a command whose row carries the outside part: it is busy with the operation and its tag. -/
def State.mboxTakes (s : State) (op tag : BitVec 8) (args words : List Word) : State :=
  s.updMbox .pmbus fun m => { m with
    op := op.toNat
    cmdTag := tag.toNat
    args := asTab args
    data := if words.isEmpty then m.data else asTab words
    busy := true
    tag := tag.toNat }

section
variable {s : State} {pec : Pec} {op tag : BitVec 8} {args : List Word} {data : Option (List Word)}

/-- While PMB_MBOX_EN is 0 the code is not listed (R540). -/
theorem execMfrMboxCmd_disabled (h : s.smbAnswers = true) (p : pec ≠ .bad) (en : wbit s.win.gctrl 0 = false) :
    ∃ t, execMfrMboxCmd pec op tag args data s = .next t ∧ s.SmbOnly t { s.smb with cml := orBit s.smb.cml 7 } := by
  refine State.pmWrite_writes _ h p fun c => ?_
  simp only [State.pmbMbox, en, Bool.not_false, if_true]
  rfl

/-- A busy channel ignores a command (R451). -/
theorem execMfrMboxCmd_busy (h : s.smbAnswers = true) (p : pec ≠ .bad) (en : wbit s.win.gctrl 0 = true) (a : args.length = 4)
    (d : ∀ l, data = some l → l.length = 16) (busy : s.warden.mboxP.busy = true) :
    ∃ t, execMfrMboxCmd pec op tag args data s = .next t ∧ s.SmbOnly t s.smb := by
  refine State.pmWrite_writes _ h p fun c => ?_
  simp only [State.pmbMbox, en, Bool.not_true, Bool.false_eq_true, if_false, if_neg (mboxForm_ok a d), busy, if_true]

/-- PATCH_COMMIT and POL_LOAD wait for their rows, which carry the whole command (notes/assumptions/27.md). -/
theorem execMfrMboxCmd_waits (h : s.smbAnswers = true) (p : pec ≠ .bad) (en : wbit s.win.gctrl 0 = true) (a : args.length = 4)
    (d : ∀ l, data = some l → l.length = 16) (free : s.warden.mboxP.busy = false) (o : op = 4 ∨ op = 9) :
    ∃ t, execMfrMboxCmd pec op tag args data s = .next t ∧ s.SmbOnly { t with warden := s.warden } s.smb ∧
      t.warden.mboxP.busy = true ∧ t.warden.mboxP.op = op.toNat ∧ t.warden.mboxP.cmdTag = tag.toNat ∧ t.warden.mboxP.tag = tag.toNat ∧
      t.warden.mboxP.args = asTab args := by
  have run : execMfrMboxCmd pec op tag args data s = s.pmbus fun s => s.mboxTakes op tag args (data.getD []) := by
    rw [execMfrMboxCmd, State.pmWrite_eq _ p]
    refine State.pmbus_congr fun c => ?_
    simp only [State.pmbMbox, en, Bool.not_true, Bool.false_eq_true, if_false, if_neg (mboxForm_ok a d), free, if_pos o]
    rfl
  exact ⟨_, run.trans (State.pmbus_runs h (fun _ => rfl) fun _ => rfl), rfl, rfl, rfl, rfl, rfl, rfl⟩

end

/-! ### Register reads (R498, R540) -/

/-- Whether a register is reachable does not change with the warden clock. -/
theorem State.wakeWarden_regServed (s : State) (off : Nat) : s.wakeWarden.regServed off = s.regServed off := by
  obtain ⟨b, clock⟩ := s.wakeWarden_clk_only
  rw [State.wakeWarden_only s, clock]
  rfl

section
variable {s : State} (h : s.smbAnswers = true) (en : wbit s.win.gctrl 1 = true)
include h en

/-- A register of no range that is served. -/
theorem execMfrRegData_unserved (r : s.regServed s.smb.regAddr = none) :
    ∃ t, execMfrRegData s = .next t ∧ s.SmbOnly t { s.smb with cml := orBit s.smb.cml 6, reply := [] } := by
  refine State.pmbus_only _ h ?_
  simp [State.wakeWarden_regServed, State.pmbReg, en, r, State.badData, State.cml, State.smbReply]

/-- A register that is reachable: its word, or 0 where none is assigned. -/
theorem execMfrRegData_reachable (r : s.regServed s.smb.regAddr = some true) :
    ∃ t, execMfrRegData s = .next t ∧ s.SmbOnly t { s.smb with
      reply := 4 :: wordBytes (if assigned s.smb.regAddr = true then s.wakeWarden.readReg s.smb.regAddr else 0) } := by
  refine State.pmbus_only _ h ?_
  simp [State.wakeWarden_regServed, State.pmbReg, en, r, State.replyBlock, State.smbReply, wordBytes, byte]

/-- A register that is not reachable: all ones, and NOCLK. -/
theorem execMfrRegData_unreachable (r : s.regServed s.smb.regAddr = some false) :
    ∃ t, execMfrRegData s = .next t ∧ s.SmbOnly t { s.smb with noClk := true, reply := [4, 0xFF, 0xFF, 0xFF, 0xFF] } := by
  refine State.pmbus_only _ h ?_
  simp [State.wakeWarden_regServed, State.pmbReg, en, r, State.replyBlock, State.smbReply, wordBytes, byte, List.range_succ]

end

/-- Settles O33: each command by what it does to the warden, the fault logic and the target's registers. -/
theorem pmbusRestartVaultMailbox : Obligations.PmbusRestartVaultMailbox := by
  unfold Obligations.PmbusRestartVaultMailbox
  refine ⟨fun s pec data h _ ok r => ?_, fun s pec data h _ ok r => ?_, fun s pec data h p bad => ?_, fun s pec h => ?_,
    fun s v h => execMfrErrn_write v h, fun s h k => ?_, fun s pec op tag args data h p en => execMfrMboxCmd_disabled h p en,
    fun s pec op tag args data h p en a d busy => execMfrMboxCmd_busy h p en a d busy,
    fun s pec op tag args data h p en a d free o => execMfrMboxCmd_waits h p en a d free o, fun s h => ?_,
    fun s h en => ?_, fun s off => rfl⟩
  case refine_1 =>
    obtain ⟨rfl, rfl⟩ := ok
    exact execMfrRestart_accepted h r
  case refine_2 =>
    obtain ⟨rfl, rfl⟩ := ok
    show ∃ t, execMfrRestart .good 0xA5 s = .next t ∧ _
    rw [execMfrRestart_checked]
    exact State.pmbus_writes _ h fun _ => if_neg (Bool.eq_false_iff.1 r)
  case refine_3 =>
    show ∃ t, execMfrRestart pec data s = .next t ∧ _
    exact State.pmbus_cml 6 h fun c => (if_neg p).trans (if_pos bad)
  case refine_4 =>
    rw [← mul_b2n, ← b2n_wbit]
    show ∃ t, s.pmbus (fun s => s.replyByte (b2n s.errnHold + 2 * b2n s.flt.errn)) = .next t ∧ _
    exact State.pmbus_reply _ h fun _ => rfl
  case refine_5 =>
    show ∃ t, execMfrVaultData s = .next t ∧ _
    refine State.pmbus_writes _ h fun c => ?_
    rw [State.vaultBlock_within (s := { s with clk := c }) k]
    simp [State.replyBlock, State.smbReply, Memory.readBytes, byte]
  case refine_6 =>
    rw [← mul_b2n, ← mul_b2n]
    show ∃ t, execMfrMboxStat s = .next t ∧ _
    exact State.pmbus_reply _ h fun _ => rfl
  case refine_7 =>
    cases r : s.regServed s.smb.regAddr with
    | none => exact execMfrRegData_unserved h en r
    | some up =>
      cases up with
      | true => exact execMfrRegData_reachable h en r
      | false => exact execMfrRegData_unreachable h en r

end Sys2Proof.Machine
end

section
/-! PROOF. The AVSBus links: the trim target, reads, failures and retries (R502, R504, R505, R508). -/

namespace Sys2Proof.Machine

/-! ### One link -/

@[simp] theorem State.updLink_link (s : State) (k j : Nat) (f : AvsLink → AvsLink) :
    (s.updLink k f).link j = if j = k then f (s.link k) else s.link j := by
  simp only [State.link, State.updLink, Tab.get_modify]

/-- What a transaction issued adds to its link's list. -/
@[simp] theorem State.avsIssue_link (s : State) (k j : Nat) (op : AvsOp) (write : Bool) :
    (s.avsIssue k op write).link j = if j = k then { s.link k with
      ops := if write then (s.link k).ops.take 1 ++ [op] ++ (s.link k).ops.drop 1 else (s.link k).ops ++ [op] } else s.link j :=
  State.updLink_link (s.avsSent k op) k j _

/-- A state that differs from another in the AVSBus masters alone. -/
def State.WithinAvs (s t : State) : Prop := ∃ v, t = { s with avs := v }

theorem State.WithinAvs.updLink {s t : State} (h : s.WithinAvs t) (k : Nat) (f : AvsLink → AvsLink) : s.WithinAvs (t.updLink k f) := by
  obtain ⟨v, rfl⟩ := h
  exact ⟨_, rfl⟩

theorem State.WithinAvs.avsIssue {s t : State} (h : s.WithinAvs t) (k : Nat) (op : AvsOp) (write : Bool) :
    s.WithinAvs (t.avsIssue k op write) := by
  obtain ⟨v, rfl⟩ := h
  exact .updLink ⟨_, rfl⟩ k _

/-! ### The trim target (R502, R504) -/

/-- The target in force and its writes, the state that TRIM_WRITE leaves before its end. -/
def State.avsTrimAll (s : State) : State :=
  ({ s with avs := { s.avs with trim := s.avsTarget } }).forEach (List.range 4) fun x k => x.avsIssue k (.writeTrim s.avsTarget) true

theorem State.avsTrimAll_only (s : State) : s.avsTrimAll = { s with avs := s.avsTrimAll.avs } := by
  obtain ⟨v, e⟩ := forEach_within (fun t v => { t with avs := v }) (fun _ _ _ => rfl) (fun t => ⟨t.avs, rfl⟩)
    (fun x k => x.avsIssue k (.writeTrim s.avsTarget) true) (List.range 4) (fun _ _ => ⟨_, rfl⟩)
    { s with avs := { s.avs with trim := s.avsTarget } }
  have all : s.avsTrimAll = { s with avs := v } := e
  rw [all]

theorem State.avsTrimAll_trim (s : State) : s.avsTrimAll.avs.trim = s.avsTarget :=
  forEach_same (fun x => x.avs.trim) (fun x k => x.avsIssue k (.writeTrim s.avsTarget) true) _ (fun _ _ _ => rfl) _

theorem State.avsTrimAll_sent (s : State) :
    s.avsTrimAll.avs.sent = ([3, 2, 1, 0].map fun k => (k, AvsOp.writeTrim s.avsTarget)) ++ s.avs.sent := rfl

/-- The write goes ahead of the reads of its link that have not begun. -/
theorem State.avsTrimAll_ops (s : State) {k : Nat} (h : k < 4) :
    (s.avsTrimAll.link k).ops = (s.link k).ops.take 1 ++ [AvsOp.writeTrim s.avsTarget] ++ (s.link k).ops.drop 1 :=
  congrArg AvsLink.ops (forEach_at_mem State.link (fun x a => x.avsIssue a (.writeTrim s.avsTarget) true)
    (fun _ l => { l with ops := l.ops.take 1 ++ [.writeTrim s.avsTarget] ++ l.ops.drop 1 })
    (fun x a b n => by simp [n]) (fun x a => by simp) (List.range 4) _ k List.nodup_range (by simpa using h))

/-- A changed target is written on all four links. -/
theorem execAvsTrimWrite_sends {s : State} (h : s.traysUp = true) :
    ∃ t, execAvsTrimWrite s = .next t ∧ t = { s with avs := t.avs, smb := t.smb } ∧
    t.avs.trim = min 1860 (fld s.avs.ctrl 27 16 + if s.avs.boost = true then fld s.ledger.hintCfg 31 26 else 0) ∧
    t.avs.sent = ([3, 2, 1, 0].map fun k => (k, AvsOp.writeTrim t.avs.trim)) ++ s.avs.sent ∧
    (∀ k, k < 4 → (t.link k).ops = (s.link k).ops.take 1 ++ [AvsOp.writeTrim t.avs.trim] ++ (s.link k).ops.drop 1) := by
  have run : execAvsTrimWrite s = settle s s.avsTrimAll := if_pos h
  have only := s.avsTrimAll_only
  have trim := s.avsTrimAll_trim
  have sent := s.avsTrimAll_sent
  have ops := fun k (hk : k < 4) => s.avsTrimAll_ops hk
  rw [← trim] at sent ops
  refine ⟨_, run.trans (settle_kept (by rw [only]) (by rw [only])), ?_, trim, sent, ops⟩
  rw [only]
  rfl

/-! ### Reads (R502, R505) -/

/-- A good response of a read whose reading g enters into its link. -/
def State.avsRead (s : State) (k : Nat) (op : AvsOp) (alert : Bool) (g : AvsLink → AvsLink) : State := (s.avsResponse k op alert).updLink k g

theorem State.avsRead_only (s : State) (k : Nat) (op : AvsOp) (alert : Bool) (g : AvsLink → AvsLink) :
    s.WithinAvs (s.avsRead k op alert g) := by
  have noted : s.WithinAvs (s.updLink k fun l => { l with ops := opsAfter op l.ops, fails := 0, alert := alert }) :=
    .updLink ⟨s.avs, rfl⟩ k _
  unfold State.avsRead State.avsResponse
  split
  · exact (noted.avsIssue k .readStatus false).updLink k g
  · exact noted.updLink k g

/-- The transaction ends with its failures, StatusAlert is noted, and where it is set a status read follows. -/
theorem State.avsRead_own (s : State) (k : Nat) (op : AvsOp) (alert : Bool) (g : AvsLink → AvsLink) :
    (s.avsRead k op alert g).link k = g { (s.link k) with
      fails := 0, alert := alert
      ops := opsAfter op (s.link k).ops ++ if alert = true then [AvsOp.readStatus] else [] } := by
  cases alert <;> simp [State.avsRead, State.avsResponse]

theorem State.avsRead_others (s : State) {k j : Nat} (op : AvsOp) (alert : Bool) (g : AvsLink → AvsLink) (n : j ≠ k) :
    (s.avsRead k op alert g).link j = s.link j := by
  cases alert <;> simp [State.avsRead, State.avsResponse, n]

theorem State.avsRead_sent (s : State) (k : Nat) (op : AvsOp) (alert : Bool) (g : AvsLink → AvsLink) :
    (s.avsRead k op alert g).avs.sent = (if alert = true then [(k, AvsOp.readStatus)] else []) ++ s.avs.sent := by
  cases alert <;> simp [State.avsRead, State.avsResponse, State.avsIssue, State.avsSent, State.updLink]

/-- The end of a read, and of a reading that enters the k_in update. -/
theorem settle_avsRead {s : State} (k : Nat) (op : AvsOp) (alert : Bool) (g : AvsLink → AvsLink) (lim : Limits) :
    ∃ t, settle s { s.avsRead k op alert g with limits := lim } = .next t ∧
      t = { s with avs := t.avs, limits := t.limits, smb := t.smb } ∧
      t.link k = g { (s.link k) with
        fails := 0, alert := alert
        ops := opsAfter op (s.link k).ops ++ if alert = true then [AvsOp.readStatus] else [] } ∧
      (∀ j, j ≠ k → t.link j = s.link j) ∧
      t.avs.sent = (if alert = true then [(k, AvsOp.readStatus)] else []) ++ s.avs.sent ∧ t.limits = lim := by
  have own := s.avsRead_own k op alert g
  have others := fun j (n : j ≠ k) => s.avsRead_others op alert g n
  have sent := s.avsRead_sent k op alert g
  obtain ⟨v, only⟩ := s.avsRead_only k op alert g
  rw [only] at own others sent ⊢
  exact ⟨_, settle_kept rfl rfl, rfl, own, others, sent, rfl⟩

/-- No read changes the limits by itself. -/
theorem State.avsRead_limits (s : State) (k : Nat) (op : AvsOp) (alert : Bool) (g : AvsLink → AvsLink) :
    (s.avsRead k op alert g).limits = s.limits ∧ s.avsRead k op alert g = { s.avsRead k op alert g with limits := s.limits } := by
  obtain ⟨v, only⟩ := s.avsRead_only k op alert g
  rw [only]
  exact ⟨rfl, rfl⟩

/-- The reading of a converter's current. -/
def AvsLink.putCur (w : BitVec 16) (l : AvsLink) : AvsLink := { l with vi := putFld l.vi 15 0 w.toNat }

/-- The converter's current also enters the k_in update. -/
theorem execAvsCurrentRead_enters {s : State} (k : ConvIx) (w : BitVec 16) (alert : Bool) (h : s.traysUp = true) :
    execAvsCurrentRead k w alert s = settle s { s.avsRead k .readCur alert (AvsLink.putCur w) with
      limits := { s.limits with ioutRd := s.limits.ioutRd.set k w.toNat } } := by
  rw [← (s.avsRead_limits k .readCur alert (AvsLink.putCur w)).1]
  exact if_pos h

/-! ### Failures and retries (R505, R508) -/

/-- The first two failures of a transaction are only counted. -/
theorem execAvsTransactionFail_counts {s : State} (k : ConvIx) (h : s.traysUp = true) (n : (s.link k).fails < 2) :
    ∃ t, execAvsTransactionFail k s = .next t ∧ t = { s with avs := t.avs, smb := t.smb } ∧
      t.link k = { (s.link k) with fails := (s.link k).fails + 1 } ∧ (∀ j, j ≠ k.val → t.link j = s.link j) := by
  have run : execAvsTransactionFail k s = settle s (s.updLink k fun l => { l with fails := l.fails + 1 }) := by
    simp [execAvsTransactionFail, h, n]
  refine ⟨_, run.trans (settle_kept rfl rfl), rfl, ?_, fun j m => ?_⟩
  · exact (State.updLink_link s k k _).trans (if_pos rfl)
  · exact (State.updLink_link s k j _).trans (if_neg m)

/-- The third failure ends the transaction and sets ERR. -/
def AvsLink.givenUp (l : AvsLink) : AvsLink := { l with ops := l.ops.drop 1, fails := 0, err := true }

/-- What the third failure leaves of the link and of the k_in update. -/
def State.avsGivesUp (s : State) (k : Nat) : State :=
  let s1 := s.updLink k AvsLink.givenUp
  if (s.link k).ops.head? = some .readCur then { s1 with limits := { s1.limits with kBad := true } } else s1

theorem execAvsTransactionFail_raises {s : State} (k : ConvIx) (h : s.traysUp = true) (n : 2 ≤ (s.link k).fails) :
    execAvsTransactionFail k s = settle s ((s.avsGivesUp k).raise 34 k) :=
  (if_pos h).trans (if_neg (Nat.not_lt.2 n))

theorem State.avsGivesUp_keeps (s : State) (k : Nat) :
    s.avsGivesUp k = { s with avs := (s.avsGivesUp k).avs, limits := (s.avsGivesUp k).limits } ∧
    (s.avsGivesUp k).link k = (s.link k).givenUp ∧ (∀ j, j ≠ k → (s.avsGivesUp k).link j = s.link j) ∧
    (s.avsGivesUp k).limits = (if (s.link k).ops.head? = some .readCur then { s.limits with kBad := true } else s.limits) := by
  have own := State.updLink_link s k k AvsLink.givenUp
  have others := fun j (n : j ≠ k) => (State.updLink_link s k j AvsLink.givenUp).trans (if_neg n)
  rw [if_pos rfl] at own
  unfold State.avsGivesUp
  split
  · exact ⟨rfl, own, others, rfl⟩
  · exact ⟨rfl, own, others, rfl⟩

/-- A retry sends the failed transaction again and counts. -/
theorem execAvsRetry_sends {s : State} (k : ConvIx) (h : s.traysUp = true) (n : 0 < (s.link k).fails) :
    ∃ t, execAvsRetry k s = .next t ∧ t = { s with avs := t.avs, smb := t.smb } ∧
      t.avs.retry = (if s.avs.retry < 255 then s.avs.retry + 1 else 255) ∧ t.avs.links = s.avs.links ∧
      t.avs.sent = ((s.link k).ops.head?.toList.map fun op => (k.val, op)) ++ s.avs.sent := by
  simp only [execAvsRetry, h, n, decide_true, Bool.and_self, if_true]
  cases (s.link k).ops.head? with
  | none => exact ⟨_, settle_kept rfl rfl, rfl, rfl, rfl, rfl⟩
  | some op => exact ⟨_, settle_kept rfl rfl, rfl, rfl, rfl, rfl⟩

/-- Settles O34: the trim target, one read for all four kinds, and the failures by their count. -/
theorem avsLinks : Obligations.AvsLinks := by
  unfold Obligations.AvsLinks
  refine ⟨fun s h => execAvsTrimWrite_sends h, fun s k w alert h c op vi ts hc => ?_,
    fun s k h n => execAvsTransactionFail_counts k h n, fun s k h n => ?_, fun s k h n => execAvsRetry_sends k h n⟩
  case refine_1 =>
    rcases hc with ⟨rfl, rfl, rfl, rfl⟩ | ⟨rfl, rfl, rfl, rfl⟩ | ⟨rfl, rfl, rfl, rfl⟩ | ⟨rfl, rfl, rfl, rfl⟩
    · show ∃ t, execAvsVoltageRead k w alert s = .next t ∧ _
      rw [execAvsVoltageRead, if_pos h, ← State.avsRead, (s.avsRead_limits _ _ _ _).2]
      exact settle_avsRead k .readVolt alert _ s.limits
    · show ∃ t, execAvsCurrentRead k w alert s = .next t ∧ _
      rw [execAvsCurrentRead_enters k w alert h]
      exact settle_avsRead k .readCur alert (AvsLink.putCur w) _
    · show ∃ t, execAvsTempRead k w alert s = .next t ∧ _
      rw [execAvsTempRead, if_pos h, ← State.avsRead, (s.avsRead_limits _ _ _ _).2]
      exact settle_avsRead k .readTemp alert _ s.limits
    · show ∃ t, execAvsStatusRead k w alert s = .next t ∧ _
      rw [execAvsStatusRead, if_pos h, ← State.avsRead, (s.avsRead_limits _ _ _ _).2]
      exact settle_avsRead k .readStatus alert _ s.limits
  case refine_2 =>
    obtain ⟨only, own, others, limits⟩ := s.avsGivesUp_keeps k
    exact ⟨_, _, execAvsTransactionFail_raises k h n, rfl, only, own, others, limits⟩

end Sys2Proof.Machine
end

section
/-! PROOF. The scratch register of the window (R541). -/

namespace Sys2Proof.Machine

/-- UL_SCRATCH reads the word it holds. -/
theorem State.readReg_scratch (s : State) : s.readReg 0x14 = s.win.scratch := rfl

/-- A write of it stores the word, and ends with the check of ALERT_N alone. -/
theorem exec_registerWrite_scratch {s : State} (h : s.WindowReady) (v : Word) :
    exec (.registerWrite 0x14 v) s = .next { s with win := { s.win with scratch := v } }.alertUpdate := by
  have written : s.hostWriteReg 0x14 v = { s with win := { s.win with scratch := v } } := State.hostWriteReg_now h 0x14 v rfl
  have run : exec (.registerWrite 0x14 v) s = settle s (s.hostWriteReg 0x14 v) := rfl
  rw [run, written]
  exact settle_kept rfl rfl

/-- Settles O48: the one write that UL_SCRATCH takes, read back through its own register. -/
theorem scratchStoresOnly : Obligations.ScratchStoresOnly := by
  unfold Obligations.ScratchStoresOnly
  exact ⟨State.readReg_scratch _, fun s v h => ⟨_, exec_registerWrite_scratch h v, State.readReg_scratch _, rfl⟩⟩

end Sys2Proof.Machine
end

section
/-! PROOF. The identification register of the test access port (R547, R549). -/

namespace Sys2Proof.Machine

/-- The register as one number: each part fits its field. -/
theorem State.idReg_eq (s : State) :
    s.idReg = s.otp.sirev.toNat * 2 ^ 28 + 0x4E02 * 2 ^ 12 + s.otp.jedec.toNat * 2 ^ 1 + 1 := by
  have fields : s.idReg = 0 + fieldVal (31, 28, s.otp.sirev.toNat) + fieldVal (27, 12, 0x4E02) + fieldVal (11, 1, s.otp.jedec.toNat) +
      fieldVal (0, 0, 1) := rfl
  rw [fields, fieldVal_fits s.otp.sirev.isLt, fieldVal_fits (by decide), fieldVal_fits s.otp.jedec.isLt, fieldVal_fits (by decide)]
  omega

/-- It is 32 bits long and reads by its fields (R549). -/
theorem State.idReg_fields (s : State) :
    s.idReg < 2 ^ 32 ∧ bits s.idReg 31 28 = s.otp.sirev.toNat ∧ bits s.idReg 27 12 = 0x4E02 ∧ bits s.idReg 11 1 = s.otp.jedec.toNat ∧
    bits s.idReg 0 0 = 1 := by
  have revision : s.otp.sirev.toNat < 2 ^ 4 := s.otp.sirev.isLt
  have maker : s.otp.jedec.toNat < 2 ^ 11 := s.otp.jedec.isLt
  simp only [bits, s.idReg_eq]
  omega

/-- With the pins not held, another instruction changes the test port alone: start-up was not waiting for it (R551). -/
theorem State.tapSelect_free {s : State} (h : s.tapHeld = false) (ir : TapIr) (dr : Nat) :
    s.tapSelect ir dr = { s with tap := { s.tap with ir := ir, dr := dr } } := by
  simp [State.tapSelect, h]

/-- IDCODE, and Test-Logic-Reset alike, put the identification register behind the port. -/
theorem settle_tapIdcode {s : State} (h : s.tapHeld = false) :
    settle s (s.tapSelect .idcode s.idReg) = .next { s with tap := { s.tap with ir := .idcode, dr := s.idReg } }.alertUpdate :=
  (congrArg (settle s) (State.tapSelect_free h .idcode s.idReg)).trans (settle_kept rfl rfl)

/-- Settles O49: both commands select the one register, whose fields R549 gives. -/
theorem identificationRegister : Obligations.IdentificationRegister := by
  unfold Obligations.IdentificationRegister
  intro s powered free
  have idcode : exec .idcode s = settle s (s.tapSelect .idcode s.idReg) := if_pos powered
  have reset : exec .tapReset s = settle s (s.tapSelect .idcode s.idReg) := if_pos powered
  exact ⟨_, _, idcode.trans (settle_tapIdcode free), reset.trans (settle_tapIdcode free), rfl, rfl, s.idReg_fields⟩

end Sys2Proof.Machine
end

section
/-! PROOF. A step with a command waiting (log entry 9). -/

namespace Sys2Proof.Machine

/-- Settles O1: a step chooses by the queue alone, and a queue with a front takes the branch that runs it. -/
theorem stepRunsFrontCommand : Obligations.StepRunsFrontCommand := by
  unfold Obligations.StepRunsFrontCommand
  intro c rest s front
  rw [step, front]

end Sys2Proof.Machine
end
